-- ==== Sys2Proof/Word.lean ====
section
/-!
DEFINITION. The machine's word and byte types and their plainest arithmetic (R6, R7, R8, R9).
-/
namespace Sys2Proof

/-- A register or memory word (R9). -/
abbrev Word := BitVec 32

/-- A byte of memory. -/
abbrev Byte := BitVec 8

/-- Q31, Q23 and every other signed 32-bit container as an integer (R7). -/
def Word.int (w : Word) : Int := w.toInt

end Sys2Proof
end

