-- ==== Sys2Proof/Words.lean ====
section
/-!
DEFINITION. The 64-bit words of the cluster sequencer as data: conditions, conversions, the three slots of a slot
word and the whole-word forms (spec/05_instruction_encoding.md, R112 to R125). Register fields are bounded types;
the rules that relate fields to each other are checked in WellFormed.lean.
-/
namespace Sys2Proof

/-- Lane condition of an operation (R113). -/
inductive Cond where
  | always
  | pf (p : Fin 4)
  | notPf (p : Fin 4)
  deriving DecidableEq, Repr

/-- Rounding mode of a conversion (R73, R117). -/
inductive RMode where
  | trn | rhu | cnv
  deriving DecidableEq, Repr

/-- Result width of a conversion (R73, R117). -/
inductive CWidth where
  | w32 | w24 | w16
  deriving DecidableEq, Repr

/-- Shift source of a conversion: an immediate from 0 to 31, or bits [4:0] of D_n in each lane (R117). -/
inductive ShSrc where
  | imm (s : Fin 32)
  | reg (n : Fin 16)
  deriving DecidableEq, Repr

/-- The parameters SH, RM and W of EXTA and STA (R73). -/
structure Conv where
  sh : ShSrc
  rm : RMode
  w : CWidth
  deriving DecidableEq, Repr

/-- Accumulator operations with two data sources (format CA). -/
inductive AccOp where
  | mpy | mac | msu | mpyD | macD | msuD
  deriving DecidableEq, Repr

/-- Data-register operations with two sources (format CR). -/
inductive Alu2 where
  | add | sub | adds | subs | min | max | and | or | xor | asr | lsr | lsls | mulr | addsD | subsD | mulrD | pack
  deriving DecidableEq, Repr

/-- Data-register operations with one source (format CU). -/
inductive Alu1 where
  | mov | neg | abs | cvt31 | cvt23 | unpk0 | unpk1
  deriving DecidableEq, Repr

/-- Shifts by an immediate (format CI). -/
inductive AluI where
  | asrI | lsrI | lslsI
  deriving DecidableEq, Repr

/-- Comparisons of data registers (format PR). -/
inductive CmpOp where
  | eq | ne | lt | le
  deriving DecidableEq, Repr

/-- Logic on two predicates (format PL). -/
inductive PredOp where
  | and | or | xor
  deriving DecidableEq, Repr

/-- The operation of a compute slot (R115, R116), without its condition. -/
inductive COp where
  | acc (op : AccOp) (i : Fin 4) (a b : Fin 16)
  | ald (i : Fin 4) (a : Fin 16)
  | aadd (i m : Fin 4)
  | asub (i m : Fin 4)
  | aclr (i : Fin 4)
  | exta (d : Fin 16) (i : Fin 4) (k : Conv)
  | rsum (i m : Fin 4)
  | bcast (d a : Fin 16)
  | alu2 (op : Alu2) (d a b : Fin 16)
  | alu1 (op : Alu1) (d a : Fin 16)
  | alui (op : AluI) (d a : Fin 16) (sh : Fin 32)
  | lid (d : Fin 16)
  | rds (d : Fin 16) (v : Fin 32)
  | ofsw (i : Fin 8) (n : Fin 16)
  | cmp (op : CmpOp) (p : Fin 4) (a b : Fin 16)
  | cmpaLt (p i : Fin 4)
  | cmpaEq (p i : Fin 4)
  | pset (p : Fin 4) (v : Bool)
  | plog (op : PredOp) (p q r : Fin 4)
  | pnot (p q : Fin 4)
  deriving DecidableEq, Repr

/-- Compute slot C: NOP, or an operation under a condition. -/
inductive CSlot where
  | nop
  | op (cond : Cond) (o : COp)
  deriving DecidableEq, Repr

/-- Width of an interpolated load (R103). -/
inductive LWidth where
  | w32 | w24
  deriving DecidableEq, Repr

/-- Memory slot M0 (R118). `i` is the pointer, `pm` whether it is post-modified, `n` the data register. -/
inductive M0Slot where
  | nop
  | ld (cond : Cond) (i : Fin 8) (pm : Bool) (n : Fin 16)
  | ldi (w : LWidth) (cond : Cond) (i : Fin 8) (pm : Bool) (n : Fin 16)
  deriving DecidableEq, Repr

/-- Memory slot M1 (R119). -/
inductive M1Slot where
  | nop
  | ld (cond : Cond) (i : Fin 8) (pm : Bool) (n : Fin 16)
  | ldi (w : LWidth) (cond : Cond) (i : Fin 8) (pm : Bool) (n : Fin 16)
  | st (cond : Cond) (i : Fin 8) (pm : Bool) (n : Fin 16)
  | sta (cond : Cond) (i : Fin 8) (pm : Bool) (acc : Fin 4) (k : Conv)
  deriving DecidableEq, Repr

/-- Branch conditions over the logical lanes (R121). -/
inductive BrCond where
  | always
  | any (p : Fin 4)
  | all (p : Fin 4)
  | none (p : Fin 4)
  | notAll (p : Fin 4)
  deriving DecidableEq, Repr

/-- The count of a LOOP word: an immediate, or bits [15:0] of D_n of logical LANE_0 (R122). -/
inductive LoopCount where
  | imm (n : Fin 65536)
  | reg (n : Fin 16)
  deriving DecidableEq, Repr

/-- The register kinds of SETA (R123). -/
inductive SetaKind where
  | p | b | len | m | bnd
  deriving DecidableEq, Repr

/-- The value source of a SETA sub-field. -/
inductive SetaVal where
  | imm (v : Fin 1048576)
  | reg (n : Fin 16)
  deriving DecidableEq, Repr

/-- One sub-field of SETA: the register written and the value's source; KIND 0b000 is `none` at its use. -/
structure SetaSub where
  kind : SetaKind
  idx : Fin 8
  val : SetaVal
  deriving DecidableEq, Repr

/-- An instruction word (R112). -/
inductive IWord where
  | slots (c : CSlot) (m0 : M0Slot) (m1 : M1Slot)
  | br (bc : BrCond) (target : Fin 8192)
  | loop (count : LoopCount) (start stop : Fin 8192)
  | seta (x y : Option SetaSub)
  | seti (n : Fin 16) (cond : Cond) (imm : Word)
  | halt
  deriving DecidableEq, Repr

/-- What goes with the issue of a slot word and is not in it: the cycles the cluster waits for region memory,
arbitration with other masters and bank wakes (R102), and whether a lane of the checked pair produces a wrong value
in this word (a hardware fault, R78). -/
structure WordEnv where
  ext : Nat
  mis : Bool
  deriving DecidableEq, Repr

/-- The memory slots beside a compute operation, and the word's environment. -/
structure Beside where
  m0 : M0Slot
  m1 : M1Slot
  env : WordEnv
  deriving DecidableEq, Repr

/-- Which memory slot a load stands in, where the compute slot is NOP: M0 with M1 NOP, or M1 beside an M0 slot. -/
inductive MemPlace where
  | m0
  | m1 (beside : M0Slot)
  deriving DecidableEq, Repr

/-- The data of a bus write to program memory: 8 or 16 bits, a 32-bit word, or 64 bits and more as 32-bit words (R134). -/
inductive PmData where
  | narrow
  | half (v : Word)
  | words (ws : List Word)
  deriving DecidableEq, Repr

/-- The envelope of a fabric message (R401). -/
structure Env where
  dst : Nat
  src : Nat
  type : Nat
  epoch : Nat
  tag : Nat
  resp : Bool
  tunnel : Bool
  hops : Nat
  deriving DecidableEq, Repr

/-- How a request to another device ends (R411, R415): with STATUS OK and the words read, with ERR, or with no response. -/
inductive RemAns where
  | ok (ws : List Word)
  | err
  | timeout
  deriving DecidableEq, Repr

/-- Wake sources (R512). -/
inductive WakeSrc where
  | pin
  | link (p : Fin 8)
  | host
  deriving DecidableEq, Repr

/-- A ring of a HOST block (R484): the completion ring, the event ring, a capture ring, or submission ring `r` of set `d`. -/
inductive RingSel where
  | cq
  | eq
  | cap (c : Fin 8)
  | sq (d : Fin 64) (r : Fin 4)
  deriving DecidableEq, Repr

end Sys2Proof
end

