-- ==== Sys2Proof/Syntax.lean ====
section
/-!
DEFINITION. The commands the GV9664 takes, one constructor per row of spec/opcode_table.json, with the row's operands:
the words of a cluster's program as they issue, register writes, requests of hosts and partners, and the events of
the device's clocks, links and pins. A value that the device measures or receives is an operand.
-/
namespace Sys2Proof

/-- A command (the rows of spec/opcode_table.json, in its order, those without operands last). Log 14, DESIGN CHOICE. -/
inductive Instr where
  /-- TICK_BOUNDARY (R37). At each tick boundary the tick number increments, scheduled actions take effect and the gather of the new tick begins. -/
  | tickBoundary (edges : Nat)
  /-- COMPUTE_WINDOW_OPEN (R47). At the 0.08T mark the compute window opens and dispatch may begin. -/
  | computeWindowOpen (missed : Option Nat)
  /-- COMPUTE_WINDOW_CLOSE (R55). At the 0.80T mark running tasks are halted, unstarted tasks are not started and the distribute begins. -/
  | computeWindowClose (meas : Option Nat) (skip : List Nat)
  /-- CONSIGN_PHASE (R49). At the 0.90T mark the distribute must be complete and the consign phase begins. -/
  | consignPhase (sent : Nat)
  /-- TICK_CFG_WRITE (R42). A write to TICK_CFG is refused or accepted, and an accepted change updates rate, tables and contexts. -/
  | tickCfgWrite (v : Word)
  /-- TICK_RUN (R43). Setting TICK_CTL.RUN starts a pending start of ticks or cancels a pending stop. -/
  | tickRun (mid : Bool)
  /-- MTC_SET (R39). A write to TIME_MTC_SET_HI loads the MTC forward or is refused. -/
  | mtcSet (v : Word)
  /-- TICK_SET (R39). A write to TIME_TICK_SET_HI loads the tick number forward or is refused. -/
  | tickSet (v : Word)
  /-- MTC_READ (R41). A read of TIME_MTC_LO samples the MTC by dual sampling and latches the high word. -/
  | mtcRead (stale : Bool)
  /-- LATCHED_LOW_READ (R13). A read of the lowest register of a wide group latches its higher words in the shared latch. -/
  | latchedLowRead (a : Word) (size : Fin 3) (core stale : Bool)
  /-- SCHED_ARM (R62). A write with ARM = 1 arms a scheduled action entry or refuses it. -/
  | schedArm (n : Fin 32) (v : Word)
  /-- SCHED_DISARM (R65). A write with ARM = 0 and TYPE NONE disarms an ARMED entry. -/
  | schedDisarm (n : Fin 32) (v : Word)
  /-- REGISTER_WRITE (R10). A write to a register with no row of its own changes its fields by their access types. -/
  | registerWrite (a : Word) (size : Fin 3) (v : Word) (core : Bool)
  /-- NOP (R112). A no-operation slot issues with no effect. -/
  | nop (c : Fin 16) (x : WordEnv)
  /-- MPY (R70). ACC_i takes the exact product of two data registers. -/
  | mpy (c : Fin 16) (x : Beside) (q : Cond) (i : Fin 4) (a b : Fin 16)
  /-- MAC (R70). ACC_i adds the exact product with 80-bit saturation. -/
  | mac (c : Fin 16) (x : Beside) (q : Cond) (i : Fin 4) (a b : Fin 16)
  /-- MSU (R70). ACC_i subtracts the exact product with 80-bit saturation. -/
  | msu (c : Fin 16) (x : Beside) (q : Cond) (i : Fin 4) (a b : Fin 16)
  /-- MPY_D (R70). ACC_i takes the scaled sum of two 16-bit products. -/
  | mpyD (c : Fin 16) (x : Beside) (q : Cond) (i : Fin 4) (a b : Fin 16)
  /-- MAC_D (R70). ACC_i adds the scaled sum of two 16-bit products with saturation. -/
  | macD (c : Fin 16) (x : Beside) (q : Cond) (i : Fin 4) (a b : Fin 16)
  /-- MSU_D (R70). ACC_i subtracts the scaled sum of two 16-bit products with saturation. -/
  | msuD (c : Fin 16) (x : Beside) (q : Cond) (i : Fin 4) (a b : Fin 16)
  /-- ALD (R70). ACC_i takes a data register at the accumulator scale. -/
  | ald (c : Fin 16) (x : Beside) (q : Cond) (i : Fin 4) (a : Fin 16)
  /-- AADD (R70). ACC_i adds ACC_m with saturation. -/
  | aadd (c : Fin 16) (x : Beside) (q : Cond) (i m : Fin 4)
  /-- ASUB (R70). ACC_i subtracts ACC_m with saturation. -/
  | asub (c : Fin 16) (x : Beside) (q : Cond) (i m : Fin 4)
  /-- ACLR (R70). ACC_i is cleared to zero. -/
  | aclr (c : Fin 16) (x : Beside) (q : Cond) (i : Fin 4)
  /-- EXTA (R73). An accumulator is converted by shift, rounding and width into a data register. -/
  | exta (c : Fin 16) (x : Beside) (q : Cond) (d : Fin 16) (i : Fin 4) (k : Conv)
  /-- RSUM (R76). ACC_i of the enabled lanes is summed in a fixed tree into ACC_m of logical LANE_0. -/
  | rsum (c : Fin 16) (x : Beside) (q : Cond) (i m : Fin 4) (differ : Bool)
  /-- BCAST (R77). D_a of logical LANE_0 is copied into D_b of every enabled lane. -/
  | bcast (c : Fin 16) (x : Beside) (q : Cond) (d a : Fin 16)
  /-- MOV (R74). A data register is copied. -/
  | mov (c : Fin 16) (x : Beside) (q : Cond) (d a : Fin 16)
  /-- ADD (R74). Two data registers are added with wrap-around. -/
  | add (c : Fin 16) (x : Beside) (q : Cond) (d a b : Fin 16)
  /-- SUB (R74). Two data registers are subtracted with wrap-around. -/
  | sub (c : Fin 16) (x : Beside) (q : Cond) (d a b : Fin 16)
  /-- ADDS (R74). Two data registers are added with saturation. -/
  | adds (c : Fin 16) (x : Beside) (q : Cond) (d a b : Fin 16)
  /-- SUBS (R74). Two data registers are subtracted with saturation. -/
  | subs (c : Fin 16) (x : Beside) (q : Cond) (d a b : Fin 16)
  /-- NEG (R74). A data register is negated with saturation. -/
  | neg (c : Fin 16) (x : Beside) (q : Cond) (d a : Fin 16)
  /-- ABS (R74). The absolute value of a data register is taken with saturation. -/
  | abs (c : Fin 16) (x : Beside) (q : Cond) (d a : Fin 16)
  /-- MIN (R74). The signed minimum of two data registers is taken. -/
  | min (c : Fin 16) (x : Beside) (q : Cond) (d a b : Fin 16)
  /-- MAX (R74). The signed maximum of two data registers is taken. -/
  | max (c : Fin 16) (x : Beside) (q : Cond) (d a b : Fin 16)
  /-- AND (R74). Bitwise and of two data registers. -/
  | and (c : Fin 16) (x : Beside) (q : Cond) (d a b : Fin 16)
  /-- OR (R74). Bitwise or of two data registers. -/
  | or (c : Fin 16) (x : Beside) (q : Cond) (d a b : Fin 16)
  /-- XOR (R74). Bitwise exclusive or of two data registers. -/
  | xor (c : Fin 16) (x : Beside) (q : Cond) (d a b : Fin 16)
  /-- ASR (R74). Arithmetic right shift by a register count. -/
  | asr (c : Fin 16) (x : Beside) (q : Cond) (d a b : Fin 16)
  /-- LSR (R74). Logical right shift by a register count. -/
  | lsr (c : Fin 16) (x : Beside) (q : Cond) (d a b : Fin 16)
  /-- LSLS (R74). Saturating left shift by a register count. -/
  | lsls (c : Fin 16) (x : Beside) (q : Cond) (d a b : Fin 16)
  /-- MULR (R74). Rounded saturating Q31 product. -/
  | mulr (c : Fin 16) (x : Beside) (q : Cond) (d a b : Fin 16)
  /-- ADDS_D (R74). Dual 16-bit saturating add. -/
  | addsD (c : Fin 16) (x : Beside) (q : Cond) (d a b : Fin 16)
  /-- SUBS_D (R74). Dual 16-bit saturating subtract. -/
  | subsD (c : Fin 16) (x : Beside) (q : Cond) (d a b : Fin 16)
  /-- MULR_D (R74). Dual rounded saturating Q15 product. -/
  | mulrD (c : Fin 16) (x : Beside) (q : Cond) (d a b : Fin 16)
  /-- CVT_31 (R74). A Q23 value is converted to Q31. -/
  | cvt31 (c : Fin 16) (x : Beside) (q : Cond) (d a : Fin 16)
  /-- CVT_23 (R74). A Q31 value is rounded and saturated to Q23. -/
  | cvt23 (c : Fin 16) (x : Beside) (q : Cond) (d a : Fin 16)
  /-- PACK (R74). Two 16-bit halves are packed into one Q15x2 word. -/
  | pack (c : Fin 16) (x : Beside) (q : Cond) (d a b : Fin 16)
  /-- UNPK_0 (R74). Element 0 of a Q15x2 word is converted to Q31. -/
  | unpk0 (c : Fin 16) (x : Beside) (q : Cond) (d a : Fin 16)
  /-- UNPK_1 (R74). Element 1 of a Q15x2 word is converted to Q31. -/
  | unpk1 (c : Fin 16) (x : Beside) (q : Cond) (d a : Fin 16)
  /-- LID (R74). Each lane writes its logical lane number. -/
  | lid (c : Fin 16) (x : Beside) (q : Cond) (d : Fin 16)
  /-- ASR_I (R74). Arithmetic right shift by an immediate. -/
  | asrI (c : Fin 16) (x : Beside) (q : Cond) (d a : Fin 16) (sh : Fin 32)
  /-- LSR_I (R74). Logical right shift by an immediate. -/
  | lsrI (c : Fin 16) (x : Beside) (q : Cond) (d a : Fin 16) (sh : Fin 32)
  /-- LSLS_I (R74). Saturating left shift by an immediate. -/
  | lslsI (c : Fin 16) (x : Beside) (q : Cond) (d a : Fin 16) (sh : Fin 32)
  /-- RDS (R137). A sequencer value is written into a data register of every enabled lane. -/
  | rds (c : Fin 16) (x : Beside) (q : Cond) (d : Fin 16) (v : Fin 32)
  /-- OFSW (R94). An offset table entry of each enabled lane is written from a data register. -/
  | ofsw (c : Fin 16) (x : Beside) (q : Cond) (i : Fin 8) (n : Fin 16)
  /-- CMP_EQ (R116). A predicate is set to the equality of two data registers. -/
  | cmpEq (c : Fin 16) (x : Beside) (q : Cond) (p : Fin 4) (a b : Fin 16)
  /-- CMP_NE (R116). A predicate is set to the inequality of two data registers. -/
  | cmpNe (c : Fin 16) (x : Beside) (q : Cond) (p : Fin 4) (a b : Fin 16)
  /-- CMP_LT (R116). A predicate is set to a signed less-than comparison. -/
  | cmpLt (c : Fin 16) (x : Beside) (q : Cond) (p : Fin 4) (a b : Fin 16)
  /-- CMP_LE (R116). A predicate is set to a signed less-or-equal comparison. -/
  | cmpLe (c : Fin 16) (x : Beside) (q : Cond) (p : Fin 4) (a b : Fin 16)
  /-- CMPA_LT (R116). A predicate is set when an accumulator is negative. -/
  | cmpaLt (c : Fin 16) (x : Beside) (q : Cond) (p i : Fin 4)
  /-- CMPA_EQ (R116). A predicate is set when an accumulator is zero. -/
  | cmpaEq (c : Fin 16) (x : Beside) (q : Cond) (p i : Fin 4)
  /-- PSET (R116). A predicate is set to an immediate. -/
  | pset (c : Fin 16) (x : Beside) (q : Cond) (p : Fin 4) (v : Bool)
  /-- PAND (R116). A predicate takes the and of two predicates. -/
  | pand (c : Fin 16) (x : Beside) (q : Cond) (p j r : Fin 4)
  /-- POR (R116). A predicate takes the or of two predicates. -/
  | por (c : Fin 16) (x : Beside) (q : Cond) (p j r : Fin 4)
  /-- PXOR (R116). A predicate takes the exclusive or of two predicates. -/
  | pxor (c : Fin 16) (x : Beside) (q : Cond) (p j r : Fin 4)
  /-- PNOT (R116). A predicate takes the inverse of another. -/
  | pnot (c : Fin 16) (x : Beside) (q : Cond) (p j : Fin 4)
  /-- LD (R96). Each enabled lane loads the word at its lane address, with optional post-modify of the pointer. -/
  | ld (c : Fin 16) (x : WordEnv) (pl : MemPlace) (q : Cond) (i : Fin 8) (pm : Bool) (n : Fin 16)
  /-- LDI (R103). Each enabled lane reads four taps and returns the cubic Lagrange interpolation at its fraction. -/
  | ldi (c : Fin 16) (x : WordEnv) (pl : MemPlace) (w : LWidth) (q : Cond) (i : Fin 8) (pm : Bool) (n : Fin 16)
  /-- ST (R96). Each enabled lane stores a data register at its lane address. -/
  | st (c : Fin 16) (x : WordEnv) (m0 : M0Slot) (q : Cond) (i : Fin 8) (pm : Bool) (n : Fin 16)
  /-- STA (R73). Each enabled lane stores the converted accumulator at its lane address. -/
  | sta (c : Fin 16) (x : WordEnv) (m0 : M0Slot) (q : Cond) (i : Fin 8) (pm : Bool) (a : Fin 4) (k : Conv)
  /-- BR (R121). Control transfers to TARGET when the branch condition over logical lanes holds. -/
  | br (c : Fin 16) (bc : BrCond) (target : Fin 8192)
  /-- LOOP (R105). A hardware loop level is opened with its count, start and end. -/
  | loop (c : Fin 16) (count : LoopCount) (start stop : Fin 8192)
  /-- SETA (R123). Up to two sequencer addressing registers are written with their side effects. -/
  | seta (c : Fin 16) (a b : Option SetaSub)
  /-- SETI (R124). An immediate is written into a data register of every enabled lane. -/
  | seti (c : Fin 16) (n : Fin 16) (q : Cond) (v : Word)
  /-- HALT (R125). The task stops issuing and begins its completion. -/
  | halt (c : Fin 16)
  /-- UNDEFINED_ENCODING (R132). An undefined word or fetch past the end halts the task, records CL_ILL and ramps its outputs. -/
  | undefinedEncoding (c : Fin 16)
  /-- TASK_DISPATCH (R148). The Forecast dispatches a task to its clusters once predecessors and clusters are ready, and the clusters enter the task. -/
  | taskDispatch (t : Fin 128)
  /-- CLUSTER_WAKE_DONE (R150). A waking cluster completes its wake and becomes IDLE. -/
  | clusterWakeDone (c : Fin 16)
  /-- TASK_COMPLETE (R138). A task's last store is performed, the cluster records the cycle count, reports completion and enters IDLE. -/
  | taskComplete (c : Fin 16) (late : Nat)
  /-- LANE_BIST (R83). Every 1,024 ticks the cluster self-tests its retired lane in the consign phase. -/
  | laneBist (c : Fin 16) (pass : Bool)
  /-- SHADOW_INJ (R85). A write of SHADOW_CTL.INJ injects one mismatch into the next compared value. -/
  | shadowInj (c : Fin 16)
  /-- ILL_INJ (R132). A write of CL_CTL.ILL_INJ makes the next issued word an undefined encoding. -/
  | illInj (c : Fin 16)
  /-- CYC_MAX_CLR (R138). A write of CL_CTL.CYC_MAX_CLR clears CL_CYC_MAX. -/
  | cycMaxClr (c : Fin 16)
  /-- PROG_MEM_WRITE (R134). A bus write to program memory stages, commits or is refused. -/
  | progMemWrite (c : Fin 16) (o : Fin 65536) (d : PmData)
  /-- TT_ENTRY_WRITE (R142). A bus write to a task table word is accepted in the pending copy or refused. -/
  | ttEntryWrite (x : Fin 2) (t : Fin 128) (w : Fin 16) (v : Word)
  /-- TT_SEL_WRITE (R145). A write of FCST_TT_CTL.SEL while ticks are stopped switches the copy in force. -/
  | ttSelWrite (v : Fin 2)
  /-- THERMAL_UPDATE (R158). Every 1 ms the Forecast updates its thermal model and P_th. -/
  | thermalUpdate (power : Option Nat) (stale : BitVec 8)
  /-- XING_ENTRY_WRITE (R180). A write through the crossing window or to a descriptor is accepted in the pending copy or refused. -/
  | xingEntryWrite (desc : Bool) (i : Fin 2048) (w : Fin 4) (v : Word)
  /-- XING_SEL_WRITE (R183). A write changing XING_CTL.SEL while ticks are stopped puts a validated copy in force or is refused. -/
  | xingSelWrite (v : Fin 2) (validate : Bool)
  /-- CAP_RING_CTL_WRITE (R199). A write to a capture ring's configuration enables it, resetting WR and RD, or is refused while enabled. -/
  | capRingCtlWrite (r : Fin 8) (w : Fin 3) (v : Word)
  /-- CAPTURE_FRAME_COMMIT (R200). When all engines finish their parts the capture frame is committed and WR advances. -/
  | captureFrameCommit (r : Fin 8)
  /-- LEVEE_EL_BIND_WRITE (R204). A write of an element binding is refused on conflict or takes effect and restarts the element's models. -/
  | leveeElBindWrite (e : Fin 96) (v : Word)
  /-- LEVEE_REG_WRITE (R236). A write to a LEVEE register is judged for range, then sealing tightening, field by field. -/
  | leveeRegWrite (o : Fin 65536) (v : Word)
  /-- LEVEE_SEAL_KEY (R233). Writing 0x5EA1 to LEVEE_SEAL.KEY seals the block until power-on reset. -/
  | leveeSealKey (k : BitVec 16)
  /-- LEVEE_CAUSE_CLEAR (R216). A W1CG clear of a latched element cause succeeds only when the cause is gone. -/
  | leveeCauseClear (e : Option (Fin 96)) (v : Word)
  /-- TELEMETRY_WORD (R218). At the end of a telemetry slot the Levee applies the word to its elements. -/
  | telemetryWord (n : Fin 24) (t : Fin 16) (w : Word)
  /-- AMP_FLT_CHANGE (R443). A level on AMP_FLT_g that has settled for two media-clock edges is passed to the Levee. -/
  | ampFltChange (g : Fin 12) (high : Bool)
  /-- TELEM_LOSS (R220). No valid telemetry word for TEL_TO sample periods sets TELL and may mute the element. -/
  | telemLoss (e : Fin 96)
  /-- DC_MUTE (R213). The DC count reaches 0.1 s of samples and the element begins its soft mute. -/
  | dcMute (e : Fin 96)
  /-- AMP_RETRY (R224). One second after an amplifier mute reached zero the element retries or locks. -/
  | ampRetry (e : Fin 96)
  /-- RETRY_RESET (R224). After 60 s without an amplifier-fault cause RETRIES and LOCKED return to 0. -/
  | retryReset (e : Fin 96)
  /-- LEVEE_PARITY_SWEEP (R227). Every 1 ms the Levee checks the parity of every SEAL register. -/
  | leveeParitySweep (bad : List Nat)
  /-- PAIR_CFG_WRITE (R240). A write to PAIR_CFG enables pairing or is refused. -/
  | pairCfgWrite (v : Word)
  /-- HEARTBEAT (R249). A heartbeat arrives at the pilot or as a Tether copy at the partner, and a FAILED one moves the grant at once. -/
  | heartbeat (p : Fin 8) (e : Env) (ws : List Word)
  /-- GRANT (R251). A received grant is held, copied over the Tether and moves WAITING to ACTIVE or STANDBY to TAKING. -/
  | grant (p : Fin 8) (e : Env) (g : BitVec 16 × BitVec 64) (ns : Nat)
  /-- REVOKE (R251). A REVOKE tells a device that its partner holds a newer grant. -/
  | revoke (p : Fin 8) (e : Env) (g : BitVec 16 × BitVec 64)
  /-- NOTICE (R249). A notice tells a member that the pilot is alive and which grant the other member holds. -/
  | notice (p : Fin 8) (e : Env) (g : BitVec 16 × BitVec 64)
  /-- GRANT_COPY (R251). A COPY of the partner's grant received over the Tether is recorded for fencing. -/
  | grantCopy (p : Fin 8) (e : Env) (g : BitVec 16 × BitVec 64)
  /-- QUERY (R251). A QUERY is answered with a COPY of the newest grant within 1 µs. -/
  | query (p : Fin 8) (e : Env) (g : BitVec 16 × BitVec 64)
  /-- CONSIGNMENT (R261). A standby stages a CONSIGNMENT message and commits a complete consignment. -/
  | consignment (p : Fin 8) (e : Env) (ws : List Word)
  /-- FORCE_SWEEP (R258). A write of PAIR_CTL.FORCE_SWEEP starts a forced sweep pass. -/
  | forceSweep (v : Word)
  /-- TRACKED_AREA_WRITE (R255). A change of tracked areas is refused or takes effect at the next boundary with a new pass. -/
  | trackedAreaWrite (n : Fin 16) (lines : Bool) (v : Word)
  /-- SUSPECT_CLR (R273). A write of PAIR_CTL.SUSPECT_CLR returns a SUSPECT standby to NOT_READY. -/
  | suspectClr (v : Word)
  /-- STANDBY_BIST (R274). In ticks with r mod 256 = 128 a standby self-tests one cluster's lanes. -/
  | standbyBist (pass : Bool)
  /-- PILOT_CTL_WRITE (R248). Enabling the pilot role sets its epoch from the first heartbeats. -/
  | pilotCtlWrite (v : Word)
  /-- PILOT_PAIR_WRITE (R248). A write of a pilot pair slot enables it or is refused. -/
  | pilotPairWrite (p : Fin 16) (v : Word)
  /-- PILOT_SWITCH_REQUEST (R276). Writing PILOT_PAIR.SWITCH requests a planned change of active at the next 0.25T mark. -/
  | pilotSwitchRequest (p : Fin 16) (v : Word)
  /-- FAULT_MESSAGE (R286). A region collector counts a fault message in its window and forwards it with its severe result. -/
  | faultMessage (j now : Nat)
  /-- FAULT_WINDOW_EXPIRY (R286). A tracking entry whose count did not reach N is freed W after it opened. -/
  | faultWindowExpiry (i : Fin 7) (now : Nat)
  /-- COLL_PARITY (R290). A parity error in a region collector places its region in safe state and sends COLL_PARITY. -/
  | collParity (i : Fin 7)
  /-- FAULT_COLL_RELOAD (R290). Writing RELOAD rewrites a collector's copies and frees its entries. -/
  | faultCollReload (i : Fin 7) (good : Bool)
  /-- FAULT_REACT_WRITE (R293). A write of a kind's reactions or window keeps fixed bits, frees its entries or is refused. -/
  | faultReactWrite (k : Fin 64) (win : Bool) (v : Word)
  /-- SAFE_CLEAR (R303). A W1CG clear of a safe state bit is accepted when its causes are gone or refused. -/
  | safeClear (v : Word)
  /-- FOREQ_CLEAR (R303). A W1CG clear of FAULT_FOREQ.REQ is accepted when its causes are gone or refused. -/
  | foreqClear (v : Word)
  /-- LMUTE_CLEAR (R300). A W1CG clear of FAULT_LMUTE.GROUPS releases the collector mute of groups. -/
  | lmuteClear (v : Word)
  /-- COLL_PARITY_CLEAR (R303). A W1CG clear of FAULT_COLL_STAT.PARITY is accepted after a good reload. -/
  | collParityClear (i : Fin 7) (v : Word)
  /-- ECC_WRITEBACK (R313). A corrected word is written back in a free bank cycle unless a newer write came first. -/
  | eccWriteback (a : Word)
  /-- SCRUB_VISIT (R314). A scrubber visits its next scrub unit at its interval and corrects or reports errors. -/
  | scrubVisit (m : Fin 37)
  /-- ECC_INJECT_ARM (R315). A MEM_INJ_CTL write of MODE 1 or 2 arms an error injection for the next write to the word. -/
  | eccInjectArm (double : Bool)
  /-- ATOMIC_ADD (R316). An atomic channel adds the operand to a word in one bank service. -/
  | atomicAdd (a : Fin 8) (clr : Bool)
  /-- ATOMIC_ADDS (R316). An atomic channel adds the operand with saturation in one bank service. -/
  | atomicAdds (a : Fin 8) (clr : Bool)
  /-- ATOMIC_SWAP (R316). An atomic channel swaps a word with the operand in one bank service. -/
  | atomicSwap (a : Fin 8) (clr : Bool)
  /-- BANK_RETENTION_ENTRY (R318). An idle bank enters retention at 0.55 V. -/
  | bankRetentionEntry (b : Fin 416)
  /-- BANK_WAKE_DONE (R319). A waking bank completes its wake and the waiting accesses proceed. -/
  | bankWakeDone (b : Fin 416)
  /-- LOCK_SEQUENCE (R326). A write of MTX_LOCK_CORE.COUNT makes the next core accesses a locked sequence. -/
  | lockSequence (n : Fin 8)
  /-- HUNG_ACCESS (R335). An access without response for 10 µs is reported by the hang watchdog. -/
  | hungAccess (j : Nat)
  /-- DOMAIN_RESET (R337). A write of MTX_DOM_RST resets a far domain and completes its hung accesses with errors. -/
  | domainReset (v : Word)
  /-- AUTO_DOMAIN_RESET (R337). AUTO_MS after a hung access is reported the watchdog resets its domain. -/
  | autoDomainReset (d : Fin 35)
  /-- CLOCK_PRESENT_CHANGE (R334). CLOCK_PRESENT of a far domain changes after 64 reference periods with or without edges. -/
  | clockPresentChange (d : Fin 35) (run seen : Bool)
  /-- CROSSING_READY (R333). A crossing's reset handshake completes and it becomes READY. -/
  | crossingReady (d : Fin 35)
  /-- REF_COMPARISON (R341). A comparison event of a reference input updates the loop and the qualification tests. -/
  | refComparison (r : Fin 16) (dev off : BitVec 32)
  /-- REF_LOSS (R342). A candidate input without events for 3 periods is disqualified and REF_LOSS is emitted. -/
  | refLoss (r : Fin 16)
  /-- REF_RANGE_MEASURE (R342). Each 100 ms the frequency offset of each input is measured and out-of-range inputs are disqualified. -/
  | refRangeMeasure (ms : List (Fin 16 × BitVec 32)) (out : BitVec 32)
  /-- REF_QUALIFIED (R343). An input with no disqualifying condition for QUAL_MS becomes qualified and the selection is evaluated. -/
  | refQualified (r : Fin 16)
  /-- CLK_SELECT_WRITE (R347). A write to CLK_CTL or CLK_FALLBACK is refused or causes a selection evaluation. -/
  | clkSelectWrite (i : Option (Fin 4)) (v : Word)
  /-- MCLK_OUT_CFG_WRITE (R358). A change of CLK_MOUT takes effect at the next sample boundary. -/
  | mclkOutCfgWrite (n : Fin 4) (v : Word)
  /-- NGL_DISABLE (R365). Writing NGL_CTL.EN = 0 sends the port to DISABLED. -/
  | nglDisable (p : Fin 8) (v : Word)
  /-- NGL_ENABLE (R365). Writing EN = 1, or EN at 1 after reset, sends a DISABLED port to WAKING. -/
  | nglEnable (p : Fin 8) (v : Option Word)
  /-- NGL_PLL_LOCK (R365). The port PLL locks and the port enters DETECT, TRAIN or TEST. -/
  | nglPllLock (p : Fin 8)
  /-- RECEIVER_DETECTION_PROBE (R366). Every 1 ms in DETECT a probe looks for a far-end termination. -/
  | receiverDetectionProbe (p : Fin 8) (ns : Option Nat)
  /-- TRAINING_FRAME (R369). A received training frame's coefficient request is applied and its status answered. -/
  | trainingFrame (p : Fin 8) (req status : BitVec 16)
  /-- TRAIN_EXIT (R369). The training exit condition is met and the port enters BIT_LOCK. -/
  | trainExit (p : Fin 8) (ctle : Fin 16) (dfe : List (BitVec 7))
  /-- TRAIN_TO (R365). 16 ms in TRAIN without exit returns the port to DETECT. -/
  | trainTo (p : Fin 8)
  /-- CDR_LOCK (R370). The CDR locks and the port enters BLOCK_LOCK or TEST. -/
  | cdrLock (p : Fin 8)
  /-- BITLOCK_TO (R365). 500 µs in BIT_LOCK without CDR lock returns the port to DETECT. -/
  | bitlockTo (p : Fin 8)
  /-- BLOCK_LOCK (R371). 64 consecutive valid sync headers give block lock and the port enters CAPS. -/
  | blockLock (p : Fin 8) (errs bits : Nat) (dfe : List (BitVec 7))
  /-- BLOCKLOCK_TO (R365). 500 µs in BLOCK_LOCK without block lock returns the port to DETECT. -/
  | blocklockTo (p : Fin 8) (errs : Nat)
  /-- LOCK_LOST (R371). 16 invalid headers in a window lose block lock and the port returns to BLOCK_LOCK. -/
  | lockLost (p : Fin 8) (errs : Nat)
  /-- CAPS_TO (R365). 10 ms in CAPS without completion returns the port to DETECT. -/
  | capsTo (p : Fin 8)
  /-- LOS (R365). Loss of signal or of CDR lock returns the port to DETECT. -/
  | los (p : Fin 8) (signal : Bool)
  /-- MOOR_WRITE (R377). Writing NGL_CTL.MOOR = 1 is refused or begins the MOOR handshake. -/
  | moorWrite (p : Fin 8) (v : Word)
  /-- MOOR_REQ (R377). A received MOOR_REQ is answered with MOOR_ACK or accepted as acceptance. -/
  | moorReq (p : Fin 8)
  /-- MOOR_ACK (R377). A received MOOR_ACK completes the handshake and the port enters MOORED. -/
  | moorAck (p : Fin 8)
  /-- MOOR_TIMEOUT (R377). No acceptance within 100 µs keeps the port ACTIVE and sets MOOR_REFUSED. -/
  | moorTimeout (p : Fin 8)
  /-- MOOR_RELEASE (R378). Writing MOOR = 0 takes a moored port to WAKING. -/
  | moorRelease (p : Fin 8) (v : Word)
  /-- SIGNAL_DETECT (R379). The signal detector of a moored port sees activity for 1 µs and the port wakes. -/
  | signalDetect (p : Fin 8)
  /-- EYE_SCAN_GO (R373). Writing NGL_ES_CTL.GO starts an eye scan measurement or is refused. -/
  | eyeScanGo (p : Fin 8) (v : Word)
  /-- EYE_SCAN_DONE (R373). An eye scan ends after its dwell, or is aborted by a change of state, and sets DONE. -/
  | eyeScanDone (p : Fin 8) (n : Nat)
  /-- PRBS_LOCK (R375). The PRBS31 checker locks after 1,024 matching bits. -/
  | prbsLock (p : Fin 8) (errs bits : Nat) (dfe : List (BitVec 7))
  /-- PRBS_LOCK_LOSS (R375). 64 mismatches within 1,024 bits lose the checker's lock. -/
  | prbsLockLoss (p : Fin 8) (errs : Nat)
  /-- TICK_MARK_SEND (R388). The tick mark of the tick leaves at the first block start after the boundary plus 100 ns. -/
  | tickMarkSend (p : Fin 8) (ofs : Word)
  /-- TICK_MARK (R407). A received tick mark is checked and becomes a comparison event for its reference input. -/
  | tickMark (p : Fin 8) (w : Word) (k m : BitVec 64) (dev off : BitVec 32)
  /-- RUN (R399). On a RUN block arrival a forwarding context starts forwarding the run on its output ports. -/
  | run (p : Fin 8) (flow : Fin 1024) (first : Fin 256) (count n : Nat) (epoch : Fin 16)
  /-- RUN_END (R395). A completed run is judged by its CRC, epoch and arrival time and accepted or discarded. -/
  | runEnd (p : Fin 8) (ws : List Word) (crc : Word)
  /-- CREDIT (R403). A CREDIT block returns fragment credits of a class to the sender. -/
  | credit (p : Fin 8) (c : Fin 3) (n : Nat)
  /-- MESSAGE_FORWARD (R402). A message for another device is forwarded by the route table or discarded. -/
  | messageForward (p : Fin 8) (crcOk whole : Bool) (e : Env) (ws : List Word)
  /-- TIME_SYNC_SEND (R406). Every 16 ticks, or 100 µs with ticks stopped, a TIME_SYNC request is sent on each ACTIVE port. -/
  | timeSyncSend (p : Fin 8) (t1 : BitVec 64)
  /-- TIME_SYNC (R406). A TIME_SYNC request is answered at once with its time stamps. -/
  | timeSync (p : Fin 8) (e : Env) (ws : List Word) (t2 t3 : BitVec 64)
  /-- TIME_SYNC_RESPONSE (R406). A TIME_SYNC response yields a delay measurement and updates FAB_PORT_DLY. -/
  | timeSyncResponse (p : Fin 8) (e : Env) (ws : List Word) (t4 : BitVec 64)
  /-- CAPABILITY_SEND (R404). Every 100 µs in CAPS, or on a change when ACTIVE, a CAPABILITY message is sent. -/
  | capabilitySend (p : Fin 8)
  /-- CAPABILITY (R405). A received CAPABILITY may assign an ID and completes or fails the exchange. -/
  | capability (p : Fin 8) (good : Bool) (ws : List Word)
  /-- REMOTE_READ (R411). A REMOTE_READ reads words of the target's address space and answers with a response. -/
  | remoteRead (p : Fin 8) (e : Env) (ws : List Word)
  /-- REMOTE_WRITE (R411). A REMOTE_WRITE writes words of the target's address space and answers with a response. -/
  | remoteWrite (p : Fin 8) (e : Env) (ws : List Word)
  /-- HOST_TUNNEL_READ (R412). A tunnelled read is performed on host memory by the manager. -/
  | hostTunnelRead (p : Fin 8) (e : Env) (ws : List Word) (host : Option (List Word))
  /-- HOST_TUNNEL_WRITE (R412). A tunnelled write is performed on host memory by the manager. -/
  | hostTunnelWrite (p : Fin 8) (e : Env) (ws : List Word)
  /-- REMOTE_RESPONSE (R411). A response to a remote access ends the outstanding request. -/
  | remoteResponse (p : Fin 8) (e : Env) (ws : List Word)
  /-- DESCRIPTOR_FWD (R413). A worker receives a forwarded descriptor and executes it. -/
  | descriptorFwd (p : Fin 8) (e : Env) (ws : List Word)
  /-- FAULT_REPORT (R414). The manager passes a worker's fault record to its host event ring. -/
  | faultReport (p : Fin 8) (e : Env) (ws : List Word)
  /-- FAB_ID_WRITE (R384). A write of FAB_ID assigns the worker's ID once or is refused. -/
  | fabIdWrite (v : Word)
  /-- FLOW_VALID_SET (R397). Setting VALID of a flow context runs its checks and the context takes effect from the next boundary. -/
  | flowValidSet (f : Fin 1023) (v : Word)
  /-- FLOW_VALID_CLEAR (R393). Clearing VALID of a flow context takes effect at the next boundary. -/
  | flowValidClear (f : Fin 1023) (v : Word)
  /-- REMOTE_ACCESS_GO (R415). Writing FAB_RA_CTL.GO starts the control core's single-word remote access. -/
  | remoteAccessGo (v : Word)
  /-- REMOTE_ACCESS_TIMEOUT (R415). A remote request without response after RA_TO ms ends with TIMEOUT. -/
  | remoteAccessTimeout (j : Nat)
  /-- SAP_CTL_START (R429). Writing SAP_CTL.START starts a stopped port. -/
  | sapCtlStart (n : Fin 24) (v : Word) (mid : Bool)
  /-- SAP_CTL_STOP (R431). Writing SAP_CTL.STOP stops a port according to its state. -/
  | sapCtlStop (n : Fin 24) (v : Word)
  /-- SAP_CTL_RESTART (R438). Writing SAP_CTL.RESTART makes the port resynchronise at the next leading edge. -/
  | sapCtlRestart (n : Fin 24) (v : Word)
  /-- SAP_FRAME (R427). At a frame leading edge the port places the frame, swaps masks, and judges slips and resynchronisation. -/
  | sapFrame (n : Fin 24) (ph : BitVec 8) (ws : List Word) (early : Bool) (youngHard youngSoft : List Nat) (youngSafe : Bool)
  /-- LATE_LEADING_EDGE (R436). No leading edge by one bit-clock period after the frame's last sets SLOT_SLIP. -/
  | lateLeadingEdge (n : Fin 24)
  /-- SAP_CLK_LOST (R436). No leading edge within 2 frame periods sets CLK_LOST and puts the port in RESYNC. -/
  | sapClkLost (n : Fin 24)
  /-- SAP_RATE_WINDOW (R434). At the end of a 4,096-frame window the port publishes its measured rate. -/
  | sapRateWindow (n : Fin 24) (hz : Fin 262144) (dev : BitVec 16)
  /-- SAP_MASK_WRITE (R425). A write of SAP_MASK sets pending masks for the next leading edge. -/
  | sapMaskWrite (n : Fin 24) (v : Word) (guard : Bool)
  /-- SAP_MUTE_WRITE (R432). A change of a SAP_MUTE bit opens or closes a transmit gate at its next zero crossing. -/
  | sapMuteWrite (n : Fin 24) (v : Word)
  /-- ZC_TIMEOUT (R432). No zero crossing within ZC_TO makes the gate open or close by ramp. -/
  | zcTimeout (n : Fin 24) (t : Fin 16)
  /-- STOP_TIMEOUT (R431). A stopping port stops at the latest ZC_TO plus 16 sample periods after the stop began. -/
  | stopTimeout (n : Fin 24)
  /-- ETH_RX_FRAME (R449). A received Ethernet frame is judged and delivered to the bridge, a match ring or a PCP ring. -/
  | ethRxFrame (p : Fin 2) (bs : List Byte) (fcsOk cut : Bool) (edges : Nat)
  /-- ETH_TX_TAIL_WRITE (R454). A write of a transmit queue TAIL makes descriptors available to the MAC. -/
  | ethTxTailWrite (p : Fin 2) (q : Fin 8) (v : Word)
  /-- ETH_TX_FRAME (R452). At the end of a frame the MAC starts the oldest ready frame of the highest queue within the limiters. -/
  | ethTxFrame (p : Fin 2) (ns edges : Nat)
  /-- ETH_LINK_CHANGE (R447). A port's link goes up or down. -/
  | ethLinkChange (p : Fin 2) (up : Bool) (reason : Fin 4)
  /-- ETH_TXTS_READ (R459). A read of ETH_TXTS_TAG removes the oldest time stamp and latches its value. -/
  | ethTxtsRead (p : Fin 2)
  /-- PTP_RATE_WRITE (R462). A write of PTP_RATE sets the counter's increment from the next time-clock edge. -/
  | ptpRateWrite (v : Word) (edges : Nat)
  /-- PTP_STEP (R462). PTP_CMD.STEP adds the signed offset to the PTP time counter. -/
  | ptpStep (edges : Nat)
  /-- PTP_SET (R462). PTP_CMD.SET loads the PTP time counter. -/
  | ptpSet (edges : Nat)
  /-- PTP_GM_LOSS (R463). GM_OK goes from 1 to 0 by write or watchdog and PTP_GM_LOSS is emitted. -/
  | ptpGmLoss (v : Option Word)
  /-- PTP_TIME_READ (R461). A read of PTP_TIME_SUB samples the counter and latches its other words. -/
  | ptpTimeRead (edges : Nat) (lag : Fin 17) (stale : Bool)
  /-- MEDIA_OFS_WRITE (R465). A write of TIME_MEDIA_OFS_HI commits a new offset from the next boundary. -/
  | mediaOfsWrite (v : Word)
  /-- PTP_TRIG_ARM (R466). Arming a PTP trigger entry is accepted or refused. -/
  | ptpTrigArm (n : Fin 8) (v : Word) (edges : Nat)
  /-- EVENT_CAPTURE (R467). A selected edge on EVT_IN_i captures PTP time, MTC and fraction. -/
  | eventCapture (i : Fin 4) (rising close : Bool) (frac : Fin 256) (edges : Nat)
  /-- EVENT_CAPTURE_READ (R467). A read of EVT_MTC_LO latches the capture and releases it. -/
  | eventCaptureRead (i : Fin 4)
  /-- BAR0_REQUEST (R481). A host memory request to BAR_0 becomes matrix or peripheral-bus accesses. -/
  | bar0Request (a : BitVec 24) (bes : List (Fin 16)) (data : Option (List Word))
  /-- BAR0_READ_TIMEOUT (R482). A BAR_0 read not complete after 40 µs completes with 0xFF bytes. -/
  | bar0ReadTimeout (j : Nat)
  /-- HOST_IF_RESET (R483). A hot reset, Function Level Reset or link loss disables the host rings and clears the tunnel enable. -/
  | hostIfReset (loss : Bool)
  /-- HOST_LINK_UP (R494). The manager's PCIe link comes up: HOST_STAT.LINK_UP becomes 1, a LINK event is written and the cause of HOST_LINK_DOWN is gone. -/
  | hostLinkUp (width speed : Fin 8)
  /-- HOST_POWER_STATE (R483). A change to D3hot stops fetching, capture copies and MSI-X until D0. -/
  | hostPowerState (d3 : Bool)
  /-- RING_ENABLE (R484). Setting a ring's EN resets its HEAD, TAIL and phase. -/
  | ringEnable (x : RingSel) (v : Word)
  /-- RING_DISABLE (R484). Clearing a submission ring's EN stops fetching and aborts fetched descriptors. -/
  | ringDisable (x : RingSel) (v : Word)
  /-- SQ_TAIL (R489). A SQ_TAIL doorbell makes the manager fetch descriptors of the ring. -/
  | sqTail (d : Fin 64) (r : Fin 4) (v : Word)
  /-- CQ_HEAD (R486). A CQ_HEAD doorbell returns completion entries to the device. -/
  | cqHead (d : Fin 64) (v : Word)
  /-- EQ_HEAD (R486). An EQ_HEAD doorbell returns event entries to the device. -/
  | eqHead (d : Fin 64) (v : Word)
  /-- CAP_RD (R486). A CAP_RD doorbell returns capture ring space to the device. -/
  | capRd (d : Fin 64) (o : Fin 1024) (v : Word)
  /-- DESCRIPTOR_FETCH (R489). Fetched descriptors are executed, forwarded to a worker or discarded. -/
  | descriptorFetch (d : Fin 64) (r : Fin 4) (ws : List Word)
  /-- MEM_WRITE (R491). Copies the host buffer to consecutive words of a device. -/
  | memWrite (buf : List Word) (ans : List RemAns)
  /-- MEM_READ (R491). Copies consecutive words of a device to the host buffer. -/
  | memRead (ans : List RemAns)
  /-- REG_WRITE (R491). Writes one word to a device address. -/
  | regWrite (ans : Option RemAns)
  /-- REG_READ (R491). Reads one word from a device address. -/
  | regRead (ans : Option RemAns)
  /-- LOAD_PROG (R492). Writes program words to the clusters of a mask and checks them by read-back CRC. -/
  | loadProg (buf : List Word)
  /-- LOAD_TT (R492). Writes the pending task table copy and optionally arms its switch. -/
  | loadTt (buf : List Word)
  /-- LOAD_XING (R492). Writes and validates the pending crossing copy and optionally arms XING_SWITCH. -/
  | loadXing (buf : List Word)
  /-- LOAD_COEF (R492). Writes the non-target coefficient set of a task and optionally arms COEF_SWAP. -/
  | loadCoef (buf : List Word)
  /-- FLOW_SET (R492). Rewrites a flow context and its bridge registers and sets it valid. -/
  | flowSet (buf : List Word)
  /-- LEVEE_SET (R492). Writes consecutive LEVEE registers under the sealing rules. -/
  | leveeSet (buf : List Word)
  /-- METER_SNAP (R492). Reads a list of registers in one consign phase and writes them to the host. -/
  | meterSnap (buf : List Word)
  /-- CAPTURE_HOST_COPY (R495). A committed capture frame is copied whole to the host capture ring when it has room. -/
  | captureHostCopy (c : Fin 8)
  /-- MSIX_TRIG (R496). A write of HOST_MSIX_TRIG requests an MSI-X message on a vector. -/
  | msixTrig (v : Word)
  /-- MSIX_HOLDOFF_END (R496). At the end of a vector's hold-off the merged MSI-X message is sent. -/
  | msixHoldoffEnd (v : Fin 64)
  /-- POWER_ON_RESET (R503). Power-on reset resets the whole device including the always-on domain and identifies the oscillator. -/
  | powerOnReset (tgt : Word) (xo : Nat)
  /-- DEVICE_RESET (R514). RESET_N, a supply below reset or the software key starts a device reset. -/
  | deviceReset (i : Option (Fin 13)) (uv : Nat)
  /-- SOFTWARE_RESET (R516). Writing 0xD0D0 to PWR_RST_CTL.KEY starts a device reset. -/
  | softwareReset (v : Word)
  /-- RESET_END (R515). A device reset ends 1 ms after its last cause, latches straps, initialises SRAM and starts the boot. -/
  | resetEnd (role : Bool) (src : Fin 4) (xo : Nat) (testEn : Bool) (banks : List Nat)
  /-- SUPPLY_WARN (R504). A supply below its warning level for 1 µs forces GALE and a forced sweep. -/
  | supplyWarn (i : Fin 13) (uv : Nat)
  /-- SUPPLY_RECOVERY (R502). A supply above its recovery level for 1 ms has recovered. -/
  | supplyRecovery (i : Fin 13) (uv : Nat)
  /-- AVS_APPLIED_WRITE (R505). A write of PWR_AVS_APPLIED sets the VDD_CORE monitor levels or is refused. -/
  | avsAppliedWrite (v : Word)
  /-- CORE_CLOCK_SELECT (R506). A write of PWR_CLK.SEL changes the cluster clock at the next boundary or is refused. -/
  | coreClockSelect (v : Word)
  /-- SENSOR_CONVERSION (R507). Every 100 µs each die sensor publishes a new reading. -/
  | sensorConversion (i : Fin 8) (t : BitVec 16) (valid : Bool) (ma : BitVec 16) (mv : List (BitVec 16))
  /-- THERM_TRIP (R508). A comparator at 135 °C for 10 µs emits THERM_TRIP and leads to chip safe state. -/
  | thermTrip (i : Fin 8)
  /-- DORMANT_ENTRY (R511). Writing PWR_STATE_CTL.DORMANT in IDLE enters DORMANT, or is refused in RUN. -/
  | dormantEntry (v : Word)
  /-- WAKE (R512). An enabled wake source brings the device from DORMANT to IDLE. -/
  | wake (w : WakeSrc) (role : Bool) (src : Fin 4) (xo : Nat) (testEn : Bool)
  /-- BOOT_IMAGE_CHECK (R518). The boot engine checks a loaded image and releases the core or rejects it. -/
  | bootImageCheck (img : List Byte) (failed : Bool)
  /-- BOOT_GO (R519). Writing PWR_BOOT_CTL.GO makes the engine check the staged image. -/
  | bootGo (v : Word)
  /-- UART_RECOVERY_BYTE (R519). A byte received in UART recovery is staged into the image. -/
  | uartRecoveryByte (b : Byte)
  /-- FUSE_PROG (R539). FUSE_PROG programs the 1 bits of a fuse word when its conditions hold. -/
  | fuseProg (dr : BitVec 64) (mv : Nat) (mc : Int)
  /-- FUSE_READ (R539). FUSE_READ shifts out the addressed fuse word. -/
  | fuseRead (n : BitVec 8)
  /-- TICKS_STOPPED (R44). After RUN was cleared, RUNNING becomes 0 where the next boundary would have fallen and transmit slots take the underfeed ramp. -/
  | ticksStopped
  /-- GATHER_COMPLETE (R47). All four slot DMA engines complete the gather, and dispatch begins if the 0.08T mark has passed. -/
  | gatherComplete
  /-- PILOT_DEADLINE (R249). At the 0.25T mark the pilot judges both members' heartbeats and grants, moves or withholds the grant. -/
  | pilotDeadline
  /-- GRANT_DEADLINE (R253). An ACTIVE device without a grant by its 0.50T mark sends a QUERY over the Tether. -/
  | grantDeadline
  /-- FENCE (R254). One bit-clock period before the boundary, a device that knows its partner holds a newer grant releases its drivers. -/
  | fence
  /-- TICK_STOP (R44). Clearing TICK_CTL.RUN stops ticks after the tick in progress or cancels a pending start. -/
  | tickStop
  /-- TT_ARM (R144). Writing FCST_TT_CTL.ARM validates the pending copy and arms the switch or refuses it. -/
  | ttArm
  /-- TT_DISARM (R146). Writing FCST_TT_CTL.DISARM cancels an armed switch. -/
  | ttDisarm
  /-- FORCE_CAP_RISE (R172). After recovery force_cap rises by one at a boundary and again every HOLD ticks. -/
  | forceCapRise
  /-- XING_VALIDATE (R182). Writing XING_CTL.VALIDATE checks the pending copy and records load and errors. -/
  | xingValidate
  /-- PAIR_SIG_DONE (R242). The configuration signature computation completes within 8 ticks and SIG_VALID returns to 1. -/
  | pairSigDone
  /-- TETHER_DOWN (R252). No heartbeat copy for 2 ticks, or a Tether port not ACTIVE, makes the Tether down. -/
  | tetherDown
  /-- PILOT_MISS (R253). No grant or notice for 2 consecutive ticks sets PILOT_MISS in the health word. -/
  | pilotMiss
  /-- FAULT_REACTION (R292). The chip fault collector applies the base and severe reactions of a message. -/
  | faultReaction
  /-- FAULT_RECORD (R296). At the end of a handling period one record is formed, written to the ring and reported. -/
  | faultRecord
  /-- CHIP_COLL_PARITY (R291). A parity error in the chip fault collector enters chip safe state until device reset. -/
  | chipCollParity
  /-- CORE_LOCKSTEP (R27). The two lockstep cores disagree and CORE_LOCKSTEP is sent to the chip fault collector. -/
  | coreLockstep
  /-- ECC_INJECT_DISARM (R315). A MEM_INJ_CTL write of MODE 0 disarms the injection. -/
  | eccInjectDisarm
  /-- LOCK_ABORT (R326). A locked sequence not done 64 matrix cycles after its grant is broken. -/
  | lockAbort
  /-- REF_NO_LOCK (R342). A selected input that stayed ACQUIRING for 60 s is disqualified. -/
  | refNoLock
  /-- DPLL_LOCKED (R351). The phase error stayed within LOCK_NS for 1 s, the DPLL is LOCKED and the selection is evaluated. -/
  | dpllLocked
  /-- HOLDOVER_LOST (R352). The holdover timer reaches HO_LIMIT and the DPLL enters LOST. -/
  | holdoverLost
  /-- NOP_COMMAND (R491). The NOP command completes with no action. -/
  | nopCommand
  /-- SCHEDULE (R492). Arms the lowest-numbered free TIME_SCHED entry. -/
  | schedule
  /-- LEVEE_SEAL (R492). Writes the seal key to LEVEE_SEAL. -/
  | leveeSeal
  /-- HEALTH (R492). Writes the health report to the host buffer. -/
  | health
  /-- FAULT_FETCH (R492). Copies fault records to the host and advances FAULT_REC_RD. -/
  | faultFetch
  /-- BAD_OPCODE (R491). A descriptor with a reserved opcode completes with BAD_OPCODE. -/
  | badOpcode
  /-- THERM_TRIP_RELEASE (R508). All comparators below 125 °C for 1 s release the trip. -/
  | thermTripRelease
  /-- UART_GAP_TIMEOUT (R519). A gap of 1 s between bytes returns UART recovery to waiting. -/
  | uartGapTimeout
  /-- UART_PROMPT (R519). Every 100 ms while waiting the device sends 0x3F on the UART. -/
  | uartPrompt
  /-- EXTEST (R538). The JTAG EXTEST instruction gives the boundary cells every signal ball. -/
  | extest
  /-- IDCODE (R538). The JTAG IDCODE instruction selects the identification register. -/
  | idcode
  /-- SAMPLE_PRELOAD (R538). The JTAG SAMPLE/PRELOAD instruction samples or preloads the boundary scan register. -/
  | samplePreload
  /-- EXTEST_PULSE (R538). The JTAG EXTEST_PULSE instruction tests AC-coupled lanes. -/
  | extestPulse
  /-- EXTEST_TRAIN (R538). The JTAG EXTEST_TRAIN instruction tests AC-coupled lanes. -/
  | extestTrain
  /-- HIGHZ (R538). The JTAG HIGHZ instruction places the outputs at high impedance. -/
  | highz
  /-- CLAMP (R538). The JTAG CLAMP instruction holds the boundary outputs. -/
  | clamp
  /-- BYPASS (R538). The JTAG BYPASS instruction, or a reserved code, selects the bypass register. -/
  | bypass
  /-- SAMPLE_BOUNDARY (R36). At the start of every sample period of the media clock the MTC increments, and changes deferred to the next sample boundary take effect. -/
  | sampleBoundary
  /-- CONTROL_CORE_RESTART_END (R27). The restarted control core runs firmware again, and held doorbells, descriptors and pending interrupts are processed. -/
  | controlCoreRestartEnd
  /-- CONSIGNMENT_SENT (R259). The last message of a consignment has been transmitted over the Tether, and PAIR_CNS_SENT increments. -/
  | consignmentSent
  /-- TEST_LOGIC_RESET (R537). TRST_N held low for at least 50 ns resets the JTAG test logic. -/
  | testLogicReset
  deriving DecidableEq, Repr

end Sys2Proof
end

