-- ==== Sys2Proof/Decode.lean ====
section
/-!
DEFINITION. The command that a word spells. No row of the opcode table gives its command any bits: commands come as
accesses, edges and messages, so no word spells one.
-/
namespace Sys2Proof

/-- The command spelt by the `nbits` bits of `w`: none, for every word. -/
def decodeTableWord (_nbits _w : Nat) : Option Instr := none

end Sys2Proof
end

