-- ==== Sys2Proof/Machine/Crypto.lean ====
section
/-!
DEFINITION. The two algorithms of a signed image that the spec names and does not define (R517, R518): SHA-256, and the
verification of an ECDSA signature over the curve P-256, as their public standards give them.
-/
namespace Sys2Proof.Machine

/-! ## SHA-256 -/

/-- The greatest number below 2 ^ `m` whose `k`-th power is at most `n`. -/
def rootFloor (k n m : Nat) : Nat :=
  (List.range m).foldr (fun b r => if (r + 2 ^ b) ^ k ≤ n then r + 2 ^ b else r) 0

/-- The first `n` primes below 312. -/
def shaPrimes (n : Nat) : List Nat :=
  ((List.range 312).filter (fun p => decide (1 < p) && (List.range 18).all (fun d => decide (d < 2 ∨ p ≤ d) || p % d != 0))).take n

/-- The first 32 bits after the point of the `k`-th roots of the first `n` primes: with k = 3 the round constants, with k = 2
the hash of no block. -/
def shaRoots (k n : Nat) : List Word :=
  (shaPrimes n).map (fun p => BitVec.ofNat 32 (rootFloor k (p * 2 ^ (32 * k)) 40))

def shaK : List Word := shaRoots 3 64

def ror (w : Word) (n : Nat) : Word := w.rotateRight n

/-- The word that follows the last sixteen of the schedule `w`, newest first. -/
def shaNext (w : List Word) : Word :=
  let a := w.getD 1 0
  let b := w.getD 14 0
  (ror a 17 ^^^ ror a 19 ^^^ (a >>> 10)) + w.getD 6 0 + (ror b 7 ^^^ ror b 18 ^^^ (b >>> 3)) + w.getD 15 0

/-- The schedule of a block of sixteen words, newest first, after `n` more words. -/
def shaSchedule : Nat → List Word → List Word
  | 0, w => w
  | n + 1, w => let v := shaSchedule n w; shaNext v :: v

/-- One round. -/
def shaRound (h : List Word) (k : Word × Word) : List Word :=
  match h with
  | [a, b, c, d, e, f, g, x] =>
    let t := x + (ror e 6 ^^^ ror e 11 ^^^ ror e 25) + ((e &&& f) ^^^ (~~~e &&& g)) + k.1 + k.2
    let u := (ror a 2 ^^^ ror a 13 ^^^ ror a 22) + ((a &&& b) ^^^ (a &&& c) ^^^ (b &&& c))
    [t + u, a, b, c, d + t, e, f, g]
  | _ => h

/-- One block of sixteen words. -/
def shaBlock (h : List Word) (m : List Word) : List Word :=
  let w := (shaSchedule 48 m.reverse).reverse
  List.zipWith (· + ·) h ((shaK.zip w).foldl shaRound h)

/-- Bytes as big-endian words. -/
def beWords : List Byte → List Word
  | a :: b :: c :: d :: l => (a ++ b ++ c ++ d) :: beWords l
  | _ => []

/-- The blocks of a padded message. -/
def shaBlocks : List Word → Nat → List Word → List Word
  | h, 0, _ => h
  | h, n + 1, w => shaBlocks (shaBlock h (w.take 16)) n (w.drop 16)

/-- The message padded to whole blocks. -/
def shaPad (bs : List Byte) : List Byte :=
  let n := bs.length
  let len : BitVec 64 := BitVec.ofNat 64 (8 * n)
  bs ++ [0x80#8] ++ List.replicate ((119 - n % 64) % 64) 0 ++
    (List.range 8).map (fun i => len.extractLsb' (56 - 8 * i) 8)

/-- SHA-256, as eight words. Log 63, PRESUMED. -/
def sha256 (bs : List Byte) : List Word :=
  let p := shaPad bs
  shaBlocks (shaRoots 2 8) (p.length / 64) (beWords p)

/-- A list of big-endian words, and of big-endian bytes, as a number. -/
def wordsNat (ws : List Word) : Nat := ws.foldl (fun n w => n * 2 ^ 32 + w.toNat) 0
def bytesNat (bs : List Byte) : Nat := bs.foldl (fun n b => n * 256 + b.toNat) 0

/-! ## P-256 -/

def ecP : Nat := 0xffffffff00000001000000000000000000000000ffffffffffffffffffffffff
def ecN : Nat := 0xffffffff00000000ffffffffffffffffbce6faada7179e84f3b9cac2fc632551
def ecB : Nat := 0x5ac635d8aa3a93e7b3ebbd55769886bc651d06b0cc53b0f63bce3c3e27d2604b
def ecGx : Nat := 0x6b17d1f2e12c4247f8bce6e563a440f277037d812deb33a0f4a13945d898c296
def ecGy : Nat := 0x4fe342e2fe1a7f9b8ee7eb4a7c0f9e162bce33576b315ececbb6406837bf51f5

/-- `b` to the power of `e` modulo `m`, over `n` bits of `e`. -/
def powMod (m b : Nat) : Nat → Nat → Nat
  | 0, _ => 1
  | n + 1, e => let h := powMod m b n (e / 2); if e % 2 = 1 then h * h % m * b % m else h * h % m

/-- The inverse modulo a prime. -/
def invMod (m a : Nat) : Nat := powMod m a 256 (m - 2)

/-- The difference modulo the prime of the curve. -/
def ecSub (a b : Nat) : Nat := (a + ecP - b % ecP) % ecP

/-- A point of the curve; none is the point at infinity. -/
abbrev EcPoint := Option (Nat × Nat)

def ecAdd (p q : EcPoint) : EcPoint :=
  match p, q with
  | none, _ => q
  | _, none => p
  | some (x1, y1), some (x2, y2) =>
    if x1 = x2 ∧ (y1 + y2) % ecP = 0 then none
    else
      let l := if x1 = x2 then (3 * x1 * x1 + (ecP - 3)) % ecP * invMod ecP (2 * y1 % ecP) % ecP
        else ecSub y2 y1 * invMod ecP (ecSub x2 x1) % ecP
      let x := ecSub (ecSub (l * l % ecP) x1) x2
      some (x, ecSub (l * ecSub x1 x % ecP) y1)

/-- `k` times a point, over `n` bits of `k`. -/
def ecMul (p : EcPoint) : Nat → Nat → EcPoint
  | 0, _ => none
  | n + 1, k => let h := ecMul p n (k / 2); let d := ecAdd h h; if k % 2 = 1 then ecAdd d p else d

/-- Whether a point lies on the curve. -/
def ecOn (x y : Nat) : Bool :=
  decide (x < ecP ∧ y < ecP) && y * y % ecP == (x * x % ecP * x + (ecP - 3) * x + ecB) % ecP

/-- Whether (r, s) is a signature of the hash `z` under the public key (qx, qy). Log 63, PRESUMED. -/
def ecdsaOk (qx qy r s z : Nat) : Bool :=
  if !ecOn qx qy ∨ r = 0 ∨ s = 0 ∨ ecN ≤ r ∨ ecN ≤ s then false
  else
    let w := invMod ecN s
    match ecAdd (ecMul (some (ecGx, ecGy)) 256 (z % ecN * w % ecN)) (ecMul (some (qx, qy)) 256 (r * w % ecN)) with
    | none => false
    | some (x, _) => x % ecN == r

end Sys2Proof.Machine
end

