-- ==== Sys2Proof/Config.lean ====
section
/-!
DEFINITION. The free values of the model: constants without a body, so that nothing can be proved of a value the
manual leaves open. Each is applied to the state's counter of free values, which the step advances.
-/
namespace Sys2Proof

/-- A deviation of a fixed-point result from the exact value, in units of its register field; it is clipped to the one
unit that R160 allows where it is used. -/
opaque Config.rounding : Nat → Int

/-- Values that the spec does not state: the results of a SCHEDULE with no entry to arm, the CRC of a LOAD_PROG that names no
cluster, and the power of a thermal update before which no tick has ended while the monitor is invalid (log entries 4, 26
and 57). -/
opaque Config.freeWord : Nat → Word

end Sys2Proof
end

