-- ==== Sys2Proof/Machine/RegTypes.lean ====
section
/-!
DEFINITION. What a register description says (R9, R10, R14): fields with access types, arrays, reset values.
-/
namespace Sys2Proof.Machine

/-- Access types of register fields (R10). -/
inductive Access where
  | rw | ro | wo | w1c | w1s | w1cg | seal
  deriving DecidableEq, Repr

/-- A field of a register of the map: bits `hi` to `lo` and their access. -/
structure FieldSpec where
  hi : Nat
  lo : Nat
  acc : Access
  deriving DecidableEq, Repr

/-- A register or register array: `base` is the address of its first member, `dims` the stride and count of each
index, outermost first, and `reset` its reset values by innermost index (the last one repeats). -/
structure RegSpec where
  name : String
  base : Nat
  dims : List (Nat × Nat)
  reset : List Nat
  far : Bool
  fields : List FieldSpec
  deriving DecidableEq, Repr

/-- A named field: the address of its register and its bits. -/
structure Fld where
  reg : Nat
  hi : Nat
  lo : Nat
  deriving DecidableEq, Repr

/-- The indices of the member at byte offset `off` from an array's base, if `off` is one. -/
def RegSpec.indices : List (Nat × Nat) → Nat → Option (List Nat)
  | [], off => if off = 0 then some [] else none
  | (st, n) :: ds, off =>
    if off / st < n then (RegSpec.indices ds (off % st)).map (off / st :: ·) else none

/-- The indices of the member of `r` at address `a`. -/
def RegSpec.member (r : RegSpec) (a : Nat) : Option (List Nat) :=
  if a < r.base then none else RegSpec.indices r.dims (a - r.base)

/-- The reset value of the member with indices `ix`. -/
def RegSpec.resetAt (r : RegSpec) (ix : List Nat) : Nat :=
  let i := ix.getLastD 0
  (r.reset[i]?).getD (r.reset.getLastD 0)

/-- Mask of bits `hi` to `lo`. -/
def bitMask (hi lo : Nat) : Nat := (2 ^ (hi + 1 - lo) - 1) * 2 ^ lo

/-- The value of bits `hi` to `lo` of `w`. -/
def bitsOf (w : Word) (hi lo : Nat) : Nat := w.toNat / 2 ^ lo % 2 ^ (hi + 1 - lo)

/-- `w` with bits `hi` to `lo` replaced by the low bits of `v`. -/
def putBits (w : Word) (hi lo v : Nat) : Word :=
  (w &&& ~~~(BitVec.ofNat 32 (bitMask hi lo))) ||| BitVec.ofNat 32 (v % 2 ^ (hi + 1 - lo) * 2 ^ lo)

/-- The two's-complement reading of the `n`-bit value `v` (R7). -/
def signed (n v : Nat) : Int := if v % 2 ^ n < 2 ^ (n - 1) then ((v % 2 ^ n : Nat) : Int) else ((v % 2 ^ n : Nat) : Int) - 2 ^ n

/-- The `n`-bit two's-complement code of `v` (R7). -/
def unsigned (n : Nat) (v : Int) : Nat := (v % (2 ^ n : Nat)).toNat

/-- `v` clipped to `lo` to `hi`. -/
def clip (lo hi v : Int) : Int := if v < lo then lo else if hi < v then hi else v

end Sys2Proof.Machine
end

