-- ==== Sys2Proof/Machine/RegMap.lean ====
section
/-!
DEFINITION. The register map: for every register of every block, its name, first address, array strides and
counts (outermost first), reset value(s), FAR mark and fields, as the register tables of spec/01 to spec/18 give them.
`R.<NAME>` is a register's address (one argument per array index) and `F.<NAME>_<FIELD>` one of its fields.
A flow context or bridge context index argument counts from 1, as the tables number them.
-/
namespace Sys2Proof.Machine


/-! ## CHIP: the registers of spec/01_architecture.md -/

namespace R

def CHIP_ID : Nat := 0x03000000
def CHIP_STRAP : Nat := 0x03000004
def CHIP_STATE : Nat := 0x03000008
end R

namespace F

def CHIP_ID_PART : Fld := ⟨R.CHIP_ID, 31, 16⟩
def CHIP_ID_REV_MAJOR : Fld := ⟨R.CHIP_ID, 15, 12⟩
def CHIP_ID_REV_MINOR : Fld := ⟨R.CHIP_ID, 11, 8⟩
def CHIP_ID_FAMILY : Fld := ⟨R.CHIP_ID, 7, 0⟩
def CHIP_STRAP_STRAP_CONFLICT : Fld := ⟨R.CHIP_STRAP, 8, 8⟩
def CHIP_STRAP_ROLE : Fld := ⟨R.CHIP_STRAP, 4, 4⟩
def CHIP_STRAP_BOOT_SRC : Fld := ⟨R.CHIP_STRAP, 1, 0⟩
def CHIP_STATE_CORE_RESTARTS : Fld := ⟨R.CHIP_STATE, 23, 16⟩
def CHIP_STATE_CHIP_SAFE : Fld := ⟨R.CHIP_STATE, 8, 8⟩
def CHIP_STATE_REGION_SAFE : Fld := ⟨R.CHIP_STATE, 6, 0⟩
end F

def regsChip : List RegSpec :=
  [
   ⟨"CHIP_ID", 0x03000000, [], [0x9664B001], false, [⟨31, 16, .ro⟩, ⟨15, 12, .ro⟩, ⟨11, 8, .ro⟩, ⟨7, 0, .ro⟩]⟩,
   ⟨"CHIP_STRAP", 0x03000004, [], [0], false, [⟨8, 8, .ro⟩, ⟨4, 4, .ro⟩, ⟨1, 0, .ro⟩]⟩,
   ⟨"CHIP_STATE", 0x03000008, [], [0], false, [⟨23, 16, .ro⟩, ⟨8, 8, .ro⟩, ⟨6, 0, .ro⟩]⟩]

/-! ## TIME: the registers of spec/02_the_tick.md -/

namespace R

def TICK_CFG : Nat := 0x03070000
def TICK_CTL : Nat := 0x03070004
def TICK_STAT : Nat := 0x03070008
def TIME_MTC_LO : Nat := 0x03070010
def TIME_MTC_HI : Nat := 0x03070014
def TIME_TICK_LO : Nat := 0x03070018
def TIME_TICK_HI : Nat := 0x0307001C
def TIME_BASE_MTC_LO : Nat := 0x03070020
def TIME_BASE_MTC_HI : Nat := 0x03070024
def TIME_BASE_TICK_LO : Nat := 0x03070028
def TIME_BASE_TICK_HI : Nat := 0x0307002C
def TIME_MTC_SET_LO : Nat := 0x03070030
def TIME_MTC_SET_HI : Nat := 0x03070034
def TIME_TICK_SET_LO : Nat := 0x03070038
def TIME_TICK_SET_HI : Nat := 0x0307003C
def TIME_OVERRUN_CNT : Nat := 0x03070040
def TIME_GATHER_LATE_CNT : Nat := 0x03070044
def TIME_DIST_LATE_CNT : Nat := 0x03070048
def TIME_LAST_OVR : Nat := 0x0307004C
def TIME_SCHED_TGT_LO (a : Nat) : Nat := 0x03070100 + a * 0x10
def TIME_SCHED_TGT_HI (a : Nat) : Nat := 0x03070104 + a * 0x10
def TIME_SCHED_ACT (a : Nat) : Nat := 0x03070108 + a * 0x10
end R

namespace F

def TICK_CFG_FS_SEL : Fld := ⟨R.TICK_CFG, 10, 8⟩
def TICK_CFG_N_LOG2 : Fld := ⟨R.TICK_CFG, 2, 0⟩
def TICK_CTL_RUN : Fld := ⟨R.TICK_CTL, 0, 0⟩
def TICK_STAT_START_PENDING : Fld := ⟨R.TICK_STAT, 10, 10⟩
def TICK_STAT_MTC_AHEAD : Fld := ⟨R.TICK_STAT, 9, 9⟩
def TICK_STAT_MTC_STALE : Fld := ⟨R.TICK_STAT, 8, 8⟩
def TICK_STAT_SCHED_MISSED : Fld := ⟨R.TICK_STAT, 7, 7⟩
def TICK_STAT_SCHED_REFUSED : Fld := ⟨R.TICK_STAT, 6, 6⟩
def TICK_STAT_DIST_LATE : Fld := ⟨R.TICK_STAT, 5, 5⟩
def TICK_STAT_OVERRUN : Fld := ⟨R.TICK_STAT, 4, 4⟩
def TICK_STAT_GATHER_LATE : Fld := ⟨R.TICK_STAT, 3, 3⟩
def TICK_STAT_SET_REFUSED : Fld := ⟨R.TICK_STAT, 2, 2⟩
def TICK_STAT_CFG_REFUSED : Fld := ⟨R.TICK_STAT, 1, 1⟩
def TICK_STAT_RUNNING : Fld := ⟨R.TICK_STAT, 0, 0⟩
def TIME_MTC_LO_V : Fld := ⟨R.TIME_MTC_LO, 31, 0⟩
def TIME_MTC_HI_V : Fld := ⟨R.TIME_MTC_HI, 31, 0⟩
def TIME_TICK_LO_V : Fld := ⟨R.TIME_TICK_LO, 31, 0⟩
def TIME_TICK_HI_V : Fld := ⟨R.TIME_TICK_HI, 31, 0⟩
def TIME_BASE_MTC_LO_V : Fld := ⟨R.TIME_BASE_MTC_LO, 31, 0⟩
def TIME_BASE_MTC_HI_V : Fld := ⟨R.TIME_BASE_MTC_HI, 31, 0⟩
def TIME_BASE_TICK_LO_V : Fld := ⟨R.TIME_BASE_TICK_LO, 31, 0⟩
def TIME_BASE_TICK_HI_V : Fld := ⟨R.TIME_BASE_TICK_HI, 31, 0⟩
def TIME_MTC_SET_LO_V : Fld := ⟨R.TIME_MTC_SET_LO, 31, 0⟩
def TIME_MTC_SET_HI_V : Fld := ⟨R.TIME_MTC_SET_HI, 31, 0⟩
def TIME_TICK_SET_LO_V : Fld := ⟨R.TIME_TICK_SET_LO, 31, 0⟩
def TIME_TICK_SET_HI_V : Fld := ⟨R.TIME_TICK_SET_HI, 31, 0⟩
def TIME_OVERRUN_CNT_V : Fld := ⟨R.TIME_OVERRUN_CNT, 31, 0⟩
def TIME_GATHER_LATE_CNT_V : Fld := ⟨R.TIME_GATHER_LATE_CNT, 31, 0⟩
def TIME_DIST_LATE_CNT_V : Fld := ⟨R.TIME_DIST_LATE_CNT, 31, 0⟩
def TIME_LAST_OVR_TICK : Fld := ⟨R.TIME_LAST_OVR, 31, 7⟩
def TIME_LAST_OVR_TASK : Fld := ⟨R.TIME_LAST_OVR, 6, 0⟩
def TIME_SCHED_TGT_LO_TGT_LO (a : Nat) : Fld := ⟨R.TIME_SCHED_TGT_LO a, 31, 0⟩
def TIME_SCHED_TGT_HI_TGT_HI (a : Nat) : Fld := ⟨R.TIME_SCHED_TGT_HI a, 31, 0⟩
def TIME_SCHED_ACT_STATE (a : Nat) : Fld := ⟨R.TIME_SCHED_ACT a, 31, 29⟩
def TIME_SCHED_ACT_ARM (a : Nat) : Fld := ⟨R.TIME_SCHED_ACT a, 28, 28⟩
def TIME_SCHED_ACT_TYPE (a : Nat) : Fld := ⟨R.TIME_SCHED_ACT a, 27, 24⟩
def TIME_SCHED_ACT_ARG (a : Nat) : Fld := ⟨R.TIME_SCHED_ACT a, 15, 0⟩
end F

def regsTime : List RegSpec :=
  [
   ⟨"TICK_CFG", 0x03070000, [], [0x302], false, [⟨10, 8, .rw⟩, ⟨2, 0, .rw⟩]⟩,
   ⟨"TICK_CTL", 0x03070004, [], [0], false, [⟨0, 0, .rw⟩]⟩,
   ⟨"TICK_STAT", 0x03070008, [], [0], false, [⟨10, 10, .ro⟩, ⟨9, 9, .ro⟩, ⟨8, 8, .ro⟩, ⟨7, 7, .w1c⟩, ⟨6, 6, .w1c⟩, ⟨5, 5, .w1c⟩, ⟨4, 4, .w1c⟩, ⟨3, 3, .w1c⟩, ⟨2, 2, .w1c⟩, ⟨1, 1, .w1c⟩, ⟨0, 0, .ro⟩]⟩,
   ⟨"TIME_MTC_LO", 0x03070010, [], [0], false, [⟨31, 0, .ro⟩]⟩,
   ⟨"TIME_MTC_HI", 0x03070014, [], [0], false, [⟨31, 0, .ro⟩]⟩,
   ⟨"TIME_TICK_LO", 0x03070018, [], [0], false, [⟨31, 0, .ro⟩]⟩,
   ⟨"TIME_TICK_HI", 0x0307001C, [], [0], false, [⟨31, 0, .ro⟩]⟩,
   ⟨"TIME_BASE_MTC_LO", 0x03070020, [], [0], false, [⟨31, 0, .ro⟩]⟩,
   ⟨"TIME_BASE_MTC_HI", 0x03070024, [], [0], false, [⟨31, 0, .ro⟩]⟩,
   ⟨"TIME_BASE_TICK_LO", 0x03070028, [], [0], false, [⟨31, 0, .ro⟩]⟩,
   ⟨"TIME_BASE_TICK_HI", 0x0307002C, [], [0], false, [⟨31, 0, .ro⟩]⟩,
   ⟨"TIME_MTC_SET_LO", 0x03070030, [], [0], false, [⟨31, 0, .wo⟩]⟩,
   ⟨"TIME_MTC_SET_HI", 0x03070034, [], [0], false, [⟨31, 0, .wo⟩]⟩,
   ⟨"TIME_TICK_SET_LO", 0x03070038, [], [0], false, [⟨31, 0, .wo⟩]⟩,
   ⟨"TIME_TICK_SET_HI", 0x0307003C, [], [0], false, [⟨31, 0, .wo⟩]⟩,
   ⟨"TIME_OVERRUN_CNT", 0x03070040, [], [0], false, [⟨31, 0, .ro⟩]⟩,
   ⟨"TIME_GATHER_LATE_CNT", 0x03070044, [], [0], false, [⟨31, 0, .ro⟩]⟩,
   ⟨"TIME_DIST_LATE_CNT", 0x03070048, [], [0], false, [⟨31, 0, .ro⟩]⟩,
   ⟨"TIME_LAST_OVR", 0x0307004C, [], [0], false, [⟨31, 7, .ro⟩, ⟨6, 0, .ro⟩]⟩,
   ⟨"TIME_SCHED_TGT_LO", 0x03070100, [(0x10, 32)], [0], false, [⟨31, 0, .rw⟩]⟩,
   ⟨"TIME_SCHED_TGT_HI", 0x03070104, [(0x10, 32)], [0], false, [⟨31, 0, .rw⟩]⟩,
   ⟨"TIME_SCHED_ACT", 0x03070108, [(0x10, 32)], [0], false, [⟨31, 29, .ro⟩, ⟨28, 28, .wo⟩, ⟨27, 24, .rw⟩, ⟨15, 0, .rw⟩]⟩]

/-! ## LANE: the registers of spec/03_lane_datapath.md -/

namespace R

def LREG_D (a b c : Nat) : Nat := 0x010F8000 + a * 0x00100000 + b * 0x100 + c * 4
def LREG_ACC_LO (a b c : Nat) : Nat := 0x010F8040 + a * 0x00100000 + b * 0x100 + c * 0x10
def LREG_ACC_MID (a b c : Nat) : Nat := 0x010F8044 + a * 0x00100000 + b * 0x100 + c * 0x10
def LREG_ACC_HI (a b c : Nat) : Nat := 0x010F8048 + a * 0x00100000 + b * 0x100 + c * 0x10
def LREG_PF (a b : Nat) : Nat := 0x010F8080 + a * 0x00100000 + b * 0x100
def LSTAT (a b : Nat) : Nat := 0x010F8084 + a * 0x00100000 + b * 0x100
def SHADOW_CTL (a : Nat) : Nat := 0x010FA000 + a * 0x00100000
def SHADOW_STAT (a : Nat) : Nat := 0x010FA004 + a * 0x00100000
def SHADOW_MM_CNT (a : Nat) : Nat := 0x010FA008 + a * 0x00100000
def SHADOW_LAST (a : Nat) : Nat := 0x010FA00C + a * 0x00100000
def LANE_MAP (a : Nat) : Nat := 0x010FA010 + a * 0x00100000
def ARITH_CNT (a : Nat) : Nat := 0x010FA014 + a * 0x00100000
end R

namespace F

def LREG_D_D (a b c : Nat) : Fld := ⟨R.LREG_D a b c, 31, 0⟩
def LREG_ACC_LO_ACC_LO (a b c : Nat) : Fld := ⟨R.LREG_ACC_LO a b c, 31, 0⟩
def LREG_ACC_MID_ACC_MID (a b c : Nat) : Fld := ⟨R.LREG_ACC_MID a b c, 31, 0⟩
def LREG_ACC_HI_SIGN (a b c : Nat) : Fld := ⟨R.LREG_ACC_HI a b c, 31, 16⟩
def LREG_ACC_HI_GUARD (a b c : Nat) : Fld := ⟨R.LREG_ACC_HI a b c, 15, 0⟩
def LREG_PF_PF (a b : Nat) : Fld := ⟨R.LREG_PF a b, 3, 0⟩
def LSTAT_OFS_RANGE (a b : Nat) : Fld := ⟨R.LSTAT a b, 2, 2⟩
def LSTAT_SAT (a b : Nat) : Fld := ⟨R.LSTAT a b, 1, 1⟩
def LSTAT_AOV (a b : Nat) : Fld := ⟨R.LSTAT a b, 0, 0⟩
def SHADOW_CTL_INJ (a : Nat) : Fld := ⟨R.SHADOW_CTL a, 8, 8⟩
def SHADOW_CTL_EN (a : Nat) : Fld := ⟨R.SHADOW_CTL a, 0, 0⟩
def SHADOW_STAT_L (a : Nat) : Fld := ⟨R.SHADOW_STAT a, 23, 20⟩
def SHADOW_STAT_PTR (a : Nat) : Fld := ⟨R.SHADOW_STAT a, 19, 16⟩
def SHADOW_STAT_MISMATCH (a : Nat) : Fld := ⟨R.SHADOW_STAT a, 10, 10⟩
def SHADOW_STAT_SPARE_FAIL (a : Nat) : Fld := ⟨R.SHADOW_STAT a, 9, 9⟩
def SHADOW_STAT_UNPROT (a : Nat) : Fld := ⟨R.SHADOW_STAT a, 8, 8⟩
def SHADOW_STAT_STATE (a : Nat) : Fld := ⟨R.SHADOW_STAT a, 2, 0⟩
def SHADOW_MM_CNT_COUNT (a : Nat) : Fld := ⟨R.SHADOW_MM_CNT a, 31, 0⟩
def SHADOW_LAST_LANE (a : Nat) : Fld := ⟨R.SHADOW_LAST a, 31, 28⟩
def SHADOW_LAST_TICK (a : Nat) : Fld := ⟨R.SHADOW_LAST a, 27, 0⟩
def LANE_MAP_BIST_PASSES (a : Nat) : Fld := ⟨R.LANE_MAP a, 31, 24⟩
def LANE_MAP_BIST_FAIL (a : Nat) : Fld := ⟨R.LANE_MAP a, 17, 17⟩
def LANE_MAP_RETIRED (a : Nat) : Fld := ⟨R.LANE_MAP a, 8, 8⟩
def LANE_MAP_RETIRED_LANE (a : Nat) : Fld := ⟨R.LANE_MAP a, 3, 0⟩
def ARITH_CNT_COUNT (a : Nat) : Fld := ⟨R.ARITH_CNT a, 31, 0⟩
end F

def regsLane : List RegSpec :=
  [
   ⟨"LREG_D", 0x010F8000, [(0x00100000, 16), (0x100, 17), (4, 16)], [0], false, [⟨31, 0, .ro⟩]⟩,
   ⟨"LREG_ACC_LO", 0x010F8040, [(0x00100000, 16), (0x100, 17), (0x10, 4)], [0], false, [⟨31, 0, .ro⟩]⟩,
   ⟨"LREG_ACC_MID", 0x010F8044, [(0x00100000, 16), (0x100, 17), (0x10, 4)], [0], false, [⟨31, 0, .ro⟩]⟩,
   ⟨"LREG_ACC_HI", 0x010F8048, [(0x00100000, 16), (0x100, 17), (0x10, 4)], [0], false, [⟨31, 16, .ro⟩, ⟨15, 0, .ro⟩]⟩,
   ⟨"LREG_PF", 0x010F8080, [(0x00100000, 16), (0x100, 17)], [0], false, [⟨3, 0, .ro⟩]⟩,
   ⟨"LSTAT", 0x010F8084, [(0x00100000, 16), (0x100, 17)], [0], false, [⟨2, 2, .w1c⟩, ⟨1, 1, .w1c⟩, ⟨0, 0, .w1c⟩]⟩,
   ⟨"SHADOW_CTL", 0x010FA000, [(0x00100000, 16)], [1], false, [⟨8, 8, .w1s⟩, ⟨0, 0, .rw⟩]⟩,
   ⟨"SHADOW_STAT", 0x010FA004, [(0x00100000, 16)], [0], false, [⟨23, 20, .ro⟩, ⟨19, 16, .ro⟩, ⟨10, 10, .w1c⟩, ⟨9, 9, .ro⟩, ⟨8, 8, .ro⟩, ⟨2, 0, .ro⟩]⟩,
   ⟨"SHADOW_MM_CNT", 0x010FA008, [(0x00100000, 16)], [0], false, [⟨31, 0, .ro⟩]⟩,
   ⟨"SHADOW_LAST", 0x010FA00C, [(0x00100000, 16)], [0], false, [⟨31, 28, .ro⟩, ⟨27, 0, .ro⟩]⟩,
   ⟨"LANE_MAP", 0x010FA010, [(0x00100000, 16)], [0], false, [⟨31, 24, .ro⟩, ⟨17, 17, .ro⟩, ⟨8, 8, .ro⟩, ⟨3, 0, .ro⟩]⟩,
   ⟨"ARITH_CNT", 0x010FA014, [(0x00100000, 16)], [0], false, [⟨31, 0, .ro⟩]⟩]

/-! ## ADDR: the registers of spec/04_addressing_and_loops.md -/

namespace R

def ADR_P (a b : Nat) : Nat := 0x010FB000 + a * 0x00100000 + b * 0x10
def ADR_B (a b : Nat) : Nat := 0x010FB004 + a * 0x00100000 + b * 0x10
def ADR_LEN (a b : Nat) : Nat := 0x010FB008 + a * 0x00100000 + b * 0x10
def ADR_M (a b : Nat) : Nat := 0x010FB00C + a * 0x00100000 + b * 0x10
def LOOP_LC (a b : Nat) : Nat := 0x010FB100 + a * 0x00100000 + b * 8
def LOOP_RANGE (a b : Nat) : Nat := 0x010FB104 + a * 0x00100000 + b * 8
def LOOP_STAT (a : Nat) : Nat := 0x010FB120 + a * 0x00100000
def ADDR_STAT (a : Nat) : Nat := 0x010FB200 + a * 0x00100000
def BANK_STALL (a : Nat) : Nat := 0x010FB204 + a * 0x00100000
def EXT_STALL (a : Nat) : Nat := 0x010FB208 + a * 0x00100000
def LOFS (a b c : Nat) : Nat := 0x010FC000 + a * 0x00100000 + b * 0x20 + c * 4
end R

namespace F

def ADR_P_BND (a b : Nat) : Fld := ⟨R.ADR_P a b, 30, 28⟩
def ADR_P_P (a b : Nat) : Fld := ⟨R.ADR_P a b, 19, 0⟩
def ADR_B_B (a b : Nat) : Fld := ⟨R.ADR_B a b, 19, 0⟩
def ADR_LEN_LEN (a b : Nat) : Fld := ⟨R.ADR_LEN a b, 19, 0⟩
def ADR_M_SIGN (a b : Nat) : Fld := ⟨R.ADR_M a b, 31, 16⟩
def ADR_M_M (a b : Nat) : Fld := ⟨R.ADR_M a b, 15, 0⟩
def LOOP_LC_LC (a b : Nat) : Fld := ⟨R.LOOP_LC a b, 15, 0⟩
def LOOP_RANGE_LE (a b : Nat) : Fld := ⟨R.LOOP_RANGE a b, 28, 16⟩
def LOOP_RANGE_LS (a b : Nat) : Fld := ⟨R.LOOP_RANGE a b, 12, 0⟩
def LOOP_STAT_DEPTH (a : Nat) : Fld := ⟨R.LOOP_STAT a, 2, 0⟩
def ADDR_STAT_MOD_RANGE (a : Nat) : Fld := ⟨R.ADDR_STAT a, 15, 8⟩
def ADDR_STAT_CIRC_RESET (a : Nat) : Fld := ⟨R.ADDR_STAT a, 7, 0⟩
def BANK_STALL_COUNT (a : Nat) : Fld := ⟨R.BANK_STALL a, 31, 0⟩
def EXT_STALL_COUNT (a : Nat) : Fld := ⟨R.EXT_STALL a, 31, 0⟩
def LOFS_SIGN (a b c : Nat) : Fld := ⟨R.LOFS a b c, 31, 24⟩
def LOFS_INT (a b c : Nat) : Fld := ⟨R.LOFS a b c, 23, 8⟩
def LOFS_FRAC (a b c : Nat) : Fld := ⟨R.LOFS a b c, 7, 0⟩
end F

def regsAddr : List RegSpec :=
  [
   ⟨"ADR_P", 0x010FB000, [(0x00100000, 16), (0x10, 8)], [0, 0x10000000, 0x20000000, 0x30000000, 0x40000000, 0x50000000, 0x60000000, 0x70000000], false, [⟨30, 28, .ro⟩, ⟨19, 0, .ro⟩]⟩,
   ⟨"ADR_B", 0x010FB004, [(0x00100000, 16), (0x10, 8)], [0], false, [⟨19, 0, .ro⟩]⟩,
   ⟨"ADR_LEN", 0x010FB008, [(0x00100000, 16), (0x10, 8)], [0], false, [⟨19, 0, .ro⟩]⟩,
   ⟨"ADR_M", 0x010FB00C, [(0x00100000, 16), (0x10, 8)], [0], false, [⟨31, 16, .ro⟩, ⟨15, 0, .ro⟩]⟩,
   ⟨"LOOP_LC", 0x010FB100, [(0x00100000, 16), (8, 4)], [0], false, [⟨15, 0, .ro⟩]⟩,
   ⟨"LOOP_RANGE", 0x010FB104, [(0x00100000, 16), (8, 4)], [0], false, [⟨28, 16, .ro⟩, ⟨12, 0, .ro⟩]⟩,
   ⟨"LOOP_STAT", 0x010FB120, [(0x00100000, 16)], [0], false, [⟨2, 0, .ro⟩]⟩,
   ⟨"ADDR_STAT", 0x010FB200, [(0x00100000, 16)], [0], false, [⟨15, 8, .w1c⟩, ⟨7, 0, .w1c⟩]⟩,
   ⟨"BANK_STALL", 0x010FB204, [(0x00100000, 16)], [0], false, [⟨31, 0, .ro⟩]⟩,
   ⟨"EXT_STALL", 0x010FB208, [(0x00100000, 16)], [0], false, [⟨31, 0, .ro⟩]⟩,
   ⟨"LOFS", 0x010FC000, [(0x00100000, 16), (0x20, 17), (4, 8)], [0], false, [⟨31, 24, .ro⟩, ⟨23, 8, .ro⟩, ⟨7, 0, .ro⟩]⟩]

/-! ## CLUSTER: the registers of spec/05_instruction_encoding.md -/

namespace R

def CL_CTL (a : Nat) : Nat := 0x010F0000 + a * 0x00100000
def CL_STAT (a : Nat) : Nat := 0x010F0004 + a * 0x00100000
def CL_TASK (a : Nat) : Nat := 0x010F0008 + a * 0x00100000
def CL_ILL (a : Nat) : Nat := 0x010F000C + a * 0x00100000
def CL_CYC_LAST (a : Nat) : Nat := 0x010F0010 + a * 0x00100000
def CL_CYC_MAX (a : Nat) : Nat := 0x010F0014 + a * 0x00100000
def HAZ_STALL (a : Nat) : Nat := 0x010F0018 + a * 0x00100000
def CL_DISP_CNT (a : Nat) : Nat := 0x010F001C + a * 0x00100000
def SEQ_IN (a b : Nat) : Nat := 0x010F0100 + a * 0x00100000 + b * 4
end R

namespace F

def CL_CTL_ILL_INJ (a : Nat) : Fld := ⟨R.CL_CTL a, 8, 8⟩
def CL_CTL_CYC_MAX_CLR (a : Nat) : Fld := ⟨R.CL_CTL a, 0, 0⟩
def CL_STAT_PM_WR_ERR (a : Nat) : Fld := ⟨R.CL_STAT a, 10, 10⟩
def CL_STAT_HALT_080 (a : Nat) : Fld := ⟨R.CL_STAT a, 9, 9⟩
def CL_STAT_ILL (a : Nat) : Fld := ⟨R.CL_STAT a, 8, 8⟩
def CL_STAT_STATE (a : Nat) : Fld := ⟨R.CL_STAT a, 2, 0⟩
def CL_TASK_ACTIVE (a : Nat) : Fld := ⟨R.CL_TASK a, 31, 31⟩
def CL_TASK_TASK (a : Nat) : Fld := ⟨R.CL_TASK a, 22, 16⟩
def CL_TASK_PC (a : Nat) : Fld := ⟨R.CL_TASK a, 12, 0⟩
def CL_ILL_REASON (a : Nat) : Fld := ⟨R.CL_ILL a, 31, 29⟩
def CL_ILL_TASK (a : Nat) : Fld := ⟨R.CL_ILL a, 22, 16⟩
def CL_ILL_INDEX (a : Nat) : Fld := ⟨R.CL_ILL a, 12, 0⟩
def CL_CYC_LAST_TASK (a : Nat) : Fld := ⟨R.CL_CYC_LAST a, 31, 25⟩
def CL_CYC_LAST_CYCLES (a : Nat) : Fld := ⟨R.CL_CYC_LAST a, 24, 0⟩
def CL_CYC_MAX_TASK (a : Nat) : Fld := ⟨R.CL_CYC_MAX a, 31, 25⟩
def CL_CYC_MAX_CYCLES (a : Nat) : Fld := ⟨R.CL_CYC_MAX a, 24, 0⟩
def HAZ_STALL_COUNT (a : Nat) : Fld := ⟨R.HAZ_STALL a, 31, 0⟩
def CL_DISP_CNT_COUNT (a : Nat) : Fld := ⟨R.CL_DISP_CNT a, 31, 0⟩
def SEQ_IN_VALUE (a b : Nat) : Fld := ⟨R.SEQ_IN a b, 31, 0⟩
end F

def regsCluster : List RegSpec :=
  [
   ⟨"CL_CTL", 0x010F0000, [(0x00100000, 16)], [0], false, [⟨8, 8, .w1s⟩, ⟨0, 0, .wo⟩]⟩,
   ⟨"CL_STAT", 0x010F0004, [(0x00100000, 16)], [0], false, [⟨10, 10, .w1c⟩, ⟨9, 9, .w1c⟩, ⟨8, 8, .w1c⟩, ⟨2, 0, .ro⟩]⟩,
   ⟨"CL_TASK", 0x010F0008, [(0x00100000, 16)], [0], false, [⟨31, 31, .ro⟩, ⟨22, 16, .ro⟩, ⟨12, 0, .ro⟩]⟩,
   ⟨"CL_ILL", 0x010F000C, [(0x00100000, 16)], [0], false, [⟨31, 29, .ro⟩, ⟨22, 16, .ro⟩, ⟨12, 0, .ro⟩]⟩,
   ⟨"CL_CYC_LAST", 0x010F0010, [(0x00100000, 16)], [0], false, [⟨31, 25, .ro⟩, ⟨24, 0, .ro⟩]⟩,
   ⟨"CL_CYC_MAX", 0x010F0014, [(0x00100000, 16)], [0], false, [⟨31, 25, .ro⟩, ⟨24, 0, .ro⟩]⟩,
   ⟨"HAZ_STALL", 0x010F0018, [(0x00100000, 16)], [0], false, [⟨31, 0, .ro⟩]⟩,
   ⟨"CL_DISP_CNT", 0x010F001C, [(0x00100000, 16)], [0], false, [⟨31, 0, .ro⟩]⟩,
   ⟨"SEQ_IN", 0x010F0100, [(0x00100000, 16), (4, 13)], [0], false, [⟨31, 0, .ro⟩]⟩]

/-! ## FCST: the registers of spec/06_forecast.md -/

namespace R

def FCST_CTL : Nat := 0x03010000
def FCST_PCAP : Nat := 0x03010004
def FCST_TJ_SOFT : Nat := 0x03010008
def FCST_THERM : Nat := 0x0301000C
def FCST_HOLD : Nat := 0x03010010
def FCST_PFIX : Nat := 0x03010014
def FCST_E_WAKE : Nat := 0x03010018
def FCST_CAL : Nat := 0x03010020
def FCST_STAT : Nat := 0x03010024
def FCST_TH : Nat := 0x03010028
def FCST_TS : Nat := 0x0301002C
def FCST_BUDGET : Nat := 0x03010030
def FCST_STEADY : Nat := 0x03010034
def FCST_COMMIT : Nat := 0x03010038
def FCST_MEAS : Nat := 0x0301003C
def FCST_WEIGHT (a : Nat) : Nat := 0x03010040 + a * 4
def FCST_CYC_PLAN : Nat := 0x03010070
def FCST_CYC_T0 : Nat := 0x03010074
def FCST_CW : Nat := 0x03010078
def FCST_ST_CNT (a : Nat) : Nat := 0x03010080 + a * 4
def FCST_TT_CTL : Nat := 0x03010090
def FCST_TT_TGT_LO : Nat := 0x03010094
def FCST_TT_TGT_HI : Nat := 0x03010098
def FCST_TT_ERR : Nat := 0x0301009C
def FCST_TIER (a : Nat) : Nat := 0x03010400 + a * 4
def FCST_EOBS (a b : Nat) : Nat := 0x03010800 + a * 0x10 + b * 4
def FCST_ACT (a b : Nat) : Nat := 0x03011000 + a * 0x40 + b * 4
end R

namespace F

def FCST_CTL_IRQ_EN : Fld := ⟨R.FCST_CTL, 10, 10⟩
def FCST_CTL_EST_MODE : Fld := ⟨R.FCST_CTL, 9, 8⟩
def FCST_CTL_TIER_CAP : Fld := ⟨R.FCST_CTL, 5, 4⟩
def FCST_PCAP_PCAP : Fld := ⟨R.FCST_PCAP, 6, 0⟩
def FCST_TJ_SOFT_TJ_SOFT : Fld := ⟨R.FCST_TJ_SOFT, 7, 0⟩
def FCST_THERM_TAU : Fld := ⟨R.FCST_THERM, 31, 16⟩
def FCST_THERM_RTH : Fld := ⟨R.FCST_THERM, 15, 0⟩
def FCST_HOLD_CYC_MARGIN : Fld := ⟨R.FCST_HOLD, 23, 20⟩
def FCST_HOLD_UP_MARGIN : Fld := ⟨R.FCST_HOLD, 19, 16⟩
def FCST_HOLD_GATE_TICKS : Fld := ⟨R.FCST_HOLD, 15, 8⟩
def FCST_HOLD_HOLD : Fld := ⟨R.FCST_HOLD, 7, 0⟩
def FCST_PFIX_PFIX : Fld := ⟨R.FCST_PFIX, 15, 0⟩
def FCST_E_WAKE_E_WAKE : Fld := ⟨R.FCST_E_WAKE, 15, 0⟩
def FCST_CAL_MON_VALID : Fld := ⟨R.FCST_CAL, 16, 16⟩
def FCST_CAL_K : Fld := ⟨R.FCST_CAL, 15, 0⟩
def FCST_STAT_TT_WR_ERR : Fld := ⟨R.FCST_STAT, 20, 20⟩
def FCST_STAT_T0_OVERRUN : Fld := ⟨R.FCST_STAT, 19, 19⟩
def FCST_STAT_XF_BREACH : Fld := ⟨R.FCST_STAT, 18, 18⟩
def FCST_STAT_CFG_REFUSED : Fld := ⟨R.FCST_STAT, 17, 17⟩
def FCST_STAT_FORCE_CAP : Fld := ⟨R.FCST_STAT, 11, 10⟩
def FCST_STAT_CATCHUP_OK : Fld := ⟨R.FCST_STAT, 9, 9⟩
def FCST_STAT_TT_WARMUP : Fld := ⟨R.FCST_STAT, 8, 8⟩
def FCST_STAT_SENS_INVALID : Fld := ⟨R.FCST_STAT, 7, 7⟩
def FCST_STAT_TH_LIMIT : Fld := ⟨R.FCST_STAT, 6, 6⟩
def FCST_STAT_FORCED : Fld := ⟨R.FCST_STAT, 5, 5⟩
def FCST_STAT_STATE : Fld := ⟨R.FCST_STAT, 1, 0⟩
def FCST_TH_T_REF : Fld := ⟨R.FCST_TH, 31, 16⟩
def FCST_TH_T_RISE : Fld := ⟨R.FCST_TH, 15, 0⟩
def FCST_TS_PTH : Fld := ⟨R.FCST_TS, 31, 16⟩
def FCST_TS_T_S : Fld := ⟨R.FCST_TS, 15, 0⟩
def FCST_BUDGET_V : Fld := ⟨R.FCST_BUDGET, 31, 0⟩
def FCST_STEADY_V : Fld := ⟨R.FCST_STEADY, 31, 0⟩
def FCST_COMMIT_V : Fld := ⟨R.FCST_COMMIT, 31, 0⟩
def FCST_MEAS_V : Fld := ⟨R.FCST_MEAS, 31, 0⟩
def FCST_WEIGHT_W (a : Nat) : Fld := ⟨R.FCST_WEIGHT a, 15, 0⟩
def FCST_CYC_PLAN_V : Fld := ⟨R.FCST_CYC_PLAN, 24, 0⟩
def FCST_CYC_T0_V : Fld := ⟨R.FCST_CYC_T0, 24, 0⟩
def FCST_CW_V : Fld := ⟨R.FCST_CW, 24, 0⟩
def FCST_ST_CNT_V (a : Nat) : Fld := ⟨R.FCST_ST_CNT a, 31, 0⟩
def FCST_TT_CTL_STATE : Fld := ⟨R.FCST_TT_CTL, 31, 29⟩
def FCST_TT_CTL_DISARM : Fld := ⟨R.FCST_TT_CTL, 2, 2⟩
def FCST_TT_CTL_ARM : Fld := ⟨R.FCST_TT_CTL, 1, 1⟩
def FCST_TT_CTL_SEL : Fld := ⟨R.FCST_TT_CTL, 0, 0⟩
def FCST_TT_TGT_LO_V : Fld := ⟨R.FCST_TT_TGT_LO, 31, 0⟩
def FCST_TT_TGT_HI_V : Fld := ⟨R.FCST_TT_TGT_HI, 31, 0⟩
def FCST_TT_ERR_REASON : Fld := ⟨R.FCST_TT_ERR, 10, 8⟩
def FCST_TT_ERR_TASK : Fld := ⟨R.FCST_TT_ERR, 6, 0⟩
def FCST_TIER_HOLD_LEFT (a : Nat) : Fld := ⟨R.FCST_TIER a, 31, 24⟩
def FCST_TIER_XF_LEFT (a : Nat) : Fld := ⟨R.FCST_TIER a, 14, 8⟩
def FCST_TIER_OVR (a : Nat) : Fld := ⟨R.FCST_TIER a, 4, 4⟩
def FCST_TIER_OUT (a : Nat) : Fld := ⟨R.FCST_TIER a, 3, 2⟩
def FCST_TIER_CUR (a : Nat) : Fld := ⟨R.FCST_TIER a, 1, 0⟩
def FCST_EOBS_E_OBS (a b : Nat) : Fld := ⟨R.FCST_EOBS a b, 27, 0⟩
def FCST_ACT_COUNT (a b : Nat) : Fld := ⟨R.FCST_ACT a b, 31, 0⟩
end F

def regsFcstA : List RegSpec :=
  [
   ⟨"FCST_CTL", 0x03010000, [], [0x30], false, [⟨10, 10, .rw⟩, ⟨9, 8, .rw⟩, ⟨5, 4, .rw⟩]⟩,
   ⟨"FCST_PCAP", 0x03010004, [], [0x78], false, [⟨6, 0, .rw⟩]⟩,
   ⟨"FCST_TJ_SOFT", 0x03010008, [], [0x73], false, [⟨7, 0, .rw⟩]⟩,
   ⟨"FCST_THERM", 0x0301000C, [], [0x001400C8], false, [⟨31, 16, .rw⟩, ⟨15, 0, .rw⟩]⟩,
   ⟨"FCST_HOLD", 0x03010010, [], [0x00840808], false, [⟨23, 20, .rw⟩, ⟨19, 16, .rw⟩, ⟨15, 8, .rw⟩, ⟨7, 0, .rw⟩]⟩,
   ⟨"FCST_PFIX", 0x03010014, [], [0x960], false, [⟨15, 0, .rw⟩]⟩,
   ⟨"FCST_E_WAKE", 0x03010018, [], [0x28], false, [⟨15, 0, .rw⟩]⟩,
   ⟨"FCST_CAL", 0x03010020, [], [0x1000], false, [⟨16, 16, .ro⟩, ⟨15, 0, .ro⟩]⟩,
   ⟨"FCST_STAT", 0x03010024, [], [0xC00], false, [⟨20, 20, .w1c⟩, ⟨19, 19, .w1c⟩, ⟨18, 18, .w1c⟩, ⟨17, 17, .w1c⟩, ⟨11, 10, .ro⟩, ⟨9, 9, .ro⟩, ⟨8, 8, .ro⟩, ⟨7, 7, .ro⟩, ⟨6, 6, .ro⟩, ⟨5, 5, .ro⟩, ⟨1, 0, .ro⟩]⟩,
   ⟨"FCST_TH", 0x03010028, [], [0], false, [⟨31, 16, .ro⟩, ⟨15, 0, .ro⟩]⟩,
   ⟨"FCST_TS", 0x0301002C, [], [0], false, [⟨31, 16, .ro⟩, ⟨15, 0, .ro⟩]⟩,
   ⟨"FCST_BUDGET", 0x03010030, [], [0], false, [⟨31, 0, .ro⟩]⟩,
   ⟨"FCST_STEADY", 0x03010034, [], [0], false, [⟨31, 0, .ro⟩]⟩,
   ⟨"FCST_COMMIT", 0x03010038, [], [0], false, [⟨31, 0, .ro⟩]⟩,
   ⟨"FCST_MEAS", 0x0301003C, [], [0], false, [⟨31, 0, .ro⟩]⟩,
   ⟨"FCST_WEIGHT", 0x03010040, [(4, 9)], [0x1770, 0x1B58, 0x7D0, 0xBB8, 0x1F4, 0xFA0, 0x2EE0, 0xFA0, 0x5DC], false, [⟨15, 0, .rw⟩]⟩,
   ⟨"FCST_CYC_PLAN", 0x03010070, [], [0], false, [⟨24, 0, .ro⟩]⟩,
   ⟨"FCST_CYC_T0", 0x03010074, [], [0], false, [⟨24, 0, .ro⟩]⟩,
   ⟨"FCST_CW", 0x03010078, [], [0], false, [⟨24, 0, .ro⟩]⟩,
   ⟨"FCST_ST_CNT", 0x03010080, [(4, 4)], [0], false, [⟨31, 0, .ro⟩]⟩,
   ⟨"FCST_TT_CTL", 0x03010090, [], [0], false, [⟨31, 29, .ro⟩, ⟨2, 2, .wo⟩, ⟨1, 1, .wo⟩, ⟨0, 0, .rw⟩]⟩,
   ⟨"FCST_TT_TGT_LO", 0x03010094, [], [0], false, [⟨31, 0, .rw⟩]⟩,
   ⟨"FCST_TT_TGT_HI", 0x03010098, [], [0], false, [⟨31, 0, .rw⟩]⟩,
   ⟨"FCST_TT_ERR", 0x0301009C, [], [0], false, [⟨10, 8, .ro⟩, ⟨6, 0, .ro⟩]⟩]

def regsFcstB : List RegSpec :=
  [
   ⟨"FCST_TIER", 0x03010400, [(4, 128)], [0], false, [⟨31, 24, .ro⟩, ⟨14, 8, .ro⟩, ⟨4, 4, .ro⟩, ⟨3, 2, .ro⟩, ⟨1, 0, .ro⟩]⟩,
   ⟨"FCST_EOBS", 0x03010800, [(0x10, 128), (4, 4)], [0], false, [⟨27, 0, .ro⟩]⟩,
   ⟨"FCST_ACT", 0x03011000, [(0x40, 16), (4, 9)], [0], false, [⟨31, 0, .ro⟩]⟩]

def regsFcst : List RegSpec := regsFcstA ++ regsFcstB

/-! ## XING: the registers of spec/07_crossings.md -/

namespace R

def XING_CTL : Nat := 0x03020000
def XING_STAT : Nat := 0x03020004
def XING_ERR : Nat := 0x03020008
def XING_WIN : Nat := 0x0302000C
def XING_LOAD (a : Nat) : Nat := 0x03020010 + a * 4
def XING_LIMIT : Nat := 0x03020020
def XING_EP_MISS_CNT : Nat := 0x03020024
def XING_SAT_CNT : Nat := 0x03020028
def XING_LAST_MISS : Nat := 0x0302002C
def XING_CS (a : Nat) : Nat := 0x03020400 + a * 4
def XING_CS_LEN (a : Nat) : Nat := 0x03020600 + a * 4
def XING_CAP_CTL (a : Nat) : Nat := 0x03020800 + a * 0x40
def XING_CAP_BUF (a : Nat) : Nat := 0x03020804 + a * 0x40
def XING_CAP_SIZE (a : Nat) : Nat := 0x03020808 + a * 0x40
def XING_CAP_WR (a : Nat) : Nat := 0x0302080C + a * 0x40
def XING_CAP_RD (a : Nat) : Nat := 0x03020810 + a * 0x40
def XING_CAP_DROP (a : Nat) : Nat := 0x03020814 + a * 0x40
def XING_CAP_SLOT (a b : Nat) : Nat := 0x03020C00 + a * 0x100 + b * 4
def XING_DL_BASE (a : Nat) : Nat := 0x03022000 + a * 8
def XING_DL_LEN (a : Nat) : Nat := 0x03022004 + a * 8
def XING_RAMP (a : Nat) : Nat := 0x03024000 + a * 4
end R

namespace F

def XING_CTL_VALIDATE : Fld := ⟨R.XING_CTL, 8, 8⟩
def XING_CTL_SEL : Fld := ⟨R.XING_CTL, 0, 0⟩
def XING_STAT_PSTATE : Fld := ⟨R.XING_STAT, 31, 29⟩
def XING_STAT_INF_SUSPENDED : Fld := ⟨R.XING_STAT, 8, 8⟩
def XING_STAT_CAP_DROP : Fld := ⟨R.XING_STAT, 7, 7⟩
def XING_STAT_SAT : Fld := ⟨R.XING_STAT, 6, 6⟩
def XING_STAT_EP_MISS : Fld := ⟨R.XING_STAT, 5, 5⟩
def XING_STAT_OVERLOAD : Fld := ⟨R.XING_STAT, 4, 4⟩
def XING_STAT_SW_REFUSED : Fld := ⟨R.XING_STAT, 3, 3⟩
def XING_STAT_CS_REFUSED : Fld := ⟨R.XING_STAT, 2, 2⟩
def XING_STAT_CFG_REFUSED : Fld := ⟨R.XING_STAT, 1, 1⟩
def XING_STAT_TBL_WR_ERR : Fld := ⟨R.XING_STAT, 0, 0⟩
def XING_ERR_REASON : Fld := ⟨R.XING_ERR, 15, 13⟩
def XING_ERR_ENTRY : Fld := ⟨R.XING_ERR, 12, 0⟩
def XING_WIN_COPY : Fld := ⟨R.XING_WIN, 8, 8⟩
def XING_WIN_PAGE : Fld := ⟨R.XING_WIN, 1, 0⟩
def XING_LOAD_DIST (a : Nat) : Fld := ⟨R.XING_LOAD a, 31, 16⟩
def XING_LOAD_GATHER (a : Nat) : Fld := ⟨R.XING_LOAD a, 15, 0⟩
def XING_LIMIT_DIST : Fld := ⟨R.XING_LIMIT, 31, 16⟩
def XING_LIMIT_GATHER : Fld := ⟨R.XING_LIMIT, 15, 0⟩
def XING_EP_MISS_CNT_V : Fld := ⟨R.XING_EP_MISS_CNT, 31, 0⟩
def XING_SAT_CNT_V : Fld := ⟨R.XING_SAT_CNT, 31, 0⟩
def XING_LAST_MISS_ENTRY : Fld := ⟨R.XING_LAST_MISS, 31, 19⟩
def XING_LAST_MISS_TICK : Fld := ⟨R.XING_LAST_MISS, 18, 0⟩
def XING_CS_XF_LEFT (a : Nat) : Fld := ⟨R.XING_CS a, 31, 16⟩
def XING_CS_XF (a : Nat) : Fld := ⟨R.XING_CS a, 1, 1⟩
def XING_CS_TARGET (a : Nat) : Fld := ⟨R.XING_CS a, 0, 0⟩
def XING_CS_LEN_L (a : Nat) : Fld := ⟨R.XING_CS_LEN a, 15, 0⟩
def XING_CAP_CTL_EN (a : Nat) : Fld := ⟨R.XING_CAP_CTL a, 31, 31⟩
def XING_CAP_CTL_POINT (a : Nat) : Fld := ⟨R.XING_CAP_CTL a, 16, 16⟩
def XING_CAP_CTL_COUNT (a : Nat) : Fld := ⟨R.XING_CAP_CTL a, 6, 0⟩
def XING_CAP_BUF_BASE (a : Nat) : Fld := ⟨R.XING_CAP_BUF a, 19, 4⟩
def XING_CAP_SIZE_SIZE (a : Nat) : Fld := ⟨R.XING_CAP_SIZE a, 18, 0⟩
def XING_CAP_WR_WR (a : Nat) : Fld := ⟨R.XING_CAP_WR a, 17, 0⟩
def XING_CAP_RD_RD (a : Nat) : Fld := ⟨R.XING_CAP_RD a, 17, 0⟩
def XING_CAP_DROP_COUNT (a : Nat) : Fld := ⟨R.XING_CAP_DROP a, 31, 0⟩
def XING_CAP_SLOT_SLOT (a b : Nat) : Fld := ⟨R.XING_CAP_SLOT a b, 11, 0⟩
def XING_DL_BASE_VALID (a : Nat) : Fld := ⟨R.XING_DL_BASE a, 31, 31⟩
def XING_DL_BASE_REGION (a : Nat) : Fld := ⟨R.XING_DL_BASE a, 29, 28⟩
def XING_DL_BASE_BASE (a : Nat) : Fld := ⟨R.XING_DL_BASE a, 18, 0⟩
def XING_DL_LEN_LEN (a : Nat) : Fld := ⟨R.XING_DL_LEN a, 19, 0⟩
def XING_RAMP_UP (a : Nat) : Fld := ⟨R.XING_RAMP a, 9, 9⟩
def XING_RAMP_DOWN (a : Nat) : Fld := ⟨R.XING_RAMP a, 8, 8⟩
def XING_RAMP_G (a : Nat) : Fld := ⟨R.XING_RAMP a, 4, 0⟩
end F

def regsXing : List RegSpec :=
  [
   ⟨"XING_CTL", 0x03020000, [], [0], false, [⟨8, 8, .wo⟩, ⟨0, 0, .rw⟩]⟩,
   ⟨"XING_STAT", 0x03020004, [], [0], false, [⟨31, 29, .ro⟩, ⟨8, 8, .ro⟩, ⟨7, 7, .w1c⟩, ⟨6, 6, .w1c⟩, ⟨5, 5, .w1c⟩, ⟨4, 4, .ro⟩, ⟨3, 3, .w1c⟩, ⟨2, 2, .w1c⟩, ⟨1, 1, .w1c⟩, ⟨0, 0, .w1c⟩]⟩,
   ⟨"XING_ERR", 0x03020008, [], [0], false, [⟨15, 13, .ro⟩, ⟨12, 0, .ro⟩]⟩,
   ⟨"XING_WIN", 0x0302000C, [], [0], false, [⟨8, 8, .rw⟩, ⟨1, 0, .rw⟩]⟩,
   ⟨"XING_LOAD", 0x03020010, [(4, 4)], [0], false, [⟨31, 16, .ro⟩, ⟨15, 0, .ro⟩]⟩,
   ⟨"XING_LIMIT", 0x03020020, [], [0], false, [⟨31, 16, .ro⟩, ⟨15, 0, .ro⟩]⟩,
   ⟨"XING_EP_MISS_CNT", 0x03020024, [], [0], false, [⟨31, 0, .ro⟩]⟩,
   ⟨"XING_SAT_CNT", 0x03020028, [], [0], false, [⟨31, 0, .ro⟩]⟩,
   ⟨"XING_LAST_MISS", 0x0302002C, [], [0], false, [⟨31, 19, .ro⟩, ⟨18, 0, .ro⟩]⟩,
   ⟨"XING_CS", 0x03020400, [(4, 128)], [0], false, [⟨31, 16, .ro⟩, ⟨1, 1, .ro⟩, ⟨0, 0, .ro⟩]⟩,
   ⟨"XING_CS_LEN", 0x03020600, [(4, 128)], [0xFF], false, [⟨15, 0, .rw⟩]⟩,
   ⟨"XING_CAP_CTL", 0x03020800, [(0x40, 8)], [0], false, [⟨31, 31, .rw⟩, ⟨16, 16, .rw⟩, ⟨6, 0, .rw⟩]⟩,
   ⟨"XING_CAP_BUF", 0x03020804, [(0x40, 8)], [0], false, [⟨19, 4, .rw⟩]⟩,
   ⟨"XING_CAP_SIZE", 0x03020808, [(0x40, 8)], [0], false, [⟨18, 0, .rw⟩]⟩,
   ⟨"XING_CAP_WR", 0x0302080C, [(0x40, 8)], [0], false, [⟨17, 0, .ro⟩]⟩,
   ⟨"XING_CAP_RD", 0x03020810, [(0x40, 8)], [0], false, [⟨17, 0, .rw⟩]⟩,
   ⟨"XING_CAP_DROP", 0x03020814, [(0x40, 8)], [0], false, [⟨31, 0, .ro⟩]⟩,
   ⟨"XING_CAP_SLOT", 0x03020C00, [(0x100, 8), (4, 64)], [0], false, [⟨11, 0, .rw⟩]⟩,
   ⟨"XING_DL_BASE", 0x03022000, [(8, 256)], [0], false, [⟨31, 31, .rw⟩, ⟨29, 28, .rw⟩, ⟨18, 0, .rw⟩]⟩,
   ⟨"XING_DL_LEN", 0x03022004, [(8, 256)], [0], false, [⟨19, 0, .rw⟩]⟩,
   ⟨"XING_RAMP", 0x03024000, [(4, 4096)], [0x10], false, [⟨9, 9, .ro⟩, ⟨8, 8, .ro⟩, ⟨4, 0, .ro⟩]⟩]

/-! ## LEVEE: the registers of spec/08_levee.md -/

namespace R

def LEVEE_SEAL : Nat := 0x03030000
def LEVEE_STAT : Nat := 0x03030004
def LEVEE_CFG : Nat := 0x03030008
def LEVEE_REFUSE_CNT : Nat := 0x0303000C
def LEVEE_REFUSE_LAST : Nat := 0x03030010
def LEVEE_PINS : Nat := 0x03030014
def LEVEE_TEL_BAD : Nat := 0x03030018
def LEVEE_SAP_CEIL (a : Nat) : Nat := 0x03030100 + a * 4
def LEVEE_ETH_FPS (a : Nat) : Nat := 0x03030200 + a * 0x10
def LEVEE_ETH_BPS (a : Nat) : Nat := 0x03030204 + a * 0x10
def LEVEE_ETH_BURST (a : Nat) : Nat := 0x03030208 + a * 0x10
def LEVEE_ETH_WAIT (a : Nat) : Nat := 0x0303020C + a * 0x10
def LEVEE_EL_BIND (a : Nat) : Nat := 0x03031000 + a * 0x40
def LEVEE_EL_PEAK (a : Nat) : Nat := 0x03031004 + a * 0x40
def LEVEE_EL_RMS (a : Nat) : Nat := 0x03031008 + a * 0x40
def LEVEE_EL_TAU (a : Nat) : Nat := 0x0303100C + a * 0x40
def LEVEE_EL_LF (a : Nat) : Nat := 0x03031010 + a * 0x40
def LEVEE_EL_DC (a : Nat) : Nat := 0x03031014 + a * 0x40
def LEVEE_EL_SLEW (a : Nat) : Nat := 0x03031018 + a * 0x40
def LEVEE_EL_IMAX (a : Nat) : Nat := 0x0303101C + a * 0x40
def LEVEE_EL_VKNEE (a : Nat) : Nat := 0x03031020 + a * 0x40
def LEVEE_EL_INIT (a : Nat) : Nat := 0x03031024 + a * 0x40
def LEVEE_EL_STAT (a : Nat) : Nat := 0x03031028 + a * 0x40
def LEVEE_EL_GAIN (a : Nat) : Nat := 0x0303102C + a * 0x40
def LEVEE_EL_GATE (a : Nat) : Nat := 0x03031030 + a * 0x40
def LEVEE_EL_HEAT (a : Nat) : Nat := 0x03031034 + a * 0x40
def LEVEE_EL_TELI (a : Nat) : Nat := 0x03031038 + a * 0x40
def LEVEE_EL_TELR (a : Nat) : Nat := 0x0303103C + a * 0x40
end R

namespace F

def LEVEE_SEAL_SEALED : Fld := ⟨R.LEVEE_SEAL, 31, 31⟩
def LEVEE_SEAL_KEY : Fld := ⟨R.LEVEE_SEAL, 15, 0⟩
def LEVEE_STAT_GRP_MUTE : Fld := ⟨R.LEVEE_STAT, 27, 16⟩
def LEVEE_STAT_SAFE : Fld := ⟨R.LEVEE_STAT, 7, 7⟩
def LEVEE_STAT_CLR_REFUSED : Fld := ⟨R.LEVEE_STAT, 6, 6⟩
def LEVEE_STAT_CFG_REFUSED : Fld := ⟨R.LEVEE_STAT, 5, 5⟩
def LEVEE_STAT_PARITY : Fld := ⟨R.LEVEE_STAT, 4, 4⟩
def LEVEE_STAT_BIND_ERR : Fld := ⟨R.LEVEE_STAT, 3, 3⟩
def LEVEE_STAT_KEY_BAD : Fld := ⟨R.LEVEE_STAT, 2, 2⟩
def LEVEE_STAT_ETH_WAIT : Fld := ⟨R.LEVEE_STAT, 1, 1⟩
def LEVEE_STAT_SEAL_REFUSED : Fld := ⟨R.LEVEE_STAT, 0, 0⟩
def LEVEE_CFG_TEL_TO : Fld := ⟨R.LEVEE_CFG, 31, 16⟩
def LEVEE_CFG_RETRY_MAX : Fld := ⟨R.LEVEE_CFG, 5, 4⟩
def LEVEE_CFG_RETRY_EN : Fld := ⟨R.LEVEE_CFG, 3, 3⟩
def LEVEE_CFG_CH_PIN : Fld := ⟨R.LEVEE_CFG, 2, 2⟩
def LEVEE_CFG_FLT_POL : Fld := ⟨R.LEVEE_CFG, 1, 1⟩
def LEVEE_CFG_MUTE_POL : Fld := ⟨R.LEVEE_CFG, 0, 0⟩
def LEVEE_REFUSE_CNT_V : Fld := ⟨R.LEVEE_REFUSE_CNT, 31, 0⟩
def LEVEE_REFUSE_LAST_OFFSET : Fld := ⟨R.LEVEE_REFUSE_LAST, 15, 0⟩
def LEVEE_PINS_MUTE : Fld := ⟨R.LEVEE_PINS, 27, 16⟩
def LEVEE_PINS_FLT : Fld := ⟨R.LEVEE_PINS, 11, 0⟩
def LEVEE_TEL_BAD_V : Fld := ⟨R.LEVEE_TEL_BAD, 31, 0⟩
def LEVEE_SAP_CEIL_ATT (a : Nat) : Fld := ⟨R.LEVEE_SAP_CEIL a, 8, 0⟩
def LEVEE_ETH_FPS_FPS (a : Nat) : Fld := ⟨R.LEVEE_ETH_FPS a, 23, 0⟩
def LEVEE_ETH_BPS_BPS (a : Nat) : Fld := ⟨R.LEVEE_ETH_BPS a, 13, 0⟩
def LEVEE_ETH_BURST_FBURST (a : Nat) : Fld := ⟨R.LEVEE_ETH_BURST a, 31, 24⟩
def LEVEE_ETH_BURST_BBURST (a : Nat) : Fld := ⟨R.LEVEE_ETH_BURST a, 10, 0⟩
def LEVEE_ETH_WAIT_COUNT (a : Nat) : Fld := ⟨R.LEVEE_ETH_WAIT a, 31, 0⟩
def LEVEE_EL_BIND_EN (a : Nat) : Fld := ⟨R.LEVEE_EL_BIND a, 31, 31⟩
def LEVEE_EL_BIND_TEL_EN (a : Nat) : Fld := ⟨R.LEVEE_EL_BIND a, 30, 30⟩
def LEVEE_EL_BIND_FMT (a : Nat) : Fld := ⟨R.LEVEE_EL_BIND a, 29, 28⟩
def LEVEE_EL_BIND_TEL_PORT (a : Nat) : Fld := ⟨R.LEVEE_EL_BIND a, 24, 20⟩
def LEVEE_EL_BIND_TEL_CH (a : Nat) : Fld := ⟨R.LEVEE_EL_BIND a, 19, 16⟩
def LEVEE_EL_BIND_PORT (a : Nat) : Fld := ⟨R.LEVEE_EL_BIND a, 8, 4⟩
def LEVEE_EL_BIND_TSLOT (a : Nat) : Fld := ⟨R.LEVEE_EL_BIND a, 3, 0⟩
def LEVEE_EL_PEAK_PEAK_ATT (a : Nat) : Fld := ⟨R.LEVEE_EL_PEAK a, 8, 0⟩
def LEVEE_EL_RMS_W_C (a : Nat) : Fld := ⟨R.LEVEE_EL_RMS a, 31, 16⟩
def LEVEE_EL_RMS_RMS_ATT (a : Nat) : Fld := ⟨R.LEVEE_EL_RMS a, 8, 0⟩
def LEVEE_EL_TAU_TAU_M (a : Nat) : Fld := ⟨R.LEVEE_EL_TAU a, 27, 16⟩
def LEVEE_EL_TAU_TAU_C (a : Nat) : Fld := ⟨R.LEVEE_EL_TAU a, 5, 0⟩
def LEVEE_EL_LF_CORNER (a : Nat) : Fld := ⟨R.LEVEE_EL_LF a, 23, 16⟩
def LEVEE_EL_LF_LF_ATT (a : Nat) : Fld := ⟨R.LEVEE_EL_LF a, 8, 0⟩
def LEVEE_EL_DC_DC_ATT (a : Nat) : Fld := ⟨R.LEVEE_EL_DC a, 9, 0⟩
def LEVEE_EL_SLEW_SLEW_MS (a : Nat) : Fld := ⟨R.LEVEE_EL_SLEW a, 9, 0⟩
def LEVEE_EL_IMAX_I_MAX (a : Nat) : Fld := ⟨R.LEVEE_EL_IMAX a, 23, 0⟩
def LEVEE_EL_VKNEE_V_KNEE (a : Nat) : Fld := ⟨R.LEVEE_EL_VKNEE a, 23, 0⟩
def LEVEE_EL_INIT_TEL_LOSS_MUTE (a : Nat) : Fld := ⟨R.LEVEE_EL_INIT a, 8, 8⟩
def LEVEE_EL_INIT_TH_INIT (a : Nat) : Fld := ⟨R.LEVEE_EL_INIT a, 4, 0⟩
def LEVEE_EL_STAT_RETRIES (a : Nat) : Fld := ⟨R.LEVEE_EL_STAT a, 31, 28⟩
def LEVEE_EL_STAT_CLIP (a : Nat) : Fld := ⟨R.LEVEE_EL_STAT a, 10, 10⟩
def LEVEE_EL_STAT_OVERTEMP (a : Nat) : Fld := ⟨R.LEVEE_EL_STAT a, 9, 9⟩
def LEVEE_EL_STAT_LOCKED (a : Nat) : Fld := ⟨R.LEVEE_EL_STAT a, 8, 8⟩
def LEVEE_EL_STAT_PARITY (a : Nat) : Fld := ⟨R.LEVEE_EL_STAT a, 6, 6⟩
def LEVEE_EL_STAT_SAFE (a : Nat) : Fld := ⟨R.LEVEE_EL_STAT a, 5, 5⟩
def LEVEE_EL_STAT_COLL (a : Nat) : Fld := ⟨R.LEVEE_EL_STAT a, 4, 4⟩
def LEVEE_EL_STAT_TELL (a : Nat) : Fld := ⟨R.LEVEE_EL_STAT a, 3, 3⟩
def LEVEE_EL_STAT_SLIP (a : Nat) : Fld := ⟨R.LEVEE_EL_STAT a, 2, 2⟩
def LEVEE_EL_STAT_DCF (a : Nat) : Fld := ⟨R.LEVEE_EL_STAT a, 1, 1⟩
def LEVEE_EL_STAT_AMPF (a : Nat) : Fld := ⟨R.LEVEE_EL_STAT a, 0, 0⟩
def LEVEE_EL_GAIN_PK (a : Nat) : Fld := ⟨R.LEVEE_EL_GAIN a, 31, 31⟩
def LEVEE_EL_GAIN_TH (a : Nat) : Fld := ⟨R.LEVEE_EL_GAIN a, 30, 30⟩
def LEVEE_EL_GAIN_LF (a : Nat) : Fld := ⟨R.LEVEE_EL_GAIN a, 29, 29⟩
def LEVEE_EL_GAIN_SAG (a : Nat) : Fld := ⟨R.LEVEE_EL_GAIN a, 28, 28⟩
def LEVEE_EL_GAIN_G (a : Nat) : Fld := ⟨R.LEVEE_EL_GAIN a, 23, 0⟩
def LEVEE_EL_GATE_Q (a : Nat) : Fld := ⟨R.LEVEE_EL_GATE a, 23, 0⟩
def LEVEE_EL_HEAT_LF_RATIO (a : Nat) : Fld := ⟨R.LEVEE_EL_HEAT a, 31, 16⟩
def LEVEE_EL_HEAT_TH_RATIO (a : Nat) : Fld := ⟨R.LEVEE_EL_HEAT a, 15, 0⟩
def LEVEE_EL_TELI_CURRENT (a : Nat) : Fld := ⟨R.LEVEE_EL_TELI a, 23, 0⟩
def LEVEE_EL_TELR_RAIL (a : Nat) : Fld := ⟨R.LEVEE_EL_TELR a, 23, 0⟩
end F

def regsLeveeA : List RegSpec :=
  [
   ⟨"LEVEE_SEAL", 0x03030000, [], [0], false, [⟨31, 31, .ro⟩, ⟨15, 0, .wo⟩]⟩,
   ⟨"LEVEE_STAT", 0x03030004, [], [0x0FFF0000], false, [⟨27, 16, .ro⟩, ⟨7, 7, .ro⟩, ⟨6, 6, .w1c⟩, ⟨5, 5, .w1c⟩, ⟨4, 4, .w1cg⟩, ⟨3, 3, .w1c⟩, ⟨2, 2, .w1c⟩, ⟨1, 1, .w1c⟩, ⟨0, 0, .w1c⟩]⟩,
   ⟨"LEVEE_CFG", 0x03030008, [], [0x03C00034], false, [⟨31, 16, .seal⟩, ⟨5, 4, .seal⟩, ⟨3, 3, .seal⟩, ⟨2, 2, .seal⟩, ⟨1, 1, .seal⟩, ⟨0, 0, .seal⟩]⟩,
   ⟨"LEVEE_REFUSE_CNT", 0x0303000C, [], [0], false, [⟨31, 0, .ro⟩]⟩,
   ⟨"LEVEE_REFUSE_LAST", 0x03030010, [], [0], false, [⟨15, 0, .ro⟩]⟩,
   ⟨"LEVEE_PINS", 0x03030014, [], [0], false, [⟨27, 16, .ro⟩, ⟨11, 0, .ro⟩]⟩,
   ⟨"LEVEE_TEL_BAD", 0x03030018, [], [0], false, [⟨31, 0, .ro⟩]⟩,
   ⟨"LEVEE_SAP_CEIL", 0x03030100, [(4, 24)], [0], false, [⟨8, 0, .seal⟩]⟩,
   ⟨"LEVEE_ETH_FPS", 0x03030200, [(0x10, 2)], [0x00FFFFFF], false, [⟨23, 0, .seal⟩]⟩,
   ⟨"LEVEE_ETH_BPS", 0x03030204, [(0x10, 2)], [0x2710], false, [⟨13, 0, .seal⟩]⟩,
   ⟨"LEVEE_ETH_BURST", 0x03030208, [(0x10, 2)], [0xFF000040], false, [⟨31, 24, .seal⟩, ⟨10, 0, .seal⟩]⟩,
   ⟨"LEVEE_ETH_WAIT", 0x0303020C, [(0x10, 2)], [0], false, [⟨31, 0, .ro⟩]⟩,
   ⟨"LEVEE_EL_BIND", 0x03031000, [(0x40, 96)], [0], false, [⟨31, 31, .seal⟩, ⟨30, 30, .seal⟩, ⟨29, 28, .seal⟩, ⟨24, 20, .seal⟩, ⟨19, 16, .seal⟩, ⟨8, 4, .seal⟩, ⟨3, 0, .seal⟩]⟩,
   ⟨"LEVEE_EL_PEAK", 0x03031004, [(0x40, 96)], [0], false, [⟨8, 0, .seal⟩]⟩,
   ⟨"LEVEE_EL_RMS", 0x03031008, [(0x40, 96)], [0xC0000000], false, [⟨31, 16, .seal⟩, ⟨8, 0, .seal⟩]⟩,
   ⟨"LEVEE_EL_TAU", 0x0303100C, [(0x40, 96)], [0x02580008], false, [⟨27, 16, .seal⟩, ⟨5, 0, .seal⟩]⟩,
   ⟨"LEVEE_EL_LF", 0x03031010, [(0x40, 96)], [0x00500000], false, [⟨23, 16, .seal⟩, ⟨8, 0, .seal⟩]⟩,
   ⟨"LEVEE_EL_DC", 0x03031014, [(0x40, 96)], [0x12C], false, [⟨9, 0, .seal⟩]⟩,
   ⟨"LEVEE_EL_SLEW", 0x03031018, [(0x40, 96)], [0x32], false, [⟨9, 0, .seal⟩]⟩,
   ⟨"LEVEE_EL_IMAX", 0x0303101C, [(0x40, 96)], [0x00FFFFFF], false, [⟨23, 0, .seal⟩]⟩,
   ⟨"LEVEE_EL_VKNEE", 0x03031020, [(0x40, 96)], [0], false, [⟨23, 0, .seal⟩]⟩,
   ⟨"LEVEE_EL_INIT", 0x03031024, [(0x40, 96)], [8], false, [⟨8, 8, .seal⟩, ⟨4, 0, .seal⟩]⟩,
   ⟨"LEVEE_EL_STAT", 0x03031028, [(0x40, 96)], [0], false, [⟨31, 28, .ro⟩, ⟨10, 10, .w1c⟩, ⟨9, 9, .w1c⟩, ⟨8, 8, .ro⟩, ⟨6, 6, .w1cg⟩, ⟨5, 5, .ro⟩, ⟨4, 4, .w1cg⟩, ⟨3, 3, .ro⟩, ⟨2, 2, .ro⟩, ⟨1, 1, .w1cg⟩, ⟨0, 0, .w1cg⟩]⟩,
   ⟨"LEVEE_EL_GAIN", 0x0303102C, [(0x40, 96)], [0x00800000], false, [⟨31, 31, .ro⟩, ⟨30, 30, .ro⟩, ⟨29, 29, .ro⟩, ⟨28, 28, .ro⟩, ⟨23, 0, .ro⟩]⟩]

def regsLeveeB : List RegSpec :=
  [
   ⟨"LEVEE_EL_GATE", 0x03031030, [(0x40, 96)], [0], false, [⟨23, 0, .ro⟩]⟩,
   ⟨"LEVEE_EL_HEAT", 0x03031034, [(0x40, 96)], [0], false, [⟨31, 16, .ro⟩, ⟨15, 0, .ro⟩]⟩,
   ⟨"LEVEE_EL_TELI", 0x03031038, [(0x40, 96)], [0], false, [⟨23, 0, .ro⟩]⟩,
   ⟨"LEVEE_EL_TELR", 0x0303103C, [(0x40, 96)], [0], false, [⟨23, 0, .ro⟩]⟩]

def regsLevee : List RegSpec := regsLeveeA ++ regsLeveeB

/-! ## PAIR: the registers of spec/09_pairs_and_ferry.md -/

namespace R

def PAIR_CFG : Nat := 0x03040000
def PAIR_CTL : Nat := 0x03040004
def PAIR_STAT : Nat := 0x03040008
def PAIR_GRANT_LO : Nat := 0x03040010
def PAIR_GRANT_HI : Nat := 0x03040014
def PAIR_GRANT_E : Nat := 0x03040018
def PAIR_CKPT_LO : Nat := 0x03040020
def PAIR_CKPT_HI : Nat := 0x03040024
def PAIR_TAKE : Nat := 0x03040028
def PAIR_TAKE_TICK_LO : Nat := 0x0304002C
def PAIR_TAKE_TICK_HI : Nat := 0x03040030
def PAIR_FERRY : Nat := 0x03040040
def PAIR_FBUF : Nat := 0x03040044
def PAIR_FBUF_SIZE : Nat := 0x03040048
def PAIR_STAGE : Nat := 0x0304004C
def PAIR_STAGE_SIZE : Nat := 0x03040050
def PAIR_REC (a : Nat) : Nat := 0x03040060 + a * 4
def PAIR_REC_LEN : Nat := 0x03040070
def PAIR_SWEEP : Nat := 0x03040074
def PAIR_CNS_SENT : Nat := 0x03040080
def PAIR_CNS_ABANDON : Nat := 0x03040084
def PAIR_CNS_COMMIT : Nat := 0x03040088
def PAIR_CNS_LOST : Nat := 0x0304008C
def PAIR_PASSES : Nat := 0x03040090
def PAIR_REPLAY_RUN : Nat := 0x03040094
def PAIR_REPLAY_MISMATCH : Nat := 0x03040098
def PAIR_REPLAY_NOTRUN : Nat := 0x0304009C
def PAIR_TAKEOVERS : Nat := 0x030400A0
def PAIR_SIG : Nat := 0x030400A4
def PAIR_SIG_PEER : Nat := 0x030400A8
def PAIR_HEALTH : Nat := 0x030400AC
def PAIR_FT_BASE (a : Nat) : Nat := 0x03040100 + a * 8
def PAIR_FT_LINES (a : Nat) : Nat := 0x03040104 + a * 8
def PILOT_CTL : Nat := 0x03040200
def PILOT_PAIR (a : Nat) : Nat := 0x03040240 + a * 8
def PILOT_PSTAT (a : Nat) : Nat := 0x03040244 + a * 8
end R

namespace F

def PAIR_CFG_EN : Fld := ⟨R.PAIR_CFG, 31, 31⟩
def PAIR_CFG_TETHER : Fld := ⟨R.PAIR_CFG, 26, 24⟩
def PAIR_CFG_PILOT : Fld := ⟨R.PAIR_CFG, 21, 16⟩
def PAIR_CFG_PARTNER : Fld := ⟨R.PAIR_CFG, 13, 8⟩
def PAIR_CFG_PSLOT : Fld := ⟨R.PAIR_CFG, 3, 0⟩
def PAIR_CTL_SUSPECT_CLR : Fld := ⟨R.PAIR_CTL, 3, 3⟩
def PAIR_CTL_FORCE_SWEEP : Fld := ⟨R.PAIR_CTL, 2, 2⟩
def PAIR_CTL_REPLAY_EN : Fld := ⟨R.PAIR_CTL, 1, 1⟩
def PAIR_STAT_ROLE : Fld := ⟨R.PAIR_STAT, 31, 29⟩
def PAIR_STAT_DRIVING : Fld := ⟨R.PAIR_STAT, 28, 28⟩
def PAIR_STAT_CKPT : Fld := ⟨R.PAIR_STAT, 27, 26⟩
def PAIR_STAT_READY : Fld := ⟨R.PAIR_STAT, 25, 24⟩
def PAIR_STAT_CATCHUP_M : Fld := ⟨R.PAIR_STAT, 23, 22⟩
def PAIR_STAT_PAIR_CATCHUP_OK : Fld := ⟨R.PAIR_STAT, 21, 21⟩
def PAIR_STAT_REC_SHORT : Fld := ⟨R.PAIR_STAT, 20, 20⟩
def PAIR_STAT_SIG_VALID : Fld := ⟨R.PAIR_STAT, 19, 19⟩
def PAIR_STAT_NO_STANDBY : Fld := ⟨R.PAIR_STAT, 18, 18⟩
def PAIR_STAT_CFG_MISMATCH : Fld := ⟨R.PAIR_STAT, 17, 17⟩
def PAIR_STAT_PILOT_PATH : Fld := ⟨R.PAIR_STAT, 16, 16⟩
def PAIR_STAT_PILOT_LOST : Fld := ⟨R.PAIR_STAT, 15, 15⟩
def PAIR_STAT_TETHER_DOWN : Fld := ⟨R.PAIR_STAT, 14, 14⟩
def PAIR_STAT_CFG_REFUSED : Fld := ⟨R.PAIR_STAT, 5, 5⟩
def PAIR_STAT_STAGE_FULL : Fld := ⟨R.PAIR_STAT, 4, 4⟩
def PAIR_STAT_ABANDON : Fld := ⟨R.PAIR_STAT, 3, 3⟩
def PAIR_STAT_LOST : Fld := ⟨R.PAIR_STAT, 2, 2⟩
def PAIR_STAT_MISMATCH : Fld := ⟨R.PAIR_STAT, 1, 1⟩
def PAIR_STAT_TAKEOVER : Fld := ⟨R.PAIR_STAT, 0, 0⟩
def PAIR_GRANT_LO_V : Fld := ⟨R.PAIR_GRANT_LO, 31, 0⟩
def PAIR_GRANT_HI_V : Fld := ⟨R.PAIR_GRANT_HI, 31, 0⟩
def PAIR_GRANT_E_HELD : Fld := ⟨R.PAIR_GRANT_E, 31, 31⟩
def PAIR_GRANT_E_EPOCH : Fld := ⟨R.PAIR_GRANT_E, 15, 0⟩
def PAIR_CKPT_LO_V : Fld := ⟨R.PAIR_CKPT_LO, 31, 0⟩
def PAIR_CKPT_HI_V : Fld := ⟨R.PAIR_CKPT_HI, 31, 0⟩
def PAIR_TAKE_SKIPPED : Fld := ⟨R.PAIR_TAKE, 31, 24⟩
def PAIR_TAKE_STALE : Fld := ⟨R.PAIR_TAKE, 23, 23⟩
def PAIR_TAKE_DEGRADED : Fld := ⟨R.PAIR_TAKE, 22, 22⟩
def PAIR_TAKE_LATE : Fld := ⟨R.PAIR_TAKE, 21, 21⟩
def PAIR_TAKE_M : Fld := ⟨R.PAIR_TAKE, 17, 16⟩
def PAIR_TAKE_TICK_LO_V : Fld := ⟨R.PAIR_TAKE_TICK_LO, 31, 0⟩
def PAIR_TAKE_TICK_HI_V : Fld := ⟨R.PAIR_TAKE_TICK_HI, 31, 0⟩
def PAIR_FERRY_RATE_MAX : Fld := ⟨R.PAIR_FERRY, 7, 0⟩
def PAIR_FBUF_BASE : Fld := ⟨R.PAIR_FBUF, 19, 4⟩
def PAIR_FBUF_SIZE_SIZE : Fld := ⟨R.PAIR_FBUF_SIZE, 18, 0⟩
def PAIR_STAGE_BASE : Fld := ⟨R.PAIR_STAGE, 19, 4⟩
def PAIR_STAGE_SIZE_SIZE : Fld := ⟨R.PAIR_STAGE_SIZE, 18, 0⟩
def PAIR_REC_BASE (a : Nat) : Fld := ⟨R.PAIR_REC a, 18, 0⟩
def PAIR_REC_LEN_LEN : Fld := ⟨R.PAIR_REC_LEN, 17, 0⟩
def PAIR_SWEEP_S : Fld := ⟨R.PAIR_SWEEP, 30, 16⟩
def PAIR_SWEEP_CURSOR : Fld := ⟨R.PAIR_SWEEP, 14, 0⟩
def PAIR_CNS_SENT_V : Fld := ⟨R.PAIR_CNS_SENT, 31, 0⟩
def PAIR_CNS_ABANDON_V : Fld := ⟨R.PAIR_CNS_ABANDON, 31, 0⟩
def PAIR_CNS_COMMIT_V : Fld := ⟨R.PAIR_CNS_COMMIT, 31, 0⟩
def PAIR_CNS_LOST_V : Fld := ⟨R.PAIR_CNS_LOST, 31, 0⟩
def PAIR_PASSES_V : Fld := ⟨R.PAIR_PASSES, 31, 0⟩
def PAIR_REPLAY_RUN_V : Fld := ⟨R.PAIR_REPLAY_RUN, 31, 0⟩
def PAIR_REPLAY_MISMATCH_V : Fld := ⟨R.PAIR_REPLAY_MISMATCH, 31, 0⟩
def PAIR_REPLAY_NOTRUN_V : Fld := ⟨R.PAIR_REPLAY_NOTRUN, 31, 0⟩
def PAIR_TAKEOVERS_V : Fld := ⟨R.PAIR_TAKEOVERS, 31, 0⟩
def PAIR_SIG_V : Fld := ⟨R.PAIR_SIG, 31, 0⟩
def PAIR_SIG_PEER_V : Fld := ⟨R.PAIR_SIG_PEER, 31, 0⟩
def PAIR_HEALTH_BIST_FAIL : Fld := ⟨R.PAIR_HEALTH, 31, 16⟩
def PAIR_HEALTH_BIST_RUNS : Fld := ⟨R.PAIR_HEALTH, 15, 8⟩
def PAIR_HEALTH_MISMATCHES : Fld := ⟨R.PAIR_HEALTH, 6, 0⟩
def PAIR_FT_BASE_BASE (a : Nat) : Fld := ⟨R.PAIR_FT_BASE a, 31, 6⟩
def PAIR_FT_BASE_EN (a : Nat) : Fld := ⟨R.PAIR_FT_BASE a, 0, 0⟩
def PAIR_FT_LINES_LINES (a : Nat) : Fld := ⟨R.PAIR_FT_LINES a, 14, 0⟩
def PILOT_CTL_EN : Fld := ⟨R.PILOT_CTL, 31, 31⟩
def PILOT_CTL_EPOCH : Fld := ⟨R.PILOT_CTL, 15, 0⟩
def PILOT_PAIR_EN (a : Nat) : Fld := ⟨R.PILOT_PAIR a, 31, 31⟩
def PILOT_PAIR_SWITCH (a : Nat) : Fld := ⟨R.PILOT_PAIR a, 30, 30⟩
def PILOT_PAIR_SW_REFUSED (a : Nat) : Fld := ⟨R.PILOT_PAIR a, 29, 29⟩
def PILOT_PAIR_DEV_B (a : Nat) : Fld := ⟨R.PILOT_PAIR a, 13, 8⟩
def PILOT_PAIR_DEV_A (a : Nat) : Fld := ⟨R.PILOT_PAIR a, 5, 0⟩
def PILOT_PSTAT_STATE (a : Nat) : Fld := ⟨R.PILOT_PSTAT a, 31, 30⟩
def PILOT_PSTAT_DARK (a : Nat) : Fld := ⟨R.PILOT_PSTAT a, 29, 29⟩
def PILOT_PSTAT_A_GOOD (a : Nat) : Fld := ⟨R.PILOT_PSTAT a, 28, 28⟩
def PILOT_PSTAT_B_GOOD (a : Nat) : Fld := ⟨R.PILOT_PSTAT a, 27, 27⟩
def PILOT_PSTAT_SWITCHES (a : Nat) : Fld := ⟨R.PILOT_PSTAT a, 15, 0⟩
end F

def regsPairA : List RegSpec :=
  [
   ⟨"PAIR_CFG", 0x03040000, [], [0], false, [⟨31, 31, .rw⟩, ⟨26, 24, .rw⟩, ⟨21, 16, .rw⟩, ⟨13, 8, .rw⟩, ⟨3, 0, .rw⟩]⟩,
   ⟨"PAIR_CTL", 0x03040004, [], [2], false, [⟨3, 3, .wo⟩, ⟨2, 2, .w1s⟩, ⟨1, 1, .rw⟩]⟩,
   ⟨"PAIR_STAT", 0x03040008, [], [0], false, [⟨31, 29, .ro⟩, ⟨28, 28, .ro⟩, ⟨27, 26, .ro⟩, ⟨25, 24, .ro⟩, ⟨23, 22, .ro⟩, ⟨21, 21, .ro⟩, ⟨20, 20, .ro⟩, ⟨19, 19, .ro⟩, ⟨18, 18, .ro⟩, ⟨17, 17, .ro⟩, ⟨16, 16, .ro⟩, ⟨15, 15, .ro⟩, ⟨14, 14, .ro⟩, ⟨5, 5, .w1c⟩, ⟨4, 4, .w1c⟩, ⟨3, 3, .w1c⟩, ⟨2, 2, .w1c⟩, ⟨1, 1, .w1c⟩, ⟨0, 0, .w1c⟩]⟩,
   ⟨"PAIR_GRANT_LO", 0x03040010, [], [0], false, [⟨31, 0, .ro⟩]⟩,
   ⟨"PAIR_GRANT_HI", 0x03040014, [], [0], false, [⟨31, 0, .ro⟩]⟩,
   ⟨"PAIR_GRANT_E", 0x03040018, [], [0], false, [⟨31, 31, .ro⟩, ⟨15, 0, .ro⟩]⟩,
   ⟨"PAIR_CKPT_LO", 0x03040020, [], [0], false, [⟨31, 0, .ro⟩]⟩,
   ⟨"PAIR_CKPT_HI", 0x03040024, [], [0], false, [⟨31, 0, .ro⟩]⟩,
   ⟨"PAIR_TAKE", 0x03040028, [], [0], false, [⟨31, 24, .ro⟩, ⟨23, 23, .ro⟩, ⟨22, 22, .ro⟩, ⟨21, 21, .ro⟩, ⟨17, 16, .ro⟩]⟩,
   ⟨"PAIR_TAKE_TICK_LO", 0x0304002C, [], [0], false, [⟨31, 0, .ro⟩]⟩,
   ⟨"PAIR_TAKE_TICK_HI", 0x03040030, [], [0], false, [⟨31, 0, .ro⟩]⟩,
   ⟨"PAIR_FERRY", 0x03040040, [], [0x28], false, [⟨7, 0, .rw⟩]⟩,
   ⟨"PAIR_FBUF", 0x03040044, [], [0], false, [⟨19, 4, .rw⟩]⟩,
   ⟨"PAIR_FBUF_SIZE", 0x03040048, [], [0], false, [⟨18, 0, .rw⟩]⟩,
   ⟨"PAIR_STAGE", 0x0304004C, [], [0], false, [⟨19, 4, .rw⟩]⟩,
   ⟨"PAIR_STAGE_SIZE", 0x03040050, [], [0], false, [⟨18, 0, .rw⟩]⟩,
   ⟨"PAIR_REC", 0x03040060, [(4, 4)], [0], false, [⟨18, 0, .rw⟩]⟩,
   ⟨"PAIR_REC_LEN", 0x03040070, [], [0], false, [⟨17, 0, .rw⟩]⟩,
   ⟨"PAIR_SWEEP", 0x03040074, [], [0], false, [⟨30, 16, .ro⟩, ⟨14, 0, .ro⟩]⟩,
   ⟨"PAIR_CNS_SENT", 0x03040080, [], [0], false, [⟨31, 0, .ro⟩]⟩,
   ⟨"PAIR_CNS_ABANDON", 0x03040084, [], [0], false, [⟨31, 0, .ro⟩]⟩,
   ⟨"PAIR_CNS_COMMIT", 0x03040088, [], [0], false, [⟨31, 0, .ro⟩]⟩,
   ⟨"PAIR_CNS_LOST", 0x0304008C, [], [0], false, [⟨31, 0, .ro⟩]⟩,
   ⟨"PAIR_PASSES", 0x03040090, [], [0], false, [⟨31, 0, .ro⟩]⟩]

def regsPairB : List RegSpec :=
  [
   ⟨"PAIR_REPLAY_RUN", 0x03040094, [], [0], false, [⟨31, 0, .ro⟩]⟩,
   ⟨"PAIR_REPLAY_MISMATCH", 0x03040098, [], [0], false, [⟨31, 0, .ro⟩]⟩,
   ⟨"PAIR_REPLAY_NOTRUN", 0x0304009C, [], [0], false, [⟨31, 0, .ro⟩]⟩,
   ⟨"PAIR_TAKEOVERS", 0x030400A0, [], [0], false, [⟨31, 0, .ro⟩]⟩,
   ⟨"PAIR_SIG", 0x030400A4, [], [0], false, [⟨31, 0, .ro⟩]⟩,
   ⟨"PAIR_SIG_PEER", 0x030400A8, [], [0], false, [⟨31, 0, .ro⟩]⟩,
   ⟨"PAIR_HEALTH", 0x030400AC, [], [0], false, [⟨31, 16, .ro⟩, ⟨15, 8, .ro⟩, ⟨6, 0, .ro⟩]⟩,
   ⟨"PAIR_FT_BASE", 0x03040100, [(8, 16)], [0], false, [⟨31, 6, .rw⟩, ⟨0, 0, .rw⟩]⟩,
   ⟨"PAIR_FT_LINES", 0x03040104, [(8, 16)], [0], false, [⟨14, 0, .rw⟩]⟩,
   ⟨"PILOT_CTL", 0x03040200, [], [0], false, [⟨31, 31, .rw⟩, ⟨15, 0, .ro⟩]⟩,
   ⟨"PILOT_PAIR", 0x03040240, [(8, 16)], [0], false, [⟨31, 31, .rw⟩, ⟨30, 30, .w1s⟩, ⟨29, 29, .w1c⟩, ⟨13, 8, .rw⟩, ⟨5, 0, .rw⟩]⟩,
   ⟨"PILOT_PSTAT", 0x03040244, [(8, 16)], [0], false, [⟨31, 30, .ro⟩, ⟨29, 29, .w1c⟩, ⟨28, 28, .ro⟩, ⟨27, 27, .ro⟩, ⟨15, 0, .ro⟩]⟩]

def regsPair : List RegSpec := regsPairA ++ regsPairB

/-! ## FAULT: the registers of spec/10_faults.md -/

namespace R

def FAULT_CTL : Nat := 0x03050000
def FAULT_STAT : Nat := 0x03050004
def FAULT_SAFE : Nat := 0x03050008
def FAULT_SAFE_KIND (a : Nat) : Nat := 0x0305000C + a * 4
def FAULT_FOREQ : Nat := 0x03050014
def FAULT_LMUTE : Nat := 0x03050018
def FAULT_REC_WR : Nat := 0x03050020
def FAULT_REC_RD : Nat := 0x03050024
def FAULT_MSG_CNT : Nat := 0x03050028
def FAULT_MERGED_CNT : Nat := 0x0305002C
def FAULT_REACT (a : Nat) : Nat := 0x03050100 + a * 4
def FAULT_WIN (a : Nat) : Nat := 0x03050200 + a * 4
def FAULT_KCNT (a : Nat) : Nat := 0x03050300 + a * 4
def FAULT_COLL_STAT (a : Nat) : Nat := 0x03050400 + a * 0x10
def FAULT_COLL_NOENT (a : Nat) : Nat := 0x03050404 + a * 0x10
def FAULT_COLL_SEVERE (a : Nat) : Nat := 0x03050408 + a * 0x10
def FAULT_COLL_RELOAD (a : Nat) : Nat := 0x0305040C + a * 0x10
def FAULT_REC (a : Nat) : Nat := 0x03051000 + a * 4
end R

namespace F

def FAULT_CTL_IRQ_EN : Fld := ⟨R.FAULT_CTL, 0, 0⟩
def FAULT_STAT_CHIP_COLL_PAR : Fld := ⟨R.FAULT_STAT, 3, 3⟩
def FAULT_STAT_REC_FULL : Fld := ⟨R.FAULT_STAT, 2, 2⟩
def FAULT_STAT_CFG_REFUSED : Fld := ⟨R.FAULT_STAT, 1, 1⟩
def FAULT_STAT_CLR_REFUSED : Fld := ⟨R.FAULT_STAT, 0, 0⟩
def FAULT_SAFE_CHIP_KIND : Fld := ⟨R.FAULT_SAFE, 29, 24⟩
def FAULT_SAFE_CHIP_SAFE : Fld := ⟨R.FAULT_SAFE, 8, 8⟩
def FAULT_SAFE_REGION_SAFE : Fld := ⟨R.FAULT_SAFE, 6, 0⟩
def FAULT_SAFE_KIND_K3 (a : Nat) : Fld := ⟨R.FAULT_SAFE_KIND a, 29, 24⟩
def FAULT_SAFE_KIND_K2 (a : Nat) : Fld := ⟨R.FAULT_SAFE_KIND a, 21, 16⟩
def FAULT_SAFE_KIND_K1 (a : Nat) : Fld := ⟨R.FAULT_SAFE_KIND a, 13, 8⟩
def FAULT_SAFE_KIND_K0 (a : Nat) : Fld := ⟨R.FAULT_SAFE_KIND a, 5, 0⟩
def FAULT_FOREQ_REQ : Fld := ⟨R.FAULT_FOREQ, 31, 31⟩
def FAULT_FOREQ_WITHHELD : Fld := ⟨R.FAULT_FOREQ, 30, 30⟩
def FAULT_FOREQ_KIND : Fld := ⟨R.FAULT_FOREQ, 29, 24⟩
def FAULT_FOREQ_SOURCE : Fld := ⟨R.FAULT_FOREQ, 11, 0⟩
def FAULT_LMUTE_GROUPS : Fld := ⟨R.FAULT_LMUTE, 11, 0⟩
def FAULT_REC_WR_WR : Fld := ⟨R.FAULT_REC_WR, 5, 0⟩
def FAULT_REC_RD_RD : Fld := ⟨R.FAULT_REC_RD, 5, 0⟩
def FAULT_MSG_CNT_V : Fld := ⟨R.FAULT_MSG_CNT, 31, 0⟩
def FAULT_MERGED_CNT_V : Fld := ⟨R.FAULT_MERGED_CNT, 31, 0⟩
def FAULT_REACT_N (a : Nat) : Fld := ⟨R.FAULT_REACT a, 31, 24⟩
def FAULT_REACT_SEVERE (a : Nat) : Fld := ⟨R.FAULT_REACT a, 15, 8⟩
def FAULT_REACT_BASE (a : Nat) : Fld := ⟨R.FAULT_REACT a, 7, 0⟩
def FAULT_WIN_W (a : Nat) : Fld := ⟨R.FAULT_WIN a, 15, 0⟩
def FAULT_KCNT_COUNT (a : Nat) : Fld := ⟨R.FAULT_KCNT a, 31, 0⟩
def FAULT_COLL_STAT_PARITY (a : Nat) : Fld := ⟨R.FAULT_COLL_STAT a, 31, 31⟩
def FAULT_COLL_STAT_ENTRIES (a : Nat) : Fld := ⟨R.FAULT_COLL_STAT a, 5, 0⟩
def FAULT_COLL_NOENT_COUNT (a : Nat) : Fld := ⟨R.FAULT_COLL_NOENT a, 31, 0⟩
def FAULT_COLL_SEVERE_COUNT (a : Nat) : Fld := ⟨R.FAULT_COLL_SEVERE a, 31, 0⟩
def FAULT_COLL_RELOAD_RELOAD (a : Nat) : Fld := ⟨R.FAULT_COLL_RELOAD a, 0, 0⟩
def FAULT_REC_V (a : Nat) : Fld := ⟨R.FAULT_REC a, 31, 0⟩
end F

def regsFault : List RegSpec :=
  [
   ⟨"FAULT_CTL", 0x03050000, [], [1], false, [⟨0, 0, .rw⟩]⟩,
   ⟨"FAULT_STAT", 0x03050004, [], [0], false, [⟨3, 3, .ro⟩, ⟨2, 2, .ro⟩, ⟨1, 1, .w1c⟩, ⟨0, 0, .w1c⟩]⟩,
   ⟨"FAULT_SAFE", 0x03050008, [], [0], false, [⟨29, 24, .ro⟩, ⟨8, 8, .w1cg⟩, ⟨6, 0, .w1cg⟩]⟩,
   ⟨"FAULT_SAFE_KIND", 0x0305000C, [(4, 2)], [0], false, [⟨29, 24, .ro⟩, ⟨21, 16, .ro⟩, ⟨13, 8, .ro⟩, ⟨5, 0, .ro⟩]⟩,
   ⟨"FAULT_FOREQ", 0x03050014, [], [0], false, [⟨31, 31, .w1cg⟩, ⟨30, 30, .ro⟩, ⟨29, 24, .ro⟩, ⟨11, 0, .ro⟩]⟩,
   ⟨"FAULT_LMUTE", 0x03050018, [], [0], false, [⟨11, 0, .w1cg⟩]⟩,
   ⟨"FAULT_REC_WR", 0x03050020, [], [0], false, [⟨5, 0, .ro⟩]⟩,
   ⟨"FAULT_REC_RD", 0x03050024, [], [0], false, [⟨5, 0, .rw⟩]⟩,
   ⟨"FAULT_MSG_CNT", 0x03050028, [], [0], false, [⟨31, 0, .ro⟩]⟩,
   ⟨"FAULT_MERGED_CNT", 0x0305002C, [], [0], false, [⟨31, 0, .ro⟩]⟩,
   ⟨"FAULT_REACT", 0x03050100, [(4, 64)], [0, 0x10000300, 0x01000003, 0x04000201, 0x04000201, 0x01000003, 0x08000100, 0xFF000100, 0x40000201, 0x01000003, 0x01000001, 0x01000007, 0x01000003, 0x01000043, 0x08000201, 0x01000043, 0x01000003, 0x01000003, 0x01000023, 0x03004003, 0x03004083, 0x01000013, 0x01000003, 0x04000201, 0x01000003, 0x01000003, 0x01000003, 0x01000003, 0x04000201, 0x01000003, 0x01000003, 0x10000300, 0x01000003, 0x10000300, 0x01000003, 0x01000003, 0x01000003, 0x01000003, 0x01000003, 0x01000001, 0x01000003, 0x01000003, 0x01000003, 0x01000003, 0x01000003, 0x01000003, 0x04000201, 0x04000201, 0x01000003, 0x01000003, 0x01000003, 0x01000003, 0, 0, 0, 0, 0, 0, 0, 0, 0, 0, 0, 0], false, [⟨31, 24, .rw⟩, ⟨15, 8, .rw⟩, ⟨7, 0, .rw⟩]⟩,
   ⟨"FAULT_WIN", 0x03050200, [(4, 64)], [0, 0x3E8, 0x3E8, 0x3E8, 0x3E8, 0x3E8, 0x3E8, 0x3E8, 0x3E8, 0x3E8, 0x3E8, 0x3E8, 0x3E8, 0x3E8, 0x3E8, 0x3E8, 0x3E8, 0x3E8, 0x3E8, 0xEA60, 0xEA60, 0x3E8, 0x3E8, 0x3E8, 0x3E8, 0x3E8, 0x3E8, 0x3E8, 0x3E8, 0x3E8, 0x3E8, 0x3E8, 0x3E8, 0x3E8, 0x3E8, 0x3E8, 0x3E8, 0x3E8, 0x3E8, 0x3E8, 0x3E8, 0x3E8, 0x3E8, 0x3E8, 0x3E8, 0x3E8, 0x3E8, 0x3E8, 0x3E8, 0x3E8, 0x3E8, 0x3E8, 0, 0, 0, 0, 0, 0, 0, 0, 0, 0, 0, 0], false, [⟨15, 0, .rw⟩]⟩,
   ⟨"FAULT_KCNT", 0x03050300, [(4, 64)], [0], false, [⟨31, 0, .ro⟩]⟩,
   ⟨"FAULT_COLL_STAT", 0x03050400, [(0x10, 7)], [0], false, [⟨31, 31, .w1cg⟩, ⟨5, 0, .ro⟩]⟩,
   ⟨"FAULT_COLL_NOENT", 0x03050404, [(0x10, 7)], [0], false, [⟨31, 0, .ro⟩]⟩,
   ⟨"FAULT_COLL_SEVERE", 0x03050408, [(0x10, 7)], [0], false, [⟨31, 0, .ro⟩]⟩,
   ⟨"FAULT_COLL_RELOAD", 0x0305040C, [(0x10, 7)], [0], false, [⟨0, 0, .wo⟩]⟩,
   ⟨"FAULT_REC", 0x03051000, [(4, 256)], [0], false, [⟨31, 0, .ro⟩]⟩]

/-! ## MTX: the registers of spec/11_memory_and_matrix.md -/

namespace R

def MTX_STAT : Nat := 0x030F0000
def MTX_HANG_CTL : Nat := 0x030F0004
def MTX_HANG_LAST : Nat := 0x030F0008
def MTX_HANG_DOM : Nat := 0x030F000C
def MTX_DOM_RST : Nat := 0x030F0010
def MTX_DECODE_LAST : Nat := 0x030F0014
def MTX_LOCK_CORE : Nat := 0x030F0018
def MTX_DECODE_CNT : Nat := 0x030F001C
def MTX_LOCK_ABORT_CNT : Nat := 0x030F0020
def MTX_HANG_CNT : Nat := 0x030F0024
def MEM_SCRUB_CTL : Nat := 0x030F0100
def MEM_SCRUB_PASS : Nat := 0x030F0104
def MEM_ECC_CORR_CNT : Nat := 0x030F0108
def MEM_ECC_UNCORR_CNT : Nat := 0x030F010C
def MEM_ECC_LAST : Nat := 0x030F0110
def MEM_RET_IDLE : Nat := 0x030F0114
def MEM_INJ_ADDR : Nat := 0x030F0118
def MEM_INJ_CTL : Nat := 0x030F011C
def MEM_RET_REGION (a : Nat) : Nat := 0x030F0140 + a * 4
def MEM_RET_CLUSTER (a : Nat) : Nat := 0x030F0150 + a * 4
def MEM_WAKE_CNT : Nat := 0x030F0170
def MTX_ATOM_ADDR (a : Nat) : Nat := 0x030F0200 + a * 0x10
def MTX_ATOM_OPND (a : Nat) : Nat := 0x030F0204 + a * 0x10
def MTX_ATOM_CTL (a : Nat) : Nat := 0x030F0208 + a * 0x10
def MTX_ATOM_OLD (a : Nat) : Nat := 0x030F020C + a * 0x10
end R

namespace F

def MTX_STAT_LOCK_ABORT : Fld := ⟨R.MTX_STAT, 3, 3⟩
def MTX_STAT_DECODE : Fld := ⟨R.MTX_STAT, 2, 2⟩
def MTX_STAT_HUNG : Fld := ⟨R.MTX_STAT, 1, 1⟩
def MTX_STAT_CFG_REFUSED : Fld := ⟨R.MTX_STAT, 0, 0⟩
def MTX_HANG_CTL_AUTO_MS : Fld := ⟨R.MTX_HANG_CTL, 7, 0⟩
def MTX_HANG_LAST_V : Fld := ⟨R.MTX_HANG_LAST, 31, 0⟩
def MTX_HANG_DOM_OUTSTANDING : Fld := ⟨R.MTX_HANG_DOM, 31, 31⟩
def MTX_HANG_DOM_DOMAIN : Fld := ⟨R.MTX_HANG_DOM, 5, 0⟩
def MTX_DOM_RST_GO : Fld := ⟨R.MTX_DOM_RST, 31, 31⟩
def MTX_DOM_RST_DOMAIN : Fld := ⟨R.MTX_DOM_RST, 5, 0⟩
def MTX_DECODE_LAST_V : Fld := ⟨R.MTX_DECODE_LAST, 31, 0⟩
def MTX_LOCK_CORE_COUNT : Fld := ⟨R.MTX_LOCK_CORE, 2, 0⟩
def MTX_DECODE_CNT_V : Fld := ⟨R.MTX_DECODE_CNT, 31, 0⟩
def MTX_LOCK_ABORT_CNT_V : Fld := ⟨R.MTX_LOCK_ABORT_CNT, 31, 0⟩
def MTX_HANG_CNT_V : Fld := ⟨R.MTX_HANG_CNT, 31, 0⟩
def MEM_SCRUB_CTL_EN : Fld := ⟨R.MEM_SCRUB_CTL, 0, 0⟩
def MEM_SCRUB_PASS_V : Fld := ⟨R.MEM_SCRUB_PASS, 31, 0⟩
def MEM_ECC_CORR_CNT_V : Fld := ⟨R.MEM_ECC_CORR_CNT, 31, 0⟩
def MEM_ECC_UNCORR_CNT_V : Fld := ⟨R.MEM_ECC_UNCORR_CNT, 31, 0⟩
def MEM_ECC_LAST_V : Fld := ⟨R.MEM_ECC_LAST, 31, 0⟩
def MEM_RET_IDLE_IDLE : Fld := ⟨R.MEM_RET_IDLE, 15, 0⟩
def MEM_INJ_ADDR_ADDR : Fld := ⟨R.MEM_INJ_ADDR, 31, 2⟩
def MEM_INJ_CTL_ARMED : Fld := ⟨R.MEM_INJ_CTL, 8, 8⟩
def MEM_INJ_CTL_MODE : Fld := ⟨R.MEM_INJ_CTL, 1, 0⟩
def MEM_RET_REGION_V (a : Nat) : Fld := ⟨R.MEM_RET_REGION a, 31, 0⟩
def MEM_RET_CLUSTER_ODD (a : Nat) : Fld := ⟨R.MEM_RET_CLUSTER a, 31, 16⟩
def MEM_RET_CLUSTER_EVEN (a : Nat) : Fld := ⟨R.MEM_RET_CLUSTER a, 15, 0⟩
def MEM_WAKE_CNT_V : Fld := ⟨R.MEM_WAKE_CNT, 31, 0⟩
def MTX_ATOM_ADDR_ADDR (a : Nat) : Fld := ⟨R.MTX_ATOM_ADDR a, 31, 0⟩
def MTX_ATOM_OPND_OPND (a : Nat) : Fld := ⟨R.MTX_ATOM_OPND a, 31, 0⟩
def MTX_ATOM_CTL_BUSY (a : Nat) : Fld := ⟨R.MTX_ATOM_CTL a, 31, 31⟩
def MTX_ATOM_CTL_ERR (a : Nat) : Fld := ⟨R.MTX_ATOM_CTL a, 30, 30⟩
def MTX_ATOM_CTL_OP (a : Nat) : Fld := ⟨R.MTX_ATOM_CTL a, 1, 0⟩
def MTX_ATOM_OLD_OLD (a : Nat) : Fld := ⟨R.MTX_ATOM_OLD a, 31, 0⟩
end F

def regsMtxA : List RegSpec :=
  [
   ⟨"MTX_STAT", 0x030F0000, [], [0], false, [⟨3, 3, .w1c⟩, ⟨2, 2, .w1c⟩, ⟨1, 1, .w1c⟩, ⟨0, 0, .w1c⟩]⟩,
   ⟨"MTX_HANG_CTL", 0x030F0004, [], [1], false, [⟨7, 0, .rw⟩]⟩,
   ⟨"MTX_HANG_LAST", 0x030F0008, [], [0], false, [⟨31, 0, .ro⟩]⟩,
   ⟨"MTX_HANG_DOM", 0x030F000C, [], [0], false, [⟨31, 31, .ro⟩, ⟨5, 0, .ro⟩]⟩,
   ⟨"MTX_DOM_RST", 0x030F0010, [], [0], false, [⟨31, 31, .wo⟩, ⟨5, 0, .wo⟩]⟩,
   ⟨"MTX_DECODE_LAST", 0x030F0014, [], [0], false, [⟨31, 0, .ro⟩]⟩,
   ⟨"MTX_LOCK_CORE", 0x030F0018, [], [0], false, [⟨2, 0, .wo⟩]⟩,
   ⟨"MTX_DECODE_CNT", 0x030F001C, [], [0], false, [⟨31, 0, .ro⟩]⟩,
   ⟨"MTX_LOCK_ABORT_CNT", 0x030F0020, [], [0], false, [⟨31, 0, .ro⟩]⟩,
   ⟨"MTX_HANG_CNT", 0x030F0024, [], [0], false, [⟨31, 0, .ro⟩]⟩,
   ⟨"MEM_SCRUB_CTL", 0x030F0100, [], [1], false, [⟨0, 0, .rw⟩]⟩,
   ⟨"MEM_SCRUB_PASS", 0x030F0104, [], [0], false, [⟨31, 0, .ro⟩]⟩,
   ⟨"MEM_ECC_CORR_CNT", 0x030F0108, [], [0], false, [⟨31, 0, .ro⟩]⟩,
   ⟨"MEM_ECC_UNCORR_CNT", 0x030F010C, [], [0], false, [⟨31, 0, .ro⟩]⟩,
   ⟨"MEM_ECC_LAST", 0x030F0110, [], [0], false, [⟨31, 0, .ro⟩]⟩,
   ⟨"MEM_RET_IDLE", 0x030F0114, [], [0xC8], false, [⟨15, 0, .rw⟩]⟩,
   ⟨"MEM_INJ_ADDR", 0x030F0118, [], [0], false, [⟨31, 2, .rw⟩]⟩,
   ⟨"MEM_INJ_CTL", 0x030F011C, [], [0], false, [⟨8, 8, .ro⟩, ⟨1, 0, .wo⟩]⟩,
   ⟨"MEM_RET_REGION", 0x030F0140, [(4, 4)], [0], false, [⟨31, 0, .ro⟩]⟩,
   ⟨"MEM_RET_CLUSTER", 0x030F0150, [(4, 8)], [0], false, [⟨31, 16, .ro⟩, ⟨15, 0, .ro⟩]⟩,
   ⟨"MEM_WAKE_CNT", 0x030F0170, [], [0], false, [⟨31, 0, .ro⟩]⟩,
   ⟨"MTX_ATOM_ADDR", 0x030F0200, [(0x10, 8)], [0], false, [⟨31, 0, .rw⟩]⟩,
   ⟨"MTX_ATOM_OPND", 0x030F0204, [(0x10, 8)], [0], false, [⟨31, 0, .rw⟩]⟩,
   ⟨"MTX_ATOM_CTL", 0x030F0208, [(0x10, 8)], [0], false, [⟨31, 31, .ro⟩, ⟨30, 30, .w1c⟩, ⟨1, 0, .wo⟩]⟩]

def regsMtxB : List RegSpec :=
  [
   ⟨"MTX_ATOM_OLD", 0x030F020C, [(0x10, 8)], [0], false, [⟨31, 0, .ro⟩]⟩]

def regsMtx : List RegSpec := regsMtxA ++ regsMtxB

/-! ## CLK: the registers of spec/12_references.md -/

namespace R

def CLK_CTL : Nat := 0x03060000
def CLK_DPLL : Nat := 0x03060004
def CLK_QUAL : Nat := 0x03060008
def CLK_LIMITS : Nat := 0x0306000C
def CLK_FALLBACK (a : Nat) : Nat := 0x03060010 + a * 4
def CLK_HOLD : Nat := 0x03060020
def CLK_IN_CFG : Nat := 0x03060024
def CLK_STAT : Nat := 0x03060030
def CLK_HIST : Nat := 0x03060034
def CLK_HO_TIMER : Nat := 0x03060038
def CLK_HO_FREQ : Nat := 0x0306003C
def CLK_PHASE_ERR : Nat := 0x03060040
def CLK_SWITCH_CNT : Nat := 0x03060044
def CLK_MOUT (a : Nat) : Nat := 0x03060080 + a * 4
def CLK_REF_STAT (a : Nat) : Nat := 0x03060100 + a * 8
def CLK_REF_OFS (a : Nat) : Nat := 0x03060104 + a * 8
end R

namespace F

def CLK_CTL_SEL_EN : Fld := ⟨R.CLK_CTL, 31, 31⟩
def CLK_CTL_FB_EN : Fld := ⟨R.CLK_CTL, 30, 30⟩
def CLK_CTL_PBO : Fld := ⟨R.CLK_CTL, 16, 16⟩
def CLK_CTL_REF_SEL : Fld := ⟨R.CLK_CTL, 3, 0⟩
def CLK_DPLL_PSL : Fld := ⟨R.CLK_DPLL, 31, 16⟩
def CLK_DPLL_BW : Fld := ⟨R.CLK_DPLL, 1, 0⟩
def CLK_QUAL_QUAL_MS : Fld := ⟨R.CLK_QUAL, 31, 16⟩
def CLK_QUAL_RANGE_PPM : Fld := ⟨R.CLK_QUAL, 9, 0⟩
def CLK_LIMITS_PHIT_NS : Fld := ⟨R.CLK_LIMITS, 31, 16⟩
def CLK_LIMITS_AGREE : Fld := ⟨R.CLK_LIMITS, 9, 0⟩
def CLK_FALLBACK_EN (a : Nat) : Fld := ⟨R.CLK_FALLBACK a, 31, 31⟩
def CLK_FALLBACK_PBO (a : Nat) : Fld := ⟨R.CLK_FALLBACK a, 16, 16⟩
def CLK_FALLBACK_RANK (a : Nat) : Fld := ⟨R.CLK_FALLBACK a, 9, 8⟩
def CLK_FALLBACK_INPUT (a : Nat) : Fld := ⟨R.CLK_FALLBACK a, 3, 0⟩
def CLK_HOLD_LOCK_NS : Fld := ⟨R.CLK_HOLD, 31, 16⟩
def CLK_HOLD_HO_LIMIT : Fld := ⟨R.CLK_HOLD, 15, 0⟩
def CLK_IN_CFG_PPS_EDGE : Fld := ⟨R.CLK_IN_CFG, 3, 3⟩
def CLK_IN_CFG_WCLKB_EDGE : Fld := ⟨R.CLK_IN_CFG, 2, 2⟩
def CLK_IN_CFG_WCLKA_EDGE : Fld := ⟨R.CLK_IN_CFG, 1, 1⟩
def CLK_IN_CFG_MCLK_MULT : Fld := ⟨R.CLK_IN_CFG, 0, 0⟩
def CLK_STAT_STATE : Fld := ⟨R.CLK_STAT, 31, 29⟩
def CLK_STAT_CUR_VALID : Fld := ⟨R.CLK_STAT, 28, 28⟩
def CLK_STAT_CUR : Fld := ⟨R.CLK_STAT, 27, 24⟩
def CLK_STAT_SWITCHING : Fld := ⟨R.CLK_STAT, 23, 23⟩
def CLK_STAT_HIST_OK : Fld := ⟨R.CLK_STAT, 22, 22⟩
def CLK_STAT_BW_LIMITED : Fld := ⟨R.CLK_STAT, 21, 21⟩
def CLK_STAT_XO : Fld := ⟨R.CLK_STAT, 17, 16⟩
def CLK_STAT_REF_DISAGREE : Fld := ⟨R.CLK_STAT, 3, 3⟩
def CLK_STAT_SWITCHED : Fld := ⟨R.CLK_STAT, 2, 2⟩
def CLK_STAT_CFG_REFUSED : Fld := ⟨R.CLK_STAT, 1, 1⟩
def CLK_STAT_STATE_CHG : Fld := ⟨R.CLK_STAT, 0, 0⟩
def CLK_HIST_V : Fld := ⟨R.CLK_HIST, 31, 0⟩
def CLK_HO_TIMER_V : Fld := ⟨R.CLK_HO_TIMER, 31, 0⟩
def CLK_HO_FREQ_V : Fld := ⟨R.CLK_HO_FREQ, 31, 0⟩
def CLK_PHASE_ERR_V : Fld := ⟨R.CLK_PHASE_ERR, 31, 0⟩
def CLK_SWITCH_CNT_V : Fld := ⟨R.CLK_SWITCH_CNT, 31, 0⟩
def CLK_MOUT_EN (a : Nat) : Fld := ⟨R.CLK_MOUT a, 31, 31⟩
def CLK_MOUT_FOLLOW (a : Nat) : Fld := ⟨R.CLK_MOUT a, 30, 30⟩
def CLK_MOUT_HIZ_OFF (a : Nat) : Fld := ⟨R.CLK_MOUT a, 29, 29⟩
def CLK_MOUT_LIMITED (a : Nat) : Fld := ⟨R.CLK_MOUT a, 28, 28⟩
def CLK_MOUT_SRC (a : Nat) : Fld := ⟨R.CLK_MOUT a, 2, 0⟩
def CLK_REF_STAT_PRESENT (a : Nat) : Fld := ⟨R.CLK_REF_STAT a, 31, 31⟩
def CLK_REF_STAT_QUALIFIED (a : Nat) : Fld := ⟨R.CLK_REF_STAT a, 30, 30⟩
def CLK_REF_STAT_DQ_REASON (a : Nat) : Fld := ⟨R.CLK_REF_STAT a, 29, 27⟩
def CLK_REF_STAT_QUAL_LEFT (a : Nat) : Fld := ⟨R.CLK_REF_STAT a, 15, 0⟩
def CLK_REF_OFS_OFS (a : Nat) : Fld := ⟨R.CLK_REF_OFS a, 31, 0⟩
end F

def regsClk : List RegSpec :=
  [
   ⟨"CLK_CTL", 0x03060000, [], [0x40000000], false, [⟨31, 31, .rw⟩, ⟨30, 30, .rw⟩, ⟨16, 16, .rw⟩, ⟨3, 0, .rw⟩]⟩,
   ⟨"CLK_DPLL", 0x03060004, [], [0x03E80002], false, [⟨31, 16, .rw⟩, ⟨1, 0, .rw⟩]⟩,
   ⟨"CLK_QUAL", 0x03060008, [], [0x07D00064], false, [⟨31, 16, .rw⟩, ⟨9, 0, .rw⟩]⟩,
   ⟨"CLK_LIMITS", 0x0306000C, [], [0x03E8000A], false, [⟨31, 16, .rw⟩, ⟨9, 0, .rw⟩]⟩,
   ⟨"CLK_FALLBACK", 0x03060010, [(4, 4)], [0], false, [⟨31, 31, .rw⟩, ⟨16, 16, .rw⟩, ⟨9, 8, .rw⟩, ⟨3, 0, .rw⟩]⟩,
   ⟨"CLK_HOLD", 0x03060020, [], [0x00C80E10], false, [⟨31, 16, .rw⟩, ⟨15, 0, .rw⟩]⟩,
   ⟨"CLK_IN_CFG", 0x03060024, [], [0], false, [⟨3, 3, .rw⟩, ⟨2, 2, .rw⟩, ⟨1, 1, .rw⟩, ⟨0, 0, .rw⟩]⟩,
   ⟨"CLK_STAT", 0x03060030, [], [0], false, [⟨31, 29, .ro⟩, ⟨28, 28, .ro⟩, ⟨27, 24, .ro⟩, ⟨23, 23, .ro⟩, ⟨22, 22, .ro⟩, ⟨21, 21, .ro⟩, ⟨17, 16, .ro⟩, ⟨3, 3, .ro⟩, ⟨2, 2, .w1c⟩, ⟨1, 1, .w1c⟩, ⟨0, 0, .w1c⟩]⟩,
   ⟨"CLK_HIST", 0x03060034, [], [0], false, [⟨31, 0, .ro⟩]⟩,
   ⟨"CLK_HO_TIMER", 0x03060038, [], [0], false, [⟨31, 0, .ro⟩]⟩,
   ⟨"CLK_HO_FREQ", 0x0306003C, [], [0], false, [⟨31, 0, .ro⟩]⟩,
   ⟨"CLK_PHASE_ERR", 0x03060040, [], [0], false, [⟨31, 0, .ro⟩]⟩,
   ⟨"CLK_SWITCH_CNT", 0x03060044, [], [0], false, [⟨31, 0, .ro⟩]⟩,
   ⟨"CLK_MOUT", 0x03060080, [(4, 4)], [0], false, [⟨31, 31, .rw⟩, ⟨30, 30, .rw⟩, ⟨29, 29, .rw⟩, ⟨28, 28, .ro⟩, ⟨2, 0, .rw⟩]⟩,
   ⟨"CLK_REF_STAT", 0x03060100, [(8, 16)], [0], false, [⟨31, 31, .ro⟩, ⟨30, 30, .ro⟩, ⟨29, 27, .ro⟩, ⟨15, 0, .ro⟩]⟩,
   ⟨"CLK_REF_OFS", 0x03060104, [(8, 16)], [0], false, [⟨31, 0, .ro⟩]⟩]

/-! ## NGL: the registers of spec/13_ngulek_lanes.md -/

namespace R

def NGL_CTL (a : Nat) : Nat := 0x03080000 + a * 0x2000
def NGL_CFG (a : Nat) : Nat := 0x03080004 + a * 0x2000
def NGL_STAT (a : Nat) : Nat := 0x03080008 + a * 0x2000
def NGL_FAIL (a : Nat) : Nat := 0x03080010 + a * 0x2000
def NGL_UP_CNT (a : Nat) : Nat := 0x03080014 + a * 0x2000
def NGL_FFE (a : Nat) : Nat := 0x03080020 + a * 0x2000
def NGL_FFE_INIT (a : Nat) : Nat := 0x03080024 + a * 0x2000
def NGL_DFE_PRESET (a b : Nat) : Nat := 0x03080040 + a * 0x2000 + b * 4
def NGL_CTLE (a : Nat) : Nat := 0x03080100 + a * 0x2000
def NGL_DFE_CTL (a : Nat) : Nat := 0x03080104 + a * 0x2000
def NGL_DFE_TAP (a b : Nat) : Nat := 0x03080110 + a * 0x2000 + b * 4
def NGL_ES_CTL (a : Nat) : Nat := 0x03080200 + a * 0x2000
def NGL_ES_ERR (a : Nat) : Nat := 0x03080204 + a * 0x2000
def NGL_HDR_ERR_CNT (a : Nat) : Nat := 0x03080300 + a * 0x2000
def NGL_PRBS_STAT (a : Nat) : Nat := 0x03080304 + a * 0x2000
def NGL_PRBS_ERR_CNT (a : Nat) : Nat := 0x03080308 + a * 0x2000
end R

namespace F

def NGL_CTL_EN (a : Nat) : Fld := ⟨R.NGL_CTL a, 31, 31⟩
def NGL_CTL_MOOR (a : Nat) : Fld := ⟨R.NGL_CTL a, 30, 30⟩
def NGL_CTL_MOOR_ALLOW (a : Nat) : Fld := ⟨R.NGL_CTL a, 29, 29⟩
def NGL_CTL_MODE (a : Nat) : Fld := ⟨R.NGL_CTL a, 2, 0⟩
def NGL_CFG_RX_INV (a : Nat) : Fld := ⟨R.NGL_CFG a, 9, 9⟩
def NGL_CFG_TX_INV (a : Nat) : Fld := ⟨R.NGL_CFG a, 8, 8⟩
def NGL_CFG_RATE (a : Nat) : Fld := ⟨R.NGL_CFG a, 0, 0⟩
def NGL_STAT_STATE (a : Nat) : Fld := ⟨R.NGL_STAT a, 31, 28⟩
def NGL_STAT_CLOCK_PRESENT (a : Nat) : Fld := ⟨R.NGL_STAT a, 27, 27⟩
def NGL_STAT_READY (a : Nat) : Fld := ⟨R.NGL_STAT a, 26, 26⟩
def NGL_STAT_SIG_DET (a : Nat) : Fld := ⟨R.NGL_STAT a, 25, 25⟩
def NGL_STAT_FAR_TERM (a : Nat) : Fld := ⟨R.NGL_STAT a, 24, 24⟩
def NGL_STAT_MOOR_REFUSED (a : Nat) : Fld := ⟨R.NGL_STAT a, 2, 2⟩
def NGL_STAT_STATE_CHG (a : Nat) : Fld := ⟨R.NGL_STAT a, 1, 1⟩
def NGL_STAT_CFG_REFUSED (a : Nat) : Fld := ⟨R.NGL_STAT a, 0, 0⟩
def NGL_FAIL_REASON (a : Nat) : Fld := ⟨R.NGL_FAIL a, 31, 29⟩
def NGL_FAIL_V (a : Nat) : Fld := ⟨R.NGL_FAIL a, 28, 0⟩
def NGL_UP_CNT_V (a : Nat) : Fld := ⟨R.NGL_UP_CNT a, 31, 0⟩
def NGL_FFE_C_PRE (a : Nat) : Fld := ⟨R.NGL_FFE a, 21, 16⟩
def NGL_FFE_C_MAIN (a : Nat) : Fld := ⟨R.NGL_FFE a, 14, 8⟩
def NGL_FFE_C_POST (a : Nat) : Fld := ⟨R.NGL_FFE a, 5, 0⟩
def NGL_FFE_INIT_C_PRE (a : Nat) : Fld := ⟨R.NGL_FFE_INIT a, 21, 16⟩
def NGL_FFE_INIT_C_MAIN (a : Nat) : Fld := ⟨R.NGL_FFE_INIT a, 14, 8⟩
def NGL_FFE_INIT_C_POST (a : Nat) : Fld := ⟨R.NGL_FFE_INIT a, 5, 0⟩
def NGL_DFE_PRESET_TAP (a b : Nat) : Fld := ⟨R.NGL_DFE_PRESET a b, 6, 0⟩
def NGL_CTLE_PEAK (a : Nat) : Fld := ⟨R.NGL_CTLE a, 3, 0⟩
def NGL_DFE_CTL_FREEZE (a : Nat) : Fld := ⟨R.NGL_DFE_CTL a, 0, 0⟩
def NGL_DFE_TAP_TAP (a b : Nat) : Fld := ⟨R.NGL_DFE_TAP a b, 6, 0⟩
def NGL_ES_CTL_GO (a : Nat) : Fld := ⟨R.NGL_ES_CTL a, 31, 31⟩
def NGL_ES_CTL_DONE (a : Nat) : Fld := ⟨R.NGL_ES_CTL a, 30, 30⟩
def NGL_ES_CTL_ABORTED (a : Nat) : Fld := ⟨R.NGL_ES_CTL a, 29, 29⟩
def NGL_ES_CTL_DWELL (a : Nat) : Fld := ⟨R.NGL_ES_CTL a, 21, 16⟩
def NGL_ES_CTL_VOLT (a : Nat) : Fld := ⟨R.NGL_ES_CTL a, 14, 8⟩
def NGL_ES_CTL_PHASE (a : Nat) : Fld := ⟨R.NGL_ES_CTL a, 5, 0⟩
def NGL_ES_ERR_V (a : Nat) : Fld := ⟨R.NGL_ES_ERR a, 31, 0⟩
def NGL_HDR_ERR_CNT_V (a : Nat) : Fld := ⟨R.NGL_HDR_ERR_CNT a, 31, 0⟩
def NGL_PRBS_STAT_LOCKED (a : Nat) : Fld := ⟨R.NGL_PRBS_STAT a, 31, 31⟩
def NGL_PRBS_STAT_LOSSES (a : Nat) : Fld := ⟨R.NGL_PRBS_STAT a, 15, 0⟩
def NGL_PRBS_ERR_CNT_V (a : Nat) : Fld := ⟨R.NGL_PRBS_ERR_CNT a, 31, 0⟩
end F

def regsNgl : List RegSpec :=
  [
   ⟨"NGL_CTL", 0x03080000, [(0x2000, 8)], [0x80000000], false, [⟨31, 31, .rw⟩, ⟨30, 30, .rw⟩, ⟨29, 29, .rw⟩, ⟨2, 0, .rw⟩]⟩,
   ⟨"NGL_CFG", 0x03080004, [(0x2000, 8)], [0], false, [⟨9, 9, .rw⟩, ⟨8, 8, .rw⟩, ⟨0, 0, .rw⟩]⟩,
   ⟨"NGL_STAT", 0x03080008, [(0x2000, 8)], [0], false, [⟨31, 28, .ro⟩, ⟨27, 27, .ro⟩, ⟨26, 26, .ro⟩, ⟨25, 25, .ro⟩, ⟨24, 24, .ro⟩, ⟨2, 2, .w1c⟩, ⟨1, 1, .w1c⟩, ⟨0, 0, .w1c⟩]⟩,
   ⟨"NGL_FAIL", 0x03080010, [(0x2000, 8)], [0], false, [⟨31, 29, .ro⟩, ⟨28, 0, .ro⟩]⟩,
   ⟨"NGL_UP_CNT", 0x03080014, [(0x2000, 8)], [0], false, [⟨31, 0, .ro⟩]⟩,
   ⟨"NGL_FFE", 0x03080020, [(0x2000, 8)], [0x0004300C], false, [⟨21, 16, .ro⟩, ⟨14, 8, .ro⟩, ⟨5, 0, .ro⟩]⟩,
   ⟨"NGL_FFE_INIT", 0x03080024, [(0x2000, 8)], [0x0004300C], false, [⟨21, 16, .rw⟩, ⟨14, 8, .rw⟩, ⟨5, 0, .rw⟩]⟩,
   ⟨"NGL_DFE_PRESET", 0x03080040, [(0x2000, 8), (4, 8)], [0x14, 0], false, [⟨6, 0, .rw⟩]⟩,
   ⟨"NGL_CTLE", 0x03080100, [(0x2000, 8)], [8], true, [⟨3, 0, .ro⟩]⟩,
   ⟨"NGL_DFE_CTL", 0x03080104, [(0x2000, 8)], [0], true, [⟨0, 0, .rw⟩]⟩,
   ⟨"NGL_DFE_TAP", 0x03080110, [(0x2000, 8), (4, 8)], [0x14, 0], true, [⟨6, 0, .ro⟩]⟩,
   ⟨"NGL_ES_CTL", 0x03080200, [(0x2000, 8)], [0x00140000], true, [⟨31, 31, .w1s⟩, ⟨30, 30, .ro⟩, ⟨29, 29, .ro⟩, ⟨21, 16, .rw⟩, ⟨14, 8, .rw⟩, ⟨5, 0, .rw⟩]⟩,
   ⟨"NGL_ES_ERR", 0x03080204, [(0x2000, 8)], [0], true, [⟨31, 0, .ro⟩]⟩,
   ⟨"NGL_HDR_ERR_CNT", 0x03080300, [(0x2000, 8)], [0], true, [⟨31, 0, .ro⟩]⟩,
   ⟨"NGL_PRBS_STAT", 0x03080304, [(0x2000, 8)], [0], true, [⟨31, 31, .ro⟩, ⟨15, 0, .ro⟩]⟩,
   ⟨"NGL_PRBS_ERR_CNT", 0x03080308, [(0x2000, 8)], [0], true, [⟨31, 0, .ro⟩]⟩]

/-! ## FAB: the registers of spec/14_fabric.md -/

namespace R

def FAB_ID : Nat := 0x03090000
def FAB_CTL : Nat := 0x03090004
def FAB_STAT : Nat := 0x03090008
def FAB_ERR : Nat := 0x0309000C
def FAB_FWVER : Nat := 0x03090010
def FAB_SERIAL_LO : Nat := 0x03090014
def FAB_SERIAL_HI : Nat := 0x03090018
def FAB_RUN_LATE : Nat := 0x03090020
def FAB_RUN_POISON : Nat := 0x03090024
def FAB_EPOCH_DROP : Nat := 0x03090028
def FAB_MSG_NOROUTE : Nat := 0x0309002C
def FAB_MSG_TTL : Nat := 0x03090030
def FAB_EXP_DROP : Nat := 0x03090034
def FAB_FLOW_LOSS_CNT : Nat := 0x03090038
def FAB_TM_BAD : Nat := 0x0309003C
def FAB_RA_CTL : Nat := 0x03090040
def FAB_RA_ADDR : Nat := 0x03090044
def FAB_RA_DATA : Nat := 0x03090048
def FAB_ROUTE (a : Nat) : Nat := 0x03090100 + a * 4
def FAB_PORT_CFG (a : Nat) : Nat := 0x03090200 + a * 0x20
def FAB_PORT_PEER (a : Nat) : Nat := 0x03090204 + a * 0x20
def FAB_PORT_DLY (a : Nat) : Nat := 0x03090208 + a * 0x20
def FAB_PORT_CRED (a : Nat) : Nat := 0x0309020C + a * 0x20
def FAB_PORT_LOAD (a : Nat) : Nat := 0x03090210 + a * 0x20
def FAB_FLOW_W0 (a : Nat) : Nat := 0x03094000 + a * 0x10
def FAB_FLOW_W1 (a : Nat) : Nat := 0x03094004 + a * 0x10
def FAB_FLOW_W2 (a : Nat) : Nat := 0x03094008 + a * 0x10
def FAB_FLOW_STAT (a : Nat) : Nat := 0x0309400C + a * 0x10
end R

namespace F

def FAB_ID_VALID : Fld := ⟨R.FAB_ID, 31, 31⟩
def FAB_ID_MANAGER : Fld := ⟨R.FAB_ID, 30, 30⟩
def FAB_ID_ID : Fld := ⟨R.FAB_ID, 5, 0⟩
def FAB_CTL_RA_TO : Fld := ⟨R.FAB_CTL, 15, 8⟩
def FAB_CTL_FR_EN : Fld := ⟨R.FAB_CTL, 0, 0⟩
def FAB_STAT_TIMED : Fld := ⟨R.FAB_STAT, 31, 31⟩
def FAB_STAT_DEPTH : Fld := ⟨R.FAB_STAT, 27, 24⟩
def FAB_STAT_TICK_CFG_MISMATCH : Fld := ⟨R.FAB_STAT, 5, 5⟩
def FAB_STAT_ID_ADOPTED : Fld := ⟨R.FAB_STAT, 4, 4⟩
def FAB_STAT_FLOWS_CLEARED : Fld := ⟨R.FAB_STAT, 3, 3⟩
def FAB_STAT_FLOW_REFUSED : Fld := ⟨R.FAB_STAT, 2, 2⟩
def FAB_STAT_CFG_REFUSED : Fld := ⟨R.FAB_STAT, 0, 0⟩
def FAB_ERR_REASON : Fld := ⟨R.FAB_ERR, 15, 13⟩
def FAB_ERR_FLOW : Fld := ⟨R.FAB_ERR, 9, 0⟩
def FAB_FWVER_V : Fld := ⟨R.FAB_FWVER, 31, 0⟩
def FAB_SERIAL_LO_V : Fld := ⟨R.FAB_SERIAL_LO, 31, 0⟩
def FAB_SERIAL_HI_V : Fld := ⟨R.FAB_SERIAL_HI, 31, 0⟩
def FAB_RUN_LATE_V : Fld := ⟨R.FAB_RUN_LATE, 31, 0⟩
def FAB_RUN_POISON_V : Fld := ⟨R.FAB_RUN_POISON, 31, 0⟩
def FAB_EPOCH_DROP_V : Fld := ⟨R.FAB_EPOCH_DROP, 31, 0⟩
def FAB_MSG_NOROUTE_V : Fld := ⟨R.FAB_MSG_NOROUTE, 31, 0⟩
def FAB_MSG_TTL_V : Fld := ⟨R.FAB_MSG_TTL, 31, 0⟩
def FAB_EXP_DROP_V : Fld := ⟨R.FAB_EXP_DROP, 31, 0⟩
def FAB_FLOW_LOSS_CNT_V : Fld := ⟨R.FAB_FLOW_LOSS_CNT, 31, 0⟩
def FAB_TM_BAD_V : Fld := ⟨R.FAB_TM_BAD, 31, 0⟩
def FAB_RA_CTL_GO : Fld := ⟨R.FAB_RA_CTL, 31, 31⟩
def FAB_RA_CTL_BUSY : Fld := ⟨R.FAB_RA_CTL, 30, 30⟩
def FAB_RA_CTL_STATUS : Fld := ⟨R.FAB_RA_CTL, 29, 28⟩
def FAB_RA_CTL_WRITE : Fld := ⟨R.FAB_RA_CTL, 16, 16⟩
def FAB_RA_CTL_DEV : Fld := ⟨R.FAB_RA_CTL, 5, 0⟩
def FAB_RA_ADDR_V : Fld := ⟨R.FAB_RA_ADDR, 31, 0⟩
def FAB_RA_DATA_V : Fld := ⟨R.FAB_RA_DATA, 31, 0⟩
def FAB_ROUTE_PRI_EN (a : Nat) : Fld := ⟨R.FAB_ROUTE a, 31, 31⟩
def FAB_ROUTE_PRI (a : Nat) : Fld := ⟨R.FAB_ROUTE a, 26, 24⟩
def FAB_ROUTE_ALT_EN (a : Nat) : Fld := ⟨R.FAB_ROUTE a, 23, 23⟩
def FAB_ROUTE_ALT (a : Nat) : Fld := ⟨R.FAB_ROUTE a, 18, 16⟩
def FAB_PORT_CFG_ASSIGN_EN (a : Nat) : Fld := ⟨R.FAB_PORT_CFG a, 31, 31⟩
def FAB_PORT_CFG_ASSIGN (a : Nat) : Fld := ⟨R.FAB_PORT_CFG a, 29, 24⟩
def FAB_PORT_CFG_ASYM (a : Nat) : Fld := ⟨R.FAB_PORT_CFG a, 15, 0⟩
def FAB_PORT_PEER_VALID (a : Nat) : Fld := ⟨R.FAB_PORT_PEER a, 31, 31⟩
def FAB_PORT_PEER_MANAGER (a : Nat) : Fld := ⟨R.FAB_PORT_PEER a, 30, 30⟩
def FAB_PORT_PEER_TIMED (a : Nat) : Fld := ⟨R.FAB_PORT_PEER a, 29, 29⟩
def FAB_PORT_PEER_DEPTH (a : Nat) : Fld := ⟨R.FAB_PORT_PEER a, 27, 24⟩
def FAB_PORT_PEER_ID (a : Nat) : Fld := ⟨R.FAB_PORT_PEER a, 21, 16⟩
def FAB_PORT_PEER_CAPS_FAIL (a : Nat) : Fld := ⟨R.FAB_PORT_PEER a, 2, 0⟩
def FAB_PORT_DLY_DLY (a : Nat) : Fld := ⟨R.FAB_PORT_DLY a, 31, 0⟩
def FAB_PORT_CRED_CTRL (a : Nat) : Fld := ⟨R.FAB_PORT_CRED a, 15, 8⟩
def FAB_PORT_CRED_BULK (a : Nat) : Fld := ⟨R.FAB_PORT_CRED a, 7, 0⟩
def FAB_PORT_LOAD_CH (a : Nat) : Fld := ⟨R.FAB_PORT_LOAD a, 11, 0⟩
def FAB_FLOW_W0_VALID (a : Nat) : Fld := ⟨R.FAB_FLOW_W0 a, 31, 31⟩
def FAB_FLOW_W0_TYPE (a : Nat) : Fld := ⟨R.FAB_FLOW_W0 a, 30, 29⟩
def FAB_FLOW_W0_EPOCH (a : Nat) : Fld := ⟨R.FAB_FLOW_W0 a, 27, 24⟩
def FAB_FLOW_W0_LOCAL_SRC (a : Nat) : Fld := ⟨R.FAB_FLOW_W0 a, 23, 23⟩
def FAB_FLOW_W0_LOCAL_DST (a : Nat) : Fld := ⟨R.FAB_FLOW_W0 a, 22, 22⟩
def FAB_FLOW_W0_TWIN (a : Nat) : Fld := ⟨R.FAB_FLOW_W0 a, 21, 21⟩
def FAB_FLOW_W0_CH_CNT (a : Nat) : Fld := ⟨R.FAB_FLOW_W0 a, 8, 0⟩
def FAB_FLOW_W1_RX_PORTS (a : Nat) : Fld := ⟨R.FAB_FLOW_W1 a, 15, 8⟩
def FAB_FLOW_W1_TX_PORTS (a : Nat) : Fld := ⟨R.FAB_FLOW_W1 a, 7, 0⟩
def FAB_FLOW_W2_BUF (a : Nat) : Fld := ⟨R.FAB_FLOW_W2 a, 16, 0⟩
def FAB_FLOW_STAT_LOST (a : Nat) : Fld := ⟨R.FAB_FLOW_STAT a, 31, 16⟩
def FAB_FLOW_STAT_COPY_LOST (a : Nat) : Fld := ⟨R.FAB_FLOW_STAT a, 15, 0⟩
end F

def regsFabA : List RegSpec :=
  [
   ⟨"FAB_ID", 0x03090000, [], [0], false, [⟨31, 31, .ro⟩, ⟨30, 30, .ro⟩, ⟨5, 0, .rw⟩]⟩,
   ⟨"FAB_CTL", 0x03090004, [], [0xA00], false, [⟨15, 8, .rw⟩, ⟨0, 0, .rw⟩]⟩,
   ⟨"FAB_STAT", 0x03090008, [], [0], false, [⟨31, 31, .ro⟩, ⟨27, 24, .ro⟩, ⟨5, 5, .ro⟩, ⟨4, 4, .w1c⟩, ⟨3, 3, .w1c⟩, ⟨2, 2, .w1c⟩, ⟨0, 0, .w1c⟩]⟩,
   ⟨"FAB_ERR", 0x0309000C, [], [0], false, [⟨15, 13, .ro⟩, ⟨9, 0, .ro⟩]⟩,
   ⟨"FAB_FWVER", 0x03090010, [], [0], false, [⟨31, 0, .rw⟩]⟩,
   ⟨"FAB_SERIAL_LO", 0x03090014, [], [0], false, [⟨31, 0, .ro⟩]⟩,
   ⟨"FAB_SERIAL_HI", 0x03090018, [], [0], false, [⟨31, 0, .ro⟩]⟩,
   ⟨"FAB_RUN_LATE", 0x03090020, [], [0], false, [⟨31, 0, .ro⟩]⟩,
   ⟨"FAB_RUN_POISON", 0x03090024, [], [0], false, [⟨31, 0, .ro⟩]⟩,
   ⟨"FAB_EPOCH_DROP", 0x03090028, [], [0], false, [⟨31, 0, .ro⟩]⟩,
   ⟨"FAB_MSG_NOROUTE", 0x0309002C, [], [0], false, [⟨31, 0, .ro⟩]⟩,
   ⟨"FAB_MSG_TTL", 0x03090030, [], [0], false, [⟨31, 0, .ro⟩]⟩,
   ⟨"FAB_EXP_DROP", 0x03090034, [], [0], false, [⟨31, 0, .ro⟩]⟩,
   ⟨"FAB_FLOW_LOSS_CNT", 0x03090038, [], [0], false, [⟨31, 0, .ro⟩]⟩,
   ⟨"FAB_TM_BAD", 0x0309003C, [], [0], false, [⟨31, 0, .ro⟩]⟩,
   ⟨"FAB_RA_CTL", 0x03090040, [], [0], false, [⟨31, 31, .w1s⟩, ⟨30, 30, .ro⟩, ⟨29, 28, .ro⟩, ⟨16, 16, .rw⟩, ⟨5, 0, .rw⟩]⟩,
   ⟨"FAB_RA_ADDR", 0x03090044, [], [0], false, [⟨31, 0, .rw⟩]⟩,
   ⟨"FAB_RA_DATA", 0x03090048, [], [0], false, [⟨31, 0, .rw⟩]⟩,
   ⟨"FAB_ROUTE", 0x03090100, [(4, 64)], [0], false, [⟨31, 31, .rw⟩, ⟨26, 24, .rw⟩, ⟨23, 23, .rw⟩, ⟨18, 16, .rw⟩]⟩,
   ⟨"FAB_PORT_CFG", 0x03090200, [(0x20, 8)], [0], false, [⟨31, 31, .rw⟩, ⟨29, 24, .rw⟩, ⟨15, 0, .rw⟩]⟩,
   ⟨"FAB_PORT_PEER", 0x03090204, [(0x20, 8)], [0], false, [⟨31, 31, .ro⟩, ⟨30, 30, .ro⟩, ⟨29, 29, .ro⟩, ⟨27, 24, .ro⟩, ⟨21, 16, .ro⟩, ⟨2, 0, .ro⟩]⟩,
   ⟨"FAB_PORT_DLY", 0x03090208, [(0x20, 8)], [0], false, [⟨31, 0, .ro⟩]⟩,
   ⟨"FAB_PORT_CRED", 0x0309020C, [(0x20, 8)], [0], false, [⟨15, 8, .ro⟩, ⟨7, 0, .ro⟩]⟩,
   ⟨"FAB_PORT_LOAD", 0x03090210, [(0x20, 8)], [0], false, [⟨11, 0, .ro⟩]⟩]

def regsFabB : List RegSpec :=
  [
   ⟨"FAB_FLOW_W0", 0x03094010, [(0x10, 1023)], [0], false, [⟨31, 31, .rw⟩, ⟨30, 29, .rw⟩, ⟨27, 24, .rw⟩, ⟨23, 23, .rw⟩, ⟨22, 22, .rw⟩, ⟨21, 21, .rw⟩, ⟨8, 0, .rw⟩]⟩,
   ⟨"FAB_FLOW_W1", 0x03094014, [(0x10, 1023)], [0], false, [⟨15, 8, .rw⟩, ⟨7, 0, .rw⟩]⟩,
   ⟨"FAB_FLOW_W2", 0x03094018, [(0x10, 1023)], [0], false, [⟨16, 0, .rw⟩]⟩,
   ⟨"FAB_FLOW_STAT", 0x0309401C, [(0x10, 1023)], [0], false, [⟨31, 16, .ro⟩, ⟨15, 0, .ro⟩]⟩]

def regsFab : List RegSpec := regsFabA ++ regsFabB

/-! ## SAP: the registers of spec/15_audio_ports.md -/

namespace R

def SAP_CTL (a : Nat) : Nat := 0x030A0000 + a * 0x400
def SAP_CFG (a : Nat) : Nat := 0x030A0004 + a * 0x400
def SAP_FMT (a : Nat) : Nat := 0x030A0008 + a * 0x400
def SAP_ZC (a : Nat) : Nat := 0x030A000C + a * 0x400
def SAP_MUTE (a : Nat) : Nat := 0x030A0010 + a * 0x400
def SAP_TEL (a : Nat) : Nat := 0x030A0014 + a * 0x400
def SAP_MASK (a : Nat) : Nat := 0x030A0020 + a * 0x400
def SAP_MASK_ACTIVE (a : Nat) : Nat := 0x030A0024 + a * 0x400
def SAP_STAT (a : Nat) : Nat := 0x030A0030 + a * 0x400
def SAP_RATE_MEAS (a : Nat) : Nat := 0x030A0034 + a * 0x400
def SAP_RATE_DEV (a : Nat) : Nat := 0x030A0038 + a * 0x400
def SAP_RATE_THR (a : Nat) : Nat := 0x030A003C + a * 0x400
def SAP_PHASE (a : Nat) : Nat := 0x030A0040 + a * 0x400
def SAP_STAMP_LO (a : Nat) : Nat := 0x030A0044 + a * 0x400
def SAP_STAMP_HI (a : Nat) : Nat := 0x030A0048 + a * 0x400
def SAP_SLIP_CNT (a : Nat) : Nat := 0x030A0050 + a * 0x400
def SAP_CLKLOST_CNT (a : Nat) : Nat := 0x030A0054 + a * 0x400
def SAP_RESTART_CNT (a : Nat) : Nat := 0x030A0058 + a * 0x400
def SAP_TEL_CNT (a : Nat) : Nat := 0x030A005C + a * 0x400
def SAP_FRAME_CNT (a : Nat) : Nat := 0x030A0060 + a * 0x400
def SAP_GRP_CFG (a : Nat) : Nat := 0x030A0380 + a * 0x1000
end R

namespace F

def SAP_CTL_RESTART (a : Nat) : Fld := ⟨R.SAP_CTL a, 8, 8⟩
def SAP_CTL_AUTO_RESTART (a : Nat) : Fld := ⟨R.SAP_CTL a, 4, 4⟩
def SAP_CTL_AUTO_RATE (a : Nat) : Fld := ⟨R.SAP_CTL a, 3, 3⟩
def SAP_CTL_GRP_START (a : Nat) : Fld := ⟨R.SAP_CTL a, 2, 2⟩
def SAP_CTL_STOP (a : Nat) : Fld := ⟨R.SAP_CTL a, 1, 1⟩
def SAP_CTL_START (a : Nat) : Fld := ⟨R.SAP_CTL a, 0, 0⟩
def SAP_CFG_MASTER (a : Nat) : Fld := ⟨R.SAP_CFG a, 31, 31⟩
def SAP_CFG_TX_HIZ (a : Nat) : Fld := ⟨R.SAP_CFG a, 30, 30⟩
def SAP_FMT_FORMAT (a : Nat) : Fld := ⟨R.SAP_FMT a, 31, 30⟩
def SAP_FMT_BCLK_INV (a : Nat) : Fld := ⟨R.SAP_FMT a, 29, 29⟩
def SAP_FMT_FS_POL (a : Nat) : Fld := ⟨R.SAP_FMT a, 28, 28⟩
def SAP_FMT_FS_WIDTH (a : Nat) : Fld := ⟨R.SAP_FMT a, 27, 27⟩
def SAP_FMT_DELAY (a : Nat) : Fld := ⟨R.SAP_FMT a, 26, 26⟩
def SAP_FMT_SLOTS_M1 (a : Nat) : Fld := ⟨R.SAP_FMT a, 20, 16⟩
def SAP_FMT_SLOT_BITS (a : Nat) : Fld := ⟨R.SAP_FMT a, 13, 12⟩
def SAP_FMT_WORD_BITS (a : Nat) : Fld := ⟨R.SAP_FMT a, 9, 8⟩
def SAP_FMT_RX_PACK (a : Nat) : Fld := ⟨R.SAP_FMT a, 5, 4⟩
def SAP_FMT_TX_PACK (a : Nat) : Fld := ⟨R.SAP_FMT a, 1, 0⟩
def SAP_ZC_ZC_TO (a : Nat) : Fld := ⟨R.SAP_ZC a, 15, 0⟩
def SAP_MUTE_MUTE (a : Nat) : Fld := ⟨R.SAP_MUTE a, 15, 0⟩
def SAP_TEL_TEL (a : Nat) : Fld := ⟨R.SAP_TEL a, 15, 0⟩
def SAP_MASK_TX (a : Nat) : Fld := ⟨R.SAP_MASK a, 31, 16⟩
def SAP_MASK_RX (a : Nat) : Fld := ⟨R.SAP_MASK a, 15, 0⟩
def SAP_MASK_ACTIVE_TX (a : Nat) : Fld := ⟨R.SAP_MASK_ACTIVE a, 31, 16⟩
def SAP_MASK_ACTIVE_RX (a : Nat) : Fld := ⟨R.SAP_MASK_ACTIVE a, 15, 0⟩
def SAP_STAT_STATE (a : Nat) : Fld := ⟨R.SAP_STAT a, 31, 29⟩
def SAP_STAT_CLOCK_PRESENT (a : Nat) : Fld := ⟨R.SAP_STAT a, 28, 28⟩
def SAP_STAT_READY (a : Nat) : Fld := ⟨R.SAP_STAT a, 27, 27⟩
def SAP_STAT_SDOUT_DRV (a : Nat) : Fld := ⟨R.SAP_STAT a, 26, 26⟩
def SAP_STAT_CLK_DRV (a : Nat) : Fld := ⟨R.SAP_STAT a, 25, 25⟩
def SAP_STAT_CLK_LOST (a : Nat) : Fld := ⟨R.SAP_STAT a, 24, 24⟩
def SAP_STAT_SLOT_SLIP (a : Nat) : Fld := ⟨R.SAP_STAT a, 23, 23⟩
def SAP_STAT_ZC_TIMEOUT (a : Nat) : Fld := ⟨R.SAP_STAT a, 5, 5⟩
def SAP_STAT_RATE_EVT (a : Nat) : Fld := ⟨R.SAP_STAT a, 4, 4⟩
def SAP_STAT_SLIP_SEEN (a : Nat) : Fld := ⟨R.SAP_STAT a, 3, 3⟩
def SAP_STAT_CLK_LOST_SEEN (a : Nat) : Fld := ⟨R.SAP_STAT a, 2, 2⟩
def SAP_STAT_MASK_LATE (a : Nat) : Fld := ⟨R.SAP_STAT a, 1, 1⟩
def SAP_STAT_CFG_REFUSED (a : Nat) : Fld := ⟨R.SAP_STAT a, 0, 0⟩
def SAP_RATE_MEAS_RATE_VALID (a : Nat) : Fld := ⟨R.SAP_RATE_MEAS a, 31, 31⟩
def SAP_RATE_MEAS_STALE (a : Nat) : Fld := ⟨R.SAP_RATE_MEAS a, 30, 30⟩
def SAP_RATE_MEAS_CLASS (a : Nat) : Fld := ⟨R.SAP_RATE_MEAS a, 27, 24⟩
def SAP_RATE_MEAS_HZ (a : Nat) : Fld := ⟨R.SAP_RATE_MEAS a, 17, 0⟩
def SAP_RATE_DEV_V (a : Nat) : Fld := ⟨R.SAP_RATE_DEV a, 31, 0⟩
def SAP_RATE_THR_THR (a : Nat) : Fld := ⟨R.SAP_RATE_THR a, 15, 0⟩
def SAP_PHASE_V (a : Nat) : Fld := ⟨R.SAP_PHASE a, 31, 0⟩
def SAP_STAMP_LO_V (a : Nat) : Fld := ⟨R.SAP_STAMP_LO a, 31, 0⟩
def SAP_STAMP_HI_V (a : Nat) : Fld := ⟨R.SAP_STAMP_HI a, 31, 0⟩
def SAP_SLIP_CNT_V (a : Nat) : Fld := ⟨R.SAP_SLIP_CNT a, 31, 0⟩
def SAP_CLKLOST_CNT_V (a : Nat) : Fld := ⟨R.SAP_CLKLOST_CNT a, 31, 0⟩
def SAP_RESTART_CNT_V (a : Nat) : Fld := ⟨R.SAP_RESTART_CNT a, 31, 0⟩
def SAP_TEL_CNT_V (a : Nat) : Fld := ⟨R.SAP_TEL_CNT a, 31, 0⟩
def SAP_FRAME_CNT_V (a : Nat) : Fld := ⟨R.SAP_FRAME_CNT a, 31, 0⟩
def SAP_GRP_CFG_CLK_SHARE (a : Nat) : Fld := ⟨R.SAP_GRP_CFG a, 1, 1⟩
def SAP_GRP_CFG_ALIGN (a : Nat) : Fld := ⟨R.SAP_GRP_CFG a, 0, 0⟩
end F

def regsSap : List RegSpec :=
  [
   ⟨"SAP_CTL", 0x030A0000, [(0x400, 24)], [0], false, [⟨8, 8, .wo⟩, ⟨4, 4, .rw⟩, ⟨3, 3, .rw⟩, ⟨2, 2, .rw⟩, ⟨1, 1, .wo⟩, ⟨0, 0, .wo⟩]⟩,
   ⟨"SAP_CFG", 0x030A0004, [(0x400, 24)], [0], false, [⟨31, 31, .rw⟩, ⟨30, 30, .rw⟩]⟩,
   ⟨"SAP_FMT", 0x030A0008, [(0x400, 24)], [0x00012100], false, [⟨31, 30, .rw⟩, ⟨29, 29, .rw⟩, ⟨28, 28, .rw⟩, ⟨27, 27, .rw⟩, ⟨26, 26, .rw⟩, ⟨20, 16, .rw⟩, ⟨13, 12, .rw⟩, ⟨9, 8, .rw⟩, ⟨5, 4, .rw⟩, ⟨1, 0, .rw⟩]⟩,
   ⟨"SAP_ZC", 0x030A000C, [(0x400, 24)], [0x64], false, [⟨15, 0, .rw⟩]⟩,
   ⟨"SAP_MUTE", 0x030A0010, [(0x400, 24)], [0], false, [⟨15, 0, .rw⟩]⟩,
   ⟨"SAP_TEL", 0x030A0014, [(0x400, 24)], [0], false, [⟨15, 0, .rw⟩]⟩,
   ⟨"SAP_MASK", 0x030A0020, [(0x400, 24)], [0], true, [⟨31, 16, .rw⟩, ⟨15, 0, .rw⟩]⟩,
   ⟨"SAP_MASK_ACTIVE", 0x030A0024, [(0x400, 24)], [0], true, [⟨31, 16, .ro⟩, ⟨15, 0, .ro⟩]⟩,
   ⟨"SAP_STAT", 0x030A0030, [(0x400, 24)], [0], false, [⟨31, 29, .ro⟩, ⟨28, 28, .ro⟩, ⟨27, 27, .ro⟩, ⟨26, 26, .ro⟩, ⟨25, 25, .ro⟩, ⟨24, 24, .ro⟩, ⟨23, 23, .ro⟩, ⟨5, 5, .w1c⟩, ⟨4, 4, .w1c⟩, ⟨3, 3, .w1c⟩, ⟨2, 2, .w1c⟩, ⟨1, 1, .w1c⟩, ⟨0, 0, .w1c⟩]⟩,
   ⟨"SAP_RATE_MEAS", 0x030A0034, [(0x400, 24)], [0], false, [⟨31, 31, .ro⟩, ⟨30, 30, .ro⟩, ⟨27, 24, .ro⟩, ⟨17, 0, .ro⟩]⟩,
   ⟨"SAP_RATE_DEV", 0x030A0038, [(0x400, 24)], [0], false, [⟨31, 0, .ro⟩]⟩,
   ⟨"SAP_RATE_THR", 0x030A003C, [(0x400, 24)], [0x3E8], false, [⟨15, 0, .rw⟩]⟩,
   ⟨"SAP_PHASE", 0x030A0040, [(0x400, 24)], [0], false, [⟨31, 0, .ro⟩]⟩,
   ⟨"SAP_STAMP_LO", 0x030A0044, [(0x400, 24)], [0], false, [⟨31, 0, .ro⟩]⟩,
   ⟨"SAP_STAMP_HI", 0x030A0048, [(0x400, 24)], [0], false, [⟨31, 0, .ro⟩]⟩,
   ⟨"SAP_SLIP_CNT", 0x030A0050, [(0x400, 24)], [0], false, [⟨31, 0, .ro⟩]⟩,
   ⟨"SAP_CLKLOST_CNT", 0x030A0054, [(0x400, 24)], [0], false, [⟨31, 0, .ro⟩]⟩,
   ⟨"SAP_RESTART_CNT", 0x030A0058, [(0x400, 24)], [0], false, [⟨31, 0, .ro⟩]⟩,
   ⟨"SAP_TEL_CNT", 0x030A005C, [(0x400, 24)], [0], false, [⟨31, 0, .ro⟩]⟩,
   ⟨"SAP_FRAME_CNT", 0x030A0060, [(0x400, 24)], [0], true, [⟨31, 0, .ro⟩]⟩,
   ⟨"SAP_GRP_CFG", 0x030A0380, [(0x1000, 6)], [0], false, [⟨1, 1, .rw⟩, ⟨0, 0, .rw⟩]⟩]

/-! ## ETHPTP: the registers of spec/16_ethernet_and_time.md -/

namespace R

def PTP_CTL : Nat := 0x03070400
def PTP_STAT : Nat := 0x03070404
def PTP_RATE : Nat := 0x03070408
def PTP_TIME_SUB : Nat := 0x03070410
def PTP_TIME_NS : Nat := 0x03070414
def PTP_TIME_S_LO : Nat := 0x03070418
def PTP_TIME_S_HI : Nat := 0x0307041C
def PTP_ADJ_NS : Nat := 0x03070420
def PTP_ADJ_S : Nat := 0x03070424
def PTP_SET_NS : Nat := 0x03070428
def PTP_SET_S_LO : Nat := 0x0307042C
def PTP_SET_S_HI : Nat := 0x03070430
def PTP_CMD : Nat := 0x03070434
def TIME_PTP_TICK_NS : Nat := 0x03070440
def TIME_PTP_TICK_S_LO : Nat := 0x03070444
def TIME_PTP_TICK_S_HI : Nat := 0x03070448
def TIME_MEDIA_OFS_LO : Nat := 0x03070450
def TIME_MEDIA_OFS_HI : Nat := 0x03070454
def TIME_MEDIA_CTL : Nat := 0x03070458
def PTP_TRIG_NS (a : Nat) : Nat := 0x03070500 + a * 0x10
def PTP_TRIG_S_LO (a : Nat) : Nat := 0x03070504 + a * 0x10
def PTP_TRIG_S_HI (a : Nat) : Nat := 0x03070508 + a * 0x10
def PTP_TRIG_ACT (a : Nat) : Nat := 0x0307050C + a * 0x10
def EVT_CFG (a : Nat) : Nat := 0x03070600 + a * 0x20
def EVT_MTC_LO (a : Nat) : Nat := 0x03070604 + a * 0x20
def EVT_MTC_HI (a : Nat) : Nat := 0x03070608 + a * 0x20
def EVT_PTP_NS (a : Nat) : Nat := 0x0307060C + a * 0x20
def EVT_PTP_S_LO (a : Nat) : Nat := 0x03070610 + a * 0x20
def EVT_PTP_S_HI (a : Nat) : Nat := 0x03070614 + a * 0x20
def BR_IP : Nat := 0x0309C000
def BR_HDR : Nat := 0x0309C004
def BR_CFG (a : Nat) : Nat := 0x0309C000 + a * 0x10
def BR_ADDR (a : Nat) : Nat := 0x0309C004 + a * 0x10
def BR_OFS (a : Nat) : Nat := 0x0309C008 + a * 0x10
def BR_AUX (a : Nat) : Nat := 0x0309C00C + a * 0x10
def ETH_CTL (a : Nat) : Nat := 0x030B0000 + a * 0x1000
def ETH_STAT (a : Nat) : Nat := 0x030B0004 + a * 0x1000
def ETH_MAC_LO (a : Nat) : Nat := 0x030B0008 + a * 0x1000
def ETH_MAC_HI (a : Nat) : Nat := 0x030B000C + a * 0x1000
def ETH_VLAN (a : Nat) : Nat := 0x030B0010 + a * 0x1000
def ETH_TXQ_PCP (a : Nat) : Nat := 0x030B0014 + a * 0x1000
def ETH_RX_PCP (a : Nat) : Nat := 0x030B0018 + a * 0x1000
def ETH_TS_CORR (a : Nat) : Nat := 0x030B001C + a * 0x1000
def ETH_RX_MATCH (a b : Nat) : Nat := 0x030B0020 + a * 0x1000 + b * 4
def ETH_TXQ_BASE (a b : Nat) : Nat := 0x030B0100 + a * 0x1000 + b * 0x10
def ETH_TXQ_SIZE (a b : Nat) : Nat := 0x030B0104 + a * 0x1000 + b * 0x10
def ETH_TXQ_HEAD (a b : Nat) : Nat := 0x030B0108 + a * 0x1000 + b * 0x10
def ETH_TXQ_TAIL (a b : Nat) : Nat := 0x030B010C + a * 0x1000 + b * 0x10
def ETH_RXR_BASE (a b : Nat) : Nat := 0x030B0200 + a * 0x1000 + b * 0x10
def ETH_RXR_CFG (a b : Nat) : Nat := 0x030B0204 + a * 0x1000 + b * 0x10
def ETH_RXR_HEAD (a b : Nat) : Nat := 0x030B0208 + a * 0x1000 + b * 0x10
def ETH_RXR_TAIL (a b : Nat) : Nat := 0x030B020C + a * 0x1000 + b * 0x10
def ETH_TXTS_TAG (a : Nat) : Nat := 0x030B0300 + a * 0x1000
def ETH_TXTS_NS (a : Nat) : Nat := 0x030B0304 + a * 0x1000
def ETH_TXTS_S (a : Nat) : Nat := 0x030B0308 + a * 0x1000
def ETH_RX_GOOD (a : Nat) : Nat := 0x030B0400 + a * 0x1000
def ETH_RX_RUNT (a : Nat) : Nat := 0x030B0404 + a * 0x1000
def ETH_RX_OVERSIZE (a : Nat) : Nat := 0x030B0408 + a * 0x1000
def ETH_RX_FCS (a : Nat) : Nat := 0x030B040C + a * 0x1000
def ETH_RX_VLAN_DROP (a : Nat) : Nat := 0x030B0410 + a * 0x1000
def ETH_RX_PAUSE (a : Nat) : Nat := 0x030B0414 + a * 0x1000
def ETH_RX_NOBUF (a : Nat) : Nat := 0x030B0418 + a * 0x1000
def ETH_TX_GOOD (a : Nat) : Nat := 0x030B0420 + a * 0x1000
def ETH_TX_ERR (a : Nat) : Nat := 0x030B0424 + a * 0x1000
def ETH_TX_LINKDOWN (a : Nat) : Nat := 0x030B0428 + a * 0x1000
def ETH_BR_TX (a : Nat) : Nat := 0x030B0430 + a * 0x1000
def ETH_BR_TX_DROP (a : Nat) : Nat := 0x030B0434 + a * 0x1000
def ETH_BR_RX_BAD (a : Nat) : Nat := 0x030B0438 + a * 0x1000
def ETH_BR_RX_SSRC (a : Nat) : Nat := 0x030B043C + a * 0x1000
def ETH_BR_RX_LATE (a : Nat) : Nat := 0x030B0440 + a * 0x1000
def ETH_BR_RX_EARLY (a : Nat) : Nat := 0x030B0444 + a * 0x1000
end R

namespace F

def PTP_CTL_GM_OK : Fld := ⟨R.PTP_CTL, 31, 31⟩
def PTP_CTL_WDOG_MS : Fld := ⟨R.PTP_CTL, 15, 0⟩
def PTP_STAT_STALE : Fld := ⟨R.PTP_STAT, 3, 3⟩
def PTP_STAT_GM_LOST : Fld := ⟨R.PTP_STAT, 2, 2⟩
def PTP_STAT_STEPPED : Fld := ⟨R.PTP_STAT, 1, 1⟩
def PTP_STAT_CFG_REFUSED : Fld := ⟨R.PTP_STAT, 0, 0⟩
def PTP_RATE_V : Fld := ⟨R.PTP_RATE, 31, 0⟩
def PTP_TIME_SUB_V : Fld := ⟨R.PTP_TIME_SUB, 31, 0⟩
def PTP_TIME_NS_V : Fld := ⟨R.PTP_TIME_NS, 31, 0⟩
def PTP_TIME_S_LO_V : Fld := ⟨R.PTP_TIME_S_LO, 31, 0⟩
def PTP_TIME_S_HI_V : Fld := ⟨R.PTP_TIME_S_HI, 31, 0⟩
def PTP_ADJ_NS_V : Fld := ⟨R.PTP_ADJ_NS, 31, 0⟩
def PTP_ADJ_S_V : Fld := ⟨R.PTP_ADJ_S, 31, 0⟩
def PTP_SET_NS_V : Fld := ⟨R.PTP_SET_NS, 29, 0⟩
def PTP_SET_S_LO_V : Fld := ⟨R.PTP_SET_S_LO, 31, 0⟩
def PTP_SET_S_HI_V : Fld := ⟨R.PTP_SET_S_HI, 15, 0⟩
def PTP_CMD_SET : Fld := ⟨R.PTP_CMD, 1, 1⟩
def PTP_CMD_STEP : Fld := ⟨R.PTP_CMD, 0, 0⟩
def TIME_PTP_TICK_NS_V : Fld := ⟨R.TIME_PTP_TICK_NS, 31, 0⟩
def TIME_PTP_TICK_S_LO_V : Fld := ⟨R.TIME_PTP_TICK_S_LO, 31, 0⟩
def TIME_PTP_TICK_S_HI_V : Fld := ⟨R.TIME_PTP_TICK_S_HI, 31, 0⟩
def TIME_MEDIA_OFS_LO_V : Fld := ⟨R.TIME_MEDIA_OFS_LO, 31, 0⟩
def TIME_MEDIA_OFS_HI_V : Fld := ⟨R.TIME_MEDIA_OFS_HI, 31, 0⟩
def TIME_MEDIA_CTL_AUTO : Fld := ⟨R.TIME_MEDIA_CTL, 0, 0⟩
def PTP_TRIG_NS_V (a : Nat) : Fld := ⟨R.PTP_TRIG_NS a, 29, 0⟩
def PTP_TRIG_S_LO_V (a : Nat) : Fld := ⟨R.PTP_TRIG_S_LO a, 31, 0⟩
def PTP_TRIG_S_HI_V (a : Nat) : Fld := ⟨R.PTP_TRIG_S_HI a, 15, 0⟩
def PTP_TRIG_ACT_STATE (a : Nat) : Fld := ⟨R.PTP_TRIG_ACT a, 31, 29⟩
def PTP_TRIG_ACT_ARM (a : Nat) : Fld := ⟨R.PTP_TRIG_ACT a, 28, 28⟩
def PTP_TRIG_ACT_TYPE (a : Nat) : Fld := ⟨R.PTP_TRIG_ACT a, 27, 24⟩
def PTP_TRIG_ACT_ARG (a : Nat) : Fld := ⟨R.PTP_TRIG_ACT a, 15, 0⟩
def EVT_CFG_OVF (a : Nat) : Fld := ⟨R.EVT_CFG a, 2, 2⟩
def EVT_CFG_EDGE (a : Nat) : Fld := ⟨R.EVT_CFG a, 1, 0⟩
def EVT_MTC_LO_V (a : Nat) : Fld := ⟨R.EVT_MTC_LO a, 31, 0⟩
def EVT_MTC_HI_V (a : Nat) : Fld := ⟨R.EVT_MTC_HI a, 31, 0⟩
def EVT_PTP_NS_V (a : Nat) : Fld := ⟨R.EVT_PTP_NS a, 31, 0⟩
def EVT_PTP_S_LO_V (a : Nat) : Fld := ⟨R.EVT_PTP_S_LO a, 31, 0⟩
def EVT_PTP_S_HI_V (a : Nat) : Fld := ⟨R.EVT_PTP_S_HI a, 31, 0⟩
def BR_IP_V : Fld := ⟨R.BR_IP, 31, 0⟩
def BR_HDR_DSCP : Fld := ⟨R.BR_HDR, 13, 8⟩
def BR_HDR_TTL : Fld := ⟨R.BR_HDR, 7, 0⟩
def BR_CFG_PORT (a : Nat) : Fld := ⟨R.BR_CFG a, 31, 31⟩
def BR_CFG_ENC (a : Nat) : Fld := ⟨R.BR_CFG a, 30, 30⟩
def BR_CFG_PTIME (a : Nat) : Fld := ⟨R.BR_CFG a, 29, 28⟩
def BR_CFG_TXQ (a : Nat) : Fld := ⟨R.BR_CFG a, 27, 25⟩
def BR_CFG_PT (a : Nat) : Fld := ⟨R.BR_CFG a, 24, 18⟩
def BR_CFG_PACK (a : Nat) : Fld := ⟨R.BR_CFG a, 17, 16⟩
def BR_CFG_UDP (a : Nat) : Fld := ⟨R.BR_CFG a, 15, 0⟩
def BR_ADDR_ADDR (a : Nat) : Fld := ⟨R.BR_ADDR a, 31, 0⟩
def BR_OFS_OFS (a : Nat) : Fld := ⟨R.BR_OFS a, 31, 0⟩
def BR_AUX_SSRC (a : Nat) : Fld := ⟨R.BR_AUX a, 31, 0⟩
def BR_AUX_DEPTH (a : Nat) : Fld := ⟨R.BR_AUX a, 31, 16⟩
def BR_AUX_LINK_OFS (a : Nat) : Fld := ⟨R.BR_AUX a, 15, 0⟩
def ETH_CTL_EN (a : Nat) : Fld := ⟨R.ETH_CTL a, 31, 31⟩
def ETH_CTL_JUMBO (a : Nat) : Fld := ⟨R.ETH_CTL a, 30, 30⟩
def ETH_CTL_OVERSIZE_KEEP (a : Nat) : Fld := ⟨R.ETH_CTL a, 29, 29⟩
def ETH_CTL_TAG_INS (a : Nat) : Fld := ⟨R.ETH_CTL a, 28, 28⟩
def ETH_CTL_TAG_STRIP (a : Nat) : Fld := ⟨R.ETH_CTL a, 27, 27⟩
def ETH_CTL_ACCEPT_UNTAG (a : Nat) : Fld := ⟨R.ETH_CTL a, 26, 26⟩
def ETH_CTL_MODE (a : Nat) : Fld := ⟨R.ETH_CTL a, 1, 0⟩
def ETH_STAT_LINK_UP (a : Nat) : Fld := ⟨R.ETH_STAT a, 31, 31⟩
def ETH_STAT_CLOCK_PRESENT (a : Nat) : Fld := ⟨R.ETH_STAT a, 30, 30⟩
def ETH_STAT_READY (a : Nat) : Fld := ⟨R.ETH_STAT a, 29, 29⟩
def ETH_STAT_LINK_REASON (a : Nat) : Fld := ⟨R.ETH_STAT a, 28, 27⟩
def ETH_STAT_TXTS_OVF (a : Nat) : Fld := ⟨R.ETH_STAT a, 2, 2⟩
def ETH_STAT_LINK_CHG (a : Nat) : Fld := ⟨R.ETH_STAT a, 1, 1⟩
def ETH_STAT_CFG_REFUSED (a : Nat) : Fld := ⟨R.ETH_STAT a, 0, 0⟩
def ETH_MAC_LO_V (a : Nat) : Fld := ⟨R.ETH_MAC_LO a, 31, 0⟩
def ETH_MAC_HI_V (a : Nat) : Fld := ⟨R.ETH_MAC_HI a, 15, 0⟩
def ETH_VLAN_VID (a : Nat) : Fld := ⟨R.ETH_VLAN a, 11, 0⟩
def ETH_TXQ_PCP_V (a : Nat) : Fld := ⟨R.ETH_TXQ_PCP a, 23, 0⟩
def ETH_RX_PCP_V (a : Nat) : Fld := ⟨R.ETH_RX_PCP a, 23, 0⟩
def ETH_TS_CORR_RX (a : Nat) : Fld := ⟨R.ETH_TS_CORR a, 31, 16⟩
def ETH_TS_CORR_TX (a : Nat) : Fld := ⟨R.ETH_TS_CORR a, 15, 0⟩
def ETH_RX_MATCH_EN (a b : Nat) : Fld := ⟨R.ETH_RX_MATCH a b, 31, 31⟩
def ETH_RX_MATCH_KIND (a b : Nat) : Fld := ⟨R.ETH_RX_MATCH a b, 30, 30⟩
def ETH_RX_MATCH_RING (a b : Nat) : Fld := ⟨R.ETH_RX_MATCH a b, 18, 16⟩
def ETH_RX_MATCH_VALUE (a b : Nat) : Fld := ⟨R.ETH_RX_MATCH a b, 15, 0⟩
def ETH_TXQ_BASE_BASE (a b : Nat) : Fld := ⟨R.ETH_TXQ_BASE a b, 31, 4⟩
def ETH_TXQ_SIZE_SIZE (a b : Nat) : Fld := ⟨R.ETH_TXQ_SIZE a b, 12, 0⟩
def ETH_TXQ_HEAD_HEAD (a b : Nat) : Fld := ⟨R.ETH_TXQ_HEAD a b, 11, 0⟩
def ETH_TXQ_TAIL_TAIL (a b : Nat) : Fld := ⟨R.ETH_TXQ_TAIL a b, 11, 0⟩
def ETH_RXR_BASE_BASE (a b : Nat) : Fld := ⟨R.ETH_RXR_BASE a b, 31, 4⟩
def ETH_RXR_CFG_BUFSZ (a b : Nat) : Fld := ⟨R.ETH_RXR_CFG a b, 31, 16⟩
def ETH_RXR_CFG_SIZE (a b : Nat) : Fld := ⟨R.ETH_RXR_CFG a b, 12, 0⟩
def ETH_RXR_HEAD_HEAD (a b : Nat) : Fld := ⟨R.ETH_RXR_HEAD a b, 11, 0⟩
def ETH_RXR_TAIL_TAIL (a b : Nat) : Fld := ⟨R.ETH_RXR_TAIL a b, 11, 0⟩
def ETH_TXTS_TAG_VALID (a : Nat) : Fld := ⟨R.ETH_TXTS_TAG a, 31, 31⟩
def ETH_TXTS_TAG_TAG (a : Nat) : Fld := ⟨R.ETH_TXTS_TAG a, 7, 0⟩
def ETH_TXTS_NS_V (a : Nat) : Fld := ⟨R.ETH_TXTS_NS a, 31, 0⟩
def ETH_TXTS_S_V (a : Nat) : Fld := ⟨R.ETH_TXTS_S a, 31, 0⟩
def ETH_RX_GOOD_V (a : Nat) : Fld := ⟨R.ETH_RX_GOOD a, 31, 0⟩
def ETH_RX_RUNT_V (a : Nat) : Fld := ⟨R.ETH_RX_RUNT a, 31, 0⟩
def ETH_RX_OVERSIZE_V (a : Nat) : Fld := ⟨R.ETH_RX_OVERSIZE a, 31, 0⟩
def ETH_RX_FCS_V (a : Nat) : Fld := ⟨R.ETH_RX_FCS a, 31, 0⟩
def ETH_RX_VLAN_DROP_V (a : Nat) : Fld := ⟨R.ETH_RX_VLAN_DROP a, 31, 0⟩
def ETH_RX_PAUSE_V (a : Nat) : Fld := ⟨R.ETH_RX_PAUSE a, 31, 0⟩
def ETH_RX_NOBUF_V (a : Nat) : Fld := ⟨R.ETH_RX_NOBUF a, 31, 0⟩
def ETH_TX_GOOD_V (a : Nat) : Fld := ⟨R.ETH_TX_GOOD a, 31, 0⟩
def ETH_TX_ERR_V (a : Nat) : Fld := ⟨R.ETH_TX_ERR a, 31, 0⟩
def ETH_TX_LINKDOWN_V (a : Nat) : Fld := ⟨R.ETH_TX_LINKDOWN a, 31, 0⟩
def ETH_BR_TX_V (a : Nat) : Fld := ⟨R.ETH_BR_TX a, 31, 0⟩
def ETH_BR_TX_DROP_V (a : Nat) : Fld := ⟨R.ETH_BR_TX_DROP a, 31, 0⟩
def ETH_BR_RX_BAD_V (a : Nat) : Fld := ⟨R.ETH_BR_RX_BAD a, 31, 0⟩
def ETH_BR_RX_SSRC_V (a : Nat) : Fld := ⟨R.ETH_BR_RX_SSRC a, 31, 0⟩
def ETH_BR_RX_LATE_V (a : Nat) : Fld := ⟨R.ETH_BR_RX_LATE a, 31, 0⟩
def ETH_BR_RX_EARLY_V (a : Nat) : Fld := ⟨R.ETH_BR_RX_EARLY a, 31, 0⟩
end F

def regsEthptpA : List RegSpec :=
  [
   ⟨"PTP_CTL", 0x03070400, [], [0xBB8], false, [⟨31, 31, .rw⟩, ⟨15, 0, .rw⟩]⟩,
   ⟨"PTP_STAT", 0x03070404, [], [0], false, [⟨3, 3, .ro⟩, ⟨2, 2, .w1c⟩, ⟨1, 1, .w1c⟩, ⟨0, 0, .w1c⟩]⟩,
   ⟨"PTP_RATE", 0x03070408, [], [0x40000000], false, [⟨31, 0, .rw⟩]⟩,
   ⟨"PTP_TIME_SUB", 0x03070410, [], [0], false, [⟨31, 0, .ro⟩]⟩,
   ⟨"PTP_TIME_NS", 0x03070414, [], [0], false, [⟨31, 0, .ro⟩]⟩,
   ⟨"PTP_TIME_S_LO", 0x03070418, [], [0], false, [⟨31, 0, .ro⟩]⟩,
   ⟨"PTP_TIME_S_HI", 0x0307041C, [], [0], false, [⟨31, 0, .ro⟩]⟩,
   ⟨"PTP_ADJ_NS", 0x03070420, [], [0], false, [⟨31, 0, .rw⟩]⟩,
   ⟨"PTP_ADJ_S", 0x03070424, [], [0], false, [⟨31, 0, .rw⟩]⟩,
   ⟨"PTP_SET_NS", 0x03070428, [], [0], false, [⟨29, 0, .rw⟩]⟩,
   ⟨"PTP_SET_S_LO", 0x0307042C, [], [0], false, [⟨31, 0, .rw⟩]⟩,
   ⟨"PTP_SET_S_HI", 0x03070430, [], [0], false, [⟨15, 0, .rw⟩]⟩,
   ⟨"PTP_CMD", 0x03070434, [], [0], false, [⟨1, 1, .wo⟩, ⟨0, 0, .wo⟩]⟩,
   ⟨"TIME_PTP_TICK_NS", 0x03070440, [], [0], false, [⟨31, 0, .ro⟩]⟩,
   ⟨"TIME_PTP_TICK_S_LO", 0x03070444, [], [0], false, [⟨31, 0, .ro⟩]⟩,
   ⟨"TIME_PTP_TICK_S_HI", 0x03070448, [], [0], false, [⟨31, 0, .ro⟩]⟩,
   ⟨"TIME_MEDIA_OFS_LO", 0x03070450, [], [0], false, [⟨31, 0, .rw⟩]⟩,
   ⟨"TIME_MEDIA_OFS_HI", 0x03070454, [], [0], false, [⟨31, 0, .rw⟩]⟩,
   ⟨"TIME_MEDIA_CTL", 0x03070458, [], [1], false, [⟨0, 0, .rw⟩]⟩,
   ⟨"PTP_TRIG_NS", 0x03070500, [(0x10, 8)], [0], false, [⟨29, 0, .rw⟩]⟩,
   ⟨"PTP_TRIG_S_LO", 0x03070504, [(0x10, 8)], [0], false, [⟨31, 0, .rw⟩]⟩,
   ⟨"PTP_TRIG_S_HI", 0x03070508, [(0x10, 8)], [0], false, [⟨15, 0, .rw⟩]⟩,
   ⟨"PTP_TRIG_ACT", 0x0307050C, [(0x10, 8)], [0], false, [⟨31, 29, .ro⟩, ⟨28, 28, .wo⟩, ⟨27, 24, .rw⟩, ⟨15, 0, .rw⟩]⟩,
   ⟨"EVT_CFG", 0x03070600, [(0x20, 4)], [0], false, [⟨2, 2, .w1c⟩, ⟨1, 0, .rw⟩]⟩]

def regsEthptpB : List RegSpec :=
  [
   ⟨"EVT_MTC_LO", 0x03070604, [(0x20, 4)], [0], false, [⟨31, 0, .ro⟩]⟩,
   ⟨"EVT_MTC_HI", 0x03070608, [(0x20, 4)], [0], false, [⟨31, 0, .ro⟩]⟩,
   ⟨"EVT_PTP_NS", 0x0307060C, [(0x20, 4)], [0], false, [⟨31, 0, .ro⟩]⟩,
   ⟨"EVT_PTP_S_LO", 0x03070610, [(0x20, 4)], [0], false, [⟨31, 0, .ro⟩]⟩,
   ⟨"EVT_PTP_S_HI", 0x03070614, [(0x20, 4)], [0], false, [⟨31, 0, .ro⟩]⟩,
   ⟨"BR_IP", 0x0309C000, [], [0], false, [⟨31, 0, .rw⟩]⟩,
   ⟨"BR_HDR", 0x0309C004, [], [0x2240], false, [⟨13, 8, .rw⟩, ⟨7, 0, .rw⟩]⟩,
   ⟨"BR_CFG", 0x0309C010, [(0x10, 1023)], [0], false, [⟨31, 31, .rw⟩, ⟨30, 30, .rw⟩, ⟨29, 28, .rw⟩, ⟨27, 25, .rw⟩, ⟨24, 18, .rw⟩, ⟨17, 16, .rw⟩, ⟨15, 0, .rw⟩]⟩,
   ⟨"BR_ADDR", 0x0309C014, [(0x10, 1023)], [0], false, [⟨31, 0, .rw⟩]⟩,
   ⟨"BR_OFS", 0x0309C018, [(0x10, 1023)], [0], false, [⟨31, 0, .rw⟩]⟩,
   ⟨"BR_AUX", 0x0309C01C, [(0x10, 1023)], [0], false, [⟨31, 0, .rw⟩]⟩,
   ⟨"ETH_CTL", 0x030B0000, [(0x1000, 2)], [0x04000000], false, [⟨31, 31, .rw⟩, ⟨30, 30, .rw⟩, ⟨29, 29, .rw⟩, ⟨28, 28, .rw⟩, ⟨27, 27, .rw⟩, ⟨26, 26, .rw⟩, ⟨1, 0, .rw⟩]⟩,
   ⟨"ETH_STAT", 0x030B0004, [(0x1000, 2)], [0], false, [⟨31, 31, .ro⟩, ⟨30, 30, .ro⟩, ⟨29, 29, .ro⟩, ⟨28, 27, .ro⟩, ⟨2, 2, .w1c⟩, ⟨1, 1, .w1c⟩, ⟨0, 0, .w1c⟩]⟩,
   ⟨"ETH_MAC_LO", 0x030B0008, [(0x1000, 2)], [0], false, [⟨31, 0, .rw⟩]⟩,
   ⟨"ETH_MAC_HI", 0x030B000C, [(0x1000, 2)], [0], false, [⟨15, 0, .rw⟩]⟩,
   ⟨"ETH_VLAN", 0x030B0010, [(0x1000, 2)], [0], false, [⟨11, 0, .rw⟩]⟩,
   ⟨"ETH_TXQ_PCP", 0x030B0014, [(0x1000, 2)], [0x00FAC688], false, [⟨23, 0, .rw⟩]⟩,
   ⟨"ETH_RX_PCP", 0x030B0018, [(0x1000, 2)], [0x00FAC688], false, [⟨23, 0, .rw⟩]⟩,
   ⟨"ETH_TS_CORR", 0x030B001C, [(0x1000, 2)], [0], false, [⟨31, 16, .rw⟩, ⟨15, 0, .rw⟩]⟩,
   ⟨"ETH_RX_MATCH", 0x030B0020, [(0x1000, 2), (4, 8)], [0], false, [⟨31, 31, .rw⟩, ⟨30, 30, .rw⟩, ⟨18, 16, .rw⟩, ⟨15, 0, .rw⟩]⟩,
   ⟨"ETH_TXQ_BASE", 0x030B0100, [(0x1000, 2), (0x10, 8)], [0], false, [⟨31, 4, .rw⟩]⟩,
   ⟨"ETH_TXQ_SIZE", 0x030B0104, [(0x1000, 2), (0x10, 8)], [0], false, [⟨12, 0, .rw⟩]⟩,
   ⟨"ETH_TXQ_HEAD", 0x030B0108, [(0x1000, 2), (0x10, 8)], [0], false, [⟨11, 0, .ro⟩]⟩,
   ⟨"ETH_TXQ_TAIL", 0x030B010C, [(0x1000, 2), (0x10, 8)], [0], false, [⟨11, 0, .rw⟩]⟩]

def regsEthptpC : List RegSpec :=
  [
   ⟨"ETH_RXR_BASE", 0x030B0200, [(0x1000, 2), (0x10, 8)], [0], false, [⟨31, 4, .rw⟩]⟩,
   ⟨"ETH_RXR_CFG", 0x030B0204, [(0x1000, 2), (0x10, 8)], [0x08000000], false, [⟨31, 16, .rw⟩, ⟨12, 0, .rw⟩]⟩,
   ⟨"ETH_RXR_HEAD", 0x030B0208, [(0x1000, 2), (0x10, 8)], [0], false, [⟨11, 0, .ro⟩]⟩,
   ⟨"ETH_RXR_TAIL", 0x030B020C, [(0x1000, 2), (0x10, 8)], [0], false, [⟨11, 0, .rw⟩]⟩,
   ⟨"ETH_TXTS_TAG", 0x030B0300, [(0x1000, 2)], [0], false, [⟨31, 31, .ro⟩, ⟨7, 0, .ro⟩]⟩,
   ⟨"ETH_TXTS_NS", 0x030B0304, [(0x1000, 2)], [0], false, [⟨31, 0, .ro⟩]⟩,
   ⟨"ETH_TXTS_S", 0x030B0308, [(0x1000, 2)], [0], false, [⟨31, 0, .ro⟩]⟩,
   ⟨"ETH_RX_GOOD", 0x030B0400, [(0x1000, 2)], [0], true, [⟨31, 0, .ro⟩]⟩,
   ⟨"ETH_RX_RUNT", 0x030B0404, [(0x1000, 2)], [0], true, [⟨31, 0, .ro⟩]⟩,
   ⟨"ETH_RX_OVERSIZE", 0x030B0408, [(0x1000, 2)], [0], true, [⟨31, 0, .ro⟩]⟩,
   ⟨"ETH_RX_FCS", 0x030B040C, [(0x1000, 2)], [0], true, [⟨31, 0, .ro⟩]⟩,
   ⟨"ETH_RX_VLAN_DROP", 0x030B0410, [(0x1000, 2)], [0], true, [⟨31, 0, .ro⟩]⟩,
   ⟨"ETH_RX_PAUSE", 0x030B0414, [(0x1000, 2)], [0], true, [⟨31, 0, .ro⟩]⟩,
   ⟨"ETH_RX_NOBUF", 0x030B0418, [(0x1000, 2)], [0], false, [⟨31, 0, .ro⟩]⟩,
   ⟨"ETH_TX_GOOD", 0x030B0420, [(0x1000, 2)], [0], false, [⟨31, 0, .ro⟩]⟩,
   ⟨"ETH_TX_ERR", 0x030B0424, [(0x1000, 2)], [0], false, [⟨31, 0, .ro⟩]⟩,
   ⟨"ETH_TX_LINKDOWN", 0x030B0428, [(0x1000, 2)], [0], false, [⟨31, 0, .ro⟩]⟩,
   ⟨"ETH_BR_TX", 0x030B0430, [(0x1000, 2)], [0], false, [⟨31, 0, .ro⟩]⟩,
   ⟨"ETH_BR_TX_DROP", 0x030B0434, [(0x1000, 2)], [0], false, [⟨31, 0, .ro⟩]⟩,
   ⟨"ETH_BR_RX_BAD", 0x030B0438, [(0x1000, 2)], [0], false, [⟨31, 0, .ro⟩]⟩,
   ⟨"ETH_BR_RX_SSRC", 0x030B043C, [(0x1000, 2)], [0], false, [⟨31, 0, .ro⟩]⟩,
   ⟨"ETH_BR_RX_LATE", 0x030B0440, [(0x1000, 2)], [0], false, [⟨31, 0, .ro⟩]⟩,
   ⟨"ETH_BR_RX_EARLY", 0x030B0444, [(0x1000, 2)], [0], false, [⟨31, 0, .ro⟩]⟩]

def regsEthptp : List RegSpec := regsEthptpA ++ regsEthptpB ++ regsEthptpC

/-! ## HOST: the registers of spec/17_host_rings.md -/

namespace R

def HOST_CTL : Nat := 0x030C0000
def HOST_STAT : Nat := 0x030C0004
def HOST_LINK : Nat := 0x030C0008
def HOST_BAR_ERR_ADDR : Nat := 0x030C000C
def HOST_DB_ERR : Nat := 0x030C0010
def HOST_MSIX_TRIG : Nat := 0x030C0014
def HOST_MSIX_HOLD : Nat := 0x030C0018
def HOST_FWD_DROP : Nat := 0x030C001C
def HOST_TUNNEL_EN_LO : Nat := 0x030C0020
def HOST_TUNNEL_EN_HI : Nat := 0x030C0024
def HOST_CQ_BASE_LO : Nat := 0x030C0400
def HOST_CQ_BASE_HI : Nat := 0x030C0404
def HOST_CQ_CFG : Nat := 0x030C0408
def HOST_CQ_TAIL : Nat := 0x030C040C
def HOST_CQ_HEAD : Nat := 0x030C0410
def HOST_EQ_BASE_LO : Nat := 0x030C0420
def HOST_EQ_BASE_HI : Nat := 0x030C0424
def HOST_EQ_CFG : Nat := 0x030C0428
def HOST_EQ_TAIL : Nat := 0x030C042C
def HOST_EQ_HEAD : Nat := 0x030C0430
def HOST_EQ_LOST : Nat := 0x030C0434
def HOST_CAP_BASE_LO (a : Nat) : Nat := 0x030C0500 + a * 0x20
def HOST_CAP_BASE_HI (a : Nat) : Nat := 0x030C0504 + a * 0x20
def HOST_CAP_CFG (a : Nat) : Nat := 0x030C0508 + a * 0x20
def HOST_CAP_SIZE (a : Nat) : Nat := 0x030C050C + a * 0x20
def HOST_CAP_WR (a : Nat) : Nat := 0x030C0510 + a * 0x20
def HOST_CAP_RD (a : Nat) : Nat := 0x030C0514 + a * 0x20
def HOST_CAP_SHADOW_LO (a : Nat) : Nat := 0x030C0518 + a * 0x20
def HOST_CAP_SHADOW_HI (a : Nat) : Nat := 0x030C051C + a * 0x20
def HOST_SQ_BASE_LO (a b : Nat) : Nat := 0x030C1000 + a * 0x80 + b * 0x20
def HOST_SQ_BASE_HI (a b : Nat) : Nat := 0x030C1004 + a * 0x80 + b * 0x20
def HOST_SQ_CFG (a b : Nat) : Nat := 0x030C1008 + a * 0x80 + b * 0x20
def HOST_SQ_HEAD (a b : Nat) : Nat := 0x030C100C + a * 0x80 + b * 0x20
def HOST_SQ_TAIL (a b : Nat) : Nat := 0x030C1010 + a * 0x80 + b * 0x20
end R

namespace F

def HOST_CTL_LINK_EN : Fld := ⟨R.HOST_CTL, 0, 0⟩
def HOST_STAT_LINK_UP : Fld := ⟨R.HOST_STAT, 31, 31⟩
def HOST_STAT_CLOCK_PRESENT : Fld := ⟨R.HOST_STAT, 30, 30⟩
def HOST_STAT_READY : Fld := ⟨R.HOST_STAT, 29, 29⟩
def HOST_STAT_RESET_SEEN : Fld := ⟨R.HOST_STAT, 6, 6⟩
def HOST_STAT_HOST_ERR : Fld := ⟨R.HOST_STAT, 5, 5⟩
def HOST_STAT_RD_TIMEOUT : Fld := ⟨R.HOST_STAT, 4, 4⟩
def HOST_STAT_BAR_ERR : Fld := ⟨R.HOST_STAT, 3, 3⟩
def HOST_STAT_DB_ERR : Fld := ⟨R.HOST_STAT, 2, 2⟩
def HOST_STAT_EQ_LOST : Fld := ⟨R.HOST_STAT, 1, 1⟩
def HOST_STAT_CFG_REFUSED : Fld := ⟨R.HOST_STAT, 0, 0⟩
def HOST_LINK_WIDTH : Fld := ⟨R.HOST_LINK, 10, 8⟩
def HOST_LINK_SPEED : Fld := ⟨R.HOST_LINK, 2, 0⟩
def HOST_BAR_ERR_ADDR_V : Fld := ⟨R.HOST_BAR_ERR_ADDR, 31, 0⟩
def HOST_DB_ERR_PAGE : Fld := ⟨R.HOST_DB_ERR, 17, 12⟩
def HOST_DB_ERR_OFFSET : Fld := ⟨R.HOST_DB_ERR, 11, 0⟩
def HOST_MSIX_TRIG_VEC : Fld := ⟨R.HOST_MSIX_TRIG, 5, 0⟩
def HOST_MSIX_HOLD_US : Fld := ⟨R.HOST_MSIX_HOLD, 15, 0⟩
def HOST_FWD_DROP_V : Fld := ⟨R.HOST_FWD_DROP, 31, 0⟩
def HOST_TUNNEL_EN_LO_V : Fld := ⟨R.HOST_TUNNEL_EN_LO, 31, 0⟩
def HOST_TUNNEL_EN_HI_V : Fld := ⟨R.HOST_TUNNEL_EN_HI, 31, 0⟩
def HOST_CQ_BASE_LO_BASE : Fld := ⟨R.HOST_CQ_BASE_LO, 31, 0⟩
def HOST_CQ_BASE_HI_BASE : Fld := ⟨R.HOST_CQ_BASE_HI, 31, 0⟩
def HOST_CQ_CFG_EN : Fld := ⟨R.HOST_CQ_CFG, 31, 31⟩
def HOST_CQ_CFG_VEC : Fld := ⟨R.HOST_CQ_CFG, 21, 16⟩
def HOST_CQ_CFG_SIZE : Fld := ⟨R.HOST_CQ_CFG, 12, 0⟩
def HOST_CQ_TAIL_PHASE : Fld := ⟨R.HOST_CQ_TAIL, 31, 31⟩
def HOST_CQ_TAIL_TAIL : Fld := ⟨R.HOST_CQ_TAIL, 11, 0⟩
def HOST_CQ_HEAD_HEAD : Fld := ⟨R.HOST_CQ_HEAD, 11, 0⟩
def HOST_EQ_BASE_LO_V : Fld := ⟨R.HOST_EQ_BASE_LO, 31, 0⟩
def HOST_EQ_BASE_HI_V : Fld := ⟨R.HOST_EQ_BASE_HI, 31, 0⟩
def HOST_EQ_CFG_EN : Fld := ⟨R.HOST_EQ_CFG, 31, 31⟩
def HOST_EQ_CFG_VEC : Fld := ⟨R.HOST_EQ_CFG, 21, 16⟩
def HOST_EQ_CFG_SIZE : Fld := ⟨R.HOST_EQ_CFG, 12, 0⟩
def HOST_EQ_TAIL_PHASE : Fld := ⟨R.HOST_EQ_TAIL, 31, 31⟩
def HOST_EQ_TAIL_TAIL : Fld := ⟨R.HOST_EQ_TAIL, 11, 0⟩
def HOST_EQ_HEAD_HEAD : Fld := ⟨R.HOST_EQ_HEAD, 11, 0⟩
def HOST_EQ_LOST_COUNT : Fld := ⟨R.HOST_EQ_LOST, 31, 0⟩
def HOST_CAP_BASE_LO_BASE (a : Nat) : Fld := ⟨R.HOST_CAP_BASE_LO a, 31, 0⟩
def HOST_CAP_BASE_HI_BASE (a : Nat) : Fld := ⟨R.HOST_CAP_BASE_HI a, 31, 0⟩
def HOST_CAP_CFG_EN (a : Nat) : Fld := ⟨R.HOST_CAP_CFG a, 31, 31⟩
def HOST_CAP_CFG_IRQ (a : Nat) : Fld := ⟨R.HOST_CAP_CFG a, 30, 30⟩
def HOST_CAP_CFG_VEC (a : Nat) : Fld := ⟨R.HOST_CAP_CFG a, 21, 16⟩
def HOST_CAP_SIZE_SIZE (a : Nat) : Fld := ⟨R.HOST_CAP_SIZE a, 24, 0⟩
def HOST_CAP_WR_WR (a : Nat) : Fld := ⟨R.HOST_CAP_WR a, 23, 0⟩
def HOST_CAP_RD_RD (a : Nat) : Fld := ⟨R.HOST_CAP_RD a, 23, 0⟩
def HOST_CAP_SHADOW_LO_ADDR (a : Nat) : Fld := ⟨R.HOST_CAP_SHADOW_LO a, 31, 0⟩
def HOST_CAP_SHADOW_HI_ADDR (a : Nat) : Fld := ⟨R.HOST_CAP_SHADOW_HI a, 31, 0⟩
def HOST_SQ_BASE_LO_BASE (a b : Nat) : Fld := ⟨R.HOST_SQ_BASE_LO a b, 31, 0⟩
def HOST_SQ_BASE_HI_BASE (a b : Nat) : Fld := ⟨R.HOST_SQ_BASE_HI a b, 31, 0⟩
def HOST_SQ_CFG_EN (a b : Nat) : Fld := ⟨R.HOST_SQ_CFG a b, 31, 31⟩
def HOST_SQ_CFG_SIZE (a b : Nat) : Fld := ⟨R.HOST_SQ_CFG a b, 12, 0⟩
def HOST_SQ_HEAD_HEAD (a b : Nat) : Fld := ⟨R.HOST_SQ_HEAD a b, 11, 0⟩
def HOST_SQ_TAIL_TAIL (a b : Nat) : Fld := ⟨R.HOST_SQ_TAIL a b, 11, 0⟩
end F

def regsHostA : List RegSpec :=
  [
   ⟨"HOST_CTL", 0x030C0000, [], [0], false, [⟨0, 0, .rw⟩]⟩,
   ⟨"HOST_STAT", 0x030C0004, [], [0], false, [⟨31, 31, .ro⟩, ⟨30, 30, .ro⟩, ⟨29, 29, .ro⟩, ⟨6, 6, .w1c⟩, ⟨5, 5, .w1c⟩, ⟨4, 4, .w1c⟩, ⟨3, 3, .w1c⟩, ⟨2, 2, .w1c⟩, ⟨1, 1, .w1c⟩, ⟨0, 0, .w1c⟩]⟩,
   ⟨"HOST_LINK", 0x030C0008, [], [0], true, [⟨10, 8, .ro⟩, ⟨2, 0, .ro⟩]⟩,
   ⟨"HOST_BAR_ERR_ADDR", 0x030C000C, [], [0], false, [⟨31, 0, .ro⟩]⟩,
   ⟨"HOST_DB_ERR", 0x030C0010, [], [0], false, [⟨17, 12, .ro⟩, ⟨11, 0, .ro⟩]⟩,
   ⟨"HOST_MSIX_TRIG", 0x030C0014, [], [0], false, [⟨5, 0, .wo⟩]⟩,
   ⟨"HOST_MSIX_HOLD", 0x030C0018, [], [0], false, [⟨15, 0, .rw⟩]⟩,
   ⟨"HOST_FWD_DROP", 0x030C001C, [], [0], false, [⟨31, 0, .ro⟩]⟩,
   ⟨"HOST_TUNNEL_EN_LO", 0x030C0020, [], [0], false, [⟨31, 0, .rw⟩]⟩,
   ⟨"HOST_TUNNEL_EN_HI", 0x030C0024, [], [0], false, [⟨31, 0, .rw⟩]⟩,
   ⟨"HOST_CQ_BASE_LO", 0x030C0400, [], [0], false, [⟨31, 0, .rw⟩]⟩,
   ⟨"HOST_CQ_BASE_HI", 0x030C0404, [], [0], false, [⟨31, 0, .rw⟩]⟩,
   ⟨"HOST_CQ_CFG", 0x030C0408, [], [0], false, [⟨31, 31, .rw⟩, ⟨21, 16, .rw⟩, ⟨12, 0, .rw⟩]⟩,
   ⟨"HOST_CQ_TAIL", 0x030C040C, [], [0], false, [⟨31, 31, .ro⟩, ⟨11, 0, .ro⟩]⟩,
   ⟨"HOST_CQ_HEAD", 0x030C0410, [], [0], false, [⟨11, 0, .rw⟩]⟩,
   ⟨"HOST_EQ_BASE_LO", 0x030C0420, [], [0], false, [⟨31, 0, .rw⟩]⟩,
   ⟨"HOST_EQ_BASE_HI", 0x030C0424, [], [0], false, [⟨31, 0, .rw⟩]⟩,
   ⟨"HOST_EQ_CFG", 0x030C0428, [], [0], false, [⟨31, 31, .rw⟩, ⟨21, 16, .rw⟩, ⟨12, 0, .rw⟩]⟩,
   ⟨"HOST_EQ_TAIL", 0x030C042C, [], [0], false, [⟨31, 31, .ro⟩, ⟨11, 0, .ro⟩]⟩,
   ⟨"HOST_EQ_HEAD", 0x030C0430, [], [0], false, [⟨11, 0, .rw⟩]⟩,
   ⟨"HOST_EQ_LOST", 0x030C0434, [], [0], false, [⟨31, 0, .ro⟩]⟩,
   ⟨"HOST_CAP_BASE_LO", 0x030C0500, [(0x20, 8)], [0], false, [⟨31, 0, .rw⟩]⟩,
   ⟨"HOST_CAP_BASE_HI", 0x030C0504, [(0x20, 8)], [0], false, [⟨31, 0, .rw⟩]⟩,
   ⟨"HOST_CAP_CFG", 0x030C0508, [(0x20, 8)], [0], false, [⟨31, 31, .rw⟩, ⟨30, 30, .rw⟩, ⟨21, 16, .rw⟩]⟩]

def regsHostB : List RegSpec :=
  [
   ⟨"HOST_CAP_SIZE", 0x030C050C, [(0x20, 8)], [0], false, [⟨24, 0, .rw⟩]⟩,
   ⟨"HOST_CAP_WR", 0x030C0510, [(0x20, 8)], [0], false, [⟨23, 0, .ro⟩]⟩,
   ⟨"HOST_CAP_RD", 0x030C0514, [(0x20, 8)], [0], false, [⟨23, 0, .rw⟩]⟩,
   ⟨"HOST_CAP_SHADOW_LO", 0x030C0518, [(0x20, 8)], [0], false, [⟨31, 0, .rw⟩]⟩,
   ⟨"HOST_CAP_SHADOW_HI", 0x030C051C, [(0x20, 8)], [0], false, [⟨31, 0, .rw⟩]⟩,
   ⟨"HOST_SQ_BASE_LO", 0x030C1000, [(0x80, 64), (0x20, 4)], [0], false, [⟨31, 0, .rw⟩]⟩,
   ⟨"HOST_SQ_BASE_HI", 0x030C1004, [(0x80, 64), (0x20, 4)], [0], false, [⟨31, 0, .rw⟩]⟩,
   ⟨"HOST_SQ_CFG", 0x030C1008, [(0x80, 64), (0x20, 4)], [0], false, [⟨31, 31, .rw⟩, ⟨12, 0, .rw⟩]⟩,
   ⟨"HOST_SQ_HEAD", 0x030C100C, [(0x80, 64), (0x20, 4)], [0], false, [⟨11, 0, .ro⟩]⟩,
   ⟨"HOST_SQ_TAIL", 0x030C1010, [(0x80, 64), (0x20, 4)], [0], false, [⟨11, 0, .ro⟩]⟩]

def regsHost : List RegSpec := regsHostA ++ regsHostB

/-! ## PWR: the registers of spec/18_power_reset_boot.md -/

namespace R

def PWR_STAT : Nat := 0x030D0000
def PWR_EVT : Nat := 0x030D0004
def PWR_RST_CAUSE : Nat := 0x030D0008
def PWR_RST_CTL : Nat := 0x030D000C
def PWR_STATE_CTL : Nat := 0x030D0010
def PWR_WAKE_VEC : Nat := 0x030D0014
def PWR_AVS_TGT : Nat := 0x030D0020
def PWR_AVS_APPLIED : Nat := 0x030D0024
def PWR_CLK : Nat := 0x030D0028
def PWR_IMON : Nat := 0x030D0030
def PWR_TEMP (a : Nat) : Nat := 0x030D0040 + a * 4
def PWR_VMON (a : Nat) : Nat := 0x030D0080 + a * 4
def PWR_WARN_CNT : Nat := 0x030D00C0
def PWR_BOOT_STAT : Nat := 0x030D0100
def PWR_BOOT_CTL : Nat := 0x030D0104
def PERI_FUSE (a : Nat) : Nat := 0x030EF000 + a * 4
def PERI_KEY_HASH (a : Nat) : Nat := 0x030EF020 + a * 4
end R

namespace F

def PWR_STAT_STATE : Fld := ⟨R.PWR_STAT, 31, 30⟩
def PWR_STAT_TRIP : Fld := ⟨R.PWR_STAT, 29, 29⟩
def PWR_STAT_WARN : Fld := ⟨R.PWR_STAT, 12, 0⟩
def PWR_EVT_STATE_REFUSED : Fld := ⟨R.PWR_EVT, 18, 18⟩
def PWR_EVT_CFG_REFUSED : Fld := ⟨R.PWR_EVT, 17, 17⟩
def PWR_EVT_TRIP_SEEN : Fld := ⟨R.PWR_EVT, 16, 16⟩
def PWR_EVT_WARN_SEEN : Fld := ⟨R.PWR_EVT, 12, 0⟩
def PWR_RST_CAUSE_SUPPLY : Fld := ⟨R.PWR_RST_CAUSE, 11, 8⟩
def PWR_RST_CAUSE_WAKE : Fld := ⟨R.PWR_RST_CAUSE, 4, 4⟩
def PWR_RST_CAUSE_SOFTWARE : Fld := ⟨R.PWR_RST_CAUSE, 3, 3⟩
def PWR_RST_CAUSE_SUPPLY_RST : Fld := ⟨R.PWR_RST_CAUSE, 2, 2⟩
def PWR_RST_CAUSE_PIN : Fld := ⟨R.PWR_RST_CAUSE, 1, 1⟩
def PWR_RST_CAUSE_POR : Fld := ⟨R.PWR_RST_CAUSE, 0, 0⟩
def PWR_RST_CTL_KEY : Fld := ⟨R.PWR_RST_CTL, 15, 0⟩
def PWR_STATE_CTL_WAKE_HOST : Fld := ⟨R.PWR_STATE_CTL, 10, 10⟩
def PWR_STATE_CTL_WAKE_LINK : Fld := ⟨R.PWR_STATE_CTL, 9, 9⟩
def PWR_STATE_CTL_WAKE_PIN : Fld := ⟨R.PWR_STATE_CTL, 8, 8⟩
def PWR_STATE_CTL_DORMANT : Fld := ⟨R.PWR_STATE_CTL, 0, 0⟩
def PWR_WAKE_VEC_VEC : Fld := ⟨R.PWR_WAKE_VEC, 19, 2⟩
def PWR_AVS_TGT_M14 : Fld := ⟨R.PWR_AVS_TGT, 29, 20⟩
def PWR_AVS_TGT_M13 : Fld := ⟨R.PWR_AVS_TGT, 19, 10⟩
def PWR_AVS_TGT_M12 : Fld := ⟨R.PWR_AVS_TGT, 9, 0⟩
def PWR_AVS_APPLIED_MV : Fld := ⟨R.PWR_AVS_APPLIED, 9, 0⟩
def PWR_CLK_CUR : Fld := ⟨R.PWR_CLK, 9, 8⟩
def PWR_CLK_SEL : Fld := ⟨R.PWR_CLK, 1, 0⟩
def PWR_IMON_VALID : Fld := ⟨R.PWR_IMON, 31, 31⟩
def PWR_IMON_MA : Fld := ⟨R.PWR_IMON, 15, 0⟩
def PWR_TEMP_VALID (a : Nat) : Fld := ⟨R.PWR_TEMP a, 31, 31⟩
def PWR_TEMP_STALE (a : Nat) : Fld := ⟨R.PWR_TEMP a, 30, 30⟩
def PWR_TEMP_T (a : Nat) : Fld := ⟨R.PWR_TEMP a, 15, 0⟩
def PWR_VMON_MV (a : Nat) : Fld := ⟨R.PWR_VMON a, 15, 0⟩
def PWR_WARN_CNT_V : Fld := ⟨R.PWR_WARN_CNT, 31, 0⟩
def PWR_BOOT_STAT_DONE : Fld := ⟨R.PWR_BOOT_STAT, 31, 31⟩
def PWR_BOOT_STAT_SECURE : Fld := ⟨R.PWR_BOOT_STAT, 30, 30⟩
def PWR_BOOT_STAT_KEY_SET : Fld := ⟨R.PWR_BOOT_STAT, 29, 29⟩
def PWR_BOOT_STAT_SIGNED : Fld := ⟨R.PWR_BOOT_STAT, 28, 28⟩
def PWR_BOOT_STAT_SRC : Fld := ⟨R.PWR_BOOT_STAT, 27, 26⟩
def PWR_BOOT_STAT_COPY : Fld := ⟨R.PWR_BOOT_STAT, 25, 25⟩
def PWR_BOOT_STAT_REASON : Fld := ⟨R.PWR_BOOT_STAT, 19, 16⟩
def PWR_BOOT_STAT_ATTEMPTS : Fld := ⟨R.PWR_BOOT_STAT, 15, 8⟩
def PWR_BOOT_CTL_GO : Fld := ⟨R.PWR_BOOT_CTL, 0, 0⟩
def PERI_FUSE_V (a : Nat) : Fld := ⟨R.PERI_FUSE a, 31, 0⟩
def PERI_KEY_HASH_V (a : Nat) : Fld := ⟨R.PERI_KEY_HASH a, 31, 0⟩
end F

def regsPwr : List RegSpec :=
  [
   ⟨"PWR_STAT", 0x030D0000, [], [0x40000000], false, [⟨31, 30, .ro⟩, ⟨29, 29, .ro⟩, ⟨12, 0, .ro⟩]⟩,
   ⟨"PWR_EVT", 0x030D0004, [], [0], false, [⟨18, 18, .w1c⟩, ⟨17, 17, .w1c⟩, ⟨16, 16, .w1c⟩, ⟨12, 0, .w1c⟩]⟩,
   ⟨"PWR_RST_CAUSE", 0x030D0008, [], [1], false, [⟨11, 8, .ro⟩, ⟨4, 4, .w1c⟩, ⟨3, 3, .w1c⟩, ⟨2, 2, .w1c⟩, ⟨1, 1, .w1c⟩, ⟨0, 0, .w1c⟩]⟩,
   ⟨"PWR_RST_CTL", 0x030D000C, [], [0], false, [⟨15, 0, .wo⟩]⟩,
   ⟨"PWR_STATE_CTL", 0x030D0010, [], [0x700], false, [⟨10, 10, .rw⟩, ⟨9, 9, .rw⟩, ⟨8, 8, .rw⟩, ⟨0, 0, .w1s⟩]⟩,
   ⟨"PWR_WAKE_VEC", 0x030D0014, [], [0], false, [⟨19, 2, .rw⟩]⟩,
   ⟨"PWR_AVS_TGT", 0x030D0020, [], [0], false, [⟨29, 20, .ro⟩, ⟨19, 10, .ro⟩, ⟨9, 0, .ro⟩]⟩,
   ⟨"PWR_AVS_APPLIED", 0x030D0024, [], [0x2EE], false, [⟨9, 0, .rw⟩]⟩,
   ⟨"PWR_CLK", 0x030D0028, [], [0], false, [⟨9, 8, .ro⟩, ⟨1, 0, .rw⟩]⟩,
   ⟨"PWR_IMON", 0x030D0030, [], [0], false, [⟨31, 31, .ro⟩, ⟨15, 0, .ro⟩]⟩,
   ⟨"PWR_TEMP", 0x030D0040, [(4, 8)], [0], false, [⟨31, 31, .ro⟩, ⟨30, 30, .ro⟩, ⟨15, 0, .ro⟩]⟩,
   ⟨"PWR_VMON", 0x030D0080, [(4, 13)], [0], false, [⟨15, 0, .ro⟩]⟩,
   ⟨"PWR_WARN_CNT", 0x030D00C0, [], [0], false, [⟨31, 0, .ro⟩]⟩,
   ⟨"PWR_BOOT_STAT", 0x030D0100, [], [0], false, [⟨31, 31, .ro⟩, ⟨30, 30, .ro⟩, ⟨29, 29, .ro⟩, ⟨28, 28, .ro⟩, ⟨27, 26, .ro⟩, ⟨25, 25, .ro⟩, ⟨19, 16, .ro⟩, ⟨15, 8, .ro⟩]⟩,
   ⟨"PWR_BOOT_CTL", 0x030D0104, [], [0], false, [⟨0, 0, .wo⟩]⟩,
   ⟨"PERI_FUSE", 0x030EF000, [(4, 5)], [0], false, [⟨31, 0, .ro⟩]⟩,
   ⟨"PERI_KEY_HASH", 0x030EF020, [(4, 8)], [0], false, [⟨31, 0, .ro⟩]⟩]

/-- The registers of the block whose window holds address `a` (R21). -/
def blockRegs (a : Nat) : List RegSpec :=
  if a < 0x03000000 then regsLane ++ regsAddr ++ regsCluster
  else match (a - 0x03000000) / 0x10000 with
    | 0 => regsChip
    | 1 => regsFcst
    | 2 => regsXing
    | 3 => regsLevee
    | 4 => regsPair
    | 5 => regsFault
    | 6 => regsClk
    | 7 => regsTime ++ regsEthptp
    | 8 => regsNgl
    | 9 => regsFab ++ regsEthptp
    | 10 => regsSap
    | 11 => regsEthptp
    | 12 => regsHost
    | 13 => regsPwr
    | 14 => regsPwr
    | 15 => regsMtx
    | _ => []

end Sys2Proof.Machine
end

