-- ==== Sys2Proof/Machine/SMap.lean ====
section
/-!
DEFINITION. Sparse maps: plain lists of key and value pairs with the keys strictly rising and no value equal to
what an unlisted key reads as. Memory, the register store and every numbered set of units are held this way, so
that equal contents are equal data.
-/
namespace Sys2Proof.Machine

/-- A sparse map from natural numbers. -/
abbrev SMap (β : Type) := List (Nat × β)

variable {β : Type}

/-- The value listed for key `k`, if any. -/
def SMap.find : SMap β → Nat → Option β
  | [], _ => none
  | (a, v) :: m, k => if a = k then some v else SMap.find m k

/-- The value at key `k`; `d k` where nothing is listed. -/
def SMap.get (d : Nat → β) (m : SMap β) (k : Nat) : β := (SMap.find m k).getD (d k)

/-- `m` with no entry for `k`. -/
def SMap.erase : SMap β → Nat → SMap β
  | [], _ => []
  | (a, v) :: m, k => if a = k then SMap.erase m k else (a, v) :: SMap.erase m k

/-- `m` with `v` listed at `k`, keys kept rising. -/
def SMap.insert : SMap β → Nat → β → SMap β
  | [], k, v => [(k, v)]
  | (a, u) :: m, k, v =>
    if k < a then (k, v) :: (a, u) :: m
    else if a = k then (k, v) :: m
    else (a, u) :: SMap.insert m k v

/-- `m` with value `v` at `k`, in canonical form. -/
def SMap.set [DecidableEq β] (d : Nat → β) (m : SMap β) (k : Nat) (v : β) : SMap β :=
  if v = d k then SMap.erase m k else SMap.insert m k v

/-- Whether every key is at least `lo` and the keys rise strictly. -/
def SMap.risesFrom (lo : Nat) : SMap β → Bool
  | [] => true
  | (a, _) :: m => decide (lo ≤ a) && SMap.risesFrom (a + 1) m

/-- Whether no listed value equals what its key reads as unlisted. -/
def SMap.noDefault [DecidableEq β] (d : Nat → β) (m : SMap β) : Bool :=
  m.all (fun e => decide (e.2 ≠ d e.1))

/-- The canonical form. -/
def SMap.wf [DecidableEq β] (d : Nat → β) (m : SMap β) : Bool :=
  SMap.risesFrom 0 m && SMap.noDefault d m

end Sys2Proof.Machine
end

