-- ==== Sys2Proof/Machine/Cells.lean ====
section
/-!
DEFINITION. What the parts of the state hold: lanes, clusters and the per-block state that no register shows.
Software-visible registers are not here: their values stand in the register store of `State`. Where a value is
shown by a register and also listed here, the register is computed from this state where it is read
(Machine/Bus.lean).
-/
namespace Sys2Proof.Machine

/-! ## Clusters and lanes (spec/03, spec/04, spec/05) -/

/-- What one lane holds (R66): D_n, ACC_i, the four predicate flags, LSTAT and the offset table. -/
structure Lane where
  d : SMap Word
  acc : SMap (BitVec 80)
  pf : Nat
  lstat : Nat
  ofs : SMap (BitVec 24)
  deriving DecidableEq, Repr

/-- A lane of zeros: what reset, task entry and power-gating leave, each in its own part. -/
def Lane.zero : Lane := ⟨[], [], 0, 0, []⟩

/-- A data-register result not yet visible (R126): visible after `left` more issued words. -/
structure Pend where
  left : Nat
  lane : Nat
  reg : Nat
  val : Word
  deriving DecidableEq, Repr

/-- One cluster: its lanes (16 is LANE_S), the results on their way, the sequencer addressing and loop registers,
the next instruction index, the cycle count of the running task and the first cycle after its last word (0 before its first),
with the issue cycles of the last accumulator producers (R128), the tallies of the running task (R72, R98), the staging
register of program memory (R134), the shadow checking history of R79, and the tick from which the retired lane may be tested again (R83). -/
structure Cluster where
  lanes : SMap Lane
  pend : List Pend
  p : SMap (BitVec 20)
  bnd : SMap Nat
  m : SMap (BitVec 16)
  b : SMap (BitVec 20)
  len : SMap (BitVec 20)
  lc : SMap Nat
  ls : SMap Nat
  le : SMap Nat
  depth : Nat
  pc : Nat
  cyc : Nat
  issued : Nat
  accAt : SMap Nat
  rsumAt : SMap Nat
  arCnt : Nat
  arLane : Nat
  arAddr : Nat
  ofCnt : Nat
  ofLane : Nat
  ofAddr : Nat
  stage : Option (Nat × Word)
  mmTick : SMap Nat
  ran : Bool
  mm : Bool
  mmAddr : Nat
  retHeld : Nat
  bistDue : Nat
  lastWord : Nat
  deriving DecidableEq, Repr

/-- A cluster after device reset. -/
def Cluster.reset : Cluster :=
  ⟨[], [], [], [], [], [], [], [], [], [], 0, 0, 0, 0, [], [], 0, 0, 0, 0, 0, 0, none, [], false, false, 0, 0, 0, 0⟩

/-! ## The Forecast (spec/06) -/

/-- Progress of a task within the tick (R148, R55, R132, R301). -/
inductive TaskRun where
  | waiting | running | done | halted | notStarted | ill | excluded
  deriving DecidableEq, Repr

/-- The tier state of a task (R163, R165): tier in force, outgoing tier, crossfade ticks remaining, hold count, length
of the crossfade, and a drop that waits for the crossfade to end (R170). -/
structure TierSt where
  cur : Nat
  out : Nat
  xf : Nat
  hold : Nat
  len : Nat
  drop : Bool
  deriving DecidableEq, Repr

/-- A selection (R152): the tick and table copy it is for, the tier state of every valid task from that tick, whether
it breaches (R166), its budget state and energies in 0.1 nJ, and its committed plan. -/
structure Selection where
  tick : Nat
  copy : Nat
  tiers : SMap TierSt
  breach : Bool
  state : Nat
  budget : Nat
  steady : Nat
  commit : Nat
  plan : Nat
  deriving DecidableEq, Repr

/-- The Forecast's state beside its registers. `tt` holds both task table copies, word w of entry t of copy x at
key 2048x + 16t + w; `ttTgt` the target of an armed switch; `ttLive` and `ttTicks` the count of R147. `tier` is the tier
state of each task in force and `ovr` its halt in the last tick; `fix` holds states forced for the next tick (R169,
R170). `doneOn` marks completion at key 16t + c. `acts` counts the operations of class n issued for task t in this
tick at key 16t + n, `actTick` those of class n on all clusters. `idle` counts ticks without a dispatch by cluster,
`disp` marks clusters dispatched to in this tick. `tRise`, `tRef` and `tS` are in 2^-32 °C. `release` is the 1 ms that
follows the return of a valid sensor reading, `relTick` the boundary of the last rise of force_cap, or at cap 0 that of the
first (R172). `therm` is FCST_THERM as the last update of P_th used it, and `meas` the VDD_CORE energy measured for the tick
(R154).
`pwSum` adds up the committed power, in µW, of the `pwTicks` ticks that have ended since the last thermal update (R157). -/
structure Fcst where
  tt : SMap Word
  ttTgt : Nat
  ttLive : Bool
  ttTicks : Nat
  tier : SMap TierSt
  ovr : SMap Bool
  fix : SMap TierSt
  sel : Option Selection
  run : SMap TaskRun
  doneOn : SMap Bool
  acts : SMap Nat
  actTick : SMap Nat
  idle : SMap Nat
  disp : SMap Bool
  supplyLow : Bool
  senseLow : Bool
  release : Bool
  relTick : Option Nat
  tRise : Int
  tRef : Int
  tS : Int
  therm : Word
  pthLive : Bool
  overrun : Bool
  firstSel : Bool
  pwSum : Nat
  pwTicks : Nat
  meas : Option Nat
  deriving DecidableEq, Repr

def Fcst.reset : Fcst :=
  ⟨[], 0, false, 0, [], [], [], none, [], [], [], [], [], [], false, false, false, none, 0, 0, 0, 0x001400C8, false, false, true,
   0, 0, none⟩

/-! ## Crossings (spec/07) -/

/-- Progress of a capture ring's frame within the tick (R200). -/
inductive CapFrame where
  | none | open | dropped
  deriving DecidableEq, Repr

/-- Crossing table store and slot DMA state beside the registers: `xt` holds word w of entry e of copy x at key
32768x + 4e + w, `dl` the descriptor registers of copy x at 512x + 2d (BASE) and 512x + 2d + 1 (LEN); `held` is the
held value h of each slot's ramp (R56) and `last` the last sample distributed from the slot; `late` whether the
distribute in progress misses the 0.90T mark (R48). -/
structure Xing where
  xt : SMap Word
  dl : SMap Word
  held : SMap Word
  last : SMap Word
  xfLen : SMap Nat
  capFrame : SMap CapFrame
  capDropped : SMap Nat
  late : Bool
  deriving DecidableEq, Repr

def Xing.reset : Xing := ⟨[], [], [], [], [], [], [], false⟩

/-! ## The time unit (spec/02, spec/16) -/

/-- Where in the tick the time unit stands (R45, R545). -/
inductive Phase where
  | stopped | gather | window | distribute | consign
  deriving DecidableEq, Repr

/-- The MTC, the tick number and what starts, stops and schedules ticks. `fsNew` is an accepted FS_SEL change that
waits for the next sample boundary (R36); `fs` is the rate in force. `startMtc` is the MTC when RUN took effect, and
`startMid` whether that was after the start of its sample period (R43). -/
structure TimeUnit where
  mtc : BitVec 64
  tick : BitVec 64
  mtcSetLo : Word
  tickSetLo : Word
  mtcShown : BitVec 64
  fs : Nat
  fsNew : Bool
  phase : Phase
  gathered : Bool
  startMtc : Nat
  startMid : Bool
  firstTick : Bool
  aligned : Bool
  schedTgt : SMap Nat
  ptp : Nat
  ptpShown : Nat
  ptpTick : Nat
  ptpNewTick : Nat
  trigTgt : SMap Nat
  mediaOfs : Option (BitVec 64)
  mediaOfsLo : Word
  autoArmed : Bool
  deriving DecidableEq, Repr

def TimeUnit.reset : TimeUnit :=
  ⟨0, 0, 0, 0, 0, 3, false, .stopped, false, 0, false, false, false, [], 0, 0, 0, 0, [], none, 0, false⟩

/-! ## Fault collection (spec/10) -/

/-- A fault message (R279): the fields its severity does not follow from. `src` is bits [11:0]. -/
structure FMsg where
  addr : Nat
  count : Nat
  kind : Nat
  src : Nat
  deriving DecidableEq, Repr

/-- A tracking entry of a region collector (R286); `opened` in µs of the reference clock. -/
structure FEntry where
  src : Nat
  kind : Nat
  count : Nat
  opened : Nat
  deriving DecidableEq, Repr

/-- The record being formed in an open handling period (R296). -/
structure FRec where
  first : FMsg
  severe : Bool
  tick : Nat
  mkind : Nat
  msev : Nat
  merged : Nat
  react : Nat
  deriving DecidableEq, Repr

/-- Fault collection beside the FAULT registers: messages waiting in their blocks, in order of emission (R283);
entries by collector; messages forwarded to the chip fault collector with the severe result; the open handling
period; for each W1CG bit (0 to 6 regions, 8 chip, 16 REQ, 32 + g groups) the (kind, source) pairs that acted on it
since it was last cleared (R303); collectors whose reload has ended a parity error; safe states cleared but not yet
ended (R304, key 8 chip); whether consignments are withheld and the tick whose heartbeat first carried REQ_FAILOVER
(R299); and whether the control core restarts (R27). -/
structure Faults where
  blocks : List FMsg
  entries : SMap (List FEntry)
  chip : List (FMsg × Bool)
  period : Option FRec
  acted : SMap (List (Nat × Nat))
  reloaded : SMap Bool
  ending : SMap Bool
  foWithhold : Bool
  foTick : Option Nat
  coreDown : Bool
  deriving DecidableEq, Repr

def Faults.reset : Faults := ⟨[], [], [], none, [], [], [], false, none, false⟩

/-! ## Memories and the matrix (spec/11) -/

/-- Who waits for an access: the control core or another master of CONTROL; a BAR_0 request, with the words it has and the byte enables of those still to
read; nobody, after a BAR_0 read has timed out (R482); a remote request, with its envelope, the words it has, and those still
to read or to write (R411); the host interface's engine, whose command has not begun (R490); or a DMA engine of LINK. -/
inductive Asker where
  | bus (core : Bool)
  | bar (have_ : List Word) (left : List (Fin 16))
  | gone
  | remote (e : Env) (have_ : List Word) (left : Nat) (rest : List Word)
  | engine
  | dma
  deriving DecidableEq, Repr

/-- An access that has not been answered (R335, R336): the code of the domain it waits for, or 35 where it waits for a lock
(R326) and 36 where it waits behind an earlier access of its master (R323, R325); the address, whether it has been reported, the
value of a write (none for a read), its size in bytes, and who waits for it. -/
structure Hung where
  dom : Nat
  addr : Nat
  reported : Bool
  val : Option Word
  size : Nat
  who : Asker
  deriving DecidableEq, Repr

/-- Memory and matrix state beside the MTX registers: ECC error marks by word address (1 single, 2 double),
write-backs waiting (R313), banks in retention and waking by bank number (cluster data 16c + b, program 256 + c,
region 272 + 32g + b, control 400 + b), the next scrub unit of each memory (clusters' data 0 to 15, program 16 to 31,
region 32 to 35, control 36), the memories whose cycle is complete, the banks that a scrub pass has woken, the mode of an
armed injection (R315), the locked sequence of the control core (accesses left and its first address), the accesses
that wait, the far domains whose clock has stopped while CLOCK_PRESENT still reads 1 (R334, R335), and the operations of atomic
channels that wait for a locked bank, by channel. -/
structure Mtx where
  ecc : SMap Nat
  wb : List Nat
  ret : SMap Bool
  waking : SMap Bool
  scrub : SMap Nat
  scrubDone : SMap Bool
  scrubWoke : SMap Bool
  injMode : Nat
  lockLeft : Nat
  lockAddr : Option Nat
  hung : List Hung
  stopped : SMap Bool
  atoms : SMap Nat
  deriving DecidableEq, Repr

def Mtx.reset : Mtx := ⟨[], [], [], [], [], [], [], 0, 0, none, [], [], []⟩

/-! ## The pair unit, the pilot and the Ferry (spec/09) -/

/-- A consignment being sent (R257, R259): the lines it holds, and its messages that have not left. -/
structure Consign where
  tick : Nat
  lines : List Nat
  msgs : List (List Word)
  deriving DecidableEq, Repr

/-- A consignment arriving at the standby (R261): the SEQ it awaits, whether it can no longer be complete, whether its
loss has been counted, whether it is complete, and the payloads received, in order. -/
structure Staged where
  tick : Nat
  next : Nat
  bad : Bool
  counted : Bool
  done : Bool
  msgs : List (List Word)
  deriving DecidableEq, Repr

/-- A tick's input record (R263): the words that the gather wrote, the head words, and per task SET and XF_COEF. -/
structure InputRec where
  tick : Nat
  full : Bool
  words : List (Nat × Word)
  heads : List (Nat × Word)
  sets : List (Nat × Nat)
  deriving DecidableEq, Repr

/-- A takeover in progress (R264 to R267): tick k, m, the skipped ticks, whether it is stale, degraded or late, the catch-up
ticks still to begin, the one that runs, and whether tick k was computed. -/
structure Takeover where
  k : Nat
  m : Nat
  skipped : Nat
  stale : Bool
  degraded : Bool
  late : Bool
  rest : List Nat
  running : Option Nat
  ran : Bool
  complete : Bool
  deriving DecidableEq, Repr

/-- What a heartbeat tells of the tick before it (R246, R247): its tier vector, its output CRC, FCST_CYC_T0 of its selection, and
whether it overran, distributed late or ran beyond its budget. -/
structure Told where
  vec : List Word
  crc : Word
  cycT0 : Nat
  overrun : Bool
  distLate : Bool
  budgetOvr : Bool
  deriving DecidableEq, Repr

def Told.none : Told := ⟨[], 0, 0, false, false, false⟩

/-- What is known of a member or partner from its last heartbeat (R246, R247). -/
structure Beat where
  tick : Nat
  role : Nat
  failover : Bool
  ready : Nat
  miss : Bool
  epoch : Nat
  deriving DecidableEq, Repr

/-- Pair unit state beside the PAIR registers. `areas` are the tracked areas in force (index, base, lines), `areasNew` a
change that waits for the boundary, `dirty` the dirty lines by line number, `bufs` the buffer bases in force (0 FBUF,
1 STAGE, 2 + g REC). `forced` is forced mode, `again` a second forced pass, `passNext` a pass that starts with the next
sweep line, `carryNext` a CARRY that is due. `peer` is the partner's last heartbeat copy, `peerAge` the boundaries since
it came; `peerGrant` the newest grant the partner is known to hold; `pilotAge` the boundaries without a grant or notice,
`granted` whether one came since the last, `miss` PILOT_MISS, `hops` the hops of the last one. `next` is the role due at
the next boundary, `fence` a fence that has taken effect. `vec`, `crc`, `cycT0` and the flags after them describe the tick
in progress, `told` the tick before it for its heartbeats, and `sentHealth` is the health word of the last heartbeat sent; `nocheck` describes the tick in progress. `sigDirty`
is a change that the signature has not taken up, `sigWork` a computation in progress. The standby's part: the staged
consignments, the loss-free pass, what the last commit carried, input records by tick mod 4, what the gather wrote, a
takeover, a replay, matches in a row, the mismatch window, the next cluster to test and the one under test. The pilot's part: last heartbeats at key
2p + member, whether EPOCH is settled, and the ticks of the role. -/
structure Pair where
  areas : List (Nat × Nat × Nat)
  areasNew : Bool
  dirty : SMap Bool
  bufs : SMap Word
  forced : Bool
  again : Bool
  passNext : Bool
  sending : Option Consign
  carryNext : Bool
  peer : Option Beat
  peerAge : Nat
  peerGrant : Option (Nat × Nat)
  pilotAge : Nat
  granted : Bool
  miss : Bool
  hops : Nat
  next : Option Nat
  fence : Bool
  vec : List Word
  crc : Word
  cycT0 : Nat
  told : Told
  sentHealth : Word
  wasOverrun : Bool
  wasDistLate : Bool
  wasBudgetOvr : Bool
  nocheck : Bool
  sigDirty : Bool
  sigWork : Bool
  sigPeerValid : Bool
  staged : List Staged
  lastTick : Option Nat
  passOpen : Bool
  passClean : Bool
  commitCyc : Nat
  recs : SMap (Option InputRec)
  gathered : List (Nat × Word)
  heads : List (Nat × Word)
  take : Option Takeover
  replay : Option Nat
  passCount : Nat
  window : List Bool
  bistNext : Nat
  bist : Option Nat
  beats : SMap (Option Beat)
  epochKnown : Bool
  pilotTicks : Nat
  deriving DecidableEq, Repr

def Pair.reset : Pair :=
  { areas := [], areasNew := false, dirty := [], bufs := [], forced := false, again := false, passNext := true,
    sending := none, carryNext := false, peer := none, peerAge := 0, peerGrant := none, pilotAge := 0,
    granted := false, miss := false, hops := 0, next := none, fence := false, vec := [], crc := 0, cycT0 := 0, told := Told.none,
    sentHealth := 0,
    wasOverrun := false, wasDistLate := false, wasBudgetOvr := false, nocheck := false,
    sigDirty := true, sigWork := false, sigPeerValid := false, staged := [], lastTick := none, passOpen := false,
    passClean := false, commitCyc := 0, recs := [], gathered := [], heads := [], take := none, replay := none,
    passCount := 0, window := [], bistNext := 0, bist := none, beats := [], epochKnown := false, pilotTicks := 0 }

/-! ## What leaves the device -/

/-- What the device sends to the outside: the response to a bus access, a fabric message of a type (spec/14), a run of
a flow, a write to host memory, an MSI-X message, an Ethernet frame, a byte on the UART, a frame of a transmit slot, and
bits shifted out of JTAG, the slots of a port's frame, returned credits, a tick mark, a block of the MOOR handshake, and the
start of a forwarded run. -/
inductive Out where
  | resp (err : Bool) (data : List Word)
  | msg (port : Nat) (env : Env) (payload : List Word)
  | run (port flow first count : Nat) (poison : Bool) (payload : List Word)
  | host (addr : Nat) (data : List Byte)
  | msix (vector : Nat)
  | eth (port queue : Nat) (frame : List Byte)
  | sap (port : Nat) (slots : List (Option Word))
  | credit (port cls n : Nat)
  | mark (port : Nat) (w1 w2 w3 : Word) (tick mtc : Nat)
  | moor (port : Nat) (ack : Bool)
  | forward (port flow first count : Nat)
  | uart (b : Byte)
  | jtag (bits : Nat)
  deriving DecidableEq, Repr

/-! ## The host interface (spec/17) -/

/-- A submission descriptor that has been fetched and not started: its ring, HEAD after its fetch, its eight words, and
whether it is to complete as ABORTED (R484). -/
structure Desc where
  ring : Nat
  head : Nat
  ws : List Word
  aborted : Bool
  deriving DecidableEq, Repr

/-- Host interface state beside the HOST registers: events discarded since the last one written, vectors in hold-off
and those with a merged request (R496), the MSI-X table (word w of vector v at key 4v + w) and pending bits, whether
the function is in D3hot (R483), the descriptors that wait for the engine, oldest first (R490), a FLOW_SET that waits for
the boundary after a tick with its buffer, the addresses of the engine's accesses that came back with an error after they hung (R336), and
the doorbells held during a restart of the control core (R27: page, offset, value). -/
structure HostSt where
  lost : Nat
  hold : SMap Bool
  merged : SMap Bool
  msix : SMap Word
  pba : SMap Bool
  d3 : Bool
  ready : List Desc
  flowWait : Option (Nat × Desc × List Word)
  engErr : List Nat
  bells : List (Nat × Nat × Word)
  deriving DecidableEq, Repr

def HostSt.reset : HostSt := ⟨0, [], [], [], [], false, [], none, [], []⟩

end Sys2Proof.Machine
end

