-- ==== Sys2Proof/Machine/CellsAudio.lean ====
section
/-!
DEFINITION. What the audio path holds beside its registers: ramps (spec/02), elements of the Levee (spec/08), and
the serial audio ports (spec/15).
-/
namespace Sys2Proof.Machine

/-- A ramp of R56 to R58: held value h, gain step G, ramp-down and ramp-up in progress, and the last value given. -/
structure Ramp where
  h : Word
  g : Nat
  down : Bool
  up : Bool
  last : Word
  deriving DecidableEq, Repr

/-- A ramp that passes everything, and one that stands at zero and has given nothing (R193). -/
def Ramp.full : Ramp := ⟨0, 16, false, false, 0⟩
def Ramp.zero : Ramp := ⟨0, 0, false, false, 0⟩

/-- The transmit gate of a slot (R432): what is commanded, its gain G, whether it waits for a zero crossing or ramps,
the sign of the last sample, and the first frame from which it has passed only zeros. -/
structure TxGate where
  want : Bool
  g : Nat
  search : Bool
  ramp : Bool
  prev : Option Bool
  shut : Nat
  deriving DecidableEq, Repr

def TxGate.closed : TxGate := ⟨false, 0, false, false, none, 0⟩

/-- An element of the Levee (R204, R207, R208): the binding in force, the models, the gains, the hard step that is due
(0 none) and the G of a soft ramp (0 none), the last RAIL word since the binding, the fault flags of the last STATUS
word, which ways the amplifier fault was raised, whether the element holds AMP_MUTE, the DC count, whether samples
came in this tick, and whether a retry is timed. -/
structure Elem where
  bind : Word
  eC : Int
  eM : Int
  eLf : Int
  l1 : Int
  l2 : Int
  d : Int
  g : Nat
  q : Nat
  hard : Nat
  soft : Nat
  rail : Option Nat
  stat : Nat
  pinFlt : Bool
  telFlt : Bool
  asserts : Bool
  dcCount : Nat
  dcHit : Bool
  fed : Bool
  retry : Bool
  noRetry : Bool
  deriving DecidableEq, Repr

/-- An element after power-on reset (R231), at the reset values of its registers. -/
def Elem.reset : Elem :=
  ⟨0, 2 ^ 47, 2 ^ 47, 0, 0, 0, 0, 2 ^ 23, 0, 0, 0, none, 0, false, false, false, 0, false, false, false, false⟩

/-- The Levee beside its registers: elements, AMP_FLT inputs active, registers with wrong parity (true: rewritten
since), the buckets of the Ethernet ports (R237), in 10^-9 frames and 10^-9 bytes below full, and by port one more than the queue whose
frame waits for its limiter. -/
structure Levee where
  el : SMap Elem
  flt : SMap Bool
  bad : SMap Bool
  fUsed : SMap Nat
  yUsed : SMap Nat
  waited : SMap Nat
  deriving DecidableEq, Repr

def Levee.reset : Levee := ⟨[], [], [], [], [], []⟩

/-- A complete received frame: its number, the time of its leading edge in 1/256 sample period, its slot words. -/
structure RxFrame where
  num : Nat
  stamp : Nat
  words : List Word
  deriving DecidableEq, Repr

/-- A serial audio port beside its registers: the frame in progress and the time of its edge; the first frame of a
start that is set; whether RESYNC has an aligning edge and whether a restart is permitted; received frames; transmit
containers at key 16 × frame + slot; the next frame to send and to append under STAMP and whether both directions hold
2N frames; ramps of receive and transmit slots; transmit gates; whether the pending masks wait a frame longer; rate
windows completed; what a gather delivers for the tick at key 32 × slot + sample; the values of SAP_RATE_MEAS and SAP_RATE_DEV
that a read last accepted (R331). -/
structure Sap where
  frame : Option Nat
  edge : Nat
  first : Option Nat
  aligned : Bool
  permit : Bool
  rxq : List RxFrame
  tx : SMap Word
  txHead : Nat
  txTail : Nat
  rxFull : Bool
  txFull : Bool
  rxRamp : SMap Ramp
  txRamp : SMap Ramp
  gate : SMap TxGate
  maskHold : Bool
  windows : Nat
  okWindows : Nat
  lastClass : Nat
  devHigh : Bool
  gath : SMap Word
  rateShown : Word
  devShown : Word
  safe : Bool
  deriving DecidableEq, Repr

def Sap.reset : Sap :=
  { frame := none, edge := 0, first := none, aligned := false, permit := false, rxq := [], tx := [], txHead := 0,
    txTail := 0, rxFull := false, txFull := false, rxRamp := [], txRamp := [], gate := [], maskHold := false,
    windows := 0, okWindows := 0, lastClass := 0, devHigh := false, gath := [], rateShown := 0, devShown := 0,
    safe := false }

end Sys2Proof.Machine
end

