-- ==== Sys2Proof/Machine/CellsNet.lean ====
section
/-!
DEFINITION. What the links hold beside their registers: Ngulek ports (spec/13), the fabric router (spec/14), the Ethernet
ports and the AES67 bridge (spec/16).
-/
namespace Sys2Proof.Machine

/-- A Ngulek port beside its registers: whether WAKING was entered from MOORED; the coefficients saved at entry to
MOORED (FFE, CTLE, eight DFE taps); the status answered to the partner's request; consecutive training frames with
RX_READY; whether this end has sent MOOR_REQ, has accepted one, and leaves MOORED on arrival (R378); whether payload
and messages are stopped; CRC failures of the tick (R368); whether an eye measurement was cut off whose count is still to
come (R373). -/
structure Ngl where
  fromMoored : Bool
  saved : Option (List Word)
  answer : Nat
  ready : Nat
  asked : Bool
  accepted : Bool
  leave : Bool
  quiet : Bool
  crc : Nat
  scanCut : Bool
  deriving DecidableEq, Repr

def Ngl.reset : Ngl := ⟨false, none, 0, 0, false, false, false, false, 0, false⟩

/-- A message that waits for credit: its envelope, payload, the fragments still to send, and the port whose receive
buffer holds it where it is forwarded. -/
structure TxMsg where
  env : Env
  ws : List Word
  frags : Nat
  held : Option Nat
  deriving DecidableEq, Repr

/-- A run being received on a port (R389): its header, the tick of the mark before it, and the ports, as a mask, on which it is
forwarded. -/
structure InRun where
  flow : Nat
  first : Nat
  count : Nat
  n : Nat
  epoch : Nat
  tick : Nat
  outs : Nat
  deriving DecidableEq, Repr

/-- A flow context as it is in force (R392, R393): FAB_FLOW_W0 to W2, and BR_CFG, BR_ADDR, BR_OFS and BR_AUX for an AES67
stream. -/
structure Ctx where
  w0 : Word
  w1 : Word
  w2 : Word
  cfg : Word
  addr : Word
  ofs : Word
  aux : Word
  deriving DecidableEq, Repr

def noCtx (_ : Nat) : Ctx := ⟨0, 0, 0, 0, 0, 0, 0⟩

/-- A request this device has outstanding (R411, R415): the control core's own, or a submission descriptor's. -/
structure Request where
  tag : Nat
  epoch : Nat
  core : Bool
  write : Bool
  dev : Nat
  deriving DecidableEq, Repr

/-- The fabric router beside its registers. `act` holds the contexts in force as of the last boundary, by flow; `acc` the ports that brought a
good copy of a run position, as a mask, at key 512f + 256 × parity + first; `rbuf` the flow buffer memory and `pres` the
presence marks of R474; `ramp` the ramps of channels at 256f + ch; `tx` the samples written for the next payload and
`out` those of the payload in progress, at key 32 × (256f + ch) + sample; `gath` what the gather delivers, at the same
key; `fwd` the tick of the last run forwarded of a position (256f + first); `mark` the tick number of the last tick mark
of a port, `marked` the tick after that of the last one sent, `timed` tick number and MTC of the last TIMED one that carries
this device's TICK_CFG, `rootCfg` FS_SEL and N_LOG2 of the last TIMED one (8 × FS_SEL + N_LOG2); `txq` messages that wait, at key 3p + class; `epochs` the
epoch of each tag; `delays` the last exchanges of a port, newest first, in 1/32 ns; `syncOut` the departure and sequence
of its outstanding TIME_SYNC, `syncSeq` the next sequence number and `syncTick` the tick of the last request;
`ackOut` ports on which a CAPABILITY with ACK has been sent, `ackIn` on which the last one received carries ACK and no
failure holds, `capIn` word 0 of the last good one received; `sent` the last CAPABILITY sent. -/
structure Fab where
  act : SMap Ctx
  acc : SMap Nat
  rbuf : SMap Word
  pres : SMap Bool
  ramp : SMap Ramp
  tx : SMap Word
  out : SMap Word
  gath : SMap Word
  inRun : SMap InRun
  fwd : SMap Nat
  mark : SMap Nat
  marked : SMap Nat
  timed : SMap (Nat × Nat)
  rootCfg : Option Nat
  txq : SMap (List TxMsg)
  epochs : SMap Nat
  reqs : List Request
  delays : SMap (List Int)
  syncOut : SMap (Nat × Nat)
  syncSeq : SMap Nat
  syncTick : SMap Nat
  ackOut : SMap Bool
  ackIn : SMap Bool
  capIn : SMap Word
  sent : SMap (List Word)
  deriving DecidableEq, Repr

def Fab.reset : Fab :=
  { act := [], acc := [], rbuf := [], pres := [], ramp := [], tx := [], out := [], gath := [], inRun := [], fwd := [],
    mark := [], marked := [], timed := [], rootCfg := none, txq := [], epochs := [], reqs := [], delays := [], syncOut := [], syncSeq := [], syncTick := [], ackOut := [],
    ackIn := [], capIn := [], sent := [] }

/-- What waits in a transmit queue, oldest first: descriptors up to a TAIL, or a bridge packet and the tick that queued
it. -/
inductive TxReady where
  | desc (tail : Nat)
  | pkt (tick : Nat) (bytes : List Byte)
  deriving DecidableEq, Repr

/-- An Ethernet port beside its registers: the transmit time stamps (tag, ns, s), and its queues. -/
structure Eth where
  txts : List (Nat × Nat × Nat)
  txq : SMap (List TxReady)
  deriving DecidableEq, Repr

def Eth.reset : Eth := ⟨[], []⟩

/-- The AES67 bridge: next sequence number and next first stamp of transmit contexts, samples collected at key
(stamp × 1024 + flow) × 256 + channel, and the SSRC a receive context has latched. -/
structure Bridge where
  seq : SMap Nat
  next : SMap Nat
  col : SMap Word
  ssrc : SMap Word
  deriving DecidableEq, Repr

def Bridge.reset : Bridge := ⟨[], [], [], []⟩

end Sys2Proof.Machine
end

