-- ==== Sys2Proof/Machine/CellsSys.lean ====
section
/-!
DEFINITION. What the clock unit holds beside its registers (spec/12).
-/
namespace Sys2Proof.Machine

/-- The clock unit: HIST and H in tenths of a second, whether H runs (R355), the output frequency of the last LOCKED
tenths, newest first, in 0.01 ppb (R353), consecutive pulses of PPS_IN within range (R343), inputs whose next event has
a predicted phase and inputs last measured out of range (R342), the MCLK_OUT configurations in force (R358), the rank whose
inputs disagree (R346), the frequency term in 0.01 ppb, the phase-correction term in fs and the bandwidth code in use (R348, R349),
the offset in ns built into the phase target and whether it is still to be measured (R350), and whether the phase error has stayed
within LOCK_NS (R351). -/
structure Clk where
  hist : Nat
  h : Nat
  hRun : Bool
  freqs : List Int
  pps : Nat
  predicted : SMap Bool
  outRange : SMap Bool
  mout : SMap Word
  disRank : Nat
  freq : Int
  corr : Int
  bw : Nat
  built : Int
  measure : Bool
  within : Bool
  deriving DecidableEq, Repr

def Clk.reset : Clk := ⟨0, 0, false, [], 0, [], [], [], 0, 0, 0, 2, 0, false, false⟩

/-! ## Power, boot and test (spec/18, spec/19) -/

/-- Where the boot engine stands (R517 to R520): done; reading QSPI copy 0 or 1; waiting for GO; with a staged image to
check; or in UART recovery with so many bytes staged. -/
inductive BootPhase where
  | done
  | qspi (copy : Nat)
  | wait
  | go
  | uart (got : Nat)
  deriving DecidableEq, Repr

/-- JTAG instructions (R538, R539). -/
inductive JtagIr where
  | extest | idcode | samplePreload | extestPulse | extestTrain | highz | clamp | fuseProg | fuseRead | bypass
  deriving DecidableEq, Repr

/-- Power and test state beside the PWR registers: whether device reset is held and whether the device is DORMANT; the
always-on copies of the MTC and the tick number (R511); fuse words as programmed and as in effect since power-on reset, by
word offset divided by 4 (R521, R539); the boot engine; the address at which the control core was last released (none while
it is held in reset); the JTAG instruction in force, whether the boundary cells own the balls until device reset (R538), bit
[63] of the next FUSE_READ, the value of each PWR_TEMP register that a read last accepted (R331), and the mask of the port
banks identified as 3.3 V at the last device reset (R503). Log 6, DESIGN CHOICE. -/
structure Pwr where
  held : Bool
  dormant : Bool
  aonMtc : BitVec 64
  aonTick : BitVec 64
  fuse : SMap Word
  fuseIn : SMap Word
  boot : BootPhase
  core : Option Nat
  ir : JtagIr
  owned : Bool
  fuseBad : Bool
  tempShown : SMap Word
  bank33 : Nat
  deriving DecidableEq, Repr

/-- After power-on reset and the end of device reset, with straps open (R528): the boot engine reads QSPI. -/
def Pwr.reset : Pwr := ⟨false, false, 0, 0, [], [], .qspi 0, none, .idcode, false, false, [], 0⟩

end Sys2Proof.Machine
end

