-- ==== Sys2Proof/Machine/State.lean ====
section
/-!
DEFINITION. The state of the device: the queue of waiting commands, the register store, the memories, what leaves
the device, and the state of each block that no register shows. Everything is plain data.
-/
namespace Sys2Proof.Machine

/-- Why the device stops. No meaning raises one: the spec gives every command an effect. -/
inductive Fault where
  /-- Raised by nobody; it stands so that the type has a value. Safe. -/
  | halted
  deriving DecidableEq, Repr

/-- Why a command is turned away. -/
inductive Refusal where
  /-- Raised by an arm of `exec` whose command has no meaning yet. Safe: nothing can be proved of it. -/
  | notModelled (mnemonic : String)
  deriving DecidableEq, Repr

/-- An interrupt waiting at the control core (R27, R292, R168, R62). -/
inductive CoreIrq where
  | fault
  | fcst
  | control (code : Nat) (tick : Nat)
  deriving DecidableEq, Repr

/-- The device. `regs` holds every software-visible register that differs from its reset value and that no other
field computes; `mem` the bytes of control, cluster data, cluster program and region memory that are not zero;
`latch` the latched higher words of wide registers (R13); `out` everything sent to the outside, newest last;
`freeCtr` is the model's own: the number of free values taken so far. -/
structure State where
  pending : List Instr
  regs : SMap Word
  mem : List Host.Cell
  latch : SMap Word
  out : List Out
  irq : List CoreIrq
  cl : SMap Cluster
  fc : Fcst
  xg : Xing
  tm : TimeUnit
  ft : Faults
  mx : Mtx
  pr : Pair
  hs : HostSt
  lv : Levee
  sp : SMap Sap
  ng : SMap Ngl
  fb : Fab
  et : SMap Eth
  br : Bridge
  ck : Clk
  pw : Pwr
  freeCtr : Nat
  deriving DecidableEq, Repr

/-- The device right after reset. -/
def State.reset : State :=
  { pending := [], regs := [], mem := [], latch := [], out := [], irq := [], cl := [], fc := Fcst.reset, xg := Xing.reset,
    tm := TimeUnit.reset, ft := Faults.reset, mx := Mtx.reset, pr := Pair.reset, hs := HostSt.reset,
    lv := Levee.reset, sp := [], ng := [], fb := Fab.reset, et := [], br := Bridge.reset, ck := Clk.reset, pw := Pwr.reset, freeCtr := 0 }

end Sys2Proof.Machine
end

