-- ==== Sys2Proof/Machine/Ops.lean ====
section
/-!
DEFINITION. The named operations over the register store, the memories and the fault path that every block uses.
-/
namespace Sys2Proof.Machine

/-! ## The register store -/

/-- The register at address `a`, with its indices (R9, R12). -/
def regSpecAt (a : Nat) : Option (RegSpec × List Nat) :=
  (blockRegs a).findSome? (fun r => (r.member a).map (fun ix => (r, ix)))

/-- What the register at `a` holds at device reset. -/
def resetWord (a : Nat) : Word :=
  match regSpecAt a with
  | some (r, ix) => BitVec.ofNat 32 (r.resetAt ix)
  | none => 0

/-- The stored value of the register at `a`. -/
def State.rd (s : State) (a : Nat) : Word := SMap.get resetWord s.regs a

/-- The register at `a` set to `v`. -/
def State.wr (s : State) (a : Nat) (v : Word) : State := { s with regs := SMap.set resetWord s.regs a v }

/-- The value of field `f`. -/
def State.g (s : State) (f : Fld) : Nat := bitsOf (s.rd f.reg) f.hi f.lo

/-- Field `f` set to `v`. -/
def State.p (s : State) (f : Fld) (v : Nat) : State := s.wr f.reg (putBits (s.rd f.reg) f.hi f.lo v)

/-- Whether field `f` is not zero. -/
def State.on (s : State) (f : Fld) : Bool := s.g f != 0

/-- Single-bit field `f` set to the truth value `b`. -/
def State.flag (s : State) (f : Fld) (b : Bool) : State := s.p f (if b then 1 else 0)

/-- Field `f` raised by `n`; it stays at all ones once reached. -/
def State.bump (s : State) (f : Fld) (n : Nat) : State := s.p f (min (s.g f + n) (2 ^ (f.hi + 1 - f.lo) - 1))

/-- The counter register at `a` raised by `n`; it stays at 0xFFFF_FFFF once reached. -/
def State.inc (s : State) (a : Nat) (n : Nat := 1) : State := s.bump ⟨a, 31, 0⟩ n

/-- A signed reading of field `f`. -/
def State.gi (s : State) (f : Fld) : Int := signed (f.hi + 1 - f.lo) (s.g f)

/-- The 64-bit value of two registers, low word first (R6). -/
def State.rd64 (s : State) (lo hi : Nat) : Nat := (s.rd lo).toNat + (s.rd hi).toNat * 2 ^ 32

/-- Two registers set to the 64-bit value `v`. -/
def State.wr64 (s : State) (lo hi : Nat) (v : Nat) : State :=
  (s.wr lo (BitVec.ofNat 32 v)).wr hi (BitVec.ofNat 32 (v / 2 ^ 32))

/-- The free-value number `s.freeCtr`, and the state in which the next one is due. Log 4, DESIGN CHOICE. -/
def State.nextFree (s : State) : State × Nat := ({ s with freeCtr := s.freeCtr + 1 }, s.freeCtr)

/-- Whether it leaves on a signal ball: answers to bus accesses stay inside or with the access, and TDO is no signal ball. Log 69, DESIGN CHOICE. -/
def Out.onBall : Out → Bool
  | .resp _ _ => false
  | .jtag _ => false
  | _ => true

/-- Something leaves the device, unless the boundary cells own the balls (R538). Log 69, DESIGN CHOICE. -/
def State.send (s : State) (o : Out) : State := if s.pw.owned && o.onBall then s else { s with out := s.out ++ [o] }

/-- A bus write is answered: in order, or with an error response. -/
def State.ok (s : State) : State := s.send (.resp false [])
def State.err (s : State) : State := s.send (.resp true [])

/-! ## Time -/

/-- The tick number as a natural number. -/
def State.tick (s : State) : Nat := s.tm.tick.toNat

/-- N, the sample periods of a tick (R33). -/
def State.nSamp (s : State) : Nat := 2 ^ s.g F.TICK_CFG_N_LOG2

/-- The base rate of code FS_SEL in Hz (R33). -/
def fsHz : Nat → Nat
  | 0 => 44100
  | 1 => 48000
  | 2 => 88200
  | 3 => 96000
  | 4 => 176400
  | _ => 192000

/-- The rate that TICK_CFG selects, in Hz. -/
def State.fs (s : State) : Nat := fsHz (s.g F.TICK_CFG_FS_SEL)

/-- Whether ticks run. -/
def State.running (s : State) : Bool := s.on F.TICK_STAT_RUNNING

/-- The core clock of code PWR_CLK [9:8], in units of 0.1 GHz (R506). -/
def State.coreClk (s : State) : Nat := 12 + min (s.g F.PWR_CLK_CUR) 2

/-! ## Fault messages (R279 to R283) -/

/-- Severity by kind (R285): 0 INFO, 1 MINOR, 2 MAJOR, 3 CRITICAL. -/
def severityOf (k : Nat) : Nat :=
  if k ∈ [0x01, 0x06, 0x07] then 0
  else if k ∈ [0x0F, 0x12, 0x14, 0x15, 0x2A] then 3
  else if k ∈ [0x02, 0x05, 0x09, 0x0B, 0x0C, 0x0D, 0x11, 0x13, 0x16, 0x19, 0x1A, 0x1B, 0x1E, 0x20, 0x22, 0x24,
    0x28, 0x2B, 0x2D, 0x32, 0x33] then 2
  else 1

/-- A source ID (R279): region, block, cell. -/
def srcId (region block cell : Nat) : Nat := region * 512 + block * 16 + cell

/-! Kind codes (R285). -/
namespace Kind
abbrev eccCorr : Nat := 0x01
abbrev eccUncorr : Nat := 0x02
abbrev decode : Nat := 0x03
abbrev lockAbort : Nat := 0x04
abbrev hungAccess : Nat := 0x05
abbrev cdcStale : Nat := 0x06
abbrev arith : Nat := 0x07
abbrev ofsRange : Nat := 0x08
abbrev illegalInsn : Nat := 0x09
abbrev shadowMismatch : Nat := 0x0A
abbrev laneFail : Nat := 0x0B
abbrev spareFail : Nat := 0x0C
abbrev reduceMismatch : Nat := 0x0D
abbrev tickOverrun : Nat := 0x0E
abbrev distLate : Nat := 0x0F
abbrev budgetOverrun : Nat := 0x10
abbrev thermSense : Nat := 0x11
abbrev thermTrip : Nat := 0x12
abbrev supplyWarn : Nat := 0x13
abbrev coreLockstep : Nat := 0x14
abbrev collParity : Nat := 0x15
abbrev sapClkLost : Nat := 0x16
abbrev slotSlip : Nat := 0x17
abbrev sapRate : Nat := 0x18
abbrev ampFault : Nat := 0x19
abbrev ampLocked : Nat := 0x1A
abbrev dcMute : Nat := 0x1B
abbrev telemLoss : Nat := 0x1C
abbrev sealRefused : Nat := 0x1D
abbrev leveeParity : Nat := 0x1E
abbrev linkCrc : Nat := 0x1F
abbrev linkDown : Nat := 0x20
abbrev flowLoss : Nat := 0x21
abbrev refLoss : Nat := 0x22
abbrev refDisagree : Nat := 0x23
abbrev holdoverLost : Nat := 0x24
abbrev ptpGmLoss : Nat := 0x25
abbrev ethLinkDown : Nat := 0x26
abbrev hostLinkDown : Nat := 0x27
abbrev pairTakeover : Nat := 0x28
abbrev pilotSwitch : Nat := 0x29
abbrev pairDark : Nat := 0x2A
abbrev pilotLost : Nat := 0x2B
abbrev pilotPath : Nat := 0x2C
abbrev tetherDown : Nat := 0x2D
abbrev consignLost : Nat := 0x2E
abbrev ferryAbandon : Nat := 0x2F
abbrev ckptStale : Nat := 0x30
abbrev replayMismatch : Nat := 0x31
abbrev standbySuspect : Nat := 0x32
abbrev pairCfgMismatch : Nat := 0x33
end Kind

/-! Source IDs (R281). -/
namespace Src
def cluster (c cell : Nat) : Nat := srcId (c / 4) (c % 4) cell
def slotDma (g : Nat) : Nat := srcId g 0x0E 0
def sapGroup (g n : Nat) : Nat := srcId 4 g (n % 4)
def levee (cell : Nat) : Nat := srcId 4 6 cell
def ngl (p : Nat) : Nat := srcId 5 p 0
def fabric : Nat := srcId 5 8 0
def eth (n cell : Nat) : Nat := srcId 5 (9 + n) cell
def bridge : Nat := srcId 5 0x0B 0
def time : Nat := srcId 5 0x0C 0
def pair (cell : Nat) : Nat := srcId 5 0x0D cell
def core : Nat := srcId 6 0 0
def host : Nat := srcId 6 1 0
def forecast : Nat := srcId 6 2 0
def xing : Nat := srcId 6 3 0
def clock (cell : Nat) : Nat := srcId 6 4 cell
def power (cell : Nat) : Nat := srcId 6 5 cell
def chip : Nat := srcId 6 6 0
def crossbar (g : Nat) : Nat := srcId g 0x1E 0
def collector (g : Nat) : Nat := srcId g 0x1F 0
def matrix (g : Nat) : Nat := srcId 7 0 g
def pbus : Nat := srcId 7 1 0
end Src

/-- The waiting messages with `m` added: merged into a waiting message of the same block and kind (R283). -/
def addMsg : List FMsg → FMsg → List FMsg
  | [], m => [m]
  | x :: xs, m =>
    if x.kind = m.kind ∧ x.src / 16 = m.src / 16 then { x with count := min (x.count + m.count) 255 } :: xs
    else x :: addMsg xs m

/-- A block sends a message of `kind` from `src` (R283). -/
def State.emit (s : State) (kind src : Nat) (addr : Nat := 0) (count : Nat := 1) : State :=
  { s with ft := { s.ft with blocks := addMsg s.ft.blocks ⟨addr % 2 ^ 32, min count 255, kind, src⟩ } }

/-! ## Memories (R21, R309 to R319) -/

/-- The four memories of the block address map. -/
inductive MemKind where
  | ctl
  | data (c : Nat)
  | prog (c : Nat)
  | region (g : Nat)
  deriving DecidableEq, Repr

/-- The memory that holds byte address `a`, and the offset in it (R21). -/
def memOf (a : Nat) : Option (MemKind × Nat) :=
  if a < 0x100000 then some (.ctl, a)
  else if 0x01000000 ≤ a ∧ a < 0x02000000 then
    let c := (a - 0x01000000) / 0x100000
    let o := (a - 0x01000000) % 0x100000
    if o < 0x40000 then some (.data c, o)
    else if 0x80000 ≤ o ∧ o < 0x90000 then some (.prog c, o - 0x80000)
    else none
  else if 0x02000000 ≤ a ∧ a < 0x02800000 then some (.region ((a - 0x02000000) / 0x200000), (a - 0x02000000) % 0x200000)
  else none

/-- The bank number of offset `x` of a memory (R309). -/
def bankOf : MemKind → Nat → Nat
  | .data c, x => 16 * c + x / 4 % 16
  | .prog c, _ => 256 + c
  | .region g, x => 272 + 32 * g + x / 8 % 32
  | .ctl, x => 400 + x / 8 % 16

/-- The source ID under which a memory reports offset `x` (R281). -/
def memSource : MemKind → Nat → Nat
  | .data c, x => srcId (c / 4) (4 + c % 4) (x / 4 % 16)
  | .prog c, _ => srcId (c / 4) (8 + c % 4) 0
  | .region g, x => let b := x / 8 % 32; srcId g (if b < 16 then 0x0C else 0x0D) (b % 16)
  | .ctl, x => srcId 6 8 (x / 8 % 16)

/-- What an unlisted byte of memory reads as: zero, as R133, R176 and R515 leave it. Log 8, DEDUCED. -/
def memDefault (_ : Nat) : Byte := 0

/-- The byte at `a`. Log 8, DEDUCED. -/
def State.byte (s : State) (a : Nat) : Byte := SMap.get memDefault s.mem a

/-- The byte at `a` set to `v`. -/
def State.setByte (s : State) (a : Nat) (v : Byte) : State := { s with mem := SMap.set memDefault s.mem a v }

/-- The content of the 32-bit word at `a`, least significant byte first (R6). -/
def State.word (s : State) (a : Nat) : Word :=
  s.byte (a + 3) ++ s.byte (a + 2) ++ s.byte (a + 1) ++ s.byte a

/-- The 32-bit word at `a` set to `v`. -/
def State.setWord (s : State) (a : Nat) (v : Word) : State :=
  (((s.setByte a (v.extractLsb' 0 8)).setByte (a + 1) (v.extractLsb' 8 8)).setByte (a + 2) (v.extractLsb' 16 8)).setByte
    (a + 3) (v.extractLsb' 24 8)

/-- Values of Boolean and numeric sparse maps that are unlisted. -/
def noneB (_ : Nat) : Bool := false
def zeroN (_ : Nat) : Nat := 0
def zeroW (_ : Nat) : Word := 0

/-- The error mark of the word at `a`: 0 none, 1 one bit, 2 two bits. -/
def State.eccAt (s : State) (a : Nat) : Nat := SMap.get zeroN s.mx.ecc a

def State.setEcc (s : State) (a n : Nat) : State := { s with mx := { s.mx with ecc := SMap.set zeroN s.mx.ecc a n } }

/-- Whether bank `b` is in retention. -/
def State.inRet (s : State) (b : Nat) : Bool := SMap.get noneB s.mx.ret b

/-- An access to bank `b`: a bank in retention begins its wake (R319). -/
def State.touchBank (s : State) (b : Nat) : State :=
  if s.inRet b then
    ({ s with mx := { s.mx with ret := SMap.set noneB s.mx.ret b false
                                waking := SMap.set noneB s.mx.waking b true } }).inc R.MEM_WAKE_CNT
  else s

/-- The memory at `a` reports a corrected word (R312). -/
def State.eccCorr (s : State) (a : Nat) : State :=
  match memOf a with
  | some (k, x) => (s.inc R.MEM_ECC_CORR_CNT).emit Kind.eccCorr (memSource k x) a
  | none => s

/-- The memory at `a` reports an uncorrectable word (R312). -/
def State.eccUncorr (s : State) (a : Nat) : State :=
  match memOf a with
  | some (k, x) =>
    ((s.inc R.MEM_ECC_UNCORR_CNT).wr R.MEM_ECC_LAST (BitVec.ofNat 32 a)).emit Kind.eccUncorr (memSource k x) a
  | none => s

/-- A read of the 32-bit word at `a` with its check (R312): the state after it, the word with an uncorrectable one
replaced by zero, and whether it was uncorrectable. `a` is the address of a word of a memory. -/
def State.readW (s : State) (a : Nat) : State × Word × Bool :=
  match memOf a with
  | none => (s, 0, false)
  | some (k, x) =>
    let s1 := s.touchBank (bankOf k x)
    match s1.eccAt a with
    | 0 => (s1, s1.word a, false)
    | 1 =>
      let s2 := s1.eccCorr a
      ({ s2 with mx := { s2.mx with wb := if a ∈ s2.mx.wb then s2.mx.wb else s2.mx.wb ++ [a] } }, s1.word a, false)
    | _ => (s1.eccUncorr a, 0, true)

/-- The check bits a write to the word at `a` leaves: an armed injection spoils them (R315). -/
def State.markWrite (s : State) (a : Nat) : State :=
  if s.on F.MEM_INJ_CTL_ARMED ∧ s.g F.MEM_INJ_ADDR_ADDR * 4 = a then
    (s.setEcc a s.mx.injMode).flag F.MEM_INJ_CTL_ARMED false
  else s.setEcc a 0

/-- A write of the whole 32-bit word at `a` (R311, R313): a waiting write-back of the word is cancelled. -/
def State.writeW (s : State) (a : Nat) (v : Word) : State :=
  match memOf a with
  | none => s
  | some (k, x) =>
    let s1 := (s.touchBank (bankOf k x)).setWord a v
    ({ s1 with mx := { s1.mx with wb := s1.mx.wb.filter (· != a) } }).markWrite a

/-- The default target's record of an access to address `a` (R327): reported by `src`. -/
def State.decodeError (s : State) (src a : Nat) : State :=
  ((((s.flag F.MTX_STAT_DECODE true).wr R.MTX_DECODE_LAST (BitVec.ofNat 32 a)).inc R.MTX_DECODE_CNT)).emit Kind.decode src a

/-- A write of `n` bytes (1 or 2) of `v` at `a`, merged into its 32-bit word (R310, R312): whether it was done. -/
def State.writeN (s : State) (a n : Nat) (v : Word) : State × Bool :=
  let w := a - a % 4
  let (s1, old, bad) := s.readW w
  if bad then (s1, false)
  else
    let sh := 8 * (a % 4)
    (s1.writeW w (putBits old (sh + 8 * n - 1) sh v.toNat), true)

/-! ## Roles -/

/-- Role codes of PAIR_STAT.ROLE (R246). -/
def State.role (s : State) : Nat := s.g F.PAIR_STAT_ROLE

/-- Whether the pair unit holds the device as standby: STANDBY, or TAKING until the 0.80T mark of its last catch-up tick
(R265). -/
def State.standby (s : State) : Bool :=
  s.role == 3 || (s.role == 4 && !(match s.pr.take with | some t => t.complete | none => false))

/-- Whether region `r` is in its region safe state (R301). -/
def State.regionSafe (s : State) (r : Nat) : Bool := (s.g F.CHIP_STATE_REGION_SAFE).testBit r

def State.chipSafe (s : State) : Bool := s.on F.CHIP_STATE_CHIP_SAFE

/-! ## Clusters -/

def clusterDefault (_ : Nat) : Cluster := Cluster.reset

/-- Cluster `c`. -/
def State.clu (s : State) (c : Nat) : Cluster := SMap.get clusterDefault s.cl c

def State.setClu (s : State) (c : Nat) (k : Cluster) : State := { s with cl := SMap.set clusterDefault s.cl c k }

/-- The physical lane that carries logical lane `j` of cluster `c` (spec/03, logical lanes and the spare). -/
def State.physOf (s : State) (c j : Nat) : Nat :=
  if s.on (F.LANE_MAP_RETIRED c) ∧ s.g (F.LANE_MAP_RETIRED_LANE c) = j then 16 else j

/-- The lane that LANE_S shadows in this tick (R79). -/
def State.checkedLane (s : State) (c : Nat) : Option Nat :=
  match s.g (F.SHADOW_STAT_STATE c) with
  | 0 => some (s.g (F.SHADOW_STAT_PTR c))
  | 1 => some (s.g (F.SHADOW_STAT_L c))
  | 2 => some ((s.g (F.SHADOW_STAT_L c) + 1) % 16)
  | _ => none

/-- `n` operations of activity class `k` issued by cluster `c` for its task (R153). -/
def State.countAct (s : State) (c k n : Nat) : State :=
  let t := s.g (F.CL_TASK_TASK c)
  let s1 := s.inc (R.FCST_ACT c k) n
  { s1 with fc := { s1.fc with
      acts := SMap.set zeroN s1.fc.acts (16 * t + k) (SMap.get zeroN s1.fc.acts (16 * t + k) + n)
      actTick := SMap.set zeroN s1.fc.actTick k (SMap.get zeroN s1.fc.actTick k + n) } }

/-- Whether byte address `a` lies in a tracked area in force (R255). -/
def State.tracked (s : State) (a : Nat) : Bool :=
  s.pr.areas.any (fun e => decide (e.2.1 ≤ a ∧ a < e.2.1 + 64 * e.2.2))

/-- A task store to the word at byte address `a`: its line is marked dirty where it is tracked (R256). -/
def State.taskStore (s : State) (a : Nat) (v : Word) : State :=
  let s1 := s.writeW a v
  if s1.tracked a then { s1 with pr := { s1.pr with dirty := SMap.set noneB s1.pr.dirty (a / 64) true } } else s1

end Sys2Proof.Machine
end

