-- ==== Sys2Proof/Machine/Events.lean ====
section
/-!
DEFINITION. What the device sends to others, shared by all blocks: the CRC-32 (R385), fabric messages and their
route (R401, R402), writes to host memory (R412, R498), MSI-X (R496) and host events (R494).
-/
namespace Sys2Proof.Machine

/-! ## CRC-32 -/

/-- One bit of the reflected CRC (R385). -/
def crcBit (c : Word) : Word := if c.getLsbD 0 then (c >>> 1) ^^^ 0xEDB88320#32 else c >>> 1

def crcByte (c : Word) (b : Byte) : Word :=
  crcBit (crcBit (crcBit (crcBit (crcBit (crcBit (crcBit (crcBit (c ^^^ b.setWidth 32))))))))

/-- The running CRC over one 32-bit word, least significant byte first. -/
def crcWord (c w : Word) : Word :=
  crcByte (crcByte (crcByte (crcByte c (w.extractLsb' 0 8)) (w.extractLsb' 8 8)) (w.extractLsb' 16 8)) (w.extractLsb' 24 8)

/-- The CRC-32 of a list of words (R385). -/
def crc32 (ws : List Word) : Word := ~~~(ws.foldl crcWord 0xFFFFFFFF#32)

/-! ## Identity and routes -/

/-- Whether the device is the manager of its fabric (R24). -/
def State.manager (s : State) : Bool := s.on F.CHIP_STRAP_ROLE

/-- The device's own ID. -/
def State.myId (s : State) : Nat := s.g F.FAB_ID_ID

/-- Whether NGL_p is ACTIVE. -/
def State.portActive (s : State) (p : Nat) : Bool := s.g (F.NGL_STAT_STATE p) == 6

/-- The port that leads to device `d` by the route table (R402). -/
def State.routeTo (s : State) (d : Nat) : Option Nat :=
  if s.on (F.FAB_ROUTE_PRI_EN d) && s.portActive (s.g (F.FAB_ROUTE_PRI d)) then some (s.g (F.FAB_ROUTE_PRI d))
  else if s.on (F.FAB_ROUTE_ALT_EN d) && s.portActive (s.g (F.FAB_ROUTE_ALT d)) then some (s.g (F.FAB_ROUTE_ALT d))
  else none

/-- The class of a message type (R401): 0 EXPRESS, 1 CTRL, 2 BULK. -/
def msgClass (t : Nat) : Nat := if t = 5 then 2 else if 6 ≤ t ∧ t ≤ 9 then 1 else 0

/-- The fragments of a message with payload `ws` (R401): envelope, payload and CRC, 64 data blocks each. -/
def fragsOf (ws : List Word) : Nat := ((ws.length + 4) / 2 + 63) / 64

def nglDefault (_ : Nat) : Ngl := Ngl.reset
def State.ngl (s : State) (p : Nat) : Ngl := SMap.get nglDefault s.ng p
def State.setNgl (s : State) (p : Nat) (k : Ngl) : State := { s with ng := SMap.set nglDefault s.ng p k }

/-- The credits this device holds for class `c` on port `p` (R403). -/
def credField (p c : Nat) : Fld := if c = 1 then F.FAB_PORT_CRED_CTRL p else F.FAB_PORT_CRED_BULK p

/-- Fragments of class `c` that came in on a port have left its buffer: their credits go back (R403). -/
def State.creditBack (s : State) (held : Option Nat) (c n : Nat) : State :=
  match held with
  | some q => if c = 0 ∨ n = 0 then s else s.send (.credit q c n)
  | none => s

/-- Messages of class `c` that wait on port `p` leave as credit allows, in order. -/
def State.pumpQueue (s : State) (p c : Nat) : List TxMsg → State × List TxMsg
  | [] => (s, [])
  | m :: ms =>
    let n := if c = 0 then m.frags else min m.frags (s.g (credField p c))
    let s := if c = 0 then s else s.p (credField p c) (s.g (credField p c) - n)
    let s := s.creditBack m.held c n
    if n = m.frags then (s.send (.msg p m.env m.ws)).pumpQueue p c ms else (s, { m with frags := m.frags - n } :: ms)

def noMsgs (_ : Nat) : List TxMsg := []

/-- The queue of class `c` on port `p` moves, unless the port has stopped its traffic (R377). -/
def State.pump (s : State) (p c : Nat) : State :=
  if (s.ngl p).quiet then s
  else
    let r := s.pumpQueue p c (SMap.get noMsgs s.fb.txq (3 * p + c))
    { r.1 with fb := { r.1.fb with txq := SMap.set noMsgs r.1.fb.txq (3 * p + c) r.2 } }

/-- A message for port `p`: it leaves in its class (R386, R403). A port that is not ACTIVE carries none. -/
def State.sendPort (s : State) (p : Nat) (e : Env) (ws : List Word) (held : Option Nat := none) : State :=
  if e.type = 10 then s.send (.msg p e ws)
  else if !s.portActive p then s
  else
    let c := msgClass e.type
    let k := 3 * p + c
    let q := SMap.get noMsgs s.fb.txq k ++ [⟨e, ws, fragsOf ws, held⟩]
    ({ s with fb := { s.fb with txq := SMap.set noMsgs s.fb.txq k q } }).pump p c

/-- An envelope from this device. -/
def State.envTo (s : State) (d t : Nat) : Env :=
  { dst := d, src := s.myId, type := t, epoch := 0, tag := 0, resp := false, tunnel := false, hops := 15 }

/-- A message of this device to another by the route table; one without a route is counted (R384, R402). -/
def State.sendMsg (s : State) (e : Env) (ws : List Word) : State :=
  if s.on F.FAB_ID_VALID then
    match s.routeTo e.dst with
    | some p => s.sendPort p e ws
    | none => s.inc R.FAB_MSG_NOROUTE
  else s.inc R.FAB_MSG_NOROUTE

/-! ## Receiving (R384, R402, R403) -/

/-- Whether the 32 places of port `p` for received express messages are full (R403): each holds one that waits to be forwarded. -/
def State.expressFull (s : State) (p : Nat) : Bool :=
  decide (32 ≤ ((List.range 8).map (fun q => (SMap.get noMsgs s.fb.txq (3 * q)).countP (fun m => m.held == some p))).sum)

/-- A message that is not for this device goes on by the route table (R402). In LINK region safe state the router
forwards nothing (R301). -/
def State.forwardMsg (s : State) (p : Nat) (e : Env) (ws : List Word) : State :=
  let back := fun (s : State) => s.creditBack (some p) (msgClass e.type) (fragsOf ws)
  if s.regionSafe 5 then back s
  else if e.hops = 0 then back (s.inc R.FAB_MSG_TTL)
  else
    match s.routeTo e.dst with
    | some q => s.sendPort q { e with hops := e.hops - 1 } ws (some p)
    | none => back (s.inc R.FAB_MSG_NOROUTE)

/-- A good message of type `t` comes in on port `p`: `deliver` where it is for this device, else it goes on. A port that
is not ACTIVE receives none. -/
def State.received (s : State) (p : Nat) (e : Env) (t : Nat) (ws : List Word) (deliver : State → State) : State :=
  let e := { e with type := t }
  if !s.portActive p then s
  else if msgClass t = 0 ∧ s.expressFull p then s.inc R.FAB_EXP_DROP
  else if !s.on F.FAB_ID_VALID then (s.inc R.FAB_MSG_NOROUTE).creditBack (some p) (msgClass t) (fragsOf ws)
  else if e.dst = s.myId then (deliver s).creditBack (some p) (msgClass t) (fragsOf ws)
  else s.forwardMsg p e ws

/-! ## Host memory and MSI-X -/

/-- The four bytes of a word, least significant first (R6). -/
def wordBytes (w : Word) : List Byte :=
  [w.extractLsb' 0 8, w.extractLsb' 8 8, w.extractLsb' 16 8, w.extractLsb' 24 8]

/-- A request of this device that no descriptor and no access of the control core makes: its tag is 0xFFF. -/
def State.ownReq (s : State) (d t : Nat) : Env := { s.envTo d t with tag := 0xFFF }

/-- The words of `ws`, at most `n` at a time. -/
def chunksOf (n : Nat) (ws : List Word) : List (List Word) :=
  (List.range ((ws.length + n - 1) / max 1 n)).map (fun i => (ws.drop (n * i)).take n)

/-- A write to host memory: by the manager's own link, or by a worker through the tunnel under the tag of `e`, at most 1,021
words at a time (R412, R498). -/
def State.hostWriteAs (s : State) (e : Env) (addr : Nat) (ws : List Word) : State :=
  if s.manager then
    if s.on F.HOST_STAT_LINK_UP then s.send (.host addr (ws.flatMap wordBytes)) else s
  else
    ((chunksOf 1021 ws).zipIdx).foldl (fun s c =>
      let a := addr + 4 * 1021 * c.2
      s.sendMsg { e with tunnel := true }
        (BitVec.ofNat 32 a :: BitVec.ofNat 32 (a / 2 ^ 32) :: BitVec.ofNat 32 c.1.length :: c.1)) s

def State.hostWrite (s : State) (addr : Nat) (ws : List Word) : State := s.hostWriteAs (s.ownReq 0 7) addr ws

/-- What an unlisted word of the MSI-X table reads as: entries masked, as PCI Express has them after reset. Log 55, PRESUMED. -/
def msixReset (k : Nat) : Word := if k % 4 = 3 then 1 else 0

/-- The manager sends the message of vector `v`, or holds it pending while the vector is masked (R496). -/
def State.msixSend (s : State) (v : Nat) : State :=
  if (SMap.get msixReset s.hs.msix (4 * v + 3)).getLsbD 0 then
    { s with hs := { s.hs with pba := SMap.set noneB s.hs.pba v true } }
  else s.send (.msix v)

/-- A request for an MSI-X message on vector `v` of this device (R496, R497). Log 55, PRESUMED. -/
def State.msix (s : State) (v : Nat) : State :=
  if s.manager then
    if s.hs.d3 then { s with hs := { s.hs with pba := SMap.set noneB s.hs.pba v true } }
    else if SMap.get noneB s.hs.hold v then { s with hs := { s.hs with merged := SMap.set noneB s.hs.merged v true } }
    else
      let s := s.msixSend v
      if s.g F.HOST_MSIX_HOLD_US = 0 then s
      else { s with hs := { s.hs with hold := SMap.set noneB s.hs.hold v true } }
  else
    s.sendMsg (s.ownReq 0 7) [BitVec.ofNat 32 R.HOST_MSIX_TRIG, 1, BitVec.ofNat 32 v]

/-! ## Host events -/

/-- Event types (R494). -/
def evFault : Nat := 1
def evState : Nat := 2
def evControl : Nat := 3
def evLink : Nat := 4

/-- Whether the event ring can take an entry: enabled, not full, and on the manager the link up (R484, R494). -/
def State.eqRoom (s : State) : Bool :=
  let n := s.g F.HOST_EQ_CFG_SIZE
  s.on F.HOST_EQ_CFG_EN && (!s.manager || s.on F.HOST_STAT_LINK_UP) &&
    decide (n ≠ 0 ∧ (s.g F.HOST_EQ_TAIL_TAIL + 1) % n ≠ s.g F.HOST_EQ_HEAD_HEAD)

/-- An event of `type` from device `src` with words 3 to 6 `ws` is written to the event ring, or counted as lost
(R494). -/
def State.event (s : State) (type src : Nat) (ws : List Word) : State :=
  if s.eqRoom then
    let t := s.g F.HOST_EQ_TAIL_TAIL
    let n := s.g F.HOST_EQ_CFG_SIZE
    let ph := s.g F.HOST_EQ_TAIL_PHASE
    let w0 := BitVec.ofNat 32 (ph * 2 ^ 31 + min s.hs.lost 127 * 2 ^ 24 + type * 2 ^ 16 + src)
    let ws := (ws ++ [0, 0, 0, 0]).take 4
    let a := s.rd64 R.HOST_EQ_BASE_LO R.HOST_EQ_BASE_HI + 32 * t
    let s := s.hostWrite a ([w0, s.tm.tick.setWidth 32, (s.tm.tick >>> 32).setWidth 32] ++ ws ++ [0])
    let s := (s.p F.HOST_EQ_TAIL_TAIL ((t + 1) % n)).p F.HOST_EQ_TAIL_PHASE (if t + 1 = n then 1 - ph else ph)
    ({ s with hs := { s.hs with lost := 0 } }).msix (s.g F.HOST_EQ_CFG_VEC)
  else
    let s := (s.inc R.HOST_EQ_LOST).flag F.HOST_STAT_EQ_LOST true
    { s with hs := { s.hs with lost := s.hs.lost + 1 } }

end Sys2Proof.Machine
end

