-- ==== Sys2Proof/WellFormed.lean ====
section
/-!
DEFINITION. The rules of R131 that the types of Words.lean do not already keep: which instruction words are defined.
A command that issues a word is well formed when its word is.
-/
namespace Sys2Proof

/-- Indices 0x0D to 0x0F and 0x18 to 0x1F of the sequencer values are reserved (R137). -/
def seqValueDefined (v : Nat) : Bool := decide (v ≤ 0x0C ∨ (0x10 ≤ v ∧ v ≤ 0x17))

/-- A compute operation without a reserved sequencer value (R131, 6). -/
def COp.wf : COp → Bool
  | .rds _ v => seqValueDefined v
  | _ => true

/-- A compute slot. -/
def CSlot.wf : CSlot → Bool
  | .nop => true
  | .op _ o => o.wf

/-- The immediate bits of a SETA sub-field that must be zero (R123). -/
def SetaSub.wf (x : SetaSub) : Bool :=
  match x.val with
  | .reg _ => true
  | .imm v =>
    match x.kind with
    | .m => decide (v.val < 65536)
    | .bnd => decide (v.val < 8)
    | _ => true

def optWf : Option SetaSub → Bool
  | none => true
  | some x => x.wf

/-- An instruction word that is no undefined encoding by rules 1 to 6 of R131. -/
def IWord.wf : IWord → Bool
  | .slots c _ _ => c.wf
  | .seta x y => optWf x && optWf y
  | _ => true

end Sys2Proof
end

