-- ==== Sys2Proof/Machine/Encoding.lean ====
section
/-!
DEFINITION. The bits of an instruction word (R112 to R125): `encodeWord` lays a word out, and `decodeWord` reads 64 bits, as
program memory holds them, as the word they encode, or as none where R131 calls them undefined.
-/
namespace Sys2Proof.Machine

/-- Bits `hi` to `lo` of `n`. -/
def nbits (n hi lo : Nat) : Nat := n / 2 ^ lo % 2 ^ (hi + 1 - lo)

/-! ## Conditions and conversions (R113, R117) -/

def encodeCond : Cond → Nat
  | .always => 0
  | .pf p => 8 + p
  | .notPf p => 12 + p

def decodeCond (n : Nat) : Option Cond :=
  if n = 0 then some .always
  else if n < 8 then none
  else if n < 12 then some (.pf (Fin.ofNat 4 n))
  else if n < 16 then some (.notPf (Fin.ofNat 4 n))
  else none

def encodeRMode : RMode → Nat
  | .trn => 0
  | .rhu => 1
  | .cnv => 2

def decodeRMode : Nat → Option RMode
  | 0 => some .trn
  | 1 => some .rhu
  | 2 => some .cnv
  | _ => none

def encodeCWidth : CWidth → Nat
  | .w32 => 0
  | .w24 => 1
  | .w16 => 2

def decodeCWidth : Nat → Option CWidth
  | 0 => some .w32
  | 1 => some .w24
  | 2 => some .w16
  | _ => none

/-- SHR and SH in bits [5:0]. -/
def encodeSh : ShSrc → Nat
  | .imm s => s
  | .reg n => 32 + n

def decodeSh (n : Nat) : ShSrc := if n < 32 then .imm (Fin.ofNat 32 n) else .reg (Fin.ofNat 16 n)

/-- SHR [9], SH [8:4], RM [3:2] and W [1:0]. -/
def encodeConv (k : Conv) : Nat := encodeSh k.sh * 16 + encodeRMode k.rm * 4 + encodeCWidth k.w

def decodeConv (n : Nat) : Option Conv :=
  match decodeRMode (nbits n 3 2), decodeCWidth (nbits n 1 0) with
  | some rm, some w => some ⟨decodeSh (nbits n 9 4), rm, w⟩
  | _, _ => none

/-! ## The compute slot (R115, R116) -/

def accCode : AccOp → Nat
  | .mpy => 0x01 | .mac => 0x02 | .msu => 0x03 | .mpyD => 0x04 | .macD => 0x05 | .msuD => 0x06

def alu2Code : Alu2 → Nat
  | .add => 0x11 | .sub => 0x12 | .adds => 0x13 | .subs => 0x14 | .min => 0x17 | .max => 0x18 | .and => 0x19 | .or => 0x1A
  | .xor => 0x1B | .asr => 0x1C | .lsr => 0x1D | .lsls => 0x1E | .mulr => 0x1F | .addsD => 0x20 | .subsD => 0x21
  | .mulrD => 0x22 | .pack => 0x25

def alu1Code : Alu1 → Nat
  | .mov => 0x10 | .neg => 0x15 | .abs => 0x16 | .cvt31 => 0x23 | .cvt23 => 0x24 | .unpk0 => 0x26 | .unpk1 => 0x27

def aluiCode : AluI → Nat
  | .asrI => 0x29 | .lsrI => 0x2A | .lslsI => 0x2B

def cmpCode : CmpOp → Nat
  | .eq => 0x30 | .ne => 0x31 | .lt => 0x32 | .le => 0x33

def predCode : PredOp → Nat
  | .and => 0x37 | .or => 0x38 | .xor => 0x39

/-- OP, and the operand bits [15:0]. -/
def encodeCOp : COp → Nat × Nat
  | .acc op i a b => (accCode op, i * 2 ^ 14 + a * 2 ^ 10 + b * 2 ^ 6)
  | .ald i a => (0x07, i * 2 ^ 14 + a * 2 ^ 10)
  | .aadd i m => (0x08, i * 2 ^ 14 + m * 2 ^ 12)
  | .asub i m => (0x09, i * 2 ^ 14 + m * 2 ^ 12)
  | .aclr i => (0x0A, i * 2 ^ 14)
  | .exta d i k => (0x0B, d * 2 ^ 12 + i * 2 ^ 10 + encodeConv k)
  | .rsum i m => (0x0C, i * 2 ^ 14 + m * 2 ^ 12)
  | .bcast d a => (0x0D, d * 2 ^ 12 + a * 2 ^ 8)
  | .alu2 op d a b => (alu2Code op, d * 2 ^ 12 + a * 2 ^ 8 + b * 2 ^ 4)
  | .alu1 op d a => (alu1Code op, d * 2 ^ 12 + a * 2 ^ 8)
  | .alui op d a s => (aluiCode op, d * 2 ^ 12 + a * 2 ^ 8 + s * 2 ^ 3)
  | .lid d => (0x28, d * 2 ^ 12)
  | .rds d v => (0x2C, d * 2 ^ 12 + v)
  | .ofsw i n => (0x2D, i * 2 ^ 13 + n * 2 ^ 8)
  | .cmp op p a b => (cmpCode op, p * 2 ^ 14 + a * 2 ^ 8 + b * 2 ^ 4)
  | .cmpaLt p i => (0x34, p * 2 ^ 14 + i * 2 ^ 12)
  | .cmpaEq p i => (0x35, p * 2 ^ 14 + i * 2 ^ 12)
  | .pset p v => (0x36, p * 2 ^ 14 + (if v then 1 else 0))
  | .plog op p q r => (predCode op, p * 2 ^ 14 + q * 2 ^ 12 + r * 2 ^ 10)
  | .pnot p q => (0x3A, p * 2 ^ 14 + q * 2 ^ 12)

/-- The fields that the formats of R115 place in bits [15:0]. -/
def fd (n : Nat) : Fin 16 := Fin.ofNat 16 (nbits n 15 12)
def fa (n : Nat) : Fin 16 := Fin.ofNat 16 (nbits n 11 8)
def fb (n : Nat) : Fin 16 := Fin.ofNat 16 (nbits n 7 4)
def fi (n : Nat) : Fin 4 := Fin.ofNat 4 (nbits n 15 14)
def fm (n : Nat) : Fin 4 := Fin.ofNat 4 (nbits n 13 12)
def fr (n : Nat) : Fin 4 := Fin.ofNat 4 (nbits n 11 10)

def dAcc (op : AccOp) (n : Nat) : Option COp :=
  some (.acc op (fi n) (Fin.ofNat 16 (nbits n 13 10)) (Fin.ofNat 16 (nbits n 9 6)))
def dAlu2 (op : Alu2) (n : Nat) : Option COp := some (.alu2 op (fd n) (fa n) (fb n))
def dAlu1 (op : Alu1) (n : Nat) : Option COp := some (.alu1 op (fd n) (fa n))
def dAluI (op : AluI) (n : Nat) : Option COp := some (.alui op (fd n) (fa n) (Fin.ofNat 32 (nbits n 7 3)))
def dCmp (op : CmpOp) (n : Nat) : Option COp := some (.cmp op (fi n) (fa n) (fb n))
def dPred (op : PredOp) (n : Nat) : Option COp := some (.plog op (fi n) (fm n) (fr n))

/-- The operation with code `op` and operand bits `n`. -/
def decodeCOp (op n : Nat) : Option COp :=
  match op with
  | 0x01 => dAcc .mpy n
  | 0x02 => dAcc .mac n
  | 0x03 => dAcc .msu n
  | 0x04 => dAcc .mpyD n
  | 0x05 => dAcc .macD n
  | 0x06 => dAcc .msuD n
  | 0x07 => some (.ald (fi n) (Fin.ofNat 16 (nbits n 13 10)))
  | 0x08 => some (.aadd (fi n) (fm n))
  | 0x09 => some (.asub (fi n) (fm n))
  | 0x0A => some (.aclr (fi n))
  | 0x0B => (decodeConv (nbits n 9 0)).map (fun k => .exta (fd n) (fr n) k)
  | 0x0C => some (.rsum (fi n) (fm n))
  | 0x0D => some (.bcast (fd n) (fa n))
  | 0x10 => dAlu1 .mov n
  | 0x11 => dAlu2 .add n
  | 0x12 => dAlu2 .sub n
  | 0x13 => dAlu2 .adds n
  | 0x14 => dAlu2 .subs n
  | 0x15 => dAlu1 .neg n
  | 0x16 => dAlu1 .abs n
  | 0x17 => dAlu2 .min n
  | 0x18 => dAlu2 .max n
  | 0x19 => dAlu2 .and n
  | 0x1A => dAlu2 .or n
  | 0x1B => dAlu2 .xor n
  | 0x1C => dAlu2 .asr n
  | 0x1D => dAlu2 .lsr n
  | 0x1E => dAlu2 .lsls n
  | 0x1F => dAlu2 .mulr n
  | 0x20 => dAlu2 .addsD n
  | 0x21 => dAlu2 .subsD n
  | 0x22 => dAlu2 .mulrD n
  | 0x23 => dAlu1 .cvt31 n
  | 0x24 => dAlu1 .cvt23 n
  | 0x25 => dAlu2 .pack n
  | 0x26 => dAlu1 .unpk0 n
  | 0x27 => dAlu1 .unpk1 n
  | 0x28 => some (.lid (fd n))
  | 0x29 => dAluI .asrI n
  | 0x2A => dAluI .lsrI n
  | 0x2B => dAluI .lslsI n
  | 0x2C => some (.rds (fd n) (Fin.ofNat 32 (nbits n 4 0)))
  | 0x2D => some (.ofsw (Fin.ofNat 8 (nbits n 15 13)) (fa n))
  | 0x30 => dCmp .eq n
  | 0x31 => dCmp .ne n
  | 0x32 => dCmp .lt n
  | 0x33 => dCmp .le n
  | 0x34 => some (.cmpaLt (fi n) (fm n))
  | 0x35 => some (.cmpaEq (fi n) (fm n))
  | 0x36 => some (.pset (fi n) (nbits n 0 0 == 1))
  | 0x37 => dPred .and n
  | 0x38 => dPred .or n
  | 0x39 => dPred .xor n
  | 0x3A => some (.pnot (fi n) (fm n))
  | _ => none

def encodeC : CSlot → Nat
  | .nop => 0
  | .op q o => (encodeCOp o).1 * 2 ^ 20 + encodeCond q * 2 ^ 16 + (encodeCOp o).2

def decodeC (n : Nat) : Option CSlot :=
  if n = 0 then some .nop
  else
    match decodeCond (nbits n 19 16), decodeCOp (nbits n 25 20) (nbits n 15 0) with
    | some q, some o => some (.op q o)
    | _, _ => none

/-! ## The memory slots (R118, R119) -/

def bit (b : Bool) : Nat := if b then 1 else 0

def encodeM0 : M0Slot → Nat
  | .nop => 0
  | .ld q i pm n => 1 * 2 ^ 12 + encodeCond q * 2 ^ 8 + i * 2 ^ 5 + bit pm * 2 ^ 4 + n
  | .ldi w q i pm n => (match w with | .w32 => 2 | .w24 => 3) * 2 ^ 12 + encodeCond q * 2 ^ 8 + i * 2 ^ 5 + bit pm * 2 ^ 4 + n

def decodeM0 (n : Nat) : Option M0Slot :=
  if n = 0 then some .nop
  else
    match decodeCond (nbits n 11 8) with
    | none => none
    | some q =>
      let i : Fin 8 := Fin.ofNat 8 (nbits n 7 5)
      let pm := nbits n 4 4 == 1
      let r : Fin 16 := Fin.ofNat 16 (nbits n 3 0)
      match nbits n 13 12 with
      | 1 => some (.ld q i pm r)
      | 2 => some (.ldi .w32 q i pm r)
      | 3 => some (.ldi .w24 q i pm r)
      | _ => none

/-- OP, COND, pointer and PM of M1, before its bits [11:0]. -/
def headM1 (op : Nat) (q : Cond) (i : Fin 8) (pm : Bool) : Nat :=
  op * 2 ^ 20 + encodeCond q * 2 ^ 16 + i * 2 ^ 13 + bit pm * 2 ^ 12

def encodeM1 : M1Slot → Nat
  | .nop => 0
  | .ld q i pm n => headM1 1 q i pm + n * 2 ^ 8
  | .ldi w q i pm n => headM1 (match w with | .w32 => 2 | .w24 => 3) q i pm + n * 2 ^ 8
  | .st q i pm n => headM1 4 q i pm + n * 2 ^ 8
  | .sta q i pm a k => headM1 5 q i pm + a * 2 ^ 10 + encodeConv k

def decodeM1 (n : Nat) : Option M1Slot :=
  if n = 0 then some .nop
  else
    match decodeCond (nbits n 19 16) with
    | none => none
    | some q =>
      let i : Fin 8 := Fin.ofNat 8 (nbits n 15 13)
      let pm := nbits n 12 12 == 1
      let r : Fin 16 := Fin.ofNat 16 (nbits n 11 8)
      match nbits n 22 20 with
      | 1 => some (.ld q i pm r)
      | 2 => some (.ldi .w32 q i pm r)
      | 3 => some (.ldi .w24 q i pm r)
      | 4 => some (.st q i pm r)
      | 5 => (decodeConv (nbits n 9 0)).map (fun k => .sta q i pm (Fin.ofNat 4 (nbits n 11 10)) k)
      | _ => none

/-! ## Whole-word forms (R120 to R125) -/

/-- BC and p. -/
def encodeBr : BrCond → Nat
  | .always => 0
  | .any p => 1 * 4 + p
  | .all p => 2 * 4 + p
  | .none p => 3 * 4 + p
  | .notAll p => 4 * 4 + p

def decodeBr (n : Nat) : Option BrCond :=
  let p : Fin 4 := Fin.ofNat 4 n
  match n / 4 with
  | 0 => some .always
  | 1 => some (.any p)
  | 2 => some (.all p)
  | 3 => some (.none p)
  | 4 => some (.notAll p)
  | _ => none

/-- CSRC and COUNT. -/
def encodeCount : LoopCount → Nat
  | .imm n => n
  | .reg n => 2 ^ 16 + n

def decodeCount (n : Nat) : LoopCount := if n < 2 ^ 16 then .imm (Fin.ofNat 65536 n) else .reg (Fin.ofNat 16 n)

def kindCode : SetaKind → Nat
  | .p => 1 | .b => 2 | .len => 3 | .m => 4 | .bnd => 5

def decodeKind : Nat → Option SetaKind
  | 1 => some .p
  | 2 => some .b
  | 3 => some .len
  | 4 => some .m
  | 5 => some .bnd
  | _ => none

/-- SRC and VALUE. -/
def encodeVal : SetaVal → Nat
  | .imm v => v
  | .reg n => 2 ^ 20 + n

def decodeVal (n : Nat) : SetaVal := if n < 2 ^ 20 then .imm (Fin.ofNat 1048576 n) else .reg (Fin.ofNat 16 n)

def encodeSub : Option SetaSub → Nat
  | none => 0
  | some x => kindCode x.kind * 2 ^ 24 + x.idx * 2 ^ 21 + encodeVal x.val

/-- A sub-field of SETA: none where it is undefined. -/
def decodeSub (n : Nat) : Option (Option SetaSub) :=
  if n = 0 then some none
  else (decodeKind (nbits n 26 24)).map (fun k => some ⟨k, Fin.ofNat 8 (nbits n 23 21), decodeVal (nbits n 20 0)⟩)

/-! ## Words -/

/-- A whole-word form with code `wop`. -/
def whole (wop n : Nat) : Nat := 2 ^ 63 + wop * 2 ^ 57 + n

def encodeNat : IWord → Nat
  | .slots c m0 m1 => encodeC c * 2 ^ 37 + encodeM0 m0 * 2 ^ 23 + encodeM1 m1
  | .br bc t => whole 0x01 (encodeBr bc * 2 ^ 52 + t)
  | .loop n a b => whole 0x02 (encodeCount n * 2 ^ 40 + a * 2 ^ 26 + b * 2 ^ 13)
  | .seta x y => whole 0x03 (encodeSub x * 2 ^ 30 + encodeSub y * 2 ^ 3)
  | .seti n q v => whole 0x04 (n * 2 ^ 53 + encodeCond q * 2 ^ 49 + v.toNat)
  | .halt => whole 0x3F 0

/-- The word `w` as bits. -/
def encodeWord (w : IWord) : BitVec 64 := BitVec.ofNat 64 (encodeNat w)

/-- The word that the fields of `n` name, whatever stands in the bits that must be zero. -/
def readWord (n : Nat) : Option IWord :=
  if n < 2 ^ 63 then
    match decodeC (nbits n 62 37), decodeM0 (nbits n 36 23), decodeM1 (nbits n 22 0) with
    | some c, some m0, some m1 => some (.slots c m0 m1)
    | _, _, _ => none
  else
    match nbits n 62 57 with
    | 0x01 => (decodeBr (nbits n 56 52)).map (fun bc => .br bc (Fin.ofNat 8192 (nbits n 12 0)))
    | 0x02 => some (.loop (decodeCount (nbits n 56 40)) (Fin.ofNat 8192 (nbits n 38 26)) (Fin.ofNat 8192 (nbits n 25 13)))
    | 0x03 =>
      match decodeSub (nbits n 56 30), decodeSub (nbits n 29 3) with
      | some x, some y => some (.seta x y)
      | _, _ => none
    | 0x04 => (decodeCond (nbits n 52 49)).map (fun q => .seti (Fin.ofNat 16 (nbits n 56 53)) q (BitVec.ofNat 32 (nbits n 31 0)))
    | 0x3F => some .halt
    | _ => none

/-- The defined word that `v` encodes (R131, rules 1 to 6): its fields name one, and every bit that must be zero is zero. -/
def decodeWord (v : BitVec 64) : Option IWord :=
  match readWord v.toNat with
  | some w => if w.wf ∧ encodeWord w = v then some w else none
  | none => none

end Sys2Proof.Machine
end

