-- ==== Sys2Proof/Machine/Flags.lean ====
section
/-!
DEFINITION. Saturation and rounding with their sticky flags: the exact arithmetic of R70, R71, R73, R74 and R103.
Every function forms its result over the integers and narrows once.
-/
namespace Sys2Proof.Machine

/-- sat(x, w) of spec/03: saturation to a w-bit signed range. -/
def satTo (w : Nat) (x : Int) : Int := clip (-(2 ^ (w - 1))) (2 ^ (w - 1) - 1) x

/-- Whether saturation to w bits changes `x`: the condition that sets AOV (w = 80) or SAT. -/
def clips (w : Nat) (x : Int) : Bool := satTo w x != x

/-- rnd_RHU(x, s): round half upward after a right shift by s ≥ 1 (R73). -/
def rndRhu (x : Int) (s : Nat) : Int := (x + 2 ^ (s - 1)) / 2 ^ s

/-- The LSTAT bits (spec/03): AOV, SAT and OFS_RANGE. -/
def lstatAov : Nat := 1
def lstatSat : Nat := 2
def lstatOfs : Nat := 4

/-- A data-register result: the 32-bit word and whether it sets SAT. -/
abbrev DRes := Word × Bool

/-- A result that never clips. -/
def plain (x : Int) : DRes := (BitVec.ofInt 32 x, false)

/-- A result saturated to `w` bits and sign-extended. -/
def satRes (w : Nat) (x : Int) : DRes := (BitVec.ofInt 32 (satTo w x), clips w x)

end Sys2Proof.Machine
end

