-- ==== Sys2Proof/Machine/Operands.lean ====
section
/-!
DEFINITION. Operand forms of the cluster: conditions (R113, R75), the conversion of an accumulator (R73), lane
addresses and the lane address space (R87, R92, R96), and the interpolation coefficients (R103).
-/
namespace Sys2Proof.Machine

/-- Zero of each lane register. -/
def zeroA (_ : Nat) : BitVec 80 := 0
def zeroO (_ : Nat) : BitVec 24 := 0
def zeroP (_ : Nat) : BitVec 20 := 0
def zeroM (_ : Nat) : BitVec 16 := 0
def zeroD (_ : Nat) : Word := 0
def zeroLane (_ : Nat) : Lane := Lane.zero
def bndReset (i : Nat) : Nat := i
def zeroI (_ : Nat) : Nat := 0

/-- D_n of a lane. -/
def Lane.dr (L : Lane) (n : Nat) : Word := SMap.get zeroD L.d n

/-- ACC_i of a lane as a signed integer. -/
def Lane.ac (L : Lane) (i : Nat) : Int := (SMap.get zeroA L.acc i).toInt

/-- PF_p of a lane. -/
def Lane.flag (L : Lane) (p : Nat) : Bool := L.pf.testBit p

/-- The lane condition (R113). -/
def Lane.holds (L : Lane) : Cond → Bool
  | .always => true
  | .pf p => L.flag p
  | .notPf p => !L.flag p

/-- The width of a conversion result. -/
def CWidth.bits : CWidth → Nat
  | .w32 => 32
  | .w24 => 24
  | .w16 => 16

/-- The conversion of accumulator value `t` (R73). -/
def convert (k : Conv) (sh : Nat) (t : Int) : DRes :=
  let w := CWidth.bits k.w
  let s := sh + 32 - w
  let r :=
    if s = 0 then t
    else
      let q := t / 2 ^ s
      let f := t - q * 2 ^ s
      let h : Int := 2 ^ (s - 1)
      match k.rm with
      | .trn => q
      | .rhu => if h ≤ f then q + 1 else q
      | .cnv => if h < f ∨ (f = h ∧ q % 2 = 1) then q + 1 else q
  satRes w r

/-- The shift SH in lane `L`: an immediate, or bits [4:0] of D_n (R73, R117). -/
def Lane.shiftOf (L : Lane) : ShSrc → Nat
  | .imm s => s.val
  | .reg n => (L.dr n.val).toNat % 32

/-- Integer part o and fraction f of an offset entry (spec/04, per-lane offsets). -/
def ofsInt (o : BitVec 24) : Int := o.toInt / 256
def ofsFrac (o : BitVec 24) : Nat := o.toNat % 256

/-- The word address of tap `t` for pointer value `p` in a buffer of base `b` and length `len`, for integer offset
`o` whose permitted range ends at len − 1 − `margin` (margin 0 for a load or store, 2 for LDI): the address, and
whether the offset violates the range (R96). Addresses of circular buffers are not reduced modulo 2^20 (R90). -/
def laneAddr (p b len : Nat) (o t : Int) (margin : Nat) : Nat × Bool :=
  if len = 0 then ((((p : Int) + o + t) % 2 ^ 20).toNat, false)
  else if o < -((len : Int) - 1) ∨ (len : Int) - 1 - margin < o then (b, true)
  else
    let u := (p : Int) - b + o + t
    let u := if u < 0 then u + len else u
    let u := if (len : Int) ≤ u then u - len else u
    (((b : Int) + u).toNat, false)

/-- P_i after a post-modify by `m` (R92), and whether MOD_RANGE is set. -/
def postModify (p b len : Nat) (m : Int) : Nat × Bool :=
  if len = 0 then ((((p : Int) + m) % 2 ^ 20).toNat, false)
  else if m.natAbs < len then
    let u := (p : Int) - b + m
    let u := if u < 0 then u + len else u
    let u := if (len : Int) ≤ u then u - len else u
    ((((b : Int) + u) % 2 ^ 20).toNat, false)
  else (b, true)

/-- The byte address of lane word `a` of cluster `c`, if the word exists (R87, R88). -/
def laneByte (c a : Nat) : Option Nat :=
  if a < 0x10000 then some (0x01000000 + c * 0x100000 + 4 * a)
  else if 0x80000 ≤ a ∧ a < 0x100000 then some (0x02000000 + c / 4 * 0x200000 + 4 * (a - 0x80000))
  else none

/-- The address a DECODE message of an unmapped lane word carries: the data-memory row of R87 applied (R88). -/
def laneDecodeAddr (c a : Nat) : Nat := 0x01000000 + c * 0x100000 + 4 * a

/-- Whether lane word `a` lies in region memory. -/
def laneInRegion (a : Nat) : Bool := decide (0x80000 ≤ a ∧ a < 0x100000)

/-- Bank and row that serve lane word `a` (R99); the 32 region banks follow the 16 data banks. -/
def laneBankRow (a : Nat) : Option (Nat × Nat) :=
  if a < 0x10000 then some (a % 16, a / 16)
  else if laneInRegion a then
    let v := (a - 0x80000) / 2
    some (16 + v % 32, v / 32)
  else none

/-- The members of a list without repeats. -/
def distinct {α : Type} [DecidableEq α] : List α → List α
  | [] => []
  | x :: xs => if x ∈ xs then distinct xs else x :: distinct xs

/-- The largest number of distinct rows that the word addresses `as` name in one bank (R100). -/
def services (as : List Nat) : Nat :=
  let rows := distinct (as.filterMap laneBankRow)
  rows.foldl (fun n r => max n (rows.countP (fun q => q.1 == r.1))) 0

/-- The four coefficients of the cubic Lagrange interpolation at fraction f, in Q2.30 (R103). -/
def lagrange (f : Nat) : Int × Int × Int × Int :=
  let f : Int := f
  (-32 * f * (f - 256) * (f - 512) / 3,
   32 * (f + 256) * (f - 256) * (f - 512),
   -32 * (f + 256) * f * (f - 512),
   32 * (f + 256) * f * (f - 256) / 3)

/-- The result of LDI for taps −1, 0, 1, 2 at fraction f (R103). -/
def interpolate (w : LWidth) (f : Nat) (xm x0 x1 x2 : Word) : DRes :=
  let (km, k0, k1, k2) := lagrange f
  let sum := xm.toInt * km + x0.toInt * k0 + x1.toInt * k1 + x2.toInt * k2
  satRes (match w with | .w32 => 32 | .w24 => 24) ((sum + 2 ^ 29) / 2 ^ 30)

end Sys2Proof.Machine
end

