-- ==== Sys2Proof/Machine/Lanes.lean ====
section
/-!
DEFINITION. What each compute operation computes in one lane (R70, R71, R73, R74, and the table of predicate
operations), as data: the registers it would write. Issue.lean says which lanes write and when.
-/
namespace Sys2Proof.Machine

/-- What one operation writes in one lane. `dLat` is the latency of the data register in words (R126). -/
structure LaneOut where
  acc : Option (Nat × BitVec 80)
  d : Option (Nat × Word)
  dLat : Nat
  pf : Option (Nat × Bool)
  ofs : Option (Nat × BitVec 24)
  aov : Bool
  sat : Bool
  deriving DecidableEq, Repr

def LaneOut.none : LaneOut := ⟨.none, .none, 1, .none, .none, false, false⟩

/-- A data register written with latency `lat`. -/
def outD (n : Nat) (r : DRes) (lat : Nat := 1) : LaneOut := { LaneOut.none with d := some (n, r.1), dLat := lat, sat := r.2 }

/-- An accumulator written with an exact result saturated at 80 bits (R71). -/
def outA (i : Nat) (x : Int) : LaneOut :=
  { LaneOut.none with acc := some (i, BitVec.ofInt 80 (satTo 80 x)), aov := clips 80 x }

def outP (p : Nat) (v : Bool) : LaneOut := { LaneOut.none with pf := some (p, v) }

/-- Element 0 or 1 of a Q15x2 word as a signed integer. -/
def elem (w : Word) (e : Nat) : Int := (w.extractLsb' (16 * e) 16).toInt

/-- The scaled sum of the two products of a dual operation (R70). -/
def dualProduct (a b : Word) : Int := (elem a 0 * elem b 0 + elem a 1 * elem b 1) * 2 ^ 32

/-- The table of accumulator operations, two-source rows. -/
def accResult (op : AccOp) (t : Int) (a b : Word) : Int :=
  match op with
  | .mpy => a.toInt * b.toInt
  | .mac => t + a.toInt * b.toInt
  | .msu => t - a.toInt * b.toInt
  | .mpyD => dualProduct a b
  | .macD => t + dualProduct a b
  | .msuD => t - dualProduct a b

/-- A dual result: each element saturated to 16 bits. -/
def dualRes (x0 x1 : Int) : DRes :=
  (BitVec.ofInt 16 (satTo 16 x1) ++ BitVec.ofInt 16 (satTo 16 x0), clips 16 x0 || clips 16 x1)

/-- The table of data-register operations, two-source rows. -/
def alu2Result (op : Alu2) (a b : Word) : DRes :=
  let n := b.toNat % 32
  match op with
  | .add => (a + b, false)
  | .sub => (a - b, false)
  | .adds => satRes 32 (a.toInt + b.toInt)
  | .subs => satRes 32 (a.toInt - b.toInt)
  | .min => (if a.toInt ≤ b.toInt then a else b, false)
  | .max => (if a.toInt ≤ b.toInt then b else a, false)
  | .and => (a &&& b, false)
  | .or => (a ||| b, false)
  | .xor => (a ^^^ b, false)
  | .asr => plain (a.toInt / 2 ^ n)
  | .lsr => (a >>> n, false)
  | .lsls => satRes 32 (a.toInt * 2 ^ n)
  | .mulr => satRes 32 (rndRhu (a.toInt * b.toInt) 31)
  | .addsD => dualRes (elem a 0 + elem b 0) (elem a 1 + elem b 1)
  | .subsD => dualRes (elem a 0 - elem b 0) (elem a 1 - elem b 1)
  | .mulrD => dualRes (rndRhu (elem a 0 * elem b 0) 15) (rndRhu (elem a 1 * elem b 1) 15)
  | .pack => (b.extractLsb' 0 16 ++ a.extractLsb' 0 16, false)

/-- The table of data-register operations, one-source rows. -/
def alu1Result (op : Alu1) (a : Word) : DRes :=
  match op with
  | .mov => (a, false)
  | .neg => satRes 32 (-a.toInt)
  | .abs => satRes 32 (a.toInt.natAbs : Int)
  | .cvt31 => plain ((a.extractLsb' 0 24).toInt * 2 ^ 8)
  | .cvt23 => satRes 24 (rndRhu a.toInt 8)
  | .unpk0 => plain (elem a 0 * 2 ^ 16)
  | .unpk1 => plain (elem a 1 * 2 ^ 16)

/-- Shifts by an immediate. -/
def aluiResult (op : AluI) (a : Word) (n : Nat) : DRes :=
  match op with
  | .asrI => plain (a.toInt / 2 ^ n)
  | .lsrI => (a >>> n, false)
  | .lslsI => satRes 32 (a.toInt * 2 ^ n)

/-- Signed comparisons (table of predicate operations). -/
def cmpResult (op : CmpOp) (a b : Word) : Bool :=
  match op with
  | .eq => a == b
  | .ne => a != b
  | .lt => decide (a.toInt < b.toInt)
  | .le => decide (a.toInt ≤ b.toInt)

def predResult (op : PredOp) (a b : Bool) : Bool :=
  match op with
  | .and => a && b
  | .or => a || b
  | .xor => a != b

/-- What the compute operation `o` writes in lane `L`, whose logical number is `j`. `d0` reads D_n of logical LANE_0
(BCAST) and `seq` the sequencer values (RDS). RSUM writes across lanes and is not here. -/
def laneOp (o : COp) (L : Lane) (j : Nat) (d0 : Nat → Word) (seq : Nat → Word) : LaneOut :=
  match o with
  | .acc op i a b => outA i (accResult op (L.ac i) (L.dr a) (L.dr b))
  | .ald i a => outA i ((L.dr a).toInt * 2 ^ 31)
  | .aadd i m => outA i (L.ac i + L.ac m)
  | .asub i m => outA i (L.ac i - L.ac m)
  | .aclr i => outA i 0
  | .exta d i k => outD d (convert k (L.shiftOf k.sh) (L.ac i)) 2
  | .rsum _ _ => LaneOut.none
  | .bcast d a => outD d (d0 a, false)
  | .alu2 op d a b => outD d (alu2Result op (L.dr a) (L.dr b))
  | .alu1 op d a => outD d (alu1Result op (L.dr a))
  | .alui op d a n => outD d (aluiResult op (L.dr a) n)
  | .lid d => outD d (BitVec.ofNat 32 j, false)
  | .rds d v => outD d (seq v, false)
  | .ofsw i n => { LaneOut.none with ofs := some (i, (L.dr n).extractLsb' 0 24) }
  | .cmp op p a b => outP p (cmpResult op (L.dr a) (L.dr b))
  | .cmpaLt p i => outP p (decide (L.ac i < 0))
  | .cmpaEq p i => outP p (decide (L.ac i = 0))
  | .pset p v => outP p v
  | .plog op p q r => outP p (predResult op (L.flag q) (L.flag r))
  | .pnot p q => outP p (!L.flag q)

/-- The four-stage reduction of R76 over the sixteen contributions `v`: the sum, and whether any addition clipped. -/
def reduceStep : List Int → List Int × Bool
  | a :: b :: r =>
    let (xs, c) := reduceStep r
    (satTo 80 (a + b) :: xs, clips 80 (a + b) || c)
  | xs => (xs, false)

def reduceTree (v : List Int) : Int × Bool :=
  let (a, c1) := reduceStep v
  let (b, c2) := reduceStep a
  let (c, c3) := reduceStep b
  let (d, c4) := reduceStep c
  (d.headD 0, c1 || c2 || c3 || c4)

/-- The activity class of a compute operation (R116): 0 MAC, 1 DMAC, 2 ALU, 3 XL, 4 SEQ. -/
def classOf : COp → Nat
  | .acc .mpy .. | .acc .mac .. | .acc .msu .. => 0
  | .acc .mpyD .. | .acc .macD .. | .acc .msuD .. => 1
  | .alu2 .mulr .. => 0
  | .alu2 .mulrD .. => 1
  | .rsum .. | .bcast .. => 3
  | .rds .. | .ofsw .. => 4
  | _ => 2

end Sys2Proof.Machine
end

