-- ==== Sys2Proof/Machine/Issue.lean ====
section
/-!
DEFINITION. The issue of one instruction word by a cluster: fetch checks (R131, R132), the lanes that take part (R75,
R78), visibility (R126, R127), memory operations (R92, R93, R96 to R103), stalls (R100, R102, R128, R130), shadow
comparison (R78, R85), loop ends (R105 to R108) and the end of a task (R138).
-/
namespace Sys2Proof.Machine

/-! ## Cluster fields -/

def Cluster.lane (k : Cluster) (n : Nat) : Lane := SMap.get zeroLane k.lanes n
def Cluster.setLane (k : Cluster) (n : Nat) (l : Lane) : Cluster := { k with lanes := SMap.set zeroLane k.lanes n l }
def Cluster.ptr (k : Cluster) (i : Nat) : BitVec 20 := SMap.get zeroP k.p i
def Cluster.bind (k : Cluster) (i : Nat) : Nat := SMap.get bndReset k.bnd i
def Cluster.mod (k : Cluster) (i : Nat) : BitVec 16 := SMap.get zeroM k.m i
def Cluster.base (k : Cluster) (b : Nat) : BitVec 20 := SMap.get zeroP k.b b
def Cluster.length (k : Cluster) (b : Nat) : BitVec 20 := SMap.get zeroP k.len b
def Cluster.count (k : Cluster) (n : Nat) : Nat := SMap.get zeroI k.lc n
def Cluster.start (k : Cluster) (n : Nat) : Nat := SMap.get zeroI k.ls n
def Cluster.stop (k : Cluster) (n : Nat) : Nat := SMap.get zeroI k.le n
def Cluster.setPtr (k : Cluster) (i v : Nat) : Cluster := { k with p := SMap.set zeroP k.p i (BitVec.ofNat 20 v) }

/-- The byte address of program word `x` of cluster `c` (spec/05, program memory). -/
def progByte (c x : Nat) : Nat := 0x01080000 + c * 0x100000 + 8 * x

/-- A lane's part in a word: the physical lane, the logical number LID gives, the lane whose condition and load data
it takes, and whether it shadows (R78). -/
structure LaneUse where
  phys : Nat
  j : Nat
  src : Nat
  shadow : Bool
  deriving DecidableEq, Repr

/-- The sixteen logical lanes in order, each with the physical lane that carries it, then LANE_S where it shadows. -/
def State.laneUses (s : State) (c : Nat) : List LaneUse :=
  (List.range 16).map (fun j => ⟨s.physOf c j, j, s.physOf c j, false⟩) ++
    (match s.checkedLane c with | some l => [⟨16, l, l, true⟩] | none => [])

/-- Whether the lane is enabled under condition `q` (R75, R78). -/
def LaneUse.enabled (u : LaneUse) (k : Cluster) (q : Cond) : Bool := (k.lane u.src).holds q

/-! ## Register writes -/

/-- LSTAT bits `b` set in a working lane; LANE_S keeps 0 while it shadows (spec/03, LSTAT). -/
def Lane.stat (l : Lane) (u : LaneUse) (b : Nat) (on : Bool) : Lane :=
  if on ∧ u.shadow = false then { l with lstat := l.lstat ||| b } else l

/-- A clip of the accumulator counts towards the ARITH message of the task (R72). -/
def Cluster.tallyAov (k : Cluster) (u : LaneUse) (addr : Nat) : Cluster :=
  if u.shadow then k
  else { k with arCnt := k.arCnt + 1
                arLane := if k.arCnt = 0 then u.j else min k.arLane u.j
                arAddr := if k.arCnt = 0 then addr else k.arAddr }

/-- An offset out of range counts towards the OFS_RANGE message of the task (R98). -/
def Cluster.tallyOfs (k : Cluster) (u : LaneUse) (addr : Nat) : Cluster :=
  if u.shadow then k
  else { k with ofCnt := k.ofCnt + 1
                ofLane := if k.ofCnt = 0 then u.j else min k.ofLane u.j
                ofAddr := if k.ofCnt = 0 then addr else k.ofAddr }

/-- What an operation computed takes effect in lane `u`: accumulators, predicates, offsets and LSTAT with the next
word, data registers after their latency (R126). -/
def Cluster.apply (k : Cluster) (u : LaneUse) (addr : Nat) (o : LaneOut) : Cluster :=
  let l := k.lane u.phys
  let l := match o.acc with | some (i, v) => { l with acc := SMap.set zeroA l.acc i v } | none => l
  let l := match o.pf with
    | some (p, v) => { l with pf := if v then l.pf ||| 2 ^ p else l.pf &&& (15 - 2 ^ p) }
    | none => l
  let l := match o.ofs with
    | some (i, v) => if u.shadow then l else { l with ofs := SMap.set zeroO l.ofs i v }
    | none => l
  let l := (l.stat u lstatAov o.aov).stat u lstatSat o.sat
  let k := k.setLane u.phys l
  let k := match o.d with | some (n, v) => { k with pend := k.pend ++ [⟨o.dLat, u.phys, n, v⟩] } | none => k
  if o.aov then k.tallyAov u addr else k

/-- One word has issued: results whose latency has passed become visible, later ones over earlier (R126, R127). -/
def Cluster.visible (k : Cluster) : Cluster :=
  let land := fun (k : Cluster) (q : Pend) =>
    if q.left ≤ 1 then
      let l := k.lane q.lane
      k.setLane q.lane { l with d := SMap.set zeroD l.d q.reg q.val }
    else { k with pend := k.pend ++ [{ q with left := q.left - 1 }] }
  k.pend.foldl land { k with pend := [] }

/-! ## The compute slot -/

/-- The sequencer value `v` (R137). -/
def State.seqValue (s : State) (c : Nat) (k : Cluster) (v : Nat) : Word :=
  if v < 13 then s.rd (R.SEQ_IN c v) else if 16 ≤ v ∧ v < 24 then (k.ptr (v - 16)).setWidth 32 else 0

/-- What operation `o` computes in lane `u`, from the cluster as the word finds it. -/
def State.laneResult (s : State) (c : Nat) (k0 : Cluster) (o : COp) (u : LaneUse) : LaneOut :=
  laneOp o (k0.lane u.phys) u.j (fun n => (k0.lane (s.physOf c 0)).dr n) (s.seqValue c k0)

/-- RSUM (R76): the sum over the enabled logical lanes into ACC_m of logical LANE_0, and into that of LANE_S where it
shadows logical LANE_0. -/
def State.runRsum (s : State) (c addr : Nat) (k0 : Cluster) (q : Cond) (i m : Nat) (k : Cluster) : Cluster :=
  let us := s.laneUses c
  let v := (us.filter (fun u => !u.shadow)).map (fun u => if u.enabled k0 q then (k0.lane u.phys).ac i else 0)
  let r := reduceTree v
  let o := { LaneOut.none with acc := some (m, BitVec.ofInt 80 r.1), aov := r.2 }
  let k := k.apply ⟨s.physOf c 0, 0, s.physOf c 0, false⟩ addr o
  if us.any (fun u => u.shadow && u.j == 0) then k.apply ⟨16, 0, 0, true⟩ addr { o with aov := false } else k

/-- The compute slot in every enabled lane. -/
def State.runCompute (s : State) (c addr : Nat) (k0 : Cluster) (cs : CSlot) (k : Cluster) : Cluster :=
  match cs with
  | .nop => k
  | .op q (.rsum i m) => s.runRsum c addr k0 q i m k
  | .op q o =>
    (s.laneUses c).foldl (fun k u => if u.enabled k0 q then k.apply u addr (s.laneResult c k0 o u) else k) k

/-! ## The memory slots -/

/-- The memory operations of either slot: pointer, post-modify, condition, and what is done. -/
inductive MemDo where
  | ld (n : Nat)
  | ldi (w : LWidth) (n : Nat)
  | st (n : Nat)
  | sta (i : Nat) (k : Conv)
  deriving DecidableEq, Repr

structure MemOp where
  cond : Cond
  i : Nat
  pm : Bool
  what : MemDo
  deriving DecidableEq, Repr

def m0Op : M0Slot → Option MemOp
  | .nop => none
  | .ld q i pm n => some ⟨q, i, pm, .ld n⟩
  | .ldi w q i pm n => some ⟨q, i, pm, .ldi w n⟩

def m1Op : M1Slot → Option MemOp
  | .nop => none
  | .ld q i pm n => some ⟨q, i, pm, .ld n⟩
  | .ldi w q i pm n => some ⟨q, i, pm, .ldi w n⟩
  | .st q i pm n => some ⟨q, i, pm, .st n⟩
  | .sta q i pm a k => some ⟨q, i, pm, .sta a k⟩

def MemDo.isStore : MemDo → Bool
  | .st _ | .sta .. => true
  | _ => false

/-- The taps an operation reads or writes (R96). -/
def MemDo.taps : MemDo → List Int
  | .ldi .. => [-1, 0, 1, 2]
  | _ => [0]

/-- How far the permitted range of o ends below LEN − 1 (R96). -/
def MemDo.margin : MemDo → Nat
  | .ldi .. => 2
  | _ => 0

/-- The activity class of a memory operation (R118, R119): 5 LD, 6 LDI, 7 ST. -/
def MemDo.actClass : MemDo → Nat
  | .ld _ => 5
  | .ldi .. => 6
  | _ => 7

/-- The offset entry of pointer `i` in physical lane `n`. -/
def Cluster.ofs (k : Cluster) (n i : Nat) : BitVec 24 := SMap.get zeroO (k.lane n).ofs i

/-- The lane word addresses of the taps of an operation in lane `u` (R96). -/
def Cluster.addrs (k : Cluster) (m : MemOp) (u : LaneUse) : List Nat :=
  let b := k.bind m.i
  m.what.taps.map (fun t =>
    (laneAddr (k.ptr m.i).toNat (k.base b).toNat (k.length b).toNat (ofsInt (k.ofs u.phys m.i)) t m.what.margin).1)

/-- Whether the offset of lane `u` violates the permitted range (R96). -/
def Cluster.violates (k : Cluster) (m : MemOp) (u : LaneUse) : Bool :=
  let b := k.bind m.i
  (laneAddr (k.ptr m.i).toNat (k.base b).toNat (k.length b).toNat (ofsInt (k.ofs u.phys m.i)) 0 m.what.margin).2

/-- The working lanes enabled for an operation: the ones that access memory (R75, R101). -/
def State.accessing (s : State) (c : Nat) (k0 : Cluster) (m : MemOp) : List LaneUse :=
  (s.laneUses c).filter (fun u => !u.shadow && u.enabled k0 m.cond)

/-- All lane word addresses of an operation, lane by lane and tap by tap. Log 74, DESIGN CHOICE. -/
def State.opAddrs (s : State) (c : Nat) (k0 : Cluster) (m : MemOp) : List Nat :=
  (s.accessing c k0 m).flatMap (k0.addrs m)

/-- The DECODE message of an operation with unmapped lane addresses (R88). Log 74, DESIGN CHOICE. -/
def State.decodeLanes (s : State) (c : Nat) (as : List Nat) : State :=
  match as.find? (fun a => (laneByte c a).isNone) with
  | some a => s.decodeError (Src.matrix (c / 4)) (laneDecodeAddr c a)
  | none => s

/-- The words at byte addresses `bs` read once each (R100, R312). -/
def State.readMany (s : State) (bs : List Nat) : State × SMap Word :=
  bs.foldl (fun r b => let x := r.1.readW b; (x.1, SMap.insert r.2 b x.2.1)) (s, [])

/-- The word a lane receives from lane word address `a`: zero where none exists (R88). -/
def loaded (c : Nat) (data : SMap Word) (a : Nat) : Word :=
  match laneByte c a with
  | some b => (SMap.find data b).getD 0
  | none => 0

/-- The result of a load in lane `u`, whose data are those of the lane it follows (R78, R103). -/
def Cluster.loadResult (k0 : Cluster) (c : Nat) (m : MemOp) (data : SMap Word) (u : LaneUse) : LaneOut :=
  let v : LaneUse := { u with phys := u.src }
  let x := (k0.addrs m v).map (loaded c data)
  match m.what with
  | .ld n => outD n (x[0]?.getD 0, false) 2
  | .ldi w n =>
    outD n (interpolate w (ofsFrac (k0.ofs u.src m.i)) (x[0]?.getD 0) (x[1]?.getD 0) (x[2]?.getD 0) (x[3]?.getD 0)) 4
  | _ => LaneOut.none

/-- The word a store writes from lane `u`, and whether it sets SAT. -/
def Cluster.storeResult (k0 : Cluster) (m : MemOp) (u : LaneUse) : DRes :=
  let l := k0.lane u.phys
  match m.what with
  | .st n => (l.dr n, false)
  | .sta i k => convert k (l.shiftOf k.sh) (l.ac i)
  | _ => (0, false)

/-- Offset violations of an operation: LSTAT.OFS_RANGE and the task's tally (R96, R98). Log 74, DESIGN CHOICE. -/
def Cluster.markViolations (k : Cluster) (k0 : Cluster) (m : MemOp) (addr : Nat) (us : List LaneUse) : Cluster :=
  us.foldl (fun k u =>
    if k0.violates m u then
      (k.setLane u.phys ((k.lane u.phys).stat u lstatOfs true)).tallyOfs u addr
    else k) k

/-- A load in every enabled lane, LANE_S included where it shadows. -/
def State.runLoad (s : State) (c addr : Nat) (k0 : Cluster) (m : MemOp) (k : Cluster) : State × Cluster :=
  let as := s.opAddrs c k0 m
  let r := (s.decodeLanes c as).readMany (distinct (as.filterMap (laneByte c)))
  let us := (s.laneUses c).filter (fun u => u.enabled k0 m.cond)
  let k := us.foldl (fun k u => k.apply u addr (k0.loadResult c m r.2 u)) k
  (r.1, k.markViolations k0 m addr (s.accessing c k0 m))

/-- Of several writes to one address the last remains (R102). -/
def lastWrites : List (Nat × Word) → List (Nat × Word)
  | [] => []
  | x :: xs => if xs.any (fun y => y.1 == x.1) then lastWrites xs else x :: lastWrites xs

/-- A store in every enabled working lane, the highest-numbered logical lane last (R102). -/
def State.runStore (s : State) (c addr : Nat) (k0 : Cluster) (m : MemOp) (k : Cluster) : State × Cluster :=
  let us := s.accessing c k0 m
  let writes := us.filterMap (fun u =>
    ((k0.addrs m u).head?.bind (laneByte c)).map (fun b => (b, (k0.storeResult m u).1)))
  let s1 := (lastWrites writes).foldl (fun s w => s.taskStore w.1 w.2) (s.decodeLanes c (s.opAddrs c k0 m))
  let k := us.foldl (fun k u =>
    k.setLane u.phys ((k.lane u.phys).stat u lstatSat (k0.storeResult m u).2)) k
  (s1, k.markViolations k0 m addr us)

def State.runMem (s : State) (c addr : Nat) (k0 : Cluster) (m : Option MemOp) (k : Cluster) : State × Cluster :=
  match m with
  | none => (s, k)
  | some m => if m.what.isStore then s.runStore c addr k0 m k else s.runLoad c addr k0 m k

/-- The post-modify of an operation (R92), with ADDR_STAT.MOD_RANGE. -/
def State.postMod (s : State) (c : Nat) (m : Option MemOp) (k : Cluster) : State × Cluster :=
  match m with
  | none => (s, k)
  | some m =>
    if m.pm then
      let b := k.bind m.i
      let r := postModify (k.ptr m.i).toNat (k.base b).toNat (k.length b).toNat (k.mod m.i).toInt
      let s := if r.2 then s.p (F.ADDR_STAT_MOD_RANGE c) (s.g (F.ADDR_STAT_MOD_RANGE c) ||| 2 ^ m.i) else s
      (s, k.setPtr m.i r.1)
    else (s, k)

/-! ## Shadow comparison -/

/-- For each value LANE_S compares in a word, whether it differs from the checked lane's: an accumulator write, then
the data word of a store (R78). -/
def State.compared (s : State) (c : Nat) (k0 : Cluster) (cs : CSlot) (m1 : Option MemOp) : List Bool :=
  match s.checkedLane c with
  | none => []
  | some l =>
    let ck : LaneUse := ⟨l, l, l, false⟩
    let sh : LaneUse := ⟨16, l, l, true⟩
    (match cs with
      | .nop => []
      | .op _ (.rsum ..) => []
      | .op q o =>
        let a := (s.laneResult c k0 o ck).acc
        if ck.enabled k0 q ∧ a.isSome then [decide (a ≠ (s.laneResult c k0 o sh).acc)] else []) ++
    (match m1 with
      | none => []
      | some m =>
        if m.what.isStore ∧ ck.enabled k0 m.cond then [decide ((k0.storeResult m ck).1 ≠ (k0.storeResult m sh).1)] else [])

/-- The outcome of the comparisons `ds` at the word at `addr`: an injection or a hardware fault makes the first one
differ (R78, R85). Log 17, DEDUCED. -/
def State.shadowCompare (s : State) (c addr : Nat) (mis : Bool) (ds : List Bool) : State :=
  match if s.on (F.SHADOW_CTL_EN c) then s.checkedLane c else none, ds with
  | some l, d :: rest =>
    let inj := s.on (F.SHADOW_CTL_INJ c)
    let n := ((d || mis || inj) :: rest).countP id
    let s := s.flag (F.SHADOW_CTL_INJ c) false
    if n = 0 then s
    else
      let s := (s.flag (F.SHADOW_STAT_MISMATCH c) true).bump (F.SHADOW_MM_CNT_COUNT c) n
      let s := (s.p (F.SHADOW_LAST_LANE c) l).p (F.SHADOW_LAST_TICK c) s.tick
      let k := s.clu c
      if k.mm then s
      else
        let s := s.setClu c { k with mm := true, mmAddr := addr }
        if s.g (F.SHADOW_STAT_STATE c) < 2 then s.emit Kind.shadowMismatch (Src.cluster c l) addr else s
  | _, _ => s

/-! ## Cycles -/

/-- The accumulators that a compute operation or STA reads other than as accumulating input, and those that must wait
for RSUM (R128). -/
def accReads : COp → List Nat
  | .exta _ i _ => [i]
  | .cmpaLt _ i => [i]
  | .cmpaEq _ i => [i]
  | .rsum i _ => [i]
  | .aadd _ m => [m]
  | .asub _ m => [m]
  | _ => []

def accTouches : COp → List Nat
  | .acc _ i _ _ => [i]
  | .ald i _ => [i]
  | .aadd i m => [i, m]
  | .asub i m => [i, m]
  | .aclr i => [i]
  | .exta _ i _ => [i]
  | .rsum i m => [i, m]
  | .cmpaLt _ i => [i]
  | .cmpaEq _ i => [i]
  | _ => []

def accWrites : COp → Option Nat
  | .acc _ i _ _ => some i.val
  | .ald i _ => some i.val
  | .aadd i _ => some i.val
  | .asub i _ => some i.val
  | .aclr i => some i.val
  | _ => none

def slotAccs (f : COp → List Nat) : CSlot → List Nat
  | .nop => []
  | .op _ o => f o

def staAcc : Option MemOp → List Nat
  | some ⟨_, _, _, .sta i _⟩ => [i]
  | _ => []

/-- The cycles the accumulator interlocks hold the word (R128). -/
def Cluster.hazard (k : Cluster) (cs : CSlot) (m1 : Option MemOp) : Nat :=
  let a := (slotAccs accReads cs ++ staAcc m1).map (fun i => SMap.get zeroI k.accAt i + 3)
  let r := (slotAccs accTouches cs ++ staAcc m1).map (fun i => SMap.get zeroI k.rsumAt i + 4)
  ((a ++ r).foldl max 0) - k.cyc

/-- Cycles lost to bank collisions in one operation (R100). Log 15, DEDUCED. -/
def State.opStall (s : State) (c : Nat) (k0 : Cluster) : Option MemOp → Nat
  | none => 0
  | some m => services (s.opAddrs c k0 m) - 1

/-- Cycles lost to region memory, other masters and bank wakes (R102). Log 15, DEDUCED. -/
def State.extStall (s : State) (c : Nat) (k0 : Cluster) (env : WordEnv) (ms : List MemOp) : Nat :=
  let as := ms.flatMap (s.opAddrs c k0)
  if as.any laneInRegion then max 2 env.ext else if as.isEmpty then 0 else env.ext

/-- The stall counters of a word (R130) and its issue cycle: the larger of the waits. Log 15, DEDUCED. -/
def State.stalls (s : State) (c bank ext haz : Nat) : State :=
  ((s.bump (F.BANK_STALL_COUNT c) bank).bump (F.EXT_STALL_COUNT c) (ext - bank)).bump (F.HAZ_STALL_COUNT c)
    (haz - max bank ext)

/-! ## Loops and transfers -/

/-- The loop ends at word `x`, innermost level first (R107): the levels after it and the next index. Log 16, DEDUCED. -/
def loopEnd (x : Nat) : Nat → Cluster → Cluster × Nat
  | 0, k => (k, x + 1)
  | d + 1, k =>
    if k.stop d = x then
      if 1 < k.count d then ({ k with lc := SMap.set zeroI k.lc d (k.count d - 1) }, k.start d)
      else loopEnd x d { k with depth := d }
    else (k, x + 1)

/-- The sequencer moves on from word `x`, whose successor is found by the loop ends at it. Log 16, DEDUCED. -/
def Cluster.advance (k : Cluster) (x : Nat) : Cluster :=
  let r := loopEnd x k.depth k
  { r.1 with pc := r.2 }

/-- The levels a taken branch to `t` closes (R108). -/
def branchOut (t : Nat) : Nat → Cluster → Cluster
  | 0, k => k
  | d + 1, k => if k.start d ≤ t ∧ t ≤ k.stop d then k else branchOut t d { k with depth := d }

/-- The branch condition over the logical lanes (R109, R121). -/
def State.branchHolds (s : State) (c : Nat) (k : Cluster) (bc : BrCond) : Bool :=
  let fl := fun (p : Fin 4) => (List.range 16).map (fun j => (k.lane (s.physOf c j)).flag p)
  match bc with
  | .always => true
  | .any p => (fl p).any id
  | .all p => (fl p).all id
  | .none p => !(fl p).any id
  | .notAll p => !(fl p).all id

/-- The LOOP rules of R106 at word `x`; true where the word is defined. -/
def Cluster.loopAllowed (k : Cluster) (x start stop : Nat) : Bool :=
  decide (k.depth < 4) && decide (x < start) && decide (start ≤ stop) && decide (stop ≤ 8191) &&
    (k.depth == 0 || (decide (stop ≤ k.stop (k.depth - 1)) && decide (k.start (k.depth - 1) ≤ start)))

/-! ## Address set-up -/

/-- Whether pointer `i` lies outside the circular buffer bound to it (R91). -/
def Cluster.outside (k : Cluster) (i : Nat) : Bool :=
  let b := k.bind i
  let n := (k.length b).toNat
  n != 0 && decide ((k.ptr i).toNat < (k.base b).toNat ∨ (k.base b).toNat + n ≤ (k.ptr i).toNat)

/-- Pointer `i` moved to its base where it lies outside, with ADDR_STAT.CIRC_RESET (R91). -/
def State.circ (r : State × Cluster) (c i : Nat) : State × Cluster :=
  if r.2.outside i then
    let b := r.2.bind i
    (r.1.p (F.ADDR_STAT_CIRC_RESET c) (r.1.g (F.ADDR_STAT_CIRC_RESET c) ||| 2 ^ b), r.2.setPtr i (r.2.base b).toNat)
  else r

/-- The value a SETA sub-field writes: an immediate, or D_n of logical LANE_0 (R123). -/
def State.setaValue (s : State) (c : Nat) (k0 : Cluster) : SetaVal → Nat
  | .imm v => v.val
  | .reg n => ((k0.lane (s.physOf c 0)).dr n).toNat

/-- One write of SETA with its side effects (R91). -/
def setaWrite (c : Nat) (x : SetaSub) (v : Nat) (r : State × Cluster) : State × Cluster :=
  let k := r.2
  let bound := (List.range 8).filter (fun i => k.bind i == x.idx.val)
  match x.kind with
  | .p => State.circ (r.1, k.setPtr x.idx v) c x.idx
  | .b =>
    (r.1, bound.foldl (fun k i => k.setPtr i v) { k with b := SMap.set zeroP k.b x.idx (BitVec.ofNat 20 v) })
  | .len =>
    bound.foldl (fun r i => State.circ r c i) (r.1, { k with len := SMap.set zeroP k.len x.idx (BitVec.ofNat 20 v) })
  | .m => (r.1, { k with m := SMap.set zeroM k.m x.idx (BitVec.ofNat 16 v) })
  | .bnd => State.circ (r.1, { k with bnd := SMap.set bndReset k.bnd x.idx (v % 8) }) c x.idx

def setaOpt (c : Nat) (s0 : State) (k0 : Cluster) (x : Option SetaSub) (r : State × Cluster) : State × Cluster :=
  match x with
  | none => r
  | some x => setaWrite c x (s0.setaValue c k0 x.val) r

/-! ## The end of a task and undefined words -/

/-- The cluster stops issuing (R138): results on their way and loop levels are discarded and its stores drain. The
cycle count gains the 2 cycles to completion. -/
def State.endTask (s : State) (c : Nat) : State :=
  let k := s.clu c
  (s.setClu c { k with pend := [], depth := 0, cyc := k.cyc + 2 }).p (F.CL_STAT_STATE c) 5

/-- The task of cluster `c` halts before its next word would issue (R139). Its cycle count stands at the 2 cycles after its last
word, or after its dispatch before the first; the cycles up to the halt are among those that its completion brings. -/
def State.haltTask (s : State) (c : Nat) : State := (s.setClu c { s.clu c with cyc := (s.clu c).issued }).endTask c

/-- The progress of task `t` set to `v`. -/
def State.setRun (s : State) (t : Nat) (v : TaskRun) : State :=
  { s with fc := { s.fc with run := SMap.set (fun _ => TaskRun.waiting) s.fc.run t v } }

def State.runOf (s : State) (t : Nat) : TaskRun := SMap.get (fun _ => TaskRun.waiting) s.fc.run t

/-- The cluster meets an undefined word (R132): reason `why` at index `x`. -/
def State.undefinedWord (s : State) (c why : Nat) : State :=
  let x := min (s.clu c).pc 8191
  let t := s.g (F.CL_TASK_TASK c)
  let s := ((s.flag (F.CL_STAT_ILL c) true).p (F.CL_ILL_REASON c) why).p (F.CL_ILL_TASK c) t
  let s := (s.p (F.CL_ILL_INDEX c) x).emit Kind.illegalInsn (Src.cluster c 0) (progByte c x)
  (s.setRun t .ill).endTask c

/-- The fetch of the next word: its bits, and why it cannot be executed, if so (R131, R132). Log 13, DESIGN CHOICE. -/
def State.fetch (s : State) (c : Nat) : State × Option Nat × BitVec 64 :=
  let x := (s.clu c).pc
  if 8192 ≤ x then (s, some 2, 0)
  else
    let s := s.p (F.CL_TASK_PC c) x
    let a := s.readW (progByte c x)
    let b := a.1.readW (progByte c x + 4)
    let v := b.2.1 ++ a.2.1
    if b.1.on (F.CL_CTL_ILL_INJ c) then (b.1.flag (F.CL_CTL_ILL_INJ c) false, some 4, v)
    else (b.1, if a.2.2 ∨ b.2.2 then some 3 else none, v)

/-! ## The word -/

/-- A slot word (R112, R114). -/
def State.runSlots (s : State) (c : Nat) (env : WordEnv) (cs : CSlot) (m0 : M0Slot) (m1 : M1Slot) : State :=
  let k0 := s.clu c
  let x := k0.pc
  let addr := progByte c x
  let o0 := m0Op m0
  let o1 := m1Op m1
  let bank := max (s.opStall c k0 o0) (s.opStall c k0 o1)
  let ext := s.extStall c k0 env (o0.toList ++ o1.toList)
  let haz := k0.hazard cs o1
  let t := k0.cyc + max bank (max ext haz)
  let ds := s.compared c k0 cs o1
  let k := s.runCompute c addr k0 cs k0
  let r := s.runMem c addr k0 o0 k
  let r := r.1.runMem c addr k0 o1 r.2
  let r := r.1.postMod c o0 r.2
  let r := r.1.postMod c o1 r.2
  let k := r.2.visible
  let k := match cs with
    | .op _ (.rsum _ m) => { k with rsumAt := SMap.set zeroI k.rsumAt m t }
    | .op _ o => match accWrites o with | some i => { k with accAt := SMap.set zeroI k.accAt i t } | none => k
    | .nop => k
  let k := { k.advance x with cyc := t + 1, issued := t + 1, lastWord := addr }
  let s := (r.1.setClu c k).stalls c bank ext haz
  let s := match cs with | .op _ o => s.countAct c (classOf o) 1 | .nop => s
  let s := match o0 with | some m => s.countAct c m.what.actClass 1 | none => s
  let s := match o1 with | some m => s.countAct c m.what.actClass 1 | none => s
  s.shadowCompare c addr env.mis ds

/-- A whole-word form other than LOOP, with the sequencer moving to where `f` puts it, in `n` cycles. -/
def State.runWhole (s : State) (c n : Nat) (f : Nat → Cluster → State × Cluster) : State :=
  let x := (s.clu c).pc
  let r := f x (s.clu c)
  r.1.setClu c { r.2.visible with cyc := r.2.cyc + n, issued := r.2.cyc + 1, lastWord := progByte c x }

/-- BR (R121, R108, R130). -/
def State.runBr (s : State) (c : Nat) (bc : BrCond) (t : Nat) : State :=
  if s.branchHolds c (s.clu c) bc then s.runWhole c 3 (fun _ k => (s, { branchOut t k.depth k with pc := t }))
  else s.runWhole c 1 (fun x k => (s, k.advance x))

/-- The count of a LOOP word (R105, R122). -/
def State.loopCountOf (s : State) (c : Nat) : LoopCount → Nat
  | .imm n => n.val
  | .reg n => (((s.clu c).lane (s.physOf c 0)).dr n).toNat % 65536

/-- LOOP where R106 allows it (R105). -/
def State.runLoop (s : State) (c : Nat) (n start stop : Nat) : State :=
  if n = 0 then s.runWhole c 3 (fun _ k => (s, k.advance stop))
  else
    s.runWhole c 1 (fun x k =>
      (s, { k with lc := SMap.set zeroI k.lc k.depth n, ls := SMap.set zeroI k.ls k.depth start,
                   le := SMap.set zeroI k.le k.depth stop, depth := k.depth + 1, pc := x + 1 }))

/-- SETA (R123). -/
def State.runSeta (s : State) (c : Nat) (x y : Option SetaSub) : State :=
  s.runWhole c 1 (fun i k =>
    let r := setaOpt c s k y (setaOpt c s k x (s, k))
    (r.1, r.2.advance i))

/-- SETI (R124). -/
def State.runSeti (s : State) (c : Nat) (n : Nat) (q : Cond) (v : Word) : State :=
  s.runWhole c 1 (fun i k =>
    let us := (s.laneUses c).filter (fun u => u.enabled k q)
    (s, (us.foldl (fun k u => k.apply u 0 (outD n (v, false))) k).advance i))

/-- HALT (R125, R138). -/
def State.runHalt (s : State) (c : Nat) : State :=
  let k := s.clu c
  (s.setClu c { k with lastWord := progByte c k.pc }).endTask c

/-- A word that R131 defines, or the reason why it is none. -/
def State.runWord (s : State) (c : Nat) (env : WordEnv) (w : IWord) : State :=
  if !w.wf then s.undefinedWord c 0
  else
    match w with
    | .slots cs m0 m1 => s.runSlots c env cs m0 m1
    | .br bc t => s.runBr c bc t
    | .loop n a b =>
      if (s.clu c).loopAllowed (s.clu c).pc a b then s.runLoop c (s.loopCountOf c n) a b else s.undefinedWord c 1
    | .seta x y => s.runSeta c x y
    | .seti n q v => s.runSeti c n q v
    | .halt => s.runHalt c

/-- The memory bank of an address. -/
def bankAt (a : Nat) : Option Nat := (memOf a).map (fun m => bankOf m.1 m.2)

/-- The bank that a locked sequence holds (R326). -/
def State.lockBank (s : State) : Option Nat := if s.mx.lockLeft = 0 then none else s.mx.lockAddr.bind bankAt

/-- Whether a lane access of the word `w` addresses the bank that a locked sequence holds: the lanes stall (R326). -/
def State.lockHolds (s : State) (c : Nat) (w : IWord) : Bool :=
  match s.lockBank, w with
  | some b, .slots _ m0 m1 =>
    ((m0Op m0).toList ++ (m1Op m1).toList).any (fun m =>
      (s.opAddrs c (s.clu c) m).any (fun a => (laneByte c a).bind bankAt == some b))
  | _, _ => false

/-- Whether cluster `c` issues words: its state is ENTRY or RUN. Log 13, DESIGN CHOICE. -/
def State.issuing (s : State) (c : Nat) : Bool :=
  s.g (F.CL_STAT_STATE c) == 3 || s.g (F.CL_STAT_STATE c) == 4

/-- Cluster `c` issues the word `w`. A cluster that runs no task or that a lock stalls issues nothing, and no cluster issues a word that does not
stand at its program counter. -/
def State.issue (s : State) (c : Nat) (env : WordEnv) (w : IWord) : State :=
  if s.issuing c && !s.lockHolds c w then
    let r := (s.p (F.CL_STAT_STATE c) 4).fetch c
    match r.2.1 with
    | some why => r.1.undefinedWord c why
    | none => if decodeWord r.2.2 = some w then r.1.runWord c env w else s
  else s

/-- Whether the word `w` stands at the program counter of cluster `c` and the cluster issues it. Log 13, DESIGN CHOICE. -/
def State.issues (s : State) (c : Nat) (w : IWord) : Bool :=
  s.issuing c && !s.lockHolds c w && (s.fetch c).2.1.isNone && decodeWord (s.fetch c).2.2 == some w

/-- Cluster `c` meets a word that R131 calls undefined. Log 13, DESIGN CHOICE. -/
def State.issueUndefined (s : State) (c : Nat) : State :=
  if s.issuing c then
    let r := (s.p (F.CL_STAT_STATE c) 4).fetch c
    match r.2.1, decodeWord r.2.2 with
    | some why, _ => r.1.undefinedWord c why
    | none, none => r.1.undefinedWord c 0
    | none, some (.loop _ a b) => if (s.clu c).loopAllowed (s.clu c).pc a b then s else r.1.undefinedWord c 1
    | none, some _ => s
  else s

end Sys2Proof.Machine
end

