-- ==== Sys2Proof/Machine/Forecast.lean ====
section
/-!
DEFINITION. The Forecast (spec/06): the task tables, the energy and thermal models, the selection of tiers, budget
states, dispatch and gating, and the commands on them.
-/
namespace Sys2Proof.Machine

/-! ## Task table entries (R142, R143) -/

/-- Word `w` of entry `t` of copy `x`. -/
def State.ttw (s : State) (x t w : Nat) : Word := SMap.get zeroW s.fc.tt (2048 * x + 16 * t + w)

/-- The copy in force. -/
def State.ttSel (s : State) : Nat := s.g F.FCST_TT_CTL_SEL

def State.ttValid (s : State) (x t : Nat) : Bool := (s.ttw x t 0).getLsbD 31
def State.ttClass (s : State) (x t : Nat) : Nat := bitsOf (s.ttw x t 0) 30 29
def State.ttReq (s : State) (x t : Nat) : Nat := bitsOf (s.ttw x t 0) 28 27
def State.ttXfTicks (s : State) (x t : Nat) : Nat := bitsOf (s.ttw x t 0) 25 19
def State.ttEntry (s : State) (x t : Nat) : Nat := bitsOf (s.ttw x t 0) 12 0
def State.ttXfCyc (s : State) (x t : Nat) : Nat := bitsOf (s.ttw x t 1) 31 16
def State.ttCyc (s : State) (x t n : Nat) : Nat := bitsOf (s.ttw x t (8 + n)) 24 0
def State.ttEn (s : State) (x t n : Nat) : Nat := bitsOf (s.ttw x t (12 + n)) 27 0

/-- The clusters of the cluster set, ascending. -/
def State.ttClusters (s : State) (x t : Nat) : List Nat :=
  (List.range 16).filter (fun c => (s.ttw x t 1).getLsbD c)

/-- The predecessors marked valid. -/
def State.ttPreds (s : State) (x t : Nat) : List Nat :=
  (List.range 4).filterMap (fun i =>
    let b := bitsOf (s.ttw x t 2) (8 * i + 7) (8 * i)
    if 128 ≤ b then some (b - 128) else none)

/-- The declared output slots (R143): ranges of base and count. -/
def State.ttOuts (s : State) (x t : Nat) : List (Nat × Nat) :=
  [3, 4].map (fun w => (bitsOf (s.ttw x t w) 11 0, bitsOf (s.ttw x t w) 28 16))

/-- The valid tasks of copy `x` in index order. -/
def State.ttTasks (s : State) (x : Nat) : List Nat := (List.range 128).filter (s.ttValid x)

/-- The valid tasks in rank order, highest first: by class, then by index (R143). -/
def State.ttRanked (s : State) (x : Nat) : List Nat :=
  let ts := s.ttTasks x
  [0, 1, 2, 3].flatMap (fun k => ts.filter (fun t => s.ttClass x t == k))

/-- Whether slot `n` is a declared output slot of task `t`. -/
def State.ttDeclares (s : State) (x t n : Nat) : Bool :=
  (s.ttOuts x t).any (fun r => decide (r.1 ≤ n ∧ n < r.1 + r.2))

/-! ## Energies, in 0.1 nJ, and cycles -/

/-- A fixed-point result differs from the exact one by at most one unit of its field (R160): the exact value is `num / den`,
so the integers next to it, and where it is an integer itself also the one below. Log 5, DEDUCED. -/
def State.rounded (s : State) (num : Int) (den : Nat) : State × Int :=
  let r := s.nextFree
  (r.1, num / den + clip (if num % den = 0 then -1 else 0) 1 (Config.rounding r.2))

/-- E_fix = FCST_PFIX × T (R154). -/
def State.eFix (s : State) : Nat := s.g F.FCST_PFIX_PFIX * s.nSamp * 10 ^ 7 / s.fs

/-- FCST_PCAP × T. -/
def State.capEnergy (s : State) : Nat := s.g F.FCST_PCAP_PCAP * s.nSamp * 10 ^ 9 / s.fs

/-- 2^60 × exp(−n/d) for n ≤ d: the Taylor series, exact to below 2^-50. Log 5, DEDUCED. -/
def expNeg (n d : Nat) : Nat :=
  let r := (List.range 24).foldl (fun (r : Int × Int) (i : Nat) =>
    let term := -(r.2 * (n : Int)) / ((d * (i + 1) : Nat) : Int)
    (r.1 + term, term)) ((2 : Int) ^ 60, (2 : Int) ^ 60)
  r.1.toNat

/-- P_th in µW, as numerator and denominator, from the temperatures of the last update in 2^-32 °C and the FCST_THERM that it
used (R158). A new FCST_TJ_SOFT counts at once (R174). Log 26, DESIGN CHOICE. -/
def State.pthFrac (s : State) : Int × Nat :=
  let a : Int := expNeg 1 (max 1 (bitsOf s.fc.therm 31 16))
  let num : Int := (s.g F.FCST_TJ_SOFT_TJ_SOFT : Int) * 2 ^ 32 - s.fc.tRef - a * s.fc.tRise / 2 ^ 60
  (max 0 (num * 2 ^ 60 * 10 ^ 8), (2 ^ 32 * (bitsOf s.fc.therm 15 0 * (2 ^ 60 - a))).toNat)

/-- P_th × T. -/
def State.thermalEnergy (s : State) : Nat :=
  let p := s.pthFrac
  (p.1 * (s.nSamp * 10 ^ 4 : Nat)).toNat / (p.2 * s.fs)

/-- Whether the budget has a thermal term: not before the first update, of which the spec says nothing, nor without a valid
reading (R159, R161). Log 76, DESIGN CHOICE. -/
def State.hasThermal (s : State) : Bool := s.fc.pthLive && !s.on F.FCST_STAT_SENS_INVALID

/-- The budget B of a tick and whether the thermal term sets it (R159). -/
def State.budget (s : State) : Nat × Bool :=
  if s.hasThermal ∧ s.thermalEnergy < s.capEnergy then (s.thermalEnergy, true) else (s.capEnergy, false)

/-- CW = floor(0.72 × fcore × T) (R149). -/
def State.cw (s : State) : Nat := s.coreClk * 72 * 10 ^ 6 * s.nSamp / s.fs

/-- wake_cyc = ceil(1.6 µs × fcore) (R149). -/
def State.wakeCyc (s : State) : Nat := s.coreClk * 160

/-- 10,000 × A: the activity energy of operation counts by class (R153). -/
def State.activity (s : State) (count : Nat → Nat) : Nat :=
  ((List.range 9).map (fun n => s.g (F.FCST_WEIGHT_W n) * count n)).foldl (· + ·) 0

/-- est(t, x) (R156), `ticks` since the table came into force. -/
def State.est (s : State) (x ticks t n : Nat) : Nat :=
  let e := s.g (F.FCST_EOBS_E_OBS t n)
  let d := s.ttEn x t n
  if ticks < 64 ∨ !s.on F.FCST_CAL_MON_VALID ∨ s.g F.FCST_CTL_EST_MODE = 2 ∨ e = 0 then d
  else if s.g F.FCST_CTL_EST_MODE = 0 then e
  else max e d

/-! ## Selection (R163 to R168) -/

/-- A task as the selection sees it: its state at the start of the tick selected for, whether it is new (R147), and
the highest tier it may take. -/
structure SelTask where
  t : Nat
  st : TierSt
  isNew : Bool
  req : Nat
  top : Nat
  deriving DecidableEq, Repr

/-- The tier state one boundary later (R163, R165). -/
def TierSt.advance (a : TierSt) : TierSt :=
  let xf := a.xf - 1
  { a with xf := xf, out := if xf = 0 then a.cur else a.out, hold := a.hold - 1 }

/-- A drop of `a` to tier `n` with its crossfade of `len` ticks (R165). -/
def TierSt.fade (a : TierSt) (n len hold : Nat) : TierSt :=
  { a with cur := n, out := a.cur, xf := len, len := len, hold := hold }

def holdTicks (s : State) : Nat := s.g F.FCST_HOLD_HOLD

/-- Whether a cleared safe state that held clusters of task `t` ends at the next boundary (R304). Log 24, DEDUCED. -/
def State.renewed (s : State) (t : Nat) : Bool :=
  SMap.get noneB s.ft.ending 8 || (s.ttClusters s.ttSel t).any (fun c => SMap.get noneB s.ft.ending (c / 4))

/-- Whether task `t` continues from the copy in force into copy `x` (R147, R304). -/
def State.continues (s : State) (x t : Nat) : Bool :=
  s.ttValid s.ttSel t && s.ttValid x t && s.ttEntry s.ttSel t == s.ttEntry x t && !s.renewed t

/-- The boundary at which force_cap rises next (R172): HOLD is that in force now. -/
def State.capDue (s : State) : Option Nat :=
  if s.fc.supplyLow || s.fc.senseLow || !s.on F.FCST_STAT_FORCED then none
  else s.fc.relTick.map (fun r => if s.g F.FCST_STAT_FORCE_CAP = 0 then r else r + holdTicks s)

/-- The force_cap in force from boundary `k`, the next one or the last (R171, R172). Log 27, DEDUCED. -/
def State.forceCapAt (s : State) (k : Nat) : Nat :=
  if s.fc.supplyLow || s.fc.senseLow then 0
  else
    match s.capDue with
    | some r => if r ≤ k then min 3 (s.g F.FCST_STAT_FORCE_CAP + 1) else s.g F.FCST_STAT_FORCE_CAP
    | none => s.g F.FCST_STAT_FORCE_CAP

/-- The state that task `t` carries into the next tick, with a drop of R170 that waited for its crossfade. -/
def State.carried (s : State) (x t : Nat) : TierSt :=
  let a := match SMap.find s.fc.fix t with
    | some a => a
    | none => ((SMap.find s.fc.tier t).getD ⟨0, 0, 0, 0, 0, false⟩).advance
  if a.drop ∧ a.xf = 0 then
    { (if 0 < a.cur then a.fade (a.cur - 1) (s.ttXfTicks x t) (holdTicks s) else a) with drop := false }
  else a

/-- Task `t` of copy `x` for the selection of tick `k`. -/
def State.selTask (s : State) (x k t : Nat) : SelTask :=
  let req := min (s.ttReq x t) (s.g F.FCST_CTL_TIER_CAP)
  let top := if s.ttClass x t = 0 then req else min req (s.forceCapAt k)
  if s.continues x t ∧ (SMap.find s.fc.tier t).isSome then ⟨t, s.carried x t, false, req, top⟩
  else ⟨t, ⟨top, top, 0, holdTicks s, 0, false⟩, true, req, top⟩

/-- The tiers a task costs: both during a crossfade (`R163`); `c` counts a crossfade that would start. -/
def selTiers (a : SelTask) (n : Nat) (c : Bool) : List Nat :=
  if 0 < a.st.xf then [a.st.cur, a.st.out]
  else if c && !a.isNew && n != a.st.cur then [a.st.cur, n] else [n]

/-- Whether a safe state that does not end at the next boundary holds a cluster of task `t` of copy `x` (R301, R302, R304). -/
def State.heldIn (s : State) (x t : Nat) : Bool :=
  (s.chipSafe && !SMap.get noneB s.ft.ending 8) ||
    (s.ttClusters x t).any (fun c => s.regionSafe (c / 4) && !SMap.get noneB s.ft.ending (c / 4))

/-- The OFF clusters that the tasks of copy `x` are dispatched to. -/
def State.toWake (s : State) (x : Nat) : List Nat :=
  let ts := (s.ttTasks x).filter (fun t => !s.heldIn x t)
  (List.range 16).filter (fun c => s.g (F.CL_STAT_STATE c) == 0 && ts.any (fun t => (s.ttw x t 1).getLsbD c))

/-- The energy of tiers `sel` (steady, or committed where `c`), of R163. -/
def State.selEnergy (s : State) (x ticks : Nat) (c : Bool) (as : List SelTask) (sel : SMap Nat) : Nat :=
  s.eFix + 10 * s.g F.FCST_E_WAKE_E_WAKE * (s.toWake x).length +
    (as.map (fun a => ((selTiers a ((SMap.find sel a.t).getD 0) c).map (s.est x ticks a.t)).foldl (· + ·) 0)).foldl (· + ·) 0

/-- The list schedule of R149 over tasks with cycle costs: each entry is (task, cost). -/
def State.listPlan (s : State) (x : Nat) (free : SMap Nat) (ts : List (Nat × Nat)) : Nat :=
  let r := ts.foldl (fun (r : SMap Nat × SMap Nat × Nat) e =>
    let cs := s.ttClusters x e.1
    let st := ((cs.map (fun c => SMap.get zeroN r.1 c)) ++
      (s.ttPreds x e.1).map (fun p => SMap.get zeroN r.2.1 p)).foldl max 0
    let fin := st + 2 + e.2
    (cs.foldl (fun f c => SMap.insert f c fin) r.1, SMap.insert r.2.1 e.1 fin, max r.2.2 fin)) (free, [], 0)
  r.2.2

/-- The cycle plan of tiers `sel` (R149). -/
def State.selPlan (s : State) (x : Nat) (c : Bool) (as : List SelTask) (sel : SMap Nat) : Nat :=
  let free := (s.toWake x).foldl (fun f k => SMap.insert f k s.wakeCyc) []
  s.listPlan x free (as.map (fun a =>
    let ns := selTiers a ((SMap.find sel a.t).getD 0) c
    (a.t, (ns.map (s.ttCyc x a.t)).foldl (· + ·) 0 + if ns.length = 2 then s.ttXfCyc x a.t else 0)))

/-- What the selection compares with: copy, ticks, tasks in rank order, B and W. -/
structure SelCtx where
  x : Nat
  ticks : Nat
  as : List SelTask
  ranked : List SelTask
  b : Nat
  w : Nat
  deriving DecidableEq, Repr

def State.steadyFits (s : State) (c : SelCtx) (sel : SMap Nat) : Bool :=
  decide (s.selEnergy c.x c.ticks false c.as sel ≤ c.b) && decide (s.selPlan c.x false c.as sel ≤ c.w)

/-- The drop loop of R164: the tiers, and whether it ended with nothing left to lower. -/
def State.dropLoop (s : State) (c : SelCtx) : Nat → SMap Nat → SMap Nat × Bool
  | 0, sel => (sel, true)
  | n + 1, sel =>
    if s.steadyFits c sel then (sel, false)
    else
      match c.ranked.reverse.find? (fun a => a.st.xf == 0 && decide (0 < (SMap.find sel a.t).getD 0)) with
      | none => (sel, true)
      | some a => s.dropLoop c n (SMap.insert sel a.t ((SMap.find sel a.t).getD 0 - 1))

/-- The climbs of R164, in rank order. -/
def State.climbs (s : State) (c : SelCtx) (sel : SMap Nat) : SMap Nat :=
  c.ranked.foldl (fun sel a =>
    let n := (SMap.find sel a.t).getD 0
    if a.st.xf = 0 ∧ !a.isNew ∧ n = a.st.cur ∧ a.st.cur < a.top ∧ a.st.hold = 0 then
      let up := SMap.insert sel a.t (n + 1)
      if c.b * (64 - s.g F.FCST_HOLD_UP_MARGIN) / 64 < s.selEnergy c.x c.ticks true c.as up ∨
          c.w < s.selPlan c.x true c.as up then sel
      else up
    else sel) sel

/-- The tier state task `a` takes with tier `n` selected (R147, R165). -/
def State.selState (s : State) (x : Nat) (a : SelTask) (n : Nat) : TierSt :=
  if a.isNew then { a.st with cur := n, out := n }
  else if a.st.xf = 0 ∧ n ≠ a.st.cur then a.st.fade n (s.ttXfTicks x a.t) (holdTicks s)
  else a.st

/-- The budget state of a selection (R167). -/
def State.budgetState (s : State) (c : SelCtx) (k : Nat) (sel : SMap Nat) (above : Bool) : Nat :=
  let below := c.as.any (fun a => decide ((SMap.find sel a.t).getD 0 < a.req))
  let soft := c.as.filter (fun a => s.ttClass c.x a.t != 0)
  if above then 3
  else if s.forceCapAt k < 3 then 2
  else if soft ≠ [] ∧ soft.all (fun a => (SMap.find sel a.t).getD 0 == 0) ∧ below then 2
  else if below then 1 else 0

/-- The change of budget state at a selection (R168). -/
def State.setBudgetState (s : State) (n : Nat) : State :=
  let old := s.g F.FCST_STAT_STATE
  if n = old then s
  else
    let s := (s.p F.FCST_STAT_STATE n).event evState s.myId [BitVec.ofNat 32 (old * 4 + n)]
    let s := if s.on F.FCST_CTL_IRQ_EN then { s with irq := s.irq ++ [.fcst] } else s
    if n = 3 then s.emit Kind.budgetOverrun Src.forecast else s

/-- The copy that boundary `k` puts or leaves in force (R145). -/
def State.copyAt (s : State) (k : Nat) : Nat :=
  if s.g F.FCST_TT_CTL_STATE = 1 ∧ s.fc.ttTgt = k then 1 - s.ttSel else s.ttSel

/-- The selection for tick `k` (R152, R164), with the catch-up check (R173), at whose boundary `run` ticks have run under the
copy in force now. CW is that of the core clock in force as it is computed, not of one that takes effect at boundary `k`. Log 76, DESIGN CHOICE. -/
def State.select (s : State) (k run : Nat) : State :=
  let x := s.copyAt k
  let ticks := if x ≠ s.ttSel ∨ !s.fc.ttLive then 0 else run
  let as := (s.ttTasks x).map (s.selTask x k)
  let ranked := (s.ttRanked x).map (s.selTask x k)
  let bt := s.budget
  let c : SelCtx := ⟨x, ticks, as, ranked, bt.1, s.cw * (64 - s.g F.FCST_HOLD_CYC_MARGIN) / 64⟩
  let sel0 := as.foldl (fun m a => SMap.insert m a.t (if 0 < a.st.xf then a.st.cur else min a.st.cur a.top)) []
  let d := s.dropLoop c 512 sel0
  let sel := if d.2 then d.1 else s.climbs c d.1
  let st := s.budgetState c k sel d.2
  let steady := s.selEnergy x ticks false as sel
  let commit := s.selEnergy x ticks true as sel
  let plan := s.selPlan x true as sel
  let next : SMap TierSt := as.foldl (fun m a => SMap.insert m a.t (s.selState x a ((SMap.find sel a.t).getD 0))) []
  let t0 := s.listPlan x [] ((s.ttTasks x).map (fun t => (t, s.ttCyc x t 0)))
  let ok := decide (t0 ≤ s.cw / 4)
  let s := ((s.setBudgetState st).flag F.FCST_STAT_TH_LIMIT bt.2).p F.FCST_CYC_T0_V t0
  let s := (s.flag F.FCST_STAT_CATCHUP_OK ok).flag F.PAIR_STAT_PAIR_CATCHUP_OK ok
  { s with fc := { s.fc with sel := some ⟨k, x, next, decide (bt.1 < commit) || decide (s.cw < plan), st, bt.1, steady, commit, plan⟩ } }

/-! ## Table switches (R145, R147) -/

/-- The calibrated estimates of all tasks cleared. -/
def State.clearEobs (s : State) : State :=
  { s with regs := s.regs.filter (fun e => decide (e.1 < 0x03010800 ∨ 0x03011000 ≤ e.1)) }

/-- Copy `x` comes into force: tasks that do not continue lose their tier state and coefficient state (R147, R197). -/
def State.switchTable (s : State) (x : Nat) : State :=
  let keep := (List.range 128).filter (fun t => s.ttValid x t && s.continues x t)
  let s := (s.clearEobs).p F.FCST_TT_CTL_SEL x
  let s := (List.range 128).foldl (fun s t => if t ∈ keep then s else s.wr (R.XING_CS t) 0) s
  { s with fc := { s.fc with ttLive := true, ttTicks := 0, tier := s.fc.tier.filter (fun e => decide (e.1 ∈ keep))
                             fix := s.fc.fix.filter (fun e => decide (e.1 ∈ keep)) }
           pr := { s.pr with sigDirty := true } }

/-- The FCST_STAT.TT_WARMUP bit (R156). -/
def State.warmup (s : State) : State :=
  s.flag F.FCST_STAT_TT_WARMUP (s.fc.ttLive && decide (s.fc.ttTicks < 64))

/-- Whether the Forecast selects and dispatches for the role: not as WAITING, STANDBY or TAKING (R151, R244). -/
def State.selects (s : State) : Bool := !s.standby && s.role != 1

/-- A tick has ended: its committed estimate counts towards the mean power of the millisecond (R157), and the tick among
those run under the copy in force (R147). -/
def State.tickRun (s : State) : State :=
  let p := (s.rd R.FCST_COMMIT).toNat * s.fs / (s.nSamp * 10 ^ 4)
  ({ s with fc := { s.fc with pwSum := s.fc.pwSum + p, pwTicks := s.fc.pwTicks + 1
                              ttTicks := if s.fc.ttLive then s.fc.ttTicks + 1 else s.fc.ttTicks } } : State).warmup

/-- Ticks stop: what the last tick left for the next one is not counted (R152). -/
def State.forecastStop (s : State) : State :=
  let s := s.tickRun
  { s with fc := { s.fc with sel := none, fix := [] } }

/-- The Forecast at the boundary of tick `k` (R145, R152): an armed switch, then the selection takes effect. `first`
is the first boundary of a run. -/
def State.forecastBoundary (s : State) (k : Nat) (first : Bool) : State :=
  let s := if first then s else s.tickRun
  let s :=
    if !s.selects then { s with fc := { s.fc with sel := none } }
    else match s.fc.sel with
      | some v => if v.tick = k ∧ v.copy = s.copyAt k ∧ !first then s else s.select k s.fc.ttTicks
      | none => s.select k s.fc.ttTicks
  let s :=
    if s.g F.FCST_TT_CTL_STATE = 1 ∧ s.fc.ttTgt = k then (s.switchTable (1 - s.ttSel)).p F.FCST_TT_CTL_STATE 2
    else if s.g F.FCST_TT_CTL_STATE = 1 ∧ s.fc.ttTgt < k then s.p F.FCST_TT_CTL_STATE 4
    else s
  let s := s.warmup
  let s := { s with fc := { s.fc with run := [], doneOn := [], acts := [], actTick := [], disp := [], fix := [] } }
  match s.fc.sel with
  | none => { s with fc := { s.fc with tier := s.fc.tier.map (fun e => (e.1, e.2.advance)) } }
  | some v =>
    let s := ((s.wr R.FCST_BUDGET (BitVec.ofNat 32 v.budget)).wr R.FCST_STEADY (BitVec.ofNat 32 v.steady)).wr
      R.FCST_COMMIT (BitVec.ofNat 32 v.commit)
    let s := (s.p F.FCST_CYC_PLAN_V v.plan).inc (R.FCST_ST_CNT v.state)
    let s := if v.breach then s.flag F.FCST_STAT_XF_BREACH true else s
    { s with fc := { s.fc with tier := v.tiers, sel := none } }

/-! ## Dispatch (R148) -/

/-- Whether a region safe state holds a cluster of task `t` (R301). -/
def State.taskHeld (s : State) (t : Nat) : Bool :=
  (s.ttClusters s.ttSel t).any (fun c => s.regionSafe (c / 4))

/-- Whether task `t` counts as completed on the clusters `cs` of its set (R148). -/
def State.overOn (s : State) (t : Nat) (cs : List Nat) : Bool :=
  s.runOf t == .excluded || (s.runOf t == .waiting && s.taskHeld t) ||
    ((s.runOf t == .done || s.runOf t == .ill || s.runOf t == .halted || s.runOf t == .running) &&
      cs.all (fun c => SMap.get noneB s.fc.doneOn (16 * t + c)))

/-- Whether task `t` counts as completed for those that wait for it (R148). -/
def State.taskOver (s : State) (t : Nat) : Bool := s.overOn t (s.ttClusters s.ttSel t)

/-- The conditions of R148 for task `t`. -/
def State.dispatchable (s : State) (t : Nat) : Bool :=
  let x := s.ttSel
  s.ttValid x t && s.runOf t == .waiting && !s.taskHeld t && !s.chipSafe &&
    (s.ttPreds x t).all s.taskOver &&
    ((s.ttTasks x).filter (fun u => decide (u < t))).all (fun u =>
      let cs := (s.ttClusters x u).filter (fun c => decide (c ∈ s.ttClusters x t))
      cs == [] || s.overOn u cs) &&
    (s.ttClusters x t).all (fun c => s.g (F.CL_STAT_STATE c) == 2)

/-- XF_TIER in the j-th tick of a crossfade (R165), or XF_COEF (R196). Log 24, DEDUCED. -/
def fadeWeight (j len : Nat) : Nat := 2 ^ 30 * j / (len + 1)

/-- TIER, TIER_OUT and XF_TIER of a tier state (R165). -/
def TierSt.values (a : TierSt) : Nat × Nat × Nat :=
  if 0 < a.xf then (a.cur, a.out, fadeWeight (a.len - a.xf + 1) a.len) else (a.cur, a.cur, 2 ^ 30)

/-- SET and XF_COEF of task `t` (R196): XF_LEFT is the ticks remaining of a crossfade of XF_LEN ticks. -/
def State.coefValues (s : State) (t : Nat) : Nat × Nat :=
  let tgt := s.g (F.XING_CS_TARGET t)
  let len := SMap.get zeroN s.xg.xfLen t
  if s.on (F.XING_CS_XF t) then (tgt + 2, fadeWeight (len - s.g (F.XING_CS_XF_LEFT t) + 1) len) else (tgt, 2 ^ 30)

/-- The register file, the addressing registers and the loop levels at the entry of a task (R66, R89, R136). -/
def Cluster.enter (k : Cluster) (entry : Nat) : Cluster :=
  { k with lanes := (List.range 17).foldl (fun m n =>
             let l := SMap.get zeroLane m n
             SMap.set zeroLane m n { l with d := [], acc := [], pf := 0 }) k.lanes
           pend := [], p := [], bnd := [], m := [], b := [], len := [], lc := [], ls := [], le := [], depth := 0
           pc := entry, cyc := 8, issued := 0, accAt := [], rsumAt := [], arCnt := 0, arLane := 0, arAddr := 0
           ofCnt := 0, ofLane := 0, ofAddr := 0, ran := true }

/-- Cluster `c` enters task `t` (R136, R137) with the tier values `tv`, the coefficient values `cv` and the low tick
number `tl`. -/
def State.enterTask (s : State) (t c : Nat) (tv : Nat × Nat × Nat) (cv : Nat × Nat) (tl : Word) : State :=
  let x := s.ttSel
  let cs := s.ttClusters x t
  let vals : List Word :=
    [BitVec.ofNat 32 t, BitVec.ofNat 32 tv.1, BitVec.ofNat 32 tv.2.1, BitVec.ofNat 32 tv.2.2, BitVec.ofNat 32 cv.1,
     BitVec.ofNat 32 (bitsOf (s.ttw x t 6) 19 0), BitVec.ofNat 32 (bitsOf (s.ttw x t 7) 19 0), BitVec.ofNat 32 cv.2, tl,
     BitVec.ofNat 32 (cs.countP (fun d => decide (d < c))), BitVec.ofNat 32 cs.length, BitVec.ofNat 32 s.nSamp,
     s.ttw x t 5]
  let s := (List.range 13).foldl (fun s i => s.wr (R.SEQ_IN c i) (vals.getD i 0)) s
  let s := (s.setClu c ((s.clu c).enter (s.ttEntry x t))).p (F.CL_STAT_STATE c) 3
  let s := ((s.flag (F.CL_TASK_ACTIVE c) true).p (F.CL_TASK_TASK c) t).inc (R.CL_DISP_CNT c)
  { s with fc := { s.fc with disp := SMap.set noneB s.fc.disp c true } }

/-- Task `t` enters all its clusters. -/
def State.startTask (s : State) (t : Nat) (tv : Nat × Nat × Nat) (cv : Nat × Nat) (tl : Word) : State :=
  ((s.ttClusters s.ttSel t).foldl (fun s c => s.enterTask t c tv cv tl) s).setRun t .running

/-- Under a forcing, a non-critical task that is not in a crossfade begins its drop to tier 0 as it is dispatched
(R171). -/
def State.forcedTier (s : State) (t : Nat) : State :=
  match SMap.find s.fc.tier t with
  | some a =>
    if s.forceCapAt s.tick = 0 ∧ s.ttClass s.ttSel t ≠ 0 ∧ a.xf = 0 ∧ 0 < a.cur then
      { s with fc := { s.fc with tier := SMap.insert s.fc.tier t (a.fade 0 (s.ttXfTicks s.ttSel t) (holdTicks s)) } }
    else s
  | none => s

/-- The tier state in force of task `t`. -/
def State.tierOf (s : State) (t : Nat) : TierSt := (SMap.find s.fc.tier t).getD ⟨0, 0, 0, 0, 0, false⟩

/-- The memory banks of cluster `c` leave retention as it wakes. -/
def State.clusterBanks (s : State) (c : Nat) : State :=
  { s with mx := { s.mx with ret := s.mx.ret.filter (fun e => !(e.1 / 16 == c && decide (e.1 < 256)) && e.1 != 256 + c) } }

/-- Waking of cluster `c` begins (R150). -/
def State.wakeOne (s : State) (c : Nat) : State := (s.p (F.CL_STAT_STATE c) 1).clusterBanks c

/-- Waking of the OFF clusters that the tick dispatches to begins (R150). -/
def State.wakeClusters (s : State) : State := (s.toWake s.ttSel).foldl State.wakeOne s

/-- Cluster `c` is power-gated (R67, R95, R111, R150). -/
def State.powerOff (s : State) (c : Nat) : State :=
  let k := s.clu c
  let ls := (List.range 17).foldl (fun m n =>
    SMap.set zeroLane m n { Lane.zero with lstat := (SMap.get zeroLane m n).lstat }) k.lanes
  (s.setClu c { k with lanes := ls, pend := [], p := [], bnd := [], m := [], b := [], len := [], lc := [], ls := [],
                       le := [], depth := 0 }).p (F.CL_STAT_STATE c) 0

/-! ## The end of the compute window (R150, R154, R155, R169, R170) -/

/-- Clusters idle for GATE_TICKS ticks are power-gated (R150); a standby gates none of its own accord (R151). -/
def State.gateClusters (s : State) : State :=
  let n := s.g F.FCST_HOLD_GATE_TICKS
  (List.range 16).foldl (fun s c =>
    let i := if SMap.get noneB s.fc.disp c then 0 else SMap.get zeroN s.fc.idle c + 1
    let s := { s with fc := { s.fc with idle := SMap.set zeroN s.fc.idle c i } }
    if n ≠ 0 ∧ n ≤ i ∧ s.g (F.CL_STAT_STATE c) = 2 ∧ !s.standby then s.powerOff c else s) s

/-- The calibration factor after a tick of measured energy `meas` (R154): the quotients are exact up to the floor. Log 28, DEDUCED. -/
def State.calibrate (s : State) (meas : Nat) : State :=
  let s := s.wr R.FCST_MEAS (BitVec.ofNat 32 meas)
  let a := s.activity (fun n => SMap.get zeroN s.fc.actTick n)
  if s.on F.FCST_CAL_MON_VALID ∧ 10 ^ 7 ≤ a then
    let k : Int := s.g F.FCST_CAL_K
    let d : Int := (meas * s.fs : Nat) - (s.g F.FCST_PFIX_PFIX * s.nSamp * 10 ^ 7 : Nat)
    let af : Int := (a * s.fs : Nat)
    let r := s.rounded (k + (4096 * 10 ^ 4 * d - k * af) / (64 * af)) 1
    r.1.p F.FCST_CAL_K (clip 0x0400 0x4000 r.2).toNat
  else s

/-- The observed energies of the tasks that ran at one tier and completed (R155). Log 28, DEDUCED. -/
def State.observe (s : State) : State :=
  (s.ttTasks s.ttSel).foldl (fun s t =>
    let a := s.tierOf t
    if s.runOf t = .done ∧ a.xf = 0 then
      let u := 4096 * 10 ^ 4
      let e := s.g F.FCST_CAL_K * s.activity (fun n => SMap.get zeroN s.fc.acts (16 * t + n))
      let o := s.g (F.FCST_EOBS_E_OBS t a.cur)
      let r := s.rounded (max e ((o - o / 256) * u) : Nat) u
      r.1.p (F.FCST_EOBS_E_OBS t a.cur) (clip 0 (2 ^ 28 - 1) r.2).toNat
    else s) s

/-- The reactions to tasks halted while running, for the next tick (R169, R170). Log 24, DEDUCED. -/
def State.overrunTiers (s : State) : State :=
  let x := s.ttSel
  let halted := (s.ttTasks x).filter (fun t => s.runOf t == .halted)
  let fixHalted := fun (m : SMap TierSt) (t : Nat) =>
    let a := s.tierOf t
    if 0 < a.xf then
      let n := min a.cur a.out
      SMap.insert m t { a.advance with cur := n, out := n, xf := 0, hold := holdTicks s }
    else if 0 < a.cur then
      SMap.insert m t { a.advance with cur := a.cur - 1, out := a.cur - 1, hold := holdTicks s }
    else m
  let fix := halted.foldl fixHalted []
  let s := { s with fc := { s.fc with fix := fix, ovr := halted.foldl (fun m t => SMap.insert m t true) [] } }
  if halted ≠ [] ∧ halted.all (fun t => (s.tierOf t).cur == 0 && (s.tierOf t).xf == 0) then
    let shares := fun t => halted.any (fun h => (s.ttClusters x h).any (fun c => decide (c ∈ s.ttClusters x t)))
    let low := (s.ttTasks x).filter (fun t =>
      s.ttClass x t != 0 && shares t && decide (t ∉ halted) && decide (0 < (s.tierOf t).cur))
    low.foldl (fun s t =>
      let a := s.tierOf t
      let n := a.advance
      if n.xf = 0 then
        { s with fc := { s.fc with fix := SMap.insert s.fc.fix t (n.fade (a.cur - 1) (s.ttXfTicks x t) (holdTicks s)) } }
      else { s with fc := { s.fc with tier := SMap.insert s.fc.tier t { a with drop := true } } })
      (s.flag F.FCST_STAT_T0_OVERRUN true)
  else s

/-! ## Thermal model (R157 to R161) -/

/-- The mean VDD_CORE power in µW: measured, or where the monitor is invalid that of the committed estimates of the
ticks that have ended since the last update (R157); without a tick the spec names no power, and it is a free value. The
sum starts anew. Log 26, DESIGN CHOICE. -/
def State.thermPower (s : State) (meas : Nat) : State × Nat :=
  let r : State × Nat :=
    if s.on F.FCST_CAL_MON_VALID then (s, meas)
    else if 0 < s.fc.pwTicks then (s, s.fc.pwSum / s.fc.pwTicks)
    else let f := s.nextFree; (f.1, (Config.freeWord f.2).toNat)
  ({ r.1 with fc := { r.1.fc with pwSum := 0, pwTicks := 0 } }, r.2)

/-- T_rise after an update with power `p` in µW (R158), in 2^-32 °C. Log 5, DEDUCED. -/
def State.nextRise (s : State) (p : Nat) : Int :=
  let rp : Int := (s.g F.FCST_THERM_RTH * p * 2 ^ 32 / 10 ^ 8 : Nat)
  let e : Int := expNeg 1 (100 * max 1 (s.g F.FCST_THERM_TAU))
  s.fc.tRise + (rp - s.fc.tRise) * (2 ^ 60 - e) / 2 ^ 60

/-- A temperature register in 1/64 °C, within one unit (R160). -/
def State.showTemp (s : State) (f : Fld) (v : Int) : State :=
  let r := s.rounded v (2 ^ 26)
  r.1.p f (unsigned 16 (clip (-32768) 32767 r.2))

/-- GALE is forced (R161, R171). Log 27, DEDUCED. -/
def State.forceGale (s : State) : State :=
  let s := { s with fc := { s.fc with release := false, relTick := none } }
  (s.flag F.FCST_STAT_FORCED true).p F.FCST_STAT_FORCE_CAP 0

/-- The thermal update (R158, R161): `meas` is the mean VDD_CORE power in µW, `ts` the readings taken as valid, in
1/64 °C. THERM_SENSE goes out at the first update without a valid reading, not at those that follow. Log 76, DESIGN CHOICE. -/
def State.thermalUpdate (s : State) (meas : Nat) (ts : List Int) : State :=
  let pw := s.thermPower meas
  let s := pw.1
  let rise := s.nextRise pw.2
  let s := { s with fc := { s.fc with tRise := rise } }
  match ts with
  | [] =>
    let s := if s.on F.FCST_STAT_SENS_INVALID then s else s.emit Kind.thermSense Src.forecast
    let s := (s.flag F.FCST_STAT_SENS_INVALID true).showTemp F.FCST_TH_T_RISE rise
    ({ s with fc := { s.fc with senseLow := true } }).forceGale
  | t :: more =>
    let tS := more.foldl max t * 2 ^ 26
    let ref := tS - rise
    let due := if s.fc.release ∧ !s.fc.supplyLow then some (s.tick + 1) else s.fc.relTick
    let s := { s with fc := { s.fc with tS := tS, tRef := ref, therm := s.rd R.FCST_THERM, pthLive := true, relTick := due
                                        release := s.fc.senseLow, senseLow := false } }
    let s := ((s.flag F.FCST_STAT_SENS_INVALID false).showTemp F.FCST_TH_T_RISE rise).showTemp F.FCST_TH_T_REF ref
    let s := s.showTemp F.FCST_TS_T_S tS
    let p := s.pthFrac
    let r := s.rounded p.1 (10 ^ 4 * p.2)
    r.1.p F.FCST_TS_PTH (clip 0 0xFFFF r.2).toNat

end Sys2Proof.Machine
end

