-- ==== Sys2Proof/Machine/Cluster.lean ====
section
/-!
DEFINITION. Commands on clusters and on the Forecast: dispatch and completion of tasks (R136, R138, R148), wake,
self-test and injections, program memory writes (R134, R135), the task table (R142 to R147) and the thermal update.
-/
namespace Sys2Proof.Machine

/-! ## Completion (R138) -/

/-- The ARITH and OFS_RANGE messages of the task that ends on cluster `c` (R72, R98). -/
def State.endMessages (s : State) (c : Nat) : State :=
  let k := s.clu c
  let s := if k.arCnt = 0 then s
    else (s.bump (F.ARITH_CNT_COUNT c) k.arCnt).emit Kind.arith (Src.cluster c k.arLane) k.arAddr k.arCnt
  let s := if k.ofCnt = 0 then s else s.emit Kind.ofsRange (Src.cluster c k.ofLane) k.ofAddr k.ofCnt
  s.setClu c { s.clu c with arCnt := 0, ofCnt := 0 }

/-- The cycle record of a completion (R138). -/
def State.recordCycles (s : State) (c t n : Nat) : State :=
  let s := (s.p (F.CL_CYC_LAST_TASK c) t).p (F.CL_CYC_LAST_CYCLES c) (min n (2 ^ 25 - 1))
  if s.g (F.CL_CYC_MAX_CYCLES c) < min n (2 ^ 25 - 1) then
    (s.p (F.CL_CYC_MAX_TASK c) t).p (F.CL_CYC_MAX_CYCLES c) (min n (2 ^ 25 - 1))
  else s

/-- Cluster `c` completes its task, `late` cycles after the two that follow the end of issue; for a task that the Forecast
halted they are counted from its last word, or its dispatch, so that the halt lies among them (R138). Log 15, DEDUCED. -/
def State.completeTask (s : State) (c late : Nat) : State :=
  let t := s.g (F.CL_TASK_TASK c)
  let n := (s.clu c).cyc + late
  let s := ((s.endMessages c).recordCycles c t n).countAct c 8 n
  let s := (s.flag (F.CL_TASK_ACTIVE c) false).p (F.CL_STAT_STATE c) 2
  let s := { s with fc := { s.fc with doneOn := SMap.set noneB s.fc.doneOn (16 * t + c) true } }
  if s.runOf t = .running ∧ (s.ttClusters s.ttSel t).all (fun d => SMap.get noneB s.fc.doneOn (16 * t + d)) then
    s.setRun t .done
  else s

/-- The Forecast halts the task of cluster `c`, at the 0.80T mark or at a region safe state (R139). Log 15, DEDUCED. -/
def State.haltCluster (s : State) (c : Nat) : State :=
  if s.issuing c then s.haltTask c else s

/-! ## Clusters -/

/-- CLUSTER_WAKE_DONE (R150). -/
def State.wakeDone (s : State) (c : Nat) : State :=
  if s.g (F.CL_STAT_STATE c) = 1 then s.p (F.CL_STAT_STATE c) 2 else s

/-- LANE_BIST (R83). A retired lane is tested in the consign phase, 1,024 ticks or more after its last test; `pass` is the
result. Log 18, DESIGN CHOICE. -/
def execLaneBist (c : Fin 16) (pass : Bool) (s : State) : Host.Outcome State Fault Refusal :=
  if s.on (F.LANE_MAP_RETIRED c) ∧ s.tm.phase = .consign ∧ (s.clu c).bistDue ≤ s.tick then
    let s := s.setClu c { s.clu c with bistDue := s.tick + 1024 }
    .next (if pass then s.bump (F.LANE_MAP_BIST_PASSES c) 1 else s.flag (F.LANE_MAP_BIST_FAIL c) true)
  else .next s

/-- SHADOW_CTL.INJ written (R85). -/
def State.shadowInj (s : State) (c : Nat) : State :=
  if s.g (F.SHADOW_STAT_STATE c) < 3 then s.flag (F.SHADOW_CTL_INJ c) true else s

/-- SHADOW_INJ (R85). In OFF and RETIRING nothing is injected. -/
def execShadowInj (c : Fin 16) (s : State) : Host.Outcome State Fault Refusal := .next (s.shadowInj c).ok

/-- ILL_INJ (R132). -/
def execIllInj (c : Fin 16) (s : State) : Host.Outcome State Fault Refusal :=
  .next (s.flag (F.CL_CTL_ILL_INJ c) true).ok

/-- CYC_MAX_CLR (R138). -/
def execCycMaxClr (c : Fin 16) (s : State) : Host.Outcome State Fault Refusal :=
  .next (s.wr (R.CL_CYC_MAX c) 0).ok

/-! ## Program memory (R134, R135) -/

/-- A refused write: an error response, CL_STAT.PM_WR_ERR. -/
def State.progRefused (s : State) (c : Nat) : State := (s.flag (F.CL_STAT_PM_WR_ERR c) true).err

/-- Both halves of program word `x` written with their check bits. -/
def State.progWord (s : State) (c x : Nat) (v : BitVec 64) : State :=
  (s.writeW (progByte c x) (v.extractLsb' 0 32)).writeW (progByte c x + 4) (v.extractLsb' 32 32)

/-- Half `v` of a program word at byte offset `o`: a lower one is staged, an upper one commits the word whose lower half is
staged, and is refused otherwise. -/
def State.progHalf (s : State) (c o : Nat) (v : Word) : Option State :=
  let k := s.clu c
  if o % 8 = 0 then some (s.setClu c { k with stage := some (o / 8, v) })
  else
    match k.stage with
    | some (x, lo) => if x = o / 8 then some ((s.setClu c { k with stage := none }).progWord c x (v ++ lo)) else none
    | none => none

/-- Words of a burst from byte offset `o`: whole program words are written directly. A half at an end of the burst, of which the
spec does not speak, is a write of that half. Log 75, DESIGN CHOICE. -/
def State.progBurst (s : State) (c : Nat) : Nat → List Word → Option State
  | _, [] => some s
  | o, [v] => s.progHalf c o v
  | o, lo :: hi :: ws =>
    if o % 8 = 0 then (s.progWord c (o / 8) (hi ++ lo)).progBurst c (o + 8) ws
    else (s.progHalf c o lo).bind (fun t => t.progBurst c (o + 4) (hi :: ws))

/-- Whether a write at byte offset `o` is misaligned (R9): a burst of more than 8 bytes begins at a multiple of 4. -/
def progMisaligned (d : PmData) (o : Nat) : Bool :=
  match d with
  | .narrow => false
  | .half _ => o % 4 != 0
  | .words ws => if ws.length = 2 then o % 8 != 0 else o % 4 != 0

/-- A bus write at byte offset `o` of the program memory of cluster `c`; a decode goes out under `src`. A burst that runs past
the last word is refused whole, which the spec leaves open. Log 75, DESIGN CHOICE. -/
def State.progWrite (s : State) (src c o : Nat) (d : PmData) : State :=
  let st := s.g (F.CL_STAT_STATE c)
  if progMisaligned d o then (s.decodeError src (progByte c 0 + o)).err
  else if 3 ≤ st then (s.setClu c { s.clu c with stage := none }).progRefused c
  else
    let t := match d with
      | .narrow => none
      | .half v => s.progHalf c o v
      | .words ws => if o + 4 * ws.length ≤ 65536 then s.progBurst c o ws else none
    match t with
    | some t => t.ok
    | none => s.progRefused c

/-- PROG_MEM_WRITE (R134, R135). -/
def execProgMemWrite (c : Fin 16) (o : Fin 65536) (d : PmData) (s : State) : Host.Outcome State Fault Refusal :=
  .next (s.progWrite (Src.matrix 6) c o d)

/-! ## The task table -/

/-- The writable bits of word `w` of an entry. -/
def ttMask (w : Nat) : Word :=
  if w = 0 then 0xFBF81FFF#32 else if w = 3 ∨ w = 4 then 0x1FFF0FFF#32 else if w = 6 ∨ w = 7 then 0x000FFFFF#32
  else if 8 ≤ w ∧ w < 12 then 0x01FFFFFF#32 else if 12 ≤ w then 0x0FFFFFFF#32 else 0xFFFFFFFF#32

/-- A bus write to a task table word (R142); the reserved CLASS code keeps the field (R11). -/
def State.ttWrite (s : State) (x t w : Nat) (v : Word) : State :=
  if x = s.ttSel ∨ s.g F.FCST_TT_CTL_STATE = 1 then (s.flag F.FCST_STAT_TT_WR_ERR true).err
  else
    let v := if w = 0 ∧ bitsOf v 30 29 = 3 then putBits v 30 29 (s.ttClass x t) else v
    let s := { s with fc := { s.fc with tt := SMap.set zeroW s.fc.tt (2048 * x + 16 * t + w) (v &&& ttMask w) } }
    s.ok

/-- TT_ENTRY_WRITE (R142). -/
def execTtEntryWrite (x : Fin 2) (t : Fin 128) (w : Fin 16) (v : Word) (s : State) : Host.Outcome State Fault Refusal :=
  .next (s.ttWrite x t w v)

/-- The reason why valid entry `t` of copy `x` fails R144, if it does. -/
def State.ttFails (s : State) (x t : Nat) : Option Nat :=
  if s.ttClusters x t = [] then some 0
  else if s.ttXfTicks x t < 1 ∨ 64 < s.ttXfTicks x t then some 1
  else if (s.ttPreds x t).any (fun p => decide (t ≤ p) || !s.ttValid x p) then some 2
  else if (s.ttOuts x t).any (fun r => decide (4096 < r.1 + r.2)) then some 3
  else none

/-- The tick number of two target registers. -/
def State.ttTarget (s : State) : Nat := s.rd64 R.FCST_TT_TGT_LO R.FCST_TT_TGT_HI

/-- FCST_TT_CTL.ARM written (R144, R145, R146). -/
def State.ttArm (s : State) : State :=
  if s.g F.FCST_TT_CTL_STATE = 1 then s.flag F.FCST_STAT_CFG_REFUSED true
  else
    let x := 1 - s.ttSel
    match (s.ttTasks x).findSome? (fun t => (s.ttFails x t).map (fun r => (t, r))) with
    | some (t, r) => ((s.p F.FCST_TT_CTL_STATE 3).p F.FCST_TT_ERR_REASON r).p F.FCST_TT_ERR_TASK t
    | none =>
      if s.ttTarget < s.tick + 2 then ((s.p F.FCST_TT_CTL_STATE 3).p F.FCST_TT_ERR_REASON 4).p F.FCST_TT_ERR_TASK 0
      else
        let s := s.p F.FCST_TT_CTL_STATE 1
        { s with fc := { s.fc with ttTgt := s.ttTarget } }

/-- TT_ARM (R144). -/
def execTtArm (s : State) : Host.Outcome State Fault Refusal := .next s.ttArm.ok

/-- FCST_TT_CTL.DISARM written (R146). -/
def State.ttDisarm (s : State) : State :=
  if s.g F.FCST_TT_CTL_STATE = 1 then s.p F.FCST_TT_CTL_STATE 0 else s

/-- TT_DISARM (R146). -/
def execTtDisarm (s : State) : Host.Outcome State Fault Refusal := .next s.ttDisarm.ok

/-- FCST_TT_CTL.SEL written with a value (R145, R147); one that leaves SEL at its value is judged by nothing. Log 25, DEDUCED. -/
def State.ttSelWrite (s : State) (v : Nat) : State :=
  if v = s.ttSel then s
  else if s.running then s.flag F.FCST_STAT_CFG_REFUSED true
  else (s.switchTable v).warmup

/-- TT_SEL_WRITE (R145). Log 25, DEDUCED. -/
def execTtSelWrite (v : Fin 2) (s : State) : Host.Outcome State Fault Refusal := .next (s.ttSelWrite v).ok

/-! ## Heat and force_cap -/

/-- The readings the Forecast takes as valid, in 1/64 °C (R158, R507); bit i of `stale` where the samples of reading i did not
agree (R331). -/
def State.validTemps (s : State) (stale : BitVec 8) : List Int :=
  (List.range 8).filterMap (fun i =>
    if s.on (F.PWR_TEMP_VALID i) && !stale.getLsbD i then some (s.gi (F.PWR_TEMP_T i)) else none)

/-- Each reading that comes back STALE is reported (R332), under the address of its register. Log 44, DEDUCED. -/
def State.staleTemps (s : State) (stale : BitVec 8) : State :=
  (List.range 8).foldl (fun s i => if stale.getLsbD i then s.emit Kind.cdcStale Src.forecast (R.PWR_TEMP i) else s) s

/-- The current monitor is valid (with a measurement) or not (R157): it is not while VDD_CORE is below warning (R509). -/
def State.monitor (s : State) (m : Option Nat) : State :=
  let ok := m.isSome && !(s.g F.PWR_STAT_WARN).testBit 0
  (s.flag F.FCST_CAL_MON_VALID ok).flag F.PWR_IMON_VALID ok

/-- THERMAL_UPDATE (R158). `power` is the mean VDD_CORE power in µW over the last millisecond where the monitor is
valid; bit i of `stale` where the samples of reading i did not agree. Log 3, DESIGN CHOICE. -/
def execThermalUpdate (power : Option Nat) (stale : BitVec 8) (s : State) : Host.Outcome State Fault Refusal :=
  .next ((((s.staleTemps stale).monitor power).thermalUpdate (power.getD 0) (s.validTemps stale)))

/-- FORCE_CAP_RISE (R172). The cap shown rises by one where the release that is due allows more. -/
def execForceCapRise (s : State) : Host.Outcome State Fault Refusal :=
  let n := s.g F.FCST_STAT_FORCE_CAP
  match s.capDue with
  | some r =>
    if r ≤ s.tick ∧ n < 3 then
      .next ((({ s with fc := { s.fc with relTick := some r } } : State).p F.FCST_STAT_FORCE_CAP (n + 1)).flag F.FCST_STAT_FORCED
        (decide (n + 1 < 3)))
    else .next s
  | none => .next s

end Sys2Proof.Machine
end

