-- ==== Sys2Proof/Machine/Fields.lean ====
section
/-!
DEFINITION. A write to a register by the access types of its fields (R10, R11), and whether a far domain answers (R333, R334).
-/
namespace Sys2Proof.Machine

/-- What a write of `v` leaves in field `f` of a register that holds `w` (R10): RO and WO fields keep what is stored,
W1CG bits are cleared by their own rules. -/
def FieldSpec.written (f : FieldSpec) (w v : Word) : Word :=
  let x := bitsOf v f.hi f.lo
  match f.acc with
  | .rw => putBits w f.hi f.lo x
  | .seal => putBits w f.hi f.lo x
  | .w1c => putBits w f.hi f.lo (bitsOf w f.hi f.lo &&& (2 ^ (f.hi + 1 - f.lo) - 1 - x))
  | .w1s => putBits w f.hi f.lo (bitsOf w f.hi f.lo ||| x)
  | .ro => w
  | .wo => w
  | .w1cg => w

/-- The fields of the register at `a`. Log 9, DEDUCED. -/
def fieldsAt (a : Nat) : List FieldSpec :=
  match regSpecAt a with
  | some (r, _) => r.fields
  | none => []

/-- A write of `v` to the register at `a`, field by field. -/
def State.fieldWrite (s : State) (a : Nat) (v : Word) : State :=
  s.wr a ((fieldsAt a).foldl (fun w f => f.written w v) (s.rd a))

/-- The field `f` of the value `v` of a write. -/
def Fld.of (f : Fld) (v : Word) : Nat := bitsOf v f.hi f.lo

/-- The value of a write with field `f` kept as the register holds it (R11). -/
def State.keep (s : State) (f : Fld) (v : Word) : Word := putBits v f.hi f.lo (s.g f)

/-- CLOCK_PRESENT and READY of domain `d` (the domain codes of R337). -/
def presentOf (d : Nat) : Fld :=
  if d < 24 then F.SAP_STAT_CLOCK_PRESENT d else if d < 32 then F.NGL_STAT_CLOCK_PRESENT (d - 24)
  else if d < 34 then F.ETH_STAT_CLOCK_PRESENT (d - 32) else F.HOST_STAT_CLOCK_PRESENT
def readyOf (d : Nat) : Fld :=
  if d < 24 then F.SAP_STAT_READY d else if d < 32 then F.NGL_STAT_READY (d - 24)
  else if d < 34 then F.ETH_STAT_READY (d - 32) else F.HOST_STAT_READY

/-- Whether the far side of domain `d` answers: its clock runs, which CLOCK_PRESENT says late (R334), and its crossing is ready
(R333). -/
def State.farLive (s : State) (d : Nat) : Bool :=
  s.on (presentOf d) && s.on (readyOf d) && !SMap.get noneB s.mx.stopped d

/-- The clock of domain `d` stops, or runs. -/
def State.setStopped (s : State) (d : Nat) (on : Bool) : State :=
  { s with mx := { s.mx with stopped := SMap.set noneB s.mx.stopped d on } }

/-- The domain whose clock the register at `a` needs (R14, R28). -/
def farDomain (a : Nat) : Option Nat :=
  match regSpecAt a with
  | some (r, ix) =>
    if !r.far then none
    else
      match (a - 0x03000000) / 0x10000 with
      | 8 => some (24 + ix.headD 0)
      | 10 => some (ix.headD 0)
      | 11 => some (32 + ix.headD 0)
      | _ => some 34
  | none => none

/-- Whether an address is decoded on the peripheral bus (R327). -/
def onBus (a : Nat) : Bool := decide (0x03000000 ≤ a ∧ a < 0x04000000)

/-- The source under which an access to no register is reported (R327): `src` is that of the fast matrix. -/
def decodeSrc (src a : Nat) : Nat := if onBus a then Src.pbus else src

/-- A write that names no register of its block reaches the default target (R12, R327), on the peripheral bus. -/
def State.unmapped (s : State) (a : Nat) : State := (s.decodeError Src.pbus a).err

end Sys2Proof.Machine
end

