-- ==== Sys2Proof/Machine/Ramp.lean ====
section
/-!
DEFINITION. The 16-sample ramps of R56 to R58, as the slot DMA, the receive slots (R433) and the transmit slots (R59)
apply them.
-/
namespace Sys2Proof.Machine

/-- (v × g) >> 4, as a 32-bit word (R8, R56). -/
def rampScale (v : Word) (g : Nat) : Word := BitVec.ofInt 32 (v.toInt * g / 16)

/-- One step of a ramp-down. -/
def Ramp.fall (r : Ramp) : Ramp :=
  let g := r.g - 1
  { r with g := g, down := g != 0, up := false, last := rampScale r.h g }

/-- One sample period: `x` is the sample, absent where it is lost (R56, R57, R58). Log 22, DEDUCED. -/
def Ramp.step (r : Ramp) (x : Option Word) : Ramp :=
  if r.down then r.fall
  else if r.up then
    match x with
    | some v => let g := r.g + 1; { r with g := g, up := g != 16, last := rampScale v g }
    | none => ({ r with h := r.last, g := 16 } : Ramp).fall
  else if r.g = 0 then { r with last := 0 }
  else
    match x with
    | some v => { r with last := v }
    | none => ({ r with h := r.last, g := 16 } : Ramp).fall

/-- The ramp at the start of a tick: a ramp-up begins where the tick starts with G = 0 and all its samples are there
(R57). -/
def Ramp.start (r : Ramp) (whole : Bool) : Ramp := if r.g = 0 ∧ whole then { r with up := true } else r

/-- The samples of a tick through the ramp. -/
def Ramp.run (r : Ramp) : List (Option Word) → Ramp × List Word
  | [] => (r, [])
  | x :: xs =>
    let r1 := r.step x
    let t := r1.run xs
    (t.1, r1.last :: t.2)

/-- A whole tick of samples. -/
def Ramp.tick (r : Ramp) (xs : List (Option Word)) : Ramp × List Word := (r.start (xs.all Option.isSome)).run xs

end Sys2Proof.Machine
end

