-- ==== Sys2Proof/Machine/Levee.lean ====
section
/-!
DEFINITION. The Levee's arithmetic (spec/08): coefficients (R209), the gain stage (R207), the gate (R208), mute causes
(R216, R217), amplifier faults (R221, R224), bindings (R204) and first use (R231).
-/
namespace Sys2Proof.Machine

/-! ## Integer roots and exponentials -/

/-- The largest r below 2^n with `ok r`, for an `ok` that holds up to a bound. -/
def largest (n : Nat) (ok : Nat → Bool) : Nat :=
  (List.range n).reverse.foldl (fun r k => if ok (r + 2 ^ k) then r + 2 ^ k else r) 0

/-- The integer square root of `v`, below 2^n. Log 32, DEDUCED. -/
def isqrt (n v : Nat) : Nat := largest n (fun r => decide (r * r ≤ v))

/-- floor(2^p × 10^(−a/k)): r is at most that exactly when r^k × 10^a ≤ 2^(pk). Log 32, DEDUCED. -/
def attenuated (p k a : Nat) : Nat := largest (p + 1) (fun r => decide (r ^ k * 10 ^ a ≤ 2 ^ (p * k)))

/-- 2^192 × (1 − exp(−num/den)), for num below den: the Taylor series, exact to below 2^-160. -/
def decay (num den : Nat) : Nat :=
  let r := (List.range 40).foldl (fun (r : Int × Int) (i : Nat) =>
    let term := -(r.2 * (num : Int)) / ((den * (i + 1) : Nat) : Int)
    (r.1 - term, term)) ((0 : Int), (2 : Int) ^ 192)
  r.1.toNat

/-- floor(2^p × (1 − exp(−num/den)) + 1/2). Log 32, DEDUCED. -/
def decayRounded (p num den : Nat) : Nat := (decay num den + 2 ^ (191 - p)) / 2 ^ (192 - p)

/-- 2π × 10^40. -/
def twoPi : Nat := 62831853071795864769252867665590057683943

/-! ## Coefficients (R209) -/

/-- The integers of R209 for one element. -/
structure ElCoef where
  c : Nat
  hLim : Nat
  aC : Nat
  aM : Nat
  wC : Nat
  bLf : Nat
  lfLim : Nat
  aDc : Nat
  dct : Nat
  slew : Nat
  gSag : Nat
  fmt : Nat
  dcLim : Nat
  deriving DecidableEq, Repr

/-- Element `e`. -/
def elDefault (_ : Nat) : Elem := Elem.reset
def State.el (s : State) (e : Nat) : Elem := SMap.get elDefault s.lv.el e
def State.setEl (s : State) (e : Nat) (k : Elem) : State := { s with lv := { s.lv with el := SMap.set elDefault s.lv.el e k } }

/-- Fields of the binding in force. -/
def Elem.bound (k : Elem) : Bool := k.bind.getLsbD 31
def Elem.telEn (k : Elem) : Bool := k.bind.getLsbD 30
def Elem.fmt (k : Elem) : Nat := bitsOf k.bind 29 28
def Elem.telPort (k : Elem) : Nat := bitsOf k.bind 24 20
def Elem.telCh (k : Elem) : Nat := bitsOf k.bind 19 16
def Elem.port (k : Elem) : Nat := bitsOf k.bind 8 4
def Elem.slot (k : Elem) : Nat := bitsOf k.bind 3 0

/-- D (R209). -/
def State.slewOf (s : State) (e : Nat) : Nat := max 1 (2 ^ 23 * 1000 / (s.g (F.LEVEE_EL_SLEW_SLEW_MS e) * s.fs))

/-- g_sag (R215, R220). -/
def State.sagOf (s : State) (e : Nat) : Nat :=
  let v := s.g (F.LEVEE_EL_VKNEE_V_KNEE e)
  match (s.el e).rail with
  | none => 2 ^ 23
  | some r => if v = 0 ∨ !(s.el e).telEn then 2 ^ 23 else min (2 ^ 23) (2 ^ 23 * r / v)

/-- H_LIM and LF_LIM. -/
def State.hLimOf (s : State) (e : Nat) : Nat := attenuated 48 100 (s.g (F.LEVEE_EL_RMS_RMS_ATT e))
def State.lfLimOf (s : State) (e : Nat) : Nat := attenuated 48 100 (s.g (F.LEVEE_EL_LF_LF_ATT e))

/-- DCT. -/
def State.dctOf (s : State) (e : Nat) : Nat := attenuated 31 200 (s.g (F.LEVEE_EL_DC_DC_ATT e))

/-- Log 32, DEDUCED. -/
def State.elCoef (s : State) (e : Nat) : ElCoef :=
  { c := attenuated 31 200 (s.g (F.LEVEE_EL_PEAK_PEAK_ATT e))
    hLim := s.hLimOf e
    aC := decayRounded 48 1 (s.fs * s.g (F.LEVEE_EL_TAU_TAU_C e))
    aM := decayRounded 48 1 (s.fs * s.g (F.LEVEE_EL_TAU_TAU_M e))
    wC := s.g (F.LEVEE_EL_RMS_W_C e)
    bLf := decayRounded 32 (twoPi * s.g (F.LEVEE_EL_LF_CORNER e)) (10 ^ 40 * s.fs)
    lfLim := s.lfLimOf e
    aDc := decayRounded 32 1 s.fs
    dct := s.dctOf e
    slew := s.slewOf e
    gSag := s.sagOf e
    fmt := (s.el e).fmt
    dcLim := s.fs / 10 }

/-! ## The gain stage (R207) -/

/-- floor(2^23 × sqrt(lim/v)) where v is above lim, else 2^23. -/
def limitGain (lim v : Nat) : Nat := if v ≤ lim then 2 ^ 23 else isqrt 24 (2 ^ 46 * lim / v)

/-- h (R207). -/
def heat (k : Elem) (wC : Nat) : Nat := ((wC * k.eC + (2 ^ 16 - wC : Nat) * k.eM) / 2 ^ 16).toNat

/-- x and v of a container in format `fmt`. -/
def elValues (fmt : Nat) (w : Word) : Int × Int :=
  match fmt with
  | 0 => (w.toInt, w.toInt)
  | 1 => let x := signed 24 w.toNat; (x, x * 2 ^ 8)
  | _ => let x := signed 16 w.toNat; (x, x * 2 ^ 16)

/-- One sample through the gain stage: the element after it, the sample y, and whether the peak ceiling lowered g. -/
def Elem.gain (k : Elem) (c : ElCoef) (w : Word) : Elem × Word × Bool :=
  let xv := elValues c.fmt w
  let v := xv.2
  let p := v * v / 2 ^ 14
  let k := { k with eC := k.eC + c.aC * (p - k.eC) / 2 ^ 48, eM := k.eM + c.aM * (p - k.eM) / 2 ^ 48 }
  let l1 : Int := k.l1 + c.bLf * (v - k.l1) / 2 ^ 32
  let l2 : Int := k.l2 + c.bLf * (l1 - k.l2) / 2 ^ 32
  let eLf : Int := k.eLf + c.bLf * (l2 * l2 / 2 ^ 14 - k.eLf) / 2 ^ 32
  let d : Int := k.d + c.aDc * (v - k.d) / 2 ^ 32
  let g := min (min (k.g + c.slew) (limitGain c.hLim (heat k c.wC))) (min (limitGain c.lfLim eLf.toNat) c.gSag)
  let above := decide (c.c * 2 ^ 23 < v.natAbs * g)
  let g := if above then c.c * 2 ^ 23 / v.natAbs else g
  let y := (xv.1 * g + 2 ^ 22) / 2 ^ 23
  let n := if c.dct < d.natAbs then k.dcCount + 1 else 0
  ({ k with l1 := l1, l2 := l2, eLf := eLf, d := d, g := g, dcCount := n
            dcHit := k.dcHit || (decide (c.dcLim ≤ n) && decide (k.dcCount < c.dcLim)) }, BitVec.ofInt 32 y, above)

/-- Samples in order: the element after them, the samples y, and whether the peak ceiling acted. -/
def Elem.gains (k : Elem) (c : ElCoef) : List Word → Elem × List Word × Bool
  | [] => (k, [], false)
  | w :: ws =>
    let r := k.gain c w
    let t := r.1.gains c ws
    (t.1, r.2.1 :: t.2.1, r.2.2 || t.2.2)

/-- What the element's registers show of its models. -/
def State.showGain (s : State) (e : Nat) (c : ElCoef) (pk : Bool) : State :=
  let k := s.el e
  let h := heat k c.wC
  let s := (s.p (F.LEVEE_EL_GAIN_G e) k.g).flag (F.LEVEE_EL_GAIN_PK e) pk
  let s := (s.flag (F.LEVEE_EL_GAIN_TH e) (decide (c.hLim < h))).flag (F.LEVEE_EL_GAIN_LF e) (decide ((c.lfLim : Int) < k.eLf))
  s.flag (F.LEVEE_EL_GAIN_SAG e) (decide (c.gSag < 2 ^ 23))

/-- LEVEE_EL_HEAT[e]. Log 10, DEDUCED. -/
def State.heatView (s : State) (e : Nat) : Word :=
  let c := s.elCoef e
  let k := s.el e
  BitVec.ofNat 32 (min 0xFFFF (256 * k.eLf.toNat / max 1 c.lfLim) * 2 ^ 16 + min 0xFFFF (256 * heat k c.wC / max 1 c.hLim))

/-- The samples `ws` of one tick delivered to element `e`: the samples y. -/
def State.gainStage (s : State) (e : Nat) (ws : List Word) : State × List Word :=
  let c := s.elCoef e
  let r := (s.el e).gains c ws
  ((s.setEl e { r.1 with fed := true }).showGain e c r.2.2, r.2.1)

/-- `n` sample periods without samples: the models advance with x = 0 (R229). -/
def State.gainIdle (s : State) (e n : Nat) : State :=
  let c := s.elCoef e
  let r := (s.el e).gains c (List.replicate n 0)
  (s.setEl e r.1).showGain e c r.2.2

/-! ## Mute causes (R216, R217) -/

/-- Whether element `e` holds a mute cause. -/
def State.muted (s : State) (e : Nat) : Bool :=
  s.on (F.LEVEE_EL_STAT_AMPF e) || s.on (F.LEVEE_EL_STAT_DCF e) || s.on (F.LEVEE_EL_STAT_SLIP e) ||
  (s.on (F.LEVEE_EL_STAT_TELL e) && s.on (F.LEVEE_EL_INIT_TEL_LOSS_MUTE e)) || s.on (F.LEVEE_EL_STAT_COLL e) ||
  s.on (F.LEVEE_EL_STAT_SAFE e) || s.on (F.LEVEE_EL_STAT_PARITY e)

/-- Whether it holds a hard cause that asserts AMP_MUTE. -/
def State.pinCause (s : State) (e : Nat) : Bool :=
  (s.on (F.LEVEE_EL_STAT_AMPF e) && ((s.el e).pinFlt || ((s.el e).telFlt && s.on F.LEVEE_CFG_CH_PIN))) ||
  s.on (F.LEVEE_EL_STAT_COLL e) || s.on (F.LEVEE_EL_STAT_PARITY e)

/-- The elements, and those bound. -/
def elements : List Nat := List.range 96
def State.boundEls (s : State) : List Nat := elements.filter (fun e => (s.el e).bound)

/-- AMP_MUTE_g as LEVEE_STAT.GRP_MUTE and with it LEVEE_PINS show it (R222). -/
def State.showPins (s : State) : State :=
  let m := (List.range 12).foldl (fun m g =>
    let es := (List.range 8).map (fun i => s.el (8 * g + i))
    if (es.any (fun k => k.bound && k.asserts)) || !es.any Elem.bound then m + 2 ^ g else m) 0
  s.p F.LEVEE_STAT_GRP_MUTE m

/-- Whether the port of element `e` is RUNNING with its frame clock there. -/
def State.elPortLive (s : State) (e : Nat) : Bool :=
  let n := (s.el e).port
  s.g (F.SAP_STAT_STATE n) == 2 && !s.on (F.SAP_STAT_CLK_LOST n)

/-- e_c and e_m at first use (R231). -/
def State.firstHeat (s : State) (e : Nat) : Int := (s.hLimOf e * s.g (F.LEVEE_EL_INIT_TH_INIT e) / 16 : Nat)

/-- Whether element `e` holds an amplifier fault of which a retry is still to come (R224). -/
def State.retries (s : State) (e : Nat) : Bool :=
  s.on (F.LEVEE_EL_STAT_AMPF e) && !s.on (F.LEVEE_EL_STAT_LOCKED e) && !(s.el e).noRetry

/-- The models at first use, the gate as a standby holds it: a cause brings it to zero at once, and an amplifier fault
then waits for its retry (R228). -/
def State.standbyEl (s : State) (e : Nat) : State :=
  let h := s.firstHeat e
  let k := { s.el e with eC := h, eM := h, eLf := 0, l1 := 0, l2 := 0, d := 0, dcCount := 0, dcHit := false, hard := 0, soft := 0
                         retry := (s.el e).retry || s.retries e }
  let k := { k with
    g := min (limitGain (s.hLimOf e) (heat k (s.g (F.LEVEE_EL_RMS_W_C e)))) (s.sagOf e)
    q := if s.muted e then 0 else 2 ^ 23
    asserts := s.pinCause e || s.on (F.LEVEE_EL_STAT_SAFE e) }
  ((s.setEl e k).p (F.LEVEE_EL_GATE_Q e) k.q).p (F.LEVEE_EL_GAIN_G e) k.g

/-- A standby keeps all bound elements so (R228). -/
def State.leveeStandby (s : State) : State :=
  if s.standby then (s.boundEls.foldl State.standbyEl s).showPins else s

/-- A hard cause has begun at element `e`: its steps become due, unless a hard mute is in progress (R216, R217). Log 33, DEDUCED. -/
def State.beginHard (s : State) (e : Nat) : State :=
  let k := s.el e
  if !k.bound then s
  else if s.standby then (s.standbyEl e).showPins
  else
    (s.setEl e { k with hard := if k.hard = 0 then 1 else k.hard
                        asserts := k.asserts || (s.pinCause e && !s.elPortLive e) }).showPins

/-- A soft cause has begun at element `e`. -/
def State.beginSoft (s : State) (e : Nat) : State :=
  let k := s.el e
  if !k.bound then s
  else if s.standby then (s.standbyEl e).showPins
  else
    (s.setEl e { k with soft := if k.hard = 0 ∧ k.soft = 0 then 16 else k.soft
                        asserts := k.asserts || (s.on (F.LEVEE_EL_STAT_SAFE e) && !s.elPortLive e) }).showPins

/-- A cause of element `e` has ended; a standby's gate follows at once. -/
def State.causeEnded (s : State) (e : Nat) : State := if s.standby ∧ (s.el e).bound then (s.standbyEl e).showPins else s

/-! ## Amplifier faults (R221, R224) -/

/-- AMP_LOCKED of element `e`. -/
def State.ampLock (s : State) (e : Nat) : State :=
  ((s.setEl e { s.el e with retry := false }).flag (F.LEVEE_EL_STAT_LOCKED e) true).emit Kind.ampLocked (Src.levee (e / 8)) e

/-- An amplifier-fault cause at element `e`, by its pin or by telemetry. -/
def State.ampFault (s : State) (e : Nat) (pin : Bool) : State :=
  let k := s.el e
  let s := s.setEl e { k with pinFlt := k.pinFlt || pin, telFlt := k.telFlt || !pin }
  if s.on (F.LEVEE_EL_STAT_AMPF e) then
    let k := s.el e
    if s.pinCause e ∧ (k.hard = 0 ∨ !s.elPortLive e) then (s.setEl e { k with asserts := true }).showPins else s
  else
    let s := (s.flag (F.LEVEE_EL_STAT_AMPF e) true).emit Kind.ampFault (Src.levee (e / 8)) e
    let s := if s.g F.LEVEE_CFG_RETRY_MAX ≤ s.g (F.LEVEE_EL_STAT_RETRIES e) then s.ampLock e else s
    s.beginHard e

/-- Whether AMP_FLT_g is active. -/
def State.fltActive (s : State) (g : Nat) : Bool := SMap.get noneB s.lv.flt g

/-- Whether the amplifier-fault cause of element `e` is gone (R221). -/
def State.ampGone (s : State) (e : Nat) : Bool :=
  !s.fltActive (e / 8) && (s.el e).stat % 2 == 0 && (s.el e).stat / 4 % 4 == 0 &&
    decide (s.g (F.LEVEE_EL_TELI_CURRENT e) ≤ s.g (F.LEVEE_EL_IMAX_I_MAX e))

/-- AMPF ends: `clear` also clears RETRIES and LOCKED. -/
def State.ampEnd (s : State) (e : Nat) (clear : Bool) : State :=
  let s := s.flag (F.LEVEE_EL_STAT_AMPF e) false
  let s := s.setEl e { s.el e with pinFlt := false, telFlt := false, retry := false, noRetry := false }
  (if clear then (s.p (F.LEVEE_EL_STAT_RETRIES e) 0).flag (F.LEVEE_EL_STAT_LOCKED e) false else s).causeEnded e

/-- AMP_FLT_g becomes active or inactive. Log 33, DEDUCED. -/
def State.setFlt (s : State) (g : Nat) (on : Bool) : State :=
  let s := { s with lv := { s.lv with flt := SMap.set noneB s.lv.flt g on } }
  let f := s.g F.LEVEE_PINS_FLT
  let s := s.p F.LEVEE_PINS_FLT (if f.testBit g = on then f else if on then f + 2 ^ g else f - 2 ^ g)
  if on then ((List.range 8).map (fun i => 8 * g + i)).foldl (fun s e => if (s.el e).bound then s.ampFault e true else s) s
  else s

/-! ## The gate (R208) -/

/-- What is too young to act at a frame edge, having begun less than one media-clock period before it (R216): the elements
whose hard mute, and those whose soft mute, began so, and whether the safe state in force did. A cause that comes while a
mute of its kind is in progress begins none (R217). -/
structure Young where
  hard : List Nat
  soft : List Nat
  safe : Bool
  deriving DecidableEq, Repr

/-- The step of the gate of element `e` at a frame edge; `young` says what began less than one media-clock period before it
(R216), `slip` where the edge itself brings the port trouble and with it a cause. Log 33, DEDUCED. -/
def State.gateStep (s : State) (e : Nat) (young : Young) (slip : Bool) : State :=
  let k := s.el e
  if k.hard = 1 ∧ e ∉ young.hard then s.setEl e { k with q := min k.q (2 ^ 22), hard := 2, asserts := k.asserts || s.pinCause e }
  else if k.hard = 2 then
    s.setEl e { k with q := 0, hard := 0, soft := 0, asserts := k.asserts || s.pinCause e
                       retry := k.retry || s.retries e }
  else if k.soft = 16 ∧ e ∈ young.soft then s
  else if 0 < k.soft then s.setEl e { k with soft := k.soft - 1, q := min k.q (2 ^ 23 * (k.soft - 1) / 16) }
  else if k.hard = 0 ∧ !slip ∧ !s.muted e ∧ k.q < 2 ^ 23 then s.setEl e { k with q := min (2 ^ 23) (k.q + s.slewOf e), asserts := false }
  else s

/-- The safe-state cause asserts AMP_MUTE_g once every bound element of the group is at zero (R226). Log 33, DEDUCED. -/
def State.safePins (s : State) : State :=
  (List.range 12).foldl (fun s g =>
    let es := ((List.range 8).map (fun i => 8 * g + i)).filter (fun e => (s.el e).bound)
    if es.all (fun e => s.on (F.LEVEE_EL_STAT_SAFE e) && (s.el e).q == 0) then
      es.foldl (fun s e => s.setEl e { s.el e with asserts := true }) s
    else s) s

/-- The gate of element `e` at a frame edge in a device that is not standby (R208), with the registers that show it. -/
def State.gateEdge (s : State) (e : Nat) (young : Young) (slip : Bool) : State :=
  if s.standby then s
  else
    let s := s.gateStep e young slip
    let s := if s.on F.LEVEE_STAT_SAFE then s.safePins else s
    (s.p (F.LEVEE_EL_GATE_Q e) (s.el e).q).showPins

/-- y_out (R208). -/
def gated (q : Nat) (y : Word) : Word := BitVec.ofInt 32 ((y.toInt * q + 2 ^ 22) / 2 ^ 23)

/-! ## Bindings and first use (R204, R231) -/

/-- The element bound to transmit slot `t` of port `n`. -/
def State.elAt (s : State) (n t : Nat) : Option Nat :=
  elements.find? (fun e => (s.el e).bound && (s.el e).port == n && (s.el e).slot == t)

/-- Whether a safe state holds the elements (R226). -/
def State.leveeSafe (s : State) : Bool := s.chipSafe || s.regionSafe 4

/-- The models and the gate of element `e` at first use (R231). The hard steps of a latched cause that survives a change of
binding still fall (R204, R216). Log 34, DEDUCED. -/
def State.firstUse (s : State) (e : Nat) : State :=
  let h := s.firstHeat e
  let latched := s.on (F.LEVEE_EL_STAT_AMPF e) || s.on (F.LEVEE_EL_STAT_COLL e) || s.on (F.LEVEE_EL_STAT_PARITY e)
  let s := s.setEl e { s.el e with eC := h, eM := h, eLf := 0, l1 := 0, l2 := 0, d := 0, g := 2 ^ 23, q := 0
                                   hard := if latched then (s.el e).hard else 0
                                   soft := 0, dcCount := 0, dcHit := false, rail := none }
  (s.p (F.LEVEE_EL_GATE_Q e) 0).p (F.LEVEE_EL_GAIN_G e) (2 ^ 23)

/-- The binding register of element `e` takes force: the models restart and the causes that follow a condition are
judged afresh (R204). Log 34, DEDUCED. -/
def State.rebind (s : State) (e : Nat) : State :=
  let v := s.rd (R.LEVEE_EL_BIND e)
  if v = (s.el e).bind then s
  else
    let s := (s.setEl e { s.el e with bind := v, asserts := false }).firstUse e
    let s := s.flag (F.LEVEE_EL_STAT_TELL e) false
    let n := (s.el e).port
    let on := (s.el e).bound
    let s := s.flag (F.LEVEE_EL_STAT_SLIP e) (on && (s.on (F.SAP_STAT_SLOT_SLIP n) || s.on (F.SAP_STAT_CLK_LOST n)))
    let s := s.flag (F.LEVEE_EL_STAT_SAFE e) (on && s.leveeSafe)
    let s := if on ∧ (SMap.find s.lv.bad R.LEVEE_CFG).isSome then s.flag (F.LEVEE_EL_STAT_PARITY e) true else s
    let s := s.setEl e { s.el e with asserts := on && (s.pinCause e || s.on (F.LEVEE_EL_STAT_SAFE e)) }
    let s := if on ∧ s.fltActive (e / 8) ∧ !s.on (F.LEVEE_EL_STAT_AMPF e) then s.ampFault e true else s
    (s.causeEnded e).showPins

/-- All bindings take force: at a tick boundary. -/
def State.rebindAll (s : State) : State := elements.foldl State.rebind s

/-- Whether register `a` lies in the window of element `e`. -/
def inElement (e a : Nat) : Bool := decide (R.LEVEE_EL_BIND e ≤ a ∧ a < R.LEVEE_EL_BIND e + 0x40)

/-- What device reset leaves of the Levee (R231, R232): SEAL fields and SEALED are kept by the caller; a register with wrong
parity stays wrong (R227). From reset release every group is at the mute level until its gates rise (R222). Log 34, DEDUCED. -/
def State.leveeReset (s : State) : State :=
  let bad := s.lv.bad
  let s := ({ s with lv := { Levee.reset with bad := bad } } : State).flag F.LEVEE_STAT_PARITY (!bad.isEmpty)
  (elements.foldl (fun s e =>
    let k := { s.el e with bind := s.rd (R.LEVEE_EL_BIND e) }
    let wrong := bad.any (fun x => inElement e x.1) || (k.bound && (SMap.find bad R.LEVEE_CFG).isSome)
    ((s.setEl e { k with asserts := k.bound }).flag (F.LEVEE_EL_STAT_PARITY e) wrong).firstUse e) s).showPins

/-! ## Port trouble, safe states, collector mute -/

/-- The port-trouble cause of the elements of port `n` follows its flags (R225). -/
def State.portTrouble (s : State) (n : Nat) (on : Bool) : State :=
  s.boundEls.foldl (fun s e =>
    if (s.el e).port = n then
      let was := s.on (F.LEVEE_EL_STAT_SLIP e)
      let s := s.flag (F.LEVEE_EL_STAT_SLIP e) on
      if on ∧ !was then s.beginHard e else if !on ∧ was then s.causeEnded e else s
    else s) s

/-- The safe-state cause follows the safe states in force (R226). -/
def State.leveeSafeUpdate (s : State) : State :=
  let on := s.leveeSafe
  let s := s.flag F.LEVEE_STAT_SAFE on
  s.boundEls.foldl (fun s e =>
    let was := s.on (F.LEVEE_EL_STAT_SAFE e)
    let s := s.flag (F.LEVEE_EL_STAT_SAFE e) on
    if on ∧ !was then s.beginSoft e else if !on ∧ was then s.causeEnded e else s) s

/-- A Levee mute reaction that names the groups of mask `m` (R230). -/
def State.collMute (s : State) (m : Nat) : State :=
  s.boundEls.foldl (fun s e =>
    if m.testBit (e / 8) ∧ !s.on (F.LEVEE_EL_STAT_COLL e) then (s.flag (F.LEVEE_EL_STAT_COLL e) true).beginHard e else s) s

/-! ## The AMP_MUTE outputs (R222, R223) -/

/-- What an output ball shows; `cells` where the boundary cells own it (R538). -/
inductive PinLevel where
  | highZ | low | high | cells
  deriving DecidableEq, Repr

/-- Whether the pair rule lets the device drive its outputs (R223, R440). -/
def State.mayDrive (s : State) : Bool := !s.on F.PAIR_CFG_EN || s.on F.PAIR_STAT_DRIVING

/-- AMP_MUTE_g: released while a reset is held and by a device that does not drive, else at the mute level that MUTE_POL gives,
or at the other (R222, R223, R529). -/
def State.ampMutePin (s : State) (g : Nat) : PinLevel :=
  if s.pw.owned then .cells
  else if s.pw.held || !s.mayDrive then .highZ
  else if (s.g F.LEVEE_STAT_GRP_MUTE).testBit g == s.on F.LEVEE_CFG_MUTE_POL then .high else .low

/-- The simple peak ceiling on a `w`-bit word (R203). -/
def simpleCeil (w att : Nat) (v : Int) : Int :=
  let c : Int := attenuated (w - 1) 200 att
  clip (-c) c v

end Sys2Proof.Machine
end

