-- ==== Sys2Proof/Machine/LeveeCmd.lean ====
section
/-!
DEFINITION. Commands on the Levee: register writes under range, binding and sealing rules (R204, R233 to R236), W1CG
clears, telemetry (R218 to R220), amplifier faults and retries (R221, R224), the DC mute and the parity sweep (R227).
-/
namespace Sys2Proof.Machine

/-! ## Register writes -/

/-- Tightening directions (R234). -/
inductive Tighten where
  | frozen | up | down
  deriving DecidableEq, Repr

/-- A SEAL field: its bits, its range and its direction. -/
structure SealField where
  hi : Nat
  lo : Nat
  least : Nat
  most : Nat
  dir : Tighten
  deriving DecidableEq, Repr

/-- The SEAL fields of the LEVEE register at block offset `o`, other than the bindings. -/
def sealFields (o : Nat) : List SealField :=
  if o = 0x8 then
    [⟨31, 16, 16, 65535, .down⟩, ⟨5, 4, 1, 3, .down⟩, ⟨3, 3, 0, 1, .down⟩, ⟨2, 2, 0, 1, .up⟩, ⟨1, 1, 0, 1, .frozen⟩,
     ⟨0, 0, 0, 1, .frozen⟩]
  else if 0x100 ≤ o ∧ o < 0x160 then [⟨8, 0, 0, 400, .up⟩]
  else if 0x200 ≤ o ∧ o < 0x220 then
    match o % 16 with
    | 0 => [⟨23, 0, 1, 16777215, .down⟩]
    | 4 => [⟨13, 0, 1, 10000, .down⟩]
    | 8 => [⟨31, 24, 1, 255, .down⟩, ⟨10, 0, 2, 1024, .down⟩]
    | _ => []
  else if 0x1000 ≤ o ∧ o < 0x2800 then
    match o % 64 with
    | 0x04 => [⟨8, 0, 0, 400, .up⟩]
    | 0x08 => [⟨31, 16, 1, 65535, .frozen⟩, ⟨8, 0, 0, 400, .up⟩]
    | 0x0C => [⟨27, 16, 60, 3600, .frozen⟩, ⟨5, 0, 1, 60, .frozen⟩]
    | 0x10 => [⟨23, 16, 20, 200, .frozen⟩, ⟨8, 0, 0, 400, .up⟩]
    | 0x14 => [⟨9, 0, 100, 600, .up⟩]
    | 0x18 => [⟨9, 0, 1, 1000, .up⟩]
    | 0x1C => [⟨23, 0, 0, 16777215, .down⟩]
    | 0x20 => [⟨23, 0, 0, 16777215, .up⟩]
    | 0x24 => [⟨8, 8, 0, 1, .up⟩, ⟨4, 0, 0, 16, .up⟩]
    | _ => []
  else []

/-- Whether a change from `old` to `new` lies in the direction. -/
def Tighten.allows (d : Tighten) (old new : Nat) : Bool :=
  match d with
  | .frozen => decide (new = old)
  | .up => decide (old ≤ new)
  | .down => decide (new ≤ old)

/-- Base of the LEVEE block. -/
def leveeBase : Nat := 0x03030000

def State.sealed (s : State) : Bool := s.on F.LEVEE_SEAL_SEALED

/-- A sealed write with a refused field is counted, recorded and reported (R235). -/
def State.sealRefused (s : State) (a : Nat) : State :=
  (((s.flag F.LEVEE_STAT_SEAL_REFUSED true).inc R.LEVEE_REFUSE_CNT).p F.LEVEE_REFUSE_LAST_OFFSET (a - leveeBase)).emit
    Kind.sealRefused (Src.levee 0) a

/-- Fields `fs` of the register at `a` under R234: each refused one keeps its value. -/
def State.sealWrite (s : State) (a : Nat) (fs : List SealField) (v : Word) : State :=
  let old := s.rd a
  let takes := fun (f : SealField) => !s.sealed || f.dir.allows (bitsOf old f.hi f.lo) (bitsOf v f.hi f.lo)
  let w := fs.foldl (fun w f => if takes f then putBits w f.hi f.lo (bitsOf v f.hi f.lo) else w) old
  let s1 := s.wr a w
  let s1 := if (SMap.find s1.lv.bad a).isSome then { s1 with lv := { s1.lv with bad := SMap.insert s1.lv.bad a true } } else s1
  if fs.all takes then s1 else s1.sealRefused a

/-- What follows an accepted write to LEVEE_CFG, from the state `o` before it: R221, R224, R216. -/
def State.cfgFollows (s o : State) : State :=
  let s := if s.g F.LEVEE_CFG_FLT_POL ≠ o.g F.LEVEE_CFG_FLT_POL then
      (List.range 12).foldl (fun s g => s.setFlt g (!s.fltActive g)) s
    else s
  let s := if s.on F.LEVEE_CFG_RETRY_EN ∨ !o.on F.LEVEE_CFG_RETRY_EN then s
    else elements.foldl (fun s e => if (s.el e).retry then s.setEl e { s.el e with retry := false, noRetry := true } else s) s
  if s.on F.LEVEE_CFG_CH_PIN ∧ !o.on F.LEVEE_CFG_CH_PIN then
    (s.boundEls.foldl (fun s e =>
      if s.pinCause e ∧ ((s.el e).hard = 0 ∨ !s.elPortLive e) then s.setEl e { s.el e with asserts := true } else s) s).showPins
  else s

/-- A write to a register of element bindings (R204, R234, R236). -/
def State.bindWrite (s : State) (e : Nat) (v : Word) : State :=
  let v := v &&& 0xF1FF01FF#32
  if bitsOf v 29 28 = 3 ∨ 23 < bitsOf v 24 20 ∨ 23 < bitsOf v 8 4 then s.flag F.LEVEE_STAT_CFG_REFUSED true
  else if v.getLsbD 31 ∧ elements.any (fun x =>
      x != e && s.on (F.LEVEE_EL_BIND_EN x) && bitsOf (s.rd (R.LEVEE_EL_BIND x)) 8 0 == bitsOf v 8 0) then
    s.flag F.LEVEE_STAT_BIND_ERR true
  else
    let fs : List SealField := [⟨31, 31, 0, 1, .frozen⟩, ⟨30, 30, 0, 1, .frozen⟩, ⟨29, 28, 0, 2, .frozen⟩,
      ⟨24, 20, 0, 23, .frozen⟩, ⟨19, 16, 0, 15, .frozen⟩, ⟨8, 4, 0, 23, .frozen⟩, ⟨3, 0, 0, 15, .frozen⟩]
    let s := s.sealWrite (R.LEVEE_EL_BIND e) fs v
    if s.running then s else s.rebind e

/-- A write to a SEAL register other than a binding (R236, R234), at block offset `o`. -/
def State.sealRegWrite (s : State) (o : Nat) (v : Word) : State :=
  let fs := sealFields o
  if fs.any (fun f => decide (bitsOf v f.hi f.lo < f.least ∨ f.most < bitsOf v f.hi f.lo)) then
    s.flag F.LEVEE_STAT_CFG_REFUSED true
  else
    let t := s.sealWrite (leveeBase + o) fs v
    if o = 0x8 then t.cfgFollows s
    else if 0x200 ≤ o ∧ o < 0x220 then
      let p := (o - 0x200) / 16
      if t.rd (leveeBase + o) = s.rd (leveeBase + o) then t
      else { t with lv := { t.lv with fUsed := SMap.set zeroN t.lv.fUsed p 0, yUsed := SMap.set zeroN t.lv.yUsed p 0 } }
    else if 0x1000 ≤ o then
      let e := (o - 0x1000) / 64
      if !s.on (F.LEVEE_EL_INIT_TEL_LOSS_MUTE e) ∧ t.on (F.LEVEE_EL_INIT_TEL_LOSS_MUTE e) ∧ t.on (F.LEVEE_EL_STAT_TELL e)
      then t.beginHard e
      else t.causeEnded e
    else t

/-- LEVEE_SEAL.KEY written (R233). -/
def State.sealKey (s : State) (k : Nat) : State :=
  if s.sealed then s
  else if k = 0x5EA1 then s.flag F.LEVEE_SEAL_SEALED true
  else s.flag F.LEVEE_STAT_KEY_BAD true

/-! ## W1CG clears (R216, R235) -/

/-- Whether the register at `a` with wrong parity has been rewritten, or was never wrong (R227). -/
def State.parityMended (s : State) (a : Nat) : Bool := (SMap.find s.lv.bad a).getD true

/-- Whether the parity cause of element `e` is gone. -/
def State.parityGone (s : State) (e : Nat) : Bool :=
  !s.sealed && s.parityMended R.LEVEE_CFG && s.lv.bad.all (fun x => !inElement e x.1 || x.2)

/-- A W1CG bit of element `e`: cleared by `fin` where its cause is gone, else refused. -/
def State.clearCause (s : State) (asked : Bool) (f : Fld) (gone : Bool) (fin : State → State) : State :=
  if !asked ∨ !s.on f then s
  else if gone then fin s
  else s.flag F.LEVEE_STAT_CLR_REFUSED true

/-- A write of `v` to LEVEE_EL_STAT[e]. -/
def State.elStatWrite (s : State) (e : Nat) (v : Word) : State :=
  let s := s.fieldWrite (R.LEVEE_EL_STAT e) v
  let s := s.clearCause (v.getLsbD 0) (F.LEVEE_EL_STAT_AMPF e) (s.ampGone e) (fun s => s.ampEnd e true)
  let s := s.clearCause (v.getLsbD 1) (F.LEVEE_EL_STAT_DCF e) (decide ((s.el e).d.natAbs ≤ s.dctOf e))
    (fun s => ((s.setEl e { s.el e with dcHit := false }).flag (F.LEVEE_EL_STAT_DCF e) false).causeEnded e)
  let s := s.clearCause (v.getLsbD 4) (F.LEVEE_EL_STAT_COLL e) (!(s.g F.FAULT_LMUTE_GROUPS).testBit (e / 8))
    (fun s => (s.flag (F.LEVEE_EL_STAT_COLL e) false).causeEnded e)
  s.clearCause (v.getLsbD 6) (F.LEVEE_EL_STAT_PARITY e) (s.parityGone e) (fun s =>
    let s := { s with lv := { s.lv with bad := s.lv.bad.filter (fun x => !inElement e x.1) } }
    (s.flag (F.LEVEE_EL_STAT_PARITY e) false).causeEnded e)

/-- A write of `v` to LEVEE_STAT. -/
def State.leveeStatWrite (s : State) (v : Word) : State :=
  let s := s.fieldWrite R.LEVEE_STAT v
  s.clearCause (v.getLsbD 4) F.LEVEE_STAT_PARITY (!s.sealed && s.lv.bad.all (fun x => x.2)) (fun s =>
    ({ s with lv := { s.lv with bad := s.lv.bad.filter (fun x => decide (R.LEVEE_EL_BIND 0 ≤ x.1)) } }).flag
      F.LEVEE_STAT_PARITY false)

/-- A write to the LEVEE block at offset `o`. -/
def State.leveeWrite (s : State) (o : Nat) (v : Word) : State :=
  if (regSpecAt (leveeBase + o)).isNone then s.unmapped (leveeBase + o)
  else if o = 0 then (s.sealKey (bitsOf v 15 0)).ok
  else if o = 4 then (s.leveeStatWrite v).ok
  else if 0x1000 ≤ o ∧ o % 64 = 0 then (s.bindWrite ((o - 0x1000) / 64) v).ok
  else if 0x1000 ≤ o ∧ o % 64 = 0x28 then (s.elStatWrite ((o - 0x1000) / 64) v).ok
  else if sealFields o = [] then s.ok
  else (s.sealRegWrite o v).ok

/-- LEVEE_EL_BIND_WRITE (R204). -/
def execLeveeElBindWrite (e : Fin 96) (v : Word) (s : State) : Host.Outcome State Fault Refusal := .next (s.bindWrite e v).ok

/-- LEVEE_REG_WRITE (R236): a write at offset `o` of the block. -/
def execLeveeRegWrite (o : Fin 65536) (v : Word) (s : State) : Host.Outcome State Fault Refusal := .next (s.leveeWrite o v)

/-- LEVEE_SEAL_KEY (R233). -/
def execLeveeSealKey (k : BitVec 16) (s : State) : Host.Outcome State Fault Refusal := .next (s.sealKey k.toNat).ok

/-- LEVEE_CAUSE_CLEAR (R216): a write to LEVEE_EL_STAT[e], or to LEVEE_STAT. -/
def execLeveeCauseClear (e : Option (Fin 96)) (v : Word) (s : State) : Host.Outcome State Fault Refusal :=
  match e with
  | some x => .next (s.elStatWrite x v).ok
  | none => .next (s.leveeStatWrite v).ok

/-! ## Telemetry (R218 to R220) -/

/-- A word that counts as presence reaches element `e`. -/
def State.telPresent (s : State) (e : Nat) : State :=
  if s.on (F.LEVEE_EL_STAT_TELL e) then (s.flag (F.LEVEE_EL_STAT_TELL e) false).causeEnded e else s

/-- A word of type `t` and value `v` applies to element `e`. -/
def State.telApply (s : State) (e t v : Nat) : State :=
  let s := s.telPresent e
  match t with
  | 1 =>
    let s := s.p (F.LEVEE_EL_TELI_CURRENT e) v
    if s.g (F.LEVEE_EL_IMAX_I_MAX e) < v then s.ampFault e false else s
  | 3 => ((s.p (F.LEVEE_EL_TELR_RAIL e) v).setEl e { s.el e with rail := some v }).causeEnded e
  | 5 =>
    let s := s.setEl e { s.el e with stat := v % 32 }
    let s := if v.testBit 1 then s.flag (F.LEVEE_EL_STAT_OVERTEMP e) true else s
    let s := if v.testBit 4 then s.flag (F.LEVEE_EL_STAT_CLIP e) true else s
    if v.testBit 0 ∨ v.testBit 2 ∨ v.testBit 3 then s.ampFault e false else s
  | _ => s

/-- A telemetry word from port `n` (R218). -/
def State.telemetry (s : State) (n : Nat) (w : Word) : State :=
  let t := bitsOf w 31 28
  if t = 0 then s
  else if 5 < t then s.inc R.LEVEE_TEL_BAD
  else
    (s.boundEls.filter (fun e => (s.el e).telEn && (s.el e).telPort == n && (s.el e).telCh == bitsOf w 27 24)).foldl
      (fun s e => s.telApply e t (bitsOf w 23 0)) s

/-- TELEMETRY_WORD (R218, R442): the word of a receive slot marked TELEMETRY, at its end. A port that is not RUNNING
or STOPPING samples no input (R431), and one in clock trouble is ignored until it is resynchronised (R219). -/
def execTelemetryWord (n : Fin 24) (t : Fin 16) (w : Word) (s : State) : Host.Outcome State Fault Refusal :=
  let st := s.g (F.SAP_STAT_STATE n)
  if (st = 2 ∨ st = 3) ∧ (s.g (F.SAP_TEL_TEL n)).testBit t ∧ (s.g (F.SAP_MASK_ACTIVE_RX n)).testBit t ∧
      t ≤ s.g (F.SAP_FMT_SLOTS_M1 n) ∧ !s.on (F.SAP_STAT_SLOT_SLIP n) ∧ !s.on (F.SAP_STAT_CLK_LOST n) then
    let s := if 1 ≤ bitsOf w 31 28 ∧ bitsOf w 31 28 ≤ 5 then s.inc (R.SAP_TEL_CNT n) else s
    .next (s.telemetry n w)
  else .next s

/-- TELEM_LOSS (R220): TEL_TO sample periods have passed without a word for element `e`. -/
def execTelemLoss (e : Fin 96) (s : State) : Host.Outcome State Fault Refusal :=
  let k := s.el e
  if k.bound ∧ k.telEn ∧ !s.on (F.LEVEE_EL_STAT_TELL e) then
    let s := (s.flag (F.LEVEE_EL_STAT_TELL e) true).emit Kind.telemLoss (Src.levee (e / 8)) e
    .next (if s.on (F.LEVEE_EL_INIT_TEL_LOSS_MUTE e) then s.beginHard e else s)
  else .next s

/-! ## Amplifier faults, the DC mute, parity -/

/-- AMP_FLT_CHANGE (R443, R221): the settled level of AMP_FLT_g. -/
def execAmpFltChange (g : Fin 12) (high : Bool) (s : State) : Host.Outcome State Fault Refusal :=
  .next (s.setFlt g (high == s.on F.LEVEE_CFG_FLT_POL))

/-- DC_MUTE (R213): the DC count of element `e` has reached floor(0.1 × fs). -/
def execDcMute (e : Fin 96) (s : State) : Host.Outcome State Fault Refusal :=
  if (s.el e).bound ∧ (s.el e).dcHit ∧ !s.on (F.LEVEE_EL_STAT_DCF e) then
    .next ((((s.setEl e { s.el e with dcHit := false }).flag (F.LEVEE_EL_STAT_DCF e) true).emit Kind.dcMute (Src.levee (e / 8)) e).beginSoft e)
  else .next s

/-- AMP_RETRY (R224): fs sample periods have passed since the mute of element `e`, or since its last attempt. Log 33, DEDUCED. -/
def execAmpRetry (e : Fin 96) (s : State) : Host.Outcome State Fault Refusal :=
  if (s.el e).retry ∧ s.retries e then
    if !s.on F.LEVEE_CFG_RETRY_EN then .next (s.setEl e { s.el e with retry := false, noRetry := true })
    else
      let s := s.setEl e { s.el e with retry := false }
      let n := s.g (F.LEVEE_EL_STAT_RETRIES e) + 1
      let s := s.p (F.LEVEE_EL_STAT_RETRIES e) n
      if s.ampGone e then .next (s.ampEnd e false)
      else if n < s.g F.LEVEE_CFG_RETRY_MAX then .next (s.setEl e { s.el e with retry := true })
      else .next (s.ampLock e)
  else .next s

/-- RETRY_RESET (R224): element `e` has held no amplifier-fault cause for 60 s. -/
def execRetryReset (e : Fin 96) (s : State) : Host.Outcome State Fault Refusal :=
  if s.on (F.LEVEE_EL_STAT_AMPF e) then .next s
  else .next ((s.p (F.LEVEE_EL_STAT_RETRIES e) 0).flag (F.LEVEE_EL_STAT_LOCKED e) false)

/-- Whether `a` is the address of a SEAL register. -/
def isSealReg (a : Nat) : Bool :=
  decide (leveeBase ≤ a) && (regSpecAt a).isSome && (sealFields (a - leveeBase) != [] || elements.any (fun e => R.LEVEE_EL_BIND e == a))

/-- The register at `a` is found with wrong parity (R227). -/
def State.parityError (s : State) (a : Nat) : State :=
  if !isSealReg a ∨ s.lv.bad.any (fun x => x.1 == a && !x.2) then s
  else
    let s := ({ s with lv := { s.lv with bad := SMap.insert s.lv.bad a false } }).flag F.LEVEE_STAT_PARITY true
    let set := fun (s : State) (e : Nat) =>
      if s.on (F.LEVEE_EL_STAT_PARITY e) then s else (s.flag (F.LEVEE_EL_STAT_PARITY e) true).beginHard e
    match elements.find? (fun e => inElement e a) with
    | some e => set (s.emit Kind.leveeParity (Src.levee (e / 8)) a) e
    | none =>
      let s := s.emit Kind.leveeParity (Src.levee 15) a
      if a = R.LEVEE_CFG then s.boundEls.foldl set s else s

/-- LEVEE_PARITY_SWEEP (R227): `bad` are the registers whose parity the sweep found wrong. -/
def execLeveeParitySweep (bad : List Nat) (s : State) : Host.Outcome State Fault Refusal :=
  .next (bad.foldl State.parityError s)

end Sys2Proof.Machine
end

