-- ==== Sys2Proof/Machine/Sap.lean ====
section
/-!
DEFINITION. Serial audio ports (spec/15): formats and packing, start and stop, frames, clock trouble and
resynchronisation, transmit gates, and what the gather takes and the distribute delivers.
-/
namespace Sys2Proof.Machine

/-! ## Configuration -/

def sapDefault (_ : Nat) : Sap := Sap.reset
def State.sap (s : State) (n : Nat) : Sap := SMap.get sapDefault s.sp n
def State.setSap (s : State) (n : Nat) (k : Sap) : State := { s with sp := SMap.set sapDefault s.sp n k }

/-- State codes of SAP_STAT.STATE. -/
def State.sapState (s : State) (n : Nat) : Nat := s.g (F.SAP_STAT_STATE n)

/-- Bits of a size code. -/
def sizeBits (c : Nat) : Nat := if c = 0 then 16 else if c = 1 then 24 else 32

def State.sapSlots (s : State) (n : Nat) : Nat := s.g (F.SAP_FMT_SLOTS_M1 n) + 1
def State.sapWordBits (s : State) (n : Nat) : Nat := sizeBits (s.g (F.SAP_FMT_WORD_BITS n))

/-- Whether the group of port `n` has ALIGN = STAMP. -/
def State.sapStamp (s : State) (n : Nat) : Bool := s.on (F.SAP_GRP_CFG_ALIGN (n / 4))

/-- Whether the MASTER bit of port `n` acts (R419). -/
def State.sapMasterCfg (s : State) (n : Nat) : Bool :=
  s.on (F.SAP_CFG_MASTER n) && (n % 4 == 0 || !s.on (F.SAP_GRP_CFG_CLK_SHARE (n / 4)))

/-- Whether port `n` acts as clock master now (R418, R440). -/
def State.sapMaster (s : State) (n : Nat) : Bool := s.sapMasterCfg n && s.mayDrive

/-- The rules of R422 and the packing rule of R423 for a format word and a MASTER bit, and R442 for TEL bits. -/
def State.formatAllowed (s : State) (f : Word) (master : Bool) (tel : Nat) : Bool :=
  let slots := bitsOf f 20 16 + 1
  let sb := sizeBits (bitsOf f 13 12)
  let wb := sizeBits (bitsOf f 9 8)
  let pack := fun c => c != 3 && !(wb == 16 && c == 2)
  bitsOf f 31 30 != 3 && bitsOf f 13 12 != 3 && bitsOf f 9 8 != 3 && decide (slots ≤ 16) &&
    (bitsOf f 31 30 == 2 || slots == 2) && (decide (s.fs < 176400) || decide (slots ≤ 8)) && decide (wb ≤ sb) &&
    decide (slots * sb * s.fs ≤ 49152000) && (!master || 512 % (slots * sb) == 0) &&
    pack (bitsOf f 5 4) && pack (bitsOf f 1 0) && (tel == 0 || (sb == 32 && wb == 32))

/-- The configuration of port `n` under R422. -/
def State.sapConfigured (s : State) (n : Nat) : Bool :=
  s.formatAllowed (s.rd (R.SAP_FMT n)) (s.on (F.SAP_CFG_MASTER n)) (s.g (F.SAP_TEL_TEL n))

/-- The 32-bit container of a received word of `w` bits (R423). -/
def rxContainer (w pack : Nat) (v : Word) : Word :=
  if w = 32 then v
  else
    match pack with
    | 1 => BitVec.ofNat 32 (v.toNat % 2 ^ w * 2 ^ (32 - w))
    | 2 => BitVec.ofNat 32 (v.toNat % 2 ^ w)
    | _ => BitVec.ofInt 32 (signed w v.toNat)

/-- The word of `w` bits taken from a container (R423). -/
def txWord (w pack : Nat) (v : Word) : Nat :=
  if w = 32 then v.toNat
  else if pack = 1 then v.toNat / 2 ^ (32 - w)
  else v.toNat % 2 ^ w

/-- A container with its word replaced by the signed value `x` (R203). -/
def txContainer (w pack : Nat) (x : Int) : Word :=
  if w = 32 then BitVec.ofInt 32 x
  else if pack = 1 then BitVec.ofInt 32 (x * 2 ^ (32 - w))
  else BitVec.ofInt 32 x

/-! ## Transmit gates (R432) -/

def gateDefault (_ : Nat) : TxGate := TxGate.closed
def rampZero (_ : Nat) : Ramp := Ramp.zero

/-- One sample through a gate, for frame `f`. -/
def TxGate.step (k : TxGate) (x : Word) (f : Nat) : TxGate × Word :=
  let sign := x.msb
  let zc := x == 0 || (match k.prev with | some p => p != sign | none => false)
  let k := { k with prev := some sign }
  if k.ramp then
    let g := if k.want then k.g + 1 else k.g - 1
    let y := rampScale x g
    ({ k with g := g, ramp := (if k.want then g != 16 else g != 0), shut := if !k.want ∧ g = 0 then f + 1 else k.shut }, y)
  else if k.search ∧ zc then
    if k.want then ({ k with search := false, g := 16 }, x) else ({ k with search := false, g := 0, shut := f }, 0)
  else (k, if k.g = 16 then x else 0)

/-- A command to a gate: open or close; `now` where ZC_TO is 0. -/
def TxGate.command (k : TxGate) (want now : Bool) : TxGate :=
  if want = k.want then k
  else if k.ramp then { k with want := want }
  else if k.search then { k with want := want, search := false, shut := 0 }
  else { k with want := want, search := !now, ramp := now }

/-- No zero crossing came in time. -/
def TxGate.expire (k : TxGate) : TxGate := if k.search then { k with search := false, ramp := true } else k

/-- Whether a gate is closed in frame `f`. -/
def TxGate.shutIn (k : TxGate) (f : Nat) : Bool := !k.want && !k.ramp && !k.search && k.g == 0 && decide (k.shut ≤ f)

def State.txGate (s : State) (n t : Nat) : TxGate := SMap.get gateDefault (s.sap n).gate t

def State.setGate (s : State) (n t : Nat) (g : TxGate) : State :=
  s.setSap n { s.sap n with gate := SMap.set gateDefault (s.sap n).gate t g }

/-- The gate of slot `t` is commanded; a ramp at once sets ZC_TIMEOUT. -/
def State.gateCommand (s : State) (n t : Nat) (want : Bool) : State :=
  let k := s.txGate n t
  let now := s.g (F.SAP_ZC_ZC_TO n) == 0
  let s := s.setGate n t (k.command want now)
  if now ∧ want ≠ k.want ∧ !k.ramp ∧ !k.search then s.flag (F.SAP_STAT_ZC_TIMEOUT n) true else s

/-! ## States of the port -/

/-- SDOUT_DRV and CLK_DRV (R420, R431, R440). -/
def State.showDrive (s : State) (n : Nat) : State :=
  let st := s.sapState n
  (s.flag (F.SAP_STAT_SDOUT_DRV n) (decide (2 ≤ st) && s.mayDrive)).flag (F.SAP_STAT_CLK_DRV n)
    (decide (1 ≤ st) && s.sapMasterCfg n && s.mayDrive)

def State.sapGo (s : State) (n st : Nat) : State := (s.p (F.SAP_STAT_STATE n) st).showDrive n

/-- The port stops: it releases its lines and keeps no sample for transmission (R431). -/
def State.sapStopped (s : State) (n : Nat) : State :=
  (s.setSap n { s.sap n with frame := none, first := none, aligned := false, permit := false, tx := [], txHead := 0,
                             txTail := 0, rxFull := false, txFull := false, gate := [] }).sapGo n 0

/-- Port trouble (R436): the port enters RESYNC, or stops where it was stopping. Log 50, DEDUCED. -/
def State.sapTrouble (s : State) (n : Nat) : State :=
  let s := if s.sapState n = 3 then s.sapStopped n
    else (s.setSap n { s.sap n with aligned := false, tx := [], txHead := 0, txTail := 0, rxFull := false, txFull := false }).sapGo n 4
  s.portTrouble n true

/-- A slip (R436); `quiet` for a rate change, which counts as none (R438). -/
def State.sapSlip (s : State) (n : Nat) (quiet : Bool) : State :=
  let s := if s.on (F.SAP_STAT_SLOT_SLIP n) ∨ quiet then s
    else ((s.flag (F.SAP_STAT_SLIP_SEEN n) true).inc (R.SAP_SLIP_CNT n)).emit Kind.slotSlip (Src.sapGroup (n / 4) n) s.tick
  (s.flag (F.SAP_STAT_SLOT_SLIP n) true).sapTrouble n

/-- Whether a write of START to port `n` is refused (R440, R445). -/
def State.sapStartRefused (s : State) (n : Nat) : Bool :=
  s.sapState n != 0 || (s.on F.PAIR_CFG_EN && s.sapStamp n && s.on (F.SAP_CFG_MASTER n))

/-- Port `n` starts with first frame `first`, or at the next leading edge (R429). -/
def State.sapStart (s : State) (n : Nat) (first : Option Nat) : State :=
  let mute := s.g (F.SAP_MUTE_MUTE n)
  let now := s.g (F.SAP_ZC_ZC_TO n) == 0
  let gates := (List.range 16).foldl (fun m t =>
    let shut := { TxGate.closed with prev := (s.txGate n t).prev }
    SMap.set gateDefault m t (if mute.testBit t then shut else shut.command true now)) []
  let k := { s.sap n with frame := none, first := first, aligned := false, permit := false, rxq := [], tx := [], txHead := 0,
                          txTail := 0, rxFull := false, txFull := false, txRamp := [], gate := gates, windows := 0,
                          okWindows := 0, lastClass := 0, devHigh := false }
  ((s.setSap n k).flag (F.SAP_RATE_MEAS_RATE_VALID n) false).sapGo n 1

/-- The first frame of a start written in the present sample period (R429); `mid` where the write comes after its start. Log 50, DEDUCED. -/
def State.sapFirst (s : State) (n : Nat) (mid : Bool) : Option Nat :=
  let m := s.tm.mtc.toNat
  if s.sapStamp n then (if s.sapMaster n then some (m + 1) else none)
  else if s.running then some ((m + (if mid then 3 else 2) + s.nSamp - 1) / s.nSamp * s.nSamp)
  else some (m + 1)

/-- A stop of port `n` (R431). Log 50, DEDUCED. -/
def State.sapStop (s : State) (n : Nat) : State :=
  match s.sapState n with
  | 1 => s.sapStopped n
  | 2 =>
    let s := s.sapGo n 3
    (List.range 16).foldl (fun s t => s.gateCommand n t false) s
  | 4 => s.sapStopped n
  | 5 => s.sapStopped n
  | _ => s

/-- The ports of group `g` that take part in group actions. -/
def State.groupPorts (s : State) (g : Nat) : List Nat :=
  ((List.range 4).map (fun i => 4 * g + i)).filter (fun n => s.on (F.SAP_CTL_GRP_START n))

/-- The scheduled action SAP_START at the boundary of the tick that begins with sample period `m` (R430). -/
def State.sapGroupStart (s : State) (g m : Nat) : State × Bool :=
  let ns := s.groupPorts g
  if ns = [] ∨ ns.any (fun n => s.sapState n != 0 || !s.sapConfigured n) then (s, false)
  else (ns.foldl (fun s n => s.sapStart n (if s.sapStamp n ∧ !s.sapMaster n then none else some m)) s, true)

/-- The scheduled action SAP_STOP (R430). -/
def State.sapGroupStop (s : State) (g : Nat) : State × Bool :=
  let ns := s.groupPorts g
  if ns = [] then (s, false) else (ns.foldl State.sapStop s, true)

/-! ## Transmission of a frame -/

/-- Whether frame `f` begins the output of a tick, and whether all samples of slot `t` of that tick are there. -/
def State.txTickStart (s : State) (n f : Nat) : Bool :=
  if s.sapStamp n then f % s.nSamp == 0
  else (f + s.nSamp * 2 ^ 64 - s.rd64 R.TIME_BASE_MTC_LO R.TIME_BASE_MTC_HI - 2) % s.nSamp == 0

/-- Slot `t` of frame `f`: the word on the line, absent at high impedance (R203, R208, R226, R423, R426). -/
def State.txSlot (s : State) (n f t : Nat) : State × Option Word :=
  let k := s.sap n
  let w := s.sapWordBits n
  let pk := s.g (F.SAP_FMT_TX_PACK n)
  let el := s.elAt n t
  let x := if el.isNone ∧ k.safe then none else SMap.find k.tx (16 * f + t)
  let whole := (List.range s.nSamp).all (fun j => (SMap.find k.tx (16 * (f + j) + t)).isSome) && !(el.isNone && k.safe)
  let r := SMap.get rampZero k.txRamp t
  let r := (if s.txTickStart n f then r.start whole else r).step x
  let out := match el with
    | some e => txWord w pk (gated (s.el e).q r.last)
    | none =>
      let raw := signed w (txWord w pk r.last)
      let v := if (SMap.find s.lv.bad (R.LEVEE_SAP_CEIL n)).isSome then 0 else simpleCeil w (s.g (F.LEVEE_SAP_CEIL_ATT n)) raw
      unsigned w v
  let r := match el with
    | some _ => r
    | none => if out = txWord w pk r.last then r else { r with last := txContainer w pk (signed w out) }
  let s := s.setSap n { s.sap n with txRamp := SMap.set rampZero (s.sap n).txRamp t r }
  if (s.g (F.SAP_MASK_ACTIVE_TX n)).testBit t then (s, some (BitVec.ofNat 32 out))
  else (s, if s.on (F.SAP_CFG_TX_HIZ n) then none else some 0)

/-- Slots `ts` of frame `f`. -/
def State.txSlots (s : State) (n f : Nat) : List Nat → State × List (Option Word)
  | [] => (s, [])
  | t :: ts =>
    let a := s.txSlot n f t
    let b := a.1.txSlots n f ts
    (b.1, a.2 :: b.2)

/-- Frame `f` is transmitted; `zero` where transmit slots carry zero. -/
def State.txFrame (s : State) (n f : Nat) (zero : Bool) : State :=
  let ts := List.range (s.sapSlots n)
  let r : State × List (Option Word) :=
    if zero then
      (s, ts.map (fun t => if s.on (F.SAP_CFG_TX_HIZ n) ∧ !(s.g (F.SAP_MASK_ACTIVE_TX n)).testBit t then none else some 0))
    else s.txSlots n f ts
  let s := r.1.setSap n { r.1.sap n with tx := (r.1.sap n).tx.filter (fun e => decide (16 * (f + 1) ≤ e.1)) }
  if s.on (F.SAP_STAT_SDOUT_DRV n) then s.send (.sap n r.2) else s

/-- The frame that leaves with the edge of frame `f` while the port runs (R428). -/
def State.txRunning (s : State) (n f : Nat) : State :=
  let k := s.sap n
  if s.sapStamp n then
    let full := k.txFull || decide (2 * s.nSamp ≤ k.txTail - k.txHead)
    if full then (s.setSap n { k with txFull := true, txHead := k.txHead + 1 }).txFrame n k.txHead false
    else s.txFrame n 0 true
  else s.txFrame n f false

/-! ## A leading edge -/

/-- Frame `f` is complete: its words with masked slots at zero (R426). A port that is STOPPING counts the frame and keeps none
of its samples, for it is not RUNNING (R433); nor does a crossing that is not READY (R333). -/
def State.rxComplete (s : State) (n f rx : Nat) (ws : List Word) : State :=
  let k := s.sap n
  let words := (List.range (s.sapSlots n)).map (fun t => if rx.testBit t then ws.getD t 0 else 0)
  let q := k.rxq ++ [⟨f, k.edge, words⟩]
  let q := if s.sapStamp n then q else q.drop (q.length - 4 * s.nSamp)
  (s.setSap n { k with rxq := if s.on (F.SAP_STAT_READY n) ∧ s.sapState n ≠ 3 then q else k.rxq }).inc (R.SAP_FRAME_CNT n)

/-- Both trouble flags fall once a complete frame has been received (R437). -/
def State.sapClean (s : State) (n : Nat) : State :=
  if s.on (F.SAP_STAT_SLOT_SLIP n) ∨ s.on (F.SAP_STAT_CLK_LOST n) then
    ((s.flag (F.SAP_STAT_SLOT_SLIP n) false).flag (F.SAP_STAT_CLK_LOST n) false).portTrouble n false
  else s

/-- The edge aligns the port: FIFOs are cleared and frame `m` begins (R437). Frames completed before the trouble stay
with their sample periods under COMMON. Log 50, DEDUCED. -/
def State.sapAlign (s : State) (n m t : Nat) : State :=
  let k := s.sap n
  s.setSap n { k with aligned := true, permit := false, frame := some m, edge := t, tx := [], txHead := 0, txTail := 0
                      rxq := if s.sapStamp n then [] else k.rxq, rxFull := false, txFull := false, txRamp := [] }

/-- A master reports the nominal rate from its first frame (R434). -/
def State.masterRate (s : State) (n : Nat) : State :=
  if s.sapMaster n then
    (((s.p (F.SAP_RATE_MEAS_HZ n) s.fs).p (F.SAP_RATE_MEAS_CLASS n) (s.g F.TICK_CFG_FS_SEL + 1)).flag
      (F.SAP_RATE_MEAS_RATE_VALID n) true).wr (R.SAP_RATE_DEV n) 0
  else s

/-- Whether the edge of frame `m` finds port `n` in its place, `early` where it came too soon (R427, R436). -/
def State.sapPlaced (s : State) (n m : Nat) (early : Bool) : Bool :=
  !early && (s.sapStamp n || m == (s.sap n).frame.getD 0 + 1)

/-- Whether that edge is a slip of a port in RUNNING or STOPPING (R428, R436). -/
def State.sapSlips (s : State) (n m : Nat) (early : Bool) : Bool :=
  let k := s.sap n
  (s.sapState n == 2 || s.sapState n == 3) && (!s.sapPlaced n m early ||
    (s.sapStamp n && (decide (4 * s.nSamp ≤ k.rxq.length) || (k.txFull && k.txHead == k.txTail))))

/-- A leading edge shows that the clock has returned (R436). Where the port has been stopped since, no resynchronisation follows,
and the port-trouble cause ends with the flags. Log 50, DEDUCED. -/
def State.sapClkBack (s : State) (n : Nat) : State :=
  if s.on (F.SAP_STAT_CLK_LOST n) then
    let s := (s.flag (F.SAP_STAT_CLK_LOST n) false).flag (F.SAP_RATE_MEAS_RATE_VALID n) false
    let s := s.setSap n { s.sap n with windows := 0 }
    if s.sapState n ≤ 1 ∧ !s.on (F.SAP_STAT_SLOT_SLIP n) then s.portTrouble n false else s
  else s

/-- Trouble recurs before the first complete frame: the port tries again at the next leading edge (R438). -/
def State.sapRecur (s : State) (n : Nat) : State :=
  let s := s.sapSlip n false
  s.setSap n { s.sap n with permit := true }

/-- The edge of frame `m` at time `t` (1/256 sample) in a port by its state, with the words `ws` of the frame it ends
and the receive mask `rx` that frame had; `early` where it came before that frame's last bit-clock period. -/
def State.sapEdge (s : State) (n m t rx : Nat) (ws : List Word) (early : Bool) : State :=
  let k := s.sap n
  let stamp := s.sapStamp n
  let prev := k.frame.getD 0
  let next := if stamp then prev + 1 else m
  let placed := s.sapPlaced n m early
  match s.sapState n with
  | 1 =>
    if (match k.first with | some f => decide (f ≤ m) | none => true) then
      let f := if stamp then 0 else m
      let s := ((s.setSap n { k with frame := some f, edge := t, first := none }).wr (R.SAP_FRAME_CNT n) 0).sapGo n 2
      (s.masterRate n).txRunning n f
    else s
  | 4 =>
    if k.aligned then
      if placed then
        let s := ((s.rxComplete n prev rx ws).inc (R.SAP_RESTART_CNT n)).flag (F.SAP_RATE_MEAS_RATE_VALID n) false
        let s := (s.setSap n { s.sap n with frame := some next, edge := t, aligned := false, windows := 0 }).sapGo n 2
        ((s.flag (F.SAP_STAT_SLOT_SLIP n) false).portTrouble n false).masterRate n |>.txRunning n next
      else (s.sapRecur n).txFrame n 0 true
    else if s.on (F.SAP_CTL_AUTO_RESTART n) ∨ k.permit then (s.sapAlign n (if stamp then 0 else m) t).txFrame n 0 true
    else s.txFrame n 0 true
  | 0 => s
  | 5 => s.txFrame n 0 true
  | st =>
    if s.sapSlips n m early then (s.sapSlip n false).txFrame n 0 true
    else
      let s := (s.rxComplete n prev rx ws).sapClean n
      let s := s.setSap n { s.sap n with frame := some next, edge := t }
      let sent := if stamp then k.txHead - 1 else prev
      if st = 3 ∧ (List.range (s.sapSlots n)).all (fun i => (s.txGate n i).shutIn sent) then s.sapStopped n
      else s.txRunning n next

/-- The masks at a leading edge (R425). -/
def State.sapMasks (s : State) (n : Nat) : State :=
  if (s.sap n).maskHold then s.setSap n { s.sap n with maskHold := false }
  else s.wr (R.SAP_MASK_ACTIVE n) (s.rd (R.SAP_MASK n))

/-- The transmit FIFO across a crossing that is not READY reads empty (R333). -/
def State.sapCut (s : State) (n : Nat) : State :=
  if s.on (F.SAP_STAT_READY n) then s else s.setSap n { s.sap n with tx := [], txTail := (s.sap n).txHead }

/-- SAP_FRAME (R427): a leading edge of port `n`, `ph` 1/256 of a sample period from the sample boundary it lies
nearest to (exactly half after one counts to the next), with the slot words `ws` of the frame it ends. Less than one
media-clock period before it began the hard mutes of the elements `youngHard`, the soft mutes of `youngSoft`, and the safe state
in force where `youngSafe` (R216, R302). -/
def execSapFrame (n : Fin 24) (ph : BitVec 8) (ws : List Word) (early : Bool) (youngHard youngSoft : List Nat) (youngSafe : Bool)
    (s : State) : Host.Outcome State Fault Refusal :=
  let young : Young := ⟨youngHard, youngSoft, youngSafe⟩
  let s := s.sapCut n
  let s := s.setSap n { s.sap n with safe := s.leveeSafe && ((s.sap n).safe || !youngSafe) }
  let mtc := s.tm.mtc.toNat
  let master := s.sapMaster n
  let off : Int := if master then 0 else ph.toInt
  let m := if off < 0 then mtc + 1 else mtc
  let t := (((m * 256 : Nat) : Int) + off).toNat
  let rx := s.g (F.SAP_MASK_ACTIVE_RX n)
  let s := s.sapMasks n
  let s := if s.sapStamp n then s else s.wr (R.SAP_PHASE n) (BitVec.ofInt 32 off)
  let s := if s.sapState n = 0 then s
    else
      let slip := s.sapSlips n m (early && !master)
      (s.boundEls.filter (fun e => (s.el e).port == n.val)).foldl (fun s e => s.gateEdge e young slip) s
  .next ((s.sapClkBack n).sapEdge n m t rx ws (early && !master))

/-! ## Clock trouble (R434 to R438) -/

/-- LATE_LEADING_EDGE (R436): no edge by one bit-clock period after the frame's last. -/
def execLateLeadingEdge (n : Fin 24) (s : State) : Host.Outcome State Fault Refusal :=
  let st := s.sapState n
  if s.sapMaster n then .next s
  else if st = 2 ∨ st = 3 then .next (s.sapSlip n false)
  else if st = 4 ∧ (s.sap n).aligned then .next (s.sapRecur n)
  else .next s

/-- SAP_CLK_LOST (R436): no leading edge within 2 frame periods of the previous one. -/
def execSapClkLost (n : Fin 24) (s : State) : Host.Outcome State Fault Refusal :=
  if 2 ≤ s.sapState n ∧ !s.sapMaster n ∧ !s.on (F.SAP_STAT_CLK_LOST n) then
    let s := ((s.flag (F.SAP_STAT_CLK_LOST n) true).flag (F.SAP_STAT_CLK_LOST_SEEN n) true).inc (R.SAP_CLKLOST_CNT n)
    .next ((s.emit Kind.sapClkLost (Src.sapGroup (n / 4) n) s.tick).sapTrouble n)
  else .next s

/-- The rate class of a measured rate (R434). -/
def rateClass (hz : Nat) : Nat :=
  ((List.range 6).find? (fun i => decide (fsHz i * 98 ≤ hz * 100 ∧ hz * 100 ≤ fsHz i * 102))).elim 0 (· + 1)

/-- The measurement of a completed window (R434, R435). Log 50, DEDUCED. -/
def State.rateWindow (s : State) (n hz : Nat) (dev : BitVec 16) : State :=
  let k := s.sap n
  let c := rateClass hz
  let w := k.windows + 1
  let valid := decide (2 ≤ w)
  let s := (((s.p (F.SAP_RATE_MEAS_HZ n) hz).p (F.SAP_RATE_MEAS_CLASS n) c).flag (F.SAP_RATE_MEAS_RATE_VALID n) valid).wr
    (R.SAP_RATE_DEV n) (dev.signExtend 32)
  let high := decide (s.g (F.SAP_RATE_THR_THR n) < dev.toInt.natAbs)
  let s := if valid ∧ (c ≠ k.lastClass ∨ (high ∧ !k.devHigh)) then
      (s.flag (F.SAP_STAT_RATE_EVT n) true).emit Kind.sapRate (Src.sapGroup (n / 4) n) hz
    else s
  let good := c == s.g F.TICK_CFG_FS_SEL + 1
  let okw := if good then k.okWindows + 1 else 0
  let s := s.setSap n { k with windows := w, lastClass := c, devHigh := high, okWindows := okw }
  if !good then
    let s := s.sapSlip n false
    (s.setSap n { s.sap n with permit := false }).sapGo n 5
  else if s.sapState n = 5 ∧ 2 ≤ okw ∧ (s.on (F.SAP_CTL_AUTO_RATE n) ∨ (s.sap n).permit) then
    (s.setSap n { s.sap n with permit := true, aligned := false }).sapGo n 4
  else s

/-- A read of SAP_RATE_MEAS, or of SAP_RATE_DEV where `dev`: its samples agree, or not (`stale`, R331, R332). -/
def State.rateRead (s : State) (n : Nat) (dev stale : Bool) : State × Word :=
  if stale then
    let s := (s.flag (F.SAP_RATE_MEAS_STALE n) true).emit Kind.cdcStale (Src.sapGroup (n / 4) n)
      (if dev then R.SAP_RATE_DEV n else R.SAP_RATE_MEAS n)
    (s, if dev then (s.sap n).devShown else putBits (s.sap n).rateShown 30 30 1)
  else
    let s := s.flag (F.SAP_RATE_MEAS_STALE n) false
    if dev then (s.setSap n { s.sap n with devShown := s.rd (R.SAP_RATE_DEV n) }, s.rd (R.SAP_RATE_DEV n))
    else (s.setSap n { s.sap n with rateShown := s.rd (R.SAP_RATE_MEAS n) }, s.rd (R.SAP_RATE_MEAS n))

/-- SAP_RATE_WINDOW (R434): `hz` is the rate measured over the window, `dev` its offset from the nominal in ppm. -/
def execSapRateWindow (n : Fin 24) (hz : Fin 262144) (dev : BitVec 16) (s : State) : Host.Outcome State Fault Refusal :=
  let st := s.sapState n
  if !s.sapMaster n ∧ (st = 2 ∨ st = 4 ∨ st = 5) then .next (s.rateWindow n hz dev) else .next s

/-- A change of FS_SEL takes effect (R438). -/
def State.sapRateChange (s : State) : State :=
  (List.range 24).foldl (fun s n => if s.sapState n = 2 then s.sapSlip n true else s) s

/-- A domain reset of SAP_n (R439). -/
def State.sapDomainReset (s : State) (n : Nat) : State :=
  let s := ((s.wr (R.SAP_MASK n) 0).wr (R.SAP_MASK_ACTIVE n) 0).wr (R.SAP_FRAME_CNT n) 0
  let s := s.setSap n { s.sap n with maskHold := false }
  if s.sapState n = 2 then s.sapSlip n false else s

/-! ## Timeouts and register writes -/

/-- ZC_TIMEOUT (R432): no zero crossing came to the gate of slot `t` within ZC_TO. -/
def execZcTimeout (n : Fin 24) (t : Fin 16) (s : State) : Host.Outcome State Fault Refusal :=
  let k := s.txGate n t
  .next (if k.search then (s.setGate n t k.expire).flag (F.SAP_STAT_ZC_TIMEOUT n) true else s)

/-- STOP_TIMEOUT (R431): ZC_TO plus 16 sample periods have passed since the stop began. -/
def execStopTimeout (n : Fin 24) (s : State) : Host.Outcome State Fault Refusal :=
  .next (if s.sapState n = 3 then s.sapStopped n else s)

def State.sapRefused (s : State) (n : Nat) : State := s.flag (F.SAP_STAT_CFG_REFUSED n) true

/-- A write to SAP_CTL of port `n` (R429, R431, R438, R445); `mid` where it comes after the start of its sample period. -/
def State.sapCtlWrite (s : State) (n : Nat) (v : Word) (mid : Bool) : State :=
  let start := v.getLsbD 0
  let restart := v.getLsbD 8
  let st := s.sapState n
  if (start ∧ s.sapStartRefused n) ∨
      (restart ∧ !(st == 4 || (st == 5 && (s.sap n).lastClass == s.g F.TICK_CFG_FS_SEL + 1))) then s.sapRefused n
  else
    let s := s.fieldWrite (R.SAP_CTL n) v
    let s := if start then s.sapStart n (s.sapFirst n mid) else s
    let s := if v.getLsbD 1 then s.sapStop n else s
    if restart ∧ s.sapState n ≠ 0 then
      let s := s.setSap n { s.sap n with permit := true }
      if s.sapState n = 5 ∧ 2 ≤ (s.sap n).okWindows then (s.setSap n { s.sap n with aligned := false }).sapGo n 4 else s
    else s

/-- SAP_CTL_START, SAP_CTL_STOP and SAP_CTL_RESTART: a write of `v` to SAP_CTL with the bit at 1. -/
def execSapCtlStart (n : Fin 24) (v : Word) (mid : Bool) (s : State) : Host.Outcome State Fault Refusal :=
  .next (s.sapCtlWrite n (v ||| 1#32) mid).ok
def execSapCtlStop (n : Fin 24) (v : Word) (s : State) : Host.Outcome State Fault Refusal := .next (s.sapCtlWrite n (v ||| 2#32) true).ok
def execSapCtlRestart (n : Fin 24) (v : Word) (s : State) : Host.Outcome State Fault Refusal := .next (s.sapCtlWrite n (v ||| 0x100#32) true).ok

/-- A write to SAP_MUTE (R432). -/
def State.sapMuteWrite (s : State) (n : Nat) (v : Word) : State :=
  let old := s.g (F.SAP_MUTE_MUTE n)
  let s := s.fieldWrite (R.SAP_MUTE n) v
  if s.sapState n = 0 ∨ s.sapState n = 3 then s
  else (List.range 16).foldl (fun s t => if old.testBit t = v.getLsbD t then s else s.gateCommand n t (!v.getLsbD t)) s

/-- SAP_MUTE_WRITE (R432). -/
def execSapMuteWrite (n : Fin 24) (v : Word) (s : State) : Host.Outcome State Fault Refusal := .next (s.sapMuteWrite n v).ok

/-- A write to a FAR register of domain `d` whose clock is stopped does not complete (R14, R335); where its master has an access
in progress it waits behind that (R325). Log 44, DEDUCED. -/
def State.hang (s : State) (d a : Nat) (v : Option Word) : State :=
  let d := if s.mx.hung.any (fun h => h.who == .bus false) then 36 else d
  { s with mx := { s.mx with hung := s.mx.hung ++ [⟨d, a, false, v, 4, .bus false⟩] } }

/-- Whether the far side of port `n` answers: its clock runs and the crossing is ready (R333). -/
def State.sapFar (s : State) (n : Nat) : Bool := s.farLive n

/-- A write to SAP_MASK (R425, R442); `guard` where it completes its crossing in the guard window. -/
def State.sapMaskWrite (s : State) (n : Nat) (v : Word) (guard : Bool) : State :=
  if !s.sapFar n then s.hang n (R.SAP_MASK n) (some v)
  else if s.g (F.SAP_TEL_TEL n) &&& (65535 - bitsOf v 15 0) ≠ 0 then (s.sapRefused n).ok
  else
    let s := s.wr (R.SAP_MASK n) v
    if guard then ((s.setSap n { s.sap n with maskHold := true }).flag (F.SAP_STAT_MASK_LATE n) true).ok else s.ok

/-- SAP_MASK_WRITE (R425). -/
def execSapMaskWrite (n : Fin 24) (v : Word) (guard : Bool) (s : State) : Host.Outcome State Fault Refusal :=
  .next (s.sapMaskWrite n v guard)

/-- A write at offset `o` of the window of port `n` (R422, R442, R445). -/
def State.sapWrite (s : State) (n o : Nat) (v : Word) : State :=
  let a := R.SAP_CTL n + o
  if (regSpecAt a).isNone then s.unmapped a
  else
    match o with
    | 0x00 => (s.sapCtlWrite n v true).ok
    | 0x04 =>
      if s.sapState n ≠ 0 ∨ (v.getLsbD 31 ∧ !s.formatAllowed (s.rd (R.SAP_FMT n)) true (s.g (F.SAP_TEL_TEL n))) then
        (s.sapRefused n).ok
      else (s.fieldWrite a v).ok
    | 0x08 =>
      if s.sapState n ≠ 0 ∨ !s.formatAllowed v (s.on (F.SAP_CFG_MASTER n)) (s.g (F.SAP_TEL_TEL n)) then (s.sapRefused n).ok
      else (s.fieldWrite a v).ok
    | 0x0C => if 10000 < bitsOf v 15 0 then (s.sapRefused n).ok else (s.fieldWrite a v).ok
    | 0x10 => (s.sapMuteWrite n v).ok
    | 0x14 =>
      let tel := bitsOf v 15 0
      if tel ≠ 0 ∧ (s.g (F.SAP_FMT_SLOT_BITS n) ≠ 2 ∨ s.g (F.SAP_FMT_WORD_BITS n) ≠ 2 ∨
          tel &&& (65535 - s.g (F.SAP_MASK_RX n)) ≠ 0) then (s.sapRefused n).ok
      else (s.fieldWrite a v).ok
    | 0x20 => s.sapMaskWrite n v false
    | 0x24 => if s.sapFar n then s.ok else s.hang n a (some v)
    | 0x60 => if s.sapFar n then s.ok else s.hang n a (some v)
    | 0x3C => if bitsOf v 15 0 < 100 ∨ 20000 < bitsOf v 15 0 then (s.sapRefused n).ok else (s.fieldWrite a v).ok
    | 0x380 =>
      if ((List.range 4).map (fun i => n / 4 * 4 + i)).all (fun i => s.sapState i == 0) then (s.fieldWrite a v).ok
      else (s.sapRefused n).ok
    | _ => (s.fieldWrite a v).ok

/-! ## What the gather takes and the distribute delivers -/

/-- What the ramps of R433 make of the samples of receive slot `t`. -/
def State.rxSlot (s : State) (n t : Nat) (fs : List (Option RxFrame)) : State :=
  let k := s.sap n
  let w := s.sapWordBits n
  let raw := fs.map (fun f => f.map (fun x => x.words.getD t 0))
  let r := SMap.get rampZero k.rxRamp t
  let out : Ramp × List Word :=
    if (s.g (F.SAP_TEL_TEL n)).testBit t then (r, raw.map (fun x => x.getD 0))
    else r.tick (raw.map (fun x => x.map (rxContainer w (s.g (F.SAP_FMT_RX_PACK n)))))
  let g := (out.2.zipIdx).foldl (fun m x => SMap.insert m (32 * t + x.2) x.1) k.gath
  s.setSap n { k with rxRamp := SMap.set rampZero k.rxRamp t out.1, gath := g }

/-- The gather of the tick whose boundary is sample period `m` takes the frames of port `n` (R52, R428, R433). -/
def State.sapGather (s : State) (n m : Nat) : State :=
  let nn := s.nSamp
  let k := if s.on (F.SAP_STAT_READY n) then s.sap n else { s.sap n with rxq := [] }
  let r : State × List (Option RxFrame) :=
    if s.sapStamp n then
      if s.sapState n = 2 ∧ (k.rxFull ∨ 2 * nn ≤ k.rxq.length) then
        if k.rxq.length < nn then (s.sapSlip n false, List.replicate nn none)
        else
          let x := (k.rxq.head?.map RxFrame.stamp).getD 0
          let s := s.wr64 (R.SAP_STAMP_LO n) (R.SAP_STAMP_HI n) x
          (s.setSap n { k with rxq := k.rxq.drop nn, rxFull := true }, (k.rxq.take nn).map some)
      else (s, List.replicate nn none)
    else
      let want := (List.range nn).map (fun j => k.rxq.find? (fun f => f.num + nn + 1 == m + j))
      (s.setSap n { k with rxq := k.rxq.filter (fun f => decide (m ≤ f.num + 1)) }, want)
  let s := r.1.setSap n { r.1.sap n with gath := [] }
  (List.range (s.sapSlots n)).foldl (fun s t => s.rxSlot n t r.2) s

/-- Sample `j` of receive slot `t` of port `n` in this tick. -/
def State.sapSample (s : State) (n t j : Nat) : Word := SMap.get zeroW (s.sap n).gath (32 * t + j)

/-- The frame that carries sample 0 of the distribute of tick `k` (R52, R428). -/
def State.txBase (s : State) (n k : Nat) : Nat :=
  if s.sapStamp n then (s.sap n).txTail
  else s.rd64 R.TIME_BASE_MTC_LO R.TIME_BASE_MTC_HI + (k + 1 - s.rd64 R.TIME_BASE_TICK_LO R.TIME_BASE_TICK_HI) * s.nSamp + 2

/-- The samples `xs` of slot `t` through its gate, for frames from `f`. -/
def State.txGateRun (s : State) (n t f : Nat) : List Word → State × List Word
  | [] => (s, [])
  | x :: xs =>
    let wait := match (s.sap n).first with | some a => decide (f < a) && !s.sapStamp n | none => false
    let a : State × Word := if wait then (s.setGate n t { s.txGate n t with prev := some x.msb }, 0) else let r := (s.txGate n t).step x f; (s.setGate n t r.1, r.2)
    let b := a.1.txGateRun n t (f + 1) xs
    (b.1, a.2 :: b.2)

/-- The distribute of tick `k` delivers the samples `xs` to transmit slot `t` of port `n`: gate, Levee, FIFO (R203,
R432). -/
def State.sapDeliver (s : State) (n t k : Nat) (xs : List Word) : State :=
  let f := s.txBase n k
  let a := s.txGateRun n t f xs
  let b : State × List Word := match a.1.elAt n t with
    | some e => a.1.gainStage e a.2
    | none => a
  let s := b.1
  let st := s.sapState n
  if (st = 1 ∨ st = 2 ∨ st = 3) ∧ s.on (F.SAP_STAT_READY n) then
    let tx := (b.2.zipIdx).foldl (fun m y => SMap.insert m (16 * (f + y.2) + t) y.1) (s.sap n).tx
    s.setSap n { s.sap n with tx := tx }
  else s

/-- The end of a distribute: a port under STAMP appends N frames (R428). -/
def State.sapAppend (s : State) (n : Nat) : State :=
  let st := s.sapState n
  if s.sapStamp n ∧ (st = 2 ∨ st = 3) ∧ s.on (F.SAP_STAT_READY n) then
    let k := s.sap n
    let s := s.setSap n { k with txTail := k.txTail + s.nSamp }
    if 4 * s.nSamp < k.txTail + s.nSamp - k.txHead then s.sapSlip n false else s
  else s

end Sys2Proof.Machine
end

