-- ==== Sys2Proof/Machine/Xing.lean ====
section
/-!
DEFINITION. The crossing table store (spec/07): the two copies and their validation, coefficient set state, and the
capture rings.
-/
namespace Sys2Proof.Machine

/-! ## Endpoints and entries (R178, R181) -/

/-- The KIND codes of an endpoint. -/
inductive EpKind where
  | none | slot | sap | flow | clbuf | dline | zero | reserved
  deriving DecidableEq, Repr

/-- The KIND of a 28-bit endpoint. -/
def epKind (e : Nat) : EpKind :=
  match e / 2 ^ 25 % 8 with
  | 0 => .none
  | 1 => .slot
  | 2 => .sap
  | 3 => .flow
  | 4 => .clbuf
  | 5 => .dline
  | 6 => .zero
  | _ => .reserved

/-- The ARG of an endpoint. -/
def epArg (e : Nat) : Nat := e % 2 ^ 25

def epPort (e : Nat) : Nat := epArg e / 16 % 32
def epTdm (e : Nat) : Nat := epArg e % 16
def epFlow (e : Nat) : Nat := epArg e / 256 % 1024
def epChan (e : Nat) : Nat := epArg e % 256
def epCluster (e : Nat) : Nat := epArg e / 2 ^ 21
def epStr (e : Nat) : Nat := epArg e / 2 ^ 18 % 8
def epWord (e : Nat) : Nat := epArg e % 2 ^ 16

/-- Word `w` of entry `e` of copy `x`. -/
def State.xtw (s : State) (x e w : Nat) : Word := SMap.get zeroW s.xg.xt (32768 * x + 4 * e + w)

/-- The copy in force. -/
def State.xSel (s : State) : Nat := s.g F.XING_CTL_SEL

def State.xValid (s : State) (x e : Nat) : Bool := (s.xtw x e 0).getLsbD 31
def State.xPhase (s : State) (x e : Nat) : Bool := (s.xtw x e 0).getLsbD 30
def State.xSrc (s : State) (x e : Nat) : Nat := bitsOf (s.xtw x e 0) 27 0
def State.xDst (s : State) (x e : Nat) : Nat := bitsOf (s.xtw x e 1) 27 0
def State.xConv (s : State) (x e : Nat) : Nat := bitsOf (s.xtw x e 1) 31 28
def State.xTagEn (s : State) (x e : Nat) : Bool := (s.xtw x e 2).getLsbD 12
def State.xTag (s : State) (x e : Nat) : Nat := bitsOf (s.xtw x e 2) 11 0

/-- The entries of copy `x` that are Crossings, ascending. -/
def State.xEntries (s : State) (x : Nat) : List Nat :=
  (s.xg.xt.filter (fun k => k.1 / 32768 == x && k.1 % 4 == 0 && k.2.getLsbD 31)).map (fun k => k.1 % 32768 / 4)

/-- Registers BASE and LEN of descriptor `d` of copy `x` (R192). -/
def State.dlBase (s : State) (x d : Nat) : Word := SMap.get zeroW s.xg.dl (512 * x + 2 * d)
def State.dlLen (s : State) (x d : Nat) : Nat := bitsOf (SMap.get zeroW s.xg.dl (512 * x + 2 * d + 1)) 19 0
def State.dlRegion (s : State) (x d : Nat) : Nat := bitsOf (s.dlBase x d) 29 28
def State.dlWord (s : State) (x d : Nat) : Nat := bitsOf (s.dlBase x d) 18 0

/-! ## Validation (R182) -/

/-- Whether the kinds of an entry are permitted in its phase (R179). -/
def kindsAllowed (dist : Bool) (src dst : Nat) : Bool :=
  let s := epKind src
  let d := epKind dst
  if dist then
    (s == .slot || s == .clbuf || s == .zero) && (d == .slot || d == .sap || d == .flow || d == .clbuf)
  else (s == .slot || s == .sap || s == .flow || s == .clbuf || s == .zero) && (d == .slot || d == .clbuf || d == .dline)

/-- Whether an endpoint's ARG lies in its range with unlisted bits zero. -/
def argAllowed (n e : Nat) : Bool :=
  match epKind e with
  | .slot => decide (epArg e < 4096)
  | .sap => decide (epArg e < 512) && decide (epPort e < 24)
  | .flow => decide (epArg e < 2 ^ 18) && decide (1 ≤ epFlow e)
  | .clbuf => decide (epArg e / 2 ^ 16 % 4 = 0) && decide (epStr e ≤ 6) &&
      decide (epWord e + (n - 1) * 2 ^ epStr e ≤ 0xFFFF)
  | .dline => decide (epArg e < 256)
  | .zero => decide (epArg e = 0)
  | _ => true

/-- Whether the descriptor of a DLINE destination serves `n` samples. -/
def State.dlineAllowed (s : State) (x n e : Nat) : Bool :=
  match epKind e with
  | .dline =>
    let d := epArg e
    (s.dlBase x d).getLsbD 31 && decide (n ≤ s.dlLen x d) && decide (s.dlWord x d + s.dlLen x d ≤ 0x77FFF)
  | _ => true

/-- What earlier entries of one phase use. -/
structure Seen where
  dsts : List Nat
  srcs : List Nat
  deriving DecidableEq, Repr

/-- The lowest reason for which entry `e` fails, if any, with `seen` of its phase. -/
def State.xFails (s : State) (x n : Nat) (seen : Seen) (e : Nat) : Option Nat :=
  let src := s.xSrc x e
  let dst := s.xDst x e
  let dist := s.xPhase x e
  if !kindsAllowed dist src dst then some 0
  else if !(argAllowed n src && argAllowed n dst) then some 1
  else if dst ∈ seen.dsts then some 2
  else if dst ∈ seen.srcs ∨ src ∈ seen.dsts then some 3
  else if 7 ≤ s.xConv x e ∨ bitsOf (s.xtw x e 0) 29 28 ≠ 0 ∨ bitsOf (s.xtw x e 2) 31 13 ≠ 0 ∨ s.xtw x e 3 ≠ 0 then some 4
  else if !s.dlineAllowed x n dst then some 5
  else if s.xTagEn x e ∧ !(dist && epKind src == .clbuf) then some 6
  else none

/-- The first failing entry among `es` and its reason; `g` and `d` are what earlier gather and distribute entries
use. -/
def State.xCheck (s : State) (x n : Nat) (g d : Seen) : List Nat → Option (Nat × Nat)
  | [] => none
  | e :: es =>
    let dist := s.xPhase x e
    match s.xFails x n (if dist then d else g) e with
    | some r => some (e, r)
    | none =>
      let add := fun (k : Seen) => (⟨s.xDst x e :: k.dsts, s.xSrc x e :: k.srcs⟩ : Seen)
      if dist then s.xCheck x n g (add d) es else s.xCheck x n (add g) d es

def State.xFirstFail (s : State) (x : Nat) : Option (Nat × Nat) :=
  s.xCheck x s.nSamp ⟨[], []⟩ ⟨[], []⟩ (s.xEntries x)

/-- The home region of an endpoint (R178). -/
def State.epHome (s : State) (x e : Nat) : Option Nat :=
  match epKind e with
  | .slot => some (epArg e / 1024 % 4)
  | .clbuf => some (epCluster e / 4 % 4)
  | .dline => some (s.dlRegion x (epArg e % 256))
  | _ => none

/-- The engine that executes entry `e` (R185). -/
def State.xEngine (s : State) (x e : Nat) : Nat :=
  match s.epHome x (s.xDst x e), s.epHome x (s.xSrc x e) with
  | some g, _ => g
  | none, some g => g
  | none, none => e % 4

/-- Engine cycles of one Crossing or captured slot (R188, R200). -/
def State.xCost (s : State) : Nat := 1 + (s.nSamp + 3) / 4

/-- The load of engine `g` in one phase of copy `x` (R188). -/
def State.xLoad (s : State) (x g : Nat) (dist : Bool) : Nat :=
  s.xCost * (s.xEntries x).countP (fun e => s.xPhase x e == dist && s.xEngine x e == g)

/-- The limits of both phases (R188). -/
def State.xLimit (s : State) (dist : Bool) : Nat := (if dist then 80 else 64) * 10 ^ 6 * s.nSamp / s.fs - 16

/-- XING_LIMIT at the TICK_CFG in force. Log 10, DEDUCED. -/
def State.limitView (s : State) : Word := BitVec.ofNat 32 (s.xLimit true * 2 ^ 16 + s.xLimit false)

/-- Whether the load of some engine in copy `x` exceeds its limit (R188). -/
def State.xAbove (s : State) (x : Nat) : Bool :=
  (List.range 4).any (fun g => decide (s.xLimit false < s.xLoad x g false) || decide (s.xLimit true < s.xLoad x g true))

/-- OVERLOAD follows the pending copy and the limits (R188). -/
def State.showOverload (s : State) : State := s.flag F.XING_STAT_OVERLOAD (s.xAbove (1 - s.xSel))

/-- XING_CTL.VALIDATE written (R182, R188). -/
def State.xValidate (s : State) : State :=
  let x := 1 - s.xSel
  let s := (List.range 4).foldl (fun s g =>
    s.wr (R.XING_LOAD g) (BitVec.ofNat 32 (min (s.xLoad x g true) 0xFFFF * 2 ^ 16 + min (s.xLoad x g false) 0xFFFF))) s
  let s := s.showOverload
  match s.xFirstFail x with
  | none => s.p F.XING_STAT_PSTATE 1
  | some (e, r) => ((s.p F.XING_STAT_PSTATE 2).p F.XING_ERR_REASON r).p F.XING_ERR_ENTRY e

/-- XING_VALIDATE (R182). -/
def execXingValidate (s : State) : Host.Outcome State Fault Refusal := .next s.xValidate.ok

/-- The pending copy becomes the copy in force (R183, R184). -/
def State.xSwap (s : State) : State :=
  let s := ((s.p F.XING_CTL_SEL (1 - s.xSel)).p F.XING_STAT_PSTATE 0).flag F.XING_STAT_INF_SUSPENDED false
  ({ s with pr := { s.pr with sigDirty := true } } : State).showOverload

/-- XING_CTL.SEL written with a value (R183). -/
def State.xSelWrite (s : State) (v : Nat) : State :=
  if v = s.xSel then s
  else if !s.running ∧ s.g F.XING_STAT_PSTATE = 1 then s.xSwap
  else s.flag F.XING_STAT_CFG_REFUSED true

/-- XING_SEL_WRITE (R183): a write of XING_CTL with this SEL, and VALIDATE where `validate`. -/
def execXingSelWrite (v : Fin 2) (validate : Bool) (s : State) : Host.Outcome State Fault Refusal :=
  let t := s.xSelWrite v
  .next (if validate then t.xValidate else t).ok

/-- The scheduled action XING_SWITCH: whether it was taken (R183). -/
def State.xingSwitch (s : State) : State × Bool :=
  if s.g F.XING_STAT_PSTATE = 1 then (s.xSwap, true) else (s.flag F.XING_STAT_SW_REFUSED true, false)

/-- After an accepted write to TICK_CFG: the pending copy is open again (R182), and the copy in force is checked against
the new N (R184). Log 19, DEDUCED. -/
def State.xRecheck (s : State) : State :=
  ((s.p F.XING_STAT_PSTATE 0).flag F.XING_STAT_INF_SUSPENDED (s.xFirstFail s.xSel).isSome).showOverload

/-! ## Writes to the copies (R180) -/

/-- A write to a word of copy `x`: an entry word, or a descriptor register where `desc`. -/
def State.xingWrite (s : State) (x : Nat) (desc : Bool) (i w : Nat) (v : Word) : State :=
  if x = s.xSel then (s.flag F.XING_STAT_TBL_WR_ERR true).err
  else
    let g :=
      if desc then
        { s.xg with dl := SMap.set zeroW s.xg.dl (512 * x + 2 * i + w) (v &&& if w = 0 then 0xB007FFFF#32 else 0x000FFFFF#32) }
      else { s.xg with xt := SMap.set zeroW s.xg.xt (32768 * x + 4 * i + w) v }
    (({ s with xg := g } : State).p F.XING_STAT_PSTATE 0).showOverload.ok

/-- XING_ENTRY_WRITE (R180): window entry `i` of the page and copy that XING_WIN names, or descriptor `i` of that
copy. -/
def execXingEntryWrite (desc : Bool) (i : Fin 2048) (w : Fin 4) (v : Word) (s : State) : Host.Outcome State Fault Refusal :=
  let x := s.g F.XING_WIN_COPY
  if desc then .next (s.xingWrite x true (i % 256) (w % 2) v)
  else .next (s.xingWrite x false (2048 * s.g F.XING_WIN_PAGE + i) w v)

/-! ## Coefficient sets (R194 to R197) -/

/-- The scheduled action COEF_SWAP for task `t`: whether it was taken (R195). -/
def State.coefSwap (s : State) (t : Nat) : State × Bool :=
  if t < 128 ∧ s.ttValid s.ttSel t ∧ !s.on (F.XING_CS_XF t) then
    let l := s.g (F.XING_CS_LEN_L t)
    let s := ((s.p (F.XING_CS_TARGET t) (1 - s.g (F.XING_CS_TARGET t))).flag (F.XING_CS_XF t) true).p (F.XING_CS_XF_LEFT t) l
    ({ s with xg := { s.xg with xfLen := SMap.set zeroN s.xg.xfLen t l } }, true)
  else (s.flag F.XING_STAT_CS_REFUSED true, false)

/-- The coefficient crossfades advance by one boundary (R196). -/
def State.coefAdvance (s : State) : State :=
  (List.range 128).foldl (fun s t =>
    if s.on (F.XING_CS_XF t) then
      let n := s.g (F.XING_CS_XF_LEFT t) - 1
      (s.p (F.XING_CS_XF_LEFT t) n).flag (F.XING_CS_XF t) (n != 0)
    else s) s

/-! ## Capture rings (R199 to R201) -/

/-- Which register of a capture ring a write names. -/
def capRefused (s : State) : State := s.flag F.XING_STAT_CFG_REFUSED true

/-- A write to register `w` (0 CTL, 1 BUF, 2 SIZE) of capture ring `r` (R199, R202). Log 9, DEDUCED; log 30, DEDUCED. -/
def State.capWrite (s : State) (r w : Nat) (v : Word) : State :=
  let en := s.on (F.XING_CAP_CTL_EN r)
  if w = 0 then
    let v := v &&& 0x8001007F#32
    if 64 < bitsOf v 6 0 then capRefused s
    else if en then
      if v = s.rd (R.XING_CAP_CTL r) then s
      else if v = putBits (s.rd (R.XING_CAP_CTL r)) 31 31 0 then s.wr (R.XING_CAP_CTL r) v
      else capRefused s
    else
      let s := s.wr (R.XING_CAP_CTL r) v
      if v.getLsbD 31 then (s.wr (R.XING_CAP_WR r) 0).wr (R.XING_CAP_RD r) 0 else s
  else if w = 1 then
    let v := v &&& 0x000FFFF0#32
    if v = s.rd (R.XING_CAP_BUF r) then s
    else if en ∨ 0x100000 < v.toNat + s.g (F.XING_CAP_SIZE_SIZE r) then capRefused s
    else s.wr (R.XING_CAP_BUF r) v
  else
    let n := bitsOf v 18 0
    if n % 16 ≠ 0 ∨ n < 4096 ∨ 262144 < n ∨ 0x100000 < (s.rd (R.XING_CAP_BUF r)).toNat + n then capRefused s
    else if n = s.g (F.XING_CAP_SIZE_SIZE r) then s
    else if en then capRefused s
    else s.wr (R.XING_CAP_SIZE r) (BitVec.ofNat 32 n)

/-- CAP_RING_CTL_WRITE (R199). -/
def execCapRingCtlWrite (r : Fin 8) (w : Fin 3) (v : Word) (s : State) : Host.Outcome State Fault Refusal :=
  .next (s.capWrite r w v).ok

/-- The bytes of a frame of ring `r`: header and samples, to a 16-byte boundary (R201). -/
def State.capBytes (s : State) (r : Nat) : Nat := (16 + 4 * s.g (F.XING_CAP_CTL_COUNT r) * s.nSamp + 15) / 16 * 16

/-- The free space of the staging buffer of ring `r` (R200). -/
def State.capFree (s : State) (r : Nat) : Nat :=
  let n := s.g (F.XING_CAP_SIZE_SIZE r)
  if n = 0 then 0 else (s.g (F.XING_CAP_RD_RD r) + 2 * n - s.g (F.XING_CAP_WR_WR r) - 16) % n

def State.capState (s : State) (r : Nat) : CapFrame := SMap.get (fun _ => CapFrame.none) s.xg.capFrame r

def State.setCap (s : State) (r : Nat) (f : CapFrame) : State :=
  { s with xg := { s.xg with capFrame := SMap.set (fun _ => CapFrame.none) s.xg.capFrame r f } }

/-- The frame of ring `r` is dropped whole (R200). -/
def State.capDrop (s : State) (r : Nat) : State :=
  let s := ((s.inc (R.XING_CAP_DROP r)).flag F.XING_STAT_CAP_DROP true).setCap r .dropped
  { s with xg := { s.xg with capDropped := SMap.set zeroN s.xg.capDropped r (SMap.get zeroN s.xg.capDropped r + 1) } }

/-- The frames of the rings at one capture point begin with their phase (R200). -/
def State.capBegin (s : State) (point : Bool) : State :=
  (List.range 8).foldl (fun s r =>
    if s.on (F.XING_CAP_CTL_EN r) ∧ s.g (F.XING_CAP_CTL_COUNT r) ≠ 0 ∧ s.on (F.XING_CAP_CTL_POINT r) = point then
      if s.capFree r < s.capBytes r then s.capDrop r else s.setCap r .open
    else s) s

/-- The frames of one capture point that are not finished by the mark that ends their phase (R200). -/
def State.capEnd (s : State) (point : Bool) : State :=
  (List.range 8).foldl (fun s r =>
    if s.on (F.XING_CAP_CTL_POINT r) = point then
      (if s.capState r = .open then s.capDrop r else s).setCap r .none
    else s) s

/-- The byte address of word `j` of slot `n` (R175). -/
def slotByte (n j : Nat) : Nat := 0x02000000 + n / 1024 * 0x200000 + 0x1E0000 + n % 1024 * 0x80 + 4 * j

/-- Words written to the staging buffer of ring `r` from offset `o`, with wrap. Log 30, DEDUCED. -/
def State.capStore (s : State) (r : Nat) : Nat → List Word → State
  | _, [] => s
  | o, w :: ws =>
    let n := max 1 (s.g (F.XING_CAP_SIZE_SIZE r))
    (s.writeW ((s.rd (R.XING_CAP_BUF r)).toNat + o % n) w).capStore r (o + 4) ws

/-- The frame of ring `r` (R201): the samples are read from the slots. -/
def State.capFrameWords (s : State) (r : Nat) : State × List Word :=
  let n := s.nSamp
  let cnt := s.g (F.XING_CAP_CTL_COUNT r)
  let dropped := min (SMap.get zeroN s.xg.capDropped r) 255
  let w0 := s.capBytes r / 16 * 2 ^ 16 + dropped * 2 ^ 8 + (if dropped = 0 then 0 else 128) +
    s.g (F.XING_CAP_CTL_POINT r)
  let head : List Word := [BitVec.ofNat 32 w0, BitVec.ofNat 32 (n * 2 ^ 24 + cnt * 2 ^ 16), s.tm.tick.setWidth 32,
    (s.tm.tick >>> 32).setWidth 32]
  let places := (List.range n).flatMap (fun j => (List.range cnt).map (fun i => (s.g (F.XING_CAP_SLOT_SLOT r i), j)))
  let body := places.foldl (fun (a : State × List Word) q =>
    let x := a.1.readW (slotByte q.1 q.2)
    (x.1, a.2 ++ [x.2.1])) (s, [])
  (body.1, head ++ body.2 ++ List.replicate (s.capBytes r / 4 - 4 - cnt * n) 0)

/-- Whether a part of the frame of ring `r` belongs to an engine that executes nothing: its region, or the chip, is in
safe state (R301, R302). -/
def State.capStuck (s : State) (r : Nat) : Bool :=
  s.chipSafe || (List.range (s.g (F.XING_CAP_CTL_COUNT r))).any (fun i => s.regionSafe (s.g (F.XING_CAP_SLOT_SLOT r i) / 1024))

/-- CAPTURE_FRAME_COMMIT (R200): all engines have finished their parts of the frame of ring `r`. Log 30, DEDUCED. -/
def execCaptureFrameCommit (r : Fin 8) (s : State) : Host.Outcome State Fault Refusal :=
  if s.capState r = .open ∧ !s.capStuck r then
    let f := s.capFrameWords r
    let wr := s.g (F.XING_CAP_WR_WR r)
    let t := (f.1.capStore r wr f.2).p (F.XING_CAP_WR_WR r) ((wr + s.capBytes r) % max 1 (s.g (F.XING_CAP_SIZE_SIZE r)))
    let t := t.setCap r .none
    .next { t with xg := { t.xg with capDropped := SMap.set zeroN t.xg.capDropped r 0 } }
  else .next s

end Sys2Proof.Machine
end

