-- ==== Sys2Proof/Machine/Pair.lean ====
section
/-!
DEFINITION. The pair unit (spec/09): configuration and signature (R240, R242), grants and fencing (R249 to R254), roles and
driving (R244, R245), heartbeats (R246, R247), checkpoint and readiness states (R262, R273), the Tether and the pilot's
messages (R252, R253), and the pilot role (R248 to R250, R276).
-/
namespace Sys2Proof.Machine

/-! ## Grants (R249, R250) -/

/-- Whether grant `a`, as (epoch, tick), is newer than `b`. -/
def newer (a b : Nat × Nat) : Bool := decide (b.1 < a.1) || (a.1 == b.1 && decide (b.2 < a.2))

/-- The newer of a known grant and another. -/
def newest (o : Option (Nat × Nat)) (g : Nat × Nat) : Option (Nat × Nat) :=
  match o with
  | some h => if newer g h then some g else some h
  | none => some g

/-- The newest grant held. -/
def State.ownGrant (s : State) : Option (Nat × Nat) :=
  if s.on F.PAIR_GRANT_E_HELD then some (s.g F.PAIR_GRANT_E_EPOCH, s.rd64 R.PAIR_GRANT_LO R.PAIR_GRANT_HI) else none

/-- Whether the partner is known to hold a newer grant (R251, R254). -/
def State.fenceDue (s : State) : Bool :=
  match s.pr.peerGrant, s.ownGrant with
  | some g, some o => newer g o
  | some _, none => true
  | none, _ => false

/-- Payload of a GRANT or REVOKE (R250): `flags` are NOTICE 4, COPY 2, QUERY 1. -/
def grantWords (slot flags : Nat) (g : Nat × Nat) : List Word :=
  [BitVec.ofNat 32 (g.1 * 2 ^ 16 + slot * 2 ^ 12 + flags), BitVec.ofNat 32 g.2, BitVec.ofNat 32 (g.2 / 2 ^ 32)]

def State.paired (s : State) : Bool := s.on F.PAIR_CFG_EN
def State.partner (s : State) : Nat := s.g F.PAIR_CFG_PARTNER
def State.tether (s : State) : Nat := s.g F.PAIR_CFG_TETHER

/-- A message to the partner over the Tether, whatever the route table holds (R402). -/
def State.tetherSend (s : State) (type : Nat) (ws : List Word) : State :=
  if s.on F.FAB_ID_VALID then s.sendPort s.tether (s.envTo s.partner type) ws else s

/-- PAIR_CTL.FORCE_SWEEP written on the partner over the Tether (R258); its REPLAY_EN takes this device's value. Log 38, DEDUCED. -/
def State.askSweep (s : State) : State :=
  if s.on F.FAB_ID_VALID then
    s.sendPort s.tether { s.envTo s.partner 7 with tag := 0xFFF }
      [BitVec.ofNat 32 R.PAIR_CTL, 1, BitVec.ofNat 32 (4 + 2 * s.g F.PAIR_CTL_REPLAY_EN)]
  else s

/-! ## Heartbeats (R246, R247) -/

/-- The tier vector of the tick in progress (R246). -/
def State.tierVector (s : State) : List Word :=
  let entry := fun t =>
    let a := s.tierOf t
    let ran := s.ttValid s.ttSel t && s.runOf t != .waiting && s.runOf t != .notStarted && s.runOf t != .excluded
    (if ran then 2 ^ 15 else 0) + (if 0 < a.xf then (a.len - a.xf + 1) % 128 * 2 ^ 8 else 0) +
      (if 0 < a.xf then a.out else a.cur) * 4 + a.cur
  (List.range 64).map (fun i => BitVec.ofNat 32 (entry (2 * i + 1) * 2 ^ 16 + entry (2 * i)))

/-- The health word. Log 23, DEDUCED. -/
def State.health (s : State) : Word :=
  let b := fun (c : Bool) (n : Nat) => if c then 2 ^ n else 0
  let unprot := (List.range 16).foldl (fun m c => m + b (s.on (F.SHADOW_STAT_UNPROT c)) c) 0
  BitVec.ofNat 32 (b (s.on F.FAULT_FOREQ_REQ) 31 + b s.pr.told.overrun 30 + b s.pr.told.distLate 29 + b s.pr.told.budgetOvr 28 +
    b (s.on F.PAIR_STAT_PAIR_CATCHUP_OK) 27 + s.g F.PAIR_STAT_CKPT * 2 ^ 25 + s.g F.PAIR_STAT_READY * 2 ^ 23 +
    b (s.on F.PAIR_STAT_TETHER_DOWN) 22 + b s.pr.miss 21 + b (s.on F.PAIR_STAT_CFG_MISMATCH) 20 +
    b (s.g F.CHIP_STATE_REGION_SAFE != 0) 19 + unprot)

/-- The payload of a heartbeat of this tick, at its boundary or out of turn: what it tells of a tick is of the one before. Log 23, DEDUCED. -/
def State.heartbeat (s : State) : List Word :=
  let g := s.ownGrant.getD (0, 0)
  [BitVec.ofNat 32 (s.g F.PAIR_CFG_PSLOT * 2 ^ 12 + s.g F.PAIR_STAT_DRIVING * 2 ^ 7 + s.role),
   BitVec.ofNat 32 s.tick, BitVec.ofNat 32 (s.tick / 2 ^ 32), BitVec.ofNat 32 g.1, BitVec.ofNat 32 g.2,
   BitVec.ofNat 32 (g.2 / 2 ^ 32), s.health, s.pr.told.crc, BitVec.ofNat 32 s.pr.told.cycT0, 0] ++
    (s.pr.told.vec ++ List.replicate 64 0).take 64

/-- The heartbeat leaves to the pilot, and its copy over the Tether. -/
def State.sendHeartbeat (s : State) : State :=
  if !s.paired then s
  else
    let ws := s.heartbeat
    let s := { s with pr := { s.pr with sentHealth := s.health } }
    let s := (s.sendMsg (s.envTo (s.g F.PAIR_CFG_PILOT) 1) ws).tetherSend 1 ws
    if s.on F.FAULT_FOREQ_REQ ∧ s.role = 2 ∧ s.ft.foTick = none then { s with ft := { s.ft with foTick := some s.tick } }
    else s

/-! ## Checkpoint and readiness (R262, R273) -/

/-- The checkpoint of a FRESH standby becomes HEALING; a pass that counts begins anew. -/
def State.ckptStale (s : State) : State :=
  let s := { s with pr := { s.pr with passClean := false } }
  if s.g F.PAIR_STAT_CKPT = 3 then
    let s := (s.p F.PAIR_STAT_CKPT 2).emit Kind.ckptStale (Src.pair 0) s.tick
    if s.g F.PAIR_STAT_READY = 1 ∨ s.g F.PAIR_STAT_READY = 2 then s.p F.PAIR_STAT_READY 0 else s
  else s

/-- A whole pass has been committed. While the configurations differ a checkpoint stays stale (R242). -/
def State.passDone (s : State) : State :=
  let s := s.inc R.PAIR_PASSES
  let c := s.g F.PAIR_STAT_CKPT
  if !s.on F.PAIR_STAT_CFG_MISMATCH ∧ (c = 1 ∨ (c = 2 ∧ s.pr.passClean ∧ !s.on F.PAIR_STAT_TETHER_DOWN)) then
    let s := s.p F.PAIR_STAT_CKPT 3
    if s.g F.PAIR_STAT_READY = 0 then ({ s with pr := { s.pr with passCount := 0 } } : State).p F.PAIR_STAT_READY 1 else s
  else s

/-- The signatures of both devices are compared (R242). -/
def State.sigCheck (s : State) : State :=
  if s.role = 3 ∧ s.on F.PAIR_STAT_SIG_VALID ∧ s.pr.sigPeerValid then
    if s.rd R.PAIR_SIG = s.rd R.PAIR_SIG_PEER then s.flag F.PAIR_STAT_CFG_MISMATCH false
    else if s.on F.PAIR_STAT_CFG_MISMATCH then s
    else
      ((s.flag F.PAIR_STAT_CFG_MISMATCH true).emit Kind.pairCfgMismatch (Src.pair 0) (s.rd R.PAIR_SIG_PEER).toNat).ckptStale
  else s

/-! ## Roles and driving (R244, R245) -/

/-- SDOUT and clock drivers of every port follow the pair rule. -/
def State.showDrives (s : State) : State := (List.range 24).foldl State.showDrive s

/-- All clusters are power-gated. Log 29, DEDUCED. -/
def State.clustersOff (s : State) : State :=
  (List.range 16).foldl (fun s c =>
    let s := if s.g (F.CL_STAT_STATE c) = 5 then s.completeTask c 0 else s
    (s.powerOff c).flag (F.CL_TASK_ACTIVE c) false) s

/-- FAULT_FOREQ.REQ falls by hardware (R298). -/
def State.reqEnd (s : State) : State :=
  let s := (s.flag F.FAULT_FOREQ_REQ false).flag F.FAULT_FOREQ_WITHHELD false
  { s with ft := { s.ft with acted := s.ft.acted.filter (fun e => e.1 != 16), foWithhold := false, foTick := none } }

/-- The role becomes `r`. -/
def State.setRole (s : State) (r : Nat) : State :=
  let old := s.role
  if r = old then s
  else
    let drive := r == 2 || (r == 5 && s.on F.PAIR_STAT_DRIVING)
    let s := (s.p F.PAIR_STAT_ROLE r).flag F.PAIR_STAT_DRIVING drive
    let s := if old = 2 then s.reqEnd else s
    let s :=
      if old = 3 then
        let s := s.p F.PAIR_STAT_CKPT 0
        if s.g F.PAIR_STAT_READY = 1 ∨ s.g F.PAIR_STAT_READY = 2 then s.p F.PAIR_STAT_READY 0 else s
      else s
    s.showDrives

/-- The device becomes STANDBY: its checkpoint is EMPTY and a forced sweep is asked for (R244, R262, R258). -/
def State.enterStandby (s : State) : State :=
  let s := (s.setRole 3).clustersOff
  let s := { s with pr := { s.pr with staged := [], lastTick := none, passOpen := false, passClean := false, replay := none
                                      take := none, next := none, recs := [] }
                    fc := { s.fc with sel := none, tier := [], fix := [] } }
  ((s.p F.PAIR_STAT_CKPT 1).leveeStandby).askSweep

/-- What a WAITING device does on learning of its partner's newer grant. Log 36, DEDUCED. -/
def State.learn (s : State) : State := if s.role = 1 ∧ s.fenceDue ∧ s.paired then s.enterStandby else s

/-- Chip safe state is entered: a paired device takes role FAILED, and its heartbeat leaves at once (R244, R246). -/
def State.pairFail (s : State) : State :=
  if s.role = 0 ∨ s.role = 5 then s
  else
    let s := s.setRole 5
    ({ s with pr := { s.pr with next := none, take := none, replay := none } } : State).sendHeartbeat

/-- Chip safe state has ended (R304). -/
def State.pairMend (s : State) : State := if s.role = 5 then (s.setRole 1).learn else s

/-- FENCE (R254): one bit-clock period before the boundary. A device that drives and knows of a newer grant releases its
outputs. -/
def execFence (s : State) : Host.Outcome State Fault Refusal :=
  if s.paired ∧ s.running ∧ s.on F.PAIR_STAT_DRIVING ∧ s.fenceDue then
    let s := { s with pr := { s.pr with fence := true } }
    .next (s.flag F.PAIR_STAT_DRIVING false).showDrives
  else .next s

/-! ## The Tether and the pilot's messages (R252, R253) -/

/-- PILOT_LOST and PILOT_PATH follow both members' PILOT_MISS. -/
def State.pilotBits (s : State) : State :=
  let both := s.pr.miss && (match s.pr.peer with | some b => b.miss | none => false)
  let own := s.pr.miss && !both
  let s := if both ∧ !s.on F.PAIR_STAT_PILOT_LOST then s.emit Kind.pilotLost (Src.pair 0) (s.g F.PAIR_CFG_PILOT) else s
  let s := if own ∧ !s.on F.PAIR_STAT_PILOT_PATH then s.emit Kind.pilotPath (Src.pair 0) (s.g F.PAIR_CFG_PILOT) else s
  (s.flag F.PAIR_STAT_PILOT_LOST both).flag F.PAIR_STAT_PILOT_PATH own

/-- A grant or a notice has come, over `hops` hops. -/
def State.pilotSeen (s : State) (hops : Nat) : State :=
  ({ s with pr := { s.pr with granted := true, miss := false, pilotAge := 0, hops := hops } } : State).pilotBits

/-- PILOT_MISS (R253). -/
def execPilotMiss (s : State) : Host.Outcome State Fault Refusal :=
  if s.paired ∧ 2 ≤ s.pr.pilotAge then .next ({ s with pr := { s.pr with miss := true } } : State).pilotBits else .next s

/-- The Tether is down (R252). -/
def State.tetherLost (s : State) : State :=
  if s.on F.PAIR_STAT_TETHER_DOWN then s
  else ((s.flag F.PAIR_STAT_TETHER_DOWN true).emit Kind.tetherDown (Src.pair s.tether) s.partner).ckptStale

/-- The Tether is up while its port is ACTIVE and heartbeat copies come (R252). -/
def State.tetherBack (s : State) : State :=
  if s.paired ∧ s.portActive s.tether ∧ s.pr.peerAge < 2 then s.flag F.PAIR_STAT_TETHER_DOWN false else s

/-- TETHER_DOWN (R252). -/
def execTetherDown (s : State) : Host.Outcome State Fault Refusal :=
  if s.paired ∧ (!s.portActive s.tether ∨ 2 ≤ s.pr.peerAge) then .next s.tetherLost else .next s

/-- The Tether port `p` has left ACTIVE. -/
def State.tetherPort (s : State) (p : Nat) : State := if s.paired ∧ s.tether = p then s.tetherLost else s

/-- GRANT_DEADLINE (R253): at the 0.50T mark an ACTIVE device without this tick's grant asks its partner. -/
def execGrantDeadline (s : State) : Host.Outcome State Fault Refusal :=
  let has := match s.ownGrant with | some g => g.2 == s.tick | none => false
  if s.paired ∧ s.running ∧ s.role = 2 ∧ has = false then
    .next (s.tetherSend 2 (grantWords (s.g F.PAIR_CFG_PSLOT) 1 (s.ownGrant.getD (0, 0))))
  else .next s

/-- The partner is known to hold `g`. Log 36, DEDUCED. -/
def State.peerHolds (s : State) (g : Nat × Nat) : State :=
  ({ s with pr := { s.pr with peerGrant := newest s.pr.peerGrant g } } : State).learn

/-- REVOKE (R251): the sequence is the newer grant of the partner. -/
def execRevoke (p : Fin 8) (e : Env) (g : BitVec 16 × BitVec 64) (s : State) : Host.Outcome State Fault Refusal :=
  let w := (g.1.toNat, g.2.toNat)
  .next (s.received p e 3 (grantWords (s.g F.PAIR_CFG_PSLOT) 0 w) (fun s => if s.paired then s.peerHolds w else s))

/-- NOTICE (R249): the pilot is alive, and the other member holds the grant of the sequence. -/
def execNotice (p : Fin 8) (e : Env) (g : BitVec 16 × BitVec 64) (s : State) : Host.Outcome State Fault Refusal :=
  let w := (g.1.toNat, g.2.toNat)
  .next (s.received p e 2 (grantWords (s.g F.PAIR_CFG_PSLOT) 4 w) (fun s =>
    if s.paired then (s.pilotSeen (15 - e.hops)).peerHolds w else s))

/-- GRANT_COPY (R251): the partner's newest grant. -/
def execGrantCopy (p : Fin 8) (e : Env) (g : BitVec 16 × BitVec 64) (s : State) : Host.Outcome State Fault Refusal :=
  let w := (g.1.toNat, g.2.toNat)
  .next (s.received p e 2 (grantWords (s.g F.PAIR_CFG_PSLOT) 2 w) (fun s => if s.paired then s.peerHolds w else s))

/-- QUERY (R251): answered with a COPY of the newest grant held. Log 36, DEDUCED. -/
def execQuery (p : Fin 8) (e : Env) (g : BitVec 16 × BitVec 64) (s : State) : Host.Outcome State Fault Refusal :=
  .next (s.received p e 2 (grantWords (s.g F.PAIR_CFG_PSLOT) 1 (g.1.toNat, g.2.toNat)) (fun s =>
    match s.ownGrant with
    | some o => if s.paired then s.tetherSend 2 (grantWords (s.g F.PAIR_CFG_PSLOT) 2 o) else s
    | none => s))

/-! ## The pilot (R248, R249) -/

def noBeat (_ : Nat) : Option Beat := none
def State.beat (s : State) (p m : Nat) : Option Beat := SMap.get noBeat s.pr.beats (2 * p + m)

/-- Device ID of member `m` of slot `p`. -/
def State.member (s : State) (p m : Nat) : Nat := if m = 0 then s.g (F.PILOT_PAIR_DEV_A p) else s.g (F.PILOT_PAIR_DEV_B p)

/-- Whether member `m` of slot `p` has a good heartbeat of tick `k` (R249). -/
def State.goodBeat (s : State) (p m k : Nat) : Bool :=
  match s.beat p m with
  | some b => b.tick == k && b.role != 5
  | none => false

/-- A GRANT, notice or REVOKE of slot `p` to member `m`. -/
def State.pilotSend (s : State) (p m type flags : Nat) (g : Nat × Nat) : State :=
  s.sendMsg (s.envTo (s.member p m) type) (grantWords p flags g)

/-- GRANT to member `m`, notice to the other. Log 37, DEDUCED. -/
def State.pilotGrant (s : State) (p m : Nat) (g : Nat × Nat) : State :=
  (((s.pilotSend p m 2 0 g).pilotSend p (1 - m) 2 4 g)).p (F.PILOT_PSTAT_STATE p) (m + 1)

/-- The grant moves to member `m`: GRANT, REVOKE, notice, PILOT_SWITCH. -/
def State.pilotMove (s : State) (p m : Nat) (g : Nat × Nat) : State :=
  let s := (((s.pilotSend p m 2 0 g).pilotSend p (1 - m) 3 0 g).pilotSend p (1 - m) 2 4 g).p (F.PILOT_PSTAT_STATE p) (m + 1)
  let s := (s.bump (F.PILOT_PSTAT_SWITCHES p) 1).flag (F.PILOT_PAIR_SWITCH p) false
  s.emit Kind.pilotSwitch (Src.pair p) (s.member p m)

/-- The decision for slot `p` at the 0.25T mark. -/
def State.pilotDecide (s : State) (p : Nat) : State :=
  let k := s.tick
  let a := s.goodBeat p 0 k
  let b := s.goodBeat p 1 k
  let s := (s.flag (F.PILOT_PSTAT_A_GOOD p) a).flag (F.PILOT_PSTAT_B_GOOD p) b
  let g := (s.g F.PILOT_CTL_EPOCH, k)
  let good := fun m => if m = 0 then a else b
  let isActive := fun (m : Nat) => (match s.beat p m with | some x => good m && x.role == 2 | none => false : Bool)
  match s.g (F.PILOT_PSTAT_STATE p) with
  | 0 =>
    if isActive 0 then s.pilotGrant p 0 g
    else if isActive 1 then s.pilotGrant p 1 g
    else if a then s.pilotGrant p 0 g
    else if b then s.pilotGrant p 1 g
    else s
  | st =>
    let x := st - 1
    let y := 1 - x
    let sw := s.on (F.PILOT_PAIR_SWITCH p)
    let asks : Bool := match s.beat p x with | some h => h.failover | none => false
    let ready : Bool := match s.beat p y with | some h => good y && h.ready == 2 | none => false
    if good x then
      if asks ∨ sw then
        if ready then s.pilotMove p y g
        else
          let s := if sw then (s.flag (F.PILOT_PAIR_SWITCH p) false).flag (F.PILOT_PAIR_SW_REFUSED p) true else s
          s.pilotGrant p x g
      else s.pilotGrant p x g
    else if good y then s.pilotMove p y g
    else (s.flag (F.PILOT_PSTAT_DARK p) true).emit Kind.pairDark (Src.pair p) k

/-- The pilot's epoch at the first mark at which it grants (R248). Log 37, DEDUCED. -/
def State.settleEpoch (s : State) : State :=
  if s.pr.epochKnown then s
  else
    let es := s.pr.beats.filterMap (fun e => e.2.map Beat.epoch)
    let n := match es with | [] => 1 | _ => if es.foldl max 0 = 0 then 1 else es.foldl max 0 + 1
    ({ s with pr := { s.pr with epochKnown := true } } : State).p F.PILOT_CTL_EPOCH n

/-- PILOT_DEADLINE (R249). -/
def execPilotDeadline (s : State) : Host.Outcome State Fault Refusal :=
  if s.running ∧ s.on F.PILOT_CTL_EN ∧ 2 ≤ s.pr.pilotTicks then
    .next ((List.range 16).foldl (fun s p => if s.on (F.PILOT_PAIR_EN p) then s.pilotDecide p else s) s.settleEpoch)
  else .next s

/-- The fields of a heartbeat payload. -/
def readBeat (ws : List Word) : Beat :=
  let h := ws.getD 6 0
  { tick := (ws.getD 1 0).toNat + (ws.getD 2 0).toNat * 2 ^ 32, role := bitsOf (ws.getD 0 0) 2 0, failover := h.getLsbD 31
    ready := bitsOf h 24 23, miss := h.getLsbD 21, epoch := bitsOf (ws.getD 3 0) 15 0 }

/-- A heartbeat at the pilot, from device `d`: one that reports FAILED moves the grant at once. -/
def State.pilotBeat (s : State) (d : Nat) (ws : List Word) : State :=
  let p := bitsOf (ws.getD 0 0) 15 12
  let h := readBeat ws
  if s.on F.PILOT_CTL_EN ∧ s.on (F.PILOT_PAIR_EN p) ∧ (d = s.member p 0 ∨ d = s.member p 1) then
    let m := if d = s.member p 0 then 0 else 1
    let s := { s with pr := { s.pr with beats := SMap.set noBeat s.pr.beats (2 * p + m) (some h) } }
    if h.role = 5 ∧ s.g (F.PILOT_PSTAT_STATE p) = m + 1 ∧
        (s.goodBeat p (1 - m) s.tick ∨ s.goodBeat p (1 - m) (s.tick - 1)) then
      s.pilotMove p (1 - m) (s.g F.PILOT_CTL_EPOCH, s.tick)
    else s
  else s

/-- A heartbeat copy from the partner: the Tether is up again where its port is ACTIVE. -/
def State.peerBeat (s : State) (d : Nat) (ws : List Word) : State :=
  if s.paired ∧ d = s.partner then
    let s := { s with pr := { s.pr with peer := some (readBeat ws), peerAge := 0 } }
    s.tetherBack.pilotBits
  else s

/-- HEARTBEAT (R249, R251): it arrives at the pilot, or as a copy at the partner. -/
def execHeartbeat (p : Fin 8) (e : Env) (ws : List Word) (s : State) : Host.Outcome State Fault Refusal :=
  .next (s.received p e 1 ws (fun s => (s.pilotBeat e.src ws).peerBeat e.src ws))

/-- A write to PILOT_CTL (R248). -/
def State.pilotCtlWrite (s : State) (v : Word) : State :=
  if v.getLsbD 31 ∧ !s.on F.PILOT_CTL_EN then
    let s := (List.range 16).foldl (fun s p => s.p (F.PILOT_PSTAT_STATE p) 0) (s.flag F.PILOT_CTL_EN true)
    { s with pr := { s.pr with epochKnown := false, beats := [], pilotTicks := if s.running then 1 else 0 } }
  else s.flag F.PILOT_CTL_EN (v.getLsbD 31)

/-- PILOT_CTL_WRITE (R248). -/
def execPilotCtlWrite (v : Word) (s : State) : Host.Outcome State Fault Refusal := .next (s.pilotCtlWrite v).ok

/-- A write to PILOT_PAIR[p] (R248, R276). Log 37, DEDUCED. -/
def State.pilotPairWrite (s : State) (p : Nat) (v : Word) : State :=
  let a := bitsOf v 5 0
  let b := bitsOf v 13 8
  let named := fun d => (List.range 16).any (fun q =>
    q != p && s.on (F.PILOT_PAIR_EN q) && (s.member q 0 == d || s.member q 1 == d))
  let own := fun d => s.on F.FAB_ID_VALID && d == s.myId
  if a = b ∨ own a ∨ own b ∨ named a ∨ named b then s.flag (F.PILOT_PAIR_SW_REFUSED p) true
  else
    let same := a == s.member p 0 && b == s.member p 1 && s.g (F.PILOT_PAIR_EN p) == bitsOf v 31 31
    let s := s.fieldWrite (R.PILOT_PAIR p) v
    if same then s
    else
      let s := { s with pr := { s.pr with beats := s.pr.beats.filter (fun e => e.1 / 2 != p) } }
      s.p (F.PILOT_PSTAT_STATE p) 0

/-- PILOT_PAIR_WRITE (R248). -/
def execPilotPairWrite (p : Fin 16) (v : Word) (s : State) : Host.Outcome State Fault Refusal := .next (s.pilotPairWrite p v).ok

/-- PILOT_SWITCH_REQUEST (R276): a write of `v` with SWITCH at 1. -/
def execPilotSwitchRequest (p : Fin 16) (v : Word) (s : State) : Host.Outcome State Fault Refusal :=
  .next (s.pilotPairWrite p (v ||| 0x40000000#32)).ok

/-! ## Configuration (R240, R242) -/

/-- A write to PAIR_CFG. -/
def State.pairCfgWrite (s : State) (v : Word) : State :=
  let own := fun d => s.on F.FAB_ID_VALID && d == s.myId
  if s.running ∨ own (bitsOf v 21 16) ∨ own (bitsOf v 13 8) then s.flag F.PAIR_STAT_CFG_REFUSED true
  else
    let was := s.paired
    let s := s.fieldWrite R.PAIR_CFG v
    let s := { s with pr := { s.pr with peer := none, peerAge := 0, peerGrant := none } }
    if v.getLsbD 31 ∧ !was then
      let s := s.setRole 1
      if s.portActive s.tether then s else s.tetherLost
    else if !v.getLsbD 31 ∧ was then
      let s := { s.setRole 0 with pr := { s.pr with next := none, take := none, replay := none, staged := [], sending := none } }
      ((s.flag F.PAIR_STAT_DRIVING false).flag F.PAIR_STAT_TETHER_DOWN false).showDrives
    else if s.paired then (if s.portActive s.tether then s.tetherBack else s.tetherLost).showDrives
    else s.showDrives

/-- PAIR_CFG_WRITE (R240). -/
def execPairCfgWrite (v : Word) (s : State) : Host.Outcome State Fault Refusal := .next (s.pairCfgWrite v).ok

/-- The words that the signature covers, in order (R242). -/
def State.sigWords (s : State) : List Word :=
  let x := s.ttSel
  let y := s.xSel
  (List.range 2048).map (fun i => s.ttw x (i / 16) (i % 16)) ++
  (List.range 32768).map (fun i => s.xtw y (i / 4) (i % 4)) ++
  (List.range 512).map (fun i => SMap.get zeroW s.xg.dl (512 * y + i)) ++
  (List.range 16).flatMap (fun n => [s.rd (R.PAIR_FT_BASE n), s.rd (R.PAIR_FT_LINES n)]) ++ [s.rd R.TICK_CFG]

/-- PAIR_SIG_DONE (R242). -/
def execPairSigDone (s : State) : Host.Outcome State Fault Refusal :=
  if s.pr.sigWork then
    let s := { s with pr := { s.pr with sigWork := false } }
    .next ((s.wr R.PAIR_SIG (crc32 s.sigWords)).flag F.PAIR_STAT_SIG_VALID true).sigCheck
  else .next s

/-- The signature computation starts at a boundary at which something it covers has changed. -/
def State.sigBoundary (s : State) : State :=
  if s.pr.sigDirty then
    ({ s with pr := { s.pr with sigDirty := false, sigWork := true } } : State).flag F.PAIR_STAT_SIG_VALID false
  else s

end Sys2Proof.Machine
end

