-- ==== Sys2Proof/Machine/Ferry.lean ====
section
/-!
DEFINITION. The Ferry (spec/09): tracked areas (R255, R256), consignments sent (R257 to R260) and received (R261, R262),
input records (R263), takeover and catch-up (R264 to R268), replay (R271 to R273), and the standby's self-test (R274).
-/
namespace Sys2Proof.Machine

/-! ## Tracked areas (R255) -/

/-- The enabled areas that the registers state: index, base, lines. -/
def State.areaRegs (s : State) : List (Nat × Nat × Nat) :=
  (List.range 16).filterMap (fun n =>
    if s.on (F.PAIR_FT_BASE_EN n) then some (n, s.g (F.PAIR_FT_BASE_BASE n) * 64, s.g (F.PAIR_FT_LINES_LINES n)) else none)

/-- Whether an area begins and lies in cluster data memory or region memory; the region memories adjoin. -/
def areaPlaced (base lines : Nat) : Bool :=
  match memOf base, memOf (base + 64 * lines - 1) with
  | some (.data c, _), some (.data d, _) => c == d
  | some (.region _, _), some (.region _, _) => true
  | _, _ => false

/-- Whether the areas of the registers are a configuration that R255 accepts. -/
def State.areasAllowed (s : State) : Bool :=
  let as := s.areaRegs
  decide ((as.map (fun a => a.2.2)).foldl (· + ·) 0 ≤ 16384) && as.all (fun a => areaPlaced a.2.1 (max 1 a.2.2)) &&
    as.all (fun a => as.all (fun b => a.1 == b.1 || decide (a.2.1 + 64 * a.2.2 ≤ b.2.1 ∨ b.2.1 + 64 * b.2.2 ≤ a.2.1)))

/-- A write to PAIR_FT_BASE[n], or to PAIR_FT_LINES[n] where `lines`. -/
def State.areaWrite (s : State) (n : Nat) (lines : Bool) (v : Word) : State :=
  let a := if lines then R.PAIR_FT_LINES n else R.PAIR_FT_BASE n
  let t := s.fieldWrite a v
  if !t.areasAllowed then s.flag F.PAIR_STAT_CFG_REFUSED true
  else if t.rd a = s.rd a then s
  else { t with pr := { t.pr with areasNew := true, sigDirty := true } }

/-- TRACKED_AREA_WRITE (R255). -/
def execTrackedAreaWrite (n : Fin 16) (lines : Bool) (v : Word) (s : State) : Host.Outcome State Fault Refusal :=
  .next (s.areaWrite n lines v).ok

/-- The tracked lines in area order, by line number. -/
def State.trackedLines (s : State) : List Nat := s.pr.areas.flatMap (fun a => (List.range a.2.2).map (· + a.2.1 / 64))

/-- Forced mode starts, or a second forced pass is noted (R258). -/
def State.forceSweep (s : State) : State :=
  if s.pr.forced then { s with pr := { s.pr with again := true } }
  else
    (({ s with pr := { s.pr with forced := true, passNext := true } } : State).p F.PAIR_SWEEP_CURSOR 0).flag
      F.PAIR_CTL_FORCE_SWEEP true

/-- SUSPECT_CLR written (R273). -/
def State.suspectClear (s : State) : State :=
  if s.g F.PAIR_STAT_READY = 3 then
    (({ s with pr := { s.pr with window := [] } } : State).p F.PAIR_STAT_READY 0).p F.PAIR_HEALTH_MISMATCHES 0
  else s

/-- A write to PAIR_CTL. -/
def State.pairCtlWrite (s : State) (v : Word) : State :=
  let s := s.flag F.PAIR_CTL_REPLAY_EN (v.getLsbD 1)
  let s := if v.getLsbD 2 then s.forceSweep else s
  if v.getLsbD 3 then s.suspectClear else s

/-- FORCE_SWEEP and SUSPECT_CLR: a write of `v` to PAIR_CTL with the bit at 1. -/
def execForceSweep (v : Word) (s : State) : Host.Outcome State Fault Refusal := .next (s.pairCtlWrite (v ||| 4#32)).ok
def execSuspectClr (v : Word) (s : State) : Host.Outcome State Fault Refusal := .next (s.pairCtlWrite (v ||| 8#32)).ok

/-! ## Consignments sent (R257 to R260) -/

/-- B_F, and S of normal mode. -/
def State.ferryBudget (s : State) : Nat := s.g F.PAIR_FERRY_RATE_MAX * 10 ^ 8 * s.nSamp / (8 * s.fs)
def State.sweepCount (s : State) : Nat := (s.trackedLines.length + 1023) / 1024

/-- Words read one after the other, each with its check. -/
def State.readWords (s : State) : List Nat → State × List Word
  | [] => (s, [])
  | a :: as =>
    let r := s.readW a
    let t := r.1.readWords as
    (t.1, r.2.1 :: t.2)

/-- The 16 words of line `l`. -/
def lineAddrs (l : Nat) : List Nat := (List.range 16).map (fun i => 64 * l + 4 * i)

/-- The records of lines with their SWEEP marks (R260). -/
def State.lineRecords (s : State) : List (Nat × Bool) → State × List (List Word)
  | [] => (s, [])
  | (l, sw) :: ls =>
    let r := s.readWords (lineAddrs l)
    let t := r.1.lineRecords ls
    (t.1, (BitVec.ofNat 32 (64 * l + if sw then 1 else 0) :: 0 :: r.2) :: t.2)

/-- Records in groups of at most 16. -/
def groups16 : Nat → List (List Word) → List (List (List Word))
  | 0, _ => []
  | n + 1, rs => if rs.length ≤ 16 then [rs] else rs.take 16 :: groups16 n (rs.drop 16)

/-- The words of a consignment's FIRST message beside its common words. -/
def State.firstWords (s : State) (carry pass : Bool) (total : Nat) : List Word :=
  let b := fun (c : Bool) (n : Nat) => if c then 2 ^ n else 0
  [BitVec.ofNat 32 (b carry 31 + b pass 30 + b s.pr.nocheck 29 + b (s.on F.PAIR_STAT_SIG_VALID) 28 + total),
   s.rd R.PAIR_SIG, BitVec.ofNat 32 (b (s.on F.FCST_STAT_CATCHUP_OK) 31 + s.g F.FCST_CYC_T0_V)] ++
    (s.pr.vec ++ List.replicate 64 0).take 64

/-- The messages of consignment `r` (R260). -/
def State.consignMsgs (s : State) (r : Nat) (carry pass : Bool) (recs : List (List Word)) : List (List Word) :=
  let gs := groups16 (recs.length + 1) recs
  let n := gs.length
  let body := (gs.zipIdx).map (fun g =>
    let i := g.2
    let last := i + 1 == n
    let w0 := (if last then 2 ^ 27 else 0) + (if i = 0 then 2 ^ 26 else 0) + g.1.length * 2 ^ 21 + i
    [BitVec.ofNat 32 w0, BitVec.ofNat 32 r, BitVec.ofNat 32 (r / 2 ^ 32)] ++
      (if i = 0 then s.firstWords carry pass recs.length else []) ++ g.1.flatten ++ (if last then [s.pr.crc] else []))
  let crc := crc32 body.flatten
  body.dropLast ++ (body.getLast?.map (fun m => m ++ [crc])).toList

/-- The consignment in flight is abandoned (R259); its messages up to `sent` have left. -/
def State.abandon (s : State) (sent : Nat) : State :=
  match s.pr.sending with
  | none => s
  | some c =>
    let s := (c.msgs.take sent).foldl (fun s m => s.tetherSend 5 m) s
    let dirty := (c.lines.filter (fun l => s.tracked (64 * l))).foldl (fun d l => SMap.set noneB d l true) s.pr.dirty
    let s := { s with pr := { s.pr with sending := none, dirty := dirty, carryNext := true } }
    ((s.inc R.PAIR_CNS_ABANDON).flag F.PAIR_STAT_ABANDON true).emit Kind.ferryAbandon (Src.pair 0) c.tick

/-- Whether a consignment is formed (R258, R259, R299, R301). -/
def State.ferryForms (s : State) : Bool :=
  s.paired && s.role == 2 && (match s.pr.peer with | some b => b.role == 3 | none => false) &&
    !s.on F.PAIR_STAT_TETHER_DOWN && !s.chipSafe && !s.regionSafe 5 && !(s.ft.foWithhold && s.on F.FAULT_FOREQ_REQ)

/-- Words stored one after the other from byte address `a`. -/
def State.storeWords (s : State) : Nat → List Word → State
  | _, [] => s
  | a, w :: ws => (s.writeW a w).storeWords (a + 4) ws

/-- Log 35, DESIGN CHOICE. -/
def State.pairBuf (s : State) (i : Nat) : Nat := (SMap.get zeroW s.pr.bufs i).toNat

/-- Consignment r is formed at the 0.90T mark (R257); a line with an uncorrectable word abandons it (R312). Log 38, DEDUCED. -/
def State.formConsignment (s : State) : State :=
  if !s.ferryForms then s
  else
    let all := s.trackedLines
    let n := all.length
    let dirty := s.pr.dirty.map (fun e => e.1)
    let cur := if n = 0 then 0 else s.g F.PAIR_SWEEP_CURSOR % n
    let fit := (s.ferryBudget - 320) / 72 - dirty.length
    let cnt := if s.pr.forced then min fit (n - cur) else min n s.sweepCount
    let sweep := (List.range cnt).map (fun i => all.getD ((cur + i) % max 1 n) 0)
    let pass := (s.pr.passNext && 0 < cnt) || (decide (cur + cnt > n))
    let wrap := decide (n ≤ cur + cnt) && 0 < cnt
    let ends := s.pr.forced && wrap
    let lines := dirty.map (fun l => (l, false)) ++ sweep.map (fun l => (l, true))
    let r := s.lineRecords lines
    let bad := lines.any (fun l => (lineAddrs l.1).any (fun a => s.eccAt a == 2))
    let carry := s.pr.carryNext
    let msgs := r.1.consignMsgs s.tick carry pass r.2
    let s := r.1.p F.PAIR_SWEEP_CURSOR (if n = 0 then 0 else (cur + cnt) % n)
    let pr := { s.pr with
      dirty := [], carryNext := false, sending := some ⟨s.tick, lines.map (fun l => l.1), msgs⟩
      passNext := if cnt = 0 then s.pr.passNext else (cur + cnt == n)
      forced := if ends then s.pr.again else s.pr.forced
      again := if ends then false else s.pr.again }
    let s := ({ s with pr := pr } : State).flag F.PAIR_CTL_FORCE_SWEEP pr.forced
    if bad ∨ s.g F.PAIR_FBUF_SIZE_SIZE < 72 * lines.length + 320 then s.abandon 0
    else s.storeWords (s.pairBuf 0) msgs.flatten

/-- The Ferry at the 0.90T mark; `sent` messages of a consignment still in flight have left. Log 38, DEDUCED. -/
def State.ferryConsign (s : State) (sent : Nat) : State := (s.abandon sent).formConsignment

/-- CONSIGNMENT_SENT (R259): the last message has been transmitted over the Tether. -/
def execConsignmentSent (s : State) : Host.Outcome State Fault Refusal :=
  match s.pr.sending with
  | none => .next s
  | some c =>
    let s := c.msgs.foldl (fun s m => s.tetherSend 5 m) s
    .next (({ s with pr := { s.pr with sending := none } } : State).inc R.PAIR_CNS_SENT)

/-! ## Consignments received (R261) -/

/-- The FIRST message's words beside the common ones. -/
def Staged.head (c : Staged) (i : Nat) : Word := (c.msgs.headD []).getD (3 + i) 0
def Staged.carry (c : Staged) : Bool := (c.head 0).getLsbD 31
def Staged.passStart (c : Staged) : Bool := (c.head 0).getLsbD 30
def Staged.nocheck (c : Staged) : Bool := (c.head 0).getLsbD 29
def Staged.vec (c : Staged) (i : Nat) : Word := c.head (3 + i)

/-- The line records of a message: its words without header, FIRST words and trailer. -/
def msgRecords (m : List Word) : List (List Word) :=
  let w := m.headD 0
  let body := m.drop (if w.getLsbD 26 then 70 else 3)
  (List.range (bitsOf w 25 21)).map (fun i => (body.drop (18 * i)).take 18)

def Staged.records (c : Staged) : List (List Word) := c.msgs.flatMap msgRecords

/-- The output CRC of the consignment's tick. -/
def Staged.outCrc (c : Staged) : Word := (c.msgs.flatten.reverse).getD 1 0

/-- Whether TOTAL and the consignment CRC agree (R261). -/
def Staged.judged (c : Staged) : Bool :=
  let ws := c.msgs.flatten
  c.records.length == bitsOf (c.head 0) 15 0 && crc32 ws.dropLast == ws.getLastD 0

/-- A consignment is lost (R261). -/
def State.consignLost (s : State) (r : Nat) : State :=
  let s := { s with pr := { s.pr with passOpen := false } }
  (((s.inc R.PAIR_CNS_LOST).flag F.PAIR_STAT_LOST true).emit Kind.consignLost (Src.pair 0) r).ckptStale

/-- The consignments of which nothing came between that of tick `t` and that of tick `r` are lost, each of them. Log 38, DEDUCED. -/
def State.gapLost (s : State) (t r : Nat) : State :=
  ((List.range (r - 1 - t)).map (· + t + 1)).foldl State.consignLost s

/-- Consignment `c` is committed: its lines are copied into place. -/
def State.commit (s : State) (c : Staged) : State :=
  let s := c.records.foldl (fun s r => s.storeWords ((r.headD 0).toNat / 64 * 64) (r.drop 2)) s
  let s := (s.wr64 R.PAIR_CKPT_LO R.PAIR_CKPT_HI c.tick).inc R.PAIR_CNS_COMMIT
  let s := { s with pr := { s.pr with commitCyc := bitsOf (c.head 2) 24 0 } }
  if c.passStart then
    let s := if s.pr.passOpen then s.passDone else s
    { s with pr := { s.pr with passOpen := true, passClean := true } }
  else s

/-- Whether consignment `r` is held for a replay (R271). -/
def State.replayHolds (s : State) (r : Nat) : Bool :=
  r % 256 == 0 && s.on F.PAIR_CTL_REPLAY_EN && s.g F.PAIR_STAT_CKPT == 3 && s.role == 3 && decide (s.tick ≤ r + 1) &&
    !(s.tick == r + 1 && (s.tm.phase == .window || s.tm.phase == .distribute || s.tm.phase == .consign) && s.pr.replay != some r)

/-- Up to `n` complete consignments are committed in tick order; none while a replay runs or one is held. -/
def State.commitStaged (s : State) : Nat → State
  | 0 => s
  | n + 1 =>
    if s.role ≠ 3 ∨ s.pr.replay.isSome then s
    else
      match s.pr.staged with
      | [] => s
      | c :: cs =>
        if !c.done ∨ s.replayHolds c.tick then s
        else (({ s with pr := { s.pr with staged := cs } } : State).commit c).commitStaged n

/-- All that may be committed now. -/
def State.commits (s : State) : State := s.commitStaged s.pr.staged.length

/-- Bytes of a consignment in the staging buffer. -/
def Staged.bytes (c : Staged) : Nat := 4 * c.msgs.flatten.length

/-- A message added to the consignment being staged. Log 35, DESIGN CHOICE. -/
def State.stageMore (s : State) (c : Staged) (m : List Word) : State × Staged :=
  let w := m.headD 0
  if c.bad ∨ bitsOf w 15 0 ≠ c.next then (s, { c with bad := true })
  else
    let c := { c with next := c.next + 1, msgs := c.msgs ++ [m] }
    if s.g F.PAIR_STAGE_SIZE_SIZE < c.bytes then
      ((s.flag F.PAIR_STAT_STAGE_FULL true).consignLost c.tick, { c with bad := true, counted := true, msgs := [] })
    else
      let s := s.storeWords (s.pairBuf 1 + c.bytes - 4 * m.length) m
      if w.getLsbD 27 then (s, { c with done := c.judged, bad := !c.judged }) else (s, c)

/-- The staged consignments but the last, and the last where it is incomplete. -/
def splitStaged (cs : List Staged) : List Staged × Option Staged :=
  match cs.getLast? with
  | some c => if c.done then (cs, none) else (cs.dropLast, some c)
  | none => ([], none)

/-- A CONSIGNMENT payload reaches the standby (R261). Log 38, DEDUCED. -/
def State.stage (s : State) (m : List Word) : State :=
  if s.role ≠ 3 then s
  else
    let w := m.headD 0
    let r := (m.getD 1 0).toNat + (m.getD 2 0).toNat * 2 ^ 32
    let old := splitStaged s.pr.staged
    if w.getLsbD 26 then
      let carry := (m.getD 3 0).getLsbD 31
      let gone : Bool := match old.2 with | some c => !c.counted | none => false
      let s := if gone ∧ !carry then s.consignLost (old.2.elim 0 Staged.tick) else s
      let s := match s.pr.lastTick with | some t => if carry then s else s.gapLost t r | none => s
      let s := (s.wr R.PAIR_SIG_PEER (m.getD 4 0))
      let s := ({ s with pr := { s.pr with sigPeerValid := (m.getD 3 0).getLsbD 28 } } : State).sigCheck
      let n := s.stageMore ⟨r, 0, false, false, false, []⟩ m
      ({ n.1 with pr := { n.1.pr with staged := old.1 ++ [n.2], lastTick := some r } } : State).commits
    else
      match old.2 with
      | some c =>
        if c.tick = r then
          let n := s.stageMore c m
          ({ n.1 with pr := { n.1.pr with staged := old.1 ++ [n.2] } } : State).commits
        else { s with pr := { s.pr with staged := old.1 ++ [{ c with bad := true }] } }
      | none => s

/-- CONSIGNMENT (R261). -/
def execConsignment (p : Fin 8) (e : Env) (ws : List Word) (s : State) : Host.Outcome State Fault Refusal :=
  .next (s.received p e 5 ws (fun s => if s.paired then s.stage ws else s))

/-! ## Input records (R263) -/

def noRec (_ : Nat) : Option InputRec := none
/-- Log 35, DESIGN CHOICE. -/
def State.record (s : State) (r : Nat) : Option InputRec :=
  match SMap.get noRec s.pr.recs (r % 4) with
  | some x => if x.tick = r ∧ x.full then some x else none
  | none => none

/-- The region of an address that a gather writes. -/
def regionOf (a : Nat) : Nat :=
  match memOf a with
  | some (.region g, _) => g
  | some (.data c, _) => c / 4
  | _ => 4

/-- The slot DMA engines copy the record of this tick, while STANDBY or TAKING. Log 21, DEDUCED; log 35, DESIGN CHOICE. -/
def State.recordCopy (s : State) : State :=
  if s.role = 3 ∨ s.role = 4 then
    let sets := (List.range 128).map s.coefValues
    let tail : List Word := sets.flatMap (fun v => [BitVec.ofNat 32 v.1, BitVec.ofNat 32 v.2])
    let entry := fun g => (((s.pr.gathered ++ s.pr.heads).filter (fun e => regionOf e.1 == g)).map (fun e => e.2)) ++ tail
    let len := s.g F.PAIR_REC_LEN_LEN
    let short := (List.range 4).any (fun g => decide (len < (entry g).length))
    let r : InputRec := ⟨s.tick, !short, s.pr.gathered, s.pr.heads, sets⟩
    let s := { s with pr := { s.pr with recs := SMap.set noRec s.pr.recs (s.tick % 4) (some r) } }
    let s := s.flag F.PAIR_STAT_REC_SHORT short
    if short then s
    else (List.range 4).foldl (fun t g =>
      t.storeWords (0x02000000 + g * 0x200000 + 4 * (s.pairBuf (2 + g) + s.tick % 4 * len)) (entry g)) s
  else s

/-- A record is restored: its words go back to their places. -/
def State.restore (s : State) (r : InputRec) : State := (r.words ++ r.heads).foldl (fun s e => s.writeW e.1 e.2) s

/-! ## Takeover and catch-up (R264 to R267) -/

/-- L_r in engine cycles: the largest gather load of the table in force, with the 16 cycles at its start (R188, R263). -/
def State.gatherLoad (s : State) : Nat := 16 + ([0, 1, 2, 3].map (fun g => s.xLoad s.xSel g false)).foldl max 0

/-- Media-clock periods from the boundary to the mark at n/100 of the tick (R45). -/
def State.mark (s : State) (n : Nat) : Nat := (n * 256 * s.nSamp + 99) / 100

/-- The m of R264 for t_a of `periods` media-clock periods and `ns` nanoseconds; `wake` where clusters wake. Times are
compared in units of 1/(1,024 × fs × core clock in 0.1 GHz) ns. Log 39, DEDUCED. -/
def State.catchUps (s : State) (periods ns : Nat) (wake : Bool) : Nat :=
  let d := 256 * s.fs
  let cc := 4 * s.coreClk
  let t := periods * 10 ^ 9 * cc + ns * d * cc
  let l := 5 * s.gatherLoad * s.coreClk * d
  let p := 40 * s.pr.commitCyc * d
  let first := max (if wake then 4000 * d * cc else 0) l
  let fits := fun m => decide (t + first + m * p + (m - 1) * l ≤ s.mark 80 * 10 ^ 9 * cc)
  if fits 2 then 2 else if fits 1 then 1 else 0

/-- PAIR_STAT.CATCHUP_M: for a grant at the 0.25T mark and 0.8 µs for each hop from the pilot. -/
def State.catchupM (s : State) : Nat := s.catchUps (s.mark 25) (800 * s.pr.hops) true

/-- All valid tasks of the table in force are over. -/
def State.allOver (s : State) : Bool := (s.ttTasks s.ttSel).all s.taskOver

/-- No cluster that the table names is still waking. -/
def State.allAwake (s : State) : Bool := (List.range 16).all (fun c => s.g (F.CL_STAT_STATE c) != 1)

def State.setTake (s : State) (t : Takeover) : State := { s with pr := { s.pr with take := some t } }

/-- A directed run of tick `r` begins with its record in place. -/
def State.beginDirected (s : State) (r : InputRec) : State :=
  let s := s.restore r
  { s with fc := { s.fc with run := [], doneOn := [] } }

/-- The catch-up goes on as far as it can: the next tick begins after the last completion; the tick in progress waits for its
gather, and one without a complete record is skipped (R265). Log 39, DEDUCED. -/
def State.catchStep (s : State) : Nat → State
  | 0 => s
  | n + 1 =>
    match s.pr.take with
    | none => s
    | some t =>
      if t.complete then s
      else
        match t.running with
        | some r => if s.allOver then (s.setTake { t with running := none, ran := t.ran || r == t.k }).catchStep n else s
        | none =>
          match t.rest with
          | [] => s
          | r :: rs =>
            if !s.allAwake ∨ (r = s.tick ∧ !s.tm.gathered) then s
            else
              match s.record r with
              | some x => ((s.setTake { t with running := some r, rest := rs }).beginDirected x).catchStep n
              | none => (s.setTake { t with rest := rs }).catchStep n

/-- A takeover for tick `k` (R264, R266, R267) with t_a as `catchUps` takes it. Log 39, DEDUCED. -/
def State.takeover (s : State) (k periods ns : Nat) (wake stale late : Bool) : State :=
  let c := s.rd64 R.PAIR_CKPT_LO R.PAIR_CKPT_HI
  let m := s.catchUps periods ns wake
  let first := max (c + 1) (k + 1 - m)
  let t : Takeover := { k := k, m := m, skipped := if c + m < k then k - m - c else 0, stale := stale,
                        degraded := decide (m < k - c), late := late || m == 0,
                        rest := if m = 0 then [] else (List.range (k + 1 - first)).map (· + first),
                        running := none, ran := false, complete := false }
  let s := if wake then s.wakeClusters else s
  (s.setTake t).catchStep 8

/-- A replay that a grant finds running ends without a result, and what it held back is committed; of the consignments not yet
committed only incomplete ones are discarded (R261, R264). Log 38, DEDUCED; log 39, DEDUCED. -/
def State.heldCommit (s : State) : State :=
  let s := if s.pr.replay.isSome then
      (({ s.clustersOff with pr := { s.pr with replay := none } } : State).inc R.PAIR_REPLAY_NOTRUN)
    else s
  let cs := s.pr.staged.filter Staged.done
  cs.foldl State.commit { s with pr := { s.pr with staged := [], bist := none } }

/-- A GRANT is received at `ns` nanoseconds after the boundary (R251, R264, R299). Log 36, DEDUCED. -/
def State.granted (s : State) (g : Nat × Nat) (hops ns : Nat) : State :=
  let s :=
    if newest s.ownGrant g = some g then
      ((s.wr64 R.PAIR_GRANT_LO R.PAIR_GRANT_HI g.2).p F.PAIR_GRANT_E_EPOCH g.1).flag F.PAIR_GRANT_E_HELD true
    else s
  let s := (s.pilotSeen hops).tetherSend 2 (grantWords (s.g F.PAIR_CFG_PSLOT) 2 g)
  let s :=
    if s.ft.foWithhold ∧ (match s.ft.foTick with | some t => decide (t < g.2) | none => false) = true then
      (({ s with ft := { s.ft with foWithhold := false } } : State).flag F.FAULT_FOREQ_WITHHELD false).forceSweep
    else s
  match s.role with
  | 1 => { s with pr := { s.pr with next := some 2 } }
  | 3 =>
    if s.running then
      let stale := s.g F.PAIR_STAT_CKPT != 3
      ((s.heldCommit.setRole 4).takeover s.tick 0 ns true stale false)
    else s
  | _ => s

/-- GRANT (R251): `ns` is its arrival after the boundary. -/
def execGrant (p : Fin 8) (e : Env) (g : BitVec 16 × BitVec 64) (ns : Nat) (s : State) : Host.Outcome State Fault Refusal :=
  let w := (g.1.toNat, g.2.toNat)
  .next (s.received p e 2 (grantWords (s.g F.PAIR_CFG_PSLOT) 0 w) (fun s =>
    if s.paired then s.granted w (15 - e.hops) ns else s))

/-- A late takeover applies R264 again at the 0.08T mark (R267). -/
def State.lateTakeover (s : State) : State :=
  match s.pr.take with
  | some t => if t.m = 0 ∧ s.role = 4 ∧ t.k < s.tick then s.takeover s.tick (s.mark 8) 0 false t.stale true else s
  | none => s

/-- At the 0.80T mark of tick k the takeover is complete: the Levee leaves its hold, and every valid task stands as new at
tier 0 (R265, R268). Log 39, DEDUCED. -/
def State.takeClose (s : State) : State :=
  match s.pr.take with
  | some t =>
    if s.role = 4 ∧ t.k = s.tick ∧ t.m ≠ 0 then
      let zero := (s.ttTasks s.ttSel).foldl (fun m t => SMap.insert m t (⟨0, 0, 0, holdTicks s, 0, false⟩ : TierSt)) []
      let s := s.setTake { t with ran := t.ran || t.running == some t.k, running := none, rest := [], complete := true }
      { s with fc := { s.fc with tier := zero, fix := zero } }
    else s
  | none => s

/-- The device that completed its catch-up becomes ACTIVE at the boundary (R244, R268). -/
def State.takeDone (s : State) : State :=
  match s.pr.take with
  | some t =>
    if t.complete ∧ s.role = 4 then
      let b := fun (c : Bool) (n : Nat) => if c then 2 ^ n else 0
      let s := s.setRole 2
      let s := s.wr R.PAIR_TAKE (BitVec.ofNat 32 (min 255 t.skipped * 2 ^ 24 + b t.stale 23 + b t.degraded 22 + b t.late 21 +
        t.m * 2 ^ 16))
      let s := ((s.wr64 R.PAIR_TAKE_TICK_LO R.PAIR_TAKE_TICK_HI t.k).inc R.PAIR_TAKEOVERS).flag F.PAIR_STAT_TAKEOVER true
      let s := { s with pr := { s.pr with take := none } }
      s.emit Kind.pairTakeover (Src.pair 0) t.k (min 255 t.skipped)
    else s
  | none => s

/-! ## Replay (R271 to R273) -/

/-- The complete consignment of tick `r`. -/
def State.stagedOf (s : State) (r : Nat) : Option Staged := s.pr.staged.find? (fun c => c.tick == r && c.done)

/-- A replay is not run (R272). -/
def State.replayNot (s : State) : State := (({ s with pr := { s.pr with replay := none } } : State).inc R.PAIR_REPLAY_NOTRUN).commits

/-- At the 0.08T mark of tick r + 1 the standby begins its replay of tick r. -/
def State.replayStart (s : State) : State :=
  let r := s.tick - 1
  if s.role = 3 ∧ r % 256 = 0 ∧ s.on F.PAIR_CTL_REPLAY_EN ∧ s.g F.PAIR_STAT_CKPT = 3 then
    match s.stagedOf r, s.record r with
    | some c, some x =>
      if c.nocheck then s.replayNot
      else (({ s with pr := { s.pr with replay := some r } } : State).beginDirected x).wakeClusters
    | _, _ => s.replayNot
  else s.commits

/-- The result of a replay with output CRC `crc`. Log 39, DEDUCED. -/
def State.replayJudge (s : State) (same : Bool) (r : Nat) : State :=
  let s := s.inc R.PAIR_REPLAY_RUN
  let w := ((!same) :: s.pr.window).take 64
  let bad := w.countP id
  let s := ({ s with pr := { s.pr with window := w } } : State).p F.PAIR_HEALTH_MISMATCHES bad
  let s :=
    if same then
      if s.g F.PAIR_STAT_READY = 1 then
        let n := s.pr.passCount + 1
        let s := { s with pr := { s.pr with passCount := n } }
        if 4 ≤ n then s.p F.PAIR_STAT_READY 2 else s
      else s
    else
      let s := (s.inc R.PAIR_REPLAY_MISMATCH).flag F.PAIR_STAT_MISMATCH true
      (s.emit Kind.replayMismatch (Src.pair 0) r).ckptStale
  if 3 ≤ bad ∧ s.g F.PAIR_STAT_READY ≠ 3 then (s.p F.PAIR_STAT_READY 3).emit Kind.standbySuspect (Src.pair 0) s.tick
  else s

/-- The end of a replay at the 0.80T mark: `crc` is that of its distribute, absent where a task was still running. -/
def State.replayEnd (s : State) (crc : Option Word) : State :=
  match s.pr.replay with
  | none => s
  | some r =>
    let s := match s.record s.tick with
      | some x => x.heads.foldl (fun (s : State) (e : Nat × Word) => s.writeW e.1 e.2) s
      | none => s
    let s := s.clustersOff
    let s := { s with fc := { s.fc with run := [], doneOn := [] } }
    match crc, s.stagedOf r with
    | some v, some c =>
      (({ s with pr := { s.pr with replay := none } } : State).replayJudge (v == c.outCrc) r).commits
    | _, _ => s.replayNot

/-- TIER, TIER_OUT and XF_TIER, SET and XF_COEF, and the tick number of a task that a takeover or a replay directs. -/
def State.directed (s : State) (t : Nat) : Option ((Nat × Nat × Nat) × (Nat × Nat) × Nat) :=
  let coef := fun r => match s.record r with | some x => x.sets.getD t (0, 2 ^ 30) | none => (0, 2 ^ 30)
  match s.pr.take.bind (fun k => k.running) with
  | some r => some ((0, 0, 2 ^ 30), coef r, r)
  | none =>
    match s.pr.replay with
    | some r =>
      match s.stagedOf r with
      | some c =>
        let w := c.vec (t / 2)
        let v := bitsOf w (16 * (t % 2) + 15) (16 * (t % 2))
        let j := v / 2 ^ 8 % 128
        some ((v % 4, v / 4 % 4, if j = 0 then 2 ^ 30 else 2 ^ 30 * j / (s.ttXfTicks s.ttSel t + 1)), coef r, r)
      | none => none
    | none => none

/-! ## Self-test (R274) -/

/-- At the 0.08T mark of a tick r with r mod 256 = 128 a standby wakes the next cluster in rotation for its test. -/
def State.bistStart (s : State) : State :=
  if s.role = 3 ∧ s.tick % 256 = 128 then
    let c := s.pr.bistNext
    ({ s with pr := { s.pr with bistNext := (c + 1) % 16, bist := some c } } : State).wakeOne c
  else s

/-- The cluster under test goes OFF again. -/
def State.bistEnd (s : State) : State :=
  match s.pr.bist with
  | some c => ({ s with pr := { s.pr with bist := none } } : State).powerOff c
  | none => s

/-- STANDBY_BIST (R274): in the compute window the test of the 17 lanes of the cluster woken for it has ended with `pass`. Log 39, DEDUCED. -/
def execStandbyBist (pass : Bool) (s : State) : Host.Outcome State Fault Refusal :=
  match s.pr.bist with
  | some c =>
    if s.tm.phase = .window ∧ s.g (F.CL_STAT_STATE c) = 2 then
      let s := s.bistEnd.bump F.PAIR_HEALTH_BIST_RUNS 1
      .next (if pass then s else s.p F.PAIR_HEALTH_BIST_FAIL (s.g F.PAIR_HEALTH_BIST_FAIL ||| 2 ^ c))
    else .next s
  | none => .next s

/-! ## The boundary, and register writes -/

/-- Buffer bases and tracked areas take force (R278, R255). -/
def State.ferryBoundary (s : State) : State :=
  let s := { s with pr := { s.pr with bufs := (List.range 6).foldl (fun m i =>
    SMap.set zeroW m i (s.rd (if i = 0 then R.PAIR_FBUF else if i = 1 then R.PAIR_STAGE else R.PAIR_REC (i - 2)))) [] } }
  if s.pr.areasNew then
    let s := { s with pr := { s.pr with areasNew := false, areas := s.areaRegs, dirty := [], forced := false, again := false } }
    (s.p F.PAIR_SWEEP_S s.sweepCount).forceSweep
  else s

/-- The roles at a boundary: a fence, a first grant, a completed takeover (R244, R254). -/
def State.roleBoundary (s : State) : State :=
  let s :=
    if s.pr.fence then
      let s := { s with pr := { s.pr with fence := false } }
      if s.role = 2 then s.enterStandby else s
    else s
  let s :=
    match s.pr.next with
    | some r =>
      let s := { s with pr := { s.pr with next := none } }
      if s.role = 1 then s.setRole r else s
    | none => s
  s.takeDone

/-- The pair unit's counts at a boundary. -/
def State.pairCounts (s : State) : State :=
  { s with pr := { s.pr with
      pilotAge := if s.pr.granted then 0 else s.pr.pilotAge + 1, granted := false, peerAge := s.pr.peerAge + 1
      pilotTicks := if s.on F.PILOT_CTL_EN then s.pr.pilotTicks + 1 else s.pr.pilotTicks } }

/-- The heartbeat of the new tick, after which the per-tick flags start again. -/
def State.heartbeatBoundary (s : State) : State :=
  let p := s.pr
  let t : Told := ⟨p.vec, p.crc, p.cycT0, p.wasOverrun, p.wasDistLate, p.wasBudgetOvr⟩
  let s := ({ s with pr := { s.pr with told := t } } : State).sendHeartbeat
  { s with pr := { s.pr with wasOverrun := false, wasDistLate := false, cycT0 := s.g F.FCST_CYC_T0_V
                             wasBudgetOvr := s.g F.FCST_STAT_STATE == 3 } }

/-- A write at offset `o` of the PAIR block (R278). -/
def State.pairWrite (s : State) (o : Nat) (v : Word) : State :=
  let a := R.PAIR_CFG + o
  let set := fun (good : Bool) =>
    let t := if good then s.fieldWrite a v else s.flag F.PAIR_STAT_CFG_REFUSED true
    (if t.role = 0 then
      { t with pr := { t.pr with bufs := (List.range 6).foldl (fun m i =>
          SMap.set zeroW m i (t.rd (if i = 0 then R.PAIR_FBUF else if i = 1 then R.PAIR_STAGE else R.PAIR_REC (i - 2)))) [] } }
     else t).ok
  let size := fun n base => decide (n % 16 = 0 ∧ 4096 ≤ n ∧ n ≤ 262144 ∧ base + n ≤ 0x100000)
  if (regSpecAt a).isNone then s.unmapped a
  else if o = 0 then (s.pairCfgWrite v).ok
  else if o = 4 then (s.pairCtlWrite v).ok
  else if o = 0x40 then set (decide (10 ≤ bitsOf v 7 0 ∧ bitsOf v 7 0 ≤ 200))
  else if o = 0x44 then set (decide ((v &&& 0xFFFF0#32).toNat + s.g F.PAIR_FBUF_SIZE_SIZE ≤ 0x100000))
  else if o = 0x48 then set (size (bitsOf v 18 0) (s.rd R.PAIR_FBUF).toNat)
  else if o = 0x4C then set (decide ((v &&& 0xFFFF0#32).toNat + s.g F.PAIR_STAGE_SIZE_SIZE ≤ 0x100000))
  else if o = 0x50 then set (size (bitsOf v 18 0) (s.rd R.PAIR_STAGE).toNat)
  else if o = 0x70 then set (decide (bitsOf v 17 0 ≤ 122880))
  else if 0x100 ≤ o ∧ o < 0x180 then (s.areaWrite ((o - 0x100) / 8) (o % 8 == 4) v).ok
  else if o = 0x200 then (s.pilotCtlWrite v).ok
  else if 0x240 ≤ o ∧ o % 8 = 0 then (s.pilotPairWrite ((o - 0x240) / 8) v).ok
  else set true

end Sys2Proof.Machine
end

