-- ==== Sys2Proof/Machine/Clock.lean ====
section
/-!
DEFINITION. The clock unit (spec/12): qualification of reference inputs (R342, R343), selection (R345 to R347), the
loop and its states (R348 to R356), clock outputs (R357 to R359), and what a worker's marks and start take from it (R407,
R410). Phases and frequencies are measured by the device and come as operands.
-/
namespace Sys2Proof.Machine

/-! ## Candidates and selection -/

/-- A candidate (R345): its rank (REF_SEL ranks above all), its input and its build-out bit, in fall-back order. -/
structure Cand where
  rank : Nat
  input : Nat
  pbo : Bool
  deriving DecidableEq, Repr

/-- The candidates. -/
def State.candidates (s : State) : List Cand :=
  (if s.on F.CLK_CTL_SEL_EN then [⟨0, s.g F.CLK_CTL_REF_SEL, s.on F.CLK_CTL_PBO⟩] else []) ++
  (if s.on F.CLK_CTL_FB_EN then
    (List.range 4).filterMap (fun i =>
      if s.on (F.CLK_FALLBACK_EN i) then
        some ⟨s.g (F.CLK_FALLBACK_RANK i) + 1, s.g (F.CLK_FALLBACK_INPUT i), s.on (F.CLK_FALLBACK_PBO i)⟩
      else none)
   else [])

def State.qualified (s : State) (r : Nat) : Bool := s.on (F.CLK_REF_STAT_QUALIFIED r)

/-- The frequency offset of input `r` in ppb. -/
def State.refOfs (s : State) (r : Nat) : Int := (s.rd (R.CLK_REF_OFS r)).toInt

def State.qualCands (s : State) : List Cand := s.candidates.filter (fun c => s.qualified c.input)

/-- The qualified candidates of the highest rank that holds one. -/
def State.topRank (s : State) : List Cand :=
  match s.qualCands.map Cand.rank with
  | [] => []
  | r :: rs => let m := rs.foldl min r; s.qualCands.filter (fun c => c.rank == m)

/-- Whether any two of these candidates differ by more than AGREE (R346). -/
def State.disagree (s : State) (cs : List Cand) : Bool :=
  cs.any (fun a => cs.any (fun b => decide (100 * (s.g F.CLK_LIMITS_AGREE : Int) < s.refOfs a.input - s.refOfs b.input)))

/-- REF_DISAGREE falls once no two qualified candidates of its rank differ (R346). Log 45, DEDUCED. -/
def State.refAgree (s : State) : State :=
  if s.on F.CLK_STAT_REF_DISAGREE ∧ !s.disagree (s.qualCands.filter (fun c => c.rank == s.ck.disRank)) then
    s.flag F.CLK_STAT_REF_DISAGREE false
  else s

def State.cur (s : State) : Option Nat := if s.on F.CLK_STAT_CUR_VALID then some (s.g F.CLK_STAT_CUR) else none

/-- The selection of R346, and whether it met disagreement. -/
def State.refSelect (s : State) : Option Nat × Bool :=
  let cs := s.topRank
  match cs with
  | [] => (none, false)
  | c :: rest =>
    if (match s.cur with | some r => cs.any (fun x => x.input == r) | none => false) then (s.cur, false)
    else if s.disagree cs then
      let best := rest.foldl (fun a b => if (s.refOfs b.input).natAbs < (s.refOfs a.input).natAbs then b else a) c
      (some best.input, true)
    else (some c.input, false)

/-! ## DPLL states (R352) -/

/-- State codes of CLK_STAT.STATE: 0 FREE_RUN, 1 ACQUIRING, 2 LOCKED, 3 HOLDOVER, 4 LOST. -/
def State.dpll (s : State) : Nat := s.g F.CLK_STAT_STATE

/-- A device's own TIMED and DEPTH (R407). -/
def State.ownTimed (s : State) : Bool × Nat :=
  if s.manager then (true, 0)
  else
    match s.cur with
    | some r =>
      let d := s.g (F.FAB_PORT_PEER_DEPTH (r - 8)) + 1
      if s.dpll = 2 ∧ 8 ≤ r ∧ d ≤ 15 then (true, d) else (false, 0)
    | none => (false, 0)

/-- FAB_STAT shows them. -/
def State.showTimed (s : State) : State := (s.flag F.FAB_STAT_TIMED s.ownTimed.1).p F.FAB_STAT_DEPTH s.ownTimed.2

/-- BW_LIMITED (R349): PPS_IN runs at 0.1 Hz. -/
def State.showBw (s : State) : State := s.flag F.CLK_STAT_BW_LIMITED (s.cur == some 3 && s.g F.CLK_DPLL_BW != 0)

def State.dpllGo (s : State) (n : Nat) : State :=
  ((if s.dpll = n then s else (s.p F.CLK_STAT_STATE n).flag F.CLK_STAT_STATE_CHG true).showTimed).showBw

/-- The held frequency: the mean of the last 30 s of LOCKED time without its last second (R353). Log 45, DEDUCED. -/
def heldFreq (fs : List Int) : Int :=
  let w := (fs.drop 10).take 300
  if w = [] then 0 else w.foldl (· + ·) 0 / (w.length : Int)

def State.setHrun (s : State) (on : Bool) : State := { s with ck := { s.ck with hRun := on } }

/-- No reference is left in ACQUIRING or LOCKED (R352, R356): H runs in HOLDOVER only (R355). Log 45, DEDUCED. -/
def State.refNone (s : State) : State :=
  let lim := 10 * s.g F.CLK_HOLD_HO_LIMIT
  let s := s.flag F.CLK_STAT_CUR_VALID false
  if s.ck.hist < 300 then (s.setHrun false).dpllGo 0
  else
    let s := s.wr R.CLK_HO_FREQ (BitVec.ofInt 32 (heldFreq s.ck.freqs))
    if lim = 0 ∨ s.ck.h < lim then (s.setHrun true).dpllGo 3
    else ((s.setHrun false).emit Kind.holdoverLost (Src.clock 0)).dpllGo 4

/-- Whether the offset of input `r` is built out (R350): never for a Ngulek input. -/
def State.buildsOut (s : State) (r : Nat) : Bool := decide (r < 8) && s.candidates.any (fun c => c.input == r && c.pbo)

/-- Input `r` becomes the selection (R350, R352): H runs in an ACQUIRING entered from HOLDOVER or LOST (R355). -/
def State.refTake (s : State) (r : Nat) : State :=
  let st := s.dpll
  let s := (s.flag F.CLK_STAT_CUR_VALID true).p F.CLK_STAT_CUR r
  let s := { s with ck := { s.ck with built := 0, measure := s.buildsOut r, within := false } }
  let s := if st = 3 ∨ st = 4 then s.setHrun true else s
  (if st = 1 ∨ st = 2 then s.flag F.CLK_STAT_SWITCHING true else s).dpllGo 1

/-- The evaluation of R347; `lost` where the selected input has just been disqualified. Log 45, DEDUCED. -/
def State.refEval (s : State) (lost : Bool) : State :=
  let st := s.dpll
  if st = 1 ∧ !lost then s
  else
    let s := if lost then s.flag F.CLK_STAT_CUR_VALID false else s
    let s := s.refAgree
    let r := s.refSelect
    let s := if r.2 ∧ !s.on F.CLK_STAT_REF_DISAGREE then
        let s := { s with ck := { s.ck with disRank := (s.topRank.headD ⟨0, 0, false⟩).rank } }
        (s.flag F.CLK_STAT_REF_DISAGREE true).emit Kind.refDisagree (Src.clock 0)
      else s
    match r.1 with
    | none => if st = 1 ∨ st = 2 then s.refNone else s
    | some i => if st = 2 ∧ !lost ∧ s.cur = some i then s else s.refTake i

/-! ## Qualification (R342, R343) -/

/-- Input `r`, which is qualified or counts towards it, is disqualified for reason `why` (R342, R344). -/
def State.disqualify (s : State) (r why : Nat) : State :=
  let was := s.qualified r
  let counts := s.g (F.CLK_REF_STAT_QUAL_LEFT r) != 0
  let s := ((s.flag (F.CLK_REF_STAT_QUALIFIED r) false).p (F.CLK_REF_STAT_DQ_REASON r) why).p (F.CLK_REF_STAT_QUAL_LEFT r) 0
  let s := { s with ck := { s.ck with pps := if r = 3 then 0 else s.ck.pps } }
  let s := (if (was || counts) ∧ s.candidates.any (fun c => c.input == r) then s.emit Kind.refLoss (Src.clock r) else s).refAgree
  if s.cur = some r ∧ (s.dpll = 1 ∨ s.dpll = 2) then s.refEval true
  else if was then s.refEval false
  else s

/-- An input is lost (R342, 1). -/
def State.refLost (s : State) (r : Nat) : State :=
  if s.on (F.CLK_REF_STAT_PRESENT r) ∨ s.qualified r then
    let s := s.flag (F.CLK_REF_STAT_PRESENT r) false
    ({ s with ck := { s.ck with predicted := SMap.set noneB s.ck.predicted r false
                                outRange := SMap.set noneB s.ck.outRange r false } }).disqualify r 1
  else s

def refExists (r : Nat) : Bool := decide (r < 5 ∨ 8 ≤ r)

/-- How far, in fs, the phase-correction term may move between two comparison events of input `r` (R348, R341). -/
def State.slopeLimit (s : State) (r : Nat) : Nat :=
  let psl := s.g F.CLK_DPLL_PSL * 1000000
  if r = 3 then psl else if r < 8 then psl / s.fs else psl * s.nSamp / s.fs

/-- The loop at a comparison event of the selected input `r`, whose phase target the output misses by `off` ns: an offset that is
built out joins the target (R350); the phase-correction term closes the error within the slope limit (R348); a change of BW takes
effect (R349). Log 46, DEDUCED. -/
def State.loopEvent (s : State) (r : Nat) (off : Int) : State :=
  let s := if s.ck.measure then { s with ck := { s.ck with measure := false, built := off } } else s
  let err := off - s.ck.built
  let lim : Int := s.slopeLimit r
  let s := { s with ck := { s.ck with
    corr := s.ck.corr - max (-lim) (min lim (err * 1000000))
    bw := if r = 3 then 0 else s.g F.CLK_DPLL_BW
    within := decide (err.natAbs ≤ s.g F.CLK_HOLD_LOCK_NS) } }
  s.wr R.CLK_PHASE_ERR (BitVec.ofInt 32 err)

/-- A comparison event of input `r`: its deviation from the predicted phase and the phase of the output against the input's
target, in ns (R341, R342, R351). An input out of range does not begin to count. -/
def State.refEvent (s : State) (r : Nat) (dev off : Int) : State :=
  let had := SMap.get noneB s.ck.predicted r
  let s := s.flag (F.CLK_REF_STAT_PRESENT r) true
  let s := { s with ck := { s.ck with predicted := SMap.set noneB s.ck.predicted r true, pps := if r = 3 then s.ck.pps + 1 else s.ck.pps } }
  let s := if s.cur = some r ∧ (s.dpll = 1 ∨ s.dpll = 2) then s.loopEvent r off else s
  let lim : Int := if r = 4 then 1000 else s.g F.CLK_LIMITS_PHIT_NS
  if had ∧ lim < dev.natAbs then s.disqualify r 3
  else if !s.qualified r ∧ s.g (F.CLK_REF_STAT_QUAL_LEFT r) = 0 ∧ !SMap.get noneB s.ck.outRange r then s.p (F.CLK_REF_STAT_QUAL_LEFT r) (s.g F.CLK_QUAL_QUAL_MS)
  else s

/-- REF_COMPARISON (R341). Log 3, DESIGN CHOICE. -/
def execRefComparison (r : Fin 16) (dev off : BitVec 32) (s : State) : Host.Outcome State Fault Refusal :=
  .next (if refExists r then s.refEvent r dev.toInt off.toInt else s)

/-- REF_LOSS (R342): no comparison event of input `r` for 3 comparison periods. -/
def execRefLoss (r : Fin 16) (s : State) : Host.Outcome State Fault Refusal :=
  .next (if refExists r then s.refLost r else s)

/-- The frequency term after 100 ms (R348, R352): the loop makes it `out` while it follows a reference; otherwise it moves to the
held or the nominal frequency at 1 ppm per second. Log 46, DEDUCED. -/
def State.freqTerm (s : State) (out : Int) : Int :=
  let goal : Int := if s.dpll = 0 then 0 else (s.rd R.CLK_HO_FREQ).toInt
  if s.dpll = 1 ∨ s.dpll = 2 then out else s.ck.freq + max (-10000) (min 10000 (goal - s.ck.freq))

/-- REF_RANGE_MEASURE (R342): the offsets of inputs measured over 100 ms in ppb, and that of the output in 0.01 ppb. The
timers that count in parts of a second advance with it. Log 45, DEDUCED. -/
def State.rangeMeasure (s : State) (ms : List (Nat × Int)) (out : Int) : State :=
  let s := ms.foldl (fun s m =>
    if refExists m.1 ∧ s.on (F.CLK_REF_STAT_PRESENT m.1) then
      let s := s.wr (R.CLK_REF_OFS m.1) (BitVec.ofInt 32 m.2)
      let bad := decide (1000 * s.g F.CLK_QUAL_RANGE_PPM < m.2.natAbs)
      let s := { s with ck := { s.ck with outRange := SMap.set noneB s.ck.outRange m.1 bad } }
      if bad then s.disqualify m.1 2 else s
    else s) s
  let s := (List.range 16).foldl (fun s r =>
    let n := s.g (F.CLK_REF_STAT_QUAL_LEFT r)
    if 0 < n then s.p (F.CLK_REF_STAT_QUAL_LEFT r) (max 1 (n - 100)) else s) s
  let c := { s.ck with freq := s.freqTerm out }
  let c := if s.dpll = 2 then { c with hist := min (c.hist + 1) (10 * 0xFFFFFFFF), freqs := (out :: c.freqs).take 310 } else c
  let c := if c.hRun then { c with h := c.h + 1 } else c
  let s : State := { s with ck := c }
  (((s.wr R.CLK_HIST (BitVec.ofNat 32 (c.hist / 10))).wr R.CLK_HO_TIMER (BitVec.ofNat 32 (c.h / 10))).flag
    F.CLK_STAT_HIST_OK (decide (300 ≤ c.hist))).refAgree

def execRefRangeMeasure (ms : List (Fin 16 × BitVec 32)) (out : BitVec 32) (s : State) : Host.Outcome State Fault Refusal :=
  .next (s.rangeMeasure (ms.map (fun m => (m.1.val, m.2.toInt))) out.toInt)

/-- REF_NO_LOCK (R342, 4): the DPLL stayed ACQUIRING on its input for 60 s. Log 46, DEDUCED. -/
def execRefNoLock (s : State) : Host.Outcome State Fault Refusal :=
  match s.cur with
  | some r => .next (if s.dpll = 1 then s.disqualify r 4 else s)
  | none => .next s

/-- REF_QUALIFIED (R343): QUAL_MS have passed for input `r` without a disqualifying condition. -/
def execRefQualified (r : Fin 16) (s : State) : Host.Outcome State Fault Refusal :=
  if refExists r ∧ s.on (F.CLK_REF_STAT_PRESENT r) ∧ !s.qualified r ∧ s.g (F.CLK_REF_STAT_QUAL_LEFT r) ≠ 0 ∧
      (r.val ≠ 3 ∨ 8 ≤ s.ck.pps) then
    .next (((s.flag (F.CLK_REF_STAT_QUALIFIED r) true).p (F.CLK_REF_STAT_QUAL_LEFT r) 0).refEval false)
  else .next s

/-! ## A worker's start (R35, R40, R410) -/

/-- Where a worker with a start pending is locked on a TIMED input: whether its ticks begin with the manager's next
boundary, at which the manager's counts must be at least its own (R40). Log 20, DEDUCED. -/
def State.workerStart (s : State) : State :=
  if s.manager ∨ !s.on F.TICK_STAT_START_PENDING ∨ s.dpll ≠ 2 ∨ s.on F.FAB_STAT_TICK_CFG_MISMATCH then s
  else
    match s.cur with
    | some r =>
      match SMap.find s.fb.timed (r - 8) with
      | some m =>
        if 8 ≤ r ∧ s.on (F.FAB_PORT_PEER_TIMED (r - 8)) then
          let ahead := decide (m.1 < s.tick ∨ m.2 + s.nSamp ≤ s.tm.mtc.toNat)
          ({ s with tm := { s.tm with aligned := !ahead } } : State).flag F.TICK_STAT_MTC_AHEAD ahead
        else s
      | none => s
    | none => s

/-- DPLL_LOCKED (R351): the phase error against the target has stayed within LOCK_NS for 1 s. Log 46, DEDUCED. -/
def execDpllLocked (s : State) : Host.Outcome State Fault Refusal :=
  if s.dpll = 1 ∧ s.ck.within then
    let s := if s.on F.CLK_STAT_SWITCHING then
        ((s.flag F.CLK_STAT_SWITCHING false).inc R.CLK_SWITCH_CNT).flag F.CLK_STAT_SWITCHED true
      else s
    let s := { s with ck := { s.ck with h := 0, hRun := false } }
    let s := (s.wr R.CLK_HO_TIMER 0).dpllGo 2
    let s := if s.cur = some 4 ∧ s.on F.TIME_MEDIA_CTL_AUTO then { s with tm := { s.tm with autoArmed := true } } else s
    .next ((s.workerStart).refEval false)
  else .next s

/-- HOLDOVER_LOST (R352): H has reached HO_LIMIT. Log 46, DEDUCED. -/
def execHoldoverLost (s : State) : Host.Outcome State Fault Refusal :=
  let lim := s.g F.CLK_HOLD_HO_LIMIT
  if s.dpll = 3 ∧ lim ≠ 0 then
    let s := { s with ck := { s.ck with h := max s.ck.h (10 * lim), hRun := false } }
    .next (((s.wr R.CLK_HO_TIMER (BitVec.ofNat 32 (s.ck.h / 10))).emit Kind.holdoverLost (Src.clock 0)).dpllGo 4)
  else .next s

/-- An accepted write changes FS_SEL (R352). A switch that has begun stays one until the DPLL enters LOCKED (R350). -/
def State.clkRateChange (s : State) : State :=
  let s := { s with ck := { s.ck with hist := 0, h := 0, hRun := false, freqs := [], pps := 0, predicted := [], outRange := []
                                      freq := 0, built := 0, measure := false, within := false } }
  let s := ((s.wr R.CLK_HIST 0).wr R.CLK_HO_TIMER 0).flag F.CLK_STAT_HIST_OK false
  let s := (List.range 16).foldl (fun s r =>
    (s.flag (F.CLK_REF_STAT_QUALIFIED r) false).p (F.CLK_REF_STAT_QUAL_LEFT r)
      (if s.on (F.CLK_REF_STAT_PRESENT r) then s.g F.CLK_QUAL_QUAL_MS else 0)) s
  (s.flag F.CLK_STAT_CUR_VALID false).refAgree.dpllGo 0

/-! ## Register writes (R345, R347, R358, R360) -/

def State.clkRefused (s : State) : State := s.flag F.CLK_STAT_CFG_REFUSED true

/-- The inputs named by REF_SEL and the enabled fall-back entries, with the registers at `a` set to `v`. Log 45, DEDUCED. -/
def State.namedInputs (s : State) (a : Nat) (v : Word) : List Nat :=
  let t := s.wr a v
  (if t.on F.CLK_CTL_SEL_EN then [t.g F.CLK_CTL_REF_SEL] else []) ++
    (List.range 4).filterMap (fun i => if t.on (F.CLK_FALLBACK_EN i) then some (t.g (F.CLK_FALLBACK_INPUT i)) else none)

/-- A write to CLK_CTL or CLK_FALLBACK at `a`. -/
def State.clkSelectWrite (s : State) (a : Nat) (v : Word) : State :=
  let i := bitsOf v 3 0
  let ns := s.namedInputs a v
  if (5 ≤ i ∧ i ≤ 7) ∨ !decide ns.Nodup then s.clkRefused else (s.fieldWrite a v).refEval false

/-- CLK_SELECT_WRITE (R347): a write to CLK_FALLBACK[i], or to CLK_CTL. -/
def execClkSelectWrite (i : Option (Fin 4)) (v : Word) (s : State) : Host.Outcome State Fault Refusal :=
  match i with
  | some k => .next (s.clkSelectWrite (R.CLK_FALLBACK k) v).ok
  | none => .next (s.clkSelectWrite R.CLK_CTL v).ok

/-- The frequency of an output as a multiple of fs, by its SRC (R357). -/
def moutRatio (src : Nat) : Nat := if src = 4 then 1 else 512 / 2 ^ src

/-- Whether the frequency that SRC selects exceeds 49.152 MHz (R358). -/
def State.moutFast (s : State) (src : Nat) : Bool := decide (49152000 < moutRatio src * s.fs)

/-- LIMITED of every output (R358). -/
def State.moutLimits (s : State) : State :=
  (List.range 4).foldl (fun s n => s.flag (F.CLK_MOUT_LIMITED n) (s.moutFast (s.g (F.CLK_MOUT_SRC n)))) s

/-- A write to CLK_MOUT[n] (R358). -/
def State.moutWrite (s : State) (n : Nat) (v : Word) : State :=
  if 4 < bitsOf v 2 0 then s.clkRefused else (s.fieldWrite (R.CLK_MOUT n) v).moutLimits

/-- MCLK_OUT_CFG_WRITE (R358). -/
def execMclkOutCfgWrite (n : Fin 4) (v : Word) (s : State) : Host.Outcome State Fault Refusal := .next (s.moutWrite n v).ok

/-- The configurations of MCLK_OUT take effect at a sample boundary (R358). -/
def State.moutBoundary (s : State) : State :=
  (List.range 4).foldl (fun s n => { s with ck := { s.ck with mout := SMap.set zeroW s.ck.mout n (s.rd (R.CLK_MOUT n)) } }) s

/-- Whether MCLK_OUT_n carries its clock now (R358, R359). -/
def State.moutDriven (s : State) (n : Nat) : Bool :=
  let w := SMap.get zeroW s.ck.mout n
  w.getLsbD 31 && !s.moutFast (bitsOf w 2 0) && (!w.getLsbD 30 || s.on F.PAIR_STAT_DRIVING)

/-- What a clock output pin does: it carries a clock of so many periods per sample period, or is held, or is the boundary cells'
(R538). -/
inductive MoutPin where
  | clock (ratio : Nat)
  | low
  | hiZ
  | cells
  deriving DecidableEq, Repr

/-- MCLK_OUT_n (R357 to R359); at high impedance while a reset is held (R529). -/
def State.moutPin (s : State) (n : Nat) : MoutPin :=
  let w := SMap.get zeroW s.ck.mout n
  if s.pw.owned then .cells else if s.pw.held then .hiZ
  else if s.moutDriven n then .clock (moutRatio (bitsOf w 2 0)) else if w.getLsbD 29 then .hiZ else .low

/-- A write at offset `o` of the CLK block (R360). -/
def State.clkWrite (s : State) (o : Nat) (v : Word) : State :=
  let a := R.CLK_CTL + o
  let inr := fun (hi lo least most : Nat) => decide (least ≤ bitsOf v hi lo ∧ bitsOf v hi lo ≤ most)
  let set := fun (good : Bool) => (if good then (s.fieldWrite a v).showBw.refAgree else s.clkRefused).ok
  if (regSpecAt a).isNone then s.unmapped a
  else if o = 0 ∨ (0x10 ≤ o ∧ o < 0x20) then (s.clkSelectWrite a v).ok
  else if 0x80 ≤ o ∧ o < 0x90 then (s.moutWrite ((o - 0x80) / 4) v).ok
  else if o = 0x04 then set (inr 31 16 10 50000)
  else if o = 0x08 then set (inr 31 16 100 60000 && inr 9 0 1 1000)
  else if o = 0x0C then set (inr 31 16 100 50000 && inr 9 0 1 1000)
  else if o = 0x20 then set (inr 31 16 10 10000)
  else set true

end Sys2Proof.Machine
end

