-- ==== Sys2Proof/Machine/FaultPath.lean ====
section
/-!
DEFINITION. Fault collection (spec/10): region collectors (R286 to R290), reactions (R292 to R300), safe states and the way
out of them (R301 to R304), records (R296, R297) and the FAULT registers (R308).
-/
namespace Sys2Proof.Machine

/-! ## Messages and tracking entries -/

/-- The region of a source ID, and its collector: CONTROL counts for chip-level units (R289). -/
def srcRegion (src : Nat) : Nat := src / 512
def collectorOf (src : Nat) : Nat := min 6 (srcRegion src)
def srcBlock (src : Nat) : Nat := src / 16 % 32
def srcCell (src : Nat) : Nat := src % 16

/-- The two words of a message (R279). -/
def FMsg.lo (m : FMsg) : Word := BitVec.ofNat 32 (m.count * 2 ^ 20 + severityOf m.kind * 2 ^ 18 + m.kind * 2 ^ 12 + m.src)
def FMsg.hi (m : FMsg) : Word := BitVec.ofNat 32 m.addr
def FMsg.events (m : FMsg) : Nat := max m.count 1

def noEntries (_ : Nat) : List FEntry := []
def State.fEntries (s : State) (i : Nat) : List FEntry := SMap.get noEntries s.ft.entries i

def State.setEntries (s : State) (i : Nat) (es : List FEntry) : State :=
  ({ s with ft := { s.ft with entries := SMap.set noEntries s.ft.entries i es } } : State).p (F.FAULT_COLL_STAT_ENTRIES i) es.length

/-- Entries whose window has ended at `now` are freed (R286). -/
def State.expire (s : State) (i now : Nat) : State :=
  s.setEntries i ((s.fEntries i).filter (fun e => decide (now < e.opened + 1000 * s.g (F.FAULT_WIN_W e.kind))))

/-- Collector `i` counts a message at time `now` in µs: the state after it, and whether it is severe (R286). -/
def State.countMsg (s : State) (i now : Nat) (m : FMsg) : State × Bool :=
  let s := s.expire i now
  let n := s.g (F.FAULT_REACT_N m.kind)
  let es := s.fEntries i
  let same := fun (e : FEntry) => e.src == m.src && e.kind == m.kind
  if n = 1 then (s, true)
  else
    match es.find? same with
    | some e =>
      if n ≤ e.count + m.events then (s.setEntries i (es.filter (fun x => !same x)), true)
      else (s.setEntries i (es.map (fun x => if same x then { x with count := x.count + m.events } else x)), false)
    | none =>
      if 32 ≤ es.length then (s.inc (R.FAULT_COLL_NOENT i), false)
      else if n ≤ m.events then (s, true)
      else (s.setEntries i (es ++ [⟨m.src, m.kind, m.events, now⟩]), false)

/-- A message reaches the chip fault collector. -/
def State.toChip (s : State) (m : FMsg) (severe : Bool) : State := { s with ft := { s.ft with chip := s.ft.chip ++ [(m, severe)] } }

/-- Whether collector `i` has a parity error that no good RELOAD has mended (R290). Log 40, DEDUCED. -/
def State.collBad (s : State) (i : Nat) : Bool := s.on (F.FAULT_COLL_STAT_PARITY i) && !SMap.get noneB s.ft.reloaded i

/-- FAULT_MESSAGE (R286): the `j`-th waiting message reaches its collector at `now` µs of the reference clock. A collector
in parity error loses it (R290). Log 40, DEDUCED; log 41, DEDUCED. -/
def execFaultMessage (j now : Nat) (s : State) : Host.Outcome State Fault Refusal :=
  match s.ft.blocks[j]? with
  | none => .next s
  | some m =>
    let i := collectorOf m.src
    let s := { s with ft := { s.ft with blocks := s.ft.blocks.eraseIdx j } }
    if s.collBad i then .next s
    else
      let r := s.countMsg i now m
      .next ((if r.2 then r.1.inc (R.FAULT_COLL_SEVERE i) else r.1).toChip m r.2)

/-- FAULT_WINDOW_EXPIRY (R286). -/
def execFaultWindowExpiry (i : Fin 7) (now : Nat) (s : State) : Host.Outcome State Fault Refusal := .next (s.expire i now)

/-! ## What acts on W1CG bits (R303) -/

def noActs (_ : Nat) : List (Nat × Nat) := []
def State.actsOn (s : State) (b : Nat) : List (Nat × Nat) := SMap.get noActs s.ft.acted b

/-- The kind and source of `m` act on W1CG bit `b` (0 to 6 regions, 8 chip, 16 REQ). -/
def State.act (s : State) (b kind src : Nat) : State :=
  let l := s.actsOn b
  { s with ft := { s.ft with acted := SMap.set noActs s.ft.acted b (if (kind, src) ∈ l then l else l ++ [(kind, src)]) } }

/-- The region of far domain `d` (R337). -/
def domRegion (d : Nat) : Nat := if d < 24 then 4 else if d < 34 then 5 else 6

/-- Whether the cause of a kind from a source is gone (R285, column Gone). -/
def State.causeGone (s : State) (kind src : Nat) : Bool :=
  let port := srcBlock src * 4 + srcCell src
  if kind = Kind.hungAccess then !(s.mx.hung.any (fun h => h.reported && domRegion h.dom == srcRegion src))
  else if kind = Kind.thermSense then !s.on F.FCST_STAT_SENS_INVALID
  else if kind = Kind.thermTrip then !s.on F.PWR_STAT_TRIP
  else if kind = Kind.supplyWarn then s.g F.PWR_STAT_WARN == 0
  else if kind = Kind.collParity then SMap.get noneB s.ft.reloaded (srcRegion src)
  else if kind = Kind.sapClkLost then !s.on (F.SAP_STAT_CLK_LOST port)
  else if kind = Kind.slotSlip then !s.on (F.SAP_STAT_SLOT_SLIP port)
  else if kind = Kind.linkDown then s.portActive (srcBlock src)
  else if kind = Kind.refLoss then s.on (F.CLK_REF_STAT_QUALIFIED (srcCell src))
  else if kind = Kind.holdoverLost then s.g F.CLK_STAT_STATE == 2
  else if kind = Kind.ethLinkDown then s.on (F.ETH_STAT_LINK_UP (srcBlock src - 9))
  else if kind = Kind.hostLinkDown then s.on F.HOST_STAT_LINK_UP
  else true

def State.actsGone (s : State) (b : Nat) : Bool := (s.actsOn b).all (fun e => s.causeGone e.1 e.2)

/-! ## Entering safe states (R301, R302) -/

/-- The KIND field of region `i` in FAULT_SAFE_KIND. -/
def safeKindField (i : Nat) : Fld := ⟨R.FAULT_SAFE_KIND (i / 4), 8 * (i % 4) + 5, 8 * (i % 4)⟩

def setBit (m i : Nat) (on : Bool) : Nat := if m.testBit i = on then m else if on then m + 2 ^ i else m - 2 ^ i

/-- The running tasks of clusters `cs` halt (R139, R301): they count as over, and their output slots ramp. Log 29, DEDUCED; log 40, DEDUCED. -/
def State.safeHalt (s : State) (cs : List Nat) : State :=
  cs.foldl (fun s c => if s.issuing c then (s.setRun (s.g (F.CL_TASK_TASK c)) .excluded).haltTask c else s) s

/-- Chip safe state is entered, or acted on again, by a kind of a source (R302). Log 40, DEDUCED. -/
def State.enterChipSafe (s : State) (kind src : Nat) : State :=
  let s := s.act 8 kind src
  if s.on F.FAULT_SAFE_CHIP_SAFE then s
  else
    let s := ((s.flag F.FAULT_SAFE_CHIP_SAFE true).p F.FAULT_SAFE_CHIP_KIND kind).flag F.CHIP_STATE_CHIP_SAFE true
    let s := { s with ft := { s.ft with ending := SMap.set noneB s.ft.ending 8 false } }
    (s.pairFail.safeHalt (List.range 16)).leveeSafeUpdate

/-- A fail-over request (R298, R299). -/
def State.failOver (s : State) (kind src : Nat) : State :=
  let s := s.act 16 kind src
  let s := if s.on F.FAULT_FOREQ_REQ then s
    else ((s.flag F.FAULT_FOREQ_REQ true).p F.FAULT_FOREQ_KIND kind).p F.FAULT_FOREQ_SOURCE src
  if (kind = Kind.eccUncorr ∨ kind = Kind.reduceMismatch) ∧ s.role = 2 then
    ({ s with ft := { s.ft with foWithhold := true } } : State).flag F.FAULT_FOREQ_WITHHELD true
  else s

/-- The region safe state of region `i`, with its fail-over request (R301, R293, R20). Log 40, DEDUCED. -/
def State.enterRegionSafe (s : State) (i kind src : Nat) : State :=
  if 6 ≤ i then s.enterChipSafe kind src
  else
    let s := s.act i kind src
    let m := s.g F.FAULT_SAFE_REGION_SAFE
    if m.testBit i then s
    else
      let s := (s.p F.FAULT_SAFE_REGION_SAFE (setBit m i true)).p (safeKindField i) kind
      let s := s.p F.CHIP_STATE_REGION_SAFE (setBit (s.g F.CHIP_STATE_REGION_SAFE) i true)
      let s := { s with ft := { s.ft with ending := SMap.set noneB s.ft.ending i false } }
      if i < 4 then s.safeHalt ((List.range 4).map (· + 4 * i)) else if i = 4 then s.leveeSafeUpdate else s

/-! ## Reactions (R292 to R295) -/

/-- Whether an uncorrectable error at `a` asks for fail-over (R294). -/
def State.eccFailsOver (s : State) (a : Nat) : Bool :=
  s.areaRegs.any (fun e => decide (e.2.1 ≤ a ∧ a < e.2.1 + 64 * e.2.2)) ||
    (match memOf a with | some (.prog _, _) => true | _ => false)

/-- The reactions of a message: bits LOG 0, IRQ 1, RET 2, MUTE 3, RSAFE 4, CSAFE 5, FO 6, CORE 7. -/
def State.reactionsOf (s : State) (m : FMsg) (severe : Bool) : Nat :=
  let r := s.g (F.FAULT_REACT_BASE m.kind) ||| (if severe then s.g (F.FAULT_REACT_SEVERE m.kind) else 0)
  let r := if m.kind = Kind.eccUncorr ∧ s.eccFailsOver m.addr then r ||| 64 else r
  if r.testBit 4 then r ||| 64 else r

/-- The amplifier groups a MUTE reaction names. -/
def muteGroups (src : Nat) : Nat :=
  if srcRegion src = 4 ∧ srcBlock src = 6 ∧ srcCell src < 12 then 2 ^ srcCell src else 0xFFF

/-- The reactions of message `m` reach their targets, in the order of R295; IRQ and LOG follow at the end of the period. -/
def State.react (s : State) (m : FMsg) (r : Nat) : State :=
  let s := if r.testBit 5 then s.enterChipSafe m.kind m.src else s
  let s := if r.testBit 4 then s.enterRegionSafe (srcRegion m.src) m.kind m.src else s
  let s := if r.testBit 3 then
      let g := muteGroups m.src
      (s.p F.FAULT_LMUTE_GROUPS (s.g F.FAULT_LMUTE_GROUPS ||| g)).collMute g
    else s
  let s := if r.testBit 2 ∧ srcRegion m.src < 4 ∧ srcBlock m.src < 4 then
      let c := 4 * srcRegion m.src + srcBlock m.src
      s.setClu c { s.clu c with retHeld := setBit (s.clu c).retHeld (srcCell m.src) true }
    else s
  let s := if r.testBit 6 then s.failOver m.kind m.src else s
  if r.testBit 7 then
    (({ s with ft := { s.ft with coreDown := true } } : State).bump F.CHIP_STATE_CORE_RESTARTS 1)
  else s

/-- The record in progress with message `m` (R296). -/
def mergeRec (p : FRec) (m : FMsg) (severe : Bool) (r : Nat) : FRec :=
  { p with merged := min 255 (p.merged + 1), mkind := m.kind, msev := max p.msev (severityOf m.kind)
           react := p.react ||| r, severe := p.severe || severe }

/-- The first message at the chip fault collector: counted, its reactions applied, its record opened or merged. -/
def State.reactTo (s : State) (m : FMsg) (severe : Bool) : State :=
  let s := (s.inc R.FAULT_MSG_CNT).inc (R.FAULT_KCNT m.kind) m.events
  let r := s.reactionsOf m severe
  let tick := s.tick
  let s := s.react m r
  match s.ft.period with
  | none => { s with ft := { s.ft with period := some ⟨m, severe, tick, 0, 0, 0, r⟩ } }
  | some p => ({ s with ft := { s.ft with period := some (mergeRec p m severe r) } } : State).inc R.FAULT_MERGED_CNT

/-- FAULT_REACTION (R292). Log 41, DEDUCED. -/
def execFaultReaction (s : State) : Host.Outcome State Fault Refusal :=
  match s.ft.chip with
  | [] => .next s
  | (m, severe) :: rest => .next (({ s with ft := { s.ft with chip := rest } } : State).reactTo m severe)

/-! ## Records (R296, R297) -/

/-- The four words of a record. -/
def recordWords (p : FRec) : List Word :=
  [p.first.lo, p.first.hi, BitVec.ofNat 32 p.tick,
   BitVec.ofNat 32 ((if p.severe then 2 ^ 31 else 0) + p.mkind * 2 ^ 24 + p.msev * 2 ^ 22 + p.merged * 2 ^ 14 + p.react)]

/-- FAULT_STAT.REC_FULL follows the ring's indices. -/
def State.showFull (s : State) : State :=
  s.flag F.FAULT_STAT_REC_FULL ((s.g F.FAULT_REC_WR_WR + 1) % 64 == s.g F.FAULT_REC_RD_RD)

/-- A record is written to the ring, or merged into the newest one while the ring is full. -/
def State.writeRecord (s : State) (p : FRec) : State :=
  let wr := s.g F.FAULT_REC_WR_WR
  if (wr + 1) % 64 = s.g F.FAULT_REC_RD_RD then
    let a := R.FAULT_REC (4 * ((wr + 63) % 64) + 3)
    let w := s.rd a
    let sev := max (max (bitsOf w 23 22) p.msev) (severityOf p.first.kind)
    let kind := if p.mkind ≠ 0 then p.mkind else p.first.kind
    let v := (if w.getLsbD 31 ∨ p.severe then 2 ^ 31 else 0) + kind * 2 ^ 24 + sev * 2 ^ 22 +
      min 255 (bitsOf w 21 14 + 1 + p.merged) * 2 ^ 14 + (bitsOf w 7 0 ||| p.react)
    ((s.wr a (BitVec.ofNat 32 v)).inc R.FAULT_MERGED_CNT (1 + p.merged)).showFull
  else
    let s := ((recordWords p).zipIdx).foldl (fun s x => s.wr (R.FAULT_REC (4 * wr + x.2)) x.1) s
    (s.p F.FAULT_REC_WR_WR ((wr + 1) % 64)).showFull

/-- The end of the handling period whose record is `p`: LOG, IRQ and the FAULT_REPORT of a worker. -/
def State.endPeriod (s : State) (p : FRec) : State :=
  let s : State := { s with ft := { s.ft with period := none } }
  let s : State := if p.react.testBit 0 then s.writeRecord p else s
  let s : State :=
    if p.react.testBit 1 then
      let s : State := if s.on F.FAULT_CTL_IRQ_EN then { s with irq := s.irq ++ [.fault] } else s
      s.event evFault s.myId (recordWords p)
    else s
  if (p.react.testBit 0 || p.react.testBit 1) && !s.manager && s.on F.FAB_CTL_FR_EN then
    s.sendMsg (s.envTo 0 9) (recordWords p)
  else s

/-- FAULT_RECORD (R296): the handling period ends. Log 41, DEDUCED. -/
def execFaultRecord (s : State) : Host.Outcome State Fault Refusal :=
  match s.ft.period with
  | none => .next s
  | some p => .next (s.endPeriod p)

/-! ## Collector parity (R290, R291) -/

/-- COLL_PARITY (R290). Log 40, DEDUCED. -/
def execCollParity (i : Fin 7) (s : State) : Host.Outcome State Fault Refusal :=
  if s.collBad i then .next s
  else
    let s := s.flag (F.FAULT_COLL_STAT_PARITY i) true
    let s := { s with ft := { s.ft with reloaded := SMap.set noneB s.ft.reloaded i false } }
    let src := Src.collector i
    let s := (s.enterRegionSafe i Kind.collParity src).failOver Kind.collParity src
    .next (s.toChip ⟨0, 1, Kind.collParity, src⟩ true)

/-- CHIP_COLL_PARITY (R291): chip safe state until device reset. -/
def execChipCollParity (s : State) : Host.Outcome State Fault Refusal :=
  if s.on F.FAULT_STAT_CHIP_COLL_PAR then .next s
  else
    let s := s.flag F.FAULT_STAT_CHIP_COLL_PAR true
    .next (s.enterChipSafe 0 Src.chip)

/-- RELOAD written to collector `i`; `good` where every register then reads with good parity (R290). -/
def State.collReload (s : State) (i : Nat) (good : Bool) : State :=
  let s := s.setEntries i []
  if good ∧ s.on (F.FAULT_COLL_STAT_PARITY i) then { s with ft := { s.ft with reloaded := SMap.set noneB s.ft.reloaded i true } }
  else s

/-- FAULT_COLL_RELOAD (R290). -/
def execFaultCollReload (i : Fin 7) (good : Bool) (s : State) : Host.Outcome State Fault Refusal :=
  .next (s.collReload i good).ok

/-! ## Register writes (R288, R293, R308) -/

/-- The fixed reactions of a kind (R285, column Base, marked *), in FAULT_REACT.BASE. -/
def fixedBits (k : Nat) : Nat :=
  if k = Kind.laneFail then 4
  else if k = Kind.reduceMismatch ∨ k = Kind.distLate then 64
  else if k = Kind.thermTrip then 32
  else if k = Kind.coreLockstep then 128
  else if k = Kind.collParity then 16
  else 0

def State.faultRefused (s : State) : State := s.flag F.FAULT_STAT_CFG_REFUSED true

/-- The entries of kind `k` of every collector are freed (R288). -/
def State.freeKind (s : State) (k : Nat) : State :=
  (List.range 7).foldl (fun s i => s.setEntries i ((s.fEntries i).filter (fun e => e.kind != k))) s

/-- A write to FAULT_REACT[k], or to FAULT_WIN[k] where `win`. -/
def State.reactWrite (s : State) (k : Nat) (win : Bool) (v : Word) : State :=
  if k = 0 ∨ 0x34 ≤ k then s.faultRefused
  else if win then
    if bitsOf v 15 0 < 1 ∨ 60000 < bitsOf v 15 0 then s.faultRefused
    else if bitsOf v 15 0 = s.g (F.FAULT_WIN_W k) then s
    else (s.p (F.FAULT_WIN_W k) (bitsOf v 15 0)).freeKind k
  else if bitsOf v 31 24 = 0 then s.faultRefused
  else
    let same := bitsOf v 31 24 == s.g (F.FAULT_REACT_N k)
    let s := s.fieldWrite (R.FAULT_REACT k) (v ||| BitVec.ofNat 32 (fixedBits k))
    if same then s else s.freeKind k

/-- FAULT_REACT_WRITE (R293). -/
def execFaultReactWrite (k : Fin 64) (win : Bool) (v : Word) (s : State) : Host.Outcome State Fault Refusal :=
  .next (s.reactWrite k win v).ok

/-! ## Leaving a fault state (R303, R304) -/

/-- The tasks with a cluster that `p` holds for stand as new (R304, R147): also in a selection already made, whose
tiers they start at. -/
def State.forgetTasks (s : State) (p : Nat → Bool) : State :=
  let out := fun t => (s.ttClusters s.ttSel t).any p
  let anew := fun (e : Nat × TierSt) => (e.1, if out e.1 then (⟨e.2.cur, e.2.cur, 0, holdTicks s, 0, false⟩ : TierSt) else e.2)
  { s with fc := { s.fc with tier := s.fc.tier.filter (fun e => !out e.1), fix := s.fc.fix.filter (fun e => !out e.1),
                             sel := s.fc.sel.map (fun v => { v with tiers := v.tiers.map anew }) } }

/-- A cleared safe state ends: region `i`, or the chip at 8. -/
def State.endSafe (s : State) (i : Nat) : State :=
  let s := { s with ft := { s.ft with ending := SMap.set noneB s.ft.ending i false } }
  if i = 8 then
    let s := (s.flag F.CHIP_STATE_CHIP_SAFE false).forgetTasks (fun _ => true)
    s.leveeSafeUpdate.pairMend
  else
    let s := s.p F.CHIP_STATE_REGION_SAFE (setBit (s.g F.CHIP_STATE_REGION_SAFE) i false)
    if i < 4 then s.forgetTasks (fun c => c / 4 == i) else if i = 4 then s.leveeSafeUpdate else s

/-- The safe states that end at this boundary. -/
def State.endSafes (s : State) : State := (s.ft.ending.map (fun e => e.1)).foldl State.endSafe s

def State.clrRefused (s : State) : State := s.flag F.FAULT_STAT_CLR_REFUSED true

/-- An accepted clear: the safe state ends at the next boundary, at once while ticks are stopped. -/
def State.clearedSafe (s : State) (i : Nat) : State :=
  let s := { s with ft := { s.ft with acted := SMap.set noActs s.ft.acted i [] } }
  if s.running then { s with ft := { s.ft with ending := SMap.set noneB s.ft.ending i true } } else s.endSafe i

/-- The clear of region `i`. -/
def State.clearRegion (s : State) (i : Nat) : State :=
  let m := s.g F.FAULT_SAFE_REGION_SAFE
  if !m.testBit i then s
  else if s.actsGone i ∧ !((i < 4 ∨ i = 5) ∧ s.on (F.FAULT_COLL_STAT_PARITY i)) then
    ((s.p F.FAULT_SAFE_REGION_SAFE (setBit m i false)).p (safeKindField i) 0).clearedSafe i
  else s.clrRefused

/-- The clear of chip safe state. -/
def State.clearChip (s : State) : State :=
  if !s.on F.FAULT_SAFE_CHIP_SAFE then s
  else if s.actsGone 8 ∧ !s.on F.FAULT_STAT_CHIP_COLL_PAR then
    ((s.flag F.FAULT_SAFE_CHIP_SAFE false).p F.FAULT_SAFE_CHIP_KIND 0).clearedSafe 8
  else s.clrRefused

/-- A write of `v` to FAULT_SAFE. -/
def State.safeWrite (s : State) (v : Word) : State :=
  let s := (List.range 7).foldl (fun s i => if v.getLsbD i then s.clearRegion i else s) s
  if v.getLsbD 8 then s.clearChip else s

/-- SAFE_CLEAR (R303). -/
def execSafeClear (v : Word) (s : State) : Host.Outcome State Fault Refusal := .next (s.safeWrite v).ok

/-- A write of `v` to FAULT_FOREQ. -/
def State.foreqWrite (s : State) (v : Word) : State :=
  if !v.getLsbD 31 ∨ !s.on F.FAULT_FOREQ_REQ then s
  else if s.actsGone 16 then s.reqEnd
  else s.clrRefused

/-- FOREQ_CLEAR (R303). -/
def execForeqClear (v : Word) (s : State) : Host.Outcome State Fault Refusal := .next (s.foreqWrite v).ok

/-- A write of `v` to FAULT_LMUTE (R300): a MUTE reaction is an event, so the clear succeeds. -/
def State.lmuteWrite (s : State) (v : Word) : State :=
  s.p F.FAULT_LMUTE_GROUPS (s.g F.FAULT_LMUTE_GROUPS &&& (0xFFF - bitsOf v 11 0))

/-- LMUTE_CLEAR (R300). -/
def execLmuteClear (v : Word) (s : State) : Host.Outcome State Fault Refusal := .next (s.lmuteWrite v).ok

/-- A write of `v` to FAULT_COLL_STAT[i]. -/
def State.collStatWrite (s : State) (i : Nat) (v : Word) : State :=
  if !v.getLsbD 31 ∨ !s.on (F.FAULT_COLL_STAT_PARITY i) then s
  else if SMap.get noneB s.ft.reloaded i then s.flag (F.FAULT_COLL_STAT_PARITY i) false
  else s.clrRefused

/-- COLL_PARITY_CLEAR (R303). -/
def execCollParityClear (i : Fin 7) (v : Word) (s : State) : Host.Outcome State Fault Refusal := .next (s.collStatWrite i v).ok

/-- A write at offset `o` of the FAULT block (R308). RELOAD by a plain register write is taken as reading good. -/
def State.faultWrite (s : State) (o : Nat) (v : Word) : State :=
  let a := R.FAULT_CTL + o
  if (regSpecAt a).isNone then s.unmapped a
  else if o = 0x08 then (s.safeWrite v).ok
  else if o = 0x14 then (s.foreqWrite v).ok
  else if o = 0x18 then (s.lmuteWrite v).ok
  else if o = 0x24 then (s.fieldWrite a v).showFull.ok
  else if 0x100 ≤ o ∧ o < 0x200 then (s.reactWrite ((o - 0x100) / 4) false v).ok
  else if 0x200 ≤ o ∧ o < 0x300 then (s.reactWrite ((o - 0x200) / 4) true v).ok
  else if 0x400 ≤ o ∧ o < 0x470 ∧ o % 16 = 0 then (s.collStatWrite ((o - 0x400) / 16) v).ok
  else if 0x400 ≤ o ∧ o < 0x470 ∧ o % 16 = 12 then (if v.getLsbD 0 then s.collReload ((o - 0x400) / 16) true else s).ok
  else (s.fieldWrite a v).ok

/-- CORE_LOCKSTEP (R27). Log 66, DESIGN CHOICE. -/
def execCoreLockstep (s : State) : Host.Outcome State Fault Refusal := .next (s.emit Kind.coreLockstep Src.core)

end Sys2Proof.Machine
end

