-- ==== Sys2Proof/Machine/Matrix.lean ====
section
/-!
DEFINITION. Memories and the matrix (spec/11): write-back and scrubbing (R313, R314), error injection (R315), atomic
channels (R316, R317), retention (R318, R319), locks (R326), hung accesses (R335) and the MTX registers (R338).
-/
namespace Sys2Proof.Machine

def State.mtxRefused (s : State) : State := s.flag F.MTX_STAT_CFG_REFUSED true

/-! ## Write-back and scrubbing -/

/-- ECC_WRITEBACK (R313): the corrected word at `a` is written back, unless a newer write cancelled it or a lock holds its bank. -/
def execEccWriteback (a : Word) (s : State) : Host.Outcome State Fault Refusal :=
  if a.toNat ∈ s.mx.wb ∧ (s.lockBank.isNone ∨ s.lockBank ≠ bankAt a.toNat) then
    .next (({ s with mx := { s.mx with wb := s.mx.wb.filter (· != a.toNat) } } : State).setEcc a.toNat 0)
  else .next s

/-- The scrub units of memory `m` (R314): clusters' data 0 to 15, program 16 to 31, region 32 to 35, control 36. -/
def scrubUnits (m : Nat) : Nat := if m < 16 then 65536 else if m < 32 then 8192 else if m < 36 then 262144 else 131072

/-- The byte address of unit `u` of memory `m`, bank by bank and row by row (R309, R314). -/
def scrubAddr (m u : Nat) : Nat :=
  if m < 16 then 0x01000000 + m * 0x100000 + 4 * (16 * (u % 4096) + u / 4096)
  else if m < 32 then 0x01080000 + (m - 16) * 0x100000 + 8 * u
  else if m < 36 then 0x02000000 + (m - 32) * 0x200000 + 8 * (32 * (u % 8192) + u / 8192)
  else 8 * (16 * (u % 8192) + u / 8192)

/-- The words of a unit. -/
def scrubWords (m u : Nat) : List Nat := if m < 16 then [scrubAddr m u] else [scrubAddr m u, scrubAddr m u + 4]

/-- The bank of unit `u` of memory `m`. -/
def scrubBank (m u : Nat) : Nat :=
  match memOf (scrubAddr m u) with
  | some (k, x) => bankOf k x
  | none => 0

def State.scrubPos (s : State) (m : Nat) : Nat := SMap.get zeroN s.mx.scrub m

/-- The check of one word by the scrubber. -/
def State.scrubWord (s : State) (a : Nat) : State :=
  match s.eccAt a with
  | 0 => s
  | 1 => ({ s with mx := { s.mx with wb := s.mx.wb.filter (· != a) } } : State).setEcc a 0 |>.eccCorr a
  | _ => s.eccUncorr a

/-- The scrubber's memory of bank `b`. -/
def scrubberOf (b : Nat) : Nat := if b < 256 then b / 16 else if b < 272 then b - 240 else if b < 400 then 32 + (b - 272) / 32 else 36

/-- Whether a scrub pass is in bank `b`. -/
def State.scrubbing (s : State) (b : Nat) : Bool :=
  s.on F.MEM_SCRUB_CTL_EN && scrubBank (scrubberOf b) (s.scrubPos (scrubberOf b)) == b

/-! ## Retention (R318, R319) -/

/-- The clusters of the CLBUF endpoints and the home regions of the table in force (R177). -/
def State.xHolds (s : State) (cluster : Bool) (i : Nat) : Bool :=
  (s.xEntries s.xSel).any (fun e => [s.xSrc s.xSel e, s.xDst s.xSel e].any (fun p =>
    if cluster then epKind p == .clbuf && epCluster p == i else s.epHome s.xSel p == some i))

/-- Whether bank `b` may enter or keep retention, scrub passes apart: its cluster is OFF, or its region memory has an idle
time, and R177 does not hold it out. Control memory enters it with a power state only. -/
def State.mayRetain (s : State) (b : Nat) : Bool :=
  if b < 256 then s.g (F.CL_STAT_STATE (b / 16)) == 0 && !(s.running && s.xHolds true (b / 16))
  else if b < 272 then s.g (F.CL_STAT_STATE (b - 256)) == 0
  else if b < 400 then s.g F.MEM_RET_IDLE_IDLE != 0 && !(s.running && s.xHolds false ((b - 272) / 32))
  else false

def State.setRet (s : State) (b : Nat) (on : Bool) : State := { s with mx := { s.mx with ret := SMap.set noneB s.mx.ret b on } }

/-- BANK_RETENTION_ENTRY (R318): bank `b` (numbered as Mtx says) has been idle for its time. -/
def execBankRetentionEntry (b : Fin 416) (s : State) : Host.Outcome State Fault Refusal :=
  if s.mayRetain b ∧ !s.scrubbing b ∧ !SMap.get noneB s.mx.waking b then .next (s.setRet b true) else .next s

/-- BANK_WAKE_DONE (R319). -/
def execBankWakeDone (b : Fin 416) (s : State) : Host.Outcome State Fault Refusal :=
  .next { s with mx := { s.mx with waking := SMap.set noneB s.mx.waking b false } }

/-- The pass of a scrubber leaves bank `b`: a bank it woke returns to retention. Log 43, DEDUCED. -/
def State.scrubLeaves (s : State) (b : Nat) : State :=
  if SMap.get noneB s.mx.scrubWoke b then
    let s := { s with mx := { s.mx with scrubWoke := SMap.set noneB s.mx.scrubWoke b false } }
    if s.mayRetain b || (400 ≤ b) then s.setRet b true else s
  else s

/-- The pass of a scrubber reaches bank `b`. Log 43, DEDUCED. -/
def State.scrubEnters (s : State) (b : Nat) : State :=
  if s.inRet b then
    ({ s with mx := { s.mx with scrubWoke := SMap.set noneB s.mx.scrubWoke b true } } : State).setRet b false
  else s

/-- Memory `m` has completed a cycle; MEM_SCRUB_PASS counts when all have. Log 43, DEDUCED. -/
def State.scrubWrap (s : State) (m : Nat) : State :=
  let d := SMap.set noneB s.mx.scrubDone m true
  if d.length = 37 then ({ s with mx := { s.mx with scrubDone := [] } } : State).inc R.MEM_SCRUB_PASS
  else { s with mx := { s.mx with scrubDone := d } }

/-- SCRUB_VISIT (R314): the scrubber of memory `m` visits its next unit, whose bank no lock holds (R326). -/
def execScrubVisit (m : Fin 37) (s : State) : Host.Outcome State Fault Refusal :=
  let u := s.scrubPos m
  let b := scrubBank m u
  if !s.on F.MEM_SCRUB_CTL_EN ∨ s.lockBank = some b then .next s
  else
    let s := (scrubWords m u).foldl State.scrubWord (s.scrubEnters b)
    let n := (u + 1) % scrubUnits m
    let s := { s with mx := { s.mx with scrub := SMap.set zeroN s.mx.scrub m n } }
    let s := if scrubBank m n = b ∧ n ≠ 0 then s else s.scrubLeaves b
    .next (if n = 0 then s.scrubWrap m else s)

/-! ## Error injection (R315) -/

/-- A write of MODE to MEM_INJ_CTL. -/
def State.injWrite (s : State) (mode : Nat) : State :=
  if mode = 3 then s.mtxRefused
  else
    let s := s.flag F.MEM_INJ_CTL_ARMED (mode != 0)
    { s with mx := { s.mx with injMode := mode } }

/-- ECC_INJECT_ARM (R315): MODE 1, or 2 where `double`. -/
def execEccInjectArm (double : Bool) (s : State) : Host.Outcome State Fault Refusal :=
  .next (s.injWrite (if double then 2 else 1)).ok

/-- ECC_INJECT_DISARM (R315). -/
def execEccInjectDisarm (s : State) : Host.Outcome State Fault Refusal := .next (s.injWrite 0).ok

/-! ## Atomic channels (R316, R317) -/

/-- Whether an address lies in a range of the block address map and the cluster window layout (R21, R22, R327). Log 42, DEDUCED. -/
def inAddressMap (a : Nat) : Bool :=
  (memOf a).isSome || decide (0x01000000 ≤ a ∧ a < 0x02000000 ∧ 0xF0000 ≤ a % 0x100000) ||
    decide (0x03000000 ≤ a ∧ a < 0x03100000 ∧ ¬(0x030A6000 ≤ a ∧ a < 0x030B0000))

/-- The word an operation writes. -/
def atomNew (op : Nat) (old x : Word) : Word :=
  match op with
  | 0 => old + x
  | 1 => BitVec.ofInt 32 (clip (-(2 ^ 31)) (2 ^ 31 - 1) (old.toInt + x.toInt))
  | _ => x

def State.atomRefused (s : State) (a : Nat) : State := (s.flag (F.MTX_ATOM_CTL_ERR a) true).wr (R.MTX_ATOM_OLD a) 0

/-- The operation `op` of channel `a`. Log 42, DEDUCED. -/
def State.atomRun (s : State) (a op : Nat) : State :=
  let p := s.g (F.MTX_ATOM_ADDR_ADDR a)
  if !inAddressMap p then (s.decodeError (decodeSrc (Src.matrix 6) p) p).atomRefused a
  else if op = 3 ∨ p % 4 ≠ 0 then s.atomRefused a
  else
    match memOf p with
    | none => s.atomRefused a
    | some (.prog _, _) => s.atomRefused a
    | some _ =>
      let r := s.readW p
      if r.2.2 then r.1.atomRefused a
      else (r.1.writeW p (atomNew op r.2.1 (s.rd (R.MTX_ATOM_OPND a)))).wr (R.MTX_ATOM_OLD a) r.2.1

/-- Whether a locked sequence holds the bank of channel `a`'s word (R326). -/
def State.atomLocked (s : State) (a : Nat) : Bool :=
  let b := bankAt (s.g (F.MTX_ATOM_ADDR_ADDR a))
  b.isSome && s.lockBank == b

/-- The operations whose bank a lock held are done once it does not; BUSY falls. -/
def State.atomsGo (s : State) : State :=
  s.mx.atoms.foldl (fun s x =>
    if s.atomLocked x.1 then s
    else
      (({ s with mx := { s.mx with atoms := s.mx.atoms.filter (fun y => y.1 != x.1) } } : State).flag (F.MTX_ATOM_CTL_BUSY x.1)
        false).atomRun x.1 x.2) s

/-- A write of `v` to MTX_ATOM_CTL[a]. It waits for a bank that a locked sequence holds. -/
def State.atomWrite (s : State) (a : Nat) (v : Word) : State :=
  if s.on (F.MTX_ATOM_CTL_BUSY a) then s.mtxRefused
  else
    let s := if v.getLsbD 30 then s.flag (F.MTX_ATOM_CTL_ERR a) false else s
    if s.atomLocked a then
      ({ s with mx := { s.mx with atoms := SMap.insert s.mx.atoms a (bitsOf v 1 0) } } : State).flag (F.MTX_ATOM_CTL_BUSY a) true
    else s.atomRun a (bitsOf v 1 0)

/-- ATOMIC_ADD, ATOMIC_ADDS, ATOMIC_SWAP (R316): OP written to channel `a`, with ERR's W1C bit at 1 where `clr`. -/
def atomWord (clr : Bool) (op : Nat) : Word := BitVec.ofNat 32 ((if clr then 2 ^ 30 else 0) + op)
def execAtomicAdd (a : Fin 8) (clr : Bool) (s : State) : Host.Outcome State Fault Refusal := .next (s.atomWrite a (atomWord clr 0)).ok
def execAtomicAdds (a : Fin 8) (clr : Bool) (s : State) : Host.Outcome State Fault Refusal := .next (s.atomWrite a (atomWord clr 1)).ok
def execAtomicSwap (a : Fin 8) (clr : Bool) (s : State) : Host.Outcome State Fault Refusal := .next (s.atomWrite a (atomWord clr 2)).ok

/-! ## Locked sequences (R326) -/

/-- A write of COUNT to MTX_LOCK_CORE. -/
def State.lockWrite (s : State) (n : Nat) : State :=
  if n < 1 ∨ 4 < n then s.mtxRefused else { s with mx := { s.mx with lockLeft := n, lockAddr := none } }

/-- A data access of the control core to `a` counts in a locked sequence; one to another bank, or a first one that names
no bank, ends it. Log 42, DEDUCED. -/
def State.lockAccess (s : State) (a : Nat) : State :=
  if s.mx.lockLeft = 0 then s
  else
    let first := s.mx.lockAddr.getD a
    let n := s.mx.lockLeft - 1
    if bankAt a = none ∨ bankAt first ≠ bankAt a ∨ n = 0 then { s with mx := { s.mx with lockLeft := 0, lockAddr := none } }
    else { s with mx := { s.mx with lockLeft := n, lockAddr := some first } }

/-- The lock whose first access was to `a` is broken (R326). -/
def State.lockBroken (s : State) (a : Nat) : State :=
  let s := { s with mx := { s.mx with lockLeft := 0, lockAddr := none } }
  ((s.flag F.MTX_STAT_LOCK_ABORT true).inc R.MTX_LOCK_ABORT_CNT).emit Kind.lockAbort (Src.matrix 6) a

/-- The master of a waiting access: each has one access in progress at the bridge (R323, R325). Log 44, DEDUCED. -/
def Asker.master : Asker → Nat
  | .bus core => if core then 0 else 1
  | .bar _ _ => 2
  | .gone => 2
  | .engine => 3
  | .remote _ _ _ _ => 4
  | .dma => 5

/-- Whether an access of master `m` to `a` waits behind one of the accesses `hs` of that master: the control core waits for every
access of its own, another master for one to the bridge or to the same bank (R323, R325). Log 44, DEDUCED. -/
def mustWait (m a : Nat) (hs : List Hung) : Bool :=
  hs.any (fun h => h.who.master == m && (m == 0 || (onBus h.addr && onBus a) || ((bankAt a).isSome && bankAt h.addr == bankAt a)))

/-- Whether a lock keeps master `m` from the bank of `a` (R326): the bank is held for the control core, or the core's sequence may
not start there inside the gather or distribute phase. Log 42, DEDUCED. -/
def State.lockKeeps (s : State) (m a : Nat) : Bool :=
  if m = 0 then
    s.mx.lockLeft != 0 && s.mx.lockAddr.isNone && (s.tm.phase == .gather || s.tm.phase == .distribute) && s.running &&
      (match bankAt a with | some b => decide (b < 256 ∨ (272 ≤ b ∧ b < 400)) | none => false)
  else (bankAt a).isSome && s.lockBank == bankAt a

/-- The far domain that keeps an access to the word at `a` from being answered. -/
def State.farStuck (s : State) (a : Nat) : Option Nat :=
  if onBus a then (farDomain (a - a % 4)).filter (fun d => !s.farLive d) else none

/-- Whether an access of `n` bytes of master `m` to `a` waits before it is passed to its target. A misaligned one reaches the default
target. -/
def State.queued (s : State) (m a n : Nat) : Option Nat :=
  if a % n ≠ 0 then none else if mustWait m a s.mx.hung then some 36 else if s.lockKeeps m a then some 35 else none

/-- The domain code under which an access of `n` bytes of master `m` to `a` waits, if it waits. -/
def State.stuck (s : State) (m a n : Nat) : Option Nat :=
  if (s.queued m a n).isSome then s.queued m a n else if a % n ≠ 0 then none else s.farStuck a

/-- An access of `n` bytes to `a` waits for `w`, a write of `v` or a read. -/
def State.waits (s : State) (a n : Nat) (v : Option Word) (w : Asker) : State :=
  { s with mx := { s.mx with hung := s.mx.hung ++ [⟨(s.stuck w.master a n).getD 36, a, false, v, n, w⟩] } }

/-! ## Hung accesses (R335, R336) -/

/-- MTX_HANG_DOM.OUTSTANDING follows the reported accesses. -/
def State.showHung (s : State) : State := s.flag F.MTX_HANG_DOM_OUTSTANDING (s.mx.hung.any Hung.reported)

/-- HUNG_ACCESS (R335): the `j`-th outstanding access has had no response for 10 µs. -/
def execHungAccess (j : Nat) (s : State) : Host.Outcome State Fault Refusal :=
  match s.mx.hung[j]? with
  | none => .next s
  | some h =>
    if h.reported ∨ 35 ≤ h.dom then .next s
    else
      let s := { s with mx := { s.mx with hung := s.mx.hung.set j { h with reported := true } } }
      let s := ((s.flag F.MTX_STAT_HUNG true).wr R.MTX_HANG_LAST (BitVec.ofNat 32 h.addr)).p F.MTX_HANG_DOM_DOMAIN h.dom
      .next ((s.inc R.MTX_HANG_CNT).showHung.emit Kind.hungAccess (Src.crossbar (domRegion h.dom)) h.addr)

/-- A BAR_0 access of address `a` received an error response (R482). -/
def State.barError (s : State) (a : Nat) : State :=
  (s.wr R.HOST_BAR_ERR_ADDR (BitVec.ofNat 32 a)).flag F.HOST_STAT_BAR_ERR true

/-- What a host driver reads where an access failed: every byte 0xFF. -/
def allOnes (n : Nat) : List Word := List.replicate n 0xFFFFFFFF#32

/-- The answer to a remote request (R411): STATUS in word 0, and the words read. -/
def State.remoteAnswer (s : State) (e : Env) (err : Bool) (ws : List Word) : State :=
  s.sendMsg { s.envTo e.src e.type with epoch := e.epoch, tag := e.tag, resp := true, tunnel := e.tunnel }
    ((if err then 1 else 0) :: (if err then [] else ws))

/-- An access completes with an error (R336). -/
def State.hungError (s : State) (h : Hung) : State :=
  match h.who with
  | .bus _ => s.send (.resp true (if h.val.isNone then [0] else []))
  | .bar ws left =>
    if h.val.isSome then s.barError h.addr else (s.barError h.addr).send (.resp false (allOnes (ws.length + left.length)))
  | .gone => s
  | .remote e _ _ _ => s.remoteAnswer e true []
  | .engine => { s with hs := { s.hs with engErr := s.hs.engErr ++ [h.addr] } }
  | .dma => s

/-- The accesses to domain `d` complete with an error response; `only` where just the reported ones do. -/
def State.hungDone (s : State) (d : Nat) (only : Bool) : State :=
  let gone := fun (h : Hung) => h.dom == d && (h.reported || !only)
  let s := (s.mx.hung.filter gone).foldl State.hungError s
  ({ s with mx := { s.mx with hung := s.mx.hung.filter (fun h => !gone h) } } : State).showHung

/-! ## Register writes (R338) -/

/-- A write at offset `o` of the MTX block, but for MTX_DOM_RST. -/
def State.mtxWrite (s : State) (o : Nat) (v : Word) : State :=
  let a := R.MTX_STAT + o
  if (regSpecAt a).isNone then s.unmapped a
  else if o = 0x18 then (s.lockWrite (bitsOf v 2 0)).ok
  else if o = 0x11C then (s.injWrite (bitsOf v 1 0)).ok
  else if 0x200 ≤ o ∧ o < 0x280 then
    let c := (o - 0x200) / 16
    if o % 16 = 8 then (s.atomWrite c v).ok
    else if s.on (F.MTX_ATOM_CTL_BUSY c) ∧ o % 16 < 8 then s.mtxRefused.ok
    else (s.fieldWrite a v).ok
  else (s.fieldWrite a v).ok

end Sys2Proof.Machine
end

