-- ==== Sys2Proof/Machine/Ngulek.lean ====
section
/-!
DEFINITION. The Ngulek ports (spec/13): states and their transitions (R365 to R371), training (R369, R372), eye scan
(R373), the pattern checker (R375), MOORED (R377 to R380), and what follows when a port leaves ACTIVE (R367, R416).
-/
namespace Sys2Proof.Machine

/-! ## A port leaves ACTIVE (R416) -/

/-- A message that waited for a port goes by the route table again. -/
def State.reroute (s : State) (m : TxMsg) : State :=
  match s.routeTo m.env.dst with
  | some q => s.sendPort q m.env m.ws m.held
  | none => (s.inc R.FAB_MSG_NOROUTE).creditBack m.held (msgClass m.env.type) m.frags

/-- The run that port `p` was receiving ends: each copy that is being forwarded ends poisoned (R399). -/
def State.cutRun (s : State) (p : Nat) : State :=
  match SMap.find s.fb.inRun p with
  | none => s
  | some r =>
    let s := { s with fb := { s.fb with inRun := SMap.erase s.fb.inRun p } }
    (List.range 8).foldl (fun s q =>
      if r.outs.testBit q ∧ s.portActive q then s.send (.run q r.flow r.first r.count true []) else s) s

/-- What follows when port `p`, already in its new state, has left ACTIVE; `emit` where it emits LINK_DOWN (R367). -/
def State.leftActive (s : State) (p : Nat) (emit : Bool) : State :=
  let s := s.cutRun p
  let msgs := [0, 1, 2].flatMap (fun c => SMap.get noMsgs s.fb.txq (3 * p + c))
  let fb := s.fb
  let s := { s with fb := { fb with
    txq := fb.txq.filter (fun e => e.1 / 3 != p), mark := SMap.erase fb.mark p, timed := SMap.erase fb.timed p
    syncOut := SMap.erase fb.syncOut p, ackOut := SMap.erase fb.ackOut p, ackIn := SMap.erase fb.ackIn p
    capIn := SMap.erase fb.capIn p } }
  let s := (s.wr (R.FAB_PORT_CRED p) 0).wr (R.FAB_PORT_PEER p) 0
  let s := msgs.foldl State.reroute s
  let s := (s.refLost (8 + p)).tetherPort p
  if emit then s.emit Kind.linkDown (Src.ngl p) else s

/-! ## States -/

/-- Whether a CDR has locked in state `n` of a port, so that it has a recovered clock and an eye (R370, R373). -/
def nglLockedIn (n : Nat) : Bool := n == 4 || n == 5 || n == 6 || n == 9

/-- Whether CLOCK_PRESENT of port `p` follows R334 (R370). -/
def State.nglLocked (s : State) (p : Nat) : Bool := nglLockedIn (s.g (F.NGL_STAT_STATE p))

/-- An eye measurement of port `p` is cut off (R373). -/
def State.scanCut (s : State) (p : Nat) : State :=
  if s.on (F.NGL_ES_CTL_GO p) then
    let s := ((s.flag (F.NGL_ES_CTL_GO p) false).flag (F.NGL_ES_CTL_DONE p) true).flag (F.NGL_ES_CTL_ABORTED p) true
    s.setNgl p { s.ngl p with scanCut := true }
  else s

/-- Port `p` goes to state `n` (codes of NGL_STAT.STATE); `emit` where leaving ACTIVE emits LINK_DOWN. -/
def State.nglTo (s : State) (p n : Nat) (emit : Bool := true) : State :=
  let old := s.g (F.NGL_STAT_STATE p)
  if old = n then s
  else
    let s := (s.p (F.NGL_STAT_STATE p) n).flag (F.NGL_STAT_STATE_CHG p) true
    let s := if n = 0 ∨ n = 7 ∨ n = 8 then (s.flag (F.NGL_STAT_CLOCK_PRESENT p) false).setStopped (24 + p) false else s
    let s := if n = 0 ∨ n = 7 then s.flag (F.NGL_STAT_SIG_DET p) false else s
    let s := if old = 9 then s.flag (F.NGL_PRBS_STAT_LOCKED p) false else s
    let s := if nglLockedIn n then s else s.scanCut p
    let k := s.ngl p
    let s := s.setNgl p { k with
      saved := if n = 1 then none else k.saved
      ready := 0, answer := 0, asked := false, accepted := false, quiet := false
      leave := if n = 7 then k.leave else false }
    if old = 6 then s.leftActive p emit else s

/-- Port `p` fails with a reason and goes to `n` (R365). -/
def State.nglFail (s : State) (p n why : Nat) (emit : Bool := true) : State :=
  ((s.p (F.NGL_FAIL_REASON p) why).bump (⟨R.NGL_FAIL p, 15, 0⟩) 1).nglTo p n emit

def State.nglState (s : State) (p : Nat) : Nat := s.g (F.NGL_STAT_STATE p)
def State.nglMode (s : State) (p : Nat) : Nat := s.g (F.NGL_CTL_MODE p)

/-- Port `p` wakes. -/
def State.nglWake (s : State) (p : Nat) (moored : Bool) : State :=
  let s := s.nglTo p 8
  s.setNgl p { s.ngl p with fromMoored := moored }

/-- Whether the far side of port `p` answers. -/
def State.nglFar (s : State) (p : Nat) : Bool := s.farLive (24 + p)

def State.nglRefused (s : State) (p : Nat) : State := s.flag (F.NGL_STAT_CFG_REFUSED p) true

/-! ## Equalisers (R369, R372, R380) -/

/-- The values saved at entry to MOORED. -/
def State.nglCoefs (s : State) (p : Nat) : List Word :=
  [s.rd (R.NGL_FFE p), s.rd (R.NGL_CTLE p)] ++ (List.range 8).map (fun i => s.rd (R.NGL_DFE_TAP p i))

def State.nglDfe (s : State) (p : Nat) (ws : List Word) : State :=
  (ws.zipIdx).foldl (fun s x => s.p (F.NGL_DFE_TAP_TAP p x.2) x.1.toNat) s

/-- Training starts: from saved values where there are any, else from NGL_FFE_INIT and the presets. -/
def State.nglTrain (s : State) (p : Nat) : State :=
  let s := s.nglTo p 2
  match (s.ngl p).saved with
  | some (ffe :: ctle :: dfe) => ((s.wr (R.NGL_FFE p) ffe).wr (R.NGL_CTLE p) ctle).nglDfe p dfe
  | _ => ((s.wr (R.NGL_FFE p) (s.rd (R.NGL_FFE_INIT p))).wr (R.NGL_CTLE p) 8).nglDfe p
      ((List.range 8).map (fun i => s.rd (R.NGL_DFE_PRESET p i)))

/-- The DFE of port `p` has moved over `bits` received bits towards `ws`, each tap by at most one unit per 65,536 bits; FREEZE
holds them (R372). -/
def State.nglAdapt (s : State) (p bits : Nat) (ws : List (BitVec 7)) : State :=
  if s.on (F.NGL_DFE_CTL_FREEZE p) then s
  else
    let step : Int := bits / 65536
    s.nglDfe p (((ws.take 8).zipIdx).map (fun x =>
      let old := s.gi (F.NGL_DFE_TAP_TAP p x.2)
      BitVec.ofInt 32 (max (old - step) (min (old + step) x.1.toInt) % 128)))

/-- The three taps with their ranges: 0 C_PRE, 1 C_MAIN, 2 C_POST. -/
def ffeField (p t : Nat) : Fld := if t = 0 then F.NGL_FFE_C_PRE p else if t = 1 then F.NGL_FFE_C_MAIN p else F.NGL_FFE_C_POST p
def ffeMin (t : Nat) : Nat := if t = 1 then 32 else 0
def ffeMax (t : Nat) : Nat := if t = 0 then 16 else if t = 1 then 64 else 26

/-- A step request for tap `t`: the tap, and its status code. -/
def State.ffeStep (s : State) (p t : Nat) (up : Bool) : State × Nat :=
  let v := s.g (ffeField p t)
  let sum := s.g (F.NGL_FFE_C_PRE p) + s.g (F.NGL_FFE_C_MAIN p) + s.g (F.NGL_FFE_C_POST p)
  if up then if ffeMax t ≤ v ∨ 64 ≤ sum then (s, 3) else (s.p (ffeField p t) (v + 1), 1)
  else if v ≤ ffeMin t then (s, 2) else (s.p (ffeField p t) (v - 1), 1)

/-- The request for tap `t` in field bits [2t + 1:2t], given the status `st` answered so far. Log 47, DEDUCED. -/
def ffeAsk (p : Nat) (req : Nat) (r : State × Nat) (t : Nat) : State × Nat :=
  let c := req / 4 ^ t % 4
  let old := r.2 / 4 ^ t % 4
  let base := r.2 - old * 4 ^ t
  if c = 0 ∨ c = 3 then (r.1, base)
  else if old ≠ 0 then r
  else
    let x := r.1.ffeStep p t (c == 1)
    (x.1, base + x.2 * 4 ^ t)

/-- A coefficient request takes effect once (R369). Log 47, DEDUCED. -/
def State.ffeRequest (s : State) (p req : Nat) : State :=
  let st := (s.ngl p).answer
  let r : State × Nat :=
    if req.testBit 14 ∨ req.testBit 13 then
      if st ≠ 0 then (s, st)
      else if req.testBit 14 then (((s.p (F.NGL_FFE_C_PRE p) 0).p (F.NGL_FFE_C_MAIN p) 64).p (F.NGL_FFE_C_POST p) 0, 0b010101)
      else (s.wr (R.NGL_FFE p) (s.rd (R.NGL_FFE_INIT p)), 0b010101)
    else [0, 1, 2].foldl (ffeAsk p req) (s, st)
  r.1.setNgl p { r.1.ngl p with answer := r.2 }

/-- TRAINING_FRAME (R369): a frame with this request and status is received in TRAIN. -/
def execTrainingFrame (p : Fin 8) (req status : BitVec 16) (s : State) : Host.Outcome State Fault Refusal :=
  if s.nglState p = 2 then
    let s := (s.flag (F.NGL_STAT_SIG_DET p) true).ffeRequest p req.toNat
    let k := s.ngl p
    let n := if status.getLsbD 15 then min 3 (k.ready + 1) else if k.ready = 3 then 3 else 0
    .next (s.setNgl p { k with ready := n })
  else .next s

/-- TRAIN_EXIT (R369): the exit condition is met; the receiver has adapted to these values. -/
def execTrainExit (p : Fin 8) (ctle : Fin 16) (dfe : List (BitVec 7)) (s : State) : Host.Outcome State Fault Refusal :=
  if s.nglState p = 2 ∧ (s.ngl p).ready = 3 then
    let s := s.wr (R.NGL_CTLE p) (BitVec.ofNat 32 ctle)
    let s := if s.on (F.NGL_DFE_CTL_FREEZE p) then s else s.nglDfe p ((dfe.take 8).map (BitVec.setWidth 32))
    .next (s.nglTo p 3)
  else .next s

/-! ## Transitions (R365) -/

/-- NGL_PLL_LOCK (R365). -/
def execNglPllLock (p : Fin 8) (s : State) : Host.Outcome State Fault Refusal :=
  if s.nglState p = 8 then
    if (s.ngl p).fromMoored then .next (s.nglTrain p)
    else if s.nglMode p = 2 ∨ s.nglMode p = 3 then .next (s.nglTo p 9)
    else .next (s.nglTo p 1)
  else .next s

/-- RECEIVER_DETECTION_PROBE (R366): the pair charged to 63 % of the step in `ns` ns (none: not at all); a termination is there
when that lies within 1 to 40 µs (R540). -/
def execReceiverDetectionProbe (p : Fin 8) (ns : Option Nat) (s : State) : Host.Outcome State Fault Refusal :=
  if s.nglState p = 1 then
    let found := ns.any (fun n => decide (1000 ≤ n ∧ n ≤ 40000))
    let s := s.flag (F.NGL_STAT_FAR_TERM p) found
    .next (if found then s.nglTrain p else s)
  else .next s

/-- Timeouts of TRAIN, BIT_LOCK, BLOCK_LOCK and CAPS (R365). -/
def State.nglTimeout (s : State) (p n why : Nat) : State := if s.nglState p = n then s.nglFail p 1 why else s

/-- Invalid sync headers and blocks of reserved lane types counted (R371, R363). -/
def State.hdrErrs (s : State) (p n : Nat) : State := s.inc (R.NGL_HDR_ERR_CNT p) n

/-- TRAIN_TO, BITLOCK_TO, CAPS_TO (R365). -/
def execTrainTo (p : Fin 8) (s : State) : Host.Outcome State Fault Refusal := .next (s.nglTimeout p 2 1)
def execBitlockTo (p : Fin 8) (s : State) : Host.Outcome State Fault Refusal := .next (s.nglTimeout p 3 2)
def execCapsTo (p : Fin 8) (s : State) : Host.Outcome State Fault Refusal := .next (s.nglTimeout p 5 4)

/-- BLOCKLOCK_TO (R365), after `errs` invalid headers in the hunt. -/
def execBlocklockTo (p : Fin 8) (errs : Nat) (s : State) : Host.Outcome State Fault Refusal :=
  if s.nglState p = 4 then .next ((s.hdrErrs p errs).nglFail p 1 3) else .next s

/-- CDR_LOCK (R370). -/
def execCdrLock (p : Fin 8) (s : State) : Host.Outcome State Fault Refusal :=
  if s.nglState p = 3 then .next (s.nglTo p (if s.nglMode p = 0 then 4 else 9)) else .next s

/-- BLOCK_LOCK (R371): 64 consecutive valid headers, after `errs` invalid ones and reserved lane blocks (R363) not counted before,
and `bits` received bits over which the DFE has adapted to `dfe` (R372). In BLOCK_LOCK the capability exchange starts; with lock,
the port keeps it. Log 47, DEDUCED. -/
def execBlockLock (p : Fin 8) (errs bits : Nat) (dfe : List (BitVec 7)) (s : State) : Host.Outcome State Fault Refusal :=
  let n := s.nglState p
  let s := if 4 ≤ n ∧ n ≤ 6 then (s.hdrErrs p errs).nglAdapt p bits dfe else s
  if n = 4 then
    let s := s.nglTo p 5
    .next { s with fb := { s.fb with ackOut := SMap.erase s.fb.ackOut p, ackIn := SMap.erase s.fb.ackIn p
                                     capIn := SMap.erase s.fb.capIn p } }
  else .next s

/-- LOCK_LOST (R371): `errs` invalid headers. With lock, 16 of them in a window have lost it; in the hunt they slip the candidate
position. Log 47, DEDUCED. -/
def execLockLost (p : Fin 8) (errs : Nat) (s : State) : Host.Outcome State Fault Refusal :=
  if s.nglState p = 5 ∨ s.nglState p = 6 then .next ((s.hdrErrs p errs).nglFail p 4 6)
  else if s.nglState p = 4 then .next (s.hdrErrs p errs)
  else .next s

/-- LOS (R365): loss of signal, or of CDR lock alone where not `signal`. -/
def execLos (p : Fin 8) (signal : Bool) (s : State) : Host.Outcome State Fault Refusal :=
  let n := s.nglState p
  let s := if signal then s.flag (F.NGL_STAT_SIG_DET p) false else s
  if (3 ≤ n ∧ n ≤ 6) ∨ (n = 9 ∧ (s.nglMode p = 1 ∨ s.nglMode p = 4)) then .next (s.nglFail p 1 5) else .next s

/-! ## MOORED (R377 to R380) -/

/-- Whether one of the three cases of R377 forbids port `p` to moor. -/
def State.moorBarred (s : State) (p : Nat) : Bool :=
  s.nglState p != 6 || (s.paired && s.tether == p) || s.cur == some (8 + p)

/-- The port stops its payload and messages, and sends MOOR_REQ. -/
def State.moorStart (s : State) (p : Nat) : State :=
  (s.setNgl p { s.ngl p with quiet := true }).send (.moor p false)

/-- The handshake is complete at this end. -/
def State.moorDone (s : State) (p : Nat) : State :=
  let leave := (s.ngl p).leave
  let saved := s.nglCoefs p
  let s := s.nglTo p 7 false
  let s := s.setNgl p { s.ngl p with saved := some saved, leave := false }
  if leave then s.nglWake p true else s

/-- At a tick boundary: ports that are to moor begin, and ports whose request found no acceptance resume. -/
def State.moorBoundary (s : State) : State :=
  (List.range 8).foldl (fun s p =>
    let k := s.ngl p
    if k.asked ∧ !k.quiet ∧ s.nglState p = 6 then s.moorStart p
    else if !k.asked ∧ k.quiet then
      let s := s.setNgl p { k with quiet := false }
      ((s.pump p 0).pump p 1).pump p 2
    else s) s

/-- MOOR_REQ (R377). -/
def execMoorReq (p : Fin 8) (s : State) : Host.Outcome State Fault Refusal :=
  let k := s.ngl p
  if s.nglState p ≠ 6 then .next s
  else if k.asked ∧ k.quiet then .next (s.moorDone p)
  else if s.on (F.NGL_CTL_MOOR_ALLOW p) ∧ !s.moorBarred p then
    .next (((s.setNgl p { k with quiet := true }).send (.moor p true)).moorDone p)
  else .next s

/-- MOOR_ACK (R377). -/
def execMoorAck (p : Fin 8) (s : State) : Host.Outcome State Fault Refusal :=
  let k := s.ngl p
  if s.nglState p = 6 ∧ k.asked ∧ k.quiet then .next (s.moorDone p) else .next s

/-- MOOR_TIMEOUT (R377): no acceptance came within 100 µs. -/
def execMoorTimeout (p : Fin 8) (s : State) : Host.Outcome State Fault Refusal :=
  let k := s.ngl p
  if s.nglState p = 6 ∧ k.asked ∧ k.quiet then
    let s := s.setNgl p { k with asked := false, leave := false }
    let s := (s.flag (F.NGL_CTL_MOOR p) false).flag (F.NGL_STAT_MOOR_REFUSED p) true
    .next (if s.running then s else
      let s := s.setNgl p { s.ngl p with quiet := false }
      ((s.pump p 0).pump p 1).pump p 2)
  else .next s

/-- SIGNAL_DETECT (R379): the signal detector sees activity for 1 µs. -/
def execSignalDetect (p : Fin 8) (s : State) : Host.Outcome State Fault Refusal :=
  if s.nglState p = 0 then .next s
  else
    let s := s.flag (F.NGL_STAT_SIG_DET p) true
    .next (if s.nglState p = 7 then s.nglWake p true else s)

/-! ## Writes (R374, R377, R378, R382) -/

/-- Whether a write of `v` to NGL_CTL is refused. Log 47, DEDUCED. -/
def State.nglCtlBad (s : State) (p : Nat) (v : Word) : Bool :=
  let mode := bitsOf v 2 0
  decide (4 < mode) || (s.on (F.NGL_CTL_EN p) && mode != s.nglMode p) ||
    (v.getLsbD 30 && s.moorBarred p)

/-- MOOR written 0. Log 47, DEDUCED. -/
def State.moorOff (s : State) (p : Nat) : State :=
  let k := s.ngl p
  if s.nglState p = 7 then s.nglWake p true
  else if k.asked then s.setNgl p { k with leave := true }
  else s

/-- MOOR written 1 on a port that may moor. -/
def State.moorOn (s : State) (p : Nat) : State :=
  let k := s.ngl p
  let s := s.setNgl p { k with asked := true, leave := false }
  if s.running ∨ k.asked then s else s.moorStart p

/-- A write of `v` to NGL_CTL. -/
def State.nglCtlWrite (s : State) (p : Nat) (v : Word) : State :=
  if s.nglCtlBad p v then s.nglRefused p
  else
    let s := s.fieldWrite (R.NGL_CTL p) v
    if !v.getLsbD 31 then s.nglTo p 0 false
    else if s.nglState p = 0 then s.nglWake p false
    else if v.getLsbD 30 then s.moorOn p
    else s.moorOff p

/-- NGL_DISABLE, MOOR_WRITE and MOOR_RELEASE: a write of `v` to NGL_CTL with EN = 0, MOOR = 1 or MOOR = 0. -/
def execNglDisable (p : Fin 8) (v : Word) (s : State) : Host.Outcome State Fault Refusal :=
  .next (s.nglCtlWrite p (v &&& 0x7FFFFFFF#32)).ok
def execMoorWrite (p : Fin 8) (v : Word) (s : State) : Host.Outcome State Fault Refusal :=
  .next (s.nglCtlWrite p (v ||| 0x40000000#32)).ok
def execMoorRelease (p : Fin 8) (v : Word) (s : State) : Host.Outcome State Fault Refusal :=
  .next (s.nglCtlWrite p (v &&& 0xBFFFFFFF#32)).ok

/-- The ports whose EN reads 1 at the end of device reset move to WAKING (R365). -/
def State.nglReset (s : State) : State :=
  (List.range 8).foldl (fun s p => if s.on (F.NGL_CTL_EN p) ∧ s.nglState p = 0 then s.nglWake p false else s) s

/-- NGL_ENABLE (R365): a write of `v` with EN = 1, or none where EN reads 1 at the end of device reset. -/
def execNglEnable (p : Fin 8) (v : Option Word) (s : State) : Host.Outcome State Fault Refusal :=
  match v with
  | some v => .next (s.nglCtlWrite p (v ||| 0x80000000#32)).ok
  | none => .next (if s.on (F.NGL_CTL_EN p) ∧ s.nglState p = 0 then s.nglWake p false else s)

/-- A write to NGL_ES_CTL (R373). -/
def State.eyeScanWrite (s : State) (p : Nat) (v : Word) : State :=
  let n := s.nglState p
  let dwell := bitsOf v 21 16
  if dwell < 16 ∨ 40 < dwell ∨ s.on (F.NGL_ES_CTL_GO p) ∨ (v.getLsbD 31 ∧ !(n == 4 || n == 5 || n == 6 || n == 9)) then s.nglRefused p
  else
    let s := s.fieldWrite (R.NGL_ES_CTL p) v
    if v.getLsbD 31 then
      let s := ((s.flag (F.NGL_ES_CTL_DONE p) false).flag (F.NGL_ES_CTL_ABORTED p) false).wr (R.NGL_ES_ERR p) 0
      s.setNgl p { s.ngl p with scanCut := false }
    else s

/-- EYE_SCAN_GO (R373): a write of `v` with GO = 1. -/
def execEyeScanGo (p : Fin 8) (v : Word) (s : State) : Host.Outcome State Fault Refusal :=
  let v := v ||| 0x80000000#32
  if s.nglFar p then .next (s.eyeScanWrite p v).ok else .next (s.hang (24 + p) (R.NGL_ES_CTL p) (some v))

/-- EYE_SCAN_DONE (R373): the measurement has ended with `n` differing bits; of one that was cut off, the count so far. Log 47, DEDUCED. -/
def execEyeScanDone (p : Fin 8) (n : Nat) (s : State) : Host.Outcome State Fault Refusal :=
  let s' := s.wr (R.NGL_ES_ERR p) (BitVec.ofNat 32 (min n 0xFFFFFFFF))
  if s.on (F.NGL_ES_CTL_GO p) then .next ((s'.flag (F.NGL_ES_CTL_GO p) false).flag (F.NGL_ES_CTL_DONE p) true)
  else if (s.ngl p).scanCut then .next (s'.setNgl p { s.ngl p with scanCut := false })
  else .next s

/-! ## The pattern checker (R375) -/

/-- Whether the checker of port `p` receives the pattern. -/
def State.prbsRuns (s : State) (p : Nat) : Bool := s.nglState p == 9 && s.nglMode p != 4

/-- PRBS_LOCK (R375): 1,024 consecutive bits match. A checker that is locked has seen `errs` mismatches before them that were not
counted; the DFE has adapted over `bits` bits to `dfe` (R372). Log 47, DEDUCED. -/
def execPrbsLock (p : Fin 8) (errs bits : Nat) (dfe : List (BitVec 7)) (s : State) : Host.Outcome State Fault Refusal :=
  if s.prbsRuns p then
    let s := s.nglAdapt p bits dfe
    .next (if s.on (F.NGL_PRBS_STAT_LOCKED p) then s.inc (R.NGL_PRBS_ERR_CNT p) errs else s.flag (F.NGL_PRBS_STAT_LOCKED p) true)
  else .next s

/-- PRBS_LOCK_LOSS (R375): `errs` mismatches of the locked checker have not been counted before. -/
def execPrbsLockLoss (p : Fin 8) (errs : Nat) (s : State) : Host.Outcome State Fault Refusal :=
  if s.on (F.NGL_PRBS_STAT_LOCKED p) then
    .next (((s.flag (F.NGL_PRBS_STAT_LOCKED p) false).bump (F.NGL_PRBS_STAT_LOSSES p) 1).inc (R.NGL_PRBS_ERR_CNT p) errs)
  else .next s

/-! ## Resets, counts and writes -/

/-- The FAR registers of port `p`. -/
def nglFarRegs (p : Nat) : List Nat :=
  [R.NGL_CTLE p, R.NGL_DFE_CTL p, R.NGL_ES_CTL p, R.NGL_ES_ERR p, R.NGL_HDR_ERR_CNT p, R.NGL_PRBS_STAT p, R.NGL_PRBS_ERR_CNT p] ++
    (List.range 8).map (R.NGL_DFE_TAP p)

/-- A domain reset of port `p` (R381), by the hang watchdog where `auto`. -/
def State.nglDomainReset (s : State) (p : Nat) (auto : Bool) : State :=
  let s := (nglFarRegs p).foldl (fun s a => s.wr a (resetWord a)) s
  let s := s.setNgl p { s.ngl p with saved := none, scanCut := false }
  let n := s.nglState p
  if n = 0 ∨ n = 7 ∨ n = 8 then s else s.nglFail p 1 7 auto

/-- A CRC failure on port `p` (R368). -/
def State.linkCrc (s : State) (p : Nat) : State :=
  if s.running then s.setNgl p { s.ngl p with crc := (s.ngl p).crc + 1 } else s.emit Kind.linkCrc (Src.ngl p)

/-- The LINK_CRC messages of the tick that ends. Log 23, DEDUCED. -/
def State.crcBoundary (s : State) : State :=
  (List.range 8).foldl (fun s p =>
    let n := (s.ngl p).crc
    if n = 0 then s else (s.setNgl p { s.ngl p with crc := 0 }).emit Kind.linkCrc (Src.ngl p) 0 n) s

/-- A write at offset `o` of the window of port `p` (R382). -/
def State.nglWrite (s : State) (p o : Nat) (v : Word) : State :=
  let a := R.NGL_CTL p + o
  if (regSpecAt a).isNone then s.unmapped a
  else if a ∈ nglFarRegs p ∧ !s.nglFar p then s.hang (24 + p) a (some v)
  else
    match o with
    | 0x000 => (s.nglCtlWrite p v).ok
    | 0x004 =>
      if s.on (F.NGL_CTL_EN p) ∧ bitsOf v 0 0 ≠ s.g (F.NGL_CFG_RATE p) then (s.nglRefused p).ok else (s.fieldWrite a v).ok
    | 0x024 =>
      let pre := bitsOf v 21 16
      let main := bitsOf v 14 8
      let post := bitsOf v 5 0
      if 16 < pre ∨ main < 32 ∨ 64 < main ∨ 26 < post ∨ 64 < pre + main + post then (s.nglRefused p).ok
      else (s.fieldWrite a v).ok
    | 0x200 => (s.eyeScanWrite p v).ok
    | _ => (s.fieldWrite a v).ok

end Sys2Proof.Machine
end

