-- ==== Sys2Proof/Machine/Flow.lean ====
section
/-!
DEFINITION. Flow contexts (R392 to R397, R476), receive and transmit buffers (R394, R474), what the gather takes from flows
(R396, R475) and the distribute writes to them (R390, R470).
-/
namespace Sys2Proof.Machine

/-! ## Contexts -/

/-- The fields of a context. -/
def Ctx.type (c : Ctx) : Nat := bitsOf c.w0 30 29
def Ctx.epoch (c : Ctx) : Nat := bitsOf c.w0 27 24
def Ctx.twin (c : Ctx) : Bool := c.w0.getLsbD 21
def Ctx.ch (c : Ctx) : Nat := bitsOf c.w0 8 0
def Ctx.tx (c : Ctx) : Nat := bitsOf c.w1 7 0
def Ctx.rx (c : Ctx) : Nat := bitsOf c.w1 15 8
def Ctx.buf (c : Ctx) : Nat := bitsOf c.w2 16 0
def Ctx.port (c : Ctx) : Nat := bitsOf c.cfg 31 31
def Ctx.bytes (c : Ctx) : Nat := if c.cfg.getLsbD 30 then 3 else 2
def Ctx.ptime (c : Ctx) : Nat := bitsOf c.cfg 29 28
def Ctx.txq (c : Ctx) : Nat := bitsOf c.cfg 27 25
def Ctx.pt (c : Ctx) : Nat := bitsOf c.cfg 24 18
def Ctx.pack (c : Ctx) : Nat := bitsOf c.cfg 17 16
def Ctx.udp (c : Ctx) : Nat := bitsOf c.cfg 15 0
def Ctx.depth (c : Ctx) : Nat := bitsOf c.aux 31 16
def Ctx.link (c : Ctx) : Nat := bitsOf c.aux 15 0

/-- FABRIC contexts by their part (R392). -/
def Ctx.localSrc (c : Ctx) : Bool := c.type == 0 && c.w0.getLsbD 23
def Ctx.localDst (c : Ctx) : Bool := c.type == 0 && c.w0.getLsbD 22
def Ctx.forwards (c : Ctx) : Bool := c.type == 0 && !c.w0.getLsbD 23 && c.tx != 0

/-- Context `f` as its registers hold it. -/
def State.ctxAt (s : State) (f : Nat) : Ctx :=
  ⟨s.rd (R.FAB_FLOW_W0 f), s.rd (R.FAB_FLOW_W1 f), s.rd (R.FAB_FLOW_W2 f), s.rd (R.BR_CFG f), s.rd (R.BR_ADDR f), s.rd (R.BR_OFS f),
   s.rd (R.BR_AUX f)⟩

def State.flowValid (s : State) (f : Nat) : Bool := s.on (F.FAB_FLOW_W0_VALID f)

/-- The contexts whose registers are listed, ascending: every valid one is among them. -/
def State.flowIds (s : State) : List Nat :=
  (s.regs.filter (fun e => decide (R.FAB_FLOW_W0 1 ≤ e.1) && decide (e.1 ≤ R.FAB_FLOW_W0 1023) && e.1 % 16 == 0 && e.2.getLsbD 31)).map
    (fun e => (e.1 - R.FAB_FLOW_W0 0) / 16)

/-- Whether context `f` is in force: as of the last tick boundary, or as written while ticks are stopped (R393). -/
def State.flowActs (s : State) (f : Nat) : Bool := if s.running then (SMap.find s.fb.act f).isSome else s.flowValid f

/-- Context `f` as it is in force. -/
def State.ctx (s : State) (f : Nat) : Ctx := if s.running then SMap.get noCtx s.fb.act f else s.ctxAt f

/-- The contexts in force, ascending. -/
def State.flowsActing (s : State) : List Nat := if s.running then s.fb.act.map (fun e => e.1) else s.flowIds

/-- The channels of a full run (R389, R390). -/
def State.runChans (s : State) : Nat := 128 / s.nSamp

/-- The run positions of `n` channels: first channel and count (R390). -/
def State.runsOf (s : State) (n : Nat) : List (Nat × Nat) :=
  (List.range ((n + s.runChans - 1) / max 1 s.runChans)).map (fun i => (i * s.runChans, min s.runChans (n - i * s.runChans)))

/-! ## The bridge's parameters (R468) -/

/-- The samples per packet of a PTIME code at rate code `fs`; 0 where the bridge does not run. -/
def packetSamples (fs ptime : Nat) : Nat :=
  let base := match ptime with | 0 => 6 | 1 => 12 | 2 => 48 | _ => 0
  match fs with | 1 => base | 3 => 2 * base | 5 => 4 * base | _ => 0

/-- P of context `c`. -/
def State.brP (s : State) (c : Ctx) : Nat := packetSamples (s.g F.TICK_CFG_FS_SEL) c.ptime

/-! ## The checks of VALID (R391, R397, R476) -/

/-- The capacity of a port in channels (R391). -/
def State.flowCapacity (s : State) (p : Nat) : Nat :=
  let n := if s.on (F.NGL_CFG_RATE p) then 1024 else 2048
  if 4 ≤ s.g F.TICK_CFG_FS_SEL then n / 2 else n

/-- The channels that valid FABRIC contexts send on port `p`. -/
def State.flowLoad (s : State) (p : Nat) : Nat :=
  (((s.flowIds.map s.ctxAt).filter (fun c => c.type == 0 && c.tx.testBit p)).map Ctx.ch).sum

def State.showLoads (s : State) : State :=
  (List.range 8).foldl (fun s p => s.p (F.FAB_PORT_LOAD_CH p) (s.flowLoad p)) s

/-- The words of the buffer of context `f` (R394, R476). -/
def State.flowWords (s : State) (f : Nat) : Nat :=
  let c := s.ctxAt f
  match c.type with
  | 0 => if c.localDst then 2 * c.ch * s.nSamp else if c.localSrc then c.ch * s.nSamp else 0
  | 1 => c.ch * 2 * max (s.brP c) s.nSamp
  | 2 => c.ch * c.depth
  | _ => 0

/-- Whether the buffer of `f` lies in flow buffer memory and meets that of no other valid context. -/
def State.flowFits (s : State) (f : Nat) : Bool :=
  let b := (s.ctxAt f).buf
  let n := s.flowWords f
  n == 0 || (decide (b + n ≤ 131072) && s.flowIds.all (fun g =>
    g == f || s.flowWords g == 0 || decide (b + n ≤ (s.ctxAt g).buf) || decide ((s.ctxAt g).buf + s.flowWords g ≤ b)))

/-- The ports of a mask. -/
def portsOf (m : Nat) : List Nat := (List.range 8).filter (fun p => m.testBit p)

/-- Whether the port use of a FABRIC context is invalid (R397, reason 0b001). -/
def Ctx.portsBad (c : Ctx) : Bool :=
  let src := c.localSrc
  let dst := c.localDst
  (src && c.rx != 0) || (src && dst) || (src && c.tx == 0) || (dst && c.rx == 0) || (!src && !dst && (c.tx == 0 || c.rx == 0))

/-- Whether TWIN stands without two ports (R397, reason 0b010). -/
def Ctx.twinBad (c : Ctx) : Bool :=
  c.twin && ((c.localSrc && (portsOf c.tx).length != 2) || (c.localDst && (portsOf c.rx).length != 2))

/-- IPv4 multicast addresses. -/
def multicast (a : Word) : Bool := bitsOf a 31 28 == 14

/-- Whether the addresses of AES67 context `f` fail (R476, reason 0b110). -/
def State.brBad (s : State) (f : Nat) : Bool :=
  let c := s.ctxAt f
  (c.type == 1 && !multicast c.addr) || (c.type == 2 && !multicast c.addr && c.addr != s.rd R.BR_IP) ||
    (c.type == 2 && s.flowIds.any (fun g =>
      let d := s.ctxAt g
      g != f && d.type == 2 && d.port == c.port && d.addr == c.addr && d.udp == c.udp)) ||
    c.udp == 0 || c.pack == 3 || (c.pack == 2 && c.bytes == 2)

/-- The lowest reason for which context `f`, written as valid, is refused. -/
def State.flowFails (s : State) (f : Nat) : Option Nat :=
  let c := s.ctxAt f
  if c.ch < 1 ∨ 256 < c.ch ∨ c.type = 3 ∨ f = 0 then some 0
  else if c.type = 0 then
    if c.portsBad then some 1
    else if c.twinBad then some 2
    else if (portsOf c.tx).any (fun p => decide (s.flowCapacity p < s.flowLoad p)) then some 3
    else if !s.flowFits f then some 4
    else none
  else
    let p := s.brP c
    if c.w1 ≠ 0 ∨ c.twin then some 1
    else if p = 0 ∨ (if s.on (F.ETH_CTL_JUMBO c.port) then 8960 else 1440) < p * c.ch * c.bytes then some 5
    else if s.brBad f then some 6
    else if !s.flowFits f ∨ (c.type = 2 ∧ c.depth < c.link + p + s.nSamp) then some 7
    else none

def State.fabRefused (s : State) : State := s.flag F.FAB_STAT_CFG_REFUSED true

/-- The state of the bridge and the presence marks of a context that becomes valid (R470, R473). -/
def State.flowOpened (s : State) (f : Nat) : State :=
  let b := (s.ctxAt f).buf
  let n := s.flowWords f
  { s with
    br := { s.br with seq := SMap.erase s.br.seq f, next := SMap.erase s.br.next f, ssrc := SMap.erase s.br.ssrc f }
    fb := { s.fb with pres := s.fb.pres.filter (fun e => !(decide (b ≤ e.1) && decide (e.1 < b + n))) } }

/-- A write of `v` to FAB_FLOW_W0[f] (R393, R397, R417). Log 49, DEDUCED. -/
def State.flowW0Write (s : State) (f : Nat) (v : Word) : State :=
  let a := R.FAB_FLOW_W0 f
  let v := v &&& 0xEFE001FF#32
  if s.flowValid f then
    if v = s.rd a then s
    else if v = putBits (s.rd a) 31 31 0 then (s.wr a v).showLoads
    else s.fabRefused
  else if v.getLsbD 31 then
    let t := s.wr a v
    match t.flowFails f with
    | some r => ((s.flag F.FAB_STAT_FLOW_REFUSED true).p F.FAB_ERR_REASON r).p F.FAB_ERR_FLOW f
    | none => (t.flowOpened f).showLoads
  else if bitsOf v 30 29 = 3 ∨ bitsOf v 8 0 = 0 ∨ 256 < bitsOf v 8 0 then s.fabRefused
  else s.wr a v

/-- FLOW_VALID_SET and FLOW_VALID_CLEAR: a write of `v` to FAB_FLOW_W0[f] with VALID = 1, or VALID = 0. -/
def execFlowValidSet (f : Fin 1023) (v : Word) (s : State) : Host.Outcome State Fault Refusal :=
  .next (s.flowW0Write (f + 1) (v ||| 0x80000000#32)).ok
def execFlowValidClear (f : Fin 1023) (v : Word) (s : State) : Host.Outcome State Fault Refusal :=
  .next (s.flowW0Write (f + 1) (v &&& 0x7FFFFFFF#32)).ok

/-- An accepted write to TICK_CFG clears every context (R393, R476). -/
def State.flowsCleared (s : State) : State :=
  let s := s.flowIds.foldl (fun s f => s.flag (F.FAB_FLOW_W0_VALID f) false) s
  ({ s with fb := { s.fb with act := [] } } : State).showLoads.flag F.FAB_STAT_FLOWS_CLEARED true

/-- The contexts as they are written take effect at a tick boundary, and the payload of the next tick is what the distribute wrote (R390). -/
def State.flowBoundary (s : State) : State :=
  { s with fb := { s.fb with act := s.flowIds.map (fun f => (f, s.ctxAt f)), out := s.fb.tx, tx := [] } }

/-! ## The gather (R396, R475) -/

def chanKey (f ch j : Nat) : Nat := 32 * (256 * f + ch) + j
def accKey (f parity first : Nat) : Nat := 512 * f + 256 * parity + first

/-- What the gather of a tick delivers for channel `ch` of flow `f`, given its samples. -/
def State.chanTick (s : State) (f ch : Nat) (xs : List (Option Word)) : State :=
  let r := (SMap.get rampZero s.fb.ramp (256 * f + ch)).tick xs
  let g := (r.2.zipIdx).foldl (fun m x => SMap.set zeroW m (chanKey f ch x.2) x.1) s.fb.gath
  { s with fb := { s.fb with ramp := SMap.set rampZero s.fb.ramp (256 * f + ch) r.1, gath := g } }

/-- Losses of a gather: positions lost, and the lowest flow concerned. -/
structure Losses where
  n : Nat
  flow : Nat
  deriving DecidableEq, Repr

def Losses.add (l : Losses) (f n : Nat) : Losses := if n = 0 then l else ⟨l.n + n, if l.n = 0 then f else l.flow⟩

/-- The channels of one run position. -/
def State.runGather (s : State) (f par : Nat) (q : Nat × Nat) : State :=
  let n := s.nSamp
  let got := SMap.get zeroN s.fb.acc (accKey f par q.1) != 0
  let base := (s.ctx f).buf + par * (s.ctx f).ch * n
  (List.range q.2).foldl (fun s i =>
    let ch := q.1 + i
    s.chanTick f ch ((List.range n).map (fun j => if got then some (SMap.get zeroW s.fb.rbuf (base + ch * n + j)) else none))) s

/-- Whether a run position was accepted from one port and the other brought no good copy (R398). -/
def State.copyLost (s : State) (f par first : Nat) : Bool :=
  let m := SMap.get zeroN s.fb.acc (accKey f par first)
  (s.ctx f).twin && m != 0 && m != (s.ctx f).rx

/-- A receiving FABRIC context at the gather of tick `t`: the runs of tick `t − 1`. Log 49, DEDUCED. -/
def State.flowGather (s : State) (f t : Nat) (l : Losses) : State × Losses :=
  let par := (t + 1) % 2
  let pos := s.runsOf (s.ctx f).ch
  let lost := pos.countP (fun q => SMap.get zeroN s.fb.acc (accKey f par q.1) == 0)
  let copies := pos.any (fun q => s.copyLost f par q.1)
  let s := pos.foldl (fun s q => s.runGather f par q) s
  let s := if lost = 0 then s else s.bump (F.FAB_FLOW_STAT_LOST f) 1
  let s := if copies then s.bump (F.FAB_FLOW_STAT_COPY_LOST f) 1 else s
  let acc := pos.foldl (fun m q => SMap.erase m (accKey f par q.1)) s.fb.acc
  ({ s with fb := { s.fb with acc := acc } }, l.add f lost)

/-- An AES67_RX context at the gather of tick `t`, whose boundary has MTC `m`. Log 49, DEDUCED. -/
def State.aesGather (s : State) (f m : Nat) (l : Losses) : State × Losses :=
  let x := s.ctx f
  let d := max 1 x.depth
  let word := fun (c j : Nat) => x.buf + c * d + (m + j + d * (2 ^ 16) - x.link) % d
  let n := s.nSamp
  let chs := List.range x.ch
  let xs := fun (c : Nat) => (List.range n).map (fun j =>
    if SMap.get noneB s.fb.pres (word c j) then some (SMap.get zeroW s.fb.rbuf (word c j)) else none)
  let lost := chs.any (fun c => !(xs c).all Option.isSome)
  let pres := chs.foldl (fun m c => (List.range n).foldl (fun m j => SMap.erase m (word c j)) m) s.fb.pres
  let t := chs.foldl (fun t c => t.chanTick f c (xs c)) s
  let t : State := { t with fb := { t.fb with pres := pres } }
  (if lost then t.bump (F.FAB_FLOW_STAT_LOST f) 1 else t, l.add f (if lost then 1 else 0))

/-- Whether context `f` is in force and delivers channel `ch` to a gather. -/
def State.flowDelivers (s : State) (f ch : Nat) : Bool :=
  s.flowActs f && ((s.ctx f).localDst || (s.ctx f).type == 2) && decide (ch < (s.ctx f).ch)

/-- Whether channel `ch` of flow `f` belongs to a run position of a receiving context, valid or not (R396). -/
def State.runChannel (s : State) (f ch : Nat) : Bool := (s.ctxAt f).localDst && decide (ch < (s.ctxAt f).ch)

/-- The gather of tick `t` with MTC `m` takes every flow; the run positions of a context that is not valid fall or stay at
zero (R396). In LINK region safe state flows carry nothing (R301). Log 49, DEDUCED. -/
def State.flowsGather (s : State) (t m : Nat) : State :=
  let s : State := { s with fb := { s.fb with gath := [] } }
  let s : State := if s.regionSafe 5 then { s with fb := { s.fb with acc := [], pres := [] } } else s
  let r := s.flowsActing.foldl (fun (a : State × Losses) f =>
    if (a.1.ctx f).localDst then a.1.flowGather f t a.2 else if (a.1.ctx f).type = 2 then a.1.aesGather f m a.2 else a) (s, ⟨0, 0⟩)
  let idle := r.1.fb.ramp.filter (fun e => !r.1.flowDelivers (e.1 / 256) (e.1 % 256) && r.1.runChannel (e.1 / 256) (e.1 % 256))
  let s := idle.foldl (fun s e => s.chanTick (e.1 / 256) (e.1 % 256) (List.replicate s.nSamp none)) r.1
  if r.2.n = 0 then s
  else (s.inc R.FAB_FLOW_LOSS_CNT r.2.n).emit Kind.flowLoss Src.fabric r.2.flow r.2.n

/-- Sample `j` of channel `ch` of flow `f` in this gather. -/
def State.flowSample (s : State) (f ch j : Nat) : Word := SMap.get zeroW s.fb.gath (chanKey f ch j)

/-! ## The distribute (R390, R470) -/

/-- The MTC stamp of sample 0 of the distribute of the tick in progress (R52, R470). -/
def State.distStamp (s : State) : Nat :=
  s.rd64 R.TIME_BASE_MTC_LO R.TIME_BASE_MTC_HI + (s.tick + 1 - s.rd64 R.TIME_BASE_TICK_LO R.TIME_BASE_TICK_HI) * s.nSamp + 2

def colKey (stamp f ch : Nat) : Nat := (stamp * 1024 + f) * 256 + ch

/-- Whether context `f` is in force and takes channel `ch` from a distribute. -/
def State.flowTakes (s : State) (f ch : Nat) : Bool :=
  s.flowActs f && ((s.ctx f).localSrc || (s.ctx f).type == 1) && decide (ch < (s.ctx f).ch)

/-- The distribute writes `xs` to channel `ch` of flow `f`. -/
def State.flowDeliver (s : State) (f ch : Nat) (xs : List Word) : State :=
  if (s.ctx f).type = 1 then
    let m := s.distStamp
    { s with br := { s.br with col := (xs.zipIdx).foldl (fun c x => SMap.insert c (colKey (m + x.2) f ch) x.1) s.br.col } }
  else { s with fb := { s.fb with tx := (xs.zipIdx).foldl (fun c x => SMap.set zeroW c (chanKey f ch x.2) x.1) s.fb.tx } }

end Sys2Proof.Machine
end

