-- ==== Sys2Proof/Machine/Link.lean ====
section
/-!
DEFINITION. What a link carries (spec/14): tick marks (R388, R407, R408), runs (R389, R390, R395, R398, R399), credits
(R403), messages for others (R402), the capability exchange (R404, R405), TIME_SYNC (R406) and the device ID (R384).
-/
namespace Sys2Proof.Machine

/-! ## Tick marks -/

/-- Bytes 1 to 3 of a TICK_MARK of this device, the first in bits [7:0]. -/
def State.markWord (s : State) : Word :=
  let b1 := (if s.manager then 128 else 0) + (if s.ownTimed.1 then 64 else 0) + s.myId
  let b2 := s.ownTimed.2 * 16 + s.g F.TICK_CFG_N_LOG2
  BitVec.ofNat 32 (b1 + b2 * 2 ^ 8 + s.g F.TICK_CFG_FS_SEL * 2 ^ 16)

/-- The bytes of a value, least significant first. -/
def leBytes : Nat → Nat → List Byte
  | 0, _ => []
  | n + 1, v => BitVec.ofNat 8 v :: leBytes n (v / 256)

/-- The CRC-32 of bytes (R385). -/
def crcBytes (bs : List Byte) : Word := ~~~(bs.foldl crcByte 0xFFFFFFFF#32)

/-- The CRC of a TICK_MARK: bytes 1 to 3 and the two data blocks. -/
def markCrc (w : Word) (k m : Nat) : Word := crcBytes (leBytes 3 w.toNat ++ leBytes 8 k ++ leBytes 8 m)

/-- M_k of the tick in progress (R38). -/
def State.mtcOf (s : State) (k : Nat) : Nat :=
  s.rd64 R.TIME_BASE_MTC_LO R.TIME_BASE_MTC_HI + (k - s.rd64 R.TIME_BASE_TICK_LO R.TIME_BASE_TICK_HI) * s.nSamp

/-- The words of a run of channels `first` to `first + count − 1` of flow `f` (R389). -/
def State.runWords (s : State) (f : Nat) (q : Nat × Nat) : List Word :=
  (List.range s.nSamp).flatMap (fun j => (List.range q.2).map (fun i => SMap.get zeroW s.fb.out (chanKey f (q.1 + i) j)))

/-- The local runs of the tick leave on port `p` (R390). -/
def State.sendRuns (s : State) (p : Nat) : State :=
  (s.flowsActing.filter (fun f => (s.ctx f).localSrc && (s.ctx f).tx.testBit p)).foldl (fun s f =>
    (s.runsOf (s.ctx f).ch).foldl (fun s q => s.send (.run p f q.1 q.2 false (s.runWords f q))) s) s

/-- TICK_MARK_SEND (R388): the mark of the tick leaves `ofs`/16 ns after the boundary, and the local runs after it. From an
accepted MOOR_REQ on no payload leaves (R377), and in LINK region safe state flows carry nothing (R301). -/
def execTickMarkSend (p : Fin 8) (ofs : Word) (s : State) : Host.Outcome State Fault Refusal :=
  if !s.running ∨ !s.portActive p ∨ !s.on F.FAB_ID_VALID ∨ SMap.get zeroN s.fb.marked p = s.tick + 1 then .next s
  else
    let m := s.mtcOf s.tick
    let s := { s with fb := { s.fb with marked := SMap.set zeroN s.fb.marked p (s.tick + 1) } }
    let s := s.send (.mark p s.markWord (markCrc s.markWord s.tick m) ofs s.tick m)
    .next (if s.regionSafe 5 || (s.ngl p).quiet then s else s.sendRuns p)

/-- Whether a mark passes the check of R408. -/
def State.markOk (s : State) (p : Nat) (w : Word) : Bool :=
  let root := w.getLsbD 7
  let timed := w.getLsbD 6
  let depth := bitsOf w 15 12
  root == s.on (F.FAB_PORT_PEER_MANAGER p) && !(root && depth != 0) && !(!root && timed && depth == 0) &&
    bitsOf w 5 0 == s.g (F.FAB_PORT_PEER_ID p)

/-- Whether the TICK_CFG of a worker is that of the last TIMED mark (R35, R410). Where it is not, the marks taken before align
nothing. -/
def State.cfgJudge (s : State) : State :=
  let other := !s.manager && (match s.fb.rootCfg with
    | some c => c != 8 * s.g F.TICK_CFG_FS_SEL + s.g F.TICK_CFG_N_LOG2
    | none => false)
  let s := s.flag F.FAB_STAT_TICK_CFG_MISMATCH other
  if other then { s with fb := { s.fb with timed := [] }, tm := { s.tm with aligned := false } } else s

/-- What a mark that passes the check does (R407, R410). -/
def State.markTakes (s : State) (p : Nat) (w : Word) (k m : Nat) (dev err : Int) : State :=
  let timed := w.getLsbD 6
  let same := bitsOf w 18 16 == s.g F.TICK_CFG_FS_SEL && bitsOf w 10 8 == s.g F.TICK_CFG_N_LOG2
  let s := (s.flag (F.FAB_PORT_PEER_TIMED p) timed).p (F.FAB_PORT_PEER_DEPTH p) (bitsOf w 15 12)
  if timed then
    let s := ({ s with fb := { s.fb with rootCfg := some (8 * bitsOf w 18 16 + bitsOf w 10 8) } } : State).cfgJudge
    if same then
      let s := { s with fb := { s.fb with timed := SMap.insert s.fb.timed p (k, m) } }
      ((s.refEvent (8 + p) dev err).showTimed).workerStart
    else s.showTimed
  else s.showTimed

/-- TICK_MARK (R407): bytes 1 to 3 (first in bits [7:0]), tick number and MTC of a mark received good; `dev` and `err` are
what the comparison of its phase target measures (R341). Log 68, DESIGN CHOICE. -/
def execTickMark (p : Fin 8) (w : Word) (k m : BitVec 64) (dev err : BitVec 32) (s : State) : Host.Outcome State Fault Refusal :=
  if !s.portActive p then .next s
  else
    let s := { s with fb := { s.fb with mark := SMap.insert s.fb.mark p k.toNat } }
    .next (if s.markOk p w then s.markTakes p w k.toNat m.toNat dev.toInt err.toInt else s.inc R.FAB_TM_BAD)

/-! ## Runs -/

/-- RUN (R399): a RUN block arrives; a forwarding context starts its copies, unless the device has no ID (R384). Log 68, DESIGN CHOICE. -/
def execRun (p : Fin 8) (flow : Fin 1024) (first : Fin 256) (count n : Nat) (epoch : Fin 16) (s : State) :
    Host.Outcome State Fault Refusal :=
  if !s.portActive p then .next s
  else
    let s := s.cutRun p
    let j := SMap.get zeroN s.fb.mark p
    let f := flow.val
    let key := 256 * f + first
    let c := s.ctx f
    let fwd := s.flowActs f && c.forwards && c.rx.testBit p && !s.regionSafe 5 && s.on F.FAB_ID_VALID &&
      SMap.get zeroN s.fb.fwd key != j + 1
    let outs := if fwd then (portsOf c.tx).filter (fun q => s.portActive q && !(s.ngl q).quiet) else []
    let s := { s with fb := { s.fb with
      inRun := SMap.insert s.fb.inRun p ⟨f, first, count, n, epoch, j, (outs.map (fun q => 2 ^ q)).sum⟩
      fwd := if fwd then SMap.set zeroN s.fb.fwd key (j + 1) else s.fb.fwd } }
    .next (outs.foldl (fun s q => s.send (.forward q f first count)) s)

/-- The two words of a RUN block that its CRC covers. -/
def InRun.head (r : InRun) : List Word :=
  [BitVec.ofNat 32 (r.flow + r.epoch * 2 ^ 12 + r.first * 2 ^ 16 + (r.count - 1) % 256 * 2 ^ 24), BitVec.ofNat 32 r.n]

/-- The words in the data blocks of a run, padding included. -/
def InRun.words (r : InRun) : Nat := (r.count * r.n + 1) / 2 * 2

/-- Word (channel, sample) of the run to the receive buffer of its parity (R395). -/
def State.fabStore (s : State) (r : InRun) (ws : List Word) : State :=
  let base := (s.ctx r.flow).buf + r.tick % 2 * (s.ctx r.flow).ch * s.nSamp
  let put := fun (m : SMap Word) (i : Nat) =>
    SMap.set zeroW m (base + (r.first + i % r.count) * s.nSamp + i / r.count) (ws.getD i 0)
  { s with fb := { s.fb with rbuf := (List.range (r.count * r.n)).foldl put s.fb.rbuf } }

/-- A good run at a receiving context (R395). -/
def State.runAccept (s : State) (p : Nat) (r : InRun) (ws : List Word) : State :=
  let f := r.flow
  let key := accKey f (r.tick % 2) r.first
  let m := SMap.get zeroN s.fb.acc key
  let c := s.ctx f
  let fits := r.n == s.nSamp && (s.runsOf c.ch).contains (r.first, r.count)
  if r.epoch ≠ c.epoch then s.inc R.FAB_EPOCH_DROP
  else if !c.rx.testBit p ∨ !fits ∨ r.tick + 1 ≤ s.tick then s.inc R.FAB_RUN_LATE
  else
    let s : State := if m = 0 then s.fabStore r ws else s
    { s with fb := { s.fb with acc := SMap.set zeroN s.fb.acc key (m ||| 2 ^ p) } }

/-- RUN_END (R395, R399): the data words, padding included, and the CRC-32 received. Log 49, DEDUCED. -/
def execRunEnd (p : Fin 8) (ws : List Word) (crc : Word) (s : State) : Host.Outcome State Fault Refusal :=
  match SMap.find s.fb.inRun p with
  | none => .next s
  | some r =>
    let s := { s with fb := { s.fb with inRun := SMap.erase s.fb.inRun p } }
    let want := crc32 (r.head ++ ws)
    let whole := ws.length == r.words
    let good := whole && crc == want
    let poison := whole && crc == ~~~want
    let same := r.epoch == (s.ctx r.flow).epoch
    let s : State := (portsOf r.outs).foldl (fun s q =>
      if s.portActive q then s.send (.run q r.flow r.first r.count (!(good && same)) ws) else s) s
    if poison then .next (s.inc R.FAB_RUN_POISON)
    else if !good then .next (s.linkCrc p)
    else if s.flowActs r.flow ∧ (s.ctx r.flow).localDst ∧ !s.regionSafe 5 then .next (s.runAccept p r ws)
    else .next s

/-! ## Credits and messages for others -/

/-- CREDIT (R403): `n` fragments of class `c` (1 CTRL, 2 BULK) are returned. -/
def execCredit (p : Fin 8) (c : Fin 3) (n : Nat) (s : State) : Host.Outcome State Fault Refusal :=
  if s.portActive p ∧ c.val ≠ 0 then
    .next ((s.p (credField p c) (min 255 (s.g (credField p c) + n))).pump p c)
  else .next s

/-- MESSAGE_FORWARD (R402): a message that no block of this device owns comes in. A CRC failure counts (R368); one that broke
off, or whose LEN disagrees with what was received, is only discarded (R401). -/
def execMessageForward (p : Fin 8) (crcOk whole : Bool) (e : Env) (ws : List Word) (s : State) : Host.Outcome State Fault Refusal :=
  if !s.portActive p then .next s
  else
    let back := fun (s : State) => s.creditBack (some p) (msgClass e.type) (fragsOf ws)
    if !crcOk then .next (back (s.linkCrc p))
    else if !whole then .next (back s)
    else if (1 ≤ e.type ∧ e.type ≤ 4) ∧ s.expressFull p then .next (s.inc R.FAB_EXP_DROP)
    else if !s.on F.FAB_ID_VALID ∨ e.type = 0 ∨ 11 ≤ e.type then .next (back (s.inc R.FAB_MSG_NOROUTE))
    else if e.type = 10 ∨ e.dst = s.myId then .next (back s)
    else .next (s.forwardMsg p e ws)

/-! ## The capability exchange (R404, R405) -/

/-- The payload of a CAPABILITY message on port `p`. -/
def State.capWords (s : State) (p : Nat) : List Word :=
  let b := fun (c : Bool) (n : Nat) => if c then 2 ^ n else 0
  let w0 := b (SMap.find s.fb.capIn p).isSome 31 + b (s.on F.FAB_ID_VALID) 30 + b s.manager 29 + b s.ownTimed.1 28 +
    s.ownTimed.2 * 2 ^ 24 + s.myId * 2 ^ 16 + b (s.on (F.FAB_PORT_CFG_ASSIGN_EN p)) 15 +
    s.g (F.FAB_PORT_CFG_ASSIGN p) * 2 ^ 8 + b (s.on F.FAB_STAT_TICK_CFG_MISMATCH) 6 +
    b (s.on F.TICK_STAT_MTC_AHEAD) 5 + b s.running 4
  [BitVec.ofNat 32 w0, BitVec.ofNat 32 (s.g F.TICK_CFG_FS_SEL * 2 ^ 8 + s.g F.TICK_CFG_N_LOG2),
   s.rd R.FAB_SERIAL_LO, s.rd R.FAB_SERIAL_HI, s.tm.mtc.setWidth 32, (s.tm.mtc >>> 32).setWidth 32,
   s.tm.tick.setWidth 32, (s.tm.tick >>> 32).setWidth 32, s.rd R.CHIP_ID, s.rd R.FAB_FWVER,
   BitVec.ofNat 32 (s.g F.PAIR_GRANT_E_EPOCH), 0x2040#32]

/-- The partner's fields of a CAPABILITY with word 0 `w`, in FAB_PORT_PEER. Log 48, DEDUCED. -/
def State.capPeer (s : State) (p : Nat) (w : Word) : State :=
  (((s.p (F.FAB_PORT_PEER_ID p) (bitsOf w 21 16)).flag (F.FAB_PORT_PEER_MANAGER p) (w.getLsbD 29)).flag
    (F.FAB_PORT_PEER_TIMED p) (w.getLsbD 28)).p (F.FAB_PORT_PEER_DEPTH p) (bitsOf w 27 24)

/-- The exchange on port `p` is complete: FAB_PORT_PEER shows the partner. -/
def State.capDone (s : State) (p : Nat) : State :=
  if s.g (F.NGL_STAT_STATE p) = 5 ∧ SMap.get noneB s.fb.ackIn p ∧ SMap.get noneB s.fb.ackOut p then
    let s := (s.capPeer p ((SMap.find s.fb.capIn p).getD 0)).flag (F.FAB_PORT_PEER_VALID p) true
    ((s.nglTo p 6).inc (R.NGL_UP_CNT p)).tetherBack
  else s

/-- A CAPABILITY message leaves on port `p`. -/
def State.capSend (s : State) (p : Nat) : State :=
  let ws := s.capWords p
  let s := s.sendPort p { s.envTo 0 10 with hops := 15 } ws
  let ack := SMap.get noneB s.fb.ackOut p || (SMap.find s.fb.capIn p).isSome
  ({ s with fb := { s.fb with sent := SMap.insert s.fb.sent p ws, ackOut := SMap.set noneB s.fb.ackOut p ack } } : State).capDone p

/-- CAPABILITY_SEND (R404): every 100 µs in CAPS, and in ACTIVE where a field has changed since the last one. Log 48, DEDUCED. -/
def execCapabilitySend (p : Fin 8) (s : State) : Host.Outcome State Fault Refusal :=
  if s.nglState p = 5 ∨ (s.nglState p = 6 ∧ SMap.find s.fb.sent p ≠ some (s.capWords p)) then .next (s.capSend p) else .next s

/-- The failure that a CAPABILITY with word 0 `w` shows: its code, 0 for none. -/
def State.capFails (s : State) (w : Word) : Nat :=
  let own := s.on F.FAB_ID_VALID
  let peer := w.getLsbD 30
  if own ∧ peer ∧ bitsOf w 21 16 = s.myId then 1
  else if !own ∧ !peer then 2
  else if s.manager ∧ w.getLsbD 29 then 3
  else if own ∧ !s.manager ∧ w.getLsbD 15 ∧ 1 ≤ bitsOf w 13 8 ∧ bitsOf w 13 8 ≠ s.myId then 4
  else 0

/-- A good CAPABILITY on port `p`. Log 48, DEDUCED. -/
def State.capTake (s : State) (p : Nat) (ws : List Word) : State :=
  let w := ws.getD 0 0
  let offer := bitsOf w 13 8
  let adopt := !s.on F.FAB_ID_VALID && w.getLsbD 15 && decide (1 ≤ offer)
  let s := if adopt then ((s.flag F.FAB_ID_VALID true).p F.FAB_ID_ID offer).flag F.FAB_STAT_ID_ADOPTED true else s
  let why := s.capFails w
  let s := if why = 0 then s else s.p (F.FAB_PORT_PEER_CAPS_FAIL p) why
  let s := { s with fb := { s.fb with capIn := SMap.insert s.fb.capIn p w
                                      ackIn := SMap.set noneB s.fb.ackIn p (w.getLsbD 31 && why == 0) } }
  if s.nglState p = 6 then (if adopt then (s.capPeer p w).capSend p else s.capPeer p w).showTimed
  else
    let s := if why = 0 then (s.p (credField p 1) (bitsOf (ws.getD 11 0) 15 8)).p (credField p 2) (bitsOf (ws.getD 11 0) 7 0) else s
    (if adopt then s.capSend p else s).capDone p

/-- CAPABILITY (R405): received on port `p`; `good` where its CRC is. -/
def execCapability (p : Fin 8) (good : Bool) (ws : List Word) (s : State) : Host.Outcome State Fault Refusal :=
  if s.nglState p = 5 ∨ s.nglState p = 6 then .next (if good then s.capTake p ws else s.linkCrc p) else .next s

/-- A write of `v` to FAB_ID (R384, R417). -/
def State.idWrite (s : State) (v : Word) : State :=
  let n := bitsOf v 5 0
  if s.manager ∨ s.on F.FAB_ID_VALID ∨ n = 0 then s.fabRefused
  else (s.flag F.FAB_ID_VALID true).p F.FAB_ID_ID n

/-- FAB_ID_WRITE (R384). -/
def execFabIdWrite (v : Word) (s : State) : Host.Outcome State Fault Refusal := .next (s.idWrite v).ok

/-! ## TIME_SYNC (R406) -/

/-- The two words of a time stamp. -/
def stampWords (t : BitVec 64) : List Word := [t.setWidth 32, (t >>> 32).setWidth 32]

/-- TIME_SYNC_SEND (R406): a request leaves port `p` at `t1` in 1/16 ns, while ticks run once every 16 of them. -/
def execTimeSyncSend (p : Fin 8) (t1 : BitVec 64) (s : State) : Host.Outcome State Fault Refusal :=
  if !s.portActive p ∨ !s.on F.FAB_ID_VALID ∨ (s.ngl p).quiet ∨
      (s.running ∧ ((SMap.find s.fb.syncTick p).any (fun k => decide (s.tick < k + 16)))) then .next s
  else
    let q := SMap.get zeroN s.fb.syncSeq p
    let s := { s with fb := { s.fb with syncSeq := SMap.set zeroN s.fb.syncSeq p ((q + 1) % 256)
                                        syncTick := SMap.insert s.fb.syncTick p s.tick
                                        syncOut := SMap.insert s.fb.syncOut p (t1.toNat, q) } }
    .next (s.sendPort p (s.envTo (s.g (F.FAB_PORT_PEER_ID p)) 4) [BitVec.ofNat 32 (q * 2 ^ 8)])

/-- TIME_SYNC (R406): a request that came at `t2` is answered at once; the response leaves at `t3`. -/
def execTimeSync (p : Fin 8) (e : Env) (ws : List Word) (t2 t3 : BitVec 64) (s : State) : Host.Outcome State Fault Refusal :=
  .next (s.received p e 4 ws (fun s =>
    s.sendPort p { s.envTo e.src 4 with resp := true } ((ws.getD 0 0 ||| 1#32) :: (stampWords t2 ++ stampWords t3))))

/-- The 64-bit value of words `i` and `i + 1`. -/
def words64 (ws : List Word) (i : Nat) : BitVec 64 := ws.getD (i + 1) 0 ++ ws.getD i 0

/-- FAB_PORT_DLY from the last exchanges, which are held as twice the delay in 1/16 ns. -/
def State.showDelay (s : State) (p : Nat) (ds : List Int) : State :=
  let n : Int := ds.length
  let sum := ds.foldl (· + ·) 0
  s.wr (R.FAB_PORT_DLY p) (BitVec.ofInt 32 (Int.tdiv (sum + s.gi (F.FAB_PORT_CFG_ASYM p) * n) (2 * n)))

def noDelays (_ : Nat) : List Int := []

/-- TIME_SYNC_RESPONSE (R406): a response that came at `t4`. Log 48, DEDUCED. -/
def execTimeSyncResponse (p : Fin 8) (e : Env) (ws : List Word) (t4 : BitVec 64) (s : State) : Host.Outcome State Fault Refusal :=
  .next (s.received p { e with resp := true } 4 ws (fun s =>
    match SMap.find s.fb.syncOut p with
    | none => s
    | some (t1, q) =>
      if bitsOf (ws.getD 0 0) 15 8 ≠ q then s
      else
        let d := ((t4 - BitVec.ofNat 64 t1) - (words64 ws 3 - words64 ws 1)).toInt
        let ds := (d :: SMap.get noDelays s.fb.delays p).take 8
        let s := { s with fb := { s.fb with syncOut := SMap.erase s.fb.syncOut p, delays := SMap.set noDelays s.fb.delays p ds } }
        s.showDelay p ds))

end Sys2Proof.Machine
end

