-- ==== Sys2Proof/Machine/Bridge.lean ====
section
/-!
DEFINITION. The AES67 bridge: packets (R469), transmission (R470, R471) and reception (R472 to R474).
-/
namespace Sys2Proof.Machine

/-! ## Bytes in network order -/

/-- The `n` bytes of `v`, most significant first. -/
def beBytes (n v : Nat) : List Byte := (leBytes n v).reverse

/-- The value of `n` bytes at index `i`, most significant first. -/
def beAt (bs : List Byte) (i n : Nat) : Nat := ((bs.drop i).take n).foldl (fun v b => v * 256 + b.toNat) 0

/-- The sum of 16-bit words with end-around carry, as the IPv4 header checksum takes it. -/
def onesSum (bs : List Byte) : Nat → Nat
  | 0 => 0
  | n + 1 =>
    let v := onesSum bs n + beAt bs (2 * n) 2
    v % 65536 + v / 65536

/-! ## Transmitting (R469, R470) -/

/-- The IPv4 header of a packet of context `c` with `n` bytes after it. Log 53, DEDUCED. -/
def State.brIpHeader (s : State) (c : Ctx) (n : Nat) : List Byte :=
  let head := [0x45, BitVec.ofNat 8 (s.g F.BR_HDR_DSCP * 4)] ++ beBytes 2 (20 + n) ++ [0, 0, 0x40, 0, BitVec.ofNat 8 (s.g F.BR_HDR_TTL), 17]
  let ips := beBytes 4 (s.rd R.BR_IP).toNat ++ beBytes 4 c.addr.toNat
  head ++ beBytes 2 (65535 - onesSum (head ++ [0, 0] ++ ips) 10) ++ ips

/-- The Ethernet address of port `p`, byte 0 first. -/
def State.macOf (s : State) (p : Nat) : List Byte := leBytes 4 (s.rd (R.ETH_MAC_LO p)).toNat ++ leBytes 2 (s.g (F.ETH_MAC_HI_V p))

/-- The Ethernet address of an IPv4 multicast group. -/
def multicastMac (ip : Word) : List Byte := [0x01, 0x00, 0x5E] ++ beBytes 3 (ip.toNat % 2 ^ 23)

/-- The payload of a packet of context `f` with first stamp `a`. -/
def State.brPayload (s : State) (f a : Nat) : List Byte :=
  let c := s.ctx f
  (List.range (s.brP c)).flatMap (fun i => (List.range c.ch).flatMap (fun ch =>
    beBytes c.bytes (txWord (8 * c.bytes) c.pack (SMap.get zeroW s.br.col (colKey (a + i) f ch)))))

/-- A bridge packet of context `f` with first stamp `a` and sequence number `n`, from the destination address to the end of
the payload, with no tag. -/
def State.brPacket (s : State) (f a n : Nat) : List Byte :=
  let pay := s.brPayload f a
  let c := s.ctx f
  multicastMac c.addr ++ s.macOf c.port ++ [0x08, 0x00] ++ s.brIpHeader c (20 + pay.length) ++
    beBytes 2 c.udp ++ beBytes 2 c.udp ++ beBytes 2 (20 + pay.length) ++ [0, 0] ++
    [0x80, BitVec.ofNat 8 c.pt] ++ beBytes 2 n ++ beBytes 4 (a + s.rd64 R.TIME_MEDIA_OFS_LO R.TIME_MEDIA_OFS_HI + c.ofs.toNat) ++
    beBytes 4 c.aux.toNat ++ pay

def ethDefault (_ : Nat) : Eth := Eth.reset
def State.eth (s : State) (p : Nat) : Eth := SMap.get ethDefault s.et p
def State.setEth (s : State) (p : Nat) (k : Eth) : State := { s with et := SMap.set ethDefault s.et p k }
def noReady (_ : Nat) : List TxReady := []
def State.ethQueue (s : State) (p q : Nat) : List TxReady := SMap.get noReady (s.eth p).txq q
def State.setQueue (s : State) (p q : Nat) (l : List TxReady) : State :=
  s.setEth p { s.eth p with txq := SMap.set noReady (s.eth p).txq q l }
def State.ethUp (s : State) (p : Nat) : Bool := s.on (F.ETH_STAT_LINK_UP p)

/-- The first stamps of the packets of context `f` from `a` whose last sample lies before stamp `e`. -/
def stampsTo (p e : Nat) : Nat → Nat → List Nat
  | 0, _ => []
  | n + 1, a => if a + p ≤ e then a :: stampsTo p e n (a + p) else []

/-- Packets in stamp order: (first stamp, context). -/
def insertStamp (x : Nat × Nat) : List (Nat × Nat) → List (Nat × Nat)
  | [] => [x]
  | y :: ys => if x.1 < y.1 then x :: y :: ys else y :: insertStamp x ys

/-- The first stamp of the next packet of context `f` at the 0.90T mark. -/
def State.brNext (s : State) (f : Nat) : Nat :=
  (SMap.find s.br.next f).getD (s.distStamp / max 1 (s.brP (s.ctx f)) * s.brP (s.ctx f))

/-- AES67_TX contexts in force. -/
def State.brSenders (s : State) : List Nat := s.flowsActing.filter (fun f => (s.ctx f).type == 1 && s.brP (s.ctx f) != 0)

/-- A packet of context `f` with first stamp `a` is queued, or discarded where the port's link is down (R447). -/
def State.brSend (s : State) (x : Nat × Nat) : State :=
  let f := x.2
  let c := s.ctx f
  let p := c.port
  let n := SMap.get zeroN s.br.seq f
  let bytes := s.brPacket f x.1 n
  let s := { s with br := { s.br with seq := SMap.set zeroN s.br.seq f ((n + 1) % 65536), next := SMap.insert s.br.next f (x.1 + s.brP c) } }
  if s.ethUp p then s.setQueue p c.txq (s.ethQueue p c.txq ++ [.pkt s.tick bytes])
  else s.inc (R.ETH_BR_TX_DROP p)

/-- Packets queued in an earlier tick and not sent are discarded (R471). -/
def State.brDropOld (s : State) : State :=
  [0, 1].foldl (fun s p => (List.range 8).foldl (fun s q =>
    let old := fun (i : TxReady) => match i with | .pkt t _ => decide (t < s.tick) | .desc _ => false
    let n := (s.ethQueue p q).countP old
    if n = 0 then s
    else (s.setQueue p q ((s.ethQueue p q).filter (fun i => !old i))).inc (R.ETH_BR_TX_DROP p) n) s) s

/-- The bridge at the 0.90T mark of a tick (R470, R471). In LINK region safe state it stops (R301). -/
def State.bridgeQueue (s : State) : State :=
  let s := s.brDropOld
  let e := s.distStamp + s.nSamp
  let s : State :=
    if s.regionSafe 5 then s
    else if !s.mayDrive then { s with br := { s.br with next := [] } }
    else
      let all := s.brSenders.flatMap (fun f => (stampsTo (s.brP (s.ctx f)) e 64 (s.brNext f)).map (fun a => (a, f)))
      let s := (all.foldr insertStamp []).foldl State.brSend s
      s.brSenders.foldl (fun (s : State) f => { s with br := { s.br with next := SMap.insert s.br.next f (s.brNext f) } }) s
  { s with br := { s.br with col := s.br.col.filter (fun k =>
      let st := k.1 / 262144
      let f := k.1 / 256 % 1024
      decide (st < e) && decide ((SMap.find s.br.next f).getD e ≤ st)) } }

/-! ## Receiving (R472 to R474) -/

/-- Whether a frame carries a tag, and its PCP, VID and EtherType (R449, R453). -/
def ethTagged (bs : List Byte) : Bool := beAt bs 12 2 == 0x8100
def ethPcp (bs : List Byte) : Nat := if ethTagged bs then beAt bs 14 1 / 32 else 0
def ethVid (bs : List Byte) : Nat := if ethTagged bs then beAt bs 14 2 % 4096 else 0
def ethType (bs : List Byte) : Nat := if ethTagged bs then beAt bs 16 2 else beAt bs 12 2

/-- What follows the EtherType. -/
def ethBody (bs : List Byte) : List Byte := bs.drop (if ethTagged bs then 18 else 14)

/-- Whether a frame is IPv4, not fragmented; the length of its header; whether it carries UDP; and its UDP destination
port. -/
def ipWhole (bs : List Byte) : Bool := ethType bs == 0x0800 && beAt (ethBody bs) 0 1 / 16 == 4 && beAt (ethBody bs) 6 2 % 16384 == 0
def ipHead (b : List Byte) : Nat := beAt b 0 1 % 16 * 4
def ipUdp (bs : List Byte) : Bool := ipWhole bs && beAt (ethBody bs) 9 1 == 17
def udpPort (b : List Byte) : Nat := beAt b (ipHead b + 2) 2

/-- The AES67_RX context in force that a frame on port `p` matches (R472). -/
def State.brMatch (s : State) (p : Nat) (bs : List Byte) : Option Nat :=
  let b := ethBody bs
  if ipUdp bs then
    s.flowsActing.find? (fun f =>
      let c := s.ctx f
      c.type == 2 && c.port == p && beAt b 16 4 == c.addr.toNat && udpPort b == c.udp)
  else none

/-- The payload of an RTP packet `r` without its CSRC list, extension and padding; none where they do not fit. -/
def rtpPayload (r : List Byte) : Option (List Byte) :=
  let b0 := beAt r 0 1
  let h := 12 + 4 * (b0 % 16)
  let h := if b0 / 16 % 2 = 1 then h + 4 + 4 * beAt r (h + 2) 2 else h
  let pad := if b0 / 32 % 2 = 1 then beAt r (r.length - 1) 1 else 0
  if r.length < h + pad ∨ (b0 / 32 % 2 = 1 ∧ pad = 0) then none else some ((r.drop h).take (r.length - h - pad))

/-- The RTP packet of IPv4 packet `b`, as its UDP length gives it. -/
def rtpOf (b : List Byte) : Option (List Byte) :=
  let n := beAt b (ipHead b + 4) 2
  if n < 20 ∨ b.length < ipHead b + n then none else some ((b.drop (ipHead b + 8)).take (n - 8))

/-- The checked payload of a matching frame, with its packet; none where a check fails (R472). Log 53, DEDUCED. -/
def State.brCheck (s : State) (c : Ctx) (b : List Byte) : Option (List Byte × List Byte) :=
  if ipHead b ≠ 20 ∨ onesSum b 10 ≠ 65535 then none
  else
    match rtpOf b with
    | none => none
    | some r =>
      if beAt r 0 1 / 64 ≠ 2 ∨ beAt r 1 1 % 128 ≠ c.pt then none
      else
        match rtpPayload r with
        | none => none
        | some pay => if pay.length = s.brP c * c.ch * c.bytes then some (r, pay) else none

/-- Sample `i` of channel `ch` of a payload, as its container. -/
def Ctx.sample (c : Ctx) (pay : List Byte) (i ch : Nat) : Word :=
  rxContainer (8 * c.bytes) c.pack (BitVec.ofNat 32 (beAt pay ((i * c.ch + ch) * c.bytes) c.bytes))

/-- Sample `st` of channel `ch` is placed unless one is present (R474). -/
def State.brPlace (s : State) (c : Ctx) (ch : Nat) (st : Int) (x : Word) : State :=
  let d := max 1 c.depth
  let w := c.buf + ch * d + (st % d).toNat
  if SMap.get noneB s.fb.pres w then s
  else { s with fb := { s.fb with rbuf := SMap.set zeroW s.fb.rbuf w x, pres := SMap.set noneB s.fb.pres w true } }

/-- A packet of context `f` arrives in the tick in progress (R474); the first that is accepted latches its SSRC (R473). Log 53, DEDUCED. -/
def State.brArrive (s : State) (f : Nat) (c : Ctx) (r pay : List Byte) : State :=
  let p := c.port
  let m : Int := s.mtcOf s.tick
  let d := signed 32 (((beAt r 4 4 : Int) - c.ofs.toNat - s.rd64 R.TIME_MEDIA_OFS_LO R.TIME_MEDIA_OFS_HI - m) % 2 ^ 32).toNat
  let s0 := m + d
  let l : Int := c.link
  let next : Int := m + s.nSamp
  if s0 + l < next then s.inc (R.ETH_BR_RX_LATE p)
  else if next + c.depth ≤ s0 + s.brP c - 1 + l then s.inc (R.ETH_BR_RX_EARLY p)
  else
    let s : State := { s with br := { s.br with ssrc := SMap.insert s.br.ssrc f (BitVec.ofNat 32 (beAt r 8 4)) } }
    (List.range (s.brP c)).foldl (fun s (i : Nat) => (List.range c.ch).foldl (fun s ch =>
      s.brPlace c ch (s0 + (i : Nat)) (c.sample pay i ch)) s) s

/-- BRIDGE_RX_PACKET (R472 to R474): frame `bs` matches context `f`. The bridge stops in LINK region safe state, and places
nothing while no tick is in progress. -/
def State.brReceive (s : State) (f : Nat) (bs : List Byte) : State :=
  let c := s.ctx f
  let p := c.port
  if s.regionSafe 5 then s
  else
    match s.brCheck c (ethBody bs) with
    | none => s.inc (R.ETH_BR_RX_BAD p)
    | some (r, pay) =>
      let mine := match SMap.find s.br.ssrc f with
        | some x => x == BitVec.ofNat 32 (beAt r 8 4)
        | none => true
      if !mine then s.inc (R.ETH_BR_RX_SSRC p) else if s.running then s.brArrive f c r pay else s

end Sys2Proof.Machine
end

