-- ==== Sys2Proof/Machine/Ptp.lean ====
section
/-!
DEFINITION. The PTP time counter (R460 to R463), network media time (R465), and event capture (R467). Commands that sample
the counter carry the time-clock edges since the last such command.
-/
namespace Sys2Proof.Machine

/-! ## The counter -/

/-- One nanosecond, one second and the range of the counter, in its unit of 2^-28 ns (R460). -/
def ptpNs : Nat := 2 ^ 28
def ptpSec : Nat := 10 ^ 9 * ptpNs
def ptpRange : Nat := 2 ^ 48 * ptpSec

/-- The counter after `edges` further edges of the time clock. -/
def State.ptpRun (s : State) (edges : Nat) : State :=
  if s.pw.held ∨ s.pw.dormant then s else
  { s with tm := { s.tm with ptp := (s.tm.ptp + edges * s.g F.PTP_RATE_V) % ptpRange } }

/-- Seconds, nanoseconds and sub-nanoseconds of a time. -/
def secOf (t : Nat) : Nat := t / ptpSec
def nsOf (t : Nat) : Nat := t / ptpNs % 10 ^ 9
def subOf (t : Nat) : Nat := t % ptpNs / 2 ^ 12

def State.ptpRefused (s : State) : State := s.flag F.PTP_STAT_CFG_REFUSED true

/-- A write of PTP_RATE (R462). -/
def State.ptpRateWrite (s : State) (v : Word) : State :=
  if v.toNat < 0x3FF00000 ∨ 0x40100000 < v.toNat then s.ptpRefused else s.wr R.PTP_RATE v

/-- PTP_RATE_WRITE (R462). -/
def execPtpRateWrite (v : Word) (edges : Nat) (s : State) : Host.Outcome State Fault Refusal :=
  .next ((s.ptpRun edges).ptpRateWrite v).ok

/-- The counter moves by `d` in its unit: PTP_STAT.STEPPED. -/
def State.ptpMove (s : State) (d : Int) : State :=
  let t := (((s.tm.ptp : Int) + d) % (ptpRange : Int)).toNat
  let s := ({ s with tm := { s.tm with ptp := t } } : State).flag F.PTP_STAT_STEPPED true
  if 1000 * ptpNs < d.natAbs ∧ (s.on (F.CLK_REF_STAT_PRESENT 4) ∨ s.qualified 4) then s.disqualify 4 3 else s

/-- The offset that PTP_CMD.STEP adds. -/
def State.ptpAdj (s : State) : Int := (s.rd R.PTP_ADJ_S).toInt * ptpSec + (s.rd R.PTP_ADJ_NS).toInt * ptpNs

/-- The time that PTP_CMD.SET loads. Log 45, DEDUCED. -/
def State.ptpSetTime (s : State) : Nat :=
  (s.g F.PTP_SET_S_LO_V + s.g F.PTP_SET_S_HI_V * 2 ^ 32) * ptpSec + s.g F.PTP_SET_NS_V * ptpNs

/-- A write of `v` to PTP_CMD (R462). -/
def State.ptpCmdWrite (s : State) (v : Word) : State :=
  if v.getLsbD 0 ∧ v.getLsbD 1 then s.ptpRefused
  else if v.getLsbD 0 then s.ptpMove s.ptpAdj
  else if v.getLsbD 1 then s.ptpMove ((s.ptpSetTime : Int) - s.tm.ptp)
  else s

/-- PTP_STEP and PTP_SET (R462). -/
def execPtpStep (edges : Nat) (s : State) : Host.Outcome State Fault Refusal := .next ((s.ptpRun edges).ptpCmdWrite 1#32).ok
def execPtpSet (edges : Nat) (s : State) : Host.Outcome State Fault Refusal := .next ((s.ptpRun edges).ptpCmdWrite 2#32).ok

/-! ## The grandmaster (R463) -/

/-- GM_OK goes from 1 to 0. -/
def State.gmLost (s : State) : State :=
  if s.on F.PTP_CTL_GM_OK then
    (((s.flag F.PTP_CTL_GM_OK false).flag F.PTP_STAT_GM_LOST true).emit Kind.ptpGmLoss Src.time).refLost 4
  else s

/-- A write of `v` to PTP_CTL. -/
def State.ptpCtlWrite (s : State) (v : Word) : State :=
  let s := if v.getLsbD 31 then s else s.gmLost
  s.fieldWrite R.PTP_CTL v

/-- PTP_GM_LOSS (R463): a write of `v` to PTP_CTL with GM_OK = 0, or the watchdog. -/
def execPtpGmLoss (v : Option Word) (s : State) : Host.Outcome State Fault Refusal :=
  match v with
  | some v => .next (s.ptpCtlWrite (v &&& 0x7FFFFFFF#32)).ok
  | none => .next (if s.g F.PTP_CTL_WDOG_MS = 0 then s else s.gmLost)

/-! ## Reads of the counter (R461, R331, R332) -/

/-- Latched words of a wide register group (R13). -/
def State.setLatch (s : State) (a : Nat) (v : Word) : State := { s with latch := SMap.set zeroW s.latch a v }
def State.latched (s : State) (a : Nat) : Word := SMap.get zeroW s.latch a

/-- A read of PTP_TIME_SUB, whose copy is `lag` edges behind the counter; `stale` where the samples did not agree. -/
def State.ptpRead (s : State) (lag : Nat) (stale : Bool) : State × Word :=
  let s := if stale then (s.flag F.PTP_STAT_STALE true).emit Kind.cdcStale Src.time R.PTP_TIME_SUB
    else ({ s with tm := { s.tm with ptpShown := (s.tm.ptp + ptpRange - lag * s.g F.PTP_RATE_V) % ptpRange } } : State).flag
      F.PTP_STAT_STALE false
  let t := s.tm.ptpShown
  let s := ((s.setLatch R.PTP_TIME_NS (BitVec.ofNat 32 (nsOf t))).setLatch R.PTP_TIME_S_LO (BitVec.ofNat 32 (secOf t))).setLatch
    R.PTP_TIME_S_HI (BitVec.ofNat 32 (secOf t / 2 ^ 32))
  (s, BitVec.ofNat 32 (subOf t))

/-- PTP_TIME_READ (R461): a read of PTP_TIME_SUB. The copy is `lag` edges (at most 16) behind the counter. -/
def execPtpTimeRead (edges : Nat) (lag : Fin 17) (stale : Bool) (s : State) : Host.Outcome State Fault Refusal :=
  let r := (s.ptpRun edges).ptpRead lag stale
  .next (r.1.send (.resp false [r.2]))

/-! ## Media time (R465) -/

/-- TIME_MEDIA_OFS in force. -/
def State.mediaOfs (s : State) : Nat := s.rd64 R.TIME_MEDIA_OFS_LO R.TIME_MEDIA_OFS_HI

/-- A write of TIME_MEDIA_OFS_HI commits both words from the next boundary. -/
def State.mediaCommit (s : State) (v : Word) : State := { s with tm := { s.tm with mediaOfs := some (v ++ s.tm.mediaOfsLo) } }

/-- MEDIA_OFS_WRITE (R465). -/
def execMediaOfsWrite (v : Word) (s : State) : Host.Outcome State Fault Refusal := .next (s.mediaCommit v).ok

/-- The PTP time of a boundary, captured; an offset that waited takes force; AUTO sets the next one (R465). `m` is M_k. -/
def State.mediaBoundary (s : State) (m : Nat) : State :=
  let t := s.tm.ptp
  let s := { s with tm := { s.tm with ptpTick := t } }
  let s : State := match s.tm.mediaOfs with
    | some o => ({ s with tm := { s.tm with mediaOfs := none } } : State).wr64 R.TIME_MEDIA_OFS_LO R.TIME_MEDIA_OFS_HI o.toNat
    | none => s
  let set := s.tm.autoArmed && s.on F.TIME_MEDIA_CTL_AUTO
  let n := (2 * t * s.fs + ptpSec) / (2 * ptpSec)
  { s with tm := { s.tm with autoArmed := false
                             mediaOfs := if set then some (BitVec.ofInt 64 ((n : Int) - m)) else s.tm.mediaOfs } }

/-! ## Event capture (R467) -/

/-- EVENT_CAPTURE (R467): an edge on EVT_IN_i (`rising`), `frac` of the sample period since the MTC incremented in 1/256,
within 16 ns of the edge before it where `close`. -/
def execEventCapture (i : Fin 4) (rising close : Bool) (frac : Fin 256) (edges : Nat) (s : State) : Host.Outcome State Fault Refusal :=
  let s := s.ptpRun edges
  if !(s.g (F.EVT_CFG_EDGE i)).testBit (if rising then 0 else 1) then .next s
  else if close ∨ (s.rd (R.EVT_MTC_LO i)).getLsbD 31 then .next (s.flag (F.EVT_CFG_OVF i) true)
  else
    let m := s.tm.mtc.toNat
    let t := s.tm.ptp
    let s := s.wr (R.EVT_MTC_LO i) (BitVec.ofNat 32 (2 ^ 31 + m % 2 ^ 23 * 2 ^ 8 + frac))
    let s := (s.wr (R.EVT_MTC_HI i) (BitVec.ofNat 32 (m / 2 ^ 23))).wr (R.EVT_PTP_NS i) (BitVec.ofNat 32 (nsOf t))
    .next ((s.wr (R.EVT_PTP_S_LO i) (BitVec.ofNat 32 (secOf t))).wr (R.EVT_PTP_S_HI i) (BitVec.ofNat 32 (secOf t / 2 ^ 32)))

/-- A read of EVT_MTC_LO[i]: its value, with the capture released and its other words latched. -/
def State.evtRead (s : State) (i : Nat) : State × Word :=
  let v := s.rd (R.EVT_MTC_LO i)
  let s := [R.EVT_MTC_HI i, R.EVT_PTP_NS i, R.EVT_PTP_S_LO i, R.EVT_PTP_S_HI i].foldl (fun s a => s.setLatch a (s.rd a)) s
  (s.wr (R.EVT_MTC_LO i) (v &&& 0x7FFFFFFF#32), v)

/-- EVENT_CAPTURE_READ (R467). -/
def execEventCaptureRead (i : Fin 4) (s : State) : Host.Outcome State Fault Refusal :=
  let r := s.evtRead i
  .next (r.1.send (.resp false [r.2]))

/-! ## Scheduled actions and PTP triggers (R62 to R66, R466) -/

/-- A table of actions: its ACT register and STATE, TYPE and ARG fields are at `act n`; TIME_SCHED, or the PTP triggers. -/
def schedAct (ptp : Bool) (n : Nat) : Nat := if ptp then R.PTP_TRIG_ACT n else R.TIME_SCHED_ACT n
def schedCount (ptp : Bool) : Nat := if ptp then 8 else 32
def State.schedState (s : State) (ptp : Bool) (n : Nat) : Nat := bitsOf (s.rd (schedAct ptp n)) 31 29
def State.schedType (s : State) (ptp : Bool) (n : Nat) : Nat := bitsOf (s.rd (schedAct ptp n)) 27 24
def State.schedArg (s : State) (ptp : Bool) (n : Nat) : Nat := bitsOf (s.rd (schedAct ptp n)) 15 0
def State.setSched (s : State) (ptp : Bool) (n st type arg : Nat) : State :=
  s.wr (schedAct ptp n) (BitVec.ofNat 32 (st * 2 ^ 29 + type * 2 ^ 24 + arg))

/-- The target of entry `n`: armed, and as its registers give it. -/
def State.armedTgt (s : State) (ptp : Bool) (n : Nat) : Nat := SMap.get zeroN (if ptp then s.tm.trigTgt else s.tm.schedTgt) n
def State.writtenTgt (s : State) (ptp : Bool) (n : Nat) : Nat :=
  if ptp then
    (s.g (F.PTP_TRIG_S_LO_V n) + s.g (F.PTP_TRIG_S_HI_V n) * 2 ^ 32) * ptpSec + s.g (F.PTP_TRIG_NS_V n) * ptpNs
  else s.rd64 (R.TIME_SCHED_TGT_LO n) (R.TIME_SCHED_TGT_HI n)

/-- Whether the ARG of a write suits its TYPE (R62). -/
def argSuits (type arg : Nat) : Bool :=
  match type with
  | 1 => true
  | 2 => decide (arg < 128)
  | 3 => decide (arg < 6)
  | 4 => decide (arg < 6)
  | 5 => true
  | _ => false

/-- Whether another ARMED entry holds the same action and target. -/
def State.schedTwice (s : State) (ptp : Bool) (n type arg tgt : Nat) : Bool :=
  (List.range (schedCount ptp)).any (fun m =>
    m != n && s.schedState ptp m == 1 && s.schedType ptp m == type && s.schedArg ptp m == arg && s.armedTgt ptp m == tgt)

def State.schedRefused (s : State) : State := s.flag F.TICK_STAT_SCHED_REFUSED true

/-- A write of `v` to entry `n` of a table of actions (R62, R65, R466). -/
def State.schedWrite (s : State) (ptp : Bool) (n : Nat) (v : Word) : State :=
  let arm := v.getLsbD 28
  let type := bitsOf v 27 24
  let arg := bitsOf v 15 0
  if s.schedState ptp n = 1 then
    if !arm ∧ type = 0 then s.setSched ptp n 0 0 arg else s.schedRefused
  else if !arm then s.setSched ptp n (s.schedState ptp n) (if 6 ≤ type then s.schedType ptp n else type) arg
  else
    let tgt := s.writtenTgt ptp n
    let early := if ptp then decide (tgt ≤ s.tm.ptp) else decide (tgt < s.tick + 2)
    if early ∨ type = 0 ∨ 6 ≤ type ∨ !argSuits type arg ∨ s.schedTwice ptp n type arg tgt then
      (s.setSched ptp n 3 (if 6 ≤ type then s.schedType ptp n else type) arg).schedRefused
    else
      let s := s.setSched ptp n 1 type arg
      if ptp then { s with tm := { s.tm with trigTgt := SMap.set zeroN s.tm.trigTgt n tgt } }
      else { s with tm := { s.tm with schedTgt := SMap.set zeroN s.tm.schedTgt n tgt } }

/-- SCHED_ARM and SCHED_DISARM (R62, R65): a write of `v` to TIME_SCHED_ACT[n] with ARM = 1, or with ARM = 0 and TYPE NONE. -/
def execSchedArm (n : Fin 32) (v : Word) (s : State) : Host.Outcome State Fault Refusal :=
  .next (s.schedWrite false n (v ||| 0x10000000#32)).ok
def execSchedDisarm (n : Fin 32) (v : Word) (s : State) : Host.Outcome State Fault Refusal :=
  .next (s.schedWrite false n (v &&& 0x0000FFFF#32)).ok

/-- PTP_TRIG_ARM (R466). -/
def execPtpTrigArm (n : Fin 8) (v : Word) (edges : Nat) (s : State) : Host.Outcome State Fault Refusal :=
  .next ((s.ptpRun edges).schedWrite true n (v ||| 0x10000000#32)).ok

/-- A scheduled action takes effect at the boundary with MTC `m`: the state, and whether the owning block's check passed
(R183, R195, R430). -/
def State.actionRun (s : State) (type arg m : Nat) : State × Bool :=
  match type with
  | 1 => s.xingSwitch
  | 2 => s.coefSwap arg
  | 3 => s.sapGroupStart arg m
  | 4 => s.sapGroupStop arg
  | 5 =>
    let s : State := { s with irq := s.irq ++ [CoreIrq.control arg s.tick] }
    (s.event evControl s.myId [BitVec.ofNat 32 arg], true)
  | _ => (s, false)

/-- The entries of both tables due at the boundary of tick `k`, in order. -/
def State.dueActions (s : State) (k : Nat) : List (Bool × Nat) :=
  ((List.range 32).filter (fun n => s.schedState false n == 1 && s.armedTgt false n == k)).map (fun n => (false, n)) ++
    ((List.range 8).filter (fun n => s.schedState true n == 1 && decide (s.armedTgt true n ≤ s.tm.ptpTick))).map (fun n => (true, n))

/-- What a failed check of an action of `type` leaves in the owning block (R183, R195). -/
def State.actionFailed (s : State) (type : Nat) : State :=
  match type with
  | 1 => s.flag F.XING_STAT_SW_REFUSED true
  | 2 => s.flag F.XING_STAT_CS_REFUSED true
  | _ => s

/-- One due entry: it is judged on the state `s0` before all of them, and acts where it passes (R63). What another entry of
the boundary has done already is not done again. -/
def State.actionDue (s0 : State) (m : Nat) (s : State) (e : Bool × Nat) : State :=
  let type := s.schedType e.1 e.2
  let arg := s.schedArg e.1 e.2
  let ok := (s0.actionRun type arg m).2
  let r := s.actionRun type arg m
  if ok then (if r.2 then r.1 else s).setSched e.1 e.2 2 type arg
  else ((s.actionFailed type).setSched e.1 e.2 3 type arg).schedRefused

/-- The scheduled actions of the boundary of tick `k` with MTC `m`; `first` where a run begins (R64). -/
def State.actionsBoundary (s : State) (k m : Nat) (first : Bool) : State :=
  let s := if !first then s else
    ((List.range 32).filter (fun n => s.schedState false n == 1 && decide (s.armedTgt false n < k))).foldl (fun s n =>
      (s.setSched false n 4 (s.schedType false n) (s.schedArg false n)).flag F.TICK_STAT_SCHED_MISSED true) s
  (s.dueActions k).foldl (s.actionDue m) s

end Sys2Proof.Machine
end

