-- ==== Sys2Proof/Machine/Mac.lean ====
section
/-!
DEFINITION. The Ethernet ports beside their DMA: the frame the MAC builds (R451), the limiters (R237), time stamps (R457, R459),
and register writes (R454, R478).
-/
namespace Sys2Proof.Machine

/-- How many descriptors lie from HEAD up to `tail`. -/
def State.txAvail (s : State) (p q tail : Nat) : Nat :=
  let n := s.g (F.ETH_TXQ_SIZE_SIZE p q)
  if n = 0 then 0 else (tail + n - s.g (F.ETH_TXQ_HEAD_HEAD p q) % n) % n

/-- A write of a TAIL (R454). -/
def State.txTailWrite (s : State) (p q : Nat) (v : Word) : State :=
  let s := s.fieldWrite (R.ETH_TXQ_TAIL p q) v
  s.setQueue p q (s.ethQueue p q ++ [.desc (s.g (F.ETH_TXQ_TAIL_TAIL p q))])

/-- The frame on the line without its FCS, built from a buffer of queue `q` (R451). -/
def State.macBuild (s : State) (p q : Nat) (noTag : Bool) (bs : List Byte) : List Byte :=
  let bs := if s.on (F.ETH_CTL_TAG_INS p) ∧ !noTag then
      bs.take 12 ++ [0x81, 0x00] ++ beBytes 2 (bitsOf (s.rd (R.ETH_TXQ_PCP p)) (3 * q + 2) (3 * q) * 2 ^ 13 + s.g (F.ETH_VLAN_VID p)) ++ bs.drop 12
    else bs
  bs ++ List.replicate (60 - bs.length) 0

/-- The largest length on the line (R449, R451). -/
def State.ethMax (s : State) (p : Nat) (bs : List Byte) : Nat :=
  if s.on (F.ETH_CTL_JUMBO p) then 9022 else if ethTagged bs then 1522 else 1518

/-- The limiter of port `p` (R237): refilled for `ns`. -/
def State.limRefill (s : State) (p ns : Nat) : State :=
  { s with lv := { s.lv with
      fUsed := SMap.set zeroN s.lv.fUsed p (SMap.get zeroN s.lv.fUsed p - s.g (F.LEVEE_ETH_FPS_FPS p) * ns)
      yUsed := SMap.set zeroN s.lv.yUsed p (SMap.get zeroN s.lv.yUsed p - s.g (F.LEVEE_ETH_BPS_BPS p) * 125000 * ns) } }

/-- Whether a frame may leave: never where a limiter register of the port has wrong parity (R227). -/
def State.limOpen (s : State) (p : Nat) : Bool :=
  [R.LEVEE_ETH_FPS p, R.LEVEE_ETH_BPS p, R.LEVEE_ETH_BURST p].all (fun a => (SMap.find s.lv.bad a).isNone) &&
  decide (SMap.get zeroN s.lv.fUsed p + 10 ^ 9 ≤ s.g (F.LEVEE_ETH_BURST_FBURST p) * 10 ^ 9) &&
    decide (SMap.get zeroN s.lv.yUsed p ≤ s.g (F.LEVEE_ETH_BURST_BBURST p) * 1024 * 10 ^ 9)

/-- What a frame of `n` bytes takes. Log 51, DEDUCED. -/
def State.limTake (s : State) (p n : Nat) : State :=
  { s with lv := { s.lv with
      fUsed := SMap.set zeroN s.lv.fUsed p (SMap.get zeroN s.lv.fUsed p + 10 ^ 9)
      yUsed := SMap.set zeroN s.lv.yUsed p (SMap.get zeroN s.lv.yUsed p + n * 10 ^ 9)
      waited := SMap.set zeroN s.lv.waited p 0 } }

/-- The queue of port `p` whose frame waits for the limiter, if one does (R237, R452). -/
def State.waitingQueue (s : State) (p : Nat) : Option Nat :=
  match SMap.get zeroN s.lv.waited p with
  | 0 => none
  | n + 1 => some n

/-- The frame at the head of queue `q` waits for the limiter of port `p`; each frame that waits is counted once. -/
def State.limWait (s : State) (p q : Nat) : State :=
  if (s.waitingQueue p).isSome then s
  else
    let s := (s.inc (R.LEVEE_ETH_WAIT p)).flag F.LEVEE_STAT_ETH_WAIT true
    { s with lv := { s.lv with waited := SMap.set zeroN s.lv.waited p (q + 1) } }

/-- No frame waits for the limiter of port `p` any longer. -/
def State.limFree (s : State) (p : Nat) : State := { s with lv := { s.lv with waited := SMap.set zeroN s.lv.waited p 0 } }

/-- The time stamp of a frame now, with correction `c` in ns: nanoseconds and seconds [31:0] (R457). -/
def State.stampNow (s : State) (c : Int) : Nat × Nat :=
  let t := (((s.tm.ptp : Int) + c * ptpNs) % (ptpRange : Int)).toNat
  (nsOf t, secOf t % 2 ^ 32)

/-- A transmit time stamp enters the FIFO (R459). -/
def State.txStamp (s : State) (p tag : Nat) : State :=
  if 8 ≤ (s.eth p).txts.length then s.flag (F.ETH_STAT_TXTS_OVF p) true
  else
    let t := s.stampNow (s.gi (F.ETH_TS_CORR_TX p))
    s.setEth p { s.eth p with txts := (s.eth p).txts ++ [(tag, t.1, t.2)] }

/-- A read of ETH_TXTS_TAG (R459). -/
def State.txtsRead (s : State) (p : Nat) : State × Word :=
  match (s.eth p).txts with
  | [] => (s, 0)
  | (tag, ns, sec) :: l =>
    let s := s.setEth p { s.eth p with txts := l }
    ((s.setLatch (R.ETH_TXTS_NS p) (BitVec.ofNat 32 ns)).setLatch (R.ETH_TXTS_S p) (BitVec.ofNat 32 sec),
      BitVec.ofNat 32 (2 ^ 31 + tag))

/-- ETH_TXTS_READ (R459). -/
def execEthTxtsRead (p : Fin 2) (s : State) : Host.Outcome State Fault Refusal :=
  let r := s.txtsRead p
  .next (r.1.send (.resp false [r.2]))

/-! ## Registers -/

/-- The FAR registers of port `p`, and whether they answer. -/
def ethFarRegs (p : Nat) : List Nat :=
  [R.ETH_RX_GOOD p, R.ETH_RX_RUNT p, R.ETH_RX_OVERSIZE p, R.ETH_RX_FCS p, R.ETH_RX_VLAN_DROP p, R.ETH_RX_PAUSE p]
def State.ethFar (s : State) (p : Nat) : Bool := s.farLive (32 + p)

/-- A domain reset of port `p` (R448). -/
def State.ethDomainReset (s : State) (p : Nat) : State := (ethFarRegs p).foldl (fun s a => s.wr a (resetWord a)) s

def State.ethRefused (s : State) (p : Nat) : State := s.flag (F.ETH_STAT_CFG_REFUSED p) true

/-- The sizes a queue or ring may have (R454, R478). -/
def ethSizeOk (n : Nat) : Bool := decide (4 ≤ n) && decide (n ≤ 4096)

/-- Whether a write of `v` at offset `o` of port `p` is refused (R478). -/
def State.ethBad (s : State) (p o : Nat) (v : Word) : Bool :=
  let i := o / 16 % 8
  let txBusy := s.g (F.ETH_TXQ_HEAD_HEAD p i) != s.g (F.ETH_TXQ_TAIL_TAIL p i)
  let rxBusy := s.g (F.ETH_RXR_HEAD_HEAD p i) != s.g (F.ETH_RXR_TAIL_TAIL p i)
  if o = 0 then s.on (F.ETH_CTL_EN p) && bitsOf v 1 0 != s.g (F.ETH_CTL_MODE p)
  else if o = 0x10 then bitsOf v 11 0 == 4095
  else if 0x100 ≤ o ∧ o < 0x180 ∧ o % 16 = 0 then txBusy
  else if 0x100 ≤ o ∧ o < 0x180 ∧ o % 16 = 4 then txBusy || !ethSizeOk (bitsOf v 12 0)
  else if 0x200 ≤ o ∧ o < 0x280 ∧ o % 16 = 0 then rxBusy
  else if 0x200 ≤ o ∧ o < 0x280 ∧ o % 16 = 4 then
    let b := bitsOf v 31 16
    (rxBusy && bitsOf v 12 0 != s.g (F.ETH_RXR_CFG_SIZE p i)) || !ethSizeOk (bitsOf v 12 0) || decide (b < 256) ||
      decide (16384 < b) || b % 64 != 0
  else false

/-- A write at offset `o` of the window of port `p` (R478). -/
def State.ethWrite (s : State) (p o : Nat) (v : Word) : State :=
  let a := R.ETH_CTL p + o
  if (regSpecAt a).isNone then s.unmapped a
  else if a ∈ ethFarRegs p ∧ !s.ethFar p then s.hang (32 + p) a (some v)
  else if s.ethBad p o v then (s.ethRefused p).ok
  else if 0x100 ≤ o ∧ o < 0x180 ∧ o % 16 = 12 then (s.txTailWrite p (o / 16 % 8) v).ok
  else (s.fieldWrite a v).ok

end Sys2Proof.Machine
end

