-- ==== Sys2Proof/Machine/SlotDma.lean ====
section
/-!
DEFINITION. The slot DMA (spec/07): gather and distribute Crossings (R185 to R192), the overrun ramp of output slots (R56 to
R58), and the output CRC (R50).
-/
namespace Sys2Proof.Machine

/-! ## Endpoints as memory -/

/-- The byte address of word `j` of a CLBUF endpoint. -/
def clbufByte (e j : Nat) : Nat := 0x01000000 + epCluster e * 0x100000 + 4 * (epWord e + j * 2 ^ epStr e)

/-- The byte address of word `w` of region memory `g`. -/
def regionByte (g w : Nat) : Nat := 0x02000000 + g * 0x200000 + 4 * w

/-- The entries of the copy in force that the engines execute in a phase: not while the table is suspended (R184), nor for
an engine whose region, or the chip, is in safe state (R301, R302). -/
def State.xRun (s : State) (dist : Bool) : List Nat :=
  let x := s.xSel
  if s.on F.XING_STAT_INF_SUSPENDED || s.chipSafe then []
  else (s.xEntries x).filter (fun e => s.xPhase x e == dist && !s.regionSafe (s.xEngine x e))

/-- An endpoint of entry `e` could not be served (R189). Log 31, DEDUCED. -/
def State.xMiss (s : State) (e : Nat) : State :=
  let s := (s.inc R.XING_EP_MISS_CNT).flag F.XING_STAT_EP_MISS true
  (s.p F.XING_LAST_MISS_ENTRY e).p F.XING_LAST_MISS_TICK s.tick

/-- The N words of source `p`, and whether it could be served. Log 31, DEDUCED. -/
def State.xRead (s : State) (p : Nat) : State × List Word × Bool :=
  let js := List.range s.nSamp
  match epKind p with
  | .slot => let r := s.readWords (js.map (slotByte (epArg p))); (r.1, r.2, true)
  | .clbuf => let r := s.readWords (js.map (clbufByte p)); (r.1, r.2, true)
  | .sap => (s, js.map (s.sapSample (epPort p) (epTdm p)), decide (epTdm p < s.sapSlots (epPort p)))
  | .flow =>
    let f := epFlow p
    let ch := epChan p
    (s, js.map (fun j => if s.flowDelivers f ch || s.runChannel f ch then s.flowSample f ch j else 0), s.flowDelivers f ch)
  | _ => (s, js.map (fun _ => 0), true)

/-! ## Conversion (R187) -/

def sext (n : Nat) (v : Word) : Int := signed n v.toNat

/-- A value saturated to `w` bits, and whether it clipped. -/
def clipped (w : Nat) (x : Int) : Word × Bool :=
  let y := clip (-(2 ^ (w - 1))) (2 ^ (w - 1) - 1) x
  (BitVec.ofInt 32 y, y != x)

/-- The destination word of conversion `c`, and whether it clipped. -/
def crossConv (c : Nat) (x : Word) : Word × Bool :=
  match c with
  | 1 => (BitVec.ofInt 32 (sext 24 x * 2 ^ 8), false)
  | 2 => clipped 24 (rndRhu x.toInt 8)
  | 3 => (BitVec.ofInt 32 (sext 16 x * 2 ^ 16), false)
  | 4 => clipped 16 (rndRhu x.toInt 16)
  | 5 => clipped 16 (rndRhu (sext 24 x) 8)
  | 6 => (BitVec.ofInt 32 (sext 16 x * 2 ^ 8), false)
  | _ => (x, false)

/-- The words of a Crossing converted; clips are counted. -/
def State.convertAll (s : State) (c : Nat) (xs : List Word) : State × List Word :=
  let ys := xs.map (crossConv c)
  let n := ys.countP (fun y => y.2)
  (if n = 0 then s else (s.inc R.XING_SAT_CNT n).flag F.XING_STAT_SAT true, ys.map (fun y => y.1))

/-! ## The gather (R46, R192) -/

/-- Words written to addresses by a gather; a standby's record will hold them (R263). -/
def State.gatherStore (s : State) (as : List Nat) (ws : List Word) : State :=
  let ps := as.zip ws
  let s := ps.foldl (fun s q => s.writeW q.1 q.2) s
  if s.standby then { s with pr := { s.pr with gathered := s.pr.gathered ++ ps } } else s

/-- A gather Crossing writes `ws` to destination `p` of the table in force. -/
def State.gatherWrite (s : State) (p : Nat) (ws : List Word) : State :=
  let js := List.range s.nSamp
  match epKind p with
  | .slot => s.gatherStore (js.map (slotByte (epArg p))) ws
  | .clbuf => s.gatherStore (js.map (clbufByte p)) ws
  | .dline =>
    let x := s.xSel
    let d := epArg p % 256
    let len := max 1 (s.dlLen x d)
    let base := s.dlWord x d
    let g := s.dlRegion x d
    let at_ := fun j => (s.tick * s.nSamp + j) % len
    let s := (ws.zipIdx).foldl (fun s q => s.writeW (regionByte g (base + 1 + at_ q.2)) q.1) s
    let head := BitVec.ofNat 32 (at_ (s.nSamp - 1))
    s.writeW (regionByte g base) head
  | _ => s

/-- What a Crossing has read: its entry and the words. -/
structure Moved where
  e : Nat
  ws : List Word
  deriving DecidableEq, Repr

/-- All sources of a phase, as they stood at its start (R186). -/
def State.readPhase (s : State) : List Nat → State × List Moved
  | [] => (s, [])
  | e :: es =>
    let r := s.xRead (s.xSrc s.xSel e)
    let s1 := if r.2.2 then r.1 else r.1.xMiss e
    let t := s1.readPhase es
    (t.1, ⟨e, r.2.1⟩ :: t.2)

/-- The head words of the delay lines of the table in force, for the record of a standby (R263). -/
def State.headsKept (s : State) : State :=
  let x := s.xSel
  let as := ((List.range 256).filter (fun d => (s.dlBase x d).getLsbD 31)).map (fun d => regionByte (s.dlRegion x d) (s.dlWord x d))
  let r := s.readWords as
  { r.1 with pr := { r.1.pr with heads := as.zip r.2 } }

/-- The gather of the tick in progress. Log 21, DEDUCED. -/
def State.gather (s : State) : State :=
  let s := { s with pr := { s.pr with gathered := [], heads := [] } }
  let r := s.readPhase (s.xRun false)
  let s := r.2.foldl (fun s m =>
    let c := s.convertAll (s.xConv s.xSel m.e) m.ws
    c.1.gatherWrite (s.xDst s.xSel m.e) c.2) r.1
  if s.standby then s.headsKept else s

/-! ## Slot ramps (R55 to R58) -/

/-- The ramp of slot `n`. -/
def State.slotRamp (s : State) (n : Nat) : Ramp :=
  ⟨SMap.get zeroW s.xg.held n, s.g (F.XING_RAMP_G n), s.on (F.XING_RAMP_DOWN n), s.on (F.XING_RAMP_UP n), SMap.get zeroW s.xg.last n⟩

def State.setSlotRamp (s : State) (n : Nat) (r : Ramp) : State :=
  let s := ((s.p (F.XING_RAMP_G n) r.g).flag (F.XING_RAMP_DOWN n) r.down).flag (F.XING_RAMP_UP n) r.up
  { s with xg := { s.xg with held := SMap.set zeroW s.xg.held n r.h, last := SMap.set zeroW s.xg.last n r.last } }

/-- Tasks whose output slots are affected in this tick: overrunning tasks, tasks that an undefined encoding has ended,
tasks that a region safe state keeps from running, and all that have one of them among their predecessors (R55, R132,
R301). Log 22, DEDUCED. -/
def State.affected (s : State) : Nat → List Nat → List Nat
  | 0, ts => ts
  | n + 1, ts =>
    let more := (s.ttTasks s.ttSel).filter (fun t => !ts.contains t && (s.ttPreds s.ttSel t).any ts.contains)
    if more = [] then ts else s.affected n (ts ++ more)

/-- Log 22, DEDUCED; log 24, DEDUCED. -/
def State.lostTasks (s : State) : List Nat :=
  s.affected 128 ((s.ttTasks s.ttSel).filter (fun t =>
    s.runOf t == .halted || s.runOf t == .notStarted || s.runOf t == .excluded || s.runOf t == .ill))

/-- The slot whose ramp a distribute Crossing takes. Log 22, DEDUCED. -/
def State.rampSlot (s : State) (e : Nat) : Option Nat :=
  let x := s.xSel
  if s.xTagEn x e then some (s.xTag x e)
  else if epKind (s.xSrc x e) = .slot then some (epArg (s.xSrc x e)) else none

/-! ## The distribute (R48, R50, R186) -/

/-- Samples of elements as they pass to the Levee: word at key 96 × sample + element. Log 23, DEDUCED. -/
def outputCrc (n : Nat) (els : SMap Word) : Word := crc32 ((List.range (96 * n)).map (SMap.get zeroW els))

/-- The element words of `ws` if destination `p` is a slot that its port serves, bound to an element. -/
def State.elWords (s : State) (p : Nat) (ws : List Word) (els : SMap Word) : SMap Word :=
  if epKind p = .sap ∧ epTdm p < s.sapSlots (epPort p) then
    match s.elAt (epPort p) (epTdm p) with
    | some e => (ws.zipIdx).foldl (fun m q => SMap.set zeroW m (96 * q.2 + e) q.1) els
    | none => els
  else els

/-- A distribute Crossing writes `ws` to destination `p`; false where it cannot be served. -/
def State.distWrite (s : State) (p : Nat) (ws : List Word) : State × Bool :=
  let js := List.range s.nSamp
  match epKind p with
  | .slot => (((js.map (slotByte (epArg p))).zip ws).foldl (fun s q => s.writeW q.1 q.2) s, true)
  | .clbuf => (((js.map (clbufByte p)).zip ws).foldl (fun s q => s.writeW q.1 q.2) s, true)
  | .sap =>
    if epTdm p < s.sapSlots (epPort p) then (s.sapDeliver (epPort p) (epTdm p) s.tick ws, true) else (s, false)
  | .flow => if s.flowTakes (epFlow p) (epChan p) then (s.flowDeliver (epFlow p) (epChan p) ws, true) else (s, false)
  | _ => (s, true)

/-- One distribute Crossing, with `lost` the slots that ramp and `start` the state in which the phase began: its element
words go to `els`. -/
def State.distOne (start : State) (lost : Nat → Bool) (a : State × SMap Word) (m : Moved) : State × SMap Word :=
  let x := start.xSel
  let p := start.xDst x m.e
  let ramped : State × List Word :=
    match start.rampSlot m.e with
    | some n =>
      let r := (start.slotRamp n).tick (m.ws.map (fun w => if lost n then none else some w))
      (a.1.setSlotRamp n r.1, r.2)
    | none => (a.1, m.ws)
  let c := ramped.1.convertAll (start.xConv x m.e) ramped.2
  let w := c.1.distWrite p c.2
  (if w.2 then w.1 else w.1.xMiss m.e, start.elWords p c.2 a.2)

/-- Whether slot `n` is a declared output slot of one of `ts`. -/
def State.declaredBy (s : State) (ts : List Nat) (n : Nat) : Bool := ts.any (fun t => s.ttDeclares s.ttSel t n)

/-- The distribute of the tick in progress, without the entries in `skip`: its output CRC is formed. -/
def State.distribute (s : State) (skip : List Nat) : State :=
  let ts := s.lostTasks
  let r := s.readPhase ((s.xRun true).filter (fun e => !skip.contains e))
  let d := r.2.foldl (r.1.distOne (r.1.declaredBy ts)) (r.1, [])
  { d.1 with pr := { d.1.pr with crc := outputCrc s.nSamp d.2 } }

/-- The CRC that the distribute of a replay gives; nothing is written (R271). -/
def State.replayCrc (s : State) : State × Word :=
  let x := s.xSel
  let r := s.readPhase (s.xRun true)
  (r.1, outputCrc s.nSamp (r.2.foldl (fun els m =>
    s.elWords (s.xDst x m.e) (m.ws.map (fun w => (crossConv (s.xConv x m.e) w).1)) els) []))

end Sys2Proof.Machine
end

