-- ==== Sys2Proof/Machine/Tick.lean ====
section
/-!
DEFINITION. The tick (spec/02): starting and stopping (R33 to R44), the phases (R45 to R49), what a boundary does (R63),
shadow checking at the end of a tick (R79), tick overrun (R55 to R60), dispatch and completion of tasks (R148, R150).
-/
namespace Sys2Proof.Machine

/-! ## Shadow checking at the end of a tick (R79 to R82) -/

/-- SHADOW_STAT.UNPROT of cluster `c` (R82). -/
def State.showUnprot (s : State) (c : Nat) : State :=
  s.flag (F.SHADOW_STAT_UNPROT c) (s.on (F.LANE_MAP_RETIRED c) || s.on (F.SHADOW_STAT_SPARE_FAIL c) || !s.on (F.SHADOW_CTL_EN c))

/-- The states of R79. -/
def shNormal : Nat := 0
def shRecheck : Nat := 1
def shConfirm : Nat := 2
def shRetiring : Nat := 3
def shOff : Nat := 4

def State.shadowGo (s : State) (c n : Nat) : State := s.p (F.SHADOW_STAT_STATE c) n

/-- A mismatch of lane `l` in the tick `ended` is recorded, and the lane is under suspicion. -/
def State.shadowSuspect (s : State) (c l ended : Nat) : State :=
  let k := s.clu c
  (s.setClu c { k with mmTick := SMap.insert k.mmTick l ended }).p (F.SHADOW_STAT_L c) l

/-- LANE_S takes the logical number of lane L, which a lane-retire reaction has named (R81, R292). Log 17, DEDUCED. -/
def State.laneRetire (s : State) (c : Nat) : State :=
  let l := s.g (F.SHADOW_STAT_L c)
  let k := s.clu c
  let old := SMap.get zeroLane k.lanes l
  let spare := SMap.get zeroLane k.lanes 16
  let lanes := SMap.set zeroLane (SMap.set zeroLane k.lanes 16 { spare with ofs := old.ofs }) l { Lane.zero with lstat := old.lstat }
  let s := s.setClu c { k with lanes := lanes, retHeld := 0 }
  ((s.flag (F.LANE_MAP_RETIRED c) true).p (F.LANE_MAP_RETIRED_LANE c) l).shadowGo c shOff

/-- The row of R79 for the tick `ended`, in state NORMAL, RECHECK or CONFIRM. Where EN is 0 that row wins over the rows of
the tick, which R79 does not order. Log 71, DESIGN CHOICE. -/
def State.shadowJudge (s : State) (c ended : Nat) : State :=
  let k := s.clu c
  let st := s.g (F.SHADOW_STAT_STATE c)
  let ptr := s.g (F.SHADOW_STAT_PTR c)
  let l := s.g (F.SHADOW_STAT_L c)
  if !s.on (F.SHADOW_CTL_EN c) then (s.setClu c { k with mmTick := [] }).shadowGo c shOff
  else if !k.ran then s
  else if st = shNormal then
    if k.mm then
      let again := match SMap.find k.mmTick ptr with | some t => decide (ended ≤ t + 63) | none => false
      (s.shadowSuspect c ptr ended).shadowGo c (if again then shConfirm else shRecheck)
    else s.p (F.SHADOW_STAT_PTR c) ((ptr + 1) % 16)
  else if st = shRecheck then
    if k.mm then (s.shadowSuspect c l ended).shadowGo c shConfirm
    else (s.p (F.SHADOW_STAT_PTR c) ((l + 1) % 16)).shadowGo c shNormal
  else if k.mm then
    ((s.flag (F.SHADOW_STAT_SPARE_FAIL c) true).emit Kind.spareFail (Src.cluster c 0) k.mmAddr).shadowGo c shOff
  else s.shadowGo c shRetiring

/-- Cluster `c` at the end of the tick `ended`, with `next` the number of the tick that begins. Log 17, DEDUCED. -/
def State.shadowOne (s : State) (ended next c : Nat) : State :=
  let st := s.g (F.SHADOW_STAT_STATE c)
  let s :=
    if st < shRetiring then s.shadowJudge c ended
    else if st = shOff ∧ s.on (F.SHADOW_CTL_EN c) ∧ !s.on (F.LANE_MAP_RETIRED c) ∧ !s.on (F.SHADOW_STAT_SPARE_FAIL c) then
      (s.p (F.SHADOW_STAT_PTR c) (next % 16)).shadowGo c shNormal
    else s
  let s := if s.g (F.SHADOW_STAT_STATE c) = shRetiring ∧ (s.clu c).retHeld.testBit (s.g (F.SHADOW_STAT_L c)) then s.laneRetire c else s
  (s.setClu c { s.clu c with ran := false, mm := false }).showUnprot c

/-- Log 17, DEDUCED. -/
def State.shadowEnd (s : State) (ended next : Nat) : State := (List.range 16).foldl (fun s c => s.shadowOne ended next c) s

/-- The pointer starts anew in the first tick of a run. -/
def State.shadowFirst (s : State) (k : Nat) : State :=
  (List.range 16).foldl (fun s c => if s.g (F.SHADOW_STAT_STATE c) = shNormal then s.p (F.SHADOW_STAT_PTR c) (k % 16) else s) s

/-- At the 0.80T mark a confirmation without mismatch emits LANE_FAIL (R79, R80). Log 17, DEDUCED. -/
def State.laneFails (s : State) : State :=
  (List.range 16).foldl (fun s c =>
    let k := s.clu c
    if s.g (F.SHADOW_STAT_STATE c) = shConfirm ∧ k.ran ∧ !k.mm then
      s.emit Kind.laneFail (Src.cluster c (s.g (F.SHADOW_STAT_L c))) k.lastWord
    else s) s

/-! ## The boundary (R37, R43, R46, R63) -/

/-- The first multiple of N at or after `m`. -/
def State.ceilN (s : State) (m : Nat) : Nat := (m + s.nSamp - 1) / s.nSamp * s.nSamp

/-- The first boundary of a start that is pending: its tick number and MTC, where it can fall (R43, R410). A multiple of N
that the MTC has passed, or was set past, is none. Only a device strapped as manager starts ticks of its own: the spec does
not say which device is standalone. Log 20, DEDUCED; log 70, DESIGN CHOICE. -/
def State.startPoint (s : State) : Option (Nat × Nat) :=
  if s.manager then
    some (s.tick + 1, s.ceilN (max (s.tm.startMtc + if s.tm.startMid then 3 else 2) (s.tm.mtc.toNat + 1)))
  else if s.tm.aligned then
    match s.cur.bind (fun r => SMap.find s.fb.timed (r - 8)) with
    | some t => some (t.1 + 1, t.2 + s.nSamp)
    | none => none
  else none

/-- The core clock selected takes effect (R506). -/
def State.coreClkBoundary (s : State) : State := s.p F.PWR_CLK_CUR (s.g F.PWR_CLK_SEL)

/-- The banks that R177 holds out of retention are awake. Log 43, DEDUCED. -/
def State.wakeHeld (s : State) : State :=
  let held := fun (b : Nat) => (decide (b < 256) && s.xHolds true (b / 16)) || (decide (272 ≤ b) && decide (b < 400) && s.xHolds false ((b - 272) / 32))
  { s with mx := { s.mx with ret := s.mx.ret.filter (fun e => !held e.1) } }

/-- A sample period begins: a change of rate (R36) and the MCLK_OUT configurations (R358) take effect. -/
def State.periodStart (s : State) : State :=
  (if s.tm.fsNew then
    ({ s with tm := { s.tm with fsNew := false, fs := s.g F.TICK_CFG_FS_SEL } } : State).sapRateChange.moutLimits
  else s).moutBoundary

/-- The boundary at which tick `k` begins, with MTC `m`; `first` where a run begins. -/
def State.boundary (s : State) (k m : Nat) (first : Bool) : State :=
  let s := s.shadowEnd s.tick k
  let s := if first then s else s.crcBoundary
  let s := { s with tm := { s.tm with tick := BitVec.ofNat 64 k, mtc := BitVec.ofNat 64 m, phase := .gather, gathered := false } }
  let s := (if first then s.shadowFirst k else s).periodStart
  let s := s.coreClkBoundary.roleBoundary.endSafes
  let s := (s.ferryBoundary.mediaBoundary m).coefAdvance
  let forced := s.fc.ovr.any (fun e => (SMap.find s.fc.fix e.1).isSome)
  let s := ((s.forecastBoundary k first).actionsBoundary k m first).sigBoundary.wakeHeld.flowBoundary.moorBoundary
  let s := s.pairCounts.heartbeatBoundary.rebindAll
  let s := { s with pr := { s.pr with nocheck := forced } }
  let s := (s.flowsGather k m).capBegin false
  ((List.range 24).foldl (fun s n => s.sapGather n m) s).gather

/-- TICK_BOUNDARY (R37): the next boundary falls, `edges` of the time clock after the last sample of the PTP counter. While
ticks are stopped and no start can begin, or where RUN has been cleared, no boundary falls. Log 1, DESIGN CHOICE; log 20, DEDUCED. -/
def execTickBoundary (edges : Nat) (s : State) : Host.Outcome State Fault Refusal :=
  if s.running then
    if s.on F.TICK_CTL_RUN then .next ((s.ptpRun edges).boundary (s.tick + 1) (s.mtcOf (s.tick + 1)) false) else .next s
  else if s.on F.TICK_STAT_START_PENDING then
    let s := s.workerStart
    match s.startPoint with
    | none => .next s
    | some (k, m) =>
      let s := (s.ptpRun edges).wr64 R.TIME_BASE_MTC_LO R.TIME_BASE_MTC_HI m
      let s := s.wr64 R.TIME_BASE_TICK_LO R.TIME_BASE_TICK_HI k
      let s := (s.flag F.TICK_STAT_START_PENDING false).flag F.TICK_STAT_RUNNING true
      .next (s.boundary k m true)
  else .next s

/-- The point where the next boundary would have fallen, with RUN cleared (R44). The rows of R79 for the last
tick are judged here, a retirement among them, though no boundary falls. Log 2, DESIGN CHOICE; log 73, DESIGN CHOICE. -/
def State.ticksStop (s : State) : State :=
  if s.running ∧ !s.on F.TICK_CTL_RUN then
    let m := s.mtcOf (s.tick + 1)
    let s := (s.forecastStop.shadowEnd s.tick (s.tick + 1)).crcBoundary
    let s := (s.flag F.TICK_STAT_RUNNING false).p F.PWR_STAT_STATE 1
    let s := { s with tm := { s.tm with mtc := BitVec.ofNat 64 m, phase := .stopped, gathered := false } }
    let s := s.boundEls.foldl (fun s e => if s.standby then s else s.gainIdle e 1) s.periodStart
    s.coreClkBoundary.endSafes.moorBoundary.rebindAll
  else s

/-- SAMPLE_BOUNDARY (R36): a sample period begins that is not the first of a tick. -/
def execSampleBoundary (s : State) : Host.Outcome State Fault Refusal :=
  let m := s.tm.mtc.toNat + 1
  let held := if s.running then m == s.mtcOf (s.tick + 1)
    else s.on F.TICK_STAT_START_PENDING && s.manager && (match s.startPoint with | some p => m == p.2 | none => false)
  if held ∨ s.pw.held ∨ s.pw.dormant then .next s
  else
    let s := { s with tm := { s.tm with mtc := BitVec.ofNat 64 m } }
    let s := if s.running then s else s.boundEls.foldl (fun s e => if s.standby then s else s.gainIdle e 1) s
    .next s.periodStart

/-! ## Phases (R47 to R49, R55, R60) -/

/-- GATHER_COMPLETE (R47): all four engines have completed the gather. Log 2, DESIGN CHOICE; log 21, DEDUCED. -/
def execGatherComplete (s : State) : Host.Outcome State Fault Refusal :=
  if !s.running ∨ s.tm.gathered then .next s
  else
    let s := if s.tm.phase ≠ .gather then (s.flag F.TICK_STAT_GATHER_LATE true).inc R.TIME_GATHER_LATE_CNT else s
    .next (({ s with tm := { s.tm with gathered := true } } : State).recordCopy.catchStep 8)

/-- The 0.08T mark (R47). `missed` is given where the Ferry has not read every line of the consignment
by now: the messages of it that have left (R259). -/
def State.windowOpen (s : State) (missed : Option Nat) : State :=
  if s.running ∧ s.tm.phase = .gather then
    let s := { s with tm := { s.tm with phase := .window } }
    let s := s.capEnd false
    let s := match missed with | some n => s.abandon n | none => s
    let s := if s.selects ∧ !s.chipSafe then s.wakeClusters else s
    s.lateTakeover.replayStart.bistStart
  else s

/-- The tasks that the mark finds running, and those not begun (R55). -/
def State.stillRunning (s : State) (t : Nat) : Bool :=
  s.runOf t == .running && (s.ttClusters s.ttSel t).any (fun c =>
    s.issuing c && s.on (F.CL_TASK_ACTIVE c) && s.g (F.CL_TASK_TASK c) == t)

/-- Whether this tick's tasks are judged for overrun: not on a standby, nor in chip safe state. -/
def State.judged (s : State) : Bool :=
  !s.chipSafe && (s.selects || (match s.pr.take with | some t => s.role == 4 && t.k == s.tick && t.m != 0 | none => false))

/-- Whether a takeover closes without having begun its last catch-up tick. -/
def State.takeUnrun (s : State) : Bool :=
  match s.pr.take with
  | some t => s.role == 4 && !t.ran && t.running != some t.k
  | none => false

/-- The halts of the mark: every running task halts; tasks not begun are not started (R55, R139). -/
def State.halts (s : State) : State :=
  let ts := s.ttTasks s.ttSel
  let judged := s.judged
  let unrun := s.takeUnrun
  let s := ts.foldl (fun s t =>
    if s.stillRunning t then s.setRun t .halted
    else if judged ∧ (s.runOf t = .waiting ∨ unrun) then s.setRun t (if s.taskHeld t then .excluded else .notStarted)
    else s) s
  (List.range 16).foldl (fun s c => if s.issuing c then (s.haltCluster c).flag (F.CL_STAT_HALT_080 c) true else s) s

/-- A tick overrun (R60). -/
def State.overrun (s : State) : State :=
  let ts := (s.ttTasks s.ttSel).filter (fun t => s.runOf t == .halted || s.runOf t == .notStarted)
  match ts with
  | [] => { s with fc := { s.fc with ovr := [] } }
  | t :: _ =>
    if !s.judged then s
    else
      let s := (s.flag F.TICK_STAT_OVERRUN true).inc R.TIME_OVERRUN_CNT
      let s := s.wr R.TIME_LAST_OVR (BitVec.ofNat 32 (s.tick % 2 ^ 25 * 2 ^ 7 + t))
      let s := s.emit Kind.tickOverrun Src.forecast
      ({ s with pr := { s.pr with wasOverrun := true } } : State).overrunTiers

/-- Clusters of a safe region, or of a chip in safe state, are power-gated (R301, R302). Log 29, DEDUCED. -/
def State.gateSafe (s : State) : State :=
  (List.range 16).foldl (fun s c =>
    if (s.chipSafe || s.regionSafe (c / 4)) && s.g (F.CL_STAT_STATE c) != 0 then
      let s := if s.g (F.CL_STAT_STATE c) = 5 then s.completeTask c 0 else s
      s.powerOff c
    else s) s

/-- COMPUTE_WINDOW_CLOSE (R55): the 0.80T mark. `meas` is the VDD_CORE energy of the tick in 0.1 nJ where the monitor is
valid; `skip` lists the distribute entries that the engines will not have executed by the 0.90T mark (R48). Log 28, DEDUCED. -/
def execComputeWindowClose (meas : Option Nat) (skip : List Nat) (s : State) : Host.Outcome State Fault Refusal :=
  if s.running ∧ (s.tm.phase = .gather ∨ s.tm.phase = .window) then
    let s := { s with tm := { s.tm with phase := .distribute }, xg := { s.xg with late := skip != [] } }
    let s := (s.halts.laneFails.overrun).monitor meas
    let s := { s with fc := { s.fc with meas := meas } }
    let s := s.bistEnd.gateClusters.gateSafe.takeClose
    let s : State :=
      match s.pr.replay with
      | some _ =>
        if (s.ttTasks s.ttSel).any (fun t => s.runOf t == .halted || !s.taskOver t) then s.replayEnd none
        else let r := s.replayCrc; r.1.replayEnd (some r.2)
      | none => s
    .next ((if s.standby then s else s.distribute skip).capBegin true)
  else .next s

/-- The distribute missed the 0.90T mark (R48). -/
def State.distLate (s : State) : State :=
  if s.xg.late then
    let s := ((s.flag F.TICK_STAT_DIST_LATE true).inc R.TIME_DIST_LATE_CNT).emit Kind.distLate Src.time
    { s with xg := { s.xg with late := false }, pr := { s.pr with wasDistLate := true } }
  else s

/-- Elements that the tick brought no samples advance with zeros (R229). -/
def State.unfed (s : State) : State :=
  s.boundEls.foldl (fun s e =>
    if (s.el e).fed then s.setEl e { s.el e with fed := false } else if s.standby then s else s.gainIdle e s.nSamp) s

/-- Whether an output slot ramps (R56, R57). -/
def State.slotRamps (s : State) : Bool :=
  s.lostTasks.any (fun t => (s.ttOuts s.ttSel t).any (fun o => o.2 != 0)) ||
    s.regs.any (fun e => decide (R.XING_RAMP 0 ≤ e.1) && decide (e.1 ≤ R.XING_RAMP 4095) && e.2 != resetWord e.1)

/-- The 0.90T mark (R49). `sent` is the number of messages of the consignment in flight that have left
(R259). Log 2, DESIGN CHOICE; log 28, DEDUCED. -/
def State.consignPhase (s : State) (sent : Nat) : State :=
  if s.running ∧ s.tm.phase = .distribute then
    let s := { s with tm := { s.tm with phase := .consign } }
    let s := match s.fc.meas with | some e => s.calibrate e | none => s
    let s := if s.selects then s.observe else s
    let s := (s.distLate.unfed).capEnd true
    let s := (List.range 24).foldl State.sapAppend s
    let no := s.pr.nocheck || s.pr.wasOverrun || s.pr.wasDistLate || s.slotRamps
    let s := { s with pr := { s.pr with vec := s.tierVector, nocheck := no } }
    let s := s.ferryConsign sent
    let s := if s.selects || s.pr.next == some 2 then s.select (s.tick + 1) (s.fc.ttTicks + 1) else s
    s.bridgeQueue
  else s

/-! ## Dispatch and completion (R148, R150, R265) -/

/-- TASK_DISPATCH (R148). -/
def execTaskDispatch (t : Fin 128) (s : State) : Host.Outcome State Fault Refusal :=
  if s.tm.phase = .window ∧ s.tm.gathered ∧ s.dispatchable t then
    match s.directed t with
    | some d => .next (s.startTask t d.1 d.2.1 (BitVec.ofNat 32 d.2.2))
    | none =>
      if s.selects then
        let s := s.forcedTier t
        .next (s.startTask t (s.tierOf t).values (s.coefValues t) (s.tm.tick.setWidth 32))
      else .next s
  else .next s

/-- CLUSTER_WAKE_DONE (R150). -/
def execClusterWakeDone (c : Fin 16) (s : State) : Host.Outcome State Fault Refusal := .next ((s.wakeDone c).catchStep 8)

/-- TASK_COMPLETE (R138): `late` cycles after the two that follow the end of issue. -/
def execTaskComplete (c : Fin 16) (late : Nat) (s : State) : Host.Outcome State Fault Refusal :=
  if s.g (F.CL_STAT_STATE c) = 5 then .next ((s.completeTask c late).catchStep 8) else .next s

/-! ## Starting, stopping, and setting the counts (R33, R34, R39, R41 to R44) -/

/-- A write of `v` to TICK_CFG (R34, R42). Reserved codes keep their field (R11). Log 19, DEDUCED. -/
def State.tickCfgWrite (s : State) (v : Word) : State :=
  let v := if 6 ≤ F.TICK_CFG_FS_SEL.of v then s.keep F.TICK_CFG_FS_SEL v else v
  let v := if 6 ≤ F.TICK_CFG_N_LOG2.of v then s.keep F.TICK_CFG_N_LOG2 v else v
  if s.running ∨ s.on F.TICK_STAT_START_PENDING ∨ (F.TICK_CFG_N_LOG2.of v = 0 ∧ 4 ≤ F.TICK_CFG_FS_SEL.of v) then
    s.flag F.TICK_STAT_CFG_REFUSED true
  else
    let new := F.TICK_CFG_FS_SEL.of v != s.tm.fs
    let s := if F.TICK_CFG_FS_SEL.of v = s.g F.TICK_CFG_FS_SEL then s.fieldWrite R.TICK_CFG v
      else (s.fieldWrite R.TICK_CFG v).clkRateChange
    ({ s with tm := { s.tm with fsNew := new }, pr := { s.pr with sigDirty := true } } : State).xRecheck.flowsCleared.cfgJudge

/-- TICK_CFG_WRITE (R42). -/
def execTickCfgWrite (v : Word) (s : State) : Host.Outcome State Fault Refusal := .next (s.tickCfgWrite v).ok

/-- A write of `v` to TICK_CTL (R43, R44, R510); `mid` where it takes effect after the start of the sample period in
progress, as any write does that does not fall on that instant itself. Log 20, DEDUCED. -/
def State.tickCtlWrite (s : State) (v : Word) (mid : Bool := true) : State :=
  if v.getLsbD 0 = s.on F.TICK_CTL_RUN then s
  else if v.getLsbD 0 then
    let s := s.flag F.TICK_CTL_RUN true
    if s.running then s
    else
      let s := ((s.flag F.TICK_STAT_START_PENDING true).p F.PWR_STAT_STATE 2).wakeHeld
      ({ s with tm := { s.tm with startMtc := s.tm.mtc.toNat, startMid := mid, aligned := false } } : State).workerStart
  else
    let s := (s.flag F.TICK_CTL_RUN false).flag F.TICK_STAT_START_PENDING false
    let s := if s.running then s else s.p F.PWR_STAT_STATE 1
    { s with tm := { s.tm with aligned := false } }

/-- TICK_RUN and TICK_STOP (R43, R44): a write of TICK_CTL with RUN = 1, or RUN = 0. Log 20, DEDUCED. -/
def execTickRun (mid : Bool) (s : State) : Host.Outcome State Fault Refusal := .next (s.tickCtlWrite 1#32 mid).ok
def execTickStop (s : State) : Host.Outcome State Fault Refusal := .next (s.tickCtlWrite 0#32).ok

/-- A write of `v` to TIME_MTC_SET_HI (R39). A start that is pending keeps the sample periods it has waited. Log 20, DEDUCED. -/
def State.mtcSet (s : State) (v : Word) : State :=
  let x := v ++ s.tm.mtcSetLo
  if s.running ∨ x.toNat < s.tm.mtc.toNat then s.flag F.TICK_STAT_SET_REFUSED true
  else { s with tm := { s.tm with mtc := x, startMtc := x.toNat - (s.tm.mtc.toNat - s.tm.startMtc) } }

/-- MTC_SET (R39). Log 20, DEDUCED. -/
def execMtcSet (v : Word) (s : State) : Host.Outcome State Fault Refusal := .next (s.mtcSet v).ok

/-- A write of `v` to TIME_TICK_SET_HI (R39). -/
def State.tickSet (s : State) (v : Word) : State :=
  let x := v ++ s.tm.tickSetLo
  if s.running ∨ x.toNat < s.tick then s.flag F.TICK_STAT_SET_REFUSED true
  else { s with tm := { s.tm with tick := x } }

/-- TICK_SET (R39). -/
def execTickSet (v : Word) (s : State) : Host.Outcome State Fault Refusal := .next (s.tickSet v).ok

/-- A read of TIME_MTC_LO: its samples agree, or not (`stale`). -/
def State.mtcRead (s : State) (stale : Bool) : State × Word :=
  let s := if stale then (s.flag F.TICK_STAT_MTC_STALE true).emit Kind.cdcStale Src.time R.TIME_MTC_LO
    else ({ s with tm := { s.tm with mtcShown := s.tm.mtc } } : State).flag F.TICK_STAT_MTC_STALE false
  (s.setLatch R.TIME_MTC_HI ((s.tm.mtcShown >>> 32).setWidth 32), s.tm.mtcShown.setWidth 32)

/-- MTC_READ (R41). -/
def execMtcRead (stale : Bool) (s : State) : Host.Outcome State Fault Refusal :=
  let r := s.mtcRead stale
  .next (r.1.send (.resp false [r.2]))

end Sys2Proof.Machine
end

