-- ==== Sys2Proof/Machine/Power.lean ====
section
/-!
DEFINITION. Power, resets and power states (spec/18): supplies (R501 to R504), adaptive voltage and core clock (R505, R506),
sensors and the thermal trip (R507, R508), resets (R503, R514 to R516), DORMANT (R510 to R513).
-/
namespace Sys2Proof.Machine

def State.pwrRefused (s : State) : State := s.flag F.PWR_EVT_CFG_REFUSED true

/-! ## Levels of the supplies (R501, R502, R503) -/

/-- The nominal of supply `i` in mV. -/
def State.nominal (s : State) (i : Nat) : Nat :=
  if i = 0 then s.g F.PWR_AVS_APPLIED_MV
  else if i < 7 then #[800, 800, 900, 1200, 1800, 3300].getD (i - 1) 0
  else if s.pw.bank33.testBit (i - 7) then 3300 else 1800

/-- Whether a supply at `uv` µV is at or below `pm` thousandths of its nominal. -/
def State.supplyAtOrBelow (s : State) (i uv pm : Nat) : Bool := decide (uv ≤ pm * s.nominal i)

/-- The nominal at which a bank at `mv` mV is identified, 3.3 V or not; none where it is in neither range. -/
def bankNominal (mv : Nat) : Option Bool :=
  if 1710 ≤ mv ∧ mv ≤ 1890 then some false else if 3135 ≤ mv ∧ mv ≤ 3465 then some true else none

/-- The mask of 3.3 V banks among the six, where every one is identified. -/
def banksFound (mv : List Nat) : Option Nat :=
  (List.range 6).foldl (fun m g => match m, bankNominal (mv.getD g 0) with
    | some m, some b => some (if b then m ||| 2 ^ g else m)
    | _, _ => none) (some 0)

/-- PWR_EN_CORE, the enable of the VDD_CORE regulator (R511, R529): low in DORMANT, and in the power-on reset that
POWER_ON_RESET makes as a whole. -/
def State.pwrEnCore (s : State) : Bool := !s.pw.dormant

/-! ## Resets (R503, R514, R515) -/

/-- What a device reset leaves in a register of the LEVEE block that holds `v` (R232). Log 60, DEDUCED. -/
def sealKept (a : Nat) (v : Word) : Word :=
  if a = R.LEVEE_SEAL then v
  else (fieldsAt a).foldl (fun w f => if f.acc = .seal then putBits w f.hi f.lo (bitsOf v f.hi f.lo) else w) (resetWord a)

/-- Registers outside the LEVEE block that a device reset leaves: those of the always-on domain (R514), and what power-on
reset measured. Log 7, DESIGN CHOICE. -/
def alwaysOn : List Nat := [R.PWR_RST_CAUSE, R.PWR_WAKE_VEC, R.PWR_AVS_TGT]

/-- The registers after a device reset. Log 60, DEDUCED. -/
def State.keptRegs (s : State) : SMap Word :=
  s.regs.foldl (fun m e =>
    if e.1 ∈ alwaysOn then SMap.set resetWord m e.1 e.2
    else if e.1 / 0x10000 = 0x0303 then SMap.set resetWord m e.1 (sealKept e.1 e.2)
    else m) []

/-- The test logic is no part of the reset; the boundary cells give up the balls, unless their instruction is still in
force (R538). Log 64, DEDUCED. -/
def JtagIr.owns : JtagIr → Bool
  | .extest => true
  | .extestPulse => true
  | .extestTrain => true
  | .highz => true
  | .clamp => true
  | _ => false

/-- A device reset begins: everything but the always-on domain takes its reset value, and the reset is held. Commands that
wait, what has left the device, and the counter of free values are the model's own. Log 60, DEDUCED. -/
def State.deviceReset (s : State) : State :=
  ({ State.reset with
      pending := s.pending, out := s.out, freeCtr := s.freeCtr, regs := s.keptRegs
      lv := { Levee.reset with bad := s.lv.bad }
      pw := { s.pw with held := true, dormant := false, boot := .done, core := none, owned := s.pw.ir.owns } } : State).leveeReset

/-- PWR_AVS_TGT with each of its three voltages within 650 to 850 mV (R505). -/
def avsClamp (v : Word) : Word :=
  let f := fun (n : Nat) => min 850 (max 650 (bitsOf v (10 * n + 9) (10 * n)))
  BitVec.ofNat 32 (f 2 * 2 ^ 20 + f 1 * 2 ^ 10 + f 0)

/-- A power-on reset begins, with the least voltages `tgt` that the process monitors measure (R505): the always-on domain
is reset too, and the fuses take effect (R539). Log 6, DESIGN CHOICE; log 7, DESIGN CHOICE. -/
def State.powerOn (s : State) (tgt : Word) : State :=
  let pw := { Pwr.reset with held := true, boot := .done, fuse := s.pw.fuse, fuseIn := s.pw.fuse }
  ({ State.reset with pending := s.pending, out := s.out, freeCtr := s.freeCtr, pw := pw } : State).wr R.PWR_AVS_TGT
    (avsClamp tgt)

/-- CLK_STAT.XO (R339) for `n` oscillator periods in 32,768 periods of the crystal: a frequency within 1,000 ppm, or UNKNOWN. -/
def xoCode (n : Nat) : Nat :=
  let near := fun (f : Nat) => decide (999 * f ≤ 1000 * n ∧ 1000 * n ≤ 1001 * f)
  if near 24576000 then 0 else if near 22579200 then 1 else 2

/-- POWER_ON_RESET (R503): `xo` oscillator periods are counted in a second of the crystal. -/
def execPowerOnReset (tgt : Word) (xo : Nat) (s : State) : Host.Outcome State Fault Refusal :=
  .next ((s.powerOn tgt).p F.CLK_STAT_XO (xoCode xo))

/-- DEVICE_RESET (R514): RESET_N has been low for 1 µs (none), or supply `i` has stayed at `uv` µV for 0.5 µs, at or below its
reset level (R502). A cause that comes while the reset is held only extends it (R503). VDD_AON (2) below reset is a power-on
reset. Log 60, DEDUCED. -/
def execDeviceReset (i : Option (Fin 13)) (uv : Nat) (s : State) : Host.Outcome State Fault Refusal :=
  match i with
  | none => .next (if s.pw.held then s else s.deviceReset.flag F.PWR_RST_CAUSE_PIN true)
  | some i =>
    if !s.supplyAtOrBelow i uv 880 then .next s
    else if i = 2 then .next (s.powerOn (s.rd R.PWR_AVS_TGT))
    else if s.pw.held then .next s
    else .next ((s.deviceReset.flag F.PWR_RST_CAUSE_SUPPLY_RST true).p F.PWR_RST_CAUSE_SUPPLY i)

/-- A write of `v` to PWR_RST_CTL (R516): a reset answers nobody. -/
def State.rstCtlWrite (s : State) (v : Word) : State :=
  if bitsOf v 15 0 = 0xD0D0 then s.deviceReset.flag F.PWR_RST_CAUSE_SOFTWARE true else s.pwrRefused.ok

/-- SOFTWARE_RESET (R516). Log 60, DEDUCED. -/
def execSoftwareReset (v : Word) (s : State) : Host.Outcome State Fault Refusal := .next (s.rstCtlWrite v)

/-- The straps are latched (R24, R384): ROLE_SEL and BOOT_SRC. Log 6, DESIGN CHOICE. -/
def State.latchStraps (s : State) (role : Bool) (src : Nat) : State :=
  let s := (s.flag F.CHIP_STRAP_ROLE role).p F.CHIP_STRAP_BOOT_SRC src
  let s := s.flag F.CHIP_STRAP_STRAP_CONFLICT (role && src == 2)
  let s := (s.wr R.FAB_ID (if role then 0xC0000000#32 else 0)).flag F.HOST_CTL_LINK_EN role
  s.showTimed

def State.fuseWord (s : State) (n : Nat) : Word := SMap.get zeroW s.pw.fuseIn n

/-- The fuses are loaded (R515, R521). -/
def State.loadFuses (s : State) : State :=
  let s := (List.range 5).foldl (fun s i => s.wr (R.PERI_FUSE i) (s.fuseWord i)) s
  let s := (List.range 8).foldl (fun s i => s.wr (R.PERI_KEY_HASH i) (s.fuseWord (8 + i))) s
  let s := (s.wr R.FAB_SERIAL_LO (s.fuseWord 2)).wr R.FAB_SERIAL_HI (s.fuseWord 3)
  let key := (List.range 8).any (fun i => s.fuseWord (8 + i) != 0)
  (s.flag F.PWR_BOOT_STAT_SECURE ((s.fuseWord 4).getLsbD 0)).flag F.PWR_BOOT_STAT_KEY_SET key

/-- The boot engine begins with the source of the straps (R517, R24). -/
def State.bootBegin (s : State) : State :=
  let src := if s.on F.CHIP_STRAP_STRAP_CONFLICT then 3 else s.g F.CHIP_STRAP_BOOT_SRC
  let ph : BootPhase := if src = 0 then .qspi 0 else if src = 3 then .uart 0 else .wait
  ({ s with pw := { s.pw with boot := ph } } : State).p F.PWR_BOOT_STAT_SRC src

/-- RESET_END (R515): with the levels of ROLE_SEL and BOOT_SRC, the oscillator identified by its count, and the voltages of the
six port banks, each of which must lie in a range of R503. What
came while the reset was held is gone at its end. While TEST_EN is high the device holds itself in device reset (R527).
Log 6, DESIGN CHOICE; log 60, DEDUCED. -/
def execResetEnd (role : Bool) (src : Fin 4) (xo : Nat) (testEn : Bool) (banks : List Nat) (s : State) :
    Host.Outcome State Fault Refusal :=
  match banksFound banks with
  | some b =>
    if s.pw.held ∧ !testEn then
      let t := s.deviceReset
      let t : State := { t with pw := { t.pw with held := false, bank33 := b } }
      .next (((t.latchStraps role src).p F.CLK_STAT_XO (xoCode xo)).loadFuses.bootBegin.nglReset)
    else .next s
  | none => .next s

/-! ## Supplies (R502, R504, R171, R172) -/

/-- SUPPLY_WARN (R504): supply `i` has stayed at `uv` µV for 1 µs, at or below its warning level (R502), from above it. The
current monitor is not valid while VDD_CORE is (R509). Log 60, DEDUCED. -/
def execSupplyWarn (i : Fin 13) (uv : Nat) (s : State) : Host.Outcome State Fault Refusal :=
  if s.pw.held ∨ s.pw.dormant ∨ (s.g F.PWR_STAT_WARN).testBit i ∨ !s.supplyAtOrBelow i uv 930 then .next s
  else
    let s := if i = 0 then (s.flag F.PWR_IMON_VALID false).flag F.FCST_CAL_MON_VALID false else s
    let s := s.p F.PWR_STAT_WARN (s.g F.PWR_STAT_WARN ||| 2 ^ i.val)
    let s := (s.p F.PWR_EVT_WARN_SEEN (s.g F.PWR_EVT_WARN_SEEN ||| 2 ^ i.val)).inc R.PWR_WARN_CNT
    let s := s.emit Kind.supplyWarn (Src.power i)
    let s := ({ s with fc := { s.fc with supplyLow := true } } : State).forceGale
    .next s.forceSweep

/-- SUPPLY_RECOVERY (R502): supply `i` has stayed at `uv` µV for 1 ms, above its recovery level. When every supply has, the release of
R172 begins with the next boundary, unless a sensor loss still holds it. Log 27, DEDUCED. -/
def execSupplyRecovery (i : Fin 13) (uv : Nat) (s : State) : Host.Outcome State Fault Refusal :=
  let w := s.g F.PWR_STAT_WARN
  if w.testBit i ∧ !s.supplyAtOrBelow i uv 940 then
    let s := s.p F.PWR_STAT_WARN (w - 2 ^ i.val)
    if s.g F.PWR_STAT_WARN ≠ 0 then .next s
    else
      let due := if s.fc.senseLow ∨ s.fc.release then s.fc.relTick else some (s.tick + 1)
      .next { s with fc := { s.fc with supplyLow := false, relTick := due } }
  else .next s

/-! ## Adaptive voltage and core clock (R505, R506) -/

/-- The least VDD_CORE in mV for clock code `n`. Log 7, DESIGN CHOICE. -/
def State.avsTarget (s : State) (n : Nat) : Nat := bitsOf (s.rd R.PWR_AVS_TGT) (10 * n + 9) (10 * n)

/-- A write of `v` to PWR_AVS_APPLIED. -/
def State.avsWrite (s : State) (v : Word) : State :=
  let mv := bitsOf v 9 0
  if mv < 650 ∨ 850 < mv ∨ mv < s.avsTarget (s.g F.PWR_CLK_CUR) ∨ mv < s.avsTarget (s.g F.PWR_CLK_SEL) then s.pwrRefused
  else s.fieldWrite R.PWR_AVS_APPLIED v

/-- A write of `v` to PWR_CLK. -/
def State.clkSelWrite (s : State) (v : Word) : State :=
  let n := bitsOf v 1 0
  if n = 3 ∨ s.g F.PWR_AVS_APPLIED_MV < s.avsTarget n then s.pwrRefused
  else
    let s := s.p F.PWR_CLK_SEL n
    if s.running then s else s.coreClkBoundary

/-- AVS_APPLIED_WRITE (R505) and CORE_CLOCK_SELECT (R506). -/
def execAvsAppliedWrite (v : Word) (s : State) : Host.Outcome State Fault Refusal := .next (s.avsWrite v).ok
def execCoreClockSelect (v : Word) (s : State) : Host.Outcome State Fault Refusal := .next (s.clkSelWrite v).ok

/-! ## Sensors and the trip (R507 to R509) -/

/-- Whether a reading in 1/64 °C lies in the range of R507. -/
def tempInRange (t : Int) : Bool := decide (-3520 ≤ t ∧ t ≤ 9600)

/-- A read of PWR_TEMP[i]: its samples agree, or not (`stale`, R331, R332). -/
def State.tempRead (s : State) (i : Nat) (stale : Bool) : State × Word :=
  if stale then
    ((s.flag (F.PWR_TEMP_STALE i) true).emit Kind.cdcStale (Src.power i) (R.PWR_TEMP i),
     putBits (SMap.get zeroW s.pw.tempShown i) 30 30 1)
  else
    let s := s.flag (F.PWR_TEMP_STALE i) false
    ({ s with pw := { s.pw with tempShown := SMap.set zeroW s.pw.tempShown i (s.rd (R.PWR_TEMP i)) } }, s.rd (R.PWR_TEMP i))

/-- SENSOR_CONVERSION (R507): sensor `i` publishes reading `t` in 1/64 °C, its self-check passed or not. With it the current
monitor and the voltage of each supply are brought up to date. Log 3, DESIGN CHOICE; log 61, DEDUCED. -/
def execSensorConversion (i : Fin 8) (t : BitVec 16) (valid : Bool) (ma : BitVec 16) (mv : List (BitVec 16)) (s : State) :
    Host.Outcome State Fault Refusal :=
  let s := (s.p (F.PWR_TEMP_T i) t.toNat).flag (F.PWR_TEMP_VALID i) (valid && tempInRange t.toInt)
  let s := s.p F.PWR_IMON_MA ma.toNat
  .next (((mv.take 13).zipIdx).foldl (fun s x => s.wr (R.PWR_VMON x.2) (x.1.setWidth 32)) s)

/-- THERM_TRIP (R508): the comparator of sensor `i` has indicated 135 °C or above for 10 µs. Log 27, DEDUCED. -/
def execThermTrip (i : Fin 8) (s : State) : Host.Outcome State Fault Refusal :=
  if s.on F.PWR_STAT_TRIP ∨ s.pw.held ∨ s.pw.dormant then .next s
  else .next (((s.flag F.PWR_STAT_TRIP true).flag F.PWR_EVT_TRIP_SEEN true).emit Kind.thermTrip (Src.power i))

/-- THERM_TRIP_RELEASE (R508). -/
def execThermTripRelease (s : State) : Host.Outcome State Fault Refusal := .next (s.flag F.PWR_STAT_TRIP false)

/-! ## DORMANT (R510 to R513) -/

/-- Whether links and Ethernet ports permit DORMANT: a port whose EN reads 1 is on its way out of DISABLED (R365). Log 61, DEDUCED. -/
def State.mayDoze (s : State) : Bool :=
  (List.range 8).all (fun p => (s.nglState p == 0 && !s.on (F.NGL_CTL_EN p)) || s.nglState p == 7) && (List.range 2).all (fun p => !s.on (F.ETH_CTL_EN p))

/-- Entry to DORMANT (R511): control memory enters retention, every other memory loses its content, and the MTC and the
tick number are copied. -/
def State.doze (s : State) : State :=
  let s := (List.range 16).foldl (fun s b => s.setRet (400 + b) true) s
  { s with
    mem := s.mem.filter (fun e => decide (e.1 < 0x100000))
    mx := { s.mx with ecc := s.mx.ecc.filter (fun e => decide (e.1 < 0x100000)), wb := [] }
    pw := { s.pw with dormant := true, core := none, aonMtc := s.tm.mtc, aonTick := s.tm.tick } }

/-- A write of `v` to PWR_STATE_CTL (R510). Log 61, DEDUCED. -/
def State.stateCtlWrite (s : State) (v : Word) : State :=
  let t := s.wr R.PWR_STATE_CTL (v &&& 0x700#32)
  if !v.getLsbD 0 then t.ok
  else if s.g F.PWR_STAT_STATE = 2 ∨ !s.mayDoze then (t.flag F.PWR_EVT_STATE_REFUSED true).ok
  else t.doze

/-- DORMANT_ENTRY (R511): a write of `v` with DORMANT = 1. -/
def execDormantEntry (v : Word) (s : State) : Host.Outcome State Fault Refusal := .next (s.stateCtlWrite (v ||| 1#32))

/-- Whether wake source `w` is enabled and can act (R512). -/
def State.wakeEnabled (s : State) : WakeSrc → Bool
  | .pin => s.on F.PWR_STATE_CTL_WAKE_PIN
  | .link p => s.on F.PWR_STATE_CTL_WAKE_LINK && s.nglState p == 7
  | .host => s.on F.PWR_STATE_CTL_WAKE_HOST && s.manager

/-- The device as a wake leaves it (R513), with the straps and the oscillator as found. -/
def State.woken (s : State) (role : Bool) (src xo : Nat) : State :=
  let t := s.deviceReset
  let t := { t with
    mem := s.mem
    mx := { t.mx with ecc := s.mx.ecc }
    tm := { t.tm with mtc := s.pw.aonMtc, tick := s.pw.aonTick }
    pw := { t.pw with held := false } }
  let t := (((t.latchStraps role src).p F.CLK_STAT_XO (xoCode xo)).loadFuses.flag F.PWR_RST_CAUSE_WAKE true).nglReset
  { t with pw := { t.pw with core := some (4 * t.g F.PWR_WAKE_VEC_VEC) } }

/-- WAKE (R512). With TEST_EN high at its end the device holds itself in device reset (R527). -/
def execWake (w : WakeSrc) (role : Bool) (src : Fin 4) (xo : Nat) (testEn : Bool) (s : State) : Host.Outcome State Fault Refusal :=
  if s.pw.dormant ∧ s.wakeEnabled w then .next (if testEn then s.deviceReset else s.woken role src xo) else .next s

end Sys2Proof.Machine
end

