-- ==== Sys2Proof/Machine/Boot.lean ====
section
/-!
DEFINITION. The boot engine (spec/18): the image format (R517), its checks (R518), the sources (R519) and release (R520).
-/
namespace Sys2Proof.Machine

/-! ## Images (R517) -/

/-- The `n` bytes of an image from offset `o`, and its 32-bit word there. -/
def imgBytes (b : List Byte) (o n : Nat) : List Byte := (b.drop o).take n
def imgWord (b : List Byte) (o : Nat) : Word :=
  let x := b.drop o
  x.getD 3 0 ++ x.getD 2 0 ++ x.getD 1 0 ++ x.getD 0 0

/-- Fields of the header. -/
def imgTotal (b : List Byte) : Nat := (imgWord b 8).toNat
def imgSigned (b : List Byte) : Bool := (imgWord b 4).getLsbD 8
def imgSections (b : List Byte) : Nat := bitsOf (imgWord b 4) 7 0

/-- A section of an image. -/
structure Section where
  dest : Nat
  len : Nat
  off : Nat
  crc : Word
  deriving DecidableEq, Repr

def imgSection (b : List Byte) (i : Nat) : Section :=
  let w := fun k => imgWord b (64 + 16 * i + 4 * k)
  ⟨(w 0).toNat, (w 1).toNat, (w 2).toNat, w 3⟩

def imgTable (b : List Byte) : List Section := (List.range (imgSections b)).map (imgSection b)

/-- Where a staged image lies: region memory 0 (R519). -/
def stageBase : Nat := 0x02000000

/-- Whether a section lies in one permitted memory and in the image; of a staged image, also clear of its own copy. -/
def Section.placed (x : Section) (total : Nat) (staged : Bool) : Bool :=
  x.dest % 8 == 0 && x.len % 8 == 0 && x.off % 8 == 0 && decide (x.off + x.len ≤ total) &&
    (match memOf x.dest, memOf (x.dest + (x.len - 1)) with
     | some (k, _), some (j, _) => decide (k = j)
     | _, _ => false) &&
    !(staged && decide (x.dest < stageBase + total) && decide (stageBase < x.dest + x.len))

def overlap (x y : Section) : Bool := decide (x.dest < y.dest + y.len) && decide (y.dest < x.dest + x.len)

/-- Whether no two of the sections overlap. -/
def apart : List Section → Bool
  | [] => true
  | x :: l => l.all (fun y => !overlap x y) && apart l

/-- The fuse KEY_HASH (R521): byte 0 of the hash first. -/
def State.keyHash (s : State) : List Byte := (List.range 8).flatMap (fun i => wordBytes (s.fuseWord (8 + i)))

/-- Big-endian bytes of words. -/
def hashBytes (ws : List Word) : List Byte := ws.flatMap (fun w => (wordBytes w).reverse)

/-- The public key, r and s of a signed image. -/
def imgKey (b : List Byte) : List Byte := imgBytes b (imgTotal b - 128) 64
def imgSigOk (b : List Byte) : Bool :=
  let at_ := fun (o : Nat) => bytesNat (imgBytes b (imgTotal b - o) 32)
  ecdsaOk (at_ 128) (at_ 96) (at_ 64) (at_ 32) (wordsNat (sha256 (b.take (imgTotal b - 64))))

/-- Whether the length of an image is one the source can bring: at most 16 MB, or 2 MB where it is staged, and all there. -/
def imgLenOk (b : List Byte) (staged : Bool) : Bool :=
  decide (64 ≤ imgTotal b) && decide (imgTotal b ≤ if staged then 0x200000 else 0x1000000) && decide (imgTotal b ≤ b.length) &&
    (!imgSigned b || decide (192 ≤ imgTotal b))

/-- The first failing check of an image (R518); 0 where it is accepted. The length is judged as soon as the header stands. Log 62, DEDUCED. -/
def State.imgReason (s : State) (b : List Byte) (staged : Bool) : Nat :=
  if imgWord b 0 ≠ 0x4D495647#32 ∨ bitsOf (imgWord b 4) 31 16 ≠ 1 then 1
  else if imgWord b 60 ≠ crc32 ((List.range 15).map (fun i => imgWord b (4 * i))) then 2
  else if bitsOf (imgWord b 16) 31 16 ≠ s.g F.CHIP_ID_PART ∨ bitsOf (imgWord b 16) 7 0 ≠ s.g F.CHIP_ID_FAMILY then 3
  else if !imgLenOk b staged then 9
  else
    let xs := imgTable b
    if imgSections b = 0 ∨ 32 < imgSections b ∨ imgTotal b < 64 + 16 * imgSections b ∨
        !xs.all (fun x => x.placed (imgTotal b) staged) ∨ !apart xs then 4
    else if xs.any (fun x => crcBytes (imgBytes b x.off x.len) != x.crc) then 5
    else if (s.fuseWord 4).getLsbD 0 ∧ !imgSigned b then 6
    else if imgSigned b ∧ (s.keyHash.all (· == 0) ∨ hashBytes (sha256 (imgKey b)) ≠ s.keyHash) then 7
    else if imgSigned b ∧ !imgSigOk b then 8
    else 0

/-! ## Release and rejection (R518 to R520) -/

/-- A range of memory initialised to zero. -/
def State.zeroRange (s : State) (a n : Nat) : State :=
  let out := fun (k : Nat) => decide (k < a ∨ a + n ≤ k)
  { s with mem := s.mem.filter (fun e => out e.1), mx := { s.mx with ecc := s.mx.ecc.filter (fun e => out e.1), wb := s.mx.wb.filter out } }

/-- The words of a section are written from address `a`. -/
def State.copyWords (s : State) : Nat → Nat → List Byte → State
  | 0, _, _ => s
  | n + 1, a, b => (s.writeW a (imgWord b 0)).copyWords n (a + 4) (b.drop 4)

/-- An image is accepted: its sections stand in place and the control core starts at ENTRY. -/
def State.bootAccept (s : State) (b : List Byte) (staged : Bool) : State :=
  let s := (imgTable b).foldl (fun s x => s.copyWords (x.len / 4) x.dest (imgBytes b x.off x.len)) s
  let s := if staged then s.zeroRange stageBase (imgTotal b) else s
  let s := ((s.wr R.FAB_FWVER (imgWord b 20)).flag F.PWR_BOOT_STAT_DONE true).flag F.PWR_BOOT_STAT_SIGNED (imgSigned b)
  let s : State := match s.pw.boot with
    | .uart _ => s.send (.uart 0x06)
    | _ => s
  { s with pw := { s.pw with boot := .done, core := some (imgWord b 12).toNat } }

def State.bootPhase (s : State) (p : BootPhase) : State := { s with pw := { s.pw with boot := p } }

/-- An image is rejected with reason `r`. Log 62, DEDUCED. -/
def State.bootReject (s : State) (b : List Byte) (r : Nat) : State :=
  let s := (s.p F.PWR_BOOT_STAT_REASON r).bump F.PWR_BOOT_STAT_ATTEMPTS 1
  let s := if 5 ≤ r ∧ r ≤ 8 then (imgTable b).foldl (fun s x => s.zeroRange x.dest x.len) s else s
  match s.pw.boot with
  | .qspi 0 => (s.bootPhase (.qspi 1)).flag F.PWR_BOOT_STAT_COPY true
  | .qspi _ => (s.bootPhase (.uart 0)).p F.PWR_BOOT_STAT_SRC 3
  | .go => s.bootPhase .wait
  | .uart _ => ((s.bootPhase (.uart 0)).send (.uart 0x15)).send (.uart (BitVec.ofNat 8 r))
  | _ => s

/-- Log 62, DEDUCED. -/
def State.bootJudge (s : State) (b : List Byte) (staged : Bool) : State :=
  let r := s.imgReason b staged
  if r = 0 then s.bootAccept b staged else s.bootReject b r

/-- `n` words of memory from `a` on, as bytes. -/
def State.memBytes (s : State) : Nat → Nat → State × List Byte
  | _, 0 => (s, [])
  | a, n + 1 =>
    let r := s.readW a
    let t := r.1.memBytes (a + 4) n
    (t.1, wordBytes r.2.1 ++ t.2)

/-- The staged image, as far as its header and the staging area allow. -/
def State.stagedImage (s : State) : State × List Byte :=
  let h := s.memBytes stageBase 16
  let n := max 64 (min (imgTotal h.2) 0x200000)
  h.1.memBytes stageBase ((n + 3) / 4)

/-- Whether UART recovery has all of an image, with `got` bytes staged. -/
def State.uartFull (s : State) (got : Nat) : Bool :=
  let n := (s.word (stageBase + 8)).toNat
  decide (64 ≤ got) && (decide (n ≤ got) || decide (0x200000 < n))

/-- BOOT_IMAGE_CHECK (R518): of the image `img` as read from QSPI, or `failed` where the source was; otherwise of the staged
image. -/
def execBootImageCheck (img : List Byte) (failed : Bool) (s : State) : Host.Outcome State Fault Refusal :=
  match s.pw.boot with
  | .qspi _ => .next (if failed then s.bootReject [] 9 else s.bootJudge img false)
  | .go => let r := s.stagedImage; .next (r.1.bootJudge r.2 true)
  | .uart got => if s.uartFull got then let r := s.stagedImage; .next (r.1.bootJudge r.2 true) else .next s
  | _ => .next s

/-- A write of `v` to PWR_BOOT_CTL (R519). -/
def State.bootCtlWrite (s : State) (v : Word) : State :=
  if v.getLsbD 0 ∧ s.pw.boot = .wait then s.bootPhase .go else s

/-- BOOT_GO (R519). Log 62, DEDUCED. -/
def execBootGo (v : Word) (s : State) : Host.Outcome State Fault Refusal := .next (s.bootCtlWrite (v ||| 1#32)).ok

/-- UART_RECOVERY_BYTE (R519). -/
def execUartRecoveryByte (b : Byte) (s : State) : Host.Outcome State Fault Refusal :=
  match s.pw.boot with
  | .uart got =>
    if s.uartFull got then .next s else .next ((s.writeN (stageBase + got) 1 (b.setWidth 32)).1.bootPhase (.uart (got + 1)))
  | _ => .next s

/-- UART_GAP_TIMEOUT (R519). -/
def execUartGapTimeout (s : State) : Host.Outcome State Fault Refusal :=
  match s.pw.boot with
  | .uart got => .next (if s.uartFull got then s else s.bootPhase (.uart 0))
  | _ => .next s

/-- UART_PROMPT (R519): while the device waits it sends 0x3F. -/
def execUartPrompt (s : State) : Host.Outcome State Fault Refusal :=
  match s.pw.boot with
  | .uart 0 => .next (s.send (.uart 0x3F))
  | _ => .next s

end Sys2Proof.Machine
end

