-- ==== Sys2Proof/Machine/Host.lean ====
section
/-!
DEFINITION. The host interface (spec/17): rings (R484), doorbells (R485, R486), completion entries (R493), capture copies
(R495), MSI-X (R496), resets of the interface (R483), and writes to the HOST registers (R500).
-/
namespace Sys2Proof.Machine

/-! ## Completions (R490, R493) -/

/-- Status codes. -/
def stOk : Nat := 0
def stBadOpcode : Nat := 1
def stBadField : Nat := 2
def stAddrErr : Nat := 3
def stHostErr : Nat := 4
def stRefused : Nat := 5
def stNoRoute : Nat := 6
def stTimeout : Nat := 7
def stCrcBad : Nat := 8
def stAborted : Nat := 9

/-- Word `i` of a descriptor, and fields of R487. -/
def Desc.w (d : Desc) (i : Nat) : Word := d.ws.getD i 0
def Desc.opcode (d : Desc) : Nat := bitsOf (d.w 0) 31 24
def Desc.len (d : Desc) : Nat := (d.w 1).toNat
def Desc.hostAddr (d : Desc) : Nat := (d.w 2).toNat + (d.w 3).toNat * 2 ^ 32
def Desc.loc (d : Desc) : Nat := (d.w 4).toNat
def Desc.arg0 (d : Desc) : Nat := bitsOf (d.w 5) 31 16
def Desc.dev (d : Desc) : Nat := bitsOf (d.w 5) 5 0
def Desc.arg1 (d : Desc) : Word := d.w 6
def Desc.target (d : Desc) : Nat := (d.w 6).toNat + (d.w 7).toNat * 2 ^ 32

/-- Whether the completion ring can take an entry. -/
def State.cqRoom (s : State) : Bool :=
  let n := s.g F.HOST_CQ_CFG_SIZE
  s.on F.HOST_CQ_CFG_EN && decide (n ≠ 0 ∧ (s.g F.HOST_CQ_TAIL_TAIL + 1) % n ≠ s.g F.HOST_CQ_HEAD_HEAD)

/-- The completion entry of descriptor `d` (R493), unless it is not wanted. Log 54, DEDUCED. -/
def State.complete (s : State) (d : Desc) (status : Nat) (r0 r1 : Word) : State :=
  if (d.w 0).getLsbD 18 ∧ status = stOk then s
  else
    let t := s.g F.HOST_CQ_TAIL_TAIL
    let n := s.g F.HOST_CQ_CFG_SIZE
    let ph := s.g F.HOST_CQ_TAIL_PHASE
    let w0 := BitVec.ofNat 32 (ph * 2 ^ 31 + d.ring * 2 ^ 28 + bitsOf (d.w 0) 15 0)
    let w1 := BitVec.ofNat 32 (status * 2 ^ 24 + d.head * 2 ^ 12 + s.myId)
    let e := { s.envTo 0 7 with tag := bitsOf (d.w 0) 11 0, epoch := bitsOf (d.w 0) 15 12 }
    let s := s.hostWriteAs e (s.rd64 R.HOST_CQ_BASE_LO R.HOST_CQ_BASE_HI + 16 * t) [w0, w1, r0, r1]
    let s : State := if !s.manager ∧ s.on F.FAB_ID_VALID ∧ (s.routeTo 0).isSome then
        { s with fb := { s.fb with reqs := s.fb.reqs ++ [⟨e.tag, e.epoch, false, true, 0⟩] } }
      else s
    let s := (s.p F.HOST_CQ_TAIL_TAIL ((t + 1) % max 1 n)).p F.HOST_CQ_TAIL_PHASE (if t + 1 = n then 1 - ph else ph)
    if (d.w 0).getLsbD 16 ∨ status ≠ stOk then s.msix (s.g F.HOST_CQ_CFG_VEC) else s

/-- Aborted descriptors complete as far as the ring has room. -/
def State.flushGo (s : State) : List Desc → State × List Desc
  | [] => (s, [])
  | d :: ds =>
    if d.aborted ∧ s.cqRoom then (s.complete d stAborted 0 0).flushGo ds
    else let r := s.flushGo ds; (r.1, d :: r.2)

/-- Log 54, DEDUCED. -/
def State.flushAborted (s : State) : State :=
  let r := s.flushGo s.hs.ready
  { r.1 with hs := { r.1.hs with ready := r.2 } }

/-! ## Rings (R484) -/

/-- The CFG register of a ring. -/
def ringCfg : RingSel → Nat
  | .cq => R.HOST_CQ_CFG
  | .eq => R.HOST_EQ_CFG
  | .cap c => R.HOST_CAP_CFG c
  | .sq d r => R.HOST_SQ_CFG d r

/-- HEAD, TAIL and phase of a ring as EN leaves them: 0, and phase `ph`. -/
def State.ringZero (s : State) (x : RingSel) (ph : Bool) : State :=
  match x with
  | .cq => ((s.wr R.HOST_CQ_TAIL 0).wr R.HOST_CQ_HEAD 0).flag F.HOST_CQ_TAIL_PHASE ph
  | .eq => ((s.wr R.HOST_EQ_TAIL 0).wr R.HOST_EQ_HEAD 0).flag F.HOST_EQ_TAIL_PHASE ph
  | .cap c => (s.wr (R.HOST_CAP_WR c) 0).wr (R.HOST_CAP_RD c) 0
  | .sq d r => (s.wr (R.HOST_SQ_HEAD d r) 0).wr (R.HOST_SQ_TAIL d r) 0

def State.hostRefused (s : State) : State := s.flag F.HOST_STAT_CFG_REFUSED true

/-- Whether `n` entries are a size a ring may have (R484, R500). -/
def ringSizeOk (n : Nat) : Bool := decide (16 ≤ n) && decide (n ≤ 4096)

/-- A write of `v` to the CFG register of a ring. Log 9, DEDUCED; log 54, DEDUCED. -/
def State.ringWrite (s : State) (x : RingSel) (v : Word) : State :=
  let old := s.rd (ringCfg x)
  let was := old.getLsbD 31
  let en := v.getLsbD 31
  let size := match x with | .cap c => s.g (F.HOST_CAP_SIZE_SIZE c) | _ => bitsOf v 12 0
  let okSize := match x with | .cap _ => !en || decide (4096 ≤ size) | _ => ringSizeOk size
  let vec := match x with | .sq _ _ => false | _ => bitsOf v 21 16 != bitsOf old 21 16
  let sz := match x with | .cap _ => false | _ => bitsOf v 12 0 != bitsOf old 12 0
  if !okSize ∨ (was && (vec || sz)) then s.hostRefused
  else
    let t := s.fieldWrite (ringCfg x) v
    if en ∧ !was then t.ringZero x true
    else if was ∧ !en then
      match x with
      | .sq d r =>
        if d.val = t.myId then
          ({ t with hs := { t.hs with ready := t.hs.ready.map (fun e => if e.ring = r.val then { e with aborted := true } else e) } } : State).flushAborted
        else t
      | _ => t
    else t

/-- RING_ENABLE and RING_DISABLE (R484): a write of `v` to a ring's CFG register with EN = 1, or EN = 0. Log 9, DEDUCED. -/
def execRingEnable (x : RingSel) (v : Word) (s : State) : Host.Outcome State Fault Refusal :=
  .next (s.ringWrite x (v ||| 0x80000000#32)).ok
def execRingDisable (x : RingSel) (v : Word) (s : State) : Host.Outcome State Fault Refusal :=
  .next (s.ringWrite x (v &&& 0x7FFFFFFF#32)).ok

/-! ## Doorbells (R485, R486) -/

/-- A doorbell is refused. -/
def State.bellRefused (s : State) (page off : Nat) : State :=
  ((s.flag F.HOST_STAT_DB_ERR true).p F.HOST_DB_ERR_PAGE page).p F.HOST_DB_ERR_OFFSET off

/-- HEAD of the completion ring: a doorbell on this device. -/
def State.cqHead (s : State) (v : Word) : State :=
  if !s.on F.HOST_CQ_CFG_EN ∨ s.g F.HOST_CQ_CFG_SIZE ≤ v.toNat then s.bellRefused s.myId 0x10
  else (s.wr R.HOST_CQ_HEAD v).flushAborted

/-- HEAD of the event ring. -/
def State.eqHead (s : State) (v : Word) : State :=
  if !s.on F.HOST_EQ_CFG_EN ∨ s.g F.HOST_EQ_CFG_SIZE ≤ v.toNat then s.bellRefused s.myId 0x14 else s.wr R.HOST_EQ_HEAD v

/-- RD of capture ring `c`. -/
def State.capRd (s : State) (c : Nat) (v : Word) : State :=
  if !s.on (F.HOST_CAP_CFG_EN c) ∨ s.g (F.HOST_CAP_SIZE_SIZE c) ≤ v.toNat ∨ v.toNat % 16 ≠ 0 then s.bellRefused s.myId (0x20 + 4 * c)
  else s.wr (R.HOST_CAP_RD c) v

/-- TAIL of submission ring `r` of set `d`. -/
def State.sqTail (s : State) (d r : Nat) (v : Word) : State :=
  let n := s.g (F.HOST_SQ_CFG_SIZE d r)
  let tail := s.g (F.HOST_SQ_TAIL_TAIL d r)
  let room := (s.g (F.HOST_SQ_HEAD_HEAD d r) + 2 * n - tail - 1) % max 1 n
  if !s.on (F.HOST_SQ_CFG_EN d r) ∨ n ≤ v.toNat ∨ room < (v.toNat + n - tail) % max 1 n then s.bellRefused d (4 * r)
  else s.wr (R.HOST_SQ_TAIL d r) v

/-- A HEAD or RD of another device is written there (R486). -/
def State.bellOn (s : State) (d a : Nat) (v : Word) : State := s.sendMsg (s.ownReq d 7) [BitVec.ofNat 32 a, 1, v]

/-- A doorbell at offset `off` of page `d`, in the manager. -/
def State.bellAct (s : State) (d off : Nat) (v : Word) : State :=
  if off < 0x10 ∧ off % 4 = 0 then s.sqTail d (off / 4) v
  else if off = 0x10 then if d = s.myId then s.cqHead v else s.bellOn d R.HOST_CQ_HEAD v
  else if off = 0x14 then if d = s.myId then s.eqHead v else s.bellOn d R.HOST_EQ_HEAD v
  else if 0x20 ≤ off ∧ off < 0x40 ∧ off % 4 = 0 then
    let c := (off - 0x20) / 4
    if d = s.myId then s.capRd c v else s.bellOn d (R.HOST_CAP_RD c) v
  else s.bellRefused d off

/-- A doorbell comes over the host's link; a restart of the control core holds it (R27). Log 54, DEDUCED. -/
def State.doorbell (s : State) (d off : Nat) (v : Word) : State :=
  if !s.manager ∨ !s.on F.HOST_STAT_LINK_UP then s
  else if s.ft.coreDown then { s with hs := { s.hs with bells := s.hs.bells ++ [(d, off, v)] } }
  else s.bellAct d off v

/-- SQ_TAIL, CQ_HEAD and EQ_HEAD: a write to doorbell page `d` at their offset. -/
def execSqTail (d : Fin 64) (r : Fin 4) (v : Word) (s : State) : Host.Outcome State Fault Refusal := .next (s.doorbell d (4 * r) v)
def execCqHead (d : Fin 64) (v : Word) (s : State) : Host.Outcome State Fault Refusal := .next (s.doorbell d 0x10 v)
def execEqHead (d : Fin 64) (v : Word) (s : State) : Host.Outcome State Fault Refusal := .next (s.doorbell d 0x14 v)

/-- CAP_RD (R486): a write to doorbell page `d` at word `o`: 8 to 15 are CAP_RD[0] to CAP_RD[7], and those from 16, with 6 and
7, are not listed. -/
def execCapRd (d : Fin 64) (o : Fin 1024) (v : Word) (s : State) : Host.Outcome State Fault Refusal :=
  .next (s.doorbell d (4 * o) v)

/-- CONTROL_CORE_RESTART_END (R27): held doorbells are processed in order of arrival. -/
def execControlCoreRestartEnd (s : State) : Host.Outcome State Fault Refusal :=
  if s.ft.coreDown then
    let bells := s.hs.bells
    let s := { s with ft := { s.ft with coreDown := false }, hs := { s.hs with bells := [] } }
    .next (bells.foldl (fun s b => s.bellAct b.1 b.2.1 b.2.2) s)
  else .next s

/-! ## Fetching (R489) -/

/-- Eight words at a time, at most eight descriptors. -/
def descs (ws : List Word) : List (List Word) :=
  ((List.range 8).map (fun i => (ws.drop (8 * i)).take 8)).filter (fun d => d.length == 8)

/-- One fetched descriptor of ring `r` of set `d`. -/
def State.fetched (s : State) (d r : Nat) (ws : List Word) : State :=
  let h := (s.g (F.HOST_SQ_HEAD_HEAD d r) + 1) % max 1 (s.g (F.HOST_SQ_CFG_SIZE d r))
  let s := s.p (F.HOST_SQ_HEAD_HEAD d r) h
  if d = 0 then { s with hs := { s.hs with ready := s.hs.ready ++ [⟨r, h, ws, false⟩] } }
  else if ((s.rd (if d < 32 then R.HOST_TUNNEL_EN_LO else R.HOST_TUNNEL_EN_HI)).getLsbD (d % 32)) then
    let w := ws.headD 0
    s.sendMsg { s.envTo d 8 with tag := bitsOf w 11 0, epoch := bitsOf w 15 12 } (BitVec.ofNat 32 (h * 2 ^ 16 + r) :: ws)
  else s.inc R.HOST_FWD_DROP

/-- DESCRIPTOR_FETCH (R489): the manager reads descriptors of ring `r` of set `d`, whose words are `ws`. -/
def execDescriptorFetch (d : Fin 64) (r : Fin 4) (ws : List Word) (s : State) : Host.Outcome State Fault Refusal :=
  if !s.manager ∨ !s.on F.HOST_STAT_LINK_UP ∨ s.hs.d3 ∨ s.ft.coreDown ∨ !s.on (F.HOST_SQ_CFG_EN d r) then .next s
  else
    let n := s.g (F.HOST_SQ_CFG_SIZE d r)
    let k := (s.g (F.HOST_SQ_TAIL_TAIL d r) + n - s.g (F.HOST_SQ_HEAD_HEAD d r)) % max 1 n
    .next (((descs ws).take k).foldl (fun s x => s.fetched d r x) s)

/-! ## Capture copies (R495) -/

/-- The words of a frame at offset `o` of the staging buffer of ring `c`, with wrap. -/
def State.stageWords (s : State) (c : Nat) : Nat → Nat → State × List Word
  | _, 0 => (s, [])
  | o, n + 1 =>
    let r := s.readW ((s.rd (R.XING_CAP_BUF c)).toNat + o % max 1 (s.g (F.XING_CAP_SIZE_SIZE c)))
    let t := r.1.stageWords c (o + 4) n
    (t.1, r.2.1 :: t.2)

/-- The frame `ws` goes to capture ring `c` of the host at WR, with wrap. -/
def State.capToHost (s : State) (c : Nat) (ws : List Word) : State :=
  let base := s.rd64 (R.HOST_CAP_BASE_LO c) (R.HOST_CAP_BASE_HI c)
  let n := s.g (F.HOST_CAP_SIZE_SIZE c)
  let wr := s.g (F.HOST_CAP_WR_WR c)
  let k := (n - wr) / 4
  let s := s.hostWrite (base + wr) (ws.take k)
  let s := if k < ws.length then s.hostWrite base (ws.drop k) else s
  let w := (wr + 4 * ws.length) % max 1 n
  let s := s.p (F.HOST_CAP_WR_WR c) w
  let s := s.hostWrite (s.rd64 (R.HOST_CAP_SHADOW_LO c) (R.HOST_CAP_SHADOW_HI c)) [BitVec.ofNat 32 w, 0]
  if s.on (F.HOST_CAP_CFG_IRQ c) then s.msix (s.g (F.HOST_CAP_CFG_VEC c)) else s

/-- CAPTURE_HOST_COPY (R495): the oldest committed frame of ring `c` is copied where the host ring has room. -/
def execCaptureHostCopy (c : Fin 8) (s : State) : Host.Outcome State Fault Refusal :=
  let sz := s.g (F.XING_CAP_SIZE_SIZE c)
  let rd := s.g (F.XING_CAP_RD_RD c)
  if !s.on (F.HOST_CAP_CFG_EN c) ∨ s.hs.d3 ∨ rd = s.g (F.XING_CAP_WR_WR c) ∨ sz = 0 then .next s
  else
    let h := s.stageWords c rd 1
    let len := 16 * bitsOf (h.2.headD 0) 31 16
    let n := s.g (F.HOST_CAP_SIZE_SIZE c)
    let room := (s.g (F.HOST_CAP_RD_RD c) + 2 * n - s.g (F.HOST_CAP_WR_WR c) - 16) % max 1 n
    if room < len ∨ len = 0 then .next s
    else
      let f := s.stageWords c rd (len / 4)
      .next ((f.1.p (F.XING_CAP_RD_RD c) ((rd + len) % sz)).capToHost c f.2)

/-! ## MSI-X (R496) -/

/-- MSIX_TRIG (R496): a write of `v` to HOST_MSIX_TRIG. -/
def execMsixTrig (v : Word) (s : State) : Host.Outcome State Fault Refusal := .next (s.msix (bitsOf v 5 0)).ok

/-- MSIX_HOLDOFF_END (R496). -/
def execMsixHoldoffEnd (v : Fin 64) (s : State) : Host.Outcome State Fault Refusal :=
  let merged := SMap.get noneB s.hs.merged v
  let s := { s with hs := { s.hs with hold := SMap.set noneB s.hs.hold v false, merged := SMap.set noneB s.hs.merged v false } }
  .next (if merged then s.msix v else s)

/-- The pending messages of vectors that are not masked leave. Log 55, PRESUMED. -/
def State.pbaFlush (s : State) : State :=
  (List.range 64).foldl (fun s v =>
    if SMap.get noneB s.hs.pba v ∧ !(SMap.get msixReset s.hs.msix (4 * v + 3)).getLsbD 0 then
      ({ s with hs := { s.hs with pba := SMap.set noneB s.hs.pba v false } } : State).msix v
    else s) s

/-- A write to word `k` of the MSI-X table. On a worker it has no effect. -/
def State.msixWrite (s : State) (k : Nat) (v : Word) : State :=
  if s.manager then
    let v := if k % 4 = 3 then v &&& 1#32 else if k % 4 = 0 then v &&& 0xFFFFFFFC#32 else v
    let s := { s with hs := { s.hs with msix := SMap.set msixReset s.hs.msix k v } }
    if s.hs.d3 then s else s.pbaFlush
  else s

/-! ## The link and its resets (R483, R494) -/

/-- All rings off, with their indices at 0. -/
def State.ringsOff (s : State) : State :=
  let off := fun (s : State) (x : RingSel) => (s.wr (ringCfg x) (s.rd (ringCfg x) &&& 0x7FFFFFFF#32)).ringZero x false
  let s := ((List.finRange 8).foldl (fun s (c : Fin 8) => off s (.cap c)) (off (off s .cq) .eq))
  (List.finRange 64).foldl (fun s (d : Fin 64) => (List.finRange 4).foldl (fun s (r : Fin 4) =>
    if s.rd (R.HOST_SQ_CFG d r) = 0 then s else off s (.sq d r)) s) s

/-- HOST_IF_RESET (R483): a hot reset, a Function Level Reset or PCIE_PERST_N; or, with `loss`, the loss of the link. Log 55, PRESUMED. -/
def execHostIfReset (loss : Bool) (s : State) : Host.Outcome State Fault Refusal :=
  if !s.manager then .next s
  else
    let up := s.on F.HOST_STAT_LINK_UP
    let s := if loss ∧ up then (s.flag F.HOST_STAT_LINK_UP false).emit Kind.hostLinkDown Src.host else s
    if loss ∧ !up then .next s
    else
      let s := (((s.ringsOff).wr R.HOST_TUNNEL_EN_LO 0).wr R.HOST_TUNNEL_EN_HI 0).flag F.HOST_STAT_RESET_SEEN true
      let drop := fun (h : Hung) => match h.who with | .bar _ _ => { h with who := Asker.gone } | _ => h
      .next { s with
        hs := { HostSt.reset with lost := s.hs.lost }
        mx := { s.mx with hung := s.mx.hung.map drop } }

/-- HOST_LINK_UP (R494): with the width and speed codes of HOST_LINK. Log 54, DEDUCED. -/
def execHostLinkUp (width speed : Fin 8) (s : State) : Host.Outcome State Fault Refusal :=
  if !s.manager ∨ !s.on F.HOST_CTL_LINK_EN ∨ s.on F.HOST_STAT_LINK_UP then .next s
  else
    let s := ((s.flag F.HOST_STAT_LINK_UP true).p F.HOST_LINK_WIDTH width).p F.HOST_LINK_SPEED speed
    .next (s.event evLink s.myId [1])

/-- HOST_POWER_STATE (R483): D3hot is entered, or D0 again. -/
def execHostPowerState (d3 : Bool) (s : State) : Host.Outcome State Fault Refusal :=
  if !s.manager then .next s
  else
    let s := { s with hs := { s.hs with d3 := d3 } }
    .next (if d3 then s else s.pbaFlush)

/-! ## Register writes (R500) -/

/-- A write of `v` at offset `o` of the HOST block, but for HOST_LINK. -/
def State.hostBlockWrite (s : State) (o : Nat) (v : Word) : State :=
  let a := R.HOST_CTL + o
  let set := fun (good : Bool) => (if good then s.fieldWrite a v else s.hostRefused).ok
  if 0x8000 ≤ o ∧ o < 0x8400 then (s.msixWrite ((o - 0x8000) / 4) v).ok
  else if 0x9000 ≤ o ∧ o < 0x9008 then s.ok
  else if (regSpecAt a).isNone then s.unmapped a
  else if o = 0x14 then (s.msix (bitsOf v 5 0)).ok
  else if o = 0x400 ∨ o = 0x404 then set (!s.on F.HOST_CQ_CFG_EN && (o == 0x404 || bitsOf v 5 0 == 0))
  else if o = 0x408 then (s.ringWrite .cq v).ok
  else if o = 0x410 then (s.cqHead v).ok
  else if o = 0x420 ∨ o = 0x424 then set (!s.on F.HOST_EQ_CFG_EN && (o == 0x424 || bitsOf v 5 0 == 0))
  else if o = 0x428 then (s.ringWrite .eq v).ok
  else if o = 0x430 then (s.eqHead v).ok
  else if 0x500 ≤ o ∧ o < 0x600 then
    let c := Fin.ofNat 8 ((o - 0x500) / 32)
    let en := s.on (F.HOST_CAP_CFG_EN c)
    match o % 32 with
    | 0x00 => set (!en && bitsOf v 5 0 == 0)
    | 0x04 => set (!en)
    | 0x08 => (s.ringWrite (.cap c) v).ok
    | 0x0C =>
      let n := bitsOf v 24 0
      set (!en && n % 16 == 0 && decide (4096 ≤ n) && decide (n ≤ 16777216))
    | 0x14 => (s.capRd c v).ok
    | 0x18 => set (bitsOf v 2 0 == 0)
    | _ => set true
  else if 0x1000 ≤ o ∧ o < 0x3000 then
    let d := Fin.ofNat 64 ((o - 0x1000) / 128)
    let r := Fin.ofNat 4 ((o - 0x1000) / 32 % 4)
    let en := s.on (F.HOST_SQ_CFG_EN d r)
    match o % 32 with
    | 0x00 => set (!en && bitsOf v 5 0 == 0)
    | 0x04 => set (!en)
    | 0x08 => (s.ringWrite (.sq d r) v).ok
    | _ => set true
  else set true

end Sys2Proof.Machine
end

