-- ==== Sys2Proof/Machine/Domain.lean ====
section
/-!
DEFINITION. Resets of far domains (R337).
-/
namespace Sys2Proof.Machine

/-- Domain `d` is reset from the live side (R337), by the hang watchdog where `auto`. Log 44, DEDUCED. -/
def State.domainReset (s : State) (d : Nat) (auto : Bool) : State :=
  let s :=
    if d < 24 then s.sapDomainReset d
    else if d < 32 then s.nglDomainReset (d - 24) auto
    else if d < 34 then s.ethDomainReset (d - 32)
    else s.wr R.HOST_LINK 0
  (s.flag (readyOf d) false).hungDone d false

/-- A write of `v` to MTX_DOM_RST (R337, R338). -/
def State.domRstWrite (s : State) (v : Word) : State :=
  let d := bitsOf v 5 0
  if 34 < d then s.mtxRefused else if v.getLsbD 31 then s.domainReset d false else s

end Sys2Proof.Machine
end

