-- ==== Sys2Proof/Machine/Bus.lean ====
section
/-!
DEFINITION. The internal address space (R21, R22): what a read of any address answers and what a write of it does, whoever
the bus master is (R9 to R14, R26, R86, R111, R134, R142, R327), with the register writes of the blocks whose rules stand in no
other file (R174, R202, R417, R523).
-/
namespace Sys2Proof.Machine

/-! ## Reads -/

/-- What an access answers: a word, an error, or nothing yet (R335). -/
inductive BusAns where
  | ok (v : Word)
  | err
  | hung
  deriving DecidableEq, Repr

/-- The low 32 bits of a two's-complement value. -/
def extend (n v : Nat) : Word := BitVec.ofInt 32 (signed n v)

/-- Registers of a lane (R66, R86): window offset `x` of lane `j` of cluster `c`. -/
def State.laneView (s : State) (c j x : Nat) : Word :=
  let L := SMap.get zeroLane (s.clu c).lanes j
  if x < 0x40 then L.dr (x / 4)
  else if x < 0x80 then (SMap.get zeroA L.acc ((x - 0x40) / 16)).setWidth 32
  else if x = 0x80 then BitVec.ofNat 32 (L.pf % 16)
  else BitVec.ofNat 32 (L.lstat % 8)

/-- Addressing and loop registers (R86, R104, R111): offset `x` from 0xF_B000 of cluster `c`. -/
def State.adrView (s : State) (c x : Nat) : Word :=
  let k := s.clu c
  let i := x / 16
  if x < 0x80 then
    match x % 16 with
    | 0 => BitVec.ofNat 32 (SMap.get bndReset k.bnd i * 2 ^ 28 + (SMap.get zeroP k.p i).toNat)
    | 4 => (SMap.get zeroP k.b i).setWidth 32
    | 8 => (SMap.get zeroP k.len i).setWidth 32
    | _ => (SMap.get zeroM k.m i).signExtend 32
  else
    let l := (x - 0x100) / 8
    if x = 0x120 then BitVec.ofNat 32 k.depth
    else if x % 8 = 0 then BitVec.ofNat 32 (SMap.get zeroI k.lc l)
    else BitVec.ofNat 32 (SMap.get zeroI k.le l * 2 ^ 16 + SMap.get zeroI k.ls l)

/-- Registers of the cluster window that the cluster itself computes; zero while it is power-gated (R86, R111). -/
def State.clusterView (s : State) (a : Nat) : Word :=
  let c := (a - 0x01000000) / 0x100000
  let o := a % 0x100000 - 0xF0000
  let off := s.g (F.CL_STAT_STATE c) == 0
  if 0x8000 ≤ o ∧ o < 0x9100 then s.laneView c ((o - 0x8000) / 256) (o % 256)
  else if 0xB000 ≤ o ∧ o < 0xB124 then if off then 0 else s.adrView c (o - 0xB000)
  else if 0xC000 ≤ o then
    if off then 0
    else (SMap.get zeroO (SMap.get zeroLane (s.clu c).lanes ((o - 0xC000) / 32)).ofs (o % 32 / 4)).signExtend 32
  else s.rd a

/-- FCST_TIER[t]. -/
def State.tierView (s : State) (t : Nat) : Word :=
  let a := s.tierOf t
  let ovr := (SMap.find s.fc.ovr t).isSome
  BitVec.ofNat 32 (min a.hold 255 * 2 ^ 24 + min a.xf 127 * 2 ^ 8 + (if ovr then 16 else 0) +
    (if a.xf = 0 then a.cur else a.out) * 4 + a.cur)

/-- PAIR_STAT with the fields that follow other state: CATCHUP_M (R264), 0 until a commit has given P_0, and NO_STANDBY, also where
the partner has fallen silent (R252, R270). Log 10, DEDUCED; log 40, DEDUCED. -/
def State.pairStatView (s : State) : Word :=
  let lone : Bool := s.on F.PAIR_STAT_TETHER_DOWN || decide (2 ≤ s.pr.peerAge) ||
    (match s.pr.peer with | some b => !(b.role == 3 && b.ready == 2) | none => true)
  let w := putBits (s.rd R.PAIR_STAT) 23 22 (if s.rd R.PAIR_CNS_COMMIT = 0 then 0 else s.catchupM)
  putBits w 18 18 (if s.role = 2 ∧ lone then 1 else 0)

/-- Banks in retention as bits: `n` banks from bank number `b`. -/
def State.retBits (s : State) (b n : Nat) : Nat := (List.range n).foldl (fun m i => if s.inRet (b + i) then m + 2 ^ i else m) 0

/-- The value of the register at `a`, where no read of it has an effect. Log 10, DEDUCED. -/
def State.view (s : State) (a : Nat) : Word :=
  if a < 0x03000000 then s.clusterView a
  else if R.FCST_TIER 0 ≤ a ∧ a < R.FCST_TIER 128 then s.tierView ((a - R.FCST_TIER 0) / 4)
  else if R.XING_DL_BASE 0 ≤ a ∧ a < R.XING_DL_BASE 256 then
    SMap.get zeroW s.xg.dl (512 * s.g F.XING_WIN_COPY + (a - R.XING_DL_BASE 0) / 4)
  else if a = R.FCST_CW then BitVec.ofNat 32 (min s.cw 0x1FFFFFF)
  else if a = R.XING_LIMIT then s.limitView
  else if a = R.LEVEE_PINS then putBits (s.rd a) 27 16 (s.g F.LEVEE_STAT_GRP_MUTE)
  else if R.LEVEE_EL_HEAT 0 ≤ a ∧ a ≤ R.LEVEE_EL_HEAT 95 ∧ (a - R.LEVEE_EL_HEAT 0) % 64 = 0 then s.heatView ((a - R.LEVEE_EL_HEAT 0) / 64)
  else if a = R.PAIR_STAT then s.pairStatView
  else if a = R.TIME_MTC_LO then s.tm.mtc.setWidth 32
  else if a = R.TIME_TICK_LO then s.tm.tick.setWidth 32
  else if a = R.TIME_PTP_TICK_NS then BitVec.ofNat 32 (nsOf s.tm.ptpTick)
  else if R.MEM_RET_REGION 0 ≤ a ∧ a < R.MEM_RET_REGION 4 then BitVec.ofNat 32 (s.retBits (272 + 8 * (a - R.MEM_RET_REGION 0)) 32)
  else if R.MEM_RET_CLUSTER 0 ≤ a ∧ a < R.MEM_RET_CLUSTER 8 then BitVec.ofNat 32 (s.retBits (8 * (a - R.MEM_RET_CLUSTER 0)) 32)
  else s.rd a

/-- The higher words that a read of the register at `a` latches, with their values (R13). Log 12, DEDUCED. -/
def State.latches (s : State) (r : RegSpec) (ix : List Nat) : List (Nat × Word) :=
  let i := ix.headD 0
  let b := r.base
  if b = R.LREG_ACC_LO 0 0 0 then
    match ix with
    | [c, j, k] =>
      let v := SMap.get zeroA (SMap.get zeroLane (s.clu c).lanes j).acc k
      [(R.LREG_ACC_MID c j k, v.extractLsb' 32 32), (R.LREG_ACC_HI c j k, (v.extractLsb' 64 16).signExtend 32)]
    | _ => []
  else if b = R.TIME_BASE_MTC_LO then [(R.TIME_BASE_MTC_HI, s.rd R.TIME_BASE_MTC_HI)]
  else if b = R.TIME_BASE_TICK_LO then [(R.TIME_BASE_TICK_HI, s.rd R.TIME_BASE_TICK_HI)]
  else if b = R.TIME_TICK_LO then [(R.TIME_TICK_HI, s.tm.tick.extractLsb' 32 32)]
  else if b = R.PAIR_GRANT_LO then [(R.PAIR_GRANT_HI, s.rd R.PAIR_GRANT_HI)]
  else if b = R.PAIR_CKPT_LO then [(R.PAIR_CKPT_HI, s.rd R.PAIR_CKPT_HI)]
  else if b = R.PAIR_TAKE_TICK_LO then [(R.PAIR_TAKE_TICK_HI, s.rd R.PAIR_TAKE_TICK_HI)]
  else if b = R.FAB_SERIAL_LO then [(R.FAB_SERIAL_HI, s.rd R.FAB_SERIAL_HI)]
  else if b = R.SAP_STAMP_LO 0 then [(R.SAP_STAMP_HI i, s.rd (R.SAP_STAMP_HI i))]
  else if b = R.TIME_PTP_TICK_NS then
    [(R.TIME_PTP_TICK_S_LO, BitVec.ofNat 32 (secOf s.tm.ptpTick)),
     (R.TIME_PTP_TICK_S_HI, BitVec.ofNat 32 (secOf s.tm.ptpTick / 2 ^ 32))]
  else if b = R.TIME_MEDIA_OFS_LO then [(R.TIME_MEDIA_OFS_HI, s.rd R.TIME_MEDIA_OFS_HI)]
  else []

/-- The registers that read as latched. Log 12, DEDUCED. -/
def latchedRegs : List Nat :=
  [R.LREG_ACC_MID 0 0 0, R.LREG_ACC_HI 0 0 0, R.TIME_MTC_HI, R.TIME_TICK_HI, R.TIME_BASE_MTC_HI, R.TIME_BASE_TICK_HI, R.PAIR_GRANT_HI, R.PAIR_CKPT_HI, R.PAIR_TAKE_TICK_HI,
   R.FAB_SERIAL_HI, R.SAP_STAMP_HI 0, R.TIME_PTP_TICK_S_LO, R.TIME_PTP_TICK_S_HI, R.TIME_MEDIA_OFS_HI, R.PTP_TIME_NS,
   R.PTP_TIME_S_LO, R.PTP_TIME_S_HI, R.EVT_MTC_HI 0, R.EVT_PTP_NS 0, R.EVT_PTP_S_LO 0, R.EVT_PTP_S_HI 0, R.ETH_TXTS_NS 0,
   R.ETH_TXTS_S 0]

/-- A read of the register `r` with indices `ix` at `a`, whose clock runs: its effects and its value. Log 12, DEDUCED; log 65,
DEDUCED; log 72, DESIGN CHOICE. -/
def State.regRead (s : State) (r : RegSpec) (ix : List Nat) (a : Nat) (stale : Bool) : State × Word :=
  let i := ix.headD 0
  if r.base = R.TIME_MTC_LO then s.mtcRead stale
  else if r.base = R.PTP_TIME_SUB then s.ptpRead 0 stale
  else if r.base = R.SAP_RATE_MEAS 0 then s.rateRead i false stale
  else if r.base = R.SAP_RATE_DEV 0 then s.rateRead i true stale
  else if r.base = R.PWR_TEMP 0 then s.tempRead i stale
  else if r.base = R.EVT_MTC_LO 0 then s.evtRead i
  else if r.base = R.ETH_TXTS_TAG 0 then s.txtsRead i
  else if r.base ∈ latchedRegs then (s, s.latched a)
  else ((s.latches r ix).foldl (fun s x => s.setLatch x.1 x.2) s, s.view a)

/-- What stands at `a` in the windows of words that are no registers of their own: task table words (R142), the window onto
a crossing copy (R180), the MSI-X table and its pending bits (R479). -/
def State.windowView (s : State) (a : Nat) : Option Word :=
  if 0x03018000 ≤ a ∧ a < 0x0301C000 then
    let k := (a - 0x03018000) / 4
    some (SMap.get zeroW s.fc.tt (2048 * (k / 2048) + k % 2048))
  else if 0x03028000 ≤ a ∧ a < 0x03030000 then
    some (SMap.get zeroW s.xg.xt (32768 * s.g F.XING_WIN_COPY + 8192 * s.g F.XING_WIN_PAGE + (a - 0x03028000) / 4))
  else if 0x030C8000 ≤ a ∧ a < 0x030C8400 then some (SMap.get msixReset s.hs.msix ((a - 0x030C8000) / 4))
  else if 0x030C9000 ≤ a ∧ a < 0x030C9008 then
    let b := 8 * (a - 0x030C9000)
    some (BitVec.ofNat 32 ((List.range 32).foldl (fun m i => if SMap.get noneB s.hs.pba (b + i) then m + 2 ^ i else m) 0))
  else none

/-- A read of the word at `a`, a multiple of 4; a decode goes out under `src` with the address `at_`. -/
def State.readWord (s : State) (src at_ a : Nat) (stale : Bool) : State × BusAns :=
    match memOf a with
    | some (k, _) =>
      let gated := match k with | .prog c => s.g (F.CL_STAT_STATE c) == 0 | _ => false
      if gated then (s, .ok 0)
      else
        let r := s.readW a
        (r.1, if r.2.2 then .err else .ok r.2.1)
    | none =>
      match s.windowView a with
      | some v => (s, .ok v)
      | none =>
        match regSpecAt a with
        | none => (s.decodeError (decodeSrc src a) at_, .err)
        | some (r, ix) =>
          match farDomain a with
          | some d => if s.farLive d then let x := s.regRead r ix a stale; (x.1, .ok x.2) else (s, .hung)
          | none => let x := s.regRead r ix a stale; (x.1, .ok x.2)

/-- The `n` bytes of the word `v` that an access at `a` addresses. -/
def addressed (a n : Nat) (v : Word) : Word := BitVec.ofNat 32 (v.toNat / 2 ^ (8 * (a % 4)) % 2 ^ (8 * n))

/-- A read of `n` bytes (1, 2 or 4) at `a` (R9, R310); `src` is the source of a decode on the fast matrix. `stale` where the
samples of a value read under R331 did not agree. Log 11, DEDUCED. -/
def State.readAt (s : State) (src a n : Nat) (stale : Bool) : State × BusAns :=
  if a % n ≠ 0 then (s.decodeError (decodeSrc src a) a, .err)
  else
    let r := s.readWord src a (a - a % 4) stale
    match r.2 with
    | .ok v => (r.1, .ok (addressed a n v))
    | x => (r.1, x)

/-! ## Writes to the cluster window (R86, R111, R134) -/

/-- A write of `v` to a register of the cluster window. -/
def State.clusterWrite (s : State) (src a : Nat) (v : Word) : State :=
  let c := (a - 0x01000000) / 0x100000
  let o := a % 0x100000 - 0xF0000
  if (regSpecAt a).isNone then (s.decodeError src a).err
  else if 0x8000 ≤ o ∧ o < 0x9100 then
    if o % 256 = 0x84 then
      let k := s.clu c
      let j := (o - 0x8000) / 256
      let L := SMap.get zeroLane k.lanes j
      (s.setClu c { k with lanes := SMap.set zeroLane k.lanes j { L with lstat := L.lstat &&& (7 - bitsOf v 2 0) } }).ok
    else s.err
  else if (0xB000 ≤ o ∧ o < 0xB124) ∨ 0xC000 ≤ o then s.err
  else if o = 0xA000 then
    let s := if v.getLsbD 8 then s.shadowInj c else s
    ((s.flag (F.SHADOW_CTL_EN c) (v.getLsbD 0)).showUnprot c).ok
  else if o = 0 then (if v.getLsbD 0 then s.fieldWrite a v |>.wr (R.CL_CYC_MAX c) 0 else s.fieldWrite a v).ok
  else (s.fieldWrite a v).ok

/-! ## Writes to the blocks -/

/-- The FCST block (R11, R142, R174). -/
def State.fcstWrite (s : State) (a : Nat) (v : Word) : State :=
  let inr := fun (hi lo least most : Nat) => decide (least ≤ bitsOf v hi lo ∧ bitsOf v hi lo ≤ most)
  let set := fun (good : Bool) => (if good then s.fieldWrite a v else s.flag F.FCST_STAT_CFG_REFUSED true).ok
  if 0x03018000 ≤ a ∧ a < 0x0301C000 then
    let k := (a - 0x03018000) / 4
    s.ttWrite (k / 2048) (k % 2048 / 16) (k % 16) v
  else if (regSpecAt a).isNone then s.unmapped a
  else if a = R.FCST_CTL then (s.fieldWrite a (if bitsOf v 9 8 = 3 then s.keep F.FCST_CTL_EST_MODE v else v)).ok
  else if a = R.FCST_PCAP then set (inr 6 0 30 120)
  else if a = R.FCST_TJ_SOFT then set (inr 7 0 60 130)
  else if a = R.FCST_THERM then set (inr 31 16 1 6000 && inr 15 0 1 5000)
  else if a = R.FCST_HOLD then set (inr 7 0 1 255)
  else if a = R.FCST_TT_CTL then
    let armed := s.g F.FCST_TT_CTL_STATE == 1
    let s := s.ttSelWrite (bitsOf v 0 0)
    let s := if v.getLsbD 1 then s.ttArm else s
    (if v.getLsbD 2 && armed then s.ttDisarm else s).ok
  else (s.fieldWrite a v).ok

/-- The XING block (R180, R183, R202). -/
def State.xingBlockWrite (s : State) (a : Nat) (v : Word) : State :=
  let copy := s.g F.XING_WIN_COPY
  if 0x03028000 ≤ a then
    let k := (a - 0x03028000) / 4
    s.xingWrite copy false (2048 * s.g F.XING_WIN_PAGE + k / 4) (k % 4) v
  else if (regSpecAt a).isNone then s.unmapped a
  else if R.XING_DL_BASE 0 ≤ a ∧ a < R.XING_DL_BASE 256 then
    let k := (a - R.XING_DL_BASE 0) / 4
    s.xingWrite copy true (k / 2) (k % 2) v
  else if a = R.XING_CTL then
    let s := s.xSelWrite (bitsOf v 0 0)
    (if v.getLsbD 8 then s.xValidate else s).ok
  else if R.XING_CS_LEN 0 ≤ a ∧ a < R.XING_CS_LEN 128 then (if bitsOf v 15 0 = 0 then capRefused s else s.fieldWrite a v).ok
  else if R.XING_CAP_CTL 0 ≤ a ∧ a < R.XING_CAP_CTL 8 then
    let r := (a - R.XING_CAP_CTL 0) / 64
    match a % 64 with
    | 0 => (s.capWrite r 0 v).ok
    | 4 => (s.capWrite r 1 v).ok
    | 8 => (s.capWrite r 2 v).ok
    | 16 =>
      let n := bitsOf v 17 0
      (if n % 16 = 0 ∧ n < s.g (F.XING_CAP_SIZE_SIZE r) then s.fieldWrite a v else capRefused s).ok
    | _ => s.ok
  else (s.fieldWrite a v).ok

/-- The TIME block (spec/02, spec/16). -/
def State.timeWrite (s : State) (a : Nat) (v : Word) : State :=
  match regSpecAt a with
  | none => s.unmapped a
  | some (r, ix) =>
    let i := ix.headD 0
    let set := fun (good : Bool) => (if good then s.fieldWrite a v else s.ptpRefused).ok
    if a = R.TICK_CFG then (s.tickCfgWrite v).ok
    else if a = R.TICK_CTL then (s.tickCtlWrite v).ok
    else if a = R.TIME_MTC_SET_LO then ({ s with tm := { s.tm with mtcSetLo := v } } : State).ok
    else if a = R.TIME_MTC_SET_HI then (s.mtcSet v).ok
    else if a = R.TIME_TICK_SET_LO then ({ s with tm := { s.tm with tickSetLo := v } } : State).ok
    else if a = R.TIME_TICK_SET_HI then (s.tickSet v).ok
    else if r.base = R.TIME_SCHED_ACT 0 then (s.schedWrite false i v).ok
    else if r.base = R.PTP_TRIG_ACT 0 then (s.schedWrite true i v).ok
    else if a = R.PTP_CTL then (s.ptpCtlWrite v).ok
    else if a = R.PTP_RATE then (s.ptpRateWrite v).ok
    else if a = R.PTP_CMD then (s.ptpCmdWrite v).ok
    else if a = R.PTP_ADJ_NS then set (decide (-(10 ^ 9 : Int) < v.toInt ∧ v.toInt < 10 ^ 9))
    else if a = R.PTP_SET_NS ∨ r.base = R.PTP_TRIG_NS 0 then set (decide (bitsOf v 29 0 < 10 ^ 9))
    else if a = R.TIME_MEDIA_OFS_LO then ({ s with tm := { s.tm with mediaOfsLo := v } } : State).ok
    else if a = R.TIME_MEDIA_OFS_HI then (s.mediaCommit v).ok
    else (s.fieldWrite a v).ok

/-- The control core's remote access (R415): a write of `v` to FAB_RA_CTL. -/
def State.raCtlWrite (s : State) (v : Word) : State :=
  if s.on F.FAB_RA_CTL_BUSY then s.fabRefused
  else
    let s := s.fieldWrite R.FAB_RA_CTL v
    if !v.getLsbD 31 then s
    else
      let d := s.g F.FAB_RA_CTL_DEV
      let wr := s.on F.FAB_RA_CTL_WRITE
      let e := { s.envTo d (if wr then 7 else 6) with tag := 0, epoch := SMap.get zeroN s.fb.epochs 0 }
      let s := s.sendMsg e ([s.rd R.FAB_RA_ADDR, 1] ++ (if wr then [s.rd R.FAB_RA_DATA] else []))
      if s.on F.FAB_ID_VALID ∧ (s.routeTo d).isSome then
        { s.flag F.FAB_RA_CTL_BUSY true with fb := { s.fb with reqs := s.fb.reqs ++ [⟨0, e.epoch, true, wr, d⟩] } }
      else (s.flag F.FAB_RA_CTL_GO false).p F.FAB_RA_CTL_STATUS 2

/-- The FAB block (R393, R417). -/
def State.fabWrite (s : State) (a : Nat) (v : Word) : State :=
  match regSpecAt a with
  | none => s.unmapped a
  | some (r, ix) =>
    let f := ix.headD 0 + 1
    let set := fun (good : Bool) => (if good then s.fieldWrite a v else s.fabRefused).ok
    let free := !s.flowValid f || s.rd a == (fieldsAt a).foldl (fun w f => f.written w v) (s.rd a)
    if a = R.FAB_ID then (s.idWrite v).ok
    else if a = R.FAB_CTL then set (bitsOf v 15 8 != 0)
    else if a = R.FAB_RA_CTL then (s.raCtlWrite v).ok
    else if a = R.FAB_RA_ADDR ∨ a = R.FAB_RA_DATA then set (!s.on F.FAB_RA_CTL_BUSY)
    else if r.base = R.FAB_PORT_CFG 0 then
      let p := ix.headD 0
      let t := if bitsOf v 29 24 = 0 then s.fabRefused else s.fieldWrite a v
      (match SMap.get noDelays t.fb.delays p with | [] => t | ds => t.showDelay p ds).ok
    else if r.base = R.FAB_FLOW_W0 1 then (s.flowW0Write f v).ok
    else if r.base = R.FAB_FLOW_W1 1 ∨ r.base = R.FAB_FLOW_W2 1 ∨ r.base = R.BR_ADDR 1 ∨ r.base = R.BR_OFS 1 ∨ r.base = R.BR_AUX 1 then
      set free
    else if r.base = R.BR_CFG 1 then set (free && bitsOf v 29 28 != 3 && bitsOf v 17 16 != 3 && bitsOf v 15 0 != 0)
    else if a = R.BR_HDR then set (bitsOf v 7 0 != 0)
    else (s.fieldWrite a v).ok

/-- The PWR block (R523). -/
def State.pwrWrite (s : State) (a : Nat) (v : Word) : State :=
  if (regSpecAt a).isNone then s.unmapped a
  else if a = R.PWR_RST_CTL then s.rstCtlWrite v
  else if a = R.PWR_STATE_CTL then s.stateCtlWrite v
  else if a = R.PWR_AVS_APPLIED then (s.avsWrite v).ok
  else if a = R.PWR_CLK then (s.clkSelWrite v).ok
  else if a = R.PWR_BOOT_CTL then (s.bootCtlWrite v).ok
  else (s.fieldWrite a v).ok

/-- A write of `v` to the register at `a`, from 0x0300_0000 upward, whose clock runs. -/
def State.blockWrite (s : State) (a : Nat) (v : Word) : State :=
  let o := a % 0x10000
  match (a - 0x03000000) / 0x10000 with
  | 0 => if (regSpecAt a).isNone then s.unmapped a else s.ok
  | 1 => s.fcstWrite a v
  | 2 => s.xingBlockWrite a v
  | 3 => s.leveeWrite o v
  | 4 => s.pairWrite o v
  | 5 => s.faultWrite o v
  | 6 => s.clkWrite o v
  | 7 => s.timeWrite a v
  | 8 => s.nglWrite (o / 0x2000) (o % 0x2000) v
  | 9 => s.fabWrite a v
  | 10 => if o < 0x6000 then s.sapWrite (o / 0x400) (o % 0x400) v else s.unmapped a
  | 11 => if o < 0x2000 then s.ethWrite (o / 0x1000) (o % 0x1000) v else s.unmapped a
  | 12 => s.hostBlockWrite o v
  | 13 => s.pwrWrite a v
  | 14 => if (regSpecAt a).isNone then s.unmapped a else s.ok
  | 15 => if a = R.MTX_DOM_RST then (s.domRstWrite v).ok else s.mtxWrite o v
  | _ => s.unmapped a

/-- A write of the 32-bit word `v` at `a`, answered in `out`; an access to a stopped domain waits there. -/
def State.writeAt (s : State) (src a : Nat) (v : Word) : State :=
  if a % 4 ≠ 0 then (s.decodeError (decodeSrc src a) a).err
  else
    match memOf a with
    | some (.prog c, o) => s.progWrite src c o (.half v)
    | some _ => (s.writeW a v).ok
    | none =>
      if 0x01000000 ≤ a ∧ a < 0x02000000 ∧ 0xF0000 ≤ a % 0x100000 then s.clusterWrite src a v
      else if 0x03000000 ≤ a ∧ a < 0x04000000 then
        if a < 0x03100000 then
          match farDomain a with
          | some d => if s.farLive d then s.blockWrite a v else s.hang d a (some v)
          | none => s.blockWrite a v
        else s.unmapped a
      else (s.decodeError src a).err

/-- A write of the low `n` bytes (1 or 2) of `v` at `a` (R9, R134, R310). Log 11, DEDUCED. -/
def State.writeNarrow (s : State) (src a n : Nat) (v : Word) : State :=
  if a % n ≠ 0 then (s.decodeError (decodeSrc src a) a).err
  else
    match memOf a with
    | some (.prog c, o) => s.progWrite src c o .narrow
    | some _ => let r := s.writeN a n v; if r.2 then r.1.ok else r.1.err
    | none => if (regSpecAt (a - a % 4)).isSome ∨ (s.windowView (a - a % 4)).isSome then s.err
        else (s.decodeError (decodeSrc src a) a).err

/-- The state `t` after an access made in `s`, with its answer taken from `out`. -/
def State.took (s t : State) : State × BusAns :=
  if t.out.length ≤ s.out.length then (t, .hung)
  else
    match t.out.getLast? with
    | some (.resp e _) => ({ t with out := t.out.dropLast }, if e then .err else .ok 0)
    | _ => (t, .hung)

/-- A write by a unit of the device: its answer goes to that unit. -/
def State.store (s : State) (src a : Nat) (v : Word) : State × BusAns := s.took (s.writeAt src a v)

end Sys2Proof.Machine
end

