-- ==== Sys2Proof/Machine/Hang.lean ====
section
/-!
DEFINITION. Accesses and what they wait for: an order of their own per master, one access each at the peripheral-bus bridge
(R323, R325), locks (R326), stopped domains (R333 to R337); the accesses of the control core and of debuggers, BAR_0 requests
(R481, R482), and the words of remote requests (R411).
-/
namespace Sys2Proof.Machine

/-! ## One access -/

/-- A read of `n` bytes at `a` by master `m`, or the mark that it waits. -/
def State.askRead (s : State) (m src a n : Nat) (stale : Bool) : State × BusAns :=
  if (s.stuck m a n).isSome then (s, .hung) else s.readAt src a n stale

/-- A write of the low `n` bytes of `v` at `a` by master `m`, or the mark that it waits. -/
def State.askWrite (s : State) (m src a n : Nat) (v : Word) : State × BusAns :=
  if (if n = 4 then s.stuck m a n else s.queued m a n).isSome then (s, .hung)
  else s.took (if n = 4 then s.writeAt src a v else s.writeNarrow src a n v)

/-! ## The control core and a debugger -/

/-- Sizes of an access. -/
def sizeBytes (n : Fin 3) : Nat := 2 ^ n.val

/-- The effect of an access of the control core on its locked sequence. -/
def State.coreLock (s : State) (core : Bool) (a : Nat) : State := if core then s.lockAccess a else s

/-- A read by the control core or another master of CONTROL is answered. -/
def State.busReadDone (s : State) (core : Bool) (a n : Nat) (stale : Bool) : State :=
  let r := s.askRead (Asker.bus core).master (Src.matrix 6) a n stale
  match r.2 with
  | .ok v => (r.1.coreLock core a).send (.resp false [v])
  | .err => (r.1.coreLock core a).send (.resp true [0])
  | .hung => s.waits a n none (.bus core)

/-- A write by the control core or another master of CONTROL. -/
def State.busWriteDone (s : State) (core : Bool) (a n : Nat) (v : Word) : State :=
  if (if n = 4 then s.stuck (Asker.bus core).master a n else s.queued (Asker.bus core).master a n).isSome then
    s.waits a n (some v) (.bus core)
  else (if n = 4 then s.writeAt (Src.matrix 6) a v else s.writeNarrow (Src.matrix 6) a n v).coreLock core a

/-! ## BAR_0 requests -/

/-- The first and the number of the bytes that the enables `be` of a word name. -/
def enabledBytes (be : Nat) : Nat := (List.range 4).foldl (fun m i => if be.testBit i then m + 255 * 2 ^ (8 * i) else m) 0

/-- One word of a BAR_0 read (R9, R481): the bytes that `be` enables, the others as 0. Log 11, DEDUCED. -/
def State.barWord (s : State) (a : Nat) (be : Fin 16) : State × BusAns :=
  if be = 0 ∧ a < 0x03000000 then (s, .ok 0)
  else
    let r := s.askRead 2 (Src.matrix 6) a 4 false
    match r.2 with
    | .ok v => (r.1, .ok (v &&& BitVec.ofNat 32 (enabledBytes be.val)))
    | x => (r.1, x)

/-- A BAR_0 read from `a` on, with the words `ws` read so far and the byte enables of the others. -/
def State.barRead (s : State) (a : Nat) (ws : List Word) : List (Fin 16) → State
  | [] => s.send (.resp false ws)
  | be :: bes =>
    let r := s.barWord a be
    match r.2 with
    | .ok v => r.1.barRead (a + 4) (ws ++ [v]) bes
    | .err => (r.1.barError a).send (.resp false (allOnes (ws.length + 1 + bes.length)))
    | .hung => s.waits a 4 none (.bar ws (be :: bes))

/-- The bytes of `v` that `be` enables, over `old`. -/
def mergeBytes (old v : Word) (be : Nat) : Word :=
  (List.range 4).foldl (fun w i => if be.testBit i then putBits w (8 * i + 7) (8 * i) (bitsOf v (8 * i + 7) (8 * i)) else w) old

/-- One word of a BAR_0 write. -/
def State.barStore (s : State) (a : Nat) (be : Fin 16) (v : Word) : State × BusAns :=
  if (if be = 15 then s.stuck 2 a 4 else s.queued 2 a 4).isSome then (s, .hung)
  else if be = 15 then s.store (Src.matrix 6) a v
  else
    match memOf a with
    | some (.prog c, o) => s.took (s.progWrite (Src.matrix 6) c o .narrow)
    | some _ =>
      let r := s.readW a
      if be = 0 then (s, .ok 0)
      else if r.2.2 then (r.1, .err)
      else (r.1.writeW a (mergeBytes r.2.1 v be.val), .ok 0)
    | none => s.took (s.writeNarrow (Src.matrix 6) a 1 v)

/-- The words of a BAR_0 write, in ascending order: those of a write to memories up to the first that receives an error response,
those of a write to blocks each for itself. A word that waits keeps its place. Log 11, DEDUCED. -/
def State.barWords (s : State) (a : Nat) : List (Fin 16 × Word) → State
  | [] => s
  | (be, v) :: ws =>
    let r := s.barStore a be v
    match r.2 with
    | .ok _ => r.1.barWords (a + 4) ws
    | .err => let t := r.1.barError a; if onBus a then t.barWords (a + 4) ws else t
    | .hung => (s.waits a 4 (some v) (.bar [] [be])).barWords (a + 4) ws

/-- Whether a memory request of `n` words at word address `a` is misaligned as one access (R9, R481). -/
def barMisaligned (a n : Nat) : Bool := decide (a < 0x03000000) && n == 2 && a % 8 != 0

/-- A BAR_0 write of `ws` with byte enables from `a` on. Log 75, DESIGN CHOICE. -/
def State.barWrite (s : State) (a : Nat) (ws : List (Fin 16 × Word)) : State :=
  if barMisaligned a ws.length then (s.decodeError (Src.matrix 6) a).barError a
  else
    match memOf a with
    | some (.prog c, o) =>
      if 2 ≤ ws.length ∧ ws.all (fun w => w.1 == 15) ∧ (s.stuck 2 a 4).isNone then
        let r := s.took (s.progWrite (Src.matrix 6) c o (.words (ws.map (fun w => w.2))))
        match r.2 with | .ok _ => r.1 | _ => r.1.barError a
      else s.barWords a ws
    | _ => s.barWords a ws

/-- Whether the host interface holds sixteen BAR_0 reads. -/
def State.barFull (s : State) : Bool :=
  decide (16 ≤ s.mx.hung.countP (fun h => match h.who with | .bar _ _ => h.val.isNone | _ => false))

/-- A BAR_0 read or write of the words from `a` on. -/
def State.barRequest (s : State) (a : Nat) (bes : List (Fin 16)) (data : Option (List Word)) : State :=
  match data with
  | none =>
    if s.barFull then s
    else if barMisaligned a bes.length then
      ((s.decodeError (Src.matrix 6) a).barError a).send (.resp false (allOnes bes.length))
    else s.barRead a [] bes
  | some ws => s.barWrite a (bes.zip ws)

/-! ## Remote requests (R411) -/

/-- A remote read of `n` more words from `a` on, with the words `ws` read so far. -/
def State.remRead (s : State) (e : Env) (a : Nat) (ws : List Word) : Nat → State
  | 0 => s.remoteAnswer e false ws
  | n + 1 =>
    let r := s.askRead 4 (Src.matrix 5) a 4 false
    match r.2 with
    | .ok v => r.1.remRead e (a + 4) (ws ++ [v]) n
    | .err => r.1.remoteAnswer e true []
    | .hung => s.waits a 4 none (.remote e ws n [])

/-- A remote write of words from `a` on. -/
def State.remWrite (s : State) (e : Env) (a : Nat) : List Word → State
  | [] => s.remoteAnswer e false []
  | v :: vs =>
    let r := s.askWrite 4 (Src.matrix 5) a 4 v
    match r.2 with
    | .ok _ => r.1.remWrite e (a + 4) vs
    | .err => r.1.remoteAnswer e true []
    | .hung => s.waits a 4 (some v) (.remote e [] 0 vs)

/-! ## Waiting accesses -/

/-- A read at `a`, or a write of `v`, whose answer goes nowhere. -/
def State.discard (s : State) (m src a n : Nat) (v : Option Word) (w : Asker) : State :=
  let r := match v with | none => s.askRead m src a n false | some v => s.askWrite m src a n v
  match r.2 with
  | .hung => s.waits a n v w
  | _ => r.1

/-- The access `h`, which nothing keeps waiting, is performed, and what waited for it goes on. Log 44, DEDUCED. -/
def State.perform (s : State) (h : Hung) : State :=
  match h.who, h.val with
  | .bus core, none => s.busReadDone core h.addr h.size false
  | .bus core, some v => s.busWriteDone core h.addr h.size v
  | .gone, v => s.discard 2 (Src.matrix 6) h.addr h.size v .gone
  | .bar ws left, none => s.barRead h.addr ws left
  | .bar _ left, some v => s.barWords h.addr [(left.headD 15, v)]
  | .remote e ws n _, none => s.remRead e h.addr ws (n + 1)
  | .remote e _ _ vs, some v => s.remWrite e h.addr (v :: vs)
  | .engine, _ => s
  | .dma, v => s.discard 5 (Src.matrix 5) h.addr h.size v .dma

/-- The first of the waiting accesses `hs`, which come after `before`, that goes on, and the others: one in progress whose domain
answers, or one that neither an earlier access of its master nor a lock keeps back. One that has been reported completes by R336
only. -/
def State.released (s : State) (before : List Hung) : List Hung → Option (Hung × List Hung)
  | [] => none
  | h :: hs =>
    let goes :=
      if 35 ≤ h.dom then
        !mustWait h.who.master h.addr (before ++ hs.filter (fun x => decide (x.dom < 35))) && !s.lockKeeps h.who.master h.addr
      else !h.reported && (s.farStuck h.addr).isNone
    if goes then some (h, before ++ hs)
    else s.released (before ++ [h]) hs

/-- The accesses that nothing keeps waiting any longer are performed, in order, each before the later ones of its master; `n` bounds
their number. Log 44, DEDUCED. -/
def State.settle (s : State) : Nat → State
  | 0 => s
  | n + 1 =>
    match s.released [] s.mx.hung with
    | none => s
    | some (h, hs) =>
      let after := fun (x : Hung) => x.who.master == h.who.master && decide (35 ≤ x.dom)
      let t := ({ s with mx := { s.mx with hung := hs.filter (fun x => !after x) } } : State).perform h
      ({ t with mx := { t.mx with hung := t.mx.hung ++ hs.filter after } } : State).settle n

/-- How many accesses a command may set free: each waiting one, and the words that follow it in its request. -/
def Hung.words (h : Hung) : Nat :=
  match h.who with
  | .bar _ left => 1 + left.length
  | .remote _ _ n vs => 2 + n + vs.length
  | _ => 1

/-- What waits goes on where nothing keeps it any longer. -/
def State.go (s : State) : State :=
  let s := s.atomsGo
  s.settle ((s.mx.hung.map Hung.words).sum)

/-! ## The commands -/

/-- REGISTER_WRITE (R10): a write of 1, 2 or 4 bytes at address `a` by a master of CONTROL; `core` where it is the control
core's. Log 66, DESIGN CHOICE. -/
def execRegisterWrite (a : Word) (size : Fin 3) (v : Word) (core : Bool) (s : State) : Host.Outcome State Fault Refusal :=
  .next (s.busWriteDone core a.toNat (sizeBytes size) v).go

/-- LATCHED_LOW_READ (R13): a read of 1, 2 or 4 bytes at `a`; `stale` where the samples of a value read under R331 did not agree.
The lowest word of a wide group latches the others. Log 66, DESIGN CHOICE. -/
def execLatchedLowRead (a : Word) (size : Fin 3) (core stale : Bool) (s : State) : Host.Outcome State Fault Refusal :=
  .next (s.busReadDone core a.toNat (sizeBytes size) stale).go

/-- LOCK_SEQUENCE (R326). -/
def execLockSequence (n : Fin 8) (s : State) : Host.Outcome State Fault Refusal := .next (s.lockWrite n).ok.go

/-- LOCK_ABORT (R326): 64 matrix cycles have passed since the grant of the first access. -/
def execLockAbort (s : State) : Host.Outcome State Fault Refusal :=
  match s.mx.lockAddr with
  | none => .next s
  | some a => .next (s.lockBroken a).go

/-- BAR0_REQUEST (R481, R482): a memory request to BAR_0 at word `a`: a write of `data`, or a read; `bes` holds the byte
enables of its words. -/
def execBar0Request (a : BitVec 24) (bes : List (Fin 16)) (data : Option (List Word)) (s : State) :
    Host.Outcome State Fault Refusal :=
  if !s.manager ∨ !s.on F.HOST_STAT_LINK_UP ∨ bes = [] then .next s
  else .next (s.barRequest (4 * a.toNat) bes data).go

/-- BAR0_READ_TIMEOUT (R482): the `j`-th outstanding access belongs to a BAR_0 read that came 40 µs ago. -/
def execBar0ReadTimeout (j : Nat) (s : State) : Host.Outcome State Fault Refusal :=
  match s.mx.hung[j]? with
  | none => .next s
  | some h =>
    match h.who, h.val with
    | .bar ws left, none =>
      let s := { s with mx := { s.mx with hung := s.mx.hung.set j { h with who := .gone } } }
      .next ((s.flag F.HOST_STAT_RD_TIMEOUT true).send (.resp false (allOnes (ws.length + left.length))))
    | _, _ => .next s

/-- DOMAIN_RESET (R337): a write of `v` to MTX_DOM_RST with GO = 1. -/
def execDomainReset (v : Word) (s : State) : Host.Outcome State Fault Refusal := .next (s.domRstWrite (v ||| 0x80000000#32)).ok.go

/-- AUTO_DOMAIN_RESET (R337): AUTO_MS have passed since a hung access to domain `d` was reported. -/
def execAutoDomainReset (d : Fin 35) (s : State) : Host.Outcome State Fault Refusal :=
  if s.g F.MTX_HANG_CTL_AUTO_MS ≠ 0 ∧ s.mx.hung.any (fun h => h.reported && h.dom == d.val) then .next (s.domainReset d true).go
  else .next s

/-- Whether CLOCK_PRESENT of domain `d` follows R334: the link domain of a worker has no clock, and a Ngulek port's does from CDR
lock on (R370). -/
def State.clockSeen (s : State) (d : Nat) : Bool :=
  if d = 34 then s.manager else if 24 ≤ d ∧ d < 32 then s.nglLocked (d - 24) else true

/-- CLOCK_PRESENT_CHANGE (R334): the far clock of domain `d` stops or runs again (`run`); `seen` where CLOCK_PRESENT follows: edges
have come in 64 consecutive reference periods, or in none of 64. A reported access completes with an error when the clock
returns (R336). Log 44, DEDUCED. -/
def execClockPresentChange (d : Fin 35) (run seen : Bool) (s : State) : Host.Outcome State Fault Refusal :=
  let s := s.setStopped d (!run && !seen)
  let s := if seen && (!run || s.clockSeen d) then s.flag (presentOf d) run else s
  .next (if run then (s.hungDone d true).go else s)

/-- CROSSING_READY (R333): the reset handshake of the crossing to domain `d` completes, which takes edges of both clocks. Log 44, DEDUCED. -/
def execCrossingReady (d : Fin 35) (s : State) : Host.Outcome State Fault Refusal :=
  if s.on (presentOf d) ∧ !s.on (readyOf d) then
    .next (((s.flag (readyOf d) true).hungDone d true).go)
  else .next s

end Sys2Proof.Machine
end

