-- ==== Sys2Proof/Machine/EthDma.lean ====
section
/-!
DEFINITION. The Ethernet ports' DMA: buffers and descriptors (R454), links (R447), the MAC (R452) and the judgement of received
frames (R449, R450, R453, R455, R456).
-/
namespace Sys2Proof.Machine

/-! ## Buffers and descriptors -/

/-- A word that a DMA engine of LINK reads (R21, R26). One whose access waits goes on with 0. Log 51, DEDUCED. -/
def State.dmaRead (s : State) (a : Nat) : State × Word :=
  let r := s.askRead Asker.dma.master (Src.matrix 5) a 4 false
  match r.2 with
  | .ok v => (r.1, v)
  | .err => (r.1, 0)
  | .hung => (s.waits a 4 none .dma, 0)

/-- The low `n` bytes of `v` that a DMA engine of LINK writes at `a`. -/
def State.dmaWrite (s : State) (a n : Nat) (v : Word) : State :=
  let r := s.askWrite Asker.dma.master (Src.matrix 5) a n v
  match r.2 with
  | .hung => s.waits a n (some v) .dma
  | _ => r.1

/-- The words from address `a`, as bytes. -/
def State.busBytes (s : State) : Nat → Nat → State × List Byte
  | _, 0 => (s, [])
  | a, n + 1 =>
    let r := s.dmaRead a
    let t := r.1.busBytes (a + 4) n
    (t.1, wordBytes r.2 ++ t.2)

/-- The `n` bytes of a buffer at `a`. -/
def State.bufRead (s : State) (a n : Nat) : State × List Byte :=
  let o := a % 4
  let r := s.busBytes (a - o) ((o + n + 3) / 4)
  (r.1, (r.2.drop o).take n)

/-- Bytes written one after the other from a word's address `a`. -/
def State.bufWrite (s : State) : Nat → List Byte → State
  | a, b0 :: b1 :: b2 :: b3 :: bs => (s.dmaWrite a 4 (b3 ++ b2 ++ b1 ++ b0)).bufWrite (a + 4) bs
  | a, [b0, b1, b2] => (s.dmaWrite a 2 ((b1 ++ b0).setWidth 32)).dmaWrite (a + 2) 1 (b2.setWidth 32)
  | a, [b0, b1] => s.dmaWrite a 2 ((b1 ++ b0).setWidth 32)
  | a, [b0] => s.dmaWrite a 1 (b0.setWidth 32)
  | _, [] => s

/-- A transmit descriptor as read: its index, buffer address and word 1. -/
structure TxDesc where
  idx : Nat
  addr : Nat
  w1 : Word
  deriving DecidableEq, Repr

def TxDesc.sof (d : TxDesc) : Bool := d.w1.getLsbD 30
def TxDesc.eof (d : TxDesc) : Bool := d.w1.getLsbD 29

def State.txDescAddr (s : State) (p q i : Nat) : Nat := 16 * s.g (F.ETH_TXQ_BASE_BASE p q) + 16 * i

/-- Descriptors of queue `q` read from index `i`, at most `n`, up to an EOF. -/
def State.readDescs (s : State) (p q : Nat) : Nat → Nat → State × List TxDesc
  | 0, _ => (s, [])
  | n + 1, i =>
    let a := s.txDescAddr p q i
    let r := s.dmaRead a
    let w := r.1.dmaRead (a + 4)
    let d : TxDesc := ⟨i, r.2.toNat, w.2⟩
    if d.eof then (w.1, [d])
    else
      let t := w.1.readDescs p q n ((i + 1) % max 1 (s.g (F.ETH_TXQ_SIZE_SIZE p q)))
      (t.1, d :: t.2)

/-- Status codes of a transmit descriptor (R454). -/
def txSent : Nat := 0
def txErr : Nat := 1
def txLinkDown : Nat := 2
def txFormat : Nat := 3

/-- A transmit descriptor completes; STATUS stands on the EOF descriptor, or on every one where `all`. -/
def State.txComplete (s : State) (p q st : Nat) (all : Bool) (d : TxDesc) : State :=
  let a := s.txDescAddr p q d.idx
  let s := s.dmaWrite (a + 4) 4 (putBits d.w1 31 31 0)
  let s := s.dmaWrite (a + 12) 4 (BitVec.ofNat 32 (2 ^ 31 + (if d.eof ∨ all then st else 0)))
  s.p (F.ETH_TXQ_HEAD_HEAD p q) ((d.idx + 1) % max 1 (s.g (F.ETH_TXQ_SIZE_SIZE p q)))

/-! ## A link that is down (R447) -/

/-- Every descriptor up to `tail` completes unsent. Log 51, DEDUCED. -/
def State.drainDescs (s : State) (p q tail : Nat) : Nat → State
  | 0 => s
  | n + 1 =>
    if s.txAvail p q tail = 0 then s
    else
      let r := s.readDescs p q 1 (s.g (F.ETH_TXQ_HEAD_HEAD p q))
      let s := r.2.foldl (fun s d => s.txComplete p q txLinkDown true d) r.1
      (s.inc (R.ETH_TX_LINKDOWN p)).drainDescs p q tail n

def State.drainItem (s : State) (p q : Nat) (i : TxReady) : State :=
  match i with
  | .pkt _ _ => s.inc (R.ETH_BR_TX_DROP p)
  | .desc tail => s.drainDescs p q tail (s.txAvail p q tail)

/-- All queues of port `p` drain. -/
def State.ethDrain (s : State) (p : Nat) : State :=
  let s := (List.range 8).foldl (fun s q => (s.ethQueue p q).foldl (fun s i => s.drainItem p q i) s) s
  (s.setEth p { s.eth p with txq := [] }).limFree p

/-- ETH_LINK_CHANGE (R447). -/
def execEthLinkChange (p : Fin 2) (up : Bool) (reason : Fin 4) (s : State) : Host.Outcome State Fault Refusal :=
  let s := s.p (F.ETH_STAT_LINK_REASON p) (if up then 0 else reason)
  if s.ethUp p = up ∨ (up ∧ !s.on (F.ETH_CTL_EN p)) then .next s
  else
    let s := (s.flag (F.ETH_STAT_LINK_UP p) up).flag (F.ETH_STAT_LINK_CHG p) true
    .next (if up then s else (s.emit Kind.ethLinkDown (Src.eth p 0)).ethDrain p)

/-- ETH_TX_TAIL_WRITE (R454). -/
def execEthTxTailWrite (p : Fin 2) (q : Fin 8) (v : Word) (s : State) : Host.Outcome State Fault Refusal :=
  let s := s.txTailWrite p q v
  .next (if s.ethUp p then s else s.ethDrain p).ok

/-! ## The MAC (R452) -/

/-- A frame without its FCS leaves, or waits. -/
def State.macSend (s : State) (p q : Nat) (bs : List Byte) : State :=
  (s.limTake p (bs.length + 4)).send (.eth p q (bs ++ leBytes 4 (crcBytes bs).toNat))

/-- What the MAC finds ready: a bridge packet, or the descriptors of a frame. -/
inductive TxFound where
  | pkt (bytes : List Byte)
  | frame (ds : List TxDesc)
  deriving DecidableEq, Repr

/-- The oldest ready frame of queue `q`, given its items; items without a whole frame go. -/
def State.txFind (s : State) (p q : Nat) : List TxReady → State × Option TxFound
  | [] => (s.setQueue p q [], none)
  | .pkt t b :: l => (s.setQueue p q (.pkt t b :: l), some (.pkt b))
  | .desc tail :: l =>
    let r := s.readDescs p q (s.txAvail p q tail) (s.g (F.ETH_TXQ_HEAD_HEAD p q))
    if r.2.any TxDesc.eof then (r.1.setQueue p q (.desc tail :: l), some (.frame r.2)) else r.1.txFind p q l

/-- The oldest ready frame of the highest-numbered queue that holds one (R452). -/
def State.txPick (s : State) (p : Nat) : List Nat → State × Option (Nat × TxFound)
  | [] => (s, none)
  | q :: qs =>
    let r := s.txFind p q (s.ethQueue p q)
    match r.2 with
    | some f => (r.1, some (q, f))
    | none => r.1.txPick p qs

/-- Whether SOF and EOF bracket a frame. -/
def framed (ds : List TxDesc) : Bool :=
  match ds with
  | [] => false
  | d :: ds => d.sof && ds.all (fun e => !e.sof)

/-- The buffers of a frame. -/
def State.txBuffers (s : State) (p : Nat) : List TxDesc → State × List Byte
  | [] => (s, [])
  | d :: ds =>
    let r := s.bufRead d.addr (bitsOf d.w1 15 0)
    let t := r.1.txBuffers p ds
    (t.1, r.2 ++ t.2)

/-- Log 51, DEDUCED. -/
def State.txDone (s : State) (p q st : Nat) (all : Bool) (ds : List TxDesc) : State :=
  ds.foldl (fun s d => s.txComplete p q st all d) s

/-- A frame from descriptors `ds` of queue `q` is at the head. Log 51, DEDUCED. -/
def State.txFrameOut (s : State) (p q : Nat) (ds : List TxDesc) : State :=
  if !framed ds then s.txDone p q txFormat true ds
  else
    let d := ds.headD ⟨0, 0, 0⟩
    let r := s.txBuffers p ds
    let bs := s.macBuild p q (d.w1.getLsbD 28) r.2
    if s.ethMax p bs < bs.length + 4 then (r.1.inc (R.ETH_TX_ERR p)).txDone p q txErr false ds
    else if !s.limOpen p then s.limWait p q
    else
      let s := (r.1.macSend p q bs).inc (R.ETH_TX_GOOD p)
      let s := if d.w1.getLsbD 27 then s.txStamp p (bitsOf d.w1 23 16) else s
      s.txDone p q txSent false ds

/-- A bridge packet of queue `q` is at the head. A paired device that does not drive sends none (R471). Log 53, DEDUCED. -/
def State.txPacketOut (s : State) (p q : Nat) (b : List Byte) : State :=
  let bs := s.macBuild p q false b
  let rest := (s.ethQueue p q).drop 1
  if !s.mayDrive then (s.setQueue p q rest).inc (R.ETH_BR_TX_DROP p)
  else if s.ethMax p bs < bs.length + 4 then (s.setQueue p q rest).inc (R.ETH_TX_ERR p)
  else if !s.limOpen p then s.limWait p q
  else (((s.setQueue p q rest).macSend p q bs).inc (R.ETH_TX_GOOD p)).inc (R.ETH_BR_TX p)

/-- ETH_TX_FRAME (R452): the MAC of port `p` is free, `ns` after the last such point, `edges` of the time clock after the
last sample of its counter. A frame that waits for the limiter blocks every queue. In LINK region safe state nothing is sent
(R301). -/
def execEthTxFrame (p : Fin 2) (ns edges : Nat) (s : State) : Host.Outcome State Fault Refusal :=
  let s := (s.ptpRun edges).limRefill p ns
  if s.regionSafe 5 ∨ !s.on (F.ETH_CTL_EN p) then .next s
  else if !s.ethUp p then .next (s.ethDrain p)
  else
    let r := s.txPick p (match s.waitingQueue p with | some q => [q] | none => [7, 6, 5, 4, 3, 2, 1, 0])
    match r.2 with
    | some (q, .pkt b) => .next (r.1.txPacketOut p q b)
    | some (q, .frame ds) => .next (r.1.txFrameOut p q ds)
    | none => .next r.1

/-! ## Receiving (R449, R450, R453, R455, R456) -/

/-- A buffer's worth of a frame at a time. -/
def chunks (n : Nat) : Nat → List Byte → List (List Byte)
  | 0, _ => []
  | k + 1, bs => if bs.length ≤ max 1 n then [bs] else bs.take (max 1 n) :: chunks n k (bs.drop (max 1 n))

/-- What a frame says of itself in its descriptors: GOOD, TRUNC, OVERSIZE, TAGGED, PCP, and its time stamp. -/
structure RxStatus where
  good : Bool
  trunc : Bool
  above : Bool
  tagged : Bool
  pcp : Nat
  ns : Nat
  sec : Nat
  deriving DecidableEq, Repr

/-- Word 1 of a returned receive descriptor (R454). -/
def RxStatus.word1 (x : RxStatus) (sof eof : Bool) (len : Nat) : Word :=
  let b := fun (c : Bool) (n : Nat) => if c then 2 ^ n else 0
  BitVec.ofNat 32 (b sof 30 + b eof 29 + b (x.good && eof) 28 + b x.trunc 27 + b x.above 26 + b x.tagged 25 + x.pcp * 2 ^ 22 + len)

/-- Buffer `c` of a frame is stored and its descriptor returned. -/
def State.rxReturn (s : State) (p r : Nat) (x : RxStatus) (last : Nat) (c : List Byte × Nat) : State :=
  let i := s.g (F.ETH_RXR_HEAD_HEAD p r)
  let a := 16 * s.g (F.ETH_RXR_BASE_BASE p r) + 16 * i
  let w := s.dmaRead a
  let s := w.1.bufWrite (w.2.toNat - w.2.toNat % 64) c.1
  let sof := c.2 == 0
  let s := s.dmaWrite (a + 4) 4 (x.word1 sof (c.2 == last) c.1.length)
  let s := s.dmaWrite (a + 8) 4 (BitVec.ofNat 32 (if sof then x.ns else 0))
  let s := s.dmaWrite (a + 12) 4 (BitVec.ofNat 32 (if sof then x.sec else 0))
  s.p (F.ETH_RXR_HEAD_HEAD p r) ((i + 1) % max 1 (s.g (F.ETH_RXR_CFG_SIZE p r)))

/-- A frame fills descriptors of ring `r` (R455, R456). Log 52, DEDUCED. -/
def State.rxFill (s : State) (p r : Nat) (x : RxStatus) (bs : List Byte) : State :=
  let n := s.g (F.ETH_RXR_CFG_SIZE p r)
  let avail := if n = 0 then 0 else (s.g (F.ETH_RXR_TAIL_TAIL p r) + n - s.g (F.ETH_RXR_HEAD_HEAD p r) % n) % n
  let cs := chunks (s.g (F.ETH_RXR_CFG_BUFSZ p r)) bs.length bs
  if avail < cs.length then
    let x := { x with good := false, trunc := true }
    (((cs.take avail).zipIdx).foldl (fun s c => s.rxReturn p r x (avail - 1) c) s).inc (R.ETH_RX_NOBUF p)
  else (cs.zipIdx).foldl (fun s c => s.rxReturn p r x (cs.length - 1) c) s

/-- The ring of a frame: the first enabled match, else that of its PCP (R453). Log 52, DEDUCED. -/
def State.rxRing (s : State) (p : Nat) (bs : List Byte) : Nat :=
  let hit := fun (i : Nat) => s.on (F.ETH_RX_MATCH_EN p i) && (
    if s.on (F.ETH_RX_MATCH_KIND p i) then ipUdp bs && udpPort (ethBody bs) == s.g (F.ETH_RX_MATCH_VALUE p i)
    else ethType bs == s.g (F.ETH_RX_MATCH_VALUE p i))
  match (List.range 8).find? hit with
  | some i => s.g (F.ETH_RX_MATCH_RING p i)
  | none => bitsOf (s.rd (R.ETH_RX_PCP p)) (3 * ethPcp bs + 2) (3 * ethPcp bs)

/-- A frame is delivered to its ring (R450). -/
def State.rxDeliver (s : State) (p : Nat) (good trunc above : Bool) (bs : List Byte) : State :=
  let strip := s.on (F.ETH_CTL_TAG_STRIP p) && ethTagged bs
  let t := s.stampNow (s.gi (F.ETH_TS_CORR_RX p))
  s.rxFill p (s.rxRing p bs) ⟨good, trunc, above, strip, if strip then ethPcp bs else 0, t.1, t.2⟩
    (if strip then bs.take 12 ++ bs.drop 16 else bs)

/-- Whether R449 drops a frame by its VLAN. Log 52, DEDUCED. -/
def State.vlanDrops (s : State) (p : Nat) (bs : List Byte) : Bool :=
  (ethTagged bs && ethVid bs != 0 && ethVid bs != s.g (F.ETH_VLAN_VID p)) || (ethVid bs == 0 && !s.on (F.ETH_CTL_ACCEPT_UNTAG p))

/-- A whole frame `bs`, without its FCS, is judged (R449). Log 52, DEDUCED. -/
def State.rxJudge (s : State) (p : Nat) (bs : List Byte) (fcsOk : Bool) : State :=
  let m := s.ethMax p bs
  if bs.length + 4 < 64 then s.inc (R.ETH_RX_RUNT p)
  else if m < bs.length + 4 then
    let s := s.inc (R.ETH_RX_OVERSIZE p)
    if s.on (F.ETH_CTL_OVERSIZE_KEEP p) then s.rxDeliver p false false true (bs.take (m - 4)) else s
  else if !fcsOk then s.inc (R.ETH_RX_FCS p)
  else if ethType bs = 0x8808 then s.inc (R.ETH_RX_PAUSE p)
  else if s.vlanDrops p bs then s.inc (R.ETH_RX_VLAN_DROP p)
  else
    let s := s.inc (R.ETH_RX_GOOD p)
    match s.brMatch p bs with
    | some f => s.brReceive f bs
    | none => s.rxDeliver p true false false bs

/-- ETH_RX_FRAME (R449): frame `bs` without its FCS on port `p`; `cut` where a domain reset or a loss of link cut it off.
A crossing that is not READY accepts
nothing (R333). The time stamp is that of the counter `edges` after its last sample. Log 68, DESIGN CHOICE. -/
def execEthRxFrame (p : Fin 2) (bs : List Byte) (fcsOk cut : Bool) (edges : Nat) (s : State) : Host.Outcome State Fault Refusal :=
  let s := s.ptpRun edges
  if !s.on (F.ETH_CTL_EN p) ∨ bs = [] then .next s
  else if cut then .next (s.rxDeliver p false true false bs)
  else if s.ethUp p ∧ s.on (F.ETH_STAT_READY p) then .next (s.rxJudge p bs fcsOk)
  else .next s

end Sys2Proof.Machine
end

