-- ==== Sys2Proof/Machine/Remote.lean ====
section
/-!
DEFINITION. Remote access over the fabric: requests and responses (R411, R415), the host tunnel (R412, R498, R499), forwarded
descriptors (R413) and fault reports (R414).
-/
namespace Sys2Proof.Machine

/-! ## Requests to this device -/

/-- REMOTE_READ (R411): comes in on port `p`. Log 59, DEDUCED. -/
def execRemoteRead (p : Fin 8) (e : Env) (ws : List Word) (s : State) : Host.Outcome State Fault Refusal :=
  let e := { e with resp := false, tunnel := false, type := 6 }
  .next (s.received p e 6 ws (fun s =>
    let n := bitsOf (ws.getD 1 0) 10 0
    if n < 1 ∨ 1022 < n then s.remoteAnswer e true [] else s.remRead e (ws.getD 0 0).toNat [] n))

/-- REMOTE_WRITE (R411). Log 59, DEDUCED. -/
def execRemoteWrite (p : Fin 8) (e : Env) (ws : List Word) (s : State) : Host.Outcome State Fault Refusal :=
  let e := { e with resp := false, tunnel := false, type := 7 }
  .next (State.go <| s.received p e 7 ws (fun s =>
    let n := bitsOf (ws.getD 1 0) 10 0
    if n < 1 ∨ 1022 < n ∨ ws.length ≠ n + 2 then s.remoteAnswer e true []
    else s.remWrite e (ws.getD 0 0).toNat (ws.drop 2)))

/-! ## The host tunnel -/

/-- Whether the manager serves a tunnel request from device `d` for `n` words at the host address in `ws` (R498). -/
def State.tunnelServes (s : State) (d n : Nat) (ws : List Word) : Bool :=
  s.manager && s.on F.HOST_STAT_LINK_UP &&
    (s.rd (if d < 32 then R.HOST_TUNNEL_EN_LO else R.HOST_TUNNEL_EN_HI)).getLsbD (d % 32) &&
    decide (1 ≤ n ∧ n ≤ 1021) && (ws.getD 0 0).toNat % 4 == 0

/-- HOST_TUNNEL_READ (R412, R498): the host answers the PCIe read with `host`, or with an error. -/
def execHostTunnelRead (p : Fin 8) (e : Env) (ws : List Word) (host : Option (List Word)) (s : State) :
    Host.Outcome State Fault Refusal :=
  let e := { e with resp := false, tunnel := true, type := 6 }
  .next (s.received p e 6 ws (fun s =>
    let n := bitsOf (ws.getD 2 0) 10 0
    match host with
    | some vs => if s.tunnelServes e.src n ws ∧ vs.length = n then s.remoteAnswer e false vs else s.remoteAnswer e true []
    | none => s.remoteAnswer e true []))

/-- HOST_TUNNEL_WRITE (R412, R498). -/
def execHostTunnelWrite (p : Fin 8) (e : Env) (ws : List Word) (s : State) : Host.Outcome State Fault Refusal :=
  let e := { e with resp := false, tunnel := true, type := 7 }
  .next (s.received p e 7 ws (fun s =>
    let n := bitsOf (ws.getD 2 0) 10 0
    if s.tunnelServes e.src n ws ∧ ws.length = n + 3 then
      (s.hostWrite ((ws.getD 0 0).toNat + (ws.getD 1 0).toNat * 2 ^ 32) (ws.drop 3)).remoteAnswer e false []
    else s.remoteAnswer e true []))

/-! ## Requests of this device -/

/-- The tag's request ends: the next one with this tag carries the next epoch (R400). -/
def State.tagEnds (s : State) (r : Request) : State :=
  if r.core then { s with fb := { s.fb with epochs := SMap.set zeroN s.fb.epochs r.tag ((r.epoch + 1) % 16) } } else s

/-- The control core's remote access ends with STATUS `st` (R415). Log 59, DEDUCED. -/
def State.raDone (s : State) (st : Nat) : State :=
  ((s.flag F.FAB_RA_CTL_BUSY false).flag F.FAB_RA_CTL_GO false).p F.FAB_RA_CTL_STATUS st

/-- The first request with tag `tag`, of the control core or of a completion, and the others. -/
def takeReq (core : Bool) (tag : Nat) : List Request → Option (Request × List Request)
  | [] => none
  | r :: rs =>
    if r.core = core ∧ r.tag = tag then some (r, rs)
    else (takeReq core tag rs).map (fun x => (x.1, r :: x.2))

/-- A response to the request `r` (R411, R499). Log 48, DEDUCED. -/
def State.responded (s : State) (r : Request) (ws : List Word) : State :=
  let st := bitsOf (ws.getD 0 0) 1 0
  if r.core then
    let s := if st = 0 ∧ !r.write then s.wr R.FAB_RA_DATA (ws.getD 1 0) else s
    s.raDone st
  else if st ≠ 0 then s.flag F.HOST_STAT_HOST_ERR true
  else s

/-- REMOTE_RESPONSE (R411, R400). -/
def execRemoteResponse (p : Fin 8) (e : Env) (ws : List Word) (s : State) : Host.Outcome State Fault Refusal :=
  let e := { e with resp := true }
  .next (s.received p e (if e.type = 7 then 7 else 6) ws (fun s =>
    match takeReq (!e.tunnel) e.tag s.fb.reqs with
    | none => s
    | some (r, rest) =>
      if r.epoch ≠ e.epoch then s.inc R.FAB_EPOCH_DROP
      else (({ s with fb := { s.fb with reqs := rest } } : State).tagEnds r).responded r ws))

/-- REMOTE_ACCESS_GO (R415): a write of `v` to FAB_RA_CTL with GO = 1. -/
def execRemoteAccessGo (v : Word) (s : State) : Host.Outcome State Fault Refusal := .next (s.raCtlWrite (v ||| 0x80000000#32)).ok

/-- REMOTE_ACCESS_TIMEOUT (R415): the `j`-th outstanding request has had no response for RA_TO ms. -/
def execRemoteAccessTimeout (j : Nat) (s : State) : Host.Outcome State Fault Refusal :=
  match s.fb.reqs[j]? with
  | none => .next s
  | some r =>
    let s := ({ s with fb := { s.fb with reqs := s.fb.reqs.eraseIdx j } } : State).tagEnds r
    .next (if r.core then s.raDone 3 else s)

/-! ## Forwarded descriptors and fault reports -/

/-- DESCRIPTOR_FWD (R413, R489): the descriptor waits for this device's engine. -/
def execDescriptorFwd (p : Fin 8) (e : Env) (ws : List Word) (s : State) : Host.Outcome State Fault Refusal :=
  .next (s.received p e 8 ws (fun s =>
    let w := ws.getD 0 0
    if ws.length = 9 then
      { s with hs := { s.hs with ready := s.hs.ready ++ [⟨bitsOf w 1 0, bitsOf w 27 16, ws.drop 1, false⟩] } }
    else s))

/-- FAULT_REPORT (R414, R494). -/
def execFaultReport (p : Fin 8) (e : Env) (ws : List Word) (s : State) : Host.Outcome State Fault Refusal :=
  .next (s.received p e 9 ws (fun s => if s.manager then s.event evFault e.src ws else s))

end Sys2Proof.Machine
end

