-- ==== Sys2Proof/Machine/HostCmd.lean ====
section
/-!
DEFINITION. The host interface's execution engine (R490, R491) and its commands (R492). A command is one step: what the host,
other devices and time bring to it are its operands.
-/
namespace Sys2Proof.Machine

/-! ## The engine -/

/-- The oldest waiting descriptor of ring `r`, if it may start: one with FENCE only when nothing fetched earlier waits. Log 56, DEDUCED. -/
def State.ringReady (s : State) (r : Nat) : Option Desc :=
  match s.hs.ready.find? (fun d => d.ring == r) with
  | some d => if (d.w 0).getLsbD 17 ∧ s.hs.ready.head? ≠ some d then none else some d
  | none => none

/-- The descriptor that the engine starts next (R490); none while a locked sequence holds a bank (R326). Log 56, DEDUCED. -/
def State.engineNext (s : State) : Option Desc :=
  if s.lockBank.isSome ∨ s.ft.coreDown ∨ !s.cqRoom ∨ s.hs.flowWait.isSome then none
  else (List.range 4).findSome? s.ringReady

/-- The descriptor `d` ends (R493). One that a reset of the device or of the interface has ended completes nothing. Log 56, DEDUCED. -/
def State.finish (s : State) (d : Desc) (st : Nat) (r0 r1 : Word) : State :=
  if d ∈ s.hs.ready then
    let s := { s with hs := { s.hs with ready := s.hs.ready.erase d, engErr := [] } }
    if s.on F.HOST_CQ_CFG_EN then s.complete d st r0 r1 else s
  else s

/-- Opcodes of R492. -/
def opcodes : List Nat :=
  [0x00, 0x01, 0x02, 0x03, 0x04, 0x10, 0x11, 0x12, 0x13, 0x14, 0x20, 0x30, 0x31, 0x40, 0x50, 0x51]

/-- Whether the reserved bits of the descriptor are 0 (R487). -/
def Desc.plain (d : Desc) : Bool := bitsOf (d.w 0) 23 19 == 0 && bitsOf (d.w 5) 15 6 == 0

/-- What a command answers. -/
structure Done where
  s : State
  st : Nat
  r0 : Word
  r1 : Word

def State.donef (s : State) (st : Nat) (r0 r1 : Word) : Done := ⟨s, st, r0, r1⟩

/-- The command with code `op`, if the engine starts it now: `fits` are its own field rules, `remote` whether it may name
another device, `addrs` the internal addresses that it reaches. It waits while one of these hangs (R336). -/
def State.command (s : State) (op : Nat) (fits : Desc → Bool) (remote : Bool) (addrs : Desc → List Nat)
    (body : State → Desc → Done) : State :=
  match s.engineNext with
  | none => s
  | some d =>
    if d.opcode ≠ op then s
    else if !d.plain ∨ !fits d ∨ (!remote && d.dev != s.myId) then s.finish d stBadField 0 0
    else
      let hangs := fun (a : Nat) => (s.stuck Asker.engine.master a 4).isSome && !s.hs.engErr.contains a
      match (if d.dev = s.myId then (addrs d).find? hangs else none) with
      | some a => if s.mx.hung.any (fun h => h.who == .engine) then s else s.waits a 4 none .engine
      | none => let r := body s d; r.s.finish d r.st r.r0 r.r1

/-! ## Words moved between the host and an address -/

/-- A read and a write by the engine; an access that hung before has ended with an error. -/
def State.engRead (s : State) (a : Nat) : State × BusAns :=
  if s.hs.engErr.contains a then (s, .err) else s.readAt (Src.matrix 6) a 4 false
def State.engWrite (s : State) (a : Nat) (v : Word) : State × BusAns :=
  if s.hs.engErr.contains a then (s, .err) else s.store (Src.matrix 6) a v

/-- How far a movement of words came, and its status. -/
structure Transfer where
  s : State
  n : Nat
  st : Nat

/-- Words written from `a` on, `n` of which are done. -/
def State.putWords (s : State) (a n : Nat) : List Word → Transfer
  | [] => ⟨s, n, stOk⟩
  | v :: vs =>
    let r := s.engWrite a v
    match r.2 with
    | .ok _ => r.1.putWords (a + 4) (n + 1) vs
    | _ => ⟨r.1, n, stAddrErr⟩

/-- `n` words read from `a` on, after `ws`. -/
def State.getWords (s : State) (a : Nat) (ws : List Word) : Nat → State × List Word × Nat
  | 0 => (s, ws, stOk)
  | n + 1 =>
    let r := s.engRead a
    match r.2 with
    | .ok v => r.1.getWords (a + 4) (ws ++ [v]) n
    | _ => (r.1, ws, stAddrErr)

/-- An envelope of the descriptor's own tag and epoch (R413, R415). -/
def State.descEnv (s : State) (d : Desc) (dst type : Nat) : Env :=
  { s.envTo dst type with tag := bitsOf (d.w 0) 11 0, epoch := bitsOf (d.w 0) 15 12 }

/-- The words of a chunk (R490): 4,096 bytes on the manager, one tunnel request on a worker, and never more than a remote
request holds (R411). Log 56, DEDUCED. -/
def State.chunk (s : State) (far : Bool) : Nat := if s.manager then (if far then 1022 else 1024) else 1021

/-- A worker asks for `n` words of host memory. -/
def State.askHost (s : State) (d : Desc) (a n : Nat) : State :=
  if s.manager then s
  else s.sendMsg { s.descEnv d 0 6 with tunnel := true } [BitVec.ofNat 32 a, BitVec.ofNat 32 (a / 2 ^ 32), BitVec.ofNat 32 n]

/-- Whether the device can reach host memory. -/
def State.hostReach (s : State) : Bool := s.manager || (s.on F.FAB_ID_VALID && (s.routeTo 0).isSome)

/-- Words written to host memory for descriptor `d`. -/
def State.giveHost (s : State) (d : Desc) (a : Nat) (ws : List Word) : State := s.hostWriteAs (s.descEnv d 0 7) a ws

/-- `n` words of the host buffer of `d`, of which `i` have come, go to `sink` chunk by chunk. `buf` is what the host gives: a
read past its end fails. -/
def State.moveIn (s : State) (d : Desc) (far : Bool) (buf : List Word) (sink : State → Nat → Nat → Transfer) (n : Nat) :
    Nat → Nat → Transfer
  | 0, i => ⟨s, i, stOk⟩
  | f + 1, i =>
    if n ≤ i then ⟨s, i, stOk⟩
    else
      let k := min (s.chunk far) (n - i)
      let s := s.askHost d (d.hostAddr + 4 * i) k
      if buf.length < i + k ∨ !s.hostReach then ⟨s, i, stHostErr⟩
      else
        let r := sink s i k
        if r.st ≠ stOk then ⟨r.s, i + r.n, r.st⟩ else r.s.moveIn d far buf sink n f (i + k)

/-- `n` words from `source` go to the host buffer of `d` chunk by chunk. -/
def State.moveOut (s : State) (d : Desc) (far : Bool) (source : State → Nat → Nat → State × List Word × Nat) (n : Nat) :
    Nat → Nat → Transfer
  | 0, i => ⟨s, i, stOk⟩
  | f + 1, i =>
    if n ≤ i then ⟨s, i, stOk⟩
    else
      let k := min (s.chunk far) (n - i)
      let r := source s i k
      if r.2.2 ≠ stOk then ⟨r.1, i, r.2.2⟩
      else (r.1.giveHost d (d.hostAddr + 4 * i) r.2.1).moveOut d far source n f (i + k)

/-- A buffer of `n` words that a command needs whole. -/
def State.whole (s : State) (d : Desc) (buf : List Word) (n : Nat) : State × Option (List Word) :=
  let r := s.moveIn d false buf (fun s _ k => ⟨s, k, stOk⟩) n n 0
  (r.s, if r.st = stOk then some (buf.take n) else none)

/-! ## Other devices (R411, R415, R491) -/

/-- The status of a request to device `dev`: `ans` is how it ended. -/
def State.remStatus (s : State) (dev : Nat) (ans : Option RemAns) : Nat :=
  if !s.on F.FAB_ID_VALID ∨ (s.routeTo dev).isNone then stNoRoute
  else match ans with | some (.ok _) => stOk | some .err => stAddrErr | _ => stTimeout

/-- A request of descriptor `d` to its device. Log 56, DEDUCED. -/
def State.askDevice (s : State) (d : Desc) (type a n : Nat) (ws : List Word) : State :=
  s.sendMsg (s.descEnv d d.dev type) (BitVec.ofNat 32 a :: BitVec.ofNat 32 n :: ws)

/-- A write of `ws` at `a` of the descriptor's device, and a read of `n` words. -/
def State.devPut (s : State) (d : Desc) (a : Nat) (ws : List Word) (ans : Option RemAns) : Transfer :=
  if d.dev = s.myId then s.putWords a 0 ws
  else
    let st := s.remStatus d.dev ans
    ⟨s.askDevice d 7 a ws.length ws, if st = stOk then ws.length else 0, st⟩
def State.devGet (s : State) (d : Desc) (a n : Nat) (ans : Option RemAns) : State × List Word × Nat :=
  if d.dev = s.myId then s.getWords a [] n
  else
    let t := s.askDevice d 6 a n []
    let st := s.remStatus d.dev ans
    match ans with
    | some (.ok ws) => if st = stOk ∧ ws.length ≠ n then (t, [], stAddrErr) else (t, ws, st)
    | _ => (t, [], st)

/-! ## The commands -/

def noAddrs (_ : Desc) : List Nat := []

/-- The word addresses of a descriptor's LEN bytes at LOCAL, as far as a register can stand there. -/
def lenAddrs (d : Desc) : List Nat :=
  if d.loc + d.len ≤ 0x03000000 then [] else (List.range (d.len / 4)).map (fun i => d.loc + 4 * i)

/-- NOP_COMMAND (R491). -/
def execNopCommand (s : State) : Host.Outcome State Fault Refusal :=
  .next (s.command 0x00 (fun d => d.len == 0) false noAddrs (fun s _ => s.donef stOk 0 0))

/-- BAD_OPCODE (R491). -/
def execBadOpcode (s : State) : Host.Outcome State Fault Refusal :=
  match s.engineNext with
  | none => .next s
  | some d => .next (if opcodes.contains d.opcode then s else s.finish d stBadOpcode 0 0)

/-- LEN of MEM_WRITE and MEM_READ. -/
def memLen (d : Desc) : Bool := decide (4 ≤ d.len ∧ d.len ≤ 1048576 ∧ d.len % 4 = 0)

/-- MEM_WRITE (R491): `buf` is what the host gives, `ans` how the requests to another device end. -/
def execMemWrite (buf : List Word) (ans : List RemAns) (s : State) : Host.Outcome State Fault Refusal :=
  .next (State.go <| s.command 0x01 memLen true lenAddrs (fun s d =>
    let far := d.dev != s.myId
    let sink := fun (s : State) (i k : Nat) => s.devPut d (d.loc + 4 * i) ((buf.drop i).take k) ans[i / s.chunk far]?
    let r := s.moveIn d far buf sink (d.len / 4) (d.len / 4) 0
    r.s.donef r.st (BitVec.ofNat 32 (4 * r.n)) 0))

/-- MEM_READ (R491). -/
def execMemRead (ans : List RemAns) (s : State) : Host.Outcome State Fault Refusal :=
  .next (s.command 0x02 memLen true lenAddrs (fun s d =>
    let far := d.dev != s.myId
    let source := fun (s : State) (i k : Nat) => s.devGet d (d.loc + 4 * i) k ans[i / s.chunk far]?
    let r := s.moveOut d far source (d.len / 4) (d.len / 4) 0
    r.s.donef r.st (BitVec.ofNat 32 (4 * r.n)) 0))

/-- REG_WRITE (R491). -/
def execRegWrite (ans : Option RemAns) (s : State) : Host.Outcome State Fault Refusal :=
  .next (State.go <| s.command 0x03 (fun d => d.len == 0) true (fun d => [d.loc]) (fun s d =>
    let r := s.devPut d d.loc [d.arg1] ans
    r.s.donef r.st 0 0))

/-- REG_READ (R491). -/
def execRegRead (ans : Option RemAns) (s : State) : Host.Outcome State Fault Refusal :=
  .next (s.command 0x04 (fun d => d.len == 0) true (fun d => [d.loc]) (fun s d =>
    let r := s.devGet d d.loc 1 ans
    r.1.donef r.2.2 (r.2.1.headD 0) 0))

/-! ### LOAD_PROG -/

/-- The clusters of the mask. -/
def Desc.clusters (d : Desc) : List Nat := (List.range 16).filter (fun c => d.arg0.testBit c)

/-- Pairs of words, the lower first, as program words. -/
def wordPairs : List Word → List (BitVec 64)
  | lo :: hi :: ws => (hi ++ lo) :: wordPairs ws
  | _ => []

/-- 64-bit words from program index `x` on, in every cluster of `cs`. -/
def State.putProg (s : State) (cs : List Nat) (x : Nat) : List (BitVec 64) → Transfer
  | [] => ⟨s, 0, stOk⟩
  | w :: ws =>
    let r := cs.foldl (fun (r : State × Bool) c =>
      let t := r.1.took (r.1.progWrite (Src.matrix 6) c (8 * x) (.words [w.extractLsb' 0 32, w.extractLsb' 32 32]))
      (t.1, r.2 || t.2 == .err)) (s, false)
    if r.2 then ⟨r.1, 0, stAddrErr⟩ else r.1.putProg cs (x + 1) ws

/-- The CRC of the words that cluster `c` reads back. Log 57, DESIGN CHOICE. -/
def State.progCrc (s : State) (c x n : Nat) : State × Word :=
  let r := s.getWords (progByte c x) [] n
  (r.1, crc32 r.2.1)

/-- LOAD_PROG (R135, R492): it waits while a cluster of the mask is in ENTRY, RUN or DRAIN. Log 57, DESIGN CHOICE; log 58, DEDUCED. -/
def execLoadProg (buf : List Word) (s : State) : Host.Outcome State Fault Refusal :=
  let busy : Bool := match s.engineNext with
    | some d => d.opcode == 0x10 && d.clusters.any (fun c => decide (3 ≤ s.g (F.CL_STAT_STATE c)))
    | none => false
  if busy then .next s
  else
    .next (s.command 0x10 (fun d => decide (d.len % 8 = 0 ∧ d.loc + d.len / 8 ≤ 8192)) false noAddrs (fun s d =>
      let n := d.len / 4
      let sink := fun (s : State) (i k : Nat) =>
        s.putProg d.clusters (d.loc + i / 2) (wordPairs ((buf.drop (2 * (i / 2))).take (i + k - 2 * (i / 2))))
      let r := s.moveIn d false buf sink n n 0
      if r.st ≠ stOk then r.s.donef r.st 0 0
      else
        let q := d.clusters.foldl (fun (q : State × Nat × List Word) c =>
          let x := q.1.progCrc c d.loc n
          (x.1, if x.2 = d.arg1 then q.2.1 else q.2.1 + 2 ^ c, q.2.2 ++ [x.2])) (r.s, 0, [])
        let free := q.1.nextFree
        let t := if d.clusters = [] then free.1 else q.1
        t.donef (if q.2.1 = 0 then stOk else stCrcBad) (q.2.2.headD (Config.freeWord free.2)) (BitVec.ofNat 32 q.2.1)))

/-! ### Tables and coefficients -/

/-- A target tick of ARG1 and ARG2. -/
def Desc.tgt (d : Desc) : Nat := d.target

/-- LOAD_TT (R144, R145, R492). -/
def execLoadTt (buf : List Word) (s : State) : Host.Outcome State Fault Refusal :=
  .next (s.command 0x11 (fun d => d.len == 8192) false noAddrs (fun s d =>
    let base := 0x03018000 + 0x2000 * (1 - s.ttSel)
    let r := s.moveIn d false buf (fun s i k => s.putWords (base + 4 * i) 0 ((buf.drop i).take k)) 2048 2048 0
    let s := r.s
    if r.st ≠ stOk then s.donef r.st (s.rd R.FCST_TT_CTL) (s.rd R.FCST_TT_ERR)
    else if d.tgt = 0 then s.donef stOk (s.rd R.FCST_TT_CTL) (s.rd R.FCST_TT_ERR)
    else
      let s := ((s.wr R.FCST_TT_TGT_LO d.arg1).wr R.FCST_TT_TGT_HI (d.w 7)).ttArm
      s.donef (if s.g F.FCST_TT_CTL_STATE = 1 then stOk else stRefused) (s.rd R.FCST_TT_CTL) (s.rd R.FCST_TT_ERR)))

/-- The lowest-numbered entry of TIME_SCHED that is not ARMED is armed with this action (R62): the entry, if there is one, and
whether it took it. Log 57, DESIGN CHOICE. -/
def State.armLowest (s : State) (type arg tgt : Nat) : State × Option Nat × Bool :=
  match (List.range 32).find? (fun n => s.schedState false n != 1) with
  | none => (s, none, false)
  | some n =>
    let s := (s.wr (R.TIME_SCHED_TGT_LO n) (BitVec.ofNat 32 tgt)).wr (R.TIME_SCHED_TGT_HI n) (BitVec.ofNat 32 (tgt / 2 ^ 32))
    let s := s.schedWrite false n (BitVec.ofNat 32 (2 ^ 28 + type * 2 ^ 24 + arg))
    (s, some n, s.schedState false n == 1)

/-- The words of the crossing table and its descriptors through XING_WIN. -/
def State.putXing (s : State) (i : Nat) : List Word → Transfer
  | [] => ⟨s, 0, stOk⟩
  | v :: vs =>
    let s := if i < 32768 then (s.p F.XING_WIN_COPY (1 - s.xSel)).p F.XING_WIN_PAGE (i / 8192) else s
    let r := s.store (Src.matrix 6) (if i < 32768 then 0x03028000 + 4 * (i % 8192) else R.XING_DL_BASE 0 + 4 * (i - 32768)) v
    match r.2 with
    | .ok _ => r.1.putXing (i + 1) vs
    | _ => ⟨r.1, 0, stAddrErr⟩

/-- LOAD_XING (R182, R183, R492). -/
def execLoadXing (buf : List Word) (s : State) : Host.Outcome State Fault Refusal :=
  .next (s.command 0x12 (fun d => d.len == 133120) false noAddrs (fun s d =>
    let r := s.moveIn d false buf (fun s i k => s.putXing i ((buf.drop i).take k)) 33280 33280 0
    if r.st ≠ stOk then r.s.donef r.st (r.s.rd R.XING_STAT) (r.s.rd R.XING_ERR)
    else
      let s := r.s.xValidate
      let good := s.g F.XING_STAT_PSTATE == 1
      if d.tgt = 0 ∨ !good then s.donef (if good then stOk else stRefused) (s.rd R.XING_STAT) (s.rd R.XING_ERR)
      else
        let a := s.armLowest 1 0 d.tgt
        a.1.donef (if a.2.2 then stOk else stRefused) (a.1.rd R.XING_STAT) (a.1.rd R.XING_ERR)))

/-- Words from lane word `x` on of every cluster of `cs`. -/
def State.putLanes (s : State) (cs : List Nat) (x : Nat) : List Word → Transfer
  | [] => ⟨s, 0, stOk⟩
  | v :: vs =>
    let r := cs.foldl (fun (r : State × Bool) c =>
      match laneByte c x with
      | some a => let t := r.1.store (Src.matrix 6) a v; (t.1, r.2 || t.2 == .err)
      | none => (r.1.decodeError (Src.matrix 6) (laneDecodeAddr c x), true)) (s, false)
    if r.2 then ⟨r.1, 0, stAddrErr⟩ else r.1.putLanes cs (x + 1) vs

/-- LOAD_COEF (R195, R198, R492). Log 58, DEDUCED. -/
def execLoadCoef (buf : List Word) (s : State) : Host.Outcome State Fault Refusal :=
  .next (s.command 0x13 (fun d => decide (d.arg0 < 128 ∧ 4 ≤ d.len ∧ d.len ≤ 262144 ∧ d.len % 4 = 0)) false noAddrs (fun s d =>
    let t := d.arg0
    let set := 1 - s.g (F.XING_CS_TARGET t)
    let w := BitVec.ofNat 32 set
    if !s.ttValid s.ttSel t ∨ s.on (F.XING_CS_XF t) then s.donef stRefused w 0xFFFFFFFF#32
    else
      let x := bitsOf (s.ttw s.ttSel t (6 + set)) 19 0
      let n := d.len / 4
      let sink := fun (s : State) (i k : Nat) => s.putLanes (s.ttClusters s.ttSel t) (x + i) ((buf.drop i).take k)
      let r := s.moveIn d false buf sink n n 0
      if r.st ≠ stOk ∨ d.tgt = 0 then r.s.donef r.st w 0xFFFFFFFF#32
      else
        let a := r.s.armLowest 2 t d.tgt
        a.1.donef (if a.2.2 then stOk else stRefused) w
          (match a.2.1 with | some n => BitVec.ofNat 32 n | none => 0xFFFFFFFF#32)))

/-- SCHEDULE (R62, R492). -/
def execSchedule (s : State) : Host.Outcome State Fault Refusal :=
  .next (s.command 0x14 (fun _ => true) false noAddrs (fun s d =>
    let a := s.armLowest (bitsOf (d.w 4) 3 0) d.arg0 d.tgt
    match a.2.1 with
    | some n => a.1.donef (if a.2.2 then stOk else stRefused) (BitVec.ofNat 32 n) (BitVec.ofNat 32 (a.1.schedState false n))
    | none =>
      let f := a.1.nextFree
      let g := f.1.nextFree
      g.1.donef stRefused (Config.freeWord f.2) (Config.freeWord g.2)))

/-! ### Flows and the Levee -/

/-- The flags `a` and `b` as they stand in `t` or stood in `s`: a flag cleared to see whether a write sets it anew. -/
def State.keepFlags (t s : State) (a b : Fld) : State := (t.flag a (s.on a || t.on a)).flag b (s.on b || t.on b)

/-- The registers of context `f` written, with FAB_FLOW_W0 last: whether a write was refused. -/
def State.flowPut (s : State) (f : Nat) (ws : List Word) : State × Bool :=
  let put := fun (s : State) (x : Nat × Word) => (s.store (Src.matrix 6) x.1 x.2).1
  let as := [(R.FAB_FLOW_W1 f, ws.getD 1 0), (R.FAB_FLOW_W2 f, ws.getD 2 0), (R.BR_CFG f, ws.getD 3 0), (R.BR_ADDR f, ws.getD 4 0),
    (R.BR_OFS f, ws.getD 5 0), (R.BR_AUX f, ws.getD 6 0), (R.FAB_FLOW_W0 f, ws.getD 0 0)]
  let t := as.foldl put ((s.flag F.FAB_STAT_FLOW_REFUSED false).flag F.FAB_STAT_CFG_REFUSED false)
  (t.keepFlags s F.FAB_STAT_FLOW_REFUSED F.FAB_STAT_CFG_REFUSED, t.on F.FAB_STAT_FLOW_REFUSED || t.on F.FAB_STAT_CFG_REFUSED)

/-- The answer of a FLOW_SET. -/
def State.flowDone (s : State) (f : Nat) (ws : List Word) : Done :=
  if f = 0 then (s.store (Src.matrix 6) (R.FAB_FLOW_W1 0) (ws.getD 1 0)).1.donef stAddrErr (s.rd R.FAB_ERR) 0
  else
    let r := s.flowPut f ws
    r.1.donef (if r.2 then stRefused else stOk) (r.1.rd R.FAB_ERR) (r.1.rd (R.FAB_FLOW_W0 f))

/-- FLOW_SET (R393, R492): a context that was valid is cleared, and the rest waits for the next tick boundary. Log 58, DEDUCED. -/
def execFlowSet (buf : List Word) (s : State) : Host.Outcome State Fault Refusal :=
  match s.hs.flowWait with
  | some (k, d, ws) =>
    if s.tick = k then .next s
    else
      let r := s.flowDone (bitsOf (d.w 4) 9 0) ws
      let t := { r.s with hs := { r.s.hs with flowWait := none } }
      .next (if t.on F.HOST_CQ_CFG_EN then t.complete d r.st r.r0 r.r1 else t)
  | none =>
    .next (s.command 0x20 (fun d => d.len == 32) false noAddrs (fun s d =>
      let f := bitsOf (d.w 4) 9 0
      let b := s.whole d buf 8
      match b.2 with
      | none => b.1.donef stHostErr (s.rd R.FAB_ERR) (s.rd (R.FAB_FLOW_W0 f))
      | some ws =>
        if ws.getD 7 0 ≠ 0 then b.1.donef stBadField 0 0
        else if f ≠ 0 ∧ b.1.flowValid f then
          let t := b.1.flowW0Write f (putBits (b.1.rd (R.FAB_FLOW_W0 f)) 31 31 0)
          ({ t with hs := { t.hs with flowWait := some (t.tick, d, ws), ready := t.hs.ready.erase d } } : State).donef stOk 0 0
        else b.1.flowDone f ws))

/-- The words of a LEVEE_SET from offset `o` on: with how many had a refused field or one out of range, and whether a binding
was refused. -/
def State.putLevee (s : State) (o n : Nat) (bind : Bool) : List Word → State × Nat × Bool × Nat
  | [] => (s, n, bind, stOk)
  | v :: vs =>
    let q := ((s.flag F.LEVEE_STAT_SEAL_REFUSED false).flag F.LEVEE_STAT_CFG_REFUSED false).flag F.LEVEE_STAT_BIND_ERR false
    let r := q.store (Src.matrix 6) (leveeBase + o) v
    let p := r.1
    let bad := p.on F.LEVEE_STAT_SEAL_REFUSED || p.on F.LEVEE_STAT_CFG_REFUSED
    let t := (p.keepFlags s F.LEVEE_STAT_SEAL_REFUSED F.LEVEE_STAT_CFG_REFUSED).flag F.LEVEE_STAT_BIND_ERR
      (s.on F.LEVEE_STAT_BIND_ERR || p.on F.LEVEE_STAT_BIND_ERR)
    match r.2 with
    | .ok _ => t.putLevee (o + 4) (if bad then n + 1 else n) (bind || p.on F.LEVEE_STAT_BIND_ERR) vs
    | _ => (t, n, bind, stAddrErr)

/-- LEVEE_SET (R233 to R236, R492). Log 58, DEDUCED. -/
def execLeveeSet (buf : List Word) (s : State) : Host.Outcome State Fault Refusal :=
  .next (s.command 0x30 (fun d => decide (d.loc % 4 = 0 ∧ d.loc < 0x10000 ∧ 4 ≤ d.len ∧ d.len ≤ 8192 ∧ d.len % 4 = 0)) false noAddrs
    (fun s d =>
      let n := d.len / 4
      let b := s.whole d buf n
      match b.2 with
      | none => b.1.donef stHostErr 0 (s.rd R.LEVEE_REFUSE_LAST)
      | some ws =>
        let r := b.1.putLevee d.loc 0 false ws
        let st := if r.2.2.2 ≠ stOk then r.2.2.2 else if r.2.1 ≠ 0 ∨ r.2.2.1 then stRefused else stOk
        r.1.donef st (BitVec.ofNat 32 r.2.1) (r.1.rd R.LEVEE_REFUSE_LAST)))

/-- LEVEE_SEAL (R233, R492). -/
def execLeveeSeal (s : State) : Host.Outcome State Fault Refusal :=
  .next (s.command 0x31 (fun d => d.len == 0) false noAddrs (fun s _ =>
    let t := s.sealKey 0x5EA1
    t.donef stOk (t.rd R.LEVEE_SEAL) 0))

/-! ### Reports -/

/-- The registers of a METER_SNAP: their values, and the reads that received an error response. -/
def State.meters (s : State) : List Word → State × List Word × Nat
  | [] => (s, [], 0)
  | a :: as =>
    let r := s.engRead a.toNat
    let t := r.1.meters as
    match r.2 with
    | .ok v => (t.1, v :: t.2.1, t.2.2)
    | _ => (t.1, 0 :: t.2.1, t.2.2 + 1)

/-- METER_SNAP (R492): it waits for the consign phase of a tick. -/
def execMeterSnap (buf : List Word) (s : State) : Host.Outcome State Fault Refusal :=
  let early : Bool := match s.engineNext with | some d => d.opcode == 0x40 && s.tm.phase != Phase.consign | none => false
  if early then .next s
  else
    .next (s.command 0x40 (fun d => decide (4 ≤ d.len ∧ d.len ≤ 1024 ∧ d.len % 4 = 0)) false
      (fun d => (buf.take (d.len / 4)).map (fun (w : Word) => w.toNat)) (fun s d =>
        let b := s.whole d buf (d.len / 4)
        match b.2 with
        | none => b.1.donef stHostErr (s.tm.tick.setWidth 32) 0
        | some as =>
          let r := b.1.meters as
          let t := r.1.giveHost d d.target ([s.tm.tick.setWidth 32, (s.tm.tick >>> 32).setWidth 32] ++ r.2.1)
          t.donef (if r.2.2 = 0 then stOk else stAddrErr) (s.tm.tick.setWidth 32) (BitVec.ofNat 32 r.2.2)))

/-- The health report. -/
def State.healthReport (s : State) : List Word :=
  [s.tm.tick.setWidth 32, (s.tm.tick >>> 32).setWidth 32, s.view R.PAIR_STAT, s.view R.PAIR_HEALTH, s.pr.sentHealth] ++
    [R.PAIR_CNS_SENT, R.PAIR_CNS_ABANDON, R.PAIR_CNS_COMMIT, R.PAIR_CNS_LOST, R.PAIR_PASSES, R.PAIR_REPLAY_RUN,
     R.PAIR_REPLAY_MISMATCH, R.PAIR_REPLAY_NOTRUN, R.PAIR_TAKEOVERS, R.FAULT_SAFE, R.FAULT_FOREQ].map s.view

/-- HEALTH (R492). -/
def execHealth (s : State) : Host.Outcome State Fault Refusal :=
  .next (s.command 0x50 (fun d => d.len == 64) false noAddrs (fun s d =>
    (s.giveHost d d.hostAddr s.healthReport).donef stOk (s.tm.tick.setWidth 32) 0))

/-- FAULT_FETCH (R297, R492). -/
def execFaultFetch (s : State) : Host.Outcome State Fault Refusal :=
  .next (s.command 0x51 (fun d => decide (d.len % 16 = 0 ∧ d.len ≤ 1024)) false noAddrs (fun s d =>
    let rd := s.g F.FAULT_REC_RD_RD
    let k := min (d.len / 16) ((s.g F.FAULT_REC_WR_WR + 64 - rd) % 64)
    let ws := (List.range (4 * k)).map (fun i => s.rd (R.FAULT_REC ((4 * rd + i) % 256)))
    let t := if k = 0 then s else s.giveHost d d.hostAddr ws
    let t := (t.p F.FAULT_REC_RD_RD ((rd + k) % 64)).showFull
    t.donef stOk (BitVec.ofNat 32 k) (t.rd R.FAULT_MERGED_CNT)))

end Sys2Proof.Machine
end

