-- ==== Sys2Proof/Machine/Jtag.lean ====
section
/-!
DEFINITION. The test access port (spec/19): its instructions (R537, R538) and the fuses (R539). The shifting of bits on TDI and
TDO is not modelled: a command is an instruction that comes into force, with its data register as operand.
-/
namespace Sys2Proof.Machine

/-- An instruction comes into force. Those that drive from the boundary cells take every signal ball. Log 64, DEDUCED. -/
def State.jtag (s : State) (i : JtagIr) : State := { s with pw := { s.pw with ir := i, owned := s.pw.owned || i.owns } }

/-- EXTEST, IDCODE, SAMPLE_PRELOAD, EXTEST_PULSE, EXTEST_TRAIN, HIGHZ, CLAMP and BYPASS (R538). -/
def execExtest (s : State) : Host.Outcome State Fault Refusal := .next (s.jtag .extest)
def execIdcode (s : State) : Host.Outcome State Fault Refusal := .next ((s.jtag .idcode).send (.jtag 0x19664001))
def execSamplePreload (s : State) : Host.Outcome State Fault Refusal := .next (s.jtag .samplePreload)
def execExtestPulse (s : State) : Host.Outcome State Fault Refusal := .next (s.jtag .extestPulse)
def execExtestTrain (s : State) : Host.Outcome State Fault Refusal := .next (s.jtag .extestTrain)
def execHighz (s : State) : Host.Outcome State Fault Refusal := .next (s.jtag .highz)
def execClamp (s : State) : Host.Outcome State Fault Refusal := .next (s.jtag .clamp)
def execBypass (s : State) : Host.Outcome State Fault Refusal := .next (s.jtag .bypass)

/-- Whether `n` times 4 is the offset of a fuse word (R521). -/
def fuseExists (n : Nat) : Bool := decide (n < 5) || (decide (8 ≤ n) && decide (n < 16))

/-- FUSE_PROG (R539): Update-DR with `dr`, VDDIO_18 at `mv` mV and the case at `mc` thousandths of a degree Celsius. SECURE_BOOT
is read as programmed. Log 64, DEDUCED. -/
def execFuseProg (dr : BitVec 64) (mv : Nat) (mc : Int) (s : State) : Host.Outcome State Fault Refusal :=
  let s := s.jtag .fuseProg
  let n := (dr.extractLsb' 56 8).toNat
  if (1710 ≤ mv ∧ mv ≤ 1890) ∧ (0 ≤ mc ∧ mc ≤ 85000) ∧ !(SMap.get zeroW s.pw.fuse 4).getLsbD 0 ∧ fuseExists n then
    .next { s with pw := { s.pw with fuse := SMap.set zeroW s.pw.fuse n (SMap.get zeroW s.pw.fuse n ||| dr.setWidth 32) } }
  else .next { s with pw := { s.pw with fuseBad := true } }

/-- FUSE_READ (R539): of fuse word `n`. Log 64, DEDUCED. -/
def execFuseRead (n : BitVec 8) (s : State) : Host.Outcome State Fault Refusal :=
  let s := s.jtag .fuseRead
  let v := (if s.pw.fuseBad then 2 ^ 63 else 0) + (SMap.get zeroW s.pw.fuse n.toNat).toNat
  .next (({ s with pw := { s.pw with fuseBad := false } } : State).send (.jtag v))

/-- TEST_LOGIC_RESET (R537). -/
def execTestLogicReset (s : State) : Host.Outcome State Fault Refusal := .next { s with pw := { s.pw with ir := .idcode } }

end Sys2Proof.Machine
end

