-- ==== Sys2Proof/Machine/Marks.lean ====
section
/-!
DEFINITION. The marks of a tick after which an access that waited for the audio phases goes on (R47, R49, R44, R326).
-/
namespace Sys2Proof.Machine

/-- COMPUTE_WINDOW_OPEN (R47): the 0.08T mark. `missed` is given where the Ferry has not read every line of the consignment
by now: the messages of it that have left (R259). -/
def execComputeWindowOpen (missed : Option Nat) (s : State) : Host.Outcome State Fault Refusal := .next (s.windowOpen missed).go

/-- CONSIGN_PHASE (R49): the 0.90T mark. `sent` is the number of messages of the consignment in flight that have left
(R259). Log 2, DESIGN CHOICE. -/
def execConsignPhase (sent : Nat) (s : State) : Host.Outcome State Fault Refusal := .next (s.consignPhase sent).go

/-- TICKS_STOPPED (R44): the point where the next boundary would have fallen, with RUN cleared. Log 2, DESIGN CHOICE; log 73, DESIGN CHOICE. -/
def execTicksStopped (s : State) : Host.Outcome State Fault Refusal := .next s.ticksStop.go

end Sys2Proof.Machine
end

