-- ==== Sys2Proof/Machine/Words.lean ====
section
/-!
DEFINITION. The commands by which a cluster issues the words of its program: one meaning for each operation of the
compute slot, the memory slots and the whole-word forms (spec/03, spec/04, spec/05).
-/
namespace Sys2Proof.Machine

/-- Cluster `c` issues a slot word: the compute operation beside the memory operations of `x` (R112). -/
def issueC (c : Nat) (x : Beside) (q : Cond) (o : COp) (s : State) : State :=
  s.issue c x.env (.slots (.op q o) x.m0 x.m1)

/-- A load in slot M0 with M1 empty, or in slot M1 beside another M0 operation (R112, R118, R119). -/
def issueLoad (c : Nat) (x : WordEnv) (pl : MemPlace) (m0 : M0Slot) (m1 : M1Slot) (s : State) : State :=
  match pl with
  | .m0 => s.issue c x (.slots .nop m0 .nop)
  | .m1 beside => s.issue c x (.slots .nop beside m1)

/-- NOP (R112). A no-operation slot issues with no effect. -/
def execNop (c : Fin 16) (x : WordEnv) (s : State) :
    Host.Outcome State Fault Refusal :=
  .next (s.issue c x (.slots .nop .nop .nop))

/-- MPY (R70). ACC_i takes the exact product of two data registers. -/
def execMpy (c : Fin 16) (x : Beside) (q : Cond) (i : Fin 4) (a b : Fin 16) (s : State) :
    Host.Outcome State Fault Refusal :=
  .next (issueC c x q (.acc .mpy i a b) s)

/-- MAC (R70). ACC_i adds the exact product with 80-bit saturation. -/
def execMac (c : Fin 16) (x : Beside) (q : Cond) (i : Fin 4) (a b : Fin 16) (s : State) :
    Host.Outcome State Fault Refusal :=
  .next (issueC c x q (.acc .mac i a b) s)

/-- MSU (R70). ACC_i subtracts the exact product with 80-bit saturation. -/
def execMsu (c : Fin 16) (x : Beside) (q : Cond) (i : Fin 4) (a b : Fin 16) (s : State) :
    Host.Outcome State Fault Refusal :=
  .next (issueC c x q (.acc .msu i a b) s)

/-- MPY_D (R70). ACC_i takes the scaled sum of two 16-bit products. -/
def execMpyD (c : Fin 16) (x : Beside) (q : Cond) (i : Fin 4) (a b : Fin 16) (s : State) :
    Host.Outcome State Fault Refusal :=
  .next (issueC c x q (.acc .mpyD i a b) s)

/-- MAC_D (R70). ACC_i adds the scaled sum of two 16-bit products with saturation. -/
def execMacD (c : Fin 16) (x : Beside) (q : Cond) (i : Fin 4) (a b : Fin 16) (s : State) :
    Host.Outcome State Fault Refusal :=
  .next (issueC c x q (.acc .macD i a b) s)

/-- MSU_D (R70). ACC_i subtracts the scaled sum of two 16-bit products with saturation. -/
def execMsuD (c : Fin 16) (x : Beside) (q : Cond) (i : Fin 4) (a b : Fin 16) (s : State) :
    Host.Outcome State Fault Refusal :=
  .next (issueC c x q (.acc .msuD i a b) s)

/-- ALD (R70). ACC_i takes a data register at the accumulator scale. -/
def execAld (c : Fin 16) (x : Beside) (q : Cond) (i : Fin 4) (a : Fin 16) (s : State) :
    Host.Outcome State Fault Refusal :=
  .next (issueC c x q (.ald i a) s)

/-- AADD (R70). ACC_i adds ACC_m with saturation. -/
def execAadd (c : Fin 16) (x : Beside) (q : Cond) (i m : Fin 4) (s : State) :
    Host.Outcome State Fault Refusal :=
  .next (issueC c x q (.aadd i m) s)

/-- ASUB (R70). ACC_i subtracts ACC_m with saturation. -/
def execAsub (c : Fin 16) (x : Beside) (q : Cond) (i m : Fin 4) (s : State) :
    Host.Outcome State Fault Refusal :=
  .next (issueC c x q (.asub i m) s)

/-- ACLR (R70). ACC_i is cleared to zero. -/
def execAclr (c : Fin 16) (x : Beside) (q : Cond) (i : Fin 4) (s : State) :
    Host.Outcome State Fault Refusal :=
  .next (issueC c x q (.aclr i) s)

/-- EXTA (R73). An accumulator is converted by shift, rounding and width into a data register. -/
def execExta (c : Fin 16) (x : Beside) (q : Cond) (d : Fin 16) (i : Fin 4) (k : Conv) (s : State) :
    Host.Outcome State Fault Refusal :=
  .next (issueC c x q (.exta d i k) s)

/-- RSUM (R76). ACC_i of the enabled lanes is summed in a fixed tree into ACC_m of logical LANE_0; `differ` says
that the two copies of the tree disagree, a hardware fault (R77). -/
def execRsum (c : Fin 16) (x : Beside) (q : Cond) (i m : Fin 4) (differ : Bool) (s : State) :
    Host.Outcome State Fault Refusal :=
  let t := issueC c x q (.rsum i m) s
  .next (if s.issues c (.slots (.op q (.rsum i m)) x.m0 x.m1) && differ then t.emit Kind.reduceMismatch (Src.cluster c 0) (progByte c (s.clu c).pc) else t)

/-- BCAST (R77). D_a of logical LANE_0 is copied into D_b of every enabled lane. -/
def execBcast (c : Fin 16) (x : Beside) (q : Cond) (d a : Fin 16) (s : State) :
    Host.Outcome State Fault Refusal :=
  .next (issueC c x q (.bcast d a) s)

/-- MOV (R74). A data register is copied. -/
def execMov (c : Fin 16) (x : Beside) (q : Cond) (d a : Fin 16) (s : State) :
    Host.Outcome State Fault Refusal :=
  .next (issueC c x q (.alu1 .mov d a) s)

/-- ADD (R74). Two data registers are added with wrap-around. -/
def execAdd (c : Fin 16) (x : Beside) (q : Cond) (d a b : Fin 16) (s : State) :
    Host.Outcome State Fault Refusal :=
  .next (issueC c x q (.alu2 .add d a b) s)

/-- SUB (R74). Two data registers are subtracted with wrap-around. -/
def execSub (c : Fin 16) (x : Beside) (q : Cond) (d a b : Fin 16) (s : State) :
    Host.Outcome State Fault Refusal :=
  .next (issueC c x q (.alu2 .sub d a b) s)

/-- ADDS (R74). Two data registers are added with saturation. -/
def execAdds (c : Fin 16) (x : Beside) (q : Cond) (d a b : Fin 16) (s : State) :
    Host.Outcome State Fault Refusal :=
  .next (issueC c x q (.alu2 .adds d a b) s)

/-- SUBS (R74). Two data registers are subtracted with saturation. -/
def execSubs (c : Fin 16) (x : Beside) (q : Cond) (d a b : Fin 16) (s : State) :
    Host.Outcome State Fault Refusal :=
  .next (issueC c x q (.alu2 .subs d a b) s)

/-- NEG (R74). A data register is negated with saturation. -/
def execNeg (c : Fin 16) (x : Beside) (q : Cond) (d a : Fin 16) (s : State) :
    Host.Outcome State Fault Refusal :=
  .next (issueC c x q (.alu1 .neg d a) s)

/-- ABS (R74). The absolute value of a data register is taken with saturation. -/
def execAbs (c : Fin 16) (x : Beside) (q : Cond) (d a : Fin 16) (s : State) :
    Host.Outcome State Fault Refusal :=
  .next (issueC c x q (.alu1 .abs d a) s)

/-- MIN (R74). The signed minimum of two data registers is taken. -/
def execMin (c : Fin 16) (x : Beside) (q : Cond) (d a b : Fin 16) (s : State) :
    Host.Outcome State Fault Refusal :=
  .next (issueC c x q (.alu2 .min d a b) s)

/-- MAX (R74). The signed maximum of two data registers is taken. -/
def execMax (c : Fin 16) (x : Beside) (q : Cond) (d a b : Fin 16) (s : State) :
    Host.Outcome State Fault Refusal :=
  .next (issueC c x q (.alu2 .max d a b) s)

/-- AND (R74). Bitwise and of two data registers. -/
def execAnd (c : Fin 16) (x : Beside) (q : Cond) (d a b : Fin 16) (s : State) :
    Host.Outcome State Fault Refusal :=
  .next (issueC c x q (.alu2 .and d a b) s)

/-- OR (R74). Bitwise or of two data registers. -/
def execOr (c : Fin 16) (x : Beside) (q : Cond) (d a b : Fin 16) (s : State) :
    Host.Outcome State Fault Refusal :=
  .next (issueC c x q (.alu2 .or d a b) s)

/-- XOR (R74). Bitwise exclusive or of two data registers. -/
def execXor (c : Fin 16) (x : Beside) (q : Cond) (d a b : Fin 16) (s : State) :
    Host.Outcome State Fault Refusal :=
  .next (issueC c x q (.alu2 .xor d a b) s)

/-- ASR (R74). Arithmetic right shift by a register count. -/
def execAsr (c : Fin 16) (x : Beside) (q : Cond) (d a b : Fin 16) (s : State) :
    Host.Outcome State Fault Refusal :=
  .next (issueC c x q (.alu2 .asr d a b) s)

/-- LSR (R74). Logical right shift by a register count. -/
def execLsr (c : Fin 16) (x : Beside) (q : Cond) (d a b : Fin 16) (s : State) :
    Host.Outcome State Fault Refusal :=
  .next (issueC c x q (.alu2 .lsr d a b) s)

/-- LSLS (R74). Saturating left shift by a register count. -/
def execLsls (c : Fin 16) (x : Beside) (q : Cond) (d a b : Fin 16) (s : State) :
    Host.Outcome State Fault Refusal :=
  .next (issueC c x q (.alu2 .lsls d a b) s)

/-- MULR (R74). Rounded saturating Q31 product. -/
def execMulr (c : Fin 16) (x : Beside) (q : Cond) (d a b : Fin 16) (s : State) :
    Host.Outcome State Fault Refusal :=
  .next (issueC c x q (.alu2 .mulr d a b) s)

/-- ADDS_D (R74). Dual 16-bit saturating add. -/
def execAddsD (c : Fin 16) (x : Beside) (q : Cond) (d a b : Fin 16) (s : State) :
    Host.Outcome State Fault Refusal :=
  .next (issueC c x q (.alu2 .addsD d a b) s)

/-- SUBS_D (R74). Dual 16-bit saturating subtract. -/
def execSubsD (c : Fin 16) (x : Beside) (q : Cond) (d a b : Fin 16) (s : State) :
    Host.Outcome State Fault Refusal :=
  .next (issueC c x q (.alu2 .subsD d a b) s)

/-- MULR_D (R74). Dual rounded saturating Q15 product. -/
def execMulrD (c : Fin 16) (x : Beside) (q : Cond) (d a b : Fin 16) (s : State) :
    Host.Outcome State Fault Refusal :=
  .next (issueC c x q (.alu2 .mulrD d a b) s)

/-- CVT_31 (R74). A Q23 value is converted to Q31. -/
def execCvt31 (c : Fin 16) (x : Beside) (q : Cond) (d a : Fin 16) (s : State) :
    Host.Outcome State Fault Refusal :=
  .next (issueC c x q (.alu1 .cvt31 d a) s)

/-- CVT_23 (R74). A Q31 value is rounded and saturated to Q23. -/
def execCvt23 (c : Fin 16) (x : Beside) (q : Cond) (d a : Fin 16) (s : State) :
    Host.Outcome State Fault Refusal :=
  .next (issueC c x q (.alu1 .cvt23 d a) s)

/-- PACK (R74). Two 16-bit halves are packed into one Q15x2 word. -/
def execPack (c : Fin 16) (x : Beside) (q : Cond) (d a b : Fin 16) (s : State) :
    Host.Outcome State Fault Refusal :=
  .next (issueC c x q (.alu2 .pack d a b) s)

/-- UNPK_0 (R74). Element 0 of a Q15x2 word is converted to Q31. -/
def execUnpk0 (c : Fin 16) (x : Beside) (q : Cond) (d a : Fin 16) (s : State) :
    Host.Outcome State Fault Refusal :=
  .next (issueC c x q (.alu1 .unpk0 d a) s)

/-- UNPK_1 (R74). Element 1 of a Q15x2 word is converted to Q31. -/
def execUnpk1 (c : Fin 16) (x : Beside) (q : Cond) (d a : Fin 16) (s : State) :
    Host.Outcome State Fault Refusal :=
  .next (issueC c x q (.alu1 .unpk1 d a) s)

/-- LID (R74). Each lane writes its logical lane number. -/
def execLid (c : Fin 16) (x : Beside) (q : Cond) (d : Fin 16) (s : State) :
    Host.Outcome State Fault Refusal :=
  .next (issueC c x q (.lid d) s)

/-- ASR_I (R74). Arithmetic right shift by an immediate. -/
def execAsrI (c : Fin 16) (x : Beside) (q : Cond) (d a : Fin 16) (sh : Fin 32) (s : State) :
    Host.Outcome State Fault Refusal :=
  .next (issueC c x q (.alui .asrI d a sh) s)

/-- LSR_I (R74). Logical right shift by an immediate. -/
def execLsrI (c : Fin 16) (x : Beside) (q : Cond) (d a : Fin 16) (sh : Fin 32) (s : State) :
    Host.Outcome State Fault Refusal :=
  .next (issueC c x q (.alui .lsrI d a sh) s)

/-- LSLS_I (R74). Saturating left shift by an immediate. -/
def execLslsI (c : Fin 16) (x : Beside) (q : Cond) (d a : Fin 16) (sh : Fin 32) (s : State) :
    Host.Outcome State Fault Refusal :=
  .next (issueC c x q (.alui .lslsI d a sh) s)

/-- RDS (R137). A sequencer value is written into a data register of every enabled lane. -/
def execRds (c : Fin 16) (x : Beside) (q : Cond) (d : Fin 16) (v : Fin 32) (s : State) :
    Host.Outcome State Fault Refusal :=
  .next (issueC c x q (.rds d v) s)

/-- OFSW (R94). An offset table entry of each enabled lane is written from a data register. -/
def execOfsw (c : Fin 16) (x : Beside) (q : Cond) (i : Fin 8) (n : Fin 16) (s : State) :
    Host.Outcome State Fault Refusal :=
  .next (issueC c x q (.ofsw i n) s)

/-- CMP_EQ (R116). A predicate is set to the equality of two data registers. -/
def execCmpEq (c : Fin 16) (x : Beside) (q : Cond) (p : Fin 4) (a b : Fin 16) (s : State) :
    Host.Outcome State Fault Refusal :=
  .next (issueC c x q (.cmp .eq p a b) s)

/-- CMP_NE (R116). A predicate is set to the inequality of two data registers. -/
def execCmpNe (c : Fin 16) (x : Beside) (q : Cond) (p : Fin 4) (a b : Fin 16) (s : State) :
    Host.Outcome State Fault Refusal :=
  .next (issueC c x q (.cmp .ne p a b) s)

/-- CMP_LT (R116). A predicate is set to a signed less-than comparison. -/
def execCmpLt (c : Fin 16) (x : Beside) (q : Cond) (p : Fin 4) (a b : Fin 16) (s : State) :
    Host.Outcome State Fault Refusal :=
  .next (issueC c x q (.cmp .lt p a b) s)

/-- CMP_LE (R116). A predicate is set to a signed less-or-equal comparison. -/
def execCmpLe (c : Fin 16) (x : Beside) (q : Cond) (p : Fin 4) (a b : Fin 16) (s : State) :
    Host.Outcome State Fault Refusal :=
  .next (issueC c x q (.cmp .le p a b) s)

/-- CMPA_LT (R116). A predicate is set when an accumulator is negative. -/
def execCmpaLt (c : Fin 16) (x : Beside) (q : Cond) (p i : Fin 4) (s : State) :
    Host.Outcome State Fault Refusal :=
  .next (issueC c x q (.cmpaLt p i) s)

/-- CMPA_EQ (R116). A predicate is set when an accumulator is zero. -/
def execCmpaEq (c : Fin 16) (x : Beside) (q : Cond) (p i : Fin 4) (s : State) :
    Host.Outcome State Fault Refusal :=
  .next (issueC c x q (.cmpaEq p i) s)

/-- PSET (R116). A predicate is set to an immediate. -/
def execPset (c : Fin 16) (x : Beside) (q : Cond) (p : Fin 4) (v : Bool) (s : State) :
    Host.Outcome State Fault Refusal :=
  .next (issueC c x q (.pset p v) s)

/-- PAND (R116). A predicate takes the and of two predicates. -/
def execPand (c : Fin 16) (x : Beside) (q : Cond) (p j r : Fin 4) (s : State) :
    Host.Outcome State Fault Refusal :=
  .next (issueC c x q (.plog .and p j r) s)

/-- POR (R116). A predicate takes the or of two predicates. -/
def execPor (c : Fin 16) (x : Beside) (q : Cond) (p j r : Fin 4) (s : State) :
    Host.Outcome State Fault Refusal :=
  .next (issueC c x q (.plog .or p j r) s)

/-- PXOR (R116). A predicate takes the exclusive or of two predicates. -/
def execPxor (c : Fin 16) (x : Beside) (q : Cond) (p j r : Fin 4) (s : State) :
    Host.Outcome State Fault Refusal :=
  .next (issueC c x q (.plog .xor p j r) s)

/-- PNOT (R116). A predicate takes the inverse of another. -/
def execPnot (c : Fin 16) (x : Beside) (q : Cond) (p j : Fin 4) (s : State) :
    Host.Outcome State Fault Refusal :=
  .next (issueC c x q (.pnot p j) s)

/-- LD (R96). Each enabled lane loads the word at its lane address, with optional post-modify of the pointer. -/
def execLd (c : Fin 16) (x : WordEnv) (pl : MemPlace) (q : Cond) (i : Fin 8) (pm : Bool) (n : Fin 16) (s : State) :
    Host.Outcome State Fault Refusal :=
  .next (issueLoad c x pl (.ld q i pm n) (.ld q i pm n) s)

/-- LDI (R103). Each enabled lane reads four taps and returns the cubic Lagrange interpolation at its fraction. -/
def execLdi (c : Fin 16) (x : WordEnv) (pl : MemPlace) (w : LWidth) (q : Cond) (i : Fin 8) (pm : Bool) (n : Fin 16) (s : State) :
    Host.Outcome State Fault Refusal :=
  .next (issueLoad c x pl (.ldi w q i pm n) (.ldi w q i pm n) s)

/-- ST (R96). Each enabled lane stores a data register at its lane address. -/
def execSt (c : Fin 16) (x : WordEnv) (m0 : M0Slot) (q : Cond) (i : Fin 8) (pm : Bool) (n : Fin 16) (s : State) :
    Host.Outcome State Fault Refusal :=
  .next (s.issue c x (.slots .nop m0 (.st q i pm n)))

/-- STA (R73). Each enabled lane stores the converted accumulator at its lane address. -/
def execSta (c : Fin 16) (x : WordEnv) (m0 : M0Slot) (q : Cond) (i : Fin 8) (pm : Bool) (a : Fin 4) (k : Conv) (s : State) :
    Host.Outcome State Fault Refusal :=
  .next (s.issue c x (.slots .nop m0 (.sta q i pm a k)))

/-- BR (R121). Control transfers to TARGET when the branch condition over logical lanes holds. -/
def execBr (c : Fin 16) (bc : BrCond) (target : Fin 8192) (s : State) :
    Host.Outcome State Fault Refusal :=
  .next (s.issue c ⟨0, false⟩ (.br bc target))

/-- LOOP (R105). A hardware loop level is opened with its count, start and end. -/
def execLoop (c : Fin 16) (count : LoopCount) (start stop : Fin 8192) (s : State) :
    Host.Outcome State Fault Refusal :=
  .next (s.issue c ⟨0, false⟩ (.loop count start stop))

/-- SETA (R123). Up to two sequencer addressing registers are written with their side effects. -/
def execSeta (c : Fin 16) (a b : Option SetaSub) (s : State) :
    Host.Outcome State Fault Refusal :=
  .next (s.issue c ⟨0, false⟩ (.seta a b))

/-- SETI (R124). An immediate is written into a data register of every enabled lane. -/
def execSeti (c : Fin 16) (n : Fin 16) (q : Cond) (v : Word) (s : State) :
    Host.Outcome State Fault Refusal :=
  .next (s.issue c ⟨0, false⟩ (.seti n q v))

/-- HALT (R125). The task stops issuing and begins its completion. -/
def execHalt (c : Fin 16) (s : State) :
    Host.Outcome State Fault Refusal :=
  .next (s.issue c ⟨0, false⟩ .halt)

/-- UNDEFINED_ENCODING (R132). The cluster meets a word that R131 calls undefined, or a fetch that fails. -/
def execUndefinedEncoding (c : Fin 16) (s : State) : Host.Outcome State Fault Refusal := .next (s.issueUndefined c)

end Sys2Proof.Machine
end

