-- ==== Sys2Proof/Machine/Families.lean ====
section
/-!
DEFINITION. The families of meanings that Machine/Dispatch.lean calls.
-/
end

