-- ==== Sys2Proof/Machine/Dispatch.lean ====
section
/-!
DEFINITION. One arm per command: the meaning it calls. The queue is no concern of these meanings.
-/
namespace Sys2Proof.Machine

def exec (i : Instr) (s : State) : Host.Outcome State Fault Refusal :=
  match i with
  | .tickBoundary edges => Sys2Proof.Machine.execTickBoundary edges s
  | .computeWindowOpen missed => Sys2Proof.Machine.execComputeWindowOpen missed s
  | .computeWindowClose meas skip => Sys2Proof.Machine.execComputeWindowClose meas skip s
  | .consignPhase sent => Sys2Proof.Machine.execConsignPhase sent s
  | .tickCfgWrite v => Sys2Proof.Machine.execTickCfgWrite v s
  | .tickRun mid => Sys2Proof.Machine.execTickRun mid s
  | .mtcSet v => Sys2Proof.Machine.execMtcSet v s
  | .tickSet v => Sys2Proof.Machine.execTickSet v s
  | .mtcRead stale => Sys2Proof.Machine.execMtcRead stale s
  | .latchedLowRead a size core stale => Sys2Proof.Machine.execLatchedLowRead a size core stale s
  | .schedArm n v => Sys2Proof.Machine.execSchedArm n v s
  | .schedDisarm n v => Sys2Proof.Machine.execSchedDisarm n v s
  | .registerWrite a size v core => Sys2Proof.Machine.execRegisterWrite a size v core s
  | .nop c x => Sys2Proof.Machine.execNop c x s
  | .mpy c x q ia a b => Sys2Proof.Machine.execMpy c x q ia a b s
  | .mac c x q ia a b => Sys2Proof.Machine.execMac c x q ia a b s
  | .msu c x q ia a b => Sys2Proof.Machine.execMsu c x q ia a b s
  | .mpyD c x q ia a b => Sys2Proof.Machine.execMpyD c x q ia a b s
  | .macD c x q ia a b => Sys2Proof.Machine.execMacD c x q ia a b s
  | .msuD c x q ia a b => Sys2Proof.Machine.execMsuD c x q ia a b s
  | .ald c x q ia a => Sys2Proof.Machine.execAld c x q ia a s
  | .aadd c x q ia m => Sys2Proof.Machine.execAadd c x q ia m s
  | .asub c x q ia m => Sys2Proof.Machine.execAsub c x q ia m s
  | .aclr c x q ia => Sys2Proof.Machine.execAclr c x q ia s
  | .exta c x q d ia k => Sys2Proof.Machine.execExta c x q d ia k s
  | .rsum c x q ia m differ => Sys2Proof.Machine.execRsum c x q ia m differ s
  | .bcast c x q d a => Sys2Proof.Machine.execBcast c x q d a s
  | .mov c x q d a => Sys2Proof.Machine.execMov c x q d a s
  | .add c x q d a b => Sys2Proof.Machine.execAdd c x q d a b s
  | .sub c x q d a b => Sys2Proof.Machine.execSub c x q d a b s
  | .adds c x q d a b => Sys2Proof.Machine.execAdds c x q d a b s
  | .subs c x q d a b => Sys2Proof.Machine.execSubs c x q d a b s
  | .neg c x q d a => Sys2Proof.Machine.execNeg c x q d a s
  | .abs c x q d a => Sys2Proof.Machine.execAbs c x q d a s
  | .min c x q d a b => Sys2Proof.Machine.execMin c x q d a b s
  | .max c x q d a b => Sys2Proof.Machine.execMax c x q d a b s
  | .and c x q d a b => Sys2Proof.Machine.execAnd c x q d a b s
  | .or c x q d a b => Sys2Proof.Machine.execOr c x q d a b s
  | .xor c x q d a b => Sys2Proof.Machine.execXor c x q d a b s
  | .asr c x q d a b => Sys2Proof.Machine.execAsr c x q d a b s
  | .lsr c x q d a b => Sys2Proof.Machine.execLsr c x q d a b s
  | .lsls c x q d a b => Sys2Proof.Machine.execLsls c x q d a b s
  | .mulr c x q d a b => Sys2Proof.Machine.execMulr c x q d a b s
  | .addsD c x q d a b => Sys2Proof.Machine.execAddsD c x q d a b s
  | .subsD c x q d a b => Sys2Proof.Machine.execSubsD c x q d a b s
  | .mulrD c x q d a b => Sys2Proof.Machine.execMulrD c x q d a b s
  | .cvt31 c x q d a => Sys2Proof.Machine.execCvt31 c x q d a s
  | .cvt23 c x q d a => Sys2Proof.Machine.execCvt23 c x q d a s
  | .pack c x q d a b => Sys2Proof.Machine.execPack c x q d a b s
  | .unpk0 c x q d a => Sys2Proof.Machine.execUnpk0 c x q d a s
  | .unpk1 c x q d a => Sys2Proof.Machine.execUnpk1 c x q d a s
  | .lid c x q d => Sys2Proof.Machine.execLid c x q d s
  | .asrI c x q d a sh => Sys2Proof.Machine.execAsrI c x q d a sh s
  | .lsrI c x q d a sh => Sys2Proof.Machine.execLsrI c x q d a sh s
  | .lslsI c x q d a sh => Sys2Proof.Machine.execLslsI c x q d a sh s
  | .rds c x q d v => Sys2Proof.Machine.execRds c x q d v s
  | .ofsw c x q ia n => Sys2Proof.Machine.execOfsw c x q ia n s
  | .cmpEq c x q p a b => Sys2Proof.Machine.execCmpEq c x q p a b s
  | .cmpNe c x q p a b => Sys2Proof.Machine.execCmpNe c x q p a b s
  | .cmpLt c x q p a b => Sys2Proof.Machine.execCmpLt c x q p a b s
  | .cmpLe c x q p a b => Sys2Proof.Machine.execCmpLe c x q p a b s
  | .cmpaLt c x q p ia => Sys2Proof.Machine.execCmpaLt c x q p ia s
  | .cmpaEq c x q p ia => Sys2Proof.Machine.execCmpaEq c x q p ia s
  | .pset c x q p v => Sys2Proof.Machine.execPset c x q p v s
  | .pand c x q p j r => Sys2Proof.Machine.execPand c x q p j r s
  | .por c x q p j r => Sys2Proof.Machine.execPor c x q p j r s
  | .pxor c x q p j r => Sys2Proof.Machine.execPxor c x q p j r s
  | .pnot c x q p j => Sys2Proof.Machine.execPnot c x q p j s
  | .ld c x pl q ia pm n => Sys2Proof.Machine.execLd c x pl q ia pm n s
  | .ldi c x pl w q ia pm n => Sys2Proof.Machine.execLdi c x pl w q ia pm n s
  | .st c x m0 q ia pm n => Sys2Proof.Machine.execSt c x m0 q ia pm n s
  | .sta c x m0 q ia pm a k => Sys2Proof.Machine.execSta c x m0 q ia pm a k s
  | .br c bc target => Sys2Proof.Machine.execBr c bc target s
  | .loop c count start stop => Sys2Proof.Machine.execLoop c count start stop s
  | .seta c a b => Sys2Proof.Machine.execSeta c a b s
  | .seti c n q v => Sys2Proof.Machine.execSeti c n q v s
  | .halt c => Sys2Proof.Machine.execHalt c s
  | .undefinedEncoding c => Sys2Proof.Machine.execUndefinedEncoding c s
  | .taskDispatch t => Sys2Proof.Machine.execTaskDispatch t s
  | .clusterWakeDone c => Sys2Proof.Machine.execClusterWakeDone c s
  | .taskComplete c late => Sys2Proof.Machine.execTaskComplete c late s
  | .laneBist c pass => Sys2Proof.Machine.execLaneBist c pass s
  | .shadowInj c => Sys2Proof.Machine.execShadowInj c s
  | .illInj c => Sys2Proof.Machine.execIllInj c s
  | .cycMaxClr c => Sys2Proof.Machine.execCycMaxClr c s
  | .progMemWrite c o d => Sys2Proof.Machine.execProgMemWrite c o d s
  | .ttEntryWrite x t w v => Sys2Proof.Machine.execTtEntryWrite x t w v s
  | .ttSelWrite v => Sys2Proof.Machine.execTtSelWrite v s
  | .thermalUpdate power stale => Sys2Proof.Machine.execThermalUpdate power stale s
  | .xingEntryWrite desc ia w v => Sys2Proof.Machine.execXingEntryWrite desc ia w v s
  | .xingSelWrite v validate => Sys2Proof.Machine.execXingSelWrite v validate s
  | .capRingCtlWrite r w v => Sys2Proof.Machine.execCapRingCtlWrite r w v s
  | .captureFrameCommit r => Sys2Proof.Machine.execCaptureFrameCommit r s
  | .leveeElBindWrite e v => Sys2Proof.Machine.execLeveeElBindWrite e v s
  | .leveeRegWrite o v => Sys2Proof.Machine.execLeveeRegWrite o v s
  | .leveeSealKey k => Sys2Proof.Machine.execLeveeSealKey k s
  | .leveeCauseClear e v => Sys2Proof.Machine.execLeveeCauseClear e v s
  | .telemetryWord n t w => Sys2Proof.Machine.execTelemetryWord n t w s
  | .ampFltChange g high => Sys2Proof.Machine.execAmpFltChange g high s
  | .telemLoss e => Sys2Proof.Machine.execTelemLoss e s
  | .dcMute e => Sys2Proof.Machine.execDcMute e s
  | .ampRetry e => Sys2Proof.Machine.execAmpRetry e s
  | .retryReset e => Sys2Proof.Machine.execRetryReset e s
  | .leveeParitySweep bad => Sys2Proof.Machine.execLeveeParitySweep bad s
  | .pairCfgWrite v => Sys2Proof.Machine.execPairCfgWrite v s
  | .heartbeat p e ws => Sys2Proof.Machine.execHeartbeat p e ws s
  | .grant p e g ns => Sys2Proof.Machine.execGrant p e g ns s
  | .revoke p e g => Sys2Proof.Machine.execRevoke p e g s
  | .notice p e g => Sys2Proof.Machine.execNotice p e g s
  | .grantCopy p e g => Sys2Proof.Machine.execGrantCopy p e g s
  | .query p e g => Sys2Proof.Machine.execQuery p e g s
  | .consignment p e ws => Sys2Proof.Machine.execConsignment p e ws s
  | .forceSweep v => Sys2Proof.Machine.execForceSweep v s
  | .trackedAreaWrite n lines v => Sys2Proof.Machine.execTrackedAreaWrite n lines v s
  | .suspectClr v => Sys2Proof.Machine.execSuspectClr v s
  | .standbyBist pass => Sys2Proof.Machine.execStandbyBist pass s
  | .pilotCtlWrite v => Sys2Proof.Machine.execPilotCtlWrite v s
  | .pilotPairWrite p v => Sys2Proof.Machine.execPilotPairWrite p v s
  | .pilotSwitchRequest p v => Sys2Proof.Machine.execPilotSwitchRequest p v s
  | .faultMessage j now => Sys2Proof.Machine.execFaultMessage j now s
  | .faultWindowExpiry ia now => Sys2Proof.Machine.execFaultWindowExpiry ia now s
  | .collParity ia => Sys2Proof.Machine.execCollParity ia s
  | .faultCollReload ia good => Sys2Proof.Machine.execFaultCollReload ia good s
  | .faultReactWrite k win v => Sys2Proof.Machine.execFaultReactWrite k win v s
  | .safeClear v => Sys2Proof.Machine.execSafeClear v s
  | .foreqClear v => Sys2Proof.Machine.execForeqClear v s
  | .lmuteClear v => Sys2Proof.Machine.execLmuteClear v s
  | .collParityClear ia v => Sys2Proof.Machine.execCollParityClear ia v s
  | .eccWriteback a => Sys2Proof.Machine.execEccWriteback a s
  | .scrubVisit m => Sys2Proof.Machine.execScrubVisit m s
  | .eccInjectArm double => Sys2Proof.Machine.execEccInjectArm double s
  | .atomicAdd a clr => Sys2Proof.Machine.execAtomicAdd a clr s
  | .atomicAdds a clr => Sys2Proof.Machine.execAtomicAdds a clr s
  | .atomicSwap a clr => Sys2Proof.Machine.execAtomicSwap a clr s
  | .bankRetentionEntry b => Sys2Proof.Machine.execBankRetentionEntry b s
  | .bankWakeDone b => Sys2Proof.Machine.execBankWakeDone b s
  | .lockSequence n => Sys2Proof.Machine.execLockSequence n s
  | .hungAccess j => Sys2Proof.Machine.execHungAccess j s
  | .domainReset v => Sys2Proof.Machine.execDomainReset v s
  | .autoDomainReset d => Sys2Proof.Machine.execAutoDomainReset d s
  | .clockPresentChange d run seen => Sys2Proof.Machine.execClockPresentChange d run seen s
  | .crossingReady d => Sys2Proof.Machine.execCrossingReady d s
  | .refComparison r dev off => Sys2Proof.Machine.execRefComparison r dev off s
  | .refLoss r => Sys2Proof.Machine.execRefLoss r s
  | .refRangeMeasure ms out => Sys2Proof.Machine.execRefRangeMeasure ms out s
  | .refQualified r => Sys2Proof.Machine.execRefQualified r s
  | .clkSelectWrite ia v => Sys2Proof.Machine.execClkSelectWrite ia v s
  | .mclkOutCfgWrite n v => Sys2Proof.Machine.execMclkOutCfgWrite n v s
  | .nglDisable p v => Sys2Proof.Machine.execNglDisable p v s
  | .nglEnable p v => Sys2Proof.Machine.execNglEnable p v s
  | .nglPllLock p => Sys2Proof.Machine.execNglPllLock p s
  | .receiverDetectionProbe p ns => Sys2Proof.Machine.execReceiverDetectionProbe p ns s
  | .trainingFrame p req status => Sys2Proof.Machine.execTrainingFrame p req status s
  | .trainExit p ctle dfe => Sys2Proof.Machine.execTrainExit p ctle dfe s
  | .trainTo p => Sys2Proof.Machine.execTrainTo p s
  | .cdrLock p => Sys2Proof.Machine.execCdrLock p s
  | .bitlockTo p => Sys2Proof.Machine.execBitlockTo p s
  | .blockLock p errs bits dfe => Sys2Proof.Machine.execBlockLock p errs bits dfe s
  | .blocklockTo p errs => Sys2Proof.Machine.execBlocklockTo p errs s
  | .lockLost p errs => Sys2Proof.Machine.execLockLost p errs s
  | .capsTo p => Sys2Proof.Machine.execCapsTo p s
  | .los p signal => Sys2Proof.Machine.execLos p signal s
  | .moorWrite p v => Sys2Proof.Machine.execMoorWrite p v s
  | .moorReq p => Sys2Proof.Machine.execMoorReq p s
  | .moorAck p => Sys2Proof.Machine.execMoorAck p s
  | .moorTimeout p => Sys2Proof.Machine.execMoorTimeout p s
  | .moorRelease p v => Sys2Proof.Machine.execMoorRelease p v s
  | .signalDetect p => Sys2Proof.Machine.execSignalDetect p s
  | .eyeScanGo p v => Sys2Proof.Machine.execEyeScanGo p v s
  | .eyeScanDone p n => Sys2Proof.Machine.execEyeScanDone p n s
  | .prbsLock p errs bits dfe => Sys2Proof.Machine.execPrbsLock p errs bits dfe s
  | .prbsLockLoss p errs => Sys2Proof.Machine.execPrbsLockLoss p errs s
  | .tickMarkSend p ofs => Sys2Proof.Machine.execTickMarkSend p ofs s
  | .tickMark p w k m dev off => Sys2Proof.Machine.execTickMark p w k m dev off s
  | .run p flow first count n epoch => Sys2Proof.Machine.execRun p flow first count n epoch s
  | .runEnd p ws crc => Sys2Proof.Machine.execRunEnd p ws crc s
  | .credit p c n => Sys2Proof.Machine.execCredit p c n s
  | .messageForward p crcOk whole e ws => Sys2Proof.Machine.execMessageForward p crcOk whole e ws s
  | .timeSyncSend p t1 => Sys2Proof.Machine.execTimeSyncSend p t1 s
  | .timeSync p e ws t2 t3 => Sys2Proof.Machine.execTimeSync p e ws t2 t3 s
  | .timeSyncResponse p e ws t4 => Sys2Proof.Machine.execTimeSyncResponse p e ws t4 s
  | .capabilitySend p => Sys2Proof.Machine.execCapabilitySend p s
  | .capability p good ws => Sys2Proof.Machine.execCapability p good ws s
  | .remoteRead p e ws => Sys2Proof.Machine.execRemoteRead p e ws s
  | .remoteWrite p e ws => Sys2Proof.Machine.execRemoteWrite p e ws s
  | .hostTunnelRead p e ws host => Sys2Proof.Machine.execHostTunnelRead p e ws host s
  | .hostTunnelWrite p e ws => Sys2Proof.Machine.execHostTunnelWrite p e ws s
  | .remoteResponse p e ws => Sys2Proof.Machine.execRemoteResponse p e ws s
  | .descriptorFwd p e ws => Sys2Proof.Machine.execDescriptorFwd p e ws s
  | .faultReport p e ws => Sys2Proof.Machine.execFaultReport p e ws s
  | .fabIdWrite v => Sys2Proof.Machine.execFabIdWrite v s
  | .flowValidSet f v => Sys2Proof.Machine.execFlowValidSet f v s
  | .flowValidClear f v => Sys2Proof.Machine.execFlowValidClear f v s
  | .remoteAccessGo v => Sys2Proof.Machine.execRemoteAccessGo v s
  | .remoteAccessTimeout j => Sys2Proof.Machine.execRemoteAccessTimeout j s
  | .sapCtlStart n v mid => Sys2Proof.Machine.execSapCtlStart n v mid s
  | .sapCtlStop n v => Sys2Proof.Machine.execSapCtlStop n v s
  | .sapCtlRestart n v => Sys2Proof.Machine.execSapCtlRestart n v s
  | .sapFrame n ph ws early youngHard youngSoft youngSafe => Sys2Proof.Machine.execSapFrame n ph ws early youngHard youngSoft youngSafe s
  | .lateLeadingEdge n => Sys2Proof.Machine.execLateLeadingEdge n s
  | .sapClkLost n => Sys2Proof.Machine.execSapClkLost n s
  | .sapRateWindow n hz dev => Sys2Proof.Machine.execSapRateWindow n hz dev s
  | .sapMaskWrite n v guard => Sys2Proof.Machine.execSapMaskWrite n v guard s
  | .sapMuteWrite n v => Sys2Proof.Machine.execSapMuteWrite n v s
  | .zcTimeout n t => Sys2Proof.Machine.execZcTimeout n t s
  | .stopTimeout n => Sys2Proof.Machine.execStopTimeout n s
  | .ethRxFrame p bs fcsOk cut edges => Sys2Proof.Machine.execEthRxFrame p bs fcsOk cut edges s
  | .ethTxTailWrite p q v => Sys2Proof.Machine.execEthTxTailWrite p q v s
  | .ethTxFrame p ns edges => Sys2Proof.Machine.execEthTxFrame p ns edges s
  | .ethLinkChange p up reason => Sys2Proof.Machine.execEthLinkChange p up reason s
  | .ethTxtsRead p => Sys2Proof.Machine.execEthTxtsRead p s
  | .ptpRateWrite v edges => Sys2Proof.Machine.execPtpRateWrite v edges s
  | .ptpStep edges => Sys2Proof.Machine.execPtpStep edges s
  | .ptpSet edges => Sys2Proof.Machine.execPtpSet edges s
  | .ptpGmLoss v => Sys2Proof.Machine.execPtpGmLoss v s
  | .ptpTimeRead edges lag stale => Sys2Proof.Machine.execPtpTimeRead edges lag stale s
  | .mediaOfsWrite v => Sys2Proof.Machine.execMediaOfsWrite v s
  | .ptpTrigArm n v edges => Sys2Proof.Machine.execPtpTrigArm n v edges s
  | .eventCapture ia rising close frac edges => Sys2Proof.Machine.execEventCapture ia rising close frac edges s
  | .eventCaptureRead ia => Sys2Proof.Machine.execEventCaptureRead ia s
  | .bar0Request a bes data => Sys2Proof.Machine.execBar0Request a bes data s
  | .bar0ReadTimeout j => Sys2Proof.Machine.execBar0ReadTimeout j s
  | .hostIfReset loss => Sys2Proof.Machine.execHostIfReset loss s
  | .hostLinkUp width speed => Sys2Proof.Machine.execHostLinkUp width speed s
  | .hostPowerState d3 => Sys2Proof.Machine.execHostPowerState d3 s
  | .ringEnable x v => Sys2Proof.Machine.execRingEnable x v s
  | .ringDisable x v => Sys2Proof.Machine.execRingDisable x v s
  | .sqTail d r v => Sys2Proof.Machine.execSqTail d r v s
  | .cqHead d v => Sys2Proof.Machine.execCqHead d v s
  | .eqHead d v => Sys2Proof.Machine.execEqHead d v s
  | .capRd d o v => Sys2Proof.Machine.execCapRd d o v s
  | .descriptorFetch d r ws => Sys2Proof.Machine.execDescriptorFetch d r ws s
  | .memWrite buf ans => Sys2Proof.Machine.execMemWrite buf ans s
  | .memRead ans => Sys2Proof.Machine.execMemRead ans s
  | .regWrite ans => Sys2Proof.Machine.execRegWrite ans s
  | .regRead ans => Sys2Proof.Machine.execRegRead ans s
  | .loadProg buf => Sys2Proof.Machine.execLoadProg buf s
  | .loadTt buf => Sys2Proof.Machine.execLoadTt buf s
  | .loadXing buf => Sys2Proof.Machine.execLoadXing buf s
  | .loadCoef buf => Sys2Proof.Machine.execLoadCoef buf s
  | .flowSet buf => Sys2Proof.Machine.execFlowSet buf s
  | .leveeSet buf => Sys2Proof.Machine.execLeveeSet buf s
  | .meterSnap buf => Sys2Proof.Machine.execMeterSnap buf s
  | .captureHostCopy c => Sys2Proof.Machine.execCaptureHostCopy c s
  | .msixTrig v => Sys2Proof.Machine.execMsixTrig v s
  | .msixHoldoffEnd v => Sys2Proof.Machine.execMsixHoldoffEnd v s
  | .powerOnReset tgt xo => Sys2Proof.Machine.execPowerOnReset tgt xo s
  | .deviceReset ia uv => Sys2Proof.Machine.execDeviceReset ia uv s
  | .softwareReset v => Sys2Proof.Machine.execSoftwareReset v s
  | .resetEnd role src xo testEn banks => Sys2Proof.Machine.execResetEnd role src xo testEn banks s
  | .supplyWarn ia uv => Sys2Proof.Machine.execSupplyWarn ia uv s
  | .supplyRecovery ia uv => Sys2Proof.Machine.execSupplyRecovery ia uv s
  | .avsAppliedWrite v => Sys2Proof.Machine.execAvsAppliedWrite v s
  | .coreClockSelect v => Sys2Proof.Machine.execCoreClockSelect v s
  | .sensorConversion ia t valid ma mv => Sys2Proof.Machine.execSensorConversion ia t valid ma mv s
  | .thermTrip ia => Sys2Proof.Machine.execThermTrip ia s
  | .dormantEntry v => Sys2Proof.Machine.execDormantEntry v s
  | .wake w role src xo testEn => Sys2Proof.Machine.execWake w role src xo testEn s
  | .bootImageCheck img failed => Sys2Proof.Machine.execBootImageCheck img failed s
  | .bootGo v => Sys2Proof.Machine.execBootGo v s
  | .uartRecoveryByte b => Sys2Proof.Machine.execUartRecoveryByte b s
  | .fuseProg dr mv mc => Sys2Proof.Machine.execFuseProg dr mv mc s
  | .fuseRead n => Sys2Proof.Machine.execFuseRead n s
  | .ticksStopped => Sys2Proof.Machine.execTicksStopped s
  | .gatherComplete => Sys2Proof.Machine.execGatherComplete s
  | .pilotDeadline => Sys2Proof.Machine.execPilotDeadline s
  | .grantDeadline => Sys2Proof.Machine.execGrantDeadline s
  | .fence => Sys2Proof.Machine.execFence s
  | .tickStop => Sys2Proof.Machine.execTickStop s
  | .ttArm => Sys2Proof.Machine.execTtArm s
  | .ttDisarm => Sys2Proof.Machine.execTtDisarm s
  | .forceCapRise => Sys2Proof.Machine.execForceCapRise s
  | .xingValidate => Sys2Proof.Machine.execXingValidate s
  | .pairSigDone => Sys2Proof.Machine.execPairSigDone s
  | .tetherDown => Sys2Proof.Machine.execTetherDown s
  | .pilotMiss => Sys2Proof.Machine.execPilotMiss s
  | .faultReaction => Sys2Proof.Machine.execFaultReaction s
  | .faultRecord => Sys2Proof.Machine.execFaultRecord s
  | .chipCollParity => Sys2Proof.Machine.execChipCollParity s
  | .coreLockstep => Sys2Proof.Machine.execCoreLockstep s
  | .eccInjectDisarm => Sys2Proof.Machine.execEccInjectDisarm s
  | .lockAbort => Sys2Proof.Machine.execLockAbort s
  | .refNoLock => Sys2Proof.Machine.execRefNoLock s
  | .dpllLocked => Sys2Proof.Machine.execDpllLocked s
  | .holdoverLost => Sys2Proof.Machine.execHoldoverLost s
  | .nopCommand => Sys2Proof.Machine.execNopCommand s
  | .schedule => Sys2Proof.Machine.execSchedule s
  | .leveeSeal => Sys2Proof.Machine.execLeveeSeal s
  | .health => Sys2Proof.Machine.execHealth s
  | .faultFetch => Sys2Proof.Machine.execFaultFetch s
  | .badOpcode => Sys2Proof.Machine.execBadOpcode s
  | .thermTripRelease => Sys2Proof.Machine.execThermTripRelease s
  | .uartGapTimeout => Sys2Proof.Machine.execUartGapTimeout s
  | .uartPrompt => Sys2Proof.Machine.execUartPrompt s
  | .extest => Sys2Proof.Machine.execExtest s
  | .idcode => Sys2Proof.Machine.execIdcode s
  | .samplePreload => Sys2Proof.Machine.execSamplePreload s
  | .extestPulse => Sys2Proof.Machine.execExtestPulse s
  | .extestTrain => Sys2Proof.Machine.execExtestTrain s
  | .highz => Sys2Proof.Machine.execHighz s
  | .clamp => Sys2Proof.Machine.execClamp s
  | .bypass => Sys2Proof.Machine.execBypass s
  | .sampleBoundary => Sys2Proof.Machine.execSampleBoundary s
  | .controlCoreRestartEnd => Sys2Proof.Machine.execControlCoreRestartEnd s
  | .consignmentSent => Sys2Proof.Machine.execConsignmentSent s
  | .testLogicReset => Sys2Proof.Machine.execTestLogicReset s

end Sys2Proof.Machine
end

