-- ==== Sys2Proof/Safety.lean ====
section
/-!
DEFINITION. What counts as a safe step: the device goes on, and its memory and register store stay in canonical form.
-/
namespace Sys2Proof.Machine

/-- Memory in canonical form: addresses strictly rising, and no listed byte equal to what an unlisted one reads as. -/
abbrev Memory.wf (m : List Host.Cell) : Prop := SMap.wf memDefault m = true

/-- The register store in canonical form: no register listed at its reset value. -/
abbrev Regs.wf (m : SMap Word) : Prop := SMap.wf resetWord m = true

/-- The invariant of the model's stores. -/
def State.inv (s : State) : Prop := Memory.wf s.mem ∧ Regs.wf s.regs

/-- From `s` to `t` no register changes but those of `rs`, and no byte of memory. -/
def onlyRegs (s t : State) (rs : List Nat) : Prop := (∀ a, a ∉ rs → t.rd a = s.rd a) ∧ ∀ a, t.byte a = s.byte a

/-- From `s` to `t` no register changes but those of `rs`, and no byte of memory outside the `n` bytes at `lo`. -/
def onlyBytes (s t : State) (rs : List Nat) (lo n : Nat) : Prop :=
  (∀ a, a ∉ rs → t.rd a = s.rd a) ∧ ∀ a, a < lo ∨ lo + n ≤ a → t.byte a = s.byte a

/-- From `s` to `t` nothing changes but the registers of `rs` and what has been sent to the outside. -/
def confined (s t : State) (rs : List Nat) : Prop :=
  (∀ a, a ∉ rs → t.rd a = s.rd a) ∧ { t with regs := s.regs, out := s.out } = s

/-- Nothing holds an access back: none waits, no atomic channel waits, and no locked sequence is open (R323 to R326). -/
abbrev State.freeBus (s : State) : Prop := s.mx.hung = [] ∧ s.mx.atoms = [] ∧ s.mx.lockLeft = 0 ∧ s.mx.lockAddr = none

/-- The registers of logical lane `j` of cluster `c`, in the physical lane that carries it. -/
def State.laneOf (s : State) (c j : Nat) : Lane := (s.clu c).lane (s.physOf c j)

/-- Logical lane `j` of cluster `c` has a physical lane to itself: it is not carried by LANE_S while LANE_S shadows. -/
abbrev State.ownLane (s : State) (c j : Nat) : Prop := s.physOf c j = j ∨ s.checkedLane c = none

/-- The lane word that pointer `i` gives logical lane `j` of cluster `c` for tap `t`, the permitted range of the offset
ending `margin` below LEN − 1 (R96). -/
def State.laneWordAt (s : State) (c j i : Nat) (t : Int) (margin : Nat) : Nat :=
  let k := s.clu c
  (laneAddr (k.ptr i).toNat (k.base (k.bind i)).toNat (k.length (k.bind i)).toNat (ofsInt (k.ofs (s.physOf c j) i)) t margin).1

/-- The word that a load in that lane takes: zero where no memory stands or an uncorrectable error marks the word. -/
def State.laneData (s : State) (c j i : Nat) (t : Int) (margin : Nat) : Word :=
  match laneByte c (s.laneWordAt c j i t margin) with
  | some b => if s.eccAt b < 2 then s.word b else 0
  | none => 0

/-- Pointer `i` at `p` after the post-modify of an operation, where it has one. -/
def Cluster.stepPtr (k : Cluster) (i : Nat) (pm : Bool) (p : BitVec 20) : BitVec 20 :=
  if pm then
    BitVec.ofNat 20 (postModify p.toNat (k.base (k.bind i)).toNat (k.length (k.bind i)).toNat (k.mod i).toInt).1
  else p

/-- Whether the operation in slot M0 post-modifies pointer `i`. -/
def slotMoves (m0 : M0Slot) (i : Fin 8) : Bool :=
  match m0 with
  | .nop => false
  | .ld _ k pm _ => pm && k == i
  | .ldi _ _ k pm _ => pm && k == i

/-- From `s` to `t` no cluster changes but cluster `c`. -/
def onlyCluster (s t : State) (c : Nat) : Prop := ∀ d, d ≠ c → t.clu d = s.clu d

/-- A word of memory operations issued in cluster `c` from `s` to `t` moves the sequencer on, and changes no accumulator, no
predicate flag and no offset entry of a lane, no other cluster, and with no result on its way no data register. -/
def memWordFrame (s t : State) (c : Nat) : Prop :=
  (t.clu c).pc = ((s.clu c).advance (s.clu c).pc).pc ∧ (t.clu c).depth = ((s.clu c).advance (s.clu c).pc).depth ∧
    onlyCluster s t c ∧
    ∀ n : Fin 17, ((t.clu c).lane n).acc = ((s.clu c).lane n).acc ∧ ((t.clu c).lane n).pf = ((s.clu c).lane n).pf ∧
      ((t.clu c).lane n).ofs = ((s.clu c).lane n).ofs ∧ ((s.clu c).pend = [] → ((t.clu c).lane n).d = ((s.clu c).lane n).d)

/-- From `s` to `t` no byte of memory changes. -/
def sameMem (s t : State) : Prop := ∀ a, t.byte a = s.byte a

/-- From `s` to `t` no byte of memory changes but those of the words at which pointer `i` of cluster `c` places an enabled
logical lane. -/
def onlyLaneWords (s t : State) (c : Nat) (q : Cond) (i : Nat) : Prop :=
  ∀ a, (∀ l : Fin 16, (s.laneOf c l).holds q = true →
    ∀ d, laneByte c (s.laneWordAt c l i 0 0) = some d → a < d ∨ d + 4 ≤ a) → t.byte a = s.byte a

/-- From `s` to `t` the store through pointer `i` under condition `q` puts `v`, the value of logical lane `j`, where the lane places
it, unless a higher enabled lane has the same address; where no memory stands there it is recorded as a decode error. -/
def storedBy (s t : State) (c : Nat) (q : Cond) (i j : Nat) (v : Word) : Prop :=
  match laneByte c (s.laneWordAt c j i 0 0) with
  | some b =>
    (∀ l : Fin 16, j < l → (s.laneOf c l).holds q = true → s.laneWordAt c l i 0 0 ≠ s.laneWordAt c j i 0 0) → t.word b = v
  | none => t.g F.MTX_STAT_DECODE = 1

/-- Maps `m` and `n` hold the same but at key `k`. -/
def sameButKey {β : Type} (d : Nat → β) (m n : SMap β) (k : Nat) : Prop := ∀ i, i ≠ k → SMap.get d n i = SMap.get d m i

/-- The cluster, the slots beside it, the condition and the operation of a command that issues a compute operation. -/
def computeOf : Instr → Option (Fin 16 × Beside × Cond × COp)
  | .mpy c x q i a b => some (c, x, q, .acc .mpy i a b)
  | .mac c x q i a b => some (c, x, q, .acc .mac i a b)
  | .msu c x q i a b => some (c, x, q, .acc .msu i a b)
  | .mpyD c x q i a b => some (c, x, q, .acc .mpyD i a b)
  | .macD c x q i a b => some (c, x, q, .acc .macD i a b)
  | .msuD c x q i a b => some (c, x, q, .acc .msuD i a b)
  | .ald c x q i a => some (c, x, q, .ald i a)
  | .aadd c x q i m => some (c, x, q, .aadd i m)
  | .asub c x q i m => some (c, x, q, .asub i m)
  | .aclr c x q i => some (c, x, q, .aclr i)
  | .exta c x q d i k => some (c, x, q, .exta d i k)
  | .rsum c x q i m _ => some (c, x, q, .rsum i m)
  | .bcast c x q d a => some (c, x, q, .bcast d a)
  | .mov c x q d a => some (c, x, q, .alu1 .mov d a)
  | .add c x q d a b => some (c, x, q, .alu2 .add d a b)
  | .sub c x q d a b => some (c, x, q, .alu2 .sub d a b)
  | .adds c x q d a b => some (c, x, q, .alu2 .adds d a b)
  | .subs c x q d a b => some (c, x, q, .alu2 .subs d a b)
  | .neg c x q d a => some (c, x, q, .alu1 .neg d a)
  | .abs c x q d a => some (c, x, q, .alu1 .abs d a)
  | .min c x q d a b => some (c, x, q, .alu2 .min d a b)
  | .max c x q d a b => some (c, x, q, .alu2 .max d a b)
  | .and c x q d a b => some (c, x, q, .alu2 .and d a b)
  | .or c x q d a b => some (c, x, q, .alu2 .or d a b)
  | .xor c x q d a b => some (c, x, q, .alu2 .xor d a b)
  | .asr c x q d a b => some (c, x, q, .alu2 .asr d a b)
  | .lsr c x q d a b => some (c, x, q, .alu2 .lsr d a b)
  | .lsls c x q d a b => some (c, x, q, .alu2 .lsls d a b)
  | .mulr c x q d a b => some (c, x, q, .alu2 .mulr d a b)
  | .addsD c x q d a b => some (c, x, q, .alu2 .addsD d a b)
  | .subsD c x q d a b => some (c, x, q, .alu2 .subsD d a b)
  | .mulrD c x q d a b => some (c, x, q, .alu2 .mulrD d a b)
  | .cvt31 c x q d a => some (c, x, q, .alu1 .cvt31 d a)
  | .cvt23 c x q d a => some (c, x, q, .alu1 .cvt23 d a)
  | .pack c x q d a b => some (c, x, q, .alu2 .pack d a b)
  | .unpk0 c x q d a => some (c, x, q, .alu1 .unpk0 d a)
  | .unpk1 c x q d a => some (c, x, q, .alu1 .unpk1 d a)
  | .lid c x q d => some (c, x, q, .lid d)
  | .asrI c x q d a sh => some (c, x, q, .alui .asrI d a sh)
  | .lsrI c x q d a sh => some (c, x, q, .alui .lsrI d a sh)
  | .lslsI c x q d a sh => some (c, x, q, .alui .lslsI d a sh)
  | .rds c x q d v => some (c, x, q, .rds d v)
  | .ofsw c x q i n => some (c, x, q, .ofsw i n)
  | .cmpEq c x q p a b => some (c, x, q, .cmp .eq p a b)
  | .cmpNe c x q p a b => some (c, x, q, .cmp .ne p a b)
  | .cmpLt c x q p a b => some (c, x, q, .cmp .lt p a b)
  | .cmpLe c x q p a b => some (c, x, q, .cmp .le p a b)
  | .cmpaLt c x q p i => some (c, x, q, .cmpaLt p i)
  | .cmpaEq c x q p i => some (c, x, q, .cmpaEq p i)
  | .pset c x q p v => some (c, x, q, .pset p v)
  | .pand c x q p j r => some (c, x, q, .plog .and p j r)
  | .por c x q p j r => some (c, x, q, .plog .or p j r)
  | .pxor c x q p j r => some (c, x, q, .plog .xor p j r)
  | .pnot c x q p j => some (c, x, q, .pnot p j)
  | _ => none

/-- The data register that a compute operation writes. -/
def COp.writesD : COp → Option Nat
  | .exta d _ _ | .bcast d _ | .alu2 _ d _ _ | .alu1 _ d _ | .alui _ d _ _ | .lid d | .rds d _ => some d
  | _ => none

/-- The accumulator, the predicate flag and the offset entry that a compute operation writes. -/
def COp.writesAcc : COp → Option Nat
  | .rsum _ m => some m
  | o => accWrites o
def COp.writesPf : COp → Option Nat
  | .cmp _ p _ _ | .cmpaLt p _ | .cmpaEq p _ | .pset p _ | .plog _ p _ _ | .pnot p _ => some p
  | _ => none
def COp.writesOfs : COp → Option Nat
  | .ofsw i _ => some i
  | _ => none

/-- From lane registers `l` to `m` nothing changes but what compute operation `o` writes, and LSTAT. -/
def COp.laneFrame (o : COp) (l m : Lane) : Prop :=
  (∀ n : Fin 16, COp.writesD o ≠ some n.val → m.dr n = l.dr n) ∧ (∀ n : Fin 4, COp.writesAcc o ≠ some n.val → m.ac n = l.ac n) ∧
    (∀ n : Fin 4, COp.writesPf o ≠ some n.val → m.flag n = l.flag n) ∧
    ∀ n : Fin 8, COp.writesOfs o ≠ some n.val → SMap.get zeroO m.ofs n = SMap.get zeroO l.ofs n

/-- Whether a compute operation sums across lanes. -/
def COp.reduces : COp → Bool
  | .rsum .. => true
  | _ => false

/-- Whether a memory is a cluster's program memory. -/
def MemKind.isProg : MemKind → Bool
  | .prog _ => true
  | _ => false

/-- From `s` to `t` no byte of memory changes outside the `n` bytes at `lo`. -/
def onlyMem (s t : State) (lo n : Nat) : Prop := ∀ a, a < lo ∨ lo + n ≤ a → t.byte a = s.byte a

/-- Every register outside the LEVEE block, but those of `rs`, holds its reset value. -/
def resetBut (t : State) (rs : List Nat) : Prop := ∀ a, a / 0x10000 ≠ 0x0303 → a ∉ rs → t.rd a = resetWord a

/-- Ring `x` is empty: its indices are 0, and the phase of a completion or event ring is `ph`. -/
def State.ringEmpty (s : State) (ph : Nat) : RingSel → Bool
  | .cq => s.rd R.HOST_CQ_HEAD == 0 && s.g F.HOST_CQ_TAIL_TAIL == 0 && s.g F.HOST_CQ_TAIL_PHASE == ph
  | .eq => s.rd R.HOST_EQ_HEAD == 0 && s.g F.HOST_EQ_TAIL_TAIL == 0 && s.g F.HOST_EQ_TAIL_PHASE == ph
  | .cap c => s.rd (R.HOST_CAP_WR c) == 0 && s.rd (R.HOST_CAP_RD c) == 0
  | .sq d r => s.rd (R.HOST_SQ_HEAD d r) == 0 && s.rd (R.HOST_SQ_TAIL d r) == 0

/-- A write of `v` to the CFG register of ring `x` gives a size that an enabled ring may have (R484, R495). -/
def State.ringFits (s : State) (v : Word) : RingSel → Bool
  | .cap c => decide (4096 ≤ s.g (F.HOST_CAP_SIZE_SIZE c))
  | _ => decide (16 ≤ bitsOf v 12 0 ∧ bitsOf v 12 0 ≤ 4096)

/-- A write of `v` to the CFG register of ring `x` keeps its size and vector. -/
def State.ringSame (s : State) (v : Word) : RingSel → Bool
  | .sq d r => bitsOf v 12 0 == s.g (F.HOST_SQ_CFG_SIZE d r)
  | .cap c => bitsOf v 21 16 == s.g (F.HOST_CAP_CFG_VEC c)
  | x => bitsOf v 12 0 == bitsOf (s.rd (ringCfg x)) 12 0 && bitsOf v 21 16 == bitsOf (s.rd (ringCfg x)) 21 16

/-- Descriptor `d` leaves the engine from `s` to `t` with status `st` and results `r0` and `r1` (R490, R493): its entry goes to
the host at TAIL of the completion ring, which advances, unless it is OK and not wanted. -/
def completes (s t : State) (d : Desc) (st : Nat) (r0 r1 : Word) : Prop :=
  t.hs.ready = s.hs.ready.erase d ∧
    (((d.w 0).getLsbD 18 = true ∧ st = stOk) → t.rd R.HOST_CQ_TAIL = s.rd R.HOST_CQ_TAIL) ∧
    (¬((d.w 0).getLsbD 18 = true ∧ st = stOk) →
      t.g F.HOST_CQ_TAIL_TAIL = (s.g F.HOST_CQ_TAIL_TAIL + 1) % s.g F.HOST_CQ_CFG_SIZE ∧
        (s.manager = true → s.g F.HOST_STAT_LINK_UP = 1 → s.pw.owned = false →
          Out.host (s.rd64 R.HOST_CQ_BASE_LO R.HOST_CQ_BASE_HI + 16 * s.g F.HOST_CQ_TAIL_TAIL)
            ([BitVec.ofNat 32 (s.g F.HOST_CQ_TAIL_PHASE * 2 ^ 31 + d.ring * 2 ^ 28 + bitsOf (d.w 0) 15 0),
              BitVec.ofNat 32 (st * 2 ^ 24 + d.head * 2 ^ 12 + s.myId), r0, r1].flatMap wordBytes) ∈ t.out))

/-- The engine starts descriptor `d`, whose code is `op`, for this device, and none of its accesses hung before (R490). -/
abbrev State.starts (s : State) (d : Desc) (op : Nat) : Prop :=
  s.engineNext = some d ∧ d.opcode = op ∧ d.plain = true ∧ d.dev = s.myId ∧ s.hs.engErr = []

/-- The field rules of R487 and of the command table for a descriptor with code `op`. -/
def Desc.fits (d : Desc) (op : Nat) : Bool :=
  d.plain &&
    match op with
    | 0x00 | 0x03 | 0x04 | 0x31 => d.len == 0
    | 0x01 | 0x02 => decide (4 ≤ d.len ∧ d.len ≤ 1048576 ∧ d.len % 4 = 0)
    | 0x10 => decide (d.len % 8 = 0 ∧ d.loc + d.len / 8 ≤ 8192)
    | 0x11 => d.len == 8192
    | 0x12 => d.len == 133120
    | 0x13 => decide (d.arg0 < 128 ∧ 4 ≤ d.len ∧ d.len ≤ 262144 ∧ d.len % 4 = 0)
    | 0x20 => d.len == 32
    | 0x30 => decide (d.loc % 4 = 0 ∧ d.loc < 0x10000 ∧ 4 ≤ d.len ∧ d.len ≤ 8192 ∧ d.len % 4 = 0)
    | 0x40 => decide (4 ≤ d.len ∧ d.len ≤ 1024 ∧ d.len % 4 = 0)
    | 0x50 => d.len == 64
    | 0x51 => decide (d.len % 16 = 0 ∧ d.len ≤ 1024)
    | _ => true

/-- The engine would start descriptor `d`, whose code is `op` and which breaks a field rule, or names another device where only this
one may be named (R491). -/
abbrev State.misfit (s : State) (d : Desc) (op : Nat) : Prop :=
  s.engineNext = some d ∧ d.opcode = op ∧ (d.fits op = false ∨ (op ∉ [1, 2, 3, 4] ∧ d.dev ≠ s.myId))

/-- A message with envelope `e` that comes in on port `p` is for this device, and the port has room for it (R384, R401, R403). -/
abbrev State.arrives (s : State) (p : Nat) (e : Env) : Prop :=
  s.g (F.NGL_STAT_STATE p) = 6 ∧ s.g F.FAB_ID_VALID = 1 ∧ e.dst = s.g F.FAB_ID_ID ∧ s.expressFull p = false

/-- Every waiting access is one to domain `d`, or one in progress that its own domain keeps waiting (R335). -/
abbrev State.othersWait (s : State) (d : Nat) : Prop :=
  s.mx.atoms = [] ∧
    s.mx.hung.all (fun h => h.dom == d || (decide (h.dom < 35) && (h.reported || (s.farStuck h.addr).isSome))) = true

/-- The device takes a step to a next state. -/
def goesOn (s : State) : Prop := ∃ t, step s = .next t

end Sys2Proof.Machine
end

