-- ==== Sys2Proof/Certificates/Slice0/Obligations.lean ====
section
/-!
DEFINITION. The statements about the GV9664: one definition per obligation, its clauses one command or form each.
-/
open Sys2Proof Sys2Proof.Machine

/-- For every command c and state s, a step of s with c at the front of its queue is exec of c on s with the queue's rest. -/
def Obligations.StepRunsTheFrontCommand : Prop :=
  ∀ (c : Instr) (cs : List Instr) (s : State), s.pending = c :: cs → step s = exec c { s with pending := cs }

/-- A step of a state whose queue is empty answers that state: everything that time does arrives as a command. This is the
model's own choice, named in log entry 1. -/
def Obligations.EmptyQueueIdles : Prop :=
  ∀ s : State, s.pending = [] → step s = .next s

/-- No command of the table ends in a fault or a refusal: from every state a step answers a next state. -/
def Obligations.EveryCommandGoesOn : Prop :=
  ∀ s : State, goesOn s

/-- Whatever a command does, resets of the device among it, the commands that wait behind it stay in their order. -/
def Obligations.CommandsLeaveTheQueue : Prop :=
  ∀ (c : Instr) (s t : State), exec c s = .next t → t.pending = s.pending

/-- Memory lists bytes in strictly rising addresses and none that reads as an unlisted one, and the register store lists
none at its reset value; from every state of which this holds, a step answers one of which it holds. So memories that
read alike are equal data. (R21, R309) -/
def Obligations.StoresStayCanonical : Prop :=
  ∀ s t : State, s.inv → step s = .next t → t.inv

/-- The invariant that every step keeps holds at reset. (R21, R309) -/
def Obligations.ResetIsCanonical : Prop :=
  State.reset.inv

/-- Reset leaves N = 4 at 96 kHz with no tick run and tick number 0, every byte of program and region memory zero, the
identification of silicon B0, the Forecast's cap of 120 W and 115 °C, an unsealed Levee with its safest mute polarity,
a PTP rate of exactly one, and power-on as the cause of reset. (R33, R37, R133, R176) -/
def Obligations.ResetValuesAreTheSpecs : Prop :=
  State.reset.fs = 96000 ∧ State.reset.nSamp = 4 ∧ State.reset.tick = 0 ∧ State.reset.g F.TICK_STAT_RUNNING = 0 ∧
      (∀ a, State.reset.byte a = 0) ∧
      State.reset.g F.CHIP_ID_PART = 0x9664 ∧ State.reset.g F.FCST_PCAP_PCAP = 120 ∧
        State.reset.g F.FCST_TJ_SOFT_TJ_SOFT = 115 ∧
      State.reset.g F.LEVEE_SEAL_SEALED = 0 ∧ State.reset.rd R.PTP_RATE = 0x40000000#32 ∧ State.reset.g F.PWR_RST_CAUSE_POR = 1

/-- For every 64-bit word v and every instruction word w, v decodes to w exactly where w is well formed and v is its
encoding. So every well-formed word survives encoding and decoding with every operand at every value, no two of them
share an encoding, and every other word is an undefined encoding. (R112, R113, R115, R116, R117, R118, R119, R120,
R121, R122, R123, R131) -/
def Obligations.WordsDecodeExactlyAsEncoded : Prop :=
  ∀ (v : BitVec 64) (w : IWord), decodeWord v = some w ↔ (w.wf = true ∧ encodeWord w = v)

/-- The inner word of the FIR, its store, its inner LOOP, the SETA of the steering example, the no-operation word and HALT
decode as the encoding chapter says, and words with a reserved code or a bit set that must be zero decode to none.
(R112, R116, R118, R119, R120, R122, R123, R124, R125, R131) -/
def Obligations.SpecsExampleWordsDecode : Prop :=
  decodeWord 0x0400080808103100#64 = some (.slots (.op .always (.acc .mac 0 0 1)) (.ld .always 0 true 0) (.ld .always 1 true 1)) ∧
      decodeWord 0x00000000005071F8#64 = some (.slots .nop .nop (.sta .always 3 true 0 ⟨.imm 31, .cnv, .w32⟩)) ∧
      decodeWord 0x8400FE041820C000#64 = some (.loop (.imm 254) 262 262) ∧
      decodeWord 0x8680100018008000#64 = some (.seta (some ⟨.b, 0, .imm 0x4000⟩) (some ⟨.len, 0, .imm 4096⟩)) ∧
      decodeWord 0#64 = some (.slots .nop .nop .nop) ∧ decodeWord 0xFE00000000000000#64 = some .halt ∧
      decodeWord 0xFE00000000000001#64 = none ∧ decodeWord 0x8000000000000000#64 = none

/-- Writing 0xD0D0 to PWR_RST_CTL.KEY starts a device reset with cause SOFTWARE: the reset is held, every register outside
the Levee block but for the cause, the wake vector and the process targets takes its reset value, and memory is empty.
Any other value changes nothing but PWR_EVT.CFG_REFUSED, which is set. Completes SOFTWARE_RESET. (R516) -/
def Obligations.SoftwareResetNeedsItsKey : Prop :=
  -- SOFTWARE_RESET
  (∀ (v : Word) (s : State),
      bitsOf v 15 0 = 0xD0D0 ∧ Regs.wf s.regs →
      ∃ t, exec (.softwareReset v) s = .next t ∧ t.pw.held = true ∧ t.mem = [] ∧ t.g F.PWR_RST_CAUSE_SOFTWARE = 1 ∧
        t.out = s.out ∧ resetBut t [R.PWR_RST_CAUSE, R.PWR_WAKE_VEC, R.PWR_AVS_TGT] ∧ t.rd R.LEVEE_SEAL = s.rd R.LEVEE_SEAL) ∧
  -- SOFTWARE_RESET with another key
  (∀ (v : Word) (s : State),
      bitsOf v 15 0 ≠ 0xD0D0 →
      ∃ t, exec (.softwareReset v) s = .next t ∧ t.g F.PWR_EVT_CFG_REFUSED = 1 ∧ t.out = s.ok.out ∧ confined s t [R.PWR_EVT])

/-- A write to TICK_CFG that selects N = 1 at 176.4 kHz or at 192 kHz, a field with a reserved code keeping its value,
leaves TICK_CFG as it was and sets TICK_STAT.CFG_REFUSED; nothing else changes but the answer. (R34) -/
def Obligations.ShortTicksAreRefused : Prop :=
  -- TICK_CFG_WRITE of a tick shorter than 10 µs
  (∀ (v : Word) (n fs : Nat) (s : State),
      n = (if 6 ≤ F.TICK_CFG_N_LOG2.of v then s.g F.TICK_CFG_N_LOG2 else F.TICK_CFG_N_LOG2.of v) ∧
        fs = (if 6 ≤ F.TICK_CFG_FS_SEL.of v then s.g F.TICK_CFG_FS_SEL else F.TICK_CFG_FS_SEL.of v) →
      n = 0 ∧ (fs = 4 ∨ fs = 5) →
      ∃ t, exec (.tickCfgWrite v) s = .next t ∧ t.rd R.TICK_CFG = s.rd R.TICK_CFG ∧ t.g F.TICK_STAT_CFG_REFUSED = 1 ∧
        t.out = s.ok.out ∧ confined s t [R.TICK_STAT])

/-- TICK_BOUNDARY while ticks run and RUN is 1 raises the tick number by 1, brings the MTC to the value R38 gives that
tick and begins the gather. TICK_BOUNDARY with a start pending on a manager begins the run at the boundary that the
pending start gives: RUNNING becomes 1, START_PENDING 0, the tick number rises by 1, and TIME_BASE records both
values. TICKS_STOPPED with RUN 0 clears RUNNING, keeps the tick number and enters IDLE. SAMPLE_BOUNDARY inside a run,
before the next boundary, raises the MTC by 1 and keeps the tick number. Completes TICK_BOUNDARY, TICKS_STOPPED,
SAMPLE_BOUNDARY. (R36, R37, R38, R43, R44, R510) -/
def Obligations.TickBoundariesCountTicks : Prop :=
  -- TICK_BOUNDARY inside a run
  (∀ (edges : Nat) (s : State),
      s.g F.TICK_STAT_RUNNING = 1 →
      s.g F.TICK_CTL_RUN = 1 →
      ∃ t, exec (.tickBoundary edges) s = .next t ∧ t.tm.tick = s.tm.tick + 1 ∧
        t.tm.mtc = BitVec.ofNat 64 (s.rd64 R.TIME_BASE_MTC_LO R.TIME_BASE_MTC_HI + (s.tm.tick.toNat + 1 - s.rd64 R.TIME_BASE_TICK_LO R.TIME_BASE_TICK_HI) * s.nSamp) ∧ t.tm.phase = .gather) ∧
  -- TICK_BOUNDARY at the start of a run of a manager
  (∀ (edges m : Nat) (s : State),
      s.g F.TICK_STAT_RUNNING = 0 →
      s.g F.TICK_STAT_START_PENDING = 1 →
      s.g F.CHIP_STRAP_ROLE = 1 →
      s.startPoint = some (s.tm.tick.toNat + 1, m) →
      m < 2 ^ 64 →
      s.tm.tick.toNat + 1 < 2 ^ 64 →
      ∃ t, exec (.tickBoundary edges) s = .next t ∧ t.g F.TICK_STAT_RUNNING = 1 ∧ t.g F.TICK_STAT_START_PENDING = 0 ∧
        t.tm.tick = s.tm.tick + 1 ∧ t.tm.mtc = BitVec.ofNat 64 m ∧ m % s.nSamp = 0 ∧
        t.rd64 R.TIME_BASE_MTC_LO R.TIME_BASE_MTC_HI = m ∧
        t.rd64 R.TIME_BASE_TICK_LO R.TIME_BASE_TICK_HI = s.tm.tick.toNat + 1 ∧ t.tm.phase = .gather) ∧
  -- TICKS_STOPPED
  (∀ (s : State),
      s.g F.TICK_STAT_RUNNING = 1 →
      s.g F.TICK_CTL_RUN = 0 →
      ∃ t, exec .ticksStopped s = .next t ∧ t.g F.TICK_STAT_RUNNING = 0 ∧ t.tm.tick = s.tm.tick ∧ t.tm.phase = .stopped ∧
        t.g F.PWR_STAT_STATE = 1) ∧
  -- SAMPLE_BOUNDARY
  (∀ (s : State),
      s.g F.TICK_STAT_RUNNING = 1 →
      s.tm.mtc.toNat + 1 < s.rd64 R.TIME_BASE_MTC_LO R.TIME_BASE_MTC_HI + (s.tm.tick.toNat + 1 - s.rd64 R.TIME_BASE_TICK_LO R.TIME_BASE_TICK_HI) * s.nSamp →
      ∃ t, exec .sampleBoundary s = .next t ∧ t.tm.mtc = s.tm.mtc + 1 ∧ t.tm.tick = s.tm.tick)

/-- While ticks run, GATHER_COMPLETE in the gather phase completes the gather in time, and after the 0.08T mark sets
GATHER_LATE and counts it; COMPUTE_WINDOW_OPEN, COMPUTE_WINDOW_CLOSE and CONSIGN_PHASE lead from the gather to the
compute window, the distribute and the consign phase; a distribute that missed the 0.90T mark sets DIST_LATE and
counts it. The tick number does not change. Completes GATHER_COMPLETE, COMPUTE_WINDOW_OPEN, COMPUTE_WINDOW_CLOSE,
CONSIGN_PHASE. (R45, R47, R48, R49, R55, R60) -/
def Obligations.PhaseMarksMoveTheTickOn : Prop :=
  -- GATHER_COMPLETE in time
  (∀ (s : State),
      s.g F.TICK_STAT_RUNNING = 1 →
      s.tm.gathered = false →
      s.tm.phase = .gather →
      ∃ t, exec .gatherComplete s = .next t ∧ t.tm.gathered = true ∧ t.tm.phase = .gather ∧
        t.g F.TICK_STAT_GATHER_LATE = s.g F.TICK_STAT_GATHER_LATE ∧ t.rd R.TIME_GATHER_LATE_CNT = s.rd R.TIME_GATHER_LATE_CNT) ∧
  -- GATHER_COMPLETE after the 0.08T mark
  (∀ (s : State),
      s.g F.TICK_STAT_RUNNING = 1 →
      s.tm.gathered = false →
      s.tm.phase = .window ∨ s.tm.phase = .distribute ∨ s.tm.phase = .consign →
      (s.rd R.TIME_GATHER_LATE_CNT).toNat < 2 ^ 32 - 1 →
      ∃ t, exec .gatherComplete s = .next t ∧ t.tm.gathered = true ∧ t.g F.TICK_STAT_GATHER_LATE = 1 ∧
        t.rd R.TIME_GATHER_LATE_CNT = s.rd R.TIME_GATHER_LATE_CNT + 1) ∧
  -- COMPUTE_WINDOW_OPEN
  (∀ (missed : Option Nat) (s : State),
      s.g F.TICK_STAT_RUNNING = 1 →
      s.tm.phase = .gather →
      ∃ t, exec (.computeWindowOpen missed) s = .next t ∧ t.tm.phase = .window ∧ t.tm.tick = s.tm.tick ∧ t.tm.mtc = s.tm.mtc) ∧
  -- COMPUTE_WINDOW_CLOSE
  (∀ (meas : Option Nat) (skip : List Nat) (s : State),
      s.g F.TICK_STAT_RUNNING = 1 →
      s.tm.phase = .window →
      ∃ t, exec (.computeWindowClose meas skip) s = .next t ∧ t.tm.phase = .distribute ∧ t.tm.tick = s.tm.tick ∧
        t.xg.late = (skip != [])) ∧
  -- CONSIGN_PHASE with the distribute complete
  (∀ (sent : Nat) (s : State),
      s.g F.TICK_STAT_RUNNING = 1 →
      s.tm.phase = .distribute →
      s.xg.late = false →
      ∃ t, exec (.consignPhase sent) s = .next t ∧ t.tm.phase = .consign ∧ t.tm.tick = s.tm.tick ∧
        t.g F.TICK_STAT_DIST_LATE = s.g F.TICK_STAT_DIST_LATE ∧ t.rd R.TIME_DIST_LATE_CNT = s.rd R.TIME_DIST_LATE_CNT) ∧
  -- CONSIGN_PHASE with the distribute late
  (∀ (sent : Nat) (s : State),
      s.g F.TICK_STAT_RUNNING = 1 →
      s.tm.phase = .distribute →
      s.xg.late = true →
      (s.rd R.TIME_DIST_LATE_CNT).toNat < 2 ^ 32 - 1 →
      ∃ t, exec (.consignPhase sent) s = .next t ∧ t.tm.phase = .consign ∧ t.xg.late = false ∧ t.g F.TICK_STAT_DIST_LATE = 1 ∧
        t.rd R.TIME_DIST_LATE_CNT = s.rd R.TIME_DIST_LATE_CNT + 1)

/-- While no tick runs and no start is pending, TICK_CFG_WRITE of a rate and length that exist, N at least 2 where fs is
176.4 kHz or above, gives both fields; a tick shorter than 10 µs is refused; while ticks run or a start is pending the
register is kept; each refusal sets CFG_REFUSED and changes nothing else. TICK_RUN while stopped makes a start pending
and enters RUN; TICK_STOP while ticks run clears RUN and keeps RUNNING until the tick ends; TICK_STOP of a pending
start cancels it. MTC_SET and TICK_SET load a count that is not lower than the present one and refuse a lower one, or
any while ticks run. Completes TICK_CFG_WRITE, TICK_RUN, TICK_STOP, MTC_SET, TICK_SET. (R33, R34, R39, R42, R43, R44,
R510, R11) -/
def Obligations.TickConfigurationAndStart : Prop :=
  -- TICK_CFG_WRITE
  (∀ (v : Word) (s : State),
      s.g F.TICK_STAT_RUNNING = 0 →
      s.g F.TICK_STAT_START_PENDING = 0 →
      F.TICK_CFG_FS_SEL.of v < 6 →
      F.TICK_CFG_N_LOG2.of v < 6 →
      F.TICK_CFG_FS_SEL.of v < 4 ∨ 0 < F.TICK_CFG_N_LOG2.of v →
      ∃ t, exec (.tickCfgWrite v) s = .next t ∧ t.g F.TICK_CFG_FS_SEL = F.TICK_CFG_FS_SEL.of v ∧
        t.g F.TICK_CFG_N_LOG2 = F.TICK_CFG_N_LOG2.of v ∧ t.g F.TICK_STAT_CFG_REFUSED = s.g F.TICK_STAT_CFG_REFUSED ∧
        t.tm.tick = s.tm.tick ∧ t.tm.mtc = s.tm.mtc) ∧
  -- TICK_CFG_WRITE while ticks run or a start is pending
  (∀ (v : Word) (s : State),
      s.g F.TICK_STAT_RUNNING = 1 ∨ s.g F.TICK_STAT_START_PENDING = 1 →
      ∃ t, exec (.tickCfgWrite v) s = .next t ∧ t.rd R.TICK_CFG = s.rd R.TICK_CFG ∧ t.g F.TICK_STAT_CFG_REFUSED = 1 ∧
        confined s t [R.TICK_STAT]) ∧
  -- TICK_RUN
  (∀ (mid : Bool) (s : State),
      s.g F.TICK_CTL_RUN = 0 →
      s.g F.TICK_STAT_RUNNING = 0 →
      ∃ t, exec (.tickRun mid) s = .next t ∧ t.g F.TICK_CTL_RUN = 1 ∧ t.g F.TICK_STAT_START_PENDING = 1 ∧
        t.g F.PWR_STAT_STATE = 2 ∧ t.g F.TICK_STAT_RUNNING = 0 ∧ onlyRegs s t [R.TICK_CTL, R.TICK_STAT, R.PWR_STAT]) ∧
  -- TICK_RUN that cancels a stop
  (∀ (mid : Bool) (s : State),
      s.g F.TICK_CTL_RUN = 0 →
      s.g F.TICK_STAT_RUNNING = 1 →
      ∃ t, exec (.tickRun mid) s = .next t ∧ t.g F.TICK_CTL_RUN = 1 ∧ t.g F.TICK_STAT_RUNNING = 1 ∧ confined s t [R.TICK_CTL]) ∧
  -- TICK_STOP while ticks run
  (∀ (s : State),
      s.g F.TICK_CTL_RUN = 1 →
      s.g F.TICK_STAT_RUNNING = 1 →
      ∃ t, exec .tickStop s = .next t ∧ t.g F.TICK_CTL_RUN = 0 ∧ t.g F.TICK_STAT_RUNNING = 1 ∧ onlyRegs s t [R.TICK_CTL,
        R.TICK_STAT]) ∧
  -- TICK_STOP of a pending start
  (∀ (s : State),
      s.g F.TICK_CTL_RUN = 1 →
      s.g F.TICK_STAT_RUNNING = 0 →
      ∃ t, exec .tickStop s = .next t ∧ t.g F.TICK_CTL_RUN = 0 ∧ t.g F.TICK_STAT_START_PENDING = 0 ∧ t.g F.PWR_STAT_STATE = 1 ∧
        onlyRegs s t [R.TICK_CTL, R.TICK_STAT, R.PWR_STAT]) ∧
  -- MTC_SET
  (∀ (v : Word) (s : State),
      s.g F.TICK_STAT_RUNNING = 0 →
      s.tm.mtc.toNat ≤ (v ++ s.tm.mtcSetLo).toNat →
      ∃ t, exec (.mtcSet v) s = .next t ∧ t.tm.mtc = v ++ s.tm.mtcSetLo ∧ t.tm.tick = s.tm.tick ∧ onlyRegs s t []) ∧
  -- MTC_SET refused
  (∀ (v : Word) (s : State),
      s.g F.TICK_STAT_RUNNING = 1 ∨ (v ++ s.tm.mtcSetLo).toNat < s.tm.mtc.toNat →
      ∃ t, exec (.mtcSet v) s = .next t ∧ t.g F.TICK_STAT_SET_REFUSED = 1 ∧ confined s t [R.TICK_STAT]) ∧
  -- TICK_SET
  (∀ (v : Word) (s : State),
      s.g F.TICK_STAT_RUNNING = 0 →
      s.tm.tick.toNat ≤ (v ++ s.tm.tickSetLo).toNat →
      ∃ t, exec (.tickSet v) s = .next t ∧ t.tm.tick = v ++ s.tm.tickSetLo ∧ t.tm.mtc = s.tm.mtc ∧ onlyRegs s t []) ∧
  -- TICK_SET refused
  (∀ (v : Word) (s : State),
      s.g F.TICK_STAT_RUNNING = 1 ∨ (v ++ s.tm.tickSetLo).toNat < s.tm.tick.toNat →
      ∃ t, exec (.tickSet v) s = .next t ∧ t.g F.TICK_STAT_SET_REFUSED = 1 ∧ confined s t [R.TICK_STAT])

/-- MTC_READ with agreeing samples takes the MTC and latches its high word; with samples that do not agree it keeps the
value shown before, sets MTC_STALE and reports it. LATCHED_LOW_READ of TIME_TICK_LO answers the low word of the tick
number and latches the high word, and a read of TIME_TICK_HI answers what is latched. A read of 1 or 2 bytes answers
the addressed bytes. REGISTER_WRITE of a word, or of 1 or 2 bytes, of control, data or region memory stores it,
changes no other byte, and is answered; of an address where nothing stands it is answered with an error and recorded
as a decode error; of 1 or 2 bytes of a register it changes no register and is answered with an error. Completes
MTC_READ, LATCHED_LOW_READ, REGISTER_WRITE. (R9, R10, R12, R13, R37, R41, R310, R327) -/
def Obligations.BusAccessesReadAndWrite : Prop :=
  -- MTC_READ
  (∀ (s : State),
      s.pw.owned = false →
      ∃ t, exec (.mtcRead false) s = .next t ∧ t.out = s.out ++ [.resp false [s.tm.mtc.setWidth 32]] ∧
        t.latched R.TIME_MTC_HI = (s.tm.mtc >>> 32).setWidth 32 ∧ t.g F.TICK_STAT_MTC_STALE = 0 ∧ onlyRegs s t [R.TICK_STAT]) ∧
  -- MTC_READ with samples that do not agree
  (∀ (s : State),
      s.pw.owned = false →
      ∃ t, exec (.mtcRead true) s = .next t ∧ t.out = s.out ++ [.resp false [s.tm.mtcShown.setWidth 32]] ∧
        t.g F.TICK_STAT_MTC_STALE = 1 ∧ t.ft.blocks = addMsg s.ft.blocks ⟨R.TIME_MTC_LO, 1, Kind.cdcStale, Src.time⟩ ∧
        onlyRegs s t [R.TICK_STAT]) ∧
  -- LATCHED_LOW_READ of TIME_TICK_LO
  (∀ (core : Bool) (s : State),
      s.pw.owned = false →
      s.freeBus →
      ∃ t, exec (.latchedLowRead (BitVec.ofNat 32 R.TIME_TICK_LO) 2 core false) s = .next t ∧
        t.out = s.out ++ [.resp false [s.tm.tick.setWidth 32]] ∧ t.latched R.TIME_TICK_HI = s.tm.tick.extractLsb' 32 32 ∧
        onlyRegs s t []) ∧
  -- LATCHED_LOW_READ of the latched high word
  (∀ (core : Bool) (s : State),
      s.pw.owned = false →
      s.freeBus →
      ∃ t, exec (.latchedLowRead (BitVec.ofNat 32 R.TIME_TICK_HI) 2 core false) s = .next t ∧
        t.out = s.out ++ [.resp false [s.latched R.TIME_TICK_HI]] ∧ onlyRegs s t []) ∧
  -- LATCHED_LOW_READ of a sound memory word in a bank that is awake
  (∀ (a : Word) (core : Bool) (k : MemKind) (o : Nat) (s : State),
      a.toNat % 4 = 0 →
      memOf a.toNat = some (k, o) →
      k.isProg = false →
      s.inRet (bankOf k o) = false →
      s.eccAt a.toNat = 0 →
      s.pw.owned = false →
      s.freeBus →
      ∃ t, exec (.latchedLowRead a 2 core false) s = .next t ∧ t.out = s.out ++ [.resp false [s.word a.toNat]] ∧
        onlyRegs s t []) ∧
  -- LATCHED_LOW_READ of an uncorrectable memory word
  (∀ (a : Word) (core : Bool) (k : MemKind) (o : Nat) (s : State),
      a.toNat % 4 = 0 →
      memOf a.toNat = some (k, o) →
      k.isProg = false →
      s.eccAt a.toNat = 2 →
      s.pw.owned = false →
      s.freeBus →
      ∃ t, exec (.latchedLowRead a 2 core false) s = .next t ∧ t.out = s.out ++ [.resp true [0]] ∧ t.rd R.MEM_ECC_LAST = a ∧
        onlyRegs s t [R.MEM_ECC_LAST, R.MEM_ECC_UNCORR_CNT, R.MEM_WAKE_CNT]) ∧
  -- LATCHED_LOW_READ of 1 or 2 bytes of a sound memory word in a bank that is awake
  (∀ (a : Word) (size : Fin 3) (core : Bool) (k : MemKind) (o : Nat) (s : State),
      a.toNat % 2 ^ size.val = 0 →
      memOf (a.toNat - a.toNat % 4) = some (k, o) →
      k.isProg = false →
      s.inRet (bankOf k o) = false →
      s.eccAt (a.toNat - a.toNat % 4) = 0 →
      s.pw.owned = false →
      s.freeBus →
      ∃ t, exec (.latchedLowRead a size core false) s = .next t ∧
        t.out = s.out ++ [.resp false [(s.word (a.toNat - a.toNat % 4) >>> (8 * (a.toNat % 4))) &&& BitVec.ofNat 32 (2 ^ (8 * 2 ^ size.val) - 1)]] ∧ onlyRegs s t []) ∧
  -- REGISTER_WRITE of a memory word
  (∀ (a v : Word) (core : Bool) (k : MemKind) (o : Nat) (s : State),
      a.toNat % 4 = 0 →
      memOf a.toNat = some (k, o) →
      k.isProg = false →
      s.freeBus →
      ∃ t, exec (.registerWrite a 2 v core) s = .next t ∧ t.word a.toNat = v ∧ onlyBytes s t [R.MEM_WAKE_CNT,
        R.MEM_INJ_CTL] a.toNat 4 ∧ t.out = s.ok.out) ∧
  -- REGISTER_WRITE of 1 or 2 bytes of a sound memory word in a bank that is awake
  (∀ (a v : Word) (size : Fin 3) (core : Bool) (k : MemKind) (o : Nat) (s : State),
      size.val < 2 →
      a.toNat % 2 ^ size.val = 0 →
      memOf (a.toNat - a.toNat % 4) = some (k, o) →
      k.isProg = false →
      s.inRet (bankOf k o) = false →
      s.eccAt (a.toNat - a.toNat % 4) = 0 →
      s.freeBus →
      ∃ t, exec (.registerWrite a size v core) s = .next t ∧
        (t.word (a.toNat - a.toNat % 4) >>> (8 * (a.toNat % 4))) &&& BitVec.ofNat 32 (2 ^ (8 * 2 ^ size.val) - 1) = v &&& BitVec.ofNat 32 (2 ^ (8 * 2 ^ size.val) - 1) ∧ onlyBytes s t [R.MEM_INJ_CTL] a.toNat (2 ^ size.val) ∧ t.out = s.ok.out) ∧
  -- REGISTER_WRITE where nothing stands
  (∀ (a v : Word) (s : State),
      a.toNat % 4 = 0 →
      0x04000000 ≤ a.toNat ∨ (0x02800000 ≤ a.toNat ∧ a.toNat < 0x03000000) →
      s.freeBus →
      ∃ t, exec (.registerWrite a 2 v false) s = .next t ∧ t.g F.MTX_STAT_DECODE = 1 ∧ t.rd R.MTX_DECODE_LAST = a ∧
        t.out = s.err.out ∧ onlyRegs s t [R.MTX_STAT, R.MTX_DECODE_LAST, R.MTX_DECODE_CNT]) ∧
  -- REGISTER_WRITE of 1 or 2 bytes of a register
  (∀ (a v : Word) (size : Fin 3) (core : Bool) (s : State),
      size.val < 2 →
      a.toNat % 2 = 0 →
      memOf a.toNat = none →
      (regSpecAt (a.toNat - a.toNat % 4)).isSome = true →
      s.freeBus →
      ∃ t, exec (.registerWrite a size v core) s = .next t ∧ t.out = s.err.out ∧ onlyRegs s t [])

/-- SCHED_ARM of an entry that is not ARMED, with a target at least two ticks ahead, an existing action with a suiting
argument and no other ARMED entry holding the same action and target, makes it ARMED with that target; with a target
of the next tick or earlier it becomes REFUSED and SCHED_REFUSED is set; an ARMED entry keeps its values. SCHED_DISARM
of an ARMED entry makes it IDLE: TYPE reads NONE and ARG takes the value written. Completes SCHED_ARM, SCHED_DISARM.
(R62, R65) -/
def Obligations.ScheduledActionsArmAndDisarm : Prop :=
  -- SCHED_ARM
  (∀ (n : Fin 32) (v : Word) (s : State),
      s.g (F.TIME_SCHED_ACT_STATE n) ≠ 1 →
      s.tm.tick.toNat + 2 ≤ s.writtenTgt false n →
      bitsOf v 27 24 ∈ [1, 2, 3, 4, 5] →
      argSuits (bitsOf v 27 24) (bitsOf v 15 0) = true →
      s.schedTwice false n (bitsOf v 27 24) (bitsOf v 15 0) (s.writtenTgt false n) = false →
      ∃ t, exec (.schedArm n v) s = .next t ∧ t.g (F.TIME_SCHED_ACT_STATE n) = 1 ∧
        t.g (F.TIME_SCHED_ACT_TYPE n) = bitsOf v 27 24 ∧ t.g (F.TIME_SCHED_ACT_ARG n) = bitsOf v 15 0 ∧
        t.armedTgt false n = s.writtenTgt false n ∧ onlyRegs s t [R.TIME_SCHED_ACT n]) ∧
  -- SCHED_ARM too late
  (∀ (n : Fin 32) (v : Word) (s : State),
      s.g (F.TIME_SCHED_ACT_STATE n) ≠ 1 →
      s.writtenTgt false n < s.tm.tick.toNat + 2 →
      ∃ t, exec (.schedArm n v) s = .next t ∧ t.g (F.TIME_SCHED_ACT_STATE n) = 3 ∧ t.g F.TICK_STAT_SCHED_REFUSED = 1 ∧
        confined s t [R.TIME_SCHED_ACT n, R.TICK_STAT]) ∧
  -- SCHED_ARM of an ARMED entry
  (∀ (n : Fin 32) (v : Word) (s : State),
      s.g (F.TIME_SCHED_ACT_STATE n) = 1 →
      ∃ t, exec (.schedArm n v) s = .next t ∧ t.rd (R.TIME_SCHED_ACT n) = s.rd (R.TIME_SCHED_ACT n) ∧
        t.g F.TICK_STAT_SCHED_REFUSED = 1 ∧ confined s t [R.TICK_STAT]) ∧
  -- SCHED_DISARM
  (∀ (n : Fin 32) (v : Word) (s : State),
      s.g (F.TIME_SCHED_ACT_STATE n) = 1 →
      ∃ t, exec (.schedDisarm n v) s = .next t ∧ t.g (F.TIME_SCHED_ACT_STATE n) = 0 ∧ t.g (F.TIME_SCHED_ACT_TYPE n) = 0 ∧
        t.g (F.TIME_SCHED_ACT_ARG n) = bitsOf v 15 0 ∧ confined s t [R.TIME_SCHED_ACT n])

/-- When a cluster issues a word with an accumulator operation, the accumulator of every enabled logical lane takes the
result of the table of accumulator operations, formed exactly and saturated to 80 bits, and the lane sets LSTAT.AOV
where the result was clipped. Completes MPY, MAC, MSU, MPY_D, MAC_D, MSU_D, ALD, AADD, ASUB, ACLR. (R70, R71, R75,
R116) -/
def Obligations.AccumulatorOperations : Prop :=
  -- MPY
  (∀ (c : Fin 16) (x : Beside) (q : Cond) (i : Fin 4) (a b : Fin 16) (j : Fin 16) (s : State),
      s.issues c (.slots (.op q (.acc .mpy i a b)) x.m0 x.m1) = true →
      s.ownLane c j →
      (s.laneOf c j).holds q = true →
      ∃ t, exec (.mpy c x q i a b) s = .next t ∧
        ((t.clu c).lane (s.physOf c j)).ac i = satTo 80 (((s.laneOf c j).dr a).toInt * ((s.laneOf c j).dr b).toInt) ∧
        ((t.clu c).lane (s.physOf c j)).lstat.testBit 0 = ((s.laneOf c j).lstat.testBit 0 || clips 80 (((s.laneOf c j).dr a).toInt * ((s.laneOf c j).dr b).toInt))) ∧
  -- MAC
  (∀ (c : Fin 16) (x : Beside) (q : Cond) (i : Fin 4) (a b : Fin 16) (j : Fin 16) (s : State),
      s.issues c (.slots (.op q (.acc .mac i a b)) x.m0 x.m1) = true →
      s.ownLane c j →
      (s.laneOf c j).holds q = true →
      ∃ t, exec (.mac c x q i a b) s = .next t ∧
        ((t.clu c).lane (s.physOf c j)).ac i = satTo 80 ((s.laneOf c j).ac i + ((s.laneOf c j).dr a).toInt * ((s.laneOf c j).dr b).toInt) ∧ ((t.clu c).lane (s.physOf c j)).lstat.testBit 0 = ((s.laneOf c j).lstat.testBit 0 || clips 80 ((s.laneOf c j).ac i + ((s.laneOf c j).dr a).toInt * ((s.laneOf c j).dr b).toInt))) ∧
  -- MSU
  (∀ (c : Fin 16) (x : Beside) (q : Cond) (i : Fin 4) (a b : Fin 16) (j : Fin 16) (s : State),
      s.issues c (.slots (.op q (.acc .msu i a b)) x.m0 x.m1) = true →
      s.ownLane c j →
      (s.laneOf c j).holds q = true →
      ∃ t, exec (.msu c x q i a b) s = .next t ∧
        ((t.clu c).lane (s.physOf c j)).ac i = satTo 80 ((s.laneOf c j).ac i - ((s.laneOf c j).dr a).toInt * ((s.laneOf c j).dr b).toInt) ∧ ((t.clu c).lane (s.physOf c j)).lstat.testBit 0 = ((s.laneOf c j).lstat.testBit 0 || clips 80 ((s.laneOf c j).ac i - ((s.laneOf c j).dr a).toInt * ((s.laneOf c j).dr b).toInt))) ∧
  -- MPY_D
  (∀ (c : Fin 16) (x : Beside) (q : Cond) (i : Fin 4) (a b : Fin 16) (j : Fin 16) (s : State),
      s.issues c (.slots (.op q (.acc .mpyD i a b)) x.m0 x.m1) = true →
      s.ownLane c j →
      (s.laneOf c j).holds q = true →
      ∃ t, exec (.mpyD c x q i a b) s = .next t ∧
        ((t.clu c).lane (s.physOf c j)).ac i = satTo 80 ((elem ((s.laneOf c j).dr a) 0 * elem ((s.laneOf c j).dr b) 0 + elem ((s.laneOf c j).dr a) 1 * elem ((s.laneOf c j).dr b) 1) * 2 ^ 32) ∧ ((t.clu c).lane (s.physOf c j)).lstat.testBit 0 = ((s.laneOf c j).lstat.testBit 0 || clips 80 ((elem ((s.laneOf c j).dr a) 0 * elem ((s.laneOf c j).dr b) 0 + elem ((s.laneOf c j).dr a) 1 * elem ((s.laneOf c j).dr b) 1) * 2 ^ 32))) ∧
  -- MAC_D
  (∀ (c : Fin 16) (x : Beside) (q : Cond) (i : Fin 4) (a b : Fin 16) (j : Fin 16) (s : State),
      s.issues c (.slots (.op q (.acc .macD i a b)) x.m0 x.m1) = true →
      s.ownLane c j →
      (s.laneOf c j).holds q = true →
      ∃ t, exec (.macD c x q i a b) s = .next t ∧
        ((t.clu c).lane (s.physOf c j)).ac i = satTo 80 ((s.laneOf c j).ac i + (elem ((s.laneOf c j).dr a) 0 * elem ((s.laneOf c j).dr b) 0 + elem ((s.laneOf c j).dr a) 1 * elem ((s.laneOf c j).dr b) 1) * 2 ^ 32) ∧ ((t.clu c).lane (s.physOf c j)).lstat.testBit 0 = ((s.laneOf c j).lstat.testBit 0 || clips 80 ((s.laneOf c j).ac i + (elem ((s.laneOf c j).dr a) 0 * elem ((s.laneOf c j).dr b) 0 + elem ((s.laneOf c j).dr a) 1 * elem ((s.laneOf c j).dr b) 1) * 2 ^ 32))) ∧
  -- MSU_D
  (∀ (c : Fin 16) (x : Beside) (q : Cond) (i : Fin 4) (a b : Fin 16) (j : Fin 16) (s : State),
      s.issues c (.slots (.op q (.acc .msuD i a b)) x.m0 x.m1) = true →
      s.ownLane c j →
      (s.laneOf c j).holds q = true →
      ∃ t, exec (.msuD c x q i a b) s = .next t ∧
        ((t.clu c).lane (s.physOf c j)).ac i = satTo 80 ((s.laneOf c j).ac i - (elem ((s.laneOf c j).dr a) 0 * elem ((s.laneOf c j).dr b) 0 + elem ((s.laneOf c j).dr a) 1 * elem ((s.laneOf c j).dr b) 1) * 2 ^ 32) ∧ ((t.clu c).lane (s.physOf c j)).lstat.testBit 0 = ((s.laneOf c j).lstat.testBit 0 || clips 80 ((s.laneOf c j).ac i - (elem ((s.laneOf c j).dr a) 0 * elem ((s.laneOf c j).dr b) 0 + elem ((s.laneOf c j).dr a) 1 * elem ((s.laneOf c j).dr b) 1) * 2 ^ 32))) ∧
  -- ALD
  (∀ (c : Fin 16) (x : Beside) (q : Cond) (i : Fin 4) (a : Fin 16) (j : Fin 16) (s : State),
      s.issues c (.slots (.op q (.ald i a)) x.m0 x.m1) = true →
      s.ownLane c j →
      (s.laneOf c j).holds q = true →
      ∃ t, exec (.ald c x q i a) s = .next t ∧
        ((t.clu c).lane (s.physOf c j)).ac i = satTo 80 (((s.laneOf c j).dr a).toInt * 2 ^ 31) ∧
        ((t.clu c).lane (s.physOf c j)).lstat.testBit 0 = ((s.laneOf c j).lstat.testBit 0 || clips 80 (((s.laneOf c j).dr a).toInt * 2 ^ 31))) ∧
  -- AADD
  (∀ (c : Fin 16) (x : Beside) (q : Cond) (i m : Fin 4) (j : Fin 16) (s : State),
      s.issues c (.slots (.op q (.aadd i m)) x.m0 x.m1) = true →
      s.ownLane c j →
      (s.laneOf c j).holds q = true →
      ∃ t, exec (.aadd c x q i m) s = .next t ∧
        ((t.clu c).lane (s.physOf c j)).ac i = satTo 80 ((s.laneOf c j).ac i + (s.laneOf c j).ac m) ∧
        ((t.clu c).lane (s.physOf c j)).lstat.testBit 0 = ((s.laneOf c j).lstat.testBit 0 || clips 80 ((s.laneOf c j).ac i + (s.laneOf c j).ac m))) ∧
  -- ASUB
  (∀ (c : Fin 16) (x : Beside) (q : Cond) (i m : Fin 4) (j : Fin 16) (s : State),
      s.issues c (.slots (.op q (.asub i m)) x.m0 x.m1) = true →
      s.ownLane c j →
      (s.laneOf c j).holds q = true →
      ∃ t, exec (.asub c x q i m) s = .next t ∧
        ((t.clu c).lane (s.physOf c j)).ac i = satTo 80 ((s.laneOf c j).ac i - (s.laneOf c j).ac m) ∧
        ((t.clu c).lane (s.physOf c j)).lstat.testBit 0 = ((s.laneOf c j).lstat.testBit 0 || clips 80 ((s.laneOf c j).ac i - (s.laneOf c j).ac m))) ∧
  -- ACLR
  (∀ (c : Fin 16) (x : Beside) (q : Cond) (i : Fin 4) (j : Fin 16) (s : State),
      s.issues c (.slots (.op q (.aclr i)) x.m0 x.m1) = true →
      s.ownLane c j →
      (s.laneOf c j).holds q = true →
      ∃ t, exec (.aclr c x q i) s = .next t ∧ ((t.clu c).lane (s.physOf c j)).ac i = satTo 80 (0) ∧
        ((t.clu c).lane (s.physOf c j)).lstat.testBit 0 = ((s.laneOf c j).lstat.testBit 0 || clips 80 (0)))

/-- When a cluster issues a word with one of these operations, D_d of every enabled logical lane shows the result of the
table of data-register operations from the next word on, wrapped or saturated as the table says, and a saturating
operation whose exact result lies outside 32 bits sets LSTAT.SAT. Completes MOV, ADD, SUB, ADDS, SUBS, NEG, ABS, MIN,
MAX, AND, OR, XOR. (R74, R75, R126) -/
def Obligations.DataRegisterArithmetic : Prop :=
  -- MOV
  (∀ (c : Fin 16) (x : Beside) (q : Cond) (d a : Fin 16) (j : Fin 16) (s : State),
      s.issues c (.slots (.op q (.alu1 .mov d a)) x.m0 x.m1) = true →
      s.ownLane c j →
      (s.laneOf c j).holds q = true →
      ∃ t, exec (.mov c x q d a) s = .next t ∧ ((t.clu c).lane (s.physOf c j)).dr d = ((s.laneOf c j).dr a)) ∧
  -- ADD
  (∀ (c : Fin 16) (x : Beside) (q : Cond) (d a b : Fin 16) (j : Fin 16) (s : State),
      s.issues c (.slots (.op q (.alu2 .add d a b)) x.m0 x.m1) = true →
      s.ownLane c j →
      (s.laneOf c j).holds q = true →
      ∃ t, exec (.add c x q d a b) s = .next t ∧
        ((t.clu c).lane (s.physOf c j)).dr d = ((s.laneOf c j).dr a + (s.laneOf c j).dr b)) ∧
  -- SUB
  (∀ (c : Fin 16) (x : Beside) (q : Cond) (d a b : Fin 16) (j : Fin 16) (s : State),
      s.issues c (.slots (.op q (.alu2 .sub d a b)) x.m0 x.m1) = true →
      s.ownLane c j →
      (s.laneOf c j).holds q = true →
      ∃ t, exec (.sub c x q d a b) s = .next t ∧
        ((t.clu c).lane (s.physOf c j)).dr d = ((s.laneOf c j).dr a - (s.laneOf c j).dr b)) ∧
  -- ADDS
  (∀ (c : Fin 16) (x : Beside) (q : Cond) (d a b : Fin 16) (j : Fin 16) (s : State),
      s.issues c (.slots (.op q (.alu2 .adds d a b)) x.m0 x.m1) = true →
      s.ownLane c j →
      (s.laneOf c j).holds q = true →
      ∃ t, exec (.adds c x q d a b) s = .next t ∧
        ((t.clu c).lane (s.physOf c j)).dr d = (BitVec.ofInt 32 (satTo 32 (((s.laneOf c j).dr a).toInt + ((s.laneOf c j).dr b).toInt))) ∧ (clips 32 (((s.laneOf c j).dr a).toInt + ((s.laneOf c j).dr b).toInt) = true → ((t.clu c).lane (s.physOf c j)).lstat.testBit 1 = true)) ∧
  -- SUBS
  (∀ (c : Fin 16) (x : Beside) (q : Cond) (d a b : Fin 16) (j : Fin 16) (s : State),
      s.issues c (.slots (.op q (.alu2 .subs d a b)) x.m0 x.m1) = true →
      s.ownLane c j →
      (s.laneOf c j).holds q = true →
      ∃ t, exec (.subs c x q d a b) s = .next t ∧
        ((t.clu c).lane (s.physOf c j)).dr d = (BitVec.ofInt 32 (satTo 32 (((s.laneOf c j).dr a).toInt - ((s.laneOf c j).dr b).toInt))) ∧ (clips 32 (((s.laneOf c j).dr a).toInt - ((s.laneOf c j).dr b).toInt) = true → ((t.clu c).lane (s.physOf c j)).lstat.testBit 1 = true)) ∧
  -- NEG
  (∀ (c : Fin 16) (x : Beside) (q : Cond) (d a : Fin 16) (j : Fin 16) (s : State),
      s.issues c (.slots (.op q (.alu1 .neg d a)) x.m0 x.m1) = true →
      s.ownLane c j →
      (s.laneOf c j).holds q = true →
      ∃ t, exec (.neg c x q d a) s = .next t ∧
        ((t.clu c).lane (s.physOf c j)).dr d = (BitVec.ofInt 32 (satTo 32 (-((s.laneOf c j).dr a).toInt))) ∧
        ((s.laneOf c j).dr a = 0x80000000#32 → ((t.clu c).lane (s.physOf c j)).lstat.testBit 1 = true)) ∧
  -- ABS
  (∀ (c : Fin 16) (x : Beside) (q : Cond) (d a : Fin 16) (j : Fin 16) (s : State),
      s.issues c (.slots (.op q (.alu1 .abs d a)) x.m0 x.m1) = true →
      s.ownLane c j →
      (s.laneOf c j).holds q = true →
      ∃ t, exec (.abs c x q d a) s = .next t ∧
        ((t.clu c).lane (s.physOf c j)).dr d = (if (s.laneOf c j).dr a = 0x80000000#32 then 0x7FFFFFFF#32 else if ((s.laneOf c j).dr a).toInt < 0 then -(s.laneOf c j).dr a else (s.laneOf c j).dr a) ∧ ((s.laneOf c j).dr a = 0x80000000#32 → ((t.clu c).lane (s.physOf c j)).lstat.testBit 1 = true)) ∧
  -- MIN
  (∀ (c : Fin 16) (x : Beside) (q : Cond) (d a b : Fin 16) (j : Fin 16) (s : State),
      s.issues c (.slots (.op q (.alu2 .min d a b)) x.m0 x.m1) = true →
      s.ownLane c j →
      (s.laneOf c j).holds q = true →
      ∃ t, exec (.min c x q d a b) s = .next t ∧
        ((t.clu c).lane (s.physOf c j)).dr d = (if ((s.laneOf c j).dr a).toInt ≤ ((s.laneOf c j).dr b).toInt then (s.laneOf c j).dr a else (s.laneOf c j).dr b)) ∧
  -- MAX
  (∀ (c : Fin 16) (x : Beside) (q : Cond) (d a b : Fin 16) (j : Fin 16) (s : State),
      s.issues c (.slots (.op q (.alu2 .max d a b)) x.m0 x.m1) = true →
      s.ownLane c j →
      (s.laneOf c j).holds q = true →
      ∃ t, exec (.max c x q d a b) s = .next t ∧
        ((t.clu c).lane (s.physOf c j)).dr d = (if ((s.laneOf c j).dr a).toInt ≤ ((s.laneOf c j).dr b).toInt then (s.laneOf c j).dr b else (s.laneOf c j).dr a)) ∧
  -- AND
  (∀ (c : Fin 16) (x : Beside) (q : Cond) (d a b : Fin 16) (j : Fin 16) (s : State),
      s.issues c (.slots (.op q (.alu2 .and d a b)) x.m0 x.m1) = true →
      s.ownLane c j →
      (s.laneOf c j).holds q = true →
      ∃ t, exec (.and c x q d a b) s = .next t ∧
        ((t.clu c).lane (s.physOf c j)).dr d = ((s.laneOf c j).dr a &&& (s.laneOf c j).dr b)) ∧
  -- OR
  (∀ (c : Fin 16) (x : Beside) (q : Cond) (d a b : Fin 16) (j : Fin 16) (s : State),
      s.issues c (.slots (.op q (.alu2 .or d a b)) x.m0 x.m1) = true →
      s.ownLane c j →
      (s.laneOf c j).holds q = true →
      ∃ t, exec (.or c x q d a b) s = .next t ∧
        ((t.clu c).lane (s.physOf c j)).dr d = ((s.laneOf c j).dr a ||| (s.laneOf c j).dr b)) ∧
  -- XOR
  (∀ (c : Fin 16) (x : Beside) (q : Cond) (d a b : Fin 16) (j : Fin 16) (s : State),
      s.issues c (.slots (.op q (.alu2 .xor d a b)) x.m0 x.m1) = true →
      s.ownLane c j →
      (s.laneOf c j).holds q = true →
      ∃ t, exec (.xor c x q d a b) s = .next t ∧
        ((t.clu c).lane (s.physOf c j)).dr d = ((s.laneOf c j).dr a ^^^ (s.laneOf c j).dr b))

/-- When a cluster issues a word with one of these operations, D_d of every enabled logical lane shows the result of the
table of data-register operations from the next word on: a count is bits [4:0] of a register or the immediate; MULR
and MULR_D round half upward; dual operations saturate each 16-bit element. Completes ASR, LSR, LSLS, ASR_I, LSR_I,
LSLS_I, MULR, ADDS_D, SUBS_D, MULR_D, CVT_31, CVT_23, PACK, UNPK_0, UNPK_1. (R69, R74, R75, R126) -/
def Obligations.ShiftsProductsAndFormats : Prop :=
  -- ASR
  (∀ (c : Fin 16) (x : Beside) (q : Cond) (d a b : Fin 16) (j : Fin 16) (s : State),
      s.issues c (.slots (.op q (.alu2 .asr d a b)) x.m0 x.m1) = true →
      s.ownLane c j →
      (s.laneOf c j).holds q = true →
      ∃ t, exec (.asr c x q d a b) s = .next t ∧
        ((t.clu c).lane (s.physOf c j)).dr d = (BitVec.sshiftRight ((s.laneOf c j).dr a) (((s.laneOf c j).dr b).toNat % 32))) ∧
  -- LSR
  (∀ (c : Fin 16) (x : Beside) (q : Cond) (d a b : Fin 16) (j : Fin 16) (s : State),
      s.issues c (.slots (.op q (.alu2 .lsr d a b)) x.m0 x.m1) = true →
      s.ownLane c j →
      (s.laneOf c j).holds q = true →
      ∃ t, exec (.lsr c x q d a b) s = .next t ∧
        ((t.clu c).lane (s.physOf c j)).dr d = ((s.laneOf c j).dr a >>> (((s.laneOf c j).dr b).toNat % 32))) ∧
  -- LSLS
  (∀ (c : Fin 16) (x : Beside) (q : Cond) (d a b : Fin 16) (j : Fin 16) (s : State),
      s.issues c (.slots (.op q (.alu2 .lsls d a b)) x.m0 x.m1) = true →
      s.ownLane c j →
      (s.laneOf c j).holds q = true →
      ∃ t, exec (.lsls c x q d a b) s = .next t ∧
        ((t.clu c).lane (s.physOf c j)).dr d = (BitVec.ofInt 32 (satTo 32 (((s.laneOf c j).dr a).toInt * 2 ^ (((s.laneOf c j).dr b).toNat % 32)))) ∧ (clips 32 (((s.laneOf c j).dr a).toInt * 2 ^ (((s.laneOf c j).dr b).toNat % 32)) = true → ((t.clu c).lane (s.physOf c j)).lstat.testBit 1 = true)) ∧
  -- ASR_I
  (∀ (c : Fin 16) (x : Beside) (q : Cond) (d a : Fin 16) (sh : Fin 32) (j : Fin 16) (s : State),
      s.issues c (.slots (.op q (.alui .asrI d a sh)) x.m0 x.m1) = true →
      s.ownLane c j →
      (s.laneOf c j).holds q = true →
      ∃ t, exec (.asrI c x q d a sh) s = .next t ∧
        ((t.clu c).lane (s.physOf c j)).dr d = (BitVec.sshiftRight ((s.laneOf c j).dr a) sh.val)) ∧
  -- LSR_I
  (∀ (c : Fin 16) (x : Beside) (q : Cond) (d a : Fin 16) (sh : Fin 32) (j : Fin 16) (s : State),
      s.issues c (.slots (.op q (.alui .lsrI d a sh)) x.m0 x.m1) = true →
      s.ownLane c j →
      (s.laneOf c j).holds q = true →
      ∃ t, exec (.lsrI c x q d a sh) s = .next t ∧ ((t.clu c).lane (s.physOf c j)).dr d = ((s.laneOf c j).dr a >>> sh.val)) ∧
  -- LSLS_I
  (∀ (c : Fin 16) (x : Beside) (q : Cond) (d a : Fin 16) (sh : Fin 32) (j : Fin 16) (s : State),
      s.issues c (.slots (.op q (.alui .lslsI d a sh)) x.m0 x.m1) = true →
      s.ownLane c j →
      (s.laneOf c j).holds q = true →
      ∃ t, exec (.lslsI c x q d a sh) s = .next t ∧
        ((t.clu c).lane (s.physOf c j)).dr d = (BitVec.ofInt 32 (satTo 32 (((s.laneOf c j).dr a).toInt * 2 ^ sh.val))) ∧
        (clips 32 (((s.laneOf c j).dr a).toInt * 2 ^ sh.val) = true → ((t.clu c).lane (s.physOf c j)).lstat.testBit 1 = true)) ∧
  -- MULR
  (∀ (c : Fin 16) (x : Beside) (q : Cond) (d a b : Fin 16) (j : Fin 16) (s : State),
      s.issues c (.slots (.op q (.alu2 .mulr d a b)) x.m0 x.m1) = true →
      s.ownLane c j →
      (s.laneOf c j).holds q = true →
      ∃ t, exec (.mulr c x q d a b) s = .next t ∧
        ((t.clu c).lane (s.physOf c j)).dr d = (BitVec.ofInt 32 (satTo 32 ((((s.laneOf c j).dr a).toInt * ((s.laneOf c j).dr b).toInt + 2 ^ 30) / 2 ^ 31))) ∧ ((s.laneOf c j).dr a = 0x80000000#32 ∧ (s.laneOf c j).dr b = 0x80000000#32 → ((t.clu c).lane (s.physOf c j)).lstat.testBit 1 = true)) ∧
  -- ADDS_D
  (∀ (c : Fin 16) (x : Beside) (q : Cond) (d a b : Fin 16) (j : Fin 16) (s : State),
      s.issues c (.slots (.op q (.alu2 .addsD d a b)) x.m0 x.m1) = true →
      s.ownLane c j →
      (s.laneOf c j).holds q = true →
      ∃ t, exec (.addsD c x q d a b) s = .next t ∧
        ((t.clu c).lane (s.physOf c j)).dr d = (BitVec.ofInt 16 (satTo 16 (elem ((s.laneOf c j).dr a) 1 + elem ((s.laneOf c j).dr b) 1)) ++ BitVec.ofInt 16 (satTo 16 (elem ((s.laneOf c j).dr a) 0 + elem ((s.laneOf c j).dr b) 0))) ∧ ((clips 16 (elem ((s.laneOf c j).dr a) 0 + elem ((s.laneOf c j).dr b) 0) || clips 16 (elem ((s.laneOf c j).dr a) 1 + elem ((s.laneOf c j).dr b) 1)) = true → ((t.clu c).lane (s.physOf c j)).lstat.testBit 1 = true)) ∧
  -- SUBS_D
  (∀ (c : Fin 16) (x : Beside) (q : Cond) (d a b : Fin 16) (j : Fin 16) (s : State),
      s.issues c (.slots (.op q (.alu2 .subsD d a b)) x.m0 x.m1) = true →
      s.ownLane c j →
      (s.laneOf c j).holds q = true →
      ∃ t, exec (.subsD c x q d a b) s = .next t ∧
        ((t.clu c).lane (s.physOf c j)).dr d = (BitVec.ofInt 16 (satTo 16 (elem ((s.laneOf c j).dr a) 1 - elem ((s.laneOf c j).dr b) 1)) ++ BitVec.ofInt 16 (satTo 16 (elem ((s.laneOf c j).dr a) 0 - elem ((s.laneOf c j).dr b) 0)))) ∧
  -- MULR_D
  (∀ (c : Fin 16) (x : Beside) (q : Cond) (d a b : Fin 16) (j : Fin 16) (s : State),
      s.issues c (.slots (.op q (.alu2 .mulrD d a b)) x.m0 x.m1) = true →
      s.ownLane c j →
      (s.laneOf c j).holds q = true →
      ∃ t, exec (.mulrD c x q d a b) s = .next t ∧
        ((t.clu c).lane (s.physOf c j)).dr d = (BitVec.ofInt 16 (satTo 16 ((elem ((s.laneOf c j).dr a) 1 * elem ((s.laneOf c j).dr b) 1 + 2 ^ 14) / 2 ^ 15)) ++ BitVec.ofInt 16 (satTo 16 ((elem ((s.laneOf c j).dr a) 0 * elem ((s.laneOf c j).dr b) 0 + 2 ^ 14) / 2 ^ 15)))) ∧
  -- CVT_31
  (∀ (c : Fin 16) (x : Beside) (q : Cond) (d a : Fin 16) (j : Fin 16) (s : State),
      s.issues c (.slots (.op q (.alu1 .cvt31 d a)) x.m0 x.m1) = true →
      s.ownLane c j →
      (s.laneOf c j).holds q = true →
      ∃ t, exec (.cvt31 c x q d a) s = .next t ∧ ((t.clu c).lane (s.physOf c j)).dr d = ((s.laneOf c j).dr a <<< 8)) ∧
  -- CVT_23
  (∀ (c : Fin 16) (x : Beside) (q : Cond) (d a : Fin 16) (j : Fin 16) (s : State),
      s.issues c (.slots (.op q (.alu1 .cvt23 d a)) x.m0 x.m1) = true →
      s.ownLane c j →
      (s.laneOf c j).holds q = true →
      ∃ t, exec (.cvt23 c x q d a) s = .next t ∧
        ((t.clu c).lane (s.physOf c j)).dr d = (BitVec.ofInt 32 (satTo 24 ((((s.laneOf c j).dr a).toInt + 2 ^ 7) / 2 ^ 8)))) ∧
  -- PACK
  (∀ (c : Fin 16) (x : Beside) (q : Cond) (d a b : Fin 16) (j : Fin 16) (s : State),
      s.issues c (.slots (.op q (.alu2 .pack d a b)) x.m0 x.m1) = true →
      s.ownLane c j →
      (s.laneOf c j).holds q = true →
      ∃ t, exec (.pack c x q d a b) s = .next t ∧
        ((t.clu c).lane (s.physOf c j)).dr d = (((s.laneOf c j).dr b).extractLsb' 0 16 ++ ((s.laneOf c j).dr a).extractLsb' 0 16)) ∧
  -- UNPK_0
  (∀ (c : Fin 16) (x : Beside) (q : Cond) (d a : Fin 16) (j : Fin 16) (s : State),
      s.issues c (.slots (.op q (.alu1 .unpk0 d a)) x.m0 x.m1) = true →
      s.ownLane c j →
      (s.laneOf c j).holds q = true →
      ∃ t, exec (.unpk0 c x q d a) s = .next t ∧
        ((t.clu c).lane (s.physOf c j)).dr d = (((s.laneOf c j).dr a).extractLsb' 0 16 ++ 0#16)) ∧
  -- UNPK_1
  (∀ (c : Fin 16) (x : Beside) (q : Cond) (d a : Fin 16) (j : Fin 16) (s : State),
      s.issues c (.slots (.op q (.alu1 .unpk1 d a)) x.m0 x.m1) = true →
      s.ownLane c j →
      (s.laneOf c j).holds q = true →
      ∃ t, exec (.unpk1 c x q d a) s = .next t ∧
        ((t.clu c).lane (s.physOf c j)).dr d = (((s.laneOf c j).dr a).extractLsb' 16 16 ++ 0#16))

/-- EXTA converts an accumulator by shift, rounding mode and width, and its result is on its way for one more word. RSUM
writes the sum of ACC_i over the enabled logical lanes, saturated at each addition of the four stages, to ACC_m of
logical LANE_0; where the two trees disagree it reports it. BCAST copies D_a of logical LANE_0 to D_d of every enabled
lane. LID writes the logical lane number, RDS a sequencer value. OFSW writes bits [23:0] of D_n to OFS_i of the lane.
Completes EXTA, RSUM, BCAST, LID, RDS, OFSW. (R73, R74, R75, R76, R77, R94, R126, R137) -/
def Obligations.ConversionsAndCrossLaneOperations : Prop :=
  -- EXTA rounding half upward to 32 bits
  (∀ (c : Fin 16) (x : Beside) (q : Cond) (d : Fin 16) (i : Fin 4) (sh : Fin 32) (j : Fin 16) (s : State),
      s.issues c (.slots (.op q (.exta d i ⟨.imm sh, .rhu, .w32⟩)) x.m0 x.m1) = true →
      s.ownLane c j →
      (s.laneOf c j).holds q = true →
      1 ≤ sh.val →
      ∃ t, exec (.exta c x q d i ⟨.imm sh, .rhu, .w32⟩) s = .next t ∧ (⟨1, s.physOf c j, d,
        BitVec.ofInt 32 (satTo 32 (((s.laneOf c j).ac i + 2 ^ (sh.val - 1)) / 2 ^ sh.val))⟩ : Pend) ∈ (t.clu c).pend) ∧
  -- EXTA truncating to 16 bits by a register count
  (∀ (c : Fin 16) (x : Beside) (q : Cond) (d n : Fin 16) (i : Fin 4) (j : Fin 16) (s : State),
      s.issues c (.slots (.op q (.exta d i ⟨.reg n, .trn, .w16⟩)) x.m0 x.m1) = true →
      s.ownLane c j →
      (s.laneOf c j).holds q = true →
      ∃ t, exec (.exta c x q d i ⟨.reg n, .trn, .w16⟩) s = .next t ∧ (⟨1, s.physOf c j, d,
        BitVec.ofInt 32 (satTo 16 ((s.laneOf c j).ac i / 2 ^ (((s.laneOf c j).dr n).toNat % 32 + 16)))⟩ : Pend) ∈ (t.clu c).pend) ∧
  -- EXTA with any conversion
  (∀ (c : Fin 16) (x : Beside) (q : Cond) (d : Fin 16) (i : Fin 4) (k : Conv) (j : Fin 16) (s : State),
      s.issues c (.slots (.op q (.exta d i k)) x.m0 x.m1) = true →
      s.ownLane c j →
      (s.laneOf c j).holds q = true →
      ∃ t, exec (.exta c x q d i k) s = .next t ∧ (⟨1, s.physOf c j, d,
        (convert k ((s.laneOf c j).shiftOf k.sh) ((s.laneOf c j).ac i)).1⟩ : Pend) ∈ (t.clu c).pend) ∧
  -- RSUM
  (∀ (c : Fin 16) (x : Beside) (q : Cond) (i m : Fin 4) (differ : Bool) (s : State),
      s.issues c (.slots (.op q (.rsum i m)) x.m0 x.m1) = true →
      s.ownLane c 0 →
      ∃ t, exec (.rsum c x q i m differ) s = .next t ∧
        (((t.clu c).lane (s.physOf c 0)).ac m) = (reduceTree ((List.range 16).map (fun l => if (s.laneOf c l).holds q then (s.laneOf c l).ac i else 0))).1 ∧ ((differ = true → ∃ f ∈ t.ft.blocks, f.kind = Kind.reduceMismatch ∧ f.src / 16 = Src.cluster c 0 / 16))) ∧
  -- BCAST
  (∀ (c : Fin 16) (x : Beside) (q : Cond) (d a : Fin 16) (j : Fin 16) (s : State),
      s.issues c (.slots (.op q (.bcast d a)) x.m0 x.m1) = true →
      s.ownLane c j →
      (s.laneOf c j).holds q = true →
      ∃ t, exec (.bcast c x q d a) s = .next t ∧ ((t.clu c).lane (s.physOf c j)).dr d = (s.laneOf c 0).dr a) ∧
  -- LID
  (∀ (c : Fin 16) (x : Beside) (q : Cond) (d : Fin 16) (j : Fin 16) (s : State),
      s.issues c (.slots (.op q (.lid d)) x.m0 x.m1) = true →
      s.ownLane c j →
      (s.laneOf c j).holds q = true →
      ∃ t, exec (.lid c x q d) s = .next t ∧ ((t.clu c).lane (s.physOf c j)).dr d = BitVec.ofNat 32 j) ∧
  -- RDS of a dispatch value
  (∀ (c : Fin 16) (x : Beside) (q : Cond) (d : Fin 16) (v : Fin 32) (j : Fin 16) (s : State),
      s.issues c (.slots (.op q (.rds d v)) x.m0 x.m1) = true →
      s.ownLane c j →
      (s.laneOf c j).holds q = true →
      v.val ≤ 12 →
      ∃ t, exec (.rds c x q d v) s = .next t ∧ ((t.clu c).lane (s.physOf c j)).dr d = s.rd (R.SEQ_IN c v)) ∧
  -- RDS of a pointer
  (∀ (c : Fin 16) (x : Beside) (q : Cond) (d : Fin 16) (v : Fin 32) (j : Fin 16) (s : State),
      s.issues c (.slots (.op q (.rds d v)) x.m0 x.m1) = true →
      s.ownLane c j →
      (s.laneOf c j).holds q = true →
      16 ≤ v.val ∧ v.val ≤ 23 →
      ∃ t, exec (.rds c x q d v) s = .next t ∧
        ((t.clu c).lane (s.physOf c j)).dr d = ((s.clu c).ptr (v.val - 16)).setWidth 32) ∧
  -- OFSW
  (∀ (c : Fin 16) (x : Beside) (q : Cond) (i : Fin 8) (n : Fin 16) (j : Fin 16) (s : State),
      s.issues c (.slots (.op q (.ofsw i n)) x.m0 x.m1) = true →
      s.ownLane c j →
      (s.laneOf c j).holds q = true →
      ∃ t, exec (.ofsw c x q i n) s = .next t ∧ (t.clu c).ofs (s.physOf c j) i = ((s.laneOf c j).dr n).extractLsb' 0 24)

/-- When a cluster issues a word with a predicate operation, PF_p of every enabled logical lane takes the value the table
of predicate operations gives, signed comparisons of data registers and signs of accumulators among them. Completes
CMP_EQ, CMP_NE, CMP_LT, CMP_LE, CMPA_LT, CMPA_EQ, PSET, PAND, POR, PXOR, PNOT. (R75, R113, R116, R126) -/
def Obligations.PredicateOperations : Prop :=
  -- CMP_EQ
  (∀ (c : Fin 16) (x : Beside) (q : Cond) (p : Fin 4) (a b : Fin 16) (j : Fin 16) (s : State),
      s.issues c (.slots (.op q (.cmp .eq p a b)) x.m0 x.m1) = true →
      s.ownLane c j →
      (s.laneOf c j).holds q = true →
      ∃ t, exec (.cmpEq c x q p a b) s = .next t ∧
        ((t.clu c).lane (s.physOf c j)).flag p = decide ((s.laneOf c j).dr a = (s.laneOf c j).dr b)) ∧
  -- CMP_NE
  (∀ (c : Fin 16) (x : Beside) (q : Cond) (p : Fin 4) (a b : Fin 16) (j : Fin 16) (s : State),
      s.issues c (.slots (.op q (.cmp .ne p a b)) x.m0 x.m1) = true →
      s.ownLane c j →
      (s.laneOf c j).holds q = true →
      ∃ t, exec (.cmpNe c x q p a b) s = .next t ∧
        ((t.clu c).lane (s.physOf c j)).flag p = decide ((s.laneOf c j).dr a ≠ (s.laneOf c j).dr b)) ∧
  -- CMP_LT
  (∀ (c : Fin 16) (x : Beside) (q : Cond) (p : Fin 4) (a b : Fin 16) (j : Fin 16) (s : State),
      s.issues c (.slots (.op q (.cmp .lt p a b)) x.m0 x.m1) = true →
      s.ownLane c j →
      (s.laneOf c j).holds q = true →
      ∃ t, exec (.cmpLt c x q p a b) s = .next t ∧
        ((t.clu c).lane (s.physOf c j)).flag p = decide (((s.laneOf c j).dr a).toInt < ((s.laneOf c j).dr b).toInt)) ∧
  -- CMP_LE
  (∀ (c : Fin 16) (x : Beside) (q : Cond) (p : Fin 4) (a b : Fin 16) (j : Fin 16) (s : State),
      s.issues c (.slots (.op q (.cmp .le p a b)) x.m0 x.m1) = true →
      s.ownLane c j →
      (s.laneOf c j).holds q = true →
      ∃ t, exec (.cmpLe c x q p a b) s = .next t ∧
        ((t.clu c).lane (s.physOf c j)).flag p = decide (((s.laneOf c j).dr a).toInt ≤ ((s.laneOf c j).dr b).toInt)) ∧
  -- CMPA_LT
  (∀ (c : Fin 16) (x : Beside) (q : Cond) (p i : Fin 4) (j : Fin 16) (s : State),
      s.issues c (.slots (.op q (.cmpaLt p i)) x.m0 x.m1) = true →
      s.ownLane c j →
      (s.laneOf c j).holds q = true →
      ∃ t, exec (.cmpaLt c x q p i) s = .next t ∧ ((t.clu c).lane (s.physOf c j)).flag p = decide ((s.laneOf c j).ac i < 0)) ∧
  -- CMPA_EQ
  (∀ (c : Fin 16) (x : Beside) (q : Cond) (p i : Fin 4) (j : Fin 16) (s : State),
      s.issues c (.slots (.op q (.cmpaEq p i)) x.m0 x.m1) = true →
      s.ownLane c j →
      (s.laneOf c j).holds q = true →
      ∃ t, exec (.cmpaEq c x q p i) s = .next t ∧ ((t.clu c).lane (s.physOf c j)).flag p = decide ((s.laneOf c j).ac i = 0)) ∧
  -- PSET
  (∀ (c : Fin 16) (x : Beside) (q : Cond) (p : Fin 4) (v : Bool) (j : Fin 16) (s : State),
      s.issues c (.slots (.op q (.pset p v)) x.m0 x.m1) = true →
      s.ownLane c j →
      (s.laneOf c j).holds q = true →
      ∃ t, exec (.pset c x q p v) s = .next t ∧ ((t.clu c).lane (s.physOf c j)).flag p = v) ∧
  -- PAND
  (∀ (c : Fin 16) (x : Beside) (q : Cond) (p k r : Fin 4) (j : Fin 16) (s : State),
      s.issues c (.slots (.op q (.plog .and p k r)) x.m0 x.m1) = true →
      s.ownLane c j →
      (s.laneOf c j).holds q = true →
      ∃ t, exec (.pand c x q p k r) s = .next t ∧
        ((t.clu c).lane (s.physOf c j)).flag p = ((s.laneOf c j).flag k && (s.laneOf c j).flag r)) ∧
  -- POR
  (∀ (c : Fin 16) (x : Beside) (q : Cond) (p k r : Fin 4) (j : Fin 16) (s : State),
      s.issues c (.slots (.op q (.plog .or p k r)) x.m0 x.m1) = true →
      s.ownLane c j →
      (s.laneOf c j).holds q = true →
      ∃ t, exec (.por c x q p k r) s = .next t ∧
        ((t.clu c).lane (s.physOf c j)).flag p = ((s.laneOf c j).flag k || (s.laneOf c j).flag r)) ∧
  -- PXOR
  (∀ (c : Fin 16) (x : Beside) (q : Cond) (p k r : Fin 4) (j : Fin 16) (s : State),
      s.issues c (.slots (.op q (.plog .xor p k r)) x.m0 x.m1) = true →
      s.ownLane c j →
      (s.laneOf c j).holds q = true →
      ∃ t, exec (.pxor c x q p k r) s = .next t ∧
        ((t.clu c).lane (s.physOf c j)).flag p = ((s.laneOf c j).flag k != (s.laneOf c j).flag r)) ∧
  -- PNOT
  (∀ (c : Fin 16) (x : Beside) (q : Cond) (p k : Fin 4) (j : Fin 16) (s : State),
      s.issues c (.slots (.op q (.pnot p k)) x.m0 x.m1) = true →
      s.ownLane c j →
      (s.laneOf c j).holds q = true →
      ∃ t, exec (.pnot c x q p k) s = .next t ∧ ((t.clu c).lane (s.physOf c j)).flag p = !(s.laneOf c j).flag k)

/-- Whenever a cluster issues a word with a load and no other operation but one before it in slot M0, each enabled logical
lane has the word at its lane address on its way to D_n for one more word (LD), or the cubic interpolation of its four
taps for three more words (LDI); a lane address where no memory stands reads as zero and is a decode error, and so
reads an uncorrectable word. A store writes D_n (ST) or the converted accumulator (STA) to the lane address of each
enabled lane, of lanes with one address the highest-numbered one last, changes no byte outside these words, and is
discarded with a decode error where no memory stands. A post-modifying operation moves its pointer, after the one in
slot M0. The sequencer moves on, and the accumulators, predicate flags, offset entries and other clusters stay.
Completes LD, LDI, ST, STA. (R87, R88, R92, R96, R97, R102, R103, R73, R118, R119, R126) -/
def Obligations.LaneLoadsAndStores : Prop :=
  -- LD in slot M0
  (∀ (c : Fin 16) (x : WordEnv) (q : Cond) (i : Fin 8) (pm : Bool) (n j : Fin 16) (s : State),
      s.issues c (.slots .nop (.ld q i pm n) .nop) = true →
      s.ownLane c j →
      (s.laneOf c j).holds q = true →
      ∃ t, exec (.ld c x .m0 q i pm n) s = .next t ∧ (⟨1, s.physOf c j, n, s.laneData c j i 0 0⟩ : Pend) ∈ (t.clu c).pend ∧
        (t.clu c).ptr i = (s.clu c).stepPtr i pm ((s.clu c).ptr i) ∧ (laneByte c (s.laneWordAt c j i 0 0) = none →
        t.g F.MTX_STAT_DECODE = 1) ∧ sameMem s t ∧ memWordFrame s t c) ∧
  -- LD in slot M1
  (∀ (c : Fin 16) (x : WordEnv) (m0 : M0Slot) (q : Cond) (i : Fin 8) (pm : Bool) (n j : Fin 16) (s : State),
      s.issues c (.slots .nop m0 (.ld q i pm n)) = true →
      s.ownLane c j →
      (s.laneOf c j).holds q = true →
      ∃ t, exec (.ld c x (.m1 m0) q i pm n) s = .next t ∧ (⟨1, s.physOf c j, n,
        s.laneData c j i 0 0⟩ : Pend) ∈ (t.clu c).pend ∧
        (t.clu c).ptr i = (s.clu c).stepPtr i pm ((s.clu c).stepPtr i (slotMoves m0 i) ((s.clu c).ptr i)) ∧
        (laneByte c (s.laneWordAt c j i 0 0) = none → t.g F.MTX_STAT_DECODE = 1) ∧ sameMem s t ∧ memWordFrame s t c) ∧
  -- LDI in slot M0
  (∀ (c : Fin 16) (x : WordEnv) (w : LWidth) (q : Cond) (i : Fin 8) (pm : Bool) (n j : Fin 16) (s : State),
      s.issues c (.slots .nop (.ldi w q i pm n) .nop) = true →
      s.ownLane c j →
      (s.laneOf c j).holds q = true →
      ∃ t, exec (.ldi c x .m0 w q i pm n) s = .next t ∧ (⟨3, s.physOf c j, n,
        (interpolate w (ofsFrac ((s.clu c).ofs (s.physOf c j) i)) (s.laneData c j i (-1) 2) (s.laneData c j i 0 2) (s.laneData c j i 1 2) (s.laneData c j i 2 2)).1⟩ : Pend) ∈ (t.clu c).pend ∧ (t.clu c).ptr i = (s.clu c).stepPtr i pm ((s.clu c).ptr i) ∧ sameMem s t ∧ memWordFrame s t c) ∧
  -- LDI in slot M1
  (∀ (c : Fin 16) (x : WordEnv) (m0 : M0Slot) (w : LWidth) (q : Cond) (i : Fin 8) (pm : Bool) (n j : Fin 16) (s : State),
      s.issues c (.slots .nop m0 (.ldi w q i pm n)) = true →
      s.ownLane c j →
      (s.laneOf c j).holds q = true →
      ∃ t, exec (.ldi c x (.m1 m0) w q i pm n) s = .next t ∧ (⟨3, s.physOf c j, n,
        (interpolate w (ofsFrac ((s.clu c).ofs (s.physOf c j) i)) (s.laneData c j i (-1) 2) (s.laneData c j i 0 2) (s.laneData c j i 1 2) (s.laneData c j i 2 2)).1⟩ : Pend) ∈ (t.clu c).pend ∧ (t.clu c).ptr i = (s.clu c).stepPtr i pm ((s.clu c).stepPtr i (slotMoves m0 i) ((s.clu c).ptr i)) ∧ sameMem s t ∧ memWordFrame s t c) ∧
  -- ST
  (∀ (c : Fin 16) (x : WordEnv) (m0 : M0Slot) (q : Cond) (i : Fin 8) (pm : Bool) (n j : Fin 16) (s : State),
      s.issues c (.slots .nop m0 (.st q i pm n)) = true →
      s.ownLane c j →
      (s.laneOf c j).holds q = true →
      ∃ t, exec (.st c x m0 q i pm n) s = .next t ∧ storedBy s t c q i j ((s.laneOf c j).dr n) ∧ onlyLaneWords s t c q i ∧
        (t.clu c).ptr i = (s.clu c).stepPtr i pm ((s.clu c).stepPtr i (slotMoves m0 i) ((s.clu c).ptr i)) ∧
        memWordFrame s t c) ∧
  -- STA
  (∀ (c : Fin 16) (x : WordEnv) (m0 : M0Slot) (q : Cond) (i : Fin 8) (pm : Bool) (acc : Fin 4) (k : Conv) (j : Fin 16) (s : State),
      s.issues c (.slots .nop m0 (.sta q i pm acc k)) = true →
      s.ownLane c j →
      (s.laneOf c j).holds q = true →
      ∃ t, exec (.sta c x m0 q i pm acc k) s = .next t ∧
        storedBy s t c q i j ((convert k ((s.laneOf c j).shiftOf k.sh) ((s.laneOf c j).ac acc)).1) ∧ onlyLaneWords s t c q i ∧
        (t.clu c).ptr i = (s.clu c).stepPtr i pm ((s.clu c).stepPtr i (slotMoves m0 i) ((s.clu c).ptr i)) ∧ memWordFrame s t c)

/-- A word of empty slots, a branch that is not taken, and SETI move the sequencer to the next word, through the loop ends
at the present one; a taken branch moves it to TARGET. LOOP with a count opens a level with its count, start and end;
with count 0 it goes on past the end; against R106 it is an illegal instruction. SETA writes addressing registers, a
pointer bound to a written base taking the base. SETI writes the immediate to D_n of every enabled lane. HALT starts
the drain of the task. An undefined encoding is recorded with its reason and index and starts the drain. Completes
NOP, BR, LOOP, SETA, SETI, HALT, UNDEFINED_ENCODING. (R91, R105, R106, R107, R108, R109, R121, R123, R124, R131, R132,
R138) -/
def Obligations.ControlWordsOfTheSequencer : Prop :=
  -- NOP
  (∀ (c : Fin 16) (x : WordEnv) (s : State),
      s.issues c (.slots .nop .nop .nop) = true →
      ∃ t, exec (.nop c x) s = .next t ∧ (t.clu c).pc = ((s.clu c).advance (s.clu c).pc).pc ∧
        (t.clu c).depth = ((s.clu c).advance (s.clu c).pc).depth ∧ ((s.clu c).pend = [] → (t.clu c).lanes = (s.clu c).lanes) ∧
        sameMem s t) ∧
  -- BR taken
  (∀ (c : Fin 16) (bc : BrCond) (target : Fin 8192) (s : State),
      s.issues c (.br bc target) = true →
      s.branchHolds c (s.clu c) bc = true →
      ∃ t, exec (.br c bc target) s = .next t ∧ (t.clu c).pc = target ∧ (t.clu c).cyc = (s.clu c).cyc + 3 ∧ sameMem s t) ∧
  -- BR not taken
  (∀ (c : Fin 16) (bc : BrCond) (target : Fin 8192) (s : State),
      s.issues c (.br bc target) = true →
      s.branchHolds c (s.clu c) bc = false →
      ∃ t, exec (.br c bc target) s = .next t ∧ (t.clu c).pc = ((s.clu c).advance (s.clu c).pc).pc ∧
        (t.clu c).depth = ((s.clu c).advance (s.clu c).pc).depth ∧ (t.clu c).cyc = (s.clu c).cyc + 1) ∧
  -- BR on ANY of a predicate
  (∀ (c : Fin 16) (p : Fin 4) (target : Fin 8192) (j : Fin 16) (s : State),
      s.issues c (.br (.any p) target) = true →
      (s.laneOf c j).flag p = true →
      ∃ t, exec (.br c (.any p) target) s = .next t ∧ (t.clu c).pc = target) ∧
  -- LOOP
  (∀ (c : Fin 16) (n : Fin 65536) (a b : Fin 8192) (s : State),
      s.issues c (.loop (.imm n) a b) = true →
      0 < n.val →
      (s.clu c).loopAllowed (s.clu c).pc a b = true →
      ∃ t, exec (.loop c (.imm n) a b) s = .next t ∧ (t.clu c).depth = (s.clu c).depth + 1 ∧
        (t.clu c).count (s.clu c).depth = n ∧ (t.clu c).start (s.clu c).depth = a ∧ (t.clu c).stop (s.clu c).depth = b ∧
        (t.clu c).pc = (s.clu c).pc + 1) ∧
  -- LOOP with count 0
  (∀ (c : Fin 16) (a b : Fin 8192) (s : State),
      s.issues c (.loop (.imm 0) a b) = true →
      (s.clu c).loopAllowed (s.clu c).pc a b = true →
      ∃ t, exec (.loop c (.imm 0) a b) s = .next t ∧ (t.clu c).pc = ((s.clu c).advance b).pc ∧
        (t.clu c).depth = ((s.clu c).advance b).depth ∧ ((s.clu c).depth = 0 → (t.clu c).pc = b.val + 1)) ∧
  -- LOOP against R106
  (∀ (c : Fin 16) (n : LoopCount) (a b : Fin 8192) (s : State),
      s.issues c (.loop n a b) = true →
      (s.clu c).depth = 4 ∨ a.val ≤ (s.clu c).pc ∨ b.val < a.val →
      ∃ t, exec (.loop c n a b) s = .next t ∧ t.g (F.CL_STAT_ILL c) = 1 ∧ t.g (F.CL_ILL_REASON c) = 1 ∧
        t.g (F.CL_STAT_STATE c) = 5 ∧ sameMem s t) ∧
  -- SETA of a modifier
  (∀ (c : Fin 16) (i : Fin 8) (v : Fin 1048576) (s : State),
      s.issues c (.seta (some ⟨.m, i, .imm v⟩) none) = true →
      ∃ t, exec (.seta c (some ⟨.m, i, .imm v⟩) none) s = .next t ∧ (t.clu c).mod i = BitVec.ofNat 16 v ∧
        (t.clu c).pc = ((s.clu c).advance (s.clu c).pc).pc ∧ (t.clu c).depth = ((s.clu c).advance (s.clu c).pc).depth) ∧
  -- SETA of a linear pointer
  (∀ (c : Fin 16) (i : Fin 8) (v : Fin 1048576) (s : State),
      s.issues c (.seta none (some ⟨.p, i, .imm v⟩)) = true →
      ((s.clu c).length ((s.clu c).bind i)).toNat = 0 →
      ∃ t, exec (.seta c none (some ⟨.p, i, .imm v⟩)) s = .next t ∧ (t.clu c).ptr i = BitVec.ofNat 20 v) ∧
  -- SETA of a pointer outside its circular buffer
  (∀ (c : Fin 16) (i : Fin 8) (v : Fin 1048576) (s : State),
      s.issues c (.seta (some ⟨.p, i, .imm v⟩) none) = true →
      0 < ((s.clu c).length ((s.clu c).bind i)).toNat →
      v.val < ((s.clu c).base ((s.clu c).bind i)).toNat ∨ ((s.clu c).base ((s.clu c).bind i)).toNat + ((s.clu c).length ((s.clu c).bind i)).toNat ≤ v.val →
      (s.clu c).bind i < 8 →
      ∃ t, exec (.seta c (some ⟨.p, i, .imm v⟩) none) s = .next t ∧ (t.clu c).ptr i = (s.clu c).base ((s.clu c).bind i) ∧
        (t.g (F.ADDR_STAT_CIRC_RESET c)).testBit ((s.clu c).bind i) = true) ∧
  -- SETA of a base
  (∀ (c : Fin 16) (i n : Fin 8) (v : Fin 1048576) (s : State),
      s.issues c (.seta (some ⟨.b, i, .imm v⟩) none) = true →
      (s.clu c).bind n = i →
      ∃ t, exec (.seta c (some ⟨.b, i, .imm v⟩) none) s = .next t ∧ (t.clu c).base i = BitVec.ofNat 20 v ∧
        (t.clu c).ptr n = BitVec.ofNat 20 v) ∧
  -- SETA of a length from a register
  (∀ (c : Fin 16) (i : Fin 8) (r : Fin 16) (s : State),
      s.issues c (.seta (some ⟨.len, i, .reg r⟩) none) = true →
      ∃ t, exec (.seta c (some ⟨.len, i, .reg r⟩) none) s = .next t ∧ (t.clu c).length i = ((s.laneOf c 0).dr r).setWidth 20) ∧
  -- SETI
  (∀ (c : Fin 16) (n : Fin 16) (q : Cond) (v : Word) (j : Fin 16) (s : State),
      s.issues c (.seti n q v) = true →
      s.ownLane c j →
      (s.laneOf c j).holds q = true →
      ∃ t, exec (.seti c n q v) s = .next t ∧ ((t.clu c).lane (s.physOf c j)).dr n = v ∧
        (t.clu c).pc = ((s.clu c).advance (s.clu c).pc).pc ∧ (t.clu c).depth = ((s.clu c).advance (s.clu c).pc).depth) ∧
  -- HALT
  (∀ (c : Fin 16) (s : State),
      s.issues c (.halt) = true →
      ∃ t, exec (.halt c) s = .next t ∧ t.g (F.CL_STAT_STATE c) = 5 ∧ (t.clu c).depth = 0 ∧ (t.clu c).pend = [] ∧
        (t.clu c).lanes = (s.clu c).lanes ∧ sameMem s t) ∧
  -- UNDEFINED_ENCODING
  (∀ (c : Fin 16) (s : State),
      s.issuing c = true →
      (s.fetch c).2.1 = none →
      decodeWord (s.fetch c).2.2 = none →
      ∃ t, exec (.undefinedEncoding c) s = .next t ∧ t.g (F.CL_STAT_ILL c) = 1 ∧ t.g (F.CL_ILL_REASON c) = 0 ∧
        t.g (F.CL_ILL_TASK c) = s.g (F.CL_TASK_TASK c) ∧ t.g (F.CL_ILL_INDEX c) = (s.clu c).pc ∧ t.g (F.CL_STAT_STATE c) = 5 ∧
        (t.clu c).lanes = (s.clu c).lanes ∧ (t.clu c).p = (s.clu c).p ∧ sameMem s t)

/-- When cluster c issues any compute operation beside empty memory slots, no byte of memory, no other cluster and no
pointer, modifier, base or length changes; with no result on its way, a logical lane that the condition disables keeps
every one of its registers (the destination of RSUM, ACC_m of logical LANE_0, apart), and an enabled lane keeps every
data register, accumulator, predicate flag and offset entry but the one the operation writes. The task field, the
counts of time and the queue stay. Covers every operation of the compute slot. (R68, R75, R112, R114) -/
def Obligations.ComputeWordsLeaveTheRestAlone : Prop :=
  -- frame
  (∀ (i : Instr) (c : Fin 16) (x : Beside) (q : Cond) (o : COp) (s : State),
      computeOf i = some (c, x, q, o) →
      s.issues c (.slots (.op q o) .nop .nop) = true →
      x.m0 = .nop ∧ x.m1 = .nop →
      ∃ t, exec i s = .next t ∧ sameMem s t ∧ onlyCluster s t c ∧ (t.clu c).p = (s.clu c).p ∧ (t.clu c).m = (s.clu c).m ∧
        (t.clu c).b = (s.clu c).b ∧ (t.clu c).len = (s.clu c).len ∧ (t.clu c).bnd = (s.clu c).bnd ∧ t.tm = s.tm ∧
        t.pending = s.pending ∧ t.g (F.CL_TASK_TASK c) = s.g (F.CL_TASK_TASK c) ∧ ((s.clu c).pend = [] → ∀ j : Fin 16,
        s.ownLane c j → ((s.laneOf c j).holds q = false → ¬ COp.reduces o = true →
        (t.clu c).lane (s.physOf c j) = s.laneOf c j) ∧ COp.laneFrame o (s.laneOf c j) ((t.clu c).lane (s.physOf c j))))

/-- TASK_DISPATCH of a task that R148 allows enters it on each cluster of its set: the state is ENTRY, the sequencer
stands at the entry point, data registers, accumulators and predicates of every lane are zero while LSTAT stays, and
the task number and tick number stand in the sequencer values. TASK_COMPLETE ends the drain and records the cycles;
CLUSTER_WAKE_DONE makes a waking cluster IDLE; LANE_BIST counts the self-test of a retired lane, at most one in 1,024
ticks (log entry 18); SHADOW_INJ, ILL_INJ and CYC_MAX_CLR set, arm and clear what they name. PROG_MEM_WRITE of whole
words stores them in a cluster that runs no task; a low half is staged and the high half after it stores the word;
while a task runs it is refused, and so is one past the last word (the model's choice, log entry 14). Completes
TASK_DISPATCH, CLUSTER_WAKE_DONE, TASK_COMPLETE, LANE_BIST, SHADOW_INJ, ILL_INJ, CYC_MAX_CLR, PROG_MEM_WRITE. (R134,
R135, R136, R137, R138, R148, R150, R66, R83, R85) -/
def Obligations.TasksRunOnTheirClusters : Prop :=
  -- TASK_DISPATCH
  (∀ (k : Fin 128) (c : Fin 16) (s : State),
      s.tm.phase = .window →
      s.tm.gathered = true →
      s.dispatchable k = true →
      s.directed k = none →
      s.selects = true →
      c.val ∈ s.ttClusters s.ttSel k →
      ∃ t, exec (.taskDispatch k) s = .next t ∧ t.g (F.CL_STAT_STATE c) = 3 ∧ t.g (F.CL_TASK_TASK c) = k ∧
        t.g (F.CL_TASK_ACTIVE c) = 1 ∧ (t.clu c).pc = s.ttEntry s.ttSel k ∧ t.runOf k = .running ∧
        t.rd (R.SEQ_IN c 0) = BitVec.ofNat 32 k ∧ t.rd (R.SEQ_IN c 8) = s.tm.tick.setWidth 32 ∧ (∀ n : Fin 17,
        ((t.clu c).lane n).d = [] ∧ ((t.clu c).lane n).acc = [] ∧ ((t.clu c).lane n).pf = 0 ∧
        ((t.clu c).lane n).lstat = ((s.clu c).lane n).lstat)) ∧
  -- TASK_COMPLETE
  (∀ (c : Fin 16) (late : Nat) (s : State),
      s.g (F.CL_STAT_STATE c) = 5 →
      s.pr.take = none →
      ∃ t, exec (.taskComplete c late) s = .next t ∧ t.g (F.CL_STAT_STATE c) = 2 ∧ t.g (F.CL_TASK_ACTIVE c) = 0 ∧
        t.g (F.CL_CYC_LAST_TASK c) = s.g (F.CL_TASK_TASK c) ∧
        t.g (F.CL_CYC_LAST_CYCLES c) = min ((s.clu c).cyc + late) (2 ^ 25 - 1) ∧ sameMem s t) ∧
  -- CLUSTER_WAKE_DONE
  (∀ (c : Fin 16) (s : State),
      s.g (F.CL_STAT_STATE c) = 1 →
      s.pr.take = none →
      ∃ t, exec (.clusterWakeDone c) s = .next t ∧ t.g (F.CL_STAT_STATE c) = 2 ∧ confined s t [R.CL_STAT c]) ∧
  -- LANE_BIST passed
  (∀ (c : Fin 16) (s : State),
      s.g (F.LANE_MAP_RETIRED c) = 1 →
      s.tm.phase = .consign →
      (s.clu c).bistDue ≤ s.tick →
      ∃ t, exec (.laneBist c true) s = .next t ∧
        t.g (F.LANE_MAP_BIST_PASSES c) = min (s.g (F.LANE_MAP_BIST_PASSES c) + 1) (2 ^ ((F.LANE_MAP_BIST_PASSES c).hi + 1 - (F.LANE_MAP_BIST_PASSES c).lo) - 1) ∧ t.g (F.LANE_MAP_BIST_FAIL c) = s.g (F.LANE_MAP_BIST_FAIL c) ∧ (t.clu c).bistDue = s.tick + 1024 ∧ onlyRegs s t [R.LANE_MAP c]) ∧
  -- LANE_BIST failed
  (∀ (c : Fin 16) (s : State),
      s.g (F.LANE_MAP_RETIRED c) = 1 →
      s.tm.phase = .consign →
      (s.clu c).bistDue ≤ s.tick →
      ∃ t, exec (.laneBist c false) s = .next t ∧ t.g (F.LANE_MAP_BIST_FAIL c) = 1 ∧ (t.clu c).bistDue = s.tick + 1024 ∧
        onlyRegs s t [R.LANE_MAP c]) ∧
  -- LANE_BIST within 1,024 ticks of the last one
  (∀ (c : Fin 16) (pass : Bool) (s : State),
      s.tick < (s.clu c).bistDue →
      ∃ t, exec (.laneBist c pass) s = .next t ∧ t = s) ∧
  -- SHADOW_INJ
  (∀ (c : Fin 16) (s : State),
      s.g (F.SHADOW_STAT_STATE c) < 3 →
      ∃ t, exec (.shadowInj c) s = .next t ∧ t.g (F.SHADOW_CTL_INJ c) = 1 ∧ confined s t [R.SHADOW_CTL c]) ∧
  -- SHADOW_INJ while LANE_S does not shadow
  (∀ (c : Fin 16) (s : State),
      3 ≤ s.g (F.SHADOW_STAT_STATE c) →
      ∃ t, exec (.shadowInj c) s = .next t ∧ t.out = s.ok.out ∧ confined s t []) ∧
  -- ILL_INJ
  (∀ (c : Fin 16) (s : State),
      ∃ t, exec (.illInj c) s = .next t ∧ t.g (F.CL_CTL_ILL_INJ c) = 1 ∧ confined s t [R.CL_CTL c]) ∧
  -- CYC_MAX_CLR
  (∀ (c : Fin 16) (s : State),
      ∃ t, exec (.cycMaxClr c) s = .next t ∧ t.g (F.CL_CYC_MAX_CYCLES c) = 0 ∧ t.g (F.CL_CYC_MAX_TASK c) = 0 ∧
        confined s t [R.CL_CYC_MAX c]) ∧
  -- PROG_MEM_WRITE of whole words
  (∀ (c : Fin 16) (o : Fin 65536) (vs : List Word) (s : State),
      s.g (F.CL_STAT_STATE c) < 3 →
      o.val % 8 = 0 →
      vs.length % 2 = 0 →
      o.val + 4 * vs.length ≤ 65536 →
      ∃ t, exec (.progMemWrite c o (.words vs)) s = .next t ∧ (∀ i : Fin vs.length,
        t.word (progByte c (o.val / 8) + 4 * i.val) = vs.get i) ∧ onlyBytes s t [R.MEM_WAKE_CNT,
        R.MEM_INJ_CTL] (progByte c (o.val / 8)) (4 * vs.length) ∧ t.out = s.ok.out) ∧
  -- PROG_MEM_WRITE of a burst past the last word
  (∀ (c : Fin 16) (o : Fin 65536) (vs : List Word) (s : State),
      s.g (F.CL_STAT_STATE c) < 3 →
      o.val % 8 = 0 →
      65536 < o.val + 4 * vs.length →
      ∃ t, exec (.progMemWrite c o (.words vs)) s = .next t ∧ t.g (F.CL_STAT_PM_WR_ERR c) = 1 ∧ t.out = s.err.out ∧
        onlyRegs s t [R.CL_STAT c]) ∧
  -- PROG_MEM_WRITE of a low half
  (∀ (c : Fin 16) (o : Fin 65536) (v : Word) (s : State),
      s.g (F.CL_STAT_STATE c) < 3 →
      o.val % 8 = 0 →
      ∃ t, exec (.progMemWrite c o (.half v)) s = .next t ∧ (t.clu c).stage = some (o.val / 8, v) ∧ t.out = s.ok.out ∧
        onlyRegs s t []) ∧
  -- PROG_MEM_WRITE of the high half
  (∀ (c : Fin 16) (o : Fin 65536) (lo v : Word) (s : State),
      s.g (F.CL_STAT_STATE c) < 3 →
      o.val % 8 = 4 →
      (s.clu c).stage = some (o.val / 8, lo) →
      ∃ t, exec (.progMemWrite c o (.half v)) s = .next t ∧ t.word (progByte c (o.val / 8)) = lo ∧
        t.word (progByte c (o.val / 8) + 4) = v ∧ (t.clu c).stage = none ∧ onlyBytes s t [R.MEM_WAKE_CNT,
        R.MEM_INJ_CTL] (progByte c (o.val / 8)) 8 ∧ t.out = s.ok.out) ∧
  -- PROG_MEM_WRITE while a task runs
  (∀ (c : Fin 16) (o : Fin 65536) (vs : List Word) (s : State),
      3 ≤ s.g (F.CL_STAT_STATE c) →
      o.val % 8 = 0 →
      ∃ t, exec (.progMemWrite c o (.words vs)) s = .next t ∧ t.g (F.CL_STAT_PM_WR_ERR c) = 1 ∧ (t.clu c).stage = none ∧
        t.out = s.err.out ∧ onlyRegs s t [R.CL_STAT c])

/-- TT_ENTRY_WRITE stores a word of the copy that is neither in force nor armed, only the bits that exist, the reserved
class leaving the class as it was, and nothing else of the tables; a write to the copy in force or while a switch is
armed is refused. TT_ARM arms a copy without a failing entry for a target at least two ticks ahead, and otherwise
shows the reason and the entry, or reason 4 for the target; an armed switch keeps, with CFG_REFUSED. TT_DISARM returns
an armed switch to IDLE and else changes nothing. TT_SEL_WRITE of the other copy brings it into force while no tick
runs: a task that does not continue loses its tier and coefficient state, every calibrated estimate is cleared and the
count of ticks restarts; it is refused while ticks run, and the copy in force changes nothing. THERMAL_UPDATE moves
T_rise by the step of R158 for the power measured, or for the mean of the committed estimates where no measurement is
valid, and takes the highest valid reading as T_S; without a valid reading it forces GALE with no thermal term and
keeps T_S, T_ref and P_th. FORCE_CAP_RISE raises the cap shown by one where the release is due, and else changes
nothing. Completes TT_ENTRY_WRITE, TT_ARM, TT_DISARM, TT_SEL_WRITE, THERMAL_UPDATE, FORCE_CAP_RISE. (R142, R144, R145,
R146, R147, R157, R158, R161, R171, R172) -/
def Obligations.TaskTablesAndHeat : Prop :=
  -- TT_ENTRY_WRITE
  (∀ (x : Fin 2) (k : Fin 128) (w : Fin 16) (v : Word) (s : State),
      x.val ≠ s.g F.FCST_TT_CTL_SEL →
      s.g F.FCST_TT_CTL_STATE ≠ 1 →
      ∃ t, exec (.ttEntryWrite x k w v) s = .next t ∧ t.ttw x k w = (if w.val = 0 ∧
        bitsOf v 30 29 = 3 then putBits v 30 29 (bitsOf (s.ttw x k 0) 30 29) else v) &&& ttMask w ∧
        sameButKey zeroW s.fc.tt t.fc.tt (2048 * x.val + 16 * k.val + w.val) ∧ t.out = s.ok.out ∧ onlyRegs s t []) ∧
  -- TT_ENTRY_WRITE refused
  (∀ (x : Fin 2) (k : Fin 128) (w : Fin 16) (v : Word) (s : State),
      x.val = s.g F.FCST_TT_CTL_SEL ∨ s.g F.FCST_TT_CTL_STATE = 1 →
      ∃ t, exec (.ttEntryWrite x k w v) s = .next t ∧ t.g F.FCST_STAT_TT_WR_ERR = 1 ∧ t.out = s.err.out ∧
        confined s t [R.FCST_STAT]) ∧
  -- TT_ARM
  (∀ (s : State),
      s.g F.FCST_TT_CTL_STATE ≠ 1 →
      (∀ k : Fin 128, s.ttValid (1 - s.ttSel) k = true → s.ttFails (1 - s.ttSel) k = none) →
      s.tm.tick.toNat + 2 ≤ s.rd64 R.FCST_TT_TGT_LO R.FCST_TT_TGT_HI →
      ∃ t, exec .ttArm s = .next t ∧ t.g F.FCST_TT_CTL_STATE = 1 ∧ t.fc.ttTgt = s.rd64 R.FCST_TT_TGT_LO R.FCST_TT_TGT_HI ∧
        onlyRegs s t [R.FCST_TT_CTL]) ∧
  -- TT_ARM of a table with a failing entry
  (∀ (k : Fin 128) (r : Nat) (s : State),
      s.g F.FCST_TT_CTL_STATE ≠ 1 →
      s.ttValid (1 - s.ttSel) k = true →
      s.ttFails (1 - s.ttSel) k = some r →
      (∀ j : Fin 128, j < k → s.ttValid (1 - s.ttSel) j = true → s.ttFails (1 - s.ttSel) j = none) →
      ∃ t, exec .ttArm s = .next t ∧ t.g F.FCST_TT_CTL_STATE = 3 ∧ t.g F.FCST_TT_ERR_REASON = r ∧ t.g F.FCST_TT_ERR_TASK = k ∧
        confined s t [R.FCST_TT_CTL, R.FCST_TT_ERR]) ∧
  -- TT_ARM too late
  (∀ (s : State),
      s.g F.FCST_TT_CTL_STATE ≠ 1 →
      (∀ k : Fin 128, s.ttValid (1 - s.ttSel) k = true → s.ttFails (1 - s.ttSel) k = none) →
      s.rd64 R.FCST_TT_TGT_LO R.FCST_TT_TGT_HI < s.tm.tick.toNat + 2 →
      ∃ t, exec .ttArm s = .next t ∧ t.g F.FCST_TT_CTL_STATE = 3 ∧ t.g F.FCST_TT_ERR_REASON = 4 ∧ confined s t [R.FCST_TT_CTL,
        R.FCST_TT_ERR]) ∧
  -- TT_ARM of a switch that is armed
  (∀ (s : State),
      s.g F.FCST_TT_CTL_STATE = 1 →
      ∃ t, exec .ttArm s = .next t ∧ t.g F.FCST_STAT_CFG_REFUSED = 1 ∧ confined s t [R.FCST_STAT]) ∧
  -- TT_DISARM of what is not armed
  (∀ (s : State),
      s.g F.FCST_TT_CTL_STATE ≠ 1 →
      ∃ t, exec .ttDisarm s = .next t ∧ t.out = s.ok.out ∧ confined s t []) ∧
  -- TT_DISARM
  (∀ (s : State),
      s.g F.FCST_TT_CTL_STATE = 1 →
      ∃ t, exec .ttDisarm s = .next t ∧ t.g F.FCST_TT_CTL_STATE = 0 ∧ confined s t [R.FCST_TT_CTL]) ∧
  -- TT_SEL_WRITE
  (∀ (v : Fin 2) (s : State),
      v.val ≠ s.g F.FCST_TT_CTL_SEL →
      s.g F.TICK_STAT_RUNNING = 0 →
      ∃ t, exec (.ttSelWrite v) s = .next t ∧ t.g F.FCST_TT_CTL_SEL = v ∧ t.fc.ttLive = true ∧ t.fc.ttTicks = 0 ∧
        t.g F.FCST_STAT_TT_WARMUP = 1 ∧ (∀ k : Fin 128,
        SMap.find t.fc.tier k = if s.ttValid v k && s.continues v k then SMap.find s.fc.tier k else none) ∧ (∀ k : Fin 128,
        t.rd (R.XING_CS k) = if s.ttValid v k && s.continues v k then s.rd (R.XING_CS k) else 0) ∧ (∀ k : Fin 128, ∀ n : Fin 4,
        t.g (F.FCST_EOBS_E_OBS k n) = 0) ∧ t.out = s.ok.out ∧ sameMem s t) ∧
  -- TT_SEL_WRITE of the copy in force
  (∀ (v : Fin 2) (s : State),
      v.val = s.g F.FCST_TT_CTL_SEL →
      ∃ t, exec (.ttSelWrite v) s = .next t ∧ t.out = s.ok.out ∧ confined s t []) ∧
  -- TT_SEL_WRITE while ticks run
  (∀ (v : Fin 2) (s : State),
      v.val ≠ s.g F.FCST_TT_CTL_SEL →
      s.g F.TICK_STAT_RUNNING = 1 →
      ∃ t, exec (.ttSelWrite v) s = .next t ∧ t.g F.FCST_TT_CTL_SEL = s.g F.FCST_TT_CTL_SEL ∧ t.g F.FCST_STAT_CFG_REFUSED = 1 ∧
        confined s t [R.FCST_STAT]) ∧
  -- THERMAL_UPDATE with a valid reading and a measured power
  (∀ (p : Nat) (stale : BitVec 8) (a : Int) (rest : List Int) (s : State),
      (s.g F.PWR_STAT_WARN).testBit 0 = false →
      s.validTemps stale = a :: rest →
      ∃ t, exec (.thermalUpdate (some p) stale) s = .next t ∧
        t.fc.tRise = s.fc.tRise + (((s.g F.FCST_THERM_RTH * p * 2 ^ 32 / 10 ^ 8 : Nat) : Int) - s.fc.tRise) * (2 ^ 60 - (expNeg 1 (100 * max 1 (s.g F.FCST_THERM_TAU)) : Int)) / 2 ^ 60 ∧ t.fc.tS = rest.foldl max a * 2 ^ 26 ∧ t.fc.tRef = t.fc.tS - t.fc.tRise ∧ t.fc.pthLive = true ∧ t.g F.FCST_STAT_SENS_INVALID = 0 ∧ t.g F.FCST_CAL_MON_VALID = 1 ∧ sameMem s t) ∧
  -- THERMAL_UPDATE with a valid reading and no valid measurement, after a tick
  (∀ (p : Option Nat) (stale : BitVec 8) (a : Int) (rest : List Int) (s : State),
      p = none ∨ (s.g F.PWR_STAT_WARN).testBit 0 = true →
      s.validTemps stale = a :: rest →
      0 < s.fc.pwTicks →
      ∃ t, exec (.thermalUpdate p stale) s = .next t ∧ t.fc.tRise = s.nextRise (s.fc.pwSum / s.fc.pwTicks) ∧
        t.fc.tS = rest.foldl max a * 2 ^ 26 ∧ t.fc.tRef = t.fc.tS - t.fc.tRise ∧ t.fc.pwTicks = 0 ∧
        t.g F.FCST_STAT_SENS_INVALID = 0 ∧ t.g F.FCST_CAL_MON_VALID = 0 ∧ sameMem s t) ∧
  -- THERMAL_UPDATE with no valid reading
  (∀ (p : Option Nat) (stale : BitVec 8) (s : State),
      s.validTemps stale = [] →
      stale = 0 →
      ∃ t, exec (.thermalUpdate p stale) s = .next t ∧ t.g F.FCST_STAT_SENS_INVALID = 1 ∧ t.g F.FCST_STAT_FORCED = 1 ∧
        t.g F.FCST_STAT_FORCE_CAP = 0 ∧ t.hasThermal = false ∧ t.g F.FCST_TS_T_S = s.g F.FCST_TS_T_S ∧
        t.g F.FCST_TS_PTH = s.g F.FCST_TS_PTH ∧ t.fc.tRef = s.fc.tRef ∧ (s.g F.FCST_STAT_SENS_INVALID = 0 →
        t.ft.blocks = addMsg s.ft.blocks ⟨0, 1, Kind.thermSense, Src.forecast⟩) ∧ (s.g F.FCST_STAT_SENS_INVALID = 1 →
        t.ft = s.ft) ∧ sameMem s t) ∧
  -- THERMAL_UPDATE whose only valid reading comes back STALE
  (∀ (p : Option Nat) (i : Fin 8) (s : State),
      s.validTemps (BitVec.ofNat 8 (2 ^ i.val)) = [] →
      ∃ t, exec (.thermalUpdate p (BitVec.ofNat 8 (2 ^ i.val))) s = .next t ∧ t.g F.FCST_STAT_SENS_INVALID = 1 ∧
        t.g F.FCST_STAT_FORCED = 1 ∧ t.g F.FCST_STAT_FORCE_CAP = 0 ∧ t.hasThermal = false ∧ t.fc.tRef = s.fc.tRef ∧
        sameMem s t) ∧
  -- FORCE_CAP_RISE
  (∀ (r : Nat) (s : State),
      s.capDue = some r →
      r ≤ s.tick →
      s.g F.FCST_STAT_FORCE_CAP < 3 →
      ∃ t, exec .forceCapRise s = .next t ∧ t.g F.FCST_STAT_FORCE_CAP = s.g F.FCST_STAT_FORCE_CAP + 1 ∧
        (t.g F.FCST_STAT_FORCED = 1 ↔ t.g F.FCST_STAT_FORCE_CAP < 3) ∧ t.fc.relTick = some r ∧ onlyRegs s t [R.FCST_STAT]) ∧
  -- FORCE_CAP_RISE not yet due
  (∀ (s : State),
      (∀ r ∈ s.capDue, s.tick < r) →
      ∃ t, exec .forceCapRise s = .next t ∧ t = s)

/-- XING_ENTRY_WRITE stores a word of an entry, or a descriptor register, in the copy that the window names where that
copy is not in force, and opens it; into the copy in force it is refused with an error. XING_VALIDATE makes a copy
without a failing entry VALID, and otherwise shows the first failing entry with its lowest reason; it shows the loads
of the four engines and whether one exceeds its limit. XING_SEL_WRITE of the other copy takes it where it is VALID and
no tick runs, and is refused otherwise; of the copy in force it changes nothing, but a VALIDATE beside it validates.
CAP_RING_CTL_WRITE that enables a ring starts its offsets anew; while a ring is enabled its settings, buffer and size
stay, and values out of range are refused. CAPTURE_FRAME_COMMIT stores the header of an open frame and sample j of its
i-th slot at word 4 + j × COUNT + i, and advances WR. Completes XING_ENTRY_WRITE, XING_VALIDATE, XING_SEL_WRITE,
CAP_RING_CTL_WRITE, CAPTURE_FRAME_COMMIT. (R180, R181, R182, R183, R188, R192, R199, R200, R201, R202) -/
def Obligations.CrossingTablesAreCheckedAndTaken : Prop :=
  -- XING_ENTRY_WRITE of an entry word
  (∀ (i : Fin 2048) (w : Fin 4) (v : Word) (s : State),
      s.g F.XING_WIN_COPY ≠ s.g F.XING_CTL_SEL →
      ∃ t, exec (.xingEntryWrite false i w v) s = .next t ∧
        t.xtw (s.g F.XING_WIN_COPY) (2048 * s.g F.XING_WIN_PAGE + i) w = v ∧
        sameButKey zeroW s.xg.xt t.xg.xt (32768 * s.g F.XING_WIN_COPY + 4 * (2048 * s.g F.XING_WIN_PAGE + i) + w) ∧
        t.g F.XING_STAT_PSTATE = 0 ∧ t.out = s.ok.out ∧ onlyRegs s t [R.XING_STAT]) ∧
  -- XING_ENTRY_WRITE of a descriptor
  (∀ (d : Fin 256) (w : Fin 2) (v : Word) (s : State),
      s.g F.XING_WIN_COPY ≠ s.g F.XING_CTL_SEL →
      ∃ t, exec (.xingEntryWrite true ⟨d.val, by omega⟩ ⟨w.val, by omega⟩ v) s = .next t ∧
        SMap.get zeroW t.xg.dl (512 * s.g F.XING_WIN_COPY + 2 * d + w) = (v &&& if w.val = 0 then 0xB007FFFF#32 else 0x000FFFFF#32) ∧ t.g F.XING_STAT_PSTATE = 0 ∧ onlyRegs s t [R.XING_STAT]) ∧
  -- XING_ENTRY_WRITE into the copy in force
  (∀ (desc : Bool) (i : Fin 2048) (w : Fin 4) (v : Word) (s : State),
      s.g F.XING_WIN_COPY = s.g F.XING_CTL_SEL →
      ∃ t, exec (.xingEntryWrite desc i w v) s = .next t ∧ t.g F.XING_STAT_TBL_WR_ERR = 1 ∧ t.out = s.err.out ∧
        confined s t [R.XING_STAT]) ∧
  -- XING_VALIDATE of a sound copy
  (∀ (s : State),
      s.xFirstFail (1 - s.xSel) = none →
      ∃ t, exec .xingValidate s = .next t ∧ t.g F.XING_STAT_PSTATE = 1 ∧ (t.g F.XING_STAT_OVERLOAD = 1 ↔ ∃ e : Fin 4,
        s.xLimit false < s.xLoad (1 - s.xSel) e false ∨ s.xLimit true < s.xLoad (1 - s.xSel) e true) ∧ (∀ e : Fin 4,
        t.g (F.XING_LOAD_GATHER e) = min (s.xLoad (1 - s.xSel) e false) 0xFFFF ∧
        t.g (F.XING_LOAD_DIST e) = min (s.xLoad (1 - s.xSel) e true) 0xFFFF) ∧ onlyRegs s t [R.XING_STAT, R.XING_LOAD 0,
        R.XING_LOAD 1, R.XING_LOAD 2, R.XING_LOAD 3]) ∧
  -- XING_VALIDATE of a copy with a failing entry
  (∀ (e r : Nat) (s : State),
      s.xFirstFail (1 - s.xSel) = some (e, r) →
      e < 8192 →
      r < 7 →
      ∃ t, exec .xingValidate s = .next t ∧ t.g F.XING_STAT_PSTATE = 2 ∧ t.g F.XING_ERR_ENTRY = e ∧ t.g F.XING_ERR_REASON = r ∧
        (t.g F.XING_STAT_OVERLOAD = 1 ↔ ∃ e : Fin 4,
        s.xLimit false < s.xLoad (1 - s.xSel) e false ∨ s.xLimit true < s.xLoad (1 - s.xSel) e true) ∧ (∀ e : Fin 4,
        t.g (F.XING_LOAD_GATHER e) = min (s.xLoad (1 - s.xSel) e false) 0xFFFF ∧
        t.g (F.XING_LOAD_DIST e) = min (s.xLoad (1 - s.xSel) e true) 0xFFFF) ∧ onlyRegs s t [R.XING_STAT, R.XING_ERR,
        R.XING_LOAD 0, R.XING_LOAD 1, R.XING_LOAD 2, R.XING_LOAD 3]) ∧
  -- XING_SEL_WRITE
  (∀ (v : Fin 2) (s : State),
      v.val ≠ s.g F.XING_CTL_SEL →
      s.g F.TICK_STAT_RUNNING = 0 →
      s.g F.XING_STAT_PSTATE = 1 →
      ∃ t, exec (.xingSelWrite v false) s = .next t ∧ t.g F.XING_CTL_SEL = v ∧ t.g F.XING_STAT_PSTATE = 0 ∧
        t.g F.XING_STAT_INF_SUSPENDED = 0 ∧ onlyRegs s t [R.XING_CTL, R.XING_STAT]) ∧
  -- XING_SEL_WRITE of the copy in force
  (∀ (v : Fin 2) (s : State),
      v.val = s.g F.XING_CTL_SEL →
      ∃ t, exec (.xingSelWrite v false) s = .next t ∧ t.out = s.ok.out ∧ confined s t []) ∧
  -- XING_SEL_WRITE of the copy in force with VALIDATE, of a sound pending copy
  (∀ (v : Fin 2) (s : State),
      v.val = s.g F.XING_CTL_SEL →
      s.xFirstFail (1 - s.xSel) = none →
      ∃ t, exec (.xingSelWrite v true) s = .next t ∧ t.g F.XING_STAT_PSTATE = 1 ∧ onlyRegs s t [R.XING_STAT, R.XING_LOAD 0,
        R.XING_LOAD 1, R.XING_LOAD 2, R.XING_LOAD 3]) ∧
  -- XING_SEL_WRITE refused
  (∀ (v : Fin 2) (s : State),
      v.val ≠ s.g F.XING_CTL_SEL →
      s.g F.TICK_STAT_RUNNING = 1 ∨ s.g F.XING_STAT_PSTATE ≠ 1 →
      ∃ t, exec (.xingSelWrite v false) s = .next t ∧ t.g F.XING_CTL_SEL = s.g F.XING_CTL_SEL ∧
        t.g F.XING_STAT_CFG_REFUSED = 1 ∧ confined s t [R.XING_STAT]) ∧
  -- CAP_RING_CTL_WRITE that enables
  (∀ (r : Fin 8) (v : Word) (s : State),
      s.g (F.XING_CAP_CTL_EN r) = 0 →
      bitsOf v 6 0 ≤ 64 →
      v.getLsbD 31 = true →
      ∃ t, exec (.capRingCtlWrite r 0 v) s = .next t ∧ t.g (F.XING_CAP_CTL_EN r) = 1 ∧
        t.g (F.XING_CAP_CTL_COUNT r) = bitsOf v 6 0 ∧ t.g (F.XING_CAP_CTL_POINT r) = bitsOf v 16 16 ∧
        t.g (F.XING_CAP_WR_WR r) = 0 ∧ t.g (F.XING_CAP_RD_RD r) = 0 ∧ confined s t [R.XING_CAP_CTL r, R.XING_CAP_WR r,
        R.XING_CAP_RD r]) ∧
  -- CAP_RING_CTL_WRITE that disables
  (∀ (r : Fin 8) (v : Word) (s : State),
      s.g (F.XING_CAP_CTL_EN r) = 1 →
      v &&& 0x8001007F#32 = putBits (s.rd (R.XING_CAP_CTL r)) 31 31 0 →
      bitsOf v 6 0 ≤ 64 →
      ∃ t, exec (.capRingCtlWrite r 0 v) s = .next t ∧ t.g (F.XING_CAP_CTL_EN r) = 0 ∧ confined s t [R.XING_CAP_CTL r]) ∧
  -- CAP_RING_CTL_WRITE of another setting while the ring is enabled, or of a COUNT above 64
  (∀ (r : Fin 8) (v : Word) (s : State),
      64 < bitsOf v 6 0 ∨ (s.g (F.XING_CAP_CTL_EN r) = 1 ∧ v &&& 0x8001007F#32 ≠ s.rd (R.XING_CAP_CTL r) ∧
        v &&& 0x8001007F#32 ≠ putBits (s.rd (R.XING_CAP_CTL r)) 31 31 0) →
      ∃ t, exec (.capRingCtlWrite r 0 v) s = .next t ∧ t.g F.XING_STAT_CFG_REFUSED = 1 ∧ confined s t [R.XING_STAT]) ∧
  -- CAP_RING_CTL_WRITE of a buffer
  (∀ (r : Fin 8) (v : Word) (s : State),
      s.g (F.XING_CAP_CTL_EN r) = 0 →
      (v &&& 0x000FFFF0#32).toNat + s.g (F.XING_CAP_SIZE_SIZE r) ≤ 0x100000 →
      ∃ t, exec (.capRingCtlWrite r 1 v) s = .next t ∧ t.rd (R.XING_CAP_BUF r) = v &&& 0x000FFFF0#32 ∧
        confined s t [R.XING_CAP_BUF r]) ∧
  -- CAP_RING_CTL_WRITE of a buffer while the ring is enabled, or of one that runs out of control memory
  (∀ (r : Fin 8) (v : Word) (s : State),
      v &&& 0x000FFFF0#32 ≠ s.rd (R.XING_CAP_BUF r) →
      s.g (F.XING_CAP_CTL_EN r) = 1 ∨ 0x100000 < (v &&& 0x000FFFF0#32).toNat + s.g (F.XING_CAP_SIZE_SIZE r) →
      ∃ t, exec (.capRingCtlWrite r 1 v) s = .next t ∧ t.g F.XING_STAT_CFG_REFUSED = 1 ∧ confined s t [R.XING_STAT]) ∧
  -- CAP_RING_CTL_WRITE of a size out of range
  (∀ (r : Fin 8) (v : Word) (s : State),
      bitsOf v 18 0 % 16 ≠ 0 ∨ bitsOf v 18 0 < 4096 ∨ 262144 < bitsOf v 18 0 ∨ 0x100000 < (s.rd (R.XING_CAP_BUF r)).toNat + bitsOf v 18 0 →
      ∃ t, exec (.capRingCtlWrite r 2 v) s = .next t ∧ t.g F.XING_STAT_CFG_REFUSED = 1 ∧ confined s t [R.XING_STAT]) ∧
  -- CAP_RING_CTL_WRITE of a size while the ring is enabled
  (∀ (r : Fin 8) (v : Word) (s : State),
      s.g (F.XING_CAP_CTL_EN r) = 1 →
      bitsOf v 18 0 ≠ s.g (F.XING_CAP_SIZE_SIZE r) →
      ∃ t, exec (.capRingCtlWrite r 2 v) s = .next t ∧ t.g (F.XING_CAP_SIZE_SIZE r) = s.g (F.XING_CAP_SIZE_SIZE r) ∧
        t.g F.XING_STAT_CFG_REFUSED = 1 ∧ confined s t [R.XING_STAT]) ∧
  -- CAP_RING_CTL_WRITE of a size
  (∀ (r : Fin 8) (v : Word) (s : State),
      s.g (F.XING_CAP_CTL_EN r) = 0 →
      bitsOf v 18 0 % 16 = 0 ∧ 4096 ≤ bitsOf v 18 0 ∧ bitsOf v 18 0 ≤ 262144 →
      (s.rd (R.XING_CAP_BUF r)).toNat + bitsOf v 18 0 ≤ 0x100000 →
      ∃ t, exec (.capRingCtlWrite r 2 v) s = .next t ∧ t.g (F.XING_CAP_SIZE_SIZE r) = bitsOf v 18 0 ∧
        confined s t [R.XING_CAP_SIZE r]) ∧
  -- CAPTURE_FRAME_COMMIT of a frame that does not wrap
  (∀ (r : Fin 8) (s : State),
      s.capState r = .open →
      s.capStuck r = false →
      s.g (F.XING_CAP_WR_WR r) + s.capBytes r ≤ s.g (F.XING_CAP_SIZE_SIZE r) →
      (s.rd (R.XING_CAP_BUF r)).toNat % 4 = 0 ∧ s.g (F.XING_CAP_WR_WR r) % 4 = 0 →
      (s.rd (R.XING_CAP_BUF r)).toNat + s.g (F.XING_CAP_SIZE_SIZE r) ≤ 0x100000 →
      ∃ t, exec (.captureFrameCommit r) s = .next t ∧
        t.g (F.XING_CAP_WR_WR r) = (s.g (F.XING_CAP_WR_WR r) + s.capBytes r) % s.g (F.XING_CAP_SIZE_SIZE r) ∧
        t.capState r = .none ∧
        bitsOf (t.word ((s.rd (R.XING_CAP_BUF r)).toNat + s.g (F.XING_CAP_WR_WR r))) 31 16 = s.capBytes r / 16 ∧
        bitsOf (t.word ((s.rd (R.XING_CAP_BUF r)).toNat + s.g (F.XING_CAP_WR_WR r))) 0 0 = s.g (F.XING_CAP_CTL_POINT r) ∧
        t.word ((s.rd (R.XING_CAP_BUF r)).toNat + s.g (F.XING_CAP_WR_WR r) + 4) = BitVec.ofNat 32 (s.nSamp * 2 ^ 24 + s.g (F.XING_CAP_CTL_COUNT r) * 2 ^ 16) ∧ t.word ((s.rd (R.XING_CAP_BUF r)).toNat + s.g (F.XING_CAP_WR_WR r) + 8) = s.tm.tick.setWidth 32 ∧ t.word ((s.rd (R.XING_CAP_BUF r)).toNat + s.g (F.XING_CAP_WR_WR r) + 12) = s.tm.tick.extractLsb' 32 32 ∧ onlyBytes s t [R.XING_CAP_WR r, R.MEM_WAKE_CNT, R.MEM_INJ_CTL, R.MEM_ECC_LAST, R.MEM_ECC_CORR_CNT, R.MEM_ECC_UNCORR_CNT] ((s.rd (R.XING_CAP_BUF r)).toNat + s.g (F.XING_CAP_WR_WR r)) (s.capBytes r)) ∧
  -- CAPTURE_FRAME_COMMIT: the samples of any frame, which may wrap
  (∀ (r : Fin 8) (i j : Fin 64) (s : State),
      s.capState r = .open →
      s.capStuck r = false →
      s.capBytes r ≤ s.g (F.XING_CAP_SIZE_SIZE r) →
      s.g (F.XING_CAP_SIZE_SIZE r) % 4 = 0 →
      (s.rd (R.XING_CAP_BUF r)).toNat % 4 = 0 ∧ s.g (F.XING_CAP_WR_WR r) % 4 = 0 →
      (s.rd (R.XING_CAP_BUF r)).toNat + s.g (F.XING_CAP_SIZE_SIZE r) ≤ 0x100000 →
      i.val < s.g (F.XING_CAP_CTL_COUNT r) ∧ j.val < s.nSamp →
      s.eccAt (slotByte (s.g (F.XING_CAP_SLOT_SLOT r i)) j) < 2 →
      ∃ t, exec (.captureFrameCommit r) s = .next t ∧
        t.g (F.XING_CAP_WR_WR r) = (s.g (F.XING_CAP_WR_WR r) + s.capBytes r) % s.g (F.XING_CAP_SIZE_SIZE r) ∧
        t.word ((s.rd (R.XING_CAP_BUF r)).toNat + (s.g (F.XING_CAP_WR_WR r) + 16 + 4 * (j.val * s.g (F.XING_CAP_CTL_COUNT r) + i.val)) % s.g (F.XING_CAP_SIZE_SIZE r)) = s.word (slotByte (s.g (F.XING_CAP_SLOT_SLOT r i)) j) ∧ t.capState r = .none) ∧
  -- CAPTURE_FRAME_COMMIT with no frame open
  (∀ (r : Fin 8) (s : State),
      s.capState r ≠ .open →
      ∃ t, exec (.captureFrameCommit r) s = .next t ∧ t = s)

/-- A binding with a format that exists, ports 0 to 23 and, where enabled, a slot of its own is taken while the Levee is
not sealed; one without them sets CFG_REFUSED; a slot that another enabled binding names sets BIND_ERR and changes
nothing; a sealed binding keeps its port, and the write is counted, its offset shown, and reported. A setting in its
range is taken when unsealed or when it tightens; a sealed loosening is refused, counted, and its offset shown; a
value outside its range sets CFG_REFUSED. The key 0x5EA1 seals, another key sets KEY_BAD, and a sealed Levee stays
sealed. A clear of an amplifier fault whose cause is gone ends the cause and clears RETRIES and LOCKED, one of a DC
mute clears DCF, and each is refused while the cause lasts; the Levee's PARITY clears once its registers are written
again. A register of an element that the sweep finds with wrong parity raises PARITY for the Levee and the element,
LEVEE_CFG for every bound element. Completes LEVEE_EL_BIND_WRITE, LEVEE_REG_WRITE, LEVEE_SEAL_KEY, LEVEE_CAUSE_CLEAR,
LEVEE_PARITY_SWEEP. (R204, R216, R227, R233, R234, R235, R236) -/
def Obligations.LeveeSettingsAreSealedAndChecked : Prop :=
  -- LEVEE_EL_BIND_WRITE
  (∀ (e : Fin 96) (v : Word) (s : State),
      s.g F.LEVEE_SEAL_SEALED = 0 →
      bitsOf v 29 28 ≠ 3 ∧ bitsOf v 24 20 ≤ 23 ∧ bitsOf v 8 4 ≤ 23 →
      (v.getLsbD 31 = true → ∀ x : Fin 96, x ≠ e → s.g (F.LEVEE_EL_BIND_EN x) = 1 →
        bitsOf (s.rd (R.LEVEE_EL_BIND x)) 8 0 ≠ bitsOf v 8 0) →
      ∃ t, exec (.leveeElBindWrite e v) s = .next t ∧ t.g (F.LEVEE_EL_BIND_EN e) = bitsOf v 31 31 ∧
        t.g (F.LEVEE_EL_BIND_FMT e) = bitsOf v 29 28 ∧ t.g (F.LEVEE_EL_BIND_PORT e) = bitsOf v 8 4 ∧
        t.g (F.LEVEE_EL_BIND_TSLOT e) = bitsOf v 3 0 ∧ t.g (F.LEVEE_EL_BIND_TEL_EN e) = bitsOf v 30 30 ∧
        t.g (F.LEVEE_EL_BIND_TEL_PORT e) = bitsOf v 24 20 ∧ t.g (F.LEVEE_EL_BIND_TEL_CH e) = bitsOf v 19 16 ∧
        (s.g F.TICK_STAT_RUNNING = 0 → (t.el e).bind = t.rd (R.LEVEE_EL_BIND e)) ∧ (s.g F.TICK_STAT_RUNNING = 1 →
        (t.el e).bind = (s.el e).bind) ∧ sameMem s t) ∧
  -- LEVEE_EL_BIND_WRITE of a format or a port that does not exist
  (∀ (e : Fin 96) (v : Word) (s : State),
      bitsOf v 29 28 = 3 ∨ 23 < bitsOf v 24 20 ∨ 23 < bitsOf v 8 4 →
      ∃ t, exec (.leveeElBindWrite e v) s = .next t ∧ t.g F.LEVEE_STAT_CFG_REFUSED = 1 ∧ confined s t [R.LEVEE_STAT]) ∧
  -- LEVEE_EL_BIND_WRITE of a slot in use
  (∀ (e x : Fin 96) (v : Word) (s : State),
      bitsOf v 29 28 ≠ 3 ∧ bitsOf v 24 20 ≤ 23 ∧ bitsOf v 8 4 ≤ 23 ∧ bitsOf v 31 31 = 1 →
      x ≠ e ∧ s.g (F.LEVEE_EL_BIND_EN x) = 1 ∧ bitsOf (s.rd (R.LEVEE_EL_BIND x)) 8 0 = bitsOf v 8 0 →
      ∃ t, exec (.leveeElBindWrite e v) s = .next t ∧ t.g F.LEVEE_STAT_BIND_ERR = 1 ∧ confined s t [R.LEVEE_STAT]) ∧
  -- LEVEE_EL_BIND_WRITE while sealed
  (∀ (e : Fin 96) (v : Word) (s : State),
      s.g F.LEVEE_SEAL_SEALED = 1 →
      bitsOf v 29 28 ≠ 3 ∧ bitsOf v 24 20 ≤ 23 ∧ bitsOf v 8 4 ≤ 23 ∧ bitsOf v 31 31 = 0 →
      bitsOf v 8 4 ≠ s.g (F.LEVEE_EL_BIND_PORT e) →
      (s.rd R.LEVEE_REFUSE_CNT).toNat < 2 ^ 32 - 1 →
      s.g F.TICK_STAT_RUNNING = 1 →
      ∃ t, exec (.leveeElBindWrite e v) s = .next t ∧ t.rd (R.LEVEE_EL_BIND e) = s.rd (R.LEVEE_EL_BIND e) ∧
        t.g F.LEVEE_STAT_SEAL_REFUSED = 1 ∧ t.rd R.LEVEE_REFUSE_CNT = s.rd R.LEVEE_REFUSE_CNT + 1 ∧
        t.g F.LEVEE_REFUSE_LAST_OFFSET = 0x1000 + 64 * e.val ∧ (∃ f ∈ t.ft.blocks, f.kind = Kind.sealRefused) ∧
        onlyRegs s t [R.LEVEE_STAT, R.LEVEE_REFUSE_CNT, R.LEVEE_REFUSE_LAST]) ∧
  -- LEVEE_REG_WRITE of a peak attenuation
  (∀ (e : Fin 96) (v : Word) (s : State),
      bitsOf v 8 0 ≤ 400 →
      s.g F.LEVEE_SEAL_SEALED = 0 ∨ s.g (F.LEVEE_EL_PEAK_PEAK_ATT e) ≤ bitsOf v 8 0 →
      ∃ t, exec (.leveeRegWrite ⟨0x1004 + 64 * e.val, by omega⟩ v) s = .next t ∧
        t.g (F.LEVEE_EL_PEAK_PEAK_ATT e) = bitsOf v 8 0 ∧ t.rd R.LEVEE_REFUSE_CNT = s.rd R.LEVEE_REFUSE_CNT ∧ sameMem s t) ∧
  -- LEVEE_REG_WRITE that loosens a sealed attenuation
  (∀ (e : Fin 96) (v : Word) (s : State),
      s.g F.LEVEE_SEAL_SEALED = 1 →
      bitsOf v 8 0 < s.g (F.LEVEE_EL_PEAK_PEAK_ATT e) →
      bitsOf v 8 0 ≤ 400 →
      (s.rd R.LEVEE_REFUSE_CNT).toNat < 2 ^ 32 - 1 →
      ∃ t, exec (.leveeRegWrite ⟨0x1004 + 64 * e.val, by omega⟩ v) s = .next t ∧
        t.g (F.LEVEE_EL_PEAK_PEAK_ATT e) = s.g (F.LEVEE_EL_PEAK_PEAK_ATT e) ∧ t.g F.LEVEE_STAT_SEAL_REFUSED = 1 ∧
        t.rd R.LEVEE_REFUSE_CNT = s.rd R.LEVEE_REFUSE_CNT + 1 ∧ t.g F.LEVEE_REFUSE_LAST_OFFSET = 0x1004 + 64 * e.val) ∧
  -- LEVEE_REG_WRITE outside the range
  (∀ (e : Fin 96) (v : Word) (s : State),
      400 < bitsOf v 8 0 →
      ∃ t, exec (.leveeRegWrite ⟨0x1004 + 64 * e.val, by omega⟩ v) s = .next t ∧ t.g F.LEVEE_STAT_CFG_REFUSED = 1 ∧
        t.out = s.ok.out ∧ confined s t [R.LEVEE_STAT]) ∧
  -- LEVEE_REG_WRITE of any register of sealed settings in their ranges, each tightened or the Levee not sealed
  (∀ (o : Fin 65536) (v : Word) (f : SealField) (s : State),
      f ∈ sealFields o →
      (∀ x ∈ sealFields o, x.least ≤ bitsOf v x.hi x.lo ∧ bitsOf v x.hi x.lo ≤ x.most) →
      (s.g F.LEVEE_SEAL_SEALED = 0 ∨ ∀ x ∈ sealFields o,
        x.dir.allows (bitsOf (s.rd (0x03030000 + o.val)) x.hi x.lo) (bitsOf v x.hi x.lo) = true) →
      (regSpecAt (0x03030000 + o.val)).isSome = true →
      ∃ t, exec (.leveeRegWrite o v) s = .next t ∧ bitsOf (t.rd (0x03030000 + o.val)) f.hi f.lo = bitsOf v f.hi f.lo ∧
        t.rd R.LEVEE_REFUSE_CNT = s.rd R.LEVEE_REFUSE_CNT ∧ sameMem s t) ∧
  -- LEVEE_REG_WRITE of any register of sealed settings with a field that loosens a sealed Levee
  (∀ (o : Fin 65536) (v : Word) (f : SealField) (s : State),
      f ∈ sealFields o →
      (∀ x ∈ sealFields o, x.least ≤ bitsOf v x.hi x.lo ∧ bitsOf v x.hi x.lo ≤ x.most) →
      s.g F.LEVEE_SEAL_SEALED = 1 ∧ f.dir.allows (bitsOf (s.rd (0x03030000 + o.val)) f.hi f.lo) (bitsOf v f.hi f.lo) = false →
      (regSpecAt (0x03030000 + o.val)).isSome = true →
      (s.rd R.LEVEE_REFUSE_CNT).toNat < 2 ^ 32 - 1 →
      ∃ t, exec (.leveeRegWrite o v) s = .next t ∧
        bitsOf (t.rd (0x03030000 + o.val)) f.hi f.lo = bitsOf (s.rd (0x03030000 + o.val)) f.hi f.lo ∧
        t.g F.LEVEE_STAT_SEAL_REFUSED = 1 ∧ t.rd R.LEVEE_REFUSE_CNT = s.rd R.LEVEE_REFUSE_CNT + 1 ∧
        t.g F.LEVEE_REFUSE_LAST_OFFSET = o ∧ sameMem s t) ∧
  -- LEVEE_REG_WRITE of any register of sealed settings with a field out of range
  (∀ (o : Fin 65536) (v : Word) (f : SealField) (s : State),
      f ∈ sealFields o →
      bitsOf v f.hi f.lo < f.least ∨ f.most < bitsOf v f.hi f.lo →
      (regSpecAt (0x03030000 + o.val)).isSome = true →
      ∃ t, exec (.leveeRegWrite o v) s = .next t ∧ t.g F.LEVEE_STAT_CFG_REFUSED = 1 ∧ t.out = s.ok.out ∧
        confined s t [R.LEVEE_STAT]) ∧
  -- LEVEE_SEAL_KEY
  (∀ (s : State),
      s.g F.LEVEE_SEAL_SEALED = 0 →
      ∃ t, exec (.leveeSealKey 0x5EA1#16) s = .next t ∧ t.g F.LEVEE_SEAL_SEALED = 1 ∧ confined s t [R.LEVEE_SEAL]) ∧
  -- LEVEE_SEAL_KEY with another key
  (∀ (k : BitVec 16) (s : State),
      s.g F.LEVEE_SEAL_SEALED = 0 →
      k ≠ 0x5EA1#16 →
      ∃ t, exec (.leveeSealKey k) s = .next t ∧ t.g F.LEVEE_STAT_KEY_BAD = 1 ∧ t.g F.LEVEE_SEAL_SEALED = 0 ∧
        confined s t [R.LEVEE_STAT]) ∧
  -- LEVEE_SEAL_KEY when sealed
  (∀ (k : BitVec 16) (s : State),
      s.g F.LEVEE_SEAL_SEALED = 1 →
      ∃ t, exec (.leveeSealKey k) s = .next t ∧ confined s t []) ∧
  -- LEVEE_CAUSE_CLEAR of an amplifier fault that is gone
  (∀ (e : Fin 96) (s : State),
      s.g (F.LEVEE_EL_STAT_AMPF e) = 1 →
      s.ampGone e = true →
      ∃ t, exec (.leveeCauseClear (some e) 1#32) s = .next t ∧ t.g (F.LEVEE_EL_STAT_AMPF e) = 0 ∧
        t.g (F.LEVEE_EL_STAT_RETRIES e) = 0 ∧ t.g (F.LEVEE_EL_STAT_LOCKED e) = 0 ∧
        t.g F.LEVEE_STAT_CLR_REFUSED = s.g F.LEVEE_STAT_CLR_REFUSED ∧ sameMem s t) ∧
  -- LEVEE_CAUSE_CLEAR of an amplifier fault that lasts
  (∀ (e : Fin 96) (s : State),
      s.g (F.LEVEE_EL_STAT_AMPF e) = 1 →
      s.ampGone e = false →
      ∃ t, exec (.leveeCauseClear (some e) 1#32) s = .next t ∧ t.g (F.LEVEE_EL_STAT_AMPF e) = 1 ∧
        t.g F.LEVEE_STAT_CLR_REFUSED = 1 ∧ confined s t [R.LEVEE_STAT]) ∧
  -- LEVEE_CAUSE_CLEAR of a DC mute that is gone
  (∀ (e : Fin 96) (s : State),
      s.g (F.LEVEE_EL_STAT_DCF e) = 1 →
      (s.el e).d.natAbs ≤ s.dctOf e →
      ∃ t, exec (.leveeCauseClear (some e) 2#32) s = .next t ∧ t.g (F.LEVEE_EL_STAT_DCF e) = 0 ∧
        t.g F.LEVEE_STAT_CLR_REFUSED = s.g F.LEVEE_STAT_CLR_REFUSED ∧ sameMem s t) ∧
  -- LEVEE_CAUSE_CLEAR of a DC mute that lasts
  (∀ (e : Fin 96) (s : State),
      s.g (F.LEVEE_EL_STAT_DCF e) = 1 →
      s.dctOf e < (s.el e).d.natAbs →
      ∃ t, exec (.leveeCauseClear (some e) 2#32) s = .next t ∧ t.g (F.LEVEE_EL_STAT_DCF e) = 1 ∧
        t.g F.LEVEE_STAT_CLR_REFUSED = 1 ∧ confined s t [R.LEVEE_STAT]) ∧
  -- LEVEE_CAUSE_CLEAR of the Levee's parity error, its registers written again
  (∀ (s : State),
      s.g F.LEVEE_SEAL_SEALED = 0 ∧ s.g F.LEVEE_STAT_PARITY = 1 →
      s.lv.bad.all (fun x => x.2) = true →
      ∃ t, exec (.leveeCauseClear none 16#32) s = .next t ∧ t.g F.LEVEE_STAT_PARITY = 0 ∧ sameMem s t) ∧
  -- LEVEE_PARITY_SWEEP of a register of an element
  (∀ (e : Fin 96) (a : Nat) (s : State),
      isSealReg a = true ∧ inElement e a = true →
      (∀ x ∈ s.lv.bad, x.1 ≠ a) →
      ∃ t, exec (.leveeParitySweep [a]) s = .next t ∧ t.g F.LEVEE_STAT_PARITY = 1 ∧ t.g (F.LEVEE_EL_STAT_PARITY e) = 1 ∧
        t.ft.blocks = addMsg s.ft.blocks ⟨a, 1, Kind.leveeParity, Src.levee (e.val / 8)⟩ ∧ sameMem s t) ∧
  -- LEVEE_PARITY_SWEEP of LEVEE_CFG
  (∀ (e : Fin 96) (s : State),
      (s.el e).bound = true →
      (∀ x ∈ s.lv.bad, x.1 ≠ R.LEVEE_CFG) →
      ∃ t, exec (.leveeParitySweep [R.LEVEE_CFG]) s = .next t ∧ t.g F.LEVEE_STAT_PARITY = 1 ∧
        t.g (F.LEVEE_EL_STAT_PARITY e) = 1 ∧ t.ft.blocks = addMsg s.ft.blocks ⟨R.LEVEE_CFG, 1, Kind.leveeParity,
        Src.levee 15⟩ ∧ sameMem s t) ∧
  -- LEVEE_PARITY_SWEEP that finds nothing
  (∀ (s : State),
      ∃ t, exec (.leveeParitySweep []) s = .next t ∧ t = s)

/-- On a live, marked slot of a port without clock trouble, a telemetry word of type CURRENT shows its value at every
element that it names, and is an amplifier fault above I_MAX; RAIL gives the rail; STATUS records OVERTEMP and CLIP
and makes faults of its other bits; each, and VOLTAGE and TEMP, ends a telemetry loss. A word of a reserved type is
counted alone; IDLE, and a word from any other slot, changes nothing. TELEM_LOSS of an element with telemetry sets
TELL once and reports it. AMP_FLT_CHANGE to the active level sets the group's FLT bit and the fault of each bound
element, to the inactive level it clears the bit. DC_MUTE sets DCF once the count has run. AMP_RETRY counts the
attempt and ends the fault where it is gone, waits for another attempt, or locks the element at RETRY_MAX; a locked
element is attempted no more, and RETRY_EN = 0 ends the attempts. RETRY_RESET clears RETRIES and LOCKED of an element
without fault alone. Completes TELEMETRY_WORD, TELEM_LOSS, AMP_FLT_CHANGE, DC_MUTE, AMP_RETRY, RETRY_RESET. (R213,
R218, R219, R220, R221, R224) -/
def Obligations.LeveeFaultsMuteElements : Prop :=
  -- TELEMETRY_WORD of a current
  (∀ (n : Fin 24) (k : Fin 16) (w : Word) (e : Fin 96) (s : State),
      s.g (F.SAP_STAT_STATE n) = 2 ∨ s.g (F.SAP_STAT_STATE n) = 3 →
      (s.g (F.SAP_TEL_TEL n)).testBit k = true ∧ (s.g (F.SAP_MASK_ACTIVE_RX n)).testBit k = true →
      k.val ≤ s.g (F.SAP_FMT_SLOTS_M1 n) →
      s.g (F.SAP_STAT_SLOT_SLIP n) = 0 ∧ s.g (F.SAP_STAT_CLK_LOST n) = 0 →
      bitsOf w 31 28 = 1 →
      (s.el e).bound = true ∧ (s.el e).telEn = true ∧ (s.el e).telPort = n.val ∧ (s.el e).telCh = bitsOf w 27 24 →
      ∃ t, exec (.telemetryWord n k w) s = .next t ∧ t.g (F.LEVEE_EL_TELI_CURRENT e) = bitsOf w 23 0 ∧
        (s.g (F.LEVEE_EL_IMAX_I_MAX e) < bitsOf w 23 0 → t.g (F.LEVEE_EL_STAT_AMPF e) = 1) ∧ t.g (F.LEVEE_EL_STAT_TELL e) = 0 ∧
        sameMem s t) ∧
  -- TELEMETRY_WORD of a rail
  (∀ (n : Fin 24) (k : Fin 16) (w : Word) (e : Fin 96) (s : State),
      s.g (F.SAP_STAT_STATE n) = 2 ∨ s.g (F.SAP_STAT_STATE n) = 3 →
      (s.g (F.SAP_TEL_TEL n)).testBit k = true ∧ (s.g (F.SAP_MASK_ACTIVE_RX n)).testBit k = true →
      k.val ≤ s.g (F.SAP_FMT_SLOTS_M1 n) →
      s.g (F.SAP_STAT_SLOT_SLIP n) = 0 ∧ s.g (F.SAP_STAT_CLK_LOST n) = 0 →
      bitsOf w 31 28 = 3 →
      (s.el e).bound = true ∧ (s.el e).telEn = true ∧ (s.el e).telPort = n.val ∧ (s.el e).telCh = bitsOf w 27 24 →
      ∃ t, exec (.telemetryWord n k w) s = .next t ∧ t.g (F.LEVEE_EL_TELR_RAIL e) = bitsOf w 23 0 ∧
        (t.el e).rail = some (bitsOf w 23 0) ∧ t.g (F.LEVEE_EL_STAT_TELL e) = 0 ∧ sameMem s t) ∧
  -- TELEMETRY_WORD of a status
  (∀ (n : Fin 24) (k : Fin 16) (w : Word) (e : Fin 96) (s : State),
      s.g (F.SAP_STAT_STATE n) = 2 ∨ s.g (F.SAP_STAT_STATE n) = 3 →
      (s.g (F.SAP_TEL_TEL n)).testBit k = true ∧ (s.g (F.SAP_MASK_ACTIVE_RX n)).testBit k = true →
      k.val ≤ s.g (F.SAP_FMT_SLOTS_M1 n) →
      s.g (F.SAP_STAT_SLOT_SLIP n) = 0 ∧ s.g (F.SAP_STAT_CLK_LOST n) = 0 →
      bitsOf w 31 28 = 5 →
      (s.el e).bound = true ∧ (s.el e).telEn = true ∧ (s.el e).telPort = n.val ∧ (s.el e).telCh = bitsOf w 27 24 →
      ∃ t, exec (.telemetryWord n k w) s = .next t ∧ (bitsOf w 1 1 = 1 → t.g (F.LEVEE_EL_STAT_OVERTEMP e) = 1) ∧
        (bitsOf w 4 4 = 1 → t.g (F.LEVEE_EL_STAT_CLIP e) = 1) ∧ (bitsOf w 0 0 = 1 ∨ bitsOf w 2 2 = 1 ∨ bitsOf w 3 3 = 1 →
        t.g (F.LEVEE_EL_STAT_AMPF e) = 1) ∧ t.g (F.LEVEE_EL_STAT_TELL e) = 0 ∧ sameMem s t) ∧
  -- TELEMETRY_WORD of a voltage or a temperature
  (∀ (n : Fin 24) (k : Fin 16) (w : Word) (e : Fin 96) (s : State),
      s.g (F.SAP_STAT_STATE n) = 2 ∨ s.g (F.SAP_STAT_STATE n) = 3 →
      (s.g (F.SAP_TEL_TEL n)).testBit k = true ∧ (s.g (F.SAP_MASK_ACTIVE_RX n)).testBit k = true →
      k.val ≤ s.g (F.SAP_FMT_SLOTS_M1 n) →
      s.g (F.SAP_STAT_SLOT_SLIP n) = 0 ∧ s.g (F.SAP_STAT_CLK_LOST n) = 0 →
      bitsOf w 31 28 = 2 ∨ bitsOf w 31 28 = 4 →
      (s.el e).bound = true ∧ (s.el e).telEn = true ∧ (s.el e).telPort = n.val ∧ (s.el e).telCh = bitsOf w 27 24 →
      ∃ t, exec (.telemetryWord n k w) s = .next t ∧ t.g (F.LEVEE_EL_STAT_TELL e) = 0 ∧ (s.g (F.LEVEE_EL_STAT_TELL e) = 0 →
        ∀ x : Fin 96, s.g (F.LEVEE_EL_STAT_TELL x) = 0 → t.el x = s.el x) ∧ sameMem s t) ∧
  -- TELEMETRY_WORD of the idle type
  (∀ (n : Fin 24) (k : Fin 16) (w : Word) (s : State),
      bitsOf w 31 28 = 0 →
      ∃ t, exec (.telemetryWord n k w) s = .next t ∧ t = s) ∧
  -- TELEMETRY_WORD on a slot that is not marked or not live, or from a port in clock trouble
  (∀ (n : Fin 24) (k : Fin 16) (w : Word) (s : State),
      (s.g (F.SAP_TEL_TEL n)).testBit k = false ∨ (s.g (F.SAP_MASK_ACTIVE_RX n)).testBit k = false ∨ s.g (F.SAP_STAT_SLOT_SLIP n) = 1 ∨ s.g (F.SAP_STAT_CLK_LOST n) = 1 →
      ∃ t, exec (.telemetryWord n k w) s = .next t ∧ t = s) ∧
  -- TELEMETRY_WORD of a reserved type
  (∀ (n : Fin 24) (k : Fin 16) (w : Word) (s : State),
      s.g (F.SAP_STAT_STATE n) = 2 ∨ s.g (F.SAP_STAT_STATE n) = 3 →
      (s.g (F.SAP_TEL_TEL n)).testBit k = true ∧ (s.g (F.SAP_MASK_ACTIVE_RX n)).testBit k = true →
      k.val ≤ s.g (F.SAP_FMT_SLOTS_M1 n) →
      s.g (F.SAP_STAT_SLOT_SLIP n) = 0 ∧ s.g (F.SAP_STAT_CLK_LOST n) = 0 →
      5 < bitsOf w 31 28 →
      ∃ t, exec (.telemetryWord n k w) s = .next t ∧
        (t.rd R.LEVEE_TEL_BAD).toNat = min ((s.rd R.LEVEE_TEL_BAD).toNat + 1) (2 ^ 32 - 1) ∧ confined s t [R.LEVEE_TEL_BAD]) ∧
  -- TELEM_LOSS
  (∀ (e : Fin 96) (s : State),
      (s.el e).bound = true ∧ (s.el e).telEn = true →
      s.g (F.LEVEE_EL_STAT_TELL e) = 0 →
      ∃ t, exec (.telemLoss e) s = .next t ∧ t.g (F.LEVEE_EL_STAT_TELL e) = 1 ∧ t.ft.blocks = addMsg s.ft.blocks ⟨e.val, 1,
        Kind.telemLoss, Src.levee (e.val / 8)⟩ ∧ sameMem s t) ∧
  -- TELEM_LOSS of an element without telemetry, or already lost
  (∀ (e : Fin 96) (s : State),
      (s.el e).bound = false ∨ (s.el e).telEn = false ∨ s.g (F.LEVEE_EL_STAT_TELL e) = 1 →
      ∃ t, exec (.telemLoss e) s = .next t ∧ t = s) ∧
  -- AMP_FLT_CHANGE to the active level
  (∀ (g : Fin 12) (e : Fin 96) (high : Bool) (s : State),
      high = decide (s.g F.LEVEE_CFG_FLT_POL = 1) →
      e.val / 8 = g.val ∧ (s.el e).bound = true →
      ∃ t, exec (.ampFltChange g high) s = .next t ∧ (t.g F.LEVEE_PINS_FLT).testBit g = true ∧ t.fltActive g = true ∧
        t.g (F.LEVEE_EL_STAT_AMPF e) = 1 ∧ sameMem s t) ∧
  -- AMP_FLT_CHANGE to the inactive level
  (∀ (g : Fin 12) (high : Bool) (s : State),
      high = decide (s.g F.LEVEE_CFG_FLT_POL = 0) →
      ∃ t, exec (.ampFltChange g high) s = .next t ∧ (t.g F.LEVEE_PINS_FLT).testBit g = false ∧ t.fltActive g = false ∧
        onlyRegs s t [R.LEVEE_PINS]) ∧
  -- DC_MUTE
  (∀ (e : Fin 96) (s : State),
      (s.el e).bound = true →
      (s.el e).dcHit = true →
      s.g (F.LEVEE_EL_STAT_DCF e) = 0 →
      ∃ t, exec (.dcMute e) s = .next t ∧ t.g (F.LEVEE_EL_STAT_DCF e) = 1 ∧ t.ft.blocks = addMsg s.ft.blocks ⟨e.val, 1,
        Kind.dcMute, Src.levee (e.val / 8)⟩ ∧ sameMem s t) ∧
  -- AMP_RETRY of a fault that is gone
  (∀ (e : Fin 96) (s : State),
      (s.el e).retry = true →
      s.retries e = true ∧ s.g F.LEVEE_CFG_RETRY_EN = 1 →
      s.g (F.LEVEE_EL_STAT_RETRIES e) < 15 →
      s.ampGone e = true →
      ∃ t, exec (.ampRetry e) s = .next t ∧ t.g (F.LEVEE_EL_STAT_AMPF e) = 0 ∧
        t.g (F.LEVEE_EL_STAT_RETRIES e) = s.g (F.LEVEE_EL_STAT_RETRIES e) + 1 ∧ t.ft = s.ft ∧ sameMem s t) ∧
  -- AMP_RETRY of a fault that lasts
  (∀ (e : Fin 96) (s : State),
      (s.el e).retry = true →
      s.retries e = true ∧ s.g F.LEVEE_CFG_RETRY_EN = 1 →
      s.g (F.LEVEE_EL_STAT_RETRIES e) < 15 →
      s.ampGone e = false →
      ∃ t, exec (.ampRetry e) s = .next t ∧ t.g (F.LEVEE_EL_STAT_AMPF e) = 1 ∧
        t.g (F.LEVEE_EL_STAT_RETRIES e) = s.g (F.LEVEE_EL_STAT_RETRIES e) + 1 ∧
        (s.g (F.LEVEE_EL_STAT_RETRIES e) + 1 < s.g F.LEVEE_CFG_RETRY_MAX → (t.el e).retry = true ∧ t.ft = s.ft) ∧
        (s.g F.LEVEE_CFG_RETRY_MAX ≤ s.g (F.LEVEE_EL_STAT_RETRIES e) + 1 → t.g (F.LEVEE_EL_STAT_LOCKED e) = 1 ∧
        t.ft.blocks = addMsg s.ft.blocks ⟨e.val, 1, Kind.ampLocked, Src.levee (e.val / 8)⟩)) ∧
  -- AMP_RETRY of an element that awaits none
  (∀ (e : Fin 96) (s : State),
      (s.el e).retry = false ∨ s.g (F.LEVEE_EL_STAT_AMPF e) = 0 ∨ s.g (F.LEVEE_EL_STAT_LOCKED e) = 1 →
      ∃ t, exec (.ampRetry e) s = .next t ∧ t = s) ∧
  -- AMP_RETRY with retries disabled
  (∀ (e : Fin 96) (s : State),
      (s.el e).retry = true ∧ s.retries e = true →
      s.g F.LEVEE_CFG_RETRY_EN = 0 →
      ∃ t, exec (.ampRetry e) s = .next t ∧ t.g (F.LEVEE_EL_STAT_AMPF e) = 1 ∧ t.retries e = false ∧ onlyRegs s t []) ∧
  -- RETRY_RESET of an element with a fault
  (∀ (e : Fin 96) (s : State),
      s.g (F.LEVEE_EL_STAT_AMPF e) = 1 →
      ∃ t, exec (.retryReset e) s = .next t ∧ t = s) ∧
  -- RETRY_RESET
  (∀ (e : Fin 96) (s : State),
      s.g (F.LEVEE_EL_STAT_AMPF e) = 0 →
      ∃ t, exec (.retryReset e) s = .next t ∧ t.g (F.LEVEE_EL_STAT_RETRIES e) = 0 ∧ t.g (F.LEVEE_EL_STAT_LOCKED e) = 0 ∧
        confined s t [R.LEVEE_EL_STAT e])

/-- At FENCE, while ticks run, a paired device that drives and knows its partner to hold a newer grant than its own stops
driving: DRIVING and every serial data and clock driver are 0; otherwise FENCE changes nothing. A GRANT newer than the
one held becomes the grant held, and an older one does not. At a GRANT a WAITING device will become ACTIVE at the next
boundary, a STANDBY becomes TAKING at once while ticks run and stays STANDBY while none run, and any other paired
device keeps its role. A REVOKE, a NOTICE and a GRANT_COPY teach the partner's newest grant; a NOTICE also ends a
pilot miss; a WAITING device that thus knows a newer grant than its own becomes STANDBY with an empty checkpoint and
its clusters off, and every other device keeps its role. A QUERY is answered over the Tether with a copy of the grant
held, and not where none is held. PILOT_MISS after two ticks without word raises PILOT_LOST where the partner misses
the pilot too and PILOT_PATH where it does not. TETHER_DOWN is raised and reported and makes a FRESH checkpoint
HEALING where the Tether's port is not ACTIVE or no heartbeat came for two ticks, and nothing changes where it is up.
GRANT_DEADLINE makes an ACTIVE device without this tick's grant ask its partner over the Tether, and else changes
nothing. An unpaired device takes none of them. Completes FENCE, GRANT, REVOKE, NOTICE, GRANT_COPY, QUERY, PILOT_MISS,
TETHER_DOWN, GRANT_DEADLINE. (R244, R245, R249, R250, R251, R252, R253, R254, R264) -/
def Obligations.PairRolesFollowGrants : Prop :=
  -- FENCE
  (∀ (n : Fin 24) (s : State),
      s.g F.PAIR_CFG_EN = 1 ∧ s.g F.TICK_STAT_RUNNING = 1 ∧ s.g F.PAIR_STAT_DRIVING = 1 →
      s.fenceDue = true →
      s.g F.PAIR_STAT_ROLE ≠ 0 →
      ∃ t, exec .fence s = .next t ∧ t.g F.PAIR_STAT_DRIVING = 0 ∧ t.g (F.SAP_STAT_SDOUT_DRV n) = 0 ∧
        t.g (F.SAP_STAT_CLK_DRV n) = 0 ∧ t.pr.fence = true ∧ sameMem s t) ∧
  -- FENCE otherwise
  (∀ (s : State),
      ¬(s.g F.PAIR_CFG_EN = 1 ∧ s.g F.TICK_STAT_RUNNING = 1 ∧ s.g F.PAIR_STAT_DRIVING = 1 ∧ s.fenceDue = true) →
      ∃ t, exec .fence s = .next t ∧ t = s) ∧
  -- GRANT that is newer
  (∀ (p : Fin 8) (e : Env) (g : BitVec 16 × BitVec 64) (ns : Nat) (s : State),
      s.arrives p e →
      s.g F.PAIR_CFG_EN = 1 →
      newest s.ownGrant (g.1.toNat, g.2.toNat) = some (g.1.toNat, g.2.toNat) →
      ∃ t, exec (.grant p e g ns) s = .next t ∧ t.g F.PAIR_GRANT_E_HELD = 1 ∧ t.g F.PAIR_GRANT_E_EPOCH = g.1.toNat ∧
        t.rd64 R.PAIR_GRANT_LO R.PAIR_GRANT_HI = g.2.toNat ∧ t.pr.granted = true) ∧
  -- GRANT that is not newer
  (∀ (p : Fin 8) (e : Env) (g : BitVec 16 × BitVec 64) (o : Nat × Nat) (ns : Nat) (s : State),
      s.arrives p e →
      s.ownGrant = some o ∧ newer (g.1.toNat, g.2.toNat) o = false ∧ (g.1.toNat, g.2.toNat) ≠ o →
      ∃ t, exec (.grant p e g ns) s = .next t ∧ t.rd R.PAIR_GRANT_LO = s.rd R.PAIR_GRANT_LO ∧
        t.rd R.PAIR_GRANT_HI = s.rd R.PAIR_GRANT_HI ∧ t.rd R.PAIR_GRANT_E = s.rd R.PAIR_GRANT_E) ∧
  -- GRANT at a WAITING device
  (∀ (p : Fin 8) (e : Env) (g : BitVec 16 × BitVec 64) (ns : Nat) (s : State),
      s.arrives p e →
      s.g F.PAIR_CFG_EN = 1 ∧ s.g F.PAIR_STAT_ROLE = 1 →
      ∃ t, exec (.grant p e g ns) s = .next t ∧ t.pr.next = some 2 ∧ t.g F.PAIR_STAT_ROLE = 1 ∧ sameMem s t) ∧
  -- GRANT at a STANDBY while ticks run
  (∀ (p : Fin 8) (e : Env) (g : BitVec 16 × BitVec 64) (ns : Nat) (s : State),
      s.arrives p e →
      s.g F.PAIR_CFG_EN = 1 ∧ s.g F.PAIR_STAT_ROLE = 3 ∧ s.g F.TICK_STAT_RUNNING = 1 →
      ∃ t, exec (.grant p e g ns) s = .next t ∧ t.g F.PAIR_STAT_ROLE = 4 ∧ (t.pr.take.any (fun k => k.k == s.tick)) = true) ∧
  -- GRANT at a STANDBY while no tick runs, and at a device of another role
  (∀ (p : Fin 8) (e : Env) (g : BitVec 16 × BitVec 64) (ns : Nat) (s : State),
      s.arrives p e →
      s.g F.PAIR_CFG_EN = 1 ∧ s.g F.PAIR_STAT_ROLE ≠ 1 ∧ ¬(s.g F.PAIR_STAT_ROLE = 3 ∧ s.g F.TICK_STAT_RUNNING = 1) →
      ∃ t, exec (.grant p e g ns) s = .next t ∧ t.g F.PAIR_STAT_ROLE = s.g F.PAIR_STAT_ROLE ∧ t.pr.take = s.pr.take ∧
        t.pr.next = s.pr.next ∧ sameMem s t) ∧
  -- REVOKE
  (∀ (p : Fin 8) (e : Env) (g : BitVec 16 × BitVec 64) (s : State),
      s.arrives p e →
      s.g F.PAIR_CFG_EN = 1 ∧ s.g F.PAIR_STAT_ROLE ≠ 1 →
      ∃ t, exec (.revoke p e g) s = .next t ∧ t.pr.peerGrant = newest s.pr.peerGrant (g.1.toNat, g.2.toNat) ∧
        t.g F.PAIR_STAT_ROLE = s.g F.PAIR_STAT_ROLE ∧ onlyRegs s t []) ∧
  -- GRANT_COPY
  (∀ (p : Fin 8) (e : Env) (g : BitVec 16 × BitVec 64) (s : State),
      s.arrives p e →
      s.g F.PAIR_CFG_EN = 1 ∧ s.g F.PAIR_STAT_ROLE ≠ 1 →
      ∃ t, exec (.grantCopy p e g) s = .next t ∧ t.pr.peerGrant = newest s.pr.peerGrant (g.1.toNat, g.2.toNat) ∧
        t.g F.PAIR_STAT_ROLE = s.g F.PAIR_STAT_ROLE ∧ onlyRegs s t []) ∧
  -- NOTICE
  (∀ (p : Fin 8) (e : Env) (g : BitVec 16 × BitVec 64) (s : State),
      s.arrives p e →
      s.g F.PAIR_CFG_EN = 1 ∧ s.g F.PAIR_STAT_ROLE ≠ 1 →
      ∃ t, exec (.notice p e g) s = .next t ∧ t.pr.peerGrant = newest s.pr.peerGrant (g.1.toNat, g.2.toNat) ∧
        t.pr.granted = true ∧ t.pr.miss = false ∧ t.pr.pilotAge = 0 ∧ t.g F.PAIR_STAT_PILOT_LOST = 0 ∧
        t.g F.PAIR_STAT_PILOT_PATH = 0 ∧ t.g F.PAIR_STAT_ROLE = s.g F.PAIR_STAT_ROLE ∧ onlyRegs s t [R.PAIR_STAT]) ∧
  -- REVOKE at a WAITING device that thus knows a newer grant than its own
  (∀ (p : Fin 8) (e : Env) (g : BitVec 16 × BitVec 64) (s : State),
      s.arrives p e →
      s.g F.PAIR_CFG_EN = 1 ∧ s.g F.PAIR_STAT_ROLE = 1 →
      s.ownGrant.all (newer (g.1.toNat, g.2.toNat)) = true →
      ∃ t, exec (.revoke p e g) s = .next t ∧ t.pr.peerGrant = newest s.pr.peerGrant (g.1.toNat, g.2.toNat) ∧
        t.g F.PAIR_STAT_ROLE = 3 ∧ t.g F.PAIR_STAT_CKPT = 1 ∧ (∀ c : Fin 16, t.g (F.CL_STAT_STATE c) = 0)) ∧
  -- GRANT_COPY at a WAITING device that thus knows a newer grant than its own
  (∀ (p : Fin 8) (e : Env) (g : BitVec 16 × BitVec 64) (s : State),
      s.arrives p e →
      s.g F.PAIR_CFG_EN = 1 ∧ s.g F.PAIR_STAT_ROLE = 1 →
      s.ownGrant.all (newer (g.1.toNat, g.2.toNat)) = true →
      ∃ t, exec (.grantCopy p e g) s = .next t ∧ t.pr.peerGrant = newest s.pr.peerGrant (g.1.toNat, g.2.toNat) ∧
        t.g F.PAIR_STAT_ROLE = 3 ∧ t.g F.PAIR_STAT_CKPT = 1 ∧ (∀ c : Fin 16, t.g (F.CL_STAT_STATE c) = 0)) ∧
  -- NOTICE at a WAITING device that thus knows a newer grant than its own
  (∀ (p : Fin 8) (e : Env) (g : BitVec 16 × BitVec 64) (s : State),
      s.arrives p e →
      s.g F.PAIR_CFG_EN = 1 ∧ s.g F.PAIR_STAT_ROLE = 1 →
      s.ownGrant.all (newer (g.1.toNat, g.2.toNat)) = true →
      ∃ t, exec (.notice p e g) s = .next t ∧ t.pr.peerGrant = newest s.pr.peerGrant (g.1.toNat, g.2.toNat) ∧
        t.g F.PAIR_STAT_ROLE = 3 ∧ t.g F.PAIR_STAT_CKPT = 1 ∧ (∀ c : Fin 16, t.g (F.CL_STAT_STATE c) = 0)) ∧
  -- QUERY
  (∀ (p : Fin 8) (e : Env) (g : BitVec 16 × BitVec 64) (o : Nat × Nat) (s : State),
      s.g (F.NGL_STAT_STATE p) = 6 ∧ s.g F.FAB_ID_VALID = 1 ∧ e.dst = s.g F.FAB_ID_ID →
      s.g F.PAIR_CFG_EN = 1 ∧ s.ownGrant = some o →
      s.g (F.NGL_STAT_STATE (s.g F.PAIR_CFG_TETHER)) = 6 ∧ (s.ngl (s.g F.PAIR_CFG_TETHER)).quiet = false →
      s.fb.txq = [] ∧ s.pw.owned = false →
      ∃ t, exec (.query p e g) s = .next t ∧
        t.out = s.out ++ [.msg (s.g F.PAIR_CFG_TETHER) (s.envTo (s.g F.PAIR_CFG_PARTNER) 2) (grantWords (s.g F.PAIR_CFG_PSLOT) 2 o)] ∧ confined s t []) ∧
  -- QUERY of a device that holds no grant
  (∀ (p : Fin 8) (e : Env) (g : BitVec 16 × BitVec 64) (s : State),
      s.arrives p e →
      s.ownGrant = none →
      ∃ t, exec (.query p e g) s = .next t ∧ t = s) ∧
  -- PILOT_MISS
  (∀ (s : State),
      s.g F.PAIR_CFG_EN = 1 ∧ 2 ≤ s.pr.pilotAge →
      ∃ t, exec .pilotMiss s = .next t ∧ t.pr.miss = true ∧ (t.g F.PAIR_STAT_PILOT_LOST = 1 ↔ ∃ b, s.pr.peer = some b ∧
        b.miss = true) ∧ t.g F.PAIR_STAT_PILOT_PATH = 1 - t.g F.PAIR_STAT_PILOT_LOST ∧ onlyRegs s t [R.PAIR_STAT]) ∧
  -- PILOT_MISS with word from the pilot
  (∀ (s : State),
      s.pr.pilotAge < 2 →
      ∃ t, exec .pilotMiss s = .next t ∧ t = s) ∧
  -- TETHER_DOWN
  (∀ (s : State),
      s.g F.PAIR_CFG_EN = 1 ∧ s.g F.PAIR_STAT_TETHER_DOWN = 0 →
      s.g (F.NGL_STAT_STATE (s.g F.PAIR_CFG_TETHER)) ≠ 6 ∨ 2 ≤ s.pr.peerAge →
      ∃ t, exec .tetherDown s = .next t ∧ t.g F.PAIR_STAT_TETHER_DOWN = 1 ∧ (∃ f ∈ t.ft.blocks, f.kind = Kind.tetherDown) ∧
        (s.g F.PAIR_STAT_CKPT = 3 → t.g F.PAIR_STAT_CKPT = 2) ∧ (s.g F.PAIR_STAT_CKPT ≠ 3 →
        t.g F.PAIR_STAT_CKPT = s.g F.PAIR_STAT_CKPT) ∧ onlyRegs s t [R.PAIR_STAT]) ∧
  -- TETHER_DOWN of a Tether that is up, or known to be down
  (∀ (s : State),
      (s.g (F.NGL_STAT_STATE (s.g F.PAIR_CFG_TETHER)) = 6 ∧ s.pr.peerAge < 2) ∨ s.g F.PAIR_STAT_TETHER_DOWN = 1 →
      ∃ t, exec .tetherDown s = .next t ∧ t = s) ∧
  -- GRANT_DEADLINE
  (∀ (o : Nat × Nat) (s : State),
      s.g F.PAIR_CFG_EN = 1 ∧ s.g F.TICK_STAT_RUNNING = 1 ∧ s.g F.PAIR_STAT_ROLE = 2 →
      s.ownGrant.getD (0, 0) = o ∧ (s.ownGrant.all (fun x => x.2 != s.tick)) = true →
      s.g F.FAB_ID_VALID = 1 ∧ s.g (F.NGL_STAT_STATE (s.g F.PAIR_CFG_TETHER)) = 6 ∧
        (s.ngl (s.g F.PAIR_CFG_TETHER)).quiet = false →
      s.fb.txq = [] ∧ s.pw.owned = false →
      ∃ t, exec .grantDeadline s = .next t ∧
        t.out = s.out ++ [.msg (s.g F.PAIR_CFG_TETHER) (s.envTo (s.g F.PAIR_CFG_PARTNER) 2) (grantWords (s.g F.PAIR_CFG_PSLOT) 1 o)] ∧ confined s t []) ∧
  -- GRANT_DEADLINE otherwise
  (∀ (s : State),
      s.g F.TICK_STAT_RUNNING = 0 ∨ s.g F.PAIR_STAT_ROLE ≠ 2 ∨ s.ownGrant.map Prod.snd = some s.tick →
      ∃ t, exec .grantDeadline s = .next t ∧ t = s) ∧
  -- GRANT at an unpaired device
  (∀ (p : Fin 8) (e : Env) (g : BitVec 16 × BitVec 64) (ns : Nat) (s : State),
      s.arrives p e →
      s.g F.PAIR_CFG_EN = 0 →
      ∃ t, exec (.grant p e g ns) s = .next t ∧ t = s) ∧
  -- REVOKE at an unpaired device
  (∀ (p : Fin 8) (e : Env) (g : BitVec 16 × BitVec 64) (s : State),
      s.arrives p e →
      s.g F.PAIR_CFG_EN = 0 →
      ∃ t, exec (.revoke p e g) s = .next t ∧ t = s) ∧
  -- NOTICE at an unpaired device
  (∀ (p : Fin 8) (e : Env) (g : BitVec 16 × BitVec 64) (s : State),
      s.arrives p e →
      s.g F.PAIR_CFG_EN = 0 →
      ∃ t, exec (.notice p e g) s = .next t ∧ t = s) ∧
  -- GRANT_COPY at an unpaired device
  (∀ (p : Fin 8) (e : Env) (g : BitVec 16 × BitVec 64) (s : State),
      s.arrives p e →
      s.g F.PAIR_CFG_EN = 0 →
      ∃ t, exec (.grantCopy p e g) s = .next t ∧ t = s) ∧
  -- QUERY at an unpaired device
  (∀ (p : Fin 8) (e : Env) (g : BitVec 16 × BitVec 64) (s : State),
      s.arrives p e →
      s.g F.PAIR_CFG_EN = 0 →
      ∃ t, exec (.query p e g) s = .next t ∧ t = s) ∧
  -- PILOT_MISS, TETHER_DOWN and GRANT_DEADLINE at an unpaired device
  (∀ (s : State),
      s.g F.PAIR_CFG_EN = 0 →
      exec .pilotMiss s = .next s ∧ exec .tetherDown s = .next s ∧ exec .grantDeadline s = .next s)

/-- A heartbeat of a member of an enabled slot is kept as that member's latest at a pilot, one of role FAILED from the
member granted moves the grant to the other where that one is good, one from the partner is kept as the partner's, and
one from any other device changes nothing. At PILOT_DEADLINE a slot without a grant goes to a good ACTIVE member, else
to A if good, else to B if good, else to none. A slot granted to a member keeps it while its heartbeat of this tick is
good and no change is asked for; where SWITCH or the member's failover asks, it moves if the other is good and READY,
and otherwise stays, a SWITCH being refused; it moves where only the other is good, and where none is good the slot is
DARK. A move is counted and reported, a DARK slot is reported, and the GRANT goes out to the member kept.
PILOT_DEADLINE changes nothing before the pilot has run two ticks. PILOT_CTL_WRITE that enables the role forgets every
grant and heartbeat; one that clears EN stops it. PILOT_PAIR_WRITE takes two devices that no other enabled slot names
and that are not this device, forgetting the slot's grant where it changes, and refuses any other.
PILOT_SWITCH_REQUEST raises SWITCH. PAIR_CFG_WRITE enables pairing into WAITING, or ends it, and is refused while
ticks run or where it names this device. PAIR_SIG_DONE shows the signature while one is computed. Completes HEARTBEAT,
PILOT_DEADLINE, PILOT_CTL_WRITE, PILOT_PAIR_WRITE, PILOT_SWITCH_REQUEST, PAIR_CFG_WRITE, PAIR_SIG_DONE. (R240, R242,
R246, R248, R249, R276) -/
def Obligations.PilotGrantsOneMemberOfAPair : Prop :=
  -- HEARTBEAT at the pilot
  (∀ (p : Fin 8) (e : Env) (ws : List Word) (m : Fin 2) (s : State),
      s.arrives p e →
      s.g F.PILOT_CTL_EN = 1 ∧ s.g (F.PILOT_PAIR_EN (bitsOf (ws.getD 0 0) 15 12)) = 1 →
      e.src = s.member (bitsOf (ws.getD 0 0) 15 12) m ∧ (m = 1 → e.src ≠ s.member (bitsOf (ws.getD 0 0) 15 12) 0) →
      ∃ t, exec (.heartbeat p e ws) s = .next t ∧ t.beat (bitsOf (ws.getD 0 0) 15 12) m = some (readBeat ws) ∧
        ((readBeat ws).role ≠ 5 →
        t.g (F.PILOT_PSTAT_STATE (bitsOf (ws.getD 0 0) 15 12)) = s.g (F.PILOT_PSTAT_STATE (bitsOf (ws.getD 0 0) 15 12))) ∧
        sameMem s t) ∧
  -- HEARTBEAT of a granted member that has failed
  (∀ (p : Fin 8) (e : Env) (ws : List Word) (m : Fin 2) (s : State),
      s.arrives p e →
      s.g F.PILOT_CTL_EN = 1 ∧ s.g (F.PILOT_PAIR_EN (bitsOf (ws.getD 0 0) 15 12)) = 1 →
      e.src = s.member (bitsOf (ws.getD 0 0) 15 12) m ∧ (m = 1 → e.src ≠ s.member (bitsOf (ws.getD 0 0) 15 12) 0) →
      bitsOf (ws.getD 0 0) 2 0 = 5 ∧ s.g (F.PILOT_PSTAT_STATE (bitsOf (ws.getD 0 0) 15 12)) = m + 1 →
      s.goodBeat (bitsOf (ws.getD 0 0) 15 12) (1 - m) s.tick = true ∨ s.goodBeat (bitsOf (ws.getD 0 0) 15 12) (1 - m) (s.tick - 1) = true →
      ∃ t, exec (.heartbeat p e ws) s = .next t ∧ t.g (F.PILOT_PSTAT_STATE (bitsOf (ws.getD 0 0) 15 12)) = 2 - m ∧
        t.g (F.PILOT_PSTAT_SWITCHES (bitsOf (ws.getD 0 0) 15 12)) = min (s.g (F.PILOT_PSTAT_SWITCHES (bitsOf (ws.getD 0 0) 15 12)) + 1) 65535 ∧ (∃ f ∈ t.ft.blocks, f.kind = Kind.pilotSwitch)) ∧
  -- HEARTBEAT as the partner's copy
  (∀ (p : Fin 8) (e : Env) (ws : List Word) (s : State),
      s.arrives p e →
      s.g F.PAIR_CFG_EN = 1 ∧ e.src = s.g F.PAIR_CFG_PARTNER →
      ∃ t, exec (.heartbeat p e ws) s = .next t ∧ t.pr.peer = some (readBeat ws) ∧ t.pr.peerAge = 0 ∧ (s.g F.PILOT_CTL_EN = 0 →
        s.g (F.NGL_STAT_STATE (s.g F.PAIR_CFG_TETHER)) = 6 → t.g F.PAIR_STAT_TETHER_DOWN = 0) ∧ (s.g F.PILOT_CTL_EN = 0 →
        onlyRegs s t [R.PAIR_STAT])) ∧
  -- HEARTBEAT of another device
  (∀ (p : Fin 8) (e : Env) (ws : List Word) (s : State),
      s.arrives p e →
      s.g F.PILOT_CTL_EN = 0 ∨ s.g (F.PILOT_PAIR_EN (bitsOf (ws.getD 0 0) 15 12)) = 0 ∨ (e.src ≠ s.member (bitsOf (ws.getD 0 0) 15 12) 0 ∧ e.src ≠ s.member (bitsOf (ws.getD 0 0) 15 12) 1) →
      s.g F.PAIR_CFG_EN = 0 ∨ e.src ≠ s.g F.PAIR_CFG_PARTNER →
      ∃ t, exec (.heartbeat p e ws) s = .next t ∧ t = s) ∧
  -- PILOT_DEADLINE of a slot without a grant
  (∀ (p : Fin 16) (s : State),
      s.g F.TICK_STAT_RUNNING = 1 ∧ s.g F.PILOT_CTL_EN = 1 ∧ 2 ≤ s.pr.pilotTicks ∧ s.g (F.PILOT_PAIR_EN p) = 1 →
      s.g (F.PILOT_PSTAT_STATE p) = 0 →
      ∃ t, exec .pilotDeadline s = .next t ∧ t.g (F.PILOT_PSTAT_STATE p) =
        (if s.goodBeat p 0 s.tick = true ∧ (s.beat p 0).any (fun b => b.role == 2) = true then 1
        else if s.goodBeat p 1 s.tick = true ∧ (s.beat p 1).any (fun b => b.role == 2) = true then 2
        else if s.goodBeat p 0 s.tick = true then 1 else if s.goodBeat p 1 s.tick = true then 2 else 0) ∧
        t.g (F.PILOT_PSTAT_SWITCHES p) = s.g (F.PILOT_PSTAT_SWITCHES p) ∧ sameMem s t) ∧
  -- PILOT_DEADLINE with a good holder and no change asked for
  (∀ (p : Fin 16) (m : Fin 2) (s : State),
      s.g F.TICK_STAT_RUNNING = 1 ∧ s.g F.PILOT_CTL_EN = 1 ∧ 2 ≤ s.pr.pilotTicks ∧ s.g (F.PILOT_PAIR_EN p) = 1 →
      s.g (F.PILOT_PSTAT_STATE p) = m + 1 →
      s.goodBeat p m s.tick = true →
      ¬(s.g (F.PILOT_PAIR_SWITCH p) = 1 ∨ (s.beat p m).any Beat.failover = true) →
      ∃ t, exec .pilotDeadline s = .next t ∧ t.g (F.PILOT_PSTAT_STATE p) = m + 1 ∧
        t.g (F.PILOT_PSTAT_A_GOOD p) = (s.goodBeat p 0 s.tick).toNat ∧
        t.g (F.PILOT_PSTAT_B_GOOD p) = (s.goodBeat p 1 s.tick).toNat ∧
        t.g (F.PILOT_PSTAT_SWITCHES p) = s.g (F.PILOT_PSTAT_SWITCHES p) ∧ sameMem s t) ∧
  -- PILOT_DEADLINE sends the GRANT of a slot kept
  (∀ (p : Fin 16) (m : Fin 2) (q : Nat) (s : State),
      s.g F.TICK_STAT_RUNNING = 1 ∧ s.g F.PILOT_CTL_EN = 1 ∧ 2 ≤ s.pr.pilotTicks ∧ s.g (F.PILOT_PAIR_EN p) = 1 →
      s.g (F.PILOT_PSTAT_STATE p) = m + 1 →
      s.goodBeat p m s.tick = true →
      ¬(s.g (F.PILOT_PAIR_SWITCH p) = 1 ∨ (s.beat p m).any Beat.failover = true) →
      s.g F.FAB_ID_VALID = 1 ∧ s.routeTo (s.member p m) = some q ∧ (s.ngl q).quiet = false →
      s.fb.txq = [] ∧ s.pw.owned = false ∧ s.pr.epochKnown = true →
      ∃ t, exec .pilotDeadline s = .next t ∧ Out.msg q (s.envTo (s.member p m) 2) (grantWords p 0 (s.g F.PILOT_CTL_EPOCH,
        s.tick)) ∈ t.out) ∧
  -- PILOT_DEADLINE with a good holder, a change asked for and the other member ready
  (∀ (p : Fin 16) (m : Fin 2) (s : State),
      s.g F.TICK_STAT_RUNNING = 1 ∧ s.g F.PILOT_CTL_EN = 1 ∧ 2 ≤ s.pr.pilotTicks ∧ s.g (F.PILOT_PAIR_EN p) = 1 →
      s.g (F.PILOT_PSTAT_STATE p) = m + 1 →
      s.goodBeat p m s.tick = true →
      (s.g (F.PILOT_PAIR_SWITCH p) = 1 ∨ (s.beat p m).any Beat.failover = true) →
      (s.goodBeat p (1 - m) s.tick = true ∧ (s.beat p (1 - m)).any (fun b => b.ready == 2) = true) →
      ∃ t, exec .pilotDeadline s = .next t ∧ t.g (F.PILOT_PSTAT_STATE p) = 2 - m ∧
        t.g (F.PILOT_PSTAT_SWITCHES p) = min (s.g (F.PILOT_PSTAT_SWITCHES p) + 1) 65535 ∧ t.g (F.PILOT_PAIR_SWITCH p) = 0 ∧
        (∃ f ∈ t.ft.blocks, f.kind = Kind.pilotSwitch)) ∧
  -- PILOT_DEADLINE with a good holder, a change asked for and the other member not ready
  (∀ (p : Fin 16) (m : Fin 2) (s : State),
      s.g F.TICK_STAT_RUNNING = 1 ∧ s.g F.PILOT_CTL_EN = 1 ∧ 2 ≤ s.pr.pilotTicks ∧ s.g (F.PILOT_PAIR_EN p) = 1 →
      s.g (F.PILOT_PSTAT_STATE p) = m + 1 →
      s.goodBeat p m s.tick = true →
      (s.g (F.PILOT_PAIR_SWITCH p) = 1 ∨ (s.beat p m).any Beat.failover = true) →
      ¬(s.goodBeat p (1 - m) s.tick = true ∧ (s.beat p (1 - m)).any (fun b => b.ready == 2) = true) →
      ∃ t, exec .pilotDeadline s = .next t ∧ t.g (F.PILOT_PSTAT_STATE p) = m + 1 ∧ t.g (F.PILOT_PAIR_SWITCH p) = 0 ∧
        (s.g (F.PILOT_PAIR_SWITCH p) = 1 → t.g (F.PILOT_PAIR_SW_REFUSED p) = 1) ∧
        t.g (F.PILOT_PSTAT_SWITCHES p) = s.g (F.PILOT_PSTAT_SWITCHES p)) ∧
  -- PILOT_DEADLINE with only the other member good
  (∀ (p : Fin 16) (m : Fin 2) (s : State),
      s.g F.TICK_STAT_RUNNING = 1 ∧ s.g F.PILOT_CTL_EN = 1 ∧ 2 ≤ s.pr.pilotTicks ∧ s.g (F.PILOT_PAIR_EN p) = 1 →
      s.g (F.PILOT_PSTAT_STATE p) = m + 1 →
      s.goodBeat p m s.tick = false ∧ s.goodBeat p (1 - m) s.tick = true →
      ∃ t, exec .pilotDeadline s = .next t ∧ t.g (F.PILOT_PSTAT_STATE p) = 2 - m ∧
        t.g (F.PILOT_PSTAT_A_GOOD p) = (s.goodBeat p 0 s.tick).toNat ∧
        t.g (F.PILOT_PSTAT_B_GOOD p) = (s.goodBeat p 1 s.tick).toNat ∧
        t.g (F.PILOT_PSTAT_SWITCHES p) = min (s.g (F.PILOT_PSTAT_SWITCHES p) + 1) 65535 ∧ (∃ f ∈ t.ft.blocks,
        f.kind = Kind.pilotSwitch)) ∧
  -- PILOT_DEADLINE with no member good
  (∀ (p : Fin 16) (m : Fin 2) (s : State),
      s.g F.TICK_STAT_RUNNING = 1 ∧ s.g F.PILOT_CTL_EN = 1 ∧ 2 ≤ s.pr.pilotTicks ∧ s.g (F.PILOT_PAIR_EN p) = 1 →
      s.g (F.PILOT_PSTAT_STATE p) = m + 1 →
      s.goodBeat p 0 s.tick = false ∧ s.goodBeat p 1 s.tick = false →
      ∃ t, exec .pilotDeadline s = .next t ∧ t.g (F.PILOT_PSTAT_STATE p) = m + 1 ∧ t.g (F.PILOT_PSTAT_DARK p) = 1 ∧
        t.g (F.PILOT_PSTAT_A_GOOD p) = (s.goodBeat p 0 s.tick).toNat ∧
        t.g (F.PILOT_PSTAT_B_GOOD p) = (s.goodBeat p 1 s.tick).toNat ∧ (∃ f ∈ t.ft.blocks, f.kind = Kind.pairDark)) ∧
  -- PILOT_DEADLINE before two ticks of the pilot
  (∀ (s : State),
      s.g F.TICK_STAT_RUNNING = 0 ∨ s.g F.PILOT_CTL_EN = 0 ∨ s.pr.pilotTicks < 2 →
      ∃ t, exec .pilotDeadline s = .next t ∧ t = s) ∧
  -- PILOT_CTL_WRITE that enables
  (∀ (p : Fin 16) (v : Word) (s : State),
      s.g F.PILOT_CTL_EN = 0 →
      v.getLsbD 31 = true →
      ∃ t, exec (.pilotCtlWrite v) s = .next t ∧ t.g F.PILOT_CTL_EN = 1 ∧ t.g (F.PILOT_PSTAT_STATE p) = 0 ∧ t.pr.beats = [] ∧
        t.pr.epochKnown = false ∧ sameMem s t) ∧
  -- PILOT_CTL_WRITE that disables, or finds the role enabled
  (∀ (v : Word) (s : State),
      s.g F.PILOT_CTL_EN = 1 ∨ v.getLsbD 31 = false →
      ∃ t, exec (.pilotCtlWrite v) s = .next t ∧ t.g F.PILOT_CTL_EN = bitsOf v 31 31 ∧ confined s t [R.PILOT_CTL]) ∧
  -- PILOT_PAIR_WRITE
  (∀ (p : Fin 16) (v : Word) (s : State),
      bitsOf v 5 0 ≠ bitsOf v 13 8 →
      (s.g F.FAB_ID_VALID = 1 → bitsOf v 5 0 ≠ s.g F.FAB_ID_ID ∧ bitsOf v 13 8 ≠ s.g F.FAB_ID_ID) →
      (∀ q : Fin 16, q ≠ p → s.g (F.PILOT_PAIR_EN q) = 1 → ∀ m : Fin 2, s.member q m ≠ bitsOf v 5 0 ∧
        s.member q m ≠ bitsOf v 13 8) →
      ∃ t, exec (.pilotPairWrite p v) s = .next t ∧ t.g (F.PILOT_PAIR_DEV_A p) = bitsOf v 5 0 ∧
        t.g (F.PILOT_PAIR_DEV_B p) = bitsOf v 13 8 ∧ t.g (F.PILOT_PAIR_EN p) = bitsOf v 31 31 ∧
        t.g (F.PILOT_PSTAT_STATE p) = (if bitsOf v 5 0 = s.g (F.PILOT_PAIR_DEV_A p) ∧
        bitsOf v 13 8 = s.g (F.PILOT_PAIR_DEV_B p) ∧
        bitsOf v 31 31 = s.g (F.PILOT_PAIR_EN p) then s.g (F.PILOT_PSTAT_STATE p) else 0) ∧ onlyRegs s t [R.PILOT_PAIR p,
        R.PILOT_PSTAT p]) ∧
  -- PILOT_PAIR_WRITE refused
  (∀ (p : Fin 16) (v : Word) (s : State),
      bitsOf v 5 0 = bitsOf v 13 8 ∨ (s.g F.FAB_ID_VALID = 1 ∧
        (bitsOf v 5 0 = s.g F.FAB_ID_ID ∨ bitsOf v 13 8 = s.g F.FAB_ID_ID)) ∨ (∃ q : Fin 16, q ≠ p ∧
        s.g (F.PILOT_PAIR_EN q) = 1 ∧ ∃ m : Fin 2, s.member q m = bitsOf v 5 0 ∨ s.member q m = bitsOf v 13 8) →
      ∃ t, exec (.pilotPairWrite p v) s = .next t ∧ t.g (F.PILOT_PAIR_SW_REFUSED p) = 1 ∧
        t.g (F.PILOT_PAIR_EN p) = s.g (F.PILOT_PAIR_EN p) ∧ t.g (F.PILOT_PAIR_DEV_A p) = s.g (F.PILOT_PAIR_DEV_A p) ∧
        t.g (F.PILOT_PAIR_DEV_B p) = s.g (F.PILOT_PAIR_DEV_B p) ∧ confined s t [R.PILOT_PAIR p]) ∧
  -- PILOT_SWITCH_REQUEST
  (∀ (p : Fin 16) (v : Word) (s : State),
      bitsOf v 5 0 = s.g (F.PILOT_PAIR_DEV_A p) ∧ bitsOf v 13 8 = s.g (F.PILOT_PAIR_DEV_B p) ∧
        bitsOf v 31 31 = s.g (F.PILOT_PAIR_EN p) →
      bitsOf v 5 0 ≠ bitsOf v 13 8 →
      (s.g F.FAB_ID_VALID = 1 → bitsOf v 5 0 ≠ s.g F.FAB_ID_ID ∧ bitsOf v 13 8 ≠ s.g F.FAB_ID_ID) →
      (∀ q : Fin 16, q ≠ p → s.g (F.PILOT_PAIR_EN q) = 1 → ∀ m : Fin 2, s.member q m ≠ bitsOf v 5 0 ∧
        s.member q m ≠ bitsOf v 13 8) →
      ∃ t, exec (.pilotSwitchRequest p v) s = .next t ∧ t.g (F.PILOT_PAIR_SWITCH p) = 1 ∧
        t.g (F.PILOT_PSTAT_STATE p) = s.g (F.PILOT_PSTAT_STATE p) ∧ confined s t [R.PILOT_PAIR p]) ∧
  -- PILOT_SWITCH_REQUEST that changes the slot too
  (∀ (p : Fin 16) (v : Word) (s : State),
      ¬(bitsOf v 5 0 = s.g (F.PILOT_PAIR_DEV_A p) ∧ bitsOf v 13 8 = s.g (F.PILOT_PAIR_DEV_B p) ∧
        bitsOf v 31 31 = s.g (F.PILOT_PAIR_EN p)) →
      bitsOf v 5 0 ≠ bitsOf v 13 8 →
      (s.g F.FAB_ID_VALID = 1 → bitsOf v 5 0 ≠ s.g F.FAB_ID_ID ∧ bitsOf v 13 8 ≠ s.g F.FAB_ID_ID) →
      (∀ q : Fin 16, q ≠ p → s.g (F.PILOT_PAIR_EN q) = 1 → ∀ m : Fin 2, s.member q m ≠ bitsOf v 5 0 ∧
        s.member q m ≠ bitsOf v 13 8) →
      ∃ t, exec (.pilotSwitchRequest p v) s = .next t ∧ t.g (F.PILOT_PAIR_SWITCH p) = 1 ∧ t.g (F.PILOT_PSTAT_STATE p) = 0 ∧
        onlyRegs s t [R.PILOT_PAIR p, R.PILOT_PSTAT p]) ∧
  -- PAIR_CFG_WRITE that enables
  (∀ (v : Word) (s : State),
      s.g F.TICK_STAT_RUNNING = 0 ∧ s.g F.PAIR_CFG_EN = 0 →
      (s.g F.FAB_ID_VALID = 1 → bitsOf v 21 16 ≠ s.g F.FAB_ID_ID ∧ bitsOf v 13 8 ≠ s.g F.FAB_ID_ID) →
      v.getLsbD 31 = true →
      s.g F.PAIR_STAT_ROLE = 0 →
      ∃ t, exec (.pairCfgWrite v) s = .next t ∧ t.g F.PAIR_CFG_EN = 1 ∧ t.g F.PAIR_CFG_PARTNER = F.PAIR_CFG_PARTNER.of v ∧
        t.g F.PAIR_CFG_PILOT = F.PAIR_CFG_PILOT.of v ∧ t.g F.PAIR_STAT_ROLE = 1 ∧ t.g F.PAIR_STAT_DRIVING = 0 ∧
        t.pr.peerGrant = none) ∧
  -- PAIR_CFG_WRITE that ends pairing
  (∀ (v : Word) (s : State),
      s.g F.TICK_STAT_RUNNING = 0 ∧ s.g F.PAIR_CFG_EN = 1 →
      (s.g F.FAB_ID_VALID = 1 → bitsOf v 21 16 ≠ s.g F.FAB_ID_ID ∧ bitsOf v 13 8 ≠ s.g F.FAB_ID_ID) →
      v.getLsbD 31 = false →
      ∃ t, exec (.pairCfgWrite v) s = .next t ∧ t.g F.PAIR_CFG_EN = 0 ∧ t.g F.PAIR_STAT_ROLE = 0 ∧
        t.g F.PAIR_STAT_DRIVING = 0 ∧ t.g F.PAIR_STAT_TETHER_DOWN = 0 ∧ t.pr.peerGrant = none) ∧
  -- PAIR_CFG_WRITE that keeps EN
  (∀ (v : Word) (s : State),
      s.g F.TICK_STAT_RUNNING = 0 ∧ s.g F.PAIR_CFG_EN = bitsOf v 31 31 →
      (s.g F.FAB_ID_VALID = 1 → bitsOf v 21 16 ≠ s.g F.FAB_ID_ID ∧ bitsOf v 13 8 ≠ s.g F.FAB_ID_ID) →
      ∃ t, exec (.pairCfgWrite v) s = .next t ∧ t.g F.PAIR_CFG_EN = s.g F.PAIR_CFG_EN ∧
        t.g F.PAIR_CFG_PARTNER = F.PAIR_CFG_PARTNER.of v ∧ t.g F.PAIR_CFG_PILOT = F.PAIR_CFG_PILOT.of v ∧
        t.g F.PAIR_STAT_ROLE = s.g F.PAIR_STAT_ROLE ∧ t.pr.peerGrant = none) ∧
  -- PAIR_CFG_WRITE refused
  (∀ (v : Word) (s : State),
      s.g F.TICK_STAT_RUNNING = 1 ∨ (s.g F.FAB_ID_VALID = 1 ∧
        (bitsOf v 21 16 = s.g F.FAB_ID_ID ∨ bitsOf v 13 8 = s.g F.FAB_ID_ID)) →
      ∃ t, exec (.pairCfgWrite v) s = .next t ∧ t.g F.PAIR_STAT_CFG_REFUSED = 1 ∧ t.rd R.PAIR_CFG = s.rd R.PAIR_CFG ∧
        confined s t [R.PAIR_STAT]) ∧
  -- PAIR_SIG_DONE
  (∀ (s : State),
      s.pr.sigWork = true →
      ∃ t, exec .pairSigDone s = .next t ∧ t.rd R.PAIR_SIG = crc32 s.sigWords ∧ t.g F.PAIR_STAT_SIG_VALID = 1 ∧
        t.pr.sigWork = false ∧ onlyRegs s t [R.PAIR_SIG, R.PAIR_STAT]) ∧
  -- PAIR_SIG_DONE with none computed
  (∀ (s : State),
      s.pr.sigWork = false →
      ∃ t, exec .pairSigDone s = .next t ∧ t = s)

/-- TRACKED_AREA_WRITE of the base or the lines of an area takes a configuration that R255 accepts, to come into force at
the next boundary, and refuses any other. FORCE_SWEEP starts a forced pass at the first line, or notes a second one.
SUSPECT_CLR returns a SUSPECT standby to NOT_READY with an empty window, and leaves any other readiness.
CONSIGNMENT_SENT sends the messages of the consignment in flight over the Tether as far as its credits go, ends it and
counts it; with none in flight nothing changes. At a standby a consignment of one message that follows without a gap,
agrees with its count and CRC and fits the staging buffer is committed: the last of its lines stands in place, the
checkpoint is its tick, and it is counted. A message that neither begins nor ends a consignment is added to the one
being staged, which is not committed. Each consignment missing before one that does not carry on is counted and
reported as lost. A device that is not a standby drops them. STANDBY_BIST, in the compute window with the cluster
under test awake, counts the self-test, marks the cluster that fails and powers it off; with no cluster under test
nothing changes. Completes TRACKED_AREA_WRITE, FORCE_SWEEP, SUSPECT_CLR, CONSIGNMENT_SENT, CONSIGNMENT, STANDBY_BIST.
(R255, R258, R259, R261, R262, R273, R274) -/
def Obligations.FerryKeepsTheCheckpoint : Prop :=
  -- TRACKED_AREA_WRITE of a size
  (∀ (n : Fin 16) (v : Word) (s : State),
      (s.fieldWrite (R.PAIR_FT_LINES n) v).areasAllowed = true →
      ∃ t, exec (.trackedAreaWrite n true v) s = .next t ∧ t.g (F.PAIR_FT_LINES_LINES n) = bitsOf v 14 0 ∧
        t.pr.areas = s.pr.areas ∧ (bitsOf v 14 0 ≠ s.g (F.PAIR_FT_LINES_LINES n) → t.pr.areasNew = true) ∧
        onlyRegs s t [R.PAIR_FT_LINES n]) ∧
  -- TRACKED_AREA_WRITE of a base
  (∀ (n : Fin 16) (v : Word) (s : State),
      (s.fieldWrite (R.PAIR_FT_BASE n) v).areasAllowed = true →
      ∃ t, exec (.trackedAreaWrite n false v) s = .next t ∧ t.g (F.PAIR_FT_BASE_BASE n) = bitsOf v 31 6 ∧
        t.g (F.PAIR_FT_BASE_EN n) = bitsOf v 0 0 ∧ t.pr.areas = s.pr.areas ∧ (bitsOf v 31 6 ≠ s.g (F.PAIR_FT_BASE_BASE n) →
        t.pr.areasNew = true) ∧ onlyRegs s t [R.PAIR_FT_BASE n]) ∧
  -- TRACKED_AREA_WRITE refused
  (∀ (n : Fin 16) (lines : Bool) (v : Word) (s : State),
      (s.fieldWrite (if lines then R.PAIR_FT_LINES n else R.PAIR_FT_BASE n) v).areasAllowed = false →
      ∃ t, exec (.trackedAreaWrite n lines v) s = .next t ∧ t.g F.PAIR_STAT_CFG_REFUSED = 1 ∧
        t.rd (R.PAIR_FT_BASE n) = s.rd (R.PAIR_FT_BASE n) ∧ t.rd (R.PAIR_FT_LINES n) = s.rd (R.PAIR_FT_LINES n) ∧
        confined s t [R.PAIR_STAT]) ∧
  -- FORCE_SWEEP
  (∀ (v : Word) (s : State),
      s.pr.forced = false →
      ∃ t, exec (.forceSweep v) s = .next t ∧ t.pr.forced = true ∧ t.pr.passNext = true ∧ t.g F.PAIR_SWEEP_CURSOR = 0 ∧
        t.g F.PAIR_CTL_FORCE_SWEEP = 1 ∧ t.g F.PAIR_CTL_REPLAY_EN = bitsOf v 1 1 ∧ (v.getLsbD 3 = false →
        onlyRegs s t [R.PAIR_CTL, R.PAIR_SWEEP]) ∧ onlyRegs s t [R.PAIR_CTL, R.PAIR_SWEEP, R.PAIR_STAT, R.PAIR_HEALTH]) ∧
  -- FORCE_SWEEP during a forced pass
  (∀ (v : Word) (s : State),
      s.pr.forced = true →
      ∃ t, exec (.forceSweep v) s = .next t ∧ t.pr.forced = true ∧ t.pr.again = true ∧
        t.g F.PAIR_SWEEP_CURSOR = s.g F.PAIR_SWEEP_CURSOR ∧ (v.getLsbD 3 = false → onlyRegs s t [R.PAIR_CTL])) ∧
  -- SUSPECT_CLR
  (∀ (v : Word) (s : State),
      s.g F.PAIR_STAT_READY = 3 →
      ∃ t, exec (.suspectClr v) s = .next t ∧ t.g F.PAIR_STAT_READY = 0 ∧ t.g F.PAIR_HEALTH_MISMATCHES = 0 ∧ t.pr.window = [] ∧
        (v.getLsbD 2 = false → onlyRegs s t [R.PAIR_CTL, R.PAIR_STAT, R.PAIR_HEALTH])) ∧
  -- SUSPECT_CLR of a standby that is not SUSPECT
  (∀ (v : Word) (s : State),
      s.g F.PAIR_STAT_READY ≠ 3 →
      ∃ t, exec (.suspectClr v) s = .next t ∧ t.g F.PAIR_STAT_READY = s.g F.PAIR_STAT_READY ∧ t.pr.window = s.pr.window ∧
        (v.getLsbD 2 = false → confined s t [R.PAIR_CTL])) ∧
  -- CONSIGNMENT_SENT
  (∀ (k : Consign) (s : State),
      s.pr.sending = some k →
      ∃ t, exec .consignmentSent s = .next t ∧ t.pr.sending = none ∧
        (t.rd R.PAIR_CNS_SENT).toNat = min ((s.rd R.PAIR_CNS_SENT).toNat + 1) (2 ^ 32 - 1) ∧
        t.rd R.PAIR_CNS_ABANDON = s.rd R.PAIR_CNS_ABANDON ∧ sameMem s t) ∧
  -- CONSIGNMENT_SENT with credit for every message
  (∀ (k : Consign) (s : State),
      s.pr.sending = some k →
      s.g F.FAB_ID_VALID = 1 ∧ s.g (F.NGL_STAT_STATE (s.g F.PAIR_CFG_TETHER)) = 6 ∧
        (s.ngl (s.g F.PAIR_CFG_TETHER)).quiet = false →
      s.fb.txq = [] ∧ s.pw.owned = false →
      (k.msgs.map fragsOf).sum ≤ s.g (F.FAB_PORT_CRED_BULK (s.g F.PAIR_CFG_TETHER)) →
      ∃ t, exec .consignmentSent s = .next t ∧
        t.out = s.out ++ k.msgs.map (fun m => .msg (s.g F.PAIR_CFG_TETHER) (s.envTo (s.g F.PAIR_CFG_PARTNER) 5) m)) ∧
  -- CONSIGNMENT_SENT with none in flight
  (∀ (s : State),
      s.pr.sending = none →
      ∃ t, exec .consignmentSent s = .next t ∧ t = s) ∧
  -- CONSIGNMENT of one message
  (∀ (p : Fin 8) (e : Env) (ws : List Word) (r : Nat) (s : State),
      s.g (F.NGL_STAT_STATE p) = 6 ∧ s.g F.FAB_ID_VALID = 1 ∧ e.dst = s.g F.FAB_ID_ID →
      s.g F.PAIR_CFG_EN = 1 ∧ s.g F.PAIR_STAT_ROLE = 3 →
      (ws.getD 0 0).getLsbD 26 = true ∧ (ws.getD 0 0).getLsbD 27 = true ∧ bitsOf (ws.getD 0 0) 15 0 = 0 →
      r = (ws.getD 1 0).toNat + (ws.getD 2 0).toNat * 2 ^ 32 ∧ r % 256 ≠ 0 →
      (⟨r, 1, false, false, false, [ws]⟩ : Staged).judged = true →
      s.pr.staged = [] ∧ s.pr.replay = none ∧
        (s.pr.lastTick.all (fun k => decide (r ≤ k + 1)) = true ∨ (ws.getD 3 0).getLsbD 31 = true) →
      4 * ws.length ≤ s.g F.PAIR_STAGE_SIZE_SIZE →
      ∃ t, exec (.consignment p e ws) s = .next t ∧
        (t.rd R.PAIR_CNS_COMMIT).toNat = min ((s.rd R.PAIR_CNS_COMMIT).toNat + 1) (2 ^ 32 - 1) ∧
        t.rd64 R.PAIR_CKPT_LO R.PAIR_CKPT_HI = r ∧ t.rd R.PAIR_SIG_PEER = ws.getD 4 0 ∧
        t.rd R.PAIR_CNS_LOST = s.rd R.PAIR_CNS_LOST ∧ t.pr.staged = [] ∧ t.pr.lastTick = some r) ∧
  -- CONSIGNMENT of one message puts its lines in place
  (∀ (p : Fin 8) (e : Env) (ws x : List Word) (r : Nat) (i : Fin 16) (s : State),
      s.g (F.NGL_STAT_STATE p) = 6 ∧ s.g F.FAB_ID_VALID = 1 ∧ e.dst = s.g F.FAB_ID_ID →
      s.g F.PAIR_CFG_EN = 1 ∧ s.g F.PAIR_STAT_ROLE = 3 →
      (ws.getD 0 0).getLsbD 26 = true ∧ (ws.getD 0 0).getLsbD 27 = true ∧ bitsOf (ws.getD 0 0) 15 0 = 0 →
      r = (ws.getD 1 0).toNat + (ws.getD 2 0).toNat * 2 ^ 32 ∧ r % 256 ≠ 0 →
      (⟨r, 1, false, false, false, [ws]⟩ : Staged).judged = true →
      s.pr.staged = [] ∧ s.pr.replay = none ∧
        (s.pr.lastTick.all (fun k => decide (r ≤ k + 1)) = true ∨ (ws.getD 3 0).getLsbD 31 = true) →
      4 * ws.length ≤ s.g F.PAIR_STAGE_SIZE_SIZE →
      (msgRecords ws).getLast? = some x ∧ x.length = 18 ∧ (memOf ((x.headD 0).toNat / 64 * 64)).isSome = true →
      ∃ t, exec (.consignment p e ws) s = .next t ∧ t.word ((x.headD 0).toNat / 64 * 64 + 4 * i) = x.getD (i + 2) 0) ∧
  -- CONSIGNMENT, a message between the first and the last
  (∀ (p : Fin 8) (e : Env) (ws : List Word) (c : Staged) (s : State),
      s.g (F.NGL_STAT_STATE p) = 6 ∧ s.g F.FAB_ID_VALID = 1 ∧ e.dst = s.g F.FAB_ID_ID →
      s.g F.PAIR_CFG_EN = 1 ∧ s.g F.PAIR_STAT_ROLE = 3 →
      (ws.getD 0 0).getLsbD 26 = false ∧ (ws.getD 0 0).getLsbD 27 = false ∧ bitsOf (ws.getD 0 0) 15 0 = c.next →
      c.tick = (ws.getD 1 0).toNat + (ws.getD 2 0).toNat * 2 ^ 32 →
      s.pr.staged = [c] ∧ c.done = false ∧ c.bad = false →
      4 * (c.msgs ++ [ws]).flatten.length ≤ s.g F.PAIR_STAGE_SIZE_SIZE →
      ∃ t, exec (.consignment p e ws) s = .next t ∧ t.pr.staged = [{ c with next := c.next + 1, msgs := c.msgs ++ [ws] }] ∧
        t.rd R.PAIR_CNS_COMMIT = s.rd R.PAIR_CNS_COMMIT ∧ t.rd R.PAIR_CNS_LOST = s.rd R.PAIR_CNS_LOST) ∧
  -- CONSIGNMENT after a gap
  (∀ (p : Fin 8) (e : Env) (ws : List Word) (k r : Nat) (s : State),
      s.g (F.NGL_STAT_STATE p) = 6 ∧ s.g F.FAB_ID_VALID = 1 ∧ e.dst = s.g F.FAB_ID_ID →
      s.g F.PAIR_CFG_EN = 1 ∧ s.g F.PAIR_STAT_ROLE = 3 →
      (ws.getD 0 0).getLsbD 26 = true ∧ bitsOf (ws.getD 0 0) 15 0 = 0 ∧ (ws.getD 3 0).getLsbD 31 = false →
      r = (ws.getD 1 0).toNat + (ws.getD 2 0).toNat * 2 ^ 32 →
      s.pr.staged = [] ∧ s.pr.lastTick = some k ∧ k + 1 < r →
      4 * ws.length ≤ s.g F.PAIR_STAGE_SIZE_SIZE →
      ∃ t, exec (.consignment p e ws) s = .next t ∧
        (t.rd R.PAIR_CNS_LOST).toNat = min ((s.rd R.PAIR_CNS_LOST).toNat + (r - 1 - k)) (2 ^ 32 - 1) ∧
        t.g F.PAIR_STAT_LOST = 1 ∧ (∃ f ∈ t.ft.blocks, f.kind = Kind.consignLost) ∧ t.pr.lastTick = some r) ∧
  -- CONSIGNMENT at a device that is not a standby
  (∀ (p : Fin 8) (e : Env) (ws : List Word) (s : State),
      s.g (F.NGL_STAT_STATE p) = 6 ∧ s.g F.FAB_ID_VALID = 1 ∧ e.dst = s.g F.FAB_ID_ID →
      s.g F.PAIR_CFG_EN = 0 ∨ s.g F.PAIR_STAT_ROLE ≠ 3 →
      ∃ t, exec (.consignment p e ws) s = .next t ∧ confined s t []) ∧
  -- STANDBY_BIST
  (∀ (c : Fin 16) (pass : Bool) (s : State),
      s.pr.bist = some c.val →
      s.tm.phase = .window ∧ s.g (F.CL_STAT_STATE c) = 2 →
      ∃ t, exec (.standbyBist pass) s = .next t ∧ t.g F.PAIR_HEALTH_BIST_RUNS = min (s.g F.PAIR_HEALTH_BIST_RUNS + 1) 255 ∧
        t.pr.bist = none ∧ t.g (F.CL_STAT_STATE c) = 0 ∧ (pass = true →
        t.g F.PAIR_HEALTH_BIST_FAIL = s.g F.PAIR_HEALTH_BIST_FAIL) ∧ (pass = false →
        t.g F.PAIR_HEALTH_BIST_FAIL = s.g F.PAIR_HEALTH_BIST_FAIL ||| 2 ^ c.val)) ∧
  -- STANDBY_BIST outside the window, with no cluster under test, or before it is awake
  (∀ (pass : Bool) (s : State),
      s.tm.phase ≠ .window ∨ s.pr.bist.all (fun c => s.g (F.CL_STAT_STATE c) != 2) = true →
      ∃ t, exec (.standbyBist pass) s = .next t ∧ t = s)

/-- A message of a kind with N = 1 is severe and counted. Any other joins the live entry of its source and kind, which
frees it and makes the message severe where it brings it to N; without one it opens an entry and is not severe, or is
severe at once where its events reach N, or finds no place and is counted as such. Entries whose window has ended are
freed first. A collector in parity error loses the message. FAULT_WINDOW_EXPIRY frees just the entries whose window
has ended. FAULT_REACTION counts the oldest message at the chip fault collector, opens the record or merges into it,
and applies its reactions: MUTE sets its groups, CSAFE enters chip safe state, RSAFE a region's safe state, FO
requests fail-over, RET holds the named lane for retirement, and CORE restarts the control core. FAULT_RECORD writes a
logged record to the ring, or merges it into the newest while the ring is full, raises the interrupt where IRQ is
among the reactions, sends a worker's record to the manager, and ends the period. Without a message, a queue or a
record they change nothing. A write to FAULT_REACT or FAULT_WIN of a kind takes a value in its range, with the fixed
reactions kept set, and frees the kind's entries where N or W changes; N = 0, W out of range and a code that no kind
has are refused. CORE_LOCKSTEP reports its kind. Completes FAULT_MESSAGE, FAULT_WINDOW_EXPIRY, FAULT_REACTION,
FAULT_RECORD, FAULT_REACT_WRITE, CORE_LOCKSTEP. (R286, R287, R288, R290, R292, R293, R295, R296, R297) -/
def Obligations.FaultsAreCollectedAndReactedTo : Prop :=
  -- FAULT_MESSAGE of a kind with N = 1
  (∀ (j now : Nat) (m : FMsg) (l : List FEntry) (s : State),
      s.ft.blocks[j]? = some m ∧ m.kind < 64 →
      s.g (F.FAULT_COLL_STAT_PARITY (collectorOf m.src)) = 0 ∨ SMap.get noneB s.ft.reloaded (collectorOf m.src) = true →
      l = (s.fEntries (collectorOf m.src)).filter (fun e => decide (now < e.opened + 1000 * s.g (F.FAULT_WIN_W e.kind))) →
      s.g (F.FAULT_REACT_N m.kind) = 1 →
      ∃ t, exec (.faultMessage j now) s = .next t ∧ t.ft.blocks = s.ft.blocks.eraseIdx j ∧ t.ft.chip = s.ft.chip ++ [(m,
        true)] ∧ t.fEntries (collectorOf m.src) = l ∧
        (t.rd (R.FAULT_COLL_SEVERE (collectorOf m.src))).toNat = min ((s.rd (R.FAULT_COLL_SEVERE (collectorOf m.src))).toNat + 1) (2 ^ 32 - 1) ∧ onlyRegs s t [R.FAULT_COLL_STAT (collectorOf m.src), R.FAULT_COLL_SEVERE (collectorOf m.src)]) ∧
  -- FAULT_MESSAGE that opens an entry
  (∀ (j now : Nat) (m : FMsg) (l : List FEntry) (s : State),
      s.ft.blocks[j]? = some m ∧ m.kind < 64 →
      s.g (F.FAULT_COLL_STAT_PARITY (collectorOf m.src)) = 0 ∨ SMap.get noneB s.ft.reloaded (collectorOf m.src) = true →
      l = (s.fEntries (collectorOf m.src)).filter (fun e => decide (now < e.opened + 1000 * s.g (F.FAULT_WIN_W e.kind))) →
      s.g (F.FAULT_REACT_N m.kind) ≠ 1 ∧ m.events < s.g (F.FAULT_REACT_N m.kind) →
      l.find? (fun e => e.src == m.src && e.kind == m.kind) = none ∧ l.length < 32 →
      ∃ t, exec (.faultMessage j now) s = .next t ∧ t.ft.blocks = s.ft.blocks.eraseIdx j ∧ t.ft.chip = s.ft.chip ++ [(m,
        false)] ∧ t.fEntries (collectorOf m.src) = l ++ [⟨m.src, m.kind, m.events, now⟩] ∧
        t.g (F.FAULT_COLL_STAT_ENTRIES (collectorOf m.src)) = (t.fEntries (collectorOf m.src)).length % 64 ∧
        onlyRegs s t [R.FAULT_COLL_STAT (collectorOf m.src)]) ∧
  -- FAULT_MESSAGE whose events reach N with no entry
  (∀ (j now : Nat) (m : FMsg) (l : List FEntry) (s : State),
      s.ft.blocks[j]? = some m ∧ m.kind < 64 →
      s.g (F.FAULT_COLL_STAT_PARITY (collectorOf m.src)) = 0 ∨ SMap.get noneB s.ft.reloaded (collectorOf m.src) = true →
      l = (s.fEntries (collectorOf m.src)).filter (fun e => decide (now < e.opened + 1000 * s.g (F.FAULT_WIN_W e.kind))) →
      s.g (F.FAULT_REACT_N m.kind) ≠ 1 ∧ s.g (F.FAULT_REACT_N m.kind) ≤ m.events →
      l.find? (fun e => e.src == m.src && e.kind == m.kind) = none ∧ l.length < 32 →
      ∃ t, exec (.faultMessage j now) s = .next t ∧ t.ft.blocks = s.ft.blocks.eraseIdx j ∧ t.ft.chip = s.ft.chip ++ [(m,
        true)] ∧ t.fEntries (collectorOf m.src) = l ∧
        (t.rd (R.FAULT_COLL_SEVERE (collectorOf m.src))).toNat = min ((s.rd (R.FAULT_COLL_SEVERE (collectorOf m.src))).toNat + 1) (2 ^ 32 - 1) ∧ onlyRegs s t [R.FAULT_COLL_STAT (collectorOf m.src), R.FAULT_COLL_SEVERE (collectorOf m.src)]) ∧
  -- FAULT_MESSAGE that finds no place
  (∀ (j now : Nat) (m : FMsg) (l : List FEntry) (s : State),
      s.ft.blocks[j]? = some m ∧ m.kind < 64 →
      s.g (F.FAULT_COLL_STAT_PARITY (collectorOf m.src)) = 0 ∨ SMap.get noneB s.ft.reloaded (collectorOf m.src) = true →
      l = (s.fEntries (collectorOf m.src)).filter (fun e => decide (now < e.opened + 1000 * s.g (F.FAULT_WIN_W e.kind))) →
      s.g (F.FAULT_REACT_N m.kind) ≠ 1 →
      l.find? (fun e => e.src == m.src && e.kind == m.kind) = none ∧ 32 ≤ l.length →
      ∃ t, exec (.faultMessage j now) s = .next t ∧ t.ft.blocks = s.ft.blocks.eraseIdx j ∧ t.ft.chip = s.ft.chip ++ [(m,
        false)] ∧ t.fEntries (collectorOf m.src) = l ∧
        (t.rd (R.FAULT_COLL_NOENT (collectorOf m.src))).toNat = min ((s.rd (R.FAULT_COLL_NOENT (collectorOf m.src))).toNat + 1) (2 ^ 32 - 1) ∧ onlyRegs s t [R.FAULT_COLL_STAT (collectorOf m.src), R.FAULT_COLL_NOENT (collectorOf m.src)]) ∧
  -- FAULT_MESSAGE that brings an entry to N
  (∀ (j now : Nat) (m : FMsg) (e : FEntry) (l : List FEntry) (s : State),
      s.ft.blocks[j]? = some m ∧ m.kind < 64 →
      s.g (F.FAULT_COLL_STAT_PARITY (collectorOf m.src)) = 0 ∨ SMap.get noneB s.ft.reloaded (collectorOf m.src) = true →
      l = (s.fEntries (collectorOf m.src)).filter (fun e => decide (now < e.opened + 1000 * s.g (F.FAULT_WIN_W e.kind))) →
      l.find? (fun x => x.src == m.src && x.kind == m.kind) = some e →
      s.g (F.FAULT_REACT_N m.kind) ≠ 1 ∧ s.g (F.FAULT_REACT_N m.kind) ≤ e.count + m.events →
      ∃ t, exec (.faultMessage j now) s = .next t ∧ t.ft.blocks = s.ft.blocks.eraseIdx j ∧ t.ft.chip = s.ft.chip ++ [(m,
        true)] ∧ t.fEntries (collectorOf m.src) = l.filter (fun x => !(x.src == m.src && x.kind == m.kind)) ∧
        (t.rd (R.FAULT_COLL_SEVERE (collectorOf m.src))).toNat = min ((s.rd (R.FAULT_COLL_SEVERE (collectorOf m.src))).toNat + 1) (2 ^ 32 - 1) ∧ t.g (F.FAULT_COLL_STAT_ENTRIES (collectorOf m.src)) = (t.fEntries (collectorOf m.src)).length % 64 ∧ onlyRegs s t [R.FAULT_COLL_STAT (collectorOf m.src), R.FAULT_COLL_SEVERE (collectorOf m.src)]) ∧
  -- FAULT_MESSAGE that an entry counts
  (∀ (j now : Nat) (m : FMsg) (e : FEntry) (l : List FEntry) (s : State),
      s.ft.blocks[j]? = some m ∧ m.kind < 64 →
      s.g (F.FAULT_COLL_STAT_PARITY (collectorOf m.src)) = 0 ∨ SMap.get noneB s.ft.reloaded (collectorOf m.src) = true →
      l = (s.fEntries (collectorOf m.src)).filter (fun e => decide (now < e.opened + 1000 * s.g (F.FAULT_WIN_W e.kind))) →
      l.find? (fun x => x.src == m.src && x.kind == m.kind) = some e →
      s.g (F.FAULT_REACT_N m.kind) ≠ 1 ∧ e.count + m.events < s.g (F.FAULT_REACT_N m.kind) →
      ∃ t, exec (.faultMessage j now) s = .next t ∧ t.ft.blocks = s.ft.blocks.eraseIdx j ∧ t.ft.chip = s.ft.chip ++ [(m,
        false)] ∧ t.fEntries (collectorOf m.src) = l.map (fun x => if x.src = m.src ∧
        x.kind = m.kind then { x with count := x.count + m.events } else x) ∧
        onlyRegs s t [R.FAULT_COLL_STAT (collectorOf m.src)]) ∧
  -- FAULT_MESSAGE at a collector in parity error
  (∀ (j now : Nat) (m : FMsg) (s : State),
      s.ft.blocks[j]? = some m →
      s.g (F.FAULT_COLL_STAT_PARITY (collectorOf m.src)) = 1 ∧ SMap.get noneB s.ft.reloaded (collectorOf m.src) = false →
      ∃ t, exec (.faultMessage j now) s = .next t ∧ t.ft = { s.ft with blocks := s.ft.blocks.eraseIdx j } ∧ onlyRegs s t []) ∧
  -- FAULT_MESSAGE that is not there
  (∀ (j now : Nat) (s : State),
      s.ft.blocks.length ≤ j →
      ∃ t, exec (.faultMessage j now) s = .next t ∧ t = s) ∧
  -- FAULT_WINDOW_EXPIRY
  (∀ (i : Fin 7) (now : Nat) (s : State),
      ∃ t, exec (.faultWindowExpiry i now) s = .next t ∧
        t.fEntries i = (s.fEntries i).filter (fun e => decide (now < e.opened + 1000 * s.g (F.FAULT_WIN_W e.kind))) ∧
        t.g (F.FAULT_COLL_STAT_ENTRIES i) = (t.fEntries i).length % 64 ∧ t.ft.chip = s.ft.chip ∧
        onlyRegs s t [R.FAULT_COLL_STAT i]) ∧
  -- FAULT_REACTION that opens a record
  (∀ (m : FMsg) (sev : Bool) (rest : List (FMsg × Bool)) (s : State),
      s.ft.chip = (m, sev) :: rest ∧ s.ft.period = none ∧ 0 < m.kind ∧ m.kind < 0x34 →
      ∃ t, exec .faultReaction s = .next t ∧ t.ft.chip = rest ∧ t.ft.period = some ⟨m, sev, s.tick, 0, 0, 0,
        s.reactionsOf m sev⟩ ∧ (t.rd R.FAULT_MSG_CNT).toNat = min ((s.rd R.FAULT_MSG_CNT).toNat + 1) (2 ^ 32 - 1) ∧
        (t.rd (R.FAULT_KCNT m.kind)).toNat = min ((s.rd (R.FAULT_KCNT m.kind)).toNat + m.events) (2 ^ 32 - 1)) ∧
  -- FAULT_REACTION that merges
  (∀ (m : FMsg) (sev : Bool) (rest : List (FMsg × Bool)) (p : FRec) (s : State),
      s.ft.chip = (m, sev) :: rest ∧ s.ft.period = some p ∧ 0 < m.kind ∧ m.kind < 0x34 →
      ∃ t, exec .faultReaction s = .next t ∧ t.ft.chip = rest ∧
        t.ft.period = some { p with merged := min 255 (p.merged + 1), mkind := m.kind, msev := max p.msev (severityOf m.kind), react := p.react ||| s.reactionsOf m sev, severe := p.severe || sev } ∧ (t.rd R.FAULT_MERGED_CNT).toNat = min ((s.rd R.FAULT_MERGED_CNT).toNat + 1) (2 ^ 32 - 1)) ∧
  -- FAULT_REACTION with MUTE
  (∀ (m : FMsg) (sev : Bool) (rest : List (FMsg × Bool)) (s : State),
      s.ft.chip = (m, sev) :: rest ∧ 0 < m.kind ∧ m.kind < 0x34 →
      (s.reactionsOf m sev).testBit 3 = true →
      ∃ t, exec .faultReaction s = .next t ∧ t.g F.FAULT_LMUTE_GROUPS = s.g F.FAULT_LMUTE_GROUPS ||| muteGroups m.src) ∧
  -- FAULT_REACTION with CSAFE
  (∀ (m : FMsg) (sev : Bool) (rest : List (FMsg × Bool)) (s : State),
      s.ft.chip = (m, sev) :: rest ∧ 0 < m.kind ∧ m.kind < 0x34 →
      (s.reactionsOf m sev).testBit 5 = true ∧ s.g F.FAULT_SAFE_CHIP_SAFE = 0 →
      ∃ t, exec .faultReaction s = .next t ∧ t.g F.FAULT_SAFE_CHIP_SAFE = 1 ∧ t.g F.FAULT_SAFE_CHIP_KIND = m.kind ∧
        t.g F.CHIP_STATE_CHIP_SAFE = 1 ∧ sameMem s t) ∧
  -- FAULT_REACTION with FO
  (∀ (m : FMsg) (sev : Bool) (rest : List (FMsg × Bool)) (s : State),
      s.ft.chip = (m, sev) :: rest ∧ 0 < m.kind ∧ m.kind < 0x34 →
      (s.reactionsOf m sev).testBit 6 = true →
      m.src < 2 ^ 12 →
      ∃ t, exec .faultReaction s = .next t ∧ t.g F.FAULT_FOREQ_REQ = 1 ∧ (s.g F.FAULT_FOREQ_REQ = 0 →
        (s.reactionsOf m sev).testBit 4 = false → t.g F.FAULT_FOREQ_KIND = m.kind ∧ t.g F.FAULT_FOREQ_SOURCE = m.src) ∧
        (m.kind, m.src) ∈ t.actsOn 16) ∧
  -- FAULT_REACTION with RSAFE
  (∀ (m : FMsg) (sev : Bool) (rest : List (FMsg × Bool)) (g : Fin 6) (s : State),
      s.ft.chip = (m, sev) :: rest ∧ 0 < m.kind ∧ m.kind < 0x34 →
      (s.reactionsOf m sev).testBit 4 = true ∧ srcRegion m.src = g →
      ∃ t, exec .faultReaction s = .next t ∧ (t.g F.FAULT_SAFE_REGION_SAFE).testBit g = true ∧ t.g F.FAULT_FOREQ_REQ = 1 ∧
        sameMem s t) ∧
  -- FAULT_REACTION with RET
  (∀ (m : FMsg) (sev : Bool) (rest : List (FMsg × Bool)) (c k : Fin 16) (s : State),
      s.ft.chip = (m, sev) :: rest ∧ 0 < m.kind ∧ m.kind < 0x34 →
      (s.reactionsOf m sev).testBit 2 = true ∧ m.src = Src.cluster c k →
      ∃ t, exec .faultReaction s = .next t ∧ ((t.clu c).retHeld).testBit k = true ∧ sameMem s t) ∧
  -- FAULT_REACTION with CORE
  (∀ (m : FMsg) (sev : Bool) (rest : List (FMsg × Bool)) (s : State),
      s.ft.chip = (m, sev) :: rest ∧ 0 < m.kind ∧ m.kind < 0x34 →
      (s.reactionsOf m sev).testBit 7 = true →
      ∃ t, exec .faultReaction s = .next t ∧ t.ft.coreDown = true ∧
        t.g F.CHIP_STATE_CORE_RESTARTS = min (s.g F.CHIP_STATE_CORE_RESTARTS + 1) (2 ^ (F.CHIP_STATE_CORE_RESTARTS.hi + 1 - F.CHIP_STATE_CORE_RESTARTS.lo) - 1) ∧ sameMem s t) ∧
  -- FAULT_REACTION of an empty queue
  (∀ (s : State),
      s.ft.chip = [] →
      ∃ t, exec .faultReaction s = .next t ∧ t = s) ∧
  -- FAULT_RECORD of a logged period
  (∀ (p : FRec) (s : State),
      s.ft.period = some p →
      p.react.testBit 0 = true ∧ p.react.testBit 1 = false ∧ (s.g F.CHIP_STRAP_ROLE = 1 ∨ s.g F.FAB_CTL_FR_EN = 0) →
      (s.g F.FAULT_REC_WR_WR + 1) % 64 ≠ s.g F.FAULT_REC_RD_RD →
      ∃ t, exec .faultRecord s = .next t ∧ t.ft = { s.ft with period := none } ∧ (∀ k : Fin 4,
        some (t.rd (R.FAULT_REC (4 * s.g F.FAULT_REC_WR_WR + k))) = (recordWords p)[k]?) ∧
        t.g F.FAULT_REC_WR_WR = (s.g F.FAULT_REC_WR_WR + 1) % 64 ∧
        (t.g F.FAULT_STAT_REC_FULL = 1 ↔ (s.g F.FAULT_REC_WR_WR + 2) % 64 = s.g F.FAULT_REC_RD_RD) ∧ t.irq = s.irq ∧
        onlyRegs s t ([R.FAULT_REC_WR,
        R.FAULT_STAT] ++ (List.range 4).map (fun k => R.FAULT_REC (4 * s.g F.FAULT_REC_WR_WR + k)))) ∧
  -- FAULT_RECORD of a logged period, whatever else it does
  (∀ (p : FRec) (s : State),
      s.ft.period = some p →
      p.react.testBit 0 = true →
      (s.g F.FAULT_REC_WR_WR + 1) % 64 ≠ s.g F.FAULT_REC_RD_RD →
      ∃ t, exec .faultRecord s = .next t ∧ t.ft.period = none ∧ (∀ k : Fin 4,
        some (t.rd (R.FAULT_REC (4 * s.g F.FAULT_REC_WR_WR + k))) = (recordWords p)[k]?) ∧
        t.g F.FAULT_REC_WR_WR = (s.g F.FAULT_REC_WR_WR + 1) % 64 ∧ sameMem s t) ∧
  -- FAULT_RECORD while the ring is full
  (∀ (p : FRec) (s : State),
      s.ft.period = some p →
      p.react.testBit 0 = true ∧ p.react.testBit 1 = false ∧ (s.g F.CHIP_STRAP_ROLE = 1 ∨ s.g F.FAB_CTL_FR_EN = 0) →
      (s.g F.FAULT_REC_WR_WR + 1) % 64 = s.g F.FAULT_REC_RD_RD →
      ∃ t, exec .faultRecord s = .next t ∧ t.rd R.FAULT_REC_WR = s.rd R.FAULT_REC_WR ∧ t.g F.FAULT_STAT_REC_FULL = 1 ∧
        (t.rd R.FAULT_MERGED_CNT).toNat = min ((s.rd R.FAULT_MERGED_CNT).toNat + 1 + p.merged) (2 ^ 32 - 1) ∧
        onlyRegs s t [R.FAULT_STAT, R.FAULT_MERGED_CNT, R.FAULT_REC (4 * ((s.g F.FAULT_REC_WR_WR + 63) % 64) + 3)]) ∧
  -- FAULT_RECORD with IRQ
  (∀ (p : FRec) (s : State),
      s.ft.period = some p →
      p.react.testBit 1 = true ∧ s.g F.FAULT_CTL_IRQ_EN = 1 →
      ∃ t, exec .faultRecord s = .next t ∧ t.irq = s.irq ++ [CoreIrq.fault] ∧ t.ft.period = none ∧ sameMem s t) ∧
  -- FAULT_RECORD of a worker that reports
  (∀ (p : FRec) (q : Nat) (s : State),
      s.ft.period = some p →
      p.react.testBit 0 = true ∧ p.react.testBit 1 = false ∧ s.g F.CHIP_STRAP_ROLE = 0 ∧ s.g F.FAB_CTL_FR_EN = 1 →
      s.g F.FAB_ID_VALID = 1 ∧ s.routeTo 0 = some q ∧ (s.ngl q).quiet = false →
      s.fb.txq = [] ∧ s.pw.owned = false ∧ 1 ≤ s.g (F.FAB_PORT_CRED_CTRL q) →
      ∃ t, exec .faultRecord s = .next t ∧ t.ft.period = none ∧ t.out = s.out ++ [.msg q (s.envTo 0 9) (recordWords p)]) ∧
  -- FAULT_RECORD of a period that is neither logged nor interrupts
  (∀ (p : FRec) (s : State),
      s.ft.period = some p →
      p.react.testBit 0 = false ∧ p.react.testBit 1 = false →
      ∃ t, exec .faultRecord s = .next t ∧ t = { s with ft := { s.ft with period := none } }) ∧
  -- FAULT_RECORD without a period
  (∀ (s : State),
      s.ft.period = none →
      ∃ t, exec .faultRecord s = .next t ∧ t = s) ∧
  -- FAULT_REACT_WRITE that changes N
  (∀ (k : Fin 64) (i : Fin 7) (v : Word) (s : State),
      0 < k.val ∧ k.val < 0x34 →
      bitsOf v 31 24 ≠ 0 ∧ bitsOf v 31 24 ≠ s.g (F.FAULT_REACT_N k) →
      ∃ t, exec (.faultReactWrite k false v) s = .next t ∧ t.g (F.FAULT_REACT_N k) = bitsOf v 31 24 ∧
        t.g (F.FAULT_REACT_BASE k) = bitsOf v 7 0 ||| fixedBits k ∧ t.g (F.FAULT_REACT_SEVERE k) = bitsOf v 15 8 ∧
        t.fEntries i = (s.fEntries i).filter (fun e => e.kind != k.val) ∧ sameMem s t) ∧
  -- FAULT_REACT_WRITE of N as it was
  (∀ (k : Fin 64) (v : Word) (s : State),
      0 < k.val ∧ k.val < 0x34 →
      bitsOf v 31 24 ≠ 0 ∧ bitsOf v 31 24 = s.g (F.FAULT_REACT_N k) →
      ∃ t, exec (.faultReactWrite k false v) s = .next t ∧ t.g (F.FAULT_REACT_BASE k) = bitsOf v 7 0 ||| fixedBits k ∧
        t.g (F.FAULT_REACT_SEVERE k) = bitsOf v 15 8 ∧ t.ft = s.ft ∧ t.out = s.ok.out ∧ confined s t [R.FAULT_REACT k]) ∧
  -- FAULT_REACT_WRITE of a new window
  (∀ (k : Fin 64) (i : Fin 7) (v : Word) (s : State),
      0 < k.val ∧ k.val < 0x34 →
      1 ≤ bitsOf v 15 0 ∧ bitsOf v 15 0 ≤ 60000 ∧ bitsOf v 15 0 ≠ s.g (F.FAULT_WIN_W k) →
      ∃ t, exec (.faultReactWrite k true v) s = .next t ∧ t.g (F.FAULT_WIN_W k) = bitsOf v 15 0 ∧
        t.fEntries i = (s.fEntries i).filter (fun e => e.kind != k.val) ∧ sameMem s t) ∧
  -- FAULT_REACT_WRITE of the window as it was
  (∀ (k : Fin 64) (v : Word) (s : State),
      0 < k.val ∧ k.val < 0x34 →
      1 ≤ bitsOf v 15 0 ∧ bitsOf v 15 0 ≤ 60000 ∧ bitsOf v 15 0 = s.g (F.FAULT_WIN_W k) →
      ∃ t, exec (.faultReactWrite k true v) s = .next t ∧ t = s.ok) ∧
  -- FAULT_REACT_WRITE out of range
  (∀ (k : Fin 64) (win : Bool) (v : Word) (s : State),
      k.val = 0 ∨ 0x34 ≤ k.val ∨ (win = false ∧ bitsOf v 31 24 = 0) ∨ (win = true ∧
        (bitsOf v 15 0 = 0 ∨ 60000 < bitsOf v 15 0)) →
      ∃ t, exec (.faultReactWrite k win v) s = .next t ∧ t.g F.FAULT_STAT_CFG_REFUSED = 1 ∧ t.out = s.ok.out ∧
        confined s t [R.FAULT_STAT]) ∧
  -- CORE_LOCKSTEP
  (∀ (s : State),
      ∃ t, exec .coreLockstep s = .next t ∧ t.ft.blocks = addMsg s.ft.blocks ⟨0, 1, Kind.coreLockstep, Src.core⟩ ∧
        confined { s with ft := t.ft } t [])

/-- A parity error of a region collector sets its PARITY, enters the region's safe state (chip safe state for CONTROL),
requests fail-over, and passes one severe message on; at a collector already in parity error nothing changes. A parity
error of the chip fault collector enters chip safe state, and a second one changes nothing. RELOAD empties the
collector's entries and, where every register then reads good, marks the parity error as gone. SAFE_CLEAR clears, of
the bits written, each region's safe state and chip safe state that is set and whose causes are all gone, with its
kind, and shows CLR_REFUSED where a cause lasts; a bit not written or not set stays. What CHIP_STATE shows ends with
it where no tick runs and at the next boundary while ticks run. A fail-over request and a collector's parity error are
cleared or refused in the same way, and a write with bit 31 at 0, or with nothing to clear, changes nothing; a mute
reaction's groups are cleared at once. Completes COLL_PARITY, CHIP_COLL_PARITY, FAULT_COLL_RELOAD, SAFE_CLEAR,
FOREQ_CLEAR, LMUTE_CLEAR, COLL_PARITY_CLEAR. (R290, R291, R300, R301, R303, R304) -/
def Obligations.SafeStatesEndOnceTheirCauseIsGone : Prop :=
  -- COLL_PARITY of a region
  (∀ (i : Fin 7) (s : State),
      i.val < 6 →
      s.g (F.FAULT_COLL_STAT_PARITY i) = 0 →
      s.g F.FAULT_FOREQ_REQ = 0 →
      (s.g F.FAULT_SAFE_REGION_SAFE).testBit i = false →
      ∃ t, exec (.collParity i) s = .next t ∧ t.g (F.FAULT_COLL_STAT_PARITY i) = 1 ∧
        (t.g F.FAULT_SAFE_REGION_SAFE).testBit i = true ∧ t.g (safeKindField i) = Kind.collParity ∧ t.g F.FAULT_FOREQ_REQ = 1 ∧
        t.g F.FAULT_FOREQ_KIND = Kind.collParity ∧ t.ft.chip = s.ft.chip ++ [(⟨0, 1, Kind.collParity, Src.collector i⟩,
        true)] ∧ sameMem s t) ∧
  -- COLL_PARITY of a region in any state
  (∀ (i : Fin 7) (s : State),
      i.val < 6 →
      s.g (F.FAULT_COLL_STAT_PARITY i) = 0 ∨ SMap.get noneB s.ft.reloaded i = true →
      ∃ t, exec (.collParity i) s = .next t ∧ t.g (F.FAULT_COLL_STAT_PARITY i) = 1 ∧
        (t.g F.FAULT_SAFE_REGION_SAFE).testBit i = true ∧ t.g F.FAULT_FOREQ_REQ = 1 ∧ t.ft.chip = s.ft.chip ++ [(⟨0, 1,
        Kind.collParity, Src.collector i⟩, true)] ∧ SMap.get noneB t.ft.reloaded i = false ∧ sameMem s t) ∧
  -- COLL_PARITY of CONTROL
  (∀ (s : State),
      s.g (F.FAULT_COLL_STAT_PARITY 6) = 0 ∨ SMap.get noneB s.ft.reloaded 6 = true →
      ∃ t, exec (.collParity 6) s = .next t ∧ t.g (F.FAULT_COLL_STAT_PARITY 6) = 1 ∧ t.g F.FAULT_SAFE_CHIP_SAFE = 1 ∧
        (s.g F.FAULT_SAFE_CHIP_SAFE = 0 → t.g F.FAULT_SAFE_CHIP_KIND = Kind.collParity ∧ t.g F.CHIP_STATE_CHIP_SAFE = 1) ∧
        t.ft.chip = s.ft.chip ++ [(⟨0, 1, Kind.collParity, Src.collector 6⟩, true)] ∧ t.g F.FAULT_FOREQ_REQ = 1 ∧ sameMem s t) ∧
  -- COLL_PARITY of a collector in parity error
  (∀ (i : Fin 7) (s : State),
      s.g (F.FAULT_COLL_STAT_PARITY i) = 1 ∧ SMap.get noneB s.ft.reloaded i = false →
      ∃ t, exec (.collParity i) s = .next t ∧ t = s) ∧
  -- CHIP_COLL_PARITY
  (∀ (s : State),
      s.g F.FAULT_STAT_CHIP_COLL_PAR = 0 →
      ∃ t, exec .chipCollParity s = .next t ∧ t.g F.FAULT_STAT_CHIP_COLL_PAR = 1 ∧ t.g F.FAULT_SAFE_CHIP_SAFE = 1 ∧
        (s.g F.FAULT_SAFE_CHIP_SAFE = 0 → t.g F.CHIP_STATE_CHIP_SAFE = 1) ∧ sameMem s t) ∧
  -- CHIP_COLL_PARITY that shows already
  (∀ (s : State),
      s.g F.FAULT_STAT_CHIP_COLL_PAR = 1 →
      ∃ t, exec .chipCollParity s = .next t ∧ t = s) ∧
  -- FAULT_COLL_RELOAD
  (∀ (i : Fin 7) (good : Bool) (s : State),
      ∃ t, exec (.faultCollReload i good) s = .next t ∧ t.fEntries i = [] ∧ t.g (F.FAULT_COLL_STAT_ENTRIES i) = 0 ∧
        (good = true → s.g (F.FAULT_COLL_STAT_PARITY i) = 1 → SMap.get noneB t.ft.reloaded i = true) ∧ t.out = s.ok.out ∧
        onlyRegs s t [R.FAULT_COLL_STAT i]) ∧
  -- SAFE_CLEAR of a region
  (∀ (i : Fin 7) (s : State),
      s.g F.TICK_STAT_RUNNING = 1 →
      (s.g F.FAULT_SAFE_REGION_SAFE).testBit i = true ∧ s.actsGone i = true →
      s.g (F.FAULT_COLL_STAT_PARITY i) = 0 →
      ∃ t, exec (.safeClear (BitVec.ofNat 32 (2 ^ i.val))) s = .next t ∧ (∀ k : Fin 7,
        (t.g F.FAULT_SAFE_REGION_SAFE).testBit k = (decide (k ≠ i) && (s.g F.FAULT_SAFE_REGION_SAFE).testBit k)) ∧
        t.g (safeKindField i) = 0 ∧ t.actsOn i = [] ∧ SMap.get noneB t.ft.ending i = true ∧ t.out = s.ok.out ∧
        onlyRegs s t [R.FAULT_SAFE, R.FAULT_SAFE_KIND (i.val / 4)]) ∧
  -- SAFE_CLEAR of any bits
  (∀ (v : Word) (k : Fin 7) (s : State),
      ∃ t, exec (.safeClear v) s = .next t ∧
        (t.g F.FAULT_SAFE_REGION_SAFE).testBit k = ((s.g F.FAULT_SAFE_REGION_SAFE).testBit k && !(v.getLsbD k && s.actsGone k && !((decide (k.val < 4) || k == 5) && s.on (F.FAULT_COLL_STAT_PARITY k)))) ∧
        t.g F.FAULT_SAFE_CHIP_SAFE = (if (v.getLsbD 8 = true ∧ s.actsGone 8 = true ∧
          s.g F.FAULT_STAT_CHIP_COLL_PAR = 0) then 0 else s.g F.FAULT_SAFE_CHIP_SAFE) ∧
        (((s.g F.FAULT_SAFE_REGION_SAFE).testBit k && (v.getLsbD k && s.actsGone k && !((decide (k.val < 4) || k == 5) && s.on (F.FAULT_COLL_STAT_PARITY k)))) = true → t.g (safeKindField k) = 0) ∧
        (((s.g F.FAULT_SAFE_REGION_SAFE).testBit k && v.getLsbD k && !(v.getLsbD k && s.actsGone k && !((decide (k.val < 4) || k == 5) && s.on (F.FAULT_COLL_STAT_PARITY k)))) = true → t.g F.FAULT_STAT_CLR_REFUSED = 1) ∧
        (s.g F.FAULT_SAFE_CHIP_SAFE = 1 → v.getLsbD 8 = true → ¬(v.getLsbD 8 = true ∧ s.actsGone 8 = true ∧
          s.g F.FAULT_STAT_CHIP_COLL_PAR = 0) → t.g F.FAULT_STAT_CLR_REFUSED = 1) ∧
        (s.g F.TICK_STAT_RUNNING = 1 → t.rd R.CHIP_STATE = s.rd R.CHIP_STATE) ∧
        (s.g F.TICK_STAT_RUNNING = 0 →
          ((s.g F.FAULT_SAFE_REGION_SAFE).testBit k && (v.getLsbD k && s.actsGone k && !((decide (k.val < 4) || k == 5) && s.on (F.FAULT_COLL_STAT_PARITY k)))) = true → (t.g F.CHIP_STATE_REGION_SAFE).testBit k = false) ∧
        (s.g F.TICK_STAT_RUNNING = 0 → s.g F.FAULT_SAFE_CHIP_SAFE = 1 → (v.getLsbD 8 = true ∧ s.actsGone 8 = true ∧
          s.g F.FAULT_STAT_CHIP_COLL_PAR = 0) → t.g F.CHIP_STATE_CHIP_SAFE = 0) ∧ sameMem s t) ∧
  -- SAFE_CLEAR of chip safe state
  (∀ (s : State),
      s.g F.TICK_STAT_RUNNING = 1 →
      s.g F.FAULT_SAFE_CHIP_SAFE = 1 ∧ s.actsGone 8 = true ∧ s.g F.FAULT_STAT_CHIP_COLL_PAR = 0 →
      ∃ t, exec (.safeClear 0x100#32) s = .next t ∧ t.g F.FAULT_SAFE_CHIP_SAFE = 0 ∧ t.g F.FAULT_SAFE_CHIP_KIND = 0 ∧
        t.g F.CHIP_STATE_CHIP_SAFE = s.g F.CHIP_STATE_CHIP_SAFE ∧ t.actsOn 8 = [] ∧ SMap.get noneB t.ft.ending 8 = true ∧
        onlyRegs s t [R.FAULT_SAFE]) ∧
  -- SAFE_CLEAR while a cause lasts
  (∀ (i : Fin 7) (s : State),
      (s.g F.FAULT_SAFE_REGION_SAFE).testBit i = true ∧ s.actsGone i = false →
      ∃ t, exec (.safeClear (BitVec.ofNat 32 (2 ^ i.val))) s = .next t ∧ t.g F.FAULT_STAT_CLR_REFUSED = 1 ∧ t.out = s.ok.out ∧
        confined s t [R.FAULT_STAT]) ∧
  -- FOREQ_CLEAR
  (∀ (v : Word) (s : State),
      v.getLsbD 31 = true ∧ s.g F.FAULT_FOREQ_REQ = 1 ∧ s.actsGone 16 = true →
      ∃ t, exec (.foreqClear v) s = .next t ∧ t.g F.FAULT_FOREQ_REQ = 0 ∧ t.g F.FAULT_FOREQ_WITHHELD = 0 ∧
        t.ft.foWithhold = false ∧ t.out = s.ok.out ∧ onlyRegs s t [R.FAULT_FOREQ]) ∧
  -- FOREQ_CLEAR while a cause lasts
  (∀ (v : Word) (s : State),
      v.getLsbD 31 = true ∧ s.g F.FAULT_FOREQ_REQ = 1 ∧ s.actsGone 16 = false →
      ∃ t, exec (.foreqClear v) s = .next t ∧ t.g F.FAULT_FOREQ_REQ = 1 ∧ t.g F.FAULT_STAT_CLR_REFUSED = 1 ∧
        confined s t [R.FAULT_STAT]) ∧
  -- FOREQ_CLEAR with nothing to clear
  (∀ (v : Word) (s : State),
      v.getLsbD 31 = false ∨ s.g F.FAULT_FOREQ_REQ = 0 →
      ∃ t, exec (.foreqClear v) s = .next t ∧ t = s.ok) ∧
  -- LMUTE_CLEAR
  (∀ (v : Word) (s : State),
      ∃ t, exec (.lmuteClear v) s = .next t ∧ (∀ g : Fin 12,
        (t.g F.FAULT_LMUTE_GROUPS).testBit g = ((s.g F.FAULT_LMUTE_GROUPS).testBit g && !v.getLsbD g)) ∧ t.out = s.ok.out ∧
        confined s t [R.FAULT_LMUTE]) ∧
  -- COLL_PARITY_CLEAR
  (∀ (i : Fin 7) (v : Word) (s : State),
      v.getLsbD 31 = true ∧ s.g (F.FAULT_COLL_STAT_PARITY i) = 1 →
      ∃ t, exec (.collParityClear i v) s = .next t ∧ (SMap.get noneB s.ft.reloaded i = true →
        t.g (F.FAULT_COLL_STAT_PARITY i) = 0 ∧ confined s t [R.FAULT_COLL_STAT i]) ∧ (SMap.get noneB s.ft.reloaded i = false →
        t.g F.FAULT_STAT_CLR_REFUSED = 1 ∧ confined s t [R.FAULT_STAT])) ∧
  -- COLL_PARITY_CLEAR with nothing to clear
  (∀ (i : Fin 7) (v : Word) (s : State),
      v.getLsbD 31 = false ∨ s.g (F.FAULT_COLL_STAT_PARITY i) = 0 →
      ∃ t, exec (.collParityClear i v) s = .next t ∧ t = s.ok)

/-- ECC_WRITEBACK ends a waiting write-back and the word's single-bit mark, and does nothing where no write-back waits or
a locked sequence holds the bank. SCRUB_VISIT of a memory whose scrubber is enabled, and whose next unit no locked
sequence holds, checks that unit's words and moves on, round its units: a single-bit mark is corrected and a
double-bit one stays; in a data memory the first is counted and reported, and the second counted and reported with its
address; no memory content changes. Otherwise it does nothing. ECC_INJECT_ARM arms the injection in the mode it names
and ECC_INJECT_DISARM disarms it, both without reading or writing the word. A bank that may be retained, such as one
of an OFF cluster while ticks are stopped, enters retention, unless a scrub pass is in it or it is waking; any other
bank stays as it is. BANK_WAKE_DONE ends the bank's wake. Completes ECC_WRITEBACK, SCRUB_VISIT, ECC_INJECT_ARM,
ECC_INJECT_DISARM, BANK_RETENTION_ENTRY, BANK_WAKE_DONE. (R312, R313, R314, R315, R318, R319) -/
def Obligations.MemoriesAreCheckedScrubbedAndRetained : Prop :=
  -- ECC_WRITEBACK
  (∀ (a : Word) (s : State),
      a.toNat ∈ s.mx.wb →
      s.lockBank = none ∨ s.lockBank ≠ bankAt a.toNat →
      ∃ t, exec (.eccWriteback a) s = .next t ∧ t.eccAt a.toNat = 0 ∧ a.toNat ∉ t.mx.wb ∧ onlyRegs s t []) ∧
  -- ECC_WRITEBACK that a newer write cancelled
  (∀ (a : Word) (s : State),
      a.toNat ∉ s.mx.wb →
      ∃ t, exec (.eccWriteback a) s = .next t ∧ t = s) ∧
  -- ECC_WRITEBACK while a locked sequence holds the bank
  (∀ (a : Word) (s : State),
      ¬(s.lockBank = none ∨ s.lockBank ≠ bankAt a.toNat) →
      ∃ t, exec (.eccWriteback a) s = .next t ∧ t = s) ∧
  -- SCRUB_VISIT
  (∀ (m : Fin 37) (s : State),
      s.g F.MEM_SCRUB_CTL_EN = 1 →
      s.lockBank ≠ some (scrubBank m (s.scrubPos m)) →
      ∃ t, exec (.scrubVisit m) s = .next t ∧ t.scrubPos m = (s.scrubPos m + 1) % scrubUnits m ∧
        (∀ a ∈ scrubWords m (s.scrubPos m), t.eccAt a = if s.eccAt a = 1 then 0 else s.eccAt a) ∧ sameMem s t) ∧
  -- SCRUB_VISIT of a scrubber that is off or held
  (∀ (m : Fin 37) (s : State),
      s.g F.MEM_SCRUB_CTL_EN = 0 ∨ s.lockBank = some (scrubBank m (s.scrubPos m)) →
      ∃ t, exec (.scrubVisit m) s = .next t ∧ t = s) ∧
  -- SCRUB_VISIT of a word of cluster data with a single-bit error
  (∀ (m : Fin 16) (s : State),
      s.g F.MEM_SCRUB_CTL_EN = 1 ∧ s.scrubPos m < 65535 →
      s.lockBank ≠ some (scrubBank m (s.scrubPos m)) →
      s.eccAt (scrubAddr m (s.scrubPos m)) = 1 →
      ∃ t, exec (.scrubVisit ⟨m, by omega⟩) s = .next t ∧ t.eccAt (scrubAddr m (s.scrubPos m)) = 0 ∧
        (t.rd R.MEM_ECC_CORR_CNT).toNat = min ((s.rd R.MEM_ECC_CORR_CNT).toNat + 1) (2 ^ 32 - 1) ∧
        t.ft.blocks = addMsg s.ft.blocks ⟨scrubAddr m (s.scrubPos m), 1, Kind.eccCorr,
        memSource (.data m) (scrubAddr m (s.scrubPos m) % 0x100000)⟩ ∧ onlyRegs s t [R.MEM_ECC_CORR_CNT]) ∧
  -- SCRUB_VISIT of a word of cluster data with a double-bit error
  (∀ (m : Fin 16) (s : State),
      s.g F.MEM_SCRUB_CTL_EN = 1 ∧ s.scrubPos m < 65535 →
      s.lockBank ≠ some (scrubBank m (s.scrubPos m)) →
      s.eccAt (scrubAddr m (s.scrubPos m)) = 2 →
      ∃ t, exec (.scrubVisit ⟨m, by omega⟩) s = .next t ∧ t.eccAt (scrubAddr m (s.scrubPos m)) = 2 ∧
        t.rd R.MEM_ECC_LAST = BitVec.ofNat 32 (scrubAddr m (s.scrubPos m)) ∧
        (t.rd R.MEM_ECC_UNCORR_CNT).toNat = min ((s.rd R.MEM_ECC_UNCORR_CNT).toNat + 1) (2 ^ 32 - 1) ∧
        t.ft.blocks = addMsg s.ft.blocks ⟨scrubAddr m (s.scrubPos m), 1, Kind.eccUncorr,
        memSource (.data m) (scrubAddr m (s.scrubPos m) % 0x100000)⟩ ∧ onlyRegs s t [R.MEM_ECC_UNCORR_CNT, R.MEM_ECC_LAST]) ∧
  -- ECC_INJECT_ARM
  (∀ (double : Bool) (s : State),
      ∃ t, exec (.eccInjectArm double) s = .next t ∧ t.g F.MEM_INJ_CTL_ARMED = 1 ∧ t.mx.injMode = (if double then 2 else 1) ∧
        t.out = s.ok.out ∧ onlyRegs s t [R.MEM_INJ_CTL]) ∧
  -- ECC_INJECT_DISARM
  (∀ (s : State),
      ∃ t, exec .eccInjectDisarm s = .next t ∧ t.g F.MEM_INJ_CTL_ARMED = 0 ∧ t.out = s.ok.out ∧ onlyRegs s t [R.MEM_INJ_CTL]) ∧
  -- BANK_RETENTION_ENTRY of a bank of an OFF cluster while ticks are stopped
  (∀ (b : Fin 416) (s : State),
      b.val < 256 ∧ s.g (F.CL_STAT_STATE (b.val / 16)) = 0 →
      s.g F.TICK_STAT_RUNNING = 0 →
      s.scrubbing b = false ∧ SMap.get noneB s.mx.waking b = false →
      ∃ t, exec (.bankRetentionEntry b) s = .next t ∧ t.inRet b = true ∧ (∀ d : Fin 416, d ≠ b → t.inRet d = s.inRet d) ∧
        onlyRegs s t []) ∧
  -- BANK_RETENTION_ENTRY of a bank that may be retained
  (∀ (b : Fin 416) (s : State),
      s.mayRetain b = true →
      s.scrubbing b = false ∧ SMap.get noneB s.mx.waking b = false →
      ∃ t, exec (.bankRetentionEntry b) s = .next t ∧ t.inRet b = true ∧ (∀ d : Fin 416, d ≠ b → t.inRet d = s.inRet d) ∧
        onlyRegs s t []) ∧
  -- BANK_RETENTION_ENTRY of a bank in use
  (∀ (b : Fin 416) (s : State),
      s.mayRetain b = false ∨ s.scrubbing b = true ∨ SMap.get noneB s.mx.waking b = true →
      ∃ t, exec (.bankRetentionEntry b) s = .next t ∧ t = s) ∧
  -- BANK_WAKE_DONE
  (∀ (b : Fin 416) (s : State),
      ∃ t, exec (.bankWakeDone b) s = .next t ∧ SMap.get noneB t.mx.waking b = false ∧ (∀ d : Fin 416, d ≠ b →
        SMap.get noneB t.mx.waking d = SMap.get noneB s.mx.waking d) ∧ t.mx.ret = s.mx.ret ∧ onlyRegs s t [])

/-- On a free channel whose address is a word of a memory that is no program memory, holds no uncorrectable error and is
not in a bank that a locked sequence holds, ATOMIC_ADD leaves the sum modulo 2^32 there, ATOMIC_ADDS the sum as two's
complement clipped to its range, ATOMIC_SWAP the operand; MTX_ATOM_OLD holds the old word and no other byte changes.
On an address that does not divide by four, that is in a program memory or no word of a memory, or whose word is
uncorrectable, ERR is set, OLD reads 0, and no byte changes; an address outside the map is recorded as a decode error
too. A busy channel refuses the command, and one whose bank a locked sequence holds is BUSY and waits. LOCK_SEQUENCE
of 1 to 4 accesses is taken, another count sets CFG_REFUSED. LOCK_ABORT ends a sequence whose first access has been
granted, and counts and reports it; otherwise it does nothing. Completes ATOMIC_ADD, ATOMIC_ADDS, ATOMIC_SWAP,
LOCK_SEQUENCE, LOCK_ABORT. (R316, R317, R326) -/
def Obligations.AtomicChannelsAndLockedSequences : Prop :=
  -- ATOMIC_ADD
  (∀ (a : Fin 8) (clr : Bool) (k : MemKind) (o : Nat) (s : State),
      s.g (F.MTX_ATOM_ADDR_ADDR a) % 4 = 0 ∧ memOf (s.g (F.MTX_ATOM_ADDR_ADDR a)) = some (k, o) ∧ k.isProg = false →
      s.eccAt (s.g (F.MTX_ATOM_ADDR_ADDR a)) ≤ 1 →
      s.g (F.MTX_ATOM_CTL_BUSY a) = 0 →
      s.atomLocked a = false →
      ∃ t, exec (.atomicAdd a clr) s = .next t ∧
        t.word (s.g (F.MTX_ATOM_ADDR_ADDR a)) = s.word (s.g (F.MTX_ATOM_ADDR_ADDR a)) + s.rd (R.MTX_ATOM_OPND a) ∧
        t.rd (R.MTX_ATOM_OLD a) = s.word (s.g (F.MTX_ATOM_ADDR_ADDR a)) ∧
        t.g (F.MTX_ATOM_CTL_ERR a) = (if clr then 0 else s.g (F.MTX_ATOM_CTL_ERR a)) ∧ t.out = s.ok.out ∧
        onlyBytes s t [R.MTX_ATOM_OLD a, R.MTX_ATOM_CTL a, R.MEM_WAKE_CNT, R.MEM_ECC_CORR_CNT,
        R.MEM_INJ_CTL] (s.g (F.MTX_ATOM_ADDR_ADDR a)) 4) ∧
  -- ATOMIC_ADDS
  (∀ (a : Fin 8) (clr : Bool) (k : MemKind) (o : Nat) (s : State),
      s.g (F.MTX_ATOM_ADDR_ADDR a) % 4 = 0 ∧ memOf (s.g (F.MTX_ATOM_ADDR_ADDR a)) = some (k, o) ∧ k.isProg = false →
      s.eccAt (s.g (F.MTX_ATOM_ADDR_ADDR a)) ≤ 1 →
      s.g (F.MTX_ATOM_CTL_BUSY a) = 0 →
      s.atomLocked a = false →
      ∃ t, exec (.atomicAdds a clr) s = .next t ∧
        (t.word (s.g (F.MTX_ATOM_ADDR_ADDR a))).toInt = max (-2147483648) (min 2147483647 ((s.word (s.g (F.MTX_ATOM_ADDR_ADDR a))).toInt + (s.rd (R.MTX_ATOM_OPND a)).toInt)) ∧ t.rd (R.MTX_ATOM_OLD a) = s.word (s.g (F.MTX_ATOM_ADDR_ADDR a)) ∧ t.g (F.MTX_ATOM_CTL_ERR a) = (if clr then 0 else s.g (F.MTX_ATOM_CTL_ERR a)) ∧ t.out = s.ok.out ∧ onlyBytes s t [R.MTX_ATOM_OLD a, R.MTX_ATOM_CTL a, R.MEM_WAKE_CNT, R.MEM_ECC_CORR_CNT, R.MEM_INJ_CTL] (s.g (F.MTX_ATOM_ADDR_ADDR a)) 4) ∧
  -- ATOMIC_SWAP
  (∀ (a : Fin 8) (clr : Bool) (k : MemKind) (o : Nat) (s : State),
      s.g (F.MTX_ATOM_ADDR_ADDR a) % 4 = 0 ∧ memOf (s.g (F.MTX_ATOM_ADDR_ADDR a)) = some (k, o) ∧ k.isProg = false →
      s.eccAt (s.g (F.MTX_ATOM_ADDR_ADDR a)) ≤ 1 →
      s.g (F.MTX_ATOM_CTL_BUSY a) = 0 →
      s.atomLocked a = false →
      ∃ t, exec (.atomicSwap a clr) s = .next t ∧ t.word (s.g (F.MTX_ATOM_ADDR_ADDR a)) = s.rd (R.MTX_ATOM_OPND a) ∧
        t.rd (R.MTX_ATOM_OLD a) = s.word (s.g (F.MTX_ATOM_ADDR_ADDR a)) ∧
        t.g (F.MTX_ATOM_CTL_ERR a) = (if clr then 0 else s.g (F.MTX_ATOM_CTL_ERR a)) ∧ t.out = s.ok.out ∧
        onlyBytes s t [R.MTX_ATOM_OLD a, R.MTX_ATOM_CTL a, R.MEM_WAKE_CNT, R.MEM_ECC_CORR_CNT,
        R.MEM_INJ_CTL] (s.g (F.MTX_ATOM_ADDR_ADDR a)) 4) ∧
  -- atomic operations on an address they do not take
  (∀ (a : Fin 8) (clr : Bool) (s : State),
      inAddressMap (s.g (F.MTX_ATOM_ADDR_ADDR a)) = true ∧
        ((s.g (F.MTX_ATOM_ADDR_ADDR a)) % 4 ≠ 0 ∨ (memOf (s.g (F.MTX_ATOM_ADDR_ADDR a))).all (fun k => k.1.isProg) = true) →
      s.g (F.MTX_ATOM_CTL_BUSY a) = 0 →
      s.atomLocked a = false →
      ∃ t, exec (.atomicAdd a clr) s = .next t ∧ exec (.atomicAdds a clr) s = .next t ∧ exec (.atomicSwap a clr) s = .next t ∧
        t.g (F.MTX_ATOM_CTL_ERR a) = 1 ∧ t.rd (R.MTX_ATOM_OLD a) = 0 ∧ confined s t [R.MTX_ATOM_OLD a, R.MTX_ATOM_CTL a]) ∧
  -- atomic operations on a bank that a locked sequence holds
  (∀ (a : Fin 8) (clr : Bool) (s : State),
      s.g (F.MTX_ATOM_CTL_BUSY a) = 0 →
      s.atomLocked a = true →
      (∃ t, exec (.atomicAdd a clr) s = .next t ∧ t.g (F.MTX_ATOM_CTL_BUSY a) = 1 ∧ onlyRegs s t [R.MTX_ATOM_CTL a]) ∧
        (∃ t, exec (.atomicAdds a clr) s = .next t ∧ t.g (F.MTX_ATOM_CTL_BUSY a) = 1 ∧ onlyRegs s t [R.MTX_ATOM_CTL a]) ∧
        (∃ t, exec (.atomicSwap a clr) s = .next t ∧ t.g (F.MTX_ATOM_CTL_BUSY a) = 1 ∧ onlyRegs s t [R.MTX_ATOM_CTL a])) ∧
  -- atomic operations on an uncorrectable word
  (∀ (a : Fin 8) (clr : Bool) (k : MemKind) (o : Nat) (s : State),
      (s.g (F.MTX_ATOM_ADDR_ADDR a)) % 4 = 0 ∧ memOf (s.g (F.MTX_ATOM_ADDR_ADDR a)) = some (k, o) ∧ k.isProg = false →
      s.eccAt (s.g (F.MTX_ATOM_ADDR_ADDR a)) = 2 →
      s.g (F.MTX_ATOM_CTL_BUSY a) = 0 →
      s.atomLocked a = false →
      ∃ t, exec (.atomicAdd a clr) s = .next t ∧ exec (.atomicAdds a clr) s = .next t ∧ exec (.atomicSwap a clr) s = .next t ∧
        t.g (F.MTX_ATOM_CTL_ERR a) = 1 ∧ t.rd (R.MTX_ATOM_OLD a) = 0 ∧ sameMem s t) ∧
  -- atomic operations on an address outside the map
  (∀ (a : Fin 8) (clr : Bool) (s : State),
      inAddressMap (s.g (F.MTX_ATOM_ADDR_ADDR a)) = false →
      s.g (F.MTX_ATOM_CTL_BUSY a) = 0 →
      s.atomLocked a = false →
      ∃ t, exec (.atomicAdd a clr) s = .next t ∧ exec (.atomicAdds a clr) s = .next t ∧ exec (.atomicSwap a clr) s = .next t ∧
        t.g (F.MTX_ATOM_CTL_ERR a) = 1 ∧ t.rd (R.MTX_ATOM_OLD a) = 0 ∧ t.g F.MTX_STAT_DECODE = 1 ∧
        t.rd R.MTX_DECODE_LAST = s.rd (R.MTX_ATOM_ADDR a) ∧ onlyRegs s t [R.MTX_ATOM_OLD a, R.MTX_ATOM_CTL a, R.MTX_STAT,
        R.MTX_DECODE_LAST, R.MTX_DECODE_CNT]) ∧
  -- atomic operations on a busy channel
  (∀ (a : Fin 8) (clr : Bool) (s : State),
      s.g (F.MTX_ATOM_CTL_BUSY a) = 1 →
      ∃ t, exec (.atomicAdd a clr) s = .next t ∧ exec (.atomicAdds a clr) s = .next t ∧ exec (.atomicSwap a clr) s = .next t ∧
        t.g F.MTX_STAT_CFG_REFUSED = 1 ∧ confined s t [R.MTX_STAT]) ∧
  -- LOCK_SEQUENCE
  (∀ (n : Fin 8) (s : State),
      1 ≤ n.val ∧ n.val ≤ 4 →
      s.mx.hung = [] ∧ s.mx.atoms = [] →
      ∃ t, exec (.lockSequence n) s = .next t ∧ t.mx.lockLeft = n.val ∧ t.mx.lockAddr = none ∧ t.out = s.ok.out ∧
        onlyRegs s t []) ∧
  -- LOCK_SEQUENCE of another count
  (∀ (n : Fin 8) (s : State),
      n.val = 0 ∨ 4 < n.val →
      s.mx.hung = [] ∧ s.mx.atoms = [] →
      ∃ t, exec (.lockSequence n) s = .next t ∧ t.g F.MTX_STAT_CFG_REFUSED = 1 ∧ t.out = s.ok.out ∧ confined s t [R.MTX_STAT]) ∧
  -- LOCK_ABORT
  (∀ (a : Nat) (s : State),
      s.mx.lockAddr = some a ∧ a < 2 ^ 32 →
      s.mx.hung = [] ∧ s.mx.atoms = [] →
      ∃ t, exec .lockAbort s = .next t ∧ t.mx.lockLeft = 0 ∧ t.g F.MTX_STAT_LOCK_ABORT = 1 ∧
        (t.rd R.MTX_LOCK_ABORT_CNT).toNat = min ((s.rd R.MTX_LOCK_ABORT_CNT).toNat + 1) (2 ^ 32 - 1) ∧
        t.ft.blocks = addMsg s.ft.blocks ⟨a, 1, Kind.lockAbort, Src.matrix 6⟩ ∧ onlyRegs s t [R.MTX_STAT,
        R.MTX_LOCK_ABORT_CNT]) ∧
  -- LOCK_ABORT without a granted access
  (∀ (s : State),
      s.mx.lockAddr = none →
      ∃ t, exec .lockAbort s = .next t ∧ t = s)

/-- HUNG_ACCESS of an access not yet reported that waits for a domain sets HUNG and OUTSTANDING, shows its address and
domain, counts and reports it; any other changes nothing. A domain reset, by the register or by the watchdog,
completes every access to the domain and ends READY; the watchdog resets only a domain with a reported access. A far
clock that stops leaves its domain unanswering at once, and CLOCK_PRESENT falls when that is seen. When it returns and
is seen, CLOCK_PRESENT is set, and when the crossing is ready READY; a reported access then receives an error response
and one not reported is performed. For a manager with its link up and nothing waiting, a BAR_0 read of a sound memory
word or of a register of a block is answered with it, with the bytes that its enables name; a BAR_0 write stores the
bytes its enables name; and a BAR_0 read of nothing is answered with all ones, with BAR_ERR set; for any other device
a request changes nothing. A BAR_0 read that times out is answered with all ones and RD_TIMEOUT. Completes
HUNG_ACCESS, DOMAIN_RESET, AUTO_DOMAIN_RESET, CLOCK_PRESENT_CHANGE, CROSSING_READY, BAR0_REQUEST, BAR0_READ_TIMEOUT.
(R28, R333, R334, R335, R336, R337, R481, R482) -/
def Obligations.AccessesWaitForStoppedDomains : Prop :=
  -- HUNG_ACCESS
  (∀ (j : Nat) (h : Hung) (s : State),
      s.mx.hung[j]? = some h ∧ h.reported = false ∧ h.dom < 35 ∧ h.addr < 2 ^ 32 →
      ∃ t, exec (.hungAccess j) s = .next t ∧ t.mx.hung = s.mx.hung.set j { h with reported := true } ∧
        t.g F.MTX_STAT_HUNG = 1 ∧ t.rd R.MTX_HANG_LAST = BitVec.ofNat 32 h.addr ∧ t.g F.MTX_HANG_DOM_DOMAIN = h.dom ∧
        t.g F.MTX_HANG_DOM_OUTSTANDING = 1 ∧ t.ft.blocks = addMsg s.ft.blocks ⟨h.addr, 1, Kind.hungAccess,
        Src.crossbar (domRegion h.dom)⟩ ∧ onlyRegs s t [R.MTX_STAT, R.MTX_HANG_LAST, R.MTX_HANG_DOM, R.MTX_HANG_CNT]) ∧
  -- HUNG_ACCESS of no such access
  (∀ (j : Nat) (s : State),
      s.mx.hung[j]?.all (fun h => h.reported || decide (35 ≤ h.dom)) = true →
      ∃ t, exec (.hungAccess j) s = .next t ∧ t = s) ∧
  -- DOMAIN_RESET
  (∀ (d : Fin 35) (s : State),
      s.othersWait d →
      ∃ t, exec (.domainReset (BitVec.ofNat 32 d.val)) s = .next t ∧ t.g (readyOf d) = 0 ∧
        t.g (presentOf d) = s.g (presentOf d) ∧ t.mx.hung = s.mx.hung.filter (fun h => h.dom != d.val) ∧ sameMem s t) ∧
  -- DOMAIN_RESET of no domain
  (∀ (v : Word) (s : State),
      34 < bitsOf v 5 0 →
      s.mx.hung = [] ∧ s.mx.atoms = [] →
      ∃ t, exec (.domainReset v) s = .next t ∧ t.g F.MTX_STAT_CFG_REFUSED = 1 ∧ t.out = s.ok.out ∧ confined s t [R.MTX_STAT]) ∧
  -- AUTO_DOMAIN_RESET
  (∀ (d : Fin 35) (h : Hung) (s : State),
      s.g F.MTX_HANG_CTL_AUTO_MS ≠ 0 →
      h ∈ s.mx.hung ∧ h.reported = true ∧ h.dom = d.val →
      s.othersWait d →
      ∃ t, exec (.autoDomainReset d) s = .next t ∧ t.g (readyOf d) = 0 ∧
        t.mx.hung = s.mx.hung.filter (fun h => h.dom != d.val) ∧ sameMem s t) ∧
  -- AUTO_DOMAIN_RESET without a reported access
  (∀ (d : Fin 35) (s : State),
      s.g F.MTX_HANG_CTL_AUTO_MS = 0 ∨ s.mx.hung.all (fun h => !h.reported || h.dom != d.val) = true →
      ∃ t, exec (.autoDomainReset d) s = .next t ∧ t = s) ∧
  -- CLOCK_PRESENT_CHANGE of a clock that stops
  (∀ (d : Fin 35) (s : State),
      ∃ t, exec (.clockPresentChange d false true) s = .next t ∧ t.g (presentOf d) = 0 ∧ t.farLive d = false ∧ t.out = s.out ∧
        onlyRegs s t [(presentOf d).reg]) ∧
  -- CLOCK_PRESENT_CHANGE of a clock that has stopped unseen
  (∀ (d : Fin 35) (s : State),
      ∃ t, exec (.clockPresentChange d false false) s = .next t ∧ t.farLive d = false ∧ t.out = s.out ∧ onlyRegs s t []) ∧
  -- CLOCK_PRESENT_CHANGE of a clock that returns, with a reported access
  (∀ (d : Fin 35) (a : Nat) (s : State),
      s.clockSeen d = true →
      s.mx.hung = [⟨d.val, a, true, none, 4, .bus false⟩] ∧ s.mx.atoms = [] →
      ∃ t, exec (.clockPresentChange d true true) s = .next t ∧ t.g (presentOf d) = 1 ∧ t.mx.hung = [] ∧
        t.g F.MTX_HANG_DOM_OUTSTANDING = 0 ∧ t.out = s.out ++ [.resp true [0]] ∧ onlyRegs s t [(presentOf d).reg,
        R.MTX_HANG_DOM]) ∧
  -- CLOCK_PRESENT_CHANGE of a clock that returns, with nothing waiting
  (∀ (d : Fin 35) (seen : Bool) (s : State),
      s.mx.hung = [] ∧ s.mx.atoms = [] →
      ∃ t, exec (.clockPresentChange d true seen) s = .next t ∧ t.g (presentOf d) = (if seen = true ∧
        s.clockSeen d = true then 1 else s.g (presentOf d)) ∧ (t.farLive d = (t.on (presentOf d) && s.on (readyOf d))) ∧
        onlyRegs s t [(presentOf d).reg, R.MTX_HANG_DOM]) ∧
  -- CROSSING_READY
  (∀ (d : Fin 35) (s : State),
      s.g (presentOf d) = 1 ∧ s.g (readyOf d) = 0 →
      s.mx.hung = [] ∧ s.mx.atoms = [] →
      ∃ t, exec (.crossingReady d) s = .next t ∧ t.g (readyOf d) = 1 ∧ onlyRegs s t [(readyOf d).reg, R.MTX_HANG_DOM]) ∧
  -- CROSSING_READY with an access that waits
  (∀ (n : Fin 24) (s : State),
      s.g (F.SAP_STAT_CLOCK_PRESENT n) = 1 ∧ s.g (F.SAP_STAT_READY n) = 0 ∧ SMap.get noneB s.mx.stopped n = false →
      s.mx.hung = [⟨n.val, R.SAP_FRAME_CNT n, false, none, 4, .bus false⟩] ∧ s.mx.atoms = [] →
      ∃ t, exec (.crossingReady ⟨n, by omega⟩) s = .next t ∧ t.g (F.SAP_STAT_READY n) = 1 ∧ t.mx.hung = [] ∧
        t.out = s.out ++ [.resp false [s.rd (R.SAP_FRAME_CNT n)]]) ∧
  -- CROSSING_READY without a clock, or of a ready crossing
  (∀ (d : Fin 35) (s : State),
      s.g (presentOf d) = 0 ∨ s.g (readyOf d) = 1 →
      ∃ t, exec (.crossingReady d) s = .next t ∧ t = s) ∧
  -- BAR0_REQUEST that reads a sound memory word
  (∀ (a : BitVec 24) (k : MemKind) (o : Nat) (s : State),
      s.g F.CHIP_STRAP_ROLE = 1 ∧ s.g F.HOST_STAT_LINK_UP = 1 ∧ s.freeBus →
      memOf (4 * a.toNat) = some (k, o) ∧ k.isProg = false →
      s.eccAt (4 * a.toNat) = 0 ∧ s.inRet (bankOf k o) = false →
      ∃ t, exec (.bar0Request a [15] none) s = .next t ∧ t.out = s.out ++ [.resp false [s.word (4 * a.toNat)]] ∧
        onlyRegs s t []) ∧
  -- BAR0_REQUEST that reads bytes of a memory word
  (∀ (a : BitVec 24) (be : Fin 16) (k : MemKind) (o : Nat) (s : State),
      s.g F.CHIP_STRAP_ROLE = 1 ∧ s.g F.HOST_STAT_LINK_UP = 1 ∧ s.freeBus →
      memOf (4 * a.toNat) = some (k, o) ∧ k.isProg = false →
      s.eccAt (4 * a.toNat) = 0 →
      ∃ t, exec (.bar0Request a [be] none) s = .next t ∧
        t.out = s.out ++ [.resp false [s.word (4 * a.toNat) &&& BitVec.ofNat 32 (enabledBytes be.val)]] ∧ sameMem s t) ∧
  -- BAR0_REQUEST that reads a register of a block
  (∀ (a : BitVec 24) (r : RegSpec) (ix : List Nat) (s : State),
      s.g F.CHIP_STRAP_ROLE = 1 ∧ s.g F.HOST_STAT_LINK_UP = 1 ∧ s.freeBus →
      0x03000000 ≤ 4 * a.toNat ∧ regSpecAt (4 * a.toNat) = some (r, ix) ∧ s.windowView (4 * a.toNat) = none →
      (farDomain (4 * a.toNat)).all s.farLive = true →
      ∃ t, exec (.bar0Request a [15] none) s = .next t ∧
        t.out = s.out ++ [.resp false [(s.regRead r ix (4 * a.toNat) false).2]]) ∧
  -- BAR0_REQUEST that writes a memory word
  (∀ (a : BitVec 24) (v : Word) (k : MemKind) (o : Nat) (s : State),
      s.g F.CHIP_STRAP_ROLE = 1 ∧ s.g F.HOST_STAT_LINK_UP = 1 →
      s.freeBus →
      memOf (4 * a.toNat) = some (k, o) ∧ k.isProg = false →
      ∃ t, exec (.bar0Request a [15] (some [v])) s = .next t ∧ t.word (4 * a.toNat) = v ∧ onlyBytes s t [R.MEM_WAKE_CNT,
        R.MEM_INJ_CTL] (4 * a.toNat) 4) ∧
  -- BAR0_REQUEST that writes bytes of a memory word
  (∀ (a : BitVec 24) (be : Fin 16) (v : Word) (k : MemKind) (o : Nat) (s : State),
      s.g F.CHIP_STRAP_ROLE = 1 ∧ s.g F.HOST_STAT_LINK_UP = 1 ∧ s.freeBus →
      memOf (4 * a.toNat) = some (k, o) ∧ k.isProg = false →
      s.eccAt (4 * a.toNat) ≤ 1 →
      ∃ t, exec (.bar0Request a [be] (some [v])) s = .next t ∧ t.word (4 * a.toNat) = mergeBytes (s.word (4 * a.toNat)) v be ∧
        onlyMem s t (4 * a.toNat) 4 ∧ t.out = s.out) ∧
  -- BAR0_REQUEST that reads where nothing stands
  (∀ (a : BitVec 24) (s : State),
      s.g F.CHIP_STRAP_ROLE = 1 ∧ s.g F.HOST_STAT_LINK_UP = 1 ∧ s.freeBus →
      0x02800000 ≤ 4 * a.toNat ∧ 4 * a.toNat < 0x03000000 →
      ∃ t, exec (.bar0Request a [15] none) s = .next t ∧ t.out = s.out ++ [.resp false [0xFFFFFFFF#32]] ∧
        t.g F.HOST_STAT_BAR_ERR = 1 ∧ t.rd R.HOST_BAR_ERR_ADDR = BitVec.ofNat 32 (4 * a.toNat) ∧ t.g F.MTX_STAT_DECODE = 1 ∧
        sameMem s t) ∧
  -- BAR0_REQUEST to a worker, or without a link
  (∀ (a : BitVec 24) (bes : List (Fin 16)) (data : Option (List Word)) (s : State),
      s.g F.CHIP_STRAP_ROLE = 0 ∨ s.g F.HOST_STAT_LINK_UP = 0 →
      ∃ t, exec (.bar0Request a bes data) s = .next t ∧ t = s) ∧
  -- BAR0_READ_TIMEOUT
  (∀ (j d a : Nat) (r : Bool) (ws : List Word) (left : List (Fin 16)) (s : State),
      s.mx.hung[j]? = some ⟨d, a, r, none, 4, .bar ws left⟩ →
      ∃ t, exec (.bar0ReadTimeout j) s = .next t ∧ t.mx.hung = s.mx.hung.set j ⟨d, a, r, none, 4, .gone⟩ ∧
        t.out = s.out ++ [.resp false (List.replicate (ws.length + left.length) 0xFFFFFFFF#32)] ∧
        t.g F.HOST_STAT_RD_TIMEOUT = 1 ∧ onlyRegs s t [R.HOST_STAT]) ∧
  -- BAR0_READ_TIMEOUT of no waiting access
  (∀ (j : Nat) (s : State),
      s.mx.hung.length ≤ j →
      ∃ t, exec (.bar0ReadTimeout j) s = .next t ∧ t = s)

/-- A comparison event of an input makes it present and, where it is neither qualified nor counting nor measured out of
range, starts its qualification; of the selected input it shows the phase error against the target. One beyond the
phase limit disqualifies it with reason 3. REF_LOSS of an input that was present disqualifies it with reason 1; where
it was selected while LOCKED, the DPLL turns to another qualified candidate if there is one, and goes else to FREE_RUN
without 30 s of history, to HOLDOVER with the held frequency, or to LOST where the holdover limit is used up. A
measured offset of a present input is shown; one beyond the range disqualifies with reason 2; LOCKED time and holdover
time advance by the measuring time, and the frequency follows the loop or the held value. REF_NO_LOCK disqualifies the
selected input of an ACQUIRING DPLL with reason 4. An input whose time has passed is qualified, and where it is the
only candidate and nothing is selected, the DPLL begins to acquire it. Of an input that does not exist, is not there
or does not count they change nothing. Completes REF_COMPARISON, REF_LOSS, REF_RANGE_MEASURE, REF_NO_LOCK,
REF_QUALIFIED. (R341, R342, R343, R346, R347, R352, R353, R356) -/
def Obligations.ReferencesAreQualifiedAndLost : Prop :=
  -- REF_COMPARISON of a new input
  (∀ (r : Fin 16) (dev err : BitVec 32) (s : State),
      refExists r = true ∧ SMap.get noneB s.ck.predicted r = false →
      SMap.get noneB s.ck.outRange r = false →
      s.qualified r = false ∧ s.g (F.CLK_REF_STAT_QUAL_LEFT r) = 0 →
      ∃ t, exec (.refComparison r dev err) s = .next t ∧ t.g (F.CLK_REF_STAT_PRESENT r) = 1 ∧
        t.g (F.CLK_REF_STAT_QUAL_LEFT r) = s.g F.CLK_QUAL_QUAL_MS ∧ SMap.get noneB t.ck.predicted r = true ∧
        onlyRegs s t [R.CLK_REF_STAT r, R.CLK_PHASE_ERR]) ∧
  -- REF_COMPARISON within the limit
  (∀ (r : Fin 16) (dev err : BitVec 32) (s : State),
      refExists r = true →
      SMap.get noneB s.ck.predicted r = false ∨ dev.toInt.natAbs ≤ (if r = 4 then 1000 else s.g F.CLK_LIMITS_PHIT_NS) →
      ∃ t, exec (.refComparison r dev err) s = .next t ∧ t.g (F.CLK_REF_STAT_PRESENT r) = 1 ∧ t.qualified r = s.qualified r ∧
        t.g (F.CLK_REF_STAT_QUAL_LEFT r) = (if s.qualified r = false ∧ s.g (F.CLK_REF_STAT_QUAL_LEFT r) = 0 ∧
        SMap.get noneB s.ck.outRange r = false then s.g F.CLK_QUAL_QUAL_MS else s.g (F.CLK_REF_STAT_QUAL_LEFT r)) ∧
        t.dpll = s.dpll ∧ t.cur = s.cur ∧ onlyRegs s t [R.CLK_REF_STAT r, R.CLK_PHASE_ERR]) ∧
  -- REF_COMPARISON of the selected input
  (∀ (r : Fin 16) (dev err : BitVec 32) (s : State),
      refExists r = true ∧ s.cur = some r.val ∧ (s.dpll = 1 ∨ s.dpll = 2) →
      SMap.get noneB s.ck.predicted r = false ∨ dev.toInt.natAbs ≤ (if r = 4 then 1000 else s.g F.CLK_LIMITS_PHIT_NS) →
      ∃ t, exec (.refComparison r dev err) s = .next t ∧
        t.rd R.CLK_PHASE_ERR = BitVec.ofInt 32 (err.toInt - (if s.ck.measure then err.toInt else s.ck.built)) ∧
        t.ck.measure = false ∧
        (t.ck.within = true ↔ (err.toInt - (if s.ck.measure then err.toInt else s.ck.built)).natAbs ≤ s.g F.CLK_HOLD_LOCK_NS)) ∧
  -- REF_COMPARISON beyond the limit, of an input that is not selected
  (∀ (r : Fin 16) (dev err : BitVec 32) (s : State),
      refExists r = true ∧ SMap.get noneB s.ck.predicted r = true ∧ s.qualified r = false ∧ s.cur = none →
      s.candidates.all (fun c => c.input != r.val) = true →
      (if r = 4 then 1000 else s.g F.CLK_LIMITS_PHIT_NS) < dev.toInt.natAbs →
      ∃ t, exec (.refComparison r dev err) s = .next t ∧ t.g (F.CLK_REF_STAT_QUALIFIED r) = 0 ∧
        t.g (F.CLK_REF_STAT_DQ_REASON r) = 3 ∧ t.g (F.CLK_REF_STAT_QUAL_LEFT r) = 0 ∧ t.ft = s.ft ∧
        onlyRegs s t [R.CLK_REF_STAT r, R.CLK_STAT]) ∧
  -- REF_COMPARISON beyond the limit
  (∀ (r : Fin 16) (dev err : BitVec 32) (s : State),
      refExists r = true ∧ SMap.get noneB s.ck.predicted r = true →
      (if r = 4 then 1000 else s.g F.CLK_LIMITS_PHIT_NS) < dev.toInt.natAbs →
      ∃ t, exec (.refComparison r dev err) s = .next t ∧ t.g (F.CLK_REF_STAT_PRESENT r) = 1 ∧
        t.g (F.CLK_REF_STAT_QUALIFIED r) = 0 ∧ t.g (F.CLK_REF_STAT_DQ_REASON r) = 3 ∧ t.g (F.CLK_REF_STAT_QUAL_LEFT r) = 0 ∧
        sameMem s t) ∧
  -- REF_COMPARISON of an input that does not exist
  (∀ (r : Fin 16) (dev err : BitVec 32) (s : State),
      refExists r = false →
      ∃ t, exec (.refComparison r dev err) s = .next t ∧ t = s) ∧
  -- REF_LOSS
  (∀ (r : Fin 16) (s : State),
      refExists r = true ∧ s.g (F.CLK_REF_STAT_PRESENT r) = 1 →
      ∃ t, exec (.refLoss r) s = .next t ∧ t.g (F.CLK_REF_STAT_PRESENT r) = 0 ∧ t.g (F.CLK_REF_STAT_QUALIFIED r) = 0 ∧
        t.g (F.CLK_REF_STAT_DQ_REASON r) = 1 ∧ t.g (F.CLK_REF_STAT_QUAL_LEFT r) = 0 ∧ sameMem s t) ∧
  -- REF_LOSS of an input that is not there
  (∀ (r : Fin 16) (s : State),
      refExists r = false ∨ (s.g (F.CLK_REF_STAT_PRESENT r) = 0 ∧ s.qualified r = false) →
      ∃ t, exec (.refLoss r) s = .next t ∧ t = s) ∧
  -- REF_LOSS of the selected input while LOCKED
  (∀ (r : Fin 16) (s : State),
      refExists r = true ∧ s.g (F.CLK_REF_STAT_PRESENT r) = 1 →
      s.cur = some r.val ∧ s.dpll = 2 →
      (∀ c ∈ s.candidates, c.input ≠ r.val → s.qualified c.input = false) →
      ∃ t, exec (.refLoss r) s = .next t ∧ t.cur = none ∧ (s.ck.hist < 300 → t.dpll = 0) ∧ (300 ≤ s.ck.hist →
        t.rd R.CLK_HO_FREQ = BitVec.ofInt 32 (heldFreq s.ck.freqs)) ∧ (300 ≤ s.ck.hist →
        (s.g F.CLK_HOLD_HO_LIMIT = 0 ∨ s.ck.h < 10 * s.g F.CLK_HOLD_HO_LIMIT) → t.dpll = 3 ∧ t.ck.hRun = true) ∧
        (300 ≤ s.ck.hist → 0 < s.g F.CLK_HOLD_HO_LIMIT → 10 * s.g F.CLK_HOLD_HO_LIMIT ≤ s.ck.h → t.dpll = 4)) ∧
  -- REF_LOSS of the selected input with another one qualified
  (∀ (r : Fin 16) (c : Cand) (s : State),
      refExists r = true ∧ s.g (F.CLK_REF_STAT_PRESENT r) = 1 →
      s.cur = some r.val ∧ s.dpll = 2 →
      c ∈ s.candidates ∧ c.input ≠ r.val ∧ s.qualified c.input = true →
      ∃ t, exec (.refLoss r) s = .next t ∧ t.dpll = 1 ∧ (t.cur.any (fun i => i != r.val && t.qualified i)) = true ∧
        t.g F.CLK_STAT_SWITCHING = 1) ∧
  -- REF_RANGE_MEASURE of an offset in range
  (∀ (r : Fin 16) (m out : BitVec 32) (s : State),
      refExists r = true ∧ s.g (F.CLK_REF_STAT_PRESENT r) = 1 →
      m.toInt.natAbs ≤ 1000 * s.g F.CLK_QUAL_RANGE_PPM →
      ∃ t, exec (.refRangeMeasure [(r, m)] out) s = .next t ∧ t.rd (R.CLK_REF_OFS r) = m ∧ t.qualified r = s.qualified r ∧
        (s.dpll = 2 → t.ck.freqs.head? = some out.toInt ∧ t.ck.hist = min (s.ck.hist + 1) (10 * 0xFFFFFFFF)) ∧ (s.dpll ≠ 2 →
        t.ck.hist = s.ck.hist) ∧ (s.ck.hRun = true → t.ck.h = s.ck.h + 1) ∧ t.ck.freq = s.freqTerm out.toInt ∧
        t.dpll = s.dpll ∧ sameMem s t) ∧
  -- REF_RANGE_MEASURE of an offset out of range
  (∀ (r : Fin 16) (m out : BitVec 32) (s : State),
      refExists r = true ∧ s.g (F.CLK_REF_STAT_PRESENT r) = 1 →
      1000 * s.g F.CLK_QUAL_RANGE_PPM < m.toInt.natAbs →
      ∃ t, exec (.refRangeMeasure [(r, m)] out) s = .next t ∧ t.rd (R.CLK_REF_OFS r) = m ∧
        t.g (F.CLK_REF_STAT_QUALIFIED r) = 0 ∧ t.g (F.CLK_REF_STAT_DQ_REASON r) = 2 ∧ t.g (F.CLK_REF_STAT_QUAL_LEFT r) = 0 ∧
        sameMem s t) ∧
  -- REF_RANGE_MEASURE of an input that is not there
  (∀ (r : Fin 16) (m out : BitVec 32) (s : State),
      refExists r = false ∨ s.g (F.CLK_REF_STAT_PRESENT r) = 0 →
      ∃ t, exec (.refRangeMeasure [(r, m)] out) s = .next t ∧ t.rd (R.CLK_REF_OFS r) = s.rd (R.CLK_REF_OFS r) ∧
        t.qualified r = s.qualified r ∧ t.ck.freq = s.freqTerm out.toInt ∧ t.dpll = s.dpll ∧ sameMem s t) ∧
  -- REF_NO_LOCK
  (∀ (r : Nat) (s : State),
      s.cur = some r ∧ s.dpll = 1 →
      ∃ t, exec .refNoLock s = .next t ∧ t.g (F.CLK_REF_STAT_QUALIFIED r) = 0 ∧ t.g (F.CLK_REF_STAT_DQ_REASON r) = 4 ∧
        sameMem s t) ∧
  -- REF_NO_LOCK of a DPLL that does not acquire
  (∀ (s : State),
      s.cur = none ∨ s.dpll ≠ 1 →
      ∃ t, exec .refNoLock s = .next t ∧ t = s) ∧
  -- REF_QUALIFIED
  (∀ (r : Fin 16) (s : State),
      refExists r = true ∧ s.g (F.CLK_REF_STAT_PRESENT r) = 1 ∧ s.qualified r = false ∧ s.g (F.CLK_REF_STAT_QUAL_LEFT r) ≠ 0 →
      (r = 3 → 8 ≤ s.ck.pps) →
      ∃ t, exec (.refQualified r) s = .next t ∧ t.qualified r = true ∧ t.g (F.CLK_REF_STAT_QUAL_LEFT r) = 0 ∧ (s.cur = none →
        s.dpll = 0 → s.candidates.map Cand.input = [r.val] → t.cur = some r.val ∧ t.dpll = 1) ∧ sameMem s t) ∧
  -- REF_QUALIFIED of an input that does not count
  (∀ (r : Fin 16) (s : State),
      refExists r = false ∨ s.g (F.CLK_REF_STAT_PRESENT r) = 0 ∨ s.qualified r = true ∨ s.g (F.CLK_REF_STAT_QUAL_LEFT r) = 0 ∨ (r = 3 ∧ s.ck.pps < 8) →
      ∃ t, exec (.refQualified r) s = .next t ∧ t = s)

/-- DPLL_LOCKED of an ACQUIRING DPLL whose phase error has stayed within the limit makes it LOCKED, ends the holdover time
and, where a switch was going on, counts and marks it; it keeps an input that is still the best candidate; otherwise
nothing changes. HOLDOVER_LOST in HOLDOVER with a limit goes to LOST and reports it, and otherwise changes nothing. A
selection write that names existing inputs, none of them twice, is taken; one of an input that does not exist or that
names an input twice sets CFG_REFUSED and changes no selection. A clock output takes a source that exists and shows
whether that source is beyond its limit; another source sets CFG_REFUSED. Completes DPLL_LOCKED, HOLDOVER_LOST,
CLK_SELECT_WRITE, MCLK_OUT_CFG_WRITE. (R345, R347, R351, R352, R358) -/
def Obligations.DpllLocksHoldsAndSelects : Prop :=
  -- DPLL_LOCKED
  (∀ (r : Nat) (s : State),
      s.cur = some r ∧ s.dpll = 1 ∧ s.ck.within = true →
      s.topRank.any (fun c => c.input == r) = true →
      ∃ t, exec .dpllLocked s = .next t ∧ t.dpll = 2 ∧ t.cur = some r ∧ t.ck.h = 0 ∧ t.ck.hRun = false ∧
        t.rd R.CLK_HO_TIMER = 0 ∧ t.g F.CLK_STAT_STATE_CHG = 1 ∧ t.g F.CLK_STAT_SWITCHING = 0 ∧ (s.g F.CLK_STAT_SWITCHING = 1 →
        t.g F.CLK_STAT_SWITCHED = 1 ∧ (t.rd R.CLK_SWITCH_CNT).toNat = min ((s.rd R.CLK_SWITCH_CNT).toNat + 1) (2 ^ 32 - 1)) ∧
        (s.g F.CLK_STAT_SWITCHING = 0 → t.rd R.CLK_SWITCH_CNT = s.rd R.CLK_SWITCH_CNT) ∧ sameMem s t) ∧
  -- DPLL_LOCKED, whatever input it goes on with
  (∀ (s : State),
      s.dpll = 1 ∧ s.ck.within = true →
      ∃ t, exec .dpllLocked s = .next t ∧ t.ck.h = 0 ∧ t.rd R.CLK_HO_TIMER = 0 ∧ t.g F.CLK_STAT_STATE_CHG = 1 ∧
        (s.g F.CLK_STAT_SWITCHING = 1 → t.g F.CLK_STAT_SWITCHED = 1 ∧
        (t.rd R.CLK_SWITCH_CNT).toNat = min ((s.rd R.CLK_SWITCH_CNT).toNat + 1) (2 ^ 32 - 1)) ∧ sameMem s t) ∧
  -- DPLL_LOCKED of a DPLL that does not acquire or is not within the limit
  (∀ (s : State),
      s.dpll ≠ 1 ∨ s.ck.within = false →
      ∃ t, exec .dpllLocked s = .next t ∧ t = s) ∧
  -- HOLDOVER_LOST
  (∀ (s : State),
      s.dpll = 3 ∧ s.g F.CLK_HOLD_HO_LIMIT ≠ 0 →
      ∃ t, exec .holdoverLost s = .next t ∧ t.dpll = 4 ∧ t.g F.CLK_STAT_STATE_CHG = 1 ∧ t.ft.blocks = addMsg s.ft.blocks ⟨0, 1,
        Kind.holdoverLost, Src.clock 0⟩ ∧ onlyRegs s t [R.CLK_STAT, R.CLK_HO_TIMER, R.FAB_STAT]) ∧
  -- HOLDOVER_LOST in another state, or without a limit
  (∀ (s : State),
      s.dpll ≠ 3 ∨ s.g F.CLK_HOLD_HO_LIMIT = 0 →
      ∃ t, exec .holdoverLost s = .next t ∧ t = s) ∧
  -- CLK_SELECT_WRITE of a fall-back entry
  (∀ (k : Fin 4) (v : Word) (s : State),
      bitsOf v 3 0 < 5 ∨ 8 ≤ bitsOf v 3 0 →
      (s.namedInputs (R.CLK_FALLBACK k) v).Nodup →
      ∃ t, exec (.clkSelectWrite (some k) v) s = .next t ∧ t.g (F.CLK_FALLBACK_EN k) = (F.CLK_FALLBACK_EN k).of v ∧
        t.g (F.CLK_FALLBACK_INPUT k) = bitsOf v 3 0 ∧ t.g (F.CLK_FALLBACK_RANK k) = (F.CLK_FALLBACK_RANK k).of v ∧
        t.g F.CLK_STAT_CFG_REFUSED = s.g F.CLK_STAT_CFG_REFUSED ∧ t.out = s.ok.out ∧ sameMem s t) ∧
  -- CLK_SELECT_WRITE of CLK_CTL
  (∀ (v : Word) (s : State),
      bitsOf v 3 0 < 5 ∨ 8 ≤ bitsOf v 3 0 →
      (s.namedInputs R.CLK_CTL v).Nodup →
      ∃ t, exec (.clkSelectWrite none v) s = .next t ∧ t.g F.CLK_CTL_SEL_EN = F.CLK_CTL_SEL_EN.of v ∧
        t.g F.CLK_CTL_REF_SEL = bitsOf v 3 0 ∧ t.g F.CLK_CTL_FB_EN = F.CLK_CTL_FB_EN.of v ∧ t.out = s.ok.out ∧ sameMem s t) ∧
  -- CLK_SELECT_WRITE of an input that does not exist
  (∀ (k : Option (Fin 4)) (v : Word) (s : State),
      5 ≤ bitsOf v 3 0 ∧ bitsOf v 3 0 ≤ 7 →
      ∃ t, exec (.clkSelectWrite k v) s = .next t ∧ t.g F.CLK_STAT_CFG_REFUSED = 1 ∧ t.out = s.ok.out ∧
        confined s t [R.CLK_STAT]) ∧
  -- CLK_SELECT_WRITE that names an input twice
  (∀ (k : Option (Fin 4)) (v : Word) (s : State),
      ¬(s.namedInputs (match k with | some i => R.CLK_FALLBACK i | none => R.CLK_CTL) v).Nodup →
      ∃ t, exec (.clkSelectWrite k v) s = .next t ∧ t.g F.CLK_STAT_CFG_REFUSED = 1 ∧ t.out = s.ok.out ∧
        confined s t [R.CLK_STAT]) ∧
  -- MCLK_OUT_CFG_WRITE
  (∀ (n : Fin 4) (v : Word) (s : State),
      bitsOf v 2 0 ≤ 4 →
      ∃ t, exec (.mclkOutCfgWrite n v) s = .next t ∧ t.g (F.CLK_MOUT_SRC n) = bitsOf v 2 0 ∧
        t.g (F.CLK_MOUT_EN n) = bitsOf v 31 31 ∧ (t.g (F.CLK_MOUT_LIMITED n) = 1 ↔ bitsOf v 2 0 ≠ 4 ∧
        49152000 < 512 / 2 ^ bitsOf v 2 0 * s.fs) ∧ t.out = s.ok.out ∧ onlyRegs s t ((List.range 4).map R.CLK_MOUT)) ∧
  -- MCLK_OUT_CFG_WRITE of no source
  (∀ (n : Fin 4) (v : Word) (s : State),
      4 < bitsOf v 2 0 →
      ∃ t, exec (.mclkOutCfgWrite n v) s = .next t ∧ t.g F.CLK_STAT_CFG_REFUSED = 1 ∧ t.out = s.ok.out ∧
        confined s t [R.CLK_STAT])

/-- A write with EN = 1 that is not refused brings a DISABLED port to WAKING and leaves one that is neither DISABLED nor
MOORED in its state where MOOR is 0; one with EN = 0 brings any port to DISABLED; a mode above 4, a change of mode
while enabled, or MOOR at a port that may not moor sets CFG_REFUSED and changes nothing else. NGL_PLL_LOCK brings
WAKING to TRAIN from MOORED, to TEST for modes 2 and 3, else to DETECT. A probe that finds a termination, within 1 to
40 µs, brings DETECT to TRAIN, with the initial coefficients where none are saved; one that finds none stays. In TRAIN
a frame's preset or initialize request sets the coefficients, a request to raise or lower one tap does so within its
range, and frames with RX_READY are counted to three, after which TRAIN_EXIT takes the adapted values and brings the
port to BIT_LOCK. CDR_LOCK brings BIT_LOCK to BLOCK_LOCK in mode 0 and to TEST otherwise; BLOCK_LOCK brings a port in
BLOCK_LOCK to CAPS, and counts the invalid headers of one with lock too. In any other state they change nothing.
Completes NGL_ENABLE, NGL_DISABLE, NGL_PLL_LOCK, RECEIVER_DETECTION_PROBE, TRAINING_FRAME, TRAIN_EXIT, CDR_LOCK,
BLOCK_LOCK. (R365, R366, R369, R370, R371, R374, R375) -/
def Obligations.PortsWakeTrainAndLock : Prop :=
  -- NGL_ENABLE
  (∀ (p : Fin 8) (v : Word) (s : State),
      s.nglState p = 0 →
      s.nglCtlBad p (v ||| 0x80000000#32) = false →
      ∃ t, exec (.nglEnable p (some v)) s = .next t ∧ t.nglState p = 8 ∧ t.g (F.NGL_CTL_EN p) = 1 ∧
        t.g (F.NGL_CTL_MODE p) = bitsOf v 2 0 ∧ t.g (F.NGL_STAT_STATE_CHG p) = 1 ∧ (t.ngl p).fromMoored = false ∧
        t.out = s.ok.out ∧ onlyRegs s t [R.NGL_CTL p, R.NGL_STAT p]) ∧
  -- NGL_ENABLE of a port that is neither DISABLED nor MOORED
  (∀ (p : Fin 8) (v : Word) (s : State),
      s.nglState p ≠ 0 ∧ s.nglState p ≠ 7 →
      s.nglCtlBad p (v ||| 0x80000000#32) = false →
      v.getLsbD 30 = false →
      ∃ t, exec (.nglEnable p (some v)) s = .next t ∧ t.nglState p = s.nglState p ∧ t.g (F.NGL_CTL_EN p) = 1 ∧
        t.g (F.NGL_CTL_MOOR p) = 0 ∧ t.out = s.ok.out ∧ onlyRegs s t [R.NGL_CTL p]) ∧
  -- NGL_ENABLE at the end of device reset
  (∀ (p : Fin 8) (s : State),
      s.nglState p = 0 →
      s.g (F.NGL_CTL_EN p) = 1 →
      ∃ t, exec (.nglEnable p none) s = .next t ∧ t.nglState p = 8 ∧ t.out = s.out ∧ onlyRegs s t [R.NGL_STAT p]) ∧
  -- NGL_ENABLE without a write of a port that does not wait for it
  (∀ (p : Fin 8) (s : State),
      s.nglState p ≠ 0 ∨ s.g (F.NGL_CTL_EN p) = 0 →
      ∃ t, exec (.nglEnable p none) s = .next t ∧ t = s) ∧
  -- NGL_DISABLE
  (∀ (p : Fin 8) (v : Word) (s : State),
      s.nglCtlBad p (v &&& 0x7FFFFFFF#32) = false →
      ∃ t, exec (.nglDisable p v) s = .next t ∧ t.nglState p = 0 ∧ t.g (F.NGL_CTL_EN p) = 0 ∧ t.g (F.NGL_CTL_MOOR p) = 0 ∧
        (s.nglState p ≠ 0 → t.g (F.NGL_STAT_CLOCK_PRESENT p) = 0 ∧ t.g (F.NGL_STAT_SIG_DET p) = 0 ∧
        t.g (F.NGL_STAT_STATE_CHG p) = 1) ∧ sameMem s t) ∧
  -- NGL_ENABLE and NGL_DISABLE refused
  (∀ (p : Fin 8) (v : Word) (s : State),
      4 < bitsOf v 2 0 ∨ (s.g (F.NGL_CTL_EN p) = 1 ∧ bitsOf v 2 0 ≠ s.nglMode p) →
      ∃ t, exec (.nglEnable p (some v)) s = .next t ∧ exec (.nglDisable p v) s = .next t ∧ t.g (F.NGL_STAT_CFG_REFUSED p) = 1 ∧
        t.out = s.ok.out ∧ confined s t [R.NGL_STAT p]) ∧
  -- NGL_ENABLE refused
  (∀ (p : Fin 8) (v : Word) (s : State),
      s.nglCtlBad p (v ||| 0x80000000#32) = true →
      ∃ t, exec (.nglEnable p (some v)) s = .next t ∧ t.g (F.NGL_STAT_CFG_REFUSED p) = 1 ∧ t.out = s.ok.out ∧
        confined s t [R.NGL_STAT p]) ∧
  -- NGL_DISABLE refused
  (∀ (p : Fin 8) (v : Word) (s : State),
      s.nglCtlBad p (v &&& 0x7FFFFFFF#32) = true →
      ∃ t, exec (.nglDisable p v) s = .next t ∧ t.g (F.NGL_STAT_CFG_REFUSED p) = 1 ∧ t.out = s.ok.out ∧
        confined s t [R.NGL_STAT p]) ∧
  -- NGL_PLL_LOCK
  (∀ (p : Fin 8) (s : State),
      s.nglState p = 8 →
      ∃ t, exec (.nglPllLock p) s = .next t ∧
        t.nglState p = (if (s.ngl p).fromMoored then 2 else if s.nglMode p = 2 ∨ s.nglMode p = 3 then 9 else 1) ∧
        t.g (F.NGL_STAT_STATE_CHG p) = 1 ∧ onlyRegs s t ([R.NGL_STAT p, R.NGL_FFE p,
        R.NGL_CTLE p] ++ (List.range 8).map (R.NGL_DFE_TAP p))) ∧
  -- NGL_PLL_LOCK in another state
  (∀ (p : Fin 8) (s : State),
      s.nglState p ≠ 8 →
      ∃ t, exec (.nglPllLock p) s = .next t ∧ t = s) ∧
  -- RECEIVER_DETECTION_PROBE that finds a receiver
  (∀ (p : Fin 8) (ns : Nat) (s : State),
      s.nglState p = 1 →
      1000 ≤ ns ∧ ns ≤ 40000 →
      ∃ t, exec (.receiverDetectionProbe p (some ns)) s = .next t ∧ t.nglState p = 2 ∧ t.g (F.NGL_STAT_FAR_TERM p) = 1 ∧
        ((s.ngl p).saved = none → t.rd (R.NGL_FFE p) = s.rd (R.NGL_FFE_INIT p) ∧ t.rd (R.NGL_CTLE p) = 8 ∧ ∀ i : Fin 8,
        t.g (F.NGL_DFE_TAP_TAP p i) = bitsOf (s.rd (R.NGL_DFE_PRESET p i)) 6 0) ∧ onlyRegs s t ([R.NGL_STAT p, R.NGL_FFE p,
        R.NGL_CTLE p] ++ (List.range 8).map (R.NGL_DFE_TAP p))) ∧
  -- RECEIVER_DETECTION_PROBE that finds none
  (∀ (p : Fin 8) (ns : Option Nat) (s : State),
      s.nglState p = 1 →
      ns.all (fun n => decide (n < 1000 ∨ 40000 < n)) = true →
      ∃ t, exec (.receiverDetectionProbe p ns) s = .next t ∧ t.nglState p = 1 ∧ t.g (F.NGL_STAT_FAR_TERM p) = 0 ∧
        onlyRegs s t [R.NGL_STAT p]) ∧
  -- RECEIVER_DETECTION_PROBE in another state
  (∀ (p : Fin 8) (ns : Option Nat) (s : State),
      s.nglState p ≠ 1 →
      ∃ t, exec (.receiverDetectionProbe p ns) s = .next t ∧ t = s) ∧
  -- TRAINING_FRAME that asks for the preset
  (∀ (p : Fin 8) (req status : BitVec 16) (s : State),
      s.nglState p = 2 ∧ (s.ngl p).answer = 0 ∧ req.getLsbD 14 = true →
      ∃ t, exec (.trainingFrame p req status) s = .next t ∧ t.g (F.NGL_FFE_C_PRE p) = 0 ∧ t.g (F.NGL_FFE_C_MAIN p) = 64 ∧
        t.g (F.NGL_FFE_C_POST p) = 0 ∧ t.nglState p = 2 ∧ onlyRegs s t [R.NGL_STAT p, R.NGL_FFE p]) ∧
  -- TRAINING_FRAME that asks to initialize
  (∀ (p : Fin 8) (req status : BitVec 16) (s : State),
      s.nglState p = 2 ∧ (s.ngl p).answer = 0 ∧ req.getLsbD 14 = false ∧ req.getLsbD 13 = true →
      ∃ t, exec (.trainingFrame p req status) s = .next t ∧ t.rd (R.NGL_FFE p) = s.rd (R.NGL_FFE_INIT p) ∧ t.nglState p = 2 ∧
        onlyRegs s t [R.NGL_STAT p, R.NGL_FFE p]) ∧
  -- TRAINING_FRAME that raises C_POST
  (∀ (p : Fin 8) (status : BitVec 16) (s : State),
      s.nglState p = 2 ∧ (s.ngl p).answer = 0 →
      s.g (F.NGL_FFE_C_POST p) < 26 →
      s.g (F.NGL_FFE_C_PRE p) + s.g (F.NGL_FFE_C_MAIN p) + s.g (F.NGL_FFE_C_POST p) < 64 →
      ∃ t, exec (.trainingFrame p 0x0010#16 status) s = .next t ∧ t.g (F.NGL_FFE_C_POST p) = s.g (F.NGL_FFE_C_POST p) + 1 ∧
        t.g (F.NGL_FFE_C_MAIN p) = s.g (F.NGL_FFE_C_MAIN p) ∧ t.g (F.NGL_FFE_C_PRE p) = s.g (F.NGL_FFE_C_PRE p) ∧
        onlyRegs s t [R.NGL_STAT p, R.NGL_FFE p]) ∧
  -- TRAINING_FRAME that asks one tap for a step
  (∀ (p : Fin 8) (i : Fin 3) (up : Bool) (status : BitVec 16) (s : State),
      s.nglState p = 2 ∧ (s.ngl p).answer = 0 →
      ∃ t, exec (.trainingFrame p (BitVec.ofNat 16 ((if up then 1 else 2) * 4 ^ i.val)) status) s = .next t ∧
        t.g (ffeField p i) = (if up then
        (if s.g (ffeField p i) < ffeMax i ∧
          s.g (F.NGL_FFE_C_PRE p) + s.g (F.NGL_FFE_C_MAIN p) + s.g (F.NGL_FFE_C_POST p) < 64 then s.g (ffeField p i) + 1 else s.g (ffeField p i))
        else if ffeMin i < s.g (ffeField p i) then s.g (ffeField p i) - 1 else s.g (ffeField p i)) ∧
        (∀ j : Fin 3, j ≠ i → t.g (ffeField p j) = s.g (ffeField p j)) ∧ t.nglState p = 2 ∧ onlyRegs s t [R.NGL_STAT p,
          R.NGL_FFE p]) ∧
  -- TRAINING_FRAME counts RX_READY
  (∀ (p : Fin 8) (req status : BitVec 16) (s : State),
      s.nglState p = 2 →
      ∃ t, exec (.trainingFrame p req status) s = .next t ∧
        (t.ngl p).ready = (if status.getLsbD 15 then min 3 ((s.ngl p).ready + 1) else if (s.ngl p).ready = 3 then 3 else 0) ∧
        t.g (F.NGL_STAT_SIG_DET p) = 1 ∧ onlyRegs s t [R.NGL_STAT p, R.NGL_FFE p]) ∧
  -- TRAINING_FRAME in another state
  (∀ (p : Fin 8) (req status : BitVec 16) (s : State),
      s.nglState p ≠ 2 →
      ∃ t, exec (.trainingFrame p req status) s = .next t ∧ t = s) ∧
  -- TRAIN_EXIT
  (∀ (p : Fin 8) (ctle : Fin 16) (a b c d e f g h : BitVec 7) (s : State),
      s.nglState p = 2 ∧ (s.ngl p).ready = 3 →
      ∃ t, exec (.trainExit p ctle [a, b, c, d, e, f, g, h]) s = .next t ∧ t.nglState p = 3 ∧
        t.g (F.NGL_CTLE_PEAK p) = ctle.val ∧ (s.g (F.NGL_DFE_CTL_FREEZE p) = 0 → t.g (F.NGL_DFE_TAP_TAP p 0) = a.toNat ∧
        t.g (F.NGL_DFE_TAP_TAP p 7) = h.toNat) ∧ (s.g (F.NGL_DFE_CTL_FREEZE p) = 1 → ∀ i : Fin 8,
        t.rd (R.NGL_DFE_TAP p i) = s.rd (R.NGL_DFE_TAP p i)) ∧ onlyRegs s t ([R.NGL_STAT p,
        R.NGL_CTLE p] ++ (List.range 8).map (R.NGL_DFE_TAP p))) ∧
  -- TRAIN_EXIT before three frames with RX_READY, or in another state
  (∀ (p : Fin 8) (ctle : Fin 16) (dfe : List (BitVec 7)) (s : State),
      s.nglState p ≠ 2 ∨ (s.ngl p).ready ≠ 3 →
      ∃ t, exec (.trainExit p ctle dfe) s = .next t ∧ t = s) ∧
  -- CDR_LOCK
  (∀ (p : Fin 8) (s : State),
      s.nglState p = 3 →
      ∃ t, exec (.cdrLock p) s = .next t ∧ t.nglState p = (if s.nglMode p = 0 then 4 else 9) ∧ onlyRegs s t [R.NGL_STAT p]) ∧
  -- CDR_LOCK in another state
  (∀ (p : Fin 8) (s : State),
      s.nglState p ≠ 3 →
      ∃ t, exec (.cdrLock p) s = .next t ∧ t = s) ∧
  -- BLOCK_LOCK
  (∀ (p : Fin 8) (errs bits : Nat) (dfe : List (BitVec 7)) (s : State),
      s.nglState p = 4 →
      ∃ t, exec (.blockLock p errs bits dfe) s = .next t ∧ t.nglState p = 5 ∧
        (t.rd (R.NGL_HDR_ERR_CNT p)).toNat = min ((s.rd (R.NGL_HDR_ERR_CNT p)).toNat + errs) (2 ^ 32 - 1) ∧
        (s.g (F.NGL_DFE_CTL_FREEZE p) = 1 → ∀ i : Fin 8, t.rd (R.NGL_DFE_TAP p i) = s.rd (R.NGL_DFE_TAP p i)) ∧
        onlyRegs s t ([R.NGL_STAT p, R.NGL_HDR_ERR_CNT p] ++ (List.range 8).map (R.NGL_DFE_TAP p))) ∧
  -- BLOCK_LOCK of a port with lock
  (∀ (p : Fin 8) (errs bits : Nat) (dfe : List (BitVec 7)) (s : State),
      s.nglState p = 5 ∨ s.nglState p = 6 →
      ∃ t, exec (.blockLock p errs bits dfe) s = .next t ∧ t.nglState p = s.nglState p ∧
        (t.rd (R.NGL_HDR_ERR_CNT p)).toNat = min ((s.rd (R.NGL_HDR_ERR_CNT p)).toNat + errs) (2 ^ 32 - 1) ∧
        (s.g (F.NGL_DFE_CTL_FREEZE p) = 1 → ∀ i : Fin 8, t.rd (R.NGL_DFE_TAP p i) = s.rd (R.NGL_DFE_TAP p i)) ∧
        onlyRegs s t ([R.NGL_STAT p, R.NGL_HDR_ERR_CNT p] ++ (List.range 8).map (R.NGL_DFE_TAP p))) ∧
  -- BLOCK_LOCK in another state
  (∀ (p : Fin 8) (errs bits : Nat) (dfe : List (BitVec 7)) (s : State),
      s.nglState p < 4 ∨ 6 < s.nglState p →
      ∃ t, exec (.blockLock p errs bits dfe) s = .next t ∧ t = s)

/-- TRAIN_TO, BITLOCK_TO, BLOCKLOCK_TO and CAPS_TO bring the port from its state to DETECT with reasons 1, 2, 3 and 4, and
count the failure. LOS does so with reason 5 from BIT_LOCK to ACTIVE, and from TEST in modes 1 and 4; in any other
state it changes no more than the signal it reports. LOCK_LOST brings CAPS and ACTIVE to BLOCK_LOCK with reason 6, and
counts the invalid headers of a hunt; a port that leaves ACTIVE so holds no credit and no partner any more and emits
LINK_DOWN. EYE_SCAN_GO in a state that allows it starts the measurement, and is refused in any other state, while one
runs, or with a dwell out of range; EYE_SCAN_DONE ends it with the count; a measurement whose port leaves those states
is aborted at once, and its count still comes. PRBS_LOCK locks the checker of a port that receives the pattern, or
counts the mismatches of one that is locked; its loss is counted with the mismatches. Elsewhere they change nothing.
Completes TRAIN_TO, BITLOCK_TO, BLOCKLOCK_TO, CAPS_TO, LOCK_LOST, LOS, EYE_SCAN_GO, EYE_SCAN_DONE, PRBS_LOCK,
PRBS_LOCK_LOSS. (R365, R367, R371, R373, R375, R416) -/
def Obligations.PortsFailAndAreMeasured : Prop :=
  -- TRAIN_TO
  (∀ (p : Fin 8) (s : State),
      s.nglState p = 2 →
      ∃ t, exec (.trainTo p) s = .next t ∧ t.nglState p = 1 ∧ t.g (F.NGL_FAIL_REASON p) = 1 ∧
        t.g (F.NGL_FAIL_V p) = min (s.g (F.NGL_FAIL_V p) + 1) 0xFFFF ∧ onlyRegs s t [R.NGL_STAT p, R.NGL_FAIL p,
        R.NGL_ES_CTL p]) ∧
  -- TRAIN_TO in another state
  (∀ (p : Fin 8) (s : State),
      s.nglState p ≠ 2 →
      ∃ t, exec (.trainTo p) s = .next t ∧ t = s) ∧
  -- BITLOCK_TO
  (∀ (p : Fin 8) (s : State),
      s.nglState p = 3 →
      ∃ t, exec (.bitlockTo p) s = .next t ∧ t.nglState p = 1 ∧ t.g (F.NGL_FAIL_REASON p) = 2 ∧
        t.g (F.NGL_FAIL_V p) = min (s.g (F.NGL_FAIL_V p) + 1) 0xFFFF ∧ onlyRegs s t [R.NGL_STAT p, R.NGL_FAIL p,
        R.NGL_ES_CTL p]) ∧
  -- BITLOCK_TO in another state
  (∀ (p : Fin 8) (s : State),
      s.nglState p ≠ 3 →
      ∃ t, exec (.bitlockTo p) s = .next t ∧ t = s) ∧
  -- BLOCKLOCK_TO
  (∀ (p : Fin 8) (errs : Nat) (s : State),
      s.nglState p = 4 →
      ∃ t, exec (.blocklockTo p errs) s = .next t ∧ t.nglState p = 1 ∧ t.g (F.NGL_FAIL_REASON p) = 3 ∧
        t.g (F.NGL_FAIL_V p) = min (s.g (F.NGL_FAIL_V p) + 1) 0xFFFF ∧
        (t.rd (R.NGL_HDR_ERR_CNT p)).toNat = min ((s.rd (R.NGL_HDR_ERR_CNT p)).toNat + errs) (2 ^ 32 - 1) ∧
        onlyRegs s t [R.NGL_STAT p, R.NGL_FAIL p, R.NGL_HDR_ERR_CNT p, R.NGL_ES_CTL p]) ∧
  -- BLOCKLOCK_TO in another state
  (∀ (p : Fin 8) (errs : Nat) (s : State),
      s.nglState p ≠ 4 →
      ∃ t, exec (.blocklockTo p errs) s = .next t ∧ t = s) ∧
  -- CAPS_TO
  (∀ (p : Fin 8) (s : State),
      s.nglState p = 5 →
      ∃ t, exec (.capsTo p) s = .next t ∧ t.nglState p = 1 ∧ t.g (F.NGL_FAIL_REASON p) = 4 ∧
        t.g (F.NGL_FAIL_V p) = min (s.g (F.NGL_FAIL_V p) + 1) 0xFFFF ∧ onlyRegs s t [R.NGL_STAT p, R.NGL_FAIL p,
        R.NGL_ES_CTL p]) ∧
  -- CAPS_TO in another state
  (∀ (p : Fin 8) (s : State),
      s.nglState p ≠ 5 →
      ∃ t, exec (.capsTo p) s = .next t ∧ t = s) ∧
  -- LOCK_LOST
  (∀ (p : Fin 8) (errs : Nat) (s : State),
      s.nglState p = 5 ∨ s.nglState p = 6 →
      ∃ t, exec (.lockLost p errs) s = .next t ∧ t.nglState p = 4 ∧ t.g (F.NGL_FAIL_REASON p) = 6 ∧
        t.g (F.NGL_FAIL_V p) = min (s.g (F.NGL_FAIL_V p) + 1) 0xFFFF ∧
        (t.rd (R.NGL_HDR_ERR_CNT p)).toNat = min ((s.rd (R.NGL_HDR_ERR_CNT p)).toNat + errs) (2 ^ 32 - 1) ∧ (s.nglState p = 6 →
        t.rd (R.FAB_PORT_CRED p) = 0 ∧ t.rd (R.FAB_PORT_PEER p) = 0 ∧ t.g (F.CLK_REF_STAT_PRESENT (8 + p)) = 0 ∧
        ∃ m ∈ t.ft.blocks, m.kind = Kind.linkDown) ∧ sameMem s t) ∧
  -- LOCK_LOST in the hunt
  (∀ (p : Fin 8) (errs : Nat) (s : State),
      s.nglState p = 4 →
      ∃ t, exec (.lockLost p errs) s = .next t ∧ t.nglState p = 4 ∧
        (t.rd (R.NGL_HDR_ERR_CNT p)).toNat = min ((s.rd (R.NGL_HDR_ERR_CNT p)).toNat + errs) (2 ^ 32 - 1) ∧
        confined s t [R.NGL_HDR_ERR_CNT p]) ∧
  -- LOCK_LOST in another state
  (∀ (p : Fin 8) (errs : Nat) (s : State),
      s.nglState p < 4 ∨ 6 < s.nglState p →
      ∃ t, exec (.lockLost p errs) s = .next t ∧ t = s) ∧
  -- LOS
  (∀ (p : Fin 8) (signal : Bool) (s : State),
      (3 ≤ s.nglState p ∧ s.nglState p ≤ 6) ∨ (s.nglState p = 9 ∧ (s.nglMode p = 1 ∨ s.nglMode p = 4)) →
      ∃ t, exec (.los p signal) s = .next t ∧ t.nglState p = 1 ∧ t.g (F.NGL_FAIL_REASON p) = 5 ∧
        t.g (F.NGL_FAIL_V p) = min (s.g (F.NGL_FAIL_V p) + 1) 0xFFFF ∧
        t.g (F.NGL_STAT_SIG_DET p) = (if signal then 0 else s.g (F.NGL_STAT_SIG_DET p))  ∧ (s.g (F.NGL_ES_CTL_GO p) = 1 →
        t.g (F.NGL_ES_CTL_GO p) = 0 ∧ t.g (F.NGL_ES_CTL_DONE p) = 1 ∧ t.g (F.NGL_ES_CTL_ABORTED p) = 1 ∧
        (t.ngl p).scanCut = true) ∧ sameMem s t) ∧
  -- LOS in another state
  (∀ (p : Fin 8) (signal : Bool) (s : State),
      ¬((3 ≤ s.nglState p ∧ s.nglState p ≤ 6) ∨ (s.nglState p = 9 ∧ (s.nglMode p = 1 ∨ s.nglMode p = 4))) →
      ∃ t, exec (.los p signal) s = .next t ∧ t.nglState p = s.nglState p ∧
        t.g (F.NGL_STAT_SIG_DET p) = (if signal then 0 else s.g (F.NGL_STAT_SIG_DET p)) ∧ confined s t [R.NGL_STAT p]) ∧
  -- EYE_SCAN_GO
  (∀ (p : Fin 8) (v : Word) (s : State),
      s.farLive (24 + p) = true →
      s.g (F.NGL_ES_CTL_GO p) = 0 →
      s.nglState p = 4 ∨ s.nglState p = 5 ∨ s.nglState p = 6 ∨ s.nglState p = 9 →
      16 ≤ bitsOf v 21 16 ∧ bitsOf v 21 16 ≤ 40 →
      ∃ t, exec (.eyeScanGo p v) s = .next t ∧ t.g (F.NGL_ES_CTL_GO p) = 1 ∧ t.g (F.NGL_ES_CTL_DONE p) = 0 ∧
        t.g (F.NGL_ES_CTL_ABORTED p) = 0 ∧ t.g (F.NGL_ES_CTL_DWELL p) = bitsOf v 21 16 ∧ t.rd (R.NGL_ES_ERR p) = 0 ∧
        t.out = s.ok.out ∧ onlyRegs s t [R.NGL_ES_CTL p, R.NGL_ES_ERR p]) ∧
  -- EYE_SCAN_GO refused
  (∀ (p : Fin 8) (v : Word) (s : State),
      s.farLive (24 + p) = true →
      s.g (F.NGL_ES_CTL_GO p) = 1 ∨ s.nglState p ≤ 3 ∨ s.nglState p = 7 ∨ s.nglState p = 8 ∨ bitsOf v 21 16 < 16 ∨ 40 < bitsOf v 21 16 →
      ∃ t, exec (.eyeScanGo p v) s = .next t ∧ t.g (F.NGL_STAT_CFG_REFUSED p) = 1 ∧ t.out = s.ok.out ∧
        confined s t [R.NGL_STAT p]) ∧
  -- EYE_SCAN_GO of a port whose receive clock does not run
  (∀ (p : Fin 8) (v : Word) (s : State),
      s.farLive (24 + p) = false →
      ∃ t, exec (.eyeScanGo p v) s = .next t ∧ t.mx.hung.length = s.mx.hung.length + 1 ∧ { t with mx := s.mx } = s) ∧
  -- EYE_SCAN_DONE
  (∀ (p : Fin 8) (n : Nat) (s : State),
      s.g (F.NGL_ES_CTL_GO p) = 1 →
      ∃ t, exec (.eyeScanDone p n) s = .next t ∧ t.g (F.NGL_ES_CTL_GO p) = 0 ∧ t.g (F.NGL_ES_CTL_DONE p) = 1 ∧
        t.g (F.NGL_ES_CTL_ABORTED p) = s.g (F.NGL_ES_CTL_ABORTED p) ∧ (t.rd (R.NGL_ES_ERR p)).toNat = min n 0xFFFFFFFF ∧
        confined s t [R.NGL_ES_CTL p, R.NGL_ES_ERR p]) ∧
  -- EYE_SCAN_DONE of one that was cut off
  (∀ (p : Fin 8) (n : Nat) (s : State),
      s.g (F.NGL_ES_CTL_GO p) = 0 ∧ (s.ngl p).scanCut = true →
      ∃ t, exec (.eyeScanDone p n) s = .next t ∧ (t.rd (R.NGL_ES_ERR p)).toNat = min n 0xFFFFFFFF ∧ (t.ngl p).scanCut = false ∧
        onlyRegs s t [R.NGL_ES_ERR p]) ∧
  -- EYE_SCAN_DONE without a measurement
  (∀ (p : Fin 8) (n : Nat) (s : State),
      s.g (F.NGL_ES_CTL_GO p) = 0 ∧ (s.ngl p).scanCut = false →
      ∃ t, exec (.eyeScanDone p n) s = .next t ∧ t = s) ∧
  -- PRBS_LOCK
  (∀ (p : Fin 8) (errs bits : Nat) (dfe : List (BitVec 7)) (s : State),
      s.nglState p = 9 ∧ s.nglMode p ≠ 4 →
      s.g (F.NGL_PRBS_STAT_LOCKED p) = 0 →
      ∃ t, exec (.prbsLock p errs bits dfe) s = .next t ∧ t.g (F.NGL_PRBS_STAT_LOCKED p) = 1 ∧
        (s.g (F.NGL_DFE_CTL_FREEZE p) = 1 → ∀ i : Fin 8, t.rd (R.NGL_DFE_TAP p i) = s.rd (R.NGL_DFE_TAP p i)) ∧
        confined s t ([R.NGL_PRBS_STAT p] ++ (List.range 8).map (R.NGL_DFE_TAP p))) ∧
  -- PRBS_LOCK of a locked checker
  (∀ (p : Fin 8) (errs bits : Nat) (dfe : List (BitVec 7)) (s : State),
      s.nglState p = 9 ∧ s.nglMode p ≠ 4 →
      s.g (F.NGL_PRBS_STAT_LOCKED p) = 1 →
      ∃ t, exec (.prbsLock p errs bits dfe) s = .next t ∧ t.g (F.NGL_PRBS_STAT_LOCKED p) = 1 ∧
        (t.rd (R.NGL_PRBS_ERR_CNT p)).toNat = min ((s.rd (R.NGL_PRBS_ERR_CNT p)).toNat + errs) (2 ^ 32 - 1) ∧
        (s.g (F.NGL_DFE_CTL_FREEZE p) = 1 → ∀ i : Fin 8, t.rd (R.NGL_DFE_TAP p i) = s.rd (R.NGL_DFE_TAP p i)) ∧
        confined s t ([R.NGL_PRBS_ERR_CNT p] ++ (List.range 8).map (R.NGL_DFE_TAP p))) ∧
  -- PRBS_LOCK of a port that receives no pattern
  (∀ (p : Fin 8) (errs bits : Nat) (dfe : List (BitVec 7)) (s : State),
      s.nglState p ≠ 9 ∨ s.nglMode p = 4 →
      ∃ t, exec (.prbsLock p errs bits dfe) s = .next t ∧ t = s) ∧
  -- PRBS_LOCK_LOSS
  (∀ (p : Fin 8) (errs : Nat) (s : State),
      s.g (F.NGL_PRBS_STAT_LOCKED p) = 1 →
      ∃ t, exec (.prbsLockLoss p errs) s = .next t ∧ t.g (F.NGL_PRBS_STAT_LOCKED p) = 0 ∧
        t.g (F.NGL_PRBS_STAT_LOSSES p) = min (s.g (F.NGL_PRBS_STAT_LOSSES p) + 1) (2 ^ ((F.NGL_PRBS_STAT_LOSSES p).hi + 1 - (F.NGL_PRBS_STAT_LOSSES p).lo) - 1) ∧ (t.rd (R.NGL_PRBS_ERR_CNT p)).toNat = min ((s.rd (R.NGL_PRBS_ERR_CNT p)).toNat + errs) (2 ^ 32 - 1) ∧ confined s t [R.NGL_PRBS_STAT p, R.NGL_PRBS_ERR_CNT p]) ∧
  -- PRBS_LOCK_LOSS of a checker that is not locked
  (∀ (p : Fin 8) (errs : Nat) (s : State),
      s.g (F.NGL_PRBS_STAT_LOCKED p) = 0 →
      ∃ t, exec (.prbsLockLoss p errs) s = .next t ∧ t = s)

/-- An ACTIVE port that may moor is asked to by MOOR written 1: at once while ticks are stopped, at the next boundary
while they run; a port that is the Tether of a pair, that carries the selected reference, or that is not ACTIVE
refuses. A MOOR_REQ at an ACTIVE port that allows mooring and may moor is accepted, and the port is MOORED; at any
other port, but for one that has itself asked, nothing happens. A MOOR_REQ or MOOR_ACK at a port that has asked brings
it to MOORED, without LINK_DOWN and with its coefficients saved, and on to WAKING where MOOR has been written 0
meanwhile. MOOR_TIMEOUT withdraws the request and sets MOOR_REFUSED. MOOR written 0, and activity seen by the signal
detector, wake a MOORED port; a port that has asked notes the write, and any other keeps its state. Without a request
MOOR_ACK and MOOR_TIMEOUT change nothing. Completes MOOR_WRITE, MOOR_REQ, MOOR_ACK, MOOR_TIMEOUT, MOOR_RELEASE,
SIGNAL_DETECT. (R377, R378, R379, R380) -/
def Obligations.PortsMoorAndWake : Prop :=
  -- MOOR_WRITE while ticks run
  (∀ (p : Fin 8) (v : Word) (s : State),
      s.nglState p = 6 ∧ s.g (F.NGL_CTL_EN p) = 1 ∧ s.moorBarred p = false →
      v.getLsbD 31 = true ∧ bitsOf v 2 0 = s.nglMode p ∧ s.nglMode p ≤ 4 →
      s.g F.TICK_STAT_RUNNING = 1 →
      ∃ t, exec (.moorWrite p v) s = .next t ∧ t.g (F.NGL_CTL_MOOR p) = 1 ∧ t.nglState p = 6 ∧
        t.ngl p = { s.ngl p with asked := true, leave := false } ∧ t.out = s.ok.out ∧ onlyRegs s t [R.NGL_CTL p]) ∧
  -- MOOR_WRITE while ticks are stopped
  (∀ (p : Fin 8) (v : Word) (s : State),
      s.nglState p = 6 ∧ s.g (F.NGL_CTL_EN p) = 1 ∧ s.moorBarred p = false →
      v.getLsbD 31 = true ∧ bitsOf v 2 0 = s.nglMode p ∧ s.nglMode p ≤ 4 →
      s.g F.TICK_STAT_RUNNING = 0 ∧ s.pw.owned = false ∧ (s.ngl p).asked = false →
      ∃ t, exec (.moorWrite p v) s = .next t ∧ t.g (F.NGL_CTL_MOOR p) = 1 ∧
        t.ngl p = { s.ngl p with asked := true, leave := false, quiet := true } ∧ t.out = s.out ++ [.moor p false,
        .resp false []] ∧ onlyRegs s t [R.NGL_CTL p]) ∧
  -- MOOR_WRITE of a port that has asked
  (∀ (p : Fin 8) (v : Word) (s : State),
      s.nglState p = 6 ∧ s.g (F.NGL_CTL_EN p) = 1 ∧ s.moorBarred p = false ∧ (s.ngl p).asked = true →
      v.getLsbD 31 = true ∧ bitsOf v 2 0 = s.nglMode p ∧ s.nglMode p ≤ 4 →
      ∃ t, exec (.moorWrite p v) s = .next t ∧ t.g (F.NGL_CTL_MOOR p) = 1 ∧ t.nglState p = 6 ∧
        t.ngl p = { s.ngl p with leave := false } ∧ t.out = s.ok.out ∧ onlyRegs s t [R.NGL_CTL p]) ∧
  -- MOOR_WRITE refused
  (∀ (p : Fin 8) (v : Word) (s : State),
      s.nglState p ≠ 6 ∨ s.cur = some (8 + p.val) ∨ (s.g F.PAIR_CFG_EN = 1 ∧ s.g F.PAIR_CFG_TETHER = p.val) →
      ∃ t, exec (.moorWrite p v) s = .next t ∧ t.g (F.NGL_STAT_CFG_REFUSED p) = 1 ∧ t.out = s.ok.out ∧
        confined s t [R.NGL_STAT p]) ∧
  -- MOOR_WRITE with EN = 0 of a port that may moor
  (∀ (p : Fin 8) (v : Word) (s : State),
      s.moorBarred p = false ∧ v.getLsbD 31 = false →
      bitsOf v 2 0 ≤ 4 ∧ (s.g (F.NGL_CTL_EN p) = 1 → bitsOf v 2 0 = s.nglMode p) →
      ∃ t, exec (.moorWrite p v) s = .next t ∧ t.nglState p = 0 ∧ t.g (F.NGL_CTL_EN p) = 0 ∧ sameMem s t) ∧
  -- MOOR_REQ at a port that allows it
  (∀ (p : Fin 8) (s : State),
      s.nglState p = 6 ∧ ((s.g (F.NGL_CTL_MOOR_ALLOW p) = 1 ∧ s.moorBarred p = false) ∨ ((s.ngl p).asked = true ∧
        (s.ngl p).quiet = true)) →
      ∃ t, exec (.moorReq p) s = .next t ∧ t.nglState p = (if (s.ngl p).leave then 8 else 7) ∧
        (t.ngl p).saved = some (s.nglCoefs p) ∧ ((s.ngl p).asked = false → s.pw.owned = false → Out.moor p true ∈ t.out) ∧
        t.rd (R.FAB_PORT_CRED p) = 0 ∧ (∀ m ∈ t.ft.blocks, m.kind = Kind.linkDown → ∃ n ∈ s.ft.blocks,
        n.kind = Kind.linkDown) ∧ sameMem s t) ∧
  -- MOOR_REQ at a port that does not allow it
  (∀ (p : Fin 8) (s : State),
      s.nglState p ≠ 6 ∨ ((s.g (F.NGL_CTL_MOOR_ALLOW p) = 0 ∨ s.moorBarred p = true) ∧ ¬((s.ngl p).asked = true ∧
        (s.ngl p).quiet = true)) →
      ∃ t, exec (.moorReq p) s = .next t ∧ t = s) ∧
  -- MOOR_ACK
  (∀ (p : Fin 8) (s : State),
      s.nglState p = 6 ∧ (s.ngl p).asked = true ∧ (s.ngl p).quiet = true →
      ∃ t, exec (.moorAck p) s = .next t ∧ t.nglState p = (if (s.ngl p).leave then 8 else 7) ∧
        (t.ngl p).saved = some (s.nglCoefs p) ∧ (t.ngl p).asked = false ∧ t.g (F.NGL_CTL_MOOR p) = s.g (F.NGL_CTL_MOOR p) ∧
        t.g (F.NGL_STAT_CLOCK_PRESENT p) = 0 ∧ t.g (F.CLK_REF_STAT_PRESENT (8 + p)) = 0 ∧ sameMem s t) ∧
  -- MOOR_ACK without a request
  (∀ (p : Fin 8) (s : State),
      s.nglState p ≠ 6 ∨ (s.ngl p).asked = false ∨ (s.ngl p).quiet = false →
      ∃ t, exec (.moorAck p) s = .next t ∧ t = s) ∧
  -- MOOR_TIMEOUT
  (∀ (p : Fin 8) (s : State),
      s.nglState p = 6 ∧ (s.ngl p).asked = true ∧ (s.ngl p).quiet = true →
      ∃ t, exec (.moorTimeout p) s = .next t ∧ t.nglState p = 6 ∧ t.g (F.NGL_CTL_MOOR p) = 0 ∧
        t.g (F.NGL_STAT_MOOR_REFUSED p) = 1 ∧ (t.ngl p).asked = false ∧
        (t.ngl p).quiet = decide (s.g F.TICK_STAT_RUNNING = 1) ∧ onlyRegs s t [R.NGL_CTL p, R.NGL_STAT p, R.FAB_PORT_CRED p]) ∧
  -- MOOR_TIMEOUT without a request
  (∀ (p : Fin 8) (s : State),
      s.nglState p ≠ 6 ∨ (s.ngl p).asked = false ∨ (s.ngl p).quiet = false →
      ∃ t, exec (.moorTimeout p) s = .next t ∧ t = s) ∧
  -- MOOR_RELEASE of a MOORED port
  (∀ (p : Fin 8) (v : Word) (s : State),
      s.nglState p = 7 ∧ s.g (F.NGL_CTL_EN p) = 1 →
      v.getLsbD 31 = true ∧ bitsOf v 2 0 = s.nglMode p ∧ s.nglMode p ≤ 4 →
      ∃ t, exec (.moorRelease p v) s = .next t ∧ t.nglState p = 8 ∧ t.g (F.NGL_CTL_MOOR p) = 0 ∧ (t.ngl p).fromMoored = true ∧
        t.out = s.ok.out ∧ onlyRegs s t [R.NGL_CTL p, R.NGL_STAT p]) ∧
  -- MOOR_RELEASE of a port that is neither DISABLED nor MOORED
  (∀ (p : Fin 8) (v : Word) (s : State),
      s.nglState p ≠ 0 ∧ s.nglState p ≠ 7 ∧ s.g (F.NGL_CTL_EN p) = 1 →
      v.getLsbD 31 = true ∧ bitsOf v 2 0 = s.nglMode p ∧ s.nglMode p ≤ 4 →
      ∃ t, exec (.moorRelease p v) s = .next t ∧ t.nglState p = s.nglState p ∧ t.g (F.NGL_CTL_MOOR p) = 0 ∧
        t.ngl p = (if (s.ngl p).asked then { s.ngl p with leave := true } else s.ngl p) ∧ t.out = s.ok.out ∧
        onlyRegs s t [R.NGL_CTL p]) ∧
  -- MOOR_RELEASE refused
  (∀ (p : Fin 8) (v : Word) (s : State),
      4 < bitsOf v 2 0 ∨ (s.g (F.NGL_CTL_EN p) = 1 ∧ bitsOf v 2 0 ≠ s.nglMode p) →
      ∃ t, exec (.moorRelease p v) s = .next t ∧ t.g (F.NGL_STAT_CFG_REFUSED p) = 1 ∧ t.out = s.ok.out ∧
        confined s t [R.NGL_STAT p]) ∧
  -- SIGNAL_DETECT
  (∀ (p : Fin 8) (s : State),
      s.nglState p ≠ 0 →
      ∃ t, exec (.signalDetect p) s = .next t ∧ t.g (F.NGL_STAT_SIG_DET p) = 1 ∧
        t.nglState p = (if s.nglState p = 7 then 8 else s.nglState p) ∧ onlyRegs s t [R.NGL_STAT p]) ∧
  -- SIGNAL_DETECT of a DISABLED port
  (∀ (p : Fin 8) (s : State),
      s.nglState p = 0 →
      ∃ t, exec (.signalDetect p) s = .next t ∧ t = s)

/-- A running device with an ID sends one mark a tick on an ACTIVE port, with its tick number and MTC, and after it the
runs of its local sources; in region safe state, or once a port has asked to moor, only the mark leaves. A mark that
passes its check shows the partner's TIMED and DEPTH; a TIMED one of the same configuration also makes the port's
reference present and is remembered, and one of another configuration is a mismatch at a worker; one that fails the
check is counted. A RUN block begins a run; a forwarding context starts its copies, once for a run position in a tick;
a run already in progress on the port is cut and its copies end poisoned. At RUN_END the copies end; a good first copy
at a receiving context is stored word by word at its buffer place and noted, a second copy is only noted; a run of
another epoch, one that is late or does not fit, and a poisoned one are counted; one with a bad CRC or length is a CRC
failure. A context that passes every check becomes valid and the port loads follow; one that fails shows its reason
and changes nothing; a valid context changes by clearing VALID alone; one that is not valid takes its fields, within
their ranges. Where the port is not ACTIVE, or nothing is due, nothing happens. Completes TICK_MARK_SEND, TICK_MARK,
RUN, RUN_END, FLOW_VALID_SET, FLOW_VALID_CLEAR. (R388, R389, R390, R393, R395, R397, R398, R399, R407, R408, R410) -/
def Obligations.MarksRunsAndFlowsCarryAudio : Prop :=
  -- TICK_MARK_SEND
  (∀ (p : Fin 8) (ofs : Word) (s : State),
      s.g F.TICK_STAT_RUNNING = 1 ∧ s.nglState p = 6 ∧ s.g F.FAB_ID_VALID = 1 ∧ s.pw.owned = false →
      SMap.get zeroN s.fb.marked p ≠ s.tick + 1 →
      ∃ t, exec (.tickMarkSend p ofs) s = .next t ∧
        t.out = s.out ++ .mark p s.markWord (markCrc s.markWord s.tick (s.mtcOf s.tick)) ofs s.tick (s.mtcOf s.tick) ::
        (if s.regionSafe 5 || (s.ngl p).quiet then [] else
        (s.flowsActing.filter (fun f => (s.ctx f).localSrc && (s.ctx f).tx.testBit p)).flatMap (fun f =>
        (s.runsOf (s.ctx f).ch).map (fun q => Out.run p f q.1 q.2 false (s.runWords f q)))) ∧
        SMap.get zeroN t.fb.marked p = s.tick + 1 ∧ onlyRegs s t []) ∧
  -- TICK_MARK_SEND that is not due
  (∀ (p : Fin 8) (ofs : Word) (s : State),
      s.g F.TICK_STAT_RUNNING = 0 ∨ s.nglState p ≠ 6 ∨ s.g F.FAB_ID_VALID = 0 ∨ SMap.get zeroN s.fb.marked p = s.tick + 1 →
      ∃ t, exec (.tickMarkSend p ofs) s = .next t ∧ t = s) ∧
  -- TICK_MARK of a timed partner
  (∀ (p : Fin 8) (w : Word) (k m : BitVec 64) (dev err : BitVec 32) (s : State),
      s.nglState p = 6 ∧ s.markOk p w = true ∧ w.getLsbD 6 = true →
      bitsOf w 18 16 = s.g F.TICK_CFG_FS_SEL ∧ bitsOf w 10 8 = s.g F.TICK_CFG_N_LOG2 →
      ∃ t, exec (.tickMark p w k m dev err) s = .next t ∧ t.g (F.FAB_PORT_PEER_TIMED p) = bitsOf w 6 6 ∧
        t.g (F.FAB_PORT_PEER_DEPTH p) = bitsOf w 15 12 ∧ SMap.find t.fb.mark p = some k.toNat ∧
        t.g F.FAB_STAT_TICK_CFG_MISMATCH = 0 ∧ SMap.find t.fb.timed p = some (k.toNat, m.toNat) ∧
        t.g (F.CLK_REF_STAT_PRESENT (8 + p)) = 1 ∧ sameMem s t) ∧
  -- TICK_MARK of a timed partner with another configuration
  (∀ (p : Fin 8) (w : Word) (k m : BitVec 64) (dev err : BitVec 32) (s : State),
      s.nglState p = 6 ∧ s.markOk p w = true ∧ w.getLsbD 6 = true →
      ¬(bitsOf w 18 16 = s.g F.TICK_CFG_FS_SEL ∧ bitsOf w 10 8 = s.g F.TICK_CFG_N_LOG2) →
      ∃ t, exec (.tickMark p w k m dev err) s = .next t ∧ t.g (F.FAB_PORT_PEER_TIMED p) = bitsOf w 6 6 ∧
        t.g (F.FAB_PORT_PEER_DEPTH p) = bitsOf w 15 12 ∧ SMap.find t.fb.mark p = some k.toNat ∧ (s.g F.CHIP_STRAP_ROLE = 0 →
        t.g F.FAB_STAT_TICK_CFG_MISMATCH = 1 ∧ t.fb.timed = [] ∧ t.tm.aligned = false) ∧ (s.g F.CHIP_STRAP_ROLE = 1 →
        t.g F.FAB_STAT_TICK_CFG_MISMATCH = 0 ∧ t.fb.timed = s.fb.timed) ∧ onlyRegs s t [R.FAB_STAT, R.FAB_PORT_PEER p]) ∧
  -- TICK_MARK of a partner that is not timed
  (∀ (p : Fin 8) (w : Word) (k m : BitVec 64) (dev err : BitVec 32) (s : State),
      s.nglState p = 6 ∧ s.markOk p w = true ∧ w.getLsbD 6 = false →
      ∃ t, exec (.tickMark p w k m dev err) s = .next t ∧ t.g (F.FAB_PORT_PEER_TIMED p) = bitsOf w 6 6 ∧
        t.g (F.FAB_PORT_PEER_DEPTH p) = bitsOf w 15 12 ∧ SMap.find t.fb.mark p = some k.toNat ∧ t.fb.timed = s.fb.timed ∧
        onlyRegs s t [R.FAB_STAT, R.FAB_PORT_PEER p]) ∧
  -- TICK_MARK that fails its check
  (∀ (p : Fin 8) (w : Word) (k m : BitVec 64) (dev err : BitVec 32) (s : State),
      s.nglState p = 6 ∧ s.markOk p w = false →
      ∃ t, exec (.tickMark p w k m dev err) s = .next t ∧
        (t.rd R.FAB_TM_BAD).toNat = min ((s.rd R.FAB_TM_BAD).toNat + 1) (2 ^ 32 - 1) ∧ SMap.find t.fb.mark p = some k.toNat ∧
        t.fb.timed = s.fb.timed ∧ onlyRegs s t [R.FAB_TM_BAD]) ∧
  -- TICK_MARK on a port that is not ACTIVE
  (∀ (p : Fin 8) (w : Word) (k m : BitVec 64) (dev err : BitVec 32) (s : State),
      s.nglState p ≠ 6 →
      ∃ t, exec (.tickMark p w k m dev err) s = .next t ∧ t = s) ∧
  -- RUN at a context that does not forward
  (∀ (p : Fin 8) (f : Fin 1024) (first : Fin 256) (count n : Nat) (epoch : Fin 16) (s : State),
      s.nglState p = 6 ∧ SMap.find s.fb.inRun p = none →
      s.flowActs f = false ∨ (s.ctx f).forwards = false ∨ (s.ctx f).rx.testBit p = false ∨ s.regionSafe 5 = true ∨ s.g F.FAB_ID_VALID = 0 ∨ SMap.get zeroN s.fb.fwd (256 * f + first) = SMap.get zeroN s.fb.mark p + 1 →
      ∃ t, exec (.run p f first count n epoch) s = .next t ∧ SMap.find t.fb.inRun p = some ⟨f, first, count, n, epoch,
        SMap.get zeroN s.fb.mark p, 0⟩ ∧ t.out = s.out ∧ t.fb.fwd = s.fb.fwd ∧ onlyRegs s t []) ∧
  -- RUN at a forwarding context
  (∀ (p : Fin 8) (f : Fin 1024) (first : Fin 256) (count n : Nat) (epoch : Fin 16) (s : State),
      s.nglState p = 6 ∧ SMap.find s.fb.inRun p = none ∧ s.pw.owned = false →
      s.flowActs f = true ∧ (s.ctx f).forwards = true ∧ (s.ctx f).rx.testBit p = true ∧ s.regionSafe 5 = false ∧
        s.g F.FAB_ID_VALID = 1 →
      SMap.get zeroN s.fb.fwd (256 * f + first) ≠ SMap.get zeroN s.fb.mark p + 1 →
      ∃ t, exec (.run p f first count n epoch) s = .next t ∧ SMap.find t.fb.inRun p = some ⟨f, first, count, n, epoch,
        SMap.get zeroN s.fb.mark p,
        (((portsOf (s.ctx f).tx).filter (fun q => s.nglState q == 6 && !(s.ngl q).quiet)).map (fun q => 2 ^ q)).sum⟩ ∧
        t.out = s.out ++ ((portsOf (s.ctx f).tx).filter (fun q => s.nglState q == 6 && !(s.ngl q).quiet)).map (fun q => Out.forward q f first count) ∧ SMap.get zeroN t.fb.fwd (256 * f + first) = SMap.get zeroN s.fb.mark p + 1 ∧ onlyRegs s t []) ∧
  -- RUN while another is in progress on the port
  (∀ (p : Fin 8) (f : Fin 1024) (first : Fin 256) (count n : Nat) (epoch : Fin 16) (r : InRun) (s : State),
      s.nglState p = 6 ∧ SMap.find s.fb.inRun p = some r →
      ∃ t, exec (.run p f first count n epoch) s = .next t ∧ (SMap.find t.fb.inRun p).map (fun x => (x.flow, x.first, x.count,
        x.n, x.epoch)) = some (f.val, first.val, count, n, epoch.val) ∧ (s.pw.owned = false → ∀ q : Fin 8,
        r.outs.testBit q = true → s.nglState q = 6 → Out.run q r.flow r.first r.count true [] ∈ t.out) ∧ onlyRegs s t []) ∧
  -- RUN on a port that is not ACTIVE
  (∀ (p : Fin 8) (f : Fin 1024) (first : Fin 256) (count n : Nat) (epoch : Fin 16) (s : State),
      s.nglState p ≠ 6 →
      ∃ t, exec (.run p f first count n epoch) s = .next t ∧ t = s) ∧
  -- RUN_END of the first good copy
  (∀ (p : Fin 8) (r : InRun) (ws : List Word) (s : State),
      SMap.find s.fb.inRun p = some r ∧ ws.length = r.words →
      s.flowActs r.flow = true ∧ (s.ctx r.flow).localDst = true ∧ s.regionSafe 5 = false ∧ r.epoch = (s.ctx r.flow).epoch →
      (s.ctx r.flow).rx.testBit p = true ∧ r.n = s.nSamp ∧ (r.first, r.count) ∈ s.runsOf (s.ctx r.flow).ch ∧
        s.tick < r.tick + 1 →
      SMap.get zeroN s.fb.acc (accKey r.flow (r.tick % 2) r.first) = 0 →
      ∃ t, exec (.runEnd p ws (crc32 (r.head ++ ws))) s = .next t ∧ (∀ i, i < r.count * r.n →
        SMap.get zeroW t.fb.rbuf ((s.ctx r.flow).buf + r.tick % 2 * (s.ctx r.flow).ch * s.nSamp + (r.first + i % r.count) * s.nSamp + i / r.count) = ws.getD i 0) ∧ SMap.get zeroN t.fb.acc (accKey r.flow (r.tick % 2) r.first) = 2 ^ p.val ∧ SMap.find t.fb.inRun p = none ∧ onlyRegs s t []) ∧
  -- RUN_END of a second good copy
  (∀ (p : Fin 8) (r : InRun) (ws : List Word) (s : State),
      SMap.find s.fb.inRun p = some r ∧ ws.length = r.words →
      s.flowActs r.flow = true ∧ (s.ctx r.flow).localDst = true ∧ s.regionSafe 5 = false ∧ r.epoch = (s.ctx r.flow).epoch →
      (s.ctx r.flow).rx.testBit p = true ∧ r.n = s.nSamp ∧ (r.first, r.count) ∈ s.runsOf (s.ctx r.flow).ch ∧
        s.tick < r.tick + 1 →
      SMap.get zeroN s.fb.acc (accKey r.flow (r.tick % 2) r.first) ≠ 0 →
      ∃ t, exec (.runEnd p ws (crc32 (r.head ++ ws))) s = .next t ∧ t.fb.rbuf = s.fb.rbuf ∧
        SMap.get zeroN t.fb.acc (accKey r.flow (r.tick % 2) r.first) = SMap.get zeroN s.fb.acc (accKey r.flow (r.tick % 2) r.first) ||| 2 ^ p.val ∧ SMap.find t.fb.inRun p = none ∧ onlyRegs s t []) ∧
  -- RUN_END of a run of another epoch
  (∀ (p : Fin 8) (r : InRun) (ws : List Word) (s : State),
      SMap.find s.fb.inRun p = some r ∧ ws.length = r.words →
      s.flowActs r.flow = true ∧ (s.ctx r.flow).localDst = true ∧ s.regionSafe 5 = false ∧ r.epoch ≠ (s.ctx r.flow).epoch →
      ∃ t, exec (.runEnd p ws (crc32 (r.head ++ ws))) s = .next t ∧
        (t.rd R.FAB_EPOCH_DROP).toNat = min ((s.rd R.FAB_EPOCH_DROP).toNat + 1) (2 ^ 32 - 1) ∧ t.fb.acc = s.fb.acc ∧
        t.fb.rbuf = s.fb.rbuf ∧ SMap.find t.fb.inRun p = none ∧ onlyRegs s t [R.FAB_EPOCH_DROP]) ∧
  -- RUN_END of a run that is late or does not fit
  (∀ (p : Fin 8) (r : InRun) (ws : List Word) (s : State),
      SMap.find s.fb.inRun p = some r ∧ ws.length = r.words →
      s.flowActs r.flow = true ∧ (s.ctx r.flow).localDst = true ∧ s.regionSafe 5 = false ∧ r.epoch = (s.ctx r.flow).epoch →
      (s.ctx r.flow).rx.testBit p = false ∨ r.n ≠ s.nSamp ∨ (r.first,
        r.count) ∉ s.runsOf (s.ctx r.flow).ch ∨ r.tick + 1 ≤ s.tick →
      ∃ t, exec (.runEnd p ws (crc32 (r.head ++ ws))) s = .next t ∧
        (t.rd R.FAB_RUN_LATE).toNat = min ((s.rd R.FAB_RUN_LATE).toNat + 1) (2 ^ 32 - 1) ∧ t.fb.acc = s.fb.acc ∧
        t.fb.rbuf = s.fb.rbuf ∧ SMap.find t.fb.inRun p = none ∧ onlyRegs s t [R.FAB_RUN_LATE]) ∧
  -- RUN_END of a good run that this device does not receive
  (∀ (p : Fin 8) (r : InRun) (ws : List Word) (s : State),
      SMap.find s.fb.inRun p = some r ∧ ws.length = r.words →
      ¬(s.flowActs r.flow = true ∧ (s.ctx r.flow).localDst = true ∧ s.regionSafe 5 = false) →
      ∃ t, exec (.runEnd p ws (crc32 (r.head ++ ws))) s = .next t ∧ t.fb.acc = s.fb.acc ∧ t.fb.rbuf = s.fb.rbuf ∧
        SMap.find t.fb.inRun p = none ∧ onlyRegs s t []) ∧
  -- RUN_END of a poisoned run
  (∀ (p : Fin 8) (r : InRun) (ws : List Word) (s : State),
      SMap.find s.fb.inRun p = some r ∧ ws.length = r.words →
      ∃ t, exec (.runEnd p ws (~~~(crc32 (r.head ++ ws)))) s = .next t ∧
        (t.rd R.FAB_RUN_POISON).toNat = min ((s.rd R.FAB_RUN_POISON).toNat + 1) (2 ^ 32 - 1) ∧ t.fb.acc = s.fb.acc ∧
        t.fb.rbuf = s.fb.rbuf ∧ SMap.find t.fb.inRun p = none ∧ onlyRegs s t [R.FAB_RUN_POISON]) ∧
  -- RUN_END with a bad CRC or length
  (∀ (p : Fin 8) (r : InRun) (ws : List Word) (crc : Word) (s : State),
      SMap.find s.fb.inRun p = some r →
      ws.length ≠ r.words ∨ (crc ≠ crc32 (r.head ++ ws) ∧ crc ≠ ~~~(crc32 (r.head ++ ws))) →
      ∃ t, exec (.runEnd p ws crc) s = .next t ∧ (s.g F.TICK_STAT_RUNNING = 1 → (t.ngl p).crc = (s.ngl p).crc + 1) ∧
        (s.g F.TICK_STAT_RUNNING = 0 → t.ft.blocks = addMsg s.ft.blocks ⟨0, 1, Kind.linkCrc, Src.ngl p⟩) ∧
        t.fb.acc = s.fb.acc ∧ t.fb.rbuf = s.fb.rbuf ∧ SMap.find t.fb.inRun p = none ∧ onlyRegs s t []) ∧
  -- RUN_END ends the copies
  (∀ (p : Fin 8) (r : InRun) (ws : List Word) (crc : Word) (s : State),
      SMap.find s.fb.inRun p = some r ∧ s.pw.owned = false →
      ∃ t, exec (.runEnd p ws crc) s = .next t ∧
        t.out = s.out ++ ((portsOf r.outs).filter (fun q => s.nglState q == 6)).map (fun q => Out.run q r.flow r.first r.count (!(ws.length == r.words && crc == crc32 (r.head ++ ws) && r.epoch == (s.ctx r.flow).epoch)) ws)) ∧
  -- RUN_END without a run
  (∀ (p : Fin 8) (ws : List Word) (crc : Word) (s : State),
      SMap.find s.fb.inRun p = none →
      ∃ t, exec (.runEnd p ws crc) s = .next t ∧ t = s) ∧
  -- FLOW_VALID_SET
  (∀ (f : Fin 1023) (v : Word) (s : State),
      s.flowValid (f + 1) = false →
      (s.wr (R.FAB_FLOW_W0 (f + 1)) ((v ||| 0x80000000#32) &&& 0xEFE001FF#32)).flowFails (f + 1) = none →
      ∃ t, exec (.flowValidSet f v) s = .next t ∧ t.rd (R.FAB_FLOW_W0 (f + 1)) = (v ||| 0x80000000#32) &&& 0xEFE001FF#32 ∧
        (∀ p : Fin 8, t.flowLoad p < 2048 → t.g (F.FAB_PORT_LOAD_CH p) = t.flowLoad p) ∧ t.out = s.ok.out ∧
        onlyRegs s t (R.FAB_FLOW_W0 (f + 1) :: (List.range 8).map R.FAB_PORT_LOAD)) ∧
  -- FLOW_VALID_SET refused
  (∀ (f : Fin 1023) (v : Word) (r : Nat) (s : State),
      s.flowValid (f + 1) = false →
      (s.wr (R.FAB_FLOW_W0 (f + 1)) ((v ||| 0x80000000#32) &&& 0xEFE001FF#32)).flowFails (f + 1) = some r →
      ∃ t, exec (.flowValidSet f v) s = .next t ∧ t.g F.FAB_STAT_FLOW_REFUSED = 1 ∧ t.g F.FAB_ERR_REASON = r ∧
        t.g F.FAB_ERR_FLOW = f.val + 1 ∧ t.out = s.ok.out ∧ confined s t [R.FAB_STAT, R.FAB_ERR]) ∧
  -- FLOW_VALID_SET of a valid context
  (∀ (f : Fin 1023) (v : Word) (s : State),
      s.flowValid (f + 1) = true →
      ∃ t, exec (.flowValidSet f v) s = .next t ∧ t.rd (R.FAB_FLOW_W0 (f + 1)) = s.rd (R.FAB_FLOW_W0 (f + 1)) ∧
        ((v ||| 0x80000000#32) &&& 0xEFE001FF#32 = s.rd (R.FAB_FLOW_W0 (f + 1)) → t = s.ok) ∧
        ((v ||| 0x80000000#32) &&& 0xEFE001FF#32 ≠ s.rd (R.FAB_FLOW_W0 (f + 1)) → t.g F.FAB_STAT_CFG_REFUSED = 1 ∧
        t.out = s.ok.out ∧ confined s t [R.FAB_STAT])) ∧
  -- FLOW_VALID_CLEAR
  (∀ (f : Fin 1023) (v : Word) (s : State),
      s.flowValid (f + 1) = true →
      v &&& 0x6FE001FF#32 = putBits (s.rd (R.FAB_FLOW_W0 (f + 1))) 31 31 0 →
      ∃ t, exec (.flowValidClear f v) s = .next t ∧ t.g (F.FAB_FLOW_W0_VALID (f + 1)) = 0 ∧
        t.rd (R.FAB_FLOW_W0 (f + 1)) = putBits (s.rd (R.FAB_FLOW_W0 (f + 1))) 31 31 0 ∧ (∀ p : Fin 8, t.flowLoad p < 2048 →
        t.g (F.FAB_PORT_LOAD_CH p) = t.flowLoad p) ∧ t.out = s.ok.out ∧
        onlyRegs s t (R.FAB_FLOW_W0 (f + 1) :: (List.range 8).map R.FAB_PORT_LOAD)) ∧
  -- FLOW_VALID_CLEAR that changes another field
  (∀ (f : Fin 1023) (v : Word) (s : State),
      s.flowValid (f + 1) = true →
      v &&& 0x6FE001FF#32 ≠ putBits (s.rd (R.FAB_FLOW_W0 (f + 1))) 31 31 0 →
      ∃ t, exec (.flowValidClear f v) s = .next t ∧ t.g F.FAB_STAT_CFG_REFUSED = 1 ∧ t.out = s.ok.out ∧
        confined s t [R.FAB_STAT]) ∧
  -- FLOW_VALID_CLEAR of a context that is not valid
  (∀ (f : Fin 1023) (v : Word) (s : State),
      s.flowValid (f + 1) = false →
      ∃ t, exec (.flowValidClear f v) s = .next t ∧ (¬(bitsOf v 30 29 = 3 ∨ bitsOf v 8 0 = 0 ∨ 256 < bitsOf v 8 0) →
        t.rd (R.FAB_FLOW_W0 (f + 1)) = v &&& 0x6FE001FF#32 ∧ t.out = s.ok.out ∧ confined s t [R.FAB_FLOW_W0 (f + 1)]) ∧
        (bitsOf v 30 29 = 3 ∨ bitsOf v 8 0 = 0 ∨ 256 < bitsOf v 8 0 → t.g F.FAB_STAT_CFG_REFUSED = 1 ∧ t.out = s.ok.out ∧
        confined s t [R.FAB_STAT]))

/-- Returned credits are added up to 255 and the waiting message leaves by them; without a class or on a port that is not
ACTIVE they change nothing. A message for another device goes on by its route with one hop less; without hops it is
counted as out of life, without a route, or of no known type, or at a device without an ID, as unroutable; in region
safe state, or where no block of this device owns it, it is dropped; an express message without a place is counted as
dropped, a bad CRC as a CRC failure. Every ACTIVE port may send a TIME_SYNC request, once in 16 ticks while ticks run;
it carries a sequence number and its time is kept; one received is answered with its two times; the response that
carries the sequence number gives the port's delay, the mean of the last exchanges. In CAPS, and in ACTIVE where a
field has changed, a CAPABILITY is sent with the device's words. One received in CAPS without a fault brings its
credits, and completes the exchange, showing the partner and bringing CAPS to ACTIVE, once both ends have
acknowledged; one with a fault shows the fault and the port stays; in ACTIVE the partner is shown at once; a device
without an ID adopts the one offered and answers; a bad CRC is counted; in another state nothing happens. FAB_ID takes
an ID once, on a worker. Completes CREDIT, MESSAGE_FORWARD, TIME_SYNC_SEND, TIME_SYNC, TIME_SYNC_RESPONSE,
CAPABILITY_SEND, CAPABILITY, FAB_ID_WRITE. (R384, R402, R403, R404, R405, R406) -/
def Obligations.LinksExchangeMessages : Prop :=
  -- CREDIT with nothing waiting
  (∀ (p : Fin 8) (c : Fin 3) (n : Nat) (s : State),
      s.nglState p = 6 ∧ c.val ≠ 0 →
      SMap.get noMsgs s.fb.txq (3 * p + c) = [] →
      ∃ t, exec (.credit p c n) s = .next t ∧ t.g (credField p c) = min 255 (s.g (credField p c) + n) ∧ t.out = s.out ∧
        onlyRegs s t [R.FAB_PORT_CRED p]) ∧
  -- CREDIT for a waiting message
  (∀ (p : Fin 8) (c : Fin 3) (n : Nat) (m : TxMsg) (s : State),
      s.nglState p = 6 ∧ c.val ≠ 0 ∧ (s.ngl p).quiet = false ∧ s.pw.owned = false →
      SMap.get noMsgs s.fb.txq (3 * p + c) = [m] ∧ m.held = none ∧ m.frags ≤ min 255 (s.g (credField p c) + n) →
      ∃ t, exec (.credit p c n) s = .next t ∧ t.g (credField p c) = min 255 (s.g (credField p c) + n) - m.frags ∧
        t.out = s.out ++ [.msg p m.env m.ws] ∧ SMap.get noMsgs t.fb.txq (3 * p + c) = [] ∧ onlyRegs s t [R.FAB_PORT_CRED p]) ∧
  -- CREDIT with messages waiting
  (∀ (p : Fin 8) (c : Fin 3) (n : Nat) (s : State),
      s.nglState p = 6 ∧ c.val ≠ 0 ∧ (s.ngl p).quiet = false →
      ∃ t, exec (.credit p c n) s = .next t ∧
        t.g (credField p c) + ((SMap.get noMsgs s.fb.txq (3 * p + c)).map (fun m => m.frags)).sum = min 255 (s.g (credField p c) + n) + ((SMap.get noMsgs t.fb.txq (3 * p + c)).map (fun m => m.frags)).sum ∧ ((SMap.get noMsgs t.fb.txq (3 * p + c)) = [] ∨ t.g (credField p c) = 0) ∧ (SMap.get noMsgs t.fb.txq (3 * p + c)).length ≤ (SMap.get noMsgs s.fb.txq (3 * p + c)).length ∧ onlyRegs s t [R.FAB_PORT_CRED p]) ∧
  -- CREDIT on a quiet port
  (∀ (p : Fin 8) (c : Fin 3) (n : Nat) (s : State),
      s.nglState p = 6 ∧ c.val ≠ 0 ∧ (s.ngl p).quiet = true →
      ∃ t, exec (.credit p c n) s = .next t ∧ t.g (credField p c) = min 255 (s.g (credField p c) + n) ∧ t.fb = s.fb ∧
        t.out = s.out ∧ onlyRegs s t [R.FAB_PORT_CRED p]) ∧
  -- CREDIT without a class, or on a port that is not ACTIVE
  (∀ (p : Fin 8) (c : Fin 3) (n : Nat) (s : State),
      s.nglState p ≠ 6 ∨ c.val = 0 →
      ∃ t, exec (.credit p c n) s = .next t ∧ t = s) ∧
  -- MESSAGE_FORWARD of an express message
  (∀ (p q : Fin 8) (e : Env) (ws : List Word) (s : State),
      s.nglState p = 6 ∧ s.g F.FAB_ID_VALID = 1 ∧ e.dst ≠ s.g F.FAB_ID_ID ∧ 1 ≤ e.type ∧ e.type ≤ 4 ∧ 0 < e.hops →
      s.routeTo e.dst = some q.val ∧ s.regionSafe 5 = false ∧ s.expressFull p = false →
      SMap.get noMsgs s.fb.txq (3 * q) = [] ∧ (s.ngl q).quiet = false ∧ s.pw.owned = false →
      ∃ t, exec (.messageForward p true true e ws) s = .next t ∧ t.out = s.out ++ [.msg q { e with hops := e.hops - 1 } ws] ∧
        onlyRegs s t []) ∧
  -- MESSAGE_FORWARD of a control message
  (∀ (p q : Fin 8) (e : Env) (ws : List Word) (s : State),
      s.nglState p = 6 ∧ s.g F.FAB_ID_VALID = 1 ∧ e.dst ≠ s.g F.FAB_ID_ID ∧ 5 ≤ e.type ∧ e.type ≤ 9 ∧ 0 < e.hops →
      s.routeTo e.dst = some q.val ∧ s.regionSafe 5 = false →
      SMap.get noMsgs s.fb.txq (3 * q + msgClass e.type) = [] ∧ (s.ngl q).quiet = false ∧ s.pw.owned = false ∧
        fragsOf ws ≤ s.g (credField q (msgClass e.type)) →
      ∃ t, exec (.messageForward p true true e ws) s = .next t ∧ t.out = s.out ++ [.credit p (msgClass e.type) (fragsOf ws),
        .msg q { e with hops := e.hops - 1 } ws] ∧
        t.g (credField q (msgClass e.type)) = s.g (credField q (msgClass e.type)) - fragsOf ws ∧
        onlyRegs s t [R.FAB_PORT_CRED q]) ∧
  -- MESSAGE_FORWARD without hops, or without a route
  (∀ (p : Fin 8) (e : Env) (ws : List Word) (s : State),
      s.nglState p = 6 ∧ s.g F.FAB_ID_VALID = 1 ∧ e.dst ≠ s.g F.FAB_ID_ID ∧ 1 ≤ e.type ∧ e.type ≤ 9 ∧ s.regionSafe 5 = false ∧
        (e.type ≤ 4 → s.expressFull p = false) →
      ∃ t, exec (.messageForward p true true e ws) s = .next t ∧ (e.hops = 0 →
        (t.rd R.FAB_MSG_TTL).toNat = min ((s.rd R.FAB_MSG_TTL).toNat + 1) (2 ^ 32 - 1) ∧ onlyRegs s t [R.FAB_MSG_TTL]) ∧
        (0 < e.hops → s.routeTo e.dst = none →
        (t.rd R.FAB_MSG_NOROUTE).toNat = min ((s.rd R.FAB_MSG_NOROUTE).toNat + 1) (2 ^ 32 - 1) ∧
        onlyRegs s t [R.FAB_MSG_NOROUTE])) ∧
  -- MESSAGE_FORWARD of no known type, or without an ID
  (∀ (p : Fin 8) (e : Env) (ws : List Word) (s : State),
      s.nglState p = 6 ∧ (s.g F.FAB_ID_VALID = 0 ∨ e.type = 0 ∨ 11 ≤ e.type) →
      (1 ≤ e.type ∧ e.type ≤ 4 → s.expressFull p = false) →
      ∃ t, exec (.messageForward p true true e ws) s = .next t ∧
        (t.rd R.FAB_MSG_NOROUTE).toNat = min ((s.rd R.FAB_MSG_NOROUTE).toNat + 1) (2 ^ 32 - 1) ∧
        onlyRegs s t [R.FAB_MSG_NOROUTE]) ∧
  -- MESSAGE_FORWARD that is dropped
  (∀ (p : Fin 8) (e : Env) (ws : List Word) (s : State),
      s.nglState p = 6 ∧ s.g F.FAB_ID_VALID = 1 ∧ 1 ≤ e.type ∧ e.type ≤ 10 →
      e.type = 10 ∨ e.dst = s.g F.FAB_ID_ID ∨ s.regionSafe 5 = true →
      (e.type ≤ 4 → s.expressFull p = false) →
      ∃ t, exec (.messageForward p true true e ws) s = .next t ∧
        t.out = s.out ++ (if msgClass e.type = 0 ∨ fragsOf ws = 0 ∨ s.pw.owned = true then [] else [.credit p (msgClass e.type) (fragsOf ws)]) ∧ t.fb = s.fb ∧ onlyRegs s t []) ∧
  -- MESSAGE_FORWARD of an express message without a place
  (∀ (p : Fin 8) (e : Env) (ws : List Word) (s : State),
      s.nglState p = 6 ∧ 1 ≤ e.type ∧ e.type ≤ 4 ∧ s.expressFull p = true →
      ∃ t, exec (.messageForward p true true e ws) s = .next t ∧
        (t.rd R.FAB_EXP_DROP).toNat = min ((s.rd R.FAB_EXP_DROP).toNat + 1) (2 ^ 32 - 1) ∧ t.out = s.out ∧
        onlyRegs s t [R.FAB_EXP_DROP]) ∧
  -- MESSAGE_FORWARD with a bad CRC
  (∀ (p : Fin 8) (whole : Bool) (e : Env) (ws : List Word) (s : State),
      s.nglState p = 6 →
      ∃ t, exec (.messageForward p false whole e ws) s = .next t ∧ (s.g F.TICK_STAT_RUNNING = 1 →
        (t.ngl p).crc = (s.ngl p).crc + 1) ∧ (s.g F.TICK_STAT_RUNNING = 0 → t.ft.blocks = addMsg s.ft.blocks ⟨0, 1,
        Kind.linkCrc, Src.ngl p⟩) ∧ t.fb = s.fb ∧ onlyRegs s t []) ∧
  -- MESSAGE_FORWARD of one that broke off
  (∀ (p : Fin 8) (e : Env) (ws : List Word) (s : State),
      s.nglState p = 6 →
      ∃ t, exec (.messageForward p true false e ws) s = .next t ∧ t.fb = s.fb ∧ t.ng = s.ng ∧ t.ft = s.ft ∧ onlyRegs s t []) ∧
  -- MESSAGE_FORWARD on a port that is not ACTIVE
  (∀ (p : Fin 8) (good whole : Bool) (e : Env) (ws : List Word) (s : State),
      s.nglState p ≠ 6 →
      ∃ t, exec (.messageForward p good whole e ws) s = .next t ∧ t = s) ∧
  -- TIME_SYNC_SEND
  (∀ (p : Fin 8) (t1 : BitVec 64) (s : State),
      s.nglState p = 6 ∧ s.g F.FAB_ID_VALID = 1 ∧ (s.ngl p).quiet = false ∧ s.pw.owned = false →
      SMap.get noMsgs s.fb.txq (3 * p) = [] →
      s.g F.TICK_STAT_RUNNING = 0 ∨ (SMap.find s.fb.syncTick p).all (fun k => decide (k + 16 ≤ s.tick)) = true →
      ∃ t, exec (.timeSyncSend p t1) s = .next t ∧
        t.out = s.out ++ [.msg p (s.envTo (s.g (F.FAB_PORT_PEER_ID p)) 4) [BitVec.ofNat 32 (SMap.get zeroN s.fb.syncSeq p * 2 ^ 8)]] ∧ SMap.find t.fb.syncOut p = some (t1.toNat, SMap.get zeroN s.fb.syncSeq p) ∧ SMap.get zeroN t.fb.syncSeq p = (SMap.get zeroN s.fb.syncSeq p + 1) % 256 ∧ SMap.find t.fb.syncTick p = some s.tick ∧ onlyRegs s t []) ∧
  -- TIME_SYNC_SEND that is not due
  (∀ (p : Fin 8) (t1 : BitVec 64) (s : State),
      s.nglState p ≠ 6 ∨ s.g F.FAB_ID_VALID = 0 ∨ (s.ngl p).quiet = true ∨ (s.g F.TICK_STAT_RUNNING = 1 ∧
        (SMap.find s.fb.syncTick p).any (fun k => decide (s.tick < k + 16)) = true) →
      ∃ t, exec (.timeSyncSend p t1) s = .next t ∧ t = s) ∧
  -- TIME_SYNC
  (∀ (p : Fin 8) (e : Env) (w : Word) (t2 t3 : BitVec 64) (s : State),
      s.arrives p e ∧ (s.ngl p).quiet = false ∧ s.pw.owned = false →
      SMap.get noMsgs s.fb.txq (3 * p) = [] →
      ∃ t, exec (.timeSync p e [w] t2 t3) s = .next t ∧
        t.out = s.out ++ [.msg p { s.envTo e.src 4 with resp := true } [w ||| 1#32, t2.setWidth 32, (t2 >>> 32).setWidth 32,
        t3.setWidth 32, (t3 >>> 32).setWidth 32]] ∧ onlyRegs s t []) ∧
  -- TIME_SYNC_RESPONSE
  (∀ (p : Fin 8) (e : Env) (w0 w1 w2 w3 w4 : Word) (t4 : BitVec 64) (t1 q : Nat) (s : State),
      s.arrives p e →
      SMap.find s.fb.syncOut p = some (t1, q) ∧ bitsOf w0 15 8 = q →
      ∃ t, exec (.timeSyncResponse p e [w0, w1, w2, w3, w4] t4) s = .next t ∧
        SMap.get noDelays t.fb.delays p = (((t4 - BitVec.ofNat 64 t1) - ((w4 ++ w3) - (w2 ++ w1))).toInt :: SMap.get noDelays s.fb.delays p).take 8 ∧ t.rd (R.FAB_PORT_DLY p) = BitVec.ofInt 32 (Int.tdiv ((SMap.get noDelays t.fb.delays p).foldl (· + ·) 0 + s.gi (F.FAB_PORT_CFG_ASYM p) * (SMap.get noDelays t.fb.delays p).length) (2 * (SMap.get noDelays t.fb.delays p).length)) ∧ SMap.find t.fb.syncOut p = none ∧ onlyRegs s t [R.FAB_PORT_DLY p]) ∧
  -- TIME_SYNC_RESPONSE of another request
  (∀ (p : Fin 8) (e : Env) (ws : List Word) (t4 : BitVec 64) (s : State),
      s.arrives p e →
      (SMap.find s.fb.syncOut p).all (fun x => bitsOf (ws.getD 0 0) 15 8 != x.2) = true →
      ∃ t, exec (.timeSyncResponse p e ws t4) s = .next t ∧ t = s) ∧
  -- CAPABILITY_SEND before the partner's
  (∀ (p : Fin 8) (s : State),
      s.nglState p = 5 ∧ s.pw.owned = false →
      SMap.get noneB s.fb.ackIn p = false →
      ∃ t, exec (.capabilitySend p) s = .next t ∧ t.out = s.out ++ [.msg p (s.envTo 0 10) (s.capWords p)] ∧ t.nglState p = 5 ∧
        SMap.get noneB t.fb.ackOut p = (SMap.get noneB s.fb.ackOut p || (SMap.find s.fb.capIn p).isSome) ∧ onlyRegs s t []) ∧
  -- CAPABILITY_SEND that completes the exchange
  (∀ (p : Fin 8) (w : Word) (s : State),
      s.nglState p = 5 →
      SMap.get noneB s.fb.ackIn p = true ∧ SMap.find s.fb.capIn p = some w →
      ∃ t, exec (.capabilitySend p) s = .next t ∧ (s.pw.owned = false → Out.msg p (s.envTo 0 10) (s.capWords p) ∈ t.out) ∧
        t.nglState p = 6 ∧ (t.rd (R.NGL_UP_CNT p)).toNat = min ((s.rd (R.NGL_UP_CNT p)).toNat + 1) (2 ^ 32 - 1) ∧
        t.g (F.FAB_PORT_PEER_VALID p) = 1 ∧ t.g (F.FAB_PORT_PEER_ID p) = bitsOf w 21 16 ∧
        t.g (F.FAB_PORT_PEER_MANAGER p) = bitsOf w 29 29 ∧ t.g (F.FAB_PORT_PEER_TIMED p) = bitsOf w 28 28 ∧
        t.g (F.FAB_PORT_PEER_DEPTH p) = bitsOf w 27 24 ∧ onlyRegs s t [R.NGL_STAT p, R.NGL_UP_CNT p, R.FAB_PORT_PEER p,
        R.PAIR_STAT]) ∧
  -- CAPABILITY_SEND in ACTIVE
  (∀ (p : Fin 8) (s : State),
      s.nglState p = 6 ∧ s.pw.owned = false →
      SMap.find s.fb.sent p ≠ some (s.capWords p) →
      ∃ t, exec (.capabilitySend p) s = .next t ∧ t.out = s.out ++ [.msg p (s.envTo 0 10) (s.capWords p)] ∧
        SMap.find t.fb.sent p = some (s.capWords p) ∧ onlyRegs s t []) ∧
  -- CAPABILITY_SEND without cause
  (∀ (p : Fin 8) (s : State),
      (s.nglState p ≠ 5 ∧ s.nglState p ≠ 6) ∨ (s.nglState p = 6 ∧ SMap.find s.fb.sent p = some (s.capWords p)) →
      ∃ t, exec (.capabilitySend p) s = .next t ∧ t = s) ∧
  -- CAPABILITY in CAPS without a fault
  (∀ (p : Fin 8) (w a b c d e f g h i j k : Word) (s : State),
      s.nglState p = 5 ∧ (s.g F.FAB_ID_VALID = 1 ∨ w.getLsbD 15 = false ∨ bitsOf w 13 8 = 0) →
      s.capFails w = 0 →
      ∃ t, exec (.capability p true [w, a, b, c, d, e, f, g, h, i, j, k]) s = .next t ∧ t.g (credField p 1) = bitsOf k 15 8 ∧
        t.g (credField p 2) = bitsOf k 7 0 ∧ SMap.find t.fb.capIn p = some w ∧ (w.getLsbD 31 = true ∧
        SMap.get noneB s.fb.ackOut p = true → t.nglState p = 6 ∧ t.g (F.FAB_PORT_PEER_VALID p) = 1 ∧
        t.g (F.FAB_PORT_PEER_ID p) = bitsOf w 21 16 ∧ t.g (F.FAB_PORT_PEER_MANAGER p) = bitsOf w 29 29 ∧
        t.g (F.FAB_PORT_PEER_TIMED p) = bitsOf w 28 28 ∧ t.g (F.FAB_PORT_PEER_DEPTH p) = bitsOf w 27 24 ∧
        onlyRegs s t [R.NGL_STAT p, R.NGL_UP_CNT p, R.FAB_PORT_PEER p, R.FAB_PORT_CRED p, R.PAIR_STAT]) ∧
        (¬(w.getLsbD 31 = true ∧ SMap.get noneB s.fb.ackOut p = true) → t.nglState p = 5 ∧ onlyRegs s t [R.FAB_PORT_CRED p])) ∧
  -- CAPABILITY in CAPS with a fault
  (∀ (p : Fin 8) (w : Word) (ws : List Word) (s : State),
      s.nglState p = 5 ∧ (s.g F.FAB_ID_VALID = 1 ∨ w.getLsbD 15 = false ∨ bitsOf w 13 8 = 0) →
      s.capFails w ≠ 0 →
      ∃ t, exec (.capability p true (w :: ws)) s = .next t ∧ t.g (F.FAB_PORT_PEER_CAPS_FAIL p) = s.capFails w ∧
        t.nglState p = 5 ∧ t.rd (R.FAB_PORT_CRED p) = s.rd (R.FAB_PORT_CRED p) ∧ onlyRegs s t [R.FAB_PORT_PEER p]) ∧
  -- CAPABILITY that offers an ID
  (∀ (p : Fin 8) (w : Word) (ws : List Word) (s : State),
      (s.nglState p = 5 ∨ s.nglState p = 6) ∧ s.g F.FAB_ID_VALID = 0 →
      w.getLsbD 15 = true ∧ 1 ≤ bitsOf w 13 8 →
      ∃ t, exec (.capability p true (w :: ws)) s = .next t ∧ t.g F.FAB_ID_VALID = 1 ∧ t.g F.FAB_ID_ID = bitsOf w 13 8 ∧
        t.g F.FAB_STAT_ID_ADOPTED = 1 ∧
        (SMap.find t.fb.sent p).map (fun vs => bitsOf (vs.getD 0 0) 21 16) = some (bitsOf w 13 8) ∧ (s.pw.owned = false →
        t.out.length = s.out.length + 1) ∧ sameMem s t) ∧
  -- CAPABILITY in ACTIVE
  (∀ (p : Fin 8) (w : Word) (ws : List Word) (s : State),
      s.nglState p = 6 ∧ (s.g F.FAB_ID_VALID = 1 ∨ w.getLsbD 15 = false ∨ bitsOf w 13 8 = 0) →
      ∃ t, exec (.capability p true (w :: ws)) s = .next t ∧ t.g (F.FAB_PORT_PEER_ID p) = bitsOf w 21 16 ∧
        t.g (F.FAB_PORT_PEER_MANAGER p) = bitsOf w 29 29 ∧ t.g (F.FAB_PORT_PEER_TIMED p) = bitsOf w 28 28 ∧
        t.g (F.FAB_PORT_PEER_DEPTH p) = bitsOf w 27 24 ∧ (s.capFails w ≠ 0 →
        t.g (F.FAB_PORT_PEER_CAPS_FAIL p) = s.capFails w) ∧ t.nglState p = 6 ∧ onlyRegs s t [R.FAB_PORT_PEER p, R.FAB_STAT]) ∧
  -- CAPABILITY with a bad CRC
  (∀ (p : Fin 8) (ws : List Word) (s : State),
      s.nglState p = 5 ∨ s.nglState p = 6 →
      ∃ t, exec (.capability p false ws) s = .next t ∧ (s.g F.TICK_STAT_RUNNING = 1 → (t.ngl p).crc = (s.ngl p).crc + 1) ∧
        (s.g F.TICK_STAT_RUNNING = 0 → t.ft.blocks = addMsg s.ft.blocks ⟨0, 1, Kind.linkCrc, Src.ngl p⟩) ∧ t.fb = s.fb ∧
        onlyRegs s t []) ∧
  -- CAPABILITY in another state
  (∀ (p : Fin 8) (good : Bool) (ws : List Word) (s : State),
      s.nglState p ≠ 5 ∧ s.nglState p ≠ 6 →
      ∃ t, exec (.capability p good ws) s = .next t ∧ t = s) ∧
  -- FAB_ID_WRITE
  (∀ (v : Word) (s : State),
      s.g F.CHIP_STRAP_ROLE = 0 ∧ s.g F.FAB_ID_VALID = 0 ∧ bitsOf v 5 0 ≠ 0 →
      ∃ t, exec (.fabIdWrite v) s = .next t ∧ t.g F.FAB_ID_VALID = 1 ∧ t.g F.FAB_ID_ID = bitsOf v 5 0 ∧ t.out = s.ok.out ∧
        confined s t [R.FAB_ID]) ∧
  -- FAB_ID_WRITE refused
  (∀ (v : Word) (s : State),
      s.g F.CHIP_STRAP_ROLE = 1 ∨ s.g F.FAB_ID_VALID = 1 ∨ bitsOf v 5 0 = 0 →
      ∃ t, exec (.fabIdWrite v) s = .next t ∧ t.g F.FAB_STAT_CFG_REFUSED = 1 ∧ t.out = s.ok.out ∧ confined s t [R.FAB_STAT])

/-- A remote read of sound memory words is answered with STATUS 0 and the words in order, a remote write of words stores
them and is answered; one whose length is wrong, or whose address is not a multiple of 4, is answered with STATUS 1
and stores nothing. A tunnel request that the manager serves is answered with the host's words, or written to the host
and answered; another is answered with STATUS 1. The message of any of these commands that is not for this device is
treated as MESSAGE_FORWARD treats it. REMOTE_ACCESS_GO on a free unit with a route sends the request and makes it
outstanding, without a route it ends with STATUS 2, and while busy it is refused. A response that meets an outstanding
request with its epoch ends it: one of the control core shows its STATUS and the word read, one of a completion shows
a host error; a response of another epoch is counted, and one without a request is dropped. A timeout ends the
request, with STATUS 3 for the control core. A forwarded descriptor of nine words waits for the engine, one of another
length is dropped. A fault report at the manager becomes an event, or is counted as lost without room; at a worker
nothing happens. Completes REMOTE_READ, REMOTE_WRITE, HOST_TUNNEL_READ, HOST_TUNNEL_WRITE, REMOTE_RESPONSE,
DESCRIPTOR_FWD, FAULT_REPORT, REMOTE_ACCESS_GO, REMOTE_ACCESS_TIMEOUT. (R400, R411, R412, R413, R414, R415, R494,
R498) -/
def Obligations.RemoteAccessCrossesTheFabric : Prop :=
  -- REMOTE_READ of sound memory words
  (∀ (p q : Fin 8) (e : Env) (a n : Word) (s : State),
      s.nglState p = 6 ∧ s.g F.FAB_ID_VALID = 1 ∧ e.dst = s.g F.FAB_ID_ID →
      1 ≤ bitsOf n 10 0 ∧ bitsOf n 10 0 ≤ 1022 ∧ a.toNat % 4 = 0 ∧ s.freeBus →
      (∀ i : Fin 1022, i < bitsOf n 10 0 →
        (memOf (a.toNat + 4 * i)).any (fun m => !m.1.isProg && s.eccAt (a.toNat + 4 * i) == 0 && !s.inRet (bankOf m.1 m.2)) = true) →
      s.routeTo e.src = some q.val ∧ (s.ngl q).quiet = false ∧ SMap.get noMsgs s.fb.txq (3 * q + 1) = [] ∧
        fragsOf (List.replicate (bitsOf n 10 0 + 1) 0) ≤ s.g (F.FAB_PORT_CRED_CTRL q) ∧ s.pw.owned = false →
      ∃ t, exec (.remoteRead p e [a, n]) s = .next t ∧
        t.out = s.out ++ [.msg q { s.envTo e.src 6 with epoch := e.epoch, tag := e.tag, resp := true, tunnel := false } (0 :: (List.range (bitsOf n 10 0)).map (fun i => s.word (a.toNat + 4 * i))), .credit p 1 1] ∧ t.g (F.FAB_PORT_CRED_CTRL q) = s.g (F.FAB_PORT_CRED_CTRL q) - fragsOf (List.replicate (bitsOf n 10 0 + 1) 0) ∧ onlyRegs s t [R.FAB_PORT_CRED q]) ∧
  -- REMOTE_WRITE of memory words
  (∀ (p q : Fin 8) (e : Env) (a n : Word) (vs : List Word) (s : State),
      s.nglState p = 6 ∧ s.g F.FAB_ID_VALID = 1 ∧ e.dst = s.g F.FAB_ID_ID →
      1 ≤ bitsOf n 10 0 ∧ bitsOf n 10 0 ≤ 1022 ∧ vs.length = bitsOf n 10 0 ∧ a.toNat % 4 = 0 ∧ s.freeBus →
      (∀ i : Fin 1022, i < bitsOf n 10 0 → (memOf (a.toNat + 4 * i)).any (fun m => !m.1.isProg) = true) →
      s.routeTo e.src = some q.val ∧ (s.ngl q).quiet = false ∧ SMap.get noMsgs s.fb.txq (3 * q + 1) = [] ∧
        1 ≤ s.g (F.FAB_PORT_CRED_CTRL q) ∧ s.pw.owned = false →
      ∃ t, exec (.remoteWrite p e (a :: n :: vs)) s = .next t ∧ (∀ i : Fin 1022, i < bitsOf n 10 0 →
        t.word (a.toNat + 4 * i) = vs.getD i 0) ∧
        t.out = s.out ++ [.msg q { s.envTo e.src 7 with epoch := e.epoch, tag := e.tag, resp := true, tunnel := false } [0],
        .credit p 1 (fragsOf (a :: n :: vs))] ∧ onlyBytes s t [R.FAB_PORT_CRED q, R.MEM_WAKE_CNT,
        R.MEM_INJ_CTL] a.toNat (4 * vs.length)) ∧
  -- REMOTE_READ of a wrong length
  (∀ (p q : Fin 8) (e : Env) (a n : Word) (s : State),
      s.nglState p = 6 ∧ s.g F.FAB_ID_VALID = 1 ∧ e.dst = s.g F.FAB_ID_ID ∧ (bitsOf n 10 0 = 0 ∨ 1022 < bitsOf n 10 0) →
      s.routeTo e.src = some q.val ∧ (s.ngl q).quiet = false ∧ SMap.get noMsgs s.fb.txq (3 * q + 1) = [] ∧
        1 ≤ s.g (F.FAB_PORT_CRED_CTRL q) ∧ s.pw.owned = false →
      ∃ t, exec (.remoteRead p e [a, n]) s = .next t ∧
        t.out = s.out ++ [.msg q { s.envTo e.src 6 with epoch := e.epoch, tag := e.tag, resp := true, tunnel := false } [1],
        .credit p 1 1] ∧ onlyRegs s t [R.FAB_PORT_CRED q]) ∧
  -- REMOTE_WRITE of a wrong length
  (∀ (p q : Fin 8) (e : Env) (a n : Word) (vs : List Word) (s : State),
      s.nglState p = 6 ∧ s.g F.FAB_ID_VALID = 1 ∧ e.dst = s.g F.FAB_ID_ID ∧ s.freeBus →
      bitsOf n 10 0 = 0 ∨ 1022 < bitsOf n 10 0 ∨ vs.length ≠ bitsOf n 10 0 →
      s.routeTo e.src = some q.val ∧ (s.ngl q).quiet = false ∧ SMap.get noMsgs s.fb.txq (3 * q + 1) = [] ∧
        1 ≤ s.g (F.FAB_PORT_CRED_CTRL q) ∧ s.pw.owned = false →
      ∃ t, exec (.remoteWrite p e (a :: n :: vs)) s = .next t ∧
        t.out = s.out ++ [.msg q { s.envTo e.src 7 with epoch := e.epoch, tag := e.tag, resp := true, tunnel := false } [1],
        .credit p 1 (fragsOf (a :: n :: vs))] ∧ onlyRegs s t [R.FAB_PORT_CRED q]) ∧
  -- REMOTE_READ at an address that is not a multiple of 4
  (∀ (p q : Fin 8) (e : Env) (a n : Word) (s : State),
      s.nglState p = 6 ∧ s.g F.FAB_ID_VALID = 1 ∧ e.dst = s.g F.FAB_ID_ID ∧ s.freeBus →
      a.toNat % 4 ≠ 0 ∧ 1 ≤ bitsOf n 10 0 ∧ bitsOf n 10 0 ≤ 1022 →
      s.routeTo e.src = some q.val ∧ (s.ngl q).quiet = false ∧ SMap.get noMsgs s.fb.txq (3 * q + 1) = [] ∧
        1 ≤ s.g (F.FAB_PORT_CRED_CTRL q) ∧ s.pw.owned = false →
      ∃ t, exec (.remoteRead p e [a, n]) s = .next t ∧
        t.out = s.out ++ [.msg q { s.envTo e.src 6 with epoch := e.epoch, tag := e.tag, resp := true, tunnel := false } [1],
        .credit p 1 1] ∧ t.g F.MTX_STAT_DECODE = 1 ∧ sameMem s t) ∧
  -- REMOTE_WRITE at an address that is not a multiple of 4
  (∀ (p q : Fin 8) (e : Env) (a n : Word) (vs : List Word) (s : State),
      s.nglState p = 6 ∧ s.g F.FAB_ID_VALID = 1 ∧ e.dst = s.g F.FAB_ID_ID ∧ s.freeBus →
      a.toNat % 4 ≠ 0 ∧ 1 ≤ bitsOf n 10 0 ∧ bitsOf n 10 0 ≤ 1022 ∧ vs.length = bitsOf n 10 0 →
      s.routeTo e.src = some q.val ∧ (s.ngl q).quiet = false ∧ SMap.get noMsgs s.fb.txq (3 * q + 1) = [] ∧
        1 ≤ s.g (F.FAB_PORT_CRED_CTRL q) ∧ s.pw.owned = false →
      ∃ t, exec (.remoteWrite p e (a :: n :: vs)) s = .next t ∧
        t.out = s.out ++ [.msg q { s.envTo e.src 7 with epoch := e.epoch, tag := e.tag, resp := true, tunnel := false } [1],
        .credit p 1 (fragsOf (a :: n :: vs))] ∧ t.g F.MTX_STAT_DECODE = 1 ∧ sameMem s t) ∧
  -- HOST_TUNNEL_READ
  (∀ (p q : Fin 8) (e : Env) (a b n : Word) (vs : List Word) (s : State),
      s.nglState p = 6 ∧ s.g F.FAB_ID_VALID = 1 ∧ e.dst = s.g F.FAB_ID_ID →
      s.tunnelServes e.src (bitsOf n 10 0) [a, b, n] = true ∧ vs.length = bitsOf n 10 0 →
      s.routeTo e.src = some q.val ∧ (s.ngl q).quiet = false ∧ SMap.get noMsgs s.fb.txq (3 * q + 1) = [] ∧
        fragsOf (0 :: vs) ≤ s.g (F.FAB_PORT_CRED_CTRL q) ∧ s.pw.owned = false →
      ∃ t, exec (.hostTunnelRead p e [a, b, n] (some vs)) s = .next t ∧
        t.out = s.out ++ [.msg q { s.envTo e.src 6 with epoch := e.epoch, tag := e.tag, resp := true, tunnel := true } (0 :: vs), .credit p 1 1] ∧ onlyRegs s t [R.FAB_PORT_CRED q]) ∧
  -- HOST_TUNNEL_READ that is not served
  (∀ (p q : Fin 8) (e : Env) (a b n : Word) (host : Option (List Word)) (s : State),
      s.nglState p = 6 ∧ s.g F.FAB_ID_VALID = 1 ∧ e.dst = s.g F.FAB_ID_ID →
      s.tunnelServes e.src (bitsOf n 10 0) [a, b, n] = false ∨ (host.all (fun vs => vs.length != bitsOf n 10 0)) = true →
      s.routeTo e.src = some q.val ∧ (s.ngl q).quiet = false ∧ SMap.get noMsgs s.fb.txq (3 * q + 1) = [] ∧
        1 ≤ s.g (F.FAB_PORT_CRED_CTRL q) ∧ s.pw.owned = false →
      ∃ t, exec (.hostTunnelRead p e [a, b, n] host) s = .next t ∧
        t.out = s.out ++ [.msg q { s.envTo e.src 6 with epoch := e.epoch, tag := e.tag, resp := true, tunnel := true } [1],
        .credit p 1 1] ∧ onlyRegs s t [R.FAB_PORT_CRED q]) ∧
  -- HOST_TUNNEL_WRITE
  (∀ (p q : Fin 8) (e : Env) (a b n : Word) (vs : List Word) (s : State),
      s.nglState p = 6 ∧ s.g F.FAB_ID_VALID = 1 ∧ e.dst = s.g F.FAB_ID_ID →
      s.tunnelServes e.src (bitsOf n 10 0) (a :: b :: n :: vs) = true ∧ vs.length = bitsOf n 10 0 →
      s.routeTo e.src = some q.val ∧ (s.ngl q).quiet = false ∧ SMap.get noMsgs s.fb.txq (3 * q + 1) = [] ∧
        1 ≤ s.g (F.FAB_PORT_CRED_CTRL q) ∧ s.pw.owned = false →
      ∃ t, exec (.hostTunnelWrite p e (a :: b :: n :: vs)) s = .next t ∧
        t.out = s.out ++ [.host (a.toNat + b.toNat * 2 ^ 32) (vs.flatMap wordBytes),
        .msg q { s.envTo e.src 7 with epoch := e.epoch, tag := e.tag, resp := true, tunnel := true } [0],
        .credit p 1 (fragsOf (a :: b :: n :: vs))] ∧ onlyRegs s t [R.FAB_PORT_CRED q]) ∧
  -- HOST_TUNNEL_WRITE that is not served
  (∀ (p q : Fin 8) (e : Env) (a b n : Word) (vs : List Word) (s : State),
      s.nglState p = 6 ∧ s.g F.FAB_ID_VALID = 1 ∧ e.dst = s.g F.FAB_ID_ID →
      s.tunnelServes e.src (bitsOf n 10 0) (a :: b :: n :: vs) = false ∨ vs.length ≠ bitsOf n 10 0 →
      s.routeTo e.src = some q.val ∧ (s.ngl q).quiet = false ∧ SMap.get noMsgs s.fb.txq (3 * q + 1) = [] ∧
        1 ≤ s.g (F.FAB_PORT_CRED_CTRL q) ∧ s.pw.owned = false →
      ∃ t, exec (.hostTunnelWrite p e (a :: b :: n :: vs)) s = .next t ∧
        t.out = s.out ++ [.msg q { s.envTo e.src 7 with epoch := e.epoch, tag := e.tag, resp := true, tunnel := true } [1],
        .credit p 1 (fragsOf (a :: b :: n :: vs))] ∧ onlyRegs s t [R.FAB_PORT_CRED q]) ∧
  -- Messages that are not for this device
  (∀ (p : Fin 8) (e : Env) (ws : List Word) (host : Option (List Word)) (s : State),
      s.g F.FAB_ID_VALID = 0 ∨ e.dst ≠ s.g F.FAB_ID_ID →
      s.freeBus →
      exec (.remoteRead p e ws) s = exec (.messageForward p true true { e with type := 6, resp := false, tunnel := false } ws) s ∧ exec (.remoteWrite p e ws) s = exec (.messageForward p true true { e with type := 7, resp := false, tunnel := false } ws) s ∧ exec (.hostTunnelRead p e ws host) s = exec (.messageForward p true true { e with type := 6, resp := false, tunnel := true } ws) s ∧ exec (.hostTunnelWrite p e ws) s = exec (.messageForward p true true { e with type := 7, resp := false, tunnel := true } ws) s ∧ exec (.remoteResponse p e ws) s = exec (.messageForward p true true { e with type := (if e.type = 7 then 7 else 6), resp := true } ws) s ∧ exec (.descriptorFwd p e ws) s = exec (.messageForward p true true { e with type := 8 } ws) s ∧ exec (.faultReport p e ws) s = exec (.messageForward p true true { e with type := 9 } ws) s) ∧
  -- REMOTE_RESPONSE to the control core
  (∀ (p : Fin 8) (e : Env) (r : Request) (rest : List Request) (ws : List Word) (s : State),
      s.nglState p = 6 ∧ s.g F.FAB_ID_VALID = 1 ∧ e.dst = s.g F.FAB_ID_ID ∧ e.tunnel = false →
      takeReq (!e.tunnel) e.tag s.fb.reqs = some (r, rest) ∧ r.epoch = e.epoch →
      ∃ t, exec (.remoteResponse p e ws) s = .next t ∧ t.rd R.FAB_RA_DATA = (if bitsOf (ws.getD 0 0) 1 0 = 0 ∧
        r.write = false then ws.getD 1 0 else s.rd R.FAB_RA_DATA) ∧ t.g F.FAB_RA_CTL_BUSY = 0 ∧ t.g F.FAB_RA_CTL_GO = 0 ∧
        t.g F.FAB_RA_CTL_STATUS = bitsOf (ws.getD 0 0) 1 0 ∧ t.fb.reqs = rest ∧
        SMap.get zeroN t.fb.epochs r.tag = (r.epoch + 1) % 16 ∧ onlyRegs s t [R.FAB_RA_DATA, R.FAB_RA_CTL]) ∧
  -- REMOTE_RESPONSE to a completion
  (∀ (p : Fin 8) (e : Env) (r : Request) (rest : List Request) (ws : List Word) (s : State),
      s.nglState p = 6 ∧ s.g F.FAB_ID_VALID = 1 ∧ e.dst = s.g F.FAB_ID_ID ∧ e.tunnel = true →
      takeReq (!e.tunnel) e.tag s.fb.reqs = some (r, rest) ∧ r.epoch = e.epoch →
      ∃ t, exec (.remoteResponse p e ws) s = .next t ∧ (bitsOf (ws.getD 0 0) 1 0 ≠ 0 → t.g F.HOST_STAT_HOST_ERR = 1) ∧
        (bitsOf (ws.getD 0 0) 1 0 = 0 → t.rd R.HOST_STAT = s.rd R.HOST_STAT) ∧ t.fb.reqs = rest ∧ onlyRegs s t [R.HOST_STAT]) ∧
  -- REMOTE_RESPONSE of another epoch
  (∀ (p : Fin 8) (e : Env) (r : Request) (rest : List Request) (ws : List Word) (s : State),
      s.nglState p = 6 ∧ s.g F.FAB_ID_VALID = 1 ∧ e.dst = s.g F.FAB_ID_ID →
      takeReq (!e.tunnel) e.tag s.fb.reqs = some (r, rest) ∧ r.epoch ≠ e.epoch →
      ∃ t, exec (.remoteResponse p e ws) s = .next t ∧
        (t.rd R.FAB_EPOCH_DROP).toNat = min ((s.rd R.FAB_EPOCH_DROP).toNat + 1) (2 ^ 32 - 1) ∧ t.fb = s.fb ∧
        onlyRegs s t [R.FAB_EPOCH_DROP]) ∧
  -- REMOTE_RESPONSE without a request
  (∀ (p : Fin 8) (e : Env) (ws : List Word) (s : State),
      s.nglState p = 6 ∧ s.g F.FAB_ID_VALID = 1 ∧ e.dst = s.g F.FAB_ID_ID →
      takeReq (!e.tunnel) e.tag s.fb.reqs = none →
      ∃ t, exec (.remoteResponse p e ws) s = .next t ∧ t.fb = s.fb ∧ onlyRegs s t []) ∧
  -- DESCRIPTOR_FWD
  (∀ (p : Fin 8) (e : Env) (w : Word) (ws : List Word) (s : State),
      s.nglState p = 6 ∧ s.g F.FAB_ID_VALID = 1 ∧ e.dst = s.g F.FAB_ID_ID ∧ ws.length = 8 →
      ∃ t, exec (.descriptorFwd p e (w :: ws)) s = .next t ∧ t.hs.ready = s.hs.ready ++ [⟨bitsOf w 1 0, bitsOf w 27 16, ws,
        false⟩] ∧ onlyRegs s t []) ∧
  -- DESCRIPTOR_FWD of another length
  (∀ (p : Fin 8) (e : Env) (ws : List Word) (s : State),
      s.nglState p = 6 ∧ s.g F.FAB_ID_VALID = 1 ∧ e.dst = s.g F.FAB_ID_ID ∧ ws.length ≠ 9 →
      ∃ t, exec (.descriptorFwd p e ws) s = .next t ∧ t.hs = s.hs ∧ onlyRegs s t []) ∧
  -- FAULT_REPORT at the manager
  (∀ (p : Fin 8) (e : Env) (ws : List Word) (s : State),
      s.nglState p = 6 ∧ s.g F.FAB_ID_VALID = 1 ∧ e.dst = s.g F.FAB_ID_ID ∧ s.g F.CHIP_STRAP_ROLE = 1 →
      ∃ t, exec (.faultReport p e ws) s = .next t ∧ (s.eqRoom = true →
        t.g F.HOST_EQ_TAIL_TAIL = (s.g F.HOST_EQ_TAIL_TAIL + 1) % s.g F.HOST_EQ_CFG_SIZE ∧ t.hs.lost = 0 ∧ (s.pw.owned = false →
        Out.host (s.rd64 R.HOST_EQ_BASE_LO R.HOST_EQ_BASE_HI + 32 * s.g F.HOST_EQ_TAIL_TAIL)
        ((BitVec.ofNat 32 (s.g F.HOST_EQ_TAIL_PHASE * 2 ^ 31 + min s.hs.lost 127 * 2 ^ 24 + evFault * 2 ^ 16 + e.src) :: s.tm.tick.setWidth 32 :: (s.tm.tick >>> 32).setWidth 32 :: (ws ++ [0, 0, 0, 0]).take 4 ++ [0]).flatMap wordBytes) ∈ t.out) ∧ onlyRegs s t [R.HOST_EQ_TAIL]) ∧ (s.eqRoom = false → (t.rd R.HOST_EQ_LOST).toNat = min ((s.rd R.HOST_EQ_LOST).toNat + 1) (2 ^ 32 - 1) ∧ t.g F.HOST_STAT_EQ_LOST = 1 ∧ onlyRegs s t [R.HOST_EQ_LOST, R.HOST_STAT])) ∧
  -- FAULT_REPORT at a worker
  (∀ (p : Fin 8) (e : Env) (ws : List Word) (s : State),
      s.nglState p = 6 ∧ s.g F.FAB_ID_VALID = 1 ∧ e.dst = s.g F.FAB_ID_ID ∧ s.g F.CHIP_STRAP_ROLE = 0 →
      ∃ t, exec (.faultReport p e ws) s = .next t ∧ t.hs = s.hs ∧ onlyRegs s t []) ∧
  -- REMOTE_ACCESS_GO
  (∀ (q : Fin 8) (v : Word) (s : State),
      s.g F.FAB_RA_CTL_BUSY = 0 ∧ s.g F.FAB_ID_VALID = 1 →
      s.routeTo (F.FAB_RA_CTL_DEV.of v) = some q.val ∧ (s.ngl q).quiet = false ∧ SMap.get noMsgs s.fb.txq (3 * q + 1) = [] ∧
        1 ≤ s.g (F.FAB_PORT_CRED_CTRL q) ∧ s.pw.owned = false →
      ∃ t, exec (.remoteAccessGo v) s = .next t ∧ t.g F.FAB_RA_CTL_BUSY = 1 ∧ t.fb.reqs = s.fb.reqs ++ [⟨0,
        SMap.get zeroN s.fb.epochs 0, true, (F.FAB_RA_CTL_WRITE.of v == 1), (F.FAB_RA_CTL_DEV.of v)⟩] ∧
        t.out = s.out ++ [.msg q { s.envTo (F.FAB_RA_CTL_DEV.of v) (if (F.FAB_RA_CTL_WRITE.of v == 1) then 7 else 6) with epoch := SMap.get zeroN s.fb.epochs 0 } ([s.rd R.FAB_RA_ADDR, 1] ++ (if (F.FAB_RA_CTL_WRITE.of v == 1) then [s.rd R.FAB_RA_DATA] else [])), .resp false []] ∧ onlyRegs s t [R.FAB_RA_CTL, R.FAB_PORT_CRED q]) ∧
  -- REMOTE_ACCESS_GO without a route
  (∀ (v : Word) (s : State),
      s.g F.FAB_RA_CTL_BUSY = 0 ∧ (s.g F.FAB_ID_VALID = 0 ∨ s.routeTo (F.FAB_RA_CTL_DEV.of v) = none) →
      ∃ t, exec (.remoteAccessGo v) s = .next t ∧ t.g F.FAB_RA_CTL_BUSY = 0 ∧ t.g F.FAB_RA_CTL_GO = 0 ∧
        t.g F.FAB_RA_CTL_STATUS = 2 ∧ t.fb.reqs = s.fb.reqs ∧
        (t.rd R.FAB_MSG_NOROUTE).toNat = min ((s.rd R.FAB_MSG_NOROUTE).toNat + 1) (2 ^ 32 - 1) ∧ onlyRegs s t [R.FAB_RA_CTL,
        R.FAB_MSG_NOROUTE]) ∧
  -- REMOTE_ACCESS_GO while busy
  (∀ (v : Word) (s : State),
      s.g F.FAB_RA_CTL_BUSY = 1 →
      ∃ t, exec (.remoteAccessGo v) s = .next t ∧ t.g F.FAB_STAT_CFG_REFUSED = 1 ∧ t.out = s.ok.out ∧
        confined s t [R.FAB_STAT]) ∧
  -- REMOTE_ACCESS_TIMEOUT
  (∀ (j : Nat) (r : Request) (s : State),
      s.fb.reqs[j]? = some r ∧ r.core = true →
      ∃ t, exec (.remoteAccessTimeout j) s = .next t ∧ t.fb.reqs = s.fb.reqs.eraseIdx j ∧ t.g F.FAB_RA_CTL_BUSY = 0 ∧
        t.g F.FAB_RA_CTL_GO = 0 ∧ t.g F.FAB_RA_CTL_STATUS = 3 ∧ SMap.get zeroN t.fb.epochs r.tag = (r.epoch + 1) % 16 ∧
        onlyRegs s t [R.FAB_RA_CTL]) ∧
  -- REMOTE_ACCESS_TIMEOUT of a completion
  (∀ (j : Nat) (r : Request) (s : State),
      s.fb.reqs[j]? = some r ∧ r.core = false →
      ∃ t, exec (.remoteAccessTimeout j) s = .next t ∧ t.fb = { s.fb with reqs := s.fb.reqs.eraseIdx j } ∧ onlyRegs s t []) ∧
  -- REMOTE_ACCESS_TIMEOUT of no request
  (∀ (j : Nat) (s : State),
      s.fb.reqs[j]? = none →
      ∃ t, exec (.remoteAccessTimeout j) s = .next t ∧ t = s)

/-- START of a STOPPED port that the pair rule does not bar makes it STARTING with the first frame that R429 gives, its
unmuted gates opening and its measured rate invalid; START of another port, or with RESTART, sets CFG_REFUSED. STOP
brings STARTING, RESYNC and RATE_HOLD to STOPPED and RUNNING to STOPPING, where every gate closes, and leaves STOPPED
and STOPPING. RESTART in RESYNC permits resynchronisation, and in RATE_HOLD once the class is that of the tick, where
it leads to RESYNC after two such windows; it is refused in any other state. A write that sets several of these bits
does what each asks, in that order. SAP_MASK takes a value that keeps telemetry slots unmasked, held back by a frame
in the guard window; without a live clock the write waits. SAP_MUTE commands the gates of the slots that it changes,
but in STOPPED and STOPPING none. ZC_TIMEOUT of a searching gate ramps it and is marked. STOP_TIMEOUT brings STOPPING
to STOPPED with the lines released. Elsewhere the two change nothing. Completes SAP_CTL_START, SAP_CTL_STOP,
SAP_CTL_RESTART, SAP_MASK_WRITE, SAP_MUTE_WRITE, ZC_TIMEOUT, STOP_TIMEOUT. (R425, R429, R431, R432, R437, R438, R440,
R445) -/
def Obligations.PortsStartStopAndFollowTheirMasks : Prop :=
  -- SAP_CTL_START
  (∀ (n : Fin 24) (k : Fin 16) (v : Word) (mid : Bool) (s : State),
      s.sapStartRefused n = false ∧ v.getLsbD 1 = false ∧ v.getLsbD 8 = false →
      ∃ t, exec (.sapCtlStart n v mid) s = .next t ∧ t.sapState n = 1 ∧ (s.sapStamp n = false → s.g F.TICK_STAT_RUNNING = 1 →
        (t.sap n).first = some ((s.tm.mtc.toNat + (if mid then 3 else 2) + s.nSamp - 1) / s.nSamp * s.nSamp)) ∧
        (s.sapStamp n = false → s.g F.TICK_STAT_RUNNING = 0 → (t.sap n).first = some (s.tm.mtc.toNat + 1)) ∧
        (s.sapStamp n = true → (t.sap n).first = if s.sapMaster n then some (s.tm.mtc.toNat + 1) else none) ∧
        (t.txGate n k).want = !(s.g (F.SAP_MUTE_MUTE n)).testBit k ∧ t.g (F.SAP_RATE_MEAS_RATE_VALID n) = 0 ∧
        t.g (F.SAP_STAT_SDOUT_DRV n) = 0 ∧ t.g (F.SAP_STAT_CLK_DRV n) = (s.sapMasterCfg n && s.mayDrive).toNat ∧
        t.out = s.ok.out ∧ onlyRegs s t [R.SAP_CTL n, R.SAP_STAT n, R.SAP_RATE_MEAS n]) ∧
  -- SAP_CTL_START refused
  (∀ (n : Fin 24) (v : Word) (mid : Bool) (s : State),
      s.sapStartRefused n = true ∨ v.getLsbD 8 = true →
      ∃ t, exec (.sapCtlStart n v mid) s = .next t ∧ t.g (F.SAP_STAT_CFG_REFUSED n) = 1 ∧ t.out = s.ok.out ∧
        confined s t [R.SAP_STAT n]) ∧
  -- SAP_CTL_START with STOP
  (∀ (n : Fin 24) (v : Word) (mid : Bool) (s : State),
      s.sapStartRefused n = false ∧ v.getLsbD 1 = true ∧ v.getLsbD 8 = false →
      ∃ t, exec (.sapCtlStart n v mid) s = .next t ∧ t.sapState n = 0 ∧ t.g (F.SAP_STAT_SDOUT_DRV n) = 0 ∧
        t.g (F.SAP_STAT_CLK_DRV n) = 0 ∧ t.out = s.ok.out ∧ onlyRegs s t [R.SAP_CTL n, R.SAP_STAT n, R.SAP_RATE_MEAS n]) ∧
  -- SAP_CTL_STOP of a port that is not RUNNING
  (∀ (n : Fin 24) (v : Word) (s : State),
      s.sapState n = 1 ∨ s.sapState n = 4 ∨ s.sapState n = 5 →
      v.getLsbD 0 = false ∧ v.getLsbD 8 = false →
      ∃ t, exec (.sapCtlStop n v) s = .next t ∧ t.sapState n = 0 ∧ t.g (F.SAP_STAT_SDOUT_DRV n) = 0 ∧
        t.g (F.SAP_STAT_CLK_DRV n) = 0 ∧ (t.sap n).tx = [] ∧ t.out = s.ok.out ∧ onlyRegs s t [R.SAP_CTL n, R.SAP_STAT n]) ∧
  -- SAP_CTL_STOP of a RUNNING port
  (∀ (n : Fin 24) (k : Fin 16) (v : Word) (s : State),
      s.sapState n = 2 →
      v.getLsbD 0 = false ∧ v.getLsbD 8 = false →
      ∃ t, exec (.sapCtlStop n v) s = .next t ∧ t.sapState n = 3 ∧ (t.txGate n k).want = false ∧ t.out = s.ok.out ∧
        onlyRegs s t [R.SAP_CTL n, R.SAP_STAT n]) ∧
  -- SAP_CTL_STOP of a STOPPED or STOPPING port
  (∀ (n : Fin 24) (v : Word) (s : State),
      s.sapState n = 0 ∨ s.sapState n = 3 →
      v.getLsbD 0 = false ∧ v.getLsbD 8 = false →
      ∃ t, exec (.sapCtlStop n v) s = .next t ∧ t.sap n = s.sap n ∧ t.out = s.ok.out ∧ confined s t [R.SAP_CTL n]) ∧
  -- SAP_CTL_STOP with START or RESTART
  (∀ (n : Fin 24) (v : Word) (s : State),
      v.getLsbD 0 = true ∨ v.getLsbD 8 = true →
      (v.getLsbD 0 = true → exec (.sapCtlStop n v) s = exec (.sapCtlStart n (v ||| 2#32) true) s) ∧ (v.getLsbD 8 = true →
        exec (.sapCtlStop n v) s = exec (.sapCtlRestart n (v ||| 2#32)) s)) ∧
  -- SAP_CTL_RESTART in RESYNC
  (∀ (n : Fin 24) (v : Word) (s : State),
      s.sapState n = 4 →
      v.getLsbD 0 = false ∧ v.getLsbD 1 = false →
      ∃ t, exec (.sapCtlRestart n v) s = .next t ∧ t.sapState n = 4 ∧ t.sap n = { s.sap n with permit := true } ∧
        t.out = s.ok.out ∧ onlyRegs s t [R.SAP_CTL n]) ∧
  -- SAP_CTL_RESTART in RATE_HOLD
  (∀ (n : Fin 24) (v : Word) (s : State),
      s.sapState n = 5 ∧ (s.sap n).lastClass = s.g F.TICK_CFG_FS_SEL + 1 →
      v.getLsbD 0 = false ∧ v.getLsbD 1 = false →
      ∃ t, exec (.sapCtlRestart n v) s = .next t ∧ (2 ≤ (s.sap n).okWindows → t.sapState n = 4 ∧
        t.sap n = { s.sap n with permit := true, aligned := false }) ∧ ((s.sap n).okWindows < 2 → t.sapState n = 5 ∧
        t.sap n = { s.sap n with permit := true }) ∧ t.out = s.ok.out ∧ onlyRegs s t [R.SAP_CTL n, R.SAP_STAT n]) ∧
  -- SAP_CTL_RESTART with STOP
  (∀ (n : Fin 24) (v : Word) (s : State),
      (s.sapState n = 4 ∨ (s.sapState n = 5 ∧ (s.sap n).lastClass = s.g F.TICK_CFG_FS_SEL + 1)) ∧ v.getLsbD 0 = false ∧
        v.getLsbD 1 = true →
      ∃ t, exec (.sapCtlRestart n v) s = .next t ∧ t.sapState n = 0 ∧ t.g (F.SAP_STAT_SDOUT_DRV n) = 0 ∧
        t.g (F.SAP_STAT_CLK_DRV n) = 0 ∧ t.out = s.ok.out ∧ onlyRegs s t [R.SAP_CTL n, R.SAP_STAT n]) ∧
  -- SAP_CTL_RESTART refused
  (∀ (n : Fin 24) (v : Word) (s : State),
      ¬(s.sapState n = 4 ∨ (s.sapState n = 5 ∧ (s.sap n).lastClass = s.g F.TICK_CFG_FS_SEL + 1)) ∨ v.getLsbD 0 = true →
      ∃ t, exec (.sapCtlRestart n v) s = .next t ∧ t.g (F.SAP_STAT_CFG_REFUSED n) = 1 ∧ t.out = s.ok.out ∧
        confined s t [R.SAP_STAT n]) ∧
  -- SAP_MASK_WRITE
  (∀ (n : Fin 24) (v : Word) (guard : Bool) (s : State),
      s.farLive n = true →
      s.g (F.SAP_TEL_TEL n) &&& (65535 - bitsOf v 15 0) = 0 →
      ∃ t, exec (.sapMaskWrite n v guard) s = .next t ∧ t.rd (R.SAP_MASK n) = v ∧
        t.rd (R.SAP_MASK_ACTIVE n) = s.rd (R.SAP_MASK_ACTIVE n) ∧ (guard = true → t.g (F.SAP_STAT_MASK_LATE n) = 1 ∧
        (t.sap n).maskHold = true) ∧ (guard = false → t.rd (R.SAP_STAT n) = s.rd (R.SAP_STAT n)) ∧ t.out = s.ok.out ∧
        onlyRegs s t [R.SAP_MASK n, R.SAP_STAT n]) ∧
  -- SAP_MASK_WRITE that masks a telemetry slot
  (∀ (n : Fin 24) (v : Word) (guard : Bool) (s : State),
      s.farLive n = true →
      s.g (F.SAP_TEL_TEL n) &&& (65535 - bitsOf v 15 0) ≠ 0 →
      ∃ t, exec (.sapMaskWrite n v guard) s = .next t ∧ t.g (F.SAP_STAT_CFG_REFUSED n) = 1 ∧ t.out = s.ok.out ∧
        confined s t [R.SAP_STAT n]) ∧
  -- SAP_MASK_WRITE without a live clock
  (∀ (n : Fin 24) (v : Word) (guard : Bool) (s : State),
      s.farLive n = false →
      ∃ t, exec (.sapMaskWrite n v guard) s = .next t ∧ t.mx.hung.length = s.mx.hung.length + 1 ∧ { t with mx := s.mx } = s) ∧
  -- SAP_MUTE_WRITE of a started port
  (∀ (n : Fin 24) (k : Fin 16) (v : Word) (s : State),
      s.sapState n ≠ 0 ∧ s.sapState n ≠ 3 →
      ∃ t, exec (.sapMuteWrite n v) s = .next t ∧ t.g (F.SAP_MUTE_MUTE n) = bitsOf v 15 0 ∧
        ((s.g (F.SAP_MUTE_MUTE n)).testBit k ≠ v.getLsbD k → (t.txGate n k).want = !v.getLsbD k) ∧
        ((s.g (F.SAP_MUTE_MUTE n)).testBit k = v.getLsbD k → t.txGate n k = s.txGate n k) ∧ t.out = s.ok.out ∧
        onlyRegs s t [R.SAP_MUTE n, R.SAP_STAT n]) ∧
  -- SAP_MUTE_WRITE of a STOPPED or STOPPING port
  (∀ (n : Fin 24) (v : Word) (s : State),
      s.sapState n = 0 ∨ s.sapState n = 3 →
      ∃ t, exec (.sapMuteWrite n v) s = .next t ∧ t.g (F.SAP_MUTE_MUTE n) = bitsOf v 15 0 ∧ t.out = s.ok.out ∧
        confined s t [R.SAP_MUTE n]) ∧
  -- ZC_TIMEOUT
  (∀ (n : Fin 24) (k : Fin 16) (s : State),
      (s.txGate n k).search = true →
      ∃ t, exec (.zcTimeout n k) s = .next t ∧ t.txGate n k = { s.txGate n k with search := false, ramp := true } ∧
        t.g (F.SAP_STAT_ZC_TIMEOUT n) = 1 ∧ onlyRegs s t [R.SAP_STAT n]) ∧
  -- ZC_TIMEOUT of a gate that does not search
  (∀ (n : Fin 24) (k : Fin 16) (s : State),
      (s.txGate n k).search = false →
      ∃ t, exec (.zcTimeout n k) s = .next t ∧ t = s) ∧
  -- STOP_TIMEOUT
  (∀ (n : Fin 24) (s : State),
      s.sapState n = 3 →
      ∃ t, exec (.stopTimeout n) s = .next t ∧ t.sapState n = 0 ∧ t.g (F.SAP_STAT_SDOUT_DRV n) = 0 ∧
        t.g (F.SAP_STAT_CLK_DRV n) = 0 ∧ (t.sap n).tx = [] ∧ onlyRegs s t [R.SAP_STAT n]) ∧
  -- STOP_TIMEOUT in another state
  (∀ (n : Fin 24) (s : State),
      s.sapState n ≠ 3 →
      ∃ t, exec (.stopTimeout n) s = .next t ∧ t = s)

/-- Each leading edge brings the masks into force, but for one held back. The edge of its first frame makes a STARTING
port RUNNING with the frame count at zero; one before it leaves it. At a port that is RUNNING an edge in its place
completes the frame before it, counts it and ends any trouble; its words are kept with masked slots at zero, where the
crossing is ready. A STOPPING port counts the frame, keeps none, and stops once its gates are shut. An edge out of its
place is a slip: RUNNING becomes RESYNC and STOPPING becomes STOPPED, and a slip that was not shown is counted, marked
and reported; LATE_LEADING_EDGE does the same. In RESYNC an edge aligns a port that restarts by itself or is permitted
to; the next in its place makes it RUNNING with the trouble ended, and one out of its place, or late, starts over. An
edge leaves STOPPED and RATE_HOLD. SAP_CLK_LOST at a port with an outside clock marks, counts and reports the loss and
brings RUNNING to RESYNC and STOPPING to STOPPED. A completed rate window shows rate, class and offset, valid from the
second window on, with a message where the class changes or the offset rises above its threshold; a class that is not
the tick's brings the port to RATE_HOLD, from which two windows of it lead to RESYNC where restart is automatic or
permitted. Elsewhere they change nothing. Completes SAP_FRAME, LATE_LEADING_EDGE, SAP_CLK_LOST, SAP_RATE_WINDOW.
(R425, R427, R428, R429, R434, R435, R436, R437, R438) -/
def Obligations.PortsReceiveFramesAndClockTrouble : Prop :=
  -- SAP_FRAME that starts a port
  (∀ (n : Fin 24) (ph : BitVec 8) (ws : List Word) (early : Bool) (hard soft : List Nat) (safe : Bool) (s : State),
      s.sapState n = 1 →
      (s.sap n).first.all (fun f => decide (f ≤ (if s.sapMaster n = false ∧
        ph.toInt < 0 then s.tm.mtc.toNat + 1 else s.tm.mtc.toNat))) = true →
      ∃ t, exec (.sapFrame n ph ws early hard soft safe) s = .next t ∧ t.sapState n = 2 ∧ t.rd (R.SAP_FRAME_CNT n) = 0 ∧
        (t.sap n).frame = some (if s.sapStamp n then 0 else (if s.sapMaster n = false ∧
        ph.toInt < 0 then s.tm.mtc.toNat + 1 else s.tm.mtc.toNat)) ∧ (t.sap n).first = none ∧
        (t.rd (R.SAP_MASK_ACTIVE n) = if (s.sap n).maskHold then s.rd (R.SAP_MASK_ACTIVE n) else s.rd (R.SAP_MASK n)) ∧
        (t.sap n).maskHold = false ∧ (s.sapMaster n = true → t.g (F.SAP_RATE_MEAS_RATE_VALID n) = 1 ∧
        t.g (F.SAP_RATE_MEAS_CLASS n) = s.g F.TICK_CFG_FS_SEL + 1) ∧ sameMem s t) ∧
  -- SAP_FRAME before the first frame of a start
  (∀ (n : Fin 24) (ph : BitVec 8) (ws : List Word) (early : Bool) (hard soft : List Nat) (safe : Bool) (s : State),
      s.sapState n = 1 →
      (s.sap n).first.any (fun f => decide ((if s.sapMaster n = false ∧
        ph.toInt < 0 then s.tm.mtc.toNat + 1 else s.tm.mtc.toNat) < f)) = true →
      ∃ t, exec (.sapFrame n ph ws early hard soft safe) s = .next t ∧ t.sapState n = 1 ∧
        t.rd (R.SAP_FRAME_CNT n) = s.rd (R.SAP_FRAME_CNT n) ∧ (t.sap n).first = (s.sap n).first ∧
        (t.rd (R.SAP_MASK_ACTIVE n) = if (s.sap n).maskHold then s.rd (R.SAP_MASK_ACTIVE n) else s.rd (R.SAP_MASK n)) ∧
        (t.sap n).maskHold = false ∧ sameMem s t) ∧
  -- SAP_FRAME in its place at a RUNNING port
  (∀ (n : Fin 24) (ph : BitVec 8) (ws : List Word) (early : Bool) (hard soft : List Nat) (safe : Bool) (s : State),
      s.sapState n = 2 ∧ s.sapSlips n (if s.sapMaster n = false ∧
        ph.toInt < 0 then s.tm.mtc.toNat + 1 else s.tm.mtc.toNat) (early && !s.sapMaster n) = false →
      ∃ t, exec (.sapFrame n ph ws early hard soft safe) s = .next t ∧ t.sapState n = 2 ∧
        (t.sap n).frame = some (if s.sapStamp n then (s.sap n).frame.getD 0 + 1 else (if s.sapMaster n = false ∧
        ph.toInt < 0 then s.tm.mtc.toNat + 1 else s.tm.mtc.toNat)) ∧ (s.g (F.SAP_STAT_READY n) = 1 →
        (t.sap n).rxq.getLast? = some ⟨(s.sap n).frame.getD 0, (s.sap n).edge,
        (List.range (s.sapSlots n)).map (fun i => if (s.g (F.SAP_MASK_ACTIVE_RX n)).testBit i then ws.getD i 0 else 0)⟩) ∧
        (s.g (F.SAP_STAT_READY n) = 0 → (t.sap n).rxq = (s.sap n).rxq) ∧
        (t.rd (R.SAP_FRAME_CNT n)).toNat = min ((s.rd (R.SAP_FRAME_CNT n)).toNat + 1) (2 ^ 32 - 1) ∧
        t.g (F.SAP_STAT_SLOT_SLIP n) = 0 ∧ t.g (F.SAP_STAT_CLK_LOST n) = 0 ∧
        (t.rd (R.SAP_MASK_ACTIVE n) = if (s.sap n).maskHold then s.rd (R.SAP_MASK_ACTIVE n) else s.rd (R.SAP_MASK n)) ∧
        (t.sap n).maskHold = false ∧ (s.sapStamp n = false →
        t.rd (R.SAP_PHASE n) = BitVec.ofInt 32 (if s.sapMaster n then 0 else ph.toInt)) ∧ sameMem s t) ∧
  -- SAP_FRAME in its place at a STOPPING port
  (∀ (n : Fin 24) (ph : BitVec 8) (ws : List Word) (early : Bool) (hard soft : List Nat) (safe : Bool) (s : State),
      s.sapState n = 3 ∧ s.sapSlips n (if s.sapMaster n = false ∧
        ph.toInt < 0 then s.tm.mtc.toNat + 1 else s.tm.mtc.toNat) (early && !s.sapMaster n) = false →
      ∃ t, exec (.sapFrame n ph ws early hard soft safe) s = .next t ∧
        t.sapState n = (if (List.range (s.sapSlots n)).all (fun i => (s.txGate n i).shutIn (if s.sapStamp n then (s.sap n).txHead - 1 else (s.sap n).frame.getD 0)) then 0 else 3) ∧ (t.sap n).rxq = (s.sap n).rxq ∧ (t.rd (R.SAP_FRAME_CNT n)).toNat = min ((s.rd (R.SAP_FRAME_CNT n)).toNat + 1) (2 ^ 32 - 1) ∧ sameMem s t) ∧
  -- SAP_FRAME out of its place
  (∀ (n : Fin 24) (ph : BitVec 8) (ws : List Word) (early : Bool) (hard soft : List Nat) (safe : Bool) (s : State),
      s.sapSlips n (if s.sapMaster n = false ∧
        ph.toInt < 0 then s.tm.mtc.toNat + 1 else s.tm.mtc.toNat) (early && !s.sapMaster n) = true →
      ∃ t, exec (.sapFrame n ph ws early hard soft safe) s = .next t ∧ t.sapState n = (if s.sapState n = 3 then 0 else 4) ∧
        t.g (F.SAP_STAT_SLOT_SLIP n) = 1 ∧ (s.g (F.SAP_STAT_SLOT_SLIP n) = 0 → t.g (F.SAP_STAT_SLIP_SEEN n) = 1 ∧
        (t.rd (R.SAP_SLIP_CNT n)).toNat = min ((s.rd (R.SAP_SLIP_CNT n)).toNat + 1) (2 ^ 32 - 1) ∧ ∃ m ∈ t.ft.blocks,
        m.kind = Kind.slotSlip) ∧ (s.g (F.SAP_STAT_SLOT_SLIP n) = 1 → t.rd (R.SAP_SLIP_CNT n) = s.rd (R.SAP_SLIP_CNT n)) ∧
        t.rd (R.SAP_FRAME_CNT n) = s.rd (R.SAP_FRAME_CNT n) ∧ (t.sap n).rxq = (s.sap n).rxq ∧ (t.sap n).tx = [] ∧
        (t.rd (R.SAP_MASK_ACTIVE n) = if (s.sap n).maskHold then s.rd (R.SAP_MASK_ACTIVE n) else s.rd (R.SAP_MASK n)) ∧
        (t.sap n).maskHold = false ∧ sameMem s t) ∧
  -- SAP_FRAME that aligns a port in RESYNC
  (∀ (n : Fin 24) (ph : BitVec 8) (ws : List Word) (early : Bool) (hard soft : List Nat) (safe : Bool) (s : State),
      s.sapState n = 4 ∧ (s.sap n).aligned = false →
      s.g (F.SAP_CTL_AUTO_RESTART n) = 1 ∨ (s.sap n).permit = true →
      ∃ t, exec (.sapFrame n ph ws early hard soft safe) s = .next t ∧ t.sapState n = 4 ∧ (t.sap n).aligned = true ∧
        (t.sap n).frame = some (if s.sapStamp n then 0 else (if s.sapMaster n = false ∧
        ph.toInt < 0 then s.tm.mtc.toNat + 1 else s.tm.mtc.toNat)) ∧ (t.sap n).tx = [] ∧
        (t.rd (R.SAP_MASK_ACTIVE n) = if (s.sap n).maskHold then s.rd (R.SAP_MASK_ACTIVE n) else s.rd (R.SAP_MASK n)) ∧
        (t.sap n).maskHold = false ∧ sameMem s t) ∧
  -- SAP_FRAME that may not align a port in RESYNC
  (∀ (n : Fin 24) (ph : BitVec 8) (ws : List Word) (early : Bool) (hard soft : List Nat) (safe : Bool) (s : State),
      s.sapState n = 4 ∧ (s.sap n).aligned = false ∧ s.g (F.SAP_CTL_AUTO_RESTART n) = 0 ∧ (s.sap n).permit = false →
      ∃ t, exec (.sapFrame n ph ws early hard soft safe) s = .next t ∧ t.sapState n = 4 ∧ (t.sap n).aligned = false ∧
        (t.sap n).frame = (s.sap n).frame ∧
        (t.rd (R.SAP_MASK_ACTIVE n) = if (s.sap n).maskHold then s.rd (R.SAP_MASK_ACTIVE n) else s.rd (R.SAP_MASK n)) ∧
        (t.sap n).maskHold = false ∧ sameMem s t) ∧
  -- SAP_FRAME that ends RESYNC
  (∀ (n : Fin 24) (ph : BitVec 8) (ws : List Word) (early : Bool) (hard soft : List Nat) (safe : Bool) (s : State),
      s.sapState n = 4 ∧ (s.sap n).aligned = true ∧ s.sapPlaced n (if s.sapMaster n = false ∧
        ph.toInt < 0 then s.tm.mtc.toNat + 1 else s.tm.mtc.toNat) (early && !s.sapMaster n) = true →
      ∃ t, exec (.sapFrame n ph ws early hard soft safe) s = .next t ∧ t.sapState n = 2 ∧
        (t.rd (R.SAP_RESTART_CNT n)).toNat = min ((s.rd (R.SAP_RESTART_CNT n)).toNat + 1) (2 ^ 32 - 1) ∧
        (t.rd (R.SAP_FRAME_CNT n)).toNat = min ((s.rd (R.SAP_FRAME_CNT n)).toNat + 1) (2 ^ 32 - 1) ∧
        t.g (F.SAP_STAT_SLOT_SLIP n) = 0 ∧
        (t.sap n).frame = some (if s.sapStamp n then (s.sap n).frame.getD 0 + 1 else (if s.sapMaster n = false ∧
        ph.toInt < 0 then s.tm.mtc.toNat + 1 else s.tm.mtc.toNat)) ∧ (t.sap n).windows = 0 ∧
        (t.rd (R.SAP_MASK_ACTIVE n) = if (s.sap n).maskHold then s.rd (R.SAP_MASK_ACTIVE n) else s.rd (R.SAP_MASK n)) ∧
        (t.sap n).maskHold = false ∧ sameMem s t) ∧
  -- SAP_FRAME out of its place in RESYNC
  (∀ (n : Fin 24) (ph : BitVec 8) (ws : List Word) (early : Bool) (hard soft : List Nat) (safe : Bool) (s : State),
      s.sapState n = 4 ∧ (s.sap n).aligned = true ∧ s.sapPlaced n (if s.sapMaster n = false ∧
        ph.toInt < 0 then s.tm.mtc.toNat + 1 else s.tm.mtc.toNat) (early && !s.sapMaster n) = false →
      ∃ t, exec (.sapFrame n ph ws early hard soft safe) s = .next t ∧ t.sapState n = 4 ∧ (t.sap n).aligned = false ∧
        (t.sap n).permit = true ∧ t.g (F.SAP_STAT_SLOT_SLIP n) = 1 ∧ (s.g (F.SAP_STAT_SLOT_SLIP n) = 0 →
        t.g (F.SAP_STAT_SLIP_SEEN n) = 1 ∧
        (t.rd (R.SAP_SLIP_CNT n)).toNat = min ((s.rd (R.SAP_SLIP_CNT n)).toNat + 1) (2 ^ 32 - 1) ∧ ∃ m ∈ t.ft.blocks,
        m.kind = Kind.slotSlip) ∧ (s.g (F.SAP_STAT_SLOT_SLIP n) = 1 → t.rd (R.SAP_SLIP_CNT n) = s.rd (R.SAP_SLIP_CNT n)) ∧
        t.rd (R.SAP_RESTART_CNT n) = s.rd (R.SAP_RESTART_CNT n) ∧
        (t.rd (R.SAP_MASK_ACTIVE n) = if (s.sap n).maskHold then s.rd (R.SAP_MASK_ACTIVE n) else s.rd (R.SAP_MASK n)) ∧
        (t.sap n).maskHold = false ∧ sameMem s t) ∧
  -- SAP_FRAME at a STOPPED port, or in RATE_HOLD
  (∀ (n : Fin 24) (ph : BitVec 8) (ws : List Word) (early : Bool) (hard soft : List Nat) (safe : Bool) (s : State),
      s.sapState n = 0 ∨ s.sapState n = 5 →
      ∃ t, exec (.sapFrame n ph ws early hard soft safe) s = .next t ∧ t.sapState n = s.sapState n ∧
        t.rd (R.SAP_FRAME_CNT n) = s.rd (R.SAP_FRAME_CNT n) ∧ (t.sap n).rxq = (s.sap n).rxq ∧
        (t.rd (R.SAP_MASK_ACTIVE n) = if (s.sap n).maskHold then s.rd (R.SAP_MASK_ACTIVE n) else s.rd (R.SAP_MASK n)) ∧
        (t.sap n).maskHold = false ∧ sameMem s t) ∧
  -- LATE_LEADING_EDGE
  (∀ (n : Fin 24) (s : State),
      s.sapMaster n = false ∧ (s.sapState n = 2 ∨ s.sapState n = 3) →
      ∃ t, exec (.lateLeadingEdge n) s = .next t ∧ t.sapState n = (if s.sapState n = 3 then 0 else 4) ∧
        t.g (F.SAP_STAT_SLOT_SLIP n) = 1 ∧ (s.g (F.SAP_STAT_SLOT_SLIP n) = 0 → t.g (F.SAP_STAT_SLIP_SEEN n) = 1 ∧
        (t.rd (R.SAP_SLIP_CNT n)).toNat = min ((s.rd (R.SAP_SLIP_CNT n)).toNat + 1) (2 ^ 32 - 1) ∧ ∃ m ∈ t.ft.blocks,
        m.kind = Kind.slotSlip) ∧ (s.g (F.SAP_STAT_SLOT_SLIP n) = 1 → t.rd (R.SAP_SLIP_CNT n) = s.rd (R.SAP_SLIP_CNT n)) ∧
        sameMem s t) ∧
  -- LATE_LEADING_EDGE of a port that aligns
  (∀ (n : Fin 24) (s : State),
      s.sapMaster n = false ∧ s.sapState n = 4 ∧ (s.sap n).aligned = true →
      ∃ t, exec (.lateLeadingEdge n) s = .next t ∧ t.sapState n = 4 ∧ (t.sap n).aligned = false ∧ (t.sap n).permit = true ∧
        t.g (F.SAP_STAT_SLOT_SLIP n) = 1 ∧ (s.g (F.SAP_STAT_SLOT_SLIP n) = 0 → t.g (F.SAP_STAT_SLIP_SEEN n) = 1 ∧
        (t.rd (R.SAP_SLIP_CNT n)).toNat = min ((s.rd (R.SAP_SLIP_CNT n)).toNat + 1) (2 ^ 32 - 1) ∧ ∃ m ∈ t.ft.blocks,
        m.kind = Kind.slotSlip) ∧ (s.g (F.SAP_STAT_SLOT_SLIP n) = 1 → t.rd (R.SAP_SLIP_CNT n) = s.rd (R.SAP_SLIP_CNT n)) ∧
        sameMem s t) ∧
  -- LATE_LEADING_EDGE elsewhere
  (∀ (n : Fin 24) (s : State),
      s.sapMaster n = true ∨ s.sapState n < 2 ∨ 4 < s.sapState n ∨ (s.sapState n = 4 ∧ (s.sap n).aligned = false) →
      ∃ t, exec (.lateLeadingEdge n) s = .next t ∧ t = s) ∧
  -- SAP_CLK_LOST
  (∀ (n : Fin 24) (s : State),
      2 ≤ s.sapState n ∧ s.sapMaster n = false ∧ s.g (F.SAP_STAT_CLK_LOST n) = 0 →
      ∃ t, exec (.sapClkLost n) s = .next t ∧ t.sapState n = (if s.sapState n = 3 then 0 else 4) ∧
        t.g (F.SAP_STAT_CLK_LOST n) = 1 ∧ t.g (F.SAP_STAT_CLK_LOST_SEEN n) = 1 ∧
        (t.rd (R.SAP_CLKLOST_CNT n)).toNat = min ((s.rd (R.SAP_CLKLOST_CNT n)).toNat + 1) (2 ^ 32 - 1) ∧ (∃ m ∈ t.ft.blocks,
        m.kind = Kind.sapClkLost) ∧ sameMem s t) ∧
  -- SAP_CLK_LOST elsewhere
  (∀ (n : Fin 24) (s : State),
      s.sapState n < 2 ∨ s.sapMaster n = true ∨ s.g (F.SAP_STAT_CLK_LOST n) = 1 →
      ∃ t, exec (.sapClkLost n) s = .next t ∧ t = s) ∧
  -- SAP_RATE_WINDOW of the tick's class
  (∀ (n : Fin 24) (hz : Fin 262144) (dev : BitVec 16) (s : State),
      (s.sapState n = 2 ∨ s.sapState n = 4) ∧ s.sapMaster n = false →
      rateClass hz = s.g F.TICK_CFG_FS_SEL + 1 →
      ∃ t, exec (.sapRateWindow n hz dev) s = .next t ∧ t.sapState n = s.sapState n ∧ t.g (F.SAP_RATE_MEAS_HZ n) = hz.val ∧
        t.g (F.SAP_RATE_MEAS_CLASS n) = rateClass hz ∧
        t.g (F.SAP_RATE_MEAS_RATE_VALID n) = (if 1 ≤ (s.sap n).windows then 1 else 0) ∧
        t.rd (R.SAP_RATE_DEV n) = dev.signExtend 32 ∧ (t.sap n).windows = (s.sap n).windows + 1 ∧ (1 ≤ (s.sap n).windows →
        rateClass hz ≠ (s.sap n).lastClass ∨ (s.g (F.SAP_RATE_THR_THR n) < dev.toInt.natAbs ∧ (s.sap n).devHigh = false) →
        t.g (F.SAP_STAT_RATE_EVT n) = 1 ∧ ∃ m ∈ t.ft.blocks, m.kind = Kind.sapRate) ∧ onlyRegs s t [R.SAP_RATE_MEAS n,
        R.SAP_RATE_DEV n, R.SAP_STAT n]) ∧
  -- SAP_RATE_WINDOW of the tick's class in RATE_HOLD
  (∀ (n : Fin 24) (hz : Fin 262144) (dev : BitVec 16) (s : State),
      s.sapState n = 5 ∧ s.sapMaster n = false →
      rateClass hz = s.g F.TICK_CFG_FS_SEL + 1 →
      ∃ t, exec (.sapRateWindow n hz dev) s = .next t ∧ t.sapState n = (if 1 ≤ (s.sap n).okWindows ∧
        (s.g (F.SAP_CTL_AUTO_RATE n) = 1 ∨ (s.sap n).permit = true) then 4 else 5) ∧
        (t.sap n).okWindows = (s.sap n).okWindows + 1 ∧ t.g (F.SAP_RATE_MEAS_HZ n) = hz.val ∧
        t.g (F.SAP_RATE_MEAS_CLASS n) = rateClass hz ∧
        t.g (F.SAP_RATE_MEAS_RATE_VALID n) = (if 1 ≤ (s.sap n).windows then 1 else 0) ∧
        t.rd (R.SAP_RATE_DEV n) = dev.signExtend 32 ∧ (t.sap n).windows = (s.sap n).windows + 1 ∧ (1 ≤ (s.sap n).windows →
        rateClass hz ≠ (s.sap n).lastClass ∨ (s.g (F.SAP_RATE_THR_THR n) < dev.toInt.natAbs ∧ (s.sap n).devHigh = false) →
        t.g (F.SAP_STAT_RATE_EVT n) = 1 ∧ ∃ m ∈ t.ft.blocks, m.kind = Kind.sapRate) ∧ onlyRegs s t [R.SAP_RATE_MEAS n,
        R.SAP_RATE_DEV n, R.SAP_STAT n]) ∧
  -- SAP_RATE_WINDOW of another class
  (∀ (n : Fin 24) (hz : Fin 262144) (dev : BitVec 16) (s : State),
      (s.sapState n = 2 ∨ s.sapState n = 4 ∨ s.sapState n = 5) ∧ s.sapMaster n = false →
      rateClass hz ≠ s.g F.TICK_CFG_FS_SEL + 1 →
      ∃ t, exec (.sapRateWindow n hz dev) s = .next t ∧ t.sapState n = 5 ∧ t.g (F.SAP_RATE_MEAS_HZ n) = hz.val ∧
        t.g (F.SAP_RATE_MEAS_CLASS n) = rateClass hz ∧
        t.g (F.SAP_RATE_MEAS_RATE_VALID n) = (if 1 ≤ (s.sap n).windows then 1 else 0) ∧
        t.rd (R.SAP_RATE_DEV n) = dev.signExtend 32 ∧ (t.sap n).windows = (s.sap n).windows + 1 ∧ (1 ≤ (s.sap n).windows →
        rateClass hz ≠ (s.sap n).lastClass ∨ (s.g (F.SAP_RATE_THR_THR n) < dev.toInt.natAbs ∧ (s.sap n).devHigh = false) →
        t.g (F.SAP_STAT_RATE_EVT n) = 1 ∧ ∃ m ∈ t.ft.blocks, m.kind = Kind.sapRate) ∧ t.g (F.SAP_STAT_SLOT_SLIP n) = 1 ∧
        (s.g (F.SAP_STAT_SLOT_SLIP n) = 0 → t.g (F.SAP_STAT_SLIP_SEEN n) = 1 ∧
        (t.rd (R.SAP_SLIP_CNT n)).toNat = min ((s.rd (R.SAP_SLIP_CNT n)).toNat + 1) (2 ^ 32 - 1) ∧ ∃ m ∈ t.ft.blocks,
        m.kind = Kind.slotSlip) ∧ (s.g (F.SAP_STAT_SLOT_SLIP n) = 1 → t.rd (R.SAP_SLIP_CNT n) = s.rd (R.SAP_SLIP_CNT n)) ∧
        (t.sap n).okWindows = 0 ∧ (t.sap n).permit = false ∧ (t.sap n).tx = [] ∧ sameMem s t) ∧
  -- SAP_RATE_WINDOW elsewhere
  (∀ (n : Fin 24) (hz : Fin 262144) (dev : BitVec 16) (s : State),
      s.sapMaster n = true ∨ (s.sapState n ≠ 2 ∧ s.sapState n ≠ 4 ∧ s.sapState n ≠ 5) →
      ∃ t, exec (.sapRateWindow n hz dev) s = .next t ∧ t = s)

/-- While the device neither is held in reset nor is dormant the counter adds its rate at each edge; in those states it
stands. A rate in its range is taken after the edges so far have been counted with the old one; another sets
CFG_REFUSED. STEP adds the signed adjustment and SET loads the set time, both modulo the counter's range, with STEPPED
set; a move above 1000 ns disqualifies a present input 4. Loss of the grandmaster clears GM_OK, sets GM_LOST, reports
it and loses input 4; where GM_OK is 0 already, or the watchdog is off, nothing is lost. A read of the time answers
sub-nanoseconds and latches the other words, from the copy; samples that do not agree keep the copy, and are marked
and reported. A write of TIME_MEDIA_OFS_HI commits both words for the next boundary. A trigger with a later target, a
known type, an argument that suits it and no twin is ARMED with it; any other is refused, and an ARMED one is left as
it is. An edge that is enabled captures MTC and PTP time where the place is empty and the edge before it is not close,
else OVF is set; a read answers, latches and empties it. Completes PTP_RATE_WRITE, PTP_STEP, PTP_SET, PTP_GM_LOSS,
PTP_TIME_READ, MEDIA_OFS_WRITE, PTP_TRIG_ARM, EVENT_CAPTURE, EVENT_CAPTURE_READ. (R461, R462, R463, R465, R466, R467) -/
def Obligations.PtpCounterRunsStepsAndIsRead : Prop :=
  -- PTP_RATE_WRITE
  (∀ (v : Word) (edges : Nat) (s : State),
      0x3FF00000 ≤ v.toNat ∧ v.toNat ≤ 0x40100000 →
      ∃ t, exec (.ptpRateWrite v edges) s = .next t ∧ t.g F.PTP_RATE_V = v.toNat ∧
        t.tm.ptp = (if s.pw.held || s.pw.dormant then s.tm.ptp else (s.tm.ptp + edges * s.g F.PTP_RATE_V) % ptpRange) ∧
        t.out = s.ok.out ∧ onlyRegs s t [R.PTP_RATE]) ∧
  -- PTP_RATE_WRITE out of range
  (∀ (v : Word) (edges : Nat) (s : State),
      v.toNat < 0x3FF00000 ∨ 0x40100000 < v.toNat →
      ∃ t, exec (.ptpRateWrite v edges) s = .next t ∧ t.g F.PTP_STAT_CFG_REFUSED = 1 ∧
        t.tm.ptp = (if s.pw.held || s.pw.dormant then s.tm.ptp else (s.tm.ptp + edges * s.g F.PTP_RATE_V) % ptpRange) ∧
        t.out = s.ok.out ∧ onlyRegs s t [R.PTP_STAT]) ∧
  -- PTP_STEP
  (∀ (edges : Nat) (s : State),
      ∃ t, exec (.ptpStep edges) s = .next t ∧
        (t.tm.ptp : Int) = ((((if s.pw.held || s.pw.dormant then s.tm.ptp else (if s.pw.held || s.pw.dormant then s.tm.ptp else (s.tm.ptp + edges * s.g F.PTP_RATE_V) % ptpRange)) : Nat) : Int) + s.ptpAdj) % (ptpRange : Int) ∧ t.g F.PTP_STAT_STEPPED = 1 ∧ (s.ptpAdj.natAbs ≤ 1000 * ptpNs → onlyRegs s t [R.PTP_STAT]) ∧ (1000 * ptpNs < s.ptpAdj.natAbs → s.g (F.CLK_REF_STAT_PRESENT 4) = 1 → t.qualified 4 = false ∧ t.g (F.CLK_REF_STAT_DQ_REASON 4) = 3) ∧ t.out = s.ok.out ∧ sameMem s t) ∧
  -- PTP_SET
  (∀ (edges : Nat) (s : State),
      ∃ t, exec (.ptpSet edges) s = .next t ∧ t.tm.ptp = s.ptpSetTime % ptpRange ∧ t.g F.PTP_STAT_STEPPED = 1 ∧
        (((s.ptpSetTime : Int) - (if s.pw.held || s.pw.dormant then s.tm.ptp else (s.tm.ptp + edges * s.g F.PTP_RATE_V) % ptpRange)).natAbs ≤ 1000 * ptpNs → onlyRegs s t [R.PTP_STAT]) ∧ (1000 * ptpNs < ((s.ptpSetTime : Int) - (if s.pw.held || s.pw.dormant then s.tm.ptp else (s.tm.ptp + edges * s.g F.PTP_RATE_V) % ptpRange)).natAbs → s.g (F.CLK_REF_STAT_PRESENT 4) = 1 → t.qualified 4 = false ∧ t.g (F.CLK_REF_STAT_DQ_REASON 4) = 3) ∧ t.out = s.ok.out ∧ sameMem s t) ∧
  -- PTP_GM_LOSS by a write
  (∀ (v : Word) (s : State),
      s.g F.PTP_CTL_GM_OK = 1 →
      ∃ t, exec (.ptpGmLoss (some v)) s = .next t ∧ t.g F.PTP_CTL_GM_OK = 0 ∧ t.g F.PTP_CTL_WDOG_MS = F.PTP_CTL_WDOG_MS.of v ∧
        t.g F.PTP_STAT_GM_LOST = 1 ∧ t.g (F.CLK_REF_STAT_PRESENT 4) = 0 ∧ t.qualified 4 = false ∧
        t.ft.blocks.any (fun m => m.kind == Kind.ptpGmLoss) = true ∧ t.out = s.ok.out ∧ sameMem s t) ∧
  -- PTP_GM_LOSS by a write without a grandmaster
  (∀ (v : Word) (s : State),
      s.g F.PTP_CTL_GM_OK = 0 →
      ∃ t, exec (.ptpGmLoss (some v)) s = .next t ∧ t.g F.PTP_CTL_GM_OK = 0 ∧ t.g F.PTP_CTL_WDOG_MS = F.PTP_CTL_WDOG_MS.of v ∧
        t.out = s.ok.out ∧ confined s t [R.PTP_CTL]) ∧
  -- PTP_GM_LOSS by the watchdog
  (∀ (s : State),
      s.g F.PTP_CTL_GM_OK = 1 ∧ s.g F.PTP_CTL_WDOG_MS ≠ 0 →
      ∃ t, exec (.ptpGmLoss none) s = .next t ∧ t.g F.PTP_CTL_GM_OK = 0 ∧ t.g F.PTP_CTL_WDOG_MS = s.g F.PTP_CTL_WDOG_MS ∧
        t.g F.PTP_STAT_GM_LOST = 1 ∧ t.g (F.CLK_REF_STAT_PRESENT 4) = 0 ∧ t.qualified 4 = false ∧ (∃ m ∈ t.ft.blocks,
        m.kind = Kind.ptpGmLoss) ∧ sameMem s t) ∧
  -- PTP_GM_LOSS by the watchdog that is off, or without a grandmaster
  (∀ (s : State),
      s.g F.PTP_CTL_GM_OK = 0 ∨ s.g F.PTP_CTL_WDOG_MS = 0 →
      ∃ t, exec (.ptpGmLoss none) s = .next t ∧ t = s) ∧
  -- PTP_TIME_READ
  (∀ (edges : Nat) (lag : Fin 17) (x : Nat) (s : State),
      x = ((if s.pw.held || s.pw.dormant then s.tm.ptp else (if s.pw.held || s.pw.dormant then s.tm.ptp else (s.tm.ptp + edges * s.g F.PTP_RATE_V) % ptpRange)) + ptpRange - lag * s.g F.PTP_RATE_V) % ptpRange →
      ∃ t, exec (.ptpTimeRead edges lag false) s = .next t ∧ t.out = s.out ++ [.resp false [BitVec.ofNat 32 (subOf x)]] ∧
        t.latched R.PTP_TIME_NS = BitVec.ofNat 32 (nsOf x) ∧ t.latched R.PTP_TIME_S_LO = BitVec.ofNat 32 (secOf x) ∧
        t.latched R.PTP_TIME_S_HI = BitVec.ofNat 32 (secOf x / 2 ^ 32) ∧ t.g F.PTP_STAT_STALE = 0 ∧ onlyRegs s t [R.PTP_STAT]) ∧
  -- PTP_TIME_READ of samples that do not agree
  (∀ (edges : Nat) (lag : Fin 17) (s : State),
      ∃ t, exec (.ptpTimeRead edges lag true) s = .next t ∧
        t.out = s.out ++ [.resp false [BitVec.ofNat 32 (subOf s.tm.ptpShown)]] ∧
        t.latched R.PTP_TIME_NS = BitVec.ofNat 32 (nsOf s.tm.ptpShown) ∧ t.tm.ptpShown = s.tm.ptpShown ∧
        t.g F.PTP_STAT_STALE = 1 ∧ t.ft.blocks = addMsg s.ft.blocks ⟨R.PTP_TIME_SUB, 1, Kind.cdcStale, Src.time⟩ ∧
        onlyRegs s t [R.PTP_STAT]) ∧
  -- MEDIA_OFS_WRITE
  (∀ (v : Word) (s : State),
      ∃ t, exec (.mediaOfsWrite v) s = .next t ∧ t.tm.mediaOfs = some (v ++ s.tm.mediaOfsLo) ∧ t.out = s.ok.out ∧
        onlyRegs s t []) ∧
  -- PTP_TRIG_ARM
  (∀ (n : Fin 8) (v : Word) (edges : Nat) (s : State),
      s.schedState true n ≠ 1 ∧
        (if s.pw.held || s.pw.dormant then s.tm.ptp else (s.tm.ptp + edges * s.g F.PTP_RATE_V) % ptpRange) < s.writtenTgt true n →
      1 ≤ bitsOf v 27 24 ∧ bitsOf v 27 24 ≤ 5 ∧ argSuits (bitsOf v 27 24) (bitsOf v 15 0) = true →
      s.schedTwice true n (bitsOf v 27 24) (bitsOf v 15 0) (s.writtenTgt true n) = false →
      ∃ t, exec (.ptpTrigArm n v edges) s = .next t ∧ t.schedState true n = 1 ∧ t.schedType true n = bitsOf v 27 24 ∧
        t.schedArg true n = bitsOf v 15 0 ∧ t.armedTgt true n = s.writtenTgt true n ∧ t.out = s.ok.out ∧
        onlyRegs s t [R.PTP_TRIG_ACT n]) ∧
  -- PTP_TRIG_ARM refused
  (∀ (n : Fin 8) (v : Word) (edges : Nat) (s : State),
      s.schedState true n ≠ 1 →
      s.writtenTgt true n ≤ (if s.pw.held || s.pw.dormant then s.tm.ptp else (s.tm.ptp + edges * s.g F.PTP_RATE_V) % ptpRange) ∨ bitsOf v 27 24 = 0 ∨ 6 ≤ bitsOf v 27 24 ∨ argSuits (bitsOf v 27 24) (bitsOf v 15 0) = false ∨ s.schedTwice true n (bitsOf v 27 24) (bitsOf v 15 0) (s.writtenTgt true n) = true →
      ∃ t, exec (.ptpTrigArm n v edges) s = .next t ∧ t.schedState true n = 3 ∧ t.g F.TICK_STAT_SCHED_REFUSED = 1 ∧
        t.tm.trigTgt = s.tm.trigTgt ∧ t.out = s.ok.out ∧ onlyRegs s t [R.PTP_TRIG_ACT n, R.TICK_STAT]) ∧
  -- PTP_TRIG_ARM of an ARMED trigger
  (∀ (n : Fin 8) (v : Word) (edges : Nat) (s : State),
      s.schedState true n = 1 →
      ∃ t, exec (.ptpTrigArm n v edges) s = .next t ∧ t.schedState true n = 1 ∧ t.armedTgt true n = s.armedTgt true n ∧
        t.g F.TICK_STAT_SCHED_REFUSED = 1 ∧ t.out = s.ok.out ∧ onlyRegs s t [R.TICK_STAT]) ∧
  -- EVENT_CAPTURE
  (∀ (i : Fin 4) (rising : Bool) (frac : Fin 256) (edges x : Nat) (s : State),
      (s.g (F.EVT_CFG_EDGE i)).testBit (if rising then 0 else 1) = true ∧ (s.rd (R.EVT_MTC_LO i)).getLsbD 31 = false →
      x = (if s.pw.held || s.pw.dormant then s.tm.ptp else (s.tm.ptp + edges * s.g F.PTP_RATE_V) % ptpRange) →
      ∃ t, exec (.eventCapture i rising false frac edges) s = .next t ∧
        t.rd (R.EVT_MTC_LO i) = BitVec.ofNat 32 (2 ^ 31 + s.tm.mtc.toNat % 2 ^ 23 * 2 ^ 8 + frac) ∧
        t.rd (R.EVT_MTC_HI i) = BitVec.ofNat 32 (s.tm.mtc.toNat / 2 ^ 23) ∧ t.rd (R.EVT_PTP_NS i) = BitVec.ofNat 32 (nsOf x) ∧
        t.rd (R.EVT_PTP_S_LO i) = BitVec.ofNat 32 (secOf x) ∧ t.rd (R.EVT_PTP_S_HI i) = BitVec.ofNat 32 (secOf x / 2 ^ 32) ∧
        onlyRegs s t [R.EVT_MTC_LO i, R.EVT_MTC_HI i, R.EVT_PTP_NS i, R.EVT_PTP_S_LO i, R.EVT_PTP_S_HI i]) ∧
  -- EVENT_CAPTURE that finds the place taken
  (∀ (i : Fin 4) (rising close : Bool) (frac : Fin 256) (edges : Nat) (s : State),
      (s.g (F.EVT_CFG_EDGE i)).testBit (if rising then 0 else 1) = true →
      close = true ∨ (s.rd (R.EVT_MTC_LO i)).getLsbD 31 = true →
      ∃ t, exec (.eventCapture i rising close frac edges) s = .next t ∧ t.g (F.EVT_CFG_OVF i) = 1 ∧
        onlyRegs s t [R.EVT_CFG i]) ∧
  -- EVENT_CAPTURE of an edge that is not enabled
  (∀ (i : Fin 4) (rising close : Bool) (frac : Fin 256) (edges : Nat) (s : State),
      (s.g (F.EVT_CFG_EDGE i)).testBit (if rising then 0 else 1) = false →
      ∃ t, exec (.eventCapture i rising close frac edges) s = .next t ∧ onlyRegs s t []) ∧
  -- EVENT_CAPTURE_READ
  (∀ (i : Fin 4) (s : State),
      ∃ t, exec (.eventCaptureRead i) s = .next t ∧ t.out = s.out ++ [.resp false [s.rd (R.EVT_MTC_LO i)]] ∧
        (t.rd (R.EVT_MTC_LO i)).getLsbD 31 = false ∧ t.latched (R.EVT_MTC_HI i) = s.rd (R.EVT_MTC_HI i) ∧
        t.latched (R.EVT_PTP_NS i) = s.rd (R.EVT_PTP_NS i) ∧ t.latched (R.EVT_PTP_S_LO i) = s.rd (R.EVT_PTP_S_LO i) ∧
        t.latched (R.EVT_PTP_S_HI i) = s.rd (R.EVT_PTP_S_HI i) ∧ onlyRegs s t [R.EVT_MTC_LO i])

/-- On an enabled port whose link is up and whose crossing is ready, a received frame shorter than 64 bytes, one with a
bad FCS, a PAUSE frame and one of another VLAN are counted and dropped; one that is too long is counted, and kept, cut
short and marked, only where that is set. A good one is counted; one for a bridge context is placed where no sample
stands, or counted as bad, of another source, late or early, and one that no context takes is stored in the buffer of
its ring's next descriptor and returned with its length, without its tag where that is set, or is counted as without a
buffer. A port that is not enabled takes none. A TAIL makes the descriptors up to it ready, or while the link is down
empties the queues. ETH_TX_FRAME takes the head of the highest queue that is not empty: a bridge packet is sent with
its FCS and counted, a frame of one descriptor is sent and counted, and its descriptor returned; a closed limiter
makes it wait and counts that once; one that is too long is counted as an error; a bridge packet is dropped while the
device does not drive. In region safe state, on a port that is not enabled, or with nothing ready, nothing is sent;
without a link the queues empty. A link that comes up is shown; one that goes down is shown with its reason, reported,
and empties the queues. A read of a time stamp answers and removes the oldest, or answers zero. Completes
ETH_RX_FRAME, ETH_TX_TAIL_WRITE, ETH_TX_FRAME, ETH_LINK_CHANGE, ETH_TXTS_READ. (R237, R447, R449, R451, R452, R454,
R455, R456, R459, R470) -/
def Obligations.EthernetPortsSendAndReceive : Prop :=
  -- ETH_RX_FRAME that is too short, or has a bad FCS
  (∀ (p : Fin 2) (bs : List Byte) (fcsOk : Bool) (edges : Nat) (s : State),
      s.g (F.ETH_CTL_EN p) = 1 ∧ s.ethUp p = true ∧ s.g (F.ETH_STAT_READY p) = 1 ∧ bs ≠ [] →
      bs.length + 4 ≤ s.ethMax p bs ∧ (64 ≤ bs.length + 4 → fcsOk = false) →
      ∃ t, exec (.ethRxFrame p bs fcsOk false edges) s = .next t ∧ (bs.length + 4 < 64 →
        (t.rd (R.ETH_RX_RUNT p)).toNat = min ((s.rd (R.ETH_RX_RUNT p)).toNat + 1) (2 ^ 32 - 1) ∧
        onlyRegs s t [R.ETH_RX_RUNT p]) ∧ (64 ≤ bs.length + 4 →
        (t.rd (R.ETH_RX_FCS p)).toNat = min ((s.rd (R.ETH_RX_FCS p)).toNat + 1) (2 ^ 32 - 1) ∧ onlyRegs s t [R.ETH_RX_FCS p])) ∧
  -- ETH_RX_FRAME of PAUSE, or of another VLAN
  (∀ (p : Fin 2) (bs : List Byte) (edges : Nat) (s : State),
      s.g (F.ETH_CTL_EN p) = 1 ∧ s.ethUp p = true ∧ s.g (F.ETH_STAT_READY p) = 1 ∧ 64 ≤ bs.length + 4 ∧
        bs.length + 4 ≤ s.ethMax p bs →
      ethType bs = 0x8808 ∨ s.vlanDrops p bs = true →
      ∃ t, exec (.ethRxFrame p bs true false edges) s = .next t ∧ (ethType bs = 0x8808 →
        (t.rd (R.ETH_RX_PAUSE p)).toNat = min ((s.rd (R.ETH_RX_PAUSE p)).toNat + 1) (2 ^ 32 - 1) ∧
        onlyRegs s t [R.ETH_RX_PAUSE p]) ∧ (ethType bs ≠ 0x8808 →
        (t.rd (R.ETH_RX_VLAN_DROP p)).toNat = min ((s.rd (R.ETH_RX_VLAN_DROP p)).toNat + 1) (2 ^ 32 - 1) ∧
        onlyRegs s t [R.ETH_RX_VLAN_DROP p])) ∧
  -- ETH_RX_FRAME that is too long and is not kept
  (∀ (p : Fin 2) (bs : List Byte) (fcsOk : Bool) (edges : Nat) (s : State),
      s.g (F.ETH_CTL_EN p) = 1 ∧ s.ethUp p = true ∧ s.g (F.ETH_STAT_READY p) = 1 ∧ s.ethMax p bs < bs.length + 4 ∧
        s.g (F.ETH_CTL_OVERSIZE_KEEP p) = 0 →
      ∃ t, exec (.ethRxFrame p bs fcsOk false edges) s = .next t ∧
        (t.rd (R.ETH_RX_OVERSIZE p)).toNat = min ((s.rd (R.ETH_RX_OVERSIZE p)).toNat + 1) (2 ^ 32 - 1) ∧
        onlyRegs s t [R.ETH_RX_OVERSIZE p]) ∧
  -- ETH_RX_FRAME that is good
  (∀ (p : Fin 2) (bs : List Byte) (edges r i size : Nat) (line : List Byte) (b : Nat) (s : State),
      s.g (F.ETH_CTL_EN p) = 1 ∧ s.ethUp p = true ∧ s.g (F.ETH_STAT_READY p) = 1 ∧ 64 ≤ bs.length + 4 ∧
        bs.length + 4 ≤ s.ethMax p bs →
      ethType bs ≠ 0x8808 ∧ s.vlanDrops p bs = false ∧ s.brMatch p bs = none →
      s.rxRing p bs = r ∧ s.g (F.ETH_RXR_HEAD_HEAD p r) = i ∧ s.g (F.ETH_RXR_CFG_SIZE p r) = size ∧ i < size →
      s.g (F.ETH_RXR_TAIL_TAIL p r) ≠ i ∧ s.g (F.ETH_RXR_TAIL_TAIL p r) < size →
      (16 * s.g (F.ETH_RXR_BASE_BASE p r) + 16 * i) + 16 ≤ 0x100000 ∧ s.freeBus ∧ s.mx.ecc = [] →
      line = (if (s.on (F.ETH_CTL_TAG_STRIP p) && ethTagged bs) then bs.take 12 ++ bs.drop 16 else bs) ∧
        line.length ≤ s.g (F.ETH_RXR_CFG_BUFSZ p r) →
      b = (s.word (16 * s.g (F.ETH_RXR_BASE_BASE p r) + 16 * i)).toNat - (s.word (16 * s.g (F.ETH_RXR_BASE_BASE p r) + 16 * i)).toNat % 64 ∧ b + line.length ≤ 0x100000 ∧ (b + line.length ≤ (16 * s.g (F.ETH_RXR_BASE_BASE p r) + 16 * i) ∨ (16 * s.g (F.ETH_RXR_BASE_BASE p r) + 16 * i) + 16 ≤ b) →
      ∃ t, exec (.ethRxFrame p bs true false edges) s = .next t ∧
        (t.rd (R.ETH_RX_GOOD p)).toNat = min ((s.rd (R.ETH_RX_GOOD p)).toNat + 1) (2 ^ 32 - 1) ∧
        t.g (F.ETH_RXR_HEAD_HEAD p r) = (i + 1) % size ∧
        t.word ((16 * s.g (F.ETH_RXR_BASE_BASE p r) + 16 * i) + 4) = BitVec.ofNat 32 (2 ^ 30 + 2 ^ 29 + 2 ^ 28 + (if (s.on (F.ETH_CTL_TAG_STRIP p) && ethTagged bs) then 2 ^ 25 + ethPcp bs * 2 ^ 22 else 0) + line.length) ∧ (∀ j : Fin 9022, j < line.length → t.byte (b + j) = line.getD j 0) ∧ t.rd (R.ETH_RX_NOBUF p) = s.rd (R.ETH_RX_NOBUF p)) ∧
  -- ETH_RX_FRAME that is too long and is kept
  (∀ (p : Fin 2) (bs : List Byte) (edges r i size : Nat) (line : List Byte) (b : Nat) (s : State),
      s.g (F.ETH_CTL_EN p) = 1 ∧ s.ethUp p = true ∧ s.g (F.ETH_STAT_READY p) = 1 ∧ s.ethMax p bs < bs.length + 4 ∧
        s.g (F.ETH_CTL_OVERSIZE_KEEP p) = 1 →
      s.rxRing p (bs.take (s.ethMax p bs - 4)) = r ∧ s.g (F.ETH_RXR_HEAD_HEAD p r) = i ∧ s.g (F.ETH_RXR_CFG_SIZE p r) = size ∧
        i < size →
      s.g (F.ETH_RXR_TAIL_TAIL p r) ≠ i ∧ s.g (F.ETH_RXR_TAIL_TAIL p r) < size →
      (16 * s.g (F.ETH_RXR_BASE_BASE p r) + 16 * i) + 16 ≤ 0x100000 ∧ s.freeBus ∧ s.mx.ecc = [] →
      line = (if (s.on (F.ETH_CTL_TAG_STRIP p) && ethTagged bs) then bs.take 12 ++ (bs.take (s.ethMax p bs - 4)).drop 16 else bs.take (s.ethMax p bs - 4)) ∧ line.length ≤ s.g (F.ETH_RXR_CFG_BUFSZ p r) →
      b = (s.word (16 * s.g (F.ETH_RXR_BASE_BASE p r) + 16 * i)).toNat - (s.word (16 * s.g (F.ETH_RXR_BASE_BASE p r) + 16 * i)).toNat % 64 ∧ b + line.length ≤ 0x100000 ∧ (b + line.length ≤ (16 * s.g (F.ETH_RXR_BASE_BASE p r) + 16 * i) ∨ (16 * s.g (F.ETH_RXR_BASE_BASE p r) + 16 * i) + 16 ≤ b) →
      ∃ t, exec (.ethRxFrame p bs true false edges) s = .next t ∧
        (t.rd (R.ETH_RX_OVERSIZE p)).toNat = min ((s.rd (R.ETH_RX_OVERSIZE p)).toNat + 1) (2 ^ 32 - 1) ∧
        t.g (F.ETH_RXR_HEAD_HEAD p r) = (i + 1) % size ∧
        t.word ((16 * s.g (F.ETH_RXR_BASE_BASE p r) + 16 * i) + 4) = BitVec.ofNat 32 (2 ^ 30 + 2 ^ 29 + 2 ^ 26 + (if (s.on (F.ETH_CTL_TAG_STRIP p) && ethTagged bs) then 2 ^ 25 + ethPcp bs * 2 ^ 22 else 0) + line.length) ∧ (∀ j : Fin 9022, j < line.length → t.byte (b + j) = line.getD j 0) ∧ t.rd (R.ETH_RX_GOOD p) = s.rd (R.ETH_RX_GOOD p)) ∧
  -- ETH_RX_FRAME that is good and finds no descriptor
  (∀ (p : Fin 2) (bs : List Byte) (edges r : Nat) (s : State),
      s.g (F.ETH_CTL_EN p) = 1 ∧ s.ethUp p = true ∧ s.g (F.ETH_STAT_READY p) = 1 ∧ 64 ≤ bs.length + 4 ∧
        bs.length + 4 ≤ s.ethMax p bs →
      ethType bs ≠ 0x8808 ∧ s.vlanDrops p bs = false ∧ s.brMatch p bs = none →
      s.rxRing p bs = r ∧ (s.g (F.ETH_RXR_CFG_SIZE p r) = 0 ∨ s.g (F.ETH_RXR_HEAD_HEAD p r) = s.g (F.ETH_RXR_TAIL_TAIL p r)) →
      ∃ t, exec (.ethRxFrame p bs true false edges) s = .next t ∧
        (t.rd (R.ETH_RX_GOOD p)).toNat = min ((s.rd (R.ETH_RX_GOOD p)).toNat + 1) (2 ^ 32 - 1) ∧
        (t.rd (R.ETH_RX_NOBUF p)).toNat = min ((s.rd (R.ETH_RX_NOBUF p)).toNat + 1) (2 ^ 32 - 1) ∧
        onlyRegs s t [R.ETH_RX_GOOD p, R.ETH_RX_NOBUF p]) ∧
  -- ETH_RX_FRAME for a bridge context that fails its check, or from another source
  (∀ (p : Fin 2) (bs : List Byte) (edges f : Nat) (s : State),
      s.g (F.ETH_CTL_EN p) = 1 ∧ s.ethUp p = true ∧ s.g (F.ETH_STAT_READY p) = 1 ∧ 64 ≤ bs.length + 4 ∧
        bs.length + 4 ≤ s.ethMax p bs →
      ethType bs ≠ 0x8808 ∧ s.vlanDrops p bs = false ∧ s.brMatch p bs = some f ∧ s.regionSafe 5 = false →
      (s.brCheck (s.ctx f) (ethBody bs)).all (fun x => (SMap.find s.br.ssrc f).any (fun y => y != BitVec.ofNat 32 (beAt x.1 8 4))) = true →
      ∃ t, exec (.ethRxFrame p bs true false edges) s = .next t ∧
        (t.rd (R.ETH_RX_GOOD p)).toNat = min ((s.rd (R.ETH_RX_GOOD p)).toNat + 1) (2 ^ 32 - 1) ∧
        ((s.brCheck (s.ctx f) (ethBody bs)).isNone = true →
        (t.rd (R.ETH_BR_RX_BAD (s.ctx f).port)).toNat = min ((s.rd (R.ETH_BR_RX_BAD (s.ctx f).port)).toNat + 1) (2 ^ 32 - 1) ∧
        onlyRegs s t [R.ETH_RX_GOOD p, R.ETH_BR_RX_BAD (s.ctx f).port]) ∧ ((s.brCheck (s.ctx f) (ethBody bs)).isSome = true →
        (t.rd (R.ETH_BR_RX_SSRC (s.ctx f).port)).toNat = min ((s.rd (R.ETH_BR_RX_SSRC (s.ctx f).port)).toNat + 1) (2 ^ 32 - 1) ∧ onlyRegs s t [R.ETH_RX_GOOD p, R.ETH_BR_RX_SSRC (s.ctx f).port])) ∧
  -- ETH_RX_FRAME that the port does not take
  (∀ (p : Fin 2) (bs : List Byte) (fcsOk cut : Bool) (edges : Nat) (s : State),
      s.g (F.ETH_CTL_EN p) = 0 ∨ bs = [] ∨ (cut = false ∧ (s.ethUp p = false ∨ s.g (F.ETH_STAT_READY p) = 0)) →
      ∃ t, exec (.ethRxFrame p bs fcsOk cut edges) s = .next t ∧ t.out = s.out ∧ t.et = s.et ∧ t.br = s.br ∧ onlyRegs s t []) ∧
  -- ETH_RX_FRAME for a bridge context
  (∀ (p : Fin 2) (bs : List Byte) (edges f : Nat) (x : List Byte × List Byte) (s0 : Int) (s : State),
      s.g (F.ETH_CTL_EN p) = 1 ∧ s.ethUp p = true ∧ s.g (F.ETH_STAT_READY p) = 1 ∧ 64 ≤ bs.length + 4 ∧
        bs.length + 4 ≤ s.ethMax p bs →
      ethType bs ≠ 0x8808 ∧ s.vlanDrops p bs = false ∧ s.brMatch p bs = some f ∧ s.regionSafe 5 = false ∧
        s.g F.TICK_STAT_RUNNING = 1 →
      s.brCheck (s.ctx f) (ethBody bs) = some x ∧
        (SMap.find s.br.ssrc f).all (fun y => y == BitVec.ofNat 32 (beAt x.1 8 4)) = true →
      s0 = s.mtcOf s.tick + signed 32 (((beAt x.1 4 4 : Int) - (s.ctx f).ofs.toNat - s.rd64 R.TIME_MEDIA_OFS_LO R.TIME_MEDIA_OFS_HI - s.mtcOf s.tick) % 2 ^ 32).toNat →
      s.brP (s.ctx f) ≤ (s.ctx f).depth →
      ∃ t, exec (.ethRxFrame p bs true false edges) s = .next t ∧
        (t.rd (R.ETH_RX_GOOD p)).toNat = min ((s.rd (R.ETH_RX_GOOD p)).toNat + 1) (2 ^ 32 - 1) ∧
        (s0 + (s.ctx f).link < ((s.mtcOf s.tick : Int) + s.nSamp) →
        (t.rd (R.ETH_BR_RX_LATE (s.ctx f).port)).toNat = min ((s.rd (R.ETH_BR_RX_LATE (s.ctx f).port)).toNat + 1) (2 ^ 32 - 1) ∧ onlyRegs s t [R.ETH_RX_GOOD p, R.ETH_BR_RX_LATE (s.ctx f).port]) ∧
        (¬(s0 + (s.ctx f).link < ((s.mtcOf s.tick : Int) + s.nSamp)) →
          ((s.mtcOf s.tick : Int) + s.nSamp) + (s.ctx f).depth ≤ s0 + s.brP (s.ctx f) - 1 + (s.ctx f).link →
          (t.rd (R.ETH_BR_RX_EARLY (s.ctx f).port)).toNat = min ((s.rd (R.ETH_BR_RX_EARLY (s.ctx f).port)).toNat + 1) (2 ^ 32 - 1) ∧ onlyRegs s t [R.ETH_RX_GOOD p, R.ETH_BR_RX_EARLY (s.ctx f).port]) ∧
        (¬(s0 + (s.ctx f).link < ((s.mtcOf s.tick : Int) + s.nSamp)) →
          ¬(((s.mtcOf s.tick : Int) + s.nSamp) + (s.ctx f).depth ≤ s0 + s.brP (s.ctx f) - 1 + (s.ctx f).link) →
          SMap.find t.br.ssrc f = some (BitVec.ofNat 32 (beAt x.1 8 4)) ∧
        (∀ i : Fin 192, ∀ ch : Fin 256, i < s.brP (s.ctx f) → ch < (s.ctx f).ch →
          SMap.get noneB t.fb.pres ((s.ctx f).buf + ch * (s.ctx f).depth + ((s0 + (i : Nat)) % ((s.ctx f).depth : Int)).toNat) = true ∧
        SMap.get zeroW t.fb.rbuf ((s.ctx f).buf + ch * (s.ctx f).depth + ((s0 + (i : Nat)) % ((s.ctx f).depth : Int)).toNat) = (if SMap.get noneB s.fb.pres ((s.ctx f).buf + ch * (s.ctx f).depth + ((s0 + (i : Nat)) % ((s.ctx f).depth : Int)).toNat) then SMap.get zeroW s.fb.rbuf ((s.ctx f).buf + ch * (s.ctx f).depth + ((s0 + (i : Nat)) % ((s.ctx f).depth : Int)).toNat) else (s.ctx f).sample x.2 i ch)) ∧ onlyRegs s t [R.ETH_RX_GOOD p])) ∧
  -- ETH_RX_FRAME for a bridge context in region safe state
  (∀ (p : Fin 2) (bs : List Byte) (edges : Nat) (s : State),
      s.g (F.ETH_CTL_EN p) = 1 ∧ s.ethUp p = true ∧ s.g (F.ETH_STAT_READY p) = 1 ∧ 64 ≤ bs.length + 4 ∧
        bs.length + 4 ≤ s.ethMax p bs →
      ethType bs ≠ 0x8808 ∧ s.vlanDrops p bs = false ∧ (s.brMatch p bs).isSome = true ∧ s.regionSafe 5 = true →
      ∃ t, exec (.ethRxFrame p bs true false edges) s = .next t ∧
        (t.rd (R.ETH_RX_GOOD p)).toNat = min ((s.rd (R.ETH_RX_GOOD p)).toNat + 1) (2 ^ 32 - 1) ∧ t.br = s.br ∧ t.fb = s.fb ∧
        onlyRegs s t [R.ETH_RX_GOOD p]) ∧
  -- ETH_TX_TAIL_WRITE while the link is up
  (∀ (p : Fin 2) (q : Fin 8) (v : Word) (s : State),
      s.ethUp p = true →
      ∃ t, exec (.ethTxTailWrite p q v) s = .next t ∧ t.g (F.ETH_TXQ_TAIL_TAIL p q) = (F.ETH_TXQ_TAIL_TAIL p q).of v ∧
        t.ethQueue p q = s.ethQueue p q ++ [.desc ((F.ETH_TXQ_TAIL_TAIL p q).of v)] ∧ t.out = s.ok.out ∧
        onlyRegs s t [R.ETH_TXQ_TAIL p q]) ∧
  -- ETH_TX_TAIL_WRITE while the link is down
  (∀ (p : Fin 2) (q : Fin 8) (v : Word) (s : State),
      s.ethUp p = false →
      ∃ t, exec (.ethTxTailWrite p q v) s = .next t ∧ t.g (F.ETH_TXQ_TAIL_TAIL p q) = (F.ETH_TXQ_TAIL_TAIL p q).of v ∧
        (t.eth p).txq = []) ∧
  -- ETH_TX_FRAME of a bridge packet
  (∀ (p : Fin 2) (q : Fin 8) (ns edges tick : Nat) (b : List Byte) (rest : List TxReady) (s : State),
      s.g (F.ETH_CTL_EN p) = 1 ∧ s.ethUp p = true ∧ s.regionSafe 5 = false ∧ s.pw.owned = false ∧ s.mayDrive = true →
      (∀ k : Fin 8, q < k → s.ethQueue p k = [] ∧ s.waitingQueue p ≠ some k.val) ∧
        (s.waitingQueue p).all (fun k => k == q.val) = true →
      s.ethQueue p q = .pkt tick b :: rest ∧ (s.macBuild p q false b).length + 4 ≤ s.ethMax p (s.macBuild p q false b) →
      ∃ t, exec (.ethTxFrame p ns edges) s = .next t ∧ (((s.ptpRun edges).limRefill p ns).limOpen p = true →
        t.out = s.out ++ [.eth p q (s.macBuild p q false b ++ leBytes 4 (crcBytes (s.macBuild p q false b)).toNat)] ∧
        t.ethQueue p q = rest ∧ (t.rd (R.ETH_TX_GOOD p)).toNat = min ((s.rd (R.ETH_TX_GOOD p)).toNat + 1) (2 ^ 32 - 1) ∧
        (t.rd (R.ETH_BR_TX p)).toNat = min ((s.rd (R.ETH_BR_TX p)).toNat + 1) (2 ^ 32 - 1) ∧ t.waitingQueue p = none ∧
        onlyRegs s t [R.ETH_TX_GOOD p, R.ETH_BR_TX p]) ∧ (((s.ptpRun edges).limRefill p ns).limOpen p = false → t.out = s.out ∧
        t.ethQueue p q = s.ethQueue p q ∧
        (t.rd (R.LEVEE_ETH_WAIT p)).toNat = (if (s.waitingQueue p).isSome then (s.rd (R.LEVEE_ETH_WAIT p)).toNat else min ((s.rd (R.LEVEE_ETH_WAIT p)).toNat + 1) (2 ^ 32 - 1)) ∧ t.waitingQueue p = some q.val ∧ ((s.waitingQueue p).isNone = true → t.g F.LEVEE_STAT_ETH_WAIT = 1) ∧ onlyRegs s t [R.LEVEE_ETH_WAIT p, R.LEVEE_STAT])) ∧
  -- ETH_TX_FRAME of a bridge packet that may not leave
  (∀ (p : Fin 2) (q : Fin 8) (ns edges tick : Nat) (b : List Byte) (rest : List TxReady) (s : State),
      s.g (F.ETH_CTL_EN p) = 1 ∧ s.ethUp p = true ∧ s.regionSafe 5 = false ∧ s.pw.owned = false →
      (∀ k : Fin 8, q < k → s.ethQueue p k = [] ∧ s.waitingQueue p ≠ some k.val) ∧
        (s.waitingQueue p).all (fun k => k == q.val) = true →
      s.ethQueue p q = .pkt tick b :: rest ∧
        (s.mayDrive = false ∨ s.ethMax p (s.macBuild p q false b) < (s.macBuild p q false b).length + 4) →
      ∃ t, exec (.ethTxFrame p ns edges) s = .next t ∧ t.out = s.out ∧ t.ethQueue p q = rest ∧ (s.mayDrive = false →
        (t.rd (R.ETH_BR_TX_DROP p)).toNat = min ((s.rd (R.ETH_BR_TX_DROP p)).toNat + 1) (2 ^ 32 - 1) ∧
        onlyRegs s t [R.ETH_BR_TX_DROP p]) ∧ (s.mayDrive = true →
        (t.rd (R.ETH_TX_ERR p)).toNat = min ((s.rd (R.ETH_TX_ERR p)).toNat + 1) (2 ^ 32 - 1) ∧ onlyRegs s t [R.ETH_TX_ERR p])) ∧
  -- ETH_TX_FRAME of one descriptor
  (∀ (p : Fin 2) (q : Fin 8) (ns edges i size : Nat) (w1 : Word) (fr : List Byte) (s : State),
      s.g (F.ETH_CTL_EN p) = 1 ∧ s.ethUp p = true ∧ s.regionSafe 5 = false ∧ s.pw.owned = false ∧ s.freeBus ∧ s.mx.ecc = [] →
      (∀ k : Fin 8, q < k → s.ethQueue p k = [] ∧ s.waitingQueue p ≠ some k.val) ∧
        (s.waitingQueue p).all (fun k => k == q.val) = true →
      s.g (F.ETH_TXQ_HEAD_HEAD p q) = i ∧ s.g (F.ETH_TXQ_SIZE_SIZE p q) = size ∧ i < size ∧
        s.ethQueue p q = [.desc ((i + 1) % size)] ∧ 2 ≤ size →
      (16 * s.g (F.ETH_TXQ_BASE_BASE p q) + 16 * i) + 16 ≤ 0x100000 ∧
        (s.word (16 * s.g (F.ETH_TXQ_BASE_BASE p q) + 16 * i)).toNat + bitsOf w1 15 0 + 4 ≤ 0x100000 →
      s.word ((16 * s.g (F.ETH_TXQ_BASE_BASE p q) + 16 * i) + 4) = w1 ∧ w1.getLsbD 30 = true ∧ w1.getLsbD 29 = true →
      fr = s.macBuild p q (w1.getLsbD 28) ((List.range (bitsOf w1 15 0)).map (fun j => s.byte ((s.word (16 * s.g (F.ETH_TXQ_BASE_BASE p q) + 16 * i)).toNat + j))) →
      fr.length + 4 ≤ s.ethMax p fr →
      ∃ t, exec (.ethTxFrame p ns edges) s = .next t ∧ (((s.ptpRun edges).limRefill p ns).limOpen p = true →
        t.out = s.out ++ [.eth p q (fr ++ leBytes 4 (crcBytes fr).toNat)] ∧ t.g (F.ETH_TXQ_HEAD_HEAD p q) = (i + 1) % size ∧
        t.word ((16 * s.g (F.ETH_TXQ_BASE_BASE p q) + 16 * i) + 4) = putBits w1 31 31 0 ∧
        t.word ((16 * s.g (F.ETH_TXQ_BASE_BASE p q) + 16 * i) + 12) = 0x80000000#32 ∧
        (t.rd (R.ETH_TX_GOOD p)).toNat = min ((s.rd (R.ETH_TX_GOOD p)).toNat + 1) (2 ^ 32 - 1) ∧ (w1.getLsbD 27 = true →
        (s.eth p).txts.length < 8 →
        (t.eth p).txts.map (fun x => x.1) = (s.eth p).txts.map (fun x => x.1) ++ [bitsOf w1 23 16])) ∧
        (((s.ptpRun edges).limRefill p ns).limOpen p = false → t.out = s.out ∧ t.g (F.ETH_TXQ_HEAD_HEAD p q) = i ∧
        (t.rd (R.LEVEE_ETH_WAIT p)).toNat = (if (s.waitingQueue p).isSome then (s.rd (R.LEVEE_ETH_WAIT p)).toNat else min ((s.rd (R.LEVEE_ETH_WAIT p)).toNat + 1) (2 ^ 32 - 1)) ∧ t.waitingQueue p = some q.val ∧ ((s.waitingQueue p).isNone = true → t.g F.LEVEE_STAT_ETH_WAIT = 1) ∧ onlyRegs s t [R.LEVEE_ETH_WAIT p, R.LEVEE_STAT])) ∧
  -- ETH_TX_FRAME of one descriptor that is too long
  (∀ (p : Fin 2) (q : Fin 8) (ns edges i size : Nat) (w1 : Word) (fr : List Byte) (s : State),
      s.g (F.ETH_CTL_EN p) = 1 ∧ s.ethUp p = true ∧ s.regionSafe 5 = false ∧ s.pw.owned = false ∧ s.freeBus ∧ s.mx.ecc = [] →
      (∀ k : Fin 8, q < k → s.ethQueue p k = [] ∧ s.waitingQueue p ≠ some k.val) ∧
        (s.waitingQueue p).all (fun k => k == q.val) = true →
      s.g (F.ETH_TXQ_HEAD_HEAD p q) = i ∧ s.g (F.ETH_TXQ_SIZE_SIZE p q) = size ∧ i < size ∧
        s.ethQueue p q = [.desc ((i + 1) % size)] ∧ 2 ≤ size →
      (16 * s.g (F.ETH_TXQ_BASE_BASE p q) + 16 * i) + 16 ≤ 0x100000 ∧
        (s.word (16 * s.g (F.ETH_TXQ_BASE_BASE p q) + 16 * i)).toNat + bitsOf w1 15 0 + 4 ≤ 0x100000 →
      s.word ((16 * s.g (F.ETH_TXQ_BASE_BASE p q) + 16 * i) + 4) = w1 ∧ w1.getLsbD 30 = true ∧ w1.getLsbD 29 = true →
      fr = s.macBuild p q (w1.getLsbD 28) ((List.range (bitsOf w1 15 0)).map (fun j => s.byte ((s.word (16 * s.g (F.ETH_TXQ_BASE_BASE p q) + 16 * i)).toNat + j))) →
      s.ethMax p fr < fr.length + 4 →
      ∃ t, exec (.ethTxFrame p ns edges) s = .next t ∧ t.out = s.out ∧ t.g (F.ETH_TXQ_HEAD_HEAD p q) = (i + 1) % size ∧
        t.word ((16 * s.g (F.ETH_TXQ_BASE_BASE p q) + 16 * i) + 4) = putBits w1 31 31 0 ∧
        t.word ((16 * s.g (F.ETH_TXQ_BASE_BASE p q) + 16 * i) + 12) = 0x80000001#32 ∧
        (t.rd (R.ETH_TX_ERR p)).toNat = min ((s.rd (R.ETH_TX_ERR p)).toNat + 1) (2 ^ 32 - 1)) ∧
  -- ETH_TX_FRAME with nothing to send
  (∀ (p : Fin 2) (ns edges : Nat) (s : State),
      s.regionSafe 5 = true ∨ s.g (F.ETH_CTL_EN p) = 0 ∨ (s.ethUp p = true ∧ ∀ k : Fin 8, s.ethQueue p k = []) →
      s.waitingQueue p = none →
      ∃ t, exec (.ethTxFrame p ns edges) s = .next t ∧ t.out = s.out ∧ (t.eth p).txq = (s.eth p).txq ∧ onlyRegs s t []) ∧
  -- ETH_TX_FRAME without a link
  (∀ (p : Fin 2) (ns edges : Nat) (s : State),
      s.regionSafe 5 = false ∧ s.g (F.ETH_CTL_EN p) = 1 ∧ s.ethUp p = false →
      ∃ t, exec (.ethTxFrame p ns edges) s = .next t ∧ (t.eth p).txq = [] ∧ t.waitingQueue p = none) ∧
  -- ETH_LINK_CHANGE to up
  (∀ (p : Fin 2) (reason : Fin 4) (s : State),
      s.ethUp p = false ∧ s.g (F.ETH_CTL_EN p) = 1 →
      ∃ t, exec (.ethLinkChange p true reason) s = .next t ∧ t.ethUp p = true ∧ t.g (F.ETH_STAT_LINK_CHG p) = 1 ∧
        t.g (F.ETH_STAT_LINK_REASON p) = 0 ∧ confined s t [R.ETH_STAT p]) ∧
  -- ETH_LINK_CHANGE to down
  (∀ (p : Fin 2) (reason : Fin 4) (s : State),
      s.ethUp p = true →
      ∃ t, exec (.ethLinkChange p false reason) s = .next t ∧ t.ethUp p = false ∧ t.g (F.ETH_STAT_LINK_CHG p) = 1 ∧
        t.g (F.ETH_STAT_LINK_REASON p) = reason.val ∧ (t.eth p).txq = [] ∧
        t.ft.blocks.any (fun m => m.kind == Kind.ethLinkDown) = true) ∧
  -- ETH_LINK_CHANGE that changes nothing
  (∀ (p : Fin 2) (up : Bool) (reason : Fin 4) (s : State),
      s.ethUp p = up ∨ (up = true ∧ s.g (F.ETH_CTL_EN p) = 0) →
      ∃ t, exec (.ethLinkChange p up reason) s = .next t ∧ t.ethUp p = s.ethUp p ∧
        t.g (F.ETH_STAT_LINK_REASON p) = (if up then 0 else reason.val) ∧ confined s t [R.ETH_STAT p]) ∧
  -- ETH_TXTS_READ
  (∀ (p : Fin 2) (tag ns sec : Nat) (rest : List (Nat × Nat × Nat)) (s : State),
      (s.eth p).txts = (tag, ns, sec) :: rest →
      ∃ t, exec (.ethTxtsRead p) s = .next t ∧ t.out = s.out ++ [.resp false [BitVec.ofNat 32 (2 ^ 31 + tag)]] ∧
        t.latched (R.ETH_TXTS_NS p) = BitVec.ofNat 32 ns ∧ t.latched (R.ETH_TXTS_S p) = BitVec.ofNat 32 sec ∧
        (t.eth p).txts = rest ∧ onlyRegs s t []) ∧
  -- ETH_TXTS_READ of an empty queue
  (∀ (p : Fin 2) (s : State),
      (s.eth p).txts = [] →
      ∃ t, exec (.ethTxtsRead p) s = .next t ∧ t.out = s.out ++ [.resp false [0]] ∧ t.latch = s.latch ∧ confined s t [])

/-- Enabling a ring of a permitted size empties it, with phase 1 where it has one; an enabled ring keeps its entries. A
size that is not permitted, or a change of size or vector of an enabled ring, is refused with CFG_REFUSED. Disabling a
ring clears EN, and every waiting descriptor of a submission ring of this device is marked aborted. A doorbell at the
manager with its link up writes the index it names: TAIL of an enabled submission ring with room, HEAD or RD of an
enabled ring of this device; HEAD or RD of another device goes there in a message. A ring that is not enabled, a TAIL
past the room, an index past the ring or not at a multiple of 16, or an offset that is not listed sets DB_ERR with the
page and offset. At a worker, or without a link, a doorbell does nothing. During a restart of the control core a
doorbell is held; when it ends, the held ones act in order of arrival. DESCRIPTOR_FETCH takes as many descriptors as
stand in the ring and advances HEAD: those of set 0 go to the engine; one of another device goes there in a message,
or counts FWD_DROP where its tunnel is off. Where the ring or the link is off nothing is fetched. Completes
RING_ENABLE, RING_DISABLE, SQ_TAIL, CQ_HEAD, EQ_HEAD, CAP_RD, DESCRIPTOR_FETCH, CONTROL_CORE_RESTART_END. (R484, R485,
R486, R489, R27) -/
def Obligations.RingsAndDoorbells : Prop :=
  -- RING_ENABLE
  (∀ (x : RingSel) (v : Word) (s : State),
      (s.rd (ringCfg x)).getLsbD 31 = false ∧ s.ringFits v x = true →
      ∃ t, exec (.ringEnable x v) s = .next t ∧ (t.rd (ringCfg x)).getLsbD 31 = true ∧ t.ringEmpty 1 x = true ∧
        t.out = s.ok.out ∧ sameMem s t) ∧
  -- RING_ENABLE of an enabled ring
  (∀ (x : RingSel) (v : Word) (s : State),
      (s.rd (ringCfg x)).getLsbD 31 = true ∧ s.ringFits v x = true ∧ s.ringSame v x = true →
      ∃ t, exec (.ringEnable x v) s = .next t ∧ (t.rd (ringCfg x)).getLsbD 31 = true ∧ t.hs = s.hs ∧ t.out = s.ok.out ∧
        onlyRegs s t [ringCfg x]) ∧
  -- RING_ENABLE refused
  (∀ (x : RingSel) (v : Word) (s : State),
      s.ringFits v x = false ∨ ((s.rd (ringCfg x)).getLsbD 31 = true ∧ s.ringSame v x = false) →
      ∃ t, exec (.ringEnable x v) s = .next t ∧ t.g F.HOST_STAT_CFG_REFUSED = 1 ∧ t.out = s.ok.out ∧
        confined s t [R.HOST_STAT]) ∧
  -- RING_DISABLE
  (∀ (x : RingSel) (v : Word) (s : State),
      (s.rd (ringCfg x)).getLsbD 31 = true ∧ s.ringSame v x = true ∧ (s.ringFits v x = true ∨ ∃ c : Fin 8, x = .cap c) →
      ∃ t, exec (.ringDisable x v) s = .next t ∧ (t.rd (ringCfg x)).getLsbD 31 = false ∧ sameMem s t) ∧
  -- RING_DISABLE refused
  (∀ (x : RingSel) (v : Word) (s : State),
      ¬(s.ringFits v x = true ∨ ∃ c : Fin 8, x = .cap c) ∨ ((s.rd (ringCfg x)).getLsbD 31 = true ∧ s.ringSame v x = false) →
      ∃ t, exec (.ringDisable x v) s = .next t ∧ t.g F.HOST_STAT_CFG_REFUSED = 1 ∧ t.out = s.ok.out ∧
        confined s t [R.HOST_STAT]) ∧
  -- RING_DISABLE of a ring that is off, or of no submission ring of this device
  (∀ (x : RingSel) (v : Word) (s : State),
      (s.ringFits v x = true ∨ ∃ c : Fin 8, x = .cap c) ∧ ((s.rd (ringCfg x)).getLsbD 31 = true → s.ringSame v x = true) →
      ((s.rd (ringCfg x)).getLsbD 31 = false ∨ ∀ (d : Fin 64) (r : Fin 4), x = .sq d r → d.val ≠ s.myId) →
      ∃ t, exec (.ringDisable x v) s = .next t ∧ (t.rd (ringCfg x)).getLsbD 31 = false ∧ t.out = s.ok.out ∧
        confined s t [ringCfg x]) ∧
  -- RING_DISABLE of a submission ring of this device
  (∀ (d : Fin 64) (r : Fin 4) (v : Word) (s : State),
      s.g (F.HOST_SQ_CFG_EN d r) = 1 ∧ s.ringSame v (.sq d r) = true ∧ s.ringFits v (.sq d r) = true ∧ d.val = s.myId →
      ∃ t, exec (.ringDisable (.sq d r) v) s = .next t ∧ t.hs.ready.all (fun e => e.ring != r.val || e.aborted) = true ∧
        t.hs.ready.filter (fun e => e.ring != r.val && !e.aborted) = s.hs.ready.filter (fun e => e.ring != r.val && !e.aborted) ∧ (s.hs.ready.all (fun e => e.ring != r.val) = true → s.hs.ready.all (fun e => !e.aborted) = true → t.hs.ready = s.hs.ready)) ∧
  -- SQ_TAIL
  (∀ (d : Fin 64) (r : Fin 4) (v : Word) (n : Nat) (s : State),
      s.manager = true ∧ s.g F.HOST_STAT_LINK_UP = 1 ∧ s.ft.coreDown = false ∧ s.g (F.HOST_SQ_CFG_EN d r) = 1 →
      n = s.g (F.HOST_SQ_CFG_SIZE d r) ∧ v.toNat < n ∧
        (v.toNat + n - s.g (F.HOST_SQ_TAIL_TAIL d r)) % n ≤ (s.g (F.HOST_SQ_HEAD_HEAD d r) + 2 * n - s.g (F.HOST_SQ_TAIL_TAIL d r) - 1) % n →
      ∃ t, exec (.sqTail d r v) s = .next t ∧ t.rd (R.HOST_SQ_TAIL d r) = v ∧ t.out = s.out ∧
        onlyRegs s t [R.HOST_SQ_TAIL d r]) ∧
  -- SQ_TAIL refused
  (∀ (d : Fin 64) (r : Fin 4) (v : Word) (n : Nat) (s : State),
      s.manager = true ∧ s.g F.HOST_STAT_LINK_UP = 1 ∧ s.ft.coreDown = false →
      n = s.g (F.HOST_SQ_CFG_SIZE d r) ∧
        (s.g (F.HOST_SQ_CFG_EN d r) = 0 ∨ n ≤ v.toNat ∨ (s.g (F.HOST_SQ_HEAD_HEAD d r) + 2 * n - s.g (F.HOST_SQ_TAIL_TAIL d r) - 1) % max 1 n < (v.toNat + n - s.g (F.HOST_SQ_TAIL_TAIL d r)) % max 1 n) →
      ∃ t, exec (.sqTail d r v) s = .next t ∧ t.g F.HOST_STAT_DB_ERR = 1 ∧ t.g F.HOST_DB_ERR_PAGE = d.val ∧
        t.g F.HOST_DB_ERR_OFFSET = 4 * r.val ∧ t.out = s.out ∧ confined s t [R.HOST_STAT, R.HOST_DB_ERR]) ∧
  -- Doorbells at a worker, or without a link
  (∀ (d : Fin 64) (r : Fin 4) (o : Fin 1024) (v : Word) (s : State),
      s.manager = false ∨ s.g F.HOST_STAT_LINK_UP = 0 →
      exec (.sqTail d r v) s = .next s ∧ exec (.cqHead d v) s = .next s ∧ exec (.eqHead d v) s = .next s ∧
        exec (.capRd d o v) s = .next s) ∧
  -- CAP_RD at the offsets of the other doorbells
  (∀ (d : Fin 64) (r : Fin 4) (v : Word) (s : State),
      exec (.capRd d ⟨r, by omega⟩ v) s = exec (.sqTail d r v) s ∧ exec (.capRd d 4 v) s = exec (.cqHead d v) s ∧
        exec (.capRd d 5 v) s = exec (.eqHead d v) s) ∧
  -- SQ_TAIL, CQ_HEAD, EQ_HEAD and CAP_RD during a restart of the control core (sqTail)
  (∀ (d : Fin 64) (r : Fin 4) (v : Word) (s : State),
      s.manager = true ∧ s.g F.HOST_STAT_LINK_UP = 1 ∧ s.ft.coreDown = true →
      ∃ t, exec (.sqTail d r v) s = .next t ∧ t.hs.bells = s.hs.bells ++ [(d.val, 4 * r.val, v)] ∧ onlyRegs s t []) ∧
  -- SQ_TAIL, CQ_HEAD, EQ_HEAD and CAP_RD during a restart of the control core (cqHead)
  (∀ (d : Fin 64) (v : Word) (s : State),
      s.manager = true ∧ s.g F.HOST_STAT_LINK_UP = 1 ∧ s.ft.coreDown = true →
      ∃ t, exec (.cqHead d v) s = .next t ∧ t.hs.bells = s.hs.bells ++ [(d.val, 0x10, v)] ∧ onlyRegs s t []) ∧
  -- SQ_TAIL, CQ_HEAD, EQ_HEAD and CAP_RD during a restart of the control core (eqHead)
  (∀ (d : Fin 64) (v : Word) (s : State),
      s.manager = true ∧ s.g F.HOST_STAT_LINK_UP = 1 ∧ s.ft.coreDown = true →
      ∃ t, exec (.eqHead d v) s = .next t ∧ t.hs.bells = s.hs.bells ++ [(d.val, 0x14, v)] ∧ onlyRegs s t []) ∧
  -- SQ_TAIL, CQ_HEAD, EQ_HEAD and CAP_RD during a restart of the control core (capRd)
  (∀ (d : Fin 64) (o : Fin 1024) (v : Word) (s : State),
      s.manager = true ∧ s.g F.HOST_STAT_LINK_UP = 1 ∧ s.ft.coreDown = true →
      ∃ t, exec (.capRd d o v) s = .next t ∧ t.hs.bells = s.hs.bells ++ [(d.val, 4 * o.val, v)] ∧ onlyRegs s t []) ∧
  -- CQ_HEAD of this device
  (∀ (d : Fin 64) (v : Word) (s : State),
      s.manager = true ∧ s.g F.HOST_STAT_LINK_UP = 1 ∧ s.ft.coreDown = false ∧ d.val = s.myId →
      s.g F.HOST_CQ_CFG_EN = 1 ∧ v.toNat < s.g F.HOST_CQ_CFG_SIZE →
      ∃ t, exec (.cqHead d v) s = .next t ∧ t.rd R.HOST_CQ_HEAD = v ∧
        t.hs.ready.filter (fun e => !e.aborted) = s.hs.ready.filter (fun e => !e.aborted) ∧
        (s.hs.ready.all (fun e => !e.aborted) = true → t.hs.ready = s.hs.ready ∧ t.out = s.out ∧
        onlyRegs s t [R.HOST_CQ_HEAD]) ∧ sameMem s t) ∧
  -- EQ_HEAD of this device
  (∀ (d : Fin 64) (v : Word) (s : State),
      s.manager = true ∧ s.g F.HOST_STAT_LINK_UP = 1 ∧ s.ft.coreDown = false ∧ d.val = s.myId →
      s.g F.HOST_EQ_CFG_EN = 1 ∧ v.toNat < s.g F.HOST_EQ_CFG_SIZE →
      ∃ t, exec (.eqHead d v) s = .next t ∧ t.rd R.HOST_EQ_HEAD = v ∧ t.out = s.out ∧ onlyRegs s t [R.HOST_EQ_HEAD]) ∧
  -- CQ_HEAD refused
  (∀ (d : Fin 64) (v : Word) (s : State),
      s.manager = true ∧ s.g F.HOST_STAT_LINK_UP = 1 ∧ s.ft.coreDown = false ∧ d.val = s.myId →
      s.g F.HOST_CQ_CFG_EN = 0 ∨ s.g F.HOST_CQ_CFG_SIZE ≤ v.toNat →
      ∃ t, exec (.cqHead d v) s = .next t ∧ t.g F.HOST_STAT_DB_ERR = 1 ∧ t.g F.HOST_DB_ERR_PAGE = d.val ∧
        t.g F.HOST_DB_ERR_OFFSET = 0x10 ∧ t.out = s.out ∧ confined s t [R.HOST_STAT, R.HOST_DB_ERR]) ∧
  -- EQ_HEAD refused
  (∀ (d : Fin 64) (v : Word) (s : State),
      s.manager = true ∧ s.g F.HOST_STAT_LINK_UP = 1 ∧ s.ft.coreDown = false ∧ d.val = s.myId →
      s.g F.HOST_EQ_CFG_EN = 0 ∨ s.g F.HOST_EQ_CFG_SIZE ≤ v.toNat →
      ∃ t, exec (.eqHead d v) s = .next t ∧ t.g F.HOST_STAT_DB_ERR = 1 ∧ t.g F.HOST_DB_ERR_PAGE = d.val ∧
        t.g F.HOST_DB_ERR_OFFSET = 0x14 ∧ t.out = s.out ∧ confined s t [R.HOST_STAT, R.HOST_DB_ERR]) ∧
  -- CAP_RD of this device
  (∀ (d : Fin 64) (k : Fin 8) (o : Fin 1024) (v : Word) (s : State),
      s.manager = true ∧ s.g F.HOST_STAT_LINK_UP = 1 ∧ s.ft.coreDown = false ∧ d.val = s.myId →
      o.val = 8 + k.val ∧ s.g (F.HOST_CAP_CFG_EN k) = 1 ∧ v.toNat < s.g (F.HOST_CAP_SIZE_SIZE k) ∧ v.toNat % 16 = 0 →
      ∃ t, exec (.capRd d o v) s = .next t ∧ t.rd (R.HOST_CAP_RD k) = v ∧ t.out = s.out ∧ onlyRegs s t [R.HOST_CAP_RD k]) ∧
  -- CAP_RD refused
  (∀ (d : Fin 64) (k : Fin 8) (o : Fin 1024) (v : Word) (s : State),
      s.manager = true ∧ s.g F.HOST_STAT_LINK_UP = 1 ∧ s.ft.coreDown = false ∧ d.val = s.myId →
      o.val = 8 + k.val ∧ (s.g (F.HOST_CAP_CFG_EN k) = 0 ∨ s.g (F.HOST_CAP_SIZE_SIZE k) ≤ v.toNat ∨ v.toNat % 16 ≠ 0) →
      ∃ t, exec (.capRd d o v) s = .next t ∧ t.g F.HOST_STAT_DB_ERR = 1 ∧ t.g F.HOST_DB_ERR_PAGE = d.val ∧
        t.g F.HOST_DB_ERR_OFFSET = 4 * o.val ∧ t.out = s.out ∧ confined s t [R.HOST_STAT, R.HOST_DB_ERR]) ∧
  -- CAP_RD at an offset that is not listed
  (∀ (d : Fin 64) (o : Fin 1024) (v : Word) (s : State),
      s.manager = true ∧ s.g F.HOST_STAT_LINK_UP = 1 ∧ s.ft.coreDown = false ∧ (o.val = 6 ∨ o.val = 7 ∨ 16 ≤ o.val) →
      ∃ t, exec (.capRd d o v) s = .next t ∧ t.g F.HOST_STAT_DB_ERR = 1 ∧ t.g F.HOST_DB_ERR_PAGE = d.val ∧
        t.g F.HOST_DB_ERR_OFFSET = 4 * o.val ∧ t.out = s.out ∧ onlyRegs s t [R.HOST_STAT, R.HOST_DB_ERR]) ∧
  -- CQ_HEAD, EQ_HEAD and CAP_RD of another device (cqHead)
  (∀ (d : Fin 64) (k : Fin 8) (o : Fin 1024) (q : Fin 8) (v : Word) (s : State),
      s.manager = true ∧ s.g F.HOST_STAT_LINK_UP = 1 ∧ s.ft.coreDown = false ∧ d.val ≠ s.myId ∧ o.val = 8 + k.val →
      s.g F.FAB_ID_VALID = 1 ∧ s.routeTo d.val = some q.val ∧ (s.ngl q).quiet = false ∧
        SMap.get noMsgs s.fb.txq (3 * q + 1) = [] ∧ 1 ≤ s.g (F.FAB_PORT_CRED_CTRL q) ∧ s.pw.owned = false →
      ∃ t, exec (.cqHead d v) s = .next t ∧ t.out = s.out ++ [.msg q (s.ownReq d 7) [BitVec.ofNat 32 R.HOST_CQ_HEAD, 1, v]] ∧
        onlyRegs s t [R.FAB_PORT_CRED q]) ∧
  -- CQ_HEAD, EQ_HEAD and CAP_RD of another device (eqHead)
  (∀ (d : Fin 64) (k : Fin 8) (o : Fin 1024) (q : Fin 8) (v : Word) (s : State),
      s.manager = true ∧ s.g F.HOST_STAT_LINK_UP = 1 ∧ s.ft.coreDown = false ∧ d.val ≠ s.myId ∧ o.val = 8 + k.val →
      s.g F.FAB_ID_VALID = 1 ∧ s.routeTo d.val = some q.val ∧ (s.ngl q).quiet = false ∧
        SMap.get noMsgs s.fb.txq (3 * q + 1) = [] ∧ 1 ≤ s.g (F.FAB_PORT_CRED_CTRL q) ∧ s.pw.owned = false →
      ∃ t, exec (.eqHead d v) s = .next t ∧ t.out = s.out ++ [.msg q (s.ownReq d 7) [BitVec.ofNat 32 R.HOST_EQ_HEAD, 1, v]] ∧
        onlyRegs s t [R.FAB_PORT_CRED q]) ∧
  -- CQ_HEAD, EQ_HEAD and CAP_RD of another device (capRd)
  (∀ (d : Fin 64) (k : Fin 8) (o : Fin 1024) (q : Fin 8) (v : Word) (s : State),
      s.manager = true ∧ s.g F.HOST_STAT_LINK_UP = 1 ∧ s.ft.coreDown = false ∧ d.val ≠ s.myId ∧ o.val = 8 + k.val →
      s.g F.FAB_ID_VALID = 1 ∧ s.routeTo d.val = some q.val ∧ (s.ngl q).quiet = false ∧
        SMap.get noMsgs s.fb.txq (3 * q + 1) = [] ∧ 1 ≤ s.g (F.FAB_PORT_CRED_CTRL q) ∧ s.pw.owned = false →
      ∃ t, exec (.capRd d o v) s = .next t ∧ t.out = s.out ++ [.msg q (s.ownReq d 7) [BitVec.ofNat 32 (R.HOST_CAP_RD k), 1,
        v]] ∧ onlyRegs s t [R.FAB_PORT_CRED q]) ∧
  -- CQ_HEAD, EQ_HEAD and CAP_RD of another device without a route
  (∀ (d : Fin 64) (k : Fin 8) (v : Word) (i : Instr) (s : State),
      s.manager = true ∧ s.g F.HOST_STAT_LINK_UP = 1 ∧ s.ft.coreDown = false ∧ d.val ≠ s.myId →
      s.g F.FAB_ID_VALID = 0 ∨ s.routeTo d.val = none →
      i = .cqHead d v ∨ i = .eqHead d v ∨ i = .capRd d ⟨8 + k, by omega⟩ v →
      ∃ t, exec i s = .next t ∧ (t.rd R.FAB_MSG_NOROUTE).toNat = min ((s.rd R.FAB_MSG_NOROUTE).toNat + 1) (2 ^ 32 - 1) ∧
        t.out = s.out ∧ confined s t [R.FAB_MSG_NOROUTE]) ∧
  -- CONTROL_CORE_RESTART_END with one held doorbell
  (∀ (d : Fin 64) (o : Fin 1024) (v : Word) (s : State),
      s.manager = true ∧ s.g F.HOST_STAT_LINK_UP = 1 ∧ s.ft.coreDown = true →
      s.hs.bells = [(d.val, 4 * o.val, v)] →
      exec .controlCoreRestartEnd s = exec (.capRd d o v) { s with ft := { s.ft with coreDown := false }, hs := { s.hs with bells := [] } }) ∧
  -- CONTROL_CORE_RESTART_END with several held doorbells
  (∀ (b : Nat × Nat × Word) (bs : List (Nat × Nat × Word)) (s : State),
      s.ft.coreDown = true ∧ s.hs.bells = b :: bs →
      ∃ t, exec .controlCoreRestartEnd { s with hs := { s.hs with bells := [b] } } = .next t ∧
        exec .controlCoreRestartEnd s = exec .controlCoreRestartEnd { t with ft := { t.ft with coreDown := true }, hs := { t.hs with bells := bs } }) ∧
  -- CONTROL_CORE_RESTART_END
  (∀ (s : State),
      s.ft.coreDown = true →
      ∃ t, exec .controlCoreRestartEnd s = .next t ∧ t.ft.coreDown = false ∧ t.hs.bells = [] ∧ sameMem s t) ∧
  -- CONTROL_CORE_RESTART_END without a restart
  (∀ (s : State),
      s.ft.coreDown = false →
      ∃ t, exec .controlCoreRestartEnd s = .next t ∧ t = s) ∧
  -- DESCRIPTOR_FETCH of set 0
  (∀ (r : Fin 4) (n : Nat) (ws : List Word) (ds : List (List Word)) (s : State),
      s.manager = true ∧ s.g F.HOST_STAT_LINK_UP = 1 ∧ s.ft.coreDown = false ∧ s.hs.d3 = false →
      n = s.g (F.HOST_SQ_CFG_SIZE 0 r) ∧ s.g (F.HOST_SQ_CFG_EN 0 r) = 1 ∧ 0 < n ∧ n ≤ 4096 ∧
        s.g (F.HOST_SQ_HEAD_HEAD 0 r) < n ∧ s.g (F.HOST_SQ_TAIL_TAIL 0 r) < n →
      ds = (descs ws).take ((s.g (F.HOST_SQ_TAIL_TAIL 0 r) + n - s.g (F.HOST_SQ_HEAD_HEAD 0 r)) % n) →
      ∃ t, exec (.descriptorFetch 0 r ws) s = .next t ∧ t.hs.ready = s.hs.ready ++ (ds.zipIdx).map (fun x => ⟨r.val,
        (s.g (F.HOST_SQ_HEAD_HEAD 0 r) + x.2 + 1) % n, x.1, false⟩) ∧
        t.g (F.HOST_SQ_HEAD_HEAD 0 r) = (s.g (F.HOST_SQ_HEAD_HEAD 0 r) + ds.length) % n ∧ t.out = s.out ∧
        onlyRegs s t [R.HOST_SQ_HEAD 0 r]) ∧
  -- DESCRIPTOR_FETCH of a device whose tunnel is off
  (∀ (d : Fin 64) (r : Fin 4) (n : Nat) (ws : List Word) (ds : List (List Word)) (s : State),
      s.manager = true ∧ s.g F.HOST_STAT_LINK_UP = 1 ∧ s.ft.coreDown = false ∧ s.hs.d3 = false →
      n = s.g (F.HOST_SQ_CFG_SIZE d r) ∧ s.g (F.HOST_SQ_CFG_EN d r) = 1 ∧ 0 < n ∧ n ≤ 4096 ∧
        s.g (F.HOST_SQ_HEAD_HEAD d r) < n ∧ s.g (F.HOST_SQ_TAIL_TAIL d r) < n →
      ds = (descs ws).take ((s.g (F.HOST_SQ_TAIL_TAIL d r) + n - s.g (F.HOST_SQ_HEAD_HEAD d r)) % n) →
      d ≠ 0 ∧ (s.rd (if d.val < 32 then R.HOST_TUNNEL_EN_LO else R.HOST_TUNNEL_EN_HI)).getLsbD (d.val % 32) = false →
      ∃ t, exec (.descriptorFetch d r ws) s = .next t ∧ t.hs = s.hs ∧
        (t.rd R.HOST_FWD_DROP).toNat = min ((s.rd R.HOST_FWD_DROP).toNat + ds.length) (2 ^ 32 - 1) ∧
        t.g (F.HOST_SQ_HEAD_HEAD d r) = (s.g (F.HOST_SQ_HEAD_HEAD d r) + ds.length) % n ∧ t.out = s.out ∧
        onlyRegs s t [R.HOST_SQ_HEAD d r, R.HOST_FWD_DROP]) ∧
  -- DESCRIPTOR_FETCH for another device
  (∀ (d : Fin 64) (r : Fin 4) (q : Fin 8) (n : Nat) (ws x : List Word) (s : State),
      s.manager = true ∧ s.g F.HOST_STAT_LINK_UP = 1 ∧ s.ft.coreDown = false ∧ s.hs.d3 = false ∧ s.g F.FAB_ID_VALID = 1 →
      n = s.g (F.HOST_SQ_CFG_SIZE d r) ∧ s.g (F.HOST_SQ_CFG_EN d r) = 1 ∧ 0 < n ∧ n ≤ 4096 ∧
        s.g (F.HOST_SQ_HEAD_HEAD d r) < n ∧ s.g (F.HOST_SQ_TAIL_TAIL d r) < n →
      [x] = (descs ws).take ((s.g (F.HOST_SQ_TAIL_TAIL d r) + n - s.g (F.HOST_SQ_HEAD_HEAD d r)) % n) →
      d ≠ 0 ∧ (s.rd (if d.val < 32 then R.HOST_TUNNEL_EN_LO else R.HOST_TUNNEL_EN_HI)).getLsbD (d.val % 32) = true →
      s.routeTo d.val = some q.val ∧ (s.ngl q).quiet = false ∧ SMap.get noMsgs s.fb.txq (3 * q + 1) = [] ∧
        1 ≤ s.g (F.FAB_PORT_CRED_CTRL q) ∧ s.pw.owned = false →
      ∃ t, exec (.descriptorFetch d r ws) s = .next t ∧
        t.out = s.out ++ [.msg q { s.envTo d 8 with tag := bitsOf (x.headD 0) 11 0, epoch := bitsOf (x.headD 0) 15 12 } (BitVec.ofNat 32 ((s.g (F.HOST_SQ_HEAD_HEAD d r) + 1) % n * 2 ^ 16 + r) :: x)] ∧ t.g (F.HOST_SQ_HEAD_HEAD d r) = (s.g (F.HOST_SQ_HEAD_HEAD d r) + 1) % n ∧ t.hs = s.hs ∧ onlyRegs s t [R.HOST_SQ_HEAD d r, R.FAB_PORT_CRED q]) ∧
  -- DESCRIPTOR_FETCH where the ring or the link is off
  (∀ (d : Fin 64) (r : Fin 4) (ws : List Word) (s : State),
      s.manager = false ∨ s.g F.HOST_STAT_LINK_UP = 0 ∨ s.hs.d3 = true ∨ s.ft.coreDown = true ∨ s.g (F.HOST_SQ_CFG_EN d r) = 0 →
      ∃ t, exec (.descriptorFetch d r ws) s = .next t ∧ t = s)

/-- A reset of the manager's host interface turns every ring off with its indices at 0, clears the tunnel enables, forgets
waiting descriptors and held interrupts, gives up accesses of the host that hang and sets RESET_SEEN; when it is by
loss of the link, LINK_UP falls and the loss is reported. Without a link to lose, or at a worker, nothing happens.
HOST_LINK_UP with LINK_EN at a manager whose link is down sets LINK_UP, the width and the speed, and an event of type
LINK is written, or counted as lost where the event ring has no room; otherwise it does nothing. D3hot holds
interrupts pending, and in D0 a pending interrupt that is not masked leaves. MSIX_TRIG at the manager sends the
vector's message, keeps a masked one, or one in D3hot, pending, and merges one in hold-off; at a worker it asks the
manager in a message. The end of the hold-off sends a merged one, or keeps it pending where it is masked or the device
is in D3hot. CAPTURE_HOST_COPY with room writes the oldest frame's words to the host at WR, with wrap, and the new WR
to the shadow; both indices advance by its length, and with IRQ the interrupt follows; a worker sends the words
through the tunnel. With the ring off, in D3hot, without a frame or without room it does nothing. Completes
HOST_IF_RESET, HOST_LINK_UP, HOST_POWER_STATE, MSIX_TRIG, MSIX_HOLDOFF_END, CAPTURE_HOST_COPY. (R483, R494, R495,
R496) -/
def Obligations.HostInterfaceResetsAndInterrupts : Prop :=
  -- HOST_IF_RESET
  (∀ (s : State),
      s.manager = true →
      ∃ t, exec (.hostIfReset false) s = .next t ∧ t.hs = { HostSt.reset with lost := s.hs.lost } ∧
        t.g F.HOST_STAT_RESET_SEEN = 1 ∧ t.rd R.HOST_TUNNEL_EN_LO = 0 ∧ t.rd R.HOST_TUNNEL_EN_HI = 0 ∧
        t.g F.HOST_CQ_CFG_EN = 0 ∧ t.g F.HOST_EQ_CFG_EN = 0 ∧ t.ringEmpty 0 .cq = true ∧ t.ringEmpty 0 .eq = true ∧
        (∀ c : Fin 8, t.g (F.HOST_CAP_CFG_EN c) = 0 ∧ t.ringEmpty 0 (.cap c) = true) ∧ (∀ d : Fin 64, ∀ r : Fin 4,
        t.g (F.HOST_SQ_CFG_EN d r) = 0) ∧ t.g F.HOST_STAT_LINK_UP = s.g F.HOST_STAT_LINK_UP ∧
        t.mx.hung.length = s.mx.hung.length ∧
        t.mx.hung.all (fun h => match h.who with | .bar _ _ => false | _ => true) = true ∧ t.out = s.out ∧ sameMem s t) ∧
  -- HOST_IF_RESET by loss of the link
  (∀ (s : State),
      s.manager = true ∧ s.g F.HOST_STAT_LINK_UP = 1 →
      ∃ t, exec (.hostIfReset true) s = .next t ∧ t.hs = { HostSt.reset with lost := s.hs.lost } ∧
        t.g F.HOST_STAT_LINK_UP = 0 ∧ t.g F.HOST_STAT_RESET_SEEN = 1 ∧ t.rd R.HOST_TUNNEL_EN_LO = 0 ∧
        t.rd R.HOST_TUNNEL_EN_HI = 0 ∧ t.g F.HOST_CQ_CFG_EN = 0 ∧ t.g F.HOST_EQ_CFG_EN = 0 ∧ t.ringEmpty 0 .cq = true ∧
        t.ringEmpty 0 .eq = true ∧ (∀ c : Fin 8, t.g (F.HOST_CAP_CFG_EN c) = 0 ∧ t.ringEmpty 0 (.cap c) = true) ∧
        (∀ d : Fin 64, ∀ r : Fin 4, t.g (F.HOST_SQ_CFG_EN d r) = 0) ∧ t.mx.hung.length = s.mx.hung.length ∧
        t.mx.hung.all (fun h => match h.who with | .bar _ _ => false | _ => true) = true ∧
        t.ft.blocks.any (fun m => m.kind == Kind.hostLinkDown) = true ∧ t.out = s.out ∧ sameMem s t) ∧
  -- HOST_IF_RESET at a worker, or by loss of a link that is down
  (∀ (l : Bool) (s : State),
      s.manager = false ∨ (l = true ∧ s.g F.HOST_STAT_LINK_UP = 0) →
      ∃ t, exec (.hostIfReset l) s = .next t ∧ t = s) ∧
  -- HOST_LINK_UP
  (∀ (w v : Fin 8) (s : State),
      s.manager = true ∧ s.g F.HOST_CTL_LINK_EN = 1 ∧ s.g F.HOST_STAT_LINK_UP = 0 →
      ∃ t, exec (.hostLinkUp w v) s = .next t ∧ t.g F.HOST_STAT_LINK_UP = 1 ∧ t.g F.HOST_LINK_WIDTH = w.val ∧
        t.g F.HOST_LINK_SPEED = v.val ∧ sameMem s t) ∧
  -- HOST_LINK_UP writes its event
  (∀ (w v : Fin 8) (n k : Nat) (s : State),
      s.manager = true ∧ s.g F.HOST_CTL_LINK_EN = 1 ∧ s.g F.HOST_STAT_LINK_UP = 0 ∧ s.pw.owned = false ∧ s.hs.d3 = true →
      s.g F.HOST_EQ_CFG_EN = 1 ∧ n = s.g F.HOST_EQ_CFG_SIZE ∧ n ≠ 0 ∧ k = s.g F.HOST_EQ_TAIL_TAIL ∧ k < n ∧ n ≤ 4096 ∧
        (k + 1) % n ≠ s.g F.HOST_EQ_HEAD_HEAD →
      ∃ t, exec (.hostLinkUp w v) s = .next t ∧
        t.out = s.out ++ [.host (s.rd64 R.HOST_EQ_BASE_LO R.HOST_EQ_BASE_HI + 32 * k) (([BitVec.ofNat 32 (s.g F.HOST_EQ_TAIL_PHASE * 2 ^ 31 + min s.hs.lost 127 * 2 ^ 24 + evLink * 2 ^ 16 + s.myId), s.tm.tick.setWidth 32, (s.tm.tick >>> 32).setWidth 32, 1, 0, 0, 0, 0] : List Word).flatMap wordBytes)] ∧ t.g F.HOST_EQ_TAIL_TAIL = (k + 1) % n ∧ SMap.get noneB t.hs.pba (s.g F.HOST_EQ_CFG_VEC) = true ∧ t.hs.lost = 0) ∧
  -- HOST_LINK_UP without room for its event
  (∀ (w v : Fin 8) (s : State),
      s.manager = true ∧ s.g F.HOST_CTL_LINK_EN = 1 ∧ s.g F.HOST_STAT_LINK_UP = 0 →
      s.g F.HOST_EQ_CFG_EN = 0 ∨ s.g F.HOST_EQ_CFG_SIZE = 0 ∨ (s.g F.HOST_EQ_TAIL_TAIL + 1) % s.g F.HOST_EQ_CFG_SIZE = s.g F.HOST_EQ_HEAD_HEAD →
      ∃ t, exec (.hostLinkUp w v) s = .next t ∧ t.g F.HOST_STAT_EQ_LOST = 1 ∧
        (t.rd R.HOST_EQ_LOST).toNat = min ((s.rd R.HOST_EQ_LOST).toNat + 1) (2 ^ 32 - 1) ∧
        t.hs = { s.hs with lost := s.hs.lost + 1 } ∧ t.out = s.out ∧ onlyRegs s t [R.HOST_STAT, R.HOST_LINK, R.HOST_EQ_LOST]) ∧
  -- HOST_LINK_UP at a worker, without LINK_EN or with the link up
  (∀ (w v : Fin 8) (s : State),
      s.manager = false ∨ s.g F.HOST_CTL_LINK_EN = 0 ∨ s.g F.HOST_STAT_LINK_UP = 1 →
      ∃ t, exec (.hostLinkUp w v) s = .next t ∧ t = s) ∧
  -- HOST_POWER_STATE to D3hot
  (∀ (s : State),
      s.manager = true →
      ∃ t, exec (.hostPowerState true) s = .next t ∧ t = { s with hs := { s.hs with d3 := true } }) ∧
  -- HOST_POWER_STATE to D0 with one interrupt pending
  (∀ (v : Fin 64) (s : State),
      s.manager = true ∧ s.pw.owned = false ∧ s.hs.pba = [(v.val, true)] ∧ SMap.get noneB s.hs.hold v = false →
      (SMap.get msixReset s.hs.msix (4 * v + 3)).getLsbD 0 = false →
      ∃ t, exec (.hostPowerState false) s = .next t ∧ t.hs.d3 = false ∧ t.hs.pba = [] ∧ t.out = s.out ++ [.msix v] ∧
        onlyRegs s t []) ∧
  -- HOST_POWER_STATE to D0 with several interrupts pending
  (∀ (v : Fin 64) (s : State),
      s.manager = true ∧ s.pw.owned = false ∧ SMap.get noneB s.hs.pba v = true ∧ SMap.get noneB s.hs.hold v = false ∧
        (SMap.get msixReset s.hs.msix (4 * v + 3)).getLsbD 0 = false →
      ∃ t, exec (.hostPowerState false) s = .next t ∧ t.hs.d3 = false ∧ SMap.get noneB t.hs.pba v = false ∧
        Out.msix v ∈ t.out ∧ onlyRegs s t []) ∧
  -- HOST_POWER_STATE to D0 with pending interrupts
  (∀ (v : Fin 64) (s : State),
      s.manager = true ∧ SMap.get noneB s.hs.pba v = true ∧ (SMap.get msixReset s.hs.msix (4 * v + 3)).getLsbD 0 = true →
      ∃ t, exec (.hostPowerState false) s = .next t ∧ t.hs.d3 = false ∧ SMap.get noneB t.hs.pba v = true ∧ onlyRegs s t []) ∧
  -- HOST_POWER_STATE at a worker
  (∀ (d : Bool) (s : State),
      s.manager = false →
      ∃ t, exec (.hostPowerState d) s = .next t ∧ t = s) ∧
  -- MSIX_TRIG
  (∀ (v : Word) (s : State),
      s.manager = true ∧ s.pw.owned = false ∧ s.hs.d3 = false ∧ SMap.get noneB s.hs.hold (bitsOf v 5 0) = false →
      (SMap.get msixReset s.hs.msix (4 * bitsOf v 5 0 + 3)).getLsbD 0 = false →
      ∃ t, exec (.msixTrig v) s = .next t ∧ t.out = s.out ++ [.msix (bitsOf v 5 0), .resp false []] ∧
        SMap.get noneB t.hs.hold (bitsOf v 5 0) = decide (s.g F.HOST_MSIX_HOLD_US ≠ 0) ∧ onlyRegs s t []) ∧
  -- MSIX_TRIG of a masked vector, or in D3hot
  (∀ (v : Word) (s : State),
      s.manager = true →
      s.hs.d3 = true ∨ (SMap.get noneB s.hs.hold (bitsOf v 5 0) = false ∧
        (SMap.get msixReset s.hs.msix (4 * bitsOf v 5 0 + 3)).getLsbD 0 = true) →
      ∃ t, exec (.msixTrig v) s = .next t ∧ SMap.get noneB t.hs.pba (bitsOf v 5 0) = true ∧ t.out = s.ok.out ∧
        onlyRegs s t []) ∧
  -- MSIX_TRIG in hold-off
  (∀ (v : Word) (s : State),
      s.manager = true ∧ s.hs.d3 = false ∧ SMap.get noneB s.hs.hold (bitsOf v 5 0) = true →
      ∃ t, exec (.msixTrig v) s = .next t ∧ SMap.get noneB t.hs.merged (bitsOf v 5 0) = true ∧ t.out = s.ok.out ∧
        onlyRegs s t []) ∧
  -- MSIX_TRIG at a worker
  (∀ (q : Fin 8) (v : Word) (s : State),
      s.manager = false ∧ s.g F.FAB_ID_VALID = 1 ∧ s.routeTo 0 = some q.val ∧ (s.ngl q).quiet = false ∧
        SMap.get noMsgs s.fb.txq (3 * q + 1) = [] ∧ 1 ≤ s.g (F.FAB_PORT_CRED_CTRL q) ∧ s.pw.owned = false →
      ∃ t, exec (.msixTrig v) s = .next t ∧ t.out = s.out ++ [.msg q (s.ownReq 0 7) [BitVec.ofNat 32 R.HOST_MSIX_TRIG, 1,
        BitVec.ofNat 32 (bitsOf v 5 0)], .resp false []] ∧ t.hs = s.hs ∧ onlyRegs s t [R.FAB_PORT_CRED q]) ∧
  -- MSIX_TRIG at a worker without a route
  (∀ (v : Word) (s : State),
      s.manager = false ∧ (s.g F.FAB_ID_VALID = 0 ∨ s.routeTo 0 = none) →
      ∃ t, exec (.msixTrig v) s = .next t ∧
        (t.rd R.FAB_MSG_NOROUTE).toNat = min ((s.rd R.FAB_MSG_NOROUTE).toNat + 1) (2 ^ 32 - 1) ∧ t.out = s.ok.out ∧
        confined s t [R.FAB_MSG_NOROUTE]) ∧
  -- MSIX_HOLDOFF_END
  (∀ (v : Fin 64) (s : State),
      s.manager = true ∧ s.pw.owned = false ∧ s.hs.d3 = false ∧ (SMap.get msixReset s.hs.msix (4 * v + 3)).getLsbD 0 = false →
      ∃ t, exec (.msixHoldoffEnd v) s = .next t ∧
        t.out = s.out ++ (if SMap.get noneB s.hs.merged v then [Out.msix v] else []) ∧ SMap.get noneB t.hs.merged v = false ∧
        SMap.get noneB t.hs.hold v = (SMap.get noneB s.hs.merged v && decide (s.g F.HOST_MSIX_HOLD_US ≠ 0)) ∧ onlyRegs s t []) ∧
  -- MSIX_HOLDOFF_END of a masked vector, or in D3hot
  (∀ (v : Fin 64) (s : State),
      s.manager = true ∧ (s.hs.d3 = true ∨ (SMap.get msixReset s.hs.msix (4 * v + 3)).getLsbD 0 = true) →
      ∃ t, exec (.msixHoldoffEnd v) s = .next t ∧ t.out = s.out ∧
        SMap.get noneB t.hs.pba v = (SMap.get noneB s.hs.pba v || SMap.get noneB s.hs.merged v) ∧
        SMap.get noneB t.hs.merged v = false ∧ onlyRegs s t []) ∧
  -- MSIX_HOLDOFF_END with nothing merged
  (∀ (v : Fin 64) (s : State),
      SMap.get noneB s.hs.merged v = false →
      ∃ t, exec (.msixHoldoffEnd v) s = .next t ∧ SMap.get noneB t.hs.hold v = false ∧ t.hs.pba = s.hs.pba ∧ t.out = s.out ∧
        onlyRegs s t []) ∧
  -- CAPTURE_HOST_COPY
  (∀ (c : Fin 8) (rd sz n wr len : Nat) (ws : List Word) (s : State),
      s.manager = true ∧ s.g F.HOST_STAT_LINK_UP = 1 ∧ s.pw.owned = false ∧ s.g (F.HOST_CAP_CFG_EN c) = 1 ∧ s.hs.d3 = false ∧
        s.mx.ecc = [] →
      rd = s.g (F.XING_CAP_RD_RD c) ∧ sz = s.g (F.XING_CAP_SIZE_SIZE c) ∧ rd < sz ∧ sz ≤ 2 ^ 18 ∧
        rd ≠ s.g (F.XING_CAP_WR_WR c) ∧ s.rd (R.XING_CAP_BUF c) ≤ 0xC0000#32 →
      n = s.g (F.HOST_CAP_SIZE_SIZE c) ∧ wr = s.g (F.HOST_CAP_WR_WR c) ∧ n ≤ 2 ^ 24 ∧ wr < n ∧ n % 4 = 0 ∧ wr % 4 = 0 →
      len = 16 * bitsOf (s.word ((s.rd (R.XING_CAP_BUF c)).toNat + rd)) 31 16 ∧ 0 < len ∧
        len ≤ (s.g (F.HOST_CAP_RD_RD c) + 2 * n - wr - 16) % n →
      ws = (List.range (len / 4)).map (fun i => s.word ((s.rd (R.XING_CAP_BUF c)).toNat + (rd + 4 * i) % sz)) →
      ∃ t, exec (.captureHostCopy c) s = .next t ∧ t.g (F.XING_CAP_RD_RD c) = (rd + len) % sz ∧
        t.g (F.HOST_CAP_WR_WR c) = (wr + len) % n ∧ sameMem s t ∧
        t.out = s.out ++ [.host (s.rd64 (R.HOST_CAP_BASE_LO c) (R.HOST_CAP_BASE_HI c) + wr) ((ws.take ((n - wr) / 4)).flatMap wordBytes)] ++ (if n < wr + len then [.host (s.rd64 (R.HOST_CAP_BASE_LO c) (R.HOST_CAP_BASE_HI c)) ((ws.drop ((n - wr) / 4)).flatMap wordBytes)] else []) ++ [.host (s.rd64 (R.HOST_CAP_SHADOW_LO c) (R.HOST_CAP_SHADOW_HI c)) (([BitVec.ofNat 32 ((wr + len) % n), 0] : List Word).flatMap wordBytes)] ++ (if s.g (F.HOST_CAP_CFG_IRQ c) = 1 ∧ SMap.get noneB s.hs.hold (s.g (F.HOST_CAP_CFG_VEC c)) = false ∧ (SMap.get msixReset s.hs.msix (4 * s.g (F.HOST_CAP_CFG_VEC c) + 3)).getLsbD 0 = false then [.msix (s.g (F.HOST_CAP_CFG_VEC c))] else [])) ∧
  -- CAPTURE_HOST_COPY of any device
  (∀ (c : Fin 8) (rd sz n wr len : Nat) (s : State),
      s.g (F.HOST_CAP_CFG_EN c) = 1 ∧ s.hs.d3 = false ∧ s.mx.ecc = [] →
      rd = s.g (F.XING_CAP_RD_RD c) ∧ sz = s.g (F.XING_CAP_SIZE_SIZE c) ∧ rd < sz ∧ sz ≤ 2 ^ 18 ∧
        rd ≠ s.g (F.XING_CAP_WR_WR c) ∧ s.rd (R.XING_CAP_BUF c) ≤ 0xC0000#32 →
      n = s.g (F.HOST_CAP_SIZE_SIZE c) ∧ wr = s.g (F.HOST_CAP_WR_WR c) ∧ n ≤ 2 ^ 24 ∧ wr < n ∧ n % 4 = 0 ∧ wr % 4 = 0 →
      len = 16 * bitsOf (s.word ((s.rd (R.XING_CAP_BUF c)).toNat + rd)) 31 16 ∧ 0 < len ∧
        len ≤ (s.g (F.HOST_CAP_RD_RD c) + 2 * n - wr - 16) % n →
      ∃ t, exec (.captureHostCopy c) s = .next t ∧ t.g (F.XING_CAP_RD_RD c) = (rd + len) % sz ∧
        t.g (F.HOST_CAP_WR_WR c) = (wr + len) % n ∧ sameMem s t) ∧
  -- CAPTURE_HOST_COPY of a worker
  (∀ (c q : Fin 8) (rd sz n wr len a b : Nat) (ws : List Word) (s : State),
      s.manager = false ∧ s.g F.FAB_ID_VALID = 1 ∧ s.routeTo 0 = some q.val ∧ (s.ngl q).quiet = false ∧
        SMap.get noMsgs s.fb.txq (3 * q + 1) = [] ∧ 2 ≤ s.g (F.FAB_PORT_CRED_CTRL q) ∧ s.pw.owned = false ∧
        s.g (F.HOST_CAP_CFG_IRQ c) = 0 →
      s.g (F.HOST_CAP_CFG_EN c) = 1 ∧ s.hs.d3 = false ∧ s.mx.ecc = [] →
      rd = s.g (F.XING_CAP_RD_RD c) ∧ sz = s.g (F.XING_CAP_SIZE_SIZE c) ∧ rd < sz ∧ sz ≤ 2 ^ 18 ∧
        rd ≠ s.g (F.XING_CAP_WR_WR c) ∧ s.rd (R.XING_CAP_BUF c) ≤ 0xC0000#32 →
      n = s.g (F.HOST_CAP_SIZE_SIZE c) ∧ wr = s.g (F.HOST_CAP_WR_WR c) ∧ n ≤ 2 ^ 24 ∧ wr < n ∧ n % 4 = 0 ∧ wr % 4 = 0 →
      len = 16 * bitsOf (s.word ((s.rd (R.XING_CAP_BUF c)).toNat + rd)) 31 16 ∧ 0 < len ∧
        len ≤ (s.g (F.HOST_CAP_RD_RD c) + 2 * n - wr - 16) % n ∧ len ≤ 4084 ∧ wr + len ≤ n →
      ws = (List.range (len / 4)).map (fun i => s.word ((s.rd (R.XING_CAP_BUF c)).toNat + (rd + 4 * i) % sz)) →
      a = s.rd64 (R.HOST_CAP_BASE_LO c) (R.HOST_CAP_BASE_HI c) + wr ∧
        b = s.rd64 (R.HOST_CAP_SHADOW_LO c) (R.HOST_CAP_SHADOW_HI c) →
      ∃ t, exec (.captureHostCopy c) s = .next t ∧ t.g (F.XING_CAP_RD_RD c) = (rd + len) % sz ∧
        t.g (F.HOST_CAP_WR_WR c) = (wr + len) % n ∧ sameMem s t ∧
        t.out = s.out ++ [.msg q { s.ownReq 0 7 with tunnel := true } ([BitVec.ofNat 32 a, BitVec.ofNat 32 (a / 2 ^ 32),
        BitVec.ofNat 32 (len / 4)] ++ ws), .msg q { s.ownReq 0 7 with tunnel := true } [BitVec.ofNat 32 b,
        BitVec.ofNat 32 (b / 2 ^ 32), 2, BitVec.ofNat 32 ((wr + len) % n), 0]]) ∧
  -- CAPTURE_HOST_COPY with the ring off, in D3hot or without a frame
  (∀ (c : Fin 8) (s : State),
      s.g (F.HOST_CAP_CFG_EN c) = 0 ∨ s.hs.d3 = true ∨ s.g (F.XING_CAP_RD_RD c) = s.g (F.XING_CAP_WR_WR c) ∨ s.g (F.XING_CAP_SIZE_SIZE c) = 0 →
      ∃ t, exec (.captureHostCopy c) s = .next t ∧ t = s) ∧
  -- CAPTURE_HOST_COPY without room
  (∀ (c : Fin 8) (n len : Nat) (s : State),
      s.mx.ecc = [] ∧ s.g (F.XING_CAP_RD_RD c) < s.g (F.XING_CAP_SIZE_SIZE c) ∧ s.rd (R.XING_CAP_BUF c) ≤ 0xC0000#32 →
      n = s.g (F.HOST_CAP_SIZE_SIZE c) ∧
        len = 16 * bitsOf (s.word ((s.rd (R.XING_CAP_BUF c)).toNat + s.g (F.XING_CAP_RD_RD c))) 31 16 →
      (s.g (F.HOST_CAP_RD_RD c) + 2 * n - s.g (F.HOST_CAP_WR_WR c) - 16) % max 1 n < len ∨ len = 0 →
      ∃ t, exec (.captureHostCopy c) s = .next t ∧ t = s)

/-- A command that the engine starts leaves it with a completion entry at TAIL of the completion ring, which advances,
unless it is OK and no entry is wanted. Where the engine starts no descriptor of its code, a command does nothing. NOP
ends OK. An unknown opcode ends BAD_OPCODE, and a descriptor that breaks a field rule ends BAD_FIELD, both with no
effect on memory. MEM_WRITE stores the words of the host buffer at LOCAL and MEM_READ brings the words at LOCAL to the
host, both with the bytes moved as result; a worker asks for the host's words through the tunnel. A host buffer that
cannot be read whole ends HOST_ERR, and a word that does not exist, a misaligned LOCAL or one that cannot be corrected
ends ADDR_ERR, with the bytes moved before; what was stored stays. REG_WRITE writes ARG1 at the address as any master
would, REG_READ answers the value read, or they end ADDR_ERR. A command to a device without a route ends NO_ROUTE; one
to another device asks it in a message and ends OK with its answer, ADDR_ERR where it answers an error, and TIMEOUT
where it does not answer. A command waits while one of its addresses hangs, and once that access has ended with an
error ends ADDR_ERR. Completes NOP_COMMAND, BAD_OPCODE, MEM_WRITE, MEM_READ, REG_WRITE, REG_READ. (R487, R490, R491,
R493, R411, R415) -/
def Obligations.HostCommandsMoveWords : Prop :=
  -- NOP_COMMAND
  (∀ (d : Desc) (s : State),
      s.starts d 0x00 ∧ d.len = 0 →
      ∃ t, exec .nopCommand s = .next t ∧ completes s t d stOk 0 0 ∧ sameMem s t) ∧
  -- Commands that break a field rule
  (∀ (i : Instr) (op : Nat) (buf : List Word) (ans : List RemAns) (an : Option RemAns) (d : Desc) (s : State),
      (i, op) ∈ [(Instr.nopCommand, 0), (.memWrite buf ans, 1), (.memRead ans, 2), (.regWrite an, 3), (.regRead an, 4)] →
      s.misfit d op ∧ s.freeBus →
      ∃ t, exec i s = .next t ∧ completes s t d stBadField 0 0 ∧ sameMem s t) ∧
  -- Commands of which the engine starts none
  (∀ (i : Instr) (op : Nat) (buf : List Word) (ans : List RemAns) (an : Option RemAns) (s : State),
      (i, op) ∈ [(Instr.nopCommand, 0), (.memWrite buf ans, 1), (.memRead ans, 2), (.regWrite an, 3), (.regRead an, 4)] ∧
        s.freeBus →
      s.engineNext.all (fun d => d.opcode != op) = true →
      ∃ t, exec i s = .next t ∧ t = s) ∧
  -- BAD_OPCODE
  (∀ (d : Desc) (s : State),
      s.engineNext = some d ∧ d.opcode ∉ [0x00, 0x01, 0x02, 0x03, 0x04, 0x10, 0x11, 0x12, 0x13, 0x14, 0x20, 0x30, 0x31, 0x40,
        0x50, 0x51] →
      ∃ t, exec .badOpcode s = .next t ∧ completes s t d stBadOpcode 0 0 ∧ sameMem s t) ∧
  -- BAD_OPCODE with no such descriptor
  (∀ (s : State),
      s.engineNext.all (fun d => decide (d.opcode ∈ [0x00, 0x01, 0x02, 0x03, 0x04, 0x10, 0x11, 0x12, 0x13, 0x14, 0x20, 0x30,
        0x31, 0x40, 0x50, 0x51])) = true →
      ∃ t, exec .badOpcode s = .next t ∧ t = s) ∧
  -- MEM_WRITE to memory
  (∀ (d : Desc) (buf : List Word) (ans : List RemAns) (s : State),
      s.starts d 0x01 ∧ d.fits 0x01 = true ∧ s.freeBus ∧ s.hostReach = true ∧ d.len / 4 ≤ buf.length ∧ d.loc % 4 = 0 →
      (∀ i, i < d.len / 4 → (memOf (d.loc + 4 * i)).any (fun m => !m.1.isProg) = true) →
      ∃ t, exec (.memWrite buf ans) s = .next t ∧ (∀ i, i < d.len / 4 → t.word (d.loc + 4 * i) = buf.getD i 0) ∧
        onlyMem s t d.loc d.len ∧ completes s t d stOk (BitVec.ofNat 32 d.len) 0) ∧
  -- MEM_WRITE whose buffer the host does not give whole
  (∀ (d : Desc) (buf : List Word) (ans : List RemAns) (n : Nat) (s : State),
      s.starts d 0x01 ∧ d.fits 0x01 = true ∧ s.freeBus ∧ d.loc % 4 = 0 ∧ buf.length < d.len / 4 →
      (∀ i, i < d.len / 4 → (memOf (d.loc + 4 * i)).any (fun m => !m.1.isProg) = true) →
      n = (if s.hostReach = true then s.chunk false * (buf.length / s.chunk false) else 0) →
      ∃ t, exec (.memWrite buf ans) s = .next t ∧ (∀ i, i < n → t.word (d.loc + 4 * i) = buf.getD i 0) ∧
        onlyMem s t d.loc (4 * n) ∧ completes s t d stHostErr (BitVec.ofNat 32 (4 * n)) 0) ∧
  -- MEM_WRITE that a worker cannot ask the host for
  (∀ (d : Desc) (buf : List Word) (ans : List RemAns) (s : State),
      s.starts d 0x01 ∧ d.fits 0x01 = true ∧ s.freeBus ∧ s.hostReach = false →
      ∃ t, exec (.memWrite buf ans) s = .next t ∧ completes s t d stHostErr 0 0 ∧ sameMem s t) ∧
  -- MEM_WRITE of a worker
  (∀ (d : Desc) (q : Fin 8) (buf : List Word) (ans : List RemAns) (s : State),
      s.starts d 0x01 ∧ d.fits 0x01 = true ∧ s.freeBus ∧ d.len ≤ 4084 ∧ d.len / 4 ≤ buf.length ∧ d.loc % 4 = 0 →
      s.manager = false ∧ s.g F.FAB_ID_VALID = 1 ∧ s.routeTo 0 = some q.val ∧ (s.ngl q).quiet = false ∧
        SMap.get noMsgs s.fb.txq (3 * q + 1) = [] ∧ 1 ≤ s.g (F.FAB_PORT_CRED_CTRL q) ∧ s.pw.owned = false →
      (∀ i, i < d.len / 4 → (memOf (d.loc + 4 * i)).any (fun m => !m.1.isProg) = true) →
      ∃ t, exec (.memWrite buf ans) s = .next t ∧ Out.msg q { s.descEnv d 0 6 with tunnel := true } [d.w 2, d.w 3,
        BitVec.ofNat 32 (d.len / 4)] ∈ t.out ∧ (∀ i, i < d.len / 4 → t.word (d.loc + 4 * i) = buf.getD i 0) ∧
        onlyMem s t d.loc d.len ∧ completes s t d stOk (BitVec.ofNat 32 d.len) 0) ∧
  -- MEM_WRITE past the memories
  (∀ (d : Desc) (buf : List Word) (ans : List RemAns) (n : Nat) (s : State),
      s.starts d 0x01 ∧ d.fits 0x01 = true ∧ s.freeBus ∧ s.hostReach = true ∧ d.len / 4 ≤ buf.length ∧ n < d.len / 4 →
      (d.loc % 4 ≠ 0 ∧ n = 0 ∧ d.loc + d.len ≤ 0x03000000) ∨ (d.loc % 4 = 0 ∧ inAddressMap (d.loc + 4 * n) = false ∧ ∀ i,
        i < n → (memOf (d.loc + 4 * i)).any (fun m => !m.1.isProg) = true) →
      ∃ t, exec (.memWrite buf ans) s = .next t ∧ (∀ i, i < n → t.word (d.loc + 4 * i) = buf.getD i 0) ∧
        onlyMem s t d.loc (4 * n) ∧ completes s t d stAddrErr (BitVec.ofNat 32 (4 * n)) 0) ∧
  -- MEM_WRITE to another device
  (∀ (d : Desc) (buf : List Word) (ans : List RemAns) (j c : Nat) (s : State),
      s.engineNext = some d ∧ d.opcode = 0x01 ∧ d.fits 0x01 = true ∧ d.dev ≠ s.myId ∧ s.freeBus ∧ s.hostReach = true ∧
        d.len / 4 ≤ buf.length →
      s.g F.FAB_ID_VALID = 1 ∧ (s.routeTo d.dev).isSome = true ∧ c = s.chunk true ∧ j ≤ (d.len / 4 + c - 1) / c →
      (∀ i, i < j → ans[i]?.any (fun a => match a with | .ok _ => true | _ => false) = true) →
      j = (d.len / 4 + c - 1) / c ∨ ans[j]?.all (fun a => match a with | .ok _ => false | _ => true) = true →
      ∃ t, exec (.memWrite buf ans) s = .next t ∧
        completes s t d (if j = (d.len / 4 + c - 1) / c then stOk else match ans[j]? with | some .err => stAddrErr | _ => stTimeout) (BitVec.ofNat 32 (min d.len (4 * c * j))) 0 ∧ sameMem s t) ∧
  -- What MEM_WRITE, MEM_READ, REG_WRITE and REG_READ ask of another device
  (∀ (q : Fin 8) (i : Instr) (op : Nat) (buf : List Word) (ans : List RemAns) (an : Option RemAns) (e : Env) (m : List Word) (d : Desc) (s : State),
      (i, op, e, m) ∈ [(Instr.memWrite buf ans, 1, s.descEnv d d.dev 7, BitVec.ofNat 32 (d.len / 4) :: buf.take (d.len / 4)),
        (.memRead ans, 2, s.descEnv d d.dev 6, [BitVec.ofNat 32 (d.len / 4)]), (.regWrite an, 3, s.descEnv d d.dev 7, [1,
        d.arg1]), (.regRead an, 4, s.descEnv d d.dev 6, [1])] →
      s.engineNext = some d ∧ d.opcode = op ∧ d.fits op = true ∧ d.dev ≠ s.myId ∧ d.len ≤ 4084 ∧ d.len / 4 ≤ buf.length ∧
        s.manager = true ∧ s.freeBus →
      s.routeTo d.dev = some q.val ∧ (s.ngl q).quiet = false ∧ SMap.get noMsgs s.fb.txq (3 * q + 1) = [] ∧
        1 ≤ s.g (F.FAB_PORT_CRED_CTRL q) ∧ s.g F.FAB_ID_VALID = 1 ∧ s.pw.owned = false →
      ∃ t, exec i s = .next t ∧ Out.msg q e (d.w 4 :: m) ∈ t.out) ∧
  -- MEM_READ of sound memory
  (∀ (d : Desc) (ans : List RemAns) (s : State),
      s.starts d 0x02 ∧ d.fits 0x02 = true ∧ s.freeBus ∧ d.loc % 4 = 0 →
      (∀ i, i < d.len / 4 → (memOf (d.loc + 4 * i)).any (fun m => !m.1.isProg) = true ∧ s.eccAt (d.loc + 4 * i) ≤ 1) →
      ∃ t, exec (.memRead ans) s = .next t ∧ (s.manager = true → s.g F.HOST_STAT_LINK_UP = 1 → s.pw.owned = false → ∀ k,
        k < (d.len + 4095) / 4096 →
        Out.host (d.hostAddr + 4096 * k) (((List.range (min 1024 (d.len / 4 - 1024 * k))).map (fun i => s.word (d.loc + 4096 * k + 4 * i))).flatMap wordBytes) ∈ t.out) ∧ completes s t d stOk (BitVec.ofNat 32 d.len) 0 ∧ sameMem s t) ∧
  -- MEM_READ past the memories, or of a word that cannot be corrected
  (∀ (d : Desc) (ans : List RemAns) (n : Nat) (s : State),
      s.starts d 0x02 ∧ d.fits 0x02 = true ∧ s.freeBus ∧ n < d.len / 4 →
      (d.loc % 4 ≠ 0 ∧ n = 0 ∧ d.loc + d.len ≤ 0x03000000) ∨ (d.loc % 4 = 0 ∧
        (inAddressMap (d.loc + 4 * n) = false ∨ ((memOf (d.loc + 4 * n)).any (fun m => !m.1.isProg) = true ∧
        2 ≤ s.eccAt (d.loc + 4 * n))) ∧ ∀ i, i < n → (memOf (d.loc + 4 * i)).any (fun m => !m.1.isProg) = true ∧
        s.eccAt (d.loc + 4 * i) ≤ 1) →
      ∃ t, exec (.memRead ans) s = .next t ∧
        completes s t d stAddrErr (BitVec.ofNat 32 (4 * (s.chunk false * (n / s.chunk false)))) 0 ∧ sameMem s t) ∧
  -- MEM_READ of another device
  (∀ (d : Desc) (ans : List RemAns) (j c n : Nat) (s : State),
      s.engineNext = some d ∧ d.opcode = 0x02 ∧ d.fits 0x02 = true ∧ d.dev ≠ s.myId →
      s.g F.FAB_ID_VALID = 1 ∧ (s.routeTo d.dev).isSome = true ∧ c = s.chunk true ∧ n = d.len / 4 ∧ j ≤ (n + c - 1) / c →
      (∀ i, i < j → ans[i]?.any (fun a => match a with | .ok ws => ws.length == min c (n - c * i) | _ => false) = true) →
      j = (n + c - 1) / c ∨ ans[j]?.all (fun a => match a with | .ok _ => false | _ => true) = true →
      ∃ t, exec (.memRead ans) s = .next t ∧ (s.manager = true → s.g F.HOST_STAT_LINK_UP = 1 → s.pw.owned = false → ∀ k,
        k < j →
        Out.host (d.hostAddr + 4 * c * k) ((match ans[k]? with | some (.ok ws) => ws | _ => []).flatMap wordBytes) ∈ t.out) ∧
        completes s t d (if j = (n + c - 1) / c then stOk else match ans[j]? with | some .err => stAddrErr | _ => stTimeout) (BitVec.ofNat 32 (min d.len (4 * c * j))) 0 ∧ sameMem s t) ∧
  -- REG_WRITE to a memory word
  (∀ (d : Desc) (ans : Option RemAns) (s : State),
      s.starts d 0x03 ∧ d.fits 0x03 = true ∧ s.freeBus ∧ d.loc % 4 = 0 ∧ (memOf d.loc).any (fun m => !m.1.isProg) = true →
      ∃ t, exec (.regWrite ans) s = .next t ∧ t.word d.loc = d.arg1 ∧ onlyMem s t d.loc 4 ∧ completes s t d stOk 0 0) ∧
  -- REG_WRITE to any address
  (∀ (d : Desc) (ans : Option RemAns) (r : Nat) (s : State),
      s.starts d 0x03 ∧ d.fits 0x03 = true ∧ s.freeBus ∧ s.stuck Asker.engine.master d.loc 4 = none →
      (s.store (Src.matrix 6) d.loc d.arg1).1.hs = s.hs ∧ (s.store (Src.matrix 6) d.loc d.arg1).1.freeBus ∧
        (∀ r ∈ [R.HOST_CQ_CFG, R.HOST_CQ_HEAD, R.HOST_CQ_TAIL, R.HOST_CQ_BASE_LO, R.HOST_CQ_BASE_HI, R.CHIP_STRAP],
        (s.store (Src.matrix 6) d.loc d.arg1).1.rd r = s.rd r) →
      r / 0x10000 ≠ 0x030C ∧ (s.manager = true ∨ r / 0x10000 ≠ 0x0309) ∧
        (s.store (Src.matrix 6) d.loc d.arg1).1.pw.owned = s.pw.owned ∧
        (s.store (Src.matrix 6) d.loc d.arg1).1.g F.HOST_STAT_LINK_UP = s.g F.HOST_STAT_LINK_UP ∧
        (s.store (Src.matrix 6) d.loc d.arg1).1.myId = s.myId →
      ∃ t, exec (.regWrite ans) s = .next t ∧ t.rd r = (s.writeAt (Src.matrix 6) d.loc d.arg1).rd r ∧
        completes s t d (if (s.store (Src.matrix 6) d.loc d.arg1).2 = .ok 0 then stOk else stAddrErr) 0 0) ∧
  -- REG_READ of an address that answers
  (∀ (d : Desc) (v : Word) (ans : Option RemAns) (s : State),
      s.starts d 0x04 ∧ d.fits 0x04 = true ∧ s.stuck Asker.engine.master d.loc 4 = none ∧
        (s.readAt (Src.matrix 6) d.loc 4 false).2 = .ok v →
      ∃ t, exec (.regRead ans) s = .next t ∧ completes s t d stOk v 0 ∧ sameMem s t) ∧
  -- REG_READ of an address that does not exist
  (∀ (d : Desc) (ans : Option RemAns) (s : State),
      s.starts d 0x04 ∧ d.fits 0x04 = true ∧ s.stuck Asker.engine.master d.loc 4 = none ∧
        (s.readAt (Src.matrix 6) d.loc 4 false).2 = .err →
      ∃ t, exec (.regRead ans) s = .next t ∧ completes s t d stAddrErr 0 0) ∧
  -- REG_WRITE and REG_READ of another device
  (∀ (d : Desc) (i : Instr) (op : Nat) (v : Word) (ans : Option RemAns) (s : State),
      (i, op) ∈ [(Instr.regWrite ans, 3), (.regRead ans, 4)] ∧ s.freeBus →
      s.engineNext = some d ∧ d.opcode = op ∧ d.fits op = true ∧ d.dev ≠ s.myId ∧ s.g F.FAB_ID_VALID = 1 ∧
        (s.routeTo d.dev).isSome = true →
      ans = some (.ok [v]) ∨ (v = 0 ∧ ans.all (fun a => match a with | .ok _ => false | _ => true) = true) →
      ∃ t, exec i s = .next t ∧
        completes s t d (match ans with | some (.ok _) => stOk | some .err => stAddrErr | _ => stTimeout) (if op = 4 then v else 0) 0 ∧ sameMem s t) ∧
  -- Commands to a device without a route
  (∀ (i : Instr) (op : Nat) (buf : List Word) (ans : List RemAns) (an : Option RemAns) (d : Desc) (s : State),
      (i, op) ∈ [(Instr.nopCommand, 0), (.memWrite buf ans, 1), (.memRead ans, 2), (.regWrite an, 3), (.regRead an, 4)] ∧
        op ≠ 0 →
      s.engineNext = some d ∧ d.opcode = op ∧ d.fits op = true ∧ d.dev ≠ s.myId ∧ s.freeBus →
      s.g F.FAB_ID_VALID = 0 ∨ s.routeTo d.dev = none →
      (op = 1 → s.hostReach = true ∧ d.len / 4 ≤ buf.length) →
      ∃ t, exec i s = .next t ∧ completes s t d stNoRoute 0 0 ∧ sameMem s t) ∧
  -- Commands wait while an address hangs
  (∀ (k a : Nat) (i : Instr) (op : Nat) (buf : List Word) (ans : List RemAns) (an : Option RemAns) (d : Desc) (s : State),
      (i, op) ∈ [(Instr.memWrite buf ans, 1), (.memRead ans, 2), (.regWrite an, 3), (.regRead an, 4)] ∧ s.engineNext = some d ∧
        d.opcode = op ∧ d.fits op = true ∧ d.dev = s.myId ∧ s.hs.engErr = [] ∧ s.freeBus →
      (op ≤ 2 ∧ a < d.loc + d.len ∧ d.loc ≤ a ∧ a % 4 = 0 ∧ d.loc % 4 = 0 ∧ ∀ n, n < (a - d.loc) / 4 →
        s.stuck Asker.engine.master (d.loc + 4 * n) 4 = none) ∨ (3 ≤ op ∧ a = d.loc) →
      s.stuck Asker.engine.master a 4 = some k →
      ∃ t, exec i s = .next t ∧ t.mx.hung = [⟨k, a, false, none, 4, .engine⟩] ∧ t.hs = s.hs ∧ t.out = s.out ∧ onlyRegs s t []) ∧
  -- Commands still wait
  (∀ (a : Nat) (i : Instr) (op : Nat) (buf : List Word) (ans : List RemAns) (an : Option RemAns) (d : Desc) (s : State),
      (i, op) ∈ [(Instr.memWrite buf ans, 1), (.memRead ans, 2), (.regWrite an, 3), (.regRead an, 4)] ∧ s.engineNext = some d ∧
        d.opcode = op ∧ d.fits op = true ∧ d.dev = s.myId ∧ s.hs.engErr = [] ∧ s.mx.atoms = [] →
      (op ≤ 2 ∧ a < d.loc + d.len ∧ d.loc ≤ a ∧ a % 4 = 0 ∧ d.loc % 4 = 0) ∨ (3 ≤ op ∧ a = d.loc) →
      s.mx.hung = [⟨(s.farStuck a).getD 36, a, s.mx.hung.any Hung.reported, none, 4, .engine⟩] ∧ (s.farStuck a).isSome = true →
      ∃ t, exec i s = .next t ∧ t = s) ∧
  -- REG_READ and REG_WRITE whose access has ended with an error
  (∀ (d : Desc) (i : Instr) (op : Nat) (ans : Option RemAns) (s : State),
      (i, op) ∈ [(Instr.regWrite ans, 3), (.regRead ans, 4)] ∧ s.freeBus →
      s.engineNext = some d ∧ d.opcode = op ∧ d.fits op = true ∧ d.dev = s.myId ∧ s.hs.engErr.contains d.loc = true →
      ∃ t, exec i s = .next t ∧ completes s t d stAddrErr 0 0 ∧ t.hs.engErr = [] ∧ sameMem s t)

/-- LOAD_PROG stores the buffer in each program memory of its clusters, and ends OK where its CRC is ARG1, else CRC_BAD
with the clusters; with no cluster its CRC is a free value. It waits while one of them is in ENTRY, RUN or DRAIN.
LOAD_TT stores the writable bits of its words in the task table copy that is not in force, and with a target arms it:
OK where it is armed, else REFUSED; while the copy is ARMED it ends ADDR_ERR. LOAD_XING stores the crossing table copy
that is not in force and validates it: OK where no entry fails, else REFUSED; with a target it then arms XING_SWITCH
in the lowest entry of TIME_SCHED that is not armed. LOAD_COEF stores the words in the coefficient set of the task
that is not in force, in each of its clusters, and with a target arms COEF_SWAP; a task that is not valid or whose
crossfade runs is REFUSED, and a lane word that does not exist ends ADDR_ERR. SCHEDULE arms the lowest entry that is
not armed; a target that is too near, a TYPE or ARG that does not suit, or the same action armed twice is REFUSED, and
with every entry armed its results are free values. A buffer that the host does not give whole ends HOST_ERR. A
descriptor that breaks a field rule ends BAD_FIELD, and where the engine starts none of its code a command does
nothing. Completes LOAD_PROG, LOAD_TT, LOAD_XING, LOAD_COEF, SCHEDULE. (R491, R492, R493, R135, R144, R180, R182,
R195, R62) -/
def Obligations.HostLoadsProgramsAndTables : Prop :=
  -- LOAD_PROG
  (∀ (d : Desc) (buf : List Word) (crc : Word) (s : State),
      s.starts d 0x10 ∧ s.hostReach = true ∧ d.fits 0x10 = true ∧ d.len / 4 ≤ buf.length ∧ crc = crc32 (buf.take (d.len / 4)) →
      d.clusters ≠ [] ∧ (∀ c, c ∈ d.clusters → s.g (F.CL_STAT_STATE c) ≤ 2) ∧ s.g F.MEM_INJ_CTL_ARMED = 0 →
      ∃ t, exec (.loadProg buf) s = .next t ∧ (∀ c, c ∈ d.clusters → ∀ i, i < d.len / 4 →
        t.word (progByte c d.loc + 4 * i) = buf.getD i 0) ∧
        completes s t d (if crc = d.arg1 then stOk else stCrcBad) crc (BitVec.ofNat 32 (if crc = d.arg1 then 0 else d.arg0))) ∧
  -- LOAD_PROG of no cluster
  (∀ (d : Desc) (buf : List Word) (s : State),
      s.starts d 0x10 ∧ s.hostReach = true ∧ d.fits 0x10 = true ∧ d.len / 4 ≤ buf.length ∧ d.clusters = [] →
      ∃ t, exec (.loadProg buf) s = .next t ∧ completes s t d stOk (Config.freeWord s.freeCtr) 0 ∧ t.freeCtr = s.freeCtr + 1 ∧
        sameMem s t) ∧
  -- LOAD_PROG waits while a cluster runs
  (∀ (d : Desc) (c : Nat) (buf : List Word) (s : State),
      s.engineNext = some d ∧ d.opcode = 0x10 ∧ c ∈ d.clusters ∧ 3 ≤ s.g (F.CL_STAT_STATE c) →
      ∃ t, exec (.loadProg buf) s = .next t ∧ t = s) ∧
  -- LOAD_TT
  (∀ (d : Desc) (buf : List Word) (s : State),
      s.starts d 0x11 ∧ s.hostReach = true ∧ d.len = 8192 ∧ s.g F.FCST_TT_CTL_STATE ≠ 1 →
      2048 ≤ buf.length →
      ∃ t, exec (.loadTt buf) s = .next t ∧ (∀ i : Fin 2048, (i.val % 16 ≠ 0 ∨ bitsOf (buf.getD i 0) 30 29 ≠ 3) →
        SMap.get zeroW t.fc.tt (2048 * (1 - s.g F.FCST_TT_CTL_SEL) + i) = (buf.getD i 0 &&& ttMask (i.val % 16))) ∧
        t.g F.FCST_TT_CTL_SEL = s.g F.FCST_TT_CTL_SEL ∧ (d.tgt ≠ 0 → t.rd R.FCST_TT_TGT_LO = d.arg1 ∧
        t.rd R.FCST_TT_TGT_HI = d.w 7) ∧
        completes s t d (if d.tgt = 0 ∨ t.g F.FCST_TT_CTL_STATE = 1 then stOk else stRefused) (t.rd R.FCST_TT_CTL) (t.rd R.FCST_TT_ERR) ∧ sameMem s t) ∧
  -- LOAD_TT while the copy is ARMED
  (∀ (d : Desc) (buf : List Word) (s : State),
      s.starts d 0x11 ∧ s.hostReach = true ∧ d.fits 0x11 = true ∧ s.g F.FCST_TT_CTL_STATE = 1 ∧ s.chunk false ≤ buf.length →
      ∃ t, exec (.loadTt buf) s = .next t ∧ t.g F.FCST_STAT_TT_WR_ERR = 1 ∧ t.fc.tt = s.fc.tt ∧
        completes s t d stAddrErr (t.rd R.FCST_TT_CTL) (t.rd R.FCST_TT_ERR) ∧ sameMem s t) ∧
  -- LOAD_XING
  (∀ (d : Desc) (buf : List Word) (s : State),
      s.starts d 0x12 ∧ s.hostReach = true ∧ d.len = 133120  →
      33280 ≤ buf.length →
      ∃ t, exec (.loadXing buf) s = .next t ∧ (∀ i : Fin 32768,
        SMap.get zeroW t.xg.xt (32768 * (1 - s.g F.XING_CTL_SEL) + i) = buf.getD i 0) ∧ (∀ i : Fin 512,
        SMap.get zeroW t.xg.dl (512 * (1 - s.g F.XING_CTL_SEL) + i) = (buf.getD (32768 + i) 0 &&& if i.val % 2 = 0 then 0xB007FFFF#32 else 0x000FFFFF#32)) ∧ t.g F.XING_CTL_SEL = s.g F.XING_CTL_SEL ∧ t.g F.XING_STAT_PSTATE = (if t.xFirstFail (1 - s.g F.XING_CTL_SEL) = none then 1 else 2) ∧ (d.tgt = 0 ∨ t.xFirstFail (1 - s.g F.XING_CTL_SEL) ≠ none → completes s t d (if t.xFirstFail (1 - s.g F.XING_CTL_SEL) = none then stOk else stRefused) (t.rd R.XING_STAT) (t.rd R.XING_ERR)) ∧ (∀ n : Fin 32, s.schedState false n ≠ 1 → (∀ m, m < n.val → s.schedState false m = 1) → d.tgt ≠ 0 → t.xFirstFail (1 - s.g F.XING_CTL_SEL) = none → completes s t d (if s.tick + 2 ≤ d.tgt ∧ s.schedTwice false n 1 0 d.tgt = false then stOk else stRefused) (t.rd R.XING_STAT) (t.rd R.XING_ERR) ∧ t.schedType false n = 1 ∧ t.schedArg false n = 0 ∧ t.schedState false n = (if s.tick + 2 ≤ d.tgt ∧ s.schedTwice false n 1 0 d.tgt = false then 1 else 3) ∧ (s.tick + 2 ≤ d.tgt → s.schedTwice false n 1 0 d.tgt = false → t.armedTgt false n = d.tgt)) ∧ ((∀ m : Fin 32, s.schedState false m = 1) → d.tgt ≠ 0 → completes s t d stRefused (t.rd R.XING_STAT) (t.rd R.XING_ERR)) ∧ sameMem s t) ∧
  -- LOAD_COEF
  (∀ (d : Desc) (buf : List Word) (x : Nat) (s : State),
      s.starts d 0x13 ∧ s.hostReach = true ∧ d.fits 0x13 = true ∧ d.tgt = 0 ∧ d.len / 4 ≤ buf.length →
      s.ttValid s.ttSel d.arg0 = true ∧ s.g (F.XING_CS_XF d.arg0) = 0 ∧
        x = bitsOf (s.ttw s.ttSel d.arg0 (6 + (1 - s.g (F.XING_CS_TARGET d.arg0)))) 19 0 →
      (∀ c, c ∈ s.ttClusters s.ttSel d.arg0 → ∀ i, i < d.len / 4 → (laneByte c (x + i)).isSome = true) →
      ∃ t, exec (.loadCoef buf) s = .next t ∧ (∀ c, c ∈ s.ttClusters s.ttSel d.arg0 → ∀ i, i < d.len / 4 →
        (laneByte c (x + i)).all (fun a => t.word a == buf.getD i 0) = true) ∧
        completes s t d stOk (BitVec.ofNat 32 (1 - s.g (F.XING_CS_TARGET d.arg0))) 0xFFFFFFFF#32) ∧
  -- LOAD_COEF with a target
  (∀ (d : Desc) (buf : List Word) (x : Nat) (n : Fin 32) (ok : Bool) (s : State),
      s.starts d 0x13 ∧ s.hostReach = true ∧ d.fits 0x13 = true ∧ d.tgt ≠ 0 ∧ d.len / 4 ≤ buf.length →
      s.ttValid s.ttSel d.arg0 = true ∧ s.g (F.XING_CS_XF d.arg0) = 0 ∧
        x = bitsOf (s.ttw s.ttSel d.arg0 (6 + (1 - s.g (F.XING_CS_TARGET d.arg0)))) 19 0 →
      (∀ c, c ∈ s.ttClusters s.ttSel d.arg0 → ∀ i, i < d.len / 4 → (laneByte c (x + i)).isSome = true) →
      s.schedState false n ≠ 1 ∧ (∀ m, m < n.val → s.schedState false m = 1) ∧
        ok = (decide (s.tick + 2 ≤ d.tgt) && !s.schedTwice false n 2 d.arg0 d.tgt) →
      ∃ t, exec (.loadCoef buf) s = .next t ∧ (∀ c, c ∈ s.ttClusters s.ttSel d.arg0 → ∀ i, i < d.len / 4 →
        (laneByte c (x + i)).all (fun a => t.word a == buf.getD i 0) = true) ∧ t.schedState false n = (if ok then 1 else 3) ∧
        t.schedType false n = 2 ∧ t.schedArg false n = d.arg0 ∧ (ok = true → t.armedTgt false n = d.tgt) ∧
        completes s t d (if ok then stOk else stRefused) (BitVec.ofNat 32 (1 - s.g (F.XING_CS_TARGET d.arg0))) (BitVec.ofNat 32 n)) ∧
  -- LOAD_COEF past the lane words
  (∀ (d : Desc) (buf : List Word) (x j : Nat) (s : State),
      s.starts d 0x13 ∧ s.hostReach = true ∧ d.fits 0x13 = true ∧ d.len / 4 ≤ buf.length →
      s.ttValid s.ttSel d.arg0 = true ∧ s.g (F.XING_CS_XF d.arg0) = 0 ∧
        x = bitsOf (s.ttw s.ttSel d.arg0 (6 + (1 - s.g (F.XING_CS_TARGET d.arg0)))) 19 0 →
      s.ttClusters s.ttSel d.arg0 ≠ [] ∧ j < d.len / 4 ∧ (∀ c, c ∈ s.ttClusters s.ttSel d.arg0 →
        (laneByte c (x + j)).isNone = true) →
      (∀ c, c ∈ s.ttClusters s.ttSel d.arg0 → ∀ i, i < j → (laneByte c (x + i)).isSome = true) →
      ∃ t, exec (.loadCoef buf) s = .next t ∧ (∀ c, c ∈ s.ttClusters s.ttSel d.arg0 → ∀ i, i < j →
        (laneByte c (x + i)).all (fun a => t.word a == buf.getD i 0) = true) ∧
        completes s t d stAddrErr (BitVec.ofNat 32 (1 - s.g (F.XING_CS_TARGET d.arg0))) 0xFFFFFFFF#32) ∧
  -- LOAD_COEF of a task that is not valid
  (∀ (d : Desc) (buf : List Word) (s : State),
      s.starts d 0x13 ∧ d.fits 0x13 = true →
      s.ttValid s.ttSel d.arg0 = false ∨ s.g (F.XING_CS_XF d.arg0) = 1 →
      ∃ t, exec (.loadCoef buf) s = .next t ∧
        completes s t d stRefused (BitVec.ofNat 32 (1 - s.g (F.XING_CS_TARGET d.arg0))) 0xFFFFFFFF#32 ∧ sameMem s t) ∧
  -- SCHEDULE
  (∀ (d : Desc) (n : Fin 32) (ty : Nat) (s : State),
      s.starts d 0x14 ∧ ty = bitsOf (d.w 4) 3 0 ∧ 1 ≤ ty ∧ ty ≤ 5 ∧ argSuits ty d.arg0 = true ∧ s.tick + 2 ≤ d.tgt →
      s.schedState false n ≠ 1 ∧ (∀ m, m < n.val → s.schedState false m = 1) ∧ s.schedTwice false n ty d.arg0 d.tgt = false →
      ∃ t, exec .schedule s = .next t ∧ t.schedState false n = 1 ∧ t.schedType false n = ty ∧ t.schedArg false n = d.arg0 ∧
        t.armedTgt false n = d.tgt ∧ completes s t d stOk (BitVec.ofNat 32 n) 1 ∧ sameMem s t) ∧
  -- SCHEDULE refused
  (∀ (d : Desc) (n : Fin 32) (ty : Nat) (s : State),
      s.starts d 0x14 ∧ ty = bitsOf (d.w 4) 3 0 →
      d.tgt < s.tick + 2 ∨ ty = 0 ∨ 6 ≤ ty ∨ argSuits ty d.arg0 = false ∨ s.schedTwice false n ty d.arg0 d.tgt = true →
      s.schedState false n ≠ 1 ∧ (∀ m, m < n.val → s.schedState false m = 1) →
      ∃ t, exec .schedule s = .next t ∧ t.schedState false n = 3 ∧ t.g F.TICK_STAT_SCHED_REFUSED = 1 ∧
        completes s t d stRefused (BitVec.ofNat 32 n) 3 ∧ sameMem s t) ∧
  -- SCHEDULE with every entry armed
  (∀ (d : Desc) (s : State),
      s.starts d 0x14 →
      (∀ m : Fin 32, s.schedState false m = 1) →
      ∃ t, exec .schedule s = .next t ∧
        completes s t d stRefused (Config.freeWord s.freeCtr) (Config.freeWord (s.freeCtr + 1)) ∧ sameMem s t) ∧
  -- Commands that break a field rule
  (∀ (i : Instr) (op : Nat) (buf : List Word) (d : Desc) (s : State),
      (i, op) ∈ [(Instr.loadProg buf, 0x10), (.loadTt buf, 0x11), (.loadXing buf, 0x12), (.loadCoef buf, 0x13), (.schedule,
        0x14)] →
      s.misfit d op →
      (op = 0x10 → ∀ c, c ∈ d.clusters → s.g (F.CL_STAT_STATE c) < 3) →
      ∃ t, exec i s = .next t ∧ completes s t d stBadField 0 0 ∧ sameMem s t) ∧
  -- Commands of which the engine starts none
  (∀ (i : Instr) (op : Nat) (buf : List Word) (s : State),
      (i, op) ∈ [(Instr.loadProg buf, 0x10), (.loadTt buf, 0x11), (.loadXing buf, 0x12), (.loadCoef buf, 0x13), (.schedule,
        0x14)] →
      s.engineNext.all (fun d => d.opcode != op) = true →
      ∃ t, exec i s = .next t ∧ t = s) ∧
  -- Commands whose buffer the host does not give whole
  (∀ (i : Instr) (op : Nat) (buf : List Word) (d : Desc) (s : State),
      (i, op) ∈ [(Instr.loadProg buf, 0x10), (.loadTt buf, 0x11), (.loadXing buf, 0x12), (.loadCoef buf, 0x13), (.schedule,
        0x14)] ∧ op ≠ 0x14 ∧ s.starts d op ∧ d.fits op = true ∧ (op = 0x10 → ∀ c, c ∈ d.clusters →
        s.g (F.CL_STAT_STATE c) < 3) →
      (op = 0x11 → s.g F.FCST_TT_CTL_STATE ≠ 1) ∧ (op = 0x13 → s.ttValid s.ttSel d.arg0 = true ∧
        s.g (F.XING_CS_XF d.arg0) = 0) →
      buf.length < min (s.chunk false) (d.len / 4) ∨ (s.hostReach = false ∧ 0 < d.len / 4) →
      ∃ t, exec i s = .next t ∧
        completes s t d stHostErr (match op with | 0x11 => t.rd R.FCST_TT_CTL | 0x12 => t.rd R.XING_STAT | 0x13 => BitVec.ofNat 32 (1 - s.g (F.XING_CS_TARGET d.arg0)) | _ => 0) (match op with | 0x11 => t.rd R.FCST_TT_ERR | 0x12 => t.rd R.XING_ERR | 0x13 => 0xFFFFFFFF#32 | _ => 0) ∧ t.fc.tt = s.fc.tt ∧ t.xg = s.xg ∧ sameMem s t)

/-- FLOW_SET of a context that is not valid writes its registers, with FAB_FLOW_W0 last, and ends with FAB_ERR and
FAB_FLOW_W0: OK, or REFUSED where a rule of the fabric refuses the context or a field is out of range; one that was
valid is cleared first, and the rest follows in a later tick; flow 0 has no context and ends ADDR_ERR; an eighth word
that is not 0 ends BAD_FIELD. LEVEE_SET writes its words to consecutive registers and ends with the number of words of
which a field was refused by the seal or is out of range: OK with none, else REFUSED, as with a refused binding; an
offset without a register ends ADDR_ERR. LEVEE_SEAL seals. METER_SNAP waits for the consign phase and gives the host
the tick number and the words at the addresses, 0 for one whose read fails, which are counted and end ADDR_ERR; it
waits while an address hangs. HEALTH gives the health report of 16 words, a worker's through the tunnel, and
FAULT_FETCH the oldest records, whose read index advances. A list that the host does not give whole ends HOST_ERR, a
descriptor that breaks a field rule ends BAD_FIELD, and where the engine starts none of its code a command does
nothing. Completes FLOW_SET, LEVEE_SET, LEVEE_SEAL, METER_SNAP, HEALTH, FAULT_FETCH. (R491, R492, R393, R233, R235,
R297) -/
def Obligations.HostSetsFlowsAndReadsReports : Prop :=
  -- FLOW_SET of a context that is not valid and stays so
  (∀ (d : Desc) (f : Nat) (buf : List Word) (s : State),
      s.starts d 0x20 ∧ s.hostReach = true ∧ d.fits 0x20 = true ∧ 8 ≤ buf.length ∧ buf.getD 7 0 = 0 ∧ f = bitsOf (d.w 4) 9 0 ∧
        f ≠ 0 ∧ s.g (F.FAB_FLOW_W0_VALID f) = 0 →
      (buf.getD 0 0).getLsbD 31 = false ∧ bitsOf (buf.getD 0 0) 30 29 ≠ 3 ∧ 1 ≤ bitsOf (buf.getD 0 0) 8 0 ∧
        bitsOf (buf.getD 0 0) 8 0 ≤ 256 ∧ bitsOf (buf.getD 3 0) 29 28 ≠ 3 →
      ∃ t, exec (.flowSet buf) s = .next t ∧ t.rd (R.FAB_FLOW_W0 f) = (buf.getD 0 0 &&& 0xEFE001FF#32) ∧
        t.g (F.FAB_FLOW_W1_TX_PORTS f) = (F.FAB_FLOW_W1_TX_PORTS f).of (buf.getD 1 0) ∧
        t.g (F.FAB_FLOW_W1_RX_PORTS f) = (F.FAB_FLOW_W1_RX_PORTS f).of (buf.getD 1 0) ∧
        t.g (F.FAB_FLOW_W2_BUF f) = (F.FAB_FLOW_W2_BUF f).of (buf.getD 2 0) ∧
        t.g (F.BR_CFG_UDP f) = (F.BR_CFG_UDP f).of (buf.getD 3 0) ∧ t.rd (R.BR_ADDR f) = buf.getD 4 0 ∧
        t.rd (R.BR_OFS f) = buf.getD 5 0 ∧ completes s t d stOk (t.rd R.FAB_ERR) (t.rd (R.FAB_FLOW_W0 f)) ∧ sameMem s t) ∧
  -- FLOW_SET of a context that is to be valid
  (∀ (d : Desc) (f : Nat) (buf : List Word) (s : State),
      s.starts d 0x20 ∧ s.hostReach = true ∧ d.fits 0x20 = true ∧ 8 ≤ buf.length ∧ buf.getD 7 0 = 0 ∧ f = bitsOf (d.w 4) 9 0 ∧
        f ≠ 0 ∧ s.g (F.FAB_FLOW_W0_VALID f) = 0 →
      (buf.getD 0 0).getLsbD 31 = true ∧ bitsOf (buf.getD 3 0) 29 28 ≠ 3 →
      ∃ t, exec (.flowSet buf) s = .next t ∧
        t.rd (R.FAB_FLOW_W0 f) = (if t.g (F.FAB_FLOW_W0_VALID f) = 1 then buf.getD 0 0 &&& 0xEFE001FF#32 else s.rd (R.FAB_FLOW_W0 f)) ∧ (t.g (F.FAB_FLOW_W0_VALID f) = 0 → t.g F.FAB_STAT_FLOW_REFUSED = 1 ∧ t.g F.FAB_ERR_FLOW = f) ∧ t.rd (R.BR_ADDR f) = buf.getD 4 0 ∧ t.rd (R.BR_OFS f) = buf.getD 5 0 ∧ completes s t d (if t.g (F.FAB_FLOW_W0_VALID f) = 1 then stOk else stRefused) (t.rd R.FAB_ERR) (t.rd (R.FAB_FLOW_W0 f)) ∧ sameMem s t) ∧
  -- FLOW_SET of a field that is out of range
  (∀ (d : Desc) (f : Nat) (buf : List Word) (s : State),
      s.starts d 0x20 ∧ s.hostReach = true ∧ d.fits 0x20 = true ∧ 8 ≤ buf.length ∧ buf.getD 7 0 = 0 ∧ f = bitsOf (d.w 4) 9 0 ∧
        f ≠ 0 ∧ s.g (F.FAB_FLOW_W0_VALID f) = 0 →
      (buf.getD 0 0).getLsbD 31 = false ∧
        (bitsOf (buf.getD 0 0) 30 29 = 3 ∨ bitsOf (buf.getD 0 0) 8 0 = 0 ∨ 256 < bitsOf (buf.getD 0 0) 8 0) →
      ∃ t, exec (.flowSet buf) s = .next t ∧ t.rd (R.FAB_FLOW_W0 f) = s.rd (R.FAB_FLOW_W0 f) ∧ t.g F.FAB_STAT_CFG_REFUSED = 1 ∧
        completes s t d stRefused (t.rd R.FAB_ERR) (t.rd (R.FAB_FLOW_W0 f)) ∧ sameMem s t) ∧
  -- FLOW_SET of flow 0
  (∀ (d : Desc) (f : Nat) (buf : List Word) (s : State),
      s.starts d 0x20 ∧ s.hostReach = true ∧ d.fits 0x20 = true ∧ 8 ≤ buf.length ∧ buf.getD 7 0 = 0 ∧ f = bitsOf (d.w 4) 9 0 ∧
        f = 0 →
      ∃ t, exec (.flowSet buf) s = .next t ∧ completes s t d stAddrErr (s.rd R.FAB_ERR) 0 ∧ sameMem s t) ∧
  -- FLOW_SET of a valid context
  (∀ (d : Desc) (f : Nat) (buf : List Word) (s : State),
      s.starts d 0x20 ∧ s.hostReach = true ∧ d.fits 0x20 = true ∧ buf.length = 8 ∧ buf.getD 7 0 = 0 ∧ f = bitsOf (d.w 4) 9 0 ∧
        f ≠ 0 ∧ s.g (F.FAB_FLOW_W0_VALID f) = 1 →
      s.rd (R.FAB_FLOW_W0 f) &&& 0xEFE001FF#32 = s.rd (R.FAB_FLOW_W0 f) →
      ∃ t, exec (.flowSet buf) s = .next t ∧ t.g (F.FAB_FLOW_W0_VALID f) = 0 ∧ t.hs.flowWait = some (s.tick, d, buf) ∧
        t.hs.ready = s.hs.ready.erase d ∧ t.rd R.HOST_CQ_TAIL = s.rd R.HOST_CQ_TAIL ∧ sameMem s t) ∧
  -- FLOW_SET that waits, in the same tick
  (∀ (d : Desc) (buf ws : List Word) (s : State),
      s.hs.flowWait = some (s.tick, d, ws) →
      ∃ t, exec (.flowSet buf) s = .next t ∧ t = s) ∧
  -- FLOW_SET that waited, in a later tick
  (∀ (k f : Nat) (d : Desc) (ws buf : List Word) (s : State),
      s.hs.flowWait = some (k, d, ws) ∧ s.tick ≠ k ∧ f = bitsOf (d.w 4) 9 0 ∧ f ≠ 0 ∧ s.g (F.FAB_FLOW_W0_VALID f) = 0 ∧
        s.g F.HOST_CQ_CFG_EN = 1 ∧ 1 ≤ s.g F.HOST_CQ_CFG_SIZE ∧ s.g F.HOST_CQ_CFG_SIZE ≤ 4096 →
      (ws.getD 0 0).getLsbD 31 = false ∧ bitsOf (ws.getD 0 0) 30 29 ≠ 3 ∧ 1 ≤ bitsOf (ws.getD 0 0) 8 0 ∧
        bitsOf (ws.getD 0 0) 8 0 ≤ 256 ∧ bitsOf (ws.getD 3 0) 29 28 ≠ 3 →
      ∃ t, exec (.flowSet buf) s = .next t ∧ t.hs.flowWait = none ∧ t.rd (R.FAB_FLOW_W0 f) = (ws.getD 0 0 &&& 0xEFE001FF#32) ∧
        t.rd (R.BR_ADDR f) = ws.getD 4 0 ∧ ((d.w 0).getLsbD 18 = false →
        t.g F.HOST_CQ_TAIL_TAIL = (s.g F.HOST_CQ_TAIL_TAIL + 1) % s.g F.HOST_CQ_CFG_SIZE) ∧ sameMem s t) ∧
  -- FLOW_SET with an eighth word that is not 0
  (∀ (d : Desc) (buf : List Word) (s : State),
      s.starts d 0x20 ∧ s.hostReach = true ∧ d.fits 0x20 = true ∧ 8 ≤ buf.length ∧ buf.getD 7 0 ≠ 0 →
      ∃ t, exec (.flowSet buf) s = .next t ∧ completes s t d stBadField 0 0 ∧ sameMem s t) ∧
  -- LEVEE_SET of one protection value
  (∀ (d : Desc) (e : Fin 96) (v : Word) (s : State),
      s.starts d 0x30 ∧ s.hostReach = true ∧ d.len = 4 ∧ d.loc = 0x1004 + 64 * e.val ∧ bitsOf v 8 0 ≤ 400 →
      s.g F.LEVEE_SEAL_SEALED = 0 ∨ s.g (F.LEVEE_EL_PEAK_PEAK_ATT e) ≤ bitsOf v 8 0 →
      ∃ t, exec (.leveeSet [v]) s = .next t ∧ t.g (F.LEVEE_EL_PEAK_PEAK_ATT e) = bitsOf v 8 0 ∧
        t.rd R.LEVEE_STAT = s.rd R.LEVEE_STAT ∧ completes s t d stOk 0 (s.rd R.LEVEE_REFUSE_LAST) ∧ sameMem s t) ∧
  -- LEVEE_SET of a protection value that the sealed Levee refuses
  (∀ (d : Desc) (e : Fin 96) (v : Word) (s : State),
      s.starts d 0x30 ∧ s.hostReach = true ∧ d.len = 4 ∧ d.loc = 0x1004 + 64 * e.val ∧ s.g F.LEVEE_SEAL_SEALED = 1 ∧
        bitsOf v 8 0 < s.g (F.LEVEE_EL_PEAK_PEAK_ATT e) ∧ bitsOf v 8 0 ≤ 400 →
      ∃ t, exec (.leveeSet [v]) s = .next t ∧ t.g (F.LEVEE_EL_PEAK_PEAK_ATT e) = s.g (F.LEVEE_EL_PEAK_PEAK_ATT e) ∧
        t.g F.LEVEE_STAT_SEAL_REFUSED = 1 ∧ t.g F.LEVEE_REFUSE_LAST_OFFSET = d.loc ∧
        completes s t d stRefused 1 (t.rd R.LEVEE_REFUSE_LAST) ∧ sameMem s t) ∧
  -- LEVEE_SET of a protection value out of range
  (∀ (d : Desc) (e : Fin 96) (v : Word) (s : State),
      s.starts d 0x30 ∧ s.hostReach = true ∧ d.len = 4 ∧ d.loc = 0x1004 + 64 * e.val ∧ 400 < bitsOf v 8 0 →
      ∃ t, exec (.leveeSet [v]) s = .next t ∧ t.rd (R.LEVEE_EL_PEAK e) = s.rd (R.LEVEE_EL_PEAK e) ∧
        t.g F.LEVEE_STAT_CFG_REFUSED = 1 ∧ completes s t d stRefused 1 (t.rd R.LEVEE_REFUSE_LAST) ∧ sameMem s t) ∧
  -- LEVEE_SET of three consecutive registers
  (∀ (d : Desc) (e : Fin 96) (a b c : Word) (n : Nat) (s : State),
      s.starts d 0x30 ∧ s.hostReach = true ∧ d.len = 12 ∧ d.loc = 0x1018 + 64 * e.val ∧ 1 ≤ bitsOf a 9 0 ∧ bitsOf a 9 0 ≤ 1000 →
      n = (if s.g F.LEVEE_SEAL_SEALED = 1 ∧
        bitsOf a 9 0 < s.g (F.LEVEE_EL_SLEW_SLEW_MS e) then 1 else 0) + (if s.g F.LEVEE_SEAL_SEALED = 1 ∧
        s.g (F.LEVEE_EL_IMAX_I_MAX e) < bitsOf b 23 0 then 1 else 0) + (if s.g F.LEVEE_SEAL_SEALED = 1 ∧
        bitsOf c 23 0 < s.g (F.LEVEE_EL_VKNEE_V_KNEE e) then 1 else 0) →
      ∃ t, exec (.leveeSet [a, b, c]) s = .next t ∧ t.g (F.LEVEE_EL_SLEW_SLEW_MS e) = (if s.g F.LEVEE_SEAL_SEALED = 1 ∧
        bitsOf a 9 0 < s.g (F.LEVEE_EL_SLEW_SLEW_MS e) then s.g (F.LEVEE_EL_SLEW_SLEW_MS e) else bitsOf a 9 0) ∧
        t.g (F.LEVEE_EL_IMAX_I_MAX e) = (if s.g F.LEVEE_SEAL_SEALED = 1 ∧
        s.g (F.LEVEE_EL_IMAX_I_MAX e) < bitsOf b 23 0 then s.g (F.LEVEE_EL_IMAX_I_MAX e) else bitsOf b 23 0) ∧
        t.g (F.LEVEE_EL_VKNEE_V_KNEE e) = (if s.g F.LEVEE_SEAL_SEALED = 1 ∧
        bitsOf c 23 0 < s.g (F.LEVEE_EL_VKNEE_V_KNEE e) then s.g (F.LEVEE_EL_VKNEE_V_KNEE e) else bitsOf c 23 0) ∧
        completes s t d (if n = 0 then stOk else stRefused) (BitVec.ofNat 32 n) (t.rd R.LEVEE_REFUSE_LAST) ∧ sameMem s t) ∧
  -- LEVEE_SET of any one register
  (∀ (d : Desc) (v : Word) (s : State),
      s.starts d 0x30 ∧ s.hostReach = true ∧ d.len = 4 ∧ d.fits 0x30 = true ∧ (regSpecAt (leveeBase + d.loc)).isSome = true →
      ∃ t, exec (.leveeSet [v]) s = .next t ∧ (d.loc ≠ 4 →
        t.rd (leveeBase + d.loc) = ((((s.flag F.LEVEE_STAT_SEAL_REFUSED false).flag F.LEVEE_STAT_CFG_REFUSED false).flag F.LEVEE_STAT_BIND_ERR false).leveeWrite d.loc v).rd (leveeBase + d.loc)) ∧ completes s t d (if ((((s.flag F.LEVEE_STAT_SEAL_REFUSED false).flag F.LEVEE_STAT_CFG_REFUSED false).flag F.LEVEE_STAT_BIND_ERR false).leveeWrite d.loc v).g F.LEVEE_STAT_SEAL_REFUSED = 0 ∧ ((((s.flag F.LEVEE_STAT_SEAL_REFUSED false).flag F.LEVEE_STAT_CFG_REFUSED false).flag F.LEVEE_STAT_BIND_ERR false).leveeWrite d.loc v).g F.LEVEE_STAT_CFG_REFUSED = 0 ∧ ((((s.flag F.LEVEE_STAT_SEAL_REFUSED false).flag F.LEVEE_STAT_CFG_REFUSED false).flag F.LEVEE_STAT_BIND_ERR false).leveeWrite d.loc v).g F.LEVEE_STAT_BIND_ERR = 0 then stOk else stRefused) (if ((((s.flag F.LEVEE_STAT_SEAL_REFUSED false).flag F.LEVEE_STAT_CFG_REFUSED false).flag F.LEVEE_STAT_BIND_ERR false).leveeWrite d.loc v).g F.LEVEE_STAT_SEAL_REFUSED = 0 ∧ ((((s.flag F.LEVEE_STAT_SEAL_REFUSED false).flag F.LEVEE_STAT_CFG_REFUSED false).flag F.LEVEE_STAT_BIND_ERR false).leveeWrite d.loc v).g F.LEVEE_STAT_CFG_REFUSED = 0 then 0 else 1) (((((s.flag F.LEVEE_STAT_SEAL_REFUSED false).flag F.LEVEE_STAT_CFG_REFUSED false).flag F.LEVEE_STAT_BIND_ERR false).leveeWrite d.loc v).rd R.LEVEE_REFUSE_LAST) ∧ sameMem s t) ∧
  -- LEVEE_SET where no register is
  (∀ (d : Desc) (buf : List Word) (s : State),
      s.starts d 0x30 ∧ s.hostReach = true ∧ d.fits 0x30 = true ∧ d.len / 4 ≤ buf.length ∧
        (regSpecAt (leveeBase + d.loc)).isNone = true →
      ∃ t, exec (.leveeSet buf) s = .next t ∧ t.lv = s.lv ∧ t.rd R.LEVEE_STAT = s.rd R.LEVEE_STAT ∧
        completes s t d stAddrErr 0 (s.rd R.LEVEE_REFUSE_LAST) ∧ sameMem s t) ∧
  -- LEVEE_SEAL
  (∀ (d : Desc) (s : State),
      s.starts d 0x31 ∧ d.fits 0x31 = true →
      ∃ t, exec .leveeSeal s = .next t ∧ t.g F.LEVEE_SEAL_SEALED = 1 ∧ t.rd R.LEVEE_STAT = s.rd R.LEVEE_STAT ∧
        completes s t d stOk (t.rd R.LEVEE_SEAL) 0 ∧ sameMem s t) ∧
  -- METER_SNAP of memory words
  (∀ (d : Desc) (buf : List Word) (n : Nat) (s : State),
      s.starts d 0x40 ∧ s.hostReach = true ∧ d.fits 0x40 = true ∧ buf.length = d.len / 4 ∧ s.tm.phase = Phase.consign ∧
        s.freeBus →
      buf.all (fun a => (memOf a.toNat).any (fun m => !m.1.isProg) || !inAddressMap a.toNat || (decide (a.toNat % 4 ≠ 0) && decide (a.toNat < 0x03000000))) = true →
      n = buf.countP (fun a => !(inAddressMap a.toNat && decide (a.toNat % 4 = 0) && decide (s.eccAt a.toNat ≤ 1))) →
      ∃ t, exec (.meterSnap buf) s = .next t ∧ (s.manager = true → s.g F.HOST_STAT_LINK_UP = 1 → s.pw.owned = false →
        Out.host d.target (([s.tm.tick.setWidth 32,
        (s.tm.tick >>> 32).setWidth 32] ++ buf.map (fun a => if inAddressMap a.toNat && decide (a.toNat % 4 = 0) && decide (s.eccAt a.toNat ≤ 1) then s.word a.toNat else 0)).flatMap wordBytes) ∈ t.out) ∧ completes s t d (if n = 0 then stOk else stAddrErr) (s.tm.tick.setWidth 32) (BitVec.ofNat 32 n) ∧ sameMem s t) ∧
  -- METER_SNAP of any one address
  (∀ (d : Desc) (a : Word) (v : Option Word) (s : State),
      s.starts d 0x40 ∧ s.hostReach = true ∧ d.len = 4 ∧ s.tm.phase = Phase.consign ∧
        s.stuck Asker.engine.master a.toNat 4 = none →
      (s.readAt (Src.matrix 6) a.toNat 4 false).2 = (match v with | some x => BusAns.ok x | none => .err) →
      ∃ t, exec (.meterSnap [a]) s = .next t ∧ (s.manager = true → s.g F.HOST_STAT_LINK_UP = 1 → s.pw.owned = false →
        Out.host d.target (([s.tm.tick.setWidth 32,
        (s.tm.tick >>> 32).setWidth 32] ++ [v.getD 0]).flatMap wordBytes) ∈ t.out) ∧
        completes s t d (if v.isSome then stOk else stAddrErr) (s.tm.tick.setWidth 32) (if v.isSome then 0 else 1) ∧
        sameMem s t) ∧
  -- METER_SNAP waits while an address hangs
  (∀ (d : Desc) (a : Word) (k : Nat) (buf : List Word) (s : State),
      s.starts d 0x40 ∧ d.fits 0x40 = true ∧ s.tm.phase = Phase.consign ∧ s.freeBus →
      (buf.take (d.len / 4)).find? (fun b => (s.stuck Asker.engine.master b.toNat 4).isSome) = some a ∧
        s.stuck Asker.engine.master a.toNat 4 = some k →
      ∃ t, exec (.meterSnap buf) s = .next t ∧ t.mx.hung = [⟨k, a.toNat, false, none, 4, .engine⟩] ∧ t.hs = s.hs ∧
        t.out = s.out ∧ onlyRegs s t []) ∧
  -- METER_SNAP before the consign phase
  (∀ (d : Desc) (buf : List Word) (s : State),
      s.engineNext = some d ∧ d.opcode = 0x40 ∧ s.tm.phase ≠ Phase.consign →
      ∃ t, exec (.meterSnap buf) s = .next t ∧ t = s) ∧
  -- HEALTH
  (∀ (d : Desc) (s : State),
      s.starts d 0x50 ∧ d.fits 0x50 = true →
      ∃ t, exec .health s = .next t ∧ (s.manager = true → s.g F.HOST_STAT_LINK_UP = 1 → s.pw.owned = false →
        Out.host d.hostAddr (([s.tm.tick.setWidth 32, (s.tm.tick >>> 32).setWidth 32, s.view R.PAIR_STAT, s.view R.PAIR_HEALTH,
        s.pr.sentHealth, s.view R.PAIR_CNS_SENT, s.view R.PAIR_CNS_ABANDON, s.view R.PAIR_CNS_COMMIT, s.view R.PAIR_CNS_LOST,
        s.view R.PAIR_PASSES, s.view R.PAIR_REPLAY_RUN, s.view R.PAIR_REPLAY_MISMATCH, s.view R.PAIR_REPLAY_NOTRUN,
        s.view R.PAIR_TAKEOVERS, s.rd R.FAULT_SAFE, s.rd R.FAULT_FOREQ] : List Word).flatMap wordBytes) ∈ t.out) ∧
        completes s t d stOk (s.tm.tick.setWidth 32) 0 ∧ sameMem s t) ∧
  -- HEALTH of a worker
  (∀ (d : Desc) (q : Fin 8) (s : State),
      s.starts d 0x50 ∧ d.fits 0x50 = true →
      s.manager = false ∧ s.g F.FAB_ID_VALID = 1 ∧ s.routeTo 0 = some q.val ∧ (s.ngl q).quiet = false ∧
        SMap.get noMsgs s.fb.txq (3 * q + 1) = [] ∧ 1 ≤ s.g (F.FAB_PORT_CRED_CTRL q) ∧ s.pw.owned = false →
      ∃ t, exec .health s = .next t ∧ Out.msg q { s.descEnv d 0 7 with tunnel := true } ([d.w 2, d.w 3,
        16] ++ [s.tm.tick.setWidth 32, (s.tm.tick >>> 32).setWidth 32, s.view R.PAIR_STAT, s.view R.PAIR_HEALTH,
        s.pr.sentHealth, s.view R.PAIR_CNS_SENT, s.view R.PAIR_CNS_ABANDON, s.view R.PAIR_CNS_COMMIT, s.view R.PAIR_CNS_LOST,
        s.view R.PAIR_PASSES, s.view R.PAIR_REPLAY_RUN, s.view R.PAIR_REPLAY_MISMATCH, s.view R.PAIR_REPLAY_NOTRUN,
        s.view R.PAIR_TAKEOVERS, s.rd R.FAULT_SAFE, s.rd R.FAULT_FOREQ]) ∈ t.out ∧
        completes s t d stOk (s.tm.tick.setWidth 32) 0 ∧ sameMem s t) ∧
  -- FAULT_FETCH
  (∀ (d : Desc) (rd k : Nat) (s : State),
      s.starts d 0x51 ∧ d.fits 0x51 = true ∧ rd = s.g F.FAULT_REC_RD_RD ∧
        k = min (d.len / 16) ((s.g F.FAULT_REC_WR_WR + 64 - rd) % 64) →
      ∃ t, exec .faultFetch s = .next t ∧ t.g F.FAULT_REC_RD_RD = (rd + k) % 64 ∧ (k ≠ 0 → s.manager = true →
        s.g F.HOST_STAT_LINK_UP = 1 → s.pw.owned = false →
        Out.host d.hostAddr (((List.range (4 * k)).map (fun i => s.rd (R.FAULT_REC ((4 * rd + i) % 256)))).flatMap wordBytes) ∈ t.out) ∧ completes s t d stOk (BitVec.ofNat 32 k) (t.rd R.FAULT_MERGED_CNT) ∧ sameMem s t) ∧
  -- Commands that break a field rule
  (∀ (i : Instr) (op : Nat) (buf : List Word) (d : Desc) (s : State),
      (i, op) ∈ [(Instr.flowSet buf, 0x20), (.leveeSet buf, 0x30), (.leveeSeal, 0x31), (.meterSnap buf, 0x40), (.health, 0x50),
        (.faultFetch, 0x51)] →
      s.misfit d op →
      (op = 0x40 → s.tm.phase = Phase.consign) →
      ∃ t, exec i s = .next t ∧ completes s t d stBadField 0 0 ∧ sameMem s t) ∧
  -- Commands of which the engine starts none
  (∀ (i : Instr) (op : Nat) (buf : List Word) (s : State),
      (i, op) ∈ [(Instr.flowSet buf, 0x20), (.leveeSet buf, 0x30), (.leveeSeal, 0x31), (.meterSnap buf, 0x40), (.health, 0x50),
        (.faultFetch, 0x51)] →
      s.engineNext.all (fun d => d.opcode != op) = true ∧ (op = 0x20 → s.hs.flowWait = none) →
      ∃ t, exec i s = .next t ∧ t = s) ∧
  -- Commands whose list the host does not give whole
  (∀ (i : Instr) (op : Nat) (buf : List Word) (d : Desc) (s : State),
      (i, op) ∈ [(Instr.flowSet buf, 0x20), (.leveeSet buf, 0x30), (.meterSnap buf, 0x40)] ∧ s.starts d op ∧ d.fits op = true →
      buf.length < d.len / 4 ∨ s.hostReach = false →
      (op = 0x40 → s.tm.phase = Phase.consign ∧ buf.all (fun a => (s.stuck Asker.engine.master a.toNat 4).isNone) = true) →
      ∃ t, exec i s = .next t ∧
        completes s t d stHostErr (if op = 0x20 then s.rd R.FAB_ERR else if op = 0x40 then s.tm.tick.setWidth 32 else 0) (if op = 0x20 then s.rd (R.FAB_FLOW_W0 (bitsOf (d.w 4) 9 0)) else if op = 0x30 then s.rd R.LEVEE_REFUSE_LAST else 0) ∧ sameMem s t)

/-- A power-on reset gives every register its reset value, empties memory and holds the reset; each process target is the
one found, brought within 650 to 850 mV, and the oscillator is 24.576 MHz or 22.5792 MHz where its count lies within
1,000 ppm of it, else unknown. A device reset by the pin, or by a supply at or below 88 percent of its nominal, gives
every register outside the Levee block its reset value but for its cause, the wake vector and the process targets,
keeps the Levee's seal and seal fields, empties memory and is held; while it is held a further cause changes nothing,
but VDD_AON makes a power-on reset. A supply above that level resets nothing. The end of reset latches role and boot
source, shows the fuses, identifies the nominal of each port bank, starts the boot engine and moves every Ngulek port
to WAKING; with TEST_EN high, with a bank outside both ranges or without a reset it does nothing. DORMANT_ENTRY
outside OPERATING with links and Ethernet quiet keeps control memory only and copies the times; otherwise it is
refused. An enabled wake releases the core at the wake vector with memory and times kept, or with TEST_EN high is held
in device reset; any other wake does nothing. Completes POWER_ON_RESET, DEVICE_RESET, RESET_END, DORMANT_ENTRY, WAKE.
(R503, R510, R511, R512, R513, R514, R515, R232) -/
def Obligations.ResetsAndPowerStates : Prop :=
  -- POWER_ON_RESET
  (∀ (tgt : Word) (xo r : Nat) (s : State),
      ∃ t, exec (.powerOnReset tgt xo) s = .next t ∧ t.pw.held = true ∧ t.mem = [] ∧ (∀ n : Fin 3,
        bitsOf (t.rd R.PWR_AVS_TGT) (10 * n + 9) (10 * n) = min 850 (max 650 (bitsOf tgt (10 * n + 9) (10 * n)))) ∧
        t.g F.CLK_STAT_XO = (if (24551424 ≤ xo ∧ xo ≤ 24600576) then 0 else if (22556621 ≤ xo ∧ xo ≤ 22601779) then 1 else 2) ∧
        (r ∉ [R.PWR_AVS_TGT, R.CLK_STAT] → t.rd r = resetWord r) ∧ t.pw.fuse = s.pw.fuse ∧ t.pw.fuseIn = s.pw.fuse ∧
        t.out = s.out) ∧
  -- DEVICE_RESET by RESET_N
  (∀ (uv o : Nat) (s : State),
      s.pw.held = false ∧ Regs.wf s.regs ∧ o < 0x10000 →
      ∃ t, exec (.deviceReset none uv) s = .next t ∧ t.pw.held = true ∧ t.mem = [] ∧ t.g F.PWR_RST_CAUSE_PIN = 1 ∧
        resetBut t [R.PWR_RST_CAUSE, R.PWR_WAKE_VEC, R.PWR_AVS_TGT] ∧ t.rd R.PWR_WAKE_VEC = s.rd R.PWR_WAKE_VEC ∧
        t.rd R.PWR_AVS_TGT = s.rd R.PWR_AVS_TGT ∧ t.rd R.LEVEE_SEAL = s.rd R.LEVEE_SEAL ∧
        (fieldsAt (leveeBase + o)).all (fun f => f.acc != .seal || bitsOf (t.rd (leveeBase + o)) f.hi f.lo == bitsOf (s.rd (leveeBase + o)) f.hi f.lo) = true ∧ t.pw.fuse = s.pw.fuse ∧ t.out = s.out) ∧
  -- DEVICE_RESET by a supply
  (∀ (i : Fin 13) (uv o : Nat) (s : State),
      s.pw.held = false ∧ i ≠ 2 ∧ uv ≤ 880 * s.nominal i ∧ Regs.wf s.regs ∧ o < 0x10000 →
      ∃ t, exec (.deviceReset (some i) uv) s = .next t ∧ t.pw.held = true ∧ t.mem = [] ∧ t.g F.PWR_RST_CAUSE_SUPPLY_RST = 1 ∧
        t.g F.PWR_RST_CAUSE_SUPPLY = i.val ∧ resetBut t [R.PWR_RST_CAUSE, R.PWR_WAKE_VEC, R.PWR_AVS_TGT] ∧
        t.rd R.PWR_WAKE_VEC = s.rd R.PWR_WAKE_VEC ∧ t.rd R.PWR_AVS_TGT = s.rd R.PWR_AVS_TGT ∧
        t.rd R.LEVEE_SEAL = s.rd R.LEVEE_SEAL ∧
        (fieldsAt (leveeBase + o)).all (fun f => f.acc != .seal || bitsOf (t.rd (leveeBase + o)) f.hi f.lo == bitsOf (s.rd (leveeBase + o)) f.hi f.lo) = true ∧ t.pw.fuse = s.pw.fuse ∧ t.out = s.out) ∧
  -- The nominal of each supply
  (∀ (i : Fin 13) (s : State),
      s.nominal i = (if i.val = 0 then s.g F.PWR_AVS_APPLIED_MV else if i.val < 7 then ([800, 800, 900, 1200, 1800,
        3300] : List Nat).getD (i.val - 1) 0 else if s.pw.bank33.testBit (i.val - 7) then 3300 else 1800)) ∧
  -- DEVICE_RESET by VDD_AON is a power-on reset
  (∀ (uv r : Nat) (s : State),
      uv ≤ 880 * 800 →
      ∃ t, exec (.deviceReset (some 2) uv) s = .next t ∧ t.pw.held = true ∧ t.mem = [] ∧ (r ≠ R.PWR_AVS_TGT →
        t.rd r = resetWord r) ∧ t.pw.fuse = s.pw.fuse ∧ t.pw.fuseIn = s.pw.fuse ∧ t.out = s.out) ∧
  -- DEVICE_RESET while a reset is held, or by a supply above its level
  (∀ (i : Option (Fin 13)) (uv : Nat) (s : State),
      (s.pw.held = true ∧ i ≠ some 2) ∨ i.any (fun j => decide (880 * s.nominal j < uv)) = true →
      ∃ t, exec (.deviceReset i uv) s = .next t ∧ t = s) ∧
  -- RESET_END
  (∀ (role : Bool) (src : Fin 4) (xo : Nat) (bs : List Nat) (s : State),
      s.pw.held = true →
      (∀ g : Fin 6, (1710 ≤ bs.getD g 0 ∧ bs.getD g 0 ≤ 1890) ∨ (3135 ≤ bs.getD g 0 ∧ bs.getD g 0 ≤ 3465)) →
      ∃ t, exec (.resetEnd role src xo false bs) s = .next t ∧ t.pw.held = false ∧ t.g F.CHIP_STRAP_ROLE = role.toNat ∧
        t.g F.CHIP_STRAP_BOOT_SRC = src.val ∧ t.g F.CHIP_STRAP_STRAP_CONFLICT = (role && src == 2).toNat ∧
        t.g F.FAB_ID_MANAGER = role.toNat ∧ t.g F.FAB_ID_VALID = role.toNat ∧ t.g F.HOST_CTL_LINK_EN = role.toNat ∧
        t.g F.CLK_STAT_XO = (if (24551424 ≤ xo ∧ xo ≤ 24600576) then 0 else if (22556621 ≤ xo ∧ xo ≤ 22601779) then 1 else 2) ∧
        (∀ i : Fin 5, t.rd (R.PERI_FUSE i) = s.fuseWord i) ∧ (∀ i : Fin 8, t.rd (R.PERI_KEY_HASH i) = s.fuseWord (8 + i)) ∧
        t.rd R.FAB_SERIAL_LO = s.fuseWord 2 ∧ t.rd R.FAB_SERIAL_HI = s.fuseWord 3 ∧ (∀ g : Fin 6,
        t.pw.bank33.testBit g = decide (3135 ≤ bs.getD g 0)) ∧ (∀ p : Fin 8, t.g (F.NGL_STAT_STATE p) = 8) ∧
        t.pw.boot = (if src = 0 then BootPhase.qspi 0 else if src = 3 ∨ (role = true ∧
        src = 2) then BootPhase.uart 0 else BootPhase.wait) ∧ t.out = s.out ∧ t.mem = []) ∧
  -- RESET_END with TEST_EN high, with a bank outside its ranges or without a reset
  (∀ (role te : Bool) (src : Fin 4) (xo : Nat) (bs : List Nat) (s : State),
      s.pw.held = false ∨ te = true ∨ ¬(∀ g : Fin 6, (1710 ≤ bs.getD g 0 ∧ bs.getD g 0 ≤ 1890) ∨ (3135 ≤ bs.getD g 0 ∧
        bs.getD g 0 ≤ 3465)) →
      ∃ t, exec (.resetEnd role src xo te bs) s = .next t ∧ t = s) ∧
  -- DORMANT_ENTRY
  (∀ (v : Word) (s : State),
      s.g F.PWR_STAT_STATE ≠ 2 ∧ (∀ p : Fin 8, (s.g (F.NGL_STAT_STATE p) = 0 ∧
        s.g (F.NGL_CTL_EN p) = 0) ∨ s.g (F.NGL_STAT_STATE p) = 7) ∧ (∀ p : Fin 2, s.g (F.ETH_CTL_EN p) = 0) →
      ∃ t, exec (.dormantEntry v) s = .next t ∧ t.pw.dormant = true ∧ t.pw.aonMtc = s.tm.mtc ∧ t.pw.aonTick = s.tm.tick ∧
        t.mem = s.mem.filter (fun e => decide (e.1 < 0x100000)) ∧ t.g F.PWR_STATE_CTL_WAKE_PIN = bitsOf v 8 8 ∧
        t.g F.PWR_STATE_CTL_WAKE_LINK = bitsOf v 9 9 ∧ t.g F.PWR_STATE_CTL_WAKE_HOST = bitsOf v 10 10 ∧ t.out = s.out ∧
        onlyRegs s { t with mem := s.mem } [R.PWR_STATE_CTL]) ∧
  -- DORMANT_ENTRY in OPERATING, or with a link or an Ethernet port up
  (∀ (v : Word) (s : State),
      s.g F.PWR_STAT_STATE = 2 ∨ ¬((∀ p : Fin 8, (s.g (F.NGL_STAT_STATE p) = 0 ∧
        s.g (F.NGL_CTL_EN p) = 0) ∨ s.g (F.NGL_STAT_STATE p) = 7) ∧ (∀ p : Fin 2, s.g (F.ETH_CTL_EN p) = 0)) →
      ∃ t, exec (.dormantEntry v) s = .next t ∧ t.g F.PWR_EVT_STATE_REFUSED = 1 ∧ t.pw = s.pw ∧ t.out = s.ok.out ∧
        t.g F.PWR_STATE_CTL_WAKE_PIN = bitsOf v 8 8 ∧ t.g F.PWR_STATE_CTL_WAKE_LINK = bitsOf v 9 9 ∧
        t.g F.PWR_STATE_CTL_WAKE_HOST = bitsOf v 10 10 ∧ confined s t [R.PWR_STATE_CTL, R.PWR_EVT]) ∧
  -- WAKE
  (∀ (w : WakeSrc) (role : Bool) (src : Fin 4) (xo : Nat) (s : State),
      s.pw.dormant = true ∧ s.wakeEnabled w = true ∧ Regs.wf s.regs →
      ∃ t, exec (.wake w role src xo false) s = .next t ∧ t.pw.dormant = false ∧ t.pw.held = false ∧
        t.pw.core = some (4 * s.g F.PWR_WAKE_VEC_VEC) ∧ t.mem = s.mem ∧ t.tm.mtc = s.pw.aonMtc ∧ t.tm.tick = s.pw.aonTick ∧
        t.g F.PWR_RST_CAUSE_WAKE = 1 ∧ t.g F.CHIP_STRAP_ROLE = role.toNat ∧ t.g F.CHIP_STRAP_BOOT_SRC = src.val ∧
        t.g F.CLK_STAT_XO = (if (24551424 ≤ xo ∧ xo ≤ 24600576) then 0 else if (22556621 ≤ xo ∧ xo ≤ 22601779) then 1 else 2) ∧
        t.g F.TICK_STAT_RUNNING = 0 ∧ (∀ p : Fin 8, t.g (F.NGL_STAT_STATE p) = 8) ∧ t.rd R.PWR_WAKE_VEC = s.rd R.PWR_WAKE_VEC ∧
        t.out = s.out) ∧
  -- WAKE with TEST_EN high
  (∀ (w : WakeSrc) (role : Bool) (src : Fin 4) (xo : Nat) (s : State),
      s.pw.dormant = true ∧ s.wakeEnabled w = true ∧ Regs.wf s.regs →
      ∃ t, exec (.wake w role src xo true) s = .next t ∧ t.pw.held = true ∧ t.pw.dormant = false ∧ t.pw.core = none ∧
        t.mem = [] ∧ resetBut t [R.PWR_RST_CAUSE, R.PWR_WAKE_VEC, R.PWR_AVS_TGT] ∧ t.out = s.out) ∧
  -- WAKE of a device that is not DORMANT, or by a source that is not enabled
  (∀ (w : WakeSrc) (role te : Bool) (src : Fin 4) (xo : Nat) (s : State),
      s.pw.dormant = false ∨ ((w = .pin → s.g F.PWR_STATE_CTL_WAKE_PIN = 0) ∧ (∀ p : Fin 8, w = .link p →
        s.g F.PWR_STATE_CTL_WAKE_LINK = 0 ∨ s.g (F.NGL_STAT_STATE p) ≠ 7) ∧ (w = .host →
        s.g F.PWR_STATE_CTL_WAKE_HOST = 0 ∨ s.manager = false)) →
      ∃ t, exec (.wake w role src xo te) s = .next t ∧ t = s) ∧
  -- What wakes the device
  (∀ (p : Fin 8) (s : State),
      s.wakeEnabled .pin = decide (s.g F.PWR_STATE_CTL_WAKE_PIN = 1) ∧
        s.wakeEnabled (.link p) = decide (s.g F.PWR_STATE_CTL_WAKE_LINK = 1 ∧ s.g (F.NGL_STAT_STATE p) = 7) ∧
        s.wakeEnabled .host = decide (s.g F.PWR_STATE_CTL_WAKE_HOST = 1 ∧ s.manager = true))

/-- A supply that falls to 93 percent of its nominal sets its bits in WARN and WARN_SEEN, counts, is reported, forces
every task to its lowest tier and starts a forced sweep; VDD_CORE also ends the validity of the current monitor. The
recovery of a supply above 94 percent clears its bit, and that of the last one lets the release begin with the next
tick, unless a sensor loss or the release already under way sets it. A warning already shown, a supply above its
level, or one while the reset is held or in DORMANT changes nothing. AVS_APPLIED_WRITE takes a voltage of 650 to 850
mV that both clock codes permit, and refuses another with CFG_REFUSED. CORE_CLOCK_SELECT takes a code that the applied
voltage permits, at once while no tick runs, and refuses another. A sensor conversion is shown, valid where the sensor
passes and its reading lies between -55 and 150 degrees, with the current and the voltages; a read of a sensor whose
samples do not agree answers the last value read with STALE and is reported. The thermal trip sets TRIP and TRIP_SEEN
and is reported once; its release clears TRIP. Completes SUPPLY_WARN, SUPPLY_RECOVERY, AVS_APPLIED_WRITE,
CORE_CLOCK_SELECT, SENSOR_CONVERSION, THERM_TRIP, THERM_TRIP_RELEASE. (R502, R504, R505, R506, R507, R508, R171, R172) -/
def Obligations.SuppliesClocksAndSensors : Prop :=
  -- SUPPLY_WARN
  (∀ (i : Fin 13) (uv : Nat) (s : State),
      s.pw.held = false ∧ s.pw.dormant = false ∧ (s.g F.PWR_STAT_WARN).testBit i = false ∧ uv ≤ 930 * s.nominal i →
      ∃ t, exec (.supplyWarn i uv) s = .next t ∧ t.g F.PWR_STAT_WARN = (s.g F.PWR_STAT_WARN ||| 2 ^ i.val) ∧
        t.g F.PWR_EVT_WARN_SEEN = (s.g F.PWR_EVT_WARN_SEEN ||| 2 ^ i.val) ∧
        (t.rd R.PWR_WARN_CNT).toNat = min ((s.rd R.PWR_WARN_CNT).toNat + 1) (2 ^ 32 - 1) ∧ t.g F.FCST_STAT_FORCED = 1 ∧
        t.g F.FCST_STAT_FORCE_CAP = 0 ∧ t.fc.supplyLow = true ∧ t.ft.blocks.any (fun m => m.kind == Kind.supplyWarn) = true ∧
        t.pr.forced = true ∧ (i.val = 0 → t.g F.PWR_IMON_VALID = 0 ∧ t.g F.FCST_CAL_MON_VALID = 0) ∧ t.out = s.out ∧
        sameMem s t) ∧
  -- SUPPLY_WARN of one already shown, above its level, or while the device is held or dormant
  (∀ (i : Fin 13) (uv : Nat) (s : State),
      s.pw.held = true ∨ s.pw.dormant = true ∨ (s.g F.PWR_STAT_WARN).testBit i = true ∨ 930 * s.nominal i < uv →
      ∃ t, exec (.supplyWarn i uv) s = .next t ∧ t = s) ∧
  -- SUPPLY_RECOVERY of the last warning
  (∀ (i : Fin 13) (uv : Nat) (s : State),
      s.g F.PWR_STAT_WARN = 2 ^ i.val ∧ 940 * s.nominal i < uv →
      ∃ t, exec (.supplyRecovery i uv) s = .next t ∧ t.g F.PWR_STAT_WARN = 0 ∧
        t.fc = { s.fc with supplyLow := false, relTick := if s.fc.senseLow = true ∨ s.fc.release = true then s.fc.relTick else some (s.tick + 1) } ∧ t.out = s.out ∧ onlyRegs s t [R.PWR_STAT]) ∧
  -- SUPPLY_RECOVERY while another supply is low
  (∀ (i : Fin 13) (uv : Nat) (s : State),
      (s.g F.PWR_STAT_WARN).testBit i = true ∧ s.g F.PWR_STAT_WARN ≠ 2 ^ i.val ∧ 940 * s.nominal i < uv →
      ∃ t, exec (.supplyRecovery i uv) s = .next t ∧ t.g F.PWR_STAT_WARN + 2 ^ i.val = s.g F.PWR_STAT_WARN ∧ t.out = s.out ∧
        confined s t [R.PWR_STAT]) ∧
  -- SUPPLY_RECOVERY without a warning, or not above its level
  (∀ (i : Fin 13) (uv : Nat) (s : State),
      (s.g F.PWR_STAT_WARN).testBit i = false ∨ uv ≤ 940 * s.nominal i →
      ∃ t, exec (.supplyRecovery i uv) s = .next t ∧ t = s) ∧
  -- AVS_APPLIED_WRITE
  (∀ (v : Word) (s : State),
      650 ≤ bitsOf v 9 0 ∧ bitsOf v 9 0 ≤ 850 ∧ s.avsTarget (s.g F.PWR_CLK_CUR) ≤ bitsOf v 9 0 ∧
        s.avsTarget (s.g F.PWR_CLK_SEL) ≤ bitsOf v 9 0 →
      ∃ t, exec (.avsAppliedWrite v) s = .next t ∧ t.g F.PWR_AVS_APPLIED_MV = bitsOf v 9 0 ∧ t.out = s.ok.out ∧
        onlyRegs s t [R.PWR_AVS_APPLIED]) ∧
  -- AVS_APPLIED_WRITE refused
  (∀ (v : Word) (s : State),
      bitsOf v 9 0 < 650 ∨ 850 < bitsOf v 9 0 ∨ bitsOf v 9 0 < s.avsTarget (s.g F.PWR_CLK_CUR) ∨ bitsOf v 9 0 < s.avsTarget (s.g F.PWR_CLK_SEL) →
      ∃ t, exec (.avsAppliedWrite v) s = .next t ∧ t.g F.PWR_EVT_CFG_REFUSED = 1 ∧ t.out = s.ok.out ∧
        onlyRegs s t [R.PWR_EVT]) ∧
  -- CORE_CLOCK_SELECT
  (∀ (v : Word) (s : State),
      bitsOf v 1 0 < 3 ∧ s.avsTarget (bitsOf v 1 0) ≤ s.g F.PWR_AVS_APPLIED_MV →
      ∃ t, exec (.coreClockSelect v) s = .next t ∧ t.g F.PWR_CLK_SEL = bitsOf v 1 0 ∧
        t.g F.PWR_CLK_CUR = (if s.running then s.g F.PWR_CLK_CUR else bitsOf v 1 0) ∧ t.out = s.ok.out ∧
        onlyRegs s t [R.PWR_CLK]) ∧
  -- CORE_CLOCK_SELECT refused
  (∀ (v : Word) (s : State),
      bitsOf v 1 0 = 3 ∨ s.g F.PWR_AVS_APPLIED_MV < s.avsTarget (bitsOf v 1 0) →
      ∃ t, exec (.coreClockSelect v) s = .next t ∧ t.g F.PWR_EVT_CFG_REFUSED = 1 ∧ t.out = s.ok.out ∧
        onlyRegs s t [R.PWR_EVT]) ∧
  -- SENSOR_CONVERSION
  (∀ (i : Fin 8) (x : BitVec 16) (valid : Bool) (ma : BitVec 16) (mv : List (BitVec 16)) (s : State),
      ∃ t, exec (.sensorConversion i x valid ma mv) s = .next t ∧ t.g (F.PWR_TEMP_T i) = x.toNat ∧
        t.g (F.PWR_TEMP_VALID i) = (valid && decide (-55 * 64 ≤ x.toInt ∧ x.toInt ≤ 150 * 64)).toNat ∧
        t.g F.PWR_IMON_MA = ma.toNat ∧ (∀ j : Fin 13, j.val < mv.length → t.rd (R.PWR_VMON j) = (mv.getD j 0).setWidth 32) ∧
        t.out = s.out ∧ confined s t ([R.PWR_TEMP i, R.PWR_IMON] ++ (List.range 13).map R.PWR_VMON)) ∧
  -- A read of a sensor whose samples do not agree
  (∀ (i : Fin 8) (core : Bool) (s : State),
      s.freeBus →
      ∃ t, exec (.latchedLowRead (BitVec.ofNat 32 (R.PWR_TEMP i)) 2 core true) s = .next t ∧
        t.out = s.out ++ [.resp false [putBits (SMap.get zeroW s.pw.tempShown i) 30 30 1]] ∧ t.g (F.PWR_TEMP_STALE i) = 1 ∧
        t.ft.blocks = addMsg s.ft.blocks ⟨R.PWR_TEMP i, 1, Kind.cdcStale, Src.power i⟩ ∧ onlyRegs s t [R.PWR_TEMP i]) ∧
  -- A read of a sensor whose samples agree
  (∀ (i : Fin 8) (core : Bool) (s : State),
      s.freeBus →
      ∃ t, exec (.latchedLowRead (BitVec.ofNat 32 (R.PWR_TEMP i)) 2 core false) s = .next t ∧
        t.out = s.out ++ [.resp false [putBits (s.rd (R.PWR_TEMP i)) 30 30 0]] ∧ t.g (F.PWR_TEMP_STALE i) = 0 ∧
        SMap.get zeroW t.pw.tempShown i = putBits (s.rd (R.PWR_TEMP i)) 30 30 0 ∧ t.ft = s.ft ∧ onlyRegs s t [R.PWR_TEMP i]) ∧
  -- THERM_TRIP
  (∀ (i : Fin 8) (s : State),
      s.g F.PWR_STAT_TRIP = 0 ∧ s.pw.held = false ∧ s.pw.dormant = false →
      ∃ t, exec (.thermTrip i) s = .next t ∧ t.g F.PWR_STAT_TRIP = 1 ∧ t.g F.PWR_EVT_TRIP_SEEN = 1 ∧
        t.ft.blocks.any (fun m => m.kind == Kind.thermTrip) = true ∧ t.out = s.out ∧ onlyRegs s t [R.PWR_STAT, R.PWR_EVT]) ∧
  -- THERM_TRIP that is already shown, or while the device is held or dormant
  (∀ (i : Fin 8) (s : State),
      s.g F.PWR_STAT_TRIP = 1 ∨ s.pw.held = true ∨ s.pw.dormant = true →
      ∃ t, exec (.thermTrip i) s = .next t ∧ t = s) ∧
  -- THERM_TRIP_RELEASE
  (∀ (s : State),
      ∃ t, exec .thermTripRelease s = .next t ∧ t.g F.PWR_STAT_TRIP = 0 ∧ t.out = s.out ∧ onlyRegs s t [R.PWR_STAT])

/-- An image that passes every check, from QSPI, staged after GO or brought by UART recovery, releases the control core at
its ENTRY with DONE set, its version in FAB_FWVER and its sections in memory; a staged one leaves the rest of its own
copy 0. A missing magic or version is reason 1, a header CRC 2, another part or family 3, a length the source cannot
bring 9, an unsigned image under SECURE_BOOT at the latest 6. One that fails shows its first reason and counts an
attempt, and where it fails after it was copied its sections are zeroed: from QSPI the first copy is followed by the
second, the second by UART recovery; after GO the device waits again; UART recovery answers 0x15 and the reason and
begins anew, or 0x06 where it accepts. A source that fails counts as reason 9. BOOT_GO starts the check of a staged
image where the device waits for one. In UART recovery a byte is stored in the staging area, a gap starts anew, and
while nothing has come the device prompts with 0x3F; once an image is whole bytes and gaps change nothing. In any
other phase these do nothing. Completes BOOT_IMAGE_CHECK, BOOT_GO, UART_RECOVERY_BYTE, UART_GAP_TIMEOUT, UART_PROMPT.
(R517, R518, R519, R520, R521) -/
def Obligations.BootImagesAreCheckedAndReleased : Prop :=
  -- BOOT_IMAGE_CHECK of a sound image
  (∀ (n : Nat) (img : List Byte) (s : State),
      s.pw.boot = BootPhase.qspi n ∧ s.imgReason img false = 0 →
      ∃ t, exec (.bootImageCheck img false) s = .next t ∧ t.pw.core = some (imgWord img 12).toNat ∧
        t.pw.boot = BootPhase.done ∧ t.g F.PWR_BOOT_STAT_DONE = 1 ∧ t.g F.PWR_BOOT_STAT_SIGNED = (imgSigned img).toNat ∧
        t.rd R.FAB_FWVER = imgWord img 20 ∧ (∀ x, x ∈ imgTable img → ∀ i, i < x.len / 4 →
        t.word (x.dest + 4 * i) = imgWord img (x.off + 4 * i)) ∧ t.out = s.out) ∧
  -- BOOT_IMAGE_CHECK of an image that fails
  (∀ (n r : Nat) (img : List Byte) (s : State),
      s.pw.boot = BootPhase.qspi n ∧ s.imgReason img false = r ∧ 1 ≤ r ∧ r ≤ 9 →
      ∃ t, exec (.bootImageCheck img false) s = .next t ∧ t.pw.core = s.pw.core ∧
        t.pw.boot = (if n = 0 then BootPhase.qspi 1 else BootPhase.uart 0) ∧ t.g F.PWR_BOOT_STAT_REASON = r ∧
        t.g F.PWR_BOOT_STAT_ATTEMPTS = min (s.g F.PWR_BOOT_STAT_ATTEMPTS + 1) 255 ∧
        t.g F.PWR_BOOT_STAT_DONE = s.g F.PWR_BOOT_STAT_DONE ∧ (n = 0 → t.g F.PWR_BOOT_STAT_COPY = 1) ∧ (n ≠ 0 →
        t.g F.PWR_BOOT_STAT_SRC = 3) ∧ (5 ≤ r ∧ r ≤ 8 → ∀ x, x ∈ imgTable img → ∀ i, i < x.len → t.byte (x.dest + i) = 0) ∧
        (¬(5 ≤ r ∧ r ≤ 8) → sameMem s t) ∧ t.out = s.out ∧ onlyRegs s { t with mem := s.mem } [R.PWR_BOOT_STAT]) ∧
  -- The first failing check
  (∀ (img : List Byte) (st : Bool) (s : State),
      (imgWord img 0 ≠ 0x4D495647#32 ∨ bitsOf (imgWord img 4) 31 16 ≠ 1 → s.imgReason img st = 1) ∧
        (imgWord img 0 = 0x4D495647#32 ∧ bitsOf (imgWord img 4) 31 16 = 1 →
        (imgWord img 60 ≠ crc32 ((List.range 15).map (fun i => imgWord img (4 * i))) → s.imgReason img st = 2) ∧
        (imgWord img 60 = crc32 ((List.range 15).map (fun i => imgWord img (4 * i))) →
        (bitsOf (imgWord img 16) 31 16 ≠ s.g F.CHIP_ID_PART ∨ bitsOf (imgWord img 16) 7 0 ≠ s.g F.CHIP_ID_FAMILY →
        s.imgReason img st = 3) ∧ (bitsOf (imgWord img 16) 31 16 = s.g F.CHIP_ID_PART ∧
        bitsOf (imgWord img 16) 7 0 = s.g F.CHIP_ID_FAMILY →
        ((imgWord img 8).toNat < 64 ∨ img.length < (imgWord img 8).toNat ∨ (if st then 0x200000 else 0x1000000) < (imgWord img 8).toNat → s.imgReason img st = 9) ∧ ((s.fuseWord 4).getLsbD 0 = true ∧ (imgWord img 4).getLsbD 8 = false → s.imgReason img st ∈ [4, 5, 6, 9]))))) ∧
  -- BOOT_IMAGE_CHECK of a source that fails
  (∀ (n : Nat) (img : List Byte) (s : State),
      s.pw.boot = BootPhase.qspi n →
      ∃ t, exec (.bootImageCheck img true) s = .next t ∧ t.pw.core = s.pw.core ∧
        t.pw.boot = (if n = 0 then BootPhase.qspi 1 else BootPhase.uart 0) ∧ t.g F.PWR_BOOT_STAT_REASON = 9 ∧ t.out = s.out ∧
        onlyRegs s t [R.PWR_BOOT_STAT]) ∧
  -- BOOT_IMAGE_CHECK of a staged image that fails
  (∀ (r : Nat) (img b : List Byte) (s : State),
      s.pw.boot = BootPhase.go →
      b = s.stagedImage.2 ∧ r = s.imgReason b true ∧ 1 ≤ r ∧ r ≤ 9 →
      ∃ t, exec (.bootImageCheck img false) s = .next t ∧ t.pw.core = s.pw.core ∧ t.pw.boot = BootPhase.wait ∧
        t.g F.PWR_BOOT_STAT_REASON = r ∧ t.g F.PWR_BOOT_STAT_ATTEMPTS = min (s.g F.PWR_BOOT_STAT_ATTEMPTS + 1) 255 ∧
        t.g F.PWR_BOOT_STAT_DONE = s.g F.PWR_BOOT_STAT_DONE ∧ (if 5 ≤ r ∧
        r ≤ 8 then (imgTable b).all (fun x => (List.range x.len).all (fun i => t.byte (x.dest + i) == 0)) = true else sameMem s t) ∧ t.out = s.out) ∧
  -- BOOT_IMAGE_CHECK of a sound staged image
  (∀ (img b : List Byte) (s : State),
      s.pw.boot = BootPhase.go →
      b = s.stagedImage.2 ∧ s.imgReason b true = 0 →
      ∃ t, exec (.bootImageCheck img false) s = .next t ∧ t.pw.core = some (imgWord b 12).toNat ∧ t.pw.boot = BootPhase.done ∧
        t.g F.PWR_BOOT_STAT_DONE = 1 ∧ t.g F.PWR_BOOT_STAT_SIGNED = (imgSigned b).toNat ∧ t.rd R.FAB_FWVER = imgWord b 20 ∧
        (imgTable b).all (fun x => (List.range (x.len / 4)).all (fun i => t.word (x.dest + 4 * i) == imgWord b (x.off + 4 * i))) = true ∧ (List.range (imgTotal b)).all (fun i => t.byte (stageBase + i) == 0) = true ∧ t.out = s.out) ∧
  -- BOOT_IMAGE_CHECK of a sound image from the UART
  (∀ (n : Nat) (img b : List Byte) (s : State),
      s.pw.boot = BootPhase.uart n ∧ s.uartFull n = true ∧ s.pw.owned = false →
      b = s.stagedImage.2 ∧ s.imgReason b true = 0 →
      ∃ t, exec (.bootImageCheck img false) s = .next t ∧ t.pw.core = some (imgWord b 12).toNat ∧ t.pw.boot = BootPhase.done ∧
        t.g F.PWR_BOOT_STAT_DONE = 1 ∧ t.g F.PWR_BOOT_STAT_SIGNED = (imgSigned b).toNat ∧ t.rd R.FAB_FWVER = imgWord b 20 ∧
        (imgTable b).all (fun x => (List.range (x.len / 4)).all (fun i => t.word (x.dest + 4 * i) == imgWord b (x.off + 4 * i))) = true ∧ (List.range (imgTotal b)).all (fun i => t.byte (stageBase + i) == 0) = true ∧ t.out = s.out ++ [.uart 0x06]) ∧
  -- BOOT_IMAGE_CHECK of an image from the UART that fails
  (∀ (r n : Nat) (img b : List Byte) (s : State),
      s.pw.boot = BootPhase.uart n ∧ s.uartFull n = true ∧ s.pw.owned = false →
      b = s.stagedImage.2 ∧ r = s.imgReason b true ∧ 1 ≤ r ∧ r ≤ 9 →
      ∃ t, exec (.bootImageCheck img false) s = .next t ∧ t.pw.core = s.pw.core ∧ t.pw.boot = BootPhase.uart 0 ∧
        t.g F.PWR_BOOT_STAT_REASON = r ∧ t.g F.PWR_BOOT_STAT_ATTEMPTS = min (s.g F.PWR_BOOT_STAT_ATTEMPTS + 1) 255 ∧
        (if 5 ≤ r ∧
        r ≤ 8 then (imgTable b).all (fun x => (List.range x.len).all (fun i => t.byte (x.dest + i) == 0)) = true else sameMem s t) ∧ t.out = s.out ++ [.uart 0x15, .uart (BitVec.ofNat 8 r)]) ∧
  -- BOOT_IMAGE_CHECK in another phase
  (∀ (img : List Byte) (f : Bool) (s : State),
      (match s.pw.boot with | .qspi _ => false | .go => false | .uart n => !s.uartFull n | _ => true) = true →
      ∃ t, exec (.bootImageCheck img f) s = .next t ∧ t = s) ∧
  -- BOOT_GO
  (∀ (v : Word) (s : State),
      s.pw.boot = BootPhase.wait →
      ∃ t, exec (.bootGo v) s = .next t ∧ t = { s.ok with pw := { s.pw with boot := BootPhase.go } }) ∧
  -- BOOT_GO in another phase
  (∀ (v : Word) (s : State),
      s.pw.boot ≠ BootPhase.wait →
      ∃ t, exec (.bootGo v) s = .next t ∧ t = s.ok) ∧
  -- UART_RECOVERY_BYTE
  (∀ (b : Byte) (n : Nat) (s : State),
      s.pw.boot = BootPhase.uart n ∧ n < 0x200000 ∧ s.uartFull n = false ∧ s.mx.ecc = [] ∧ s.g F.MEM_INJ_CTL_ARMED = 0 →
      ∃ t, exec (.uartRecoveryByte b) s = .next t ∧ t.byte (stageBase + n) = b ∧ t.pw.boot = BootPhase.uart (n + 1) ∧
        t.out = s.out ∧ onlyBytes s t [R.MEM_WAKE_CNT] (stageBase + n) 1) ∧
  -- UART_RECOVERY_BYTE once the image is whole, or in another phase
  (∀ (b : Byte) (s : State),
      (match s.pw.boot with | .uart n => s.uartFull n | _ => true) = true →
      ∃ t, exec (.uartRecoveryByte b) s = .next t ∧ t = s) ∧
  -- UART_GAP_TIMEOUT
  (∀ (n : Nat) (s : State),
      s.pw.boot = BootPhase.uart n ∧ s.uartFull n = false →
      ∃ t, exec .uartGapTimeout s = .next t ∧ t = { s with pw := { s.pw with boot := BootPhase.uart 0 } }) ∧
  -- UART_GAP_TIMEOUT once the image is whole, or in another phase
  (∀ (s : State),
      (match s.pw.boot with | .uart n => s.uartFull n | _ => true) = true →
      ∃ t, exec .uartGapTimeout s = .next t ∧ t = s) ∧
  -- UART_PROMPT
  (∀ (s : State),
      s.pw.boot = BootPhase.uart 0 ∧ s.pw.owned = false →
      ∃ t, exec .uartPrompt s = .next t ∧ t = { s with out := s.out ++ [.uart 0x3F] }) ∧
  -- UART_PROMPT in another phase
  (∀ (s : State),
      s.pw.boot ≠ BootPhase.uart 0 →
      ∃ t, exec .uartPrompt s = .next t ∧ t = s)

/-- An instruction comes into force with nothing else changed but, where it drives from the boundary cells, that these own
the balls. IDCODE gives 0x19664001. FUSE_PROG with VDDIO_18 at 1.71 to 1.89 V, the case at 0 to 85 degrees and
SECURE_BOOT not programmed adds the ones of its word to the fuse word it names, where the device has it, and otherwise
marks the next read bad. FUSE_READ gives the word, with that mark, and clears it. TEST_LOGIC_RESET puts IDCODE in
force. Completes EXTEST, IDCODE, SAMPLE_PRELOAD, EXTEST_PULSE, EXTEST_TRAIN, HIGHZ, CLAMP, BYPASS, FUSE_PROG,
FUSE_READ, TEST_LOGIC_RESET. (R537, R538, R539) -/
def Obligations.TestAccessPortTakesBallsAndFuses : Prop :=
  -- EXTEST
  (∀ (s : State),
      ∃ t, exec .extest s = .next t ∧ t = { s with pw := { s.pw with ir := JtagIr.extest, owned := true } }) ∧
  -- EXTEST_PULSE
  (∀ (s : State),
      ∃ t, exec .extestPulse s = .next t ∧ t = { s with pw := { s.pw with ir := JtagIr.extestPulse, owned := true } }) ∧
  -- EXTEST_TRAIN
  (∀ (s : State),
      ∃ t, exec .extestTrain s = .next t ∧ t = { s with pw := { s.pw with ir := JtagIr.extestTrain, owned := true } }) ∧
  -- HIGHZ
  (∀ (s : State),
      ∃ t, exec .highz s = .next t ∧ t = { s with pw := { s.pw with ir := JtagIr.highz, owned := true } }) ∧
  -- CLAMP
  (∀ (s : State),
      ∃ t, exec .clamp s = .next t ∧ t = { s with pw := { s.pw with ir := JtagIr.clamp, owned := true } }) ∧
  -- SAMPLE_PRELOAD
  (∀ (s : State),
      ∃ t, exec .samplePreload s = .next t ∧ t = { s with pw := { s.pw with ir := JtagIr.samplePreload } }) ∧
  -- BYPASS
  (∀ (s : State),
      ∃ t, exec .bypass s = .next t ∧ t = { s with pw := { s.pw with ir := JtagIr.bypass } }) ∧
  -- IDCODE
  (∀ (s : State),
      ∃ t, exec .idcode s = .next t ∧
        t = { s with out := s.out ++ [.jtag 0x19664001], pw := { s.pw with ir := JtagIr.idcode } }) ∧
  -- FUSE_PROG
  (∀ (n : BitVec 8) (x : BitVec 24) (v : Word) (mv : Nat) (mc : Int) (s : State),
      (n.toNat < 5 ∨ (8 ≤ n.toNat ∧ n.toNat < 16)) ∧ (SMap.get zeroW s.pw.fuse 4).getLsbD 0 = false ∧ 1710 ≤ mv ∧ mv ≤ 1890 ∧
        0 ≤ mc ∧ mc ≤ 85000 →
      ∃ t, exec (.fuseProg (n ++ x ++ v) mv mc) s = .next t ∧
        SMap.get zeroW t.pw.fuse n.toNat = (SMap.get zeroW s.pw.fuse n.toNat ||| v) ∧
        sameButKey zeroW s.pw.fuse t.pw.fuse n.toNat ∧
        t = { s with pw := { s.pw with ir := JtagIr.fuseProg, fuse := t.pw.fuse } }) ∧
  -- FUSE_PROG without its conditions
  (∀ (dr : BitVec 64) (mv : Nat) (mc : Int) (s : State),
      mv < 1710 ∨ 1890 < mv ∨ mc < 0 ∨ 85000 < mc ∨ (SMap.get zeroW s.pw.fuse 4).getLsbD 0 = true ∨ ((dr.extractLsb' 56 8).toNat ∉ [0, 1, 2, 3, 4, 8, 9, 10, 11, 12, 13, 14, 15]) →
      ∃ t, exec (.fuseProg dr mv mc) s = .next t ∧ t = { s with pw := { s.pw with ir := JtagIr.fuseProg, fuseBad := true } }) ∧
  -- FUSE_READ
  (∀ (n : BitVec 8) (s : State),
      ∃ t, exec (.fuseRead n) s = .next t ∧
        t = { s with out := s.out ++ [.jtag ((if s.pw.fuseBad then 2 ^ 63 else 0) + (SMap.get zeroW s.pw.fuse n.toNat).toNat)], pw := { s.pw with ir := JtagIr.fuseRead, fuseBad := false } }) ∧
  -- TEST_LOGIC_RESET
  (∀ (s : State),
      ∃ t, exec .testLogicReset s = .next t ∧ t = { s with pw := { s.pw with ir := JtagIr.idcode } })
end

