-- ==== Sys2Proof/Laws/Bits.lean ====
section
/-!
SUPPORT. Laws of register fields: what a field reads after it, another field or the whole register has been written.
-/
namespace Sys2Proof.Machine

theorem getLsbD_putBits (w : Word) (hi lo v i : Nat) :
    (putBits w hi lo v).getLsbD i =
      (decide (i < 32) && (if lo ≤ i ∧ i < hi + 1 then v.testBit (i - lo) else w.getLsbD i)) := by
  unfold putBits bitMask
  simp only [BitVec.getLsbD_or, BitVec.getLsbD_and, BitVec.getLsbD_not, BitVec.getLsbD_ofNat, Nat.testBit_mul_two_pow,
    Nat.testBit_mod_two_pow, Nat.testBit_two_pow_sub_one]
  by_cases h32 : i < 32
  · by_cases hlo : lo ≤ i
    · by_cases hhi : i < hi + 1
      · have : i - lo < hi + 1 - lo := by omega
        simp [h32, hlo, hhi, this]
      · have : ¬ i - lo < hi + 1 - lo := by omega
        simp [h32, hlo, hhi, this]
    · simp [h32, hlo]
  · simp [h32]

theorem testBit_bitsOf (w : Word) (hi lo i : Nat) :
    (bitsOf w hi lo).testBit i = (decide (i < hi + 1 - lo) && w.getLsbD (i + lo)) := by
  unfold bitsOf
  rw [Nat.testBit_mod_two_pow, Nat.testBit_div_two_pow]
  simp [BitVec.getLsbD, Nat.add_comm]

/-- A field reads back what was put into it. -/
@[simp] theorem bitsOf_putBits (w : Word) (hi lo v : Nat) (h : hi < 32) :
    bitsOf (putBits w hi lo v) hi lo = v % 2 ^ (hi + 1 - lo) := by
  apply Nat.eq_of_testBit_eq
  intro i
  rw [testBit_bitsOf, getLsbD_putBits, Nat.testBit_mod_two_pow]
  by_cases hi' : i < hi + 1 - lo
  · have h1 : i + lo < 32 := by omega
    have h2 : lo ≤ i + lo ∧ i + lo < hi + 1 := by omega
    simp [hi', h1, h2]
  · simp [hi']

/-- Bits outside a field keep their value. -/
theorem bitsOf_putBits_disjoint (w : Word) (hi lo v hi' lo' : Nat) (h : hi' < lo ∨ hi < lo') (h32 : hi' < 32) :
    bitsOf (putBits w hi lo v) hi' lo' = bitsOf w hi' lo' := by
  apply Nat.eq_of_testBit_eq
  intro i
  rw [testBit_bitsOf, testBit_bitsOf, getLsbD_putBits]
  by_cases hi' : i < hi' + 1 - lo'
  · have h1 : i + lo' < 32 := by omega
    have h2 : ¬ (lo ≤ i + lo' ∧ i + lo' < hi + 1) := by omega
    rw [if_neg h2]; simp [h1]
  · simp [hi']

theorem bitsOf_lt (w : Word) (hi lo : Nat) : bitsOf w hi lo < 2 ^ (hi + 1 - lo) :=
  Nat.mod_lt _ (Nat.two_pow_pos _)

/-- The whole register as a field is its value. -/
@[simp] theorem bitsOf_whole (w : Word) : bitsOf w 31 0 = w.toNat := by
  have := w.isLt
  simp [bitsOf, Nat.mod_eq_of_lt this]

@[simp] theorem putBits_whole (w : Word) (v : Nat) : putBits w 31 0 v = BitVec.ofNat 32 v := by
  apply BitVec.eq_of_getLsbD_eq
  intro i hi
  rw [getLsbD_putBits, BitVec.getLsbD_ofNat]
  simp [hi]

end Sys2Proof.Machine
end

