-- ==== Sys2Proof/Laws/SMap.lean ====
section
/-!
SUPPORT. Laws of sparse maps: what a read gives after a write, and that every operation keeps the canonical form.
-/
namespace Sys2Proof.Machine

variable {β : Type}

@[simp] theorem SMap.find_nil (k : Nat) : SMap.find ([] : SMap β) k = none := rfl

@[simp] theorem SMap.get_nil (d : Nat → β) (k : Nat) : SMap.get d ([] : SMap β) k = d k := rfl

theorem SMap.find_erase (m : SMap β) (k j : Nat) :
    SMap.find (SMap.erase m k) j = if j = k then none else SMap.find m j := by
  induction m with
  | nil => simp [SMap.erase]
  | cons e m ih =>
    obtain ⟨a, v⟩ := e
    by_cases ha : a = k
    · subst ha
      simp only [SMap.erase, if_true, ih]
      by_cases hj : j = a
      · simp [hj]
      · simp [SMap.find, hj, Ne.symm hj]
    · by_cases hj : a = j
      · subst hj; simp [SMap.erase, SMap.find, ha]
      · simp [SMap.erase, SMap.find, ha, hj, ih]

theorem SMap.find_insert (m : SMap β) (k : Nat) (v : β) (j : Nat) :
    SMap.find (SMap.insert m k v) j = if j = k then some v else SMap.find m j := by
  induction m with
  | nil => by_cases h : k = j <;> simp [SMap.insert, SMap.find, h, eq_comm]
  | cons e m ih =>
    obtain ⟨a, u⟩ := e
    unfold SMap.insert
    split
    · by_cases h : k = j <;> simp [SMap.find, h, eq_comm]
    · split
      · next h =>
        subst h
        by_cases h : j = a
        · simp [SMap.find, h]
        · simp [SMap.find, h, Ne.symm h]
      · next h1 h2 =>
        by_cases h : a = j
        · subst h; simp [SMap.find, h2]
        · simp [SMap.find, h, ih]

/-- A read after a write: the written key has the value, every other key what it had. -/
@[simp] theorem SMap.get_set [DecidableEq β] (d : Nat → β) (m : SMap β) (k : Nat) (v : β) (j : Nat) :
    SMap.get d (SMap.set d m k v) j = if j = k then v else SMap.get d m j := by
  unfold SMap.get SMap.set
  by_cases h : v = d k
  · by_cases hj : j = k <;> simp [h, SMap.find_erase, hj]
  · by_cases hj : j = k <;> simp [h, SMap.find_insert, hj]

theorem SMap.get_set_self [DecidableEq β] (d : Nat → β) (m : SMap β) (k : Nat) (v : β) :
    SMap.get d (SMap.set d m k v) k = v := by simp

theorem SMap.get_set_ne [DecidableEq β] (d : Nat → β) (m : SMap β) {k j : Nat} (v : β) (h : j ≠ k) :
    SMap.get d (SMap.set d m k v) j = SMap.get d m j := by simp [h]

theorem SMap.risesFrom_mono {m : SMap β} {a b : Nat} (h : a ≤ b) (hm : SMap.risesFrom b m = true) :
    SMap.risesFrom a m = true := by
  cases m with
  | nil => rfl
  | cons e m =>
    simp only [SMap.risesFrom, Bool.and_eq_true, decide_eq_true_eq] at hm ⊢
    exact ⟨by omega, hm.2⟩

theorem SMap.risesFrom_erase {m : SMap β} {lo : Nat} (k : Nat) (h : SMap.risesFrom lo m = true) :
    SMap.risesFrom lo (SMap.erase m k) = true := by
  induction m generalizing lo with
  | nil => rfl
  | cons e m ih =>
    obtain ⟨a, v⟩ := e
    simp only [SMap.risesFrom, Bool.and_eq_true, decide_eq_true_eq] at h
    unfold SMap.erase
    split
    · exact SMap.risesFrom_mono (by omega) (ih h.2)
    · simp [SMap.risesFrom, h.1, ih h.2]

theorem SMap.risesFrom_insert {m : SMap β} {lo : Nat} (k : Nat) (v : β) (hk : lo ≤ k)
    (h : SMap.risesFrom lo m = true) : SMap.risesFrom lo (SMap.insert m k v) = true := by
  induction m generalizing lo with
  | nil => simp [SMap.insert, SMap.risesFrom, hk]
  | cons e m ih =>
    obtain ⟨a, u⟩ := e
    simp only [SMap.risesFrom, Bool.and_eq_true, decide_eq_true_eq] at h
    unfold SMap.insert
    split
    · simp [SMap.risesFrom, hk, h.2]; omega
    · split
      · simp [SMap.risesFrom, hk]; exact SMap.risesFrom_mono (by omega) h.2
      · simp [SMap.risesFrom, h.1]; exact ih (by omega) h.2

theorem SMap.noDefault_erase [DecidableEq β] {d : Nat → β} {m : SMap β} (k : Nat) (h : SMap.noDefault d m = true) :
    SMap.noDefault d (SMap.erase m k) = true := by
  induction m with
  | nil => rfl
  | cons e m ih =>
    obtain ⟨a, v⟩ := e
    simp only [SMap.noDefault, List.all_cons, Bool.and_eq_true] at h
    unfold SMap.erase
    split
    · exact ih h.2
    · simp only [SMap.noDefault, List.all_cons, Bool.and_eq_true]; exact ⟨h.1, ih h.2⟩

theorem SMap.noDefault_insert [DecidableEq β] {d : Nat → β} {m : SMap β} {k : Nat} {v : β} (hv : v ≠ d k)
    (h : SMap.noDefault d m = true) : SMap.noDefault d (SMap.insert m k v) = true := by
  induction m with
  | nil => simp [SMap.insert, SMap.noDefault, hv]
  | cons e m ih =>
    obtain ⟨a, u⟩ := e
    have h2 := h
    simp only [SMap.noDefault, List.all_cons, Bool.and_eq_true] at h2
    unfold SMap.insert
    split
    · simp only [SMap.noDefault, List.all_cons, Bool.and_eq_true]; exact ⟨by simpa using hv, h2⟩
    · split
      · simp only [SMap.noDefault, List.all_cons, Bool.and_eq_true]; exact ⟨by simpa using hv, h2.2⟩
      · simp only [SMap.noDefault, List.all_cons, Bool.and_eq_true]; exact ⟨h2.1, ih h2.2⟩

/-- A write keeps the canonical form. -/
theorem SMap.wf_set [DecidableEq β] {d : Nat → β} {m : SMap β} (k : Nat) (v : β) (h : SMap.wf d m = true) :
    SMap.wf d (SMap.set d m k v) = true := by
  simp only [SMap.wf, Bool.and_eq_true] at h ⊢
  unfold SMap.set
  split
  · exact ⟨SMap.risesFrom_erase k h.1, SMap.noDefault_erase k h.2⟩
  · next hv => exact ⟨SMap.risesFrom_insert k v (Nat.zero_le k) h.1, SMap.noDefault_insert hv h.2⟩

@[simp] theorem SMap.wf_nil [DecidableEq β] (d : Nat → β) : SMap.wf d ([] : SMap β) = true := rfl

end Sys2Proof.Machine
end

