-- ==== Sys2Proof/Laws/State.lean ====
section
/-!
SUPPORT. What each named update of the state changes: one lemma per field per update, and the reads of registers,
fields and memory after them.
-/
namespace Sys2Proof.Machine

variable (s : State)

/-! ## wr -/

@[simp] theorem wr_pending (a : Nat) (v : Word) : (s.wr a v).pending = s.pending := rfl
@[simp] theorem wr_mem (a : Nat) (v : Word) : (s.wr a v).mem = s.mem := rfl
@[simp] theorem wr_latch (a : Nat) (v : Word) : (s.wr a v).latch = s.latch := rfl
@[simp] theorem wr_out (a : Nat) (v : Word) : (s.wr a v).out = s.out := rfl
@[simp] theorem wr_irq (a : Nat) (v : Word) : (s.wr a v).irq = s.irq := rfl
@[simp] theorem wr_cl (a : Nat) (v : Word) : (s.wr a v).cl = s.cl := rfl
@[simp] theorem wr_fc (a : Nat) (v : Word) : (s.wr a v).fc = s.fc := rfl
@[simp] theorem wr_xg (a : Nat) (v : Word) : (s.wr a v).xg = s.xg := rfl
@[simp] theorem wr_tm (a : Nat) (v : Word) : (s.wr a v).tm = s.tm := rfl
@[simp] theorem wr_ft (a : Nat) (v : Word) : (s.wr a v).ft = s.ft := rfl
@[simp] theorem wr_mx (a : Nat) (v : Word) : (s.wr a v).mx = s.mx := rfl
@[simp] theorem wr_pr (a : Nat) (v : Word) : (s.wr a v).pr = s.pr := rfl
@[simp] theorem wr_hs (a : Nat) (v : Word) : (s.wr a v).hs = s.hs := rfl
@[simp] theorem wr_lv (a : Nat) (v : Word) : (s.wr a v).lv = s.lv := rfl
@[simp] theorem wr_sp (a : Nat) (v : Word) : (s.wr a v).sp = s.sp := rfl
@[simp] theorem wr_ng (a : Nat) (v : Word) : (s.wr a v).ng = s.ng := rfl
@[simp] theorem wr_fb (a : Nat) (v : Word) : (s.wr a v).fb = s.fb := rfl
@[simp] theorem wr_et (a : Nat) (v : Word) : (s.wr a v).et = s.et := rfl
@[simp] theorem wr_br (a : Nat) (v : Word) : (s.wr a v).br = s.br := rfl
@[simp] theorem wr_ck (a : Nat) (v : Word) : (s.wr a v).ck = s.ck := rfl
@[simp] theorem wr_pw (a : Nat) (v : Word) : (s.wr a v).pw = s.pw := rfl
@[simp] theorem wr_freeCtr (a : Nat) (v : Word) : (s.wr a v).freeCtr = s.freeCtr := rfl

/-! ## p -/

@[simp] theorem p_pending (f : Fld) (v : Nat) : (s.p f v).pending = s.pending := rfl
@[simp] theorem p_mem (f : Fld) (v : Nat) : (s.p f v).mem = s.mem := rfl
@[simp] theorem p_latch (f : Fld) (v : Nat) : (s.p f v).latch = s.latch := rfl
@[simp] theorem p_out (f : Fld) (v : Nat) : (s.p f v).out = s.out := rfl
@[simp] theorem p_irq (f : Fld) (v : Nat) : (s.p f v).irq = s.irq := rfl
@[simp] theorem p_cl (f : Fld) (v : Nat) : (s.p f v).cl = s.cl := rfl
@[simp] theorem p_fc (f : Fld) (v : Nat) : (s.p f v).fc = s.fc := rfl
@[simp] theorem p_xg (f : Fld) (v : Nat) : (s.p f v).xg = s.xg := rfl
@[simp] theorem p_tm (f : Fld) (v : Nat) : (s.p f v).tm = s.tm := rfl
@[simp] theorem p_ft (f : Fld) (v : Nat) : (s.p f v).ft = s.ft := rfl
@[simp] theorem p_mx (f : Fld) (v : Nat) : (s.p f v).mx = s.mx := rfl
@[simp] theorem p_pr (f : Fld) (v : Nat) : (s.p f v).pr = s.pr := rfl
@[simp] theorem p_hs (f : Fld) (v : Nat) : (s.p f v).hs = s.hs := rfl
@[simp] theorem p_lv (f : Fld) (v : Nat) : (s.p f v).lv = s.lv := rfl
@[simp] theorem p_sp (f : Fld) (v : Nat) : (s.p f v).sp = s.sp := rfl
@[simp] theorem p_ng (f : Fld) (v : Nat) : (s.p f v).ng = s.ng := rfl
@[simp] theorem p_fb (f : Fld) (v : Nat) : (s.p f v).fb = s.fb := rfl
@[simp] theorem p_et (f : Fld) (v : Nat) : (s.p f v).et = s.et := rfl
@[simp] theorem p_br (f : Fld) (v : Nat) : (s.p f v).br = s.br := rfl
@[simp] theorem p_ck (f : Fld) (v : Nat) : (s.p f v).ck = s.ck := rfl
@[simp] theorem p_pw (f : Fld) (v : Nat) : (s.p f v).pw = s.pw := rfl
@[simp] theorem p_freeCtr (f : Fld) (v : Nat) : (s.p f v).freeCtr = s.freeCtr := rfl

/-! ## flag -/

@[simp] theorem flag_pending (f : Fld) (b : Bool) : (s.flag f b).pending = s.pending := rfl
@[simp] theorem flag_mem (f : Fld) (b : Bool) : (s.flag f b).mem = s.mem := rfl
@[simp] theorem flag_latch (f : Fld) (b : Bool) : (s.flag f b).latch = s.latch := rfl
@[simp] theorem flag_out (f : Fld) (b : Bool) : (s.flag f b).out = s.out := rfl
@[simp] theorem flag_irq (f : Fld) (b : Bool) : (s.flag f b).irq = s.irq := rfl
@[simp] theorem flag_cl (f : Fld) (b : Bool) : (s.flag f b).cl = s.cl := rfl
@[simp] theorem flag_fc (f : Fld) (b : Bool) : (s.flag f b).fc = s.fc := rfl
@[simp] theorem flag_xg (f : Fld) (b : Bool) : (s.flag f b).xg = s.xg := rfl
@[simp] theorem flag_tm (f : Fld) (b : Bool) : (s.flag f b).tm = s.tm := rfl
@[simp] theorem flag_ft (f : Fld) (b : Bool) : (s.flag f b).ft = s.ft := rfl
@[simp] theorem flag_mx (f : Fld) (b : Bool) : (s.flag f b).mx = s.mx := rfl
@[simp] theorem flag_pr (f : Fld) (b : Bool) : (s.flag f b).pr = s.pr := rfl
@[simp] theorem flag_hs (f : Fld) (b : Bool) : (s.flag f b).hs = s.hs := rfl
@[simp] theorem flag_lv (f : Fld) (b : Bool) : (s.flag f b).lv = s.lv := rfl
@[simp] theorem flag_sp (f : Fld) (b : Bool) : (s.flag f b).sp = s.sp := rfl
@[simp] theorem flag_ng (f : Fld) (b : Bool) : (s.flag f b).ng = s.ng := rfl
@[simp] theorem flag_fb (f : Fld) (b : Bool) : (s.flag f b).fb = s.fb := rfl
@[simp] theorem flag_et (f : Fld) (b : Bool) : (s.flag f b).et = s.et := rfl
@[simp] theorem flag_br (f : Fld) (b : Bool) : (s.flag f b).br = s.br := rfl
@[simp] theorem flag_ck (f : Fld) (b : Bool) : (s.flag f b).ck = s.ck := rfl
@[simp] theorem flag_pw (f : Fld) (b : Bool) : (s.flag f b).pw = s.pw := rfl
@[simp] theorem flag_freeCtr (f : Fld) (b : Bool) : (s.flag f b).freeCtr = s.freeCtr := rfl

/-! ## bump -/

@[simp] theorem bump_pending (f : Fld) (n : Nat) : (s.bump f n).pending = s.pending := rfl
@[simp] theorem bump_mem (f : Fld) (n : Nat) : (s.bump f n).mem = s.mem := rfl
@[simp] theorem bump_latch (f : Fld) (n : Nat) : (s.bump f n).latch = s.latch := rfl
@[simp] theorem bump_out (f : Fld) (n : Nat) : (s.bump f n).out = s.out := rfl
@[simp] theorem bump_irq (f : Fld) (n : Nat) : (s.bump f n).irq = s.irq := rfl
@[simp] theorem bump_cl (f : Fld) (n : Nat) : (s.bump f n).cl = s.cl := rfl
@[simp] theorem bump_fc (f : Fld) (n : Nat) : (s.bump f n).fc = s.fc := rfl
@[simp] theorem bump_xg (f : Fld) (n : Nat) : (s.bump f n).xg = s.xg := rfl
@[simp] theorem bump_tm (f : Fld) (n : Nat) : (s.bump f n).tm = s.tm := rfl
@[simp] theorem bump_ft (f : Fld) (n : Nat) : (s.bump f n).ft = s.ft := rfl
@[simp] theorem bump_mx (f : Fld) (n : Nat) : (s.bump f n).mx = s.mx := rfl
@[simp] theorem bump_pr (f : Fld) (n : Nat) : (s.bump f n).pr = s.pr := rfl
@[simp] theorem bump_hs (f : Fld) (n : Nat) : (s.bump f n).hs = s.hs := rfl
@[simp] theorem bump_lv (f : Fld) (n : Nat) : (s.bump f n).lv = s.lv := rfl
@[simp] theorem bump_sp (f : Fld) (n : Nat) : (s.bump f n).sp = s.sp := rfl
@[simp] theorem bump_ng (f : Fld) (n : Nat) : (s.bump f n).ng = s.ng := rfl
@[simp] theorem bump_fb (f : Fld) (n : Nat) : (s.bump f n).fb = s.fb := rfl
@[simp] theorem bump_et (f : Fld) (n : Nat) : (s.bump f n).et = s.et := rfl
@[simp] theorem bump_br (f : Fld) (n : Nat) : (s.bump f n).br = s.br := rfl
@[simp] theorem bump_ck (f : Fld) (n : Nat) : (s.bump f n).ck = s.ck := rfl
@[simp] theorem bump_pw (f : Fld) (n : Nat) : (s.bump f n).pw = s.pw := rfl
@[simp] theorem bump_freeCtr (f : Fld) (n : Nat) : (s.bump f n).freeCtr = s.freeCtr := rfl

/-! ## inc -/

@[simp] theorem inc_pending (a n : Nat) : (s.inc a n).pending = s.pending := rfl
@[simp] theorem inc_mem (a n : Nat) : (s.inc a n).mem = s.mem := rfl
@[simp] theorem inc_latch (a n : Nat) : (s.inc a n).latch = s.latch := rfl
@[simp] theorem inc_out (a n : Nat) : (s.inc a n).out = s.out := rfl
@[simp] theorem inc_irq (a n : Nat) : (s.inc a n).irq = s.irq := rfl
@[simp] theorem inc_cl (a n : Nat) : (s.inc a n).cl = s.cl := rfl
@[simp] theorem inc_fc (a n : Nat) : (s.inc a n).fc = s.fc := rfl
@[simp] theorem inc_xg (a n : Nat) : (s.inc a n).xg = s.xg := rfl
@[simp] theorem inc_tm (a n : Nat) : (s.inc a n).tm = s.tm := rfl
@[simp] theorem inc_ft (a n : Nat) : (s.inc a n).ft = s.ft := rfl
@[simp] theorem inc_mx (a n : Nat) : (s.inc a n).mx = s.mx := rfl
@[simp] theorem inc_pr (a n : Nat) : (s.inc a n).pr = s.pr := rfl
@[simp] theorem inc_hs (a n : Nat) : (s.inc a n).hs = s.hs := rfl
@[simp] theorem inc_lv (a n : Nat) : (s.inc a n).lv = s.lv := rfl
@[simp] theorem inc_sp (a n : Nat) : (s.inc a n).sp = s.sp := rfl
@[simp] theorem inc_ng (a n : Nat) : (s.inc a n).ng = s.ng := rfl
@[simp] theorem inc_fb (a n : Nat) : (s.inc a n).fb = s.fb := rfl
@[simp] theorem inc_et (a n : Nat) : (s.inc a n).et = s.et := rfl
@[simp] theorem inc_br (a n : Nat) : (s.inc a n).br = s.br := rfl
@[simp] theorem inc_ck (a n : Nat) : (s.inc a n).ck = s.ck := rfl
@[simp] theorem inc_pw (a n : Nat) : (s.inc a n).pw = s.pw := rfl
@[simp] theorem inc_freeCtr (a n : Nat) : (s.inc a n).freeCtr = s.freeCtr := rfl

/-! ## wr64 -/

@[simp] theorem wr64_pending (lo hi v : Nat) : (s.wr64 lo hi v).pending = s.pending := rfl
@[simp] theorem wr64_mem (lo hi v : Nat) : (s.wr64 lo hi v).mem = s.mem := rfl
@[simp] theorem wr64_latch (lo hi v : Nat) : (s.wr64 lo hi v).latch = s.latch := rfl
@[simp] theorem wr64_out (lo hi v : Nat) : (s.wr64 lo hi v).out = s.out := rfl
@[simp] theorem wr64_irq (lo hi v : Nat) : (s.wr64 lo hi v).irq = s.irq := rfl
@[simp] theorem wr64_cl (lo hi v : Nat) : (s.wr64 lo hi v).cl = s.cl := rfl
@[simp] theorem wr64_fc (lo hi v : Nat) : (s.wr64 lo hi v).fc = s.fc := rfl
@[simp] theorem wr64_xg (lo hi v : Nat) : (s.wr64 lo hi v).xg = s.xg := rfl
@[simp] theorem wr64_tm (lo hi v : Nat) : (s.wr64 lo hi v).tm = s.tm := rfl
@[simp] theorem wr64_ft (lo hi v : Nat) : (s.wr64 lo hi v).ft = s.ft := rfl
@[simp] theorem wr64_mx (lo hi v : Nat) : (s.wr64 lo hi v).mx = s.mx := rfl
@[simp] theorem wr64_pr (lo hi v : Nat) : (s.wr64 lo hi v).pr = s.pr := rfl
@[simp] theorem wr64_hs (lo hi v : Nat) : (s.wr64 lo hi v).hs = s.hs := rfl
@[simp] theorem wr64_lv (lo hi v : Nat) : (s.wr64 lo hi v).lv = s.lv := rfl
@[simp] theorem wr64_sp (lo hi v : Nat) : (s.wr64 lo hi v).sp = s.sp := rfl
@[simp] theorem wr64_ng (lo hi v : Nat) : (s.wr64 lo hi v).ng = s.ng := rfl
@[simp] theorem wr64_fb (lo hi v : Nat) : (s.wr64 lo hi v).fb = s.fb := rfl
@[simp] theorem wr64_et (lo hi v : Nat) : (s.wr64 lo hi v).et = s.et := rfl
@[simp] theorem wr64_br (lo hi v : Nat) : (s.wr64 lo hi v).br = s.br := rfl
@[simp] theorem wr64_ck (lo hi v : Nat) : (s.wr64 lo hi v).ck = s.ck := rfl
@[simp] theorem wr64_pw (lo hi v : Nat) : (s.wr64 lo hi v).pw = s.pw := rfl
@[simp] theorem wr64_freeCtr (lo hi v : Nat) : (s.wr64 lo hi v).freeCtr = s.freeCtr := rfl

/-! ## setByte -/

@[simp] theorem setByte_pending (a : Nat) (v : Byte) : (s.setByte a v).pending = s.pending := rfl
@[simp] theorem setByte_regs (a : Nat) (v : Byte) : (s.setByte a v).regs = s.regs := rfl
@[simp] theorem setByte_latch (a : Nat) (v : Byte) : (s.setByte a v).latch = s.latch := rfl
@[simp] theorem setByte_out (a : Nat) (v : Byte) : (s.setByte a v).out = s.out := rfl
@[simp] theorem setByte_irq (a : Nat) (v : Byte) : (s.setByte a v).irq = s.irq := rfl
@[simp] theorem setByte_cl (a : Nat) (v : Byte) : (s.setByte a v).cl = s.cl := rfl
@[simp] theorem setByte_fc (a : Nat) (v : Byte) : (s.setByte a v).fc = s.fc := rfl
@[simp] theorem setByte_xg (a : Nat) (v : Byte) : (s.setByte a v).xg = s.xg := rfl
@[simp] theorem setByte_tm (a : Nat) (v : Byte) : (s.setByte a v).tm = s.tm := rfl
@[simp] theorem setByte_ft (a : Nat) (v : Byte) : (s.setByte a v).ft = s.ft := rfl
@[simp] theorem setByte_mx (a : Nat) (v : Byte) : (s.setByte a v).mx = s.mx := rfl
@[simp] theorem setByte_pr (a : Nat) (v : Byte) : (s.setByte a v).pr = s.pr := rfl
@[simp] theorem setByte_hs (a : Nat) (v : Byte) : (s.setByte a v).hs = s.hs := rfl
@[simp] theorem setByte_lv (a : Nat) (v : Byte) : (s.setByte a v).lv = s.lv := rfl
@[simp] theorem setByte_sp (a : Nat) (v : Byte) : (s.setByte a v).sp = s.sp := rfl
@[simp] theorem setByte_ng (a : Nat) (v : Byte) : (s.setByte a v).ng = s.ng := rfl
@[simp] theorem setByte_fb (a : Nat) (v : Byte) : (s.setByte a v).fb = s.fb := rfl
@[simp] theorem setByte_et (a : Nat) (v : Byte) : (s.setByte a v).et = s.et := rfl
@[simp] theorem setByte_br (a : Nat) (v : Byte) : (s.setByte a v).br = s.br := rfl
@[simp] theorem setByte_ck (a : Nat) (v : Byte) : (s.setByte a v).ck = s.ck := rfl
@[simp] theorem setByte_pw (a : Nat) (v : Byte) : (s.setByte a v).pw = s.pw := rfl
@[simp] theorem setByte_freeCtr (a : Nat) (v : Byte) : (s.setByte a v).freeCtr = s.freeCtr := rfl

/-! ## setWord -/

@[simp] theorem setWord_pending (a : Nat) (v : Word) : (s.setWord a v).pending = s.pending := rfl
@[simp] theorem setWord_regs (a : Nat) (v : Word) : (s.setWord a v).regs = s.regs := rfl
@[simp] theorem setWord_latch (a : Nat) (v : Word) : (s.setWord a v).latch = s.latch := rfl
@[simp] theorem setWord_out (a : Nat) (v : Word) : (s.setWord a v).out = s.out := rfl
@[simp] theorem setWord_irq (a : Nat) (v : Word) : (s.setWord a v).irq = s.irq := rfl
@[simp] theorem setWord_cl (a : Nat) (v : Word) : (s.setWord a v).cl = s.cl := rfl
@[simp] theorem setWord_fc (a : Nat) (v : Word) : (s.setWord a v).fc = s.fc := rfl
@[simp] theorem setWord_xg (a : Nat) (v : Word) : (s.setWord a v).xg = s.xg := rfl
@[simp] theorem setWord_tm (a : Nat) (v : Word) : (s.setWord a v).tm = s.tm := rfl
@[simp] theorem setWord_ft (a : Nat) (v : Word) : (s.setWord a v).ft = s.ft := rfl
@[simp] theorem setWord_mx (a : Nat) (v : Word) : (s.setWord a v).mx = s.mx := rfl
@[simp] theorem setWord_pr (a : Nat) (v : Word) : (s.setWord a v).pr = s.pr := rfl
@[simp] theorem setWord_hs (a : Nat) (v : Word) : (s.setWord a v).hs = s.hs := rfl
@[simp] theorem setWord_lv (a : Nat) (v : Word) : (s.setWord a v).lv = s.lv := rfl
@[simp] theorem setWord_sp (a : Nat) (v : Word) : (s.setWord a v).sp = s.sp := rfl
@[simp] theorem setWord_ng (a : Nat) (v : Word) : (s.setWord a v).ng = s.ng := rfl
@[simp] theorem setWord_fb (a : Nat) (v : Word) : (s.setWord a v).fb = s.fb := rfl
@[simp] theorem setWord_et (a : Nat) (v : Word) : (s.setWord a v).et = s.et := rfl
@[simp] theorem setWord_br (a : Nat) (v : Word) : (s.setWord a v).br = s.br := rfl
@[simp] theorem setWord_ck (a : Nat) (v : Word) : (s.setWord a v).ck = s.ck := rfl
@[simp] theorem setWord_pw (a : Nat) (v : Word) : (s.setWord a v).pw = s.pw := rfl
@[simp] theorem setWord_freeCtr (a : Nat) (v : Word) : (s.setWord a v).freeCtr = s.freeCtr := rfl

/-! ## setEcc -/

@[simp] theorem setEcc_pending (a n : Nat) : (s.setEcc a n).pending = s.pending := rfl
@[simp] theorem setEcc_regs (a n : Nat) : (s.setEcc a n).regs = s.regs := rfl
@[simp] theorem setEcc_mem (a n : Nat) : (s.setEcc a n).mem = s.mem := rfl
@[simp] theorem setEcc_latch (a n : Nat) : (s.setEcc a n).latch = s.latch := rfl
@[simp] theorem setEcc_out (a n : Nat) : (s.setEcc a n).out = s.out := rfl
@[simp] theorem setEcc_irq (a n : Nat) : (s.setEcc a n).irq = s.irq := rfl
@[simp] theorem setEcc_cl (a n : Nat) : (s.setEcc a n).cl = s.cl := rfl
@[simp] theorem setEcc_fc (a n : Nat) : (s.setEcc a n).fc = s.fc := rfl
@[simp] theorem setEcc_xg (a n : Nat) : (s.setEcc a n).xg = s.xg := rfl
@[simp] theorem setEcc_tm (a n : Nat) : (s.setEcc a n).tm = s.tm := rfl
@[simp] theorem setEcc_ft (a n : Nat) : (s.setEcc a n).ft = s.ft := rfl
@[simp] theorem setEcc_pr (a n : Nat) : (s.setEcc a n).pr = s.pr := rfl
@[simp] theorem setEcc_hs (a n : Nat) : (s.setEcc a n).hs = s.hs := rfl
@[simp] theorem setEcc_lv (a n : Nat) : (s.setEcc a n).lv = s.lv := rfl
@[simp] theorem setEcc_sp (a n : Nat) : (s.setEcc a n).sp = s.sp := rfl
@[simp] theorem setEcc_ng (a n : Nat) : (s.setEcc a n).ng = s.ng := rfl
@[simp] theorem setEcc_fb (a n : Nat) : (s.setEcc a n).fb = s.fb := rfl
@[simp] theorem setEcc_et (a n : Nat) : (s.setEcc a n).et = s.et := rfl
@[simp] theorem setEcc_br (a n : Nat) : (s.setEcc a n).br = s.br := rfl
@[simp] theorem setEcc_ck (a n : Nat) : (s.setEcc a n).ck = s.ck := rfl
@[simp] theorem setEcc_pw (a n : Nat) : (s.setEcc a n).pw = s.pw := rfl
@[simp] theorem setEcc_freeCtr (a n : Nat) : (s.setEcc a n).freeCtr = s.freeCtr := rfl

/-! ## setClu -/

@[simp] theorem setClu_pending (c : Nat) (k : Cluster) : (s.setClu c k).pending = s.pending := rfl
@[simp] theorem setClu_regs (c : Nat) (k : Cluster) : (s.setClu c k).regs = s.regs := rfl
@[simp] theorem setClu_mem (c : Nat) (k : Cluster) : (s.setClu c k).mem = s.mem := rfl
@[simp] theorem setClu_latch (c : Nat) (k : Cluster) : (s.setClu c k).latch = s.latch := rfl
@[simp] theorem setClu_out (c : Nat) (k : Cluster) : (s.setClu c k).out = s.out := rfl
@[simp] theorem setClu_irq (c : Nat) (k : Cluster) : (s.setClu c k).irq = s.irq := rfl
@[simp] theorem setClu_fc (c : Nat) (k : Cluster) : (s.setClu c k).fc = s.fc := rfl
@[simp] theorem setClu_xg (c : Nat) (k : Cluster) : (s.setClu c k).xg = s.xg := rfl
@[simp] theorem setClu_tm (c : Nat) (k : Cluster) : (s.setClu c k).tm = s.tm := rfl
@[simp] theorem setClu_ft (c : Nat) (k : Cluster) : (s.setClu c k).ft = s.ft := rfl
@[simp] theorem setClu_mx (c : Nat) (k : Cluster) : (s.setClu c k).mx = s.mx := rfl
@[simp] theorem setClu_pr (c : Nat) (k : Cluster) : (s.setClu c k).pr = s.pr := rfl
@[simp] theorem setClu_hs (c : Nat) (k : Cluster) : (s.setClu c k).hs = s.hs := rfl
@[simp] theorem setClu_lv (c : Nat) (k : Cluster) : (s.setClu c k).lv = s.lv := rfl
@[simp] theorem setClu_sp (c : Nat) (k : Cluster) : (s.setClu c k).sp = s.sp := rfl
@[simp] theorem setClu_ng (c : Nat) (k : Cluster) : (s.setClu c k).ng = s.ng := rfl
@[simp] theorem setClu_fb (c : Nat) (k : Cluster) : (s.setClu c k).fb = s.fb := rfl
@[simp] theorem setClu_et (c : Nat) (k : Cluster) : (s.setClu c k).et = s.et := rfl
@[simp] theorem setClu_br (c : Nat) (k : Cluster) : (s.setClu c k).br = s.br := rfl
@[simp] theorem setClu_ck (c : Nat) (k : Cluster) : (s.setClu c k).ck = s.ck := rfl
@[simp] theorem setClu_pw (c : Nat) (k : Cluster) : (s.setClu c k).pw = s.pw := rfl
@[simp] theorem setClu_freeCtr (c : Nat) (k : Cluster) : (s.setClu c k).freeCtr = s.freeCtr := rfl

/-! ## emit -/

@[simp] theorem emit_pending (k src a n : Nat) : (s.emit k src a n).pending = s.pending := rfl
@[simp] theorem emit_regs (k src a n : Nat) : (s.emit k src a n).regs = s.regs := rfl
@[simp] theorem emit_mem (k src a n : Nat) : (s.emit k src a n).mem = s.mem := rfl
@[simp] theorem emit_latch (k src a n : Nat) : (s.emit k src a n).latch = s.latch := rfl
@[simp] theorem emit_out (k src a n : Nat) : (s.emit k src a n).out = s.out := rfl
@[simp] theorem emit_irq (k src a n : Nat) : (s.emit k src a n).irq = s.irq := rfl
@[simp] theorem emit_cl (k src a n : Nat) : (s.emit k src a n).cl = s.cl := rfl
@[simp] theorem emit_fc (k src a n : Nat) : (s.emit k src a n).fc = s.fc := rfl
@[simp] theorem emit_xg (k src a n : Nat) : (s.emit k src a n).xg = s.xg := rfl
@[simp] theorem emit_tm (k src a n : Nat) : (s.emit k src a n).tm = s.tm := rfl
@[simp] theorem emit_mx (k src a n : Nat) : (s.emit k src a n).mx = s.mx := rfl
@[simp] theorem emit_pr (k src a n : Nat) : (s.emit k src a n).pr = s.pr := rfl
@[simp] theorem emit_hs (k src a n : Nat) : (s.emit k src a n).hs = s.hs := rfl
@[simp] theorem emit_lv (k src a n : Nat) : (s.emit k src a n).lv = s.lv := rfl
@[simp] theorem emit_sp (k src a n : Nat) : (s.emit k src a n).sp = s.sp := rfl
@[simp] theorem emit_ng (k src a n : Nat) : (s.emit k src a n).ng = s.ng := rfl
@[simp] theorem emit_fb (k src a n : Nat) : (s.emit k src a n).fb = s.fb := rfl
@[simp] theorem emit_et (k src a n : Nat) : (s.emit k src a n).et = s.et := rfl
@[simp] theorem emit_br (k src a n : Nat) : (s.emit k src a n).br = s.br := rfl
@[simp] theorem emit_ck (k src a n : Nat) : (s.emit k src a n).ck = s.ck := rfl
@[simp] theorem emit_pw (k src a n : Nat) : (s.emit k src a n).pw = s.pw := rfl
@[simp] theorem emit_freeCtr (k src a n : Nat) : (s.emit k src a n).freeCtr = s.freeCtr := rfl

/-! ## send -/

@[simp] theorem send_pending (o : Out) : (s.send o).pending = s.pending := by
  unfold State.send; split <;> rfl
@[simp] theorem send_regs (o : Out) : (s.send o).regs = s.regs := by
  unfold State.send; split <;> rfl
@[simp] theorem send_mem (o : Out) : (s.send o).mem = s.mem := by
  unfold State.send; split <;> rfl
@[simp] theorem send_latch (o : Out) : (s.send o).latch = s.latch := by
  unfold State.send; split <;> rfl
@[simp] theorem send_irq (o : Out) : (s.send o).irq = s.irq := by
  unfold State.send; split <;> rfl
@[simp] theorem send_cl (o : Out) : (s.send o).cl = s.cl := by
  unfold State.send; split <;> rfl
@[simp] theorem send_fc (o : Out) : (s.send o).fc = s.fc := by
  unfold State.send; split <;> rfl
@[simp] theorem send_xg (o : Out) : (s.send o).xg = s.xg := by
  unfold State.send; split <;> rfl
@[simp] theorem send_tm (o : Out) : (s.send o).tm = s.tm := by
  unfold State.send; split <;> rfl
@[simp] theorem send_ft (o : Out) : (s.send o).ft = s.ft := by
  unfold State.send; split <;> rfl
@[simp] theorem send_mx (o : Out) : (s.send o).mx = s.mx := by
  unfold State.send; split <;> rfl
@[simp] theorem send_pr (o : Out) : (s.send o).pr = s.pr := by
  unfold State.send; split <;> rfl
@[simp] theorem send_hs (o : Out) : (s.send o).hs = s.hs := by
  unfold State.send; split <;> rfl
@[simp] theorem send_lv (o : Out) : (s.send o).lv = s.lv := by
  unfold State.send; split <;> rfl
@[simp] theorem send_sp (o : Out) : (s.send o).sp = s.sp := by
  unfold State.send; split <;> rfl
@[simp] theorem send_ng (o : Out) : (s.send o).ng = s.ng := by
  unfold State.send; split <;> rfl
@[simp] theorem send_fb (o : Out) : (s.send o).fb = s.fb := by
  unfold State.send; split <;> rfl
@[simp] theorem send_et (o : Out) : (s.send o).et = s.et := by
  unfold State.send; split <;> rfl
@[simp] theorem send_br (o : Out) : (s.send o).br = s.br := by
  unfold State.send; split <;> rfl
@[simp] theorem send_ck (o : Out) : (s.send o).ck = s.ck := by
  unfold State.send; split <;> rfl
@[simp] theorem send_pw (o : Out) : (s.send o).pw = s.pw := by
  unfold State.send; split <;> rfl
@[simp] theorem send_freeCtr (o : Out) : (s.send o).freeCtr = s.freeCtr := by
  unfold State.send; split <;> rfl

/-! ## ok -/

@[simp] theorem ok_pending : (s.ok).pending = s.pending := by
  unfold State.ok State.send; split <;> rfl
@[simp] theorem ok_regs : (s.ok).regs = s.regs := by
  unfold State.ok State.send; split <;> rfl
@[simp] theorem ok_mem : (s.ok).mem = s.mem := by
  unfold State.ok State.send; split <;> rfl
@[simp] theorem ok_latch : (s.ok).latch = s.latch := by
  unfold State.ok State.send; split <;> rfl
@[simp] theorem ok_irq : (s.ok).irq = s.irq := by
  unfold State.ok State.send; split <;> rfl
@[simp] theorem ok_cl : (s.ok).cl = s.cl := by
  unfold State.ok State.send; split <;> rfl
@[simp] theorem ok_fc : (s.ok).fc = s.fc := by
  unfold State.ok State.send; split <;> rfl
@[simp] theorem ok_xg : (s.ok).xg = s.xg := by
  unfold State.ok State.send; split <;> rfl
@[simp] theorem ok_tm : (s.ok).tm = s.tm := by
  unfold State.ok State.send; split <;> rfl
@[simp] theorem ok_ft : (s.ok).ft = s.ft := by
  unfold State.ok State.send; split <;> rfl
@[simp] theorem ok_mx : (s.ok).mx = s.mx := by
  unfold State.ok State.send; split <;> rfl
@[simp] theorem ok_pr : (s.ok).pr = s.pr := by
  unfold State.ok State.send; split <;> rfl
@[simp] theorem ok_hs : (s.ok).hs = s.hs := by
  unfold State.ok State.send; split <;> rfl
@[simp] theorem ok_lv : (s.ok).lv = s.lv := by
  unfold State.ok State.send; split <;> rfl
@[simp] theorem ok_sp : (s.ok).sp = s.sp := by
  unfold State.ok State.send; split <;> rfl
@[simp] theorem ok_ng : (s.ok).ng = s.ng := by
  unfold State.ok State.send; split <;> rfl
@[simp] theorem ok_fb : (s.ok).fb = s.fb := by
  unfold State.ok State.send; split <;> rfl
@[simp] theorem ok_et : (s.ok).et = s.et := by
  unfold State.ok State.send; split <;> rfl
@[simp] theorem ok_br : (s.ok).br = s.br := by
  unfold State.ok State.send; split <;> rfl
@[simp] theorem ok_ck : (s.ok).ck = s.ck := by
  unfold State.ok State.send; split <;> rfl
@[simp] theorem ok_pw : (s.ok).pw = s.pw := by
  unfold State.ok State.send; split <;> rfl
@[simp] theorem ok_freeCtr : (s.ok).freeCtr = s.freeCtr := by
  unfold State.ok State.send; split <;> rfl

/-! ## err -/

@[simp] theorem err_pending : (s.err).pending = s.pending := by
  unfold State.err State.send; split <;> rfl
@[simp] theorem err_regs : (s.err).regs = s.regs := by
  unfold State.err State.send; split <;> rfl
@[simp] theorem err_mem : (s.err).mem = s.mem := by
  unfold State.err State.send; split <;> rfl
@[simp] theorem err_latch : (s.err).latch = s.latch := by
  unfold State.err State.send; split <;> rfl
@[simp] theorem err_irq : (s.err).irq = s.irq := by
  unfold State.err State.send; split <;> rfl
@[simp] theorem err_cl : (s.err).cl = s.cl := by
  unfold State.err State.send; split <;> rfl
@[simp] theorem err_fc : (s.err).fc = s.fc := by
  unfold State.err State.send; split <;> rfl
@[simp] theorem err_xg : (s.err).xg = s.xg := by
  unfold State.err State.send; split <;> rfl
@[simp] theorem err_tm : (s.err).tm = s.tm := by
  unfold State.err State.send; split <;> rfl
@[simp] theorem err_ft : (s.err).ft = s.ft := by
  unfold State.err State.send; split <;> rfl
@[simp] theorem err_mx : (s.err).mx = s.mx := by
  unfold State.err State.send; split <;> rfl
@[simp] theorem err_pr : (s.err).pr = s.pr := by
  unfold State.err State.send; split <;> rfl
@[simp] theorem err_hs : (s.err).hs = s.hs := by
  unfold State.err State.send; split <;> rfl
@[simp] theorem err_lv : (s.err).lv = s.lv := by
  unfold State.err State.send; split <;> rfl
@[simp] theorem err_sp : (s.err).sp = s.sp := by
  unfold State.err State.send; split <;> rfl
@[simp] theorem err_ng : (s.err).ng = s.ng := by
  unfold State.err State.send; split <;> rfl
@[simp] theorem err_fb : (s.err).fb = s.fb := by
  unfold State.err State.send; split <;> rfl
@[simp] theorem err_et : (s.err).et = s.et := by
  unfold State.err State.send; split <;> rfl
@[simp] theorem err_br : (s.err).br = s.br := by
  unfold State.err State.send; split <;> rfl
@[simp] theorem err_ck : (s.err).ck = s.ck := by
  unfold State.err State.send; split <;> rfl
@[simp] theorem err_pw : (s.err).pw = s.pw := by
  unfold State.err State.send; split <;> rfl
@[simp] theorem err_freeCtr : (s.err).freeCtr = s.freeCtr := by
  unfold State.err State.send; split <;> rfl

/-! ## Reads of registers -/

@[simp] theorem rd_wr (a b : Nat) (v : Word) : (s.wr a v).rd b = if b = a then v else s.rd b := by
  simp [State.rd, State.wr]

theorem rd_p (f : Fld) (v b : Nat) :
    (s.p f v).rd b = if b = f.reg then putBits (s.rd f.reg) f.hi f.lo v else s.rd b := by simp [State.p]

/-- A field reads back what is written to it. -/
theorem g_p_self (f : Fld) (v : Nat) (h : f.hi < 32) : (s.p f v).g f = v % 2 ^ (f.hi + 1 - f.lo) := by
  simp [State.g, rd_p, h]

/-- A field of another register is unchanged. -/
theorem g_p_reg (f f' : Fld) (v : Nat) (h : f'.reg ≠ f.reg) : (s.p f v).g f' = s.g f' := by
  simp [State.g, rd_p, h]

/-- Another field of the same register is unchanged. -/
theorem g_p_bits (f f' : Fld) (v : Nat) (h : f'.hi < f.lo ∨ f.hi < f'.lo) (h32 : f'.hi < 32) :
    (s.p f v).g f' = s.g f' := by
  unfold State.g
  rw [rd_p]
  split
  · next e => rw [bitsOf_putBits_disjoint _ _ _ _ _ _ h h32, e]
  · rfl

/-- Updates of other parts leave every register as it is. -/
theorem rd_congr {s t : State} (h : t.regs = s.regs) (a : Nat) : t.rd a = s.rd a := by simp [State.rd, h]

theorem g_congr {s t : State} (h : t.regs = s.regs) (f : Fld) : t.g f = s.g f := by simp [State.g, rd_congr h]

@[simp] theorem rd_setByte (a : Nat) (v : Byte) (x : Nat) : (s.setByte a v).rd x = s.rd x := rd_congr (by simp) x
@[simp] theorem g_setByte (a : Nat) (v : Byte) (x : Fld) : (s.setByte a v).g x = s.g x := g_congr (by simp) x
@[simp] theorem rd_setWord (a : Nat) (v : Word) (x : Nat) : (s.setWord a v).rd x = s.rd x := rd_congr (by simp) x
@[simp] theorem g_setWord (a : Nat) (v : Word) (x : Fld) : (s.setWord a v).g x = s.g x := g_congr (by simp) x
@[simp] theorem rd_setEcc (a n : Nat) (x : Nat) : (s.setEcc a n).rd x = s.rd x := rd_congr (by simp) x
@[simp] theorem g_setEcc (a n : Nat) (x : Fld) : (s.setEcc a n).g x = s.g x := g_congr (by simp) x
@[simp] theorem rd_setClu (c : Nat) (k : Cluster) (x : Nat) : (s.setClu c k).rd x = s.rd x := rd_congr (by simp) x
@[simp] theorem g_setClu (c : Nat) (k : Cluster) (x : Fld) : (s.setClu c k).g x = s.g x := g_congr (by simp) x
@[simp] theorem rd_emit (k src a n : Nat) (x : Nat) : (s.emit k src a n).rd x = s.rd x := rd_congr (by simp) x
@[simp] theorem g_emit (k src a n : Nat) (x : Fld) : (s.emit k src a n).g x = s.g x := g_congr (by simp) x
@[simp] theorem rd_send (o : Out) (x : Nat) : (s.send o).rd x = s.rd x := rd_congr (by simp) x
@[simp] theorem g_send (o : Out) (x : Fld) : (s.send o).g x = s.g x := g_congr (by simp) x
@[simp] theorem rd_ok (x : Nat) : (s.ok).rd x = s.rd x := rd_congr (by simp) x
@[simp] theorem g_ok (x : Fld) : (s.ok).g x = s.g x := g_congr (by simp) x
@[simp] theorem rd_err (x : Nat) : (s.err).rd x = s.rd x := rd_congr (by simp) x
@[simp] theorem g_err (x : Fld) : (s.err).g x = s.g x := g_congr (by simp) x

/-! ## Reads of memory -/

@[simp] theorem byte_setByte (a b : Nat) (v : Byte) : (s.setByte a v).byte b = if b = a then v else s.byte b := by
  simp [State.byte, State.setByte]

theorem byte_congr {s t : State} (h : t.mem = s.mem) (a : Nat) : t.byte a = s.byte a := by simp [State.byte, h]

/-- A stored word leaves every byte outside its four as it is. -/
theorem byte_setWord_ne (a b : Nat) (v : Word) (h : b < a ∨ a + 4 ≤ b) : (s.setWord a v).byte b = s.byte b := by
  have h0 : b ≠ a := by omega
  have h1 : b ≠ a + 1 := by omega
  have h2 : b ≠ a + 2 := by omega
  have h3 : b ≠ a + 3 := by omega
  simp [State.setWord, h0, h1, h2, h3]

/-- A stored word reads back. -/
theorem word_setWord (a : Nat) (v : Word) : (s.setWord a v).word a = v := by
  have e : (s.setWord a v).word a = v.extractLsb' 24 8 ++ v.extractLsb' 16 8 ++ v.extractLsb' 8 8 ++ v.extractLsb' 0 8 := by
    simp [State.word, State.setWord]
  rw [e]
  apply BitVec.eq_of_getLsbD_eq
  intro i hi
  simp only [BitVec.getLsbD_append, BitVec.getLsbD_extractLsb']
  by_cases h0 : i < 8
  · simp [h0]
  · by_cases h1 : i < 16
    · simp [h0, show i - 8 < 8 by omega, show 8 + (i - 8) = i by omega]
    · by_cases h2 : i < 24
      · simp [h0, show ¬ i - 8 < 8 by omega, show i - 8 - 8 < 8 by omega, show 16 + (i - 8 - 8) = i by omega]
      · simp [h0, show ¬ i - 8 < 8 by omega, show ¬ i - 8 - 8 < 8 by omega, show i - 8 - 8 - 8 < 8 by omega,
          show 24 + (i - 8 - 8 - 8) = i by omega]

end Sys2Proof.Machine
end

