-- ==== Sys2Proof/Laws/Memory.lean ====
section
/-!
SUPPORT. The memory and the register store keep their canonical form under every operation that writes them.
-/
namespace Sys2Proof.Machine

variable {s : State}

theorem wf_setByte (a : Nat) (v : Byte) (h : Memory.wf s.mem) : Memory.wf (s.setByte a v).mem := SMap.wf_set a v h

theorem wf_setWord (a : Nat) (v : Word) (h : Memory.wf s.mem) : Memory.wf (s.setWord a v).mem :=
  wf_setByte _ _ (wf_setByte _ _ (wf_setByte _ _ (wf_setByte _ _ h)))

theorem wf_wr (a : Nat) (v : Word) (h : Regs.wf s.regs) : Regs.wf (s.wr a v).regs := SMap.wf_set a v h

theorem inv_wr (a : Nat) (v : Word) (h : s.inv) : (s.wr a v).inv := ⟨h.1, wf_wr a v h.2⟩

theorem inv_p (f : Fld) (v : Nat) (h : s.inv) : (s.p f v).inv := inv_wr _ _ h

theorem inv_flag (f : Fld) (b : Bool) (h : s.inv) : (s.flag f b).inv := inv_p _ _ h

theorem inv_bump (f : Fld) (n : Nat) (h : s.inv) : (s.bump f n).inv := inv_p _ _ h

theorem inv_inc (a n : Nat) (h : s.inv) : (s.inc a n).inv := inv_bump _ _ h

theorem inv_wr64 (lo hi v : Nat) (h : s.inv) : (s.wr64 lo hi v).inv := inv_wr _ _ (inv_wr _ _ h)

theorem inv_emit (k x a n : Nat) (h : s.inv) : (s.emit k x a n).inv := h

theorem inv_send (o : Out) (h : s.inv) : (s.send o).inv := by
  unfold State.send; split
  · exact h
  · exact h

theorem inv_ok (h : s.inv) : s.ok.inv := inv_send _ h

theorem inv_err (h : s.inv) : s.err.inv := inv_send _ h

theorem inv_setByte (a : Nat) (v : Byte) (h : s.inv) : (s.setByte a v).inv := ⟨wf_setByte a v h.1, h.2⟩

theorem inv_setWord (a : Nat) (v : Word) (h : s.inv) : (s.setWord a v).inv := ⟨wf_setWord a v h.1, h.2⟩

theorem inv_setEcc (a n : Nat) (h : s.inv) : (s.setEcc a n).inv := ⟨h.1, h.2⟩

theorem inv_setClu (c : Nat) (k : Cluster) (h : s.inv) : (s.setClu c k).inv := h

theorem inv_touchBank (b : Nat) (h : s.inv) : (s.touchBank b).inv := by
  unfold State.touchBank; split
  · exact inv_inc _ _ h
  · exact h

theorem inv_eccCorr (a : Nat) (h : s.inv) : (s.eccCorr a).inv := by
  unfold State.eccCorr; split
  · exact inv_emit _ _ _ _ (inv_inc _ _ h)
  · exact h

theorem inv_eccUncorr (a : Nat) (h : s.inv) : (s.eccUncorr a).inv := by
  unfold State.eccUncorr; split
  · exact inv_emit _ _ _ _ (inv_wr _ _ (inv_inc _ _ h))
  · exact h

theorem inv_readW (a : Nat) (h : s.inv) : (s.readW a).1.inv := by
  unfold State.readW
  split
  · exact h
  · dsimp only
    split
    · exact inv_touchBank _ h
    · exact inv_eccCorr a (inv_touchBank _ h)
    · exact inv_eccUncorr _ (inv_touchBank _ h)

theorem inv_markWrite (a : Nat) (h : s.inv) : (s.markWrite a).inv := by
  have h1 : ∀ n, (s.setEcc a n).inv := fun n => inv_setEcc a n h
  unfold State.markWrite; split
  · apply inv_flag; exact h1 _
  · exact h1 _

theorem inv_writeW (a : Nat) (v : Word) (h : s.inv) : (s.writeW a v).inv := by
  unfold State.writeW; split
  · exact h
  · next k x _ =>
    have h1 : ((s.touchBank (bankOf k x)).setWord a v).inv := inv_setWord _ _ (inv_touchBank _ h)
    apply inv_markWrite
    exact ⟨h1.1, h1.2⟩

theorem inv_taskStore (a : Nat) (v : Word) (h : s.inv) : (s.taskStore a v).inv := by
  have h1 := inv_writeW a v h
  unfold State.taskStore; dsimp only; split
  · exact ⟨h1.1, h1.2⟩
  · exact h1

theorem inv_reset : State.reset.inv := ⟨rfl, rfl⟩

end Sys2Proof.Machine
end

