-- ==== Sys2Proof/Laws/PerInstr.lean ====
section
/-!
SUPPORT. No statement of this package is made per constructor as syntax: no row of the opcode table gives its command bits,
so there is no encoding of commands. LAWS.json names no family.
-/
end

