-- ==== Sys2Proof/Tests/Slice0.lean ====
section
/-!
SUPPORT. Tests: a witness for every clause of every statement that has hypotheses, the ill-formed words that WellFormed
refuses, and values that the spec's worked examples print. The theorems are elaborated one after another, because each
thread that waits for the kernel holds its own stack.
-/
namespace Sys2Proof.Machine

set_option Elab.async false

/-- A manager whose link is up, with a completion ring of 16 entries. -/
def testHost : State :=
  (((State.reset.flag F.CHIP_STRAP_ROLE true).flag F.HOST_STAT_LINK_UP true).flag F.HOST_CQ_CFG_EN true).p F.HOST_CQ_CFG_SIZE 16

/-- A descriptor of ring 1 with words `ws`. -/
def testDesc (ws : List Word) : Desc := ⟨1, 3, ws, false⟩

/-- A manager whose engine has that descriptor to run. -/
def testCmd (ws : List Word) : State := { testHost with hs := { testHost.hs with ready := [testDesc ws] } }

/-- Cluster `c` in RUN with word `w` at its PC. -/
def testRun (c : Nat) (w : IWord) : State :=
  let v := encodeWord w
  ((State.reset.p (F.CL_STAT_STATE c) 4).setWord (progByte c 0) (v.extractLsb' 0 32)).setWord (progByte c 0 + 4) (v.extractLsb' 32 32)

/-- A boot image of one section of two words. -/
def testImage : List Byte :=
  let sec : List Word := [0x11223344#32, 0x55667788#32]
  let h : List Word := [0x4D495647#32, 0x00010001#32, 88#32, 0x100#32, 0x96640001#32, 0x01020304#32] ++ List.replicate 9 0#32
  let t : List Word := [0x40#32, 8#32, 80#32, crc32 sec]
  (h ++ [crc32 h] ++ t ++ sec).flatMap wordBytes

/-! Each statement with hypotheses: states and operands that meet them, clause by clause. -/

theorem test_hyps_StepRunsTheFrontCommand : ∃ (c : Instr) (cs : List Instr) (s : State), s.pending = c :: cs :=
  ⟨.ticksStopped, [.ticksStopped], { State.reset with pending := [.ticksStopped, .ticksStopped] }, rfl⟩

theorem test_hyps_EmptyQueueIdles : ∃ s : State, s.pending = [] := ⟨State.reset, rfl⟩

theorem test_hyps_CommandsLeaveTheQueue :
    ∃ (c : Instr) (s t : State), s.pending ≠ [] ∧ exec c s = .next t :=
  ⟨.tickCfgWrite 0x500#32, { State.reset with pending := [.ticksStopped] }, _, by decide +kernel, rfl⟩

theorem test_hyps_StoresStayCanonical :
    ∃ s t : State, s.mem ≠ [] ∧ s.inv ∧ step s = .next t :=
  ⟨{ (State.reset.setWord (progByte 0 0) 0x12345678#32).wr R.TICK_CFG 0x500#32 with pending := [.tickCfgWrite 0x300#32] }, _,
   by decide +kernel, by unfold State.inv; decide +kernel, rfl⟩

/-! WellFormed refuses each rule's ill-formed word, and such a word's encoding decodes to none. -/

theorem test_wf_refuses_reserved_sequencer_value :
    IWord.wf (.slots (.op .always (.rds 0 0x0D)) .nop .nop) = false ∧ IWord.wf (.slots (.op .always (.rds 0 0x18)) .nop .nop) = false ∧
      decodeWord (encodeWord (.slots (.op .always (.rds 0 0x0D)) .nop .nop)) = none := by decide +kernel

theorem test_wf_refuses_wide_modify :
    IWord.wf (.seta (some ⟨.m, 0, .imm 65536⟩) none) = false ∧ IWord.wf (.seta none (some ⟨.m, 0, .imm 65536⟩)) = false ∧
      decodeWord (encodeWord (.seta (some ⟨.m, 0, .imm 65536⟩) none)) = none := by decide +kernel

theorem test_wf_refuses_wide_binding :
    IWord.wf (.seta (some ⟨.bnd, 0, .imm 8⟩) none) = false ∧
      decodeWord (encodeWord (.seta (some ⟨.bnd, 0, .imm 8⟩) none)) = none := by decide +kernel

theorem test_wf_accepts_the_edges :
    IWord.wf (.slots (.op .always (.rds 0 0x0C)) .nop .nop) = true ∧ IWord.wf (.seta (some ⟨.m, 0, .imm 65535⟩) (some ⟨.bnd, 0, .imm 7⟩)) = true := by
  decide +kernel

/-! Values that the spec's worked examples print. -/

/-- Conversion of exact halves (R73): b = 3, 5, −5, −3 at SH = 31, W = 32. -/
theorem test_rounding_of_halves :
    ([3, 5, -5, -3].map fun b : Int => [RMode.trn, .rhu, .cnv].map fun m => (convert ⟨.imm 31, m, .w32⟩ 31 (b * 2 ^ 30)).1) =
      [[1#32, 2#32, 2#32], [2#32, 3#32, 2#32], [0xFFFFFFFD#32, 0xFFFFFFFE#32, 0xFFFFFFFE#32],
       [0xFFFFFFFE#32, 0xFFFFFFFF#32, 0xFFFFFFFE#32]] := by decide +kernel

theorem test_rounding_24_bits :
    ([RMode.trn, .rhu, .cnv].map fun m => convert ⟨.imm 31, m, .w24⟩ 31 (3 * 2 ^ 30)) = [(0, false), (0, false), (0, false)] := by
  decide +kernel

/-- Guard-bit exhaustion (R71): the step to 2^79 clips, and the MSU after it works from the limit. -/
theorem test_guard_bits :
    let a := satTo 80 (accResult .mac (2 ^ 79 - 2 ^ 62) 0x80000000#32 0x80000000#32)
    a = 0x7FFFFFFFFFFFFFFFFFFF ∧ satTo 80 (accResult .msu a 0x80000000#32 0x80000000#32) = 0x7FFFBFFFFFFFFFFFFFFF ∧
      convert ⟨.imm 31, .trn, .w32⟩ 31 a = (0x7FFFFFFF#32, true) := by decide +kernel

/-- The three results at the edge of their range (R74). -/
theorem test_word_edges :
    alu2Result .mulr 0x80000000#32 0x80000000#32 = (0x7FFFFFFF#32, true) ∧ alu1Result .neg 0x80000000#32 = (0x7FFFFFFF#32, true) ∧
      alu1Result .abs 0x80000000#32 = (0x7FFFFFFF#32, true) ∧ alu1Result .cvt23 0x7FFFFFFF#32 = (0x007FFFFF#32, true) := by
  decide +kernel

/-- The offsets and taps of lanes 0, 5 and 15 of the steering example (R96), and its wrap with P − B = 10. -/
theorem test_steering_taps :
    ofsInt 0xFFEC00#24 = -20 ∧ ofsFrac 0xFFEC00#24 = 0 ∧ ofsInt 0xFFE980#24 = -23 ∧ ofsFrac 0xFFE980#24 = 128 ∧
      laneAddr 0x4064 0x4000 4096 (-20) (-1) 2 = (0x404F, false) ∧ laneAddr 0x4064 0x4000 4096 (-28) 2 2 = (0x404A, false) ∧
      ([-1, 0, 1, 2].map fun t => (laneAddr 0x400A 0x4000 4096 (-23) t 2).1) = [0x4FF2, 0x4FF3, 0x4FF4, 0x4FF5] := by decide +kernel

/-- The overrun ramp of the EL_40 slot (R56): tick k, and the 16 samples that end at zero. -/
theorem test_overrun_ramp :
    let r : Ramp := ⟨0x20000000#32, 16, true, false, 0x20000000#32⟩
    (r.run (List.replicate 4 none)).2 = [0x1E000000#32, 0x1C000000#32, 0x1A000000#32, 0x18000000#32] ∧
      (r.run (List.replicate 16 none)).1.g = 0 ∧ (r.run (List.replicate 17 none)).1.last = 0#32 := by decide +kernel

/-- The source of the failing bit of the fault example: region 2, block 0x0C, cell 5. -/
theorem test_source_of_the_failing_bit :
    (memOf 0x02441A28).map (fun m => memSource m.1 m.2) = some 0x4C5 := by decide +kernel

/-- RMS_ATT = 60 is 0.25119 of 2^48 (R210). -/
theorem test_rms_limit :
    let h := attenuated 48 100 60
    251185 * 2 ^ 48 < h * 1000000 ∧ h * 1000000 < 251195 * 2 ^ 48 := by decide +kernel

/-- The digest that FIPS 180-4 prints for its three-byte message. -/
theorem test_sha256 :
    sha256 [0x61#8, 0x62#8, 0x63#8] =
      [0xba7816bf#32, 0x8f01cfea#32, 0x414140de#32, 0x5dae2223#32, 0xb00361a3#32, 0x96177a9c#32, 0xb410ff61#32, 0xf20015ad#32] := by
  decide +kernel
theorem test_hyps_SoftwareResetNeedsItsKey :
    (∃ v : Word, ∃ s : State, bitsOf v 15 0 = 0xD0D0 ∧ Regs.wf s.regs) ∧
    (∃ v : Word, bitsOf v 15 0 ≠ 0xD0D0) :=
  ⟨⟨0x1234D0D0#32, (testCmd []).setWord 0x40 7#32, by decide +kernel⟩,
   ⟨0x1234D0D1#32, by decide +kernel⟩⟩

theorem test_hyps_ShortTicksAreRefused :
    (∃ v : Word, ∃ n : Nat, ∃ fs : Nat, ∃ s : State, (n = (if 6 ≤ F.TICK_CFG_N_LOG2.of v then s.g F.TICK_CFG_N_LOG2 else F.TICK_CFG_N_LOG2.of v) ∧ fs = (if 6 ≤ F.TICK_CFG_FS_SEL.of v then s.g F.TICK_CFG_FS_SEL else F.TICK_CFG_FS_SEL.of v)) ∧ (n = 0 ∧ (fs = 4 ∨ fs = 5))) ∧
    (∃ v : Word, ∃ n : Nat, ∃ fs : Nat, ∃ s : State, (n = (if 6 ≤ F.TICK_CFG_N_LOG2.of v then s.g F.TICK_CFG_N_LOG2 else F.TICK_CFG_N_LOG2.of v) ∧ fs = (if 6 ≤ F.TICK_CFG_FS_SEL.of v then s.g F.TICK_CFG_FS_SEL else F.TICK_CFG_FS_SEL.of v)) ∧ (n = 0 ∧ (fs = 4 ∨ fs = 5))) :=
  ⟨⟨0x0000_0500#32, 0, 5, State.reset, by decide +kernel⟩,
   ⟨0x0000_0706#32, 0, 4, State.reset.wr R.TICK_CFG 0x0000_0400#32, by decide +kernel⟩⟩

theorem test_hyps_TickBoundariesCountTicks :
    (∃ s : State, (s.g F.TICK_STAT_RUNNING = 1) ∧ (s.g F.TICK_CTL_RUN = 1)) ∧
    (∃ m : Nat, ∃ s : State, (s.g F.TICK_STAT_RUNNING = 0) ∧ (s.g F.TICK_STAT_START_PENDING = 1) ∧ (s.g F.CHIP_STRAP_ROLE = 1) ∧ (s.startPoint = some (s.tm.tick.toNat + 1, m)) ∧ (m < 2 ^ 64) ∧ (s.tm.tick.toNat + 1 < 2 ^ 64)) ∧
    (∃ s : State, (s.g F.TICK_STAT_RUNNING = 1) ∧ (s.g F.TICK_CTL_RUN = 0)) ∧
    (∃ s : State, (s.g F.TICK_STAT_RUNNING = 1) ∧ (s.tm.mtc.toNat + 1 < s.rd64 R.TIME_BASE_MTC_LO R.TIME_BASE_MTC_HI + (s.tm.tick.toNat + 1 - s.rd64 R.TIME_BASE_TICK_LO R.TIME_BASE_TICK_HI) * s.nSamp)) :=
  ⟨⟨(State.reset.flag F.TICK_STAT_RUNNING true).flag F.TICK_CTL_RUN true, by decide +kernel⟩,
   ⟨4, (State.reset.flag F.CHIP_STRAP_ROLE true).tickCtlWrite 1#32, by decide +kernel⟩,
   ⟨State.reset.flag F.TICK_STAT_RUNNING true, by decide +kernel⟩,
   ⟨(State.reset.flag F.TICK_STAT_RUNNING true), by decide +kernel⟩⟩

theorem test_hyps_PhaseMarksMoveTheTickOn :
    (∃ s : State, (s.g F.TICK_STAT_RUNNING = 1) ∧ (s.tm.gathered = false) ∧ (s.tm.phase = .gather)) ∧
    (∃ s : State, (s.g F.TICK_STAT_RUNNING = 1) ∧ (s.tm.gathered = false) ∧ (s.tm.phase = .window ∨ s.tm.phase = .distribute ∨ s.tm.phase = .consign) ∧ ((s.rd R.TIME_GATHER_LATE_CNT).toNat < 2 ^ 32 - 1)) ∧
    (∃ s : State, (s.g F.TICK_STAT_RUNNING = 1) ∧ (s.tm.gathered = false) ∧ (s.tm.phase = .window ∨ s.tm.phase = .distribute ∨ s.tm.phase = .consign) ∧ ((s.rd R.TIME_GATHER_LATE_CNT).toNat < 2 ^ 32 - 1)) ∧
    (∃ s : State, (s.g F.TICK_STAT_RUNNING = 1) ∧ (s.tm.phase = .gather)) ∧
    (∃ s : State, (s.g F.TICK_STAT_RUNNING = 1) ∧ (s.tm.phase = .window)) ∧
    (∃ s : State, (s.g F.TICK_STAT_RUNNING = 1) ∧ (s.tm.phase = .distribute) ∧ (s.xg.late = false)) ∧
    (∃ s : State, (s.g F.TICK_STAT_RUNNING = 1) ∧ (s.tm.phase = .distribute) ∧ (s.xg.late = true) ∧ ((s.rd R.TIME_DIST_LATE_CNT).toNat < 2 ^ 32 - 1)) :=
  ⟨⟨({ State.reset with tm := { TimeUnit.reset with phase := .gather } } : State).flag F.TICK_STAT_RUNNING true, by decide +kernel⟩,
   ⟨({ State.reset with tm := { TimeUnit.reset with phase := .window } } : State).flag F.TICK_STAT_RUNNING true, by decide +kernel⟩,
   ⟨({ State.reset with tm := { TimeUnit.reset with phase := .consign } } : State).flag F.TICK_STAT_RUNNING true, by decide +kernel⟩,
   ⟨({ State.reset with tm := { TimeUnit.reset with phase := .gather } } : State).flag F.TICK_STAT_RUNNING true, by decide +kernel⟩,
   ⟨({ State.reset with tm := { TimeUnit.reset with phase := .window } } : State).flag F.TICK_STAT_RUNNING true, by decide +kernel⟩,
   ⟨({ State.reset with tm := { TimeUnit.reset with phase := .distribute } } : State).flag F.TICK_STAT_RUNNING true, by decide +kernel⟩,
   ⟨({ State.reset with tm := { TimeUnit.reset with phase := .distribute }, xg := { Xing.reset with late := true } } : State).flag F.TICK_STAT_RUNNING true, by decide +kernel⟩⟩

theorem test_hyps_TickConfigurationAndStart :
    (∃ v : Word, ∃ s : State, (s.g F.TICK_STAT_RUNNING = 0) ∧ (s.g F.TICK_STAT_START_PENDING = 0) ∧ (F.TICK_CFG_FS_SEL.of v < 6) ∧ (F.TICK_CFG_N_LOG2.of v < 6) ∧ (F.TICK_CFG_FS_SEL.of v < 4 ∨ 0 < F.TICK_CFG_N_LOG2.of v)) ∧
    (∃ s : State, s.g F.TICK_STAT_RUNNING = 1 ∨ s.g F.TICK_STAT_START_PENDING = 1) ∧
    (∃ s : State, (s.g F.TICK_CTL_RUN = 0) ∧ (s.g F.TICK_STAT_RUNNING = 0)) ∧
    (∃ s : State, (s.g F.TICK_CTL_RUN = 0) ∧ (s.g F.TICK_STAT_RUNNING = 1)) ∧
    (∃ s : State, (s.g F.TICK_CTL_RUN = 1) ∧ (s.g F.TICK_STAT_RUNNING = 1)) ∧
    (∃ s : State, (s.g F.TICK_CTL_RUN = 1) ∧ (s.g F.TICK_STAT_RUNNING = 0)) ∧
    (∃ v : Word, ∃ s : State, (s.g F.TICK_STAT_RUNNING = 0) ∧ (s.tm.mtc.toNat ≤ (v ++ s.tm.mtcSetLo).toNat)) ∧
    (∃ v : Word, ∃ s : State, s.g F.TICK_STAT_RUNNING = 1 ∨ (v ++ s.tm.mtcSetLo).toNat < s.tm.mtc.toNat) ∧
    (∃ v : Word, ∃ s : State, (s.g F.TICK_STAT_RUNNING = 0) ∧ (s.tm.tick.toNat ≤ (v ++ s.tm.tickSetLo).toNat)) ∧
    (∃ v : Word, ∃ s : State, s.g F.TICK_STAT_RUNNING = 1 ∨ (v ++ s.tm.tickSetLo).toNat < s.tm.tick.toNat) :=
  ⟨⟨0x0000_0105#32, State.reset, by decide +kernel⟩,
   ⟨State.reset.flag F.TICK_STAT_START_PENDING true, by decide +kernel⟩,
   ⟨State.reset, by decide +kernel⟩,
   ⟨State.reset.flag F.TICK_STAT_RUNNING true, by decide +kernel⟩,
   ⟨(State.reset.flag F.TICK_CTL_RUN true).flag F.TICK_STAT_RUNNING true, by decide +kernel⟩,
   ⟨State.reset.tickCtlWrite 1#32, by decide +kernel⟩,
   ⟨1#32, State.reset, by decide +kernel⟩,
   ⟨0#32, { State.reset with tm := { TimeUnit.reset with mtc := 1 } }, by decide +kernel⟩,
   ⟨0#32, State.reset, by decide +kernel⟩,
   ⟨0#32, State.reset.flag F.TICK_STAT_RUNNING true, by decide +kernel⟩⟩

theorem test_hyps_BusAccessesReadAndWrite :
    (∃ s : State, s.pw.owned = false) ∧
    (∃ s : State, s.pw.owned = false) ∧
    (∃ s : State, (s.pw.owned = false) ∧ (s.freeBus)) ∧
    (∃ s : State, (s.pw.owned = false) ∧ (s.freeBus)) ∧
    (∃ a : Word, ∃ k : MemKind, ∃ o : Nat, ∃ s : State, (a.toNat % 4 = 0) ∧ (memOf a.toNat = some (k, o)) ∧ (k.isProg = false) ∧ (s.inRet (bankOf k o) = false) ∧ (s.eccAt a.toNat = 0) ∧ (s.pw.owned = false) ∧ (s.freeBus)) ∧
    (∃ a : Word, ∃ k : MemKind, ∃ o : Nat, ∃ s : State, (a.toNat % 4 = 0) ∧ (memOf a.toNat = some (k, o)) ∧ (k.isProg = false) ∧ (s.eccAt a.toNat = 2) ∧ (s.pw.owned = false) ∧ (s.freeBus)) ∧
    (∃ a : Word, ∃ size : Fin 3, ∃ k : MemKind, ∃ o : Nat, ∃ s : State, (a.toNat % 2 ^ size.val = 0) ∧ (memOf (a.toNat - a.toNat % 4) = some (k, o)) ∧ (k.isProg = false) ∧ (s.inRet (bankOf k o) = false) ∧ (s.eccAt (a.toNat - a.toNat % 4) = 0) ∧ (s.pw.owned = false) ∧ (s.freeBus)) ∧
    (∃ a : Word, ∃ size : Fin 3, ∃ k : MemKind, ∃ o : Nat, ∃ s : State, (a.toNat % 2 ^ size.val = 0) ∧ (memOf (a.toNat - a.toNat % 4) = some (k, o)) ∧ (k.isProg = false) ∧ (s.inRet (bankOf k o) = false) ∧ (s.eccAt (a.toNat - a.toNat % 4) = 0) ∧ (s.pw.owned = false) ∧ (s.freeBus)) ∧
    (∃ a : Word, ∃ k : MemKind, ∃ o : Nat, ∃ s : State, (a.toNat % 4 = 0) ∧ (memOf a.toNat = some (k, o)) ∧ (k.isProg = false) ∧ (s.freeBus)) ∧
    (∃ a : Word, ∃ size : Fin 3, ∃ k : MemKind, ∃ o : Nat, ∃ s : State, (size.val < 2) ∧ (a.toNat % 2 ^ size.val = 0) ∧ (memOf (a.toNat - a.toNat % 4) = some (k, o)) ∧ (k.isProg = false) ∧ (s.inRet (bankOf k o) = false) ∧ (s.eccAt (a.toNat - a.toNat % 4) = 0) ∧ (s.freeBus)) ∧
    (∃ a : Word, ∃ size : Fin 3, ∃ k : MemKind, ∃ o : Nat, ∃ s : State, (size.val < 2) ∧ (a.toNat % 2 ^ size.val = 0) ∧ (memOf (a.toNat - a.toNat % 4) = some (k, o)) ∧ (k.isProg = false) ∧ (s.inRet (bankOf k o) = false) ∧ (s.eccAt (a.toNat - a.toNat % 4) = 0) ∧ (s.freeBus)) ∧
    (∃ a : Word, ∃ s : State, (a.toNat % 4 = 0) ∧ (0x04000000 ≤ a.toNat ∨ (0x02800000 ≤ a.toNat ∧ a.toNat < 0x03000000)) ∧ (s.freeBus)) ∧
    (∃ a : Word, ∃ s : State, (a.toNat % 4 = 0) ∧ (0x04000000 ≤ a.toNat ∨ (0x02800000 ≤ a.toNat ∧ a.toNat < 0x03000000)) ∧ (s.freeBus)) ∧
    (∃ a : Word, ∃ size : Fin 3, ∃ s : State, (size.val < 2) ∧ (a.toNat % 2 = 0) ∧ (memOf a.toNat = none) ∧ ((regSpecAt (a.toNat - a.toNat % 4)).isSome = true) ∧ (s.freeBus)) :=
  ⟨⟨{ State.reset with tm := { TimeUnit.reset with mtc := 0x1_2345_6789 } }, by decide +kernel⟩,
   ⟨State.reset, by decide +kernel⟩,
   ⟨{ State.reset with tm := { TimeUnit.reset with tick := 0x1_2345_6789 } }, by decide +kernel⟩,
   ⟨State.reset, by decide +kernel⟩,
   ⟨0x10#32, MemKind.ctl, 16, State.reset.setByte 0x11 5, by decide +kernel⟩,
   ⟨0x10#32, MemKind.ctl, 16, State.reset.setEcc 0x10 2, by decide +kernel⟩,
   ⟨0x13#32, (0 : Fin 3), MemKind.ctl, 16, State.reset.setByte 0x13 5, by decide +kernel⟩,
   ⟨0x12#32, (1 : Fin 3), MemKind.ctl, 16, State.reset.setByte 0x13 5, by decide +kernel⟩,
   ⟨0x10#32, MemKind.ctl, 16, State.reset, by decide +kernel⟩,
   ⟨0x13#32, (0 : Fin 3), MemKind.ctl, 16, State.reset, by decide +kernel⟩,
   ⟨0x12#32, (1 : Fin 3), MemKind.ctl, 16, State.reset.setByte 0x11 5, by decide +kernel⟩,
   ⟨0x04000000#32, State.reset, by decide +kernel⟩,
   ⟨0x02FFFFFC#32, State.reset, by decide +kernel⟩,
   ⟨BitVec.ofNat 32 R.FCST_PCAP, (1 : Fin 3), State.reset, by decide +kernel⟩⟩

theorem test_hyps_ScheduledActionsArmAndDisarm :
    (∃ n : Fin 32, ∃ v : Word, ∃ s : State, (s.g (F.TIME_SCHED_ACT_STATE n) ≠ 1) ∧ (s.tm.tick.toNat + 2 ≤ s.writtenTgt false n) ∧ (bitsOf v 27 24 ∈ [1, 2, 3, 4, 5]) ∧ (argSuits (bitsOf v 27 24) (bitsOf v 15 0) = true) ∧ (s.schedTwice false n (bitsOf v 27 24) (bitsOf v 15 0) (s.writtenTgt false n) = false)) ∧
    (∃ n : Fin 32, ∃ s : State, (s.g (F.TIME_SCHED_ACT_STATE n) ≠ 1) ∧ (s.writtenTgt false n < s.tm.tick.toNat + 2)) ∧
    (∃ n : Fin 32, ∃ s : State, s.g (F.TIME_SCHED_ACT_STATE n) = 1) ∧
    (∃ n : Fin 32, ∃ s : State, s.g (F.TIME_SCHED_ACT_STATE n) = 1) :=
  ⟨⟨(31 : Fin 32), 0x05001234#32, State.reset.wr (R.TIME_SCHED_TGT_LO 31) 2, by decide +kernel⟩,
   ⟨(0 : Fin 32), State.reset.wr (R.TIME_SCHED_TGT_LO 0) 1, by decide +kernel⟩,
   ⟨(3 : Fin 32), State.reset.setSched false 3 1 5 7, by decide +kernel⟩,
   ⟨(3 : Fin 32), State.reset.setSched false 3 1 5 7, by decide +kernel⟩⟩

theorem test_hyps_AccumulatorOperations :
    (∃ c : Fin 16, ∃ x : Beside, ∃ q : Cond, ∃ i : Fin 4, ∃ a : Fin 16, ∃ b : Fin 16, ∃ j : Fin 16, ∃ s : State, (s.issues c (.slots (.op q (.acc .mpy i a b)) x.m0 x.m1) = true) ∧ (s.ownLane c j) ∧ ((s.laneOf c j).holds q = true)) ∧
    (∃ c : Fin 16, ∃ x : Beside, ∃ q : Cond, ∃ i : Fin 4, ∃ a : Fin 16, ∃ b : Fin 16, ∃ j : Fin 16, ∃ s : State, (s.issues c (.slots (.op q (.acc .mac i a b)) x.m0 x.m1) = true) ∧ (s.ownLane c j) ∧ ((s.laneOf c j).holds q = true)) ∧
    (∃ c : Fin 16, ∃ x : Beside, ∃ q : Cond, ∃ i : Fin 4, ∃ a : Fin 16, ∃ b : Fin 16, ∃ j : Fin 16, ∃ s : State, (s.issues c (.slots (.op q (.acc .msu i a b)) x.m0 x.m1) = true) ∧ (s.ownLane c j) ∧ ((s.laneOf c j).holds q = true)) ∧
    (∃ c : Fin 16, ∃ x : Beside, ∃ q : Cond, ∃ i : Fin 4, ∃ a : Fin 16, ∃ b : Fin 16, ∃ j : Fin 16, ∃ s : State, (s.issues c (.slots (.op q (.acc .mpyD i a b)) x.m0 x.m1) = true) ∧ (s.ownLane c j) ∧ ((s.laneOf c j).holds q = true)) ∧
    (∃ c : Fin 16, ∃ x : Beside, ∃ q : Cond, ∃ i : Fin 4, ∃ a : Fin 16, ∃ b : Fin 16, ∃ j : Fin 16, ∃ s : State, (s.issues c (.slots (.op q (.acc .macD i a b)) x.m0 x.m1) = true) ∧ (s.ownLane c j) ∧ ((s.laneOf c j).holds q = true)) ∧
    (∃ c : Fin 16, ∃ x : Beside, ∃ q : Cond, ∃ i : Fin 4, ∃ a : Fin 16, ∃ b : Fin 16, ∃ j : Fin 16, ∃ s : State, (s.issues c (.slots (.op q (.acc .msuD i a b)) x.m0 x.m1) = true) ∧ (s.ownLane c j) ∧ ((s.laneOf c j).holds q = true)) ∧
    (∃ c : Fin 16, ∃ x : Beside, ∃ q : Cond, ∃ i : Fin 4, ∃ a : Fin 16, ∃ j : Fin 16, ∃ s : State, (s.issues c (.slots (.op q (.ald i a)) x.m0 x.m1) = true) ∧ (s.ownLane c j) ∧ ((s.laneOf c j).holds q = true)) ∧
    (∃ c : Fin 16, ∃ x : Beside, ∃ q : Cond, ∃ i : Fin 4, ∃ m : Fin 4, ∃ j : Fin 16, ∃ s : State, (s.issues c (.slots (.op q (.aadd i m)) x.m0 x.m1) = true) ∧ (s.ownLane c j) ∧ ((s.laneOf c j).holds q = true)) ∧
    (∃ c : Fin 16, ∃ x : Beside, ∃ q : Cond, ∃ i : Fin 4, ∃ m : Fin 4, ∃ j : Fin 16, ∃ s : State, (s.issues c (.slots (.op q (.asub i m)) x.m0 x.m1) = true) ∧ (s.ownLane c j) ∧ ((s.laneOf c j).holds q = true)) ∧
    (∃ c : Fin 16, ∃ x : Beside, ∃ q : Cond, ∃ i : Fin 4, ∃ j : Fin 16, ∃ s : State, (s.issues c (.slots (.op q (.aclr i)) x.m0 x.m1) = true) ∧ (s.ownLane c j) ∧ ((s.laneOf c j).holds q = true)) :=
  ⟨⟨3, ⟨.nop, .nop, ⟨0, false⟩⟩, .notPf 2, 2, 4, 7, 5, (let q : Cond := .notPf 2; let i : Fin 4 := 2; let a : Fin 16 := 4; let b : Fin 16 := 7; testRun 3 (.slots (.op q (.acc .mpy i a b)) .nop .nop)), by decide +kernel⟩,
   ⟨3, ⟨.nop, .nop, ⟨0, false⟩⟩, .notPf 2, 2, 4, 7, 5, (let q : Cond := .notPf 2; let i : Fin 4 := 2; let a : Fin 16 := 4; let b : Fin 16 := 7; testRun 3 (.slots (.op q (.acc .mac i a b)) .nop .nop)), by decide +kernel⟩,
   ⟨3, ⟨.nop, .nop, ⟨0, false⟩⟩, .notPf 2, 2, 4, 7, 5, (let q : Cond := .notPf 2; let i : Fin 4 := 2; let a : Fin 16 := 4; let b : Fin 16 := 7; testRun 3 (.slots (.op q (.acc .msu i a b)) .nop .nop)), by decide +kernel⟩,
   ⟨3, ⟨.nop, .nop, ⟨0, false⟩⟩, .notPf 2, 2, 4, 7, 5, (let q : Cond := .notPf 2; let i : Fin 4 := 2; let a : Fin 16 := 4; let b : Fin 16 := 7; testRun 3 (.slots (.op q (.acc .mpyD i a b)) .nop .nop)), by decide +kernel⟩,
   ⟨3, ⟨.nop, .nop, ⟨0, false⟩⟩, .notPf 2, 2, 4, 7, 5, (let q : Cond := .notPf 2; let i : Fin 4 := 2; let a : Fin 16 := 4; let b : Fin 16 := 7; testRun 3 (.slots (.op q (.acc .macD i a b)) .nop .nop)), by decide +kernel⟩,
   ⟨3, ⟨.nop, .nop, ⟨0, false⟩⟩, .notPf 2, 2, 4, 7, 5, (let q : Cond := .notPf 2; let i : Fin 4 := 2; let a : Fin 16 := 4; let b : Fin 16 := 7; testRun 3 (.slots (.op q (.acc .msuD i a b)) .nop .nop)), by decide +kernel⟩,
   ⟨3, ⟨.nop, .nop, ⟨0, false⟩⟩, .notPf 2, 2, 4, 5, (let q : Cond := .notPf 2; let i : Fin 4 := 2; let a : Fin 16 := 4; testRun 3 (.slots (.op q (.ald i a)) .nop .nop)), by decide +kernel⟩,
   ⟨3, ⟨.nop, .nop, ⟨0, false⟩⟩, .notPf 2, 2, 1, 5, (let q : Cond := .notPf 2; let i : Fin 4 := 2; let m : Fin 4 := 1; testRun 3 (.slots (.op q (.aadd i m)) .nop .nop)), by decide +kernel⟩,
   ⟨3, ⟨.nop, .nop, ⟨0, false⟩⟩, .notPf 2, 2, 2, 5, (let q : Cond := .notPf 2; let i : Fin 4 := 2; let m : Fin 4 := 2; testRun 3 (.slots (.op q (.asub i m)) .nop .nop)), by decide +kernel⟩,
   ⟨3, ⟨.nop, .nop, ⟨0, false⟩⟩, .notPf 2, 2, 5, (let q : Cond := .notPf 2; let i : Fin 4 := 2; testRun 3 (.slots (.op q (.aclr i)) .nop .nop)), by decide +kernel⟩⟩

theorem test_hyps_DataRegisterArithmetic :
    (∃ c : Fin 16, ∃ x : Beside, ∃ q : Cond, ∃ d : Fin 16, ∃ a : Fin 16, ∃ j : Fin 16, ∃ s : State, (s.issues c (.slots (.op q (.alu1 .mov d a)) x.m0 x.m1) = true) ∧ (s.ownLane c j) ∧ ((s.laneOf c j).holds q = true)) ∧
    (∃ c : Fin 16, ∃ x : Beside, ∃ q : Cond, ∃ d : Fin 16, ∃ a : Fin 16, ∃ b : Fin 16, ∃ j : Fin 16, ∃ s : State, (s.issues c (.slots (.op q (.alu2 .add d a b)) x.m0 x.m1) = true) ∧ (s.ownLane c j) ∧ ((s.laneOf c j).holds q = true)) ∧
    (∃ c : Fin 16, ∃ x : Beside, ∃ q : Cond, ∃ d : Fin 16, ∃ a : Fin 16, ∃ b : Fin 16, ∃ j : Fin 16, ∃ s : State, (s.issues c (.slots (.op q (.alu2 .sub d a b)) x.m0 x.m1) = true) ∧ (s.ownLane c j) ∧ ((s.laneOf c j).holds q = true)) ∧
    (∃ c : Fin 16, ∃ x : Beside, ∃ q : Cond, ∃ d : Fin 16, ∃ a : Fin 16, ∃ b : Fin 16, ∃ j : Fin 16, ∃ s : State, (s.issues c (.slots (.op q (.alu2 .adds d a b)) x.m0 x.m1) = true) ∧ (s.ownLane c j) ∧ ((s.laneOf c j).holds q = true)) ∧
    (∃ c : Fin 16, ∃ x : Beside, ∃ q : Cond, ∃ d : Fin 16, ∃ a : Fin 16, ∃ b : Fin 16, ∃ j : Fin 16, ∃ s : State, (s.issues c (.slots (.op q (.alu2 .subs d a b)) x.m0 x.m1) = true) ∧ (s.ownLane c j) ∧ ((s.laneOf c j).holds q = true)) ∧
    (∃ c : Fin 16, ∃ x : Beside, ∃ q : Cond, ∃ d : Fin 16, ∃ a : Fin 16, ∃ j : Fin 16, ∃ s : State, (s.issues c (.slots (.op q (.alu1 .neg d a)) x.m0 x.m1) = true) ∧ (s.ownLane c j) ∧ ((s.laneOf c j).holds q = true)) ∧
    (∃ c : Fin 16, ∃ x : Beside, ∃ q : Cond, ∃ d : Fin 16, ∃ a : Fin 16, ∃ j : Fin 16, ∃ s : State, (s.issues c (.slots (.op q (.alu1 .abs d a)) x.m0 x.m1) = true) ∧ (s.ownLane c j) ∧ ((s.laneOf c j).holds q = true)) ∧
    (∃ c : Fin 16, ∃ x : Beside, ∃ q : Cond, ∃ d : Fin 16, ∃ a : Fin 16, ∃ b : Fin 16, ∃ j : Fin 16, ∃ s : State, (s.issues c (.slots (.op q (.alu2 .min d a b)) x.m0 x.m1) = true) ∧ (s.ownLane c j) ∧ ((s.laneOf c j).holds q = true)) ∧
    (∃ c : Fin 16, ∃ x : Beside, ∃ q : Cond, ∃ d : Fin 16, ∃ a : Fin 16, ∃ b : Fin 16, ∃ j : Fin 16, ∃ s : State, (s.issues c (.slots (.op q (.alu2 .max d a b)) x.m0 x.m1) = true) ∧ (s.ownLane c j) ∧ ((s.laneOf c j).holds q = true)) ∧
    (∃ c : Fin 16, ∃ x : Beside, ∃ q : Cond, ∃ d : Fin 16, ∃ a : Fin 16, ∃ b : Fin 16, ∃ j : Fin 16, ∃ s : State, (s.issues c (.slots (.op q (.alu2 .and d a b)) x.m0 x.m1) = true) ∧ (s.ownLane c j) ∧ ((s.laneOf c j).holds q = true)) ∧
    (∃ c : Fin 16, ∃ x : Beside, ∃ q : Cond, ∃ d : Fin 16, ∃ a : Fin 16, ∃ b : Fin 16, ∃ j : Fin 16, ∃ s : State, (s.issues c (.slots (.op q (.alu2 .or d a b)) x.m0 x.m1) = true) ∧ (s.ownLane c j) ∧ ((s.laneOf c j).holds q = true)) ∧
    (∃ c : Fin 16, ∃ x : Beside, ∃ q : Cond, ∃ d : Fin 16, ∃ a : Fin 16, ∃ b : Fin 16, ∃ j : Fin 16, ∃ s : State, (s.issues c (.slots (.op q (.alu2 .xor d a b)) x.m0 x.m1) = true) ∧ (s.ownLane c j) ∧ ((s.laneOf c j).holds q = true)) :=
  ⟨⟨3, ⟨.nop, .nop, ⟨0, false⟩⟩, .notPf 2, 4, 4, 5, (let q : Cond := .notPf 2; let d : Fin 16 := 4; let a : Fin 16 := 4; testRun 3 (.slots (.op q (.alu1 .mov d a)) .nop .nop)), by decide +kernel⟩,
   ⟨3, ⟨.nop, .nop, ⟨0, false⟩⟩, .notPf 2, 4, 4, 9, 5, (let q : Cond := .notPf 2; let d : Fin 16 := 4; let a : Fin 16 := 4; let b : Fin 16 := 9; testRun 3 (.slots (.op q (.alu2 .add d a b)) .nop .nop)), by decide +kernel⟩,
   ⟨3, ⟨.nop, .nop, ⟨0, false⟩⟩, .notPf 2, 4, 4, 9, 5, (let q : Cond := .notPf 2; let d : Fin 16 := 4; let a : Fin 16 := 4; let b : Fin 16 := 9; testRun 3 (.slots (.op q (.alu2 .sub d a b)) .nop .nop)), by decide +kernel⟩,
   ⟨3, ⟨.nop, .nop, ⟨0, false⟩⟩, .notPf 2, 4, 4, 9, 5, (let q : Cond := .notPf 2; let d : Fin 16 := 4; let a : Fin 16 := 4; let b : Fin 16 := 9; testRun 3 (.slots (.op q (.alu2 .adds d a b)) .nop .nop)), by decide +kernel⟩,
   ⟨3, ⟨.nop, .nop, ⟨0, false⟩⟩, .notPf 2, 4, 4, 9, 5, (let q : Cond := .notPf 2; let d : Fin 16 := 4; let a : Fin 16 := 4; let b : Fin 16 := 9; testRun 3 (.slots (.op q (.alu2 .subs d a b)) .nop .nop)), by decide +kernel⟩,
   ⟨3, ⟨.nop, .nop, ⟨0, false⟩⟩, .notPf 2, 4, 4, 5, (let q : Cond := .notPf 2; let d : Fin 16 := 4; let a : Fin 16 := 4; testRun 3 (.slots (.op q (.alu1 .neg d a)) .nop .nop)), by decide +kernel⟩,
   ⟨3, ⟨.nop, .nop, ⟨0, false⟩⟩, .notPf 2, 4, 4, 5, (let q : Cond := .notPf 2; let d : Fin 16 := 4; let a : Fin 16 := 4; testRun 3 (.slots (.op q (.alu1 .abs d a)) .nop .nop)), by decide +kernel⟩,
   ⟨3, ⟨.nop, .nop, ⟨0, false⟩⟩, .notPf 2, 4, 4, 9, 5, (let q : Cond := .notPf 2; let d : Fin 16 := 4; let a : Fin 16 := 4; let b : Fin 16 := 9; testRun 3 (.slots (.op q (.alu2 .min d a b)) .nop .nop)), by decide +kernel⟩,
   ⟨3, ⟨.nop, .nop, ⟨0, false⟩⟩, .notPf 2, 4, 4, 9, 5, (let q : Cond := .notPf 2; let d : Fin 16 := 4; let a : Fin 16 := 4; let b : Fin 16 := 9; testRun 3 (.slots (.op q (.alu2 .max d a b)) .nop .nop)), by decide +kernel⟩,
   ⟨3, ⟨.nop, .nop, ⟨0, false⟩⟩, .notPf 2, 4, 4, 9, 5, (let q : Cond := .notPf 2; let d : Fin 16 := 4; let a : Fin 16 := 4; let b : Fin 16 := 9; testRun 3 (.slots (.op q (.alu2 .and d a b)) .nop .nop)), by decide +kernel⟩,
   ⟨3, ⟨.nop, .nop, ⟨0, false⟩⟩, .notPf 2, 4, 4, 9, 5, (let q : Cond := .notPf 2; let d : Fin 16 := 4; let a : Fin 16 := 4; let b : Fin 16 := 9; testRun 3 (.slots (.op q (.alu2 .or d a b)) .nop .nop)), by decide +kernel⟩,
   ⟨3, ⟨.nop, .nop, ⟨0, false⟩⟩, .notPf 2, 4, 4, 9, 5, (let q : Cond := .notPf 2; let d : Fin 16 := 4; let a : Fin 16 := 4; let b : Fin 16 := 9; testRun 3 (.slots (.op q (.alu2 .xor d a b)) .nop .nop)), by decide +kernel⟩⟩

theorem test_hyps_ShiftsProductsAndFormats :
    (∃ c : Fin 16, ∃ x : Beside, ∃ q : Cond, ∃ d : Fin 16, ∃ a : Fin 16, ∃ b : Fin 16, ∃ j : Fin 16, ∃ s : State, (s.issues c (.slots (.op q (.alu2 .asr d a b)) x.m0 x.m1) = true) ∧ (s.ownLane c j) ∧ ((s.laneOf c j).holds q = true)) ∧
    (∃ c : Fin 16, ∃ x : Beside, ∃ q : Cond, ∃ d : Fin 16, ∃ a : Fin 16, ∃ b : Fin 16, ∃ j : Fin 16, ∃ s : State, (s.issues c (.slots (.op q (.alu2 .lsr d a b)) x.m0 x.m1) = true) ∧ (s.ownLane c j) ∧ ((s.laneOf c j).holds q = true)) ∧
    (∃ c : Fin 16, ∃ x : Beside, ∃ q : Cond, ∃ d : Fin 16, ∃ a : Fin 16, ∃ b : Fin 16, ∃ j : Fin 16, ∃ s : State, (s.issues c (.slots (.op q (.alu2 .lsls d a b)) x.m0 x.m1) = true) ∧ (s.ownLane c j) ∧ ((s.laneOf c j).holds q = true)) ∧
    (∃ c : Fin 16, ∃ x : Beside, ∃ q : Cond, ∃ d : Fin 16, ∃ a : Fin 16, ∃ sh : Fin 32, ∃ j : Fin 16, ∃ s : State, (s.issues c (.slots (.op q (.alui .asrI d a sh)) x.m0 x.m1) = true) ∧ (s.ownLane c j) ∧ ((s.laneOf c j).holds q = true)) ∧
    (∃ c : Fin 16, ∃ x : Beside, ∃ q : Cond, ∃ d : Fin 16, ∃ a : Fin 16, ∃ sh : Fin 32, ∃ j : Fin 16, ∃ s : State, (s.issues c (.slots (.op q (.alui .lsrI d a sh)) x.m0 x.m1) = true) ∧ (s.ownLane c j) ∧ ((s.laneOf c j).holds q = true)) ∧
    (∃ c : Fin 16, ∃ x : Beside, ∃ q : Cond, ∃ d : Fin 16, ∃ a : Fin 16, ∃ sh : Fin 32, ∃ j : Fin 16, ∃ s : State, (s.issues c (.slots (.op q (.alui .lslsI d a sh)) x.m0 x.m1) = true) ∧ (s.ownLane c j) ∧ ((s.laneOf c j).holds q = true)) ∧
    (∃ c : Fin 16, ∃ x : Beside, ∃ q : Cond, ∃ d : Fin 16, ∃ a : Fin 16, ∃ b : Fin 16, ∃ j : Fin 16, ∃ s : State, (s.issues c (.slots (.op q (.alu2 .mulr d a b)) x.m0 x.m1) = true) ∧ (s.ownLane c j) ∧ ((s.laneOf c j).holds q = true)) ∧
    (∃ c : Fin 16, ∃ x : Beside, ∃ q : Cond, ∃ d : Fin 16, ∃ a : Fin 16, ∃ b : Fin 16, ∃ j : Fin 16, ∃ s : State, (s.issues c (.slots (.op q (.alu2 .addsD d a b)) x.m0 x.m1) = true) ∧ (s.ownLane c j) ∧ ((s.laneOf c j).holds q = true)) ∧
    (∃ c : Fin 16, ∃ x : Beside, ∃ q : Cond, ∃ d : Fin 16, ∃ a : Fin 16, ∃ b : Fin 16, ∃ j : Fin 16, ∃ s : State, (s.issues c (.slots (.op q (.alu2 .subsD d a b)) x.m0 x.m1) = true) ∧ (s.ownLane c j) ∧ ((s.laneOf c j).holds q = true)) ∧
    (∃ c : Fin 16, ∃ x : Beside, ∃ q : Cond, ∃ d : Fin 16, ∃ a : Fin 16, ∃ b : Fin 16, ∃ j : Fin 16, ∃ s : State, (s.issues c (.slots (.op q (.alu2 .mulrD d a b)) x.m0 x.m1) = true) ∧ (s.ownLane c j) ∧ ((s.laneOf c j).holds q = true)) ∧
    (∃ c : Fin 16, ∃ x : Beside, ∃ q : Cond, ∃ d : Fin 16, ∃ a : Fin 16, ∃ j : Fin 16, ∃ s : State, (s.issues c (.slots (.op q (.alu1 .cvt31 d a)) x.m0 x.m1) = true) ∧ (s.ownLane c j) ∧ ((s.laneOf c j).holds q = true)) ∧
    (∃ c : Fin 16, ∃ x : Beside, ∃ q : Cond, ∃ d : Fin 16, ∃ a : Fin 16, ∃ j : Fin 16, ∃ s : State, (s.issues c (.slots (.op q (.alu1 .cvt23 d a)) x.m0 x.m1) = true) ∧ (s.ownLane c j) ∧ ((s.laneOf c j).holds q = true)) ∧
    (∃ c : Fin 16, ∃ x : Beside, ∃ q : Cond, ∃ d : Fin 16, ∃ a : Fin 16, ∃ b : Fin 16, ∃ j : Fin 16, ∃ s : State, (s.issues c (.slots (.op q (.alu2 .pack d a b)) x.m0 x.m1) = true) ∧ (s.ownLane c j) ∧ ((s.laneOf c j).holds q = true)) ∧
    (∃ c : Fin 16, ∃ x : Beside, ∃ q : Cond, ∃ d : Fin 16, ∃ a : Fin 16, ∃ j : Fin 16, ∃ s : State, (s.issues c (.slots (.op q (.alu1 .unpk0 d a)) x.m0 x.m1) = true) ∧ (s.ownLane c j) ∧ ((s.laneOf c j).holds q = true)) ∧
    (∃ c : Fin 16, ∃ x : Beside, ∃ q : Cond, ∃ d : Fin 16, ∃ a : Fin 16, ∃ j : Fin 16, ∃ s : State, (s.issues c (.slots (.op q (.alu1 .unpk1 d a)) x.m0 x.m1) = true) ∧ (s.ownLane c j) ∧ ((s.laneOf c j).holds q = true)) :=
  ⟨⟨3, ⟨.nop, .nop, ⟨0, false⟩⟩, .notPf 2, 4, 4, 9, 5, (let q : Cond := .notPf 2; let d : Fin 16 := 4; let a : Fin 16 := 4; let b : Fin 16 := 9; testRun 3 (.slots (.op q (.alu2 .asr d a b)) .nop .nop)), by decide +kernel⟩,
   ⟨3, ⟨.nop, .nop, ⟨0, false⟩⟩, .notPf 2, 4, 4, 9, 5, (let q : Cond := .notPf 2; let d : Fin 16 := 4; let a : Fin 16 := 4; let b : Fin 16 := 9; testRun 3 (.slots (.op q (.alu2 .lsr d a b)) .nop .nop)), by decide +kernel⟩,
   ⟨3, ⟨.nop, .nop, ⟨0, false⟩⟩, .notPf 2, 4, 4, 9, 5, (let q : Cond := .notPf 2; let d : Fin 16 := 4; let a : Fin 16 := 4; let b : Fin 16 := 9; testRun 3 (.slots (.op q (.alu2 .lsls d a b)) .nop .nop)), by decide +kernel⟩,
   ⟨3, ⟨.nop, .nop, ⟨0, false⟩⟩, .notPf 2, 4, 4, 31, 5, (let q : Cond := .notPf 2; let d : Fin 16 := 4; let a : Fin 16 := 4; let sh : Fin 32 := 31; testRun 3 (.slots (.op q (.alui .asrI d a sh)) .nop .nop)), by decide +kernel⟩,
   ⟨3, ⟨.nop, .nop, ⟨0, false⟩⟩, .notPf 2, 4, 4, 31, 5, (let q : Cond := .notPf 2; let d : Fin 16 := 4; let a : Fin 16 := 4; let sh : Fin 32 := 31; testRun 3 (.slots (.op q (.alui .lsrI d a sh)) .nop .nop)), by decide +kernel⟩,
   ⟨3, ⟨.nop, .nop, ⟨0, false⟩⟩, .notPf 2, 4, 4, 31, 5, (let q : Cond := .notPf 2; let d : Fin 16 := 4; let a : Fin 16 := 4; let sh : Fin 32 := 31; testRun 3 (.slots (.op q (.alui .lslsI d a sh)) .nop .nop)), by decide +kernel⟩,
   ⟨3, ⟨.nop, .nop, ⟨0, false⟩⟩, .notPf 2, 4, 4, 9, 5, (let q : Cond := .notPf 2; let d : Fin 16 := 4; let a : Fin 16 := 4; let b : Fin 16 := 9; testRun 3 (.slots (.op q (.alu2 .mulr d a b)) .nop .nop)), by decide +kernel⟩,
   ⟨3, ⟨.nop, .nop, ⟨0, false⟩⟩, .notPf 2, 4, 4, 9, 5, (let q : Cond := .notPf 2; let d : Fin 16 := 4; let a : Fin 16 := 4; let b : Fin 16 := 9; testRun 3 (.slots (.op q (.alu2 .addsD d a b)) .nop .nop)), by decide +kernel⟩,
   ⟨3, ⟨.nop, .nop, ⟨0, false⟩⟩, .notPf 2, 4, 4, 9, 5, (let q : Cond := .notPf 2; let d : Fin 16 := 4; let a : Fin 16 := 4; let b : Fin 16 := 9; testRun 3 (.slots (.op q (.alu2 .subsD d a b)) .nop .nop)), by decide +kernel⟩,
   ⟨3, ⟨.nop, .nop, ⟨0, false⟩⟩, .notPf 2, 4, 4, 9, 5, (let q : Cond := .notPf 2; let d : Fin 16 := 4; let a : Fin 16 := 4; let b : Fin 16 := 9; testRun 3 (.slots (.op q (.alu2 .mulrD d a b)) .nop .nop)), by decide +kernel⟩,
   ⟨3, ⟨.nop, .nop, ⟨0, false⟩⟩, .notPf 2, 4, 4, 5, (let q : Cond := .notPf 2; let d : Fin 16 := 4; let a : Fin 16 := 4; testRun 3 (.slots (.op q (.alu1 .cvt31 d a)) .nop .nop)), by decide +kernel⟩,
   ⟨3, ⟨.nop, .nop, ⟨0, false⟩⟩, .notPf 2, 4, 4, 5, (let q : Cond := .notPf 2; let d : Fin 16 := 4; let a : Fin 16 := 4; testRun 3 (.slots (.op q (.alu1 .cvt23 d a)) .nop .nop)), by decide +kernel⟩,
   ⟨3, ⟨.nop, .nop, ⟨0, false⟩⟩, .notPf 2, 4, 4, 9, 5, (let q : Cond := .notPf 2; let d : Fin 16 := 4; let a : Fin 16 := 4; let b : Fin 16 := 9; testRun 3 (.slots (.op q (.alu2 .pack d a b)) .nop .nop)), by decide +kernel⟩,
   ⟨3, ⟨.nop, .nop, ⟨0, false⟩⟩, .notPf 2, 4, 4, 5, (let q : Cond := .notPf 2; let d : Fin 16 := 4; let a : Fin 16 := 4; testRun 3 (.slots (.op q (.alu1 .unpk0 d a)) .nop .nop)), by decide +kernel⟩,
   ⟨3, ⟨.nop, .nop, ⟨0, false⟩⟩, .notPf 2, 4, 4, 5, (let q : Cond := .notPf 2; let d : Fin 16 := 4; let a : Fin 16 := 4; testRun 3 (.slots (.op q (.alu1 .unpk1 d a)) .nop .nop)), by decide +kernel⟩⟩

theorem test_hyps_ConversionsAndCrossLaneOperations :
    (∃ c : Fin 16, ∃ x : Beside, ∃ q : Cond, ∃ d : Fin 16, ∃ i : Fin 4, ∃ sh : Fin 32, ∃ j : Fin 16, ∃ s : State, (s.issues c (.slots (.op q (.exta d i ⟨.imm sh, .rhu, .w32⟩)) x.m0 x.m1) = true) ∧ (s.ownLane c j) ∧ ((s.laneOf c j).holds q = true) ∧ (1 ≤ sh.val)) ∧
    (∃ c : Fin 16, ∃ x : Beside, ∃ q : Cond, ∃ d : Fin 16, ∃ n : Fin 16, ∃ i : Fin 4, ∃ j : Fin 16, ∃ s : State, (s.issues c (.slots (.op q (.exta d i ⟨.reg n, .trn, .w16⟩)) x.m0 x.m1) = true) ∧ (s.ownLane c j) ∧ ((s.laneOf c j).holds q = true)) ∧
    (∃ c : Fin 16, ∃ x : Beside, ∃ q : Cond, ∃ d : Fin 16, ∃ i : Fin 4, ∃ k : Conv, ∃ j : Fin 16, ∃ s : State, (s.issues c (.slots (.op q (.exta d i k)) x.m0 x.m1) = true) ∧ (s.ownLane c j) ∧ ((s.laneOf c j).holds q = true)) ∧
    (∃ c : Fin 16, ∃ x : Beside, ∃ q : Cond, ∃ i : Fin 4, ∃ m : Fin 4, ∃ s : State, (s.issues c (.slots (.op q (.rsum i m)) x.m0 x.m1) = true) ∧ (s.ownLane c 0)) ∧
    (∃ c : Fin 16, ∃ x : Beside, ∃ q : Cond, ∃ d : Fin 16, ∃ a : Fin 16, ∃ j : Fin 16, ∃ s : State, (s.issues c (.slots (.op q (.bcast d a)) x.m0 x.m1) = true) ∧ (s.ownLane c j) ∧ ((s.laneOf c j).holds q = true)) ∧
    (∃ c : Fin 16, ∃ x : Beside, ∃ q : Cond, ∃ d : Fin 16, ∃ j : Fin 16, ∃ s : State, (s.issues c (.slots (.op q (.lid d)) x.m0 x.m1) = true) ∧ (s.ownLane c j) ∧ ((s.laneOf c j).holds q = true)) ∧
    (∃ c : Fin 16, ∃ x : Beside, ∃ q : Cond, ∃ d : Fin 16, ∃ v : Fin 32, ∃ j : Fin 16, ∃ s : State, (s.issues c (.slots (.op q (.rds d v)) x.m0 x.m1) = true) ∧ (s.ownLane c j) ∧ ((s.laneOf c j).holds q = true) ∧ (v.val ≤ 12)) ∧
    (∃ c : Fin 16, ∃ x : Beside, ∃ q : Cond, ∃ d : Fin 16, ∃ v : Fin 32, ∃ j : Fin 16, ∃ s : State, (s.issues c (.slots (.op q (.rds d v)) x.m0 x.m1) = true) ∧ (s.ownLane c j) ∧ ((s.laneOf c j).holds q = true) ∧ (16 ≤ v.val ∧ v.val ≤ 23)) ∧
    (∃ c : Fin 16, ∃ x : Beside, ∃ q : Cond, ∃ i : Fin 8, ∃ n : Fin 16, ∃ j : Fin 16, ∃ s : State, (s.issues c (.slots (.op q (.ofsw i n)) x.m0 x.m1) = true) ∧ (s.ownLane c j) ∧ ((s.laneOf c j).holds q = true)) :=
  ⟨⟨3, ⟨.nop, .nop, ⟨0, false⟩⟩, .notPf 2, 3, 1, 31, 5, (let q : Cond := .notPf 2; let d : Fin 16 := 3; let i : Fin 4 := 1; let sh : Fin 32 := 31; testRun 3 (.slots (.op q (.exta d i ⟨.imm sh, .rhu, .w32⟩)) .nop .nop)), by decide +kernel⟩,
   ⟨3, ⟨.nop, .nop, ⟨0, false⟩⟩, .notPf 2, 3, 2, 1, 5, (let q : Cond := .notPf 2; let d : Fin 16 := 3; let n : Fin 16 := 2; let i : Fin 4 := 1; testRun 3 (.slots (.op q (.exta d i ⟨.reg n, .trn, .w16⟩)) .nop .nop)), by decide +kernel⟩,
   ⟨3, ⟨.nop, .nop, ⟨0, false⟩⟩, .notPf 2, 3, 1, ⟨.imm 30, .cnv, .w24⟩, 5, (let q : Cond := .notPf 2; let d : Fin 16 := 3; let i : Fin 4 := 1; let k : Conv := ⟨.imm 30, .cnv, .w24⟩; testRun 3 (.slots (.op q (.exta d i k)) .nop .nop)), by decide +kernel⟩,
   ⟨3, ⟨.nop, .nop, ⟨0, false⟩⟩, .notPf 2, 1, 1, (let q : Cond := .notPf 2; let i : Fin 4 := 1; let m : Fin 4 := 1; testRun 3 (.slots (.op q (.rsum i m)) .nop .nop)), by decide +kernel⟩,
   ⟨3, ⟨.nop, .nop, ⟨0, false⟩⟩, .notPf 2, 4, 4, 5, (let q : Cond := .notPf 2; let d : Fin 16 := 4; let a : Fin 16 := 4; testRun 3 (.slots (.op q (.bcast d a)) .nop .nop)), by decide +kernel⟩,
   ⟨3, ⟨.nop, .nop, ⟨0, false⟩⟩, .notPf 2, 3, 5, (let q : Cond := .notPf 2; let d : Fin 16 := 3; testRun 3 (.slots (.op q (.lid d)) .nop .nop)), by decide +kernel⟩,
   ⟨3, ⟨.nop, .nop, ⟨0, false⟩⟩, .notPf 2, 3, 12, 5, (let q : Cond := .notPf 2; let d : Fin 16 := 3; let v : Fin 32 := 12; testRun 3 (.slots (.op q (.rds d v)) .nop .nop)), by decide +kernel⟩,
   ⟨3, ⟨.nop, .nop, ⟨0, false⟩⟩, .notPf 2, 3, 23, 5, (let q : Cond := .notPf 2; let d : Fin 16 := 3; let v : Fin 32 := 23; testRun 3 (.slots (.op q (.rds d v)) .nop .nop)), by decide +kernel⟩,
   ⟨3, ⟨.nop, .nop, ⟨0, false⟩⟩, .notPf 2, 7, 3, 5, (let q : Cond := .notPf 2; let i : Fin 8 := 7; let n : Fin 16 := 3; testRun 3 (.slots (.op q (.ofsw i n)) .nop .nop)), by decide +kernel⟩⟩

theorem test_hyps_PredicateOperations :
    (∃ c : Fin 16, ∃ x : Beside, ∃ q : Cond, ∃ p : Fin 4, ∃ a : Fin 16, ∃ b : Fin 16, ∃ j : Fin 16, ∃ s : State, (s.issues c (.slots (.op q (.cmp .eq p a b)) x.m0 x.m1) = true) ∧ (s.ownLane c j) ∧ ((s.laneOf c j).holds q = true)) ∧
    (∃ c : Fin 16, ∃ x : Beside, ∃ q : Cond, ∃ p : Fin 4, ∃ a : Fin 16, ∃ b : Fin 16, ∃ j : Fin 16, ∃ s : State, (s.issues c (.slots (.op q (.cmp .ne p a b)) x.m0 x.m1) = true) ∧ (s.ownLane c j) ∧ ((s.laneOf c j).holds q = true)) ∧
    (∃ c : Fin 16, ∃ x : Beside, ∃ q : Cond, ∃ p : Fin 4, ∃ a : Fin 16, ∃ b : Fin 16, ∃ j : Fin 16, ∃ s : State, (s.issues c (.slots (.op q (.cmp .lt p a b)) x.m0 x.m1) = true) ∧ (s.ownLane c j) ∧ ((s.laneOf c j).holds q = true)) ∧
    (∃ c : Fin 16, ∃ x : Beside, ∃ q : Cond, ∃ p : Fin 4, ∃ a : Fin 16, ∃ b : Fin 16, ∃ j : Fin 16, ∃ s : State, (s.issues c (.slots (.op q (.cmp .le p a b)) x.m0 x.m1) = true) ∧ (s.ownLane c j) ∧ ((s.laneOf c j).holds q = true)) ∧
    (∃ c : Fin 16, ∃ x : Beside, ∃ q : Cond, ∃ p : Fin 4, ∃ i : Fin 4, ∃ j : Fin 16, ∃ s : State, (s.issues c (.slots (.op q (.cmpaLt p i)) x.m0 x.m1) = true) ∧ (s.ownLane c j) ∧ ((s.laneOf c j).holds q = true)) ∧
    (∃ c : Fin 16, ∃ x : Beside, ∃ q : Cond, ∃ p : Fin 4, ∃ i : Fin 4, ∃ j : Fin 16, ∃ s : State, (s.issues c (.slots (.op q (.cmpaEq p i)) x.m0 x.m1) = true) ∧ (s.ownLane c j) ∧ ((s.laneOf c j).holds q = true)) ∧
    (∃ c : Fin 16, ∃ x : Beside, ∃ q : Cond, ∃ p : Fin 4, ∃ v : Bool, ∃ j : Fin 16, ∃ s : State, (s.issues c (.slots (.op q (.pset p v)) x.m0 x.m1) = true) ∧ (s.ownLane c j) ∧ ((s.laneOf c j).holds q = true)) ∧
    (∃ c : Fin 16, ∃ x : Beside, ∃ q : Cond, ∃ p : Fin 4, ∃ k : Fin 4, ∃ r : Fin 4, ∃ j : Fin 16, ∃ s : State, (s.issues c (.slots (.op q (.plog .and p k r)) x.m0 x.m1) = true) ∧ (s.ownLane c j) ∧ ((s.laneOf c j).holds q = true)) ∧
    (∃ c : Fin 16, ∃ x : Beside, ∃ q : Cond, ∃ p : Fin 4, ∃ k : Fin 4, ∃ r : Fin 4, ∃ j : Fin 16, ∃ s : State, (s.issues c (.slots (.op q (.plog .or p k r)) x.m0 x.m1) = true) ∧ (s.ownLane c j) ∧ ((s.laneOf c j).holds q = true)) ∧
    (∃ c : Fin 16, ∃ x : Beside, ∃ q : Cond, ∃ p : Fin 4, ∃ k : Fin 4, ∃ r : Fin 4, ∃ j : Fin 16, ∃ s : State, (s.issues c (.slots (.op q (.plog .xor p k r)) x.m0 x.m1) = true) ∧ (s.ownLane c j) ∧ ((s.laneOf c j).holds q = true)) ∧
    (∃ c : Fin 16, ∃ x : Beside, ∃ q : Cond, ∃ p : Fin 4, ∃ k : Fin 4, ∃ j : Fin 16, ∃ s : State, (s.issues c (.slots (.op q (.pnot p k)) x.m0 x.m1) = true) ∧ (s.ownLane c j) ∧ ((s.laneOf c j).holds q = true)) :=
  ⟨⟨3, ⟨.nop, .nop, ⟨0, false⟩⟩, .notPf 2, 3, 1, 2, 5, (let q : Cond := .notPf 2; let p : Fin 4 := 3; let a : Fin 16 := 1; let b : Fin 16 := 2; testRun 3 (.slots (.op q (.cmp .eq p a b)) .nop .nop)), by decide +kernel⟩,
   ⟨3, ⟨.nop, .nop, ⟨0, false⟩⟩, .notPf 2, 3, 1, 2, 5, (let q : Cond := .notPf 2; let p : Fin 4 := 3; let a : Fin 16 := 1; let b : Fin 16 := 2; testRun 3 (.slots (.op q (.cmp .ne p a b)) .nop .nop)), by decide +kernel⟩,
   ⟨3, ⟨.nop, .nop, ⟨0, false⟩⟩, .notPf 2, 3, 1, 2, 5, (let q : Cond := .notPf 2; let p : Fin 4 := 3; let a : Fin 16 := 1; let b : Fin 16 := 2; testRun 3 (.slots (.op q (.cmp .lt p a b)) .nop .nop)), by decide +kernel⟩,
   ⟨3, ⟨.nop, .nop, ⟨0, false⟩⟩, .notPf 2, 3, 1, 2, 5, (let q : Cond := .notPf 2; let p : Fin 4 := 3; let a : Fin 16 := 1; let b : Fin 16 := 2; testRun 3 (.slots (.op q (.cmp .le p a b)) .nop .nop)), by decide +kernel⟩,
   ⟨3, ⟨.nop, .nop, ⟨0, false⟩⟩, .notPf 2, 3, 1, 5, (let q : Cond := .notPf 2; let p : Fin 4 := 3; let i : Fin 4 := 1; testRun 3 (.slots (.op q (.cmpaLt p i)) .nop .nop)), by decide +kernel⟩,
   ⟨3, ⟨.nop, .nop, ⟨0, false⟩⟩, .notPf 2, 3, 1, 5, (let q : Cond := .notPf 2; let p : Fin 4 := 3; let i : Fin 4 := 1; testRun 3 (.slots (.op q (.cmpaEq p i)) .nop .nop)), by decide +kernel⟩,
   ⟨3, ⟨.nop, .nop, ⟨0, false⟩⟩, .notPf 2, 3, true, 5, (let q : Cond := .notPf 2; let p : Fin 4 := 3; let v : Bool := true; testRun 3 (.slots (.op q (.pset p v)) .nop .nop)), by decide +kernel⟩,
   ⟨3, ⟨.nop, .nop, ⟨0, false⟩⟩, .notPf 2, 3, 1, 0, 5, (let q : Cond := .notPf 2; let p : Fin 4 := 3; let k : Fin 4 := 1; let r : Fin 4 := 0; testRun 3 (.slots (.op q (.plog .and p k r)) .nop .nop)), by decide +kernel⟩,
   ⟨3, ⟨.nop, .nop, ⟨0, false⟩⟩, .notPf 2, 3, 1, 0, 5, (let q : Cond := .notPf 2; let p : Fin 4 := 3; let k : Fin 4 := 1; let r : Fin 4 := 0; testRun 3 (.slots (.op q (.plog .or p k r)) .nop .nop)), by decide +kernel⟩,
   ⟨3, ⟨.nop, .nop, ⟨0, false⟩⟩, .notPf 2, 3, 1, 0, 5, (let q : Cond := .notPf 2; let p : Fin 4 := 3; let k : Fin 4 := 1; let r : Fin 4 := 0; testRun 3 (.slots (.op q (.plog .xor p k r)) .nop .nop)), by decide +kernel⟩,
   ⟨3, ⟨.nop, .nop, ⟨0, false⟩⟩, .notPf 2, 3, 1, 5, (let q : Cond := .notPf 2; let p : Fin 4 := 3; let k : Fin 4 := 1; testRun 3 (.slots (.op q (.pnot p k)) .nop .nop)), by decide +kernel⟩⟩

theorem test_hyps_LaneLoadsAndStores :
    (∃ c : Fin 16, ∃ q : Cond, ∃ i : Fin 8, ∃ pm : Bool, ∃ n : Fin 16, ∃ j : Fin 16, ∃ s : State, (s.issues c (.slots .nop (.ld q i pm n) .nop) = true) ∧ (s.ownLane c j) ∧ ((s.laneOf c j).holds q = true)) ∧
    (∃ c : Fin 16, ∃ m0 : M0Slot, ∃ q : Cond, ∃ i : Fin 8, ∃ pm : Bool, ∃ n : Fin 16, ∃ j : Fin 16, ∃ s : State, (s.issues c (.slots .nop m0 (.ld q i pm n)) = true) ∧ (s.ownLane c j) ∧ ((s.laneOf c j).holds q = true)) ∧
    (∃ c : Fin 16, ∃ w : LWidth, ∃ q : Cond, ∃ i : Fin 8, ∃ pm : Bool, ∃ n : Fin 16, ∃ j : Fin 16, ∃ s : State, (s.issues c (.slots .nop (.ldi w q i pm n) .nop) = true) ∧ (s.ownLane c j) ∧ ((s.laneOf c j).holds q = true)) ∧
    (∃ c : Fin 16, ∃ m0 : M0Slot, ∃ w : LWidth, ∃ q : Cond, ∃ i : Fin 8, ∃ pm : Bool, ∃ n : Fin 16, ∃ j : Fin 16, ∃ s : State, (s.issues c (.slots .nop m0 (.ldi w q i pm n)) = true) ∧ (s.ownLane c j) ∧ ((s.laneOf c j).holds q = true)) ∧
    (∃ c : Fin 16, ∃ m0 : M0Slot, ∃ q : Cond, ∃ i : Fin 8, ∃ pm : Bool, ∃ n : Fin 16, ∃ j : Fin 16, ∃ s : State, (s.issues c (.slots .nop m0 (.st q i pm n)) = true) ∧ (s.ownLane c j) ∧ ((s.laneOf c j).holds q = true)) ∧
    (∃ c : Fin 16, ∃ m0 : M0Slot, ∃ q : Cond, ∃ i : Fin 8, ∃ pm : Bool, ∃ acc : Fin 4, ∃ k : Conv, ∃ j : Fin 16, ∃ s : State, (s.issues c (.slots .nop m0 (.sta q i pm acc k)) = true) ∧ (s.ownLane c j) ∧ ((s.laneOf c j).holds q = true)) :=
  ⟨⟨3, .notPf 2, 2, true, 3, 4, (let q : Cond := .notPf 2; let i : Fin 8 := 2; let pm : Bool := true; let n : Fin 16 := 3; testRun 3 (.slots .nop (.ld q i pm n) .nop)), by decide +kernel⟩,
   ⟨3, .ld .always 2 true 2, .notPf 2, 2, true, 3, 4, (let m0 : M0Slot := .ld .always 2 true 2; let q : Cond := .notPf 2; let i : Fin 8 := 2; let pm : Bool := true; let n : Fin 16 := 3; testRun 3 (.slots .nop m0 (.ld q i pm n))), by decide +kernel⟩,
   ⟨3, .w32, .notPf 2, 2, false, 3, 4, (let w : LWidth := .w32; let q : Cond := .notPf 2; let i : Fin 8 := 2; let pm : Bool := false; let n : Fin 16 := 3; let u := testRun 3 (.slots .nop (.ldi w q i pm n) .nop); u.setClu 3 ((u.clu 3).setPtr 2 1)), by decide +kernel⟩,
   ⟨3, .ld .always 1 false 2, .w24, .notPf 2, 2, true, 3, 4, (let m0 : M0Slot := .ld .always 1 false 2; let w : LWidth := .w24; let q : Cond := .notPf 2; let i : Fin 8 := 2; let pm : Bool := true; let n : Fin 16 := 3; let u := testRun 3 (.slots .nop m0 (.ldi w q i pm n)); u.setClu 3 ((u.clu 3).setPtr 2 1)), by decide +kernel⟩,
   ⟨3, .nop, .notPf 2, 2, true, 3, 15, (let m0 : M0Slot := .nop; let q : Cond := .notPf 2; let i : Fin 8 := 2; let pm : Bool := true; let n : Fin 16 := 3; testRun 3 (.slots .nop m0 (.st q i pm n))), by decide +kernel⟩,
   ⟨3, .nop, .notPf 2, 2, true, 3, ⟨.imm 2, .cnv, .w24⟩, 15, (let m0 : M0Slot := .nop; let q : Cond := .notPf 2; let i : Fin 8 := 2; let pm : Bool := true; let acc : Fin 4 := 3; let k : Conv := ⟨.imm 2, .cnv, .w24⟩; testRun 3 (.slots .nop m0 (.sta q i pm acc k))), by decide +kernel⟩⟩

theorem test_hyps_ControlWordsOfTheSequencer :
    (∃ c : Fin 16, ∃ s : State, s.issues c (.slots .nop .nop .nop) = true) ∧
    (∃ c : Fin 16, ∃ bc : BrCond, ∃ target : Fin 8192, ∃ s : State, (s.issues c (.br bc target) = true) ∧ (s.branchHolds c (s.clu c) bc = true)) ∧
    (∃ c : Fin 16, ∃ bc : BrCond, ∃ target : Fin 8192, ∃ s : State, (s.issues c (.br bc target) = true) ∧ (s.branchHolds c (s.clu c) bc = false)) ∧
    (∃ c : Fin 16, ∃ p : Fin 4, ∃ target : Fin 8192, ∃ j : Fin 16, ∃ s : State, (s.issues c (.br (.any p) target) = true) ∧ ((s.laneOf c j).flag p = true)) ∧
    (∃ c : Fin 16, ∃ n : Fin 65536, ∃ a : Fin 8192, ∃ b : Fin 8192, ∃ s : State, (s.issues c (.loop (.imm n) a b) = true) ∧ (0 < n.val) ∧ ((s.clu c).loopAllowed (s.clu c).pc a b = true)) ∧
    (∃ c : Fin 16, ∃ a : Fin 8192, ∃ b : Fin 8192, ∃ s : State, (s.issues c (.loop (.imm 0) a b) = true) ∧ ((s.clu c).loopAllowed (s.clu c).pc a b = true)) ∧
    (∃ c : Fin 16, ∃ n : LoopCount, ∃ a : Fin 8192, ∃ b : Fin 8192, ∃ s : State, (s.issues c (.loop n a b) = true) ∧ ((s.clu c).depth = 4 ∨ a.val ≤ (s.clu c).pc ∨ b.val < a.val)) ∧
    (∃ c : Fin 16, ∃ i : Fin 8, ∃ v : Fin 1048576, ∃ s : State, s.issues c (.seta (some ⟨.m, i, .imm v⟩) none) = true) ∧
    (∃ c : Fin 16, ∃ i : Fin 8, ∃ v : Fin 1048576, ∃ s : State, (s.issues c (.seta none (some ⟨.p, i, .imm v⟩)) = true) ∧ (((s.clu c).length ((s.clu c).bind i)).toNat = 0)) ∧
    (∃ c : Fin 16, ∃ i : Fin 8, ∃ v : Fin 1048576, ∃ s : State, (s.issues c (.seta (some ⟨.p, i, .imm v⟩) none) = true) ∧ (0 < ((s.clu c).length ((s.clu c).bind i)).toNat) ∧ (v.val < ((s.clu c).base ((s.clu c).bind i)).toNat ∨ ((s.clu c).base ((s.clu c).bind i)).toNat + ((s.clu c).length ((s.clu c).bind i)).toNat ≤ v.val) ∧ ((s.clu c).bind i < 8)) ∧
    (∃ c : Fin 16, ∃ i : Fin 8, ∃ n : Fin 8, ∃ v : Fin 1048576, ∃ s : State, (s.issues c (.seta (some ⟨.b, i, .imm v⟩) none) = true) ∧ ((s.clu c).bind n = i)) ∧
    (∃ c : Fin 16, ∃ i : Fin 8, ∃ r : Fin 16, ∃ s : State, s.issues c (.seta (some ⟨.len, i, .reg r⟩) none) = true) ∧
    (∃ c : Fin 16, ∃ n : Fin 16, ∃ q : Cond, ∃ v : Word, ∃ j : Fin 16, ∃ s : State, (s.issues c (.seti n q v) = true) ∧ (s.ownLane c j) ∧ ((s.laneOf c j).holds q = true)) ∧
    (∃ c : Fin 16, ∃ s : State, s.issues c (.halt) = true) ∧
    (∃ c : Fin 16, ∃ s : State, (s.issuing c = true) ∧ ((s.fetch c).2.1 = none) ∧ (decodeWord (s.fetch c).2.2 = none)) :=
  ⟨⟨3, testRun 3 (.slots .nop .nop .nop), by decide +kernel⟩,
   ⟨3, .notAll 2, 77, (let bc : BrCond := .notAll 2; let target : Fin 8192 := 77; testRun 3 (.br bc target)), by decide +kernel⟩,
   ⟨3, .all 2, 77, (let bc : BrCond := .all 2; let target : Fin 8192 := 77; testRun 3 (.br bc target)), by decide +kernel⟩,
   ⟨3, 2, 77, 9, (let p : Fin 4 := 2; let target : Fin 8192 := 77; let u := testRun 3 (.br (.any p) target); u.setClu 3 ((u.clu 3).setLane 9 { Lane.zero with pf := 4 })), by decide +kernel⟩,
   ⟨3, 5, 2, 2, (let n : Fin 65536 := 5; let a : Fin 8192 := 2; let b : Fin 8192 := 2; testRun 3 (.loop (.imm n) a b)), by decide +kernel⟩,
   ⟨3, 2, 9, (let a : Fin 8192 := 2; let b : Fin 8192 := 9; testRun 3 (.loop (.imm 0) a b)), by decide +kernel⟩,
   ⟨3, .reg 3, 5, 4, (let n : LoopCount := .reg 3; let a : Fin 8192 := 5; let b : Fin 8192 := 4; testRun 3 (.loop n a b)), by decide +kernel⟩,
   ⟨3, 5, 65535, (let i : Fin 8 := 5; let v : Fin 1048576 := 65535; testRun 3 (.seta (some ⟨.m, i, .imm v⟩) none)), by decide +kernel⟩,
   ⟨3, 5, 1048575, (let i : Fin 8 := 5; let v : Fin 1048576 := 1048575; testRun 3 (.seta none (some ⟨.p, i, .imm v⟩))), by decide +kernel⟩,
   ⟨3, 5, 1048575, (let i : Fin 8 := 5; let v : Fin 1048576 := 1048575; let u := testRun 3 (.seta (some ⟨.p, i, .imm v⟩) none); u.setClu 3 { u.clu 3 with len := [(5, 100)] }), by decide +kernel⟩,
   ⟨3, 5, 5, 4096, (let i : Fin 8 := 5; let v : Fin 1048576 := 4096; testRun 3 (.seta (some ⟨.b, i, .imm v⟩) none)), by decide +kernel⟩,
   ⟨3, 5, 4, (let i : Fin 8 := 5; let r : Fin 16 := 4; testRun 3 (.seta (some ⟨.len, i, .reg r⟩) none)), by decide +kernel⟩,
   ⟨3, 5, .notPf 1, 0xDEADBEEF#32, 15, (let n : Fin 16 := 5; let q : Cond := .notPf 1; let v : Word := 0xDEADBEEF#32; testRun 3 (.seti n q v)), by decide +kernel⟩,
   ⟨3, testRun 3 (.halt), by decide +kernel⟩,
   ⟨3, ((State.reset.p (F.CL_STAT_STATE 3) 4).setWord (progByte 3 0 + 4) 0x8A000000#32), by decide +kernel⟩⟩

theorem test_hyps_ComputeWordsLeaveTheRestAlone :
    ∃ i : Instr, ∃ c : Fin 16, ∃ x : Beside, ∃ q : Cond, ∃ o : COp, ∃ s : State, (computeOf i = some (c, x, q, o)) ∧ (s.issues c (.slots (.op q o) .nop .nop) = true) ∧ (x.m0 = .nop ∧ x.m1 = .nop) :=
  ⟨.lid 3 ⟨.nop, .nop, ⟨0, false⟩⟩ .always 5, 3, ⟨.nop, .nop, ⟨0, false⟩⟩, .always, .lid 5, (let q : Cond := .always; let o : COp := .lid 5; testRun 3 (.slots (.op q o) .nop .nop)), by decide +kernel⟩

theorem test_hyps_TasksRunOnTheirClusters :
    (∃ k : Fin 128, ∃ c : Fin 16, ∃ s : State, (s.tm.phase = .window) ∧ (s.tm.gathered = true) ∧ (s.dispatchable k = true) ∧ (s.directed k = none) ∧ (s.selects = true) ∧ (c.val ∈ s.ttClusters s.ttSel k)) ∧
    (∃ c : Fin 16, ∃ s : State, (s.g (F.CL_STAT_STATE c) = 5) ∧ (s.pr.take = none)) ∧
    (∃ c : Fin 16, ∃ s : State, (s.g (F.CL_STAT_STATE c) = 1) ∧ (s.pr.take = none)) ∧
    (∃ c : Fin 16, ∃ s : State, (s.g (F.LANE_MAP_RETIRED c) = 1) ∧ (s.tm.phase = .consign) ∧ ((s.clu c).bistDue ≤ s.tick)) ∧
    (∃ c : Fin 16, ∃ s : State, (s.g (F.LANE_MAP_RETIRED c) = 1) ∧ (s.tm.phase = .consign) ∧ ((s.clu c).bistDue ≤ s.tick)) ∧
    (∃ c : Fin 16, ∃ s : State, s.tick < (s.clu c).bistDue) ∧
    (∃ c : Fin 16, ∃ s : State, s.g (F.SHADOW_STAT_STATE c) < 3) ∧
    (∃ c : Fin 16, ∃ s : State, 3 ≤ s.g (F.SHADOW_STAT_STATE c)) ∧
    (∃ c : Fin 16, ∃ o : Fin 65536, ∃ vs : List Word, ∃ s : State, (s.g (F.CL_STAT_STATE c) < 3) ∧ (o.val % 8 = 0) ∧ (vs.length % 2 = 0) ∧ (o.val + 4 * vs.length ≤ 65536)) ∧
    (∃ c : Fin 16, ∃ o : Fin 65536, ∃ vs : List Word, ∃ s : State, (s.g (F.CL_STAT_STATE c) < 3) ∧ (o.val % 8 = 0) ∧ (65536 < o.val + 4 * vs.length)) ∧
    (∃ c : Fin 16, ∃ o : Fin 65536, ∃ s : State, (s.g (F.CL_STAT_STATE c) < 3) ∧ (o.val % 8 = 0)) ∧
    (∃ c : Fin 16, ∃ o : Fin 65536, ∃ lo : Word, ∃ s : State, (s.g (F.CL_STAT_STATE c) < 3) ∧ (o.val % 8 = 4) ∧ ((s.clu c).stage = some (o.val / 8, lo))) ∧
    (∃ c : Fin 16, ∃ o : Fin 65536, ∃ s : State, (3 ≤ s.g (F.CL_STAT_STATE c)) ∧ (o.val % 8 = 0)) :=
  ⟨⟨5, 3, ({ State.reset with tm := { TimeUnit.reset with phase := .window, gathered := true }, fc := { Fcst.reset with tt := [(80, 0x80000007#32), (81, 0x8#32)] } } : State).p (F.CL_STAT_STATE 3) 2, by decide +kernel⟩,
   ⟨3, (State.reset.p (F.CL_STAT_STATE 3) 5), by decide +kernel⟩,
   ⟨15, (State.reset.p (F.CL_STAT_STATE 15) 1), by decide +kernel⟩,
   ⟨2, ({ State.reset with tm := { TimeUnit.reset with phase := .consign } } : State).flag (F.LANE_MAP_RETIRED 2) true, by decide +kernel⟩,
   ⟨2, ({ State.reset with tm := { TimeUnit.reset with phase := .consign } } : State).flag (F.LANE_MAP_RETIRED 2) true, by decide +kernel⟩,
   ⟨2, State.reset.setClu 2 { Cluster.reset with bistDue := 1024 }, by decide +kernel⟩,
   ⟨2, State.reset, by decide +kernel⟩,
   ⟨2, State.reset.p (F.SHADOW_STAT_STATE 2) 4, by decide +kernel⟩,
   ⟨2, 65528, [0x9ABCDEF0#32, 0x12345678#32], State.reset, by decide +kernel⟩,
   ⟨2, 65528, [1#32, 2#32, 3#32], State.reset, by decide +kernel⟩,
   ⟨2, 65528, State.reset, by decide +kernel⟩,
   ⟨2, 12, 5#32, State.reset.setClu 2 { Cluster.reset with stage := some (1, 5#32) }, by decide +kernel⟩,
   ⟨3, 8, State.reset.p (F.CL_STAT_STATE 3) 4, by decide +kernel⟩⟩

theorem test_hyps_TaskTablesAndHeat :
    (∃ x : Fin 2, ∃ s : State, (x.val ≠ s.g F.FCST_TT_CTL_SEL) ∧ (s.g F.FCST_TT_CTL_STATE ≠ 1)) ∧
    (∃ x : Fin 2, ∃ s : State, (x.val ≠ s.g F.FCST_TT_CTL_SEL) ∧ (s.g F.FCST_TT_CTL_STATE ≠ 1)) ∧
    (∃ x : Fin 2, ∃ s : State, x.val = s.g F.FCST_TT_CTL_SEL ∨ s.g F.FCST_TT_CTL_STATE = 1) ∧
    (∃ s : State, (s.g F.FCST_TT_CTL_STATE ≠ 1) ∧ (∀ k : Fin 128, s.ttValid (1 - s.ttSel) k = true → s.ttFails (1 - s.ttSel) k = none) ∧ (s.tm.tick.toNat + 2 ≤ s.rd64 R.FCST_TT_TGT_LO R.FCST_TT_TGT_HI)) ∧
    (∃ k : Fin 128, ∃ r : Nat, ∃ s : State, (s.g F.FCST_TT_CTL_STATE ≠ 1) ∧ (s.ttValid (1 - s.ttSel) k = true) ∧ (s.ttFails (1 - s.ttSel) k = some r) ∧ (∀ j : Fin 128, j < k → s.ttValid (1 - s.ttSel) j = true → s.ttFails (1 - s.ttSel) j = none)) ∧
    (∃ s : State, (s.g F.FCST_TT_CTL_STATE ≠ 1) ∧ (∀ k : Fin 128, s.ttValid (1 - s.ttSel) k = true → s.ttFails (1 - s.ttSel) k = none) ∧ (s.rd64 R.FCST_TT_TGT_LO R.FCST_TT_TGT_HI < s.tm.tick.toNat + 2)) ∧
    (∃ s : State, s.g F.FCST_TT_CTL_STATE = 1) ∧
    (∃ s : State, s.g F.FCST_TT_CTL_STATE ≠ 1) ∧
    (∃ s : State, s.g F.FCST_TT_CTL_STATE = 1) ∧
    (∃ v : Fin 2, ∃ s : State, (v.val ≠ s.g F.FCST_TT_CTL_SEL) ∧ (s.g F.TICK_STAT_RUNNING = 0)) ∧
    (∃ v : Fin 2, ∃ s : State, v.val = s.g F.FCST_TT_CTL_SEL) ∧
    (∃ v : Fin 2, ∃ s : State, (v.val ≠ s.g F.FCST_TT_CTL_SEL) ∧ (s.g F.TICK_STAT_RUNNING = 1)) ∧
    (∃ stale : BitVec 8, ∃ a : Int, ∃ rest : List Int, ∃ s : State, ((s.g F.PWR_STAT_WARN).testBit 0 = false) ∧ (s.validTemps stale = a :: rest)) ∧
    (∃ p : Option Nat, ∃ stale : BitVec 8, ∃ a : Int, ∃ rest : List Int, ∃ s : State, (p = none ∨ (s.g F.PWR_STAT_WARN).testBit 0 = true) ∧ (s.validTemps stale = a :: rest) ∧ (0 < s.fc.pwTicks)) ∧
    (∃ stale : BitVec 8, ∃ s : State, (s.validTemps stale = []) ∧ (stale = 0)) ∧
    (∃ i : Fin 8, ∃ s : State, s.validTemps (BitVec.ofNat 8 (2 ^ i.val)) = []) ∧
    (∃ r : Nat, ∃ s : State, (s.capDue = some r) ∧ (r ≤ s.tick) ∧ (s.g F.FCST_STAT_FORCE_CAP < 3)) ∧
    (∃ s : State, ∀ r ∈ s.capDue, s.tick < r) :=
  ⟨⟨1, State.reset, by decide +kernel⟩,
   ⟨1, State.reset, by decide +kernel⟩,
   ⟨0, State.reset, by decide +kernel⟩,
   ⟨State.reset.wr R.FCST_TT_TGT_LO 2, by decide +kernel⟩,
   ⟨2, 0, { State.reset with fc := { Fcst.reset with tt := [(2080, 0x80000007#32)] } }, by decide +kernel⟩,
   ⟨State.reset.wr R.FCST_TT_TGT_LO 1, by decide +kernel⟩,
   ⟨State.reset.p F.FCST_TT_CTL_STATE 1, by decide +kernel⟩,
   ⟨State.reset, by decide +kernel⟩,
   ⟨State.reset.p F.FCST_TT_CTL_STATE 1, by decide +kernel⟩,
   ⟨1, State.reset, by decide +kernel⟩,
   ⟨0, State.reset, by decide +kernel⟩,
   ⟨1, State.reset.flag F.TICK_STAT_RUNNING true, by decide +kernel⟩,
   ⟨0#8, 3200, [], (State.reset.flag (F.PWR_TEMP_VALID 2) true).p (F.PWR_TEMP_T 2) 3200, by decide +kernel⟩,
   ⟨none, 0#8, 3200, [], { (State.reset.flag (F.PWR_TEMP_VALID 2) true).p (F.PWR_TEMP_T 2) 3200 with fc := { Fcst.reset with pwTicks := 2, pwSum := 10000000 } }, by decide +kernel⟩,
   ⟨0#8, State.reset, by decide +kernel⟩,
   ⟨2, (State.reset.flag (F.PWR_TEMP_VALID 2) true).p (F.PWR_TEMP_T 2) 3200, by decide +kernel⟩,
   ⟨0, State.reset.forceGale |> fun u => { u with fc := { u.fc with relTick := some 0 } }, by decide +kernel⟩,
   ⟨State.reset, by decide +kernel⟩⟩

theorem test_hyps_CrossingTablesAreCheckedAndTaken :
    (∃ s : State, s.g F.XING_WIN_COPY ≠ s.g F.XING_CTL_SEL) ∧
    (∃ s : State, s.g F.XING_WIN_COPY ≠ s.g F.XING_CTL_SEL) ∧
    (∃ s : State, s.g F.XING_WIN_COPY = s.g F.XING_CTL_SEL) ∧
    (∃ s : State, s.xFirstFail (1 - s.xSel) = none) ∧
    (∃ e : Nat, ∃ r : Nat, ∃ s : State, (s.xFirstFail (1 - s.xSel) = some (e, r)) ∧ (e < 8192) ∧ (r < 7)) ∧
    (∃ v : Fin 2, ∃ s : State, (v.val ≠ s.g F.XING_CTL_SEL) ∧ (s.g F.TICK_STAT_RUNNING = 0) ∧ (s.g F.XING_STAT_PSTATE = 1)) ∧
    (∃ v : Fin 2, ∃ s : State, v.val = s.g F.XING_CTL_SEL) ∧
    (∃ v : Fin 2, ∃ s : State, (v.val = s.g F.XING_CTL_SEL) ∧ (s.xFirstFail (1 - s.xSel) = none)) ∧
    (∃ v : Fin 2, ∃ s : State, (v.val ≠ s.g F.XING_CTL_SEL) ∧ (s.g F.TICK_STAT_RUNNING = 1 ∨ s.g F.XING_STAT_PSTATE ≠ 1)) ∧
    (∃ r : Fin 8, ∃ v : Word, ∃ s : State, (s.g (F.XING_CAP_CTL_EN r) = 0) ∧ (bitsOf v 6 0 ≤ 64) ∧ (v.getLsbD 31 = true)) ∧
    (∃ r : Fin 8, ∃ v : Word, ∃ s : State, (s.g (F.XING_CAP_CTL_EN r) = 1) ∧ (v &&& 0x8001007F#32 = putBits (s.rd (R.XING_CAP_CTL r)) 31 31 0) ∧ (bitsOf v 6 0 ≤ 64)) ∧
    (∃ r : Fin 8, ∃ v : Word, ∃ s : State, 64 < bitsOf v 6 0 ∨ (s.g (F.XING_CAP_CTL_EN r) = 1 ∧ v &&& 0x8001007F#32 ≠ s.rd (R.XING_CAP_CTL r) ∧ v &&& 0x8001007F#32 ≠ putBits (s.rd (R.XING_CAP_CTL r)) 31 31 0)) ∧
    (∃ r : Fin 8, ∃ v : Word, ∃ s : State, 64 < bitsOf v 6 0 ∨ (s.g (F.XING_CAP_CTL_EN r) = 1 ∧ v &&& 0x8001007F#32 ≠ s.rd (R.XING_CAP_CTL r) ∧ v &&& 0x8001007F#32 ≠ putBits (s.rd (R.XING_CAP_CTL r)) 31 31 0)) ∧
    (∃ r : Fin 8, ∃ v : Word, ∃ s : State, (s.g (F.XING_CAP_CTL_EN r) = 0) ∧ ((v &&& 0x000FFFF0#32).toNat + s.g (F.XING_CAP_SIZE_SIZE r) ≤ 0x100000)) ∧
    (∃ r : Fin 8, ∃ v : Word, ∃ s : State, (v &&& 0x000FFFF0#32 ≠ s.rd (R.XING_CAP_BUF r)) ∧ (s.g (F.XING_CAP_CTL_EN r) = 1 ∨ 0x100000 < (v &&& 0x000FFFF0#32).toNat + s.g (F.XING_CAP_SIZE_SIZE r))) ∧
    (∃ r : Fin 8, ∃ v : Word, ∃ s : State, bitsOf v 18 0 % 16 ≠ 0 ∨ bitsOf v 18 0 < 4096 ∨ 262144 < bitsOf v 18 0 ∨ 0x100000 < (s.rd (R.XING_CAP_BUF r)).toNat + bitsOf v 18 0) ∧
    (∃ r : Fin 8, ∃ v : Word, ∃ s : State, bitsOf v 18 0 % 16 ≠ 0 ∨ bitsOf v 18 0 < 4096 ∨ 262144 < bitsOf v 18 0 ∨ 0x100000 < (s.rd (R.XING_CAP_BUF r)).toNat + bitsOf v 18 0) ∧
    (∃ r : Fin 8, ∃ v : Word, ∃ s : State, (s.g (F.XING_CAP_CTL_EN r) = 1) ∧ (bitsOf v 18 0 ≠ s.g (F.XING_CAP_SIZE_SIZE r))) ∧
    (∃ r : Fin 8, ∃ v : Word, ∃ s : State, (s.g (F.XING_CAP_CTL_EN r) = 0) ∧ (bitsOf v 18 0 % 16 = 0 ∧ 4096 ≤ bitsOf v 18 0 ∧ bitsOf v 18 0 ≤ 262144) ∧ ((s.rd (R.XING_CAP_BUF r)).toNat + bitsOf v 18 0 ≤ 0x100000)) ∧
    (∃ r : Fin 8, ∃ s : State, (s.capState r = .open) ∧ (s.capStuck r = false) ∧ (s.g (F.XING_CAP_WR_WR r) + s.capBytes r ≤ s.g (F.XING_CAP_SIZE_SIZE r)) ∧ ((s.rd (R.XING_CAP_BUF r)).toNat % 4 = 0 ∧ s.g (F.XING_CAP_WR_WR r) % 4 = 0) ∧ ((s.rd (R.XING_CAP_BUF r)).toNat + s.g (F.XING_CAP_SIZE_SIZE r) ≤ 0x100000)) ∧
    (∃ r : Fin 8, ∃ i : Fin 64, ∃ j : Fin 64, ∃ s : State, (s.capState r = .open) ∧ (s.capStuck r = false) ∧ (s.capBytes r ≤ s.g (F.XING_CAP_SIZE_SIZE r)) ∧ (s.g (F.XING_CAP_SIZE_SIZE r) % 4 = 0) ∧ ((s.rd (R.XING_CAP_BUF r)).toNat % 4 = 0 ∧ s.g (F.XING_CAP_WR_WR r) % 4 = 0) ∧ ((s.rd (R.XING_CAP_BUF r)).toNat + s.g (F.XING_CAP_SIZE_SIZE r) ≤ 0x100000) ∧ (i.val < s.g (F.XING_CAP_CTL_COUNT r) ∧ j.val < s.nSamp) ∧ (s.eccAt (slotByte (s.g (F.XING_CAP_SLOT_SLOT r i)) j) < 2)) ∧
    (∃ r : Fin 8, ∃ s : State, s.capState r ≠ .open) :=
  ⟨⟨State.reset.p F.XING_WIN_COPY 1, by decide +kernel⟩,
   ⟨State.reset.p F.XING_WIN_COPY 1, by decide +kernel⟩,
   ⟨State.reset, by decide +kernel⟩,
   ⟨{ State.reset with xg := { Xing.reset with xt := [(32768, 0x82000000#32), (32769, 0x02000001#32)] } }, by decide +kernel⟩,
   ⟨1, 0, { State.reset with xg := { Xing.reset with xt := [(32772, 0x80000000#32)] } }, by decide +kernel⟩,
   ⟨1, State.reset.p F.XING_STAT_PSTATE 1, by decide +kernel⟩,
   ⟨0, State.reset, by decide +kernel⟩,
   ⟨0, State.reset, by decide +kernel⟩,
   ⟨1, State.reset, by decide +kernel⟩,
   ⟨7, 0x80010040#32, State.reset, by decide +kernel⟩,
   ⟨7, 0x00010040#32, State.reset.wr (R.XING_CAP_CTL 7) 0x80010040#32, by decide +kernel⟩,
   ⟨7, 0x80000040#32, State.reset.wr (R.XING_CAP_CTL 7) 0x80010040#32, by decide +kernel⟩,
   ⟨0, 0x80000041#32, State.reset, by decide +kernel⟩,
   ⟨7, 0x12345#32, State.reset, by decide +kernel⟩,
   ⟨7, 0xFFFF0#32, State.reset.wr (R.XING_CAP_SIZE 7) 0x2000#32, by decide +kernel⟩,
   ⟨7, 4080#32, State.reset, by decide +kernel⟩,
   ⟨7, 262160#32, State.reset, by decide +kernel⟩,
   ⟨7, 0x2000#32, State.reset.wr (R.XING_CAP_CTL 7) 0x80010040#32, by decide +kernel⟩,
   ⟨7, 0x2000#32, State.reset, by decide +kernel⟩,
   ⟨3, ((State.reset.wr (R.XING_CAP_SIZE 3) 4096#32).setCap 3 .open).p (F.XING_CAP_CTL_COUNT 3) 2, by decide +kernel⟩,
   ⟨3, 4, 3, (((State.reset.wr (R.XING_CAP_SIZE 3) 4096#32).wr (R.XING_CAP_WR 3) 4080#32).setCap 3 .open).p (F.XING_CAP_CTL_COUNT 3) 5 |>.setWord (slotByte 0 3) 9#32, by decide +kernel⟩,
   ⟨3, State.reset, by decide +kernel⟩⟩

theorem test_hyps_LeveeSettingsAreSealedAndChecked :
    (∃ e : Fin 96, ∃ v : Word, ∃ s : State, (s.g F.LEVEE_SEAL_SEALED = 0) ∧ (bitsOf v 29 28 ≠ 3 ∧ bitsOf v 24 20 ≤ 23 ∧ bitsOf v 8 4 ≤ 23) ∧ (v.getLsbD 31 = true → ∀ x : Fin 96, x ≠ e → s.g (F.LEVEE_EL_BIND_EN x) = 1 → bitsOf (s.rd (R.LEVEE_EL_BIND x)) 8 0 ≠ bitsOf v 8 0)) ∧
    (∃ v : Word, bitsOf v 29 28 = 3 ∨ 23 < bitsOf v 24 20 ∨ 23 < bitsOf v 8 4) ∧
    (∃ e : Fin 96, ∃ x : Fin 96, ∃ v : Word, ∃ s : State, (bitsOf v 29 28 ≠ 3 ∧ bitsOf v 24 20 ≤ 23 ∧ bitsOf v 8 4 ≤ 23 ∧ bitsOf v 31 31 = 1) ∧ (x ≠ e ∧ s.g (F.LEVEE_EL_BIND_EN x) = 1 ∧ bitsOf (s.rd (R.LEVEE_EL_BIND x)) 8 0 = bitsOf v 8 0)) ∧
    (∃ e : Fin 96, ∃ v : Word, ∃ s : State, (s.g F.LEVEE_SEAL_SEALED = 1) ∧ (bitsOf v 29 28 ≠ 3 ∧ bitsOf v 24 20 ≤ 23 ∧ bitsOf v 8 4 ≤ 23 ∧ bitsOf v 31 31 = 0) ∧ (bitsOf v 8 4 ≠ s.g (F.LEVEE_EL_BIND_PORT e)) ∧ ((s.rd R.LEVEE_REFUSE_CNT).toNat < 2 ^ 32 - 1) ∧ (s.g F.TICK_STAT_RUNNING = 1)) ∧
    (∃ e : Fin 96, ∃ v : Word, ∃ s : State, (bitsOf v 8 0 ≤ 400) ∧ (s.g F.LEVEE_SEAL_SEALED = 0 ∨ s.g (F.LEVEE_EL_PEAK_PEAK_ATT e) ≤ bitsOf v 8 0)) ∧
    (∃ e : Fin 96, ∃ v : Word, ∃ s : State, (s.g F.LEVEE_SEAL_SEALED = 1) ∧ (bitsOf v 8 0 < s.g (F.LEVEE_EL_PEAK_PEAK_ATT e)) ∧ (bitsOf v 8 0 ≤ 400) ∧ ((s.rd R.LEVEE_REFUSE_CNT).toNat < 2 ^ 32 - 1)) ∧
    (∃ v : Word, 400 < bitsOf v 8 0) ∧
    (∃ o : Fin 65536, ∃ v : Word, ∃ f : SealField, ∃ s : State, (f ∈ sealFields o) ∧ (∀ x ∈ sealFields o, x.least ≤ bitsOf v x.hi x.lo ∧ bitsOf v x.hi x.lo ≤ x.most) ∧ (s.g F.LEVEE_SEAL_SEALED = 0 ∨ ∀ x ∈ sealFields o, x.dir.allows (bitsOf (s.rd (0x03030000 + o.val)) x.hi x.lo) (bitsOf v x.hi x.lo) = true) ∧ ((regSpecAt (0x03030000 + o.val)).isSome = true)) ∧
    (∃ o : Fin 65536, ∃ v : Word, ∃ f : SealField, ∃ s : State, (f ∈ sealFields o) ∧ (∀ x ∈ sealFields o, x.least ≤ bitsOf v x.hi x.lo ∧ bitsOf v x.hi x.lo ≤ x.most) ∧ (s.g F.LEVEE_SEAL_SEALED = 0 ∨ ∀ x ∈ sealFields o, x.dir.allows (bitsOf (s.rd (0x03030000 + o.val)) x.hi x.lo) (bitsOf v x.hi x.lo) = true) ∧ ((regSpecAt (0x03030000 + o.val)).isSome = true)) ∧
    (∃ o : Fin 65536, ∃ v : Word, ∃ f : SealField, ∃ s : State, (f ∈ sealFields o) ∧ (∀ x ∈ sealFields o, x.least ≤ bitsOf v x.hi x.lo ∧ bitsOf v x.hi x.lo ≤ x.most) ∧ (s.g F.LEVEE_SEAL_SEALED = 1 ∧ f.dir.allows (bitsOf (s.rd (0x03030000 + o.val)) f.hi f.lo) (bitsOf v f.hi f.lo) = false) ∧ ((regSpecAt (0x03030000 + o.val)).isSome = true) ∧ ((s.rd R.LEVEE_REFUSE_CNT).toNat < 2 ^ 32 - 1)) ∧
    (∃ o : Fin 65536, ∃ v : Word, ∃ f : SealField, (f ∈ sealFields o) ∧ (bitsOf v f.hi f.lo < f.least ∨ f.most < bitsOf v f.hi f.lo) ∧ ((regSpecAt (0x03030000 + o.val)).isSome = true)) ∧
    (∃ s : State, s.g F.LEVEE_SEAL_SEALED = 0) ∧
    (∃ k : BitVec 16, ∃ s : State, (s.g F.LEVEE_SEAL_SEALED = 0) ∧ (k ≠ 0x5EA1#16)) ∧
    (∃ s : State, s.g F.LEVEE_SEAL_SEALED = 1) ∧
    (∃ e : Fin 96, ∃ s : State, (s.g (F.LEVEE_EL_STAT_AMPF e) = 1) ∧ (s.ampGone e = true)) ∧
    (∃ e : Fin 96, ∃ s : State, (s.g (F.LEVEE_EL_STAT_AMPF e) = 1) ∧ (s.ampGone e = false)) ∧
    (∃ e : Fin 96, ∃ s : State, (s.g (F.LEVEE_EL_STAT_DCF e) = 1) ∧ ((s.el e).d.natAbs ≤ s.dctOf e)) ∧
    (∃ e : Fin 96, ∃ s : State, (s.g (F.LEVEE_EL_STAT_DCF e) = 1) ∧ (s.dctOf e < (s.el e).d.natAbs)) ∧
    (∃ s : State, (s.g F.LEVEE_SEAL_SEALED = 0 ∧ s.g F.LEVEE_STAT_PARITY = 1) ∧ (s.lv.bad.all (fun x => x.2) = true)) ∧
    (∃ e : Fin 96, ∃ a : Nat, ∃ s : State, (isSealReg a = true ∧ inElement e a = true) ∧ (∀ x ∈ s.lv.bad, x.1 ≠ a)) ∧
    (∃ e : Fin 96, ∃ a : Nat, ∃ s : State, (isSealReg a = true ∧ inElement e a = true) ∧ (∀ x ∈ s.lv.bad, x.1 ≠ a)) ∧
    (∃ e : Fin 96, ∃ s : State, ((s.el e).bound = true) ∧ (∀ x ∈ s.lv.bad, x.1 ≠ R.LEVEE_CFG)) :=
  ⟨⟨95, 0x81000171#32, State.reset, by decide +kernel⟩,
   ⟨0x81800171#32, by decide +kernel⟩,
   ⟨95, 1, 0x81000171#32, State.reset.wr (R.LEVEE_EL_BIND 1) 0x80000171#32, by decide +kernel⟩,
   ⟨95, 0x00000171#32, (State.reset.flag F.LEVEE_SEAL_SEALED true).flag F.TICK_STAT_RUNNING true, by decide +kernel⟩,
   ⟨95, 400#32, State.reset.flag F.LEVEE_SEAL_SEALED true, by decide +kernel⟩,
   ⟨95, 0#32, (State.reset.flag F.LEVEE_SEAL_SEALED true).p (F.LEVEE_EL_PEAK_PEAK_ATT 95) 6, by decide +kernel⟩,
   ⟨401#32, by decide +kernel⟩,
   ⟨8, 0x00100014#32, ⟨2, 2, 0, 1, .up⟩, State.reset.flag F.LEVEE_SEAL_SEALED true |>.p F.LEVEE_CFG_TEL_TO 70 |>.p F.LEVEE_CFG_FLT_POL 0 |>.p F.LEVEE_CFG_MUTE_POL 0, by decide +kernel⟩,
   ⟨0x27E4, 0x00000108#32, ⟨4, 0, 0, 16, .up⟩, State.reset, by decide +kernel⟩,
   ⟨8, 0x00100010#32, ⟨2, 2, 0, 1, .up⟩, State.reset.flag F.LEVEE_SEAL_SEALED true |>.p F.LEVEE_CFG_CH_PIN 1, by decide +kernel⟩,
   ⟨8, 0#32, ⟨5, 4, 1, 3, .down⟩, by decide +kernel⟩,
   ⟨State.reset, by decide +kernel⟩,
   ⟨0#16, State.reset, by decide +kernel⟩,
   ⟨State.reset.flag F.LEVEE_SEAL_SEALED true, by decide +kernel⟩,
   ⟨9, State.reset.ampFault 9 true, by decide +kernel⟩,
   ⟨9, (State.reset.setFlt 1 true).ampFault 9 true, by decide +kernel⟩,
   ⟨9, State.reset.p (F.LEVEE_EL_STAT_DCF 9) 1, by decide +kernel⟩,
   ⟨9, (State.reset.p (F.LEVEE_EL_STAT_DCF 9) 1).setEl 9 { Elem.reset with d := 2 ^ 60 }, by decide +kernel⟩,
   ⟨{ State.reset.p F.LEVEE_STAT_PARITY 1 with lv := { Levee.reset with bad := [(R.LEVEE_CFG, true)] } }, by decide +kernel⟩,
   ⟨9, R.LEVEE_EL_PEAK 9, State.reset, by decide +kernel⟩,
   ⟨95, R.LEVEE_EL_INIT 95, State.reset, by decide +kernel⟩,
   ⟨9, State.reset.setEl 9 { Elem.reset with bind := 0xC0350171#32 }, by decide +kernel⟩⟩

theorem test_hyps_LeveeFaultsMuteElements :
    (∃ n : Fin 24, ∃ k : Fin 16, ∃ w : Word, ∃ e : Fin 96, ∃ s : State, (s.g (F.SAP_STAT_STATE n) = 2 ∨ s.g (F.SAP_STAT_STATE n) = 3) ∧ ((s.g (F.SAP_TEL_TEL n)).testBit k = true ∧ (s.g (F.SAP_MASK_ACTIVE_RX n)).testBit k = true) ∧ (k.val ≤ s.g (F.SAP_FMT_SLOTS_M1 n)) ∧ (s.g (F.SAP_STAT_SLOT_SLIP n) = 0 ∧ s.g (F.SAP_STAT_CLK_LOST n) = 0) ∧ (bitsOf w 31 28 = 1) ∧ ((s.el e).bound = true ∧ (s.el e).telEn = true ∧ (s.el e).telPort = n.val ∧ (s.el e).telCh = bitsOf w 27 24)) ∧
    (∃ n : Fin 24, ∃ k : Fin 16, ∃ w : Word, ∃ e : Fin 96, ∃ s : State, (s.g (F.SAP_STAT_STATE n) = 2 ∨ s.g (F.SAP_STAT_STATE n) = 3) ∧ ((s.g (F.SAP_TEL_TEL n)).testBit k = true ∧ (s.g (F.SAP_MASK_ACTIVE_RX n)).testBit k = true) ∧ (k.val ≤ s.g (F.SAP_FMT_SLOTS_M1 n)) ∧ (s.g (F.SAP_STAT_SLOT_SLIP n) = 0 ∧ s.g (F.SAP_STAT_CLK_LOST n) = 0) ∧ (bitsOf w 31 28 = 3) ∧ ((s.el e).bound = true ∧ (s.el e).telEn = true ∧ (s.el e).telPort = n.val ∧ (s.el e).telCh = bitsOf w 27 24)) ∧
    (∃ n : Fin 24, ∃ k : Fin 16, ∃ w : Word, ∃ e : Fin 96, ∃ s : State, (s.g (F.SAP_STAT_STATE n) = 2 ∨ s.g (F.SAP_STAT_STATE n) = 3) ∧ ((s.g (F.SAP_TEL_TEL n)).testBit k = true ∧ (s.g (F.SAP_MASK_ACTIVE_RX n)).testBit k = true) ∧ (k.val ≤ s.g (F.SAP_FMT_SLOTS_M1 n)) ∧ (s.g (F.SAP_STAT_SLOT_SLIP n) = 0 ∧ s.g (F.SAP_STAT_CLK_LOST n) = 0) ∧ (bitsOf w 31 28 = 5) ∧ ((s.el e).bound = true ∧ (s.el e).telEn = true ∧ (s.el e).telPort = n.val ∧ (s.el e).telCh = bitsOf w 27 24)) ∧
    (∃ n : Fin 24, ∃ k : Fin 16, ∃ w : Word, ∃ e : Fin 96, ∃ s : State, (s.g (F.SAP_STAT_STATE n) = 2 ∨ s.g (F.SAP_STAT_STATE n) = 3) ∧ ((s.g (F.SAP_TEL_TEL n)).testBit k = true ∧ (s.g (F.SAP_MASK_ACTIVE_RX n)).testBit k = true) ∧ (k.val ≤ s.g (F.SAP_FMT_SLOTS_M1 n)) ∧ (s.g (F.SAP_STAT_SLOT_SLIP n) = 0 ∧ s.g (F.SAP_STAT_CLK_LOST n) = 0) ∧ (bitsOf w 31 28 = 2 ∨ bitsOf w 31 28 = 4) ∧ ((s.el e).bound = true ∧ (s.el e).telEn = true ∧ (s.el e).telPort = n.val ∧ (s.el e).telCh = bitsOf w 27 24)) ∧
    (∃ w : Word, bitsOf w 31 28 = 0) ∧
    (∃ n : Fin 24, ∃ k : Fin 16, ∃ s : State, (s.g (F.SAP_TEL_TEL n)).testBit k = false ∨ (s.g (F.SAP_MASK_ACTIVE_RX n)).testBit k = false ∨ s.g (F.SAP_STAT_SLOT_SLIP n) = 1 ∨ s.g (F.SAP_STAT_CLK_LOST n) = 1) ∧
    (∃ n : Fin 24, ∃ k : Fin 16, ∃ w : Word, ∃ s : State, (s.g (F.SAP_STAT_STATE n) = 2 ∨ s.g (F.SAP_STAT_STATE n) = 3) ∧ ((s.g (F.SAP_TEL_TEL n)).testBit k = true ∧ (s.g (F.SAP_MASK_ACTIVE_RX n)).testBit k = true) ∧ (k.val ≤ s.g (F.SAP_FMT_SLOTS_M1 n)) ∧ (s.g (F.SAP_STAT_SLOT_SLIP n) = 0 ∧ s.g (F.SAP_STAT_CLK_LOST n) = 0) ∧ (5 < bitsOf w 31 28)) ∧
    (∃ e : Fin 96, ∃ s : State, ((s.el e).bound = true ∧ (s.el e).telEn = true) ∧ (s.g (F.LEVEE_EL_STAT_TELL e) = 0)) ∧
    (∃ e : Fin 96, ∃ s : State, (s.el e).bound = false ∨ (s.el e).telEn = false ∨ s.g (F.LEVEE_EL_STAT_TELL e) = 1) ∧
    (∃ g : Fin 12, ∃ e : Fin 96, ∃ high : Bool, ∃ s : State, (high = decide (s.g F.LEVEE_CFG_FLT_POL = 1)) ∧ (e.val / 8 = g.val ∧ (s.el e).bound = true)) ∧
    (∃ high : Bool, ∃ s : State, high = decide (s.g F.LEVEE_CFG_FLT_POL = 0)) ∧
    (∃ e : Fin 96, ∃ s : State, ((s.el e).bound = true) ∧ ((s.el e).dcHit = true) ∧ (s.g (F.LEVEE_EL_STAT_DCF e) = 0)) ∧
    (∃ e : Fin 96, ∃ s : State, ((s.el e).retry = true) ∧ (s.retries e = true ∧ s.g F.LEVEE_CFG_RETRY_EN = 1) ∧ (s.g (F.LEVEE_EL_STAT_RETRIES e) < 15) ∧ (s.ampGone e = true)) ∧
    (∃ e : Fin 96, ∃ s : State, ((s.el e).retry = true) ∧ (s.retries e = true ∧ s.g F.LEVEE_CFG_RETRY_EN = 1) ∧ (s.g (F.LEVEE_EL_STAT_RETRIES e) < 15) ∧ (s.ampGone e = false)) ∧
    (∃ e : Fin 96, ∃ s : State, ((s.el e).retry = true) ∧ (s.retries e = true ∧ s.g F.LEVEE_CFG_RETRY_EN = 1) ∧ (s.g (F.LEVEE_EL_STAT_RETRIES e) < 15) ∧ (s.ampGone e = false)) ∧
    (∃ e : Fin 96, ∃ s : State, (s.el e).retry = false ∨ s.g (F.LEVEE_EL_STAT_AMPF e) = 0 ∨ s.g (F.LEVEE_EL_STAT_LOCKED e) = 1) ∧
    (∃ e : Fin 96, ∃ s : State, ((s.el e).retry = true ∧ s.retries e = true) ∧ (s.g F.LEVEE_CFG_RETRY_EN = 0)) ∧
    (∃ e : Fin 96, ∃ s : State, s.g (F.LEVEE_EL_STAT_AMPF e) = 1) ∧
    (∃ e : Fin 96, ∃ s : State, s.g (F.LEVEE_EL_STAT_AMPF e) = 0) :=
  ⟨⟨3, 0, 0x15000123#32, 4, (((State.reset.p (F.SAP_STAT_STATE 3) 2).p (F.SAP_TEL_TEL 3) 1).p (F.SAP_MASK_ACTIVE_RX 3) 1).setEl 4 { Elem.reset with bind := 0xC0350171#32 }, by decide +kernel⟩,
   ⟨3, 0, 0x35000123#32, 4, (((State.reset.p (F.SAP_STAT_STATE 3) 2).p (F.SAP_TEL_TEL 3) 1).p (F.SAP_MASK_ACTIVE_RX 3) 1).setEl 4 { Elem.reset with bind := 0xC0350171#32 }, by decide +kernel⟩,
   ⟨3, 0, 0x5500001F#32, 4, (((State.reset.p (F.SAP_STAT_STATE 3) 2).p (F.SAP_TEL_TEL 3) 1).p (F.SAP_MASK_ACTIVE_RX 3) 1).setEl 4 { Elem.reset with bind := 0xC0350171#32 }, by decide +kernel⟩,
   ⟨3, 0, 0x45000123#32, 4, (((State.reset.p (F.SAP_STAT_STATE 3) 2).p (F.SAP_TEL_TEL 3) 1).p (F.SAP_MASK_ACTIVE_RX 3) 1).setEl 4 { Elem.reset with bind := 0xC0350171#32 }, by decide +kernel⟩,
   ⟨0x05000123#32, by decide +kernel⟩,
   ⟨3, 0, State.reset, by decide +kernel⟩,
   ⟨3, 0, 0xF5000123#32, ((State.reset.p (F.SAP_STAT_STATE 3) 2).p (F.SAP_TEL_TEL 3) 1).p (F.SAP_MASK_ACTIVE_RX 3) 1, by decide +kernel⟩,
   ⟨4, State.reset.setEl 4 { Elem.reset with bind := 0xC0350171#32 }, by decide +kernel⟩,
   ⟨4, State.reset, by decide +kernel⟩,
   ⟨11, 95, false, State.reset.setEl 95 { Elem.reset with bind := 0xC0350171#32 }, by decide +kernel⟩,
   ⟨true, State.reset, by decide +kernel⟩,
   ⟨95, State.reset.setEl 95 { Elem.reset with bind := 0xC0350171#32, dcHit := true }, by decide +kernel⟩,
   ⟨95, (((State.reset.flag F.LEVEE_CFG_RETRY_EN true).p F.LEVEE_CFG_RETRY_MAX 3).ampFault 95 true) |> fun u => u.setEl 95 { u.el 95 with retry := true }, by decide +kernel⟩,
   ⟨95, (((State.reset.flag F.LEVEE_CFG_RETRY_EN true).p F.LEVEE_CFG_RETRY_MAX 3).setFlt 11 true |> fun u => u.ampFault 95 true) |> fun u => u.setEl 95 { u.el 95 with retry := true }, by decide +kernel⟩,
   ⟨95, (((State.reset.flag F.LEVEE_CFG_RETRY_EN true).p F.LEVEE_CFG_RETRY_MAX 1).setFlt 11 true |> fun u => u.ampFault 95 true) |> fun u => u.setEl 95 { u.el 95 with retry := true }, by decide +kernel⟩,
   ⟨95, State.reset, by decide +kernel⟩,
   ⟨95, (State.reset.flag F.LEVEE_CFG_RETRY_EN false |>.ampFault 95 true) |> fun u => u.setEl 95 { u.el 95 with retry := true, noRetry := false }, by decide +kernel⟩,
   ⟨95, State.reset.p (F.LEVEE_EL_STAT_AMPF 95) 1, by decide +kernel⟩,
   ⟨95, State.reset.p (F.LEVEE_EL_STAT_RETRIES 95) 3, by decide +kernel⟩⟩

theorem test_hyps_PairRolesFollowGrants :
    (∃ s : State, (s.g F.PAIR_CFG_EN = 1 ∧ s.g F.TICK_STAT_RUNNING = 1 ∧ s.g F.PAIR_STAT_DRIVING = 1) ∧ (s.fenceDue = true) ∧ (s.g F.PAIR_STAT_ROLE ≠ 0)) ∧
    (∃ s : State, ¬(s.g F.PAIR_CFG_EN = 1 ∧ s.g F.TICK_STAT_RUNNING = 1 ∧ s.g F.PAIR_STAT_DRIVING = 1 ∧ s.fenceDue = true)) ∧
    (∃ p : Fin 8, ∃ e : Env, ∃ g : BitVec 16 × BitVec 64, ∃ s : State, (s.arrives p e) ∧ (s.g F.PAIR_CFG_EN = 1) ∧ (newest s.ownGrant (g.1.toNat, g.2.toNat) = some (g.1.toNat, g.2.toNat))) ∧
    (∃ p : Fin 8, ∃ e : Env, ∃ g : BitVec 16 × BitVec 64, ∃ s : State, (s.arrives p e) ∧ (s.g F.PAIR_CFG_EN = 1) ∧ (newest s.ownGrant (g.1.toNat, g.2.toNat) = some (g.1.toNat, g.2.toNat))) ∧
    (∃ p : Fin 8, ∃ e : Env, ∃ g : BitVec 16 × BitVec 64, ∃ o : Nat × Nat, ∃ s : State, (s.arrives p e) ∧ (s.ownGrant = some o ∧ newer (g.1.toNat, g.2.toNat) o = false ∧ (g.1.toNat, g.2.toNat) ≠ o)) ∧
    (∃ p : Fin 8, ∃ e : Env, ∃ s : State, (s.arrives p e) ∧ (s.g F.PAIR_CFG_EN = 1 ∧ s.g F.PAIR_STAT_ROLE = 1)) ∧
    (∃ p : Fin 8, ∃ e : Env, ∃ s : State, (s.arrives p e) ∧ (s.g F.PAIR_CFG_EN = 1 ∧ s.g F.PAIR_STAT_ROLE = 3 ∧ s.g F.TICK_STAT_RUNNING = 1)) ∧
    (∃ p : Fin 8, ∃ e : Env, ∃ s : State, (s.arrives p e) ∧ (s.g F.PAIR_CFG_EN = 1 ∧ s.g F.PAIR_STAT_ROLE ≠ 1 ∧ ¬(s.g F.PAIR_STAT_ROLE = 3 ∧ s.g F.TICK_STAT_RUNNING = 1))) ∧
    (∃ p : Fin 8, ∃ e : Env, ∃ s : State, (s.arrives p e) ∧ (s.g F.PAIR_CFG_EN = 1 ∧ s.g F.PAIR_STAT_ROLE ≠ 1 ∧ ¬(s.g F.PAIR_STAT_ROLE = 3 ∧ s.g F.TICK_STAT_RUNNING = 1))) ∧
    (∃ p : Fin 8, ∃ e : Env, ∃ s : State, (s.arrives p e) ∧ (s.g F.PAIR_CFG_EN = 1 ∧ s.g F.PAIR_STAT_ROLE ≠ 1)) ∧
    (∃ p : Fin 8, ∃ e : Env, ∃ s : State, (s.arrives p e) ∧ (s.g F.PAIR_CFG_EN = 1 ∧ s.g F.PAIR_STAT_ROLE ≠ 1)) ∧
    (∃ p : Fin 8, ∃ e : Env, ∃ s : State, (s.arrives p e) ∧ (s.g F.PAIR_CFG_EN = 1 ∧ s.g F.PAIR_STAT_ROLE ≠ 1)) ∧
    (∃ p : Fin 8, ∃ e : Env, ∃ g : BitVec 16 × BitVec 64, ∃ s : State, (s.arrives p e) ∧ (s.g F.PAIR_CFG_EN = 1 ∧ s.g F.PAIR_STAT_ROLE = 1) ∧ (s.ownGrant.all (newer (g.1.toNat, g.2.toNat)) = true)) ∧
    (∃ p : Fin 8, ∃ e : Env, ∃ g : BitVec 16 × BitVec 64, ∃ s : State, (s.arrives p e) ∧ (s.g F.PAIR_CFG_EN = 1 ∧ s.g F.PAIR_STAT_ROLE = 1) ∧ (s.ownGrant.all (newer (g.1.toNat, g.2.toNat)) = true)) ∧
    (∃ p : Fin 8, ∃ e : Env, ∃ g : BitVec 16 × BitVec 64, ∃ s : State, (s.arrives p e) ∧ (s.g F.PAIR_CFG_EN = 1 ∧ s.g F.PAIR_STAT_ROLE = 1) ∧ (s.ownGrant.all (newer (g.1.toNat, g.2.toNat)) = true)) ∧
    (∃ p : Fin 8, ∃ e : Env, ∃ o : Nat × Nat, ∃ s : State, (s.g (F.NGL_STAT_STATE p) = 6 ∧ s.g F.FAB_ID_VALID = 1 ∧ e.dst = s.g F.FAB_ID_ID) ∧ (s.g F.PAIR_CFG_EN = 1 ∧ s.ownGrant = some o) ∧ (s.g (F.NGL_STAT_STATE (s.g F.PAIR_CFG_TETHER)) = 6 ∧ (s.ngl (s.g F.PAIR_CFG_TETHER)).quiet = false) ∧ (s.fb.txq = [] ∧ s.pw.owned = false)) ∧
    (∃ p : Fin 8, ∃ e : Env, ∃ s : State, (s.arrives p e) ∧ (s.ownGrant = none)) ∧
    (∃ s : State, s.g F.PAIR_CFG_EN = 1 ∧ 2 ≤ s.pr.pilotAge) ∧
    (∃ s : State, s.pr.pilotAge < 2) ∧
    (∃ s : State, (s.g F.PAIR_CFG_EN = 1 ∧ s.g F.PAIR_STAT_TETHER_DOWN = 0) ∧ (s.g (F.NGL_STAT_STATE (s.g F.PAIR_CFG_TETHER)) ≠ 6 ∨ 2 ≤ s.pr.peerAge)) ∧
    (∃ s : State, (s.g (F.NGL_STAT_STATE (s.g F.PAIR_CFG_TETHER)) = 6 ∧ s.pr.peerAge < 2) ∨ s.g F.PAIR_STAT_TETHER_DOWN = 1) ∧
    (∃ o : Nat × Nat, ∃ s : State, (s.g F.PAIR_CFG_EN = 1 ∧ s.g F.TICK_STAT_RUNNING = 1 ∧ s.g F.PAIR_STAT_ROLE = 2) ∧ (s.ownGrant.getD (0, 0) = o ∧ (s.ownGrant.all (fun x => x.2 != s.tick)) = true) ∧ (s.g F.FAB_ID_VALID = 1 ∧ s.g (F.NGL_STAT_STATE (s.g F.PAIR_CFG_TETHER)) = 6 ∧ (s.ngl (s.g F.PAIR_CFG_TETHER)).quiet = false) ∧ (s.fb.txq = [] ∧ s.pw.owned = false)) ∧
    (∃ s : State, s.g F.TICK_STAT_RUNNING = 0 ∨ s.g F.PAIR_STAT_ROLE ≠ 2 ∨ s.ownGrant.map Prod.snd = some s.tick) ∧
    (∃ p : Fin 8, ∃ e : Env, ∃ s : State, (s.arrives p e) ∧ (s.g F.PAIR_CFG_EN = 0)) ∧
    (∃ p : Fin 8, ∃ e : Env, ∃ s : State, (s.arrives p e) ∧ (s.g F.PAIR_CFG_EN = 0)) ∧
    (∃ p : Fin 8, ∃ e : Env, ∃ s : State, (s.arrives p e) ∧ (s.g F.PAIR_CFG_EN = 0)) ∧
    (∃ p : Fin 8, ∃ e : Env, ∃ s : State, (s.arrives p e) ∧ (s.g F.PAIR_CFG_EN = 0)) ∧
    (∃ p : Fin 8, ∃ e : Env, ∃ s : State, (s.arrives p e) ∧ (s.g F.PAIR_CFG_EN = 0)) ∧
    (∃ s : State, s.g F.PAIR_CFG_EN = 0) :=
  ⟨⟨(({ State.reset with pr := { Pair.reset with peerGrant := some (1, 9) } } : State).flag F.PAIR_CFG_EN true).flag F.TICK_STAT_RUNNING true |> fun u => (u.p F.PAIR_STAT_ROLE 2).flag F.PAIR_STAT_DRIVING true, by decide +kernel⟩,
   ⟨State.reset, by decide +kernel⟩,
   ⟨2, ⟨5, 1, 2, 0, 0, false, false, 14⟩, (3, 0x123456789), (((State.reset.p (F.NGL_STAT_STATE 2) 6).flag F.FAB_ID_VALID true).p F.FAB_ID_ID 5) |> fun u => ((u.flag F.PAIR_CFG_EN true).p F.PAIR_STAT_ROLE 1), by decide +kernel⟩,
   ⟨2, ⟨5, 1, 2, 0, 0, false, false, 14⟩, (3, 7), (((State.reset.p (F.NGL_STAT_STATE 2) 6).flag F.FAB_ID_VALID true).p F.FAB_ID_ID 5) |> fun u => ((u.flag F.PAIR_CFG_EN true).p F.PAIR_STAT_ROLE 3).flag F.TICK_STAT_RUNNING true, by decide +kernel⟩,
   ⟨2, ⟨5, 1, 2, 0, 0, false, false, 14⟩, (3, 7), (3, 8), (((State.reset.p (F.NGL_STAT_STATE 2) 6).flag F.FAB_ID_VALID true).p F.FAB_ID_ID 5) |> fun u => ((u.flag F.PAIR_GRANT_E_HELD true).p F.PAIR_GRANT_E_EPOCH 3).wr R.PAIR_GRANT_LO 8 |> fun u => (u.flag F.PAIR_CFG_EN true).p F.PAIR_STAT_ROLE 2, by decide +kernel⟩,
   ⟨2, ⟨5, 1, 2, 0, 0, false, false, 14⟩, (((State.reset.p (F.NGL_STAT_STATE 2) 6).flag F.FAB_ID_VALID true).p F.FAB_ID_ID 5) |> fun u => ((u.flag F.PAIR_CFG_EN true).p F.PAIR_STAT_ROLE 1), by decide +kernel⟩,
   ⟨2, ⟨5, 1, 2, 0, 0, false, false, 14⟩, (((State.reset.p (F.NGL_STAT_STATE 2) 6).flag F.FAB_ID_VALID true).p F.FAB_ID_ID 5) |> fun u => ((u.flag F.PAIR_CFG_EN true).p F.PAIR_STAT_ROLE 3).flag F.TICK_STAT_RUNNING true, by decide +kernel⟩,
   ⟨2, ⟨5, 1, 2, 0, 0, false, false, 14⟩, (((State.reset.p (F.NGL_STAT_STATE 2) 6).flag F.FAB_ID_VALID true).p F.FAB_ID_ID 5) |> fun u => ((u.flag F.PAIR_CFG_EN true).p F.PAIR_STAT_ROLE 3), by decide +kernel⟩,
   ⟨2, ⟨5, 1, 2, 0, 0, false, false, 14⟩, (((State.reset.p (F.NGL_STAT_STATE 2) 6).flag F.FAB_ID_VALID true).p F.FAB_ID_ID 5) |> fun u => ((u.flag F.PAIR_CFG_EN true).p F.PAIR_STAT_ROLE 2), by decide +kernel⟩,
   ⟨2, ⟨5, 1, 2, 0, 0, false, false, 14⟩, (((State.reset.p (F.NGL_STAT_STATE 2) 6).flag F.FAB_ID_VALID true).p F.FAB_ID_ID 5) |> fun u => ((u.flag F.PAIR_CFG_EN true).p F.PAIR_STAT_ROLE 2).flag F.TICK_STAT_RUNNING true, by decide +kernel⟩,
   ⟨2, ⟨5, 1, 2, 0, 0, false, false, 14⟩, (((State.reset.p (F.NGL_STAT_STATE 2) 6).flag F.FAB_ID_VALID true).p F.FAB_ID_ID 5) |> fun u => ((u.flag F.PAIR_CFG_EN true).p F.PAIR_STAT_ROLE 2).flag F.TICK_STAT_RUNNING true, by decide +kernel⟩,
   ⟨2, ⟨5, 1, 2, 0, 0, false, false, 14⟩, (((State.reset.p (F.NGL_STAT_STATE 2) 6).flag F.FAB_ID_VALID true).p F.FAB_ID_ID 5) |> fun u => ((u.flag F.PAIR_CFG_EN true).p F.PAIR_STAT_ROLE 2).flag F.TICK_STAT_RUNNING true, by decide +kernel⟩,
   ⟨2, ⟨5, 1, 2, 0, 0, false, false, 14⟩, (3, 7), (((State.reset.p (F.NGL_STAT_STATE 2) 6).flag F.FAB_ID_VALID true).p F.FAB_ID_ID 5) |> fun u => ((u.flag F.PAIR_CFG_EN true).p F.PAIR_STAT_ROLE 1).flag F.TICK_STAT_RUNNING true, by decide +kernel⟩,
   ⟨2, ⟨5, 1, 2, 0, 0, false, false, 14⟩, (3, 7), (((State.reset.p (F.NGL_STAT_STATE 2) 6).flag F.FAB_ID_VALID true).p F.FAB_ID_ID 5) |> fun u => ((u.flag F.PAIR_CFG_EN true).p F.PAIR_STAT_ROLE 1).flag F.TICK_STAT_RUNNING true, by decide +kernel⟩,
   ⟨2, ⟨5, 1, 2, 0, 0, false, false, 14⟩, (3, 7), (((State.reset.p (F.NGL_STAT_STATE 2) 6).flag F.FAB_ID_VALID true).p F.FAB_ID_ID 5) |> fun u => ((u.flag F.PAIR_CFG_EN true).p F.PAIR_STAT_ROLE 1).flag F.TICK_STAT_RUNNING true, by decide +kernel⟩,
   ⟨2, ⟨5, 1, 2, 0, 0, false, false, 14⟩, (3, 8), (((State.reset.p (F.NGL_STAT_STATE 2) 6).flag F.FAB_ID_VALID true).p F.FAB_ID_ID 5) |> fun u => (((u.flag F.PAIR_CFG_EN true).p F.PAIR_CFG_TETHER 2).p F.PAIR_GRANT_E_EPOCH 3).flag F.PAIR_GRANT_E_HELD true |> fun u => u.wr R.PAIR_GRANT_LO 8, by decide +kernel⟩,
   ⟨2, ⟨5, 1, 2, 0, 0, false, false, 14⟩, (((State.reset.p (F.NGL_STAT_STATE 2) 6).flag F.FAB_ID_VALID true).p F.FAB_ID_ID 5) |> fun u => ((u.flag F.PAIR_CFG_EN true).p F.PAIR_STAT_ROLE 2), by decide +kernel⟩,
   ⟨({ State.reset with pr := { Pair.reset with pilotAge := 2 } } : State).flag F.PAIR_CFG_EN true, by decide +kernel⟩,
   ⟨State.reset.flag F.PAIR_CFG_EN true, by decide +kernel⟩,
   ⟨({ State.reset with pr := { Pair.reset with peerAge := 2 } } : State).flag F.PAIR_CFG_EN true, by decide +kernel⟩,
   ⟨(State.reset.flag F.PAIR_CFG_EN true).p (F.NGL_STAT_STATE 0) 6, by decide +kernel⟩,
   ⟨(3, 8), (((State.reset.p (F.NGL_STAT_STATE 2) 6).flag F.FAB_ID_VALID true).p F.FAB_ID_ID 5) |> fun u => (((u.flag F.PAIR_CFG_EN true).p F.PAIR_CFG_TETHER 2).p F.PAIR_GRANT_E_EPOCH 3).flag F.PAIR_GRANT_E_HELD true |> fun u => ((u.wr R.PAIR_GRANT_LO 8).flag F.TICK_STAT_RUNNING true).p F.PAIR_STAT_ROLE 2, by decide +kernel⟩,
   ⟨State.reset.flag F.PAIR_CFG_EN true, by decide +kernel⟩,
   ⟨2, ⟨5, 1, 2, 0, 0, false, false, 14⟩, (((State.reset.p (F.NGL_STAT_STATE 2) 6).flag F.FAB_ID_VALID true).p F.FAB_ID_ID 5), by decide +kernel⟩,
   ⟨2, ⟨5, 1, 2, 0, 0, false, false, 14⟩, (((State.reset.p (F.NGL_STAT_STATE 2) 6).flag F.FAB_ID_VALID true).p F.FAB_ID_ID 5), by decide +kernel⟩,
   ⟨2, ⟨5, 1, 2, 0, 0, false, false, 14⟩, (((State.reset.p (F.NGL_STAT_STATE 2) 6).flag F.FAB_ID_VALID true).p F.FAB_ID_ID 5), by decide +kernel⟩,
   ⟨2, ⟨5, 1, 2, 0, 0, false, false, 14⟩, (((State.reset.p (F.NGL_STAT_STATE 2) 6).flag F.FAB_ID_VALID true).p F.FAB_ID_ID 5), by decide +kernel⟩,
   ⟨2, ⟨5, 1, 2, 0, 0, false, false, 14⟩, (((State.reset.p (F.NGL_STAT_STATE 2) 6).flag F.FAB_ID_VALID true).p F.FAB_ID_ID 5), by decide +kernel⟩,
   ⟨State.reset, by decide +kernel⟩⟩

theorem test_hyps_PilotGrantsOneMemberOfAPair :
    (∃ p : Fin 8, ∃ e : Env, ∃ ws : List Word, ∃ m : Fin 2, ∃ s : State, (s.arrives p e) ∧ (s.g F.PILOT_CTL_EN = 1 ∧ s.g (F.PILOT_PAIR_EN (bitsOf (ws.getD 0 0) 15 12)) = 1) ∧ (e.src = s.member (bitsOf (ws.getD 0 0) 15 12) m ∧ (m = 1 → e.src ≠ s.member (bitsOf (ws.getD 0 0) 15 12) 0))) ∧
    (∃ p : Fin 8, ∃ e : Env, ∃ ws : List Word, ∃ m : Fin 2, ∃ s : State, (s.arrives p e) ∧ (s.g F.PILOT_CTL_EN = 1 ∧ s.g (F.PILOT_PAIR_EN (bitsOf (ws.getD 0 0) 15 12)) = 1) ∧ (e.src = s.member (bitsOf (ws.getD 0 0) 15 12) m ∧ (m = 1 → e.src ≠ s.member (bitsOf (ws.getD 0 0) 15 12) 0))) ∧
    (∃ p : Fin 8, ∃ e : Env, ∃ ws : List Word, ∃ m : Fin 2, ∃ s : State, (s.arrives p e) ∧ (s.g F.PILOT_CTL_EN = 1 ∧ s.g (F.PILOT_PAIR_EN (bitsOf (ws.getD 0 0) 15 12)) = 1) ∧ (e.src = s.member (bitsOf (ws.getD 0 0) 15 12) m ∧ (m = 1 → e.src ≠ s.member (bitsOf (ws.getD 0 0) 15 12) 0)) ∧ (bitsOf (ws.getD 0 0) 2 0 = 5 ∧ s.g (F.PILOT_PSTAT_STATE (bitsOf (ws.getD 0 0) 15 12)) = m + 1) ∧ (s.goodBeat (bitsOf (ws.getD 0 0) 15 12) (1 - m) s.tick = true ∨ s.goodBeat (bitsOf (ws.getD 0 0) 15 12) (1 - m) (s.tick - 1) = true)) ∧
    (∃ p : Fin 8, ∃ e : Env, ∃ s : State, (s.arrives p e) ∧ (s.g F.PAIR_CFG_EN = 1 ∧ e.src = s.g F.PAIR_CFG_PARTNER)) ∧
    (∃ p : Fin 8, ∃ e : Env, ∃ ws : List Word, ∃ s : State, (s.arrives p e) ∧ (s.g F.PILOT_CTL_EN = 0 ∨ s.g (F.PILOT_PAIR_EN (bitsOf (ws.getD 0 0) 15 12)) = 0 ∨ (e.src ≠ s.member (bitsOf (ws.getD 0 0) 15 12) 0 ∧ e.src ≠ s.member (bitsOf (ws.getD 0 0) 15 12) 1)) ∧ (s.g F.PAIR_CFG_EN = 0 ∨ e.src ≠ s.g F.PAIR_CFG_PARTNER)) ∧
    (∃ p : Fin 16, ∃ s : State, (s.g F.TICK_STAT_RUNNING = 1 ∧ s.g F.PILOT_CTL_EN = 1 ∧ 2 ≤ s.pr.pilotTicks ∧ s.g (F.PILOT_PAIR_EN p) = 1) ∧ (s.g (F.PILOT_PSTAT_STATE p) = 0)) ∧
    (∃ p : Fin 16, ∃ s : State, (s.g F.TICK_STAT_RUNNING = 1 ∧ s.g F.PILOT_CTL_EN = 1 ∧ 2 ≤ s.pr.pilotTicks ∧ s.g (F.PILOT_PAIR_EN p) = 1) ∧ (s.g (F.PILOT_PSTAT_STATE p) = 0)) ∧
    (∃ p : Fin 16, ∃ s : State, (s.g F.TICK_STAT_RUNNING = 1 ∧ s.g F.PILOT_CTL_EN = 1 ∧ 2 ≤ s.pr.pilotTicks ∧ s.g (F.PILOT_PAIR_EN p) = 1) ∧ (s.g (F.PILOT_PSTAT_STATE p) = 0)) ∧
    (∃ p : Fin 16, ∃ m : Fin 2, ∃ s : State, (s.g F.TICK_STAT_RUNNING = 1 ∧ s.g F.PILOT_CTL_EN = 1 ∧ 2 ≤ s.pr.pilotTicks ∧ s.g (F.PILOT_PAIR_EN p) = 1) ∧ (s.g (F.PILOT_PSTAT_STATE p) = m + 1) ∧ (s.goodBeat p m s.tick = true) ∧ (¬(s.g (F.PILOT_PAIR_SWITCH p) = 1 ∨ (s.beat p m).any Beat.failover = true))) ∧
    (∃ p : Fin 16, ∃ m : Fin 2, ∃ s : State, (s.g F.TICK_STAT_RUNNING = 1 ∧ s.g F.PILOT_CTL_EN = 1 ∧ 2 ≤ s.pr.pilotTicks ∧ s.g (F.PILOT_PAIR_EN p) = 1) ∧ (s.g (F.PILOT_PSTAT_STATE p) = m + 1) ∧ (s.goodBeat p m s.tick = true) ∧ (¬(s.g (F.PILOT_PAIR_SWITCH p) = 1 ∨ (s.beat p m).any Beat.failover = true))) ∧
    (∃ p : Fin 16, ∃ m : Fin 2, ∃ q : Nat, ∃ s : State, (s.g F.TICK_STAT_RUNNING = 1 ∧ s.g F.PILOT_CTL_EN = 1 ∧ 2 ≤ s.pr.pilotTicks ∧ s.g (F.PILOT_PAIR_EN p) = 1) ∧ (s.g (F.PILOT_PSTAT_STATE p) = m + 1) ∧ (s.goodBeat p m s.tick = true) ∧ (¬(s.g (F.PILOT_PAIR_SWITCH p) = 1 ∨ (s.beat p m).any Beat.failover = true)) ∧ (s.g F.FAB_ID_VALID = 1 ∧ s.routeTo (s.member p m) = some q ∧ (s.ngl q).quiet = false) ∧ (s.fb.txq = [] ∧ s.pw.owned = false ∧ s.pr.epochKnown = true)) ∧
    (∃ p : Fin 16, ∃ m : Fin 2, ∃ s : State, (s.g F.TICK_STAT_RUNNING = 1 ∧ s.g F.PILOT_CTL_EN = 1 ∧ 2 ≤ s.pr.pilotTicks ∧ s.g (F.PILOT_PAIR_EN p) = 1) ∧ (s.g (F.PILOT_PSTAT_STATE p) = m + 1) ∧ (s.goodBeat p m s.tick = true) ∧ ((s.g (F.PILOT_PAIR_SWITCH p) = 1 ∨ (s.beat p m).any Beat.failover = true)) ∧ ((s.goodBeat p (1 - m) s.tick = true ∧ (s.beat p (1 - m)).any (fun b => b.ready == 2) = true))) ∧
    (∃ p : Fin 16, ∃ m : Fin 2, ∃ s : State, (s.g F.TICK_STAT_RUNNING = 1 ∧ s.g F.PILOT_CTL_EN = 1 ∧ 2 ≤ s.pr.pilotTicks ∧ s.g (F.PILOT_PAIR_EN p) = 1) ∧ (s.g (F.PILOT_PSTAT_STATE p) = m + 1) ∧ (s.goodBeat p m s.tick = true) ∧ ((s.g (F.PILOT_PAIR_SWITCH p) = 1 ∨ (s.beat p m).any Beat.failover = true)) ∧ ((s.goodBeat p (1 - m) s.tick = true ∧ (s.beat p (1 - m)).any (fun b => b.ready == 2) = true))) ∧
    (∃ p : Fin 16, ∃ m : Fin 2, ∃ s : State, (s.g F.TICK_STAT_RUNNING = 1 ∧ s.g F.PILOT_CTL_EN = 1 ∧ 2 ≤ s.pr.pilotTicks ∧ s.g (F.PILOT_PAIR_EN p) = 1) ∧ (s.g (F.PILOT_PSTAT_STATE p) = m + 1) ∧ (s.goodBeat p m s.tick = true) ∧ ((s.g (F.PILOT_PAIR_SWITCH p) = 1 ∨ (s.beat p m).any Beat.failover = true)) ∧ (¬(s.goodBeat p (1 - m) s.tick = true ∧ (s.beat p (1 - m)).any (fun b => b.ready == 2) = true))) ∧
    (∃ p : Fin 16, ∃ m : Fin 2, ∃ s : State, (s.g F.TICK_STAT_RUNNING = 1 ∧ s.g F.PILOT_CTL_EN = 1 ∧ 2 ≤ s.pr.pilotTicks ∧ s.g (F.PILOT_PAIR_EN p) = 1) ∧ (s.g (F.PILOT_PSTAT_STATE p) = m + 1) ∧ (s.goodBeat p m s.tick = true) ∧ ((s.g (F.PILOT_PAIR_SWITCH p) = 1 ∨ (s.beat p m).any Beat.failover = true)) ∧ (¬(s.goodBeat p (1 - m) s.tick = true ∧ (s.beat p (1 - m)).any (fun b => b.ready == 2) = true))) ∧
    (∃ p : Fin 16, ∃ m : Fin 2, ∃ s : State, (s.g F.TICK_STAT_RUNNING = 1 ∧ s.g F.PILOT_CTL_EN = 1 ∧ 2 ≤ s.pr.pilotTicks ∧ s.g (F.PILOT_PAIR_EN p) = 1) ∧ (s.g (F.PILOT_PSTAT_STATE p) = m + 1) ∧ (s.goodBeat p m s.tick = false ∧ s.goodBeat p (1 - m) s.tick = true)) ∧
    (∃ p : Fin 16, ∃ m : Fin 2, ∃ s : State, (s.g F.TICK_STAT_RUNNING = 1 ∧ s.g F.PILOT_CTL_EN = 1 ∧ 2 ≤ s.pr.pilotTicks ∧ s.g (F.PILOT_PAIR_EN p) = 1) ∧ (s.g (F.PILOT_PSTAT_STATE p) = m + 1) ∧ (s.goodBeat p m s.tick = false ∧ s.goodBeat p (1 - m) s.tick = true)) ∧
    (∃ p : Fin 16, ∃ m : Fin 2, ∃ s : State, (s.g F.TICK_STAT_RUNNING = 1 ∧ s.g F.PILOT_CTL_EN = 1 ∧ 2 ≤ s.pr.pilotTicks ∧ s.g (F.PILOT_PAIR_EN p) = 1) ∧ (s.g (F.PILOT_PSTAT_STATE p) = m + 1) ∧ (s.goodBeat p 0 s.tick = false ∧ s.goodBeat p 1 s.tick = false)) ∧
    (∃ p : Fin 16, ∃ m : Fin 2, ∃ s : State, (s.g F.TICK_STAT_RUNNING = 1 ∧ s.g F.PILOT_CTL_EN = 1 ∧ 2 ≤ s.pr.pilotTicks ∧ s.g (F.PILOT_PAIR_EN p) = 1) ∧ (s.g (F.PILOT_PSTAT_STATE p) = m + 1) ∧ (s.goodBeat p 0 s.tick = false ∧ s.goodBeat p 1 s.tick = false)) ∧
    (∃ s : State, s.g F.TICK_STAT_RUNNING = 0 ∨ s.g F.PILOT_CTL_EN = 0 ∨ s.pr.pilotTicks < 2) ∧
    (∃ v : Word, ∃ s : State, (s.g F.PILOT_CTL_EN = 0) ∧ (v.getLsbD 31 = true)) ∧
    (∃ v : Word, ∃ s : State, s.g F.PILOT_CTL_EN = 1 ∨ v.getLsbD 31 = false) ∧
    (∃ v : Word, ∃ s : State, s.g F.PILOT_CTL_EN = 1 ∨ v.getLsbD 31 = false) ∧
    (∃ p : Fin 16, ∃ v : Word, ∃ s : State, (bitsOf v 5 0 ≠ bitsOf v 13 8) ∧ (s.g F.FAB_ID_VALID = 1 → bitsOf v 5 0 ≠ s.g F.FAB_ID_ID ∧ bitsOf v 13 8 ≠ s.g F.FAB_ID_ID) ∧ (∀ q : Fin 16, q ≠ p → s.g (F.PILOT_PAIR_EN q) = 1 → ∀ m : Fin 2, s.member q m ≠ bitsOf v 5 0 ∧ s.member q m ≠ bitsOf v 13 8)) ∧
    (∃ p : Fin 16, ∃ v : Word, ∃ s : State, bitsOf v 5 0 = bitsOf v 13 8 ∨ (s.g F.FAB_ID_VALID = 1 ∧ (bitsOf v 5 0 = s.g F.FAB_ID_ID ∨ bitsOf v 13 8 = s.g F.FAB_ID_ID)) ∨ (∃ q : Fin 16, q ≠ p ∧ s.g (F.PILOT_PAIR_EN q) = 1 ∧ ∃ m : Fin 2, s.member q m = bitsOf v 5 0 ∨ s.member q m = bitsOf v 13 8)) ∧
    (∃ p : Fin 16, ∃ v : Word, ∃ s : State, bitsOf v 5 0 = bitsOf v 13 8 ∨ (s.g F.FAB_ID_VALID = 1 ∧ (bitsOf v 5 0 = s.g F.FAB_ID_ID ∨ bitsOf v 13 8 = s.g F.FAB_ID_ID)) ∨ (∃ q : Fin 16, q ≠ p ∧ s.g (F.PILOT_PAIR_EN q) = 1 ∧ ∃ m : Fin 2, s.member q m = bitsOf v 5 0 ∨ s.member q m = bitsOf v 13 8)) ∧
    (∃ p : Fin 16, ∃ v : Word, ∃ s : State, bitsOf v 5 0 = bitsOf v 13 8 ∨ (s.g F.FAB_ID_VALID = 1 ∧ (bitsOf v 5 0 = s.g F.FAB_ID_ID ∨ bitsOf v 13 8 = s.g F.FAB_ID_ID)) ∨ (∃ q : Fin 16, q ≠ p ∧ s.g (F.PILOT_PAIR_EN q) = 1 ∧ ∃ m : Fin 2, s.member q m = bitsOf v 5 0 ∨ s.member q m = bitsOf v 13 8)) ∧
    (∃ p : Fin 16, ∃ v : Word, ∃ s : State, (bitsOf v 5 0 = s.g (F.PILOT_PAIR_DEV_A p) ∧ bitsOf v 13 8 = s.g (F.PILOT_PAIR_DEV_B p) ∧ bitsOf v 31 31 = s.g (F.PILOT_PAIR_EN p)) ∧ (bitsOf v 5 0 ≠ bitsOf v 13 8) ∧ (s.g F.FAB_ID_VALID = 1 → bitsOf v 5 0 ≠ s.g F.FAB_ID_ID ∧ bitsOf v 13 8 ≠ s.g F.FAB_ID_ID) ∧ (∀ q : Fin 16, q ≠ p → s.g (F.PILOT_PAIR_EN q) = 1 → ∀ m : Fin 2, s.member q m ≠ bitsOf v 5 0 ∧ s.member q m ≠ bitsOf v 13 8)) ∧
    (∃ p : Fin 16, ∃ v : Word, ∃ s : State, (¬(bitsOf v 5 0 = s.g (F.PILOT_PAIR_DEV_A p) ∧ bitsOf v 13 8 = s.g (F.PILOT_PAIR_DEV_B p) ∧ bitsOf v 31 31 = s.g (F.PILOT_PAIR_EN p))) ∧ (bitsOf v 5 0 ≠ bitsOf v 13 8) ∧ (s.g F.FAB_ID_VALID = 1 → bitsOf v 5 0 ≠ s.g F.FAB_ID_ID ∧ bitsOf v 13 8 ≠ s.g F.FAB_ID_ID) ∧ (∀ q : Fin 16, q ≠ p → s.g (F.PILOT_PAIR_EN q) = 1 → ∀ m : Fin 2, s.member q m ≠ bitsOf v 5 0 ∧ s.member q m ≠ bitsOf v 13 8)) ∧
    (∃ v : Word, ∃ s : State, (s.g F.TICK_STAT_RUNNING = 0 ∧ s.g F.PAIR_CFG_EN = 0) ∧ (s.g F.FAB_ID_VALID = 1 → bitsOf v 21 16 ≠ s.g F.FAB_ID_ID ∧ bitsOf v 13 8 ≠ s.g F.FAB_ID_ID) ∧ (v.getLsbD 31 = true) ∧ (s.g F.PAIR_STAT_ROLE = 0)) ∧
    (∃ v : Word, ∃ s : State, (s.g F.TICK_STAT_RUNNING = 0 ∧ s.g F.PAIR_CFG_EN = 1) ∧ (s.g F.FAB_ID_VALID = 1 → bitsOf v 21 16 ≠ s.g F.FAB_ID_ID ∧ bitsOf v 13 8 ≠ s.g F.FAB_ID_ID) ∧ (v.getLsbD 31 = false)) ∧
    (∃ v : Word, ∃ s : State, (s.g F.TICK_STAT_RUNNING = 0 ∧ s.g F.PAIR_CFG_EN = bitsOf v 31 31) ∧ (s.g F.FAB_ID_VALID = 1 → bitsOf v 21 16 ≠ s.g F.FAB_ID_ID ∧ bitsOf v 13 8 ≠ s.g F.FAB_ID_ID)) ∧
    (∃ v : Word, ∃ s : State, s.g F.TICK_STAT_RUNNING = 1 ∨ (s.g F.FAB_ID_VALID = 1 ∧ (bitsOf v 21 16 = s.g F.FAB_ID_ID ∨ bitsOf v 13 8 = s.g F.FAB_ID_ID))) ∧
    (∃ v : Word, ∃ s : State, s.g F.TICK_STAT_RUNNING = 1 ∨ (s.g F.FAB_ID_VALID = 1 ∧ (bitsOf v 21 16 = s.g F.FAB_ID_ID ∨ bitsOf v 13 8 = s.g F.FAB_ID_ID))) ∧
    (∃ s : State, s.pr.sigWork = true) ∧
    (∃ s : State, s.pr.sigWork = false) :=
  ⟨⟨2, ⟨5, 1, 1, 0, 0, false, false, 14⟩, [0x3002#32, 9#32], 0, (((State.reset.p (F.NGL_STAT_STATE 2) 6).flag F.FAB_ID_VALID true).p F.FAB_ID_ID 5) |> fun u => ((u.flag F.PILOT_CTL_EN true).flag (F.PILOT_PAIR_EN 3) true).p (F.PILOT_PAIR_DEV_A 3) 1 |> fun u => u.p (F.PILOT_PAIR_DEV_B 3) 2, by decide +kernel⟩,
   ⟨2, ⟨5, 2, 1, 0, 0, false, false, 14⟩, [0x3003#32, 9#32], 1, (((State.reset.p (F.NGL_STAT_STATE 2) 6).flag F.FAB_ID_VALID true).p F.FAB_ID_ID 5) |> fun u => ((u.flag F.PILOT_CTL_EN true).flag (F.PILOT_PAIR_EN 3) true).p (F.PILOT_PAIR_DEV_A 3) 1 |> fun u => u.p (F.PILOT_PAIR_DEV_B 3) 2, by decide +kernel⟩,
   ⟨2, ⟨5, 1, 1, 0, 0, false, false, 14⟩, [0x3005#32, 9#32], 0, (((({ State.reset with pr := { Pair.reset with beats := [(7, some ⟨0, 2, false, 0, false, 4⟩)] } } : State).p (F.NGL_STAT_STATE 2) 6).flag F.FAB_ID_VALID true).p F.FAB_ID_ID 5) |> fun u => ((u.flag F.PILOT_CTL_EN true).flag (F.PILOT_PAIR_EN 3) true).p (F.PILOT_PAIR_DEV_A 3) 1 |> fun u => u.p (F.PILOT_PAIR_DEV_B 3) 2|> fun u => u.p (F.PILOT_PSTAT_STATE 3) 1, by decide +kernel⟩,
   ⟨2, ⟨5, 0, 1, 0, 0, false, false, 14⟩, (((State.reset.p (F.NGL_STAT_STATE 2) 6).flag F.FAB_ID_VALID true).p F.FAB_ID_ID 5).flag F.PAIR_CFG_EN true, by decide +kernel⟩,
   ⟨2, ⟨5, 9, 1, 0, 0, false, false, 14⟩, [0x3002#32, 9#32], (((State.reset.p (F.NGL_STAT_STATE 2) 6).flag F.FAB_ID_VALID true).p F.FAB_ID_ID 5).flag F.PAIR_CFG_EN true, by decide +kernel⟩,
   ⟨3, ({ State.reset with pr := { Pair.reset with pilotTicks := 2, beats := [(6, some ⟨0, 3, false, 0, false, 4⟩), (7, some ⟨0, 2, false, 0, false, 4⟩)] } } : State).flag F.TICK_STAT_RUNNING true |> fun u => (u.flag F.PILOT_CTL_EN true).flag (F.PILOT_PAIR_EN 3) true |> fun u => u.p (F.PILOT_PSTAT_STATE 3) 0, by decide +kernel⟩,
   ⟨3, ({ State.reset with pr := { Pair.reset with pilotTicks := 2, beats := [(6, some ⟨0, 3, false, 0, false, 4⟩), (7, some ⟨0, 1, false, 0, false, 4⟩)] } } : State).flag F.TICK_STAT_RUNNING true |> fun u => (u.flag F.PILOT_CTL_EN true).flag (F.PILOT_PAIR_EN 3) true |> fun u => u.p (F.PILOT_PSTAT_STATE 3) 0, by decide +kernel⟩,
   ⟨3, ({ State.reset with pr := { Pair.reset with pilotTicks := 2, beats := [] } } : State).flag F.TICK_STAT_RUNNING true |> fun u => (u.flag F.PILOT_CTL_EN true).flag (F.PILOT_PAIR_EN 3) true |> fun u => u.p (F.PILOT_PSTAT_STATE 3) 0, by decide +kernel⟩,
   ⟨3, 0, ({ State.reset with pr := { Pair.reset with pilotTicks := 2, beats := [(6, some ⟨0, 2, false, 0, false, 4⟩)] } } : State).flag F.TICK_STAT_RUNNING true |> fun u => (u.flag F.PILOT_CTL_EN true).flag (F.PILOT_PAIR_EN 3) true |> fun u => u.p (F.PILOT_PSTAT_STATE 3) 1, by decide +kernel⟩,
   ⟨3, 1, ({ State.reset with pr := { Pair.reset with pilotTicks := 2, beats := [(7, some ⟨0, 2, false, 0, false, 4⟩)] } } : State).flag F.TICK_STAT_RUNNING true |> fun u => (u.flag F.PILOT_CTL_EN true).flag (F.PILOT_PAIR_EN 3) true |> fun u => u.p (F.PILOT_PSTAT_STATE 3) 2, by decide +kernel⟩,
   ⟨3, 0, 2, ({ State.reset with pr := { Pair.reset with pilotTicks := 2, epochKnown := true, beats := [(6, some ⟨0, 2, false, 0, false, 4⟩)] } } : State).flag F.TICK_STAT_RUNNING true |> fun u => (u.flag F.PILOT_CTL_EN true).flag (F.PILOT_PAIR_EN 3) true |> fun u => u.p (F.PILOT_PSTAT_STATE 3) 1 |> fun u => (((u.p (F.NGL_STAT_STATE 2) 6).flag F.FAB_ID_VALID true).p F.FAB_ID_ID 5).p (F.PILOT_PAIR_DEV_A 3) 1 |> fun u => (u.p (F.PILOT_PAIR_DEV_B 3) 7).flag (F.FAB_ROUTE_PRI_EN 1) true |> fun u => u.p (F.FAB_ROUTE_PRI 1) 2, by decide +kernel⟩,
   ⟨3, 0, ({ State.reset with pr := { Pair.reset with pilotTicks := 2, beats := [(6, some ⟨0, 2, true, 0, false, 4⟩), (7, some ⟨0, 3, false, 2, false, 4⟩)] } } : State).flag F.TICK_STAT_RUNNING true |> fun u => (u.flag F.PILOT_CTL_EN true).flag (F.PILOT_PAIR_EN 3) true |> fun u => u.p (F.PILOT_PSTAT_STATE 3) 1, by decide +kernel⟩,
   ⟨3, 1, ({ State.reset with pr := { Pair.reset with pilotTicks := 2, beats := [(6, some ⟨0, 3, false, 2, false, 4⟩), (7, some ⟨0, 2, false, 0, false, 4⟩)] } } : State).flag F.TICK_STAT_RUNNING true |> fun u => (u.flag F.PILOT_CTL_EN true).flag (F.PILOT_PAIR_EN 3) true |> fun u => u.p (F.PILOT_PSTAT_STATE 3) 2|> fun u => u.flag (F.PILOT_PAIR_SWITCH 3) true, by decide +kernel⟩,
   ⟨3, 0, ({ State.reset with pr := { Pair.reset with pilotTicks := 2, beats := [(6, some ⟨0, 2, true, 0, false, 4⟩)] } } : State).flag F.TICK_STAT_RUNNING true |> fun u => (u.flag F.PILOT_CTL_EN true).flag (F.PILOT_PAIR_EN 3) true |> fun u => u.p (F.PILOT_PSTAT_STATE 3) 1, by decide +kernel⟩,
   ⟨3, 1, ({ State.reset with pr := { Pair.reset with pilotTicks := 2, beats := [(7, some ⟨0, 2, false, 0, false, 4⟩)] } } : State).flag F.TICK_STAT_RUNNING true |> fun u => (u.flag F.PILOT_CTL_EN true).flag (F.PILOT_PAIR_EN 3) true |> fun u => u.p (F.PILOT_PSTAT_STATE 3) 2|> fun u => u.flag (F.PILOT_PAIR_SWITCH 3) true, by decide +kernel⟩,
   ⟨3, 0, ({ State.reset with pr := { Pair.reset with pilotTicks := 2, beats := [(7, some ⟨0, 2, false, 0, false, 4⟩)] } } : State).flag F.TICK_STAT_RUNNING true |> fun u => (u.flag F.PILOT_CTL_EN true).flag (F.PILOT_PAIR_EN 3) true |> fun u => u.p (F.PILOT_PSTAT_STATE 3) 1, by decide +kernel⟩,
   ⟨3, 1, ({ State.reset with pr := { Pair.reset with pilotTicks := 2, beats := [(6, some ⟨0, 2, false, 0, false, 4⟩)] } } : State).flag F.TICK_STAT_RUNNING true |> fun u => (u.flag F.PILOT_CTL_EN true).flag (F.PILOT_PAIR_EN 3) true |> fun u => u.p (F.PILOT_PSTAT_STATE 3) 2, by decide +kernel⟩,
   ⟨3, 0, ({ State.reset with pr := { Pair.reset with pilotTicks := 2, beats := [] } } : State).flag F.TICK_STAT_RUNNING true |> fun u => (u.flag F.PILOT_CTL_EN true).flag (F.PILOT_PAIR_EN 3) true |> fun u => u.p (F.PILOT_PSTAT_STATE 3) 1, by decide +kernel⟩,
   ⟨3, 1, ({ State.reset with pr := { Pair.reset with pilotTicks := 2, beats := [(6, some ⟨0, 5, false, 0, false, 4⟩)] } } : State).flag F.TICK_STAT_RUNNING true |> fun u => (u.flag F.PILOT_CTL_EN true).flag (F.PILOT_PAIR_EN 3) true |> fun u => u.p (F.PILOT_PSTAT_STATE 3) 2, by decide +kernel⟩,
   ⟨State.reset, by decide +kernel⟩,
   ⟨0x80000000#32, State.reset, by decide +kernel⟩,
   ⟨0#32, State.reset.flag F.PILOT_CTL_EN true, by decide +kernel⟩,
   ⟨0x80000000#32, State.reset.flag F.PILOT_CTL_EN true, by decide +kernel⟩,
   ⟨15, 0x80000102#32, State.reset.p (F.PILOT_PSTAT_STATE 15) 2, by decide +kernel⟩,
   ⟨15, 0x80000202#32, State.reset, by decide +kernel⟩,
   ⟨15, 0x80000205#32, (((State.reset.p (F.NGL_STAT_STATE 2) 6).flag F.FAB_ID_VALID true).p F.FAB_ID_ID 5), by decide +kernel⟩,
   ⟨15, 0x80000203#32, State.reset.wr (R.PILOT_PAIR 4) 0x80000302#32, by decide +kernel⟩,
   ⟨15, 0x80000102#32, State.reset.wr (R.PILOT_PAIR 15) 0x80000102#32, by decide +kernel⟩,
   ⟨15, 0x80000102#32, State.reset.p (F.PILOT_PSTAT_STATE 15) 2, by decide +kernel⟩,
   ⟨0x80030207#32, State.reset, by decide +kernel⟩,
   ⟨0x00030207#32, (State.reset.flag F.PAIR_CFG_EN true).p F.PAIR_STAT_ROLE 2, by decide +kernel⟩,
   ⟨0x80030207#32, (State.reset.flag F.PAIR_CFG_EN true).p F.PAIR_STAT_ROLE 2, by decide +kernel⟩,
   ⟨0x80030207#32, State.reset.flag F.TICK_STAT_RUNNING true, by decide +kernel⟩,
   ⟨0x80050207#32, (((State.reset.p (F.NGL_STAT_STATE 2) 6).flag F.FAB_ID_VALID true).p F.FAB_ID_ID 5), by decide +kernel⟩,
   ⟨{ State.reset with pr := { Pair.reset with sigWork := true } }, by decide +kernel⟩,
   ⟨State.reset, by decide +kernel⟩⟩

set_option maxRecDepth 20000 in
theorem test_hyps_FerryKeepsTheCheckpoint :
    (∃ n : Fin 16, ∃ v : Word, ∃ s : State, (s.fieldWrite (R.PAIR_FT_LINES n) v).areasAllowed = true) ∧
    (∃ n : Fin 16, ∃ v : Word, ∃ s : State, (s.fieldWrite (R.PAIR_FT_BASE n) v).areasAllowed = true) ∧
    (∃ n : Fin 16, ∃ lines : Bool, ∃ v : Word, ∃ s : State, (s.fieldWrite (if lines then R.PAIR_FT_LINES n else R.PAIR_FT_BASE n) v).areasAllowed = false) ∧
    (∃ n : Fin 16, ∃ lines : Bool, ∃ v : Word, ∃ s : State, (s.fieldWrite (if lines then R.PAIR_FT_LINES n else R.PAIR_FT_BASE n) v).areasAllowed = false) ∧
    (∃ s : State, s.pr.forced = false) ∧
    (∃ s : State, s.pr.forced = false) ∧
    (∃ s : State, s.pr.forced = true) ∧
    (∃ s : State, s.g F.PAIR_STAT_READY = 3) ∧
    (∃ s : State, s.g F.PAIR_STAT_READY ≠ 3) ∧
    (∃ k : Consign, ∃ s : State, s.pr.sending = some k) ∧
    (∃ k : Consign, ∃ s : State, (s.pr.sending = some k) ∧ (s.g F.FAB_ID_VALID = 1 ∧ s.g (F.NGL_STAT_STATE (s.g F.PAIR_CFG_TETHER)) = 6 ∧ (s.ngl (s.g F.PAIR_CFG_TETHER)).quiet = false) ∧ (s.fb.txq = [] ∧ s.pw.owned = false) ∧ ((k.msgs.map fragsOf).sum ≤ s.g (F.FAB_PORT_CRED_BULK (s.g F.PAIR_CFG_TETHER)))) ∧
    (∃ s : State, s.pr.sending = none) ∧
    (∃ p : Fin 8, ∃ e : Env, ∃ ws : List Word, ∃ r : Nat, ∃ s : State, (s.g (F.NGL_STAT_STATE p) = 6 ∧ s.g F.FAB_ID_VALID = 1 ∧ e.dst = s.g F.FAB_ID_ID) ∧ (s.g F.PAIR_CFG_EN = 1 ∧ s.g F.PAIR_STAT_ROLE = 3) ∧ ((ws.getD 0 0).getLsbD 26 = true ∧ (ws.getD 0 0).getLsbD 27 = true ∧ bitsOf (ws.getD 0 0) 15 0 = 0) ∧ (r = (ws.getD 1 0).toNat + (ws.getD 2 0).toNat * 2 ^ 32 ∧ r % 256 ≠ 0) ∧ ((⟨r, 1, false, false, false, [ws]⟩ : Staged).judged = true) ∧ (s.pr.staged = [] ∧ s.pr.replay = none ∧ (s.pr.lastTick.all (fun k => decide (r ≤ k + 1)) = true ∨ (ws.getD 3 0).getLsbD 31 = true)) ∧ (4 * ws.length ≤ s.g F.PAIR_STAGE_SIZE_SIZE)) ∧
    (∃ p : Fin 8, ∃ e : Env, ∃ ws : List Word, ∃ r : Nat, ∃ s : State, (s.g (F.NGL_STAT_STATE p) = 6 ∧ s.g F.FAB_ID_VALID = 1 ∧ e.dst = s.g F.FAB_ID_ID) ∧ (s.g F.PAIR_CFG_EN = 1 ∧ s.g F.PAIR_STAT_ROLE = 3) ∧ ((ws.getD 0 0).getLsbD 26 = true ∧ (ws.getD 0 0).getLsbD 27 = true ∧ bitsOf (ws.getD 0 0) 15 0 = 0) ∧ (r = (ws.getD 1 0).toNat + (ws.getD 2 0).toNat * 2 ^ 32 ∧ r % 256 ≠ 0) ∧ ((⟨r, 1, false, false, false, [ws]⟩ : Staged).judged = true) ∧ (s.pr.staged = [] ∧ s.pr.replay = none ∧ (s.pr.lastTick.all (fun k => decide (r ≤ k + 1)) = true ∨ (ws.getD 3 0).getLsbD 31 = true)) ∧ (4 * ws.length ≤ s.g F.PAIR_STAGE_SIZE_SIZE)) ∧
    (∃ p : Fin 8, ∃ e : Env, ∃ ws : List Word, ∃ x : List Word, ∃ r : Nat, ∃ s : State, (s.g (F.NGL_STAT_STATE p) = 6 ∧ s.g F.FAB_ID_VALID = 1 ∧ e.dst = s.g F.FAB_ID_ID) ∧ (s.g F.PAIR_CFG_EN = 1 ∧ s.g F.PAIR_STAT_ROLE = 3) ∧ ((ws.getD 0 0).getLsbD 26 = true ∧ (ws.getD 0 0).getLsbD 27 = true ∧ bitsOf (ws.getD 0 0) 15 0 = 0) ∧ (r = (ws.getD 1 0).toNat + (ws.getD 2 0).toNat * 2 ^ 32 ∧ r % 256 ≠ 0) ∧ ((⟨r, 1, false, false, false, [ws]⟩ : Staged).judged = true) ∧ (s.pr.staged = [] ∧ s.pr.replay = none ∧ (s.pr.lastTick.all (fun k => decide (r ≤ k + 1)) = true ∨ (ws.getD 3 0).getLsbD 31 = true)) ∧ (4 * ws.length ≤ s.g F.PAIR_STAGE_SIZE_SIZE) ∧ ((msgRecords ws).getLast? = some x ∧ x.length = 18 ∧ (memOf ((x.headD 0).toNat / 64 * 64)).isSome = true)) ∧
    (∃ p : Fin 8, ∃ e : Env, ∃ ws : List Word, ∃ c : Staged, ∃ s : State, (s.g (F.NGL_STAT_STATE p) = 6 ∧ s.g F.FAB_ID_VALID = 1 ∧ e.dst = s.g F.FAB_ID_ID) ∧ (s.g F.PAIR_CFG_EN = 1 ∧ s.g F.PAIR_STAT_ROLE = 3) ∧ ((ws.getD 0 0).getLsbD 26 = false ∧ (ws.getD 0 0).getLsbD 27 = false ∧ bitsOf (ws.getD 0 0) 15 0 = c.next) ∧ (c.tick = (ws.getD 1 0).toNat + (ws.getD 2 0).toNat * 2 ^ 32) ∧ (s.pr.staged = [c] ∧ c.done = false ∧ c.bad = false) ∧ (4 * (c.msgs ++ [ws]).flatten.length ≤ s.g F.PAIR_STAGE_SIZE_SIZE)) ∧
    (∃ p : Fin 8, ∃ e : Env, ∃ ws : List Word, ∃ k : Nat, ∃ r : Nat, ∃ s : State, (s.g (F.NGL_STAT_STATE p) = 6 ∧ s.g F.FAB_ID_VALID = 1 ∧ e.dst = s.g F.FAB_ID_ID) ∧ (s.g F.PAIR_CFG_EN = 1 ∧ s.g F.PAIR_STAT_ROLE = 3) ∧ ((ws.getD 0 0).getLsbD 26 = true ∧ bitsOf (ws.getD 0 0) 15 0 = 0 ∧ (ws.getD 3 0).getLsbD 31 = false) ∧ (r = (ws.getD 1 0).toNat + (ws.getD 2 0).toNat * 2 ^ 32) ∧ (s.pr.staged = [] ∧ s.pr.lastTick = some k ∧ k + 1 < r) ∧ (4 * ws.length ≤ s.g F.PAIR_STAGE_SIZE_SIZE)) ∧
    (∃ p : Fin 8, ∃ e : Env, ∃ s : State, (s.g (F.NGL_STAT_STATE p) = 6 ∧ s.g F.FAB_ID_VALID = 1 ∧ e.dst = s.g F.FAB_ID_ID) ∧ (s.g F.PAIR_CFG_EN = 0 ∨ s.g F.PAIR_STAT_ROLE ≠ 3)) ∧
    (∃ c : Fin 16, ∃ s : State, (s.pr.bist = some c.val) ∧ (s.tm.phase = .window ∧ s.g (F.CL_STAT_STATE c) = 2)) ∧
    (∃ c : Fin 16, ∃ s : State, (s.pr.bist = some c.val) ∧ (s.tm.phase = .window ∧ s.g (F.CL_STAT_STATE c) = 2)) ∧
    (∃ s : State, s.tm.phase ≠ .window ∨ s.pr.bist.all (fun c => s.g (F.CL_STAT_STATE c) != 2) = true) :=
  ⟨⟨15, 0x4000#32, State.reset, by decide +kernel⟩,
   ⟨15, 0x02000041#32, State.reset.wr (R.PAIR_FT_LINES 15) 0x4000#32, by decide +kernel⟩,
   ⟨15, true, 0x4001#32, State.reset.wr (R.PAIR_FT_BASE 15) 0x01000001#32, by decide +kernel⟩,
   ⟨15, false, 0x00000041#32, State.reset, by decide +kernel⟩,
   ⟨State.reset, by decide +kernel⟩,
   ⟨State.reset.p F.PAIR_STAT_READY 3, by decide +kernel⟩,
   ⟨{ State.reset with pr := { Pair.reset with forced := true } }, by decide +kernel⟩,
   ⟨State.reset.p F.PAIR_STAT_READY 3, by decide +kernel⟩,
   ⟨State.reset.p F.PAIR_STAT_READY 2, by decide +kernel⟩,
   ⟨⟨5, [], [[1, 2]]⟩, { State.reset with pr := { Pair.reset with sending := some ⟨5, [], [[1, 2]]⟩ } }, by decide +kernel⟩,
   ⟨⟨5, [], [[1, 2], [3]]⟩, { State.reset with pr := { Pair.reset with sending := some ⟨5, [], [[1, 2], [3]]⟩ } } |> fun u => ((u.p (F.NGL_STAT_STATE 0) 6).flag F.FAB_ID_VALID true).p (F.FAB_PORT_CRED_BULK 0) 2, by decide +kernel⟩,
   ⟨State.reset, by decide +kernel⟩,
   ⟨2, ⟨5, 0, 5, 0, 0, false, false, 14⟩, (let b := [0x0C000000#32, 9#32, 0#32, 0#32, 7#32] ++ List.replicate 66 0#32; b ++ [crc32 b]), 9, (((State.reset.p (F.NGL_STAT_STATE 2) 6).flag F.FAB_ID_VALID true).p F.FAB_ID_ID 5) |> fun u => ((u.flag F.PAIR_CFG_EN true).p F.PAIR_STAT_ROLE 3).wr R.PAIR_STAGE_SIZE 0x1000#32, by decide +kernel⟩,
   ⟨2, ⟨5, 0, 5, 0, 0, false, false, 14⟩, (let b := [0x0C200000#32, 9#32, 0#32, 1#32, 7#32] ++ List.replicate 65 0#32 ++ [0x02000080#32, 0#32] ++ (List.range 16).map (BitVec.ofNat 32) ++ [0#32]; b ++ [crc32 b]), 9, (((({ State.reset with pr := { Pair.reset with lastTick := some 8 } } : State).p (F.NGL_STAT_STATE 2) 6).flag F.FAB_ID_VALID true).p F.FAB_ID_ID 5) |> fun u => ((u.flag F.PAIR_CFG_EN true).p F.PAIR_STAT_ROLE 3).wr R.PAIR_STAGE_SIZE 0x1000#32, by decide +kernel⟩,
   ⟨2, ⟨5, 0, 5, 0, 0, false, false, 14⟩, (let b := [0x0C200000#32, 9#32, 0#32, 1#32, 7#32] ++ List.replicate 65 0#32 ++ [0x02000080#32, 0#32] ++ (List.range 16).map (BitVec.ofNat 32) ++ [0#32]; b ++ [crc32 b]), [0x02000080#32, 0#32] ++ (List.range 16).map (BitVec.ofNat 32), 9, (((({ State.reset with pr := { Pair.reset with lastTick := some 8 } } : State).p (F.NGL_STAT_STATE 2) 6).flag F.FAB_ID_VALID true).p F.FAB_ID_ID 5) |> fun u => ((u.flag F.PAIR_CFG_EN true).p F.PAIR_STAT_ROLE 3).wr R.PAIR_STAGE_SIZE 0x1000#32, by decide +kernel⟩,
   ⟨2, ⟨5, 0, 5, 0, 0, false, false, 14⟩, [1#32, 9#32, 0#32], ⟨9, 1, false, false, false, [[0x04000000#32, 9#32, 0#32]]⟩, (((({ State.reset with pr := { Pair.reset with staged := [⟨9, 1, false, false, false, [[0x04000000#32, 9#32, 0#32]]⟩] } } : State).p (F.NGL_STAT_STATE 2) 6).flag F.FAB_ID_VALID true).p F.FAB_ID_ID 5) |> fun u => ((u.flag F.PAIR_CFG_EN true).p F.PAIR_STAT_ROLE 3).wr R.PAIR_STAGE_SIZE 0x1000#32, by decide +kernel⟩,
   ⟨2, ⟨5, 0, 5, 0, 0, false, false, 14⟩, [0x04000000#32, 9#32, 0#32, 0#32, 7#32] ++ List.replicate 66 0#32, 6, 9, (((({ State.reset with pr := { Pair.reset with lastTick := some 6 } } : State).p (F.NGL_STAT_STATE 2) 6).flag F.FAB_ID_VALID true).p F.FAB_ID_ID 5) |> fun u => ((u.flag F.PAIR_CFG_EN true).p F.PAIR_STAT_ROLE 3).wr R.PAIR_STAGE_SIZE 0x1000#32, by decide +kernel⟩,
   ⟨2, ⟨5, 0, 5, 0, 0, false, false, 14⟩, (((State.reset.p (F.NGL_STAT_STATE 2) 6).flag F.FAB_ID_VALID true).p F.FAB_ID_ID 5) |> fun u => ((u.flag F.PAIR_CFG_EN true).p F.PAIR_STAT_ROLE 3).wr R.PAIR_STAGE_SIZE 0x1000#32 |> fun u => u.p F.PAIR_STAT_ROLE 2, by decide +kernel⟩,
   ⟨15, ({ State.reset with tm := { TimeUnit.reset with phase := .window }, pr := { Pair.reset with bist := some 15 } } : State).p (F.CL_STAT_STATE 15) 2, by decide +kernel⟩,
   ⟨15, ({ State.reset with tm := { TimeUnit.reset with phase := .window }, pr := { Pair.reset with bist := some 15 } } : State).p (F.CL_STAT_STATE 15) 2, by decide +kernel⟩,
   ⟨State.reset, by decide +kernel⟩⟩

theorem test_hyps_FaultsAreCollectedAndReactedTo :
    (∃ j : Nat, ∃ now : Nat, ∃ m : FMsg, ∃ l : List FEntry, ∃ s : State, (s.ft.blocks[j]? = some m ∧ m.kind < 64) ∧ (s.g (F.FAULT_COLL_STAT_PARITY (collectorOf m.src)) = 0 ∨ SMap.get noneB s.ft.reloaded (collectorOf m.src) = true) ∧ (l = (s.fEntries (collectorOf m.src)).filter (fun e => decide (now < e.opened + 1000 * s.g (F.FAULT_WIN_W e.kind)))) ∧ (s.g (F.FAULT_REACT_N m.kind) = 1)) ∧
    (∃ j : Nat, ∃ now : Nat, ∃ m : FMsg, ∃ l : List FEntry, ∃ s : State, (s.ft.blocks[j]? = some m ∧ m.kind < 64) ∧ (s.g (F.FAULT_COLL_STAT_PARITY (collectorOf m.src)) = 0 ∨ SMap.get noneB s.ft.reloaded (collectorOf m.src) = true) ∧ (l = (s.fEntries (collectorOf m.src)).filter (fun e => decide (now < e.opened + 1000 * s.g (F.FAULT_WIN_W e.kind)))) ∧ (s.g (F.FAULT_REACT_N m.kind) ≠ 1 ∧ m.events < s.g (F.FAULT_REACT_N m.kind)) ∧ (l.find? (fun e => e.src == m.src && e.kind == m.kind) = none ∧ l.length < 32)) ∧
    (∃ j : Nat, ∃ now : Nat, ∃ m : FMsg, ∃ l : List FEntry, ∃ s : State, (s.ft.blocks[j]? = some m ∧ m.kind < 64) ∧ (s.g (F.FAULT_COLL_STAT_PARITY (collectorOf m.src)) = 0 ∨ SMap.get noneB s.ft.reloaded (collectorOf m.src) = true) ∧ (l = (s.fEntries (collectorOf m.src)).filter (fun e => decide (now < e.opened + 1000 * s.g (F.FAULT_WIN_W e.kind)))) ∧ (s.g (F.FAULT_REACT_N m.kind) ≠ 1 ∧ m.events < s.g (F.FAULT_REACT_N m.kind)) ∧ (l.find? (fun e => e.src == m.src && e.kind == m.kind) = none ∧ l.length < 32)) ∧
    (∃ j : Nat, ∃ now : Nat, ∃ m : FMsg, ∃ l : List FEntry, ∃ s : State, (s.ft.blocks[j]? = some m ∧ m.kind < 64) ∧ (s.g (F.FAULT_COLL_STAT_PARITY (collectorOf m.src)) = 0 ∨ SMap.get noneB s.ft.reloaded (collectorOf m.src) = true) ∧ (l = (s.fEntries (collectorOf m.src)).filter (fun e => decide (now < e.opened + 1000 * s.g (F.FAULT_WIN_W e.kind)))) ∧ (s.g (F.FAULT_REACT_N m.kind) ≠ 1 ∧ s.g (F.FAULT_REACT_N m.kind) ≤ m.events) ∧ (l.find? (fun e => e.src == m.src && e.kind == m.kind) = none ∧ l.length < 32)) ∧
    (∃ j : Nat, ∃ now : Nat, ∃ m : FMsg, ∃ l : List FEntry, ∃ s : State, (s.ft.blocks[j]? = some m ∧ m.kind < 64) ∧ (s.g (F.FAULT_COLL_STAT_PARITY (collectorOf m.src)) = 0 ∨ SMap.get noneB s.ft.reloaded (collectorOf m.src) = true) ∧ (l = (s.fEntries (collectorOf m.src)).filter (fun e => decide (now < e.opened + 1000 * s.g (F.FAULT_WIN_W e.kind)))) ∧ (s.g (F.FAULT_REACT_N m.kind) ≠ 1) ∧ (l.find? (fun e => e.src == m.src && e.kind == m.kind) = none ∧ 32 ≤ l.length)) ∧
    (∃ j : Nat, ∃ now : Nat, ∃ m : FMsg, ∃ e : FEntry, ∃ l : List FEntry, ∃ s : State, (s.ft.blocks[j]? = some m ∧ m.kind < 64) ∧ (s.g (F.FAULT_COLL_STAT_PARITY (collectorOf m.src)) = 0 ∨ SMap.get noneB s.ft.reloaded (collectorOf m.src) = true) ∧ (l = (s.fEntries (collectorOf m.src)).filter (fun e => decide (now < e.opened + 1000 * s.g (F.FAULT_WIN_W e.kind)))) ∧ (l.find? (fun x => x.src == m.src && x.kind == m.kind) = some e) ∧ (s.g (F.FAULT_REACT_N m.kind) ≠ 1 ∧ s.g (F.FAULT_REACT_N m.kind) ≤ e.count + m.events)) ∧
    (∃ j : Nat, ∃ now : Nat, ∃ m : FMsg, ∃ e : FEntry, ∃ l : List FEntry, ∃ s : State, (s.ft.blocks[j]? = some m ∧ m.kind < 64) ∧ (s.g (F.FAULT_COLL_STAT_PARITY (collectorOf m.src)) = 0 ∨ SMap.get noneB s.ft.reloaded (collectorOf m.src) = true) ∧ (l = (s.fEntries (collectorOf m.src)).filter (fun e => decide (now < e.opened + 1000 * s.g (F.FAULT_WIN_W e.kind)))) ∧ (l.find? (fun x => x.src == m.src && x.kind == m.kind) = some e) ∧ (s.g (F.FAULT_REACT_N m.kind) ≠ 1 ∧ e.count + m.events < s.g (F.FAULT_REACT_N m.kind))) ∧
    (∃ j : Nat, ∃ m : FMsg, ∃ s : State, (s.ft.blocks[j]? = some m) ∧ (s.g (F.FAULT_COLL_STAT_PARITY (collectorOf m.src)) = 1 ∧ SMap.get noneB s.ft.reloaded (collectorOf m.src) = false)) ∧
    (∃ j : Nat, ∃ s : State, s.ft.blocks.length ≤ j) ∧
    (∃ m : FMsg, ∃ sev : Bool, ∃ rest : List (FMsg × Bool), ∃ s : State, s.ft.chip = (m, sev) :: rest ∧ s.ft.period = none ∧ 0 < m.kind ∧ m.kind < 0x34) ∧
    (∃ m : FMsg, ∃ sev : Bool, ∃ rest : List (FMsg × Bool), ∃ p : FRec, ∃ s : State, s.ft.chip = (m, sev) :: rest ∧ s.ft.period = some p ∧ 0 < m.kind ∧ m.kind < 0x34) ∧
    (∃ m : FMsg, ∃ sev : Bool, ∃ rest : List (FMsg × Bool), ∃ s : State, (s.ft.chip = (m, sev) :: rest ∧ 0 < m.kind ∧ m.kind < 0x34) ∧ ((s.reactionsOf m sev).testBit 3 = true)) ∧
    (∃ m : FMsg, ∃ sev : Bool, ∃ rest : List (FMsg × Bool), ∃ s : State, (s.ft.chip = (m, sev) :: rest ∧ 0 < m.kind ∧ m.kind < 0x34) ∧ ((s.reactionsOf m sev).testBit 5 = true ∧ s.g F.FAULT_SAFE_CHIP_SAFE = 0)) ∧
    (∃ m : FMsg, ∃ sev : Bool, ∃ rest : List (FMsg × Bool), ∃ s : State, (s.ft.chip = (m, sev) :: rest ∧ 0 < m.kind ∧ m.kind < 0x34) ∧ ((s.reactionsOf m sev).testBit 6 = true) ∧ (m.src < 2 ^ 12)) ∧
    (∃ m : FMsg, ∃ sev : Bool, ∃ rest : List (FMsg × Bool), ∃ g : Fin 6, ∃ s : State, (s.ft.chip = (m, sev) :: rest ∧ 0 < m.kind ∧ m.kind < 0x34) ∧ ((s.reactionsOf m sev).testBit 4 = true ∧ srcRegion m.src = g)) ∧
    (∃ m : FMsg, ∃ sev : Bool, ∃ rest : List (FMsg × Bool), ∃ c : Fin 16, ∃ k : Fin 16, ∃ s : State, (s.ft.chip = (m, sev) :: rest ∧ 0 < m.kind ∧ m.kind < 0x34) ∧ ((s.reactionsOf m sev).testBit 2 = true ∧ m.src = Src.cluster c k)) ∧
    (∃ m : FMsg, ∃ sev : Bool, ∃ rest : List (FMsg × Bool), ∃ s : State, (s.ft.chip = (m, sev) :: rest ∧ 0 < m.kind ∧ m.kind < 0x34) ∧ ((s.reactionsOf m sev).testBit 7 = true)) ∧
    (∃ s : State, s.ft.chip = []) ∧
    (∃ p : FRec, ∃ s : State, (s.ft.period = some p) ∧ (p.react.testBit 0 = true ∧ p.react.testBit 1 = false ∧ (s.g F.CHIP_STRAP_ROLE = 1 ∨ s.g F.FAB_CTL_FR_EN = 0)) ∧ ((s.g F.FAULT_REC_WR_WR + 1) % 64 ≠ s.g F.FAULT_REC_RD_RD)) ∧
    (∃ p : FRec, ∃ s : State, (s.ft.period = some p) ∧ (p.react.testBit 0 = true) ∧ ((s.g F.FAULT_REC_WR_WR + 1) % 64 ≠ s.g F.FAULT_REC_RD_RD)) ∧
    (∃ p : FRec, ∃ s : State, (s.ft.period = some p) ∧ (p.react.testBit 0 = true ∧ p.react.testBit 1 = false ∧ (s.g F.CHIP_STRAP_ROLE = 1 ∨ s.g F.FAB_CTL_FR_EN = 0)) ∧ ((s.g F.FAULT_REC_WR_WR + 1) % 64 = s.g F.FAULT_REC_RD_RD)) ∧
    (∃ p : FRec, ∃ s : State, (s.ft.period = some p) ∧ (p.react.testBit 1 = true ∧ s.g F.FAULT_CTL_IRQ_EN = 1)) ∧
    (∃ p : FRec, ∃ q : Nat, ∃ s : State, (s.ft.period = some p) ∧ (p.react.testBit 0 = true ∧ p.react.testBit 1 = false ∧ s.g F.CHIP_STRAP_ROLE = 0 ∧ s.g F.FAB_CTL_FR_EN = 1) ∧ (s.g F.FAB_ID_VALID = 1 ∧ s.routeTo 0 = some q ∧ (s.ngl q).quiet = false) ∧ (s.fb.txq = [] ∧ s.pw.owned = false ∧ 1 ≤ s.g (F.FAB_PORT_CRED_CTRL q))) ∧
    (∃ p : FRec, ∃ s : State, (s.ft.period = some p) ∧ (p.react.testBit 0 = false ∧ p.react.testBit 1 = false)) ∧
    (∃ s : State, s.ft.period = none) ∧
    (∃ k : Fin 64, ∃ v : Word, ∃ s : State, (0 < k.val ∧ k.val < 0x34) ∧ (bitsOf v 31 24 ≠ 0 ∧ bitsOf v 31 24 ≠ s.g (F.FAULT_REACT_N k))) ∧
    (∃ k : Fin 64, ∃ v : Word, ∃ s : State, (0 < k.val ∧ k.val < 0x34) ∧ (bitsOf v 31 24 ≠ 0 ∧ bitsOf v 31 24 = s.g (F.FAULT_REACT_N k))) ∧
    (∃ k : Fin 64, ∃ v : Word, ∃ s : State, (0 < k.val ∧ k.val < 0x34) ∧ (1 ≤ bitsOf v 15 0 ∧ bitsOf v 15 0 ≤ 60000 ∧ bitsOf v 15 0 ≠ s.g (F.FAULT_WIN_W k))) ∧
    (∃ k : Fin 64, ∃ v : Word, ∃ s : State, (0 < k.val ∧ k.val < 0x34) ∧ (1 ≤ bitsOf v 15 0 ∧ bitsOf v 15 0 ≤ 60000 ∧ bitsOf v 15 0 = s.g (F.FAULT_WIN_W k))) ∧
    (∃ k : Fin 64, ∃ win : Bool, ∃ v : Word, k.val = 0 ∨ 0x34 ≤ k.val ∨ (win = false ∧ bitsOf v 31 24 = 0) ∨ (win = true ∧ (bitsOf v 15 0 = 0 ∨ 60000 < bitsOf v 15 0))) ∧
    (∃ k : Fin 64, ∃ win : Bool, ∃ v : Word, k.val = 0 ∨ 0x34 ≤ k.val ∨ (win = false ∧ bitsOf v 31 24 = 0) ∨ (win = true ∧ (bitsOf v 15 0 = 0 ∨ 60000 < bitsOf v 15 0))) ∧
    (∃ k : Fin 64, ∃ win : Bool, ∃ v : Word, k.val = 0 ∨ 0x34 ≤ k.val ∨ (win = false ∧ bitsOf v 31 24 = 0) ∨ (win = true ∧ (bitsOf v 15 0 = 0 ∨ 60000 < bitsOf v 15 0))) :=
  ⟨⟨0, 5000, ⟨0, 1, Kind.laneFail, Src.cluster 9 3⟩, [], State.reset.emit Kind.laneFail (Src.cluster 9 3), by decide +kernel⟩,
   ⟨0, 5000, ⟨0x100, 1, Kind.eccCorr, Src.core⟩, [], ((State.reset.p (F.FAULT_REACT_N 1) 3).emit Kind.eccCorr Src.core 0x100), by decide +kernel⟩,
   ⟨0, 5000, ⟨0x100, 1, Kind.eccCorr, Src.core⟩, [⟨Src.core, 3, 2, 4999⟩], ((((State.reset.p (F.FAULT_REACT_N 1) 3).emit Kind.eccCorr Src.core 0x100).p (F.FAULT_WIN_W 3) 5).p (F.FAULT_WIN_W 1) 5).setEntries 6 [⟨Src.core, 3, 2, 4999⟩, ⟨Src.core, 1, 2, 0⟩], by decide +kernel⟩,
   ⟨0, 5000, ⟨0x100, 3, Kind.eccCorr, Src.core⟩, [], (State.reset.p (F.FAULT_REACT_N 1) 3).emit Kind.eccCorr Src.core 0x100 3, by decide +kernel⟩,
   ⟨0, 5000, ⟨0x100, 1, Kind.eccCorr, Src.core⟩, List.replicate 32 ⟨Src.core, 3, 2, 4999⟩, (((State.reset.p (F.FAULT_REACT_N 1) 3).emit Kind.eccCorr Src.core 0x100).p (F.FAULT_WIN_W 3) 5).setEntries 6 (List.replicate 32 ⟨Src.core, 3, 2, 4999⟩), by decide +kernel⟩,
   ⟨0, 5000, ⟨0x100, 1, Kind.eccCorr, Src.core⟩, ⟨Src.core, 1, 2, 4999⟩, [⟨Src.core, 1, 2, 4999⟩], (((State.reset.p (F.FAULT_REACT_N 1) 3).emit Kind.eccCorr Src.core 0x100).p (F.FAULT_WIN_W 1) 5).setEntries 6 [⟨Src.core, 1, 2, 4999⟩], by decide +kernel⟩,
   ⟨0, 5000, ⟨0x100, 1, Kind.eccCorr, Src.core⟩, ⟨Src.core, 1, 1, 4999⟩, [⟨Src.core, 1, 1, 4999⟩], (((State.reset.p (F.FAULT_REACT_N 1) 3).emit Kind.eccCorr Src.core 0x100).p (F.FAULT_WIN_W 1) 5).setEntries 6 [⟨Src.core, 1, 1, 4999⟩], by decide +kernel⟩,
   ⟨0, ⟨0, 1, Kind.laneFail, Src.cluster 9 3⟩, (State.reset.emit Kind.laneFail (Src.cluster 9 3)).flag (F.FAULT_COLL_STAT_PARITY 2) true, by decide +kernel⟩,
   ⟨0, State.reset, by decide +kernel⟩,
   ⟨⟨0, 1, Kind.laneFail, Src.cluster 9 3⟩, true, [], State.reset.toChip ⟨0, 1, Kind.laneFail, Src.cluster 9 3⟩ true, by decide +kernel⟩,
   ⟨⟨0, 1, Kind.laneFail, Src.cluster 9 3⟩, true, [], ⟨⟨0, 1, Kind.arith, Src.core⟩, false, 7, 0, 0, 0, 1⟩, (State.reset.toChip ⟨0, 1, Kind.laneFail, Src.cluster 9 3⟩ true) |> fun u => { u with ft := { u.ft with period := some ⟨⟨0, 1, Kind.arith, Src.core⟩, false, 7, 0, 0, 0, 1⟩ } }, by decide +kernel⟩,
   ⟨⟨0, 1, Kind.dcMute, Src.levee 3⟩, true, [], (State.reset.toChip ⟨0, 1, Kind.dcMute, Src.levee 3⟩ true).p (F.FAULT_REACT_BASE Kind.dcMute) 8, by decide +kernel⟩,
   ⟨⟨0, 1, Kind.thermTrip, Src.power 3⟩, true, [], State.reset.toChip ⟨0, 1, Kind.thermTrip, Src.power 3⟩ true, by decide +kernel⟩,
   ⟨⟨0, 1, Kind.distLate, Src.time⟩, true, [], State.reset.toChip ⟨0, 1, Kind.distLate, Src.time⟩ true, by decide +kernel⟩,
   ⟨⟨0, 1, Kind.laneFail, Src.cluster 9 3⟩, true, [], 2, (State.reset.toChip ⟨0, 1, Kind.laneFail, Src.cluster 9 3⟩ true).p (F.FAULT_REACT_BASE Kind.laneFail) 0x14, by decide +kernel⟩,
   ⟨⟨0, 1, Kind.laneFail, Src.cluster 9 3⟩, true, [], 9, 3, (State.reset.toChip ⟨0, 1, Kind.laneFail, Src.cluster 9 3⟩ true).p (F.FAULT_REACT_BASE Kind.laneFail) 4, by decide +kernel⟩,
   ⟨⟨0, 1, Kind.coreLockstep, Src.core⟩, true, [], (State.reset.toChip ⟨0, 1, Kind.coreLockstep, Src.core⟩ true), by decide +kernel⟩,
   ⟨State.reset, by decide +kernel⟩,
   ⟨⟨⟨0x1234, 1, Kind.eccCorr, Src.core⟩, false, 7, 0, 0, 0, 1⟩, { State.reset with ft := { Faults.reset with period := some ⟨⟨0x1234, 1, Kind.eccCorr, Src.core⟩, false, 7, 0, 0, 0, 1⟩ } }, by decide +kernel⟩,
   ⟨⟨⟨0x1234, 1, Kind.eccCorr, Src.core⟩, false, 7, 0, 0, 0, 3⟩, ({ State.reset with ft := { Faults.reset with period := some ⟨⟨0x1234, 1, Kind.eccCorr, Src.core⟩, false, 7, 0, 0, 0, 3⟩ } } : State).flag F.FAULT_CTL_IRQ_EN true, by decide +kernel⟩,
   ⟨⟨⟨0x1234, 1, Kind.eccCorr, Src.core⟩, false, 7, 0, 0, 0, 1⟩, ({ State.reset with ft := { Faults.reset with period := some ⟨⟨0x1234, 1, Kind.eccCorr, Src.core⟩, false, 7, 0, 0, 0, 1⟩ } } : State).p F.FAULT_REC_WR_WR 63, by decide +kernel⟩,
   ⟨⟨⟨0x1234, 1, Kind.eccCorr, Src.core⟩, false, 7, 0, 0, 0, 3⟩, ({ State.reset with ft := { Faults.reset with period := some ⟨⟨0x1234, 1, Kind.eccCorr, Src.core⟩, false, 7, 0, 0, 0, 3⟩ } } : State).flag F.FAULT_CTL_IRQ_EN true, by decide +kernel⟩,
   ⟨⟨⟨0x1234, 1, Kind.eccCorr, Src.core⟩, false, 7, 0, 0, 0, 1⟩, 2, ({ State.reset with ft := { Faults.reset with period := some ⟨⟨0x1234, 1, Kind.eccCorr, Src.core⟩, false, 7, 0, 0, 0, 1⟩ } } : State) |> fun u => (((u.p (F.NGL_STAT_STATE 2) 6).flag F.FAB_ID_VALID true).p F.FAB_ID_ID 5).flag F.FAB_CTL_FR_EN true |> fun u => ((u.flag F.CHIP_STRAP_ROLE false).flag (F.FAB_ROUTE_PRI_EN 0) true).p (F.FAB_ROUTE_PRI 0) 2 |> fun u => u.p (F.FAB_PORT_CRED_CTRL 2) 3, by decide +kernel⟩,
   ⟨⟨⟨0x1234, 1, Kind.eccCorr, Src.core⟩, false, 7, 0, 0, 0, 8⟩, { State.reset with ft := { Faults.reset with period := some ⟨⟨0x1234, 1, Kind.eccCorr, Src.core⟩, false, 7, 0, 0, 0, 8⟩ } }, by decide +kernel⟩,
   ⟨State.reset, by decide +kernel⟩,
   ⟨0x0B, 0x04000203#32, State.reset.setEntries 6 [⟨Src.core, 0x0B, 2, 4500⟩, ⟨Src.core, 3, 2, 4500⟩], by decide +kernel⟩,
   ⟨1, 0x01000203#32, State.reset.p (F.FAULT_REACT_N 1) 1, by decide +kernel⟩,
   ⟨0x33, 60000#32, State.reset, by decide +kernel⟩,
   ⟨0x33, 60000#32, State.reset.p (F.FAULT_WIN_W 0x33) 60000, by decide +kernel⟩,
   ⟨1, false, 0x00FFFFFF#32, by decide +kernel⟩,
   ⟨1, true, 60001#32, by decide +kernel⟩,
   ⟨0x34, true, 60000#32, by decide +kernel⟩⟩

theorem test_hyps_SafeStatesEndOnceTheirCauseIsGone :
    (∃ i : Fin 7, ∃ s : State, (i.val < 6) ∧ (s.g (F.FAULT_COLL_STAT_PARITY i) = 0) ∧ (s.g F.FAULT_FOREQ_REQ = 0) ∧ ((s.g F.FAULT_SAFE_REGION_SAFE).testBit i = false)) ∧
    (∃ i : Fin 7, ∃ s : State, (i.val < 6) ∧ (s.g (F.FAULT_COLL_STAT_PARITY i) = 0) ∧ (s.g F.FAULT_FOREQ_REQ = 0) ∧ ((s.g F.FAULT_SAFE_REGION_SAFE).testBit i = false)) ∧
    (∃ i : Fin 7, ∃ s : State, (i.val < 6) ∧ (s.g (F.FAULT_COLL_STAT_PARITY i) = 0 ∨ SMap.get noneB s.ft.reloaded i = true)) ∧
    (∃ s : State, s.g (F.FAULT_COLL_STAT_PARITY 6) = 0 ∨ SMap.get noneB s.ft.reloaded 6 = true) ∧
    (∃ i : Fin 7, ∃ s : State, s.g (F.FAULT_COLL_STAT_PARITY i) = 1 ∧ SMap.get noneB s.ft.reloaded i = false) ∧
    (∃ s : State, s.g F.FAULT_STAT_CHIP_COLL_PAR = 0) ∧
    (∃ s : State, s.g F.FAULT_STAT_CHIP_COLL_PAR = 1) ∧
    (∃ i : Fin 7, ∃ s : State, (s.g F.TICK_STAT_RUNNING = 1) ∧ ((s.g F.FAULT_SAFE_REGION_SAFE).testBit i = true ∧ s.actsGone i = true) ∧ (s.g (F.FAULT_COLL_STAT_PARITY i) = 0)) ∧
    (∃ s : State, (s.g F.TICK_STAT_RUNNING = 1) ∧ (s.g F.FAULT_SAFE_CHIP_SAFE = 1 ∧ s.actsGone 8 = true ∧ s.g F.FAULT_STAT_CHIP_COLL_PAR = 0)) ∧
    (∃ i : Fin 7, ∃ s : State, (s.g F.FAULT_SAFE_REGION_SAFE).testBit i = true ∧ s.actsGone i = false) ∧
    (∃ v : Word, ∃ s : State, v.getLsbD 31 = true ∧ s.g F.FAULT_FOREQ_REQ = 1 ∧ s.actsGone 16 = true) ∧
    (∃ v : Word, ∃ s : State, v.getLsbD 31 = true ∧ s.g F.FAULT_FOREQ_REQ = 1 ∧ s.actsGone 16 = false) ∧
    (∃ v : Word, ∃ s : State, v.getLsbD 31 = false ∨ s.g F.FAULT_FOREQ_REQ = 0) ∧
    (∃ i : Fin 7, ∃ v : Word, ∃ s : State, v.getLsbD 31 = true ∧ s.g (F.FAULT_COLL_STAT_PARITY i) = 1) ∧
    (∃ i : Fin 7, ∃ v : Word, ∃ s : State, v.getLsbD 31 = true ∧ s.g (F.FAULT_COLL_STAT_PARITY i) = 1) ∧
    (∃ i : Fin 7, ∃ v : Word, ∃ s : State, v.getLsbD 31 = false ∨ s.g (F.FAULT_COLL_STAT_PARITY i) = 0) :=
  ⟨⟨0, State.reset, by decide +kernel⟩,
   ⟨5, State.reset, by decide +kernel⟩,
   ⟨5, (State.reset.flag (F.FAULT_COLL_STAT_PARITY 5) true).collReload 5 true, by decide +kernel⟩,
   ⟨State.reset, by decide +kernel⟩,
   ⟨5, State.reset.flag (F.FAULT_COLL_STAT_PARITY 5) true, by decide +kernel⟩,
   ⟨State.reset, by decide +kernel⟩,
   ⟨State.reset.flag F.FAULT_STAT_CHIP_COLL_PAR true, by decide +kernel⟩,
   ⟨5, (State.reset.flag F.TICK_STAT_RUNNING true).p F.FAULT_SAFE_REGION_SAFE 32, by decide +kernel⟩,
   ⟨((State.reset.flag F.TICK_STAT_RUNNING true).flag F.FAULT_SAFE_CHIP_SAFE true).act 8 Kind.distLate Src.time, by decide +kernel⟩,
   ⟨5, (State.reset.p F.FAULT_SAFE_REGION_SAFE 32).act 5 Kind.linkDown (Src.ngl 2), by decide +kernel⟩,
   ⟨0x80000000#32, (State.reset.flag F.FAULT_FOREQ_REQ true).act 16 Kind.distLate Src.time, by decide +kernel⟩,
   ⟨0x80000000#32, (State.reset.flag F.FAULT_FOREQ_REQ true).act 16 Kind.linkDown (Src.ngl 2), by decide +kernel⟩,
   ⟨0x80000000#32, State.reset, by decide +kernel⟩,
   ⟨6, 0x80000000#32, (State.reset.flag (F.FAULT_COLL_STAT_PARITY 6) true).collReload 6 true, by decide +kernel⟩,
   ⟨6, 0x80000000#32, State.reset.flag (F.FAULT_COLL_STAT_PARITY 6) true, by decide +kernel⟩,
   ⟨6, 0x80000000#32, State.reset, by decide +kernel⟩⟩

theorem test_hyps_MemoriesAreCheckedScrubbedAndRetained :
    (∃ a : Word, ∃ s : State, (a.toNat ∈ s.mx.wb) ∧ (s.lockBank = none ∨ s.lockBank ≠ bankAt a.toNat)) ∧
    (∃ a : Word, ∃ s : State, a.toNat ∉ s.mx.wb) ∧
    (∃ a : Word, ∃ s : State, ¬(s.lockBank = none ∨ s.lockBank ≠ bankAt a.toNat)) ∧
    (∃ m : Fin 37, ∃ s : State, (s.g F.MEM_SCRUB_CTL_EN = 1) ∧ (s.lockBank ≠ some (scrubBank m (s.scrubPos m)))) ∧
    (∃ m : Fin 37, ∃ s : State, (s.g F.MEM_SCRUB_CTL_EN = 1) ∧ (s.lockBank ≠ some (scrubBank m (s.scrubPos m)))) ∧
    (∃ m : Fin 37, ∃ s : State, s.g F.MEM_SCRUB_CTL_EN = 0 ∨ s.lockBank = some (scrubBank m (s.scrubPos m))) ∧
    (∃ m : Fin 16, ∃ s : State, (s.g F.MEM_SCRUB_CTL_EN = 1 ∧ s.scrubPos m < 65535) ∧ (s.lockBank ≠ some (scrubBank m (s.scrubPos m))) ∧ (s.eccAt (scrubAddr m (s.scrubPos m)) = 1)) ∧
    (∃ m : Fin 16, ∃ s : State, (s.g F.MEM_SCRUB_CTL_EN = 1 ∧ s.scrubPos m < 65535) ∧ (s.lockBank ≠ some (scrubBank m (s.scrubPos m))) ∧ (s.eccAt (scrubAddr m (s.scrubPos m)) = 2)) ∧
    (∃ b : Fin 416, ∃ s : State, (b.val < 256 ∧ s.g (F.CL_STAT_STATE (b.val / 16)) = 0) ∧ (s.g F.TICK_STAT_RUNNING = 0) ∧ (s.scrubbing b = false ∧ SMap.get noneB s.mx.waking b = false)) ∧
    (∃ b : Fin 416, ∃ s : State, (s.mayRetain b = true) ∧ (s.scrubbing b = false ∧ SMap.get noneB s.mx.waking b = false)) ∧
    (∃ b : Fin 416, ∃ s : State, (s.mayRetain b = true) ∧ (s.scrubbing b = false ∧ SMap.get noneB s.mx.waking b = false)) ∧
    (∃ b : Fin 416, ∃ s : State, s.mayRetain b = false ∨ s.scrubbing b = true ∨ SMap.get noneB s.mx.waking b = true) :=
  ⟨⟨0x40#32, (State.reset.setEcc 0x40 1).readW 0x40 |>.1, by decide +kernel⟩,
   ⟨0x40#32, State.reset, by decide +kernel⟩,
   ⟨0x40#32, ({ State.reset with mx := { Mtx.reset with wb := [0x40], lockLeft := 2, lockAddr := some 0x40 } } : State), by decide +kernel⟩,
   ⟨36, State.reset.flag F.MEM_SCRUB_CTL_EN true, by decide +kernel⟩,
   ⟨34, ((State.reset.flag F.MEM_SCRUB_CTL_EN true).setEcc 0x02400004 2).setEcc 0x02400000 1, by decide +kernel⟩,
   ⟨34, State.reset.p F.MEM_SCRUB_CTL_EN 0, by decide +kernel⟩,
   ⟨15, (State.reset.flag F.MEM_SCRUB_CTL_EN true).setEcc 0x01F00000 1, by decide +kernel⟩,
   ⟨15, (State.reset.flag F.MEM_SCRUB_CTL_EN true).setEcc 0x01F00000 2, by decide +kernel⟩,
   ⟨255, State.reset, by decide +kernel⟩,
   ⟨270, State.reset.p F.MEM_SCRUB_CTL_EN 0, by decide +kernel⟩,
   ⟨300, State.reset.p F.MEM_RET_IDLE_IDLE 5, by decide +kernel⟩,
   ⟨255, State.reset.p (F.CL_STAT_STATE 15) 1, by decide +kernel⟩⟩

theorem test_hyps_AtomicChannelsAndLockedSequences :
    (∃ a : Fin 8, ∃ k : MemKind, ∃ o : Nat, ∃ s : State, (s.g (F.MTX_ATOM_ADDR_ADDR a) % 4 = 0 ∧ memOf (s.g (F.MTX_ATOM_ADDR_ADDR a)) = some (k, o) ∧ k.isProg = false) ∧ (s.eccAt (s.g (F.MTX_ATOM_ADDR_ADDR a)) ≤ 1) ∧ (s.g (F.MTX_ATOM_CTL_BUSY a) = 0) ∧ (s.atomLocked a = false)) ∧
    (∃ a : Fin 8, ∃ k : MemKind, ∃ o : Nat, ∃ s : State, (s.g (F.MTX_ATOM_ADDR_ADDR a) % 4 = 0 ∧ memOf (s.g (F.MTX_ATOM_ADDR_ADDR a)) = some (k, o) ∧ k.isProg = false) ∧ (s.eccAt (s.g (F.MTX_ATOM_ADDR_ADDR a)) ≤ 1) ∧ (s.g (F.MTX_ATOM_CTL_BUSY a) = 0) ∧ (s.atomLocked a = false)) ∧
    (∃ a : Fin 8, ∃ k : MemKind, ∃ o : Nat, ∃ s : State, (s.g (F.MTX_ATOM_ADDR_ADDR a) % 4 = 0 ∧ memOf (s.g (F.MTX_ATOM_ADDR_ADDR a)) = some (k, o) ∧ k.isProg = false) ∧ (s.eccAt (s.g (F.MTX_ATOM_ADDR_ADDR a)) ≤ 1) ∧ (s.g (F.MTX_ATOM_CTL_BUSY a) = 0) ∧ (s.atomLocked a = false)) ∧
    (∃ a : Fin 8, ∃ s : State, (inAddressMap (s.g (F.MTX_ATOM_ADDR_ADDR a)) = true ∧ ((s.g (F.MTX_ATOM_ADDR_ADDR a)) % 4 ≠ 0 ∨ (memOf (s.g (F.MTX_ATOM_ADDR_ADDR a))).all (fun k => k.1.isProg) = true)) ∧ (s.g (F.MTX_ATOM_CTL_BUSY a) = 0) ∧ (s.atomLocked a = false)) ∧
    (∃ a : Fin 8, ∃ s : State, (inAddressMap (s.g (F.MTX_ATOM_ADDR_ADDR a)) = true ∧ ((s.g (F.MTX_ATOM_ADDR_ADDR a)) % 4 ≠ 0 ∨ (memOf (s.g (F.MTX_ATOM_ADDR_ADDR a))).all (fun k => k.1.isProg) = true)) ∧ (s.g (F.MTX_ATOM_CTL_BUSY a) = 0) ∧ (s.atomLocked a = false)) ∧
    (∃ a : Fin 8, ∃ s : State, (inAddressMap (s.g (F.MTX_ATOM_ADDR_ADDR a)) = true ∧ ((s.g (F.MTX_ATOM_ADDR_ADDR a)) % 4 ≠ 0 ∨ (memOf (s.g (F.MTX_ATOM_ADDR_ADDR a))).all (fun k => k.1.isProg) = true)) ∧ (s.g (F.MTX_ATOM_CTL_BUSY a) = 0) ∧ (s.atomLocked a = false)) ∧
    (∃ a : Fin 8, ∃ k : MemKind, ∃ o : Nat, ∃ s : State, ((s.g (F.MTX_ATOM_ADDR_ADDR a)) % 4 = 0 ∧ memOf (s.g (F.MTX_ATOM_ADDR_ADDR a)) = some (k, o) ∧ k.isProg = false) ∧ (s.eccAt (s.g (F.MTX_ATOM_ADDR_ADDR a)) = 2) ∧ (s.g (F.MTX_ATOM_CTL_BUSY a) = 0) ∧ (s.atomLocked a = false)) ∧
    (∃ a : Fin 8, ∃ s : State, (inAddressMap (s.g (F.MTX_ATOM_ADDR_ADDR a)) = false) ∧ (s.g (F.MTX_ATOM_CTL_BUSY a) = 0) ∧ (s.atomLocked a = false)) ∧
    (∃ a : Fin 8, ∃ s : State, s.g (F.MTX_ATOM_CTL_BUSY a) = 1) ∧
    (∃ n : Fin 8, ∃ s : State, (1 ≤ n.val ∧ n.val ≤ 4) ∧ (s.mx.hung = [] ∧ s.mx.atoms = [])) ∧
    (∃ n : Fin 8, ∃ s : State, (n.val = 0 ∨ 4 < n.val) ∧ (s.mx.hung = [] ∧ s.mx.atoms = [])) ∧
    (∃ a : Nat, ∃ s : State, (s.mx.lockAddr = some a ∧ a < 2 ^ 32) ∧ (s.mx.hung = [] ∧ s.mx.atoms = [])) ∧
    (∃ s : State, s.mx.lockAddr = none) :=
  ⟨⟨7, MemKind.data 0, 0x3FFFC, ((State.reset.wr (R.MTX_ATOM_ADDR 7) 0x0103FFFC#32).wr (R.MTX_ATOM_OPND 7) 0xFFFFFFFF#32).setWord 0x0103FFFC 5#32, by decide +kernel⟩,
   ⟨7, MemKind.data 0, 0x3FFFC, ((State.reset.wr (R.MTX_ATOM_ADDR 7) 0x0103FFFC#32).wr (R.MTX_ATOM_OPND 7) 0x80000001#32).setWord 0x0103FFFC 0x80000005#32, by decide +kernel⟩,
   ⟨0, MemKind.region 3, 0x10, ((State.reset.wr (R.MTX_ATOM_ADDR 0) 0x02600010#32).wr (R.MTX_ATOM_OPND 0) 0x80000001#32).setWord 0x02600010 0x80000005#32, by decide +kernel⟩,
   ⟨3, State.reset.wr (R.MTX_ATOM_ADDR 3) 2#32, by decide +kernel⟩,
   ⟨3, State.reset.wr (R.MTX_ATOM_ADDR 3) 0x01F80000#32, by decide +kernel⟩,
   ⟨3, State.reset.wr (R.MTX_ATOM_ADDR 3) 0x03000000#32, by decide +kernel⟩,
   ⟨3, MemKind.ctl, 0x40, (State.reset.wr (R.MTX_ATOM_ADDR 3) 0x40#32).setEcc 0x40 2, by decide +kernel⟩,
   ⟨3, State.reset.wr (R.MTX_ATOM_ADDR 3) 0x030A6000#32, by decide +kernel⟩,
   ⟨3, State.reset.flag (F.MTX_ATOM_CTL_BUSY 3) true, by decide +kernel⟩,
   ⟨4, State.reset, by decide +kernel⟩,
   ⟨5, State.reset, by decide +kernel⟩,
   ⟨64, { State.reset with mx := { Mtx.reset with lockLeft := 2, lockAddr := some 64 } }, by decide +kernel⟩,
   ⟨State.reset, by decide +kernel⟩⟩

theorem test_hyps_AccessesWaitForStoppedDomains :
    (∃ j : Nat, ∃ h : Hung, ∃ s : State, s.mx.hung[j]? = some h ∧ h.reported = false ∧ h.dom < 35 ∧ h.addr < 2 ^ 32) ∧
    (∃ j : Nat, ∃ s : State, s.mx.hung[j]?.all (fun h => h.reported || decide (35 ≤ h.dom)) = true) ∧
    (∃ d : Fin 35, ∃ s : State, s.othersWait d) ∧
    (∃ d : Fin 35, ∃ s : State, s.othersWait d) ∧
    (∃ d : Fin 35, ∃ s : State, s.othersWait d) ∧
    (∃ d : Fin 35, ∃ s : State, s.othersWait d) ∧
    (∃ v : Word, ∃ s : State, (34 < bitsOf v 5 0) ∧ (s.mx.hung = [] ∧ s.mx.atoms = [])) ∧
    (∃ d : Fin 35, ∃ h : Hung, ∃ s : State, (s.g F.MTX_HANG_CTL_AUTO_MS ≠ 0) ∧ (h ∈ s.mx.hung ∧ h.reported = true ∧ h.dom = d.val) ∧ (s.othersWait d)) ∧
    (∃ d : Fin 35, ∃ s : State, s.g F.MTX_HANG_CTL_AUTO_MS = 0 ∨ s.mx.hung.all (fun h => !h.reported || h.dom != d.val) = true) ∧
    (∃ d : Fin 35, ∃ a : Nat, ∃ s : State, (s.clockSeen d = true) ∧ (s.mx.hung = [⟨d.val, a, true, none, 4, .bus false⟩] ∧ s.mx.atoms = [])) ∧
    (∃ s : State, s.mx.hung = [] ∧ s.mx.atoms = []) ∧
    (∃ s : State, s.mx.hung = [] ∧ s.mx.atoms = []) ∧
    (∃ d : Fin 35, ∃ s : State, (s.g (presentOf d) = 1 ∧ s.g (readyOf d) = 0) ∧ (s.mx.hung = [] ∧ s.mx.atoms = [])) ∧
    (∃ n : Fin 24, ∃ s : State, (s.g (F.SAP_STAT_CLOCK_PRESENT n) = 1 ∧ s.g (F.SAP_STAT_READY n) = 0 ∧ SMap.get noneB s.mx.stopped n = false) ∧ (s.mx.hung = [⟨n.val, R.SAP_FRAME_CNT n, false, none, 4, .bus false⟩] ∧ s.mx.atoms = [])) ∧
    (∃ d : Fin 35, ∃ s : State, s.g (presentOf d) = 0 ∨ s.g (readyOf d) = 1) ∧
    (∃ a : BitVec 24, ∃ k : MemKind, ∃ o : Nat, ∃ s : State, (s.g F.CHIP_STRAP_ROLE = 1 ∧ s.g F.HOST_STAT_LINK_UP = 1 ∧ s.freeBus) ∧ (memOf (4 * a.toNat) = some (k, o) ∧ k.isProg = false) ∧ (s.eccAt (4 * a.toNat) = 0 ∧ s.inRet (bankOf k o) = false)) ∧
    (∃ a : BitVec 24, ∃ k : MemKind, ∃ o : Nat, ∃ s : State, (s.g F.CHIP_STRAP_ROLE = 1 ∧ s.g F.HOST_STAT_LINK_UP = 1 ∧ s.freeBus) ∧ (memOf (4 * a.toNat) = some (k, o) ∧ k.isProg = false) ∧ (s.eccAt (4 * a.toNat) = 0)) ∧
    (∃ a : BitVec 24, ∃ r : RegSpec, ∃ ix : List Nat, ∃ s : State, (s.g F.CHIP_STRAP_ROLE = 1 ∧ s.g F.HOST_STAT_LINK_UP = 1 ∧ s.freeBus) ∧ (0x03000000 ≤ 4 * a.toNat ∧ regSpecAt (4 * a.toNat) = some (r, ix) ∧ s.windowView (4 * a.toNat) = none) ∧ ((farDomain (4 * a.toNat)).all s.farLive = true)) ∧
    (∃ a : BitVec 24, ∃ k : MemKind, ∃ o : Nat, ∃ s : State, (s.g F.CHIP_STRAP_ROLE = 1 ∧ s.g F.HOST_STAT_LINK_UP = 1) ∧ (s.freeBus) ∧ (memOf (4 * a.toNat) = some (k, o) ∧ k.isProg = false)) ∧
    (∃ a : BitVec 24, ∃ k : MemKind, ∃ o : Nat, ∃ s : State, (s.g F.CHIP_STRAP_ROLE = 1 ∧ s.g F.HOST_STAT_LINK_UP = 1 ∧ s.freeBus) ∧ (memOf (4 * a.toNat) = some (k, o) ∧ k.isProg = false) ∧ (s.eccAt (4 * a.toNat) ≤ 1)) ∧
    (∃ a : BitVec 24, ∃ s : State, (s.g F.CHIP_STRAP_ROLE = 1 ∧ s.g F.HOST_STAT_LINK_UP = 1 ∧ s.freeBus) ∧ (0x02800000 ≤ 4 * a.toNat ∧ 4 * a.toNat < 0x03000000)) ∧
    (∃ s : State, s.g F.CHIP_STRAP_ROLE = 0 ∨ s.g F.HOST_STAT_LINK_UP = 0) ∧
    (∃ j : Nat, ∃ d : Nat, ∃ a : Nat, ∃ r : Bool, ∃ ws : List Word, ∃ left : List (Fin 16), ∃ s : State, s.mx.hung[j]? = some ⟨d, a, r, none, 4, .bar ws left⟩) ∧
    (∃ j : Nat, ∃ s : State, s.mx.hung.length ≤ j) :=
  ⟨⟨0, ⟨3, R.SAP_MASK 3, false, some 5#32, 4, .bus false⟩, State.reset.hang 3 (R.SAP_MASK 3) (some 5#32), by decide +kernel⟩,
   ⟨0, { State.reset with mx := { Mtx.reset with hung := [⟨35, 64, false, none, 4, .bus false⟩] } }, by decide +kernel⟩,
   ⟨34, (State.reset.hang 34 R.HOST_LINK none).flag F.HOST_STAT_READY true, by decide +kernel⟩,
   ⟨23, (State.reset.hang 23 (R.SAP_MASK 23) none).flag (F.SAP_STAT_READY 23) true, by decide +kernel⟩,
   ⟨31, State.reset.flag (F.NGL_STAT_READY 7) true, by decide +kernel⟩,
   ⟨33, State.reset.flag (F.ETH_STAT_READY 1) true, by decide +kernel⟩,
   ⟨35#32, State.reset, by decide +kernel⟩,
   ⟨23, ⟨23, R.SAP_MASK 23, true, none, 4, .bus false⟩, ({ State.reset with mx := { Mtx.reset with hung := [⟨23, R.SAP_MASK 23, true, none, 4, .bus false⟩] } } : State).p F.MTX_HANG_CTL_AUTO_MS 5, by decide +kernel⟩,
   ⟨3, State.reset, by decide +kernel⟩,
   ⟨3, R.SAP_MASK 3, { State.reset with mx := { Mtx.reset with hung := [⟨3, R.SAP_MASK 3, true, none, 4, .bus false⟩] } }, by decide +kernel⟩,
   ⟨(State.reset.flag (readyOf 33) true).setStopped 33 true, by decide +kernel⟩,
   ⟨State.reset, by decide +kernel⟩,
   ⟨34, State.reset.flag (presentOf 34) true, by decide +kernel⟩,
   ⟨7, (State.reset.hang 7 (R.SAP_FRAME_CNT 7) none).flag (F.SAP_STAT_CLOCK_PRESENT 7) true, by decide +kernel⟩,
   ⟨34, State.reset, by decide +kernel⟩,
   ⟨0x10#24, MemKind.ctl, 0x40, (((State.reset.flag F.CHIP_STRAP_ROLE true).flag F.HOST_STAT_LINK_UP true).setWord 0x40 9#32), by decide +kernel⟩,
   ⟨0x10#24, MemKind.ctl, 0x40, (((State.reset.flag F.CHIP_STRAP_ROLE true).flag F.HOST_STAT_LINK_UP true).setWord 0x40 0x12345678#32), by decide +kernel⟩,
   ⟨BitVec.ofNat 24 (R.FAB_ID / 4), ((regSpecAt R.FAB_ID).map Prod.fst).getD ⟨"", 0, [], [], false, []⟩, ((regSpecAt R.FAB_ID).map Prod.snd).getD [], (State.reset.flag F.CHIP_STRAP_ROLE true).flag F.HOST_STAT_LINK_UP true, by decide +kernel⟩,
   ⟨0x10#24, MemKind.ctl, 0x40, (State.reset.flag F.CHIP_STRAP_ROLE true).flag F.HOST_STAT_LINK_UP true, by decide +kernel⟩,
   ⟨0x10#24, MemKind.ctl, 0x40, (((State.reset.flag F.CHIP_STRAP_ROLE true).flag F.HOST_STAT_LINK_UP true).setWord 0x40 0x12345678#32), by decide +kernel⟩,
   ⟨0xA00000#24, (State.reset.flag F.CHIP_STRAP_ROLE true).flag F.HOST_STAT_LINK_UP true, by decide +kernel⟩,
   ⟨State.reset, by decide +kernel⟩,
   ⟨0, 3, R.SAP_MASK 3, false, [7#32], [15, 15], { State.reset with mx := { Mtx.reset with hung := [⟨3, R.SAP_MASK 3, false, none, 4, .bar [7#32] [15, 15]⟩] } }, by decide +kernel⟩,
   ⟨0, State.reset, by decide +kernel⟩⟩

theorem test_hyps_ReferencesAreQualifiedAndLost :
    (∃ r : Fin 16, ∃ s : State, (refExists r = true ∧ SMap.get noneB s.ck.predicted r = false) ∧ (SMap.get noneB s.ck.outRange r = false) ∧ (s.qualified r = false ∧ s.g (F.CLK_REF_STAT_QUAL_LEFT r) = 0)) ∧
    (∃ r : Fin 16, ∃ dev : BitVec 32, ∃ s : State, (refExists r = true) ∧ (SMap.get noneB s.ck.predicted r = false ∨ dev.toInt.natAbs ≤ (if r = 4 then 1000 else s.g F.CLK_LIMITS_PHIT_NS))) ∧
    (∃ r : Fin 16, ∃ dev : BitVec 32, ∃ s : State, (refExists r = true) ∧ (SMap.get noneB s.ck.predicted r = false ∨ dev.toInt.natAbs ≤ (if r = 4 then 1000 else s.g F.CLK_LIMITS_PHIT_NS))) ∧
    (∃ r : Fin 16, ∃ dev : BitVec 32, ∃ s : State, (refExists r = true ∧ s.cur = some r.val ∧ (s.dpll = 1 ∨ s.dpll = 2)) ∧ (SMap.get noneB s.ck.predicted r = false ∨ dev.toInt.natAbs ≤ (if r = 4 then 1000 else s.g F.CLK_LIMITS_PHIT_NS))) ∧
    (∃ r : Fin 16, ∃ dev : BitVec 32, ∃ s : State, (refExists r = true ∧ SMap.get noneB s.ck.predicted r = true ∧ s.qualified r = false ∧ s.cur = none) ∧ (s.candidates.all (fun c => c.input != r.val) = true) ∧ ((if r = 4 then 1000 else s.g F.CLK_LIMITS_PHIT_NS) < dev.toInt.natAbs)) ∧
    (∃ r : Fin 16, ∃ dev : BitVec 32, ∃ s : State, (refExists r = true ∧ SMap.get noneB s.ck.predicted r = true) ∧ ((if r = 4 then 1000 else s.g F.CLK_LIMITS_PHIT_NS) < dev.toInt.natAbs)) ∧
    (∃ r : Fin 16, refExists r = false) ∧
    (∃ r : Fin 16, ∃ s : State, refExists r = true ∧ s.g (F.CLK_REF_STAT_PRESENT r) = 1) ∧
    (∃ r : Fin 16, ∃ s : State, refExists r = false ∨ (s.g (F.CLK_REF_STAT_PRESENT r) = 0 ∧ s.qualified r = false)) ∧
    (∃ r : Fin 16, ∃ s : State, (refExists r = true ∧ s.g (F.CLK_REF_STAT_PRESENT r) = 1) ∧ (s.cur = some r.val ∧ s.dpll = 2) ∧ (∀ c ∈ s.candidates, c.input ≠ r.val → s.qualified c.input = false)) ∧
    (∃ r : Fin 16, ∃ s : State, (refExists r = true ∧ s.g (F.CLK_REF_STAT_PRESENT r) = 1) ∧ (s.cur = some r.val ∧ s.dpll = 2) ∧ (∀ c ∈ s.candidates, c.input ≠ r.val → s.qualified c.input = false)) ∧
    (∃ r : Fin 16, ∃ s : State, (refExists r = true ∧ s.g (F.CLK_REF_STAT_PRESENT r) = 1) ∧ (s.cur = some r.val ∧ s.dpll = 2) ∧ (∀ c ∈ s.candidates, c.input ≠ r.val → s.qualified c.input = false)) ∧
    (∃ r : Fin 16, ∃ c : Cand, ∃ s : State, (refExists r = true ∧ s.g (F.CLK_REF_STAT_PRESENT r) = 1) ∧ (s.cur = some r.val ∧ s.dpll = 2) ∧ (c ∈ s.candidates ∧ c.input ≠ r.val ∧ s.qualified c.input = true)) ∧
    (∃ r : Fin 16, ∃ m : BitVec 32, ∃ s : State, (refExists r = true ∧ s.g (F.CLK_REF_STAT_PRESENT r) = 1) ∧ (m.toInt.natAbs ≤ 1000 * s.g F.CLK_QUAL_RANGE_PPM)) ∧
    (∃ r : Fin 16, ∃ m : BitVec 32, ∃ s : State, (refExists r = true ∧ s.g (F.CLK_REF_STAT_PRESENT r) = 1) ∧ (1000 * s.g F.CLK_QUAL_RANGE_PPM < m.toInt.natAbs)) ∧
    (∃ r : Fin 16, ∃ s : State, refExists r = false ∨ s.g (F.CLK_REF_STAT_PRESENT r) = 0) ∧
    (∃ r : Nat, ∃ s : State, s.cur = some r ∧ s.dpll = 1) ∧
    (∃ s : State, s.cur = none ∨ s.dpll ≠ 1) ∧
    (∃ r : Fin 16, ∃ s : State, (refExists r = true ∧ s.g (F.CLK_REF_STAT_PRESENT r) = 1 ∧ s.qualified r = false ∧ s.g (F.CLK_REF_STAT_QUAL_LEFT r) ≠ 0) ∧ (r = 3 → 8 ≤ s.ck.pps)) ∧
    (∃ r : Fin 16, ∃ s : State, refExists r = false ∨ s.g (F.CLK_REF_STAT_PRESENT r) = 0 ∨ s.qualified r = true ∨ s.g (F.CLK_REF_STAT_QUAL_LEFT r) = 0 ∨ (r = 3 ∧ s.ck.pps < 8)) :=
  ⟨⟨15, State.reset, by decide +kernel⟩,
   ⟨15, 5, State.reset, by decide +kernel⟩,
   ⟨3, 5, { State.reset with ck := { Clk.reset with outRange := SMap.set noneB [] 3 true, predicted := SMap.set noneB [] 3 true } }, by decide +kernel⟩,
   ⟨3, 5, ((State.reset.flag F.CLK_STAT_CUR_VALID true).p F.CLK_STAT_CUR 3).p F.CLK_STAT_STATE 2, by decide +kernel⟩,
   ⟨4, BitVec.ofInt 32 (-1001), { State.reset with ck := { Clk.reset with predicted := SMap.set noneB [] 4 true } }, by decide +kernel⟩,
   ⟨0, BitVec.ofInt 32 (-100001), ((({ State.reset with ck := { Clk.reset with predicted := SMap.set noneB [] 0 true } } : State).flag (F.CLK_REF_STAT_QUALIFIED 0) true).flag F.CLK_STAT_CUR_VALID true).p F.CLK_STAT_STATE 2, by decide +kernel⟩,
   ⟨6, by decide +kernel⟩,
   ⟨0, State.reset.flag (F.CLK_REF_STAT_PRESENT 0) true, by decide +kernel⟩,
   ⟨6, State.reset, by decide +kernel⟩,
   ⟨0, ((((State.reset.flag (F.CLK_REF_STAT_PRESENT 0) true).flag (F.CLK_REF_STAT_QUALIFIED 0) true).flag F.CLK_STAT_CUR_VALID true).p F.CLK_STAT_STATE 2), by decide +kernel⟩,
   ⟨0, ((((State.reset.flag (F.CLK_REF_STAT_PRESENT 0) true).flag (F.CLK_REF_STAT_QUALIFIED 0) true).flag F.CLK_STAT_CUR_VALID true).p F.CLK_STAT_STATE 2) |> fun u => { u with ck := { u.ck with hist := 300, freqs := List.replicate 300 (-7), h := 700 } }, by decide +kernel⟩,
   ⟨0, ((((State.reset.flag (F.CLK_REF_STAT_PRESENT 0) true).flag (F.CLK_REF_STAT_QUALIFIED 0) true).flag F.CLK_STAT_CUR_VALID true).p F.CLK_STAT_STATE 2).p F.CLK_HOLD_HO_LIMIT 60 |> fun u => { u with ck := { u.ck with hist := 300, freqs := List.replicate 300 (-7), h := 700 } }, by decide +kernel⟩,
   ⟨0, ⟨1, 3, false⟩, ((((State.reset.flag (F.CLK_REF_STAT_PRESENT 0) true).flag (F.CLK_REF_STAT_QUALIFIED 0) true).flag F.CLK_STAT_CUR_VALID true).p F.CLK_STAT_STATE 2) |> fun u => ((u.flag (F.CLK_REF_STAT_QUALIFIED 3) true).flag (F.CLK_FALLBACK_EN 0) true).p (F.CLK_FALLBACK_INPUT 0) 3 |> fun u => u.flag F.CLK_CTL_FB_EN true, by decide +kernel⟩,
   ⟨3, BitVec.ofInt 32 (-900), (State.reset.flag (F.CLK_REF_STAT_PRESENT 3) true).p F.CLK_STAT_STATE 2, by decide +kernel⟩,
   ⟨3, 0x7FFFFFFF, State.reset.flag (F.CLK_REF_STAT_PRESENT 3) true, by decide +kernel⟩,
   ⟨3, State.reset, by decide +kernel⟩,
   ⟨0, ((State.reset.flag (F.CLK_REF_STAT_QUALIFIED 0) true).flag F.CLK_STAT_CUR_VALID true).p F.CLK_STAT_STATE 1, by decide +kernel⟩,
   ⟨State.reset, by decide +kernel⟩,
   ⟨3, ((State.reset.flag (F.CLK_REF_STAT_PRESENT 3) true).p (F.CLK_REF_STAT_QUAL_LEFT 3) 1).wr R.CLK_CTL 0 |> fun u => ({ u with ck := { u.ck with pps := 8 } } : State).flag (F.CLK_FALLBACK_EN 0) true |> fun u => (u.p (F.CLK_FALLBACK_INPUT 0) 3).flag F.CLK_CTL_FB_EN true, by decide +kernel⟩,
   ⟨3, State.reset, by decide +kernel⟩⟩

theorem test_hyps_DpllLocksHoldsAndSelects :
    (∃ r : Nat, ∃ s : State, (s.cur = some r ∧ s.dpll = 1 ∧ s.ck.within = true) ∧ (s.topRank.any (fun c => c.input == r) = true)) ∧
    (∃ s : State, s.dpll = 1 ∧ s.ck.within = true) ∧
    (∃ s : State, s.dpll ≠ 1 ∨ s.ck.within = false) ∧
    (∃ s : State, s.dpll = 3 ∧ s.g F.CLK_HOLD_HO_LIMIT ≠ 0) ∧
    (∃ s : State, s.dpll ≠ 3 ∨ s.g F.CLK_HOLD_HO_LIMIT = 0) ∧
    (∃ k : Fin 4, ∃ v : Word, ∃ s : State, (bitsOf v 3 0 < 5 ∨ 8 ≤ bitsOf v 3 0) ∧ ((s.namedInputs (R.CLK_FALLBACK k) v).Nodup)) ∧
    (∃ v : Word, ∃ s : State, (bitsOf v 3 0 < 5 ∨ 8 ≤ bitsOf v 3 0) ∧ ((s.namedInputs R.CLK_CTL v).Nodup)) ∧
    (∃ v : Word, 5 ≤ bitsOf v 3 0 ∧ bitsOf v 3 0 ≤ 7) ∧
    (∃ v : Word, 5 ≤ bitsOf v 3 0 ∧ bitsOf v 3 0 ≤ 7) ∧
    (∃ k : Option (Fin 4), ∃ v : Word, ∃ s : State, ¬(s.namedInputs (match k with | some i => R.CLK_FALLBACK i | none => R.CLK_CTL) v).Nodup) ∧
    (∃ v : Word, bitsOf v 2 0 ≤ 4) ∧
    (∃ v : Word, 4 < bitsOf v 2 0) :=
  ⟨⟨0, (((State.reset.flag (F.CLK_REF_STAT_QUALIFIED 0) true).flag F.CLK_STAT_CUR_VALID true).p F.CLK_STAT_STATE 1).flag F.CLK_CTL_SEL_EN true |> fun u => (({ u with ck := { u.ck with within := true } } : State).p F.CLK_CTL_REF_SEL 0).flag F.CLK_STAT_SWITCHING true, by decide +kernel⟩,
   ⟨{ (((State.reset.flag F.CLK_STAT_CUR_VALID true).p F.CLK_STAT_STATE 1).flag F.CLK_STAT_SWITCHING true) with ck := { Clk.reset with within := true } }, by decide +kernel⟩,
   ⟨State.reset, by decide +kernel⟩,
   ⟨(State.reset.p F.CLK_STAT_STATE 3).p F.CLK_HOLD_HO_LIMIT 60, by decide +kernel⟩,
   ⟨State.reset, by decide +kernel⟩,
   ⟨3, 0x80000008#32, State.reset, by decide +kernel⟩,
   ⟨0x80000008#32, State.reset, by decide +kernel⟩,
   ⟨7#32, by decide +kernel⟩,
   ⟨5#32, by decide +kernel⟩,
   ⟨some 3, 0x80000002#32, State.reset.wr (R.CLK_FALLBACK 0) 0x80000002#32, by decide +kernel⟩,
   ⟨0x80000004#32, by decide +kernel⟩,
   ⟨5#32, by decide +kernel⟩⟩

theorem test_hyps_PortsWakeTrainAndLock :
    (∃ p : Fin 8, ∃ v : Word, ∃ s : State, (s.nglState p = 0) ∧ (s.nglCtlBad p (v ||| 0x80000000#32) = false)) ∧
    (∃ p : Fin 8, ∃ v : Word, ∃ s : State, (s.nglState p ≠ 0 ∧ s.nglState p ≠ 7) ∧ (s.nglCtlBad p (v ||| 0x80000000#32) = false) ∧ (v.getLsbD 30 = false)) ∧
    (∃ p : Fin 8, ∃ s : State, (s.nglState p = 0) ∧ (s.g (F.NGL_CTL_EN p) = 1)) ∧
    (∃ p : Fin 8, ∃ s : State, s.nglState p ≠ 0 ∨ s.g (F.NGL_CTL_EN p) = 0) ∧
    (∃ p : Fin 8, ∃ v : Word, ∃ s : State, s.nglCtlBad p (v &&& 0x7FFFFFFF#32) = false) ∧
    (∃ p : Fin 8, ∃ v : Word, ∃ s : State, 4 < bitsOf v 2 0 ∨ (s.g (F.NGL_CTL_EN p) = 1 ∧ bitsOf v 2 0 ≠ s.nglMode p)) ∧
    (∃ p : Fin 8, ∃ v : Word, ∃ s : State, s.nglCtlBad p (v ||| 0x80000000#32) = true) ∧
    (∃ p : Fin 8, ∃ v : Word, ∃ s : State, s.nglCtlBad p (v &&& 0x7FFFFFFF#32) = true) ∧
    (∃ p : Fin 8, ∃ s : State, s.nglState p = 8) ∧
    (∃ p : Fin 8, ∃ s : State, s.nglState p = 8) ∧
    (∃ p : Fin 8, ∃ s : State, s.nglState p = 8) ∧
    (∃ p : Fin 8, ∃ s : State, s.nglState p ≠ 8) ∧
    (∃ p : Fin 8, ∃ ns : Nat, ∃ s : State, (s.nglState p = 1) ∧ (1000 ≤ ns ∧ ns ≤ 40000)) ∧
    (∃ p : Fin 8, ∃ ns : Option Nat, ∃ s : State, (s.nglState p = 1) ∧ (ns.all (fun n => decide (n < 1000 ∨ 40000 < n)) = true)) ∧
    (∃ p : Fin 8, ∃ s : State, s.nglState p ≠ 1) ∧
    (∃ p : Fin 8, ∃ req : BitVec 16, ∃ s : State, s.nglState p = 2 ∧ (s.ngl p).answer = 0 ∧ req.getLsbD 14 = true) ∧
    (∃ p : Fin 8, ∃ req : BitVec 16, ∃ s : State, s.nglState p = 2 ∧ (s.ngl p).answer = 0 ∧ req.getLsbD 14 = false ∧ req.getLsbD 13 = true) ∧
    (∃ p : Fin 8, ∃ s : State, (s.nglState p = 2 ∧ (s.ngl p).answer = 0) ∧ (s.g (F.NGL_FFE_C_POST p) < 26) ∧ (s.g (F.NGL_FFE_C_PRE p) + s.g (F.NGL_FFE_C_MAIN p) + s.g (F.NGL_FFE_C_POST p) < 64)) ∧
    (∃ p : Fin 8, ∃ s : State, s.nglState p = 2 ∧ (s.ngl p).answer = 0) ∧
    (∃ p : Fin 8, ∃ s : State, s.nglState p = 2 ∧ (s.ngl p).answer = 0) ∧
    (∃ p : Fin 8, ∃ s : State, s.nglState p = 2) ∧
    (∃ p : Fin 8, ∃ s : State, s.nglState p ≠ 2) ∧
    (∃ p : Fin 8, ∃ s : State, s.nglState p = 2 ∧ (s.ngl p).ready = 3) ∧
    (∃ p : Fin 8, ∃ s : State, s.nglState p ≠ 2 ∨ (s.ngl p).ready ≠ 3) ∧
    (∃ p : Fin 8, ∃ s : State, s.nglState p = 3) ∧
    (∃ p : Fin 8, ∃ s : State, s.nglState p ≠ 3) ∧
    (∃ p : Fin 8, ∃ s : State, s.nglState p = 4) ∧
    (∃ p : Fin 8, ∃ s : State, s.nglState p = 5 ∨ s.nglState p = 6) ∧
    (∃ p : Fin 8, ∃ s : State, s.nglState p < 4 ∨ 6 < s.nglState p) :=
  ⟨⟨7, 4#32, State.reset.wr (R.NGL_CTL 7) 0, by decide +kernel⟩,
   ⟨7, 0x08000000#32, (State.reset.p (F.NGL_STAT_STATE 7) 6).flag (F.NGL_CTL_EN 7) true, by decide +kernel⟩,
   ⟨7, State.reset.flag (F.NGL_CTL_EN 7) true, by decide +kernel⟩,
   ⟨7, State.reset.p (F.NGL_CTL_EN 7) 0, by decide +kernel⟩,
   ⟨2, 0#32, (State.reset.flag (F.NGL_CTL_EN 2) true).p (F.NGL_STAT_STATE 2) 6, by decide +kernel⟩,
   ⟨2, 5#32, State.reset, by decide +kernel⟩,
   ⟨2, 0x40000000#32, State.reset, by decide +kernel⟩,
   ⟨2, 0x40000000#32, State.reset, by decide +kernel⟩,
   ⟨2, State.reset.p (F.NGL_STAT_STATE 2) 8, by decide +kernel⟩,
   ⟨2, (State.reset.p (F.NGL_STAT_STATE 2) 8).setNgl 2 { Ngl.reset with fromMoored := true }, by decide +kernel⟩,
   ⟨2, (State.reset.p (F.NGL_STAT_STATE 2) 8).p (F.NGL_CTL_MODE 2) 3, by decide +kernel⟩,
   ⟨2, State.reset, by decide +kernel⟩,
   ⟨7, 40000, State.reset.p (F.NGL_STAT_STATE 7) 1, by decide +kernel⟩,
   ⟨7, some 40001, State.reset.p (F.NGL_STAT_STATE 7) 1, by decide +kernel⟩,
   ⟨2, State.reset, by decide +kernel⟩,
   ⟨7, 0x4000, State.reset.p (F.NGL_STAT_STATE 7) 2, by decide +kernel⟩,
   ⟨7, 0x2000, (State.reset.p (F.NGL_STAT_STATE 7) 2).wr (R.NGL_FFE 7) 0x00042002#32, by decide +kernel⟩,
   ⟨7, (State.reset.p (F.NGL_STAT_STATE 7) 2).wr (R.NGL_FFE 7) 0x00042002#32, by decide +kernel⟩,
   ⟨7, (State.reset.p (F.NGL_STAT_STATE 7) 2).wr (R.NGL_FFE 7) 0x00042502#32, by decide +kernel⟩,
   ⟨7, (State.reset.p (F.NGL_STAT_STATE 7) 2).wr (R.NGL_FFE 7) 0x00102002#32, by decide +kernel⟩,
   ⟨7, State.reset.p (F.NGL_STAT_STATE 7) 2, by decide +kernel⟩,
   ⟨2, State.reset, by decide +kernel⟩,
   ⟨7, (State.reset.p (F.NGL_STAT_STATE 7) 2).setNgl 7 { Ngl.reset with ready := 3 }, by decide +kernel⟩,
   ⟨2, State.reset, by decide +kernel⟩,
   ⟨7, State.reset.p (F.NGL_STAT_STATE 7) 3, by decide +kernel⟩,
   ⟨2, State.reset, by decide +kernel⟩,
   ⟨7, State.reset.p (F.NGL_STAT_STATE 7) 4, by decide +kernel⟩,
   ⟨7, State.reset.p (F.NGL_STAT_STATE 7) 6, by decide +kernel⟩,
   ⟨7, State.reset, by decide +kernel⟩⟩

theorem test_hyps_PortsFailAndAreMeasured :
    (∃ p : Fin 8, ∃ s : State, s.nglState p = 2) ∧
    (∃ p : Fin 8, ∃ s : State, s.nglState p ≠ 2) ∧
    (∃ p : Fin 8, ∃ s : State, s.nglState p = 3) ∧
    (∃ p : Fin 8, ∃ s : State, s.nglState p ≠ 3) ∧
    (∃ p : Fin 8, ∃ s : State, s.nglState p = 4) ∧
    (∃ p : Fin 8, ∃ s : State, s.nglState p ≠ 4) ∧
    (∃ p : Fin 8, ∃ s : State, s.nglState p = 5) ∧
    (∃ p : Fin 8, ∃ s : State, s.nglState p ≠ 5) ∧
    (∃ p : Fin 8, ∃ s : State, s.nglState p = 5 ∨ s.nglState p = 6) ∧
    (∃ p : Fin 8, ∃ s : State, s.nglState p = 4) ∧
    (∃ p : Fin 8, ∃ s : State, s.nglState p < 4 ∨ 6 < s.nglState p) ∧
    (∃ p : Fin 8, ∃ s : State, (3 ≤ s.nglState p ∧ s.nglState p ≤ 6) ∨ (s.nglState p = 9 ∧ (s.nglMode p = 1 ∨ s.nglMode p = 4))) ∧
    (∃ p : Fin 8, ∃ s : State, (3 ≤ s.nglState p ∧ s.nglState p ≤ 6) ∨ (s.nglState p = 9 ∧ (s.nglMode p = 1 ∨ s.nglMode p = 4))) ∧
    (∃ p : Fin 8, ∃ s : State, (3 ≤ s.nglState p ∧ s.nglState p ≤ 6) ∨ (s.nglState p = 9 ∧ (s.nglMode p = 1 ∨ s.nglMode p = 4))) ∧
    (∃ p : Fin 8, ∃ s : State, ¬((3 ≤ s.nglState p ∧ s.nglState p ≤ 6) ∨ (s.nglState p = 9 ∧ (s.nglMode p = 1 ∨ s.nglMode p = 4)))) ∧
    (∃ p : Fin 8, ∃ v : Word, ∃ s : State, (s.farLive (24 + p) = true) ∧ (s.g (F.NGL_ES_CTL_GO p) = 0) ∧ (s.nglState p = 4 ∨ s.nglState p = 5 ∨ s.nglState p = 6 ∨ s.nglState p = 9) ∧ (16 ≤ bitsOf v 21 16 ∧ bitsOf v 21 16 ≤ 40)) ∧
    (∃ p : Fin 8, ∃ v : Word, ∃ s : State, (s.farLive (24 + p) = true) ∧ (s.g (F.NGL_ES_CTL_GO p) = 1 ∨ s.nglState p ≤ 3 ∨ s.nglState p = 7 ∨ s.nglState p = 8 ∨ bitsOf v 21 16 < 16 ∨ 40 < bitsOf v 21 16)) ∧
    (∃ p : Fin 8, ∃ s : State, s.farLive (24 + p) = false) ∧
    (∃ p : Fin 8, ∃ s : State, s.g (F.NGL_ES_CTL_GO p) = 1) ∧
    (∃ p : Fin 8, ∃ s : State, s.g (F.NGL_ES_CTL_GO p) = 0 ∧ (s.ngl p).scanCut = true) ∧
    (∃ p : Fin 8, ∃ s : State, s.g (F.NGL_ES_CTL_GO p) = 0 ∧ (s.ngl p).scanCut = false) ∧
    (∃ p : Fin 8, ∃ s : State, (s.nglState p = 9 ∧ s.nglMode p ≠ 4) ∧ (s.g (F.NGL_PRBS_STAT_LOCKED p) = 0)) ∧
    (∃ p : Fin 8, ∃ s : State, (s.nglState p = 9 ∧ s.nglMode p ≠ 4) ∧ (s.g (F.NGL_PRBS_STAT_LOCKED p) = 1)) ∧
    (∃ p : Fin 8, ∃ s : State, s.nglState p ≠ 9 ∨ s.nglMode p = 4) ∧
    (∃ p : Fin 8, ∃ s : State, s.g (F.NGL_PRBS_STAT_LOCKED p) = 1) ∧
    (∃ p : Fin 8, ∃ s : State, s.g (F.NGL_PRBS_STAT_LOCKED p) = 0) :=
  ⟨⟨7, State.reset.p (F.NGL_STAT_STATE 7) 2, by decide +kernel⟩,
   ⟨2, State.reset, by decide +kernel⟩,
   ⟨7, State.reset.p (F.NGL_STAT_STATE 7) 3, by decide +kernel⟩,
   ⟨2, State.reset, by decide +kernel⟩,
   ⟨7, State.reset.p (F.NGL_STAT_STATE 7) 4, by decide +kernel⟩,
   ⟨2, State.reset, by decide +kernel⟩,
   ⟨7, State.reset.p (F.NGL_STAT_STATE 7) 5, by decide +kernel⟩,
   ⟨2, State.reset, by decide +kernel⟩,
   ⟨7, (State.reset.p (F.NGL_STAT_STATE 7) 6).wr (R.FAB_PORT_CRED 7) 0x00200020#32, by decide +kernel⟩,
   ⟨2, State.reset.p (F.NGL_STAT_STATE 2) 4, by decide +kernel⟩,
   ⟨2, State.reset, by decide +kernel⟩,
   ⟨7, (State.reset.p (F.NGL_STAT_STATE 7) 6).flag (F.NGL_STAT_SIG_DET 7) true, by decide +kernel⟩,
   ⟨0, (State.reset.p (F.NGL_STAT_STATE 0) 3).flag (F.NGL_STAT_SIG_DET 0) true, by decide +kernel⟩,
   ⟨0, ((State.reset.p (F.NGL_STAT_STATE 0) 9).p (F.NGL_CTL_MODE 0) 4).flag (F.NGL_ES_CTL_GO 0) true, by decide +kernel⟩,
   ⟨2, State.reset.p (F.NGL_STAT_STATE 2) 7, by decide +kernel⟩,
   ⟨7, 0x00280000#32, ((State.reset.p (F.NGL_STAT_STATE 7) 9).flag (F.NGL_STAT_CLOCK_PRESENT 7) true).flag (F.NGL_STAT_READY 7) true, by decide +kernel⟩,
   ⟨7, 0x00290000#32, ((State.reset.p (F.NGL_STAT_STATE 7) 9).flag (F.NGL_STAT_CLOCK_PRESENT 7) true).flag (F.NGL_STAT_READY 7) true, by decide +kernel⟩,
   ⟨7, State.reset, by decide +kernel⟩,
   ⟨7, (State.reset.p (F.NGL_STAT_STATE 7) 9).flag (F.NGL_ES_CTL_GO 7) true, by decide +kernel⟩,
   ⟨7, State.reset.setNgl 7 { Ngl.reset with scanCut := true }, by decide +kernel⟩,
   ⟨2, State.reset, by decide +kernel⟩,
   ⟨7, (State.reset.p (F.NGL_STAT_STATE 7) 9).p (F.NGL_CTL_MODE 7) 1, by decide +kernel⟩,
   ⟨7, ((State.reset.p (F.NGL_STAT_STATE 7) 9).p (F.NGL_CTL_MODE 7) 1).flag (F.NGL_PRBS_STAT_LOCKED 7) true, by decide +kernel⟩,
   ⟨7, State.reset, by decide +kernel⟩,
   ⟨7, State.reset.flag (F.NGL_PRBS_STAT_LOCKED 7) true, by decide +kernel⟩,
   ⟨2, State.reset, by decide +kernel⟩⟩

theorem test_hyps_PortsMoorAndWake :
    (∃ p : Fin 8, ∃ v : Word, ∃ s : State, (s.nglState p = 6 ∧ s.g (F.NGL_CTL_EN p) = 1 ∧ s.moorBarred p = false) ∧ (v.getLsbD 31 = true ∧ bitsOf v 2 0 = s.nglMode p ∧ s.nglMode p ≤ 4) ∧ (s.g F.TICK_STAT_RUNNING = 1)) ∧
    (∃ p : Fin 8, ∃ v : Word, ∃ s : State, (s.nglState p = 6 ∧ s.g (F.NGL_CTL_EN p) = 1 ∧ s.moorBarred p = false) ∧ (v.getLsbD 31 = true ∧ bitsOf v 2 0 = s.nglMode p ∧ s.nglMode p ≤ 4) ∧ (s.g F.TICK_STAT_RUNNING = 0 ∧ s.pw.owned = false ∧ (s.ngl p).asked = false)) ∧
    (∃ p : Fin 8, ∃ v : Word, ∃ s : State, (s.nglState p = 6 ∧ s.g (F.NGL_CTL_EN p) = 1 ∧ s.moorBarred p = false ∧ (s.ngl p).asked = true) ∧ (v.getLsbD 31 = true ∧ bitsOf v 2 0 = s.nglMode p ∧ s.nglMode p ≤ 4)) ∧
    (∃ p : Fin 8, ∃ s : State, s.nglState p ≠ 6 ∨ s.cur = some (8 + p.val) ∨ (s.g F.PAIR_CFG_EN = 1 ∧ s.g F.PAIR_CFG_TETHER = p.val)) ∧
    (∃ p : Fin 8, ∃ v : Word, ∃ s : State, (s.moorBarred p = false ∧ v.getLsbD 31 = false) ∧ (bitsOf v 2 0 ≤ 4 ∧ (s.g (F.NGL_CTL_EN p) = 1 → bitsOf v 2 0 = s.nglMode p))) ∧
    (∃ p : Fin 8, ∃ s : State, s.nglState p = 6 ∧ ((s.g (F.NGL_CTL_MOOR_ALLOW p) = 1 ∧ s.moorBarred p = false) ∨ ((s.ngl p).asked = true ∧ (s.ngl p).quiet = true))) ∧
    (∃ p : Fin 8, ∃ s : State, s.nglState p = 6 ∧ ((s.g (F.NGL_CTL_MOOR_ALLOW p) = 1 ∧ s.moorBarred p = false) ∨ ((s.ngl p).asked = true ∧ (s.ngl p).quiet = true))) ∧
    (∃ p : Fin 8, ∃ s : State, s.nglState p ≠ 6 ∨ ((s.g (F.NGL_CTL_MOOR_ALLOW p) = 0 ∨ s.moorBarred p = true) ∧ ¬((s.ngl p).asked = true ∧ (s.ngl p).quiet = true))) ∧
    (∃ p : Fin 8, ∃ s : State, s.nglState p = 6 ∧ (s.ngl p).asked = true ∧ (s.ngl p).quiet = true) ∧
    (∃ p : Fin 8, ∃ s : State, s.nglState p = 6 ∧ (s.ngl p).asked = true ∧ (s.ngl p).quiet = true) ∧
    (∃ p : Fin 8, ∃ s : State, s.nglState p ≠ 6 ∨ (s.ngl p).asked = false ∨ (s.ngl p).quiet = false) ∧
    (∃ p : Fin 8, ∃ s : State, s.nglState p = 6 ∧ (s.ngl p).asked = true ∧ (s.ngl p).quiet = true) ∧
    (∃ p : Fin 8, ∃ s : State, s.nglState p ≠ 6 ∨ (s.ngl p).asked = false ∨ (s.ngl p).quiet = false) ∧
    (∃ p : Fin 8, ∃ v : Word, ∃ s : State, (s.nglState p = 7 ∧ s.g (F.NGL_CTL_EN p) = 1) ∧ (v.getLsbD 31 = true ∧ bitsOf v 2 0 = s.nglMode p ∧ s.nglMode p ≤ 4)) ∧
    (∃ p : Fin 8, ∃ v : Word, ∃ s : State, (s.nglState p ≠ 0 ∧ s.nglState p ≠ 7 ∧ s.g (F.NGL_CTL_EN p) = 1) ∧ (v.getLsbD 31 = true ∧ bitsOf v 2 0 = s.nglMode p ∧ s.nglMode p ≤ 4)) ∧
    (∃ p : Fin 8, ∃ v : Word, ∃ s : State, 4 < bitsOf v 2 0 ∨ (s.g (F.NGL_CTL_EN p) = 1 ∧ bitsOf v 2 0 ≠ s.nglMode p)) ∧
    (∃ p : Fin 8, ∃ s : State, s.nglState p ≠ 0) ∧
    (∃ p : Fin 8, ∃ s : State, s.nglState p ≠ 0) ∧
    (∃ p : Fin 8, ∃ s : State, s.nglState p = 0) :=
  ⟨⟨7, 0x80000000#32, ((State.reset.p (F.NGL_STAT_STATE 7) 6).flag (F.NGL_CTL_EN 7) true).flag F.TICK_STAT_RUNNING true, by decide +kernel⟩,
   ⟨7, 0x80000000#32, (State.reset.p (F.NGL_STAT_STATE 7) 6).flag (F.NGL_CTL_EN 7) true, by decide +kernel⟩,
   ⟨7, 0x80000000#32, ((State.reset.p (F.NGL_STAT_STATE 7) 6).flag (F.NGL_CTL_EN 7) true).setNgl 7 { Ngl.reset with asked := true, quiet := true }, by decide +kernel⟩,
   ⟨7, State.reset, by decide +kernel⟩,
   ⟨7, 0#32, (State.reset.p (F.NGL_STAT_STATE 7) 6).flag (F.NGL_CTL_EN 7) true, by decide +kernel⟩,
   ⟨7, (State.reset.p (F.NGL_STAT_STATE 7) 6).flag (F.NGL_CTL_MOOR_ALLOW 7) true, by decide +kernel⟩,
   ⟨7, ((State.reset.p (F.NGL_STAT_STATE 7) 6).p (F.NGL_CTL_MOOR_ALLOW 7) 0).setNgl 7 { Ngl.reset with asked := true, quiet := true, leave := true }, by decide +kernel⟩,
   ⟨7, State.reset.flag (F.NGL_CTL_MOOR_ALLOW 7) false, by decide +kernel⟩,
   ⟨7, (State.reset.p (F.NGL_STAT_STATE 7) 6).setNgl 7 { Ngl.reset with asked := true, quiet := true }, by decide +kernel⟩,
   ⟨7, (State.reset.p (F.NGL_STAT_STATE 7) 6).setNgl 7 { Ngl.reset with asked := true, quiet := true, leave := true }, by decide +kernel⟩,
   ⟨2, State.reset, by decide +kernel⟩,
   ⟨7, (State.reset.p (F.NGL_STAT_STATE 7) 6).setNgl 7 { Ngl.reset with asked := true, quiet := true }, by decide +kernel⟩,
   ⟨2, State.reset, by decide +kernel⟩,
   ⟨7, 0x80000000#32, (State.reset.p (F.NGL_STAT_STATE 7) 7).flag (F.NGL_CTL_EN 7) true, by decide +kernel⟩,
   ⟨7, 0x80000000#32, ((State.reset.p (F.NGL_STAT_STATE 7) 6).flag (F.NGL_CTL_EN 7) true).setNgl 7 { Ngl.reset with asked := true }, by decide +kernel⟩,
   ⟨7, 7#32, State.reset, by decide +kernel⟩,
   ⟨7, State.reset.p (F.NGL_STAT_STATE 7) 7, by decide +kernel⟩,
   ⟨7, State.reset.p (F.NGL_STAT_STATE 7) 6, by decide +kernel⟩,
   ⟨2, State.reset.p (F.NGL_STAT_STATE 2) 0, by decide +kernel⟩⟩

set_option maxRecDepth 20000 in
theorem test_hyps_MarksRunsAndFlowsCarryAudio :
    (∃ p : Fin 8, ∃ s : State, (s.g F.TICK_STAT_RUNNING = 1 ∧ s.nglState p = 6 ∧ s.g F.FAB_ID_VALID = 1 ∧ s.pw.owned = false) ∧ (SMap.get zeroN s.fb.marked p ≠ s.tick + 1)) ∧
    (∃ p : Fin 8, ∃ s : State, s.g F.TICK_STAT_RUNNING = 0 ∨ s.nglState p ≠ 6 ∨ s.g F.FAB_ID_VALID = 0 ∨ SMap.get zeroN s.fb.marked p = s.tick + 1) ∧
    (∃ p : Fin 8, ∃ w : Word, ∃ s : State, (s.nglState p = 6 ∧ s.markOk p w = true ∧ w.getLsbD 6 = true) ∧ (bitsOf w 18 16 = s.g F.TICK_CFG_FS_SEL ∧ bitsOf w 10 8 = s.g F.TICK_CFG_N_LOG2)) ∧
    (∃ p : Fin 8, ∃ w : Word, ∃ s : State, (s.nglState p = 6 ∧ s.markOk p w = true ∧ w.getLsbD 6 = true) ∧ (¬(bitsOf w 18 16 = s.g F.TICK_CFG_FS_SEL ∧ bitsOf w 10 8 = s.g F.TICK_CFG_N_LOG2))) ∧
    (∃ p : Fin 8, ∃ w : Word, ∃ s : State, (s.nglState p = 6 ∧ s.markOk p w = true ∧ w.getLsbD 6 = true) ∧ (¬(bitsOf w 18 16 = s.g F.TICK_CFG_FS_SEL ∧ bitsOf w 10 8 = s.g F.TICK_CFG_N_LOG2))) ∧
    (∃ p : Fin 8, ∃ w : Word, ∃ s : State, s.nglState p = 6 ∧ s.markOk p w = true ∧ w.getLsbD 6 = false) ∧
    (∃ p : Fin 8, ∃ w : Word, ∃ s : State, s.nglState p = 6 ∧ s.markOk p w = false) ∧
    (∃ p : Fin 8, ∃ s : State, s.nglState p ≠ 6) ∧
    (∃ p : Fin 8, ∃ f : Fin 1024, ∃ first : Fin 256, ∃ s : State, (s.nglState p = 6 ∧ SMap.find s.fb.inRun p = none) ∧ (s.flowActs f = false ∨ (s.ctx f).forwards = false ∨ (s.ctx f).rx.testBit p = false ∨ s.regionSafe 5 = true ∨ s.g F.FAB_ID_VALID = 0 ∨ SMap.get zeroN s.fb.fwd (256 * f + first) = SMap.get zeroN s.fb.mark p + 1)) ∧
    (∃ p : Fin 8, ∃ f : Fin 1024, ∃ first : Fin 256, ∃ s : State, (s.nglState p = 6 ∧ SMap.find s.fb.inRun p = none ∧ s.pw.owned = false) ∧ (s.flowActs f = true ∧ (s.ctx f).forwards = true ∧ (s.ctx f).rx.testBit p = true ∧ s.regionSafe 5 = false ∧ s.g F.FAB_ID_VALID = 1) ∧ (SMap.get zeroN s.fb.fwd (256 * f + first) ≠ SMap.get zeroN s.fb.mark p + 1)) ∧
    (∃ p : Fin 8, ∃ r : InRun, ∃ s : State, s.nglState p = 6 ∧ SMap.find s.fb.inRun p = some r) ∧
    (∃ p : Fin 8, ∃ s : State, s.nglState p ≠ 6) ∧
    (∃ p : Fin 8, ∃ r : InRun, ∃ ws : List Word, ∃ s : State, (SMap.find s.fb.inRun p = some r ∧ ws.length = r.words) ∧ (s.flowActs r.flow = true ∧ (s.ctx r.flow).localDst = true ∧ s.regionSafe 5 = false ∧ r.epoch = (s.ctx r.flow).epoch) ∧ ((s.ctx r.flow).rx.testBit p = true ∧ r.n = s.nSamp ∧ (r.first, r.count) ∈ s.runsOf (s.ctx r.flow).ch ∧ s.tick < r.tick + 1) ∧ (SMap.get zeroN s.fb.acc (accKey r.flow (r.tick % 2) r.first) = 0)) ∧
    (∃ p : Fin 8, ∃ r : InRun, ∃ ws : List Word, ∃ s : State, (SMap.find s.fb.inRun p = some r ∧ ws.length = r.words) ∧ (s.flowActs r.flow = true ∧ (s.ctx r.flow).localDst = true ∧ s.regionSafe 5 = false ∧ r.epoch = (s.ctx r.flow).epoch) ∧ ((s.ctx r.flow).rx.testBit p = true ∧ r.n = s.nSamp ∧ (r.first, r.count) ∈ s.runsOf (s.ctx r.flow).ch ∧ s.tick < r.tick + 1) ∧ (SMap.get zeroN s.fb.acc (accKey r.flow (r.tick % 2) r.first) ≠ 0)) ∧
    (∃ p : Fin 8, ∃ r : InRun, ∃ ws : List Word, ∃ s : State, (SMap.find s.fb.inRun p = some r ∧ ws.length = r.words) ∧ (s.flowActs r.flow = true ∧ (s.ctx r.flow).localDst = true ∧ s.regionSafe 5 = false ∧ r.epoch ≠ (s.ctx r.flow).epoch)) ∧
    (∃ p : Fin 8, ∃ r : InRun, ∃ ws : List Word, ∃ s : State, (SMap.find s.fb.inRun p = some r ∧ ws.length = r.words) ∧ (s.flowActs r.flow = true ∧ (s.ctx r.flow).localDst = true ∧ s.regionSafe 5 = false ∧ r.epoch = (s.ctx r.flow).epoch) ∧ ((s.ctx r.flow).rx.testBit p = false ∨ r.n ≠ s.nSamp ∨ (r.first, r.count) ∉ s.runsOf (s.ctx r.flow).ch ∨ r.tick + 1 ≤ s.tick)) ∧
    (∃ p : Fin 8, ∃ r : InRun, ∃ ws : List Word, ∃ s : State, (SMap.find s.fb.inRun p = some r ∧ ws.length = r.words) ∧ (¬(s.flowActs r.flow = true ∧ (s.ctx r.flow).localDst = true ∧ s.regionSafe 5 = false))) ∧
    (∃ p : Fin 8, ∃ r : InRun, ∃ ws : List Word, ∃ s : State, SMap.find s.fb.inRun p = some r ∧ ws.length = r.words) ∧
    (∃ p : Fin 8, ∃ r : InRun, ∃ ws : List Word, ∃ crc : Word, ∃ s : State, (SMap.find s.fb.inRun p = some r) ∧ (ws.length ≠ r.words ∨ (crc ≠ crc32 (r.head ++ ws) ∧ crc ≠ ~~~(crc32 (r.head ++ ws))))) ∧
    (∃ p : Fin 8, ∃ r : InRun, ∃ ws : List Word, ∃ crc : Word, ∃ s : State, (SMap.find s.fb.inRun p = some r) ∧ (ws.length ≠ r.words ∨ (crc ≠ crc32 (r.head ++ ws) ∧ crc ≠ ~~~(crc32 (r.head ++ ws))))) ∧
    (∃ p : Fin 8, ∃ r : InRun, ∃ s : State, SMap.find s.fb.inRun p = some r ∧ s.pw.owned = false) ∧
    (∃ p : Fin 8, ∃ s : State, SMap.find s.fb.inRun p = none) ∧
    (∃ f : Fin 1023, ∃ v : Word, ∃ s : State, (s.flowValid (f + 1) = false) ∧ ((s.wr (R.FAB_FLOW_W0 (f + 1)) ((v ||| 0x80000000#32) &&& 0xEFE001FF#32)).flowFails (f + 1) = none)) ∧
    (∃ f : Fin 1023, ∃ v : Word, ∃ r : Nat, ∃ s : State, (s.flowValid (f + 1) = false) ∧ ((s.wr (R.FAB_FLOW_W0 (f + 1)) ((v ||| 0x80000000#32) &&& 0xEFE001FF#32)).flowFails (f + 1) = some r)) ∧
    (∃ f : Fin 1023, ∃ v : Word, ∃ r : Nat, ∃ s : State, (s.flowValid (f + 1) = false) ∧ ((s.wr (R.FAB_FLOW_W0 (f + 1)) ((v ||| 0x80000000#32) &&& 0xEFE001FF#32)).flowFails (f + 1) = some r)) ∧
    (∃ f : Fin 1023, ∃ s : State, s.flowValid (f + 1) = true) ∧
    (∃ f : Fin 1023, ∃ s : State, s.flowValid (f + 1) = true) ∧
    (∃ f : Fin 1023, ∃ v : Word, ∃ s : State, (s.flowValid (f + 1) = true) ∧ (v &&& 0x6FE001FF#32 = putBits (s.rd (R.FAB_FLOW_W0 (f + 1))) 31 31 0)) ∧
    (∃ f : Fin 1023, ∃ v : Word, ∃ s : State, (s.flowValid (f + 1) = true) ∧ (v &&& 0x6FE001FF#32 ≠ putBits (s.rd (R.FAB_FLOW_W0 (f + 1))) 31 31 0)) ∧
    (∃ f : Fin 1023, ∃ s : State, s.flowValid (f + 1) = false) ∧
    (∃ f : Fin 1023, ∃ s : State, s.flowValid (f + 1) = false) :=
  ⟨⟨7, ((State.reset.flag F.TICK_STAT_RUNNING true).p (F.NGL_STAT_STATE 7) 6).flag F.FAB_ID_VALID true, by decide +kernel⟩,
   ⟨7, State.reset, by decide +kernel⟩,
   ⟨7, 0x32540#32, ((State.reset.p (F.NGL_STAT_STATE 7) 6).p F.TICK_CFG_FS_SEL 3).p F.TICK_CFG_N_LOG2 5, by decide +kernel⟩,
   ⟨7, 0x32540#32, State.reset.p (F.NGL_STAT_STATE 7) 6, by decide +kernel⟩,
   ⟨7, 0x32540#32, (State.reset.p (F.NGL_STAT_STATE 7) 6).flag F.CHIP_STRAP_ROLE true, by decide +kernel⟩,
   ⟨7, 0x32500#32, State.reset.p (F.NGL_STAT_STATE 7) 6, by decide +kernel⟩,
   ⟨7, 0x32580#32, State.reset.p (F.NGL_STAT_STATE 7) 6, by decide +kernel⟩,
   ⟨7, State.reset, by decide +kernel⟩,
   ⟨7, 1023, 0, State.reset.p (F.NGL_STAT_STATE 7) 6, by decide +kernel⟩,
   ⟨7, 1023, 0, (((((State.reset.p (F.NGL_STAT_STATE 7) 6).p (F.NGL_STAT_STATE 0) 6).flag (F.FAB_FLOW_W0_VALID 1023) true).p (F.FAB_FLOW_W1_TX_PORTS 1023) 3).p (F.FAB_FLOW_W1_RX_PORTS 1023) 128).flag F.FAB_ID_VALID true, by decide +kernel⟩,
   ⟨7, ⟨9, 0, 1, 32, 3, 1, 4⟩, (State.reset.p (F.NGL_STAT_STATE 7) 6).p (F.NGL_STAT_STATE 2) 6 |> fun u => { u with fb := { u.fb with inRun := SMap.insert [] 7 ⟨9, 0, 1, 32, 3, 1, 4⟩ } }, by decide +kernel⟩,
   ⟨7, State.reset, by decide +kernel⟩,
   ⟨7, ⟨9, 0, 1, 32, 3, 1, 0⟩, (List.range 32).map (fun i => BitVec.ofNat 32 (7 * i + 1)), ((((((State.reset.p F.TICK_CFG_N_LOG2 5).flag (F.FAB_FLOW_W0_VALID 9) true).flag (F.FAB_FLOW_W0_LOCAL_DST 9) true).p (F.FAB_FLOW_W0_CH_CNT 9) 1).p (F.FAB_FLOW_W0_EPOCH 9) 3).p (F.FAB_FLOW_W1_RX_PORTS 9) 128) |> fun u => { u with fb := { u.fb with inRun := SMap.insert [] 7 ⟨9, 0, 1, 32, 3, 1, 0⟩ } }, by decide +kernel⟩,
   ⟨7, ⟨9, 0, 1, 32, 3, 1, 0⟩, (List.range 32).map (fun i => BitVec.ofNat 32 (7 * i + 1)), ((((((State.reset.p F.TICK_CFG_N_LOG2 5).flag (F.FAB_FLOW_W0_VALID 9) true).flag (F.FAB_FLOW_W0_LOCAL_DST 9) true).p (F.FAB_FLOW_W0_CH_CNT 9) 1).p (F.FAB_FLOW_W0_EPOCH 9) 3).p (F.FAB_FLOW_W1_RX_PORTS 9) 128) |> fun u => { u with fb := { u.fb with inRun := SMap.insert [] 7 ⟨9, 0, 1, 32, 3, 1, 0⟩, acc := SMap.set zeroN [] (accKey 9 1 0) 1 } }, by decide +kernel⟩,
   ⟨7, ⟨9, 0, 1, 32, 3, 1, 0⟩, (List.range 32).map (fun i => BitVec.ofNat 32 (7 * i + 1)), ((((((State.reset.p F.TICK_CFG_N_LOG2 5).flag (F.FAB_FLOW_W0_VALID 9) true).flag (F.FAB_FLOW_W0_LOCAL_DST 9) true).p (F.FAB_FLOW_W0_CH_CNT 9) 1).p (F.FAB_FLOW_W0_EPOCH 9) 4).p (F.FAB_FLOW_W1_RX_PORTS 9) 128) |> fun u => { u with fb := { u.fb with inRun := SMap.insert [] 7 ⟨9, 0, 1, 32, 3, 1, 0⟩ } }, by decide +kernel⟩,
   ⟨7, ⟨9, 0, 1, 32, 3, 1, 0⟩, (List.range 32).map (fun i => BitVec.ofNat 32 (7 * i + 1)), ((((((State.reset.p F.TICK_CFG_N_LOG2 5).flag (F.FAB_FLOW_W0_VALID 9) true).flag (F.FAB_FLOW_W0_LOCAL_DST 9) true).p (F.FAB_FLOW_W0_CH_CNT 9) 1).p (F.FAB_FLOW_W0_EPOCH 9) 3).p (F.FAB_FLOW_W1_RX_PORTS 9) 64) |> fun u => { u with fb := { u.fb with inRun := SMap.insert [] 7 ⟨9, 0, 1, 32, 3, 1, 0⟩ } }, by decide +kernel⟩,
   ⟨7, ⟨9, 0, 1, 32, 3, 1, 0⟩, (List.range 32).map (fun i => BitVec.ofNat 32 (7 * i + 1)), { State.reset with fb := { Fab.reset with inRun := SMap.insert [] 7 ⟨9, 0, 1, 32, 3, 1, 0⟩ } }, by decide +kernel⟩,
   ⟨7, ⟨9, 0, 1, 32, 3, 1, 0⟩, List.replicate 32 5#32, { State.reset with fb := { Fab.reset with inRun := SMap.insert [] 7 ⟨9, 0, 1, 32, 3, 1, 0⟩ } }, by decide +kernel⟩,
   ⟨7, ⟨9, 0, 1, 32, 3, 1, 0⟩, List.replicate 32 5#32, 1#32, { State.reset.flag F.TICK_STAT_RUNNING true with fb := { Fab.reset with inRun := SMap.insert [] 7 ⟨9, 0, 1, 32, 3, 1, 0⟩ } }, by decide +kernel⟩,
   ⟨7, ⟨9, 0, 1, 32, 3, 1, 0⟩, [], 1#32, { State.reset with fb := { Fab.reset with inRun := SMap.insert [] 7 ⟨9, 0, 1, 32, 3, 1, 0⟩ } }, by decide +kernel⟩,
   ⟨7, ⟨9, 0, 1, 32, 3, 1, 5⟩, (State.reset.p (F.NGL_STAT_STATE 0) 6).p (F.NGL_STAT_STATE 2) 6 |> fun u => { u with fb := { u.fb with inRun := SMap.insert [] 7 ⟨9, 0, 1, 32, 3, 1, 5⟩ } }, by decide +kernel⟩,
   ⟨7, State.reset, by decide +kernel⟩,
   ⟨1022, 0x01800004#32, State.reset.p (F.FAB_FLOW_W1_TX_PORTS 1023) 128, by decide +kernel⟩,
   ⟨1022, 0x01000104#32, 0, State.reset.p (F.FAB_FLOW_W1_TX_PORTS 1023) 128, by decide +kernel⟩,
   ⟨0, 0x01000004#32, 1, State.reset, by decide +kernel⟩,
   ⟨1022, (State.reset.p (F.FAB_FLOW_W1_TX_PORTS 1023) 128).wr (R.FAB_FLOW_W0 1023) 0x81000004#32, by decide +kernel⟩,
   ⟨1022, (State.reset.p (F.FAB_FLOW_W1_TX_PORTS 1023) 128).wr (R.FAB_FLOW_W0 1023) 0x81000004#32, by decide +kernel⟩,
   ⟨1022, 0x01000004#32, (State.reset.p (F.FAB_FLOW_W1_TX_PORTS 1023) 128).wr (R.FAB_FLOW_W0 1023) 0x81000004#32, by decide +kernel⟩,
   ⟨1022, 0x01000005#32, (State.reset.p (F.FAB_FLOW_W1_TX_PORTS 1023) 128).wr (R.FAB_FLOW_W0 1023) 0x81000004#32, by decide +kernel⟩,
   ⟨1022, State.reset, by decide +kernel⟩,
   ⟨1022, State.reset, by decide +kernel⟩⟩

theorem test_hyps_LinksExchangeMessages :
    (∃ p : Fin 8, ∃ c : Fin 3, ∃ s : State, (s.nglState p = 6 ∧ c.val ≠ 0) ∧ (SMap.get noMsgs s.fb.txq (3 * p + c) = [])) ∧
    (∃ p : Fin 8, ∃ c : Fin 3, ∃ n : Nat, ∃ m : TxMsg, ∃ s : State, (s.nglState p = 6 ∧ c.val ≠ 0 ∧ (s.ngl p).quiet = false ∧ s.pw.owned = false) ∧ (SMap.get noMsgs s.fb.txq (3 * p + c) = [m] ∧ m.held = none ∧ m.frags ≤ min 255 (s.g (credField p c) + n))) ∧
    (∃ p : Fin 8, ∃ c : Fin 3, ∃ s : State, s.nglState p = 6 ∧ c.val ≠ 0 ∧ (s.ngl p).quiet = false) ∧
    (∃ p : Fin 8, ∃ c : Fin 3, ∃ s : State, s.nglState p = 6 ∧ c.val ≠ 0 ∧ (s.ngl p).quiet = true) ∧
    (∃ p : Fin 8, ∃ c : Fin 3, ∃ s : State, s.nglState p ≠ 6 ∨ c.val = 0) ∧
    (∃ p : Fin 8, ∃ q : Fin 8, ∃ e : Env, ∃ s : State, (s.nglState p = 6 ∧ s.g F.FAB_ID_VALID = 1 ∧ e.dst ≠ s.g F.FAB_ID_ID ∧ 1 ≤ e.type ∧ e.type ≤ 4 ∧ 0 < e.hops) ∧ (s.routeTo e.dst = some q.val ∧ s.regionSafe 5 = false ∧ s.expressFull p = false) ∧ (SMap.get noMsgs s.fb.txq (3 * q) = [] ∧ (s.ngl q).quiet = false ∧ s.pw.owned = false)) ∧
    (∃ p : Fin 8, ∃ q : Fin 8, ∃ e : Env, ∃ ws : List Word, ∃ s : State, (s.nglState p = 6 ∧ s.g F.FAB_ID_VALID = 1 ∧ e.dst ≠ s.g F.FAB_ID_ID ∧ 5 ≤ e.type ∧ e.type ≤ 9 ∧ 0 < e.hops) ∧ (s.routeTo e.dst = some q.val ∧ s.regionSafe 5 = false) ∧ (SMap.get noMsgs s.fb.txq (3 * q + msgClass e.type) = [] ∧ (s.ngl q).quiet = false ∧ s.pw.owned = false ∧ fragsOf ws ≤ s.g (credField q (msgClass e.type)))) ∧
    (∃ p : Fin 8, ∃ e : Env, ∃ s : State, s.nglState p = 6 ∧ s.g F.FAB_ID_VALID = 1 ∧ e.dst ≠ s.g F.FAB_ID_ID ∧ 1 ≤ e.type ∧ e.type ≤ 9 ∧ s.regionSafe 5 = false ∧ (e.type ≤ 4 → s.expressFull p = false)) ∧
    (∃ p : Fin 8, ∃ e : Env, ∃ s : State, s.nglState p = 6 ∧ s.g F.FAB_ID_VALID = 1 ∧ e.dst ≠ s.g F.FAB_ID_ID ∧ 1 ≤ e.type ∧ e.type ≤ 9 ∧ s.regionSafe 5 = false ∧ (e.type ≤ 4 → s.expressFull p = false)) ∧
    (∃ p : Fin 8, ∃ e : Env, ∃ s : State, (s.nglState p = 6 ∧ (s.g F.FAB_ID_VALID = 0 ∨ e.type = 0 ∨ 11 ≤ e.type)) ∧ (1 ≤ e.type ∧ e.type ≤ 4 → s.expressFull p = false)) ∧
    (∃ p : Fin 8, ∃ e : Env, ∃ s : State, (s.nglState p = 6 ∧ (s.g F.FAB_ID_VALID = 0 ∨ e.type = 0 ∨ 11 ≤ e.type)) ∧ (1 ≤ e.type ∧ e.type ≤ 4 → s.expressFull p = false)) ∧
    (∃ p : Fin 8, ∃ e : Env, ∃ s : State, (s.nglState p = 6 ∧ s.g F.FAB_ID_VALID = 1 ∧ 1 ≤ e.type ∧ e.type ≤ 10) ∧ (e.type = 10 ∨ e.dst = s.g F.FAB_ID_ID ∨ s.regionSafe 5 = true) ∧ (e.type ≤ 4 → s.expressFull p = false)) ∧
    (∃ p : Fin 8, ∃ e : Env, ∃ s : State, s.nglState p = 6 ∧ 1 ≤ e.type ∧ e.type ≤ 4 ∧ s.expressFull p = true) ∧
    (∃ p : Fin 8, ∃ s : State, s.nglState p = 6) ∧
    (∃ p : Fin 8, ∃ s : State, s.nglState p = 6) ∧
    (∃ p : Fin 8, ∃ s : State, s.nglState p = 6) ∧
    (∃ p : Fin 8, ∃ s : State, s.nglState p ≠ 6) ∧
    (∃ p : Fin 8, ∃ s : State, (s.nglState p = 6 ∧ s.g F.FAB_ID_VALID = 1 ∧ (s.ngl p).quiet = false ∧ s.pw.owned = false) ∧ (SMap.get noMsgs s.fb.txq (3 * p) = []) ∧ (s.g F.TICK_STAT_RUNNING = 0 ∨ (SMap.find s.fb.syncTick p).all (fun k => decide (k + 16 ≤ s.tick)) = true)) ∧
    (∃ p : Fin 8, ∃ s : State, s.nglState p ≠ 6 ∨ s.g F.FAB_ID_VALID = 0 ∨ (s.ngl p).quiet = true ∨ (s.g F.TICK_STAT_RUNNING = 1 ∧ (SMap.find s.fb.syncTick p).any (fun k => decide (s.tick < k + 16)) = true)) ∧
    (∃ p : Fin 8, ∃ e : Env, ∃ s : State, (s.arrives p e ∧ (s.ngl p).quiet = false ∧ s.pw.owned = false) ∧ (SMap.get noMsgs s.fb.txq (3 * p) = [])) ∧
    (∃ p : Fin 8, ∃ e : Env, ∃ w0 : Word, ∃ t1 : Nat, ∃ q : Nat, ∃ s : State, (s.arrives p e) ∧ (SMap.find s.fb.syncOut p = some (t1, q) ∧ bitsOf w0 15 8 = q)) ∧
    (∃ p : Fin 8, ∃ e : Env, ∃ ws : List Word, ∃ s : State, (s.arrives p e) ∧ ((SMap.find s.fb.syncOut p).all (fun x => bitsOf (ws.getD 0 0) 15 8 != x.2) = true)) ∧
    (∃ p : Fin 8, ∃ s : State, (s.nglState p = 5 ∧ s.pw.owned = false) ∧ (SMap.get noneB s.fb.ackIn p = false)) ∧
    (∃ p : Fin 8, ∃ w : Word, ∃ s : State, (s.nglState p = 5) ∧ (SMap.get noneB s.fb.ackIn p = true ∧ SMap.find s.fb.capIn p = some w)) ∧
    (∃ p : Fin 8, ∃ s : State, (s.nglState p = 6 ∧ s.pw.owned = false) ∧ (SMap.find s.fb.sent p ≠ some (s.capWords p))) ∧
    (∃ p : Fin 8, ∃ s : State, (s.nglState p ≠ 5 ∧ s.nglState p ≠ 6) ∨ (s.nglState p = 6 ∧ SMap.find s.fb.sent p = some (s.capWords p))) ∧
    (∃ p : Fin 8, ∃ w : Word, ∃ s : State, (s.nglState p = 5 ∧ (s.g F.FAB_ID_VALID = 1 ∨ w.getLsbD 15 = false ∨ bitsOf w 13 8 = 0)) ∧ (s.capFails w = 0)) ∧
    (∃ p : Fin 8, ∃ w : Word, ∃ s : State, (s.nglState p = 5 ∧ (s.g F.FAB_ID_VALID = 1 ∨ w.getLsbD 15 = false ∨ bitsOf w 13 8 = 0)) ∧ (s.capFails w = 0)) ∧
    (∃ p : Fin 8, ∃ w : Word, ∃ s : State, (s.nglState p = 5 ∧ (s.g F.FAB_ID_VALID = 1 ∨ w.getLsbD 15 = false ∨ bitsOf w 13 8 = 0)) ∧ (s.capFails w ≠ 0)) ∧
    (∃ p : Fin 8, ∃ w : Word, ∃ s : State, ((s.nglState p = 5 ∨ s.nglState p = 6) ∧ s.g F.FAB_ID_VALID = 0) ∧ (w.getLsbD 15 = true ∧ 1 ≤ bitsOf w 13 8)) ∧
    (∃ p : Fin 8, ∃ w : Word, ∃ s : State, s.nglState p = 6 ∧ (s.g F.FAB_ID_VALID = 1 ∨ w.getLsbD 15 = false ∨ bitsOf w 13 8 = 0)) ∧
    (∃ p : Fin 8, ∃ s : State, s.nglState p = 5 ∨ s.nglState p = 6) ∧
    (∃ p : Fin 8, ∃ s : State, s.nglState p ≠ 5 ∧ s.nglState p ≠ 6) ∧
    (∃ v : Word, ∃ s : State, s.g F.CHIP_STRAP_ROLE = 0 ∧ s.g F.FAB_ID_VALID = 0 ∧ bitsOf v 5 0 ≠ 0) ∧
    (∃ v : Word, ∃ s : State, s.g F.CHIP_STRAP_ROLE = 1 ∨ s.g F.FAB_ID_VALID = 1 ∨ bitsOf v 5 0 = 0) :=
  ⟨⟨7, 2, State.reset.p (F.NGL_STAT_STATE 7) 6, by decide +kernel⟩,
   ⟨7, 1, 3, ⟨⟨5, 1, 6, 0, 0, false, false, 14⟩, [1#32], 2, none⟩, { State.reset.p (F.NGL_STAT_STATE 7) 6 with fb := { Fab.reset with txq := SMap.set noMsgs [] 22 [⟨⟨5, 1, 6, 0, 0, false, false, 14⟩, [1#32], 2, none⟩] } }, by decide +kernel⟩,
   ⟨7, 1, { State.reset.p (F.NGL_STAT_STATE 7) 6 with fb := { Fab.reset with txq := SMap.set noMsgs [] 22 [⟨⟨5, 1, 6, 0, 0, false, false, 14⟩, [1#32], 4, none⟩] } }, by decide +kernel⟩,
   ⟨7, 1, (State.reset.p (F.NGL_STAT_STATE 7) 6).setNgl 7 { Ngl.reset with quiet := true }, by decide +kernel⟩,
   ⟨7, 1, State.reset, by decide +kernel⟩,
   ⟨7, 2, ⟨9, 1, 4, 0, 0, false, false, 1⟩, ((((State.reset.p (F.NGL_STAT_STATE 7) 6).p (F.NGL_STAT_STATE 2) 6).flag F.FAB_ID_VALID true).flag (F.FAB_ROUTE_PRI_EN 9) true).p (F.FAB_ROUTE_PRI 9) 2, by decide +kernel⟩,
   ⟨7, 2, ⟨9, 1, 6, 0, 0, false, false, 1⟩, [1#32], ((((State.reset.p (F.NGL_STAT_STATE 7) 6).p (F.NGL_STAT_STATE 2) 6).flag F.FAB_ID_VALID true).flag (F.FAB_ROUTE_PRI_EN 9) true).p (F.FAB_ROUTE_PRI 9) 2 |> fun u => u.p (F.FAB_PORT_CRED_CTRL 2) 4, by decide +kernel⟩,
   ⟨7, ⟨9, 1, 4, 0, 0, false, false, 0⟩, (State.reset.p (F.NGL_STAT_STATE 7) 6).flag F.FAB_ID_VALID true, by decide +kernel⟩,
   ⟨7, ⟨9, 1, 7, 0, 0, false, false, 3⟩, (State.reset.p (F.NGL_STAT_STATE 7) 6).flag F.FAB_ID_VALID true, by decide +kernel⟩,
   ⟨7, ⟨9, 1, 4, 0, 0, false, false, 3⟩, State.reset.p (F.NGL_STAT_STATE 7) 6, by decide +kernel⟩,
   ⟨7, ⟨9, 1, 11, 0, 0, false, false, 3⟩, (State.reset.p (F.NGL_STAT_STATE 7) 6).flag F.FAB_ID_VALID true, by decide +kernel⟩,
   ⟨7, ⟨9, 1, 10, 0, 0, false, false, 3⟩, (State.reset.p (F.NGL_STAT_STATE 7) 6).flag F.FAB_ID_VALID true, by decide +kernel⟩,
   ⟨7, ⟨9, 1, 4, 0, 0, false, false, 3⟩, { State.reset.p (F.NGL_STAT_STATE 7) 6 with fb := { Fab.reset with txq := SMap.set noMsgs [] 3 (List.replicate 32 ⟨⟨5, 1, 6, 0, 0, false, false, 14⟩, [1#32], 4, some 7⟩) } }, by decide +kernel⟩,
   ⟨7, (State.reset.p (F.NGL_STAT_STATE 7) 6).flag F.TICK_STAT_RUNNING true, by decide +kernel⟩,
   ⟨7, State.reset.p (F.NGL_STAT_STATE 7) 6, by decide +kernel⟩,
   ⟨7, State.reset.p (F.NGL_STAT_STATE 7) 6, by decide +kernel⟩,
   ⟨7, State.reset, by decide +kernel⟩,
   ⟨7, (State.reset.p (F.NGL_STAT_STATE 7) 6).flag F.FAB_ID_VALID true, by decide +kernel⟩,
   ⟨7, State.reset, by decide +kernel⟩,
   ⟨7, ⟨5, 1, 4, 0, 0, false, false, 14⟩, ((State.reset.p (F.NGL_STAT_STATE 7) 6).flag F.FAB_ID_VALID true).p F.FAB_ID_ID 5, by decide +kernel⟩,
   ⟨7, ⟨5, 1, 4, 0, 0, true, false, 14⟩, 0x701#32, 700, 7, ((State.reset.p (F.NGL_STAT_STATE 7) 6).flag F.FAB_ID_VALID true).p F.FAB_ID_ID 5 |> fun u => { u with fb := { u.fb with syncOut := SMap.insert [] 7 (700, 7) } }, by decide +kernel⟩,
   ⟨7, ⟨5, 1, 4, 0, 0, true, false, 14⟩, [0x701#32], ((State.reset.p (F.NGL_STAT_STATE 7) 6).flag F.FAB_ID_VALID true).p F.FAB_ID_ID 5, by decide +kernel⟩,
   ⟨7, State.reset.p (F.NGL_STAT_STATE 7) 5, by decide +kernel⟩,
   ⟨7, 0xD3040000#32, { State.reset.p (F.NGL_STAT_STATE 7) 5 with fb := { Fab.reset with ackIn := SMap.set noneB [] 7 true, capIn := SMap.insert [] 7 0xD3040000#32 } }, by decide +kernel⟩,
   ⟨7, State.reset.p (F.NGL_STAT_STATE 7) 6, by decide +kernel⟩,
   ⟨7, State.reset, by decide +kernel⟩,
   ⟨7, 0xC0040000#32, ({ State.reset.p (F.NGL_STAT_STATE 7) 5 with fb := { Fab.reset with ackOut := SMap.set noneB [] 7 true } } : State).flag F.FAB_ID_VALID true, by decide +kernel⟩,
   ⟨7, 0x40040000#32, State.reset.p (F.NGL_STAT_STATE 7) 5, by decide +kernel⟩,
   ⟨7, 0xC0000000#32, (State.reset.p (F.NGL_STAT_STATE 7) 5).flag F.FAB_ID_VALID true, by decide +kernel⟩,
   ⟨7, 0x6000BF00#32, State.reset.p (F.NGL_STAT_STATE 7) 5, by decide +kernel⟩,
   ⟨7, 0xC2040000#32, (State.reset.p (F.NGL_STAT_STATE 7) 6).flag F.FAB_ID_VALID true, by decide +kernel⟩,
   ⟨7, State.reset.p (F.NGL_STAT_STATE 7) 5, by decide +kernel⟩,
   ⟨7, State.reset, by decide +kernel⟩,
   ⟨63#32, State.reset, by decide +kernel⟩,
   ⟨64#32, State.reset, by decide +kernel⟩⟩

theorem test_hyps_RemoteAccessCrossesTheFabric :
    (∃ p : Fin 8, ∃ q : Fin 8, ∃ e : Env, ∃ a : Word, ∃ n : Word, ∃ s : State, (s.nglState p = 6 ∧ s.g F.FAB_ID_VALID = 1 ∧ e.dst = s.g F.FAB_ID_ID) ∧ (1 ≤ bitsOf n 10 0 ∧ bitsOf n 10 0 ≤ 1022 ∧ a.toNat % 4 = 0 ∧ s.freeBus) ∧ (∀ i : Fin 1022, i < bitsOf n 10 0 → (memOf (a.toNat + 4 * i)).any (fun m => !m.1.isProg && s.eccAt (a.toNat + 4 * i) == 0 && !s.inRet (bankOf m.1 m.2)) = true) ∧ (s.routeTo e.src = some q.val ∧ (s.ngl q).quiet = false ∧ SMap.get noMsgs s.fb.txq (3 * q + 1) = [] ∧ fragsOf (List.replicate (bitsOf n 10 0 + 1) 0) ≤ s.g (F.FAB_PORT_CRED_CTRL q) ∧ s.pw.owned = false)) ∧
    (∃ p : Fin 8, ∃ q : Fin 8, ∃ e : Env, ∃ a : Word, ∃ n : Word, ∃ vs : List Word, ∃ s : State, (s.nglState p = 6 ∧ s.g F.FAB_ID_VALID = 1 ∧ e.dst = s.g F.FAB_ID_ID) ∧ (1 ≤ bitsOf n 10 0 ∧ bitsOf n 10 0 ≤ 1022 ∧ vs.length = bitsOf n 10 0 ∧ a.toNat % 4 = 0 ∧ s.freeBus) ∧ (∀ i : Fin 1022, i < bitsOf n 10 0 → (memOf (a.toNat + 4 * i)).any (fun m => !m.1.isProg) = true) ∧ (s.routeTo e.src = some q.val ∧ (s.ngl q).quiet = false ∧ SMap.get noMsgs s.fb.txq (3 * q + 1) = [] ∧ 1 ≤ s.g (F.FAB_PORT_CRED_CTRL q) ∧ s.pw.owned = false)) ∧
    (∃ p : Fin 8, ∃ q : Fin 8, ∃ e : Env, ∃ n : Word, ∃ s : State, (s.nglState p = 6 ∧ s.g F.FAB_ID_VALID = 1 ∧ e.dst = s.g F.FAB_ID_ID ∧ (bitsOf n 10 0 = 0 ∨ 1022 < bitsOf n 10 0)) ∧ (s.routeTo e.src = some q.val ∧ (s.ngl q).quiet = false ∧ SMap.get noMsgs s.fb.txq (3 * q + 1) = [] ∧ 1 ≤ s.g (F.FAB_PORT_CRED_CTRL q) ∧ s.pw.owned = false)) ∧
    (∃ p : Fin 8, ∃ q : Fin 8, ∃ e : Env, ∃ n : Word, ∃ s : State, (s.nglState p = 6 ∧ s.g F.FAB_ID_VALID = 1 ∧ e.dst = s.g F.FAB_ID_ID ∧ (bitsOf n 10 0 = 0 ∨ 1022 < bitsOf n 10 0)) ∧ (s.routeTo e.src = some q.val ∧ (s.ngl q).quiet = false ∧ SMap.get noMsgs s.fb.txq (3 * q + 1) = [] ∧ 1 ≤ s.g (F.FAB_PORT_CRED_CTRL q) ∧ s.pw.owned = false)) ∧
    (∃ p : Fin 8, ∃ q : Fin 8, ∃ e : Env, ∃ n : Word, ∃ vs : List Word, ∃ s : State, (s.nglState p = 6 ∧ s.g F.FAB_ID_VALID = 1 ∧ e.dst = s.g F.FAB_ID_ID ∧ s.freeBus) ∧ (bitsOf n 10 0 = 0 ∨ 1022 < bitsOf n 10 0 ∨ vs.length ≠ bitsOf n 10 0) ∧ (s.routeTo e.src = some q.val ∧ (s.ngl q).quiet = false ∧ SMap.get noMsgs s.fb.txq (3 * q + 1) = [] ∧ 1 ≤ s.g (F.FAB_PORT_CRED_CTRL q) ∧ s.pw.owned = false)) ∧
    (∃ p : Fin 8, ∃ q : Fin 8, ∃ e : Env, ∃ a : Word, ∃ n : Word, ∃ s : State, (s.nglState p = 6 ∧ s.g F.FAB_ID_VALID = 1 ∧ e.dst = s.g F.FAB_ID_ID ∧ s.freeBus) ∧ (a.toNat % 4 ≠ 0 ∧ 1 ≤ bitsOf n 10 0 ∧ bitsOf n 10 0 ≤ 1022) ∧ (s.routeTo e.src = some q.val ∧ (s.ngl q).quiet = false ∧ SMap.get noMsgs s.fb.txq (3 * q + 1) = [] ∧ 1 ≤ s.g (F.FAB_PORT_CRED_CTRL q) ∧ s.pw.owned = false)) ∧
    (∃ p : Fin 8, ∃ q : Fin 8, ∃ e : Env, ∃ a : Word, ∃ n : Word, ∃ vs : List Word, ∃ s : State, (s.nglState p = 6 ∧ s.g F.FAB_ID_VALID = 1 ∧ e.dst = s.g F.FAB_ID_ID ∧ s.freeBus) ∧ (a.toNat % 4 ≠ 0 ∧ 1 ≤ bitsOf n 10 0 ∧ bitsOf n 10 0 ≤ 1022 ∧ vs.length = bitsOf n 10 0) ∧ (s.routeTo e.src = some q.val ∧ (s.ngl q).quiet = false ∧ SMap.get noMsgs s.fb.txq (3 * q + 1) = [] ∧ 1 ≤ s.g (F.FAB_PORT_CRED_CTRL q) ∧ s.pw.owned = false)) ∧
    (∃ p : Fin 8, ∃ q : Fin 8, ∃ e : Env, ∃ a : Word, ∃ b : Word, ∃ n : Word, ∃ vs : List Word, ∃ s : State, (s.nglState p = 6 ∧ s.g F.FAB_ID_VALID = 1 ∧ e.dst = s.g F.FAB_ID_ID) ∧ (s.tunnelServes e.src (bitsOf n 10 0) [a, b, n] = true ∧ vs.length = bitsOf n 10 0) ∧ (s.routeTo e.src = some q.val ∧ (s.ngl q).quiet = false ∧ SMap.get noMsgs s.fb.txq (3 * q + 1) = [] ∧ fragsOf (0 :: vs) ≤ s.g (F.FAB_PORT_CRED_CTRL q) ∧ s.pw.owned = false)) ∧
    (∃ p : Fin 8, ∃ q : Fin 8, ∃ e : Env, ∃ a : Word, ∃ b : Word, ∃ n : Word, ∃ host : Option (List Word), ∃ s : State, (s.nglState p = 6 ∧ s.g F.FAB_ID_VALID = 1 ∧ e.dst = s.g F.FAB_ID_ID) ∧ (s.tunnelServes e.src (bitsOf n 10 0) [a, b, n] = false ∨ (host.all (fun vs => vs.length != bitsOf n 10 0)) = true) ∧ (s.routeTo e.src = some q.val ∧ (s.ngl q).quiet = false ∧ SMap.get noMsgs s.fb.txq (3 * q + 1) = [] ∧ 1 ≤ s.g (F.FAB_PORT_CRED_CTRL q) ∧ s.pw.owned = false)) ∧
    (∃ p : Fin 8, ∃ q : Fin 8, ∃ e : Env, ∃ a : Word, ∃ b : Word, ∃ n : Word, ∃ vs : List Word, ∃ s : State, (s.nglState p = 6 ∧ s.g F.FAB_ID_VALID = 1 ∧ e.dst = s.g F.FAB_ID_ID) ∧ (s.tunnelServes e.src (bitsOf n 10 0) (a :: b :: n :: vs) = true ∧ vs.length = bitsOf n 10 0) ∧ (s.routeTo e.src = some q.val ∧ (s.ngl q).quiet = false ∧ SMap.get noMsgs s.fb.txq (3 * q + 1) = [] ∧ 1 ≤ s.g (F.FAB_PORT_CRED_CTRL q) ∧ s.pw.owned = false)) ∧
    (∃ p : Fin 8, ∃ q : Fin 8, ∃ e : Env, ∃ a : Word, ∃ b : Word, ∃ n : Word, ∃ vs : List Word, ∃ s : State, (s.nglState p = 6 ∧ s.g F.FAB_ID_VALID = 1 ∧ e.dst = s.g F.FAB_ID_ID) ∧ (s.tunnelServes e.src (bitsOf n 10 0) (a :: b :: n :: vs) = false ∨ vs.length ≠ bitsOf n 10 0) ∧ (s.routeTo e.src = some q.val ∧ (s.ngl q).quiet = false ∧ SMap.get noMsgs s.fb.txq (3 * q + 1) = [] ∧ 1 ≤ s.g (F.FAB_PORT_CRED_CTRL q) ∧ s.pw.owned = false)) ∧
    (∃ e : Env, ∃ s : State, (s.g F.FAB_ID_VALID = 0 ∨ e.dst ≠ s.g F.FAB_ID_ID) ∧ (s.freeBus)) ∧
    (∃ p : Fin 8, ∃ e : Env, ∃ r : Request, ∃ rest : List Request, ∃ s : State, (s.nglState p = 6 ∧ s.g F.FAB_ID_VALID = 1 ∧ e.dst = s.g F.FAB_ID_ID ∧ e.tunnel = false) ∧ (takeReq (!e.tunnel) e.tag s.fb.reqs = some (r, rest) ∧ r.epoch = e.epoch)) ∧
    (∃ p : Fin 8, ∃ e : Env, ∃ r : Request, ∃ rest : List Request, ∃ s : State, (s.nglState p = 6 ∧ s.g F.FAB_ID_VALID = 1 ∧ e.dst = s.g F.FAB_ID_ID ∧ e.tunnel = true) ∧ (takeReq (!e.tunnel) e.tag s.fb.reqs = some (r, rest) ∧ r.epoch = e.epoch)) ∧
    (∃ p : Fin 8, ∃ e : Env, ∃ r : Request, ∃ rest : List Request, ∃ s : State, (s.nglState p = 6 ∧ s.g F.FAB_ID_VALID = 1 ∧ e.dst = s.g F.FAB_ID_ID) ∧ (takeReq (!e.tunnel) e.tag s.fb.reqs = some (r, rest) ∧ r.epoch ≠ e.epoch)) ∧
    (∃ p : Fin 8, ∃ e : Env, ∃ s : State, (s.nglState p = 6 ∧ s.g F.FAB_ID_VALID = 1 ∧ e.dst = s.g F.FAB_ID_ID) ∧ (takeReq (!e.tunnel) e.tag s.fb.reqs = none)) ∧
    (∃ p : Fin 8, ∃ e : Env, ∃ ws : List Word, ∃ s : State, s.nglState p = 6 ∧ s.g F.FAB_ID_VALID = 1 ∧ e.dst = s.g F.FAB_ID_ID ∧ ws.length = 8) ∧
    (∃ p : Fin 8, ∃ e : Env, ∃ ws : List Word, ∃ s : State, s.nglState p = 6 ∧ s.g F.FAB_ID_VALID = 1 ∧ e.dst = s.g F.FAB_ID_ID ∧ ws.length ≠ 9) ∧
    (∃ p : Fin 8, ∃ e : Env, ∃ s : State, s.nglState p = 6 ∧ s.g F.FAB_ID_VALID = 1 ∧ e.dst = s.g F.FAB_ID_ID ∧ s.g F.CHIP_STRAP_ROLE = 1) ∧
    (∃ p : Fin 8, ∃ e : Env, ∃ s : State, s.nglState p = 6 ∧ s.g F.FAB_ID_VALID = 1 ∧ e.dst = s.g F.FAB_ID_ID ∧ s.g F.CHIP_STRAP_ROLE = 1) ∧
    (∃ p : Fin 8, ∃ e : Env, ∃ s : State, s.nglState p = 6 ∧ s.g F.FAB_ID_VALID = 1 ∧ e.dst = s.g F.FAB_ID_ID ∧ s.g F.CHIP_STRAP_ROLE = 0) ∧
    (∃ q : Fin 8, ∃ v : Word, ∃ s : State, (s.g F.FAB_RA_CTL_BUSY = 0 ∧ s.g F.FAB_ID_VALID = 1) ∧ (s.routeTo (F.FAB_RA_CTL_DEV.of v) = some q.val ∧ (s.ngl q).quiet = false ∧ SMap.get noMsgs s.fb.txq (3 * q + 1) = [] ∧ 1 ≤ s.g (F.FAB_PORT_CRED_CTRL q) ∧ s.pw.owned = false)) ∧
    (∃ q : Fin 8, ∃ v : Word, ∃ s : State, (s.g F.FAB_RA_CTL_BUSY = 0 ∧ s.g F.FAB_ID_VALID = 1) ∧ (s.routeTo (F.FAB_RA_CTL_DEV.of v) = some q.val ∧ (s.ngl q).quiet = false ∧ SMap.get noMsgs s.fb.txq (3 * q + 1) = [] ∧ 1 ≤ s.g (F.FAB_PORT_CRED_CTRL q) ∧ s.pw.owned = false)) ∧
    (∃ v : Word, ∃ s : State, s.g F.FAB_RA_CTL_BUSY = 0 ∧ (s.g F.FAB_ID_VALID = 0 ∨ s.routeTo (F.FAB_RA_CTL_DEV.of v) = none)) ∧
    (∃ s : State, s.g F.FAB_RA_CTL_BUSY = 1) ∧
    (∃ j : Nat, ∃ r : Request, ∃ s : State, s.fb.reqs[j]? = some r ∧ r.core = true) ∧
    (∃ j : Nat, ∃ r : Request, ∃ s : State, s.fb.reqs[j]? = some r ∧ r.core = false) ∧
    (∃ j : Nat, ∃ s : State, s.fb.reqs[j]? = none) :=
  ⟨⟨7, 2, ⟨0, 9, 6, 3, 5, false, false, 1⟩, 0x40#32, 2#32, ((((((State.reset.p (F.NGL_STAT_STATE 7) 6).p (F.NGL_STAT_STATE 2) 6).flag F.FAB_ID_VALID true).flag (F.FAB_ROUTE_PRI_EN 9) true).p (F.FAB_ROUTE_PRI 9) 2).p (F.FAB_PORT_CRED_CTRL 2) 4).setByte 0x45 7, by decide +kernel⟩,
   ⟨7, 2, ⟨0, 9, 7, 3, 5, false, false, 1⟩, 0x40#32, 2#32, [0x12345678#32, 9#32], (((((State.reset.p (F.NGL_STAT_STATE 7) 6).p (F.NGL_STAT_STATE 2) 6).flag F.FAB_ID_VALID true).flag (F.FAB_ROUTE_PRI_EN 9) true).p (F.FAB_ROUTE_PRI 9) 2).p (F.FAB_PORT_CRED_CTRL 2) 4, by decide +kernel⟩,
   ⟨7, 2, ⟨0, 9, 6, 3, 5, false, false, 1⟩, 0#32, (((((State.reset.p (F.NGL_STAT_STATE 7) 6).p (F.NGL_STAT_STATE 2) 6).flag F.FAB_ID_VALID true).flag (F.FAB_ROUTE_PRI_EN 9) true).p (F.FAB_ROUTE_PRI 9) 2).p (F.FAB_PORT_CRED_CTRL 2) 4, by decide +kernel⟩,
   ⟨7, 2, ⟨0, 9, 6, 3, 5, false, false, 1⟩, 1023#32, (((((State.reset.p (F.NGL_STAT_STATE 7) 6).p (F.NGL_STAT_STATE 2) 6).flag F.FAB_ID_VALID true).flag (F.FAB_ROUTE_PRI_EN 9) true).p (F.FAB_ROUTE_PRI 9) 2).p (F.FAB_PORT_CRED_CTRL 2) 4, by decide +kernel⟩,
   ⟨7, 2, ⟨0, 9, 7, 3, 5, false, false, 1⟩, 1#32, [1#32, 2#32], (((((State.reset.p (F.NGL_STAT_STATE 7) 6).p (F.NGL_STAT_STATE 2) 6).flag F.FAB_ID_VALID true).flag (F.FAB_ROUTE_PRI_EN 9) true).p (F.FAB_ROUTE_PRI 9) 2).p (F.FAB_PORT_CRED_CTRL 2) 4, by decide +kernel⟩,
   ⟨7, 2, ⟨0, 9, 6, 3, 5, false, false, 1⟩, 0x42#32, 1#32, (((((State.reset.p (F.NGL_STAT_STATE 7) 6).p (F.NGL_STAT_STATE 2) 6).flag F.FAB_ID_VALID true).flag (F.FAB_ROUTE_PRI_EN 9) true).p (F.FAB_ROUTE_PRI 9) 2).p (F.FAB_PORT_CRED_CTRL 2) 4, by decide +kernel⟩,
   ⟨7, 2, ⟨0, 9, 7, 3, 5, false, false, 1⟩, 0x42#32, 1#32, [5#32], (((((State.reset.p (F.NGL_STAT_STATE 7) 6).p (F.NGL_STAT_STATE 2) 6).flag F.FAB_ID_VALID true).flag (F.FAB_ROUTE_PRI_EN 9) true).p (F.FAB_ROUTE_PRI 9) 2).p (F.FAB_PORT_CRED_CTRL 2) 4, by decide +kernel⟩,
   ⟨7, 2, ⟨0, 9, 6, 3, 5, false, true, 1⟩, 0x40#32, 1#32, 2#32, [7#32, 8#32], ((((((State.reset.p (F.NGL_STAT_STATE 7) 6).p (F.NGL_STAT_STATE 2) 6).flag F.FAB_ID_VALID true).flag (F.FAB_ROUTE_PRI_EN 9) true).p (F.FAB_ROUTE_PRI 9) 2).p (F.FAB_PORT_CRED_CTRL 2) 4).flag F.CHIP_STRAP_ROLE true |> fun u => (u.flag F.HOST_STAT_LINK_UP true).wr R.HOST_TUNNEL_EN_LO 0x200#32, by decide +kernel⟩,
   ⟨7, 2, ⟨0, 9, 6, 3, 5, false, true, 1⟩, 0x40#32, 1#32, 2#32, some [7#32, 8#32], ((((((State.reset.p (F.NGL_STAT_STATE 7) 6).p (F.NGL_STAT_STATE 2) 6).flag F.FAB_ID_VALID true).flag (F.FAB_ROUTE_PRI_EN 9) true).p (F.FAB_ROUTE_PRI 9) 2).p (F.FAB_PORT_CRED_CTRL 2) 4).flag F.CHIP_STRAP_ROLE true, by decide +kernel⟩,
   ⟨7, 2, ⟨0, 9, 7, 3, 5, false, true, 1⟩, 0x40#32, 1#32, 2#32, [7#32, 8#32], ((((((State.reset.p (F.NGL_STAT_STATE 7) 6).p (F.NGL_STAT_STATE 2) 6).flag F.FAB_ID_VALID true).flag (F.FAB_ROUTE_PRI_EN 9) true).p (F.FAB_ROUTE_PRI 9) 2).p (F.FAB_PORT_CRED_CTRL 2) 4).flag F.CHIP_STRAP_ROLE true |> fun u => (u.flag F.HOST_STAT_LINK_UP true).wr R.HOST_TUNNEL_EN_LO 0x200#32, by decide +kernel⟩,
   ⟨7, 2, ⟨0, 9, 7, 3, 5, false, true, 1⟩, 0x40#32, 1#32, 3#32, [7#32, 8#32], (((((((State.reset.p (F.NGL_STAT_STATE 7) 6).p (F.NGL_STAT_STATE 2) 6).flag F.FAB_ID_VALID true).flag (F.FAB_ROUTE_PRI_EN 9) true).p (F.FAB_ROUTE_PRI 9) 2).p (F.FAB_PORT_CRED_CTRL 2) 4).flag F.CHIP_STRAP_ROLE true |> fun u => (u.flag F.HOST_STAT_LINK_UP true).wr R.HOST_TUNNEL_EN_LO 0x200#32), by decide +kernel⟩,
   ⟨⟨5, 9, 7, 3, 5, false, false, 1⟩, (((((State.reset.p (F.NGL_STAT_STATE 7) 6).p (F.NGL_STAT_STATE 2) 6).flag F.FAB_ID_VALID true).flag (F.FAB_ROUTE_PRI_EN 9) true).p (F.FAB_ROUTE_PRI 9) 2).p (F.FAB_PORT_CRED_CTRL 2) 4, by decide +kernel⟩,
   ⟨7, ⟨5, 9, 6, 15, 0, true, false, 1⟩, ⟨0, 15, true, false, 9⟩, [⟨0, 3, false, true, 9⟩], { ((State.reset.p (F.NGL_STAT_STATE 7) 6).flag F.FAB_ID_VALID true).p F.FAB_ID_ID 5 with fb := { Fab.reset with reqs := [⟨0, 3, false, true, 9⟩, ⟨0, 15, true, false, 9⟩] } }, by decide +kernel⟩,
   ⟨7, ⟨5, 9, 6, 15, 0, true, true, 1⟩, ⟨0, 15, false, true, 9⟩, [], { ((State.reset.p (F.NGL_STAT_STATE 7) 6).flag F.FAB_ID_VALID true).p F.FAB_ID_ID 5 with fb := { Fab.reset with reqs := [⟨0, 15, false, true, 9⟩] } }, by decide +kernel⟩,
   ⟨7, ⟨5, 9, 6, 15, 0, true, false, 1⟩, ⟨0, 14, true, false, 9⟩, [], { ((State.reset.p (F.NGL_STAT_STATE 7) 6).flag F.FAB_ID_VALID true).p F.FAB_ID_ID 5 with fb := { Fab.reset with reqs := [⟨0, 14, true, false, 9⟩] } }, by decide +kernel⟩,
   ⟨7, ⟨5, 9, 6, 15, 0, true, false, 1⟩, { ((State.reset.p (F.NGL_STAT_STATE 7) 6).flag F.FAB_ID_VALID true).p F.FAB_ID_ID 5 with fb := { Fab.reset with reqs := [] } }, by decide +kernel⟩,
   ⟨7, ⟨5, 0, 8, 0, 0, false, false, 1⟩, [1#32, 2#32, 3#32, 4#32, 5#32, 6#32, 7#32, 8#32], ((State.reset.p (F.NGL_STAT_STATE 7) 6).flag F.FAB_ID_VALID true).p F.FAB_ID_ID 5, by decide +kernel⟩,
   ⟨7, ⟨5, 0, 8, 0, 0, false, false, 1⟩, [1#32], ((State.reset.p (F.NGL_STAT_STATE 7) 6).flag F.FAB_ID_VALID true).p F.FAB_ID_ID 5, by decide +kernel⟩,
   ⟨7, ⟨0, 9, 9, 0, 0, false, false, 1⟩, ((State.reset.p (F.NGL_STAT_STATE 7) 6).flag F.FAB_ID_VALID true).flag F.CHIP_STRAP_ROLE true, by decide +kernel⟩,
   ⟨7, ⟨0, 9, 9, 0, 0, false, false, 1⟩, ((((State.reset.p (F.NGL_STAT_STATE 7) 6).flag F.FAB_ID_VALID true).flag F.CHIP_STRAP_ROLE true).flag F.HOST_STAT_LINK_UP true).flag F.HOST_EQ_CFG_EN true |> fun u => u.p F.HOST_EQ_CFG_SIZE 16, by decide +kernel⟩,
   ⟨7, ⟨5, 0, 8, 0, 0, false, false, 1⟩, ((State.reset.p (F.NGL_STAT_STATE 7) 6).flag F.FAB_ID_VALID true).p F.FAB_ID_ID 5, by decide +kernel⟩,
   ⟨2, 9#32, (((((State.reset.p (F.NGL_STAT_STATE 7) 6).p (F.NGL_STAT_STATE 2) 6).flag F.FAB_ID_VALID true).flag (F.FAB_ROUTE_PRI_EN 9) true).p (F.FAB_ROUTE_PRI 9) 2).p (F.FAB_PORT_CRED_CTRL 2) 4, by decide +kernel⟩,
   ⟨2, putBits 9#32 F.FAB_RA_CTL_WRITE.hi F.FAB_RA_CTL_WRITE.lo 1, (((((State.reset.p (F.NGL_STAT_STATE 7) 6).p (F.NGL_STAT_STATE 2) 6).flag F.FAB_ID_VALID true).flag (F.FAB_ROUTE_PRI_EN 9) true).p (F.FAB_ROUTE_PRI 9) 2).p (F.FAB_PORT_CRED_CTRL 2) 4, by decide +kernel⟩,
   ⟨9#32, State.reset, by decide +kernel⟩,
   ⟨State.reset.flag F.FAB_RA_CTL_BUSY true, by decide +kernel⟩,
   ⟨0, ⟨0, 14, true, false, 9⟩, { State.reset.flag F.FAB_RA_CTL_BUSY true with fb := { Fab.reset with reqs := [⟨0, 14, true, false, 9⟩] } }, by decide +kernel⟩,
   ⟨0, ⟨0, 14, false, true, 9⟩, { State.reset with fb := { Fab.reset with reqs := [⟨0, 14, false, true, 9⟩] } }, by decide +kernel⟩,
   ⟨0, State.reset, by decide +kernel⟩⟩

theorem test_hyps_PortsStartStopAndFollowTheirMasks :
    (∃ n : Fin 24, ∃ v : Word, ∃ s : State, s.sapStartRefused n = false ∧ v.getLsbD 1 = false ∧ v.getLsbD 8 = false) ∧
    (∃ n : Fin 24, ∃ v : Word, ∃ s : State, s.sapStartRefused n = false ∧ v.getLsbD 1 = false ∧ v.getLsbD 8 = false) ∧
    (∃ n : Fin 24, ∃ v : Word, ∃ s : State, s.sapStartRefused n = true ∨ v.getLsbD 8 = true) ∧
    (∃ n : Fin 24, ∃ v : Word, ∃ s : State, s.sapStartRefused n = true ∨ v.getLsbD 8 = true) ∧
    (∃ n : Fin 24, ∃ v : Word, ∃ s : State, s.sapStartRefused n = false ∧ v.getLsbD 1 = true ∧ v.getLsbD 8 = false) ∧
    (∃ n : Fin 24, ∃ v : Word, ∃ s : State, (s.sapState n = 1 ∨ s.sapState n = 4 ∨ s.sapState n = 5) ∧ (v.getLsbD 0 = false ∧ v.getLsbD 8 = false)) ∧
    (∃ n : Fin 24, ∃ v : Word, ∃ s : State, (s.sapState n = 2) ∧ (v.getLsbD 0 = false ∧ v.getLsbD 8 = false)) ∧
    (∃ n : Fin 24, ∃ v : Word, ∃ s : State, (s.sapState n = 0 ∨ s.sapState n = 3) ∧ (v.getLsbD 0 = false ∧ v.getLsbD 8 = false)) ∧
    (∃ v : Word, v.getLsbD 0 = true ∨ v.getLsbD 8 = true) ∧
    (∃ n : Fin 24, ∃ v : Word, ∃ s : State, (s.sapState n = 4) ∧ (v.getLsbD 0 = false ∧ v.getLsbD 1 = false)) ∧
    (∃ n : Fin 24, ∃ v : Word, ∃ s : State, (s.sapState n = 5 ∧ (s.sap n).lastClass = s.g F.TICK_CFG_FS_SEL + 1) ∧ (v.getLsbD 0 = false ∧ v.getLsbD 1 = false)) ∧
    (∃ n : Fin 24, ∃ v : Word, ∃ s : State, (s.sapState n = 5 ∧ (s.sap n).lastClass = s.g F.TICK_CFG_FS_SEL + 1) ∧ (v.getLsbD 0 = false ∧ v.getLsbD 1 = false)) ∧
    (∃ n : Fin 24, ∃ v : Word, ∃ s : State, (s.sapState n = 4 ∨ (s.sapState n = 5 ∧ (s.sap n).lastClass = s.g F.TICK_CFG_FS_SEL + 1)) ∧ v.getLsbD 0 = false ∧ v.getLsbD 1 = true) ∧
    (∃ n : Fin 24, ∃ v : Word, ∃ s : State, ¬(s.sapState n = 4 ∨ (s.sapState n = 5 ∧ (s.sap n).lastClass = s.g F.TICK_CFG_FS_SEL + 1)) ∨ v.getLsbD 0 = true) ∧
    (∃ n : Fin 24, ∃ v : Word, ∃ s : State, (s.farLive n = true) ∧ (s.g (F.SAP_TEL_TEL n) &&& (65535 - bitsOf v 15 0) = 0)) ∧
    (∃ n : Fin 24, ∃ v : Word, ∃ s : State, (s.farLive n = true) ∧ (s.g (F.SAP_TEL_TEL n) &&& (65535 - bitsOf v 15 0) ≠ 0)) ∧
    (∃ n : Fin 24, ∃ s : State, s.farLive n = false) ∧
    (∃ n : Fin 24, ∃ s : State, s.sapState n ≠ 0 ∧ s.sapState n ≠ 3) ∧
    (∃ n : Fin 24, ∃ s : State, s.sapState n ≠ 0 ∧ s.sapState n ≠ 3) ∧
    (∃ n : Fin 24, ∃ s : State, s.sapState n = 0 ∨ s.sapState n = 3) ∧
    (∃ n : Fin 24, ∃ k : Fin 16, ∃ s : State, (s.txGate n k).search = true) ∧
    (∃ n : Fin 24, ∃ k : Fin 16, ∃ s : State, (s.txGate n k).search = false) ∧
    (∃ n : Fin 24, ∃ s : State, s.sapState n = 3) ∧
    (∃ n : Fin 24, ∃ s : State, s.sapState n ≠ 3) :=
  ⟨⟨23, 0#32, (State.reset.flag (F.SAP_CFG_MASTER 23) true).flag F.TICK_STAT_RUNNING true, by decide +kernel⟩,
   ⟨23, 0#32, State.reset.flag (F.SAP_CFG_MASTER 23) true, by decide +kernel⟩,
   ⟨23, 0#32, State.reset.p (F.SAP_STAT_STATE 23) 2, by decide +kernel⟩,
   ⟨23, 0x100#32, State.reset, by decide +kernel⟩,
   ⟨23, 2#32, State.reset, by decide +kernel⟩,
   ⟨23, 0#32, State.reset.p (F.SAP_STAT_STATE 23) 5, by decide +kernel⟩,
   ⟨23, 0#32, (State.reset.p (F.SAP_STAT_STATE 23) 2).setGate 23 15 (TxGate.closed.command true true), by decide +kernel⟩,
   ⟨23, 0#32, State.reset.p (F.SAP_STAT_STATE 23) 3, by decide +kernel⟩,
   ⟨1#32, by decide +kernel⟩,
   ⟨23, 0#32, State.reset.p (F.SAP_STAT_STATE 23) 4, by decide +kernel⟩,
   ⟨23, 0#32, ((State.reset.p (F.SAP_STAT_STATE 23) 5).setSap 23 { Sap.reset with lastClass := 2, okWindows := 2 }).p F.TICK_CFG_FS_SEL 1, by decide +kernel⟩,
   ⟨23, 0#32, ((State.reset.p (F.SAP_STAT_STATE 23) 5).setSap 23 { Sap.reset with lastClass := 2, okWindows := 1 }).p F.TICK_CFG_FS_SEL 1, by decide +kernel⟩,
   ⟨23, 2#32, State.reset.p (F.SAP_STAT_STATE 23) 4, by decide +kernel⟩,
   ⟨23, 0#32, State.reset.p (F.SAP_STAT_STATE 23) 3, by decide +kernel⟩,
   ⟨23, 0xFFFF#32, (State.reset.flag (F.SAP_STAT_CLOCK_PRESENT 23) true).flag (F.SAP_STAT_READY 23) true, by decide +kernel⟩,
   ⟨23, 0x7FFF#32, ((State.reset.flag (F.SAP_STAT_CLOCK_PRESENT 23) true).flag (F.SAP_STAT_READY 23) true).p (F.SAP_TEL_TEL 23) 0x8000, by decide +kernel⟩,
   ⟨23, State.reset.flag (F.SAP_STAT_CLOCK_PRESENT 23) true, by decide +kernel⟩,
   ⟨23, ((State.reset.p (F.SAP_STAT_STATE 23) 2).wr (R.SAP_MUTE 23) 0).setGate 23 15 (TxGate.closed.command true true), by decide +kernel⟩,
   ⟨23, ((State.reset.p (F.SAP_STAT_STATE 23) 2).wr (R.SAP_MUTE 23) 0).setGate 23 15 (TxGate.closed.command true true), by decide +kernel⟩,
   ⟨0, State.reset, by decide +kernel⟩,
   ⟨23, 15, State.reset.setGate 23 15 (TxGate.closed.command true false), by decide +kernel⟩,
   ⟨23, 15, State.reset, by decide +kernel⟩,
   ⟨23, State.reset.p (F.SAP_STAT_STATE 23) 3, by decide +kernel⟩,
   ⟨23, State.reset, by decide +kernel⟩⟩

theorem test_hyps_PortsReceiveFramesAndClockTrouble :
    (∃ n : Fin 24, ∃ ph : BitVec 8, ∃ s : State, (s.sapState n = 1) ∧ ((s.sap n).first.all (fun f => decide (f ≤ (if s.sapMaster n = false ∧ ph.toInt < 0 then s.tm.mtc.toNat + 1 else s.tm.mtc.toNat))) = true)) ∧
    (∃ n : Fin 24, ∃ ph : BitVec 8, ∃ s : State, (s.sapState n = 1) ∧ ((s.sap n).first.all (fun f => decide (f ≤ (if s.sapMaster n = false ∧ ph.toInt < 0 then s.tm.mtc.toNat + 1 else s.tm.mtc.toNat))) = true)) ∧
    (∃ n : Fin 24, ∃ ph : BitVec 8, ∃ s : State, (s.sapState n = 1) ∧ ((s.sap n).first.any (fun f => decide ((if s.sapMaster n = false ∧ ph.toInt < 0 then s.tm.mtc.toNat + 1 else s.tm.mtc.toNat) < f)) = true)) ∧
    (∃ n : Fin 24, ∃ ph : BitVec 8, ∃ early : Bool, ∃ s : State, s.sapState n = 2 ∧ s.sapSlips n (if s.sapMaster n = false ∧ ph.toInt < 0 then s.tm.mtc.toNat + 1 else s.tm.mtc.toNat) (early && !s.sapMaster n) = false) ∧
    (∃ n : Fin 24, ∃ ph : BitVec 8, ∃ early : Bool, ∃ s : State, s.sapState n = 2 ∧ s.sapSlips n (if s.sapMaster n = false ∧ ph.toInt < 0 then s.tm.mtc.toNat + 1 else s.tm.mtc.toNat) (early && !s.sapMaster n) = false) ∧
    (∃ n : Fin 24, ∃ ph : BitVec 8, ∃ early : Bool, ∃ s : State, s.sapState n = 3 ∧ s.sapSlips n (if s.sapMaster n = false ∧ ph.toInt < 0 then s.tm.mtc.toNat + 1 else s.tm.mtc.toNat) (early && !s.sapMaster n) = false) ∧
    (∃ n : Fin 24, ∃ ph : BitVec 8, ∃ early : Bool, ∃ s : State, s.sapState n = 3 ∧ s.sapSlips n (if s.sapMaster n = false ∧ ph.toInt < 0 then s.tm.mtc.toNat + 1 else s.tm.mtc.toNat) (early && !s.sapMaster n) = false) ∧
    (∃ n : Fin 24, ∃ ph : BitVec 8, ∃ early : Bool, ∃ s : State, s.sapSlips n (if s.sapMaster n = false ∧ ph.toInt < 0 then s.tm.mtc.toNat + 1 else s.tm.mtc.toNat) (early && !s.sapMaster n) = true) ∧
    (∃ n : Fin 24, ∃ ph : BitVec 8, ∃ early : Bool, ∃ s : State, s.sapSlips n (if s.sapMaster n = false ∧ ph.toInt < 0 then s.tm.mtc.toNat + 1 else s.tm.mtc.toNat) (early && !s.sapMaster n) = true) ∧
    (∃ n : Fin 24, ∃ s : State, (s.sapState n = 4 ∧ (s.sap n).aligned = false) ∧ (s.g (F.SAP_CTL_AUTO_RESTART n) = 1 ∨ (s.sap n).permit = true)) ∧
    (∃ n : Fin 24, ∃ s : State, s.sapState n = 4 ∧ (s.sap n).aligned = false ∧ s.g (F.SAP_CTL_AUTO_RESTART n) = 0 ∧ (s.sap n).permit = false) ∧
    (∃ n : Fin 24, ∃ ph : BitVec 8, ∃ early : Bool, ∃ s : State, s.sapState n = 4 ∧ (s.sap n).aligned = true ∧ s.sapPlaced n (if s.sapMaster n = false ∧ ph.toInt < 0 then s.tm.mtc.toNat + 1 else s.tm.mtc.toNat) (early && !s.sapMaster n) = true) ∧
    (∃ n : Fin 24, ∃ ph : BitVec 8, ∃ early : Bool, ∃ s : State, s.sapState n = 4 ∧ (s.sap n).aligned = true ∧ s.sapPlaced n (if s.sapMaster n = false ∧ ph.toInt < 0 then s.tm.mtc.toNat + 1 else s.tm.mtc.toNat) (early && !s.sapMaster n) = false) ∧
    (∃ n : Fin 24, ∃ s : State, s.sapState n = 0 ∨ s.sapState n = 5) ∧
    (∃ n : Fin 24, ∃ s : State, s.sapState n = 0 ∨ s.sapState n = 5) ∧
    (∃ n : Fin 24, ∃ s : State, s.sapMaster n = false ∧ (s.sapState n = 2 ∨ s.sapState n = 3)) ∧
    (∃ n : Fin 24, ∃ s : State, s.sapMaster n = false ∧ s.sapState n = 4 ∧ (s.sap n).aligned = true) ∧
    (∃ n : Fin 24, ∃ s : State, s.sapMaster n = true ∨ s.sapState n < 2 ∨ 4 < s.sapState n ∨ (s.sapState n = 4 ∧ (s.sap n).aligned = false)) ∧
    (∃ n : Fin 24, ∃ s : State, 2 ≤ s.sapState n ∧ s.sapMaster n = false ∧ s.g (F.SAP_STAT_CLK_LOST n) = 0) ∧
    (∃ n : Fin 24, ∃ s : State, 2 ≤ s.sapState n ∧ s.sapMaster n = false ∧ s.g (F.SAP_STAT_CLK_LOST n) = 0) ∧
    (∃ n : Fin 24, ∃ s : State, s.sapState n < 2 ∨ s.sapMaster n = true ∨ s.g (F.SAP_STAT_CLK_LOST n) = 1) ∧
    (∃ n : Fin 24, ∃ hz : Fin 262144, ∃ s : State, ((s.sapState n = 2 ∨ s.sapState n = 4) ∧ s.sapMaster n = false) ∧ (rateClass hz = s.g F.TICK_CFG_FS_SEL + 1)) ∧
    (∃ n : Fin 24, ∃ hz : Fin 262144, ∃ s : State, (s.sapState n = 5 ∧ s.sapMaster n = false) ∧ (rateClass hz = s.g F.TICK_CFG_FS_SEL + 1)) ∧
    (∃ n : Fin 24, ∃ hz : Fin 262144, ∃ s : State, ((s.sapState n = 2 ∨ s.sapState n = 4 ∨ s.sapState n = 5) ∧ s.sapMaster n = false) ∧ (rateClass hz ≠ s.g F.TICK_CFG_FS_SEL + 1)) ∧
    (∃ n : Fin 24, ∃ s : State, s.sapMaster n = true ∨ (s.sapState n ≠ 2 ∧ s.sapState n ≠ 4 ∧ s.sapState n ≠ 5)) :=
  ⟨⟨23, 3#8, { ((State.reset.p (F.SAP_STAT_STATE 23) 1).wr (R.SAP_MASK_ACTIVE 23) 3#32).setSap 23 { Sap.reset with first := some 40 } with tm := { TimeUnit.reset with mtc := 40 } }, by decide +kernel⟩,
   ⟨23, 3#8, { ((State.reset.p (F.SAP_STAT_STATE 23) 1).wr (R.SAP_MASK_ACTIVE 23) 3#32).setSap 23 { Sap.reset with first := none } with tm := { TimeUnit.reset with mtc := 40 } }, by decide +kernel⟩,
   ⟨23, 3#8, { ((State.reset.p (F.SAP_STAT_STATE 23) 1).wr (R.SAP_MASK_ACTIVE 23) 3#32).setSap 23 { Sap.reset with first := some 41 } with tm := { TimeUnit.reset with mtc := 40 } }, by decide +kernel⟩,
   ⟨23, 3#8, false, { (((State.reset.flag (F.SAP_STAT_READY 23) true).p (F.SAP_STAT_STATE 23) 2).wr (R.SAP_MASK_ACTIVE 23) 3#32).setSap 23 { Sap.reset with frame := some 39 } with tm := { TimeUnit.reset with mtc := 40 } }, by decide +kernel⟩,
   ⟨23, 3#8, true, { (((State.reset.flag (F.SAP_CFG_MASTER 23) true).p (F.SAP_STAT_STATE 23) 2).wr (R.SAP_MASK_ACTIVE 23) 3#32).setSap 23 { Sap.reset with frame := some 39 } with tm := { TimeUnit.reset with mtc := 40 } }, by decide +kernel⟩,
   ⟨23, 3#8, false, { ((State.reset.p (F.SAP_STAT_STATE 23) 3).wr (R.SAP_MASK_ACTIVE 23) 3#32).setSap 23 { Sap.reset with frame := some 39 } with tm := { TimeUnit.reset with mtc := 40 } }, by decide +kernel⟩,
   ⟨23, 3#8, false, { ((State.reset.p (F.SAP_STAT_STATE 23) 3).wr (R.SAP_MASK_ACTIVE 23) 3#32).setSap 23 { Sap.reset with frame := some 39 } with tm := { TimeUnit.reset with mtc := 40 } } |> fun u => u.setGate 23 0 (TxGate.closed.command true true), by decide +kernel⟩,
   ⟨23, 3#8, false, { ((State.reset.p (F.SAP_STAT_STATE 23) 2).wr (R.SAP_MASK_ACTIVE 23) 3#32).setSap 23 { Sap.reset with frame := some 38 } with tm := { TimeUnit.reset with mtc := 40 } }, by decide +kernel⟩,
   ⟨23, 3#8, true, { ((State.reset.p (F.SAP_STAT_STATE 23) 3).wr (R.SAP_MASK_ACTIVE 23) 3#32).setSap 23 { Sap.reset with frame := some 39 } with tm := { TimeUnit.reset with mtc := 40 } }, by decide +kernel⟩,
   ⟨23, { ((State.reset.p (F.SAP_STAT_STATE 23) 4).wr (R.SAP_MASK_ACTIVE 23) 3#32).setSap 23 { Sap.reset with permit := true } with tm := { TimeUnit.reset with mtc := 40 } }, by decide +kernel⟩,
   ⟨23, { (((State.reset.p (F.SAP_CTL_AUTO_RESTART 23) 0).p (F.SAP_STAT_STATE 23) 4).wr (R.SAP_MASK_ACTIVE 23) 3#32).setSap 23 { Sap.reset with permit := false } with tm := { TimeUnit.reset with mtc := 40 } }, by decide +kernel⟩,
   ⟨23, 3#8, false, { ((State.reset.p (F.SAP_STAT_STATE 23) 4).wr (R.SAP_MASK_ACTIVE 23) 3#32).setSap 23 { Sap.reset with aligned := true, frame := some 39 } with tm := { TimeUnit.reset with mtc := 40 } }, by decide +kernel⟩,
   ⟨23, 3#8, false, { ((State.reset.p (F.SAP_STAT_STATE 23) 4).wr (R.SAP_MASK_ACTIVE 23) 3#32).setSap 23 { Sap.reset with aligned := true, frame := some 38 } with tm := { TimeUnit.reset with mtc := 40 } }, by decide +kernel⟩,
   ⟨23, { ((State.reset.p (F.SAP_STAT_STATE 23) 5).wr (R.SAP_MASK_ACTIVE 23) 3#32).setSap 23 { Sap.reset with frame := some 39 } with tm := { TimeUnit.reset with mtc := 40 } }, by decide +kernel⟩,
   ⟨23, { ((State.reset.p (F.SAP_STAT_STATE 23) 0).wr (R.SAP_MASK_ACTIVE 23) 3#32).setSap 23 { Sap.reset with maskHold := true } with tm := { TimeUnit.reset with mtc := 40 } }, by decide +kernel⟩,
   ⟨23, State.reset.p (F.SAP_STAT_STATE 23) 2, by decide +kernel⟩,
   ⟨23, (State.reset.p (F.SAP_STAT_STATE 23) 4).setSap 23 { Sap.reset with aligned := true }, by decide +kernel⟩,
   ⟨23, State.reset, by decide +kernel⟩,
   ⟨23, State.reset.p (F.SAP_STAT_STATE 23) 2, by decide +kernel⟩,
   ⟨23, State.reset.p (F.SAP_STAT_STATE 23) 3, by decide +kernel⟩,
   ⟨23, State.reset, by decide +kernel⟩,
   ⟨23, 48010, (State.reset.p (F.SAP_STAT_STATE 23) 2).p F.TICK_CFG_FS_SEL 1, by decide +kernel⟩,
   ⟨23, 48010, ((State.reset.p (F.SAP_STAT_STATE 23) 5).p F.TICK_CFG_FS_SEL 1).setSap 23 { Sap.reset with okWindows := 1, permit := true }, by decide +kernel⟩,
   ⟨23, 44100, (State.reset.p (F.SAP_STAT_STATE 23) 2).p F.TICK_CFG_FS_SEL 1, by decide +kernel⟩,
   ⟨23, State.reset, by decide +kernel⟩⟩

theorem test_hyps_PtpCounterRunsStepsAndIsRead :
    (∃ v : Word, 0x3FF00000 ≤ v.toNat ∧ v.toNat ≤ 0x40100000) ∧
    (∃ v : Word, v.toNat < 0x3FF00000 ∨ 0x40100000 < v.toNat) ∧
    (∃ s : State, s.g F.PTP_CTL_GM_OK = 1) ∧
    (∃ s : State, s.g F.PTP_CTL_GM_OK = 0) ∧
    (∃ s : State, s.g F.PTP_CTL_GM_OK = 1 ∧ s.g F.PTP_CTL_WDOG_MS ≠ 0) ∧
    (∃ s : State, s.g F.PTP_CTL_GM_OK = 0 ∨ s.g F.PTP_CTL_WDOG_MS = 0) ∧
    (∃ edges : Nat, ∃ lag : Fin 17, ∃ x : Nat, ∃ s : State, x = ((if s.pw.held || s.pw.dormant then s.tm.ptp else (if s.pw.held || s.pw.dormant then s.tm.ptp else (s.tm.ptp + edges * s.g F.PTP_RATE_V) % ptpRange)) + ptpRange - lag * s.g F.PTP_RATE_V) % ptpRange) ∧
    (∃ n : Fin 8, ∃ v : Word, ∃ edges : Nat, ∃ s : State, (s.schedState true n ≠ 1 ∧ (if s.pw.held || s.pw.dormant then s.tm.ptp else (s.tm.ptp + edges * s.g F.PTP_RATE_V) % ptpRange) < s.writtenTgt true n) ∧ (1 ≤ bitsOf v 27 24 ∧ bitsOf v 27 24 ≤ 5 ∧ argSuits (bitsOf v 27 24) (bitsOf v 15 0) = true) ∧ (s.schedTwice true n (bitsOf v 27 24) (bitsOf v 15 0) (s.writtenTgt true n) = false)) ∧
    (∃ n : Fin 8, ∃ v : Word, ∃ edges : Nat, ∃ s : State, (s.schedState true n ≠ 1) ∧ (s.writtenTgt true n ≤ (if s.pw.held || s.pw.dormant then s.tm.ptp else (s.tm.ptp + edges * s.g F.PTP_RATE_V) % ptpRange) ∨ bitsOf v 27 24 = 0 ∨ 6 ≤ bitsOf v 27 24 ∨ argSuits (bitsOf v 27 24) (bitsOf v 15 0) = false ∨ s.schedTwice true n (bitsOf v 27 24) (bitsOf v 15 0) (s.writtenTgt true n) = true)) ∧
    (∃ n : Fin 8, ∃ v : Word, ∃ edges : Nat, ∃ s : State, (s.schedState true n ≠ 1) ∧ (s.writtenTgt true n ≤ (if s.pw.held || s.pw.dormant then s.tm.ptp else (s.tm.ptp + edges * s.g F.PTP_RATE_V) % ptpRange) ∨ bitsOf v 27 24 = 0 ∨ 6 ≤ bitsOf v 27 24 ∨ argSuits (bitsOf v 27 24) (bitsOf v 15 0) = false ∨ s.schedTwice true n (bitsOf v 27 24) (bitsOf v 15 0) (s.writtenTgt true n) = true)) ∧
    (∃ n : Fin 8, ∃ s : State, s.schedState true n = 1) ∧
    (∃ i : Fin 4, ∃ rising : Bool, ∃ edges : Nat, ∃ x : Nat, ∃ s : State, ((s.g (F.EVT_CFG_EDGE i)).testBit (if rising then 0 else 1) = true ∧ (s.rd (R.EVT_MTC_LO i)).getLsbD 31 = false) ∧ (x = (if s.pw.held || s.pw.dormant then s.tm.ptp else (s.tm.ptp + edges * s.g F.PTP_RATE_V) % ptpRange))) ∧
    (∃ i : Fin 4, ∃ rising : Bool, ∃ close : Bool, ∃ s : State, ((s.g (F.EVT_CFG_EDGE i)).testBit (if rising then 0 else 1) = true) ∧ (close = true ∨ (s.rd (R.EVT_MTC_LO i)).getLsbD 31 = true)) ∧
    (∃ i : Fin 4, ∃ rising : Bool, ∃ s : State, (s.g (F.EVT_CFG_EDGE i)).testBit (if rising then 0 else 1) = false) :=
  ⟨⟨0x40100000#32, by decide +kernel⟩,
   ⟨0x40100001#32, by decide +kernel⟩,
   ⟨(State.reset.flag F.PTP_CTL_GM_OK true).flag (F.CLK_REF_STAT_PRESENT 4) true, by decide +kernel⟩,
   ⟨State.reset, by decide +kernel⟩,
   ⟨(State.reset.flag F.PTP_CTL_GM_OK true).p F.PTP_CTL_WDOG_MS 9, by decide +kernel⟩,
   ⟨State.reset, by decide +kernel⟩,
   ⟨1000, 16, 984 * 0x40000000, State.reset.wr R.PTP_RATE 0x40000000#32, by decide +kernel⟩,
   ⟨7, 0x03000005#32, 1000, State.reset.wr (R.PTP_TRIG_S_LO 7) 5#32, by decide +kernel⟩,
   ⟨7, 0x03000005#32, 0, State.reset, by decide +kernel⟩,
   ⟨7, 0x06000005#32, 0, State.reset.wr (R.PTP_TRIG_S_LO 7) 5#32, by decide +kernel⟩,
   ⟨7, State.reset.wr (R.PTP_TRIG_ACT 7) 0x23000001#32, by decide +kernel⟩,
   ⟨3, false, 7, 7 * 0x40000000, ({ State.reset with tm := { TimeUnit.reset with mtc := 0x123456789 } } : State).p (F.EVT_CFG_EDGE 3) 2 |> fun u => u.wr R.PTP_RATE 0x40000000#32, by decide +kernel⟩,
   ⟨3, true, false, (State.reset.p (F.EVT_CFG_EDGE 3) 1).wr (R.EVT_MTC_LO 3) 0x80000000#32, by decide +kernel⟩,
   ⟨3, true, State.reset.p (F.EVT_CFG_EDGE 3) 2, by decide +kernel⟩⟩

theorem test_hyps_EthernetPortsSendAndReceive :
    (∃ p : Fin 2, ∃ bs : List Byte, ∃ fcsOk : Bool, ∃ s : State, (s.g (F.ETH_CTL_EN p) = 1 ∧ s.ethUp p = true ∧ s.g (F.ETH_STAT_READY p) = 1 ∧ bs ≠ []) ∧ (bs.length + 4 ≤ s.ethMax p bs ∧ (64 ≤ bs.length + 4 → fcsOk = false))) ∧
    (∃ p : Fin 2, ∃ bs : List Byte, ∃ fcsOk : Bool, ∃ s : State, (s.g (F.ETH_CTL_EN p) = 1 ∧ s.ethUp p = true ∧ s.g (F.ETH_STAT_READY p) = 1 ∧ bs ≠ []) ∧ (bs.length + 4 ≤ s.ethMax p bs ∧ (64 ≤ bs.length + 4 → fcsOk = false))) ∧
    (∃ p : Fin 2, ∃ bs : List Byte, ∃ s : State, (s.g (F.ETH_CTL_EN p) = 1 ∧ s.ethUp p = true ∧ s.g (F.ETH_STAT_READY p) = 1 ∧ 64 ≤ bs.length + 4 ∧ bs.length + 4 ≤ s.ethMax p bs) ∧ (ethType bs = 0x8808 ∨ s.vlanDrops p bs = true)) ∧
    (∃ p : Fin 2, ∃ bs : List Byte, ∃ s : State, (s.g (F.ETH_CTL_EN p) = 1 ∧ s.ethUp p = true ∧ s.g (F.ETH_STAT_READY p) = 1 ∧ 64 ≤ bs.length + 4 ∧ bs.length + 4 ≤ s.ethMax p bs) ∧ (ethType bs = 0x8808 ∨ s.vlanDrops p bs = true)) ∧
    (∃ p : Fin 2, ∃ bs : List Byte, ∃ s : State, s.g (F.ETH_CTL_EN p) = 1 ∧ s.ethUp p = true ∧ s.g (F.ETH_STAT_READY p) = 1 ∧ s.ethMax p bs < bs.length + 4 ∧ s.g (F.ETH_CTL_OVERSIZE_KEEP p) = 0) ∧
    (∃ p : Fin 2, ∃ bs : List Byte, ∃ r : Nat, ∃ i : Nat, ∃ size : Nat, ∃ line : List Byte, ∃ b : Nat, ∃ s : State, (s.g (F.ETH_CTL_EN p) = 1 ∧ s.ethUp p = true ∧ s.g (F.ETH_STAT_READY p) = 1 ∧ 64 ≤ bs.length + 4 ∧ bs.length + 4 ≤ s.ethMax p bs) ∧ (ethType bs ≠ 0x8808 ∧ s.vlanDrops p bs = false ∧ s.brMatch p bs = none) ∧ (s.rxRing p bs = r ∧ s.g (F.ETH_RXR_HEAD_HEAD p r) = i ∧ s.g (F.ETH_RXR_CFG_SIZE p r) = size ∧ i < size) ∧ (s.g (F.ETH_RXR_TAIL_TAIL p r) ≠ i ∧ s.g (F.ETH_RXR_TAIL_TAIL p r) < size) ∧ ((16 * s.g (F.ETH_RXR_BASE_BASE p r) + 16 * i) + 16 ≤ 0x100000 ∧ s.freeBus ∧ s.mx.ecc = []) ∧ (line = (if (s.on (F.ETH_CTL_TAG_STRIP p) && ethTagged bs) then bs.take 12 ++ bs.drop 16 else bs) ∧ line.length ≤ s.g (F.ETH_RXR_CFG_BUFSZ p r)) ∧ (b = (s.word (16 * s.g (F.ETH_RXR_BASE_BASE p r) + 16 * i)).toNat - (s.word (16 * s.g (F.ETH_RXR_BASE_BASE p r) + 16 * i)).toNat % 64 ∧ b + line.length ≤ 0x100000 ∧ (b + line.length ≤ (16 * s.g (F.ETH_RXR_BASE_BASE p r) + 16 * i) ∨ (16 * s.g (F.ETH_RXR_BASE_BASE p r) + 16 * i) + 16 ≤ b))) ∧
    (∃ p : Fin 2, ∃ bs : List Byte, ∃ r : Nat, ∃ i : Nat, ∃ size : Nat, ∃ line : List Byte, ∃ b : Nat, ∃ s : State, (s.g (F.ETH_CTL_EN p) = 1 ∧ s.ethUp p = true ∧ s.g (F.ETH_STAT_READY p) = 1 ∧ 64 ≤ bs.length + 4 ∧ bs.length + 4 ≤ s.ethMax p bs) ∧ (ethType bs ≠ 0x8808 ∧ s.vlanDrops p bs = false ∧ s.brMatch p bs = none) ∧ (s.rxRing p bs = r ∧ s.g (F.ETH_RXR_HEAD_HEAD p r) = i ∧ s.g (F.ETH_RXR_CFG_SIZE p r) = size ∧ i < size) ∧ (s.g (F.ETH_RXR_TAIL_TAIL p r) ≠ i ∧ s.g (F.ETH_RXR_TAIL_TAIL p r) < size) ∧ ((16 * s.g (F.ETH_RXR_BASE_BASE p r) + 16 * i) + 16 ≤ 0x100000 ∧ s.freeBus ∧ s.mx.ecc = []) ∧ (line = (if (s.on (F.ETH_CTL_TAG_STRIP p) && ethTagged bs) then bs.take 12 ++ bs.drop 16 else bs) ∧ line.length ≤ s.g (F.ETH_RXR_CFG_BUFSZ p r)) ∧ (b = (s.word (16 * s.g (F.ETH_RXR_BASE_BASE p r) + 16 * i)).toNat - (s.word (16 * s.g (F.ETH_RXR_BASE_BASE p r) + 16 * i)).toNat % 64 ∧ b + line.length ≤ 0x100000 ∧ (b + line.length ≤ (16 * s.g (F.ETH_RXR_BASE_BASE p r) + 16 * i) ∨ (16 * s.g (F.ETH_RXR_BASE_BASE p r) + 16 * i) + 16 ≤ b))) ∧
    (∃ p : Fin 2, ∃ bs : List Byte, ∃ r : Nat, ∃ i : Nat, ∃ size : Nat, ∃ line : List Byte, ∃ b : Nat, ∃ s : State, (s.g (F.ETH_CTL_EN p) = 1 ∧ s.ethUp p = true ∧ s.g (F.ETH_STAT_READY p) = 1 ∧ s.ethMax p bs < bs.length + 4 ∧ s.g (F.ETH_CTL_OVERSIZE_KEEP p) = 1) ∧ (s.rxRing p (bs.take (s.ethMax p bs - 4)) = r ∧ s.g (F.ETH_RXR_HEAD_HEAD p r) = i ∧ s.g (F.ETH_RXR_CFG_SIZE p r) = size ∧ i < size) ∧ (s.g (F.ETH_RXR_TAIL_TAIL p r) ≠ i ∧ s.g (F.ETH_RXR_TAIL_TAIL p r) < size) ∧ ((16 * s.g (F.ETH_RXR_BASE_BASE p r) + 16 * i) + 16 ≤ 0x100000 ∧ s.freeBus ∧ s.mx.ecc = []) ∧ (line = (if (s.on (F.ETH_CTL_TAG_STRIP p) && ethTagged bs) then bs.take 12 ++ (bs.take (s.ethMax p bs - 4)).drop 16 else bs.take (s.ethMax p bs - 4)) ∧ line.length ≤ s.g (F.ETH_RXR_CFG_BUFSZ p r)) ∧ (b = (s.word (16 * s.g (F.ETH_RXR_BASE_BASE p r) + 16 * i)).toNat - (s.word (16 * s.g (F.ETH_RXR_BASE_BASE p r) + 16 * i)).toNat % 64 ∧ b + line.length ≤ 0x100000 ∧ (b + line.length ≤ (16 * s.g (F.ETH_RXR_BASE_BASE p r) + 16 * i) ∨ (16 * s.g (F.ETH_RXR_BASE_BASE p r) + 16 * i) + 16 ≤ b))) ∧
    (∃ p : Fin 2, ∃ bs : List Byte, ∃ r : Nat, ∃ s : State, (s.g (F.ETH_CTL_EN p) = 1 ∧ s.ethUp p = true ∧ s.g (F.ETH_STAT_READY p) = 1 ∧ 64 ≤ bs.length + 4 ∧ bs.length + 4 ≤ s.ethMax p bs) ∧ (ethType bs ≠ 0x8808 ∧ s.vlanDrops p bs = false ∧ s.brMatch p bs = none) ∧ (s.rxRing p bs = r ∧ (s.g (F.ETH_RXR_CFG_SIZE p r) = 0 ∨ s.g (F.ETH_RXR_HEAD_HEAD p r) = s.g (F.ETH_RXR_TAIL_TAIL p r)))) ∧
    (∃ p : Fin 2, ∃ bs : List Byte, ∃ f : Nat, ∃ s : State, (s.g (F.ETH_CTL_EN p) = 1 ∧ s.ethUp p = true ∧ s.g (F.ETH_STAT_READY p) = 1 ∧ 64 ≤ bs.length + 4 ∧ bs.length + 4 ≤ s.ethMax p bs) ∧ (ethType bs ≠ 0x8808 ∧ s.vlanDrops p bs = false ∧ s.brMatch p bs = some f ∧ s.regionSafe 5 = false) ∧ ((s.brCheck (s.ctx f) (ethBody bs)).all (fun x => (SMap.find s.br.ssrc f).any (fun y => y != BitVec.ofNat 32 (beAt x.1 8 4))) = true)) ∧
    (∃ p : Fin 2, ∃ bs : List Byte, ∃ cut : Bool, ∃ s : State, s.g (F.ETH_CTL_EN p) = 0 ∨ bs = [] ∨ (cut = false ∧ (s.ethUp p = false ∨ s.g (F.ETH_STAT_READY p) = 0))) ∧
    (∃ p : Fin 2, ∃ bs : List Byte, ∃ f : Nat, ∃ x : List Byte × List Byte, ∃ s0 : Int, ∃ s : State, (s.g (F.ETH_CTL_EN p) = 1 ∧ s.ethUp p = true ∧ s.g (F.ETH_STAT_READY p) = 1 ∧ 64 ≤ bs.length + 4 ∧ bs.length + 4 ≤ s.ethMax p bs) ∧ (ethType bs ≠ 0x8808 ∧ s.vlanDrops p bs = false ∧ s.brMatch p bs = some f ∧ s.regionSafe 5 = false ∧ s.g F.TICK_STAT_RUNNING = 1) ∧ (s.brCheck (s.ctx f) (ethBody bs) = some x ∧ (SMap.find s.br.ssrc f).all (fun y => y == BitVec.ofNat 32 (beAt x.1 8 4)) = true) ∧ (s0 = s.mtcOf s.tick + signed 32 (((beAt x.1 4 4 : Int) - (s.ctx f).ofs.toNat - s.rd64 R.TIME_MEDIA_OFS_LO R.TIME_MEDIA_OFS_HI - s.mtcOf s.tick) % 2 ^ 32).toNat) ∧ (s.brP (s.ctx f) ≤ (s.ctx f).depth)) ∧
    (∃ p : Fin 2, ∃ bs : List Byte, ∃ f : Nat, ∃ x : List Byte × List Byte, ∃ s0 : Int, ∃ s : State, (s.g (F.ETH_CTL_EN p) = 1 ∧ s.ethUp p = true ∧ s.g (F.ETH_STAT_READY p) = 1 ∧ 64 ≤ bs.length + 4 ∧ bs.length + 4 ≤ s.ethMax p bs) ∧ (ethType bs ≠ 0x8808 ∧ s.vlanDrops p bs = false ∧ s.brMatch p bs = some f ∧ s.regionSafe 5 = false ∧ s.g F.TICK_STAT_RUNNING = 1) ∧ (s.brCheck (s.ctx f) (ethBody bs) = some x ∧ (SMap.find s.br.ssrc f).all (fun y => y == BitVec.ofNat 32 (beAt x.1 8 4)) = true) ∧ (s0 = s.mtcOf s.tick + signed 32 (((beAt x.1 4 4 : Int) - (s.ctx f).ofs.toNat - s.rd64 R.TIME_MEDIA_OFS_LO R.TIME_MEDIA_OFS_HI - s.mtcOf s.tick) % 2 ^ 32).toNat) ∧ (s.brP (s.ctx f) ≤ (s.ctx f).depth)) ∧
    (∃ p : Fin 2, ∃ bs : List Byte, ∃ f : Nat, ∃ x : List Byte × List Byte, ∃ s0 : Int, ∃ s : State, (s.g (F.ETH_CTL_EN p) = 1 ∧ s.ethUp p = true ∧ s.g (F.ETH_STAT_READY p) = 1 ∧ 64 ≤ bs.length + 4 ∧ bs.length + 4 ≤ s.ethMax p bs) ∧ (ethType bs ≠ 0x8808 ∧ s.vlanDrops p bs = false ∧ s.brMatch p bs = some f ∧ s.regionSafe 5 = false ∧ s.g F.TICK_STAT_RUNNING = 1) ∧ (s.brCheck (s.ctx f) (ethBody bs) = some x ∧ (SMap.find s.br.ssrc f).all (fun y => y == BitVec.ofNat 32 (beAt x.1 8 4)) = true) ∧ (s0 = s.mtcOf s.tick + signed 32 (((beAt x.1 4 4 : Int) - (s.ctx f).ofs.toNat - s.rd64 R.TIME_MEDIA_OFS_LO R.TIME_MEDIA_OFS_HI - s.mtcOf s.tick) % 2 ^ 32).toNat) ∧ (s.brP (s.ctx f) ≤ (s.ctx f).depth)) ∧
    (∃ p : Fin 2, ∃ bs : List Byte, ∃ s : State, (s.g (F.ETH_CTL_EN p) = 1 ∧ s.ethUp p = true ∧ s.g (F.ETH_STAT_READY p) = 1 ∧ 64 ≤ bs.length + 4 ∧ bs.length + 4 ≤ s.ethMax p bs) ∧ (ethType bs ≠ 0x8808 ∧ s.vlanDrops p bs = false ∧ (s.brMatch p bs).isSome = true ∧ s.regionSafe 5 = true)) ∧
    (∃ p : Fin 2, ∃ s : State, s.ethUp p = true) ∧
    (∃ p : Fin 2, ∃ s : State, s.ethUp p = false) ∧
    (∃ p : Fin 2, ∃ q : Fin 8, ∃ tick : Nat, ∃ b : List Byte, ∃ rest : List TxReady, ∃ s : State, (s.g (F.ETH_CTL_EN p) = 1 ∧ s.ethUp p = true ∧ s.regionSafe 5 = false ∧ s.pw.owned = false ∧ s.mayDrive = true) ∧ ((∀ k : Fin 8, q < k → s.ethQueue p k = [] ∧ s.waitingQueue p ≠ some k.val) ∧ (s.waitingQueue p).all (fun k => k == q.val) = true) ∧ (s.ethQueue p q = .pkt tick b :: rest ∧ (s.macBuild p q false b).length + 4 ≤ s.ethMax p (s.macBuild p q false b))) ∧
    (∃ p : Fin 2, ∃ q : Fin 8, ∃ tick : Nat, ∃ b : List Byte, ∃ rest : List TxReady, ∃ s : State, (s.g (F.ETH_CTL_EN p) = 1 ∧ s.ethUp p = true ∧ s.regionSafe 5 = false ∧ s.pw.owned = false ∧ s.mayDrive = true) ∧ ((∀ k : Fin 8, q < k → s.ethQueue p k = [] ∧ s.waitingQueue p ≠ some k.val) ∧ (s.waitingQueue p).all (fun k => k == q.val) = true) ∧ (s.ethQueue p q = .pkt tick b :: rest ∧ (s.macBuild p q false b).length + 4 ≤ s.ethMax p (s.macBuild p q false b))) ∧
    (∃ p : Fin 2, ∃ q : Fin 8, ∃ tick : Nat, ∃ b : List Byte, ∃ rest : List TxReady, ∃ s : State, (s.g (F.ETH_CTL_EN p) = 1 ∧ s.ethUp p = true ∧ s.regionSafe 5 = false ∧ s.pw.owned = false) ∧ ((∀ k : Fin 8, q < k → s.ethQueue p k = [] ∧ s.waitingQueue p ≠ some k.val) ∧ (s.waitingQueue p).all (fun k => k == q.val) = true) ∧ (s.ethQueue p q = .pkt tick b :: rest ∧ (s.mayDrive = false ∨ s.ethMax p (s.macBuild p q false b) < (s.macBuild p q false b).length + 4))) ∧
    (∃ p : Fin 2, ∃ q : Fin 8, ∃ i : Nat, ∃ size : Nat, ∃ w1 : Word, ∃ fr : List Byte, ∃ s : State, (s.g (F.ETH_CTL_EN p) = 1 ∧ s.ethUp p = true ∧ s.regionSafe 5 = false ∧ s.pw.owned = false ∧ s.freeBus ∧ s.mx.ecc = []) ∧ ((∀ k : Fin 8, q < k → s.ethQueue p k = [] ∧ s.waitingQueue p ≠ some k.val) ∧ (s.waitingQueue p).all (fun k => k == q.val) = true) ∧ (s.g (F.ETH_TXQ_HEAD_HEAD p q) = i ∧ s.g (F.ETH_TXQ_SIZE_SIZE p q) = size ∧ i < size ∧ s.ethQueue p q = [.desc ((i + 1) % size)] ∧ 2 ≤ size) ∧ ((16 * s.g (F.ETH_TXQ_BASE_BASE p q) + 16 * i) + 16 ≤ 0x100000 ∧ (s.word (16 * s.g (F.ETH_TXQ_BASE_BASE p q) + 16 * i)).toNat + bitsOf w1 15 0 + 4 ≤ 0x100000) ∧ (s.word ((16 * s.g (F.ETH_TXQ_BASE_BASE p q) + 16 * i) + 4) = w1 ∧ w1.getLsbD 30 = true ∧ w1.getLsbD 29 = true) ∧ (fr = s.macBuild p q (w1.getLsbD 28) ((List.range (bitsOf w1 15 0)).map (fun j => s.byte ((s.word (16 * s.g (F.ETH_TXQ_BASE_BASE p q) + 16 * i)).toNat + j)))) ∧ (fr.length + 4 ≤ s.ethMax p fr)) ∧
    (∃ p : Fin 2, ∃ q : Fin 8, ∃ i : Nat, ∃ size : Nat, ∃ w1 : Word, ∃ fr : List Byte, ∃ s : State, (s.g (F.ETH_CTL_EN p) = 1 ∧ s.ethUp p = true ∧ s.regionSafe 5 = false ∧ s.pw.owned = false ∧ s.freeBus ∧ s.mx.ecc = []) ∧ ((∀ k : Fin 8, q < k → s.ethQueue p k = [] ∧ s.waitingQueue p ≠ some k.val) ∧ (s.waitingQueue p).all (fun k => k == q.val) = true) ∧ (s.g (F.ETH_TXQ_HEAD_HEAD p q) = i ∧ s.g (F.ETH_TXQ_SIZE_SIZE p q) = size ∧ i < size ∧ s.ethQueue p q = [.desc ((i + 1) % size)] ∧ 2 ≤ size) ∧ ((16 * s.g (F.ETH_TXQ_BASE_BASE p q) + 16 * i) + 16 ≤ 0x100000 ∧ (s.word (16 * s.g (F.ETH_TXQ_BASE_BASE p q) + 16 * i)).toNat + bitsOf w1 15 0 + 4 ≤ 0x100000) ∧ (s.word ((16 * s.g (F.ETH_TXQ_BASE_BASE p q) + 16 * i) + 4) = w1 ∧ w1.getLsbD 30 = true ∧ w1.getLsbD 29 = true) ∧ (fr = s.macBuild p q (w1.getLsbD 28) ((List.range (bitsOf w1 15 0)).map (fun j => s.byte ((s.word (16 * s.g (F.ETH_TXQ_BASE_BASE p q) + 16 * i)).toNat + j)))) ∧ (fr.length + 4 ≤ s.ethMax p fr)) ∧
    (∃ p : Fin 2, ∃ q : Fin 8, ∃ i : Nat, ∃ size : Nat, ∃ w1 : Word, ∃ fr : List Byte, ∃ s : State, (s.g (F.ETH_CTL_EN p) = 1 ∧ s.ethUp p = true ∧ s.regionSafe 5 = false ∧ s.pw.owned = false ∧ s.freeBus ∧ s.mx.ecc = []) ∧ ((∀ k : Fin 8, q < k → s.ethQueue p k = [] ∧ s.waitingQueue p ≠ some k.val) ∧ (s.waitingQueue p).all (fun k => k == q.val) = true) ∧ (s.g (F.ETH_TXQ_HEAD_HEAD p q) = i ∧ s.g (F.ETH_TXQ_SIZE_SIZE p q) = size ∧ i < size ∧ s.ethQueue p q = [.desc ((i + 1) % size)] ∧ 2 ≤ size) ∧ ((16 * s.g (F.ETH_TXQ_BASE_BASE p q) + 16 * i) + 16 ≤ 0x100000 ∧ (s.word (16 * s.g (F.ETH_TXQ_BASE_BASE p q) + 16 * i)).toNat + bitsOf w1 15 0 + 4 ≤ 0x100000) ∧ (s.word ((16 * s.g (F.ETH_TXQ_BASE_BASE p q) + 16 * i) + 4) = w1 ∧ w1.getLsbD 30 = true ∧ w1.getLsbD 29 = true) ∧ (fr = s.macBuild p q (w1.getLsbD 28) ((List.range (bitsOf w1 15 0)).map (fun j => s.byte ((s.word (16 * s.g (F.ETH_TXQ_BASE_BASE p q) + 16 * i)).toNat + j)))) ∧ (s.ethMax p fr < fr.length + 4)) ∧
    (∃ p : Fin 2, ∃ s : State, (s.regionSafe 5 = true ∨ s.g (F.ETH_CTL_EN p) = 0 ∨ (s.ethUp p = true ∧ ∀ k : Fin 8, s.ethQueue p k = [])) ∧ (s.waitingQueue p = none)) ∧
    (∃ p : Fin 2, ∃ s : State, s.regionSafe 5 = false ∧ s.g (F.ETH_CTL_EN p) = 1 ∧ s.ethUp p = false) ∧
    (∃ p : Fin 2, ∃ s : State, s.ethUp p = false ∧ s.g (F.ETH_CTL_EN p) = 1) ∧
    (∃ p : Fin 2, ∃ s : State, s.ethUp p = true) ∧
    (∃ p : Fin 2, ∃ up : Bool, ∃ s : State, s.ethUp p = up ∨ (up = true ∧ s.g (F.ETH_CTL_EN p) = 0)) ∧
    (∃ p : Fin 2, ∃ tag : Nat, ∃ ns : Nat, ∃ sec : Nat, ∃ rest : List (Nat × Nat × Nat), ∃ s : State, (s.eth p).txts = (tag, ns, sec) :: rest) ∧
    (∃ p : Fin 2, ∃ s : State, (s.eth p).txts = []) :=
  ⟨⟨1, List.replicate 59 7#8, true, ((State.reset.flag (F.ETH_CTL_EN 1) true).flag (F.ETH_STAT_LINK_UP 1) true).flag (F.ETH_STAT_READY 1) true, by decide +kernel⟩,
   ⟨1, List.replicate 60 7#8, false, ((State.reset.flag (F.ETH_CTL_EN 1) true).flag (F.ETH_STAT_LINK_UP 1) true).flag (F.ETH_STAT_READY 1) true, by decide +kernel⟩,
   ⟨1, List.replicate 12 7#8 ++ [0x88, 0x08] ++ List.replicate 46 0#8, ((State.reset.flag (F.ETH_CTL_EN 1) true).flag (F.ETH_STAT_LINK_UP 1) true).flag (F.ETH_STAT_READY 1) true, by decide +kernel⟩,
   ⟨1, List.replicate 12 7#8 ++ [0x81, 0x00, 0x00, 0x05] ++ List.replicate 46 0#8, ((State.reset.flag (F.ETH_CTL_EN 1) true).flag (F.ETH_STAT_LINK_UP 1) true).flag (F.ETH_STAT_READY 1) true, by decide +kernel⟩,
   ⟨1, List.replicate 1515 7#8, ((State.reset.flag (F.ETH_CTL_EN 1) true).flag (F.ETH_STAT_LINK_UP 1) true).flag (F.ETH_STAT_READY 1) true, by decide +kernel⟩,
   ⟨1, List.replicate 62 7#8, 0, 15, 16, List.replicate 62 7#8, 0x2000, (((((((State.reset.flag (F.ETH_CTL_EN 1) true).flag (F.ETH_STAT_LINK_UP 1) true).flag (F.ETH_STAT_READY 1) true).flag (F.ETH_CTL_ACCEPT_UNTAG 1) true).p (F.ETH_RXR_HEAD_HEAD 1 0) 15).p (F.ETH_RXR_TAIL_TAIL 1 0) 3).p (F.ETH_RXR_CFG_SIZE 1 0) 16).p (F.ETH_RXR_CFG_BUFSZ 1 0) 2048 |> fun u => u.setWord 0xF0 0x2000#32, by decide +kernel⟩,
   ⟨1, List.replicate 12 7#8 ++ [0x81, 0x00, 0xA0, 0x00] ++ List.replicate 47 3#8, 0, 15, 16, List.replicate 12 7#8 ++ List.replicate 47 3#8, 0x2000, (((((((State.reset.flag (F.ETH_CTL_EN 1) true).flag (F.ETH_STAT_LINK_UP 1) true).flag (F.ETH_STAT_READY 1) true).flag (F.ETH_CTL_ACCEPT_UNTAG 1) true).p (F.ETH_RXR_HEAD_HEAD 1 0) 15).p (F.ETH_RXR_TAIL_TAIL 1 0) 3).p (F.ETH_RXR_CFG_SIZE 1 0) 16).p (F.ETH_RXR_CFG_BUFSZ 1 0) 2048 |> fun u => ((u.setWord 0xF0 0x2000#32).flag (F.ETH_CTL_TAG_STRIP 1) true).p (F.ETH_RXR_BASE_BASE 1 0) 0 |> fun v => v.wr (R.ETH_RX_PCP 1) 0, by decide +kernel⟩,
   ⟨1, List.replicate 1515 7#8, 0, 15, 16, List.replicate 1514 7#8, 0x2000, (((((((State.reset.flag (F.ETH_CTL_EN 1) true).flag (F.ETH_STAT_LINK_UP 1) true).flag (F.ETH_STAT_READY 1) true).flag (F.ETH_CTL_ACCEPT_UNTAG 1) true).p (F.ETH_RXR_HEAD_HEAD 1 0) 15).p (F.ETH_RXR_TAIL_TAIL 1 0) 3).p (F.ETH_RXR_CFG_SIZE 1 0) 16).p (F.ETH_RXR_CFG_BUFSZ 1 0) 2048 |> fun u => (u.setWord 0xF0 0x2000#32).flag (F.ETH_CTL_OVERSIZE_KEEP 1) true, by decide +kernel⟩,
   ⟨1, List.replicate 62 7#8, 0, (((State.reset.flag (F.ETH_CTL_EN 1) true).flag (F.ETH_STAT_LINK_UP 1) true).flag (F.ETH_STAT_READY 1) true).flag (F.ETH_CTL_ACCEPT_UNTAG 1) true |> fun u => u.p (F.ETH_RXR_CFG_SIZE 1 0) 0, by decide +kernel⟩,
   ⟨1, List.replicate 12 7#8 ++ [0x08, 0x00, 0x45, 0, 0, 44, 0, 0, 0, 0, 5, 17, 0, 0, 1, 2, 3, 4, 239, 1, 2, 3, 0, 1, 0x13, 0x8C, 0, 24, 0, 0] ++ List.replicate 24 0#8, 9, ((((((State.reset.flag (F.ETH_CTL_EN 1) true).flag (F.ETH_STAT_LINK_UP 1) true).flag (F.ETH_STAT_READY 1) true).flag (F.ETH_CTL_ACCEPT_UNTAG 1) true).wr (R.FAB_FLOW_W0 9) 0xC0000002#32).wr (R.BR_CFG 9) 0x8000138C#32).wr (R.BR_ADDR 9) 0xEF010203#32, by decide +kernel⟩,
   ⟨1, [1, 2], false, State.reset, by decide +kernel⟩,
   ⟨1, List.replicate 12 7#8 ++ [0x08, 0x00, 0x45, 0, 0, 58, 0, 0, 0, 0, 5, 17, 192, 169, 1, 2, 3, 4, 239, 1, 2, 3, 0, 1, 0x13, 0x8C, 0, 38, 0, 0, 0x80, 0x60, 0, 1] ++ beBytes 4 (0) ++ [0, 0, 0, 9] ++ List.replicate 18 5#8, 9, (let bs : List Byte := List.replicate 12 7#8 ++ [0x08, 0x00, 0x45, 0, 0, 58, 0, 0, 0, 0, 5, 17, 192, 169, 1, 2, 3, 4, 239, 1, 2, 3, 0, 1, 0x13, 0x8C, 0, 38, 0, 0, 0x80, 0x60, 0, 1] ++ beBytes 4 (0) ++ [0, 0, 0, 9] ++ List.replicate 18 5#8; (bs.drop 42, List.replicate 18 5#8)), 0, ((((((State.reset.flag (F.ETH_CTL_EN 1) true).flag (F.ETH_STAT_LINK_UP 1) true).flag (F.ETH_STAT_READY 1) true).flag (F.ETH_CTL_ACCEPT_UNTAG 1) true).flag F.TICK_STAT_RUNNING true).p F.TICK_CFG_FS_SEL 1) |> fun u => { u with fb := { u.fb with act := SMap.insert [] 9 ⟨0xC0000001#32, 0, 0, 3246461836#32, 0xEF010203#32, 0, 0x01000040#32⟩ } }, by decide +kernel⟩,
   ⟨1, List.replicate 12 7#8 ++ [0x08, 0x00, 0x45, 0, 0, 58, 0, 0, 0, 0, 5, 17, 192, 169, 1, 2, 3, 4, 239, 1, 2, 3, 0, 1, 0x13, 0x8C, 0, 38, 0, 0, 0x80, 0x60, 0, 1] ++ beBytes 4 (200) ++ [0, 0, 0, 9] ++ List.replicate 18 5#8, 9, (let bs : List Byte := List.replicate 12 7#8 ++ [0x08, 0x00, 0x45, 0, 0, 58, 0, 0, 0, 0, 5, 17, 192, 169, 1, 2, 3, 4, 239, 1, 2, 3, 0, 1, 0x13, 0x8C, 0, 38, 0, 0, 0x80, 0x60, 0, 1] ++ beBytes 4 (200) ++ [0, 0, 0, 9] ++ List.replicate 18 5#8; (bs.drop 42, List.replicate 18 5#8)), 200, ((((((State.reset.flag (F.ETH_CTL_EN 1) true).flag (F.ETH_STAT_LINK_UP 1) true).flag (F.ETH_STAT_READY 1) true).flag (F.ETH_CTL_ACCEPT_UNTAG 1) true).flag F.TICK_STAT_RUNNING true).p F.TICK_CFG_FS_SEL 1) |> fun u => { u with fb := { u.fb with act := SMap.insert [] 9 ⟨0xC0000001#32, 0, 0, 3246461836#32, 0xEF010203#32, 0, 0x01000040#32⟩ } }, by decide +kernel⟩,
   ⟨1, List.replicate 12 7#8 ++ [0x08, 0x00, 0x45, 0, 0, 58, 0, 0, 0, 0, 5, 17, 192, 169, 1, 2, 3, 4, 239, 1, 2, 3, 0, 1, 0x13, 0x8C, 0, 38, 0, 0, 0x80, 0x60, 0, 1] ++ beBytes 4 (4294967235) ++ [0, 0, 0, 9] ++ List.replicate 18 5#8, 9, (let bs : List Byte := List.replicate 12 7#8 ++ [0x08, 0x00, 0x45, 0, 0, 58, 0, 0, 0, 0, 5, 17, 192, 169, 1, 2, 3, 4, 239, 1, 2, 3, 0, 1, 0x13, 0x8C, 0, 38, 0, 0, 0x80, 0x60, 0, 1] ++ beBytes 4 (4294967235) ++ [0, 0, 0, 9] ++ List.replicate 18 5#8; (bs.drop 42, List.replicate 18 5#8)), -61, ((((((State.reset.flag (F.ETH_CTL_EN 1) true).flag (F.ETH_STAT_LINK_UP 1) true).flag (F.ETH_STAT_READY 1) true).flag (F.ETH_CTL_ACCEPT_UNTAG 1) true).flag F.TICK_STAT_RUNNING true).p F.TICK_CFG_FS_SEL 1) |> fun u => { u with fb := { u.fb with act := SMap.insert [] 9 ⟨0xC0000001#32, 0, 0, 3246461836#32, 0xEF010203#32, 0, 0x01000040#32⟩ } }, by decide +kernel⟩,
   ⟨1, List.replicate 12 7#8 ++ [0x08, 0x00, 0x45, 0, 0, 58, 0, 0, 0, 0, 5, 17, 192, 169, 1, 2, 3, 4, 239, 1, 2, 3, 0, 1, 0x13, 0x8C, 0, 38, 0, 0, 0x80, 0x60, 0, 1] ++ beBytes 4 (0) ++ [0, 0, 0, 9] ++ List.replicate 18 5#8, ((((((State.reset.flag (F.ETH_CTL_EN 1) true).flag (F.ETH_STAT_LINK_UP 1) true).flag (F.ETH_STAT_READY 1) true).flag (F.ETH_CTL_ACCEPT_UNTAG 1) true).flag F.TICK_STAT_RUNNING true).p F.TICK_CFG_FS_SEL 1) |> fun u => { u with fb := { u.fb with act := SMap.insert [] 9 ⟨0xC0000001#32, 0, 0, 3246461836#32, 0xEF010203#32, 0, 0x01000040#32⟩ } } |> fun u => u.p F.CHIP_STATE_REGION_SAFE 32, by decide +kernel⟩,
   ⟨1, State.reset.flag (F.ETH_STAT_LINK_UP 1) true, by decide +kernel⟩,
   ⟨1, State.reset, by decide +kernel⟩,
   ⟨1, 6, 3, List.replicate 61 9#8, [.desc 4], (((State.reset.flag (F.ETH_CTL_EN 1) true).flag (F.ETH_STAT_LINK_UP 1) true).setQueue 1 6 [.pkt 3 (List.replicate 61 9#8), .desc 4]).p (F.LEVEE_ETH_BURST_FBURST 1) 5, by decide +kernel⟩,
   ⟨1, 6, 3, List.replicate 61 9#8, [.desc 4], (((State.reset.flag (F.ETH_CTL_EN 1) true).flag (F.ETH_STAT_LINK_UP 1) true).setQueue 1 6 [.pkt 3 (List.replicate 61 9#8), .desc 4]).p (F.LEVEE_ETH_BURST_FBURST 1) 0, by decide +kernel⟩,
   ⟨1, 6, 3, List.replicate 1519 9#8, [.desc 4], (((State.reset.flag (F.ETH_CTL_EN 1) true).flag (F.ETH_STAT_LINK_UP 1) true).setQueue 1 6 [.pkt 3 (List.replicate 1519 9#8), .desc 4]).p (F.LEVEE_ETH_BURST_FBURST 1) 5, by decide +kernel⟩,
   ⟨1, 6, 15, 16, 0xE00D003D#32, [0, 0, 9] ++ List.replicate 58 0, (((((((State.reset.flag (F.ETH_CTL_EN 1) true).flag (F.ETH_STAT_LINK_UP 1) true).p (F.ETH_TXQ_HEAD_HEAD 1 6) 15).p (F.ETH_TXQ_SIZE_SIZE 1 6) 16).setQueue 1 6 [.desc 0]).setWord 0xF4 0xE00D003D#32).setWord 0xF0 0x2001#32).setByte 0x2003 9 |> fun u => u.p (F.LEVEE_ETH_BURST_FBURST 1) 5, by decide +kernel⟩,
   ⟨1, 6, 15, 16, 0xE80D003D#32, [0, 0, 9] ++ List.replicate 58 0, (((((((State.reset.flag (F.ETH_CTL_EN 1) true).flag (F.ETH_STAT_LINK_UP 1) true).p (F.ETH_TXQ_HEAD_HEAD 1 6) 15).p (F.ETH_TXQ_SIZE_SIZE 1 6) 16).setQueue 1 6 [.desc 0]).setWord 0xF4 0xE80D003D#32).setWord 0xF0 0x2001#32).setByte 0x2003 9 |> fun u => u.p (F.LEVEE_ETH_BURST_FBURST 1) 0, by decide +kernel⟩,
   ⟨1, 6, 15, 16, 0xE00D05EB#32, [0, 0, 9] ++ List.replicate 1512 0, (((((((State.reset.flag (F.ETH_CTL_EN 1) true).flag (F.ETH_STAT_LINK_UP 1) true).p (F.ETH_TXQ_HEAD_HEAD 1 6) 15).p (F.ETH_TXQ_SIZE_SIZE 1 6) 16).setQueue 1 6 [.desc 0]).setWord 0xF4 0xE00D05EB#32).setWord 0xF0 0x2001#32).setByte 0x2003 9 |> fun u => u.p (F.LEVEE_ETH_BURST_FBURST 1) 5, by decide +kernel⟩,
   ⟨1, State.reset, by decide +kernel⟩,
   ⟨1, State.reset.flag (F.ETH_CTL_EN 1) true, by decide +kernel⟩,
   ⟨1, State.reset.flag (F.ETH_CTL_EN 1) true, by decide +kernel⟩,
   ⟨1, (State.reset.flag (F.ETH_STAT_LINK_UP 1) true).setQueue 1 7 [.pkt 3 []], by decide +kernel⟩,
   ⟨1, false, State.reset, by decide +kernel⟩,
   ⟨1, 255, 7, 9, [(1, 2, 3)], State.reset.setEth 1 { Eth.reset with txts := [(255, 7, 9), (1, 2, 3)] }, by decide +kernel⟩,
   ⟨1, State.reset, by decide +kernel⟩⟩

theorem test_hyps_RingsAndDoorbells :
    (∃ x : RingSel, ∃ v : Word, ∃ s : State, (s.rd (ringCfg x)).getLsbD 31 = false ∧ s.ringFits v x = true) ∧
    (∃ x : RingSel, ∃ v : Word, ∃ s : State, (s.rd (ringCfg x)).getLsbD 31 = false ∧ s.ringFits v x = true) ∧
    (∃ x : RingSel, ∃ v : Word, ∃ s : State, (s.rd (ringCfg x)).getLsbD 31 = false ∧ s.ringFits v x = true) ∧
    (∃ x : RingSel, ∃ v : Word, ∃ s : State, (s.rd (ringCfg x)).getLsbD 31 = false ∧ s.ringFits v x = true) ∧
    (∃ x : RingSel, ∃ v : Word, ∃ s : State, (s.rd (ringCfg x)).getLsbD 31 = true ∧ s.ringFits v x = true ∧ s.ringSame v x = true) ∧
    (∃ x : RingSel, ∃ v : Word, ∃ s : State, (s.rd (ringCfg x)).getLsbD 31 = true ∧ s.ringFits v x = true ∧ s.ringSame v x = true) ∧
    (∃ x : RingSel, ∃ v : Word, ∃ s : State, s.ringFits v x = false ∨ ((s.rd (ringCfg x)).getLsbD 31 = true ∧ s.ringSame v x = false)) ∧
    (∃ x : RingSel, ∃ v : Word, ∃ s : State, s.ringFits v x = false ∨ ((s.rd (ringCfg x)).getLsbD 31 = true ∧ s.ringSame v x = false)) ∧
    (∃ x : RingSel, ∃ v : Word, ∃ s : State, s.ringFits v x = false ∨ ((s.rd (ringCfg x)).getLsbD 31 = true ∧ s.ringSame v x = false)) ∧
    (∃ x : RingSel, ∃ v : Word, ∃ s : State, (s.rd (ringCfg x)).getLsbD 31 = true ∧ s.ringSame v x = true ∧ (s.ringFits v x = true ∨ ∃ c : Fin 8, x = .cap c)) ∧
    (∃ x : RingSel, ∃ v : Word, ∃ s : State, (s.rd (ringCfg x)).getLsbD 31 = true ∧ s.ringSame v x = true ∧ (s.ringFits v x = true ∨ ∃ c : Fin 8, x = .cap c)) ∧
    (∃ x : RingSel, ∃ v : Word, ∃ s : State, ¬(s.ringFits v x = true ∨ ∃ c : Fin 8, x = .cap c) ∨ ((s.rd (ringCfg x)).getLsbD 31 = true ∧ s.ringSame v x = false)) ∧
    (∃ x : RingSel, ∃ v : Word, ∃ s : State, ¬(s.ringFits v x = true ∨ ∃ c : Fin 8, x = .cap c) ∨ ((s.rd (ringCfg x)).getLsbD 31 = true ∧ s.ringSame v x = false)) ∧
    (∃ x : RingSel, ∃ v : Word, ∃ s : State, ((s.ringFits v x = true ∨ ∃ c : Fin 8, x = .cap c) ∧ ((s.rd (ringCfg x)).getLsbD 31 = true → s.ringSame v x = true)) ∧ ((s.rd (ringCfg x)).getLsbD 31 = false ∨ ∀ (d : Fin 64) (r : Fin 4), x = .sq d r → d.val ≠ s.myId)) ∧
    (∃ x : RingSel, ∃ v : Word, ∃ s : State, ((s.ringFits v x = true ∨ ∃ c : Fin 8, x = .cap c) ∧ ((s.rd (ringCfg x)).getLsbD 31 = true → s.ringSame v x = true)) ∧ ((s.rd (ringCfg x)).getLsbD 31 = false ∨ ∀ (d : Fin 64) (r : Fin 4), x = .sq d r → d.val ≠ s.myId)) ∧
    (∃ d : Fin 64, ∃ r : Fin 4, ∃ v : Word, ∃ s : State, s.g (F.HOST_SQ_CFG_EN d r) = 1 ∧ s.ringSame v (.sq d r) = true ∧ s.ringFits v (.sq d r) = true ∧ d.val = s.myId) ∧
    (∃ d : Fin 64, ∃ r : Fin 4, ∃ v : Word, ∃ s : State, s.g (F.HOST_SQ_CFG_EN d r) = 1 ∧ s.ringSame v (.sq d r) = true ∧ s.ringFits v (.sq d r) = true ∧ d.val = s.myId) ∧
    (∃ d : Fin 64, ∃ r : Fin 4, ∃ v : Word, ∃ n : Nat, ∃ s : State, (s.manager = true ∧ s.g F.HOST_STAT_LINK_UP = 1 ∧ s.ft.coreDown = false ∧ s.g (F.HOST_SQ_CFG_EN d r) = 1) ∧ (n = s.g (F.HOST_SQ_CFG_SIZE d r) ∧ v.toNat < n ∧ (v.toNat + n - s.g (F.HOST_SQ_TAIL_TAIL d r)) % n ≤ (s.g (F.HOST_SQ_HEAD_HEAD d r) + 2 * n - s.g (F.HOST_SQ_TAIL_TAIL d r) - 1) % n)) ∧
    (∃ d : Fin 64, ∃ r : Fin 4, ∃ v : Word, ∃ n : Nat, ∃ s : State, (s.manager = true ∧ s.g F.HOST_STAT_LINK_UP = 1 ∧ s.ft.coreDown = false) ∧ (n = s.g (F.HOST_SQ_CFG_SIZE d r) ∧ (s.g (F.HOST_SQ_CFG_EN d r) = 0 ∨ n ≤ v.toNat ∨ (s.g (F.HOST_SQ_HEAD_HEAD d r) + 2 * n - s.g (F.HOST_SQ_TAIL_TAIL d r) - 1) % max 1 n < (v.toNat + n - s.g (F.HOST_SQ_TAIL_TAIL d r)) % max 1 n))) ∧
    (∃ d : Fin 64, ∃ r : Fin 4, ∃ v : Word, ∃ n : Nat, ∃ s : State, (s.manager = true ∧ s.g F.HOST_STAT_LINK_UP = 1 ∧ s.ft.coreDown = false) ∧ (n = s.g (F.HOST_SQ_CFG_SIZE d r) ∧ (s.g (F.HOST_SQ_CFG_EN d r) = 0 ∨ n ≤ v.toNat ∨ (s.g (F.HOST_SQ_HEAD_HEAD d r) + 2 * n - s.g (F.HOST_SQ_TAIL_TAIL d r) - 1) % max 1 n < (v.toNat + n - s.g (F.HOST_SQ_TAIL_TAIL d r)) % max 1 n))) ∧
    (∃ d : Fin 64, ∃ r : Fin 4, ∃ v : Word, ∃ n : Nat, ∃ s : State, (s.manager = true ∧ s.g F.HOST_STAT_LINK_UP = 1 ∧ s.ft.coreDown = false) ∧ (n = s.g (F.HOST_SQ_CFG_SIZE d r) ∧ (s.g (F.HOST_SQ_CFG_EN d r) = 0 ∨ n ≤ v.toNat ∨ (s.g (F.HOST_SQ_HEAD_HEAD d r) + 2 * n - s.g (F.HOST_SQ_TAIL_TAIL d r) - 1) % max 1 n < (v.toNat + n - s.g (F.HOST_SQ_TAIL_TAIL d r)) % max 1 n))) ∧
    (∃ s : State, s.manager = false ∨ s.g F.HOST_STAT_LINK_UP = 0) ∧
    (∃ s : State, s.manager = true ∧ s.g F.HOST_STAT_LINK_UP = 1 ∧ s.ft.coreDown = true) ∧
    (∃ s : State, s.manager = true ∧ s.g F.HOST_STAT_LINK_UP = 1 ∧ s.ft.coreDown = true) ∧
    (∃ s : State, s.manager = true ∧ s.g F.HOST_STAT_LINK_UP = 1 ∧ s.ft.coreDown = true) ∧
    (∃ s : State, s.manager = true ∧ s.g F.HOST_STAT_LINK_UP = 1 ∧ s.ft.coreDown = true) ∧
    (∃ d : Fin 64, ∃ v : Word, ∃ s : State, (s.manager = true ∧ s.g F.HOST_STAT_LINK_UP = 1 ∧ s.ft.coreDown = false ∧ d.val = s.myId) ∧ (s.g F.HOST_CQ_CFG_EN = 1 ∧ v.toNat < s.g F.HOST_CQ_CFG_SIZE)) ∧
    (∃ d : Fin 64, ∃ v : Word, ∃ s : State, (s.manager = true ∧ s.g F.HOST_STAT_LINK_UP = 1 ∧ s.ft.coreDown = false ∧ d.val = s.myId) ∧ (s.g F.HOST_EQ_CFG_EN = 1 ∧ v.toNat < s.g F.HOST_EQ_CFG_SIZE)) ∧
    (∃ d : Fin 64, ∃ v : Word, ∃ s : State, (s.manager = true ∧ s.g F.HOST_STAT_LINK_UP = 1 ∧ s.ft.coreDown = false ∧ d.val = s.myId) ∧ (s.g F.HOST_CQ_CFG_EN = 0 ∨ s.g F.HOST_CQ_CFG_SIZE ≤ v.toNat)) ∧
    (∃ d : Fin 64, ∃ v : Word, ∃ s : State, (s.manager = true ∧ s.g F.HOST_STAT_LINK_UP = 1 ∧ s.ft.coreDown = false ∧ d.val = s.myId) ∧ (s.g F.HOST_EQ_CFG_EN = 0 ∨ s.g F.HOST_EQ_CFG_SIZE ≤ v.toNat)) ∧
    (∃ d : Fin 64, ∃ k : Fin 8, ∃ o : Fin 1024, ∃ v : Word, ∃ s : State, (s.manager = true ∧ s.g F.HOST_STAT_LINK_UP = 1 ∧ s.ft.coreDown = false ∧ d.val = s.myId) ∧ (o.val = 8 + k.val ∧ s.g (F.HOST_CAP_CFG_EN k) = 1 ∧ v.toNat < s.g (F.HOST_CAP_SIZE_SIZE k) ∧ v.toNat % 16 = 0)) ∧
    (∃ d : Fin 64, ∃ k : Fin 8, ∃ o : Fin 1024, ∃ v : Word, ∃ s : State, (s.manager = true ∧ s.g F.HOST_STAT_LINK_UP = 1 ∧ s.ft.coreDown = false ∧ d.val = s.myId) ∧ (o.val = 8 + k.val ∧ (s.g (F.HOST_CAP_CFG_EN k) = 0 ∨ s.g (F.HOST_CAP_SIZE_SIZE k) ≤ v.toNat ∨ v.toNat % 16 ≠ 0))) ∧
    (∃ o : Fin 1024, ∃ s : State, s.manager = true ∧ s.g F.HOST_STAT_LINK_UP = 1 ∧ s.ft.coreDown = false ∧ (o.val = 6 ∨ o.val = 7 ∨ 16 ≤ o.val)) ∧
    (∃ o : Fin 1024, ∃ s : State, s.manager = true ∧ s.g F.HOST_STAT_LINK_UP = 1 ∧ s.ft.coreDown = false ∧ (o.val = 6 ∨ o.val = 7 ∨ 16 ≤ o.val)) ∧
    (∃ d : Fin 64, ∃ k : Fin 8, ∃ o : Fin 1024, ∃ q : Fin 8, ∃ s : State, (s.manager = true ∧ s.g F.HOST_STAT_LINK_UP = 1 ∧ s.ft.coreDown = false ∧ d.val ≠ s.myId ∧ o.val = 8 + k.val) ∧ (s.g F.FAB_ID_VALID = 1 ∧ s.routeTo d.val = some q.val ∧ (s.ngl q).quiet = false ∧ SMap.get noMsgs s.fb.txq (3 * q + 1) = [] ∧ 1 ≤ s.g (F.FAB_PORT_CRED_CTRL q) ∧ s.pw.owned = false)) ∧
    (∃ d : Fin 64, ∃ k : Fin 8, ∃ o : Fin 1024, ∃ q : Fin 8, ∃ s : State, (s.manager = true ∧ s.g F.HOST_STAT_LINK_UP = 1 ∧ s.ft.coreDown = false ∧ d.val ≠ s.myId ∧ o.val = 8 + k.val) ∧ (s.g F.FAB_ID_VALID = 1 ∧ s.routeTo d.val = some q.val ∧ (s.ngl q).quiet = false ∧ SMap.get noMsgs s.fb.txq (3 * q + 1) = [] ∧ 1 ≤ s.g (F.FAB_PORT_CRED_CTRL q) ∧ s.pw.owned = false)) ∧
    (∃ d : Fin 64, ∃ k : Fin 8, ∃ o : Fin 1024, ∃ q : Fin 8, ∃ s : State, (s.manager = true ∧ s.g F.HOST_STAT_LINK_UP = 1 ∧ s.ft.coreDown = false ∧ d.val ≠ s.myId ∧ o.val = 8 + k.val) ∧ (s.g F.FAB_ID_VALID = 1 ∧ s.routeTo d.val = some q.val ∧ (s.ngl q).quiet = false ∧ SMap.get noMsgs s.fb.txq (3 * q + 1) = [] ∧ 1 ≤ s.g (F.FAB_PORT_CRED_CTRL q) ∧ s.pw.owned = false)) ∧
    (∃ d : Fin 64, ∃ k : Fin 8, ∃ v : Word, ∃ i : Instr, ∃ s : State, (s.manager = true ∧ s.g F.HOST_STAT_LINK_UP = 1 ∧ s.ft.coreDown = false ∧ d.val ≠ s.myId) ∧ (s.g F.FAB_ID_VALID = 0 ∨ s.routeTo d.val = none) ∧ (i = .cqHead d v ∨ i = .eqHead d v ∨ i = .capRd d ⟨8 + k, by omega⟩ v)) ∧
    (∃ d : Fin 64, ∃ o : Fin 1024, ∃ v : Word, ∃ s : State, (s.manager = true ∧ s.g F.HOST_STAT_LINK_UP = 1 ∧ s.ft.coreDown = true) ∧ (s.hs.bells = [(d.val, 4 * o.val, v)])) ∧
    (∃ b : Nat × Nat × Word, ∃ bs : List (Nat × Nat × Word), ∃ s : State, s.ft.coreDown = true ∧ s.hs.bells = b :: bs) ∧
    (∃ s : State, s.ft.coreDown = true) ∧
    (∃ s : State, s.ft.coreDown = false) ∧
    (∃ r : Fin 4, ∃ n : Nat, ∃ ws : List Word, ∃ ds : List (List Word), ∃ s : State, (s.manager = true ∧ s.g F.HOST_STAT_LINK_UP = 1 ∧ s.ft.coreDown = false ∧ s.hs.d3 = false) ∧ (n = s.g (F.HOST_SQ_CFG_SIZE 0 r) ∧ s.g (F.HOST_SQ_CFG_EN 0 r) = 1 ∧ 0 < n ∧ n ≤ 4096 ∧ s.g (F.HOST_SQ_HEAD_HEAD 0 r) < n ∧ s.g (F.HOST_SQ_TAIL_TAIL 0 r) < n) ∧ (ds = (descs ws).take ((s.g (F.HOST_SQ_TAIL_TAIL 0 r) + n - s.g (F.HOST_SQ_HEAD_HEAD 0 r)) % n))) ∧
    (∃ r : Fin 4, ∃ n : Nat, ∃ ws : List Word, ∃ ds : List (List Word), ∃ s : State, (s.manager = true ∧ s.g F.HOST_STAT_LINK_UP = 1 ∧ s.ft.coreDown = false ∧ s.hs.d3 = false) ∧ (n = s.g (F.HOST_SQ_CFG_SIZE 0 r) ∧ s.g (F.HOST_SQ_CFG_EN 0 r) = 1 ∧ 0 < n ∧ n ≤ 4096 ∧ s.g (F.HOST_SQ_HEAD_HEAD 0 r) < n ∧ s.g (F.HOST_SQ_TAIL_TAIL 0 r) < n) ∧ (ds = (descs ws).take ((s.g (F.HOST_SQ_TAIL_TAIL 0 r) + n - s.g (F.HOST_SQ_HEAD_HEAD 0 r)) % n))) ∧
    (∃ d : Fin 64, ∃ r : Fin 4, ∃ n : Nat, ∃ ws : List Word, ∃ ds : List (List Word), ∃ s : State, (s.manager = true ∧ s.g F.HOST_STAT_LINK_UP = 1 ∧ s.ft.coreDown = false ∧ s.hs.d3 = false) ∧ (n = s.g (F.HOST_SQ_CFG_SIZE d r) ∧ s.g (F.HOST_SQ_CFG_EN d r) = 1 ∧ 0 < n ∧ n ≤ 4096 ∧ s.g (F.HOST_SQ_HEAD_HEAD d r) < n ∧ s.g (F.HOST_SQ_TAIL_TAIL d r) < n) ∧ (ds = (descs ws).take ((s.g (F.HOST_SQ_TAIL_TAIL d r) + n - s.g (F.HOST_SQ_HEAD_HEAD d r)) % n)) ∧ (d ≠ 0 ∧ (s.rd (if d.val < 32 then R.HOST_TUNNEL_EN_LO else R.HOST_TUNNEL_EN_HI)).getLsbD (d.val % 32) = false)) ∧
    (∃ d : Fin 64, ∃ r : Fin 4, ∃ q : Fin 8, ∃ n : Nat, ∃ ws : List Word, ∃ x : List Word, ∃ s : State, (s.manager = true ∧ s.g F.HOST_STAT_LINK_UP = 1 ∧ s.ft.coreDown = false ∧ s.hs.d3 = false ∧ s.g F.FAB_ID_VALID = 1) ∧ (n = s.g (F.HOST_SQ_CFG_SIZE d r) ∧ s.g (F.HOST_SQ_CFG_EN d r) = 1 ∧ 0 < n ∧ n ≤ 4096 ∧ s.g (F.HOST_SQ_HEAD_HEAD d r) < n ∧ s.g (F.HOST_SQ_TAIL_TAIL d r) < n) ∧ ([x] = (descs ws).take ((s.g (F.HOST_SQ_TAIL_TAIL d r) + n - s.g (F.HOST_SQ_HEAD_HEAD d r)) % n)) ∧ (d ≠ 0 ∧ (s.rd (if d.val < 32 then R.HOST_TUNNEL_EN_LO else R.HOST_TUNNEL_EN_HI)).getLsbD (d.val % 32) = true) ∧ (s.routeTo d.val = some q.val ∧ (s.ngl q).quiet = false ∧ SMap.get noMsgs s.fb.txq (3 * q + 1) = [] ∧ 1 ≤ s.g (F.FAB_PORT_CRED_CTRL q) ∧ s.pw.owned = false)) ∧
    (∃ d : Fin 64, ∃ r : Fin 4, ∃ s : State, s.manager = false ∨ s.g F.HOST_STAT_LINK_UP = 0 ∨ s.hs.d3 = true ∨ s.ft.coreDown = true ∨ s.g (F.HOST_SQ_CFG_EN d r) = 0) :=
  ⟨⟨.cq, 16#32, State.reset, by decide +kernel⟩,
   ⟨.sq 63 3, 4096#32, State.reset.wr (R.HOST_SQ_TAIL 63 3) 5#32, by decide +kernel⟩,
   ⟨.cap 7, 0#32, State.reset.p (F.HOST_CAP_SIZE_SIZE 7) 4096, by decide +kernel⟩,
   ⟨.eq, 0x3F0010#32, State.reset, by decide +kernel⟩,
   ⟨.cq, 16#32, State.reset.wr R.HOST_CQ_CFG 0x80000010#32, by decide +kernel⟩,
   ⟨.cap 7, 0#32, (State.reset.p (F.HOST_CAP_SIZE_SIZE 7) 4096).flag (F.HOST_CAP_CFG_EN 7) true, by decide +kernel⟩,
   ⟨.cq, 15#32, State.reset, by decide +kernel⟩,
   ⟨.cap 7, 0#32, State.reset.p (F.HOST_CAP_SIZE_SIZE 7) 4095, by decide +kernel⟩,
   ⟨.eq, 17#32, State.reset.wr R.HOST_EQ_CFG 0x80000010#32, by decide +kernel⟩,
   ⟨.cq, 16#32, State.reset.wr R.HOST_CQ_CFG 0x80000010#32, by decide +kernel⟩,
   ⟨.sq 0 1, 16#32, (testCmd [0, 0, 0, 0, 0, 0, 0, 0]).wr (R.HOST_SQ_CFG 0 1) 0x80000010#32, by decide +kernel⟩,
   ⟨.cq, 15#32, State.reset, by decide +kernel⟩,
   ⟨.eq, 17#32, State.reset.wr R.HOST_EQ_CFG 0x80000010#32, by decide +kernel⟩,
   ⟨.sq 9 2, 16#32, State.reset.wr (R.HOST_SQ_CFG 9 2) 0x80000010#32, by decide +kernel⟩,
   ⟨.sq 0 2, 17#32, State.reset.wr (R.HOST_SQ_CFG 0 2) 16#32, by decide +kernel⟩,
   ⟨0, 1, 16#32, (testCmd [0, 0, 0, 0, 0, 0, 0, 0]).wr (R.HOST_SQ_CFG 0 1) 0x80000010#32, by decide +kernel⟩,
   ⟨0, 2, 16#32, (testCmd [0, 0, 0, 0, 0, 0, 0, 0]).wr (R.HOST_SQ_CFG 0 2) 0x80000010#32, by decide +kernel⟩,
   ⟨5, 2, 15#32, 16, testHost.wr (R.HOST_SQ_CFG 5 2) 0x80000010#32, by decide +kernel⟩,
   ⟨5, 2, 5#32, 16, (testHost.wr (R.HOST_SQ_CFG 5 2) 0x80000010#32).wr (R.HOST_SQ_HEAD 5 2) 5#32, by decide +kernel⟩,
   ⟨5, 2, 16#32, 16, (testHost.wr (R.HOST_SQ_CFG 5 2) 0x80000010#32).wr (R.HOST_SQ_HEAD 5 2) 5#32, by decide +kernel⟩,
   ⟨5, 2, 1#32, 16, testHost.wr (R.HOST_SQ_CFG 5 2) 16#32, by decide +kernel⟩,
   ⟨State.reset, by decide +kernel⟩,
   ⟨{ testHost with ft := { testHost.ft with coreDown := true } }, by decide +kernel⟩,
   ⟨{ testHost with ft := { testHost.ft with coreDown := true } }, by decide +kernel⟩,
   ⟨{ testHost with ft := { testHost.ft with coreDown := true } }, by decide +kernel⟩,
   ⟨{ testHost with ft := { testHost.ft with coreDown := true } }, by decide +kernel⟩,
   ⟨0, 15#32, testHost, by decide +kernel⟩,
   ⟨0, 15#32, testHost.wr R.HOST_EQ_CFG 0x80000010#32, by decide +kernel⟩,
   ⟨0, 16#32, testHost, by decide +kernel⟩,
   ⟨0, 16#32, testHost, by decide +kernel⟩,
   ⟨0, 7, 15, 4080#32, (testHost.p (F.HOST_CAP_SIZE_SIZE 7) 4096).flag (F.HOST_CAP_CFG_EN 7) true, by decide +kernel⟩,
   ⟨0, 7, 15, 4084#32, (testHost.p (F.HOST_CAP_SIZE_SIZE 7) 4096).flag (F.HOST_CAP_CFG_EN 7) true, by decide +kernel⟩,
   ⟨1023, testHost, by decide +kernel⟩,
   ⟨16, testHost, by decide +kernel⟩,
   ⟨9, 7, 15, 2, ((((testHost.p (F.NGL_STAT_STATE 2) 6).flag F.FAB_ID_VALID true).flag (F.FAB_ROUTE_PRI_EN 9) true).p (F.FAB_ROUTE_PRI 9) 2).p (F.FAB_PORT_CRED_CTRL 2) 4, by decide +kernel⟩,
   ⟨9, 7, 15, 2, ((((testHost.p (F.NGL_STAT_STATE 2) 6).flag F.FAB_ID_VALID true).flag (F.FAB_ROUTE_PRI_EN 9) true).p (F.FAB_ROUTE_PRI 9) 2).p (F.FAB_PORT_CRED_CTRL 2) 4, by decide +kernel⟩,
   ⟨9, 7, 15, 2, ((((testHost.p (F.NGL_STAT_STATE 2) 6).flag F.FAB_ID_VALID true).flag (F.FAB_ROUTE_PRI_EN 9) true).p (F.FAB_ROUTE_PRI 9) 2).p (F.FAB_PORT_CRED_CTRL 2) 4, by decide +kernel⟩,
   ⟨9, 7, 5#32, .eqHead 9 5#32, testHost, by decide +kernel⟩,
   ⟨5, 2, 15#32, { testHost.wr (R.HOST_SQ_CFG 5 2) 0x80000010#32 with ft := { testHost.ft with coreDown := true }, hs := { testHost.hs with bells := [(5, 8, 15#32)] } }, by decide +kernel⟩,
   ⟨(5, 8, 15#32), [(5, 8, 14#32), (0, 16, 3#32)], { testHost.wr (R.HOST_SQ_CFG 5 2) 0x80000010#32 with ft := { testHost.ft with coreDown := true }, hs := { testHost.hs with bells := [(5, 8, 15#32), (5, 8, 14#32), (0, 16, 3#32)] } }, by decide +kernel⟩,
   ⟨{ testHost with ft := { testHost.ft with coreDown := true } }, by decide +kernel⟩,
   ⟨State.reset, by decide +kernel⟩,
   ⟨3, 16, [1, 2, 3, 4, 5, 6, 7, 8], [[1, 2, 3, 4, 5, 6, 7, 8]], (testHost.wr (R.HOST_SQ_CFG 0 3) 0x80000010#32).wr (R.HOST_SQ_HEAD 0 3) 15#32, by decide +kernel⟩,
   ⟨3, 16, List.replicate 24 7#32, List.replicate 2 (List.replicate 8 7#32), (testHost.wr (R.HOST_SQ_CFG 0 3) 0x80000010#32).wr (R.HOST_SQ_HEAD 0 3) 14#32, by decide +kernel⟩,
   ⟨40, 3, 16, [1, 2, 3, 4, 5, 6, 7, 8], [[1, 2, 3, 4, 5, 6, 7, 8]], (testHost.wr (R.HOST_SQ_CFG 40 3) 0x80000010#32).wr (R.HOST_SQ_TAIL 40 3) 5#32, by decide +kernel⟩,
   ⟨9, 3, 2, 16, [0xA123#32, 2, 3, 4, 5, 6, 7, 8], [0xA123#32, 2, 3, 4, 5, 6, 7, 8], (((((((testHost.wr (R.HOST_SQ_CFG 9 3) 0x80000010#32).wr (R.HOST_SQ_TAIL 9 3) 5#32).wr R.HOST_TUNNEL_EN_LO 0x200#32).p (F.NGL_STAT_STATE 2) 6).flag F.FAB_ID_VALID true).flag (F.FAB_ROUTE_PRI_EN 9) true).p (F.FAB_ROUTE_PRI 9) 2).p (F.FAB_PORT_CRED_CTRL 2) 4, by decide +kernel⟩,
   ⟨9, 3, State.reset, by decide +kernel⟩⟩

theorem test_hyps_HostInterfaceResetsAndInterrupts :
    (∃ s : State, s.manager = true) ∧
    (∃ s : State, s.manager = true ∧ s.g F.HOST_STAT_LINK_UP = 1) ∧
    (∃ l : Bool, ∃ s : State, s.manager = false ∨ (l = true ∧ s.g F.HOST_STAT_LINK_UP = 0)) ∧
    (∃ l : Bool, ∃ s : State, s.manager = false ∨ (l = true ∧ s.g F.HOST_STAT_LINK_UP = 0)) ∧
    (∃ s : State, s.manager = true ∧ s.g F.HOST_CTL_LINK_EN = 1 ∧ s.g F.HOST_STAT_LINK_UP = 0) ∧
    (∃ n : Nat, ∃ k : Nat, ∃ s : State, (s.manager = true ∧ s.g F.HOST_CTL_LINK_EN = 1 ∧ s.g F.HOST_STAT_LINK_UP = 0 ∧ s.pw.owned = false ∧ s.hs.d3 = true) ∧ (s.g F.HOST_EQ_CFG_EN = 1 ∧ n = s.g F.HOST_EQ_CFG_SIZE ∧ n ≠ 0 ∧ k = s.g F.HOST_EQ_TAIL_TAIL ∧ k < n ∧ n ≤ 4096 ∧ (k + 1) % n ≠ s.g F.HOST_EQ_HEAD_HEAD)) ∧
    (∃ s : State, (s.manager = true ∧ s.g F.HOST_CTL_LINK_EN = 1 ∧ s.g F.HOST_STAT_LINK_UP = 0) ∧ (s.g F.HOST_EQ_CFG_EN = 0 ∨ s.g F.HOST_EQ_CFG_SIZE = 0 ∨ (s.g F.HOST_EQ_TAIL_TAIL + 1) % s.g F.HOST_EQ_CFG_SIZE = s.g F.HOST_EQ_HEAD_HEAD)) ∧
    (∃ s : State, (s.manager = true ∧ s.g F.HOST_CTL_LINK_EN = 1 ∧ s.g F.HOST_STAT_LINK_UP = 0) ∧ (s.g F.HOST_EQ_CFG_EN = 0 ∨ s.g F.HOST_EQ_CFG_SIZE = 0 ∨ (s.g F.HOST_EQ_TAIL_TAIL + 1) % s.g F.HOST_EQ_CFG_SIZE = s.g F.HOST_EQ_HEAD_HEAD)) ∧
    (∃ s : State, s.manager = false ∨ s.g F.HOST_CTL_LINK_EN = 0 ∨ s.g F.HOST_STAT_LINK_UP = 1) ∧
    (∃ s : State, s.manager = true) ∧
    (∃ v : Fin 64, ∃ s : State, (s.manager = true ∧ s.pw.owned = false ∧ s.hs.pba = [(v.val, true)] ∧ SMap.get noneB s.hs.hold v = false) ∧ ((SMap.get msixReset s.hs.msix (4 * v + 3)).getLsbD 0 = false)) ∧
    (∃ v : Fin 64, ∃ s : State, s.manager = true ∧ s.pw.owned = false ∧ SMap.get noneB s.hs.pba v = true ∧ SMap.get noneB s.hs.hold v = false ∧ (SMap.get msixReset s.hs.msix (4 * v + 3)).getLsbD 0 = false) ∧
    (∃ v : Fin 64, ∃ s : State, s.manager = true ∧ SMap.get noneB s.hs.pba v = true ∧ (SMap.get msixReset s.hs.msix (4 * v + 3)).getLsbD 0 = true) ∧
    (∃ s : State, s.manager = false) ∧
    (∃ v : Word, ∃ s : State, (s.manager = true ∧ s.pw.owned = false ∧ s.hs.d3 = false ∧ SMap.get noneB s.hs.hold (bitsOf v 5 0) = false) ∧ ((SMap.get msixReset s.hs.msix (4 * bitsOf v 5 0 + 3)).getLsbD 0 = false)) ∧
    (∃ v : Word, ∃ s : State, (s.manager = true ∧ s.pw.owned = false ∧ s.hs.d3 = false ∧ SMap.get noneB s.hs.hold (bitsOf v 5 0) = false) ∧ ((SMap.get msixReset s.hs.msix (4 * bitsOf v 5 0 + 3)).getLsbD 0 = false)) ∧
    (∃ v : Word, ∃ s : State, (s.manager = true) ∧ (s.hs.d3 = true ∨ (SMap.get noneB s.hs.hold (bitsOf v 5 0) = false ∧ (SMap.get msixReset s.hs.msix (4 * bitsOf v 5 0 + 3)).getLsbD 0 = true))) ∧
    (∃ v : Word, ∃ s : State, (s.manager = true) ∧ (s.hs.d3 = true ∨ (SMap.get noneB s.hs.hold (bitsOf v 5 0) = false ∧ (SMap.get msixReset s.hs.msix (4 * bitsOf v 5 0 + 3)).getLsbD 0 = true))) ∧
    (∃ v : Word, ∃ s : State, s.manager = true ∧ s.hs.d3 = false ∧ SMap.get noneB s.hs.hold (bitsOf v 5 0) = true) ∧
    (∃ q : Fin 8, ∃ s : State, s.manager = false ∧ s.g F.FAB_ID_VALID = 1 ∧ s.routeTo 0 = some q.val ∧ (s.ngl q).quiet = false ∧ SMap.get noMsgs s.fb.txq (3 * q + 1) = [] ∧ 1 ≤ s.g (F.FAB_PORT_CRED_CTRL q) ∧ s.pw.owned = false) ∧
    (∃ s : State, s.manager = false ∧ (s.g F.FAB_ID_VALID = 0 ∨ s.routeTo 0 = none)) ∧
    (∃ v : Fin 64, ∃ s : State, s.manager = true ∧ s.pw.owned = false ∧ s.hs.d3 = false ∧ (SMap.get msixReset s.hs.msix (4 * v + 3)).getLsbD 0 = false) ∧
    (∃ v : Fin 64, ∃ s : State, s.manager = true ∧ s.pw.owned = false ∧ s.hs.d3 = false ∧ (SMap.get msixReset s.hs.msix (4 * v + 3)).getLsbD 0 = false) ∧
    (∃ v : Fin 64, ∃ s : State, s.manager = true ∧ (s.hs.d3 = true ∨ (SMap.get msixReset s.hs.msix (4 * v + 3)).getLsbD 0 = true)) ∧
    (∃ v : Fin 64, ∃ s : State, s.manager = true ∧ (s.hs.d3 = true ∨ (SMap.get msixReset s.hs.msix (4 * v + 3)).getLsbD 0 = true)) ∧
    (∃ v : Fin 64, ∃ s : State, SMap.get noneB s.hs.merged v = false) ∧
    (∃ c : Fin 8, ∃ rd : Nat, ∃ sz : Nat, ∃ n : Nat, ∃ wr : Nat, ∃ len : Nat, ∃ ws : List Word, ∃ s : State, (s.manager = true ∧ s.g F.HOST_STAT_LINK_UP = 1 ∧ s.pw.owned = false ∧ s.g (F.HOST_CAP_CFG_EN c) = 1 ∧ s.hs.d3 = false ∧ s.mx.ecc = []) ∧ (rd = s.g (F.XING_CAP_RD_RD c) ∧ sz = s.g (F.XING_CAP_SIZE_SIZE c) ∧ rd < sz ∧ sz ≤ 2 ^ 18 ∧ rd ≠ s.g (F.XING_CAP_WR_WR c) ∧ s.rd (R.XING_CAP_BUF c) ≤ 0xC0000#32) ∧ (n = s.g (F.HOST_CAP_SIZE_SIZE c) ∧ wr = s.g (F.HOST_CAP_WR_WR c) ∧ n ≤ 2 ^ 24 ∧ wr < n ∧ n % 4 = 0 ∧ wr % 4 = 0) ∧ (len = 16 * bitsOf (s.word ((s.rd (R.XING_CAP_BUF c)).toNat + rd)) 31 16 ∧ 0 < len ∧ len ≤ (s.g (F.HOST_CAP_RD_RD c) + 2 * n - wr - 16) % n) ∧ (ws = (List.range (len / 4)).map (fun i => s.word ((s.rd (R.XING_CAP_BUF c)).toNat + (rd + 4 * i) % sz)))) ∧
    (∃ c : Fin 8, ∃ rd : Nat, ∃ sz : Nat, ∃ n : Nat, ∃ wr : Nat, ∃ len : Nat, ∃ ws : List Word, ∃ s : State, (s.manager = true ∧ s.g F.HOST_STAT_LINK_UP = 1 ∧ s.pw.owned = false ∧ s.g (F.HOST_CAP_CFG_EN c) = 1 ∧ s.hs.d3 = false ∧ s.mx.ecc = []) ∧ (rd = s.g (F.XING_CAP_RD_RD c) ∧ sz = s.g (F.XING_CAP_SIZE_SIZE c) ∧ rd < sz ∧ sz ≤ 2 ^ 18 ∧ rd ≠ s.g (F.XING_CAP_WR_WR c) ∧ s.rd (R.XING_CAP_BUF c) ≤ 0xC0000#32) ∧ (n = s.g (F.HOST_CAP_SIZE_SIZE c) ∧ wr = s.g (F.HOST_CAP_WR_WR c) ∧ n ≤ 2 ^ 24 ∧ wr < n ∧ n % 4 = 0 ∧ wr % 4 = 0) ∧ (len = 16 * bitsOf (s.word ((s.rd (R.XING_CAP_BUF c)).toNat + rd)) 31 16 ∧ 0 < len ∧ len ≤ (s.g (F.HOST_CAP_RD_RD c) + 2 * n - wr - 16) % n) ∧ (ws = (List.range (len / 4)).map (fun i => s.word ((s.rd (R.XING_CAP_BUF c)).toNat + (rd + 4 * i) % sz)))) ∧
    (∃ c : Fin 8, ∃ rd : Nat, ∃ sz : Nat, ∃ n : Nat, ∃ wr : Nat, ∃ len : Nat, ∃ ws : List Word, ∃ s : State, (s.manager = true ∧ s.g F.HOST_STAT_LINK_UP = 1 ∧ s.pw.owned = false ∧ s.g (F.HOST_CAP_CFG_EN c) = 1 ∧ s.hs.d3 = false ∧ s.mx.ecc = []) ∧ (rd = s.g (F.XING_CAP_RD_RD c) ∧ sz = s.g (F.XING_CAP_SIZE_SIZE c) ∧ rd < sz ∧ sz ≤ 2 ^ 18 ∧ rd ≠ s.g (F.XING_CAP_WR_WR c) ∧ s.rd (R.XING_CAP_BUF c) ≤ 0xC0000#32) ∧ (n = s.g (F.HOST_CAP_SIZE_SIZE c) ∧ wr = s.g (F.HOST_CAP_WR_WR c) ∧ n ≤ 2 ^ 24 ∧ wr < n ∧ n % 4 = 0 ∧ wr % 4 = 0) ∧ (len = 16 * bitsOf (s.word ((s.rd (R.XING_CAP_BUF c)).toNat + rd)) 31 16 ∧ 0 < len ∧ len ≤ (s.g (F.HOST_CAP_RD_RD c) + 2 * n - wr - 16) % n) ∧ (ws = (List.range (len / 4)).map (fun i => s.word ((s.rd (R.XING_CAP_BUF c)).toNat + (rd + 4 * i) % sz)))) ∧
    (∃ c : Fin 8, ∃ rd : Nat, ∃ sz : Nat, ∃ n : Nat, ∃ wr : Nat, ∃ len : Nat, ∃ s : State, (s.g (F.HOST_CAP_CFG_EN c) = 1 ∧ s.hs.d3 = false ∧ s.mx.ecc = []) ∧ (rd = s.g (F.XING_CAP_RD_RD c) ∧ sz = s.g (F.XING_CAP_SIZE_SIZE c) ∧ rd < sz ∧ sz ≤ 2 ^ 18 ∧ rd ≠ s.g (F.XING_CAP_WR_WR c) ∧ s.rd (R.XING_CAP_BUF c) ≤ 0xC0000#32) ∧ (n = s.g (F.HOST_CAP_SIZE_SIZE c) ∧ wr = s.g (F.HOST_CAP_WR_WR c) ∧ n ≤ 2 ^ 24 ∧ wr < n ∧ n % 4 = 0 ∧ wr % 4 = 0) ∧ (len = 16 * bitsOf (s.word ((s.rd (R.XING_CAP_BUF c)).toNat + rd)) 31 16 ∧ 0 < len ∧ len ≤ (s.g (F.HOST_CAP_RD_RD c) + 2 * n - wr - 16) % n)) ∧
    (∃ c : Fin 8, ∃ q : Fin 8, ∃ rd : Nat, ∃ sz : Nat, ∃ n : Nat, ∃ wr : Nat, ∃ len : Nat, ∃ a : Nat, ∃ b : Nat, ∃ ws : List Word, ∃ s : State, (s.manager = false ∧ s.g F.FAB_ID_VALID = 1 ∧ s.routeTo 0 = some q.val ∧ (s.ngl q).quiet = false ∧ SMap.get noMsgs s.fb.txq (3 * q + 1) = [] ∧ 2 ≤ s.g (F.FAB_PORT_CRED_CTRL q) ∧ s.pw.owned = false ∧ s.g (F.HOST_CAP_CFG_IRQ c) = 0) ∧ (s.g (F.HOST_CAP_CFG_EN c) = 1 ∧ s.hs.d3 = false ∧ s.mx.ecc = []) ∧ (rd = s.g (F.XING_CAP_RD_RD c) ∧ sz = s.g (F.XING_CAP_SIZE_SIZE c) ∧ rd < sz ∧ sz ≤ 2 ^ 18 ∧ rd ≠ s.g (F.XING_CAP_WR_WR c) ∧ s.rd (R.XING_CAP_BUF c) ≤ 0xC0000#32) ∧ (n = s.g (F.HOST_CAP_SIZE_SIZE c) ∧ wr = s.g (F.HOST_CAP_WR_WR c) ∧ n ≤ 2 ^ 24 ∧ wr < n ∧ n % 4 = 0 ∧ wr % 4 = 0) ∧ (len = 16 * bitsOf (s.word ((s.rd (R.XING_CAP_BUF c)).toNat + rd)) 31 16 ∧ 0 < len ∧ len ≤ (s.g (F.HOST_CAP_RD_RD c) + 2 * n - wr - 16) % n ∧ len ≤ 4084 ∧ wr + len ≤ n) ∧ (ws = (List.range (len / 4)).map (fun i => s.word ((s.rd (R.XING_CAP_BUF c)).toNat + (rd + 4 * i) % sz))) ∧ (a = s.rd64 (R.HOST_CAP_BASE_LO c) (R.HOST_CAP_BASE_HI c) + wr ∧ b = s.rd64 (R.HOST_CAP_SHADOW_LO c) (R.HOST_CAP_SHADOW_HI c))) ∧
    (∃ c : Fin 8, ∃ s : State, s.g (F.HOST_CAP_CFG_EN c) = 0 ∨ s.hs.d3 = true ∨ s.g (F.XING_CAP_RD_RD c) = s.g (F.XING_CAP_WR_WR c) ∨ s.g (F.XING_CAP_SIZE_SIZE c) = 0) ∧
    (∃ c : Fin 8, ∃ n : Nat, ∃ len : Nat, ∃ s : State, (s.mx.ecc = [] ∧ s.g (F.XING_CAP_RD_RD c) < s.g (F.XING_CAP_SIZE_SIZE c) ∧ s.rd (R.XING_CAP_BUF c) ≤ 0xC0000#32) ∧ (n = s.g (F.HOST_CAP_SIZE_SIZE c) ∧ len = 16 * bitsOf (s.word ((s.rd (R.XING_CAP_BUF c)).toNat + s.g (F.XING_CAP_RD_RD c))) 31 16) ∧ ((s.g (F.HOST_CAP_RD_RD c) + 2 * n - s.g (F.HOST_CAP_WR_WR c) - 16) % max 1 n < len ∨ len = 0)) :=
  ⟨⟨((testCmd [1, 2, 3, 4, 5, 6, 7, 8]).wr (R.HOST_SQ_CFG 63 3) 0x80000010#32).wr R.HOST_CQ_HEAD 5#32, by decide +kernel⟩,
   ⟨testCmd [1, 2, 3, 4, 5, 6, 7, 8], by decide +kernel⟩,
   ⟨false, State.reset, by decide +kernel⟩,
   ⟨true, testHost.flag F.HOST_STAT_LINK_UP false, by decide +kernel⟩,
   ⟨(testHost.flag F.HOST_STAT_LINK_UP false).flag F.HOST_CTL_LINK_EN true, by decide +kernel⟩,
   ⟨16, 0, { ((testHost.flag F.HOST_STAT_LINK_UP false).flag F.HOST_CTL_LINK_EN true).wr R.HOST_EQ_CFG 0x80030010#32 |>.wr R.HOST_EQ_HEAD 5#32 with hs := { testHost.hs with d3 := true, lost := 3 } }, by decide +kernel⟩,
   ⟨(testHost.flag F.HOST_STAT_LINK_UP false).flag F.HOST_CTL_LINK_EN true, by decide +kernel⟩,
   ⟨(((testHost.flag F.HOST_STAT_LINK_UP false).flag F.HOST_CTL_LINK_EN true).wr R.HOST_EQ_CFG 0x80030010#32).wr R.HOST_EQ_HEAD 1#32, by decide +kernel⟩,
   ⟨testHost, by decide +kernel⟩,
   ⟨testHost, by decide +kernel⟩,
   ⟨63, { testHost with hs := { testHost.hs with d3 := true, pba := [(63, true)], msix := [(255, 0)] } }, by decide +kernel⟩,
   ⟨63, { testHost with hs := { testHost.hs with d3 := true, pba := [(1, true), (63, true)], msix := [(7, 0), (255, 0)] } }, by decide +kernel⟩,
   ⟨63, { testHost with hs := { testHost.hs with d3 := true, pba := [(1, true), (63, true)], msix := [(7, 0)] } }, by decide +kernel⟩,
   ⟨State.reset, by decide +kernel⟩,
   ⟨0x3F#32, { testHost with hs := { testHost.hs with msix := [(255, 0)] } }, by decide +kernel⟩,
   ⟨0x3F#32, { testHost.p F.HOST_MSIX_HOLD_US 5 with hs := { testHost.hs with msix := [(255, 0)] } }, by decide +kernel⟩,
   ⟨0x3F#32, testHost, by decide +kernel⟩,
   ⟨0x3F#32, { testHost with hs := { testHost.hs with d3 := true, msix := [(255, 0)] } }, by decide +kernel⟩,
   ⟨0x3F#32, { testHost with hs := { testHost.hs with hold := [(63, true)] } }, by decide +kernel⟩,
   ⟨2, (((((State.reset.flag F.FAB_ID_VALID true).p F.FAB_ID_ID 5).flag (F.FAB_ROUTE_PRI_EN 0) true).p (F.FAB_ROUTE_PRI 0) 2).p (F.NGL_STAT_STATE 2) 6).p (F.FAB_PORT_CRED_CTRL 2) 4, by decide +kernel⟩,
   ⟨State.reset, by decide +kernel⟩,
   ⟨63, { testHost with hs := { testHost.hs with msix := [(255, 0)], merged := [(63, true)], hold := [(63, true)] } }, by decide +kernel⟩,
   ⟨63, { testHost with hs := { testHost.hs with msix := [(255, 0)], hold := [(63, true)] } }, by decide +kernel⟩,
   ⟨63, { testHost with hs := { testHost.hs with merged := [(63, true)], hold := [(63, true)] } }, by decide +kernel⟩,
   ⟨63, { testHost with hs := { testHost.hs with d3 := true, msix := [(255, 0)], merged := [(63, true)], hold := [(63, true)] } }, by decide +kernel⟩,
   ⟨63, { testHost with hs := { testHost.hs with hold := [(63, true)] } }, by decide +kernel⟩,
   ⟨7, 64, 4096, 8192, 128, 32, [0x00020000#32, 0, 0, 7, 0, 0, 0, 0], (((((((((testHost.flag (F.HOST_CAP_CFG_EN 7) true).p (F.XING_CAP_RD_RD 7) 64).p (F.XING_CAP_WR_WR 7) 128).p (F.XING_CAP_SIZE_SIZE 7) 4096).p (F.HOST_CAP_SIZE_SIZE 7) 8192).p (F.HOST_CAP_WR_WR 7) 128).p (F.HOST_CAP_RD_RD 7) 128).wr (R.XING_CAP_BUF 7) 0x1000#32).setWord 0x1040 0x00020000#32).setWord 0x104C 7#32, by decide +kernel⟩,
   ⟨7, 64, 4096, 8192, 8176, 32, [0x00020000#32, 0, 0, 7, 0, 0, 0, 0], (((((((((testHost.flag (F.HOST_CAP_CFG_EN 7) true).p (F.XING_CAP_RD_RD 7) 64).p (F.XING_CAP_WR_WR 7) 128).p (F.XING_CAP_SIZE_SIZE 7) 4096).p (F.HOST_CAP_SIZE_SIZE 7) 8192).p (F.HOST_CAP_WR_WR 7) 8176).p (F.HOST_CAP_RD_RD 7) 8176).wr (R.XING_CAP_BUF 7) 0x1000#32).setWord 0x1040 0x00020000#32).setWord 0x104C 7#32, by decide +kernel⟩,
   ⟨7, 64, 4096, 8192, 128, 32, [0x00020000#32, 0, 0, 7, 0, 0, 0, 0], { ((((((((((testHost.flag (F.HOST_CAP_CFG_EN 7) true).p (F.XING_CAP_RD_RD 7) 64).p (F.XING_CAP_WR_WR 7) 128).p (F.XING_CAP_SIZE_SIZE 7) 4096).p (F.HOST_CAP_SIZE_SIZE 7) 8192).p (F.HOST_CAP_WR_WR 7) 128).p (F.HOST_CAP_RD_RD 7) 128).wr (R.XING_CAP_BUF 7) 0x1000#32).setWord 0x1040 0x00020000#32).setWord 0x104C 7#32) |>.flag (F.HOST_CAP_CFG_IRQ 7) true |>.p (F.HOST_CAP_CFG_VEC 7) 63 with hs := { testHost.hs with msix := [(255, 0)] } }, by decide +kernel⟩,
   ⟨7, 64, 4096, 8192, 8176, 32, (((((((((State.reset.flag (F.HOST_CAP_CFG_EN 7) true).p (F.XING_CAP_RD_RD 7) 64).p (F.XING_CAP_WR_WR 7) 128).p (F.XING_CAP_SIZE_SIZE 7) 4096).p (F.HOST_CAP_SIZE_SIZE 7) 8192).p (F.HOST_CAP_WR_WR 7) 8176).p (F.HOST_CAP_RD_RD 7) 8176).wr (R.XING_CAP_BUF 7) 0x1000#32).setWord 0x1040 0x00020000#32).setWord 0x104C 7#32, by decide +kernel⟩,
   ⟨7, 2, 64, 4096, 8192, 128, 32, 128, 0, [0x00020000#32, 0, 0, 7, 0, 0, 0, 0], (((((((((((((((State.reset.flag F.FAB_ID_VALID true).p F.FAB_ID_ID 5).flag (F.FAB_ROUTE_PRI_EN 0) true).p (F.FAB_ROUTE_PRI 0) 2).p (F.NGL_STAT_STATE 2) 6).p (F.FAB_PORT_CRED_CTRL 2) 4).flag (F.HOST_CAP_CFG_EN 7) true).p (F.XING_CAP_RD_RD 7) 64).p (F.XING_CAP_WR_WR 7) 128).p (F.XING_CAP_SIZE_SIZE 7) 4096).p (F.HOST_CAP_SIZE_SIZE 7) 8192).p (F.HOST_CAP_WR_WR 7) 128).p (F.HOST_CAP_RD_RD 7) 128).wr (R.XING_CAP_BUF 7) 0x1000#32).setWord 0x1040 0x00020000#32).setWord 0x104C 7#32, by decide +kernel⟩,
   ⟨7, testHost, by decide +kernel⟩,
   ⟨7, 8192, 32, (((((((((testHost.flag (F.HOST_CAP_CFG_EN 7) true).p (F.XING_CAP_RD_RD 7) 64).p (F.XING_CAP_WR_WR 7) 128).p (F.XING_CAP_SIZE_SIZE 7) 4096).p (F.HOST_CAP_SIZE_SIZE 7) 8192).p (F.HOST_CAP_WR_WR 7) 128).p (F.HOST_CAP_RD_RD 7) 160).wr (R.XING_CAP_BUF 7) 0x1000#32).setWord 0x1040 0x00020000#32).setWord 0x104C 7#32, by decide +kernel⟩⟩

theorem test_hyps_HostCommandsMoveWords :
    (∃ d : Desc, ∃ s : State, s.starts d 0x00 ∧ d.len = 0) ∧
    (∃ d : Desc, ∃ s : State, s.starts d 0x00 ∧ d.len = 0) ∧
    (∃ i : Instr, ∃ op : Nat, ∃ buf : List Word, ∃ ans : List RemAns, ∃ an : Option RemAns, ∃ d : Desc, ∃ s : State, ((i, op) ∈ [(Instr.nopCommand, 0), (.memWrite buf ans, 1), (.memRead ans, 2), (.regWrite an, 3), (.regRead an, 4)]) ∧ (s.misfit d op ∧ s.freeBus)) ∧
    (∃ i : Instr, ∃ op : Nat, ∃ buf : List Word, ∃ ans : List RemAns, ∃ an : Option RemAns, ∃ d : Desc, ∃ s : State, ((i, op) ∈ [(Instr.nopCommand, 0), (.memWrite buf ans, 1), (.memRead ans, 2), (.regWrite an, 3), (.regRead an, 4)]) ∧ (s.misfit d op ∧ s.freeBus)) ∧
    (∃ i : Instr, ∃ op : Nat, ∃ buf : List Word, ∃ ans : List RemAns, ∃ an : Option RemAns, ∃ d : Desc, ∃ s : State, ((i, op) ∈ [(Instr.nopCommand, 0), (.memWrite buf ans, 1), (.memRead ans, 2), (.regWrite an, 3), (.regRead an, 4)]) ∧ (s.misfit d op ∧ s.freeBus)) ∧
    (∃ i : Instr, ∃ op : Nat, ∃ buf : List Word, ∃ ans : List RemAns, ∃ an : Option RemAns, ∃ d : Desc, ∃ s : State, ((i, op) ∈ [(Instr.nopCommand, 0), (.memWrite buf ans, 1), (.memRead ans, 2), (.regWrite an, 3), (.regRead an, 4)]) ∧ (s.misfit d op ∧ s.freeBus)) ∧
    (∃ i : Instr, ∃ op : Nat, ∃ buf : List Word, ∃ ans : List RemAns, ∃ an : Option RemAns, ∃ d : Desc, ∃ s : State, ((i, op) ∈ [(Instr.nopCommand, 0), (.memWrite buf ans, 1), (.memRead ans, 2), (.regWrite an, 3), (.regRead an, 4)]) ∧ (s.misfit d op ∧ s.freeBus)) ∧
    (∃ i : Instr, ∃ op : Nat, ∃ buf : List Word, ∃ ans : List RemAns, ∃ an : Option RemAns, ∃ s : State, ((i, op) ∈ [(Instr.nopCommand, 0), (.memWrite buf ans, 1), (.memRead ans, 2), (.regWrite an, 3), (.regRead an, 4)] ∧ s.freeBus) ∧ (s.engineNext.all (fun d => d.opcode != op) = true)) ∧
    (∃ i : Instr, ∃ op : Nat, ∃ buf : List Word, ∃ ans : List RemAns, ∃ an : Option RemAns, ∃ s : State, ((i, op) ∈ [(Instr.nopCommand, 0), (.memWrite buf ans, 1), (.memRead ans, 2), (.regWrite an, 3), (.regRead an, 4)] ∧ s.freeBus) ∧ (s.engineNext.all (fun d => d.opcode != op) = true)) ∧
    (∃ d : Desc, ∃ s : State, s.engineNext = some d ∧ d.opcode ∉ [0x00, 0x01, 0x02, 0x03, 0x04, 0x10, 0x11, 0x12, 0x13, 0x14, 0x20, 0x30, 0x31, 0x40, 0x50, 0x51]) ∧
    (∃ s : State, s.engineNext.all (fun d => decide (d.opcode ∈ [0x00, 0x01, 0x02, 0x03, 0x04, 0x10, 0x11, 0x12, 0x13, 0x14, 0x20, 0x30, 0x31, 0x40, 0x50, 0x51])) = true) ∧
    (∃ d : Desc, ∃ buf : List Word, ∃ s : State, (s.starts d 0x01 ∧ d.fits 0x01 = true ∧ s.freeBus ∧ s.hostReach = true ∧ d.len / 4 ≤ buf.length ∧ d.loc % 4 = 0) ∧ (∀ i, i < d.len / 4 → (memOf (d.loc + 4 * i)).any (fun m => !m.1.isProg) = true)) ∧
    (∃ d : Desc, ∃ buf : List Word, ∃ n : Nat, ∃ s : State, (s.starts d 0x01 ∧ d.fits 0x01 = true ∧ s.freeBus ∧ d.loc % 4 = 0 ∧ buf.length < d.len / 4) ∧ (∀ i, i < d.len / 4 → (memOf (d.loc + 4 * i)).any (fun m => !m.1.isProg) = true) ∧ (n = (if s.hostReach = true then s.chunk false * (buf.length / s.chunk false) else 0))) ∧
    (∃ d : Desc, ∃ buf : List Word, ∃ n : Nat, ∃ s : State, (s.starts d 0x01 ∧ d.fits 0x01 = true ∧ s.freeBus ∧ d.loc % 4 = 0 ∧ buf.length < d.len / 4) ∧ (∀ i, i < d.len / 4 → (memOf (d.loc + 4 * i)).any (fun m => !m.1.isProg) = true) ∧ (n = (if s.hostReach = true then s.chunk false * (buf.length / s.chunk false) else 0))) ∧
    (∃ d : Desc, ∃ s : State, s.starts d 0x01 ∧ d.fits 0x01 = true ∧ s.freeBus ∧ s.hostReach = false) ∧
    (∃ d : Desc, ∃ q : Fin 8, ∃ buf : List Word, ∃ s : State, (s.starts d 0x01 ∧ d.fits 0x01 = true ∧ s.freeBus ∧ d.len ≤ 4084 ∧ d.len / 4 ≤ buf.length ∧ d.loc % 4 = 0) ∧ (s.manager = false ∧ s.g F.FAB_ID_VALID = 1 ∧ s.routeTo 0 = some q.val ∧ (s.ngl q).quiet = false ∧ SMap.get noMsgs s.fb.txq (3 * q + 1) = [] ∧ 1 ≤ s.g (F.FAB_PORT_CRED_CTRL q) ∧ s.pw.owned = false) ∧ (∀ i, i < d.len / 4 → (memOf (d.loc + 4 * i)).any (fun m => !m.1.isProg) = true)) ∧
    (∃ d : Desc, ∃ buf : List Word, ∃ n : Nat, ∃ s : State, (s.starts d 0x01 ∧ d.fits 0x01 = true ∧ s.freeBus ∧ s.hostReach = true ∧ d.len / 4 ≤ buf.length ∧ n < d.len / 4) ∧ ((d.loc % 4 ≠ 0 ∧ n = 0 ∧ d.loc + d.len ≤ 0x03000000) ∨ (d.loc % 4 = 0 ∧ inAddressMap (d.loc + 4 * n) = false ∧ ∀ i, i < n → (memOf (d.loc + 4 * i)).any (fun m => !m.1.isProg) = true))) ∧
    (∃ d : Desc, ∃ buf : List Word, ∃ n : Nat, ∃ s : State, (s.starts d 0x01 ∧ d.fits 0x01 = true ∧ s.freeBus ∧ s.hostReach = true ∧ d.len / 4 ≤ buf.length ∧ n < d.len / 4) ∧ ((d.loc % 4 ≠ 0 ∧ n = 0 ∧ d.loc + d.len ≤ 0x03000000) ∨ (d.loc % 4 = 0 ∧ inAddressMap (d.loc + 4 * n) = false ∧ ∀ i, i < n → (memOf (d.loc + 4 * i)).any (fun m => !m.1.isProg) = true))) ∧
    (∃ d : Desc, ∃ buf : List Word, ∃ ans : List RemAns, ∃ j : Nat, ∃ c : Nat, ∃ s : State, (s.engineNext = some d ∧ d.opcode = 0x01 ∧ d.fits 0x01 = true ∧ d.dev ≠ s.myId ∧ s.freeBus ∧ s.hostReach = true ∧ d.len / 4 ≤ buf.length) ∧ (s.g F.FAB_ID_VALID = 1 ∧ (s.routeTo d.dev).isSome = true ∧ c = s.chunk true ∧ j ≤ (d.len / 4 + c - 1) / c) ∧ ((∀ i, i < j → ans[i]?.any (fun a => match a with | .ok _ => true | _ => false) = true)) ∧ (j = (d.len / 4 + c - 1) / c ∨ ans[j]?.all (fun a => match a with | .ok _ => false | _ => true) = true)) ∧
    (∃ d : Desc, ∃ buf : List Word, ∃ ans : List RemAns, ∃ j : Nat, ∃ c : Nat, ∃ s : State, (s.engineNext = some d ∧ d.opcode = 0x01 ∧ d.fits 0x01 = true ∧ d.dev ≠ s.myId ∧ s.freeBus ∧ s.hostReach = true ∧ d.len / 4 ≤ buf.length) ∧ (s.g F.FAB_ID_VALID = 1 ∧ (s.routeTo d.dev).isSome = true ∧ c = s.chunk true ∧ j ≤ (d.len / 4 + c - 1) / c) ∧ ((∀ i, i < j → ans[i]?.any (fun a => match a with | .ok _ => true | _ => false) = true)) ∧ (j = (d.len / 4 + c - 1) / c ∨ ans[j]?.all (fun a => match a with | .ok _ => false | _ => true) = true)) ∧
    (∃ d : Desc, ∃ buf : List Word, ∃ ans : List RemAns, ∃ j : Nat, ∃ c : Nat, ∃ s : State, (s.engineNext = some d ∧ d.opcode = 0x01 ∧ d.fits 0x01 = true ∧ d.dev ≠ s.myId ∧ s.freeBus ∧ s.hostReach = true ∧ d.len / 4 ≤ buf.length) ∧ (s.g F.FAB_ID_VALID = 1 ∧ (s.routeTo d.dev).isSome = true ∧ c = s.chunk true ∧ j ≤ (d.len / 4 + c - 1) / c) ∧ ((∀ i, i < j → ans[i]?.any (fun a => match a with | .ok _ => true | _ => false) = true)) ∧ (j = (d.len / 4 + c - 1) / c ∨ ans[j]?.all (fun a => match a with | .ok _ => false | _ => true) = true)) ∧
    (∃ d : Desc, ∃ buf : List Word, ∃ ans : List RemAns, ∃ j : Nat, ∃ c : Nat, ∃ s : State, (s.engineNext = some d ∧ d.opcode = 0x01 ∧ d.fits 0x01 = true ∧ d.dev ≠ s.myId ∧ s.freeBus ∧ s.hostReach = true ∧ d.len / 4 ≤ buf.length) ∧ (s.g F.FAB_ID_VALID = 1 ∧ (s.routeTo d.dev).isSome = true ∧ c = s.chunk true ∧ j ≤ (d.len / 4 + c - 1) / c) ∧ ((∀ i, i < j → ans[i]?.any (fun a => match a with | .ok _ => true | _ => false) = true)) ∧ (j = (d.len / 4 + c - 1) / c ∨ ans[j]?.all (fun a => match a with | .ok _ => false | _ => true) = true)) ∧
    (∃ q : Fin 8, ∃ i : Instr, ∃ op : Nat, ∃ buf : List Word, ∃ ans : List RemAns, ∃ an : Option RemAns, ∃ e : Env, ∃ m : List Word, ∃ d : Desc, ∃ s : State, ((i, op, e, m) ∈ [(Instr.memWrite buf ans, 1, s.descEnv d d.dev 7, BitVec.ofNat 32 (d.len / 4) :: buf.take (d.len / 4)), (.memRead ans, 2, s.descEnv d d.dev 6, [BitVec.ofNat 32 (d.len / 4)]), (.regWrite an, 3, s.descEnv d d.dev 7, [1, d.arg1]), (.regRead an, 4, s.descEnv d d.dev 6, [1])]) ∧ (s.engineNext = some d ∧ d.opcode = op ∧ d.fits op = true ∧ d.dev ≠ s.myId ∧ d.len ≤ 4084 ∧ d.len / 4 ≤ buf.length ∧ s.manager = true ∧ s.freeBus) ∧ (s.routeTo d.dev = some q.val ∧ (s.ngl q).quiet = false ∧ SMap.get noMsgs s.fb.txq (3 * q + 1) = [] ∧ 1 ≤ s.g (F.FAB_PORT_CRED_CTRL q) ∧ s.g F.FAB_ID_VALID = 1 ∧ s.pw.owned = false)) ∧
    (∃ q : Fin 8, ∃ i : Instr, ∃ op : Nat, ∃ buf : List Word, ∃ ans : List RemAns, ∃ an : Option RemAns, ∃ e : Env, ∃ m : List Word, ∃ d : Desc, ∃ s : State, ((i, op, e, m) ∈ [(Instr.memWrite buf ans, 1, s.descEnv d d.dev 7, BitVec.ofNat 32 (d.len / 4) :: buf.take (d.len / 4)), (.memRead ans, 2, s.descEnv d d.dev 6, [BitVec.ofNat 32 (d.len / 4)]), (.regWrite an, 3, s.descEnv d d.dev 7, [1, d.arg1]), (.regRead an, 4, s.descEnv d d.dev 6, [1])]) ∧ (s.engineNext = some d ∧ d.opcode = op ∧ d.fits op = true ∧ d.dev ≠ s.myId ∧ d.len ≤ 4084 ∧ d.len / 4 ≤ buf.length ∧ s.manager = true ∧ s.freeBus) ∧ (s.routeTo d.dev = some q.val ∧ (s.ngl q).quiet = false ∧ SMap.get noMsgs s.fb.txq (3 * q + 1) = [] ∧ 1 ≤ s.g (F.FAB_PORT_CRED_CTRL q) ∧ s.g F.FAB_ID_VALID = 1 ∧ s.pw.owned = false)) ∧
    (∃ q : Fin 8, ∃ i : Instr, ∃ op : Nat, ∃ buf : List Word, ∃ ans : List RemAns, ∃ an : Option RemAns, ∃ e : Env, ∃ m : List Word, ∃ d : Desc, ∃ s : State, ((i, op, e, m) ∈ [(Instr.memWrite buf ans, 1, s.descEnv d d.dev 7, BitVec.ofNat 32 (d.len / 4) :: buf.take (d.len / 4)), (.memRead ans, 2, s.descEnv d d.dev 6, [BitVec.ofNat 32 (d.len / 4)]), (.regWrite an, 3, s.descEnv d d.dev 7, [1, d.arg1]), (.regRead an, 4, s.descEnv d d.dev 6, [1])]) ∧ (s.engineNext = some d ∧ d.opcode = op ∧ d.fits op = true ∧ d.dev ≠ s.myId ∧ d.len ≤ 4084 ∧ d.len / 4 ≤ buf.length ∧ s.manager = true ∧ s.freeBus) ∧ (s.routeTo d.dev = some q.val ∧ (s.ngl q).quiet = false ∧ SMap.get noMsgs s.fb.txq (3 * q + 1) = [] ∧ 1 ≤ s.g (F.FAB_PORT_CRED_CTRL q) ∧ s.g F.FAB_ID_VALID = 1 ∧ s.pw.owned = false)) ∧
    (∃ q : Fin 8, ∃ i : Instr, ∃ op : Nat, ∃ buf : List Word, ∃ ans : List RemAns, ∃ an : Option RemAns, ∃ e : Env, ∃ m : List Word, ∃ d : Desc, ∃ s : State, ((i, op, e, m) ∈ [(Instr.memWrite buf ans, 1, s.descEnv d d.dev 7, BitVec.ofNat 32 (d.len / 4) :: buf.take (d.len / 4)), (.memRead ans, 2, s.descEnv d d.dev 6, [BitVec.ofNat 32 (d.len / 4)]), (.regWrite an, 3, s.descEnv d d.dev 7, [1, d.arg1]), (.regRead an, 4, s.descEnv d d.dev 6, [1])]) ∧ (s.engineNext = some d ∧ d.opcode = op ∧ d.fits op = true ∧ d.dev ≠ s.myId ∧ d.len ≤ 4084 ∧ d.len / 4 ≤ buf.length ∧ s.manager = true ∧ s.freeBus) ∧ (s.routeTo d.dev = some q.val ∧ (s.ngl q).quiet = false ∧ SMap.get noMsgs s.fb.txq (3 * q + 1) = [] ∧ 1 ≤ s.g (F.FAB_PORT_CRED_CTRL q) ∧ s.g F.FAB_ID_VALID = 1 ∧ s.pw.owned = false)) ∧
    (∃ d : Desc, ∃ s : State, (s.starts d 0x02 ∧ d.fits 0x02 = true ∧ s.freeBus ∧ d.loc % 4 = 0) ∧ (∀ i, i < d.len / 4 → (memOf (d.loc + 4 * i)).any (fun m => !m.1.isProg) = true ∧ s.eccAt (d.loc + 4 * i) ≤ 1)) ∧
    (∃ d : Desc, ∃ s : State, (s.starts d 0x02 ∧ d.fits 0x02 = true ∧ s.freeBus ∧ d.loc % 4 = 0) ∧ (∀ i, i < d.len / 4 → (memOf (d.loc + 4 * i)).any (fun m => !m.1.isProg) = true ∧ s.eccAt (d.loc + 4 * i) ≤ 1)) ∧
    (∃ d : Desc, ∃ n : Nat, ∃ s : State, (s.starts d 0x02 ∧ d.fits 0x02 = true ∧ s.freeBus ∧ n < d.len / 4) ∧ ((d.loc % 4 ≠ 0 ∧ n = 0 ∧ d.loc + d.len ≤ 0x03000000) ∨ (d.loc % 4 = 0 ∧ (inAddressMap (d.loc + 4 * n) = false ∨ ((memOf (d.loc + 4 * n)).any (fun m => !m.1.isProg) = true ∧ 2 ≤ s.eccAt (d.loc + 4 * n))) ∧ ∀ i, i < n → (memOf (d.loc + 4 * i)).any (fun m => !m.1.isProg) = true ∧ s.eccAt (d.loc + 4 * i) ≤ 1))) ∧
    (∃ d : Desc, ∃ n : Nat, ∃ s : State, (s.starts d 0x02 ∧ d.fits 0x02 = true ∧ s.freeBus ∧ n < d.len / 4) ∧ ((d.loc % 4 ≠ 0 ∧ n = 0 ∧ d.loc + d.len ≤ 0x03000000) ∨ (d.loc % 4 = 0 ∧ (inAddressMap (d.loc + 4 * n) = false ∨ ((memOf (d.loc + 4 * n)).any (fun m => !m.1.isProg) = true ∧ 2 ≤ s.eccAt (d.loc + 4 * n))) ∧ ∀ i, i < n → (memOf (d.loc + 4 * i)).any (fun m => !m.1.isProg) = true ∧ s.eccAt (d.loc + 4 * i) ≤ 1))) ∧
    (∃ d : Desc, ∃ n : Nat, ∃ s : State, (s.starts d 0x02 ∧ d.fits 0x02 = true ∧ s.freeBus ∧ n < d.len / 4) ∧ ((d.loc % 4 ≠ 0 ∧ n = 0 ∧ d.loc + d.len ≤ 0x03000000) ∨ (d.loc % 4 = 0 ∧ (inAddressMap (d.loc + 4 * n) = false ∨ ((memOf (d.loc + 4 * n)).any (fun m => !m.1.isProg) = true ∧ 2 ≤ s.eccAt (d.loc + 4 * n))) ∧ ∀ i, i < n → (memOf (d.loc + 4 * i)).any (fun m => !m.1.isProg) = true ∧ s.eccAt (d.loc + 4 * i) ≤ 1))) ∧
    (∃ d : Desc, ∃ ans : List RemAns, ∃ j : Nat, ∃ c : Nat, ∃ n : Nat, ∃ s : State, (s.engineNext = some d ∧ d.opcode = 0x02 ∧ d.fits 0x02 = true ∧ d.dev ≠ s.myId) ∧ (s.g F.FAB_ID_VALID = 1 ∧ (s.routeTo d.dev).isSome = true ∧ c = s.chunk true ∧ n = d.len / 4 ∧ j ≤ (n + c - 1) / c) ∧ ((∀ i, i < j → ans[i]?.any (fun a => match a with | .ok ws => ws.length == min c (n - c * i) | _ => false) = true)) ∧ (j = (n + c - 1) / c ∨ ans[j]?.all (fun a => match a with | .ok _ => false | _ => true) = true)) ∧
    (∃ d : Desc, ∃ ans : List RemAns, ∃ j : Nat, ∃ c : Nat, ∃ n : Nat, ∃ s : State, (s.engineNext = some d ∧ d.opcode = 0x02 ∧ d.fits 0x02 = true ∧ d.dev ≠ s.myId) ∧ (s.g F.FAB_ID_VALID = 1 ∧ (s.routeTo d.dev).isSome = true ∧ c = s.chunk true ∧ n = d.len / 4 ∧ j ≤ (n + c - 1) / c) ∧ ((∀ i, i < j → ans[i]?.any (fun a => match a with | .ok ws => ws.length == min c (n - c * i) | _ => false) = true)) ∧ (j = (n + c - 1) / c ∨ ans[j]?.all (fun a => match a with | .ok _ => false | _ => true) = true)) ∧
    (∃ d : Desc, ∃ ans : List RemAns, ∃ j : Nat, ∃ c : Nat, ∃ n : Nat, ∃ s : State, (s.engineNext = some d ∧ d.opcode = 0x02 ∧ d.fits 0x02 = true ∧ d.dev ≠ s.myId) ∧ (s.g F.FAB_ID_VALID = 1 ∧ (s.routeTo d.dev).isSome = true ∧ c = s.chunk true ∧ n = d.len / 4 ∧ j ≤ (n + c - 1) / c) ∧ ((∀ i, i < j → ans[i]?.any (fun a => match a with | .ok ws => ws.length == min c (n - c * i) | _ => false) = true)) ∧ (j = (n + c - 1) / c ∨ ans[j]?.all (fun a => match a with | .ok _ => false | _ => true) = true)) ∧
    (∃ d : Desc, ∃ s : State, s.starts d 0x03 ∧ d.fits 0x03 = true ∧ s.freeBus ∧ d.loc % 4 = 0 ∧ (memOf d.loc).any (fun m => !m.1.isProg) = true) ∧
    (∃ d : Desc, ∃ r : Nat, ∃ s : State, (s.starts d 0x03 ∧ d.fits 0x03 = true ∧ s.freeBus ∧ s.stuck Asker.engine.master d.loc 4 = none) ∧ ((s.store (Src.matrix 6) d.loc d.arg1).1.hs = s.hs ∧ (s.store (Src.matrix 6) d.loc d.arg1).1.freeBus ∧ (∀ r ∈ [R.HOST_CQ_CFG, R.HOST_CQ_HEAD, R.HOST_CQ_TAIL, R.HOST_CQ_BASE_LO, R.HOST_CQ_BASE_HI, R.CHIP_STRAP], (s.store (Src.matrix 6) d.loc d.arg1).1.rd r = s.rd r)) ∧ (r / 0x10000 ≠ 0x030C ∧ (s.manager = true ∨ r / 0x10000 ≠ 0x0309) ∧ (s.store (Src.matrix 6) d.loc d.arg1).1.pw.owned = s.pw.owned ∧ (s.store (Src.matrix 6) d.loc d.arg1).1.g F.HOST_STAT_LINK_UP = s.g F.HOST_STAT_LINK_UP ∧ (s.store (Src.matrix 6) d.loc d.arg1).1.myId = s.myId)) ∧
    (∃ d : Desc, ∃ r : Nat, ∃ s : State, (s.starts d 0x03 ∧ d.fits 0x03 = true ∧ s.freeBus ∧ s.stuck Asker.engine.master d.loc 4 = none) ∧ ((s.store (Src.matrix 6) d.loc d.arg1).1.hs = s.hs ∧ (s.store (Src.matrix 6) d.loc d.arg1).1.freeBus ∧ (∀ r ∈ [R.HOST_CQ_CFG, R.HOST_CQ_HEAD, R.HOST_CQ_TAIL, R.HOST_CQ_BASE_LO, R.HOST_CQ_BASE_HI, R.CHIP_STRAP], (s.store (Src.matrix 6) d.loc d.arg1).1.rd r = s.rd r)) ∧ (r / 0x10000 ≠ 0x030C ∧ (s.manager = true ∨ r / 0x10000 ≠ 0x0309) ∧ (s.store (Src.matrix 6) d.loc d.arg1).1.pw.owned = s.pw.owned ∧ (s.store (Src.matrix 6) d.loc d.arg1).1.g F.HOST_STAT_LINK_UP = s.g F.HOST_STAT_LINK_UP ∧ (s.store (Src.matrix 6) d.loc d.arg1).1.myId = s.myId)) ∧
    (∃ d : Desc, ∃ v : Word, ∃ s : State, s.starts d 0x04 ∧ d.fits 0x04 = true ∧ s.stuck Asker.engine.master d.loc 4 = none ∧ (s.readAt (Src.matrix 6) d.loc 4 false).2 = .ok v) ∧
    (∃ d : Desc, ∃ s : State, s.starts d 0x04 ∧ d.fits 0x04 = true ∧ s.stuck Asker.engine.master d.loc 4 = none ∧ (s.readAt (Src.matrix 6) d.loc 4 false).2 = .err) ∧
    (∃ d : Desc, ∃ i : Instr, ∃ op : Nat, ∃ v : Word, ∃ ans : Option RemAns, ∃ s : State, ((i, op) ∈ [(Instr.regWrite ans, 3), (.regRead ans, 4)] ∧ s.freeBus) ∧ (s.engineNext = some d ∧ d.opcode = op ∧ d.fits op = true ∧ d.dev ≠ s.myId ∧ s.g F.FAB_ID_VALID = 1 ∧ (s.routeTo d.dev).isSome = true) ∧ (ans = some (.ok [v]) ∨ (v = 0 ∧ ans.all (fun a => match a with | .ok _ => false | _ => true) = true))) ∧
    (∃ d : Desc, ∃ i : Instr, ∃ op : Nat, ∃ v : Word, ∃ ans : Option RemAns, ∃ s : State, ((i, op) ∈ [(Instr.regWrite ans, 3), (.regRead ans, 4)] ∧ s.freeBus) ∧ (s.engineNext = some d ∧ d.opcode = op ∧ d.fits op = true ∧ d.dev ≠ s.myId ∧ s.g F.FAB_ID_VALID = 1 ∧ (s.routeTo d.dev).isSome = true) ∧ (ans = some (.ok [v]) ∨ (v = 0 ∧ ans.all (fun a => match a with | .ok _ => false | _ => true) = true))) ∧
    (∃ d : Desc, ∃ i : Instr, ∃ op : Nat, ∃ v : Word, ∃ ans : Option RemAns, ∃ s : State, ((i, op) ∈ [(Instr.regWrite ans, 3), (.regRead ans, 4)] ∧ s.freeBus) ∧ (s.engineNext = some d ∧ d.opcode = op ∧ d.fits op = true ∧ d.dev ≠ s.myId ∧ s.g F.FAB_ID_VALID = 1 ∧ (s.routeTo d.dev).isSome = true) ∧ (ans = some (.ok [v]) ∨ (v = 0 ∧ ans.all (fun a => match a with | .ok _ => false | _ => true) = true))) ∧
    (∃ i : Instr, ∃ op : Nat, ∃ buf : List Word, ∃ ans : List RemAns, ∃ an : Option RemAns, ∃ d : Desc, ∃ s : State, ((i, op) ∈ [(Instr.nopCommand, 0), (.memWrite buf ans, 1), (.memRead ans, 2), (.regWrite an, 3), (.regRead an, 4)] ∧ op ≠ 0) ∧ (s.engineNext = some d ∧ d.opcode = op ∧ d.fits op = true ∧ d.dev ≠ s.myId ∧ s.freeBus) ∧ (s.g F.FAB_ID_VALID = 0 ∨ s.routeTo d.dev = none) ∧ (op = 1 → s.hostReach = true ∧ d.len / 4 ≤ buf.length)) ∧
    (∃ i : Instr, ∃ op : Nat, ∃ buf : List Word, ∃ ans : List RemAns, ∃ an : Option RemAns, ∃ d : Desc, ∃ s : State, ((i, op) ∈ [(Instr.nopCommand, 0), (.memWrite buf ans, 1), (.memRead ans, 2), (.regWrite an, 3), (.regRead an, 4)] ∧ op ≠ 0) ∧ (s.engineNext = some d ∧ d.opcode = op ∧ d.fits op = true ∧ d.dev ≠ s.myId ∧ s.freeBus) ∧ (s.g F.FAB_ID_VALID = 0 ∨ s.routeTo d.dev = none) ∧ (op = 1 → s.hostReach = true ∧ d.len / 4 ≤ buf.length)) ∧
    (∃ i : Instr, ∃ op : Nat, ∃ buf : List Word, ∃ ans : List RemAns, ∃ an : Option RemAns, ∃ d : Desc, ∃ s : State, ((i, op) ∈ [(Instr.nopCommand, 0), (.memWrite buf ans, 1), (.memRead ans, 2), (.regWrite an, 3), (.regRead an, 4)] ∧ op ≠ 0) ∧ (s.engineNext = some d ∧ d.opcode = op ∧ d.fits op = true ∧ d.dev ≠ s.myId ∧ s.freeBus) ∧ (s.g F.FAB_ID_VALID = 0 ∨ s.routeTo d.dev = none) ∧ (op = 1 → s.hostReach = true ∧ d.len / 4 ≤ buf.length)) ∧
    (∃ i : Instr, ∃ op : Nat, ∃ buf : List Word, ∃ ans : List RemAns, ∃ an : Option RemAns, ∃ d : Desc, ∃ s : State, ((i, op) ∈ [(Instr.nopCommand, 0), (.memWrite buf ans, 1), (.memRead ans, 2), (.regWrite an, 3), (.regRead an, 4)] ∧ op ≠ 0) ∧ (s.engineNext = some d ∧ d.opcode = op ∧ d.fits op = true ∧ d.dev ≠ s.myId ∧ s.freeBus) ∧ (s.g F.FAB_ID_VALID = 0 ∨ s.routeTo d.dev = none) ∧ (op = 1 → s.hostReach = true ∧ d.len / 4 ≤ buf.length)) ∧
    (∃ k : Nat, ∃ a : Nat, ∃ i : Instr, ∃ op : Nat, ∃ buf : List Word, ∃ ans : List RemAns, ∃ an : Option RemAns, ∃ d : Desc, ∃ s : State, ((i, op) ∈ [(Instr.memWrite buf ans, 1), (.memRead ans, 2), (.regWrite an, 3), (.regRead an, 4)] ∧ s.engineNext = some d ∧ d.opcode = op ∧ d.fits op = true ∧ d.dev = s.myId ∧ s.hs.engErr = [] ∧ s.freeBus) ∧ ((op ≤ 2 ∧ a < d.loc + d.len ∧ d.loc ≤ a ∧ a % 4 = 0 ∧ d.loc % 4 = 0 ∧ ∀ n, n < (a - d.loc) / 4 → s.stuck Asker.engine.master (d.loc + 4 * n) 4 = none) ∨ (3 ≤ op ∧ a = d.loc)) ∧ (s.stuck Asker.engine.master a 4 = some k)) ∧
    (∃ k : Nat, ∃ a : Nat, ∃ i : Instr, ∃ op : Nat, ∃ buf : List Word, ∃ ans : List RemAns, ∃ an : Option RemAns, ∃ d : Desc, ∃ s : State, ((i, op) ∈ [(Instr.memWrite buf ans, 1), (.memRead ans, 2), (.regWrite an, 3), (.regRead an, 4)] ∧ s.engineNext = some d ∧ d.opcode = op ∧ d.fits op = true ∧ d.dev = s.myId ∧ s.hs.engErr = [] ∧ s.freeBus) ∧ ((op ≤ 2 ∧ a < d.loc + d.len ∧ d.loc ≤ a ∧ a % 4 = 0 ∧ d.loc % 4 = 0 ∧ ∀ n, n < (a - d.loc) / 4 → s.stuck Asker.engine.master (d.loc + 4 * n) 4 = none) ∨ (3 ≤ op ∧ a = d.loc)) ∧ (s.stuck Asker.engine.master a 4 = some k)) ∧
    (∃ k : Nat, ∃ a : Nat, ∃ i : Instr, ∃ op : Nat, ∃ buf : List Word, ∃ ans : List RemAns, ∃ an : Option RemAns, ∃ d : Desc, ∃ s : State, ((i, op) ∈ [(Instr.memWrite buf ans, 1), (.memRead ans, 2), (.regWrite an, 3), (.regRead an, 4)] ∧ s.engineNext = some d ∧ d.opcode = op ∧ d.fits op = true ∧ d.dev = s.myId ∧ s.hs.engErr = [] ∧ s.freeBus) ∧ ((op ≤ 2 ∧ a < d.loc + d.len ∧ d.loc ≤ a ∧ a % 4 = 0 ∧ d.loc % 4 = 0 ∧ ∀ n, n < (a - d.loc) / 4 → s.stuck Asker.engine.master (d.loc + 4 * n) 4 = none) ∨ (3 ≤ op ∧ a = d.loc)) ∧ (s.stuck Asker.engine.master a 4 = some k)) ∧
    (∃ k : Nat, ∃ a : Nat, ∃ i : Instr, ∃ op : Nat, ∃ buf : List Word, ∃ ans : List RemAns, ∃ an : Option RemAns, ∃ d : Desc, ∃ s : State, ((i, op) ∈ [(Instr.memWrite buf ans, 1), (.memRead ans, 2), (.regWrite an, 3), (.regRead an, 4)] ∧ s.engineNext = some d ∧ d.opcode = op ∧ d.fits op = true ∧ d.dev = s.myId ∧ s.hs.engErr = [] ∧ s.freeBus) ∧ ((op ≤ 2 ∧ a < d.loc + d.len ∧ d.loc ≤ a ∧ a % 4 = 0 ∧ d.loc % 4 = 0 ∧ ∀ n, n < (a - d.loc) / 4 → s.stuck Asker.engine.master (d.loc + 4 * n) 4 = none) ∨ (3 ≤ op ∧ a = d.loc)) ∧ (s.stuck Asker.engine.master a 4 = some k)) ∧
    (∃ a : Nat, ∃ i : Instr, ∃ op : Nat, ∃ buf : List Word, ∃ ans : List RemAns, ∃ an : Option RemAns, ∃ d : Desc, ∃ s : State, ((i, op) ∈ [(Instr.memWrite buf ans, 1), (.memRead ans, 2), (.regWrite an, 3), (.regRead an, 4)] ∧ s.engineNext = some d ∧ d.opcode = op ∧ d.fits op = true ∧ d.dev = s.myId ∧ s.hs.engErr = [] ∧ s.mx.atoms = []) ∧ ((op ≤ 2 ∧ a < d.loc + d.len ∧ d.loc ≤ a ∧ a % 4 = 0 ∧ d.loc % 4 = 0) ∨ (3 ≤ op ∧ a = d.loc)) ∧ (s.mx.hung = [⟨(s.farStuck a).getD 36, a, s.mx.hung.any Hung.reported, none, 4, .engine⟩] ∧ (s.farStuck a).isSome = true)) ∧
    (∃ a : Nat, ∃ i : Instr, ∃ op : Nat, ∃ buf : List Word, ∃ ans : List RemAns, ∃ an : Option RemAns, ∃ d : Desc, ∃ s : State, ((i, op) ∈ [(Instr.memWrite buf ans, 1), (.memRead ans, 2), (.regWrite an, 3), (.regRead an, 4)] ∧ s.engineNext = some d ∧ d.opcode = op ∧ d.fits op = true ∧ d.dev = s.myId ∧ s.hs.engErr = [] ∧ s.mx.atoms = []) ∧ ((op ≤ 2 ∧ a < d.loc + d.len ∧ d.loc ≤ a ∧ a % 4 = 0 ∧ d.loc % 4 = 0) ∨ (3 ≤ op ∧ a = d.loc)) ∧ (s.mx.hung = [⟨(s.farStuck a).getD 36, a, s.mx.hung.any Hung.reported, none, 4, .engine⟩] ∧ (s.farStuck a).isSome = true)) ∧
    (∃ d : Desc, ∃ i : Instr, ∃ op : Nat, ∃ ans : Option RemAns, ∃ s : State, ((i, op) ∈ [(Instr.regWrite ans, 3), (.regRead ans, 4)] ∧ s.freeBus) ∧ (s.engineNext = some d ∧ d.opcode = op ∧ d.fits op = true ∧ d.dev = s.myId ∧ s.hs.engErr.contains d.loc = true)) :=
  ⟨⟨testDesc [0x00001234, 0, 0, 0, 0, 0, 0, 0], testCmd [0x00001234, 0, 0, 0, 0, 0, 0, 0], by decide +kernel⟩,
   ⟨testDesc [0x00041234, 0, 0, 0, 0, 0, 0, 0], testCmd [0x00041234, 0, 0, 0, 0, 0, 0, 0], by decide +kernel⟩,
   ⟨.nopCommand, 0, [1], [], none, testDesc [0x00001234, 1, 0, 0, 0, 0, 0, 0], testCmd [0x00001234, 1, 0, 0, 0, 0, 0, 0], by decide +kernel⟩,
   ⟨.memWrite [1] [], 1, [1], [], none, testDesc [0x01801234, 4, 0, 0, 0x40, 0, 0, 0], testCmd [0x01801234, 4, 0, 0, 0x40, 0, 0, 0], by decide +kernel⟩,
   ⟨.memRead [], 2, [1], [], none, testDesc [0x02001234, 6, 0, 0, 0x40, 0, 0, 0], testCmd [0x02001234, 6, 0, 0, 0x40, 0, 0, 0], by decide +kernel⟩,
   ⟨.regWrite none, 3, [1], [], none, testDesc [0x03001234, 0, 0, 0, 0x40, 0x40, 0, 0], testCmd [0x03001234, 0, 0, 0, 0x40, 0x40, 0, 0], by decide +kernel⟩,
   ⟨.regRead none, 4, [1], [], none, testDesc [0x04001234, 4, 0, 0, 0x40, 0, 0, 0], testCmd [0x04001234, 4, 0, 0, 0x40, 0, 0, 0], by decide +kernel⟩,
   ⟨.memWrite [1] [], 1, [1], [], none, testCmd [0x00001234, 0, 0, 0, 0, 0, 0, 0], by decide +kernel⟩,
   ⟨.regRead none, 4, [1], [], none, State.reset, by decide +kernel⟩,
   ⟨testDesc [0x05001234, 0, 0, 0, 0, 0, 0, 0], testCmd [0x05001234, 0, 0, 0, 0, 0, 0, 0], by decide +kernel⟩,
   ⟨testCmd [0x00001234, 0, 0, 0, 0, 0, 0, 0], by decide +kernel⟩,
   ⟨testDesc [0x01001234, 12, 0, 0, 0x40, 0, 0, 0], [1, 2, 3, 4], testCmd [0x01001234, 12, 0, 0, 0x40, 0, 0, 0], by decide +kernel⟩,
   ⟨testDesc [0x01001234, 12, 0, 0, 0x40, 0, 0, 0], [1, 2], 0, testCmd [0x01001234, 12, 0, 0, 0x40, 0, 0, 0], by decide +kernel⟩,
   ⟨testDesc [0x01001234, 4100, 0, 0, 0x40, 0, 0, 0], List.replicate 1024 7#32, 1024, testCmd [0x01001234, 4100, 0, 0, 0x40, 0, 0, 0], by decide +kernel⟩,
   ⟨testDesc [0x01001234, 12, 0, 0, 0x40, 0, 0, 0], (testCmd [0x01001234, 12, 0, 0, 0x40, 0, 0, 0]).flag F.CHIP_STRAP_ROLE false, by decide +kernel⟩,
   ⟨testDesc [0x01001234, 12, 0x5000, 1, 0x40, 0, 0, 0], 2, [1, 2, 3], (((((((testCmd [0x01001234, 12, 0x5000, 1, 0x40, 0, 0, 0]).flag F.CHIP_STRAP_ROLE false).flag F.FAB_ID_VALID true)).flag (F.FAB_ROUTE_PRI_EN 0) true).p (F.FAB_ROUTE_PRI 0) 2).p (F.NGL_STAT_STATE 2) 6).p (F.FAB_PORT_CRED_CTRL 2) 4, by decide +kernel⟩,
   ⟨testDesc [0x01001234, 12, 0, 0, 0x41, 0, 0, 0], [1, 2, 3], 0, testCmd [0x01001234, 12, 0, 0, 0x41, 0, 0, 0], by decide +kernel⟩,
   ⟨testDesc [0x01001234, 12, 0, 0, 0x000FFFFC, 0, 0, 0], [1, 2, 3], 1, testCmd [0x01001234, 12, 0, 0, 0x000FFFFC, 0, 0, 0], by decide +kernel⟩,
   ⟨testDesc [0x01001234, 12, 0, 0, 0x40, 9, 0, 0], [1, 2, 3], [.ok []], 1, 1022, (((testCmd [0x01001234, 12, 0, 0, 0x40, 9, 0, 0]).flag F.FAB_ID_VALID true).flag (F.FAB_ROUTE_PRI_EN 9) true).p (F.FAB_ROUTE_PRI 9) 2 |>.p (F.NGL_STAT_STATE 2) 6, by decide +kernel⟩,
   ⟨testDesc [0x01001234, 12, 0, 0, 0x40, 9, 0, 0], [1, 2, 3], [.err], 0, 1022, (((testCmd [0x01001234, 12, 0, 0, 0x40, 9, 0, 0]).flag F.FAB_ID_VALID true).flag (F.FAB_ROUTE_PRI_EN 9) true).p (F.FAB_ROUTE_PRI 9) 2 |>.p (F.NGL_STAT_STATE 2) 6, by decide +kernel⟩,
   ⟨testDesc [0x01001234, 12, 0, 0, 0x40, 9, 0, 0], [1, 2, 3], [.timeout], 0, 1022, (((testCmd [0x01001234, 12, 0, 0, 0x40, 9, 0, 0]).flag F.FAB_ID_VALID true).flag (F.FAB_ROUTE_PRI_EN 9) true).p (F.FAB_ROUTE_PRI 9) 2 |>.p (F.NGL_STAT_STATE 2) 6, by decide +kernel⟩,
   ⟨testDesc [0x01001234, 4096, 0, 0, 0x40, 9, 0, 0], List.replicate 1024 7#32, [.ok []], 1, 1022, (((testCmd [0x01001234, 4096, 0, 0, 0x40, 9, 0, 0]).flag F.FAB_ID_VALID true).flag (F.FAB_ROUTE_PRI_EN 9) true).p (F.FAB_ROUTE_PRI 9) 2 |>.p (F.NGL_STAT_STATE 2) 6, by decide +kernel⟩,
   ⟨2, .memWrite [1, 2, 3] [], 1, [1, 2, 3], [], none, (((((testCmd [0x01001234, 12, 0, 0, 0x40, 9, 0, 0]).flag F.FAB_ID_VALID true).flag (F.FAB_ROUTE_PRI_EN 9) true).p (F.FAB_ROUTE_PRI 9) 2 |>.p (F.NGL_STAT_STATE 2) 6).p (F.FAB_PORT_CRED_CTRL 2) 4).descEnv (testDesc [0x01001234, 12, 0, 0, 0x40, 9, 0, 0]) 9 7, [3, 1, 2, 3], testDesc [0x01001234, 12, 0, 0, 0x40, 9, 0, 0], ((((testCmd [0x01001234, 12, 0, 0, 0x40, 9, 0, 0]).flag F.FAB_ID_VALID true).flag (F.FAB_ROUTE_PRI_EN 9) true).p (F.FAB_ROUTE_PRI 9) 2 |>.p (F.NGL_STAT_STATE 2) 6).p (F.FAB_PORT_CRED_CTRL 2) 4, by decide +kernel⟩,
   ⟨2, .memRead [], 2, [1, 2, 3], [], none, (((((testCmd [0x02001234, 12, 0, 0, 0x40, 9, 0, 0]).flag F.FAB_ID_VALID true).flag (F.FAB_ROUTE_PRI_EN 9) true).p (F.FAB_ROUTE_PRI 9) 2 |>.p (F.NGL_STAT_STATE 2) 6).p (F.FAB_PORT_CRED_CTRL 2) 4).descEnv (testDesc [0x02001234, 12, 0, 0, 0x40, 9, 0, 0]) 9 6, [3], testDesc [0x02001234, 12, 0, 0, 0x40, 9, 0, 0], ((((testCmd [0x02001234, 12, 0, 0, 0x40, 9, 0, 0]).flag F.FAB_ID_VALID true).flag (F.FAB_ROUTE_PRI_EN 9) true).p (F.FAB_ROUTE_PRI 9) 2 |>.p (F.NGL_STAT_STATE 2) 6).p (F.FAB_PORT_CRED_CTRL 2) 4, by decide +kernel⟩,
   ⟨2, .regWrite none, 3, [1, 2, 3], [], none, (((((testCmd [0x03001234, 0, 0, 0, 0x40, 9, 5, 0]).flag F.FAB_ID_VALID true).flag (F.FAB_ROUTE_PRI_EN 9) true).p (F.FAB_ROUTE_PRI 9) 2 |>.p (F.NGL_STAT_STATE 2) 6).p (F.FAB_PORT_CRED_CTRL 2) 4).descEnv (testDesc [0x03001234, 0, 0, 0, 0x40, 9, 5, 0]) 9 7, [1, 5], testDesc [0x03001234, 0, 0, 0, 0x40, 9, 5, 0], ((((testCmd [0x03001234, 0, 0, 0, 0x40, 9, 5, 0]).flag F.FAB_ID_VALID true).flag (F.FAB_ROUTE_PRI_EN 9) true).p (F.FAB_ROUTE_PRI 9) 2 |>.p (F.NGL_STAT_STATE 2) 6).p (F.FAB_PORT_CRED_CTRL 2) 4, by decide +kernel⟩,
   ⟨2, .regRead none, 4, [1, 2, 3], [], none, (((((testCmd [0x04001234, 0, 0, 0, 0x40, 9, 5, 0]).flag F.FAB_ID_VALID true).flag (F.FAB_ROUTE_PRI_EN 9) true).p (F.FAB_ROUTE_PRI 9) 2 |>.p (F.NGL_STAT_STATE 2) 6).p (F.FAB_PORT_CRED_CTRL 2) 4).descEnv (testDesc [0x04001234, 0, 0, 0, 0x40, 9, 5, 0]) 9 6, [1], testDesc [0x04001234, 0, 0, 0, 0x40, 9, 5, 0], ((((testCmd [0x04001234, 0, 0, 0, 0x40, 9, 5, 0]).flag F.FAB_ID_VALID true).flag (F.FAB_ROUTE_PRI_EN 9) true).p (F.FAB_ROUTE_PRI 9) 2 |>.p (F.NGL_STAT_STATE 2) 6).p (F.FAB_PORT_CRED_CTRL 2) 4, by decide +kernel⟩,
   ⟨testDesc [0x02001234, 12, 0x5000, 1, 0x40, 0, 0, 0], (testCmd [0x02001234, 12, 0x5000, 1, 0x40, 0, 0, 0]).setWord 0x44 7#32, by decide +kernel⟩,
   ⟨testDesc [0x02001234, 4100, 0x5000, 1, 0x40, 0, 0, 0], (testCmd [0x02001234, 4100, 0x5000, 1, 0x40, 0, 0, 0]).setWord 0x44 7#32, by decide +kernel⟩,
   ⟨testDesc [0x02001234, 12, 0, 0, 0x41, 0, 0, 0], 0, testCmd [0x02001234, 12, 0, 0, 0x41, 0, 0, 0], by decide +kernel⟩,
   ⟨testDesc [0x02001234, 8192, 0, 0, 0x000FEFFC, 0, 0, 0], 1025, testCmd [0x02001234, 8192, 0, 0, 0x000FEFFC, 0, 0, 0], by decide +kernel⟩,
   ⟨testDesc [0x02001234, 12, 0, 0, 0x40, 0, 0, 0], 1, (testCmd [0x02001234, 12, 0, 0, 0x40, 0, 0, 0]).setEcc 0x44 2, by decide +kernel⟩,
   ⟨testDesc [0x02001234, 12, 0x5000, 1, 0x40, 9, 0, 0], [.ok [1, 2, 3]], 1, 1022, 3, (((testCmd [0x02001234, 12, 0x5000, 1, 0x40, 9, 0, 0]).flag F.FAB_ID_VALID true).flag (F.FAB_ROUTE_PRI_EN 9) true).p (F.FAB_ROUTE_PRI 9) 2 |>.p (F.NGL_STAT_STATE 2) 6, by decide +kernel⟩,
   ⟨testDesc [0x02001234, 12, 0x5000, 1, 0x40, 9, 0, 0], [.err], 0, 1022, 3, (((testCmd [0x02001234, 12, 0x5000, 1, 0x40, 9, 0, 0]).flag F.FAB_ID_VALID true).flag (F.FAB_ROUTE_PRI_EN 9) true).p (F.FAB_ROUTE_PRI 9) 2 |>.p (F.NGL_STAT_STATE 2) 6, by decide +kernel⟩,
   ⟨testDesc [0x02001234, 12, 0x5000, 1, 0x40, 9, 0, 0], [], 0, 1022, 3, (((testCmd [0x02001234, 12, 0x5000, 1, 0x40, 9, 0, 0]).flag F.FAB_ID_VALID true).flag (F.FAB_ROUTE_PRI_EN 9) true).p (F.FAB_ROUTE_PRI 9) 2 |>.p (F.NGL_STAT_STATE 2) 6, by decide +kernel⟩,
   ⟨testDesc [0x03001234, 0, 0, 0, 0x40, 0, 9, 0], testCmd [0x03001234, 0, 0, 0, 0x40, 0, 9, 0], by decide +kernel⟩,
   ⟨testDesc [0x03001234, 0, 0, 0, 0x03010018, 0, 9, 0], 0x03010018, let u := testCmd [0x03001234, 0, 0, 0, 0x03010018, 0, 9, 0]; { u with hs := { u.hs with d3 := true } }, by decide +kernel⟩,
   ⟨testDesc [0x03001234, 0, 0, 0, 0x0F000000, 0, 9, 0], R.MTX_DECODE_CNT, let u := testCmd [0x03001234, 0, 0, 0, 0x0F000000, 0, 9, 0]; { u with hs := { u.hs with d3 := true } }, by decide +kernel⟩,
   ⟨testDesc [0x04001234, 0, 0, 0, 0x03000000, 0, 9, 0], State.reset.rd R.CHIP_ID, testCmd [0x04001234, 0, 0, 0, 0x03000000, 0, 9, 0], by decide +kernel⟩,
   ⟨testDesc [0x04001234, 0, 0, 0, 0x0F000000, 0, 9, 0], testCmd [0x04001234, 0, 0, 0, 0x0F000000, 0, 9, 0], by decide +kernel⟩,
   ⟨testDesc [0x04001234, 0, 0, 0, 0x03000000, 9, 0, 0], .regRead (some (.ok [7])), 4, 7#32, some (.ok [7]), (((testCmd [0x04001234, 0, 0, 0, 0x03000000, 9, 0, 0]).flag F.FAB_ID_VALID true).flag (F.FAB_ROUTE_PRI_EN 9) true).p (F.FAB_ROUTE_PRI 9) 2 |>.p (F.NGL_STAT_STATE 2) 6, by decide +kernel⟩,
   ⟨testDesc [0x03001234, 0, 0, 0, 0x03000000, 9, 0, 0], .regWrite (some .err), 3, 0#32, some .err, (((testCmd [0x03001234, 0, 0, 0, 0x03000000, 9, 0, 0]).flag F.FAB_ID_VALID true).flag (F.FAB_ROUTE_PRI_EN 9) true).p (F.FAB_ROUTE_PRI 9) 2 |>.p (F.NGL_STAT_STATE 2) 6, by decide +kernel⟩,
   ⟨testDesc [0x04001234, 0, 0, 0, 0x03000000, 9, 0, 0], .regRead none, 4, 0#32, none, (((testCmd [0x04001234, 0, 0, 0, 0x03000000, 9, 0, 0]).flag F.FAB_ID_VALID true).flag (F.FAB_ROUTE_PRI_EN 9) true).p (F.FAB_ROUTE_PRI 9) 2 |>.p (F.NGL_STAT_STATE 2) 6, by decide +kernel⟩,
   ⟨.memWrite [1] [], 1, [1], [], none, testDesc [0x01001234, 4, 0, 0, 0x40, 9, 0, 0], testCmd [0x01001234, 4, 0, 0, 0x40, 9, 0, 0], by decide +kernel⟩,
   ⟨.memRead [], 2, [1], [], none, testDesc [0x02001234, 4, 0, 0, 0x40, 9, 0, 0], testCmd [0x02001234, 4, 0, 0, 0x40, 9, 0, 0], by decide +kernel⟩,
   ⟨.regWrite none, 3, [1], [], none, testDesc [0x03001234, 0, 0, 0, 0x40, 9, 0, 0], testCmd [0x03001234, 0, 0, 0, 0x40, 9, 0, 0], by decide +kernel⟩,
   ⟨.regRead none, 4, [1], [], none, testDesc [0x04001234, 0, 0, 0, 0x40, 9, 0, 0], testCmd [0x04001234, 0, 0, 0, 0x40, 9, 0, 0], by decide +kernel⟩,
   ⟨24, 0x03080110, .regRead none, 4, [1], [], none, testDesc [0x04001234, 0, 0, 0, 0x03080110, 0, 0, 0], testCmd [0x04001234, 0, 0, 0, 0x03080110, 0, 0, 0], by decide +kernel⟩,
   ⟨24, 0x03080110, .regWrite none, 3, [1], [], none, testDesc [0x03001234, 0, 0, 0, 0x03080110, 0, 0, 0], testCmd [0x03001234, 0, 0, 0, 0x03080110, 0, 0, 0], by decide +kernel⟩,
   ⟨24, 0x03080110, .memRead [], 2, [1], [], none, testDesc [0x02001234, 8, 0, 0, 0x0308010C, 0, 0, 0], testCmd [0x02001234, 8, 0, 0, 0x0308010C, 0, 0, 0], by decide +kernel⟩,
   ⟨24, 0x03080110, .memWrite [1] [], 1, [1], [], none, testDesc [0x01001234, 8, 0, 0, 0x0308010C, 0, 0, 0], testCmd [0x01001234, 8, 0, 0, 0x0308010C, 0, 0, 0], by decide +kernel⟩,
   ⟨0x03080110, .regRead none, 4, [1], [], none, testDesc [0x04001234, 0, 0, 0, 0x03080110, 0, 0, 0], let u := testCmd [0x04001234, 0, 0, 0, 0x03080110, 0, 0, 0]; { u with mx := { u.mx with hung := [⟨24, 0x03080110, false, none, 4, .engine⟩] } }, by decide +kernel⟩,
   ⟨0x03080110, .memWrite [1] [], 1, [1], [], none, testDesc [0x01001234, 8, 0, 0, 0x0308010C, 0, 0, 0], let u := testCmd [0x01001234, 8, 0, 0, 0x0308010C, 0, 0, 0]; { u with mx := { u.mx with hung := [⟨24, 0x03080110, false, none, 4, .engine⟩] } }, by decide +kernel⟩,
   ⟨testDesc [0x04001234, 0, 0, 0, 0x03070008, 0, 0, 0], .regRead none, 4, none, let u := testCmd [0x04001234, 0, 0, 0, 0x03070008, 0, 0, 0]; { u with hs := { u.hs with engErr := [0x03070008] } }, by decide +kernel⟩⟩

theorem test_hyps_HostLoadsProgramsAndTables :
    (∃ d : Desc, ∃ buf : List Word, ∃ crc : Word, ∃ s : State, (s.starts d 0x10 ∧ s.hostReach = true ∧ d.fits 0x10 = true ∧ d.len / 4 ≤ buf.length ∧ crc = crc32 (buf.take (d.len / 4))) ∧ (d.clusters ≠ [] ∧ (∀ c, c ∈ d.clusters → s.g (F.CL_STAT_STATE c) ≤ 2) ∧ s.g F.MEM_INJ_CTL_ARMED = 0)) ∧
    (∃ d : Desc, ∃ buf : List Word, ∃ crc : Word, ∃ s : State, (s.starts d 0x10 ∧ s.hostReach = true ∧ d.fits 0x10 = true ∧ d.len / 4 ≤ buf.length ∧ crc = crc32 (buf.take (d.len / 4))) ∧ (d.clusters ≠ [] ∧ (∀ c, c ∈ d.clusters → s.g (F.CL_STAT_STATE c) ≤ 2) ∧ s.g F.MEM_INJ_CTL_ARMED = 0)) ∧
    (∃ d : Desc, ∃ buf : List Word, ∃ s : State, s.starts d 0x10 ∧ s.hostReach = true ∧ d.fits 0x10 = true ∧ d.len / 4 ≤ buf.length ∧ d.clusters = []) ∧
    (∃ d : Desc, ∃ c : Nat, ∃ s : State, s.engineNext = some d ∧ d.opcode = 0x10 ∧ c ∈ d.clusters ∧ 3 ≤ s.g (F.CL_STAT_STATE c)) ∧
    (∃ d : Desc, ∃ buf : List Word, ∃ s : State, (s.starts d 0x11 ∧ s.hostReach = true ∧ d.len = 8192 ∧ s.g F.FCST_TT_CTL_STATE ≠ 1) ∧ (2048 ≤ buf.length)) ∧
    (∃ d : Desc, ∃ buf : List Word, ∃ s : State, (s.starts d 0x11 ∧ s.hostReach = true ∧ d.len = 8192 ∧ s.g F.FCST_TT_CTL_STATE ≠ 1) ∧ (2048 ≤ buf.length)) ∧
    (∃ d : Desc, ∃ buf : List Word, ∃ s : State, s.starts d 0x11 ∧ s.hostReach = true ∧ d.fits 0x11 = true ∧ s.g F.FCST_TT_CTL_STATE = 1 ∧ s.chunk false ≤ buf.length) ∧
    (∃ d : Desc, ∃ buf : List Word, ∃ s : State, (s.starts d 0x12 ∧ s.hostReach = true ∧ d.len = 133120 ) ∧ (33280 ≤ buf.length)) ∧
    (∃ d : Desc, ∃ buf : List Word, ∃ s : State, (s.starts d 0x12 ∧ s.hostReach = true ∧ d.len = 133120 ) ∧ (33280 ≤ buf.length)) ∧
    (∃ d : Desc, ∃ buf : List Word, ∃ x : Nat, ∃ s : State, (s.starts d 0x13 ∧ s.hostReach = true ∧ d.fits 0x13 = true ∧ d.tgt = 0 ∧ d.len / 4 ≤ buf.length) ∧ (s.ttValid s.ttSel d.arg0 = true ∧ s.g (F.XING_CS_XF d.arg0) = 0 ∧ x = bitsOf (s.ttw s.ttSel d.arg0 (6 + (1 - s.g (F.XING_CS_TARGET d.arg0)))) 19 0) ∧ (∀ c, c ∈ s.ttClusters s.ttSel d.arg0 → ∀ i, i < d.len / 4 → (laneByte c (x + i)).isSome = true)) ∧
    (∃ d : Desc, ∃ buf : List Word, ∃ x : Nat, ∃ n : Fin 32, ∃ ok : Bool, ∃ s : State, (s.starts d 0x13 ∧ s.hostReach = true ∧ d.fits 0x13 = true ∧ d.tgt ≠ 0 ∧ d.len / 4 ≤ buf.length) ∧ (s.ttValid s.ttSel d.arg0 = true ∧ s.g (F.XING_CS_XF d.arg0) = 0 ∧ x = bitsOf (s.ttw s.ttSel d.arg0 (6 + (1 - s.g (F.XING_CS_TARGET d.arg0)))) 19 0) ∧ (∀ c, c ∈ s.ttClusters s.ttSel d.arg0 → ∀ i, i < d.len / 4 → (laneByte c (x + i)).isSome = true) ∧ (s.schedState false n ≠ 1 ∧ (∀ m, m < n.val → s.schedState false m = 1) ∧ ok = (decide (s.tick + 2 ≤ d.tgt) && !s.schedTwice false n 2 d.arg0 d.tgt))) ∧
    (∃ d : Desc, ∃ buf : List Word, ∃ x : Nat, ∃ n : Fin 32, ∃ ok : Bool, ∃ s : State, (s.starts d 0x13 ∧ s.hostReach = true ∧ d.fits 0x13 = true ∧ d.tgt ≠ 0 ∧ d.len / 4 ≤ buf.length) ∧ (s.ttValid s.ttSel d.arg0 = true ∧ s.g (F.XING_CS_XF d.arg0) = 0 ∧ x = bitsOf (s.ttw s.ttSel d.arg0 (6 + (1 - s.g (F.XING_CS_TARGET d.arg0)))) 19 0) ∧ (∀ c, c ∈ s.ttClusters s.ttSel d.arg0 → ∀ i, i < d.len / 4 → (laneByte c (x + i)).isSome = true) ∧ (s.schedState false n ≠ 1 ∧ (∀ m, m < n.val → s.schedState false m = 1) ∧ ok = (decide (s.tick + 2 ≤ d.tgt) && !s.schedTwice false n 2 d.arg0 d.tgt))) ∧
    (∃ d : Desc, ∃ buf : List Word, ∃ x : Nat, ∃ j : Nat, ∃ s : State, (s.starts d 0x13 ∧ s.hostReach = true ∧ d.fits 0x13 = true ∧ d.len / 4 ≤ buf.length) ∧ (s.ttValid s.ttSel d.arg0 = true ∧ s.g (F.XING_CS_XF d.arg0) = 0 ∧ x = bitsOf (s.ttw s.ttSel d.arg0 (6 + (1 - s.g (F.XING_CS_TARGET d.arg0)))) 19 0) ∧ (s.ttClusters s.ttSel d.arg0 ≠ [] ∧ j < d.len / 4 ∧ (∀ c, c ∈ s.ttClusters s.ttSel d.arg0 → (laneByte c (x + j)).isNone = true)) ∧ (∀ c, c ∈ s.ttClusters s.ttSel d.arg0 → ∀ i, i < j → (laneByte c (x + i)).isSome = true)) ∧
    (∃ d : Desc, ∃ s : State, (s.starts d 0x13 ∧ d.fits 0x13 = true) ∧ (s.ttValid s.ttSel d.arg0 = false ∨ s.g (F.XING_CS_XF d.arg0) = 1)) ∧
    (∃ d : Desc, ∃ n : Fin 32, ∃ ty : Nat, ∃ s : State, (s.starts d 0x14 ∧ ty = bitsOf (d.w 4) 3 0 ∧ 1 ≤ ty ∧ ty ≤ 5 ∧ argSuits ty d.arg0 = true ∧ s.tick + 2 ≤ d.tgt) ∧ (s.schedState false n ≠ 1 ∧ (∀ m, m < n.val → s.schedState false m = 1) ∧ s.schedTwice false n ty d.arg0 d.tgt = false)) ∧
    (∃ d : Desc, ∃ n : Fin 32, ∃ ty : Nat, ∃ s : State, (s.starts d 0x14 ∧ ty = bitsOf (d.w 4) 3 0) ∧ (d.tgt < s.tick + 2 ∨ ty = 0 ∨ 6 ≤ ty ∨ argSuits ty d.arg0 = false ∨ s.schedTwice false n ty d.arg0 d.tgt = true) ∧ (s.schedState false n ≠ 1 ∧ (∀ m, m < n.val → s.schedState false m = 1))) ∧
    (∃ d : Desc, ∃ n : Fin 32, ∃ ty : Nat, ∃ s : State, (s.starts d 0x14 ∧ ty = bitsOf (d.w 4) 3 0) ∧ (d.tgt < s.tick + 2 ∨ ty = 0 ∨ 6 ≤ ty ∨ argSuits ty d.arg0 = false ∨ s.schedTwice false n ty d.arg0 d.tgt = true) ∧ (s.schedState false n ≠ 1 ∧ (∀ m, m < n.val → s.schedState false m = 1))) ∧
    (∃ d : Desc, ∃ n : Fin 32, ∃ ty : Nat, ∃ s : State, (s.starts d 0x14 ∧ ty = bitsOf (d.w 4) 3 0) ∧ (d.tgt < s.tick + 2 ∨ ty = 0 ∨ 6 ≤ ty ∨ argSuits ty d.arg0 = false ∨ s.schedTwice false n ty d.arg0 d.tgt = true) ∧ (s.schedState false n ≠ 1 ∧ (∀ m, m < n.val → s.schedState false m = 1))) ∧
    (∃ d : Desc, ∃ n : Fin 32, ∃ ty : Nat, ∃ s : State, (s.starts d 0x14 ∧ ty = bitsOf (d.w 4) 3 0) ∧ (d.tgt < s.tick + 2 ∨ ty = 0 ∨ 6 ≤ ty ∨ argSuits ty d.arg0 = false ∨ s.schedTwice false n ty d.arg0 d.tgt = true) ∧ (s.schedState false n ≠ 1 ∧ (∀ m, m < n.val → s.schedState false m = 1))) ∧
    (∃ d : Desc, ∃ s : State, (s.starts d 0x14) ∧ (∀ m : Fin 32, s.schedState false m = 1)) ∧
    (∃ i : Instr, ∃ op : Nat, ∃ buf : List Word, ∃ d : Desc, ∃ s : State, ((i, op) ∈ [(Instr.loadProg buf, 0x10), (.loadTt buf, 0x11), (.loadXing buf, 0x12), (.loadCoef buf, 0x13), (.schedule, 0x14)]) ∧ (s.misfit d op) ∧ ((op = 0x10 → ∀ c, c ∈ d.clusters → s.g (F.CL_STAT_STATE c) < 3))) ∧
    (∃ i : Instr, ∃ op : Nat, ∃ buf : List Word, ∃ d : Desc, ∃ s : State, ((i, op) ∈ [(Instr.loadProg buf, 0x10), (.loadTt buf, 0x11), (.loadXing buf, 0x12), (.loadCoef buf, 0x13), (.schedule, 0x14)]) ∧ (s.misfit d op) ∧ ((op = 0x10 → ∀ c, c ∈ d.clusters → s.g (F.CL_STAT_STATE c) < 3))) ∧
    (∃ i : Instr, ∃ op : Nat, ∃ buf : List Word, ∃ d : Desc, ∃ s : State, ((i, op) ∈ [(Instr.loadProg buf, 0x10), (.loadTt buf, 0x11), (.loadXing buf, 0x12), (.loadCoef buf, 0x13), (.schedule, 0x14)]) ∧ (s.misfit d op) ∧ ((op = 0x10 → ∀ c, c ∈ d.clusters → s.g (F.CL_STAT_STATE c) < 3))) ∧
    (∃ i : Instr, ∃ op : Nat, ∃ buf : List Word, ∃ d : Desc, ∃ s : State, ((i, op) ∈ [(Instr.loadProg buf, 0x10), (.loadTt buf, 0x11), (.loadXing buf, 0x12), (.loadCoef buf, 0x13), (.schedule, 0x14)]) ∧ (s.misfit d op) ∧ ((op = 0x10 → ∀ c, c ∈ d.clusters → s.g (F.CL_STAT_STATE c) < 3))) ∧
    (∃ i : Instr, ∃ op : Nat, ∃ buf : List Word, ∃ d : Desc, ∃ s : State, ((i, op) ∈ [(Instr.loadProg buf, 0x10), (.loadTt buf, 0x11), (.loadXing buf, 0x12), (.loadCoef buf, 0x13), (.schedule, 0x14)]) ∧ (s.misfit d op) ∧ ((op = 0x10 → ∀ c, c ∈ d.clusters → s.g (F.CL_STAT_STATE c) < 3))) ∧
    (∃ i : Instr, ∃ op : Nat, ∃ buf : List Word, ∃ s : State, ((i, op) ∈ [(Instr.loadProg buf, 0x10), (.loadTt buf, 0x11), (.loadXing buf, 0x12), (.loadCoef buf, 0x13), (.schedule, 0x14)]) ∧ (s.engineNext.all (fun d => d.opcode != op) = true)) ∧
    (∃ i : Instr, ∃ op : Nat, ∃ buf : List Word, ∃ d : Desc, ∃ s : State, ((i, op) ∈ [(Instr.loadProg buf, 0x10), (.loadTt buf, 0x11), (.loadXing buf, 0x12), (.loadCoef buf, 0x13), (.schedule, 0x14)] ∧ op ≠ 0x14 ∧ s.starts d op ∧ d.fits op = true ∧ (op = 0x10 → ∀ c, c ∈ d.clusters → s.g (F.CL_STAT_STATE c) < 3)) ∧ ((op = 0x11 → s.g F.FCST_TT_CTL_STATE ≠ 1) ∧ (op = 0x13 → s.ttValid s.ttSel d.arg0 = true ∧ s.g (F.XING_CS_XF d.arg0) = 0)) ∧ (buf.length < min (s.chunk false) (d.len / 4) ∨ (s.hostReach = false ∧ 0 < d.len / 4))) ∧
    (∃ i : Instr, ∃ op : Nat, ∃ buf : List Word, ∃ d : Desc, ∃ s : State, ((i, op) ∈ [(Instr.loadProg buf, 0x10), (.loadTt buf, 0x11), (.loadXing buf, 0x12), (.loadCoef buf, 0x13), (.schedule, 0x14)] ∧ op ≠ 0x14 ∧ s.starts d op ∧ d.fits op = true ∧ (op = 0x10 → ∀ c, c ∈ d.clusters → s.g (F.CL_STAT_STATE c) < 3)) ∧ ((op = 0x11 → s.g F.FCST_TT_CTL_STATE ≠ 1) ∧ (op = 0x13 → s.ttValid s.ttSel d.arg0 = true ∧ s.g (F.XING_CS_XF d.arg0) = 0)) ∧ (buf.length < min (s.chunk false) (d.len / 4) ∨ (s.hostReach = false ∧ 0 < d.len / 4))) ∧
    (∃ i : Instr, ∃ op : Nat, ∃ buf : List Word, ∃ d : Desc, ∃ s : State, ((i, op) ∈ [(Instr.loadProg buf, 0x10), (.loadTt buf, 0x11), (.loadXing buf, 0x12), (.loadCoef buf, 0x13), (.schedule, 0x14)] ∧ op ≠ 0x14 ∧ s.starts d op ∧ d.fits op = true ∧ (op = 0x10 → ∀ c, c ∈ d.clusters → s.g (F.CL_STAT_STATE c) < 3)) ∧ ((op = 0x11 → s.g F.FCST_TT_CTL_STATE ≠ 1) ∧ (op = 0x13 → s.ttValid s.ttSel d.arg0 = true ∧ s.g (F.XING_CS_XF d.arg0) = 0)) ∧ (buf.length < min (s.chunk false) (d.len / 4) ∨ (s.hostReach = false ∧ 0 < d.len / 4))) ∧
    (∃ i : Instr, ∃ op : Nat, ∃ buf : List Word, ∃ d : Desc, ∃ s : State, ((i, op) ∈ [(Instr.loadProg buf, 0x10), (.loadTt buf, 0x11), (.loadXing buf, 0x12), (.loadCoef buf, 0x13), (.schedule, 0x14)] ∧ op ≠ 0x14 ∧ s.starts d op ∧ d.fits op = true ∧ (op = 0x10 → ∀ c, c ∈ d.clusters → s.g (F.CL_STAT_STATE c) < 3)) ∧ ((op = 0x11 → s.g F.FCST_TT_CTL_STATE ≠ 1) ∧ (op = 0x13 → s.ttValid s.ttSel d.arg0 = true ∧ s.g (F.XING_CS_XF d.arg0) = 0)) ∧ (buf.length < min (s.chunk false) (d.len / 4) ∨ (s.hostReach = false ∧ 0 < d.len / 4))) :=
  ⟨⟨testDesc [0x10001234, 16, 0, 0, 8190, 0x80010000, crc32 [1, 2, 3, 4], 0], [1, 2, 3, 4], crc32 [1, 2, 3, 4], ((testCmd [0x10001234, 16, 0, 0, 8190, 0x80010000, crc32 [1, 2, 3, 4], 0]).p (F.CL_STAT_STATE 0) 2).p (F.CL_STAT_STATE 15) 1, by decide +kernel⟩,
   ⟨testDesc [0x10001234, 16, 0, 0, 0, 0x80010000, 5, 0], [1, 2, 3, 4], crc32 [1, 2, 3, 4], ((testCmd [0x10001234, 16, 0, 0, 0, 0x80010000, 5, 0]).p (F.CL_STAT_STATE 0) 2).p (F.CL_STAT_STATE 15) 1, by decide +kernel⟩,
   ⟨testDesc [0x10001234, 16, 0, 0, 8190, 0, 0, 0], [1, 2, 3, 4], testCmd [0x10001234, 16, 0, 0, 8190, 0, 0, 0], by decide +kernel⟩,
   ⟨testDesc [0x10001234, 16, 0, 0, 8190, 0x80010000, 0, 0], 15, (testCmd [0x10001234, 16, 0, 0, 8190, 0x80010000, 0, 0]).p (F.CL_STAT_STATE 15) 3, by decide +kernel⟩,
   ⟨testDesc [0x11001234, 8192, 0, 0, 0, 0, 0, 0], List.replicate 2048 0#32, testCmd [0x11001234, 8192, 0, 0, 0, 0, 0, 0], by decide +kernel⟩,
   ⟨testDesc [0x11001234, 8192, 0, 0, 0, 0, 5, 0], List.replicate 2048 0#32, testCmd [0x11001234, 8192, 0, 0, 0, 0, 5, 0], by decide +kernel⟩,
   ⟨testDesc [0x11001234, 8192, 0, 0, 0, 0, 5, 0], List.replicate 1024 0#32, (testCmd [0x11001234, 8192, 0, 0, 0, 0, 5, 0]).p F.FCST_TT_CTL_STATE 1, by decide +kernel⟩,
   ⟨testDesc [0x12001234, 133120, 0, 0, 0, 0, 0, 0], List.replicate 33280 0#32, testCmd [0x12001234, 133120, 0, 0, 0, 0, 0, 0], by decide +kernel⟩,
   ⟨testDesc [0x12001234, 133120, 0, 0, 0, 0, 9, 0], List.replicate 33280 0#32, testCmd [0x12001234, 133120, 0, 0, 0, 0, 9, 0], by decide +kernel⟩,
   ⟨testDesc [0x13001234, 12, 0, 0, 0, 0x00050000, 0, 0], [1, 2, 3, 4], 0x100, let u := testCmd [0x13001234, 12, 0, 0, 0, 0x00050000, 0, 0]; { u with fc := { u.fc with tt := [(80, 0x80000003#32), (87, 0x100#32)] } }, by decide +kernel⟩,
   ⟨testDesc [0x13001234, 12, 0, 0, 0, 0x00050000, 9, 0], [1, 2, 3, 4], 0x100, 0, true, let u := testCmd [0x13001234, 12, 0, 0, 0, 0x00050000, 9, 0]; { u with fc := { u.fc with tt := [(80, 0x80000003#32), (87, 0x100#32)] } }, by decide +kernel⟩,
   ⟨testDesc [0x13001234, 12, 0, 0, 0, 0x00050000, 1, 0], [1, 2, 3, 4], 0x100, 0, false, let u := testCmd [0x13001234, 12, 0, 0, 0, 0x00050000, 1, 0]; { u with fc := { u.fc with tt := [(80, 0x80000003#32), (87, 0x100#32)] } }, by decide +kernel⟩,
   ⟨testDesc [0x13001234, 12, 0, 0, 0, 0x00050000, 0, 0], [1, 2, 3, 4], 0xFFFFF, 1, let u := testCmd [0x13001234, 12, 0, 0, 0, 0x00050000, 0, 0]; { u with fc := { u.fc with tt := [(80, 0x80000003#32), (81, 3#32), (87, 0xFFFFF#32)] } }, by decide +kernel⟩,
   ⟨testDesc [0x13001234, 12, 0, 0, 0, 0x00050000, 0, 0], testCmd [0x13001234, 12, 0, 0, 0, 0x00050000, 0, 0], by decide +kernel⟩,
   ⟨testDesc [0x14001234, 0, 0, 0, 2, 0x00050000, 9, 0], 1, 2, (testCmd [0x14001234, 0, 0, 0, 2, 0x00050000, 9, 0]).wr (R.TIME_SCHED_ACT 0) 0x20000000#32, by decide +kernel⟩,
   ⟨testDesc [0x14001234, 0, 0, 0, 2, 0x00050000, 1, 0], 0, 2, testCmd [0x14001234, 0, 0, 0, 2, 0x00050000, 1, 0], by decide +kernel⟩,
   ⟨testDesc [0x14001234, 0, 0, 0, 9, 0x00050000, 9, 0], 0, 9, testCmd [0x14001234, 0, 0, 0, 9, 0x00050000, 9, 0], by decide +kernel⟩,
   ⟨testDesc [0x14001234, 0, 0, 0, 3, 0x00060000, 9, 0], 0, 3, testCmd [0x14001234, 0, 0, 0, 3, 0x00060000, 9, 0], by decide +kernel⟩,
   ⟨testDesc [0x14001234, 0, 0, 0, 2, 0x00050000, 9, 0], 1, 2, let u := (testCmd [0x14001234, 0, 0, 0, 2, 0x00050000, 9, 0]).setSched false 0 1 2 5; { u with tm := { u.tm with schedTgt := [(0, 9)] } }, by decide +kernel⟩,
   ⟨testDesc [0x14001234, 0, 0, 0, 2, 0x00050000, 1, 0], (List.range 32).foldl (fun u n => u.wr (R.TIME_SCHED_ACT n) 0x20000000#32) (testCmd [0x14001234, 0, 0, 0, 2, 0x00050000, 1, 0]), by decide +kernel⟩,
   ⟨.loadProg [1], 0x10, [1], testDesc [0x10001234, 16, 0, 0, 8191, 0, 0, 0], testCmd [0x10001234, 16, 0, 0, 8191, 0, 0, 0], by decide +kernel⟩,
   ⟨.loadTt [1], 0x11, [1], testDesc [0x11001234, 4, 0, 0, 0, 0, 0, 0], testCmd [0x11001234, 4, 0, 0, 0, 0, 0, 0], by decide +kernel⟩,
   ⟨.loadXing [1], 0x12, [1], testDesc [0x12001234, 4, 0, 0, 0, 0, 0, 0], testCmd [0x12001234, 4, 0, 0, 0, 0, 0, 0], by decide +kernel⟩,
   ⟨.loadCoef [1], 0x13, [1], testDesc [0x13001234, 4, 0, 0, 0, 0x00800000, 0, 0], testCmd [0x13001234, 4, 0, 0, 0, 0x00800000, 0, 0], by decide +kernel⟩,
   ⟨.schedule, 0x14, [1], testDesc [0x14001234, 4, 0, 0, 0, 9, 0, 0], testCmd [0x14001234, 4, 0, 0, 0, 9, 0, 0], by decide +kernel⟩,
   ⟨.loadProg [1], 0x10, [1], testCmd [0x00001234, 0, 0, 0, 0, 0, 0, 0], by decide +kernel⟩,
   ⟨.loadProg [1], 0x10, [1], testDesc [0x10001234, 16, 0, 0, 8190, 0x00010000, 0, 0], testCmd [0x10001234, 16, 0, 0, 8190, 0x00010000, 0, 0], by decide +kernel⟩,
   ⟨.loadTt [1], 0x11, [1], testDesc [0x11001234, 8192, 0, 0, 0, 0, 0, 0], testCmd [0x11001234, 8192, 0, 0, 0, 0, 0, 0], by decide +kernel⟩,
   ⟨.loadXing [1], 0x12, [1], testDesc [0x12001234, 133120, 0, 0, 0, 0, 0, 0], testCmd [0x12001234, 133120, 0, 0, 0, 0, 0, 0], by decide +kernel⟩,
   ⟨.loadCoef [1], 0x13, [1], testDesc [0x13001234, 12, 0, 0, 0, 0x00050000, 0, 0], let u := testCmd [0x13001234, 12, 0, 0, 0, 0x00050000, 0, 0]; { u with fc := { u.fc with tt := [(80, 0x80000003#32), (87, 0x100#32)] } }, by decide +kernel⟩⟩

theorem test_hyps_HostSetsFlowsAndReadsReports :
    (∃ d : Desc, ∃ f : Nat, ∃ buf : List Word, ∃ s : State, (s.starts d 0x20 ∧ s.hostReach = true ∧ d.fits 0x20 = true ∧ 8 ≤ buf.length ∧ buf.getD 7 0 = 0 ∧ f = bitsOf (d.w 4) 9 0 ∧ f ≠ 0 ∧ s.g (F.FAB_FLOW_W0_VALID f) = 0) ∧ ((buf.getD 0 0).getLsbD 31 = false ∧ bitsOf (buf.getD 0 0) 30 29 ≠ 3 ∧ 1 ≤ bitsOf (buf.getD 0 0) 8 0 ∧ bitsOf (buf.getD 0 0) 8 0 ≤ 256 ∧ bitsOf (buf.getD 3 0) 29 28 ≠ 3)) ∧
    (∃ d : Desc, ∃ f : Nat, ∃ buf : List Word, ∃ s : State, (s.starts d 0x20 ∧ s.hostReach = true ∧ d.fits 0x20 = true ∧ 8 ≤ buf.length ∧ buf.getD 7 0 = 0 ∧ f = bitsOf (d.w 4) 9 0 ∧ f ≠ 0 ∧ s.g (F.FAB_FLOW_W0_VALID f) = 0) ∧ ((buf.getD 0 0).getLsbD 31 = true ∧ bitsOf (buf.getD 3 0) 29 28 ≠ 3)) ∧
    (∃ d : Desc, ∃ f : Nat, ∃ buf : List Word, ∃ s : State, (s.starts d 0x20 ∧ s.hostReach = true ∧ d.fits 0x20 = true ∧ 8 ≤ buf.length ∧ buf.getD 7 0 = 0 ∧ f = bitsOf (d.w 4) 9 0 ∧ f ≠ 0 ∧ s.g (F.FAB_FLOW_W0_VALID f) = 0) ∧ ((buf.getD 0 0).getLsbD 31 = true ∧ bitsOf (buf.getD 3 0) 29 28 ≠ 3)) ∧
    (∃ d : Desc, ∃ f : Nat, ∃ buf : List Word, ∃ s : State, (s.starts d 0x20 ∧ s.hostReach = true ∧ d.fits 0x20 = true ∧ 8 ≤ buf.length ∧ buf.getD 7 0 = 0 ∧ f = bitsOf (d.w 4) 9 0 ∧ f ≠ 0 ∧ s.g (F.FAB_FLOW_W0_VALID f) = 0) ∧ ((buf.getD 0 0).getLsbD 31 = false ∧ (bitsOf (buf.getD 0 0) 30 29 = 3 ∨ bitsOf (buf.getD 0 0) 8 0 = 0 ∨ 256 < bitsOf (buf.getD 0 0) 8 0))) ∧
    (∃ d : Desc, ∃ f : Nat, ∃ buf : List Word, ∃ s : State, (s.starts d 0x20 ∧ s.hostReach = true ∧ d.fits 0x20 = true ∧ 8 ≤ buf.length ∧ buf.getD 7 0 = 0 ∧ f = bitsOf (d.w 4) 9 0 ∧ f ≠ 0 ∧ s.g (F.FAB_FLOW_W0_VALID f) = 0) ∧ ((buf.getD 0 0).getLsbD 31 = false ∧ (bitsOf (buf.getD 0 0) 30 29 = 3 ∨ bitsOf (buf.getD 0 0) 8 0 = 0 ∨ 256 < bitsOf (buf.getD 0 0) 8 0))) ∧
    (∃ d : Desc, ∃ f : Nat, ∃ buf : List Word, ∃ s : State, s.starts d 0x20 ∧ s.hostReach = true ∧ d.fits 0x20 = true ∧ 8 ≤ buf.length ∧ buf.getD 7 0 = 0 ∧ f = bitsOf (d.w 4) 9 0 ∧ f = 0) ∧
    (∃ d : Desc, ∃ f : Nat, ∃ buf : List Word, ∃ s : State, (s.starts d 0x20 ∧ s.hostReach = true ∧ d.fits 0x20 = true ∧ buf.length = 8 ∧ buf.getD 7 0 = 0 ∧ f = bitsOf (d.w 4) 9 0 ∧ f ≠ 0 ∧ s.g (F.FAB_FLOW_W0_VALID f) = 1) ∧ (s.rd (R.FAB_FLOW_W0 f) &&& 0xEFE001FF#32 = s.rd (R.FAB_FLOW_W0 f))) ∧
    (∃ d : Desc, ∃ ws : List Word, ∃ s : State, s.hs.flowWait = some (s.tick, d, ws)) ∧
    (∃ k : Nat, ∃ f : Nat, ∃ d : Desc, ∃ ws : List Word, ∃ s : State, (s.hs.flowWait = some (k, d, ws) ∧ s.tick ≠ k ∧ f = bitsOf (d.w 4) 9 0 ∧ f ≠ 0 ∧ s.g (F.FAB_FLOW_W0_VALID f) = 0 ∧ s.g F.HOST_CQ_CFG_EN = 1 ∧ 1 ≤ s.g F.HOST_CQ_CFG_SIZE ∧ s.g F.HOST_CQ_CFG_SIZE ≤ 4096) ∧ ((ws.getD 0 0).getLsbD 31 = false ∧ bitsOf (ws.getD 0 0) 30 29 ≠ 3 ∧ 1 ≤ bitsOf (ws.getD 0 0) 8 0 ∧ bitsOf (ws.getD 0 0) 8 0 ≤ 256 ∧ bitsOf (ws.getD 3 0) 29 28 ≠ 3)) ∧
    (∃ d : Desc, ∃ buf : List Word, ∃ s : State, s.starts d 0x20 ∧ s.hostReach = true ∧ d.fits 0x20 = true ∧ 8 ≤ buf.length ∧ buf.getD 7 0 ≠ 0) ∧
    (∃ d : Desc, ∃ e : Fin 96, ∃ v : Word, ∃ s : State, (s.starts d 0x30 ∧ s.hostReach = true ∧ d.len = 4 ∧ d.loc = 0x1004 + 64 * e.val ∧ bitsOf v 8 0 ≤ 400) ∧ (s.g F.LEVEE_SEAL_SEALED = 0 ∨ s.g (F.LEVEE_EL_PEAK_PEAK_ATT e) ≤ bitsOf v 8 0)) ∧
    (∃ d : Desc, ∃ e : Fin 96, ∃ v : Word, ∃ s : State, s.starts d 0x30 ∧ s.hostReach = true ∧ d.len = 4 ∧ d.loc = 0x1004 + 64 * e.val ∧ s.g F.LEVEE_SEAL_SEALED = 1 ∧ bitsOf v 8 0 < s.g (F.LEVEE_EL_PEAK_PEAK_ATT e) ∧ bitsOf v 8 0 ≤ 400) ∧
    (∃ d : Desc, ∃ e : Fin 96, ∃ v : Word, ∃ s : State, s.starts d 0x30 ∧ s.hostReach = true ∧ d.len = 4 ∧ d.loc = 0x1004 + 64 * e.val ∧ 400 < bitsOf v 8 0) ∧
    (∃ d : Desc, ∃ e : Fin 96, ∃ a : Word, ∃ b : Word, ∃ c : Word, ∃ n : Nat, ∃ s : State, (s.starts d 0x30 ∧ s.hostReach = true ∧ d.len = 12 ∧ d.loc = 0x1018 + 64 * e.val ∧ 1 ≤ bitsOf a 9 0 ∧ bitsOf a 9 0 ≤ 1000) ∧ (n = (if s.g F.LEVEE_SEAL_SEALED = 1 ∧ bitsOf a 9 0 < s.g (F.LEVEE_EL_SLEW_SLEW_MS e) then 1 else 0) + (if s.g F.LEVEE_SEAL_SEALED = 1 ∧ s.g (F.LEVEE_EL_IMAX_I_MAX e) < bitsOf b 23 0 then 1 else 0) + (if s.g F.LEVEE_SEAL_SEALED = 1 ∧ bitsOf c 23 0 < s.g (F.LEVEE_EL_VKNEE_V_KNEE e) then 1 else 0))) ∧
    (∃ d : Desc, ∃ e : Fin 96, ∃ a : Word, ∃ b : Word, ∃ c : Word, ∃ n : Nat, ∃ s : State, (s.starts d 0x30 ∧ s.hostReach = true ∧ d.len = 12 ∧ d.loc = 0x1018 + 64 * e.val ∧ 1 ≤ bitsOf a 9 0 ∧ bitsOf a 9 0 ≤ 1000) ∧ (n = (if s.g F.LEVEE_SEAL_SEALED = 1 ∧ bitsOf a 9 0 < s.g (F.LEVEE_EL_SLEW_SLEW_MS e) then 1 else 0) + (if s.g F.LEVEE_SEAL_SEALED = 1 ∧ s.g (F.LEVEE_EL_IMAX_I_MAX e) < bitsOf b 23 0 then 1 else 0) + (if s.g F.LEVEE_SEAL_SEALED = 1 ∧ bitsOf c 23 0 < s.g (F.LEVEE_EL_VKNEE_V_KNEE e) then 1 else 0))) ∧
    (∃ d : Desc, ∃ s : State, s.starts d 0x30 ∧ s.hostReach = true ∧ d.len = 4 ∧ d.fits 0x30 = true ∧ (regSpecAt (leveeBase + d.loc)).isSome = true) ∧
    (∃ d : Desc, ∃ s : State, s.starts d 0x30 ∧ s.hostReach = true ∧ d.len = 4 ∧ d.fits 0x30 = true ∧ (regSpecAt (leveeBase + d.loc)).isSome = true) ∧
    (∃ d : Desc, ∃ buf : List Word, ∃ s : State, s.starts d 0x30 ∧ s.hostReach = true ∧ d.fits 0x30 = true ∧ d.len / 4 ≤ buf.length ∧ (regSpecAt (leveeBase + d.loc)).isNone = true) ∧
    (∃ d : Desc, ∃ s : State, s.starts d 0x31 ∧ d.fits 0x31 = true) ∧
    (∃ d : Desc, ∃ buf : List Word, ∃ n : Nat, ∃ s : State, (s.starts d 0x40 ∧ s.hostReach = true ∧ d.fits 0x40 = true ∧ buf.length = d.len / 4 ∧ s.tm.phase = Phase.consign ∧ s.freeBus) ∧ (buf.all (fun a => (memOf a.toNat).any (fun m => !m.1.isProg) || !inAddressMap a.toNat || (decide (a.toNat % 4 ≠ 0) && decide (a.toNat < 0x03000000))) = true) ∧ (n = buf.countP (fun a => !(inAddressMap a.toNat && decide (a.toNat % 4 = 0) && decide (s.eccAt a.toNat ≤ 1))))) ∧
    (∃ d : Desc, ∃ buf : List Word, ∃ n : Nat, ∃ s : State, (s.starts d 0x40 ∧ s.hostReach = true ∧ d.fits 0x40 = true ∧ buf.length = d.len / 4 ∧ s.tm.phase = Phase.consign ∧ s.freeBus) ∧ (buf.all (fun a => (memOf a.toNat).any (fun m => !m.1.isProg) || !inAddressMap a.toNat || (decide (a.toNat % 4 ≠ 0) && decide (a.toNat < 0x03000000))) = true) ∧ (n = buf.countP (fun a => !(inAddressMap a.toNat && decide (a.toNat % 4 = 0) && decide (s.eccAt a.toNat ≤ 1))))) ∧
    (∃ d : Desc, ∃ a : Word, ∃ v : Option Word, ∃ s : State, (s.starts d 0x40 ∧ s.hostReach = true ∧ d.len = 4 ∧ s.tm.phase = Phase.consign ∧ s.stuck Asker.engine.master a.toNat 4 = none) ∧ ((s.readAt (Src.matrix 6) a.toNat 4 false).2 = (match v with | some x => BusAns.ok x | none => .err))) ∧
    (∃ d : Desc, ∃ a : Word, ∃ k : Nat, ∃ buf : List Word, ∃ s : State, (s.starts d 0x40 ∧ d.fits 0x40 = true ∧ s.tm.phase = Phase.consign ∧ s.freeBus) ∧ ((buf.take (d.len / 4)).find? (fun b => (s.stuck Asker.engine.master b.toNat 4).isSome) = some a ∧ s.stuck Asker.engine.master a.toNat 4 = some k)) ∧
    (∃ d : Desc, ∃ s : State, s.engineNext = some d ∧ d.opcode = 0x40 ∧ s.tm.phase ≠ Phase.consign) ∧
    (∃ d : Desc, ∃ s : State, s.starts d 0x50 ∧ d.fits 0x50 = true) ∧
    (∃ d : Desc, ∃ q : Fin 8, ∃ s : State, (s.starts d 0x50 ∧ d.fits 0x50 = true) ∧ (s.manager = false ∧ s.g F.FAB_ID_VALID = 1 ∧ s.routeTo 0 = some q.val ∧ (s.ngl q).quiet = false ∧ SMap.get noMsgs s.fb.txq (3 * q + 1) = [] ∧ 1 ≤ s.g (F.FAB_PORT_CRED_CTRL q) ∧ s.pw.owned = false)) ∧
    (∃ d : Desc, ∃ rd : Nat, ∃ k : Nat, ∃ s : State, s.starts d 0x51 ∧ d.fits 0x51 = true ∧ rd = s.g F.FAULT_REC_RD_RD ∧ k = min (d.len / 16) ((s.g F.FAULT_REC_WR_WR + 64 - rd) % 64)) ∧
    (∃ i : Instr, ∃ op : Nat, ∃ buf : List Word, ∃ d : Desc, ∃ s : State, ((i, op) ∈ [(Instr.flowSet buf, 0x20), (.leveeSet buf, 0x30), (.leveeSeal, 0x31), (.meterSnap buf, 0x40), (.health, 0x50), (.faultFetch, 0x51)]) ∧ (s.misfit d op) ∧ (op = 0x40 → s.tm.phase = Phase.consign)) ∧
    (∃ i : Instr, ∃ op : Nat, ∃ buf : List Word, ∃ d : Desc, ∃ s : State, ((i, op) ∈ [(Instr.flowSet buf, 0x20), (.leveeSet buf, 0x30), (.leveeSeal, 0x31), (.meterSnap buf, 0x40), (.health, 0x50), (.faultFetch, 0x51)]) ∧ (s.misfit d op) ∧ (op = 0x40 → s.tm.phase = Phase.consign)) ∧
    (∃ i : Instr, ∃ op : Nat, ∃ buf : List Word, ∃ d : Desc, ∃ s : State, ((i, op) ∈ [(Instr.flowSet buf, 0x20), (.leveeSet buf, 0x30), (.leveeSeal, 0x31), (.meterSnap buf, 0x40), (.health, 0x50), (.faultFetch, 0x51)]) ∧ (s.misfit d op) ∧ (op = 0x40 → s.tm.phase = Phase.consign)) ∧
    (∃ i : Instr, ∃ op : Nat, ∃ buf : List Word, ∃ d : Desc, ∃ s : State, ((i, op) ∈ [(Instr.flowSet buf, 0x20), (.leveeSet buf, 0x30), (.leveeSeal, 0x31), (.meterSnap buf, 0x40), (.health, 0x50), (.faultFetch, 0x51)]) ∧ (s.misfit d op) ∧ (op = 0x40 → s.tm.phase = Phase.consign)) ∧
    (∃ i : Instr, ∃ op : Nat, ∃ buf : List Word, ∃ d : Desc, ∃ s : State, ((i, op) ∈ [(Instr.flowSet buf, 0x20), (.leveeSet buf, 0x30), (.leveeSeal, 0x31), (.meterSnap buf, 0x40), (.health, 0x50), (.faultFetch, 0x51)]) ∧ (s.misfit d op) ∧ (op = 0x40 → s.tm.phase = Phase.consign)) ∧
    (∃ i : Instr, ∃ op : Nat, ∃ buf : List Word, ∃ d : Desc, ∃ s : State, ((i, op) ∈ [(Instr.flowSet buf, 0x20), (.leveeSet buf, 0x30), (.leveeSeal, 0x31), (.meterSnap buf, 0x40), (.health, 0x50), (.faultFetch, 0x51)]) ∧ (s.misfit d op) ∧ (op = 0x40 → s.tm.phase = Phase.consign)) ∧
    (∃ i : Instr, ∃ op : Nat, ∃ buf : List Word, ∃ s : State, ((i, op) ∈ [(Instr.flowSet buf, 0x20), (.leveeSet buf, 0x30), (.leveeSeal, 0x31), (.meterSnap buf, 0x40), (.health, 0x50), (.faultFetch, 0x51)]) ∧ (s.engineNext.all (fun d => d.opcode != op) = true ∧ (op = 0x20 → s.hs.flowWait = none))) ∧
    (∃ i : Instr, ∃ op : Nat, ∃ buf : List Word, ∃ d : Desc, ∃ s : State, ((i, op) ∈ [(Instr.flowSet buf, 0x20), (.leveeSet buf, 0x30), (.meterSnap buf, 0x40)] ∧ s.starts d op ∧ d.fits op = true) ∧ (buf.length < d.len / 4 ∨ s.hostReach = false) ∧ (op = 0x40 → s.tm.phase = Phase.consign ∧ buf.all (fun a => (s.stuck Asker.engine.master a.toNat 4).isNone) = true)) ∧
    (∃ i : Instr, ∃ op : Nat, ∃ buf : List Word, ∃ d : Desc, ∃ s : State, ((i, op) ∈ [(Instr.flowSet buf, 0x20), (.leveeSet buf, 0x30), (.meterSnap buf, 0x40)] ∧ s.starts d op ∧ d.fits op = true) ∧ (buf.length < d.len / 4 ∨ s.hostReach = false) ∧ (op = 0x40 → s.tm.phase = Phase.consign ∧ buf.all (fun a => (s.stuck Asker.engine.master a.toNat 4).isNone) = true)) ∧
    (∃ i : Instr, ∃ op : Nat, ∃ buf : List Word, ∃ d : Desc, ∃ s : State, ((i, op) ∈ [(Instr.flowSet buf, 0x20), (.leveeSet buf, 0x30), (.meterSnap buf, 0x40)] ∧ s.starts d op ∧ d.fits op = true) ∧ (buf.length < d.len / 4 ∨ s.hostReach = false) ∧ (op = 0x40 → s.tm.phase = Phase.consign ∧ buf.all (fun a => (s.stuck Asker.engine.master a.toNat 4).isNone) = true)) :=
  ⟨⟨testDesc [0x20001234, 32, 0, 0, 1023, 0, 0, 0], 1023, [0x00000008, 0x00010002, 0x40, 0x10001234, 4, 5, 6, 0], testCmd [0x20001234, 32, 0, 0, 1023, 0, 0, 0], by decide +kernel⟩,
   ⟨testDesc [0x20001234, 32, 0, 0, 1023, 0, 0, 0], 1023, [0x80000008, 0x00010002, 0x40, 0x10001234, 4, 5, 6, 0], testCmd [0x20001234, 32, 0, 0, 1023, 0, 0, 0], by decide +kernel⟩,
   ⟨testDesc [0x20001234, 32, 0, 0, 1023, 0, 0, 0], 1023, [0x80000200, 0x00010002, 0x40, 0x10001234, 4, 5, 6, 0], testCmd [0x20001234, 32, 0, 0, 1023, 0, 0, 0], by decide +kernel⟩,
   ⟨testDesc [0x20001234, 32, 0, 0, 1023, 0, 0, 0], 1023, [0x00000000, 0x00010002, 0x40, 0x10001234, 4, 5, 6, 0], testCmd [0x20001234, 32, 0, 0, 1023, 0, 0, 0], by decide +kernel⟩,
   ⟨testDesc [0x20001234, 32, 0, 0, 1023, 0, 0, 0], 1023, [0x60000101, 0x00010002, 0x40, 0x10001234, 4, 5, 6, 0], testCmd [0x20001234, 32, 0, 0, 1023, 0, 0, 0], by decide +kernel⟩,
   ⟨testDesc [0x20001234, 32, 0, 0, 1024, 0, 0, 0], 0, [0x00000008, 0x00010002, 0x40, 0x10001234, 4, 5, 6, 0], testCmd [0x20001234, 32, 0, 0, 1024, 0, 0, 0], by decide +kernel⟩,
   ⟨testDesc [0x20001234, 32, 0, 0, 1023, 0, 0, 0], 1023, [0x00000008, 0x00010002, 0x40, 0x10001234, 4, 5, 6, 0], (testCmd [0x20001234, 32, 0, 0, 1023, 0, 0, 0]).flag (F.FAB_FLOW_W0_VALID 1023) true, by decide +kernel⟩,
   ⟨testDesc [0x20001234, 32, 0, 0, 1023, 0, 0, 0], [0x00000008, 0x00010002, 0x40, 0x10001234, 4, 5, 6, 0], { testHost with hs := { testHost.hs with flowWait := some (0, testDesc [0x20001234, 32, 0, 0, 1023, 0, 0, 0], [0x00000008, 0x00010002, 0x40, 0x10001234, 4, 5, 6, 0]) } }, by decide +kernel⟩,
   ⟨7, 1023, testDesc [0x20001234, 32, 0, 0, 1023, 0, 0, 0], [0x00000008, 0x00010002, 0x40, 0x10001234, 4, 5, 6, 0], { testHost with hs := { testHost.hs with flowWait := some (7, testDesc [0x20001234, 32, 0, 0, 1023, 0, 0, 0], [0x00000008, 0x00010002, 0x40, 0x10001234, 4, 5, 6, 0]) } }, by decide +kernel⟩,
   ⟨testDesc [0x20001234, 32, 0, 0, 1023, 0, 0, 0], [0, 0, 0, 0, 0, 0, 0, 1], testCmd [0x20001234, 32, 0, 0, 1023, 0, 0, 0], by decide +kernel⟩,
   ⟨testDesc [0x30001234, 4, 0, 0, 0x27C4, 0, 0, 0], 95, 400#32, testCmd [0x30001234, 4, 0, 0, 0x27C4, 0, 0, 0], by decide +kernel⟩,
   ⟨testDesc [0x30001234, 4, 0, 0, 0x27C4, 0, 0, 0], 95, 5#32, ((testCmd [0x30001234, 4, 0, 0, 0x27C4, 0, 0, 0]).flag F.LEVEE_SEAL_SEALED true).p (F.LEVEE_EL_PEAK_PEAK_ATT 95) 6, by decide +kernel⟩,
   ⟨testDesc [0x30001234, 4, 0, 0, 0x27C4, 0, 0, 0], 95, 401#32, testCmd [0x30001234, 4, 0, 0, 0x27C4, 0, 0, 0], by decide +kernel⟩,
   ⟨testDesc [0x30001234, 12, 0, 0, 0x27D8, 0, 0, 0], 95, 5#32, 6#32, 7#32, 0, testCmd [0x30001234, 12, 0, 0, 0x27D8, 0, 0, 0], by decide +kernel⟩,
   ⟨testDesc [0x30001234, 12, 0, 0, 0x27D8, 0, 0, 0], 95, 5#32, 6#32, 7#32, 1, (testCmd [0x30001234, 12, 0, 0, 0x27D8, 0, 0, 0]).flag F.LEVEE_SEAL_SEALED true, by decide +kernel⟩,
   ⟨testDesc [0x30001234, 4, 0, 0, 0x27C0, 0, 0, 0], testCmd [0x30001234, 4, 0, 0, 0x27C0, 0, 0, 0], by decide +kernel⟩,
   ⟨testDesc [0x30001234, 4, 0, 0, 0x0, 0, 0, 0], testCmd [0x30001234, 4, 0, 0, 0x0, 0, 0, 0], by decide +kernel⟩,
   ⟨testDesc [0x30001234, 4, 0, 0, 0x8000, 0, 0, 0], [7], testCmd [0x30001234, 4, 0, 0, 0x8000, 0, 0, 0], by decide +kernel⟩,
   ⟨testDesc [0x31001234, 0, 0, 0, 0, 0, 0, 0], testCmd [0x31001234, 0, 0, 0, 0, 0, 0, 0], by decide +kernel⟩,
   ⟨testDesc [0x40001234, 8, 0, 0, 0, 0, 0x5000, 1], [0x40, 0x44], 0, let u := testCmd [0x40001234, 8, 0, 0, 0, 0, 0x5000, 1]; { u with tm := { u.tm with phase := Phase.consign } }, by decide +kernel⟩,
   ⟨testDesc [0x40001234, 12, 0, 0, 0, 0, 0x5000, 1], [0x40, 0x0F000000, 0x46], 2, let u := testCmd [0x40001234, 12, 0, 0, 0, 0, 0x5000, 1]; { u with tm := { u.tm with phase := Phase.consign } }, by decide +kernel⟩,
   ⟨testDesc [0x40001234, 4, 0, 0, 0, 0, 0x5000, 1], 0x03000000#32, some (State.reset.rd R.CHIP_ID), let u := testCmd [0x40001234, 4, 0, 0, 0, 0, 0x5000, 1]; { u with tm := { u.tm with phase := Phase.consign } }, by decide +kernel⟩,
   ⟨testDesc [0x40001234, 8, 0, 0, 0, 0, 0x5000, 1], 0x03080110#32, 24, [0x40, 0x03080110], let u := testCmd [0x40001234, 8, 0, 0, 0, 0, 0x5000, 1]; { u with tm := { u.tm with phase := Phase.consign } }, by decide +kernel⟩,
   ⟨testDesc [0x40001234, 8, 0, 0, 0, 0, 0x5000, 1], testCmd [0x40001234, 8, 0, 0, 0, 0, 0x5000, 1], by decide +kernel⟩,
   ⟨testDesc [0x50001234, 64, 0x5000, 1, 0, 0, 0, 0], testCmd [0x50001234, 64, 0x5000, 1, 0, 0, 0, 0], by decide +kernel⟩,
   ⟨testDesc [0x50001234, 64, 0x5000, 1, 0, 0, 0, 0], 2, (((((((testCmd [0x50001234, 64, 0x5000, 1, 0, 0, 0, 0]).flag F.CHIP_STRAP_ROLE false).flag F.FAB_ID_VALID true)).flag (F.FAB_ROUTE_PRI_EN 0) true).p (F.FAB_ROUTE_PRI 0) 2).p (F.NGL_STAT_STATE 2) 6).p (F.FAB_PORT_CRED_CTRL 2) 4, by decide +kernel⟩,
   ⟨testDesc [0x51001234, 64, 0x5000, 1, 0, 0, 0, 0], 63, 3, (((testCmd [0x51001234, 64, 0x5000, 1, 0, 0, 0, 0]).p F.FAULT_REC_RD_RD 63).p F.FAULT_REC_WR_WR 2).wr (R.FAULT_REC 255) 77#32, by decide +kernel⟩,
   ⟨.flowSet [1], 0x20, [1], testDesc [0x20001234, 16, 0, 0, 8191, 0, 0, 0], testCmd [0x20001234, 16, 0, 0, 8191, 0, 0, 0], by decide +kernel⟩,
   ⟨.leveeSet [1], 0x30, [1], testDesc [0x30001234, 4, 0, 0, 2, 0, 0, 0], testCmd [0x30001234, 4, 0, 0, 2, 0, 0, 0], by decide +kernel⟩,
   ⟨.leveeSeal, 0x31, [1], testDesc [0x31001234, 4, 0, 0, 0, 0, 0, 0], testCmd [0x31001234, 4, 0, 0, 0, 0, 0, 0], by decide +kernel⟩,
   ⟨.health, 0x50, [1], testDesc [0x50001234, 60, 0, 0, 0, 0, 0, 0], testCmd [0x50001234, 60, 0, 0, 0, 0, 0, 0], by decide +kernel⟩,
   ⟨.faultFetch, 0x51, [1], testDesc [0x51001234, 1040, 0, 0, 0, 9, 0, 0], testCmd [0x51001234, 1040, 0, 0, 0, 9, 0, 0], by decide +kernel⟩,
   ⟨.meterSnap [1], 0x40, [1], testDesc [0x40001234, 2, 0, 0, 0, 9, 0, 0], let u := testCmd [0x40001234, 2, 0, 0, 0, 9, 0, 0]; { u with tm := { u.tm with phase := Phase.consign } }, by decide +kernel⟩,
   ⟨.meterSnap [1], 0x40, [1], testCmd [0x00001234, 0, 0, 0, 0, 0, 0, 0], by decide +kernel⟩,
   ⟨.flowSet [1], 0x20, [1], testDesc [0x20001234, 32, 0, 0, 1023, 0, 0, 0], testCmd [0x20001234, 32, 0, 0, 1023, 0, 0, 0], by decide +kernel⟩,
   ⟨.leveeSet [1], 0x30, [1], testDesc [0x30001234, 8, 0, 0, 0x1004, 0, 0, 0], testCmd [0x30001234, 8, 0, 0, 0x1004, 0, 0, 0], by decide +kernel⟩,
   ⟨.meterSnap [1], 0x40, [1], testDesc [0x40001234, 8, 0, 0, 0, 0, 0, 0], let u := testCmd [0x40001234, 8, 0, 0, 0, 0, 0, 0]; { u with tm := { u.tm with phase := Phase.consign } }, by decide +kernel⟩⟩

theorem test_hyps_ResetsAndPowerStates :
    (∃ o : Nat, ∃ s : State, s.pw.held = false ∧ Regs.wf s.regs ∧ o < 0x10000) ∧
    (∃ i : Fin 13, ∃ uv : Nat, ∃ o : Nat, ∃ s : State, s.pw.held = false ∧ i ≠ 2 ∧ uv ≤ 880 * s.nominal i ∧ Regs.wf s.regs ∧ o < 0x10000) ∧
    (∃ i : Fin 13, ∃ uv : Nat, ∃ o : Nat, ∃ s : State, s.pw.held = false ∧ i ≠ 2 ∧ uv ≤ 880 * s.nominal i ∧ Regs.wf s.regs ∧ o < 0x10000) ∧
    (∃ uv : Nat, uv ≤ 880 * 800) ∧
    (∃ i : Option (Fin 13), ∃ uv : Nat, ∃ s : State, (s.pw.held = true ∧ i ≠ some 2) ∨ i.any (fun j => decide (880 * s.nominal j < uv)) = true) ∧
    (∃ i : Option (Fin 13), ∃ uv : Nat, ∃ s : State, (s.pw.held = true ∧ i ≠ some 2) ∨ i.any (fun j => decide (880 * s.nominal j < uv)) = true) ∧
    (∃ bs : List Nat, ∃ s : State, (s.pw.held = true) ∧ (∀ g : Fin 6, (1710 ≤ bs.getD g 0 ∧ bs.getD g 0 ≤ 1890) ∨ (3135 ≤ bs.getD g 0 ∧ bs.getD g 0 ≤ 3465))) ∧
    (∃ bs : List Nat, ∃ s : State, (s.pw.held = true) ∧ (∀ g : Fin 6, (1710 ≤ bs.getD g 0 ∧ bs.getD g 0 ≤ 1890) ∨ (3135 ≤ bs.getD g 0 ∧ bs.getD g 0 ≤ 3465))) ∧
    (∃ te : Bool, ∃ bs : List Nat, ∃ s : State, s.pw.held = false ∨ te = true ∨ ¬(∀ g : Fin 6, (1710 ≤ bs.getD g 0 ∧ bs.getD g 0 ≤ 1890) ∨ (3135 ≤ bs.getD g 0 ∧ bs.getD g 0 ≤ 3465))) ∧
    (∃ te : Bool, ∃ bs : List Nat, ∃ s : State, s.pw.held = false ∨ te = true ∨ ¬(∀ g : Fin 6, (1710 ≤ bs.getD g 0 ∧ bs.getD g 0 ≤ 1890) ∨ (3135 ≤ bs.getD g 0 ∧ bs.getD g 0 ≤ 3465))) ∧
    (∃ te : Bool, ∃ bs : List Nat, ∃ s : State, s.pw.held = false ∨ te = true ∨ ¬(∀ g : Fin 6, (1710 ≤ bs.getD g 0 ∧ bs.getD g 0 ≤ 1890) ∨ (3135 ≤ bs.getD g 0 ∧ bs.getD g 0 ≤ 3465))) ∧
    (∃ s : State, s.g F.PWR_STAT_STATE ≠ 2 ∧ (∀ p : Fin 8, (s.g (F.NGL_STAT_STATE p) = 0 ∧ s.g (F.NGL_CTL_EN p) = 0) ∨ s.g (F.NGL_STAT_STATE p) = 7) ∧ (∀ p : Fin 2, s.g (F.ETH_CTL_EN p) = 0)) ∧
    (∃ s : State, s.g F.PWR_STAT_STATE = 2 ∨ ¬((∀ p : Fin 8, (s.g (F.NGL_STAT_STATE p) = 0 ∧ s.g (F.NGL_CTL_EN p) = 0) ∨ s.g (F.NGL_STAT_STATE p) = 7) ∧ (∀ p : Fin 2, s.g (F.ETH_CTL_EN p) = 0))) ∧
    (∃ s : State, s.g F.PWR_STAT_STATE = 2 ∨ ¬((∀ p : Fin 8, (s.g (F.NGL_STAT_STATE p) = 0 ∧ s.g (F.NGL_CTL_EN p) = 0) ∨ s.g (F.NGL_STAT_STATE p) = 7) ∧ (∀ p : Fin 2, s.g (F.ETH_CTL_EN p) = 0))) ∧
    (∃ s : State, s.g F.PWR_STAT_STATE = 2 ∨ ¬((∀ p : Fin 8, (s.g (F.NGL_STAT_STATE p) = 0 ∧ s.g (F.NGL_CTL_EN p) = 0) ∨ s.g (F.NGL_STAT_STATE p) = 7) ∧ (∀ p : Fin 2, s.g (F.ETH_CTL_EN p) = 0))) ∧
    (∃ w : WakeSrc, ∃ s : State, s.pw.dormant = true ∧ s.wakeEnabled w = true ∧ Regs.wf s.regs) ∧
    (∃ w : WakeSrc, ∃ s : State, s.pw.dormant = true ∧ s.wakeEnabled w = true ∧ Regs.wf s.regs) ∧
    (∃ w : WakeSrc, ∃ s : State, s.pw.dormant = true ∧ s.wakeEnabled w = true ∧ Regs.wf s.regs) ∧
    (∃ w : WakeSrc, ∃ s : State, s.pw.dormant = false ∨ ((w = .pin → s.g F.PWR_STATE_CTL_WAKE_PIN = 0) ∧ (∀ p : Fin 8, w = .link p → s.g F.PWR_STATE_CTL_WAKE_LINK = 0 ∨ s.g (F.NGL_STAT_STATE p) ≠ 7) ∧ (w = .host → s.g F.PWR_STATE_CTL_WAKE_HOST = 0 ∨ s.manager = false))) ∧
    (∃ w : WakeSrc, ∃ s : State, s.pw.dormant = false ∨ ((w = .pin → s.g F.PWR_STATE_CTL_WAKE_PIN = 0) ∧ (∀ p : Fin 8, w = .link p → s.g F.PWR_STATE_CTL_WAKE_LINK = 0 ∨ s.g (F.NGL_STAT_STATE p) ≠ 7) ∧ (w = .host → s.g F.PWR_STATE_CTL_WAKE_HOST = 0 ∨ s.manager = false))) :=
  ⟨⟨0x27C4, let u := (testCmd []).setWord 0x40 7#32; (u.p (F.LEVEE_EL_PEAK_PEAK_ATT 95) 77).wr R.FCST_CTL 1#32, by decide +kernel⟩,
   ⟨12, 1584000, 0x27C4, let u := (testCmd []).setWord 0x40 7#32; (u.p (F.LEVEE_EL_PEAK_PEAK_ATT 95) 77).wr R.FCST_CTL 1#32, by decide +kernel⟩,
   ⟨6, 2904000, 0x27C4, let u := (testCmd []).setWord 0x40 7#32; (u.p (F.LEVEE_EL_PEAK_PEAK_ATT 95) 77).wr R.FCST_CTL 1#32, by decide +kernel⟩,
   ⟨704000, by decide +kernel⟩,
   ⟨some 12, 1584001, testHost, by decide +kernel⟩,
   ⟨none, 1, { testHost with pw := { testHost.pw with held := true } }, by decide +kernel⟩,
   ⟨[1710, 1890, 3135, 3465, 1800, 3300], { testHost with pw := { testHost.pw with held := true, fuseIn := [(2, 7#32), (15, 9#32)] } }, by decide +kernel⟩,
   ⟨[1800, 1800, 1800, 1800, 1800, 1800], { testHost with pw := { testHost.pw with held := true, fuseIn := [(2, 7#32), (15, 9#32)] } }, by decide +kernel⟩,
   ⟨true, [1800, 1800, 1800, 1800, 1800, 1800], { testHost with pw := { testHost.pw with held := true } }, by decide +kernel⟩,
   ⟨false, [1800, 1800, 1800, 1800, 1800, 1891], { testHost with pw := { testHost.pw with held := true } }, by decide +kernel⟩,
   ⟨false, [1800, 1800, 1800, 1800, 1800, 1800], { testHost with pw := { testHost.pw with held := false } }, by decide +kernel⟩,
   ⟨(((List.range 8).foldl (fun (u : State) p => u.flag (F.NGL_CTL_EN p) false) (testHost)).setWord 0x40 7#32).setWord 0x02000000 9#32, by decide +kernel⟩,
   ⟨testHost.flag (F.ETH_CTL_EN 1) true, by decide +kernel⟩,
   ⟨testHost.p (F.NGL_STAT_STATE 7) 6, by decide +kernel⟩,
   ⟨testHost.p F.PWR_STAT_STATE 2, by decide +kernel⟩,
   ⟨.pin, let u := (testHost.setWord 0x40 7#32).wr R.PWR_STATE_CTL 0x100#32; { u with pw := { u.pw with dormant := true, aonTick := 99 } }, by decide +kernel⟩,
   ⟨.link 7, let u := (testHost.p (F.NGL_STAT_STATE 7) 7).wr R.PWR_STATE_CTL 0x200#32; { u with pw := { u.pw with dormant := true, aonTick := 99 } }, by decide +kernel⟩,
   ⟨.pin, let u := (testHost.setWord 0x40 7#32).wr R.PWR_STATE_CTL 0x100#32; { u with pw := { u.pw with dormant := true, aonTick := 99 } }, by decide +kernel⟩,
   ⟨.pin, testHost, by decide +kernel⟩,
   ⟨.link 7, { testHost with pw := { testHost.pw with dormant := true } }, by decide +kernel⟩⟩

theorem test_hyps_SuppliesClocksAndSensors :
    (∃ i : Fin 13, ∃ uv : Nat, ∃ s : State, s.pw.held = false ∧ s.pw.dormant = false ∧ (s.g F.PWR_STAT_WARN).testBit i = false ∧ uv ≤ 930 * s.nominal i) ∧
    (∃ i : Fin 13, ∃ uv : Nat, ∃ s : State, s.pw.held = false ∧ s.pw.dormant = false ∧ (s.g F.PWR_STAT_WARN).testBit i = false ∧ uv ≤ 930 * s.nominal i) ∧
    (∃ i : Fin 13, ∃ uv : Nat, ∃ s : State, s.pw.held = true ∨ s.pw.dormant = true ∨ (s.g F.PWR_STAT_WARN).testBit i = true ∨ 930 * s.nominal i < uv) ∧
    (∃ i : Fin 13, ∃ uv : Nat, ∃ s : State, s.g F.PWR_STAT_WARN = 2 ^ i.val ∧ 940 * s.nominal i < uv) ∧
    (∃ i : Fin 13, ∃ uv : Nat, ∃ s : State, (s.g F.PWR_STAT_WARN).testBit i = true ∧ s.g F.PWR_STAT_WARN ≠ 2 ^ i.val ∧ 940 * s.nominal i < uv) ∧
    (∃ i : Fin 13, ∃ uv : Nat, ∃ s : State, (s.g F.PWR_STAT_WARN).testBit i = false ∨ uv ≤ 940 * s.nominal i) ∧
    (∃ v : Word, ∃ s : State, 650 ≤ bitsOf v 9 0 ∧ bitsOf v 9 0 ≤ 850 ∧ s.avsTarget (s.g F.PWR_CLK_CUR) ≤ bitsOf v 9 0 ∧ s.avsTarget (s.g F.PWR_CLK_SEL) ≤ bitsOf v 9 0) ∧
    (∃ v : Word, ∃ s : State, bitsOf v 9 0 < 650 ∨ 850 < bitsOf v 9 0 ∨ bitsOf v 9 0 < s.avsTarget (s.g F.PWR_CLK_CUR) ∨ bitsOf v 9 0 < s.avsTarget (s.g F.PWR_CLK_SEL)) ∧
    (∃ v : Word, ∃ s : State, bitsOf v 9 0 < 650 ∨ 850 < bitsOf v 9 0 ∨ bitsOf v 9 0 < s.avsTarget (s.g F.PWR_CLK_CUR) ∨ bitsOf v 9 0 < s.avsTarget (s.g F.PWR_CLK_SEL)) ∧
    (∃ v : Word, ∃ s : State, bitsOf v 1 0 < 3 ∧ s.avsTarget (bitsOf v 1 0) ≤ s.g F.PWR_AVS_APPLIED_MV) ∧
    (∃ v : Word, ∃ s : State, bitsOf v 1 0 = 3 ∨ s.g F.PWR_AVS_APPLIED_MV < s.avsTarget (bitsOf v 1 0)) ∧
    (∃ v : Word, ∃ s : State, bitsOf v 1 0 = 3 ∨ s.g F.PWR_AVS_APPLIED_MV < s.avsTarget (bitsOf v 1 0)) ∧
    (∃ s : State, s.freeBus) ∧
    (∃ s : State, s.freeBus) ∧
    (∃ s : State, s.g F.PWR_STAT_TRIP = 0 ∧ s.pw.held = false ∧ s.pw.dormant = false) ∧
    (∃ s : State, s.g F.PWR_STAT_TRIP = 1 ∨ s.pw.held = true ∨ s.pw.dormant = true) :=
  ⟨⟨12, 1674000, testHost, by decide +kernel⟩,
   ⟨0, 1, testHost, by decide +kernel⟩,
   ⟨12, 1674001, testHost, by decide +kernel⟩,
   ⟨12, 1692001, testHost.p F.PWR_STAT_WARN 0x1000, by decide +kernel⟩,
   ⟨12, 1692001, testHost.p F.PWR_STAT_WARN 0x1001, by decide +kernel⟩,
   ⟨12, 1692000, testHost.p F.PWR_STAT_WARN 0x1000, by decide +kernel⟩,
   ⟨700#32, testHost.wr R.PWR_AVS_TGT 0x2BCAF2BC#32, by decide +kernel⟩,
   ⟨649#32, testHost, by decide +kernel⟩,
   ⟨699#32, testHost.wr R.PWR_AVS_TGT 0x2BCAF2BC#32, by decide +kernel⟩,
   ⟨2#32, (testHost.wr R.PWR_AVS_TGT 0x2BCAF2BC#32).p F.PWR_AVS_APPLIED_MV 700, by decide +kernel⟩,
   ⟨3#32, testHost, by decide +kernel⟩,
   ⟨2#32, (testHost.wr R.PWR_AVS_TGT 0x2BDAF2BC#32).p F.PWR_AVS_APPLIED_MV 700, by decide +kernel⟩,
   ⟨{ testHost with pw := { testHost.pw with tempShown := [(7, 0x80001234#32)] } }, by decide +kernel⟩,
   ⟨testHost.wr (R.PWR_TEMP 7) 0xC0001234#32, by decide +kernel⟩,
   ⟨testHost, by decide +kernel⟩,
   ⟨testHost.flag F.PWR_STAT_TRIP true, by decide +kernel⟩⟩

theorem test_hyps_BootImagesAreCheckedAndReleased :
    (∃ n : Nat, ∃ img : List Byte, ∃ s : State, s.pw.boot = BootPhase.qspi n ∧ s.imgReason img false = 0) ∧
    (∃ n : Nat, ∃ r : Nat, ∃ img : List Byte, ∃ s : State, s.pw.boot = BootPhase.qspi n ∧ s.imgReason img false = r ∧ 1 ≤ r ∧ r ≤ 9) ∧
    (∃ n : Nat, ∃ r : Nat, ∃ img : List Byte, ∃ s : State, s.pw.boot = BootPhase.qspi n ∧ s.imgReason img false = r ∧ 1 ≤ r ∧ r ≤ 9) ∧
    (∃ n : Nat, ∃ r : Nat, ∃ img : List Byte, ∃ s : State, s.pw.boot = BootPhase.qspi n ∧ s.imgReason img false = r ∧ 1 ≤ r ∧ r ≤ 9) ∧
    (∃ n : Nat, ∃ s : State, s.pw.boot = BootPhase.qspi n) ∧
    (∃ r : Nat, ∃ b : List Byte, ∃ s : State, (s.pw.boot = BootPhase.go) ∧ (b = s.stagedImage.2 ∧ r = s.imgReason b true ∧ 1 ≤ r ∧ r ≤ 9)) ∧
    (∃ b : List Byte, ∃ s : State, (s.pw.boot = BootPhase.go) ∧ (b = s.stagedImage.2 ∧ s.imgReason b true = 0)) ∧
    (∃ n : Nat, ∃ b : List Byte, ∃ s : State, (s.pw.boot = BootPhase.uart n ∧ s.uartFull n = true ∧ s.pw.owned = false) ∧ (b = s.stagedImage.2 ∧ s.imgReason b true = 0)) ∧
    (∃ r : Nat, ∃ n : Nat, ∃ b : List Byte, ∃ s : State, (s.pw.boot = BootPhase.uart n ∧ s.uartFull n = true ∧ s.pw.owned = false) ∧ (b = s.stagedImage.2 ∧ r = s.imgReason b true ∧ 1 ≤ r ∧ r ≤ 9)) ∧
    (∃ s : State, (match s.pw.boot with | .qspi _ => false | .go => false | .uart n => !s.uartFull n | _ => true) = true) ∧
    (∃ s : State, (match s.pw.boot with | .qspi _ => false | .go => false | .uart n => !s.uartFull n | _ => true) = true) ∧
    (∃ s : State, s.pw.boot = BootPhase.wait) ∧
    (∃ s : State, s.pw.boot ≠ BootPhase.wait) ∧
    (∃ n : Nat, ∃ s : State, s.pw.boot = BootPhase.uart n ∧ n < 0x200000 ∧ s.uartFull n = false ∧ s.mx.ecc = [] ∧ s.g F.MEM_INJ_CTL_ARMED = 0) ∧
    (∃ s : State, (match s.pw.boot with | .uart n => s.uartFull n | _ => true) = true) ∧
    (∃ n : Nat, ∃ s : State, s.pw.boot = BootPhase.uart n ∧ s.uartFull n = false) ∧
    (∃ s : State, (match s.pw.boot with | .uart n => s.uartFull n | _ => true) = true) ∧
    (∃ s : State, s.pw.boot = BootPhase.uart 0 ∧ s.pw.owned = false) ∧
    (∃ s : State, s.pw.boot ≠ BootPhase.uart 0) :=
  ⟨⟨1, testImage, { State.reset with pw := { State.reset.pw with boot := BootPhase.qspi 1 } }, by decide +kernel⟩,
   ⟨0, 1, [0, 1], State.reset, by decide +kernel⟩,
   ⟨1, 2, testImage.set 60 0x55, { State.reset with pw := { State.reset.pw with boot := BootPhase.qspi 1 } }, by decide +kernel⟩,
   ⟨1, 5, testImage.set 87 0x56, { State.reset with pw := { State.reset.pw with boot := BootPhase.qspi 1 } }, by decide +kernel⟩,
   ⟨0, State.reset, by decide +kernel⟩,
   ⟨1, List.replicate 64 0, { State.reset with pw := { State.reset.pw with boot := BootPhase.go } }, by decide +kernel⟩,
   ⟨testImage ++ List.replicate ((4 - testImage.length % 4) % 4) 0, let u := (List.range ((testImage.length + 3) / 4)).foldl (fun (u : State) i => u.setWord (stageBase + 4 * i) (imgWord testImage (4 * i))) State.reset; { u with pw := { u.pw with boot := BootPhase.go } }, by decide +kernel⟩,
   ⟨1000, testImage ++ List.replicate ((4 - testImage.length % 4) % 4) 0, let u := (List.range ((testImage.length + 3) / 4)).foldl (fun (u : State) i => u.setWord (stageBase + 4 * i) (imgWord testImage (4 * i))) State.reset; { u with pw := { u.pw with boot := BootPhase.uart 1000 } }, by decide +kernel⟩,
   ⟨1, 64, List.replicate 64 0, { State.reset with pw := { State.reset.pw with boot := BootPhase.uart 64 } }, by decide +kernel⟩,
   ⟨{ State.reset with pw := { State.reset.pw with boot := BootPhase.wait } }, by decide +kernel⟩,
   ⟨{ State.reset with pw := { State.reset.pw with boot := BootPhase.uart 3 } }, by decide +kernel⟩,
   ⟨{ State.reset with pw := { State.reset.pw with boot := BootPhase.wait } }, by decide +kernel⟩,
   ⟨State.reset, by decide +kernel⟩,
   ⟨0x1FFFFF, { State.reset.setWord 0x02000008 0x200000#32 with pw := { State.reset.pw with boot := BootPhase.uart 0x1FFFFF } }, by decide +kernel⟩,
   ⟨State.reset, by decide +kernel⟩,
   ⟨63, { State.reset with pw := { State.reset.pw with boot := BootPhase.uart 63 } }, by decide +kernel⟩,
   ⟨State.reset, by decide +kernel⟩,
   ⟨{ State.reset with pw := { State.reset.pw with boot := BootPhase.uart 0 } }, by decide +kernel⟩,
   ⟨State.reset, by decide +kernel⟩⟩

theorem test_hyps_TestAccessPortTakesBallsAndFuses :
    (∃ n : BitVec 8, ∃ mv : Nat, ∃ mc : Int, ∃ s : State, (n.toNat < 5 ∨ (8 ≤ n.toNat ∧ n.toNat < 16)) ∧ (SMap.get zeroW s.pw.fuse 4).getLsbD 0 = false ∧ 1710 ≤ mv ∧ mv ≤ 1890 ∧ 0 ≤ mc ∧ mc ≤ 85000) ∧
    (∃ n : BitVec 8, ∃ mv : Nat, ∃ mc : Int, ∃ s : State, (n.toNat < 5 ∨ (8 ≤ n.toNat ∧ n.toNat < 16)) ∧ (SMap.get zeroW s.pw.fuse 4).getLsbD 0 = false ∧ 1710 ≤ mv ∧ mv ≤ 1890 ∧ 0 ≤ mc ∧ mc ≤ 85000) ∧
    (∃ dr : BitVec 64, ∃ mv : Nat, ∃ mc : Int, ∃ s : State, mv < 1710 ∨ 1890 < mv ∨ mc < 0 ∨ 85000 < mc ∨ (SMap.get zeroW s.pw.fuse 4).getLsbD 0 = true ∨ ((dr.extractLsb' 56 8).toNat ∉ [0, 1, 2, 3, 4, 8, 9, 10, 11, 12, 13, 14, 15])) ∧
    (∃ dr : BitVec 64, ∃ mv : Nat, ∃ mc : Int, ∃ s : State, mv < 1710 ∨ 1890 < mv ∨ mc < 0 ∨ 85000 < mc ∨ (SMap.get zeroW s.pw.fuse 4).getLsbD 0 = true ∨ ((dr.extractLsb' 56 8).toNat ∉ [0, 1, 2, 3, 4, 8, 9, 10, 11, 12, 13, 14, 15])) ∧
    (∃ dr : BitVec 64, ∃ mv : Nat, ∃ mc : Int, ∃ s : State, mv < 1710 ∨ 1890 < mv ∨ mc < 0 ∨ 85000 < mc ∨ (SMap.get zeroW s.pw.fuse 4).getLsbD 0 = true ∨ ((dr.extractLsb' 56 8).toNat ∉ [0, 1, 2, 3, 4, 8, 9, 10, 11, 12, 13, 14, 15])) :=
  ⟨⟨15, 1890, 85000, { State.reset with pw := { State.reset.pw with fuse := [(15, 2#32)] } }, by decide +kernel⟩,
   ⟨4, 1710, 0, State.reset, by decide +kernel⟩,
   ⟨0x0500000012345678, 1800, 25000, State.reset, by decide +kernel⟩,
   ⟨0x0400000012345678, 1891, 25000, State.reset, by decide +kernel⟩,
   ⟨0x0400000012345678, 1800, -1, State.reset, by decide +kernel⟩⟩

end Sys2Proof.Machine
end

section
/-!
SUPPORT. Memory words and their bytes, and what a read or a write of a word leaves unchanged (R310 to R315, R327).
-/
namespace Sys2Proof.Machine

variable (s : State)

/-! ## Where memory stands (R21) -/

/-- All memory lies below the blocks. -/
theorem memOf_lt {a o : Nat} {k : MemKind} (h : memOf a = some (k, o)) : a < 0x02800000 := by
  unfold memOf at h
  split_ifs at h <;> omega

/-- The peripheral bus decodes no memory. -/
theorem onBus_eq_false_of_lt {a : Nat} (h : a < 0x03000000) : onBus a = false :=
  decide_eq_false fun hb => Nat.not_lt.mpr hb.1 h

/-- A byte address from 0x0100_0000 on lies in the cluster window of its word, at the word's offset and `a % 4` bytes on. -/
theorem clusterOffset_of_word {a : Nat} (h : 0x01000000 ≤ a - a % 4) :
    (a - 0x01000000) / 0x100000 = (a - a % 4 - 0x01000000) / 0x100000 ∧
      (a - 0x01000000) % 0x100000 = (a - a % 4 - 0x01000000) % 0x100000 + a % 4 ∧
      (a - a % 4 - 0x01000000) % 0x100000 % 4 = 0 := by
  omega

/-- The bytes of a memory's word lie in that memory. -/
theorem memOf_of_word {a o : Nat} {k : MemKind} (h : memOf (a - a % 4) = some (k, o)) :
    memOf a = some (k, o + a % 4) := by
  unfold memOf at h ⊢
  dsimp only at h ⊢
  split_ifs at h with hctl hwin hdata hprog hreg
  · obtain ⟨rfl, rfl⟩ := Prod.mk.inj (Option.some.inj h)
    rw [if_pos (by omega), Nat.sub_add_cancel (Nat.mod_le a 4)]
  · obtain ⟨hc, ho, halign⟩ := clusterOffset_of_word hwin.1
    rw [if_neg (by omega), if_pos (by omega), hc, ho]
    generalize (a - a % 4 - 0x01000000) % 0x100000 = x at h hdata halign ⊢
    obtain ⟨rfl, rfl⟩ := Prod.mk.inj (Option.some.inj h)
    rw [if_pos (by omega)]
  · obtain ⟨hc, ho, halign⟩ := clusterOffset_of_word hwin.1
    rw [if_neg (by omega), if_pos (by omega), hc, ho]
    generalize (a - a % 4 - 0x01000000) % 0x100000 = x at h hdata hprog halign ⊢
    obtain ⟨rfl, rfl⟩ := Prod.mk.inj (Option.some.inj h)
    rw [if_neg (by omega), if_pos (by omega), Nat.sub_add_comm hprog.1]
  · obtain ⟨rfl, rfl⟩ := Prod.mk.inj (Option.some.inj h)
    rw [if_neg (by omega), if_neg (by omega), if_pos (by omega)]
    simp only [Option.some.injEq, Prod.mk.injEq, MemKind.region.injEq]
    omega

/-- Nothing stands between region memory and the blocks, nor beyond them. -/
theorem memOf_eq_none_of_le {a : Nat} (h : 0x02800000 ≤ a) : memOf a = none := by
  unfold memOf
  rw [if_neg (by omega), if_neg (by omega), if_neg (by omega)]

/-! ## Answers -/

/-- An answer to a bus access leaves whoever owns the balls. -/
@[simp] theorem send_resp_out (e : Bool) (ws : List Word) : (s.send (.resp e ws)).out = s.out ++ [.resp e ws] := by
  simp [State.send, Out.onBall]

@[simp] theorem ok_out : s.ok.out = s.out ++ [.resp false []] := send_resp_out s false []

@[simp] theorem err_out : s.err.out = s.out ++ [.resp true []] := send_resp_out s true []

/-! ## Registers after the named updates -/

theorem rd_p_ne (f : Fld) (v : Nat) {x : Nat} (h : x ≠ f.reg) : (s.p f v).rd x = s.rd x := by simp [rd_p, h]

theorem rd_flag_ne (f : Fld) (b : Bool) {x : Nat} (h : x ≠ f.reg) : (s.flag f b).rd x = s.rd x := rd_p_ne s f _ h

theorem rd_inc_ne (a n : Nat) {x : Nat} (h : x ≠ a) : (s.inc a n).rd x = s.rd x := rd_p_ne s ⟨a, 31, 0⟩ _ h

/-- A single-bit field reads back the truth value it is set to. -/
theorem g_flag_self (f : Fld) (b : Bool) (hbit : f.hi = f.lo) (h : f.hi < 32) :
    (s.flag f b).g f = if b then 1 else 0 := by
  rw [State.flag, g_p_self s f _ h, hbit, Nat.add_sub_cancel_left]
  cases b <;> rfl

/-! ## Words and bytes -/

theorem word_congr {s t : State} (h : t.mem = s.mem) (a : Nat) : t.word a = s.word a := by
  simp [State.word, byte_congr h]

/-- A byte of a stored word is the byte of the value at that place. -/
theorem byte_setWord_at (a : Nat) (v : Word) (i : Fin 4) :
    (s.setWord a v).byte (a + i) = v.extractLsb' (8 * i) 8 := by
  fin_cases i <;> simp [State.setWord]

/-- A word holds the bytes at its address in rising order (R6). -/
theorem extractLsb'_word (a : Nat) (i : Fin 4) : (s.word a).extractLsb' (8 * i) 8 = s.byte (a + i) := by
  have hi := i.isLt
  apply BitVec.eq_of_getLsbD_eq
  intro j hj
  simp only [State.word, BitVec.getLsbD_append, BitVec.getLsbD_extractLsb', hj, decide_true, Bool.true_and]
  fin_cases i
  · simp [hj]
  · simp [show ¬ 8 + j < 8 by omega, hj]
  · simp [show ¬ 16 + j < 8 by omega, show ¬ 16 + j - 8 < 8 by omega, show 16 + j - 8 - 8 = j by omega, hj]
  · simp [show ¬ 24 + j < 8 by omega, show ¬ 24 + j - 8 < 8 by omega, show ¬ 24 + j - 8 - 8 < 8 by omega,
      show 24 + j - 8 - 8 - 8 = j by omega]

/-- The bytes of a word that a field does not reach keep their value when the field is put. -/
theorem extractLsb'_putBits_outside (w : Word) (hi lo v i : Nat) (h32 : i + 8 ≤ 32) (h : i + 8 ≤ lo ∨ hi < i) :
    (putBits w hi lo v).extractLsb' i 8 = w.extractLsb' i 8 := by
  apply BitVec.eq_of_getLsbD_eq
  intro j hj
  simp only [BitVec.getLsbD_extractLsb', getLsbD_putBits]
  rw [if_neg (by omega)]
  simp [show i + j < 32 by omega]

/-- A field of `m` bits put at bit `sh` is read back by a shift and a mask. -/
theorem putBits_shift_mask (w v : Word) (sh m : Nat) (hm : 0 < m) (h : sh + m ≤ 32) :
    (putBits w (sh + m - 1) sh v.toNat >>> sh) &&& BitVec.ofNat 32 (2 ^ m - 1) = v &&& BitVec.ofNat 32 (2 ^ m - 1) := by
  apply BitVec.eq_of_getLsbD_eq
  intro j hj
  simp only [BitVec.getLsbD_and, BitVec.getLsbD_ushiftRight, BitVec.getLsbD_ofNat, Nat.testBit_two_pow_sub_one,
    getLsbD_putBits]
  by_cases hjm : j < m
  · rw [if_pos (by omega), Nat.add_sub_cancel_left]
    simp [hj, hjm, show sh + j < 32 by omega, BitVec.getLsbD]
  · simp [hjm]

/-- The bytes that an access addresses, by a shift and a mask (R9). -/
theorem addressed_eq_shift_mask (a n : Nat) (v : Word) :
    addressed a n v = (v >>> (8 * (a % 4))) &&& BitVec.ofNat 32 (2 ^ (8 * n) - 1) := by
  apply BitVec.eq_of_getLsbD_eq
  intro j hj
  simp only [addressed, BitVec.getLsbD_and, BitVec.getLsbD_ushiftRight, BitVec.getLsbD_ofNat,
    Nat.testBit_two_pow_sub_one, Nat.testBit_mod_two_pow, Nat.testBit_div_two_pow]
  simp [hj, BitVec.getLsbD, Bool.and_comm, Nat.add_comm]

/-- An aligned access of 4 bytes addresses the whole word. -/
theorem addressed_word {a : Nat} (v : Word) (h : a % 4 = 0) : addressed a 4 v = v := by
  simp [addressed, h, Nat.mod_eq_of_lt v.isLt]

/-! ## An access to a bank (R319) -/

/-- A bank that is awake needs no wake. -/
theorem touchBank_of_awake {b : Nat} (h : s.inRet b = false) : s.touchBank b = s := by simp [State.touchBank, h]

@[simp] theorem touchBank_mem (b : Nat) : (s.touchBank b).mem = s.mem := by unfold State.touchBank; split <;> rfl
@[simp] theorem touchBank_out (b : Nat) : (s.touchBank b).out = s.out := by unfold State.touchBank; split <;> rfl
@[simp] theorem eccAt_touchBank (b a : Nat) : (s.touchBank b).eccAt a = s.eccAt a := by
  unfold State.touchBank; split <;> rfl

theorem rd_touchBank_ne (b : Nat) {x : Nat} (h : x ≠ R.MEM_WAKE_CNT) : (s.touchBank b).rd x = s.rd x := by
  unfold State.touchBank
  split
  · rw [rd_inc_ne _ _ _ h]; rfl
  · rfl

/-! ## A read of a word (R312) -/

/-- A sound word in a bank that is awake is read with no effect. -/
theorem readW_of_sound {a o : Nat} {k : MemKind} (hm : memOf a = some (k, o)) (hret : s.inRet (bankOf k o) = false)
    (hecc : s.eccAt a = 0) : s.readW a = (s, s.word a, false) := by
  unfold State.readW
  rw [hm]
  dsimp only
  rw [touchBank_of_awake s hret, hecc]
  rfl

/-- An uncorrectable word is reported and read as an error. -/
theorem readW_of_uncorrectable {a o : Nat} {k : MemKind} (hm : memOf a = some (k, o)) (hecc : s.eccAt a = 2) :
    s.readW a = ((s.touchBank (bankOf k o)).eccUncorr a, 0, true) := by
  unfold State.readW
  rw [hm]
  dsimp only
  rw [eccAt_touchBank, hecc]
  rfl

@[simp] theorem eccUncorr_mem (a : Nat) : (s.eccUncorr a).mem = s.mem := by unfold State.eccUncorr; split <;> rfl
@[simp] theorem eccUncorr_out (a : Nat) : (s.eccUncorr a).out = s.out := by unfold State.eccUncorr; split <;> rfl
@[simp] theorem eccUncorr_mx (a : Nat) : (s.eccUncorr a).mx = s.mx := by unfold State.eccUncorr; split <;> rfl

theorem rd_eccUncorr_ne (a : Nat) {x : Nat} (hlast : x ≠ R.MEM_ECC_LAST) (hcnt : x ≠ R.MEM_ECC_UNCORR_CNT) :
    (s.eccUncorr a).rd x = s.rd x := by
  unfold State.eccUncorr
  split
  · rw [rd_emit, rd_wr, if_neg hlast, rd_inc_ne _ _ _ hcnt]
  · rfl

/-- MEM_ECC_LAST holds the address of the word reported last. -/
theorem rd_eccUncorr_last {a o : Nat} {k : MemKind} (hm : memOf a = some (k, o)) :
    (s.eccUncorr a).rd R.MEM_ECC_LAST = BitVec.ofNat 32 a := by
  unfold State.eccUncorr
  rw [hm]
  dsimp only
  rw [rd_emit, rd_wr, if_pos rfl]

/-! ## A write of a word (R311, R315) -/

@[simp] theorem markWrite_mem (a : Nat) : (s.markWrite a).mem = s.mem := by unfold State.markWrite; split <;> rfl
@[simp] theorem markWrite_out (a : Nat) : (s.markWrite a).out = s.out := by unfold State.markWrite; split <;> rfl

theorem rd_markWrite_ne (a : Nat) {x : Nat} (h : x ≠ R.MEM_INJ_CTL) : (s.markWrite a).rd x = s.rd x := by
  unfold State.markWrite
  split
  · rw [rd_flag_ne _ _ _ h, rd_setEcc]
  · rw [rd_setEcc]

@[simp] theorem writeW_out (a : Nat) (v : Word) : (s.writeW a v).out = s.out := by
  unfold State.writeW
  split
  · rfl
  · dsimp only; rw [markWrite_out]; exact touchBank_out s _

/-- A write of a memory word stores it and nothing else. -/
theorem writeW_mem {a o : Nat} {k : MemKind} (v : Word) (hm : memOf a = some (k, o)) :
    (s.writeW a v).mem = (s.setWord a v).mem := by
  unfold State.writeW
  rw [hm]
  dsimp only
  rw [markWrite_mem]
  simp [State.setWord, State.setByte]

theorem rd_writeW_ne (a : Nat) (v : Word) {x : Nat} (hwake : x ≠ R.MEM_WAKE_CNT) (hinj : x ≠ R.MEM_INJ_CTL) :
    (s.writeW a v).rd x = s.rd x := by
  unfold State.writeW
  split
  · rfl
  · dsimp only
    rw [rd_markWrite_ne _ _ hinj, ← rd_touchBank_ne s _ hwake]
    exact rd_congr rfl x

/-- In a bank that is awake no wake is counted either. -/
theorem rd_writeW_of_awake {a o : Nat} {k : MemKind} (v : Word) {x : Nat} (hm : memOf a = some (k, o))
    (hret : s.inRet (bankOf k o) = false) (hinj : x ≠ R.MEM_INJ_CTL) : (s.writeW a v).rd x = s.rd x := by
  unfold State.writeW
  rw [hm]
  dsimp only
  rw [rd_markWrite_ne _ _ hinj, touchBank_of_awake s hret]
  exact rd_congr rfl x

/-- A write of 1 or 2 bytes of a sound word in a bank that is awake writes the word with these bytes replaced (R310). -/
theorem writeN_of_sound {a n o : Nat} {k : MemKind} (v : Word) (hm : memOf (a - a % 4) = some (k, o))
    (hret : s.inRet (bankOf k o) = false) (hecc : s.eccAt (a - a % 4) = 0) :
    s.writeN a n v =
      (s.writeW (a - a % 4) (putBits (s.word (a - a % 4)) (8 * (a % 4) + 8 * n - 1) (8 * (a % 4)) v.toNat), true) := by
  unfold State.writeN
  dsimp only
  rw [readW_of_sound s hm hret hecc]
  rfl

/-- Bytes of a word put into memory replace no other byte. -/
theorem byte_setWord_putBits_ne {a n b : Nat} (v : Nat) (hpos : 0 < n) (hb : b < a ∨ a + n ≤ b) :
    (s.setWord (a - a % 4) (putBits (s.word (a - a % 4)) (8 * (a % 4) + 8 * n - 1) (8 * (a % 4)) v)).byte b = s.byte b := by
  by_cases hword : a - a % 4 ≤ b ∧ b < a - a % 4 + 4
  · obtain ⟨i, rfl⟩ : ∃ i : Fin 4, b = a - a % 4 + i :=
      ⟨⟨b - (a - a % 4), by omega⟩, by simp only; omega⟩
    have hi := i.isLt
    rw [byte_setWord_at, extractLsb'_putBits_outside _ _ _ _ _ (by omega) (by omega), extractLsb'_word]
  · exact byte_setWord_ne s _ _ _ (by omega)

/-! ## The record of the default target (R327) -/

@[simp] theorem decodeError_mem (src a : Nat) : (s.decodeError src a).mem = s.mem := rfl
@[simp] theorem decodeError_out (src a : Nat) : (s.decodeError src a).out = s.out := rfl
@[simp] theorem decodeError_mx (src a : Nat) : (s.decodeError src a).mx = s.mx := rfl

theorem rd_decodeError_ne (src a : Nat) {x : Nat} (hstat : x ≠ R.MTX_STAT) (hlast : x ≠ R.MTX_DECODE_LAST)
    (hcnt : x ≠ R.MTX_DECODE_CNT) : (s.decodeError src a).rd x = s.rd x := by
  unfold State.decodeError
  rw [rd_emit, rd_inc_ne _ _ _ hcnt, rd_wr, if_neg hlast, rd_flag_ne _ _ _ hstat]

theorem rd_decodeError_last (src a : Nat) : (s.decodeError src a).rd R.MTX_DECODE_LAST = BitVec.ofNat 32 a := by
  unfold State.decodeError
  rw [rd_emit, rd_inc_ne _ _ _ (by decide), rd_wr, if_pos rfl]

theorem g_decodeError_decode (src a : Nat) : (s.decodeError src a).g F.MTX_STAT_DECODE = 1 := by
  have hreg : (s.decodeError src a).rd R.MTX_STAT = (s.flag F.MTX_STAT_DECODE true).rd R.MTX_STAT := by
    unfold State.decodeError
    rw [rd_emit, rd_inc_ne _ _ _ (by decide), rd_wr, if_neg (by decide)]
  calc (s.decodeError src a).g F.MTX_STAT_DECODE
      = bitsOf ((s.decodeError src a).rd R.MTX_STAT) 2 2 := rfl
    _ = (s.flag F.MTX_STAT_DECODE true).g F.MTX_STAT_DECODE := by rw [hreg]; rfl
    _ = 1 := g_flag_self s F.MTX_STAT_DECODE true rfl (by decide)

/-! ## Frames -/

/-- Updates apart from registers and memory change no register and no byte. -/
theorem onlyRegs_of_eq {s t : State} (rs : List Nat) (hregs : t.regs = s.regs) (hmem : t.mem = s.mem) :
    onlyRegs s t rs := ⟨fun a _ => rd_congr hregs a, byte_congr hmem⟩

end Sys2Proof.Machine
end

section
/-!
SUPPORT. Accesses of the control core and of debuggers that nothing holds back (R9, R310, R327): one rule per form of access,
with the state that the access leaves written out.
-/
namespace Sys2Proof.Machine

variable {s : State}

/-! ## Nothing holds an access back -/

theorem freeBus_congr {s t : State} (h : t.mx = s.mx) (hfree : s.freeBus) : t.freeBus := by
  simpa only [State.freeBus, h] using hfree

theorem freeBus_touchBank (b : Nat) (hfree : s.freeBus) : (s.touchBank b).freeBus := by
  unfold State.touchBank; split <;> exact hfree

theorem freeBus_markWrite (a : Nat) (hfree : s.freeBus) : (s.markWrite a).freeBus := by
  unfold State.markWrite; split <;> exact hfree

theorem freeBus_writeW (a : Nat) (v : Word) (hfree : s.freeBus) : (s.writeW a v).freeBus := by
  unfold State.writeW
  split
  · exact hfree
  · exact freeBus_markWrite a (freeBus_touchBank _ hfree)

theorem lockBank_of_freeBus (hfree : s.freeBus) : s.lockBank = none := by
  obtain ⟨_, _, hleft, _⟩ := hfree
  simp [State.lockBank, hleft]

/-- No lock keeps a master from any bank. -/
theorem lockKeeps_of_freeBus (m a : Nat) (hfree : s.freeBus) : s.lockKeeps m a = false := by
  have hbank := lockBank_of_freeBus hfree
  obtain ⟨_, _, hleft, _⟩ := hfree
  unfold State.lockKeeps
  split
  · simp [hleft]
  · rw [hbank]; cases bankAt a <;> rfl

theorem queued_of_freeBus (m a n : Nat) (hfree : s.freeBus) : s.queued m a n = none := by
  have hlock := lockKeeps_of_freeBus m a hfree
  obtain ⟨hhung, _⟩ := hfree
  simp [State.queued, hlock, hhung, mustWait]

/-- Then only a stopped far domain makes an access wait. -/
theorem stuck_of_freeBus {m a n : Nat} (hfree : s.freeBus) (hfar : s.farStuck a = none) : s.stuck m a n = none := by
  simp [State.stuck, queued_of_freeBus m a n hfree, hfar]

theorem farStuck_of_lt {a : Nat} (h : a < 0x03000000) : s.farStuck a = none := by
  simp [State.farStuck, onBus_eq_false_of_lt h]

/-- No locked sequence counts an access. -/
theorem coreLock_of_freeBus (core : Bool) (a : Nat) (hfree : s.freeBus) : s.coreLock core a = s := by
  obtain ⟨_, _, hleft, _⟩ := hfree
  cases core <;> simp [State.coreLock, State.lockAccess, hleft]

/-- Nothing waits that could go on. -/
theorem go_of_freeBus (hfree : s.freeBus) : s.go = s := by
  obtain ⟨hhung, hatoms, _⟩ := hfree
  simp [State.go, State.atomsGo, hatoms, hhung, State.settle]

/-! ## The two commands over the access -/

/-- A read that is answered: the command sends the answer. -/
theorem exec_latchedLowRead_of_ok {a : Word} {size : Fin 3} {core stale : Bool} {t : State} {v : Word} (hfree : s.freeBus)
    (hfar : s.farStuck a.toNat = none)
    (hread : s.readAt (Src.matrix 6) a.toNat (sizeBytes size) stale = (t, .ok v)) (hafter : t.freeBus) :
    exec (.latchedLowRead a size core stale) s = .next (t.send (.resp false [v])) := by
  change Host.Outcome.next (s.busReadDone core a.toNat (sizeBytes size) stale).go = _
  have hdone : s.busReadDone core a.toNat (sizeBytes size) stale = t.send (.resp false [v]) := by
    simp [State.busReadDone, State.askRead, stuck_of_freeBus hfree hfar, hread, coreLock_of_freeBus core a.toNat hafter]
  rw [hdone, go_of_freeBus (freeBus_congr (send_mx t _) hafter)]

/-- A read that ends in an error response. -/
theorem exec_latchedLowRead_of_err {a : Word} {size : Fin 3} {core stale : Bool} {t : State} (hfree : s.freeBus)
    (hfar : s.farStuck a.toNat = none)
    (hread : s.readAt (Src.matrix 6) a.toNat (sizeBytes size) stale = (t, .err)) (hafter : t.freeBus) :
    exec (.latchedLowRead a size core stale) s = .next (t.send (.resp true [0])) := by
  change Host.Outcome.next (s.busReadDone core a.toNat (sizeBytes size) stale).go = _
  have hdone : s.busReadDone core a.toNat (sizeBytes size) stale = t.send (.resp true [0]) := by
    simp [State.busReadDone, State.askRead, stuck_of_freeBus hfree hfar, hread, coreLock_of_freeBus core a.toNat hafter]
  rw [hdone, go_of_freeBus (freeBus_congr (send_mx t _) hafter)]

/-- A write of a word: the command leaves what the write leaves. -/
theorem exec_registerWrite_word {a v : Word} {core : Bool} {t : State} (hfree : s.freeBus)
    (hfar : s.farStuck a.toNat = none) (hwrite : s.writeAt (Src.matrix 6) a.toNat v = t) (hafter : t.freeBus) :
    exec (.registerWrite a 2 v core) s = .next t := by
  change Host.Outcome.next (s.busWriteDone core a.toNat 4 v).go = _
  have hdone : s.busWriteDone core a.toNat 4 v = t := by
    simp [State.busWriteDone, stuck_of_freeBus hfree hfar, hwrite, coreLock_of_freeBus core a.toNat hafter]
  rw [hdone, go_of_freeBus hafter]

/-- A write of 1 or 2 bytes. -/
theorem exec_registerWrite_narrow {a v : Word} {size : Fin 3} {core : Bool} {t : State} (hsize : size.val < 2)
    (hfree : s.freeBus) (hwrite : s.writeNarrow (Src.matrix 6) a.toNat (2 ^ size.val) v = t) (hafter : t.freeBus) :
    exec (.registerWrite a size v core) s = .next t := by
  change Host.Outcome.next (s.busWriteDone core a.toNat (2 ^ size.val) v).go = _
  have hn : 2 ^ size.val ≠ 4 := (Nat.pow_lt_pow_right (by decide) hsize : 2 ^ size.val < 2 ^ 2).ne
  have hdone : s.busWriteDone core a.toNat (2 ^ size.val) v = t := by
    simp [State.busWriteDone, hn, queued_of_freeBus _ _ _ hfree, hwrite, coreLock_of_freeBus core a.toNat hafter]
  rw [hdone, go_of_freeBus hafter]

/-! ## Reads -/

/-- A read in a memory that is no program memory takes the word that holds the bytes. -/
theorem readWord_of_memory {src at_ a o : Nat} {k : MemKind} {stale : Bool} (hm : memOf a = some (k, o))
    (hk : k.isProg = false) :
    s.readWord src at_ a stale = ((s.readW a).1, if (s.readW a).2.2 then .err else .ok (s.readW a).2.1) := by
  unfold State.readWord
  rw [hm]
  cases k with
  | prog c => cases hk
  | ctl | data c | region g => rfl

/-- A read in a sound memory word of a bank that is awake answers the addressed bytes and has no effect. -/
theorem readAt_of_sound {src a n o : Nat} {k : MemKind} {stale : Bool} (halign : a % n = 0)
    (hm : memOf (a - a % 4) = some (k, o)) (hk : k.isProg = false) (hret : s.inRet (bankOf k o) = false)
    (hecc : s.eccAt (a - a % 4) = 0) : s.readAt src a n stale = (s, .ok (addressed a n (s.word (a - a % 4)))) := by
  simp [State.readAt, halign, readWord_of_memory hm hk, readW_of_sound s hm hret hecc]

/-- A read of an uncorrectable memory word ends in an error. -/
theorem readAt_of_uncorrectable {src a o : Nat} {k : MemKind} {stale : Bool} (halign : a % 4 = 0)
    (hm : memOf a = some (k, o)) (hk : k.isProg = false) (hecc : s.eccAt a = 2) :
    s.readAt src a 4 stale = ((s.touchBank (bankOf k o)).eccUncorr a, .err) := by
  simp [State.readAt, halign, readWord_of_memory hm hk, readW_of_uncorrectable s hm hecc]

/-- A read of a register in the running part of the device. -/
theorem readAt_of_register {src a : Nat} {stale : Bool} {r : RegSpec} {ix : List Nat} (halign : a % 4 = 0)
    (hm : memOf a = none) (hw : s.windowView a = none) (hr : regSpecAt a = some (r, ix)) (hf : farDomain a = none) :
    s.readAt src a 4 stale = ((s.regRead r ix a stale).1, .ok (s.regRead r ix a stale).2) := by
  simp [State.readAt, State.readWord, halign, hm, hw, hr, hf, addressed_word]

/-! ## The registers of the tick number and of the MTC (R13, R37, R41) -/

@[simp] theorem setLatch_regs (a : Nat) (v : Word) : (s.setLatch a v).regs = s.regs := rfl
@[simp] theorem setLatch_mem (a : Nat) (v : Word) : (s.setLatch a v).mem = s.mem := rfl
@[simp] theorem setLatch_out (a : Nat) (v : Word) : (s.setLatch a v).out = s.out := rfl
@[simp] theorem setLatch_mx (a : Nat) (v : Word) : (s.setLatch a v).mx = s.mx := rfl

@[simp] theorem latched_setLatch (a : Nat) (v : Word) : (s.setLatch a v).latched a = v :=
  SMap.get_set_self zeroW s.latch a v

@[simp] theorem latched_send (o : Out) (a : Nat) : (s.send o).latched a = s.latched a := by
  simp [State.latched]

/-- A read of TIME_TICK_LO answers the low word of the tick number and latches the high word. -/
theorem readAt_tickLo (src : Nat) (stale : Bool) :
    s.readAt src R.TIME_TICK_LO 4 stale =
      (s.setLatch R.TIME_TICK_HI (s.tm.tick.extractLsb' 32 32), .ok (s.tm.tick.setWidth 32)) :=
  readAt_of_register (r := ⟨"TIME_TICK_LO", R.TIME_TICK_LO, [], [0], false, [⟨31, 0, .ro⟩]⟩) (ix := [])
    (by decide) (by decide) rfl rfl rfl

/-- A read of TIME_TICK_HI answers what is latched. -/
theorem readAt_tickHi (src : Nat) (stale : Bool) :
    s.readAt src R.TIME_TICK_HI 4 stale = (s, .ok (s.latched R.TIME_TICK_HI)) :=
  readAt_of_register (r := ⟨"TIME_TICK_HI", R.TIME_TICK_HI, [], [0], false, [⟨31, 0, .ro⟩]⟩) (ix := [])
    (by decide) (by decide) rfl rfl rfl

/-! ## Writes -/

/-- A write of a word of a memory that is no program memory stores it and is answered. -/
theorem writeAt_of_memory {src a o : Nat} {k : MemKind} {v : Word} (halign : a % 4 = 0) (hm : memOf a = some (k, o))
    (hk : k.isProg = false) : s.writeAt src a v = (s.writeW a v).ok := by
  unfold State.writeAt
  rw [if_neg (by simpa using halign), hm]
  cases k with
  | prog c => cases hk
  | ctl | data c | region g => rfl

/-- A write of a word where the fast matrix decodes nothing reaches the default target. -/
theorem writeAt_of_nothing {src a : Nat} {v : Word} (halign : a % 4 = 0)
    (h : 0x04000000 ≤ a ∨ (0x02800000 ≤ a ∧ a < 0x03000000)) : s.writeAt src a v = (s.decodeError src a).err := by
  unfold State.writeAt
  rw [if_neg (by simpa using halign), memOf_eq_none_of_le (by omega)]
  dsimp only
  rw [if_neg (by omega), if_neg (by omega)]

/-- A write of 1 or 2 bytes of a sound memory word in a bank that is awake. -/
theorem writeNarrow_of_sound {src a n o : Nat} {k : MemKind} {v : Word} (halign : a % n = 0)
    (hm : memOf (a - a % 4) = some (k, o)) (hk : k.isProg = false) (hret : s.inRet (bankOf k o) = false)
    (hecc : s.eccAt (a - a % 4) = 0) :
    s.writeNarrow src a n v =
      (s.writeW (a - a % 4) (putBits (s.word (a - a % 4)) (8 * (a % 4) + 8 * n - 1) (8 * (a % 4)) v.toNat)).ok := by
  unfold State.writeNarrow
  rw [if_neg (by simpa using halign), memOf_of_word hm, writeN_of_sound s v hm hret hecc]
  cases k with
  | prog c => cases hk
  | ctl | data c | region g => rfl

/-- A write of 1 or 2 bytes of a register ends in an error and changes nothing (R9). -/
theorem writeNarrow_of_register {src a n : Nat} {v : Word} (halign : a % n = 0) (hm : memOf a = none)
    (hr : (regSpecAt (a - a % 4)).isSome = true) : s.writeNarrow src a n v = s.err := by
  unfold State.writeNarrow
  rw [if_neg (by simpa using halign), hm]
  dsimp only
  rw [if_pos (.inl hr)]

end Sys2Proof.Machine
end

section
/-!
SUPPORT. The commands MTC_READ, LATCHED_LOW_READ and REGISTER_WRITE on registers and memories (00_scope.md R9 to R13).
-/
namespace Sys2Proof.Machine

variable {s : State}

/-! ## MTC_READ (R41) -/

/-- Samples that agree: the MTC is taken and its high word latched. -/
theorem exec_mtcRead_agreeing (s : State) :
    ∃ t, exec (.mtcRead false) s = .next t ∧ t.out = s.out ++ [.resp false [s.tm.mtc.setWidth 32]] ∧
      t.latched R.TIME_MTC_HI = (s.tm.mtc >>> 32).setWidth 32 ∧ t.g F.TICK_STAT_MTC_STALE = 0 ∧
      onlyRegs s t [R.TICK_STAT] := by
  refine ⟨_, rfl, send_resp_out _ _ _, (latched_send _ _).trans (latched_setLatch _ _), ?_, fun x hx => ?_,
    byte_congr (send_mem _ _)⟩
  · exact (g_congr (send_regs _ _) _).trans (g_flag_self _ F.TICK_STAT_MTC_STALE false rfl (by decide))
  · exact (rd_congr (send_regs _ _) x).trans (rd_flag_ne _ F.TICK_STAT_MTC_STALE false (mt List.mem_singleton.mpr hx))

/-- Samples that do not agree: the value shown before stays, and the disagreement is shown and reported. -/
theorem exec_mtcRead_stale (s : State) :
    ∃ t, exec (.mtcRead true) s = .next t ∧ t.out = s.out ++ [.resp false [s.tm.mtcShown.setWidth 32]] ∧
      t.g F.TICK_STAT_MTC_STALE = 1 ∧ t.ft.blocks = addMsg s.ft.blocks ⟨R.TIME_MTC_LO, 1, Kind.cdcStale, Src.time⟩ ∧
      onlyRegs s t [R.TICK_STAT] := by
  refine ⟨_, rfl, send_resp_out _ _ _, ?_, congrArg Faults.blocks (send_ft _ _), fun x hx => ?_,
    byte_congr (send_mem _ _)⟩
  · exact (g_congr (send_regs _ _) _).trans (g_flag_self _ F.TICK_STAT_MTC_STALE true rfl (by decide))
  · exact (rd_congr (send_regs _ _) x).trans (rd_flag_ne _ F.TICK_STAT_MTC_STALE true (mt List.mem_singleton.mpr hx))

/-! ## LATCHED_LOW_READ -/

theorem exec_read_tickLo (core : Bool) (hfree : s.freeBus) :
    exec (.latchedLowRead (BitVec.ofNat 32 R.TIME_TICK_LO) 2 core false) s =
      .next ((s.setLatch R.TIME_TICK_HI (s.tm.tick.extractLsb' 32 32)).send (.resp false [s.tm.tick.setWidth 32])) :=
  exec_latchedLowRead_of_ok hfree rfl (readAt_tickLo _ _) (freeBus_congr (setLatch_mx _ _) hfree)

theorem exec_read_tickHi (core : Bool) (hfree : s.freeBus) :
    exec (.latchedLowRead (BitVec.ofNat 32 R.TIME_TICK_HI) 2 core false) s =
      .next (s.send (.resp false [s.latched R.TIME_TICK_HI])) :=
  exec_latchedLowRead_of_ok hfree rfl (readAt_tickHi _ _) hfree

/-- Sound memory in a bank that is awake answers the addressed bytes. -/
theorem exec_read_sound {a : Word} {size : Fin 3} {core : Bool} {k : MemKind} {o : Nat}
    (halign : a.toNat % 2 ^ size.val = 0) (hm : memOf (a.toNat - a.toNat % 4) = some (k, o)) (hk : k.isProg = false)
    (hret : s.inRet (bankOf k o) = false) (hecc : s.eccAt (a.toNat - a.toNat % 4) = 0) (hfree : s.freeBus) :
    exec (.latchedLowRead a size core false) s =
      .next (s.send (.resp false [addressed a.toNat (2 ^ size.val) (s.word (a.toNat - a.toNat % 4))])) :=
  exec_latchedLowRead_of_ok hfree (farStuck_of_lt (by have := memOf_lt (memOf_of_word hm); omega))
    (readAt_of_sound halign hm hk hret hecc) hfree

/-- An uncorrectable memory word answers with an error, and MEM_ECC_LAST names it. -/
theorem exec_read_uncorrectable {a : Word} {core : Bool} {k : MemKind} {o : Nat} (halign : a.toNat % 4 = 0)
    (hm : memOf a.toNat = some (k, o)) (hk : k.isProg = false) (hecc : s.eccAt a.toNat = 2) (hfree : s.freeBus) :
    exec (.latchedLowRead a 2 core false) s =
      .next (((s.touchBank (bankOf k o)).eccUncorr a.toNat).send (.resp true [0])) :=
  exec_latchedLowRead_of_err hfree (farStuck_of_lt (by have := memOf_lt hm; omega))
    (readAt_of_uncorrectable halign hm hk hecc) (freeBus_congr (eccUncorr_mx _ _) (freeBus_touchBank _ hfree))

/-! ## REGISTER_WRITE -/

/-- A memory word takes the value. -/
theorem exec_write_memory {a v : Word} {core : Bool} {k : MemKind} {o : Nat} (halign : a.toNat % 4 = 0)
    (hm : memOf a.toNat = some (k, o)) (hk : k.isProg = false) (hfree : s.freeBus) :
    exec (.registerWrite a 2 v core) s = .next (s.writeW a.toNat v).ok :=
  exec_registerWrite_word hfree (farStuck_of_lt (by have := memOf_lt hm; omega)) (writeAt_of_memory halign hm hk)
    (freeBus_congr (ok_mx _) (freeBus_writeW _ _ hfree))

/-- 1 or 2 bytes are merged into their memory word. -/
theorem exec_write_bytes {a v : Word} {size : Fin 3} {core : Bool} {k : MemKind} {o : Nat} (hsize : size.val < 2)
    (halign : a.toNat % 2 ^ size.val = 0) (hm : memOf (a.toNat - a.toNat % 4) = some (k, o)) (hk : k.isProg = false)
    (hret : s.inRet (bankOf k o) = false) (hecc : s.eccAt (a.toNat - a.toNat % 4) = 0) (hfree : s.freeBus) :
    exec (.registerWrite a size v core) s =
      .next (s.writeW (a.toNat - a.toNat % 4) (putBits (s.word (a.toNat - a.toNat % 4))
        (8 * (a.toNat % 4) + 8 * 2 ^ size.val - 1) (8 * (a.toNat % 4)) v.toNat)).ok :=
  exec_registerWrite_narrow hsize hfree (writeNarrow_of_sound halign hm hk hret hecc)
    (freeBus_congr (ok_mx _) (freeBus_writeW _ _ hfree))

/-- Where nothing stands the default target records the address and answers with an error. -/
theorem exec_write_nothing {a v : Word} {core : Bool} (halign : a.toNat % 4 = 0)
    (h : 0x04000000 ≤ a.toNat ∨ (0x02800000 ≤ a.toNat ∧ a.toNat < 0x03000000)) (hfree : s.freeBus) :
    exec (.registerWrite a 2 v core) s = .next (s.decodeError (Src.matrix 6) a.toNat).err := by
  have hfar : s.farStuck a.toNat = none := by
    have hbus : onBus a.toNat = false := decide_eq_false (by omega)
    simp [State.farStuck, hbus]
  exact exec_registerWrite_word hfree hfar (writeAt_of_nothing halign h)
    (freeBus_congr ((err_mx _).trans (decodeError_mx _ _ _)) hfree)

/-- 1 or 2 bytes of a register are refused with an error. -/
theorem exec_write_narrow_register {a v : Word} {size : Fin 3} {core : Bool} (hsize : size.val < 2)
    (halign : a.toNat % 2 ^ size.val = 0) (hm : memOf a.toNat = none)
    (hr : (regSpecAt (a.toNat - a.toNat % 4)).isSome = true) (hfree : s.freeBus) :
    exec (.registerWrite a size v core) s = .next s.err :=
  exec_registerWrite_narrow hsize hfree (writeNarrow_of_register halign hm hr) (freeBus_congr (err_mx _) hfree)

/-! ## What the writes of memory leave -/

theorem onlyBytes_write_word {a o : Nat} {k : MemKind} (v : Word) (hm : memOf a = some (k, o)) :
    onlyBytes s (s.writeW a v).ok [R.MEM_WAKE_CNT, R.MEM_INJ_CTL] a 4 := by
  refine ⟨fun x hx => ?_, fun b hb => ?_⟩
  · obtain ⟨hwake, hinj⟩ : x ≠ R.MEM_WAKE_CNT ∧ x ≠ R.MEM_INJ_CTL := by simpa using hx
    rw [rd_ok, rd_writeW_ne s a v hwake hinj]
  · rw [byte_congr (ok_mem _), byte_congr (writeW_mem s v hm), byte_setWord_ne s a b v hb]

theorem onlyBytes_write_bytes {a n o : Nat} {k : MemKind} (v : Nat) (hpos : 0 < n)
    (hm : memOf (a - a % 4) = some (k, o)) (hret : s.inRet (bankOf k o) = false) :
    onlyBytes s (s.writeW (a - a % 4)
      (putBits (s.word (a - a % 4)) (8 * (a % 4) + 8 * n - 1) (8 * (a % 4)) v)).ok [R.MEM_INJ_CTL] a n := by
  refine ⟨fun x hx => ?_, fun b hb => ?_⟩
  · rw [rd_ok, rd_writeW_of_awake s _ hm hret (by simpa using hx)]
  · rw [byte_congr (ok_mem _), byte_congr (writeW_mem s _ hm), byte_setWord_putBits_ne s v hpos hb]

/-- What has been stored in a memory word reads back. -/
theorem word_write_word {a o : Nat} {k : MemKind} (v : Word) (hm : memOf a = some (k, o)) :
    (s.writeW a v).ok.word a = v := by
  rw [word_congr (ok_mem _), word_congr (writeW_mem s v hm), word_setWord]

/-- An aligned access of 1 or 2 bytes stays in its word. -/
theorem narrow_in_word {a : Nat} {size : Fin 3} (hsize : size.val < 2) (halign : a % 2 ^ size.val = 0) :
    8 * (a % 4) + 8 * 2 ^ size.val ≤ 32 := by
  obtain ⟨i, hi⟩ := size
  interval_cases i <;> dsimp only at halign ⊢ <;> omega

/-- Settles O15: each clause is the rule of one form of access that nothing holds back, with the frame of what it leaves. -/
theorem busAccessesReadAndWrite : Obligations.BusAccessesReadAndWrite := by
  unfold Obligations.BusAccessesReadAndWrite
  refine ⟨fun s _ => exec_mtcRead_agreeing s, fun s _ => exec_mtcRead_stale s, ?_, ?_, ?_, ?_, ?_, ?_, ?_, ?_, ?_⟩
  · -- LATCHED_LOW_READ of TIME_TICK_LO
    intro core s _ hfree
    exact ⟨_, exec_read_tickLo core hfree, by simp, by simp, onlyRegs_of_eq _ (by simp) (by simp)⟩
  · -- LATCHED_LOW_READ of TIME_TICK_HI
    intro core s _ hfree
    exact ⟨_, exec_read_tickHi core hfree, send_resp_out _ _ _, onlyRegs_of_eq _ (send_regs _ _) (send_mem _ _)⟩
  · -- LATCHED_LOW_READ of a sound word: the bytes addressed are the whole word
    intro a core k o s halign hm hk hret hecc _ hfree
    have hbase : a.toNat - a.toNat % 4 = a.toNat := by rw [halign, Nat.sub_zero]
    rw [← hbase] at hm hecc
    refine ⟨_, exec_read_sound (size := 2) halign hm hk hret hecc hfree, ?_,
      onlyRegs_of_eq _ (send_regs _ _) (send_mem _ _)⟩
    rw [send_resp_out, hbase]
    exact congrArg (fun w => s.out ++ [.resp false [w]]) (addressed_word _ halign)
  · -- LATCHED_LOW_READ of an uncorrectable word
    intro a core k o s halign hm hk hecc _ hfree
    refine ⟨_, exec_read_uncorrectable halign hm hk hecc hfree, by simp, ?_, fun x hx => ?_, fun b => ?_⟩
    · rw [rd_send, rd_eccUncorr_last _ hm, BitVec.ofNat_toNat, BitVec.setWidth_eq]
    · obtain ⟨hlast, hcnt, hwake⟩ : x ≠ R.MEM_ECC_LAST ∧ x ≠ R.MEM_ECC_UNCORR_CNT ∧ x ≠ R.MEM_WAKE_CNT := by
        simpa using hx
      rw [rd_send, rd_eccUncorr_ne _ _ hlast hcnt, rd_touchBank_ne _ _ hwake]
    · exact byte_congr (by simp) b
  · -- LATCHED_LOW_READ of bytes of a sound word
    intro a size core k o s halign hm hk hret hecc _ hfree
    refine ⟨_, exec_read_sound halign hm hk hret hecc hfree, ?_, onlyRegs_of_eq _ (send_regs _ _) (send_mem _ _)⟩
    rw [send_resp_out, addressed_eq_shift_mask]
  · -- REGISTER_WRITE of a memory word
    intro a v core k o s halign hm hk hfree
    exact ⟨_, exec_write_memory halign hm hk hfree, word_write_word v hm, onlyBytes_write_word v hm, by simp⟩
  · -- REGISTER_WRITE of 1 or 2 bytes of a sound word
    intro a v size core k o s hsize halign hm hk hret hecc hfree
    refine ⟨_, exec_write_bytes hsize halign hm hk hret hecc hfree, ?_,
      onlyBytes_write_bytes _ (Nat.two_pow_pos _) hm hret, by simp⟩
    rw [word_write_word _ hm]
    exact putBits_shift_mask _ v _ _ (by have := Nat.two_pow_pos size.val; omega) (narrow_in_word hsize halign)
  · -- REGISTER_WRITE where nothing stands
    intro a v s halign h hfree
    refine ⟨_, exec_write_nothing halign h hfree, ?_, ?_, by simp, fun x hx => ?_, fun b => ?_⟩
    · rw [g_err, g_decodeError_decode]
    · rw [rd_err, rd_decodeError_last, BitVec.ofNat_toNat, BitVec.setWidth_eq]
    · obtain ⟨hstat, hlast, hcnt⟩ : x ≠ R.MTX_STAT ∧ x ≠ R.MTX_DECODE_LAST ∧ x ≠ R.MTX_DECODE_CNT := by
        simpa using hx
      rw [rd_err, rd_decodeError_ne _ _ _ hstat hlast hcnt]
    · exact byte_congr (by simp) b
  · -- REGISTER_WRITE of 1 or 2 bytes of a register
    intro a v size core s hsize heven hm hr hfree
    have halign : a.toNat % 2 ^ size.val = 0 :=
      Nat.mod_eq_zero_of_dvd ((pow_dvd_pow 2 (by omega : size.val ≤ 1)).trans (Nat.dvd_of_mod_eq_zero heven))
    exact ⟨_, exec_write_narrow_register hsize halign hm hr hfree, rfl, onlyRegs_of_eq _ (err_regs _) (err_mem _)⟩

end Sys2Proof.Machine
end

section
/-!
SUPPORT. Every operation of the model keeps the stores in canonical form (O5): one rule per operation, named after it, so
that the rule of a composed operation is the chain of the rules of its parts, in the order in which they act.
-/
namespace Sys2Proof.Machine

/-- Whatever state a command ends in, its stores are in canonical form. -/
def KeepsStores (o : Host.Outcome State Fault Refusal) : Prop := ∀ t, o = .next t → t.inv

/-! ## Branches, loops and updates of other parts -/

theorem SMap.risesFrom_filter {β : Type} (q : Nat × β → Bool) {m : SMap β} {lo : Nat} (h : SMap.risesFrom lo m = true) :
    SMap.risesFrom lo (m.filter q) = true := by
  induction m generalizing lo with
  | nil => rfl
  | cons e m ih =>
    obtain ⟨a, v⟩ := e
    simp only [SMap.risesFrom, Bool.and_eq_true, decide_eq_true_eq] at h
    rw [List.filter_cons]
    split
    · simp [SMap.risesFrom, h.1, ih h.2]
    · exact SMap.risesFrom_mono (by omega) (ih h.2)

/-- What a filter leaves of a canonical map is canonical. -/
theorem SMap.wf_filter {β : Type} [DecidableEq β] {d : Nat → β} {m : SMap β} (q : Nat × β → Bool) (h : SMap.wf d m = true) :
    SMap.wf d (m.filter q) = true := by
  simp only [SMap.wf, Bool.and_eq_true, SMap.noDefault, List.all_eq_true] at h ⊢
  exact ⟨SMap.risesFrom_filter q h.1, fun e he => h.2 e (List.mem_of_mem_filter he)⟩

variable {s : State}

theorem KeepsStores.ite {c : Prop} [Decidable c] {o o' : Host.Outcome State Fault Refusal} (h : KeepsStores o)
    (h' : KeepsStores o') : KeepsStores (if c then o else o') := by split <;> assumption

/-- Any property of both branches is one of the choice between them. -/
theorem State.inv.ite {c : Prop} [Decidable c] {t : State} (h : s.inv) (h' : t.inv) : (if c then s else t).inv := by
  split <;> assumption

theorem State.inv.iteFst {α : Type} {c : Prop} [Decidable c] {p q : State × α} (h : p.1.inv) (h' : q.1.inv) :
    (if c then p else q).1.inv := by split <;> assumption

theorem State.inv.iteMk {α : Type} {c : Prop} [Decidable c] {t : State} {a b : α} (h : s.inv) (h' : t.inv) :
    (if c then (s, a) else (t, b)).1.inv := h.iteFst h'

theorem State.inv.iteDone {c : Prop} [Decidable c] {p q : Done} (h : p.s.inv) (h' : q.s.inv) :
    (if c then p else q).s.inv := by split <;> assumption

theorem State.inv.iteTransfer {c : Prop} [Decidable c] {p q : Transfer} (h : p.s.inv) (h' : q.s.inv) :
    (if c then p else q).s.inv := by split <;> assumption

theorem State.inv.foldl {α : Type} {f : State → α → State} {xs : List α} (h : s.inv)
    (hf : ∀ t x, t.inv → (f t x).inv) : (xs.foldl f s).inv := by
  induction xs generalizing s with
  | nil => exact h
  | cons x xs ih => exact ih (hf _ _ h)

theorem State.inv.foldlFst {α β : Type} {f : State × β → α → State × β} {xs : List α} {p : State × β} (h : p.1.inv)
    (hf : ∀ q x, q.1.inv → (f q x).1.inv) : (xs.foldl f p).1.inv := by
  induction xs generalizing p with
  | nil => exact h
  | cons x xs ih => exact ih (hf _ _ h)

theorem State.inv.foldlMk {α β : Type} {f : State × β → α → State} {g : State × β → α → β} {xs : List α} {p : State × β}
    (h : p.1.inv) (hf : ∀ q x, q.1.inv → (f q x).inv) : (xs.foldl (fun q x => (f q x, g q x)) p).1.inv :=
  State.inv.foldlFst h hf

theorem State.inv_mk {pending regs mem latch out irq cl fc xg tm ft mx pr hs lv sp ng fb et br ck pw freeCtr}
    (hm : Memory.wf mem) (hr : Regs.wf regs) :
    State.inv ⟨pending, regs, mem, latch, out, irq, cl, fc, xg, tm, ft, mx, pr, hs, lv, sp, ng, fb, et, br, ck, pw,
      freeCtr⟩ := ⟨hm, hr⟩

variable (h : s.inv)
include h

theorem State.inv.next : KeepsStores (.next s) := fun _ e => Host.Outcome.next.inj e ▸ h

/-- The invariant speaks of the registers and of memory alone. -/
theorem State.inv.upd {pending latch out irq cl fc xg tm ft mx pr hs lv sp ng fb et br ck pw freeCtr} :
    State.inv ⟨pending, s.regs, s.mem, latch, out, irq, cl, fc, xg, tm, ft, mx, pr, hs, lv, sp, ng, fb, et, br, ck, pw,
      freeCtr⟩ := h

/-! ## Registers, flags, answers and memory words -/

theorem State.inv.wr {a : Nat} {v : Word} : (s.wr a v).inv := inv_wr a v h

theorem State.inv.p {f : Fld} {v : Nat} : (s.p f v).inv := h.wr

theorem State.inv.flag {f : Fld} {b : Bool} : (s.flag f b).inv := h.p

theorem State.inv.bump {f : Fld} {n : Nat} : (s.bump f n).inv := h.p

theorem State.inv.inc {a n : Nat} : (s.inc a n).inv := h.bump

theorem State.inv.wr64 {lo hi v : Nat} : (s.wr64 lo hi v).inv := h.wr.wr

theorem State.inv.nextFree : s.nextFree.1.inv := h.upd

theorem State.inv.send {o : Out} : (s.send o).inv := h.ite h.upd

theorem State.inv.ok : s.ok.inv := h.send

theorem State.inv.err : s.err.inv := h.send

theorem State.inv.emit {kind src addr count : Nat} : (s.emit kind src addr count).inv := h.upd

theorem State.inv.setByte {a : Nat} {v : Byte} : (s.setByte a v).inv := inv_setByte a v h

theorem State.inv.setWord {a : Nat} {v : Word} : (s.setWord a v).inv := inv_setWord a v h

theorem State.inv.setEcc {a n : Nat} : (s.setEcc a n).inv := h.upd

theorem State.inv.touchBank {b : Nat} : (s.touchBank b).inv := inv_touchBank b h

theorem State.inv.eccCorr {a : Nat} : (s.eccCorr a).inv := inv_eccCorr a h

theorem State.inv.eccUncorr {a : Nat} : (s.eccUncorr a).inv := inv_eccUncorr a h

theorem State.inv.readW {a : Nat} : (s.readW a).1.inv := inv_readW a h

theorem State.inv.markWrite {a : Nat} : (s.markWrite a).inv := inv_markWrite a h

theorem State.inv.writeW {a : Nat} {v : Word} : (s.writeW a v).inv := inv_writeW a v h

theorem State.inv.decodeError {src a : Nat} : (s.decodeError src a).inv := h.flag.wr.inc.emit

theorem State.inv.writeN {a n : Nat} {v : Word} : (s.writeN a n v).1.inv := by
  unfold State.writeN
  dsimp only
  split
  · exact h.readW
  · exact h.readW.writeW

theorem State.inv.setClu {c : Nat} {k : Cluster} : (s.setClu c k).inv := h.upd

theorem State.inv.countAct {c k n : Nat} : (s.countAct c k n).inv := h.inc.upd

theorem State.inv.taskStore {a : Nat} {v : Word} : (s.taskStore a v).inv := inv_taskStore a v h

/-! ## Interrupts and host events -/

theorem State.inv.setNgl {p : Nat} {k : Ngl} : (s.setNgl p k).inv := h.upd

theorem State.inv.creditBack {held : Option Nat} {c n : Nat} : (s.creditBack held c n).inv := by
  unfold State.creditBack
  split
  · exact h.ite h.send
  · exact h

theorem State.inv.pumpQueue {p c : Nat} {ms : List TxMsg} : (s.pumpQueue p c ms).1.inv := by
  induction ms generalizing s with
  | nil => exact h
  | cons m ms ih => exact (ih (h.ite h.p).creditBack.send).iteFst (h.ite h.p).creditBack

theorem State.inv.pump {p c : Nat} : (s.pump p c).inv := h.ite h.pumpQueue.upd

theorem State.inv.sendPort {p : Nat} {e : Env} {ws : List Word} {held : Option Nat} : (s.sendPort p e ws held).inv :=
  h.send.ite <| h.ite h.upd.pump

theorem State.inv.sendMsg {e : Env} {ws : List Word} : (s.sendMsg e ws).inv := by
  unfold State.sendMsg
  refine State.inv.ite ?_ h.inc
  split
  · exact h.sendPort
  · exact h.inc

theorem State.inv.forwardMsg {p : Nat} {e : Env} {ws : List Word} : (s.forwardMsg p e ws).inv := by
  unfold State.forwardMsg
  dsimp only
  refine h.creditBack.ite <| h.inc.creditBack.ite ?_
  split
  · exact h.sendPort
  · exact h.inc.creditBack

theorem State.inv.received {p : Nat} {e : Env} {t : Nat} {ws : List Word} {deliver : State → State}
    (hf : ∀ t, t.inv → (deliver t).inv) : (s.received p e t ws deliver).inv :=
  h.ite <| h.inc.ite <| h.inc.creditBack.ite <| (hf _ h).creditBack.ite h.forwardMsg

theorem State.inv.hostWriteAs {e : Env} {addr : Nat} {ws : List Word} : (s.hostWriteAs e addr ws).inv :=
  (h.send.ite h).ite <| h.foldl fun _ _ ht => ht.sendMsg

theorem State.inv.hostWrite {addr : Nat} {ws : List Word} : (s.hostWrite addr ws).inv := h.hostWriteAs

theorem State.inv.msixSend {v : Nat} : (s.msixSend v).inv := h.upd.ite h.send

theorem State.inv.msix {v : Nat} : (s.msix v).inv :=
  (h.upd.ite (h.upd.ite (h.msixSend.ite h.msixSend.upd))).ite h.sendMsg

theorem State.inv.event {type src : Nat} {ws : List Word} : (s.event type src ws).inv :=
  h.hostWrite.p.p.upd.msix.ite h.inc.flag.upd

end Sys2Proof.Machine
end

section
/-!
SUPPORT. O5: the words and tasks of the clusters and the forecast keep the stores in canonical form.
-/
namespace Sys2Proof.Machine

variable {s : State} (h : s.inv)
include h

/-! ## Words of a cluster -/

theorem State.inv.decodeLanes {c : Nat} {as : List Nat} : (s.decodeLanes c as).inv := by
  unfold State.decodeLanes
  split
  · exact h.decodeError
  · exact h

theorem State.inv.readMany {bs : List Nat} : (s.readMany bs).1.inv := h.foldlFst fun _ _ ht => ht.readW

theorem State.inv.runLoad {c addr : Nat} {k0 : Cluster} {m : MemOp} {k : Cluster} : (s.runLoad c addr k0 m k).1.inv :=
  h.decodeLanes.readMany

theorem State.inv.runStore {c addr : Nat} {k0 : Cluster} {m : MemOp} {k : Cluster} :
    (s.runStore c addr k0 m k).1.inv :=
  h.decodeLanes.foldl fun _ _ ht => ht.taskStore

theorem State.inv.runMem {c addr : Nat} {k0 : Cluster} {m : Option MemOp} {k : Cluster} :
    (s.runMem c addr k0 m k).1.inv := by
  unfold State.runMem
  split
  · exact h
  · exact h.runStore.iteFst h.runLoad

theorem State.inv.postMod {c : Nat} {m : Option MemOp} {k : Cluster} : (s.postMod c m k).1.inv := by
  unfold State.postMod
  dsimp only
  split
  · exact h
  · exact (h.p.ite h).iteFst h

theorem State.inv.shadowCompare {c addr : Nat} {mis : Bool} {ds : List Bool} :
    (s.shadowCompare c addr mis ds).inv := by
  unfold State.shadowCompare
  dsimp only
  split
  · exact h.flag.ite <|
        have h1 := h.flag.flag.bump.p.p
        h1.ite <| h1.setClu.emit.ite h1.setClu
  · exact h

theorem State.inv.stalls {c bank ext haz : Nat} : (s.stalls c bank ext haz).inv := h.bump.bump.bump

theorem State.inv.circ {k : Cluster} {c i : Nat} : (State.circ (s, k) c i).1.inv := by
  unfold State.circ
  split
  · exact h.p
  · exact h

omit h in
theorem State.inv.setaWrite {r : State × Cluster} {c v : Nat} {x : SetaSub} (h : r.1.inv) :
    (setaWrite c x v r).1.inv := by
  unfold Machine.setaWrite
  dsimp only
  split
  · exact h.circ
  · exact h
  · exact State.inv.foldlFst h fun _ _ ht => ht.circ
  · exact h
  · exact h.circ

omit h in
theorem State.inv.setaOpt {r : State × Cluster} {c : Nat} {s0 : State} {k0 : Cluster} {x : Option SetaSub}
    (h : r.1.inv) : (setaOpt c s0 k0 x r).1.inv := by
  unfold Machine.setaOpt
  split
  · exact h
  · exact h.setaWrite

theorem State.inv.endTask {c : Nat} : (s.endTask c).inv := h.setClu.p

theorem State.inv.haltTask {c : Nat} : (s.haltTask c).inv := h.setClu.endTask

theorem State.inv.setRun {t : Nat} {v : TaskRun} : (s.setRun t v).inv := h.upd

theorem State.inv.undefinedWord {c why : Nat} : (s.undefinedWord c why).inv := h.flag.p.p.p.emit.setRun.endTask

theorem State.inv.fetch {c : Nat} : (s.fetch c).1.inv := by
  unfold State.fetch
  dsimp only
  split
  · exact h
  · exact h.p.readW.readW.flag.iteMk h.p.readW.readW

theorem State.inv.runSlots {c : Nat} {env : WordEnv} {cs : CSlot} {m0 : M0Slot} {m1 : M1Slot} :
    (s.runSlots c env cs m0 m1).inv := by
  unfold State.runSlots
  extract_lets _ _ _ o0 o1 _ _ _ _ _ _ _ _ _ _ _ _ _ _ done counted0 counted1 counted2
  have hd : done.inv := h.runMem.runMem.postMod.postMod.setClu.stalls
  have h0 : counted0.inv := by
    unfold counted0
    split
    · exact hd.countAct
    · exact hd
  have h1 : counted1.inv := by
    unfold counted1
    clear_value o0
    split
    · exact h0.countAct
    · exact h0
  have h2 : counted2.inv := by
    unfold counted2
    clear_value o1
    split
    · exact h1.countAct
    · exact h1
  exact h2.shadowCompare

omit h in
theorem State.inv.runWhole {c n : Nat} {f : Nat → Cluster → State × Cluster} (_ : s.inv)
    (hf : ∀ x k, (f x k).1.inv) : (s.runWhole c n f).inv :=
  (hf _ _).setClu

theorem State.inv.runBr {c : Nat} {bc : BrCond} {t : Nat} : (s.runBr c bc t).inv :=
  (h.runWhole fun _ _ => h).ite <| h.runWhole fun _ _ => h

theorem State.inv.runLoop {c n start stop : Nat} : (s.runLoop c n start stop).inv :=
  (h.runWhole fun _ _ => h).ite <| h.runWhole fun _ _ => h

theorem State.inv.runSeta {c : Nat} {x y : Option SetaSub} : (s.runSeta c x y).inv :=
  h.runWhole fun _ _ => State.inv.setaOpt (State.inv.setaOpt h)

theorem State.inv.runSeti {c n : Nat} {q : Cond} {v : Word} : (s.runSeti c n q v).inv := h.runWhole fun _ _ => h

theorem State.inv.runHalt {c : Nat} : (s.runHalt c).inv := h.setClu.endTask

theorem State.inv.runWord {c : Nat} {env : WordEnv} {w : IWord} : (s.runWord c env w).inv := by
  unfold State.runWord
  refine h.undefinedWord.ite ?_
  split
  · exact h.runSlots
  · exact h.runBr
  · exact h.runLoop.ite h.undefinedWord
  · exact h.runSeta
  · exact h.runSeti
  · exact h.runHalt

theorem State.inv.issue {c : Nat} {env : WordEnv} {w : IWord} : (s.issue c env w).inv := by
  unfold State.issue
  dsimp only
  refine State.inv.ite ?_ h
  split
  · exact h.p.fetch.undefinedWord
  · exact h.p.fetch.runWord.ite h

theorem State.inv.issueUndefined {c : Nat} : (s.issueUndefined c).inv := by
  unfold State.issueUndefined
  dsimp only
  refine State.inv.ite ?_ h
  split
  · exact h.p.fetch.undefinedWord
  · exact h.p.fetch.undefinedWord
  · exact h.ite h.p.fetch.undefinedWord
  · exact h

/-! ## Forecast -/

theorem State.inv.rounded {num : Int} {den : Nat} : (s.rounded num den).1.inv := h.nextFree

theorem State.inv.setBudgetState {n : Nat} : (s.setBudgetState n).inv :=
  h.ite <|
    have h1 := h.p.event
    have h2 := h1.upd.ite h1
    h2.emit.ite h2

theorem State.inv.select {k run : Nat} : (s.select k run).inv := h.setBudgetState.flag.p.flag.flag.upd

theorem State.inv.clearEobs : s.clearEobs.inv := State.inv_mk h.1 (SMap.wf_filter _ h.2)

theorem State.inv.switchTable {x : Nat} : (s.switchTable x).inv :=
  (h.clearEobs.p.foldl fun _ _ ht => ht.ite ht.wr).upd

theorem State.inv.warmup : s.warmup.inv := h.flag

theorem State.inv.tickRun : s.tickRun.inv := h.upd.warmup

theorem State.inv.forecastStop : s.forecastStop.inv := h.tickRun.upd

theorem State.inv.forecastBoundary {k : Nat} {first : Bool} : (s.forecastBoundary k first).inv := by
  unfold State.forecastBoundary
  extract_lets ran _ chosen table warm _ begun
  have hr : ran.inv := h.ite h.tickRun
  have hc : chosen.inv := by
    refine hr.upd.ite ?_
    split
    · exact hr.ite hr.select
    · exact hr.select
  have ht : table.inv := hc.switchTable.p.ite (hc.p.ite hc)
  have hb : begun.inv := ht.warmup.upd
  split
  · exact hb.upd
  · exact (hb.wr.wr.wr.p.inc.flag.ite hb.wr.wr.wr.p.inc).upd

theorem State.inv.enterTask {t c : Nat} {tv : Nat × Nat × Nat} {cv : Nat × Nat} {tl : Word} :
    (s.enterTask t c tv cv tl).inv :=
  (h.foldl fun _ _ ht => ht.wr).setClu.p.flag.p.inc.upd

theorem State.inv.startTask {t : Nat} {tv : Nat × Nat × Nat} {cv : Nat × Nat} {tl : Word} :
    (s.startTask t tv cv tl).inv :=
  (h.foldl fun _ _ ht => ht.enterTask).setRun

theorem State.inv.forcedTier {t : Nat} : (s.forcedTier t).inv := by
  unfold State.forcedTier
  dsimp only
  split
  · exact h.upd.ite h
  · exact h

theorem State.inv.clusterBanks {c : Nat} : (s.clusterBanks c).inv := h.upd

theorem State.inv.wakeOne {c : Nat} : (s.wakeOne c).inv := h.p.clusterBanks

theorem State.inv.wakeClusters : s.wakeClusters.inv := h.foldl fun _ _ ht => ht.wakeOne

theorem State.inv.powerOff {c : Nat} : (s.powerOff c).inv := h.setClu.p

theorem State.inv.gateClusters : s.gateClusters.inv := h.foldl fun _ _ ht => ht.upd.powerOff.ite ht.upd

theorem State.inv.calibrate {meas : Nat} : (s.calibrate meas).inv := h.wr.rounded.p.ite h.wr

theorem State.inv.observe : s.observe.inv := h.foldl fun _ _ ht => ht.rounded.p.ite ht

theorem State.inv.overrunTiers : s.overrunTiers.inv := (h.upd.flag.foldl fun _ _ ht => ht.upd.ite ht.upd).ite h.upd

theorem State.inv.thermPower {meas : Nat} : (s.thermPower meas).1.inv := by
  unfold State.thermPower
  dsimp only
  split
  · exact h.upd
  · split
    · exact h.upd
    · exact h.nextFree.upd

theorem State.inv.showTemp {f : Fld} {v : Int} : (s.showTemp f v).inv := h.rounded.p

theorem State.inv.forceGale : s.forceGale.inv := h.upd.flag.p

theorem State.inv.thermalUpdate {meas : Nat} {ts : List Int} : (s.thermalUpdate meas ts).inv := by
  unfold State.thermalUpdate
  dsimp only
  split
  · exact (h.thermPower.upd.ite h.thermPower.upd.emit).flag.showTemp.upd.forceGale
  · exact h.thermPower.upd.upd.flag.showTemp.showTemp.showTemp.rounded.p

/-! ## Tasks and cluster memory -/

theorem State.inv.endMessages {c : Nat} : (s.endMessages c).inv :=
  have h1 := h.ite h.bump.emit
  (h1.ite h1.emit).setClu

theorem State.inv.recordCycles {c t n : Nat} : (s.recordCycles c t n).inv :=
  have h1 := h.p.p
  h1.p.p.ite h1

theorem State.inv.completeTask {c late : Nat} : (s.completeTask c late).inv :=
  have h1 := h.endMessages.recordCycles.countAct.flag.p
  h1.upd.setRun.ite h1.upd

theorem State.inv.haltCluster {c : Nat} : (s.haltCluster c).inv := h.haltTask.ite h

theorem State.inv.wakeDone {c : Nat} : (s.wakeDone c).inv := h.p.ite h

theorem State.inv.shadowInj {c : Nat} : (s.shadowInj c).inv := h.flag.ite h

theorem State.inv.progRefused {c : Nat} : (s.progRefused c).inv := h.flag.err

theorem State.inv.progWord {c x : Nat} {v : BitVec 64} : (s.progWord c x v).inv := h.writeW.writeW

theorem State.inv.progHalf {c o : Nat} {v : Word} {t : State} (e : s.progHalf c o v = some t) : t.inv := by
  unfold State.progHalf at e
  dsimp only at e
  split at e
  · exact Option.some.inj e ▸ h.setClu
  · split at e
    · split at e
      · exact Option.some.inj e ▸ h.setClu.progWord
      · cases e
    · cases e

theorem State.inv.progBurst {c o : Nat} {ws : List Word} {t : State} (e : s.progBurst c o ws = some t) : t.inv := by
  induction s, o, ws using State.progBurst.induct (c := c) with
  | case1 s o => exact Option.some.inj e ▸ h
  | case2 s o v => exact h.progHalf e
  | case3 s o lo hi ws ho ih =>
    rw [State.progBurst, if_pos ho] at e
    exact ih h.progWord e
  | case4 s o lo hi ws ho ih =>
    rw [State.progBurst, if_neg ho] at e
    obtain ⟨u, hu, he⟩ := Option.bind_eq_some_iff.mp e
    exact ih u (h.progHalf hu) he

theorem State.inv.progWrite {src c o : Nat} {d : PmData} : (s.progWrite src c o d).inv := by
  unfold State.progWrite
  dsimp only
  split
  · exact h.decodeError.err
  · split
    · exact h.setClu.progRefused
    · split
      · next t e =>
        split at e
        · cases e
        · exact (h.progHalf e).ok
        · split at e
          · exact (h.progBurst e).ok
          · cases e
      · exact h.progRefused

theorem State.inv.ttWrite {x t w : Nat} {v : Word} : (s.ttWrite x t w v).inv := h.flag.err.ite h.upd.ok

theorem State.inv.ttArm : s.ttArm.inv := by
  unfold State.ttArm
  dsimp only
  refine h.flag.ite ?_
  split
  · exact h.p.p.p
  · exact h.p.p.p.ite h.p.upd

theorem State.inv.ttDisarm : s.ttDisarm.inv := h.p.ite h

theorem State.inv.ttSelWrite {v : Nat} : (s.ttSelWrite v).inv := h.ite <| h.flag.ite h.switchTable.warmup

theorem State.inv.staleTemps {stale : BitVec 8} : (s.staleTemps stale).inv := h.foldl fun _ _ ht => ht.emit.ite ht

theorem State.inv.monitor {m : Option Nat} : (s.monitor m).inv := h.flag.flag

theorem keepsStores_execForceCapRise : KeepsStores (execForceCapRise s) := by
  unfold Machine.execForceCapRise
  dsimp only
  split
  · exact h.upd.p.flag.next.ite h.next
  · exact h.next

end Sys2Proof.Machine
end

section
/-!
SUPPORT. O5: field writes, the Levee, the SAP ports and the crossings keep the stores in canonical form.
-/
namespace Sys2Proof.Machine

variable {s : State} (h : s.inv)
include h

/-! ## Field writes -/

theorem State.inv.fieldWrite {a : Nat} {v : Word} : (s.fieldWrite a v).inv := h.wr

theorem State.inv.setStopped {d : Nat} {on : Bool} : (s.setStopped d on).inv := h.upd

theorem State.inv.unmapped {a : Nat} : (s.unmapped a).inv := h.decodeError.err

/-! ## Levee -/

theorem State.inv.setEl {e : Nat} {k : Elem} : (s.setEl e k).inv := h.upd

theorem State.inv.showGain {e : Nat} {c : ElCoef} {pk : Bool} : (s.showGain e c pk).inv := h.p.flag.flag.flag.flag

theorem State.inv.gainStage {e : Nat} {ws : List Word} : (s.gainStage e ws).1.inv := h.setEl.showGain

theorem State.inv.gainIdle {e n : Nat} : (s.gainIdle e n).inv := h.setEl.showGain

theorem State.inv.showPins : s.showPins.inv := h.p

theorem State.inv.standbyEl {e : Nat} : (s.standbyEl e).inv := h.setEl.p.p

theorem State.inv.leveeStandby : s.leveeStandby.inv := (h.foldl fun _ _ ht => ht.standbyEl).showPins.ite h

theorem State.inv.beginHard {e : Nat} : (s.beginHard e).inv := h.ite <| h.standbyEl.showPins.ite h.setEl.showPins

theorem State.inv.beginSoft {e : Nat} : (s.beginSoft e).inv := h.ite <| h.standbyEl.showPins.ite h.setEl.showPins

theorem State.inv.causeEnded {e : Nat} : (s.causeEnded e).inv := h.standbyEl.showPins.ite h

theorem State.inv.ampLock {e : Nat} : (s.ampLock e).inv := h.setEl.flag.emit

theorem State.inv.ampFault {e : Nat} {pin : Bool} : (s.ampFault e pin).inv :=
  (h.setEl.setEl.showPins.ite h.setEl).ite <|
    have h1 := h.setEl.flag.emit
    (h1.ampLock.ite h1).beginHard

theorem State.inv.ampEnd {e : Nat} {clear : Bool} : (s.ampEnd e clear).inv :=
  have h1 := h.flag.setEl
  (h1.p.flag.ite h1).causeEnded

theorem State.inv.setFlt {g : Nat} {on : Bool} : (s.setFlt g on).inv :=
  have h1 := h.upd.p
  (h1.foldl fun _ _ ht => ht.ampFault.ite ht).ite h1

theorem State.inv.gateStep {e : Nat} {young : Young} {slip : Bool} : (s.gateStep e young slip).inv :=
  h.setEl.ite <| h.setEl.ite <| h.ite <| h.setEl.ite <| h.setEl.ite h

theorem State.inv.safePins : s.safePins.inv := h.foldl fun _ _ ht => (ht.foldl fun _ _ ht1 => ht1.setEl).ite ht

theorem State.inv.gateEdge {e : Nat} {young : Young} {slip : Bool} : (s.gateEdge e young slip).inv :=
  h.ite (h.gateStep.safePins.ite h.gateStep).p.showPins

theorem State.inv.firstUse {e : Nat} : (s.firstUse e).inv := h.setEl.p.p

theorem State.inv.rebind {e : Nat} : (s.rebind e).inv :=
  h.ite <|
    have h1 := h.setEl.firstUse.flag.flag
    have h2 := h1.flag.flag.ite h1.flag
    (h2.setEl.ampFault.ite h2.setEl).causeEnded.showPins

theorem State.inv.rebindAll : s.rebindAll.inv := h.foldl fun _ _ ht => ht.rebind

theorem State.inv.leveeReset : s.leveeReset.inv := (h.upd.flag.foldl fun _ _ ht => ht.setEl.flag.firstUse).showPins

theorem State.inv.portTrouble {n : Nat} {on : Bool} : (s.portTrouble n on).inv :=
  h.foldl fun _ _ ht => (ht.flag.beginHard.ite (ht.flag.causeEnded.ite ht.flag)).ite ht

theorem State.inv.leveeSafeUpdate : s.leveeSafeUpdate.inv :=
  h.flag.foldl fun _ _ ht => ht.flag.beginSoft.ite <| ht.flag.causeEnded.ite ht.flag

theorem State.inv.collMute {m : Nat} : (s.collMute m).inv := h.foldl fun _ _ ht => ht.flag.beginHard.ite ht

/-! ## Commands of the Levee -/

theorem State.inv.sealRefused {a : Nat} : (s.sealRefused a).inv := h.flag.inc.p.emit

theorem State.inv.sealWrite {a : Nat} {fs : List SealField} {v : Word} : (s.sealWrite a fs v).inv :=
  have h1 := h.wr.upd.ite h.wr
  h1.ite h1.sealRefused

theorem State.inv.cfgFollows {o : State} : (s.cfgFollows o).inv :=
  have h1 := (h.foldl fun _ _ ht => ht.setFlt).ite h
  have h2 := h1.ite (h1.foldl fun _ _ ht => ht.setEl.ite ht)
  (h2.foldl fun _ _ ht => ht.setEl.ite ht).showPins.ite h2

theorem State.inv.bindWrite {e : Nat} {v : Word} : (s.bindWrite e v).inv :=
  h.flag.ite <| h.flag.ite <| h.sealWrite.ite h.sealWrite.rebind

theorem State.inv.sealRegWrite {o : Nat} {v : Word} : (s.sealRegWrite o v).inv :=
  h.flag.ite <| h.sealWrite.cfgFollows.ite <| (h.sealWrite.ite h.sealWrite.upd).ite <|
    (h.sealWrite.beginHard.ite h.sealWrite.causeEnded).ite h.sealWrite

theorem State.inv.sealKey {k : Nat} : (s.sealKey k).inv := h.ite <| h.flag.ite h.flag

theorem State.inv.clearCause {asked : Bool} {f : Fld} {gone : Bool} {fin : State → State} (hf : ∀ t, t.inv →
    (fin t).inv) : (s.clearCause asked f gone fin).inv :=
  h.ite <| (hf _ h).ite h.flag

theorem State.inv.elStatWrite {e : Nat} {v : Word} : (s.elStatWrite e v).inv :=
  (((h.fieldWrite.clearCause fun _ ht => ht.ampEnd).clearCause fun _ ht => ht.setEl.flag.causeEnded).clearCause
    fun _ ht => ht.flag.causeEnded).clearCause fun _ ht => ht.upd.flag.causeEnded

theorem State.inv.leveeStatWrite {v : Word} : (s.leveeStatWrite v).inv :=
  h.fieldWrite.clearCause fun _ ht => ht.upd.flag

theorem State.inv.leveeWrite {o : Nat} {v : Word} : (s.leveeWrite o v).inv :=
  h.unmapped.ite <| h.sealKey.ok.ite <| h.leveeStatWrite.ok.ite <| h.bindWrite.ok.ite <| h.elStatWrite.ok.ite <|
    h.ok.ite h.sealRegWrite.ok

theorem keepsStores_execLeveeCauseClear {e : Option (Fin 96)} {v : Word} :
    KeepsStores (execLeveeCauseClear e v s) := by
  unfold Machine.execLeveeCauseClear
  split
  · exact h.elStatWrite.ok.next
  · exact h.leveeStatWrite.ok.next

theorem State.inv.telPresent {e : Nat} : (s.telPresent e).inv := h.flag.causeEnded.ite h

theorem State.inv.telApply {e t v : Nat} : (s.telApply e t v).inv := by
  unfold State.telApply
  dsimp only
  split
  · exact have h1 := h.telPresent.p
      h1.ampFault.ite h1
  · exact h.telPresent.p.setEl.causeEnded
  · exact have h1 := h.telPresent.setEl
      have h2 := h1.flag.ite h1
      have h3 := h2.flag.ite h2
      h3.ampFault.ite h3
  · exact h.telPresent

theorem State.inv.telemetry {n : Nat} {w : Word} : (s.telemetry n w).inv :=
  h.ite <| h.inc.ite <| h.foldl fun _ _ ht => ht.telApply

theorem keepsStores_execTelemLoss {e : Fin 96} : KeepsStores (execTelemLoss e s) :=
  (have h1 := h.flag.emit; (h1.beginHard.ite h1).next).ite h.next

theorem keepsStores_execAmpRetry {e : Fin 96} : KeepsStores (execAmpRetry e s) :=
  (h.setEl.next.ite (have h1 := h.setEl.p; h1.ampEnd.next.ite (h1.setEl.next.ite h1.ampLock.next))).ite h.next

theorem State.inv.parityError {a : Nat} : (s.parityError a).inv := by
  unfold State.parityError
  dsimp only
  refine h.ite ?_
  split
  · exact h.upd.flag.emit.ite h.upd.flag.emit.flag.beginHard
  · exact have h1 := h.upd.flag.emit
      (h1.foldl fun _ _ ht => ht.ite ht.flag.beginHard).ite h1

/-! ## SAP ports -/

theorem State.inv.setSap {n : Nat} {k : Sap} : (s.setSap n k).inv := h.upd

theorem State.inv.setGate {n t : Nat} {g : TxGate} : (s.setGate n t g).inv := h.setSap

theorem State.inv.gateCommand {n t : Nat} {want : Bool} : (s.gateCommand n t want).inv := h.setGate.flag.ite h.setGate

theorem State.inv.showDrive {n : Nat} : (s.showDrive n).inv := h.flag.flag

theorem State.inv.sapGo {n st : Nat} : (s.sapGo n st).inv := h.p.showDrive

theorem State.inv.sapStopped {n : Nat} : (s.sapStopped n).inv := h.setSap.sapGo

theorem State.inv.sapTrouble {n : Nat} : (s.sapTrouble n).inv := (h.sapStopped.ite h.setSap.sapGo).portTrouble

theorem State.inv.sapSlip {n : Nat} {quiet : Bool} : (s.sapSlip n quiet).inv :=
  (h.ite h.flag.inc.emit).flag.sapTrouble

theorem State.inv.sapStart {n : Nat} {first : Option Nat} : (s.sapStart n first).inv := h.setSap.flag.sapGo

theorem State.inv.sapStop {n : Nat} : (s.sapStop n).inv := by
  unfold State.sapStop
  dsimp only
  split
  · exact h.sapStopped
  · exact h.sapGo.foldl fun _ _ ht => ht.gateCommand
  · exact h.sapStopped
  · exact h.sapStopped
  · exact h

theorem State.inv.sapGroupStart {g m : Nat} : (s.sapGroupStart g m).1.inv :=
  h.iteFst <| h.foldl fun _ _ ht => ht.sapStart

theorem State.inv.sapGroupStop {g : Nat} : (s.sapGroupStop g).1.inv := h.iteFst <| h.foldl fun _ _ ht => ht.sapStop

theorem State.inv.txSlot {n f t : Nat} : (s.txSlot n f t).1.inv := h.setSap.iteFst h.setSap

theorem State.inv.txSlots {n f : Nat} {ts : List Nat} : (s.txSlots n f ts).1.inv := by
  induction ts generalizing s with
  | nil => exact h
  | cons t ts ih => exact ih h.txSlot

theorem State.inv.txFrame {n f : Nat} {zero : Bool} : (s.txFrame n f zero).inv :=
  have h1 := h.iteFst h.txSlots
  h1.setSap.send.ite h1.setSap

theorem State.inv.txRunning {n f : Nat} : (s.txRunning n f).inv := (h.setSap.txFrame.ite h.txFrame).ite h.txFrame

theorem State.inv.rxComplete {n f rx : Nat} {ws : List Word} : (s.rxComplete n f rx ws).inv := h.setSap.inc

theorem State.inv.sapClean {n : Nat} : (s.sapClean n).inv := h.flag.flag.portTrouble.ite h

theorem State.inv.sapAlign {n m t : Nat} : (s.sapAlign n m t).inv := h.setSap

theorem State.inv.masterRate {n : Nat} : (s.masterRate n).inv := h.p.p.flag.wr.ite h

theorem State.inv.sapClkBack {n : Nat} : (s.sapClkBack n).inv :=
  (have h1 := h.flag.flag; h1.setSap.portTrouble.ite h1.setSap).ite h

theorem State.inv.sapRecur {n : Nat} : (s.sapRecur n).inv := h.sapSlip.setSap

theorem State.inv.sapEdge {n m t rx : Nat} {ws : List Word} {early : Bool} : (s.sapEdge n m t rx ws early).inv := by
  unfold State.sapEdge
  dsimp only
  split
  · exact h.setSap.wr.sapGo.masterRate.txRunning.ite h
  · exact (h.rxComplete.inc.flag.setSap.sapGo.flag.portTrouble.masterRate.txRunning.ite h.sapRecur.txFrame).ite <|
        h.sapAlign.txFrame.ite h.txFrame
  · exact h
  · exact h.txFrame
  · exact h.sapSlip.txFrame.ite <|
        have h1 := h.rxComplete.sapClean
        h1.setSap.sapStopped.ite h1.setSap.txRunning

theorem State.inv.sapMasks {n : Nat} : (s.sapMasks n).inv := h.setSap.ite h.wr

theorem State.inv.sapCut {n : Nat} : (s.sapCut n).inv := h.ite h.setSap

theorem keepsStores_execSapFrame {n : Fin 24} {ph : BitVec 8} {ws : List Word} {early : Bool}
    {youngHard youngSoft : List Nat} {youngSafe : Bool} :
    KeepsStores (execSapFrame n ph ws early youngHard youngSoft youngSafe s) :=
  have h1 := h.sapCut.setSap
  have h2 := h1.sapMasks.ite h1.sapMasks.wr
  (h2.ite (h2.foldl fun _ _ ht => ht.gateEdge)).sapClkBack.sapEdge.next

theorem State.inv.rateWindow {n hz : Nat} {dev : BitVec 16} : (s.rateWindow n hz dev).inv :=
  have h1 := h.p.p.flag.wr
  have h2 := h1.flag.emit.ite h1
  h2.setSap.sapSlip.setSap.sapGo.ite <| h2.setSap.setSap.sapGo.ite h2.setSap

theorem State.inv.rateRead {n : Nat} {dev stale : Bool} : (s.rateRead n dev stale).1.inv :=
  h.flag.emit.iteFst <| h.flag.setSap.iteFst h.flag.setSap

theorem State.inv.sapRateChange : s.sapRateChange.inv := h.foldl fun _ _ ht => ht.sapSlip.ite ht

theorem State.inv.sapDomainReset {n : Nat} : (s.sapDomainReset n).inv :=
  have h1 := h.wr.wr.wr
  h1.setSap.sapSlip.ite h1.setSap

theorem State.inv.sapRefused {n : Nat} : (s.sapRefused n).inv := h.flag

theorem State.inv.sapCtlWrite {n : Nat} {v : Word} {mid : Bool} : (s.sapCtlWrite n v mid).inv :=
  h.sapRefused.ite <|
    have h1 := h.fieldWrite.sapStart.ite h.fieldWrite
    have h2 := h1.sapStop.ite h1
    (h2.setSap.setSap.sapGo.ite h2.setSap).ite h2

theorem State.inv.sapMuteWrite {n : Nat} {v : Word} : (s.sapMuteWrite n v).inv :=
  h.fieldWrite.ite <| h.fieldWrite.foldl fun _ _ ht => ht.ite ht.gateCommand

theorem State.inv.hang {d a : Nat} {v : Option Word} : (s.hang d a v).inv := h.upd

theorem State.inv.sapMaskWrite {n : Nat} {v : Word} {guard : Bool} : (s.sapMaskWrite n v guard).inv :=
  h.hang.ite <| h.sapRefused.ok.ite <| h.wr.setSap.flag.ok.ite h.wr.ok

theorem State.inv.sapWrite {n o : Nat} {v : Word} : (s.sapWrite n o v).inv := by
  unfold State.sapWrite
  dsimp only
  refine h.unmapped.ite ?_
  split
  · exact h.sapCtlWrite.ok
  · exact h.sapRefused.ok.ite h.fieldWrite.ok
  · exact h.sapRefused.ok.ite h.fieldWrite.ok
  · exact h.sapRefused.ok.ite h.fieldWrite.ok
  · exact h.sapMuteWrite.ok
  · exact h.sapRefused.ok.ite h.fieldWrite.ok
  · exact h.sapMaskWrite
  · exact h.ok.ite h.hang
  · exact h.ok.ite h.hang
  · exact h.sapRefused.ok.ite h.fieldWrite.ok
  · exact h.fieldWrite.ok.ite h.sapRefused.ok
  · exact h.fieldWrite.ok

theorem State.inv.rxSlot {n t : Nat} {fs : List (Option RxFrame)} : (s.rxSlot n t fs).inv := h.setSap

theorem State.inv.sapGather {n m : Nat} : (s.sapGather n m).inv :=
  (((h.sapSlip.iteFst h.wr64.setSap).iteFst h).iteFst h.setSap).setSap.foldl fun _ _ ht => ht.rxSlot

theorem State.inv.txGateRun {n t f : Nat} {xs : List Word} : (s.txGateRun n t f xs).1.inv := by
  induction xs generalizing s f with
  | nil => exact h
  | cons x xs ih => exact ih (h.setGate.iteFst h.setGate)

theorem State.inv.sapDeliver {n t k : Nat} {xs : List Word} : (s.sapDeliver n t k xs).inv := by
  unfold State.sapDeliver
  dsimp only
  refine State.inv.ite (State.inv.setSap ?_) ?_
  all_goals
    split
    · exact h.txGateRun.gainStage
    · exact h.txGateRun

theorem State.inv.sapAppend {n : Nat} : (s.sapAppend n).inv := (h.setSap.sapSlip.ite h.setSap).ite h

/-! ## Crossings and capture -/

theorem State.inv.showOverload : s.showOverload.inv := h.flag

theorem State.inv.xValidate : s.xValidate.inv := by
  unfold State.xValidate
  dsimp only
  split
  · exact (h.foldl fun _ _ ht => ht.wr).showOverload.p
  · exact (h.foldl fun _ _ ht => ht.wr).showOverload.p.p.p

theorem State.inv.xSwap : s.xSwap.inv := h.p.p.flag.upd.showOverload

theorem State.inv.xSelWrite {v : Nat} : (s.xSelWrite v).inv := h.ite <| h.xSwap.ite h.flag

theorem State.inv.xingSwitch : s.xingSwitch.1.inv := h.xSwap.iteFst h.flag

theorem State.inv.xRecheck : s.xRecheck.inv := h.p.flag.showOverload

theorem State.inv.xingWrite {x : Nat} {desc : Bool} {i w : Nat} {v : Word} : (s.xingWrite x desc i w v).inv :=
  h.flag.err.ite h.upd.p.showOverload.ok

theorem State.inv.coefSwap {t : Nat} : (s.coefSwap t).1.inv := h.p.flag.p.upd.iteFst h.flag

theorem State.inv.coefAdvance : s.coefAdvance.inv := h.foldl fun _ _ ht => ht.p.flag.ite ht

theorem State.inv.capRefused : (capRefused s).inv := h.flag

theorem State.inv.capWrite {r w : Nat} {v : Word} : (s.capWrite r w v).inv :=
  (h.capRefused.ite ((h.ite (h.wr.ite h.capRefused)).ite (h.wr.wr.wr.ite h.wr))).ite <|
    (h.ite (h.capRefused.ite h.wr)).ite <| h.capRefused.ite <| h.ite <| h.capRefused.ite h.wr

theorem State.inv.setCap {r : Nat} {f : CapFrame} : (s.setCap r f).inv := h.upd

theorem State.inv.capDrop {r : Nat} : (s.capDrop r).inv := h.inc.flag.setCap.upd

theorem State.inv.capBegin {point : Bool} : (s.capBegin point).inv :=
  h.foldl fun _ _ ht => (ht.capDrop.ite ht.setCap).ite ht

theorem State.inv.capEnd {point : Bool} : (s.capEnd point).inv :=
  h.foldl fun _ _ ht => (ht.capDrop.ite ht).setCap.ite ht

theorem State.inv.capStore {r o : Nat} {ws : List Word} : (s.capStore r o ws).inv := by
  induction ws generalizing s o with
  | nil => exact h
  | cons w ws ih => exact ih h.writeW

theorem State.inv.capFrameWords {r : Nat} : (s.capFrameWords r).1.inv := by
  unfold State.capFrameWords
  exact State.inv.foldlMk h fun _ _ ht => ht.readW

end Sys2Proof.Machine
end

section
/-!
SUPPORT. O5: the pair, its consignments and the clocks keep the stores in canonical form.
-/
namespace Sys2Proof.Machine

variable {s : State} (h : s.inv)
include h

/-! ## The pair -/

theorem State.inv.tetherSend {type : Nat} {ws : List Word} : (s.tetherSend type ws).inv := h.sendPort.ite h

theorem State.inv.askSweep : s.askSweep.inv := h.sendPort.ite h

theorem State.inv.sendHeartbeat : s.sendHeartbeat.inv :=
  h.ite <|
    have h1 := h.upd.sendMsg.tetherSend
    h1.upd.ite h1

theorem State.inv.ckptStale : s.ckptStale.inv := (have h1 := h.upd.p.emit; h1.p.ite h1).ite h.upd

theorem State.inv.passDone : s.passDone.inv := (have h1 := h.inc.p; h1.upd.p.ite h1).ite h.inc

theorem State.inv.sigCheck : s.sigCheck.inv := (h.flag.ite (h.ite h.flag.emit.ckptStale)).ite h

theorem State.inv.showDrives : s.showDrives.inv := h.foldl fun _ _ ht => ht.showDrive

theorem State.inv.clustersOff : s.clustersOff.inv := h.foldl fun _ _ ht => (ht.completeTask.ite ht).powerOff.flag

theorem State.inv.reqEnd : s.reqEnd.inv := h.flag.flag.upd

theorem State.inv.setRole {r : Nat} : (s.setRole r).inv :=
  h.ite <|
    have h1 := h.p.flag
    have h2 := h1.reqEnd.ite h1
    ((h2.p.p.ite h2.p).ite h2).showDrives

theorem State.inv.enterStandby : s.enterStandby.inv := h.setRole.clustersOff.upd.p.leveeStandby.askSweep

theorem State.inv.learn : s.learn.inv := h.enterStandby.ite h

theorem State.inv.pairFail : s.pairFail.inv := h.ite h.setRole.upd.sendHeartbeat

theorem State.inv.pairMend : s.pairMend.inv := h.setRole.learn.ite h

theorem State.inv.pilotBits : s.pilotBits.inv :=
  have h1 := h.emit.ite h
  (h1.emit.ite h1).flag.flag

theorem State.inv.pilotSeen {hops : Nat} : (s.pilotSeen hops).inv := h.upd.pilotBits

theorem State.inv.tetherLost : s.tetherLost.inv := h.ite h.flag.emit.ckptStale

theorem State.inv.tetherBack : s.tetherBack.inv := h.flag.ite h

theorem State.inv.tetherPort {p : Nat} : (s.tetherPort p).inv := h.tetherLost.ite h

theorem State.inv.peerHolds {g : Nat × Nat} : (s.peerHolds g).inv := h.upd.learn

theorem State.inv.pilotSend {p m type flags : Nat} {g : Nat × Nat} : (s.pilotSend p m type flags g).inv := h.sendMsg

theorem State.inv.pilotGrant {p m : Nat} {g : Nat × Nat} : (s.pilotGrant p m g).inv := h.pilotSend.pilotSend.p

theorem State.inv.pilotMove {p m : Nat} {g : Nat × Nat} : (s.pilotMove p m g).inv :=
  h.pilotSend.pilotSend.pilotSend.p.bump.flag.emit

theorem State.inv.pilotDecide {p : Nat} : (s.pilotDecide p).inv := by
  unfold State.pilotDecide
  dsimp only
  split
  · exact h.flag.flag.pilotGrant.ite <| h.flag.flag.pilotGrant.ite <| h.flag.flag.pilotGrant.ite <|
        h.flag.flag.pilotGrant.ite h.flag.flag
  · exact ((h.flag.flag.pilotMove.ite (h.flag.flag.flag.flag.ite h.flag.flag).pilotGrant).ite
           h.flag.flag.pilotGrant).ite <|
        h.flag.flag.pilotMove.ite h.flag.flag.flag.emit

theorem State.inv.settleEpoch : s.settleEpoch.inv := h.ite h.upd.p

theorem State.inv.pilotBeat {d : Nat} {ws : List Word} : (s.pilotBeat d ws).inv := (h.upd.pilotMove.ite h.upd).ite h

theorem State.inv.peerBeat {d : Nat} {ws : List Word} : (s.peerBeat d ws).inv := h.upd.tetherBack.pilotBits.ite h

theorem State.inv.pilotCtlWrite {v : Word} : (s.pilotCtlWrite v).inv :=
  (h.flag.foldl fun _ _ ht => ht.p).upd.ite h.flag

theorem State.inv.pilotPairWrite {p : Nat} {v : Word} : (s.pilotPairWrite p v).inv :=
  h.flag.ite <| h.fieldWrite.ite h.fieldWrite.upd.p

theorem State.inv.pairCfgWrite {v : Word} : (s.pairCfgWrite v).inv :=
  h.flag.ite <|
    have h1 := h.fieldWrite.upd
    (h1.setRole.ite h1.setRole.tetherLost).ite <| h1.setRole.upd.flag.flag.showDrives.ite <|
      (h1.tetherBack.ite h1.tetherLost).showDrives.ite h1.showDrives

theorem State.inv.sigBoundary : s.sigBoundary.inv := h.upd.flag.ite h

/-! ## Consignments, takeover and replay -/

theorem State.inv.areaWrite {n : Nat} {lines : Bool} {v : Word} : (s.areaWrite n lines v).inv :=
  h.flag.ite <| h.ite h.fieldWrite.upd

theorem State.inv.forceSweep : s.forceSweep.inv := h.upd.ite h.upd.p.flag

theorem State.inv.suspectClear : s.suspectClear.inv := h.upd.p.p.ite h

theorem State.inv.pairCtlWrite {v : Word} : (s.pairCtlWrite v).inv :=
  have h1 := h.flag.forceSweep.ite h.flag
  h1.suspectClear.ite h1

theorem State.inv.readWords {as : List Nat} : (s.readWords as).1.inv := by
  induction as generalizing s with
  | nil => exact h
  | cons a as ih => exact ih h.readW

theorem State.inv.lineRecords {ls : List (Nat × Bool)} : (s.lineRecords ls).1.inv := by
  induction ls generalizing s with
  | nil => exact h
  | cons l ls ih => exact ih h.readWords

theorem State.inv.abandon {sent : Nat} : (s.abandon sent).inv := by
  unfold State.abandon
  dsimp only
  split
  · exact h
  · exact (h.foldl fun _ _ ht => ht.tetherSend).upd.inc.flag.emit

theorem State.inv.storeWords {a : Nat} {ws : List Word} : (s.storeWords a ws).inv := by
  induction ws generalizing s a with
  | nil => exact h
  | cons w ws ih => exact ih h.writeW

theorem State.inv.formConsignment : s.formConsignment.inv :=
  h.ite <|
    have h1 := h.lineRecords.p.upd.flag
    h1.abandon.ite h1.storeWords

theorem State.inv.ferryConsign {sent : Nat} : (s.ferryConsign sent).inv := h.abandon.formConsignment

theorem keepsStores_execConsignmentSent : KeepsStores (execConsignmentSent s) := by
  unfold Machine.execConsignmentSent
  dsimp only
  split
  · exact h.next
  · exact (h.foldl fun _ _ ht => ht.tetherSend).upd.inc.next

theorem State.inv.consignLost {r : Nat} : (s.consignLost r).inv := h.upd.inc.flag.emit.ckptStale

theorem State.inv.gapLost {t r : Nat} : (s.gapLost t r).inv := h.foldl fun _ _ ht => ht.consignLost

theorem State.inv.commit {c : Staged} : (s.commit c).inv :=
  have h1 := (h.foldl fun _ _ ht => ht.storeWords).wr64.inc
  (h1.upd.passDone.ite h1.upd).upd.ite h1.upd

theorem State.inv.commitStaged {n : Nat} : (s.commitStaged n).inv := by
  induction n generalizing s with
  | zero => exact h
  | succ n ih =>
    unfold State.commitStaged
    split
    · exact h
    · split
      · exact h
      · exact h.ite (ih h.upd.commit)

theorem State.inv.commits : s.commits.inv := h.commitStaged

theorem State.inv.stageMore {c : Staged} {m : List Word} : (s.stageMore c m).1.inv :=
  h.iteFst <| h.flag.consignLost.iteFst <| h.storeWords.iteFst h.storeWords

theorem State.inv.stage {m : List Word} : (s.stage m).inv := by
  unfold State.stage
  refine h.ite ?_
  extract_lets w r old carry gone lost gap
  have hl : lost.inv := h.consignLost.ite h
  have hg : gap.inv := by
    unfold gap
    split
    · exact hl.ite hl.gapLost
    · exact hl
  refine hg.wr.upd.sigCheck.stageMore.upd.commits.ite ?_
  split
  · exact h.stageMore.upd.commits.ite h.upd
  · exact h

theorem State.inv.recordCopy : s.recordCopy.inv := by
  unfold State.recordCopy
  dsimp only
  split
  · split
    · exact h.upd.flag
    · exact h.upd.flag.foldl fun _ _ ht => ht.storeWords
  · exact h

theorem State.inv.restore {r : InputRec} : (s.restore r).inv := h.foldl fun _ _ ht => ht.writeW

theorem State.inv.setTake {t : Takeover} : (s.setTake t).inv := h.upd

theorem State.inv.beginDirected {r : InputRec} : (s.beginDirected r).inv := h.restore.upd

theorem State.inv.catchStep {n : Nat} : (s.catchStep n).inv := by
  induction n generalizing s with
  | zero => exact h
  | succ n ih =>
    unfold State.catchStep
    split
    · exact h
    · split
      · exact h
      · split
        · exact (ih h.setTake).ite h
        · split
          · exact h
          · split
            · exact h
            · split
              · exact ih h.setTake.beginDirected
              · exact ih h.setTake

theorem State.inv.takeover {k periods ns : Nat} {wake stale late : Bool} :
    (s.takeover k periods ns wake stale late).inv :=
  (h.wakeClusters.ite h).setTake.catchStep

theorem State.inv.heldCommit : s.heldCommit.inv := (h.clustersOff.upd.inc.ite h).upd.foldl fun _ _ ht => ht.commit

theorem State.inv.granted {g : Nat × Nat} {hops ns : Nat} : (s.granted g hops ns).inv := by
  unfold State.granted
  dsimp only
  split
  · exact ((h.wr64.p.flag.ite h).pilotSeen.tetherSend.upd.flag.forceSweep.ite
           (h.wr64.p.flag.ite h).pilotSeen.tetherSend).upd
  · exact ((h.wr64.p.flag.ite h).pilotSeen.tetherSend.upd.flag.forceSweep.ite
           (h.wr64.p.flag.ite h).pilotSeen.tetherSend).heldCommit.setRole.takeover.ite <|
        (h.wr64.p.flag.ite h).pilotSeen.tetherSend.upd.flag.forceSweep.ite
          (h.wr64.p.flag.ite h).pilotSeen.tetherSend
  · exact (h.wr64.p.flag.ite h).pilotSeen.tetherSend.upd.flag.forceSweep.ite (h.wr64.p.flag.ite h).pilotSeen.tetherSend

theorem State.inv.lateTakeover : s.lateTakeover.inv := by
  unfold State.lateTakeover
  split
  · exact h.takeover.ite h
  · exact h

theorem State.inv.takeClose : s.takeClose.inv := by
  unfold State.takeClose
  dsimp only
  split
  · exact h.setTake.upd.ite h
  · exact h

theorem State.inv.takeDone : s.takeDone.inv := by
  unfold State.takeDone
  dsimp only
  split
  · exact h.setRole.wr.wr64.inc.flag.upd.emit.ite h
  · exact h

theorem State.inv.replayNot : s.replayNot.inv := h.upd.inc.commits

theorem State.inv.replayStart : s.replayStart.inv := by
  unfold State.replayStart
  dsimp only
  refine State.inv.ite ?_ h.commits
  split
  · exact h.replayNot.ite h.upd.beginDirected.wakeClusters
  · exact h.replayNot

theorem State.inv.replayJudge {same : Bool} {r : Nat} : (s.replayJudge same r).inv :=
  have h1 := h.inc.upd.p
  have h2 := ((h1.upd.p.ite h1.upd).ite h1).ite h1.inc.flag.emit.ckptStale
  h2.p.emit.ite h2

theorem State.inv.replayEnd {crc : Option Word} : (s.replayEnd crc).inv := by
  unfold State.replayEnd
  split
  · exact h
  · extract_lets written off _ ran
    have hw : written.inv := by
      unfold written
      split
      · exact h.foldl fun _ _ ht => ht.writeW
      · exact h
    have hr : ran.inv := hw.clustersOff.upd
    split
    · exact hr.upd.replayJudge.commits
    · exact hr.replayNot

theorem State.inv.bistStart : s.bistStart.inv := h.upd.wakeOne.ite h

theorem State.inv.bistEnd : s.bistEnd.inv := by
  unfold State.bistEnd
  dsimp only
  split
  · exact h.upd.powerOff
  · exact h

theorem keepsStores_execStandbyBist {pass : Bool} : KeepsStores (execStandbyBist pass s) := by
  unfold Machine.execStandbyBist
  dsimp only
  split
  · exact (have h1 := h.bistEnd.bump; (h1.ite h1.p).next).ite h.next
  · exact h.next

theorem State.inv.ferryBoundary : s.ferryBoundary.inv := h.upd.upd.p.forceSweep.ite h.upd

theorem State.inv.roleBoundary : s.roleBoundary.inv :=
  have h1 := (h.upd.enterStandby.ite h.upd).ite h
  (by split; exacts [h1.upd.setRole.ite h1.upd, h1] : State.inv _).takeDone

theorem State.inv.pairCounts : s.pairCounts.inv := h.upd

theorem State.inv.heartbeatBoundary : s.heartbeatBoundary.inv := h.upd.sendHeartbeat.upd

theorem State.inv.pairWrite {o : Nat} {v : Word} : (s.pairWrite o v).inv := by
  unfold State.pairWrite
  extract_lets a set size
  have hs : ∀ good, (set good).inv := fun _ =>
    have hw := h.fieldWrite.ite h.flag
    (hw.upd.ite hw).ok
  exact h.unmapped.ite <| h.pairCfgWrite.ok.ite <| h.pairCtlWrite.ok.ite <| (hs _).ite <| (hs _).ite <| (hs _).ite <|
    (hs _).ite <| (hs _).ite <| (hs _).ite <| h.areaWrite.ok.ite <| h.pilotCtlWrite.ok.ite <|
    h.pilotPairWrite.ok.ite (hs _)

/-! ## Clocks and references -/

theorem State.inv.refAgree : s.refAgree.inv := h.flag.ite h

theorem State.inv.showTimed : s.showTimed.inv := h.flag.p

theorem State.inv.showBw : s.showBw.inv := h.flag

theorem State.inv.dpllGo {n : Nat} : (s.dpllGo n).inv := (h.ite h.p.flag).showTimed.showBw

theorem State.inv.setHrun {on : Bool} : (s.setHrun on).inv := h.upd

theorem State.inv.refNone : s.refNone.inv :=
  h.flag.setHrun.dpllGo.ite <|
    have h1 := h.flag.wr
    h1.setHrun.dpllGo.ite h1.setHrun.emit.dpllGo

theorem State.inv.refTake {r : Nat} : (s.refTake r).inv :=
  have h1 := h.flag.p
  have h2 := h1.upd.setHrun.ite h1.upd
  (h2.flag.ite h2).dpllGo

theorem State.inv.refEval {lost : Bool} : (s.refEval lost).inv := by
  unfold State.refEval
  dsimp only
  refine h.ite ?_
  split
  · exact ((h.flag.ite h).refAgree.upd.flag.emit.ite (h.flag.ite h).refAgree).refNone.ite <|
        (h.flag.ite h).refAgree.upd.flag.emit.ite (h.flag.ite h).refAgree
  · exact ((h.flag.ite h).refAgree.upd.flag.emit.ite (h.flag.ite h).refAgree).ite
          ((h.flag.ite h).refAgree.upd.flag.emit.ite (h.flag.ite h).refAgree).refTake

theorem State.inv.disqualify {r why : Nat} : (s.disqualify r why).inv :=
  have h1 := h.flag.p.p
  have h2 := (h1.upd.emit.ite h1.upd).refAgree
  h2.refEval.ite <| h2.refEval.ite h2

theorem State.inv.refLost {r : Nat} : (s.refLost r).inv := h.flag.upd.disqualify.ite h

theorem State.inv.loopEvent {r : Nat} {off : Int} : (s.loopEvent r off).inv := (h.upd.ite h).upd.wr

theorem State.inv.refEvent {r : Nat} {dev off : Int} : (s.refEvent r dev off).inv :=
  have h1 := h.flag.upd
  have h2 := h1.loopEvent.ite h1
  h2.disqualify.ite <| h2.p.ite h2

theorem State.inv.rangeMeasure {ms : List (Nat × Int)} {out : Int} : (s.rangeMeasure ms out).inv := by
  unfold State.rangeMeasure
  extract_lets measured aged
  have hm : measured.inv := h.foldl fun _ _ ht => (ht.wr.upd.disqualify.ite ht.wr.upd).ite ht
  have ha : aged.inv := hm.foldl fun _ _ ht => ht.p.ite ht
  exact ha.upd.wr.wr.flag.refAgree

theorem keepsStores_execRefNoLock : KeepsStores (execRefNoLock s) := by
  unfold Machine.execRefNoLock
  split
  · exact (h.disqualify.ite h).next
  · exact h.next

theorem State.inv.workerStart : s.workerStart.inv := by
  unfold State.workerStart
  dsimp only
  refine h.ite ?_
  split
  · split
    · exact h.upd.flag.ite h
    · exact h
  · exact h

theorem keepsStores_execDpllLocked : KeepsStores (execDpllLocked s) :=
  (have h1 := (h.flag.inc.flag.ite h).upd.wr.dpllGo; (h1.upd.ite h1).workerStart.refEval.next).ite h.next

theorem State.inv.clkRateChange : s.clkRateChange.inv :=
  (h.upd.wr.wr.flag.foldl fun _ _ ht => ht.flag.p).flag.refAgree.dpllGo

theorem State.inv.clkRefused : s.clkRefused.inv := h.flag

theorem State.inv.clkSelectWrite {a : Nat} {v : Word} : (s.clkSelectWrite a v).inv :=
  h.clkRefused.ite h.fieldWrite.refEval

theorem keepsStores_execClkSelectWrite {i : Option (Fin 4)} {v : Word} : KeepsStores (execClkSelectWrite i v s) := by
  unfold Machine.execClkSelectWrite
  split
  · exact h.clkSelectWrite.ok.next
  · exact h.clkSelectWrite.ok.next

theorem State.inv.moutLimits : s.moutLimits.inv := h.foldl fun _ _ ht => ht.flag

theorem State.inv.moutWrite {n : Nat} {v : Word} : (s.moutWrite n v).inv := h.clkRefused.ite h.fieldWrite.moutLimits

theorem State.inv.moutBoundary : s.moutBoundary.inv := h.foldl fun _ _ ht => ht.upd

theorem State.inv.clkWrite {o : Nat} {v : Word} : (s.clkWrite o v).inv :=
  h.unmapped.ite <| h.clkSelectWrite.ok.ite <| h.moutWrite.ok.ite <|
    (h.fieldWrite.showBw.refAgree.ite h.clkRefused).ok.ite <|
    (h.fieldWrite.showBw.refAgree.ite h.clkRefused).ok.ite <|
    (h.fieldWrite.showBw.refAgree.ite h.clkRefused).ok.ite <|
    (h.fieldWrite.showBw.refAgree.ite h.clkRefused).ok.ite (h.fieldWrite.showBw.refAgree.ite h.clkRefused).ok

end Sys2Proof.Machine
end

section
/-!
SUPPORT. O5: faults, the matrix, the links, the flows and Ethernet keep the stores in canonical form.
-/
namespace Sys2Proof.Machine

variable {s : State} (h : s.inv)
include h

/-! ## Faults -/

theorem State.inv.setEntries {i : Nat} {es : List FEntry} : (s.setEntries i es).inv := h.upd.p

theorem State.inv.expire {i now : Nat} : (s.expire i now).inv := h.setEntries

theorem State.inv.countMsg {i now : Nat} {m : FMsg} : (s.countMsg i now m).1.inv := by
  unfold State.countMsg
  dsimp only
  split
  · exact h.expire
  · split
    · exact h.expire.setEntries.iteFst h.expire.setEntries
    · exact h.expire.inc.iteFst <| h.expire.iteFst h.expire.setEntries

theorem State.inv.toChip {m : FMsg} {severe : Bool} : (s.toChip m severe).inv := h.upd

theorem keepsStores_execFaultMessage {j now : Nat} : KeepsStores (execFaultMessage j now s) := by
  unfold Machine.execFaultMessage
  dsimp only
  split
  · exact h.next
  · exact h.upd.next.ite <|
        have h1 := h.upd.countMsg
        (h1.inc.ite h1).toChip.next

theorem State.inv.act {b kind src : Nat} : (s.act b kind src).inv := h.upd

theorem State.inv.safeHalt {cs : List Nat} : (s.safeHalt cs).inv := h.foldl fun _ _ ht => ht.setRun.haltTask.ite ht

theorem State.inv.enterChipSafe {kind src : Nat} : (s.enterChipSafe kind src).inv :=
  h.act.ite h.act.flag.p.flag.upd.pairFail.safeHalt.leveeSafeUpdate

theorem State.inv.failOver {kind src : Nat} : (s.failOver kind src).inv :=
  have h1 := h.act.ite h.act.flag.p.p
  h1.upd.flag.ite h1

theorem State.inv.enterRegionSafe {i kind src : Nat} : (s.enterRegionSafe i kind src).inv :=
  h.enterChipSafe.ite <| h.act.ite <|
    have h1 := h.act.p.p.p
    h1.upd.safeHalt.ite <| h1.upd.leveeSafeUpdate.ite h1.upd

theorem State.inv.react {m : FMsg} {r : Nat} : (s.react m r).inv :=
  have h1 := h.enterChipSafe.ite h
  have h2 := h1.enterRegionSafe.ite h1
  have h3 := h2.p.collMute.ite h2
  have h4 := h3.setClu.ite h3
  have h5 := h4.failOver.ite h4
  h5.upd.bump.ite h5

theorem State.inv.reactTo {m : FMsg} {severe : Bool} : (s.reactTo m severe).inv := by
  unfold State.reactTo
  dsimp only
  split
  · exact h.inc.inc.react.upd
  · exact h.inc.inc.react.upd.inc

theorem keepsStores_execFaultReaction : KeepsStores (execFaultReaction s) := by
  unfold Machine.execFaultReaction
  dsimp only
  split
  · exact h.next
  · exact h.upd.reactTo.next

theorem State.inv.showFull : s.showFull.inv := h.flag

theorem State.inv.writeRecord {p : FRec} : (s.writeRecord p).inv :=
  h.wr.inc.showFull.ite (h.foldl fun _ _ ht => ht.wr).p.showFull

theorem State.inv.endPeriod {p : FRec} : (s.endPeriod p).inv :=
  have h1 := h.upd.writeRecord.ite h.upd
  have h2 := (h1.upd.ite h1).event.ite h1
  h2.sendMsg.ite h2

theorem keepsStores_execFaultRecord : KeepsStores (execFaultRecord s) := by
  unfold Machine.execFaultRecord
  split
  · exact h.next
  · exact h.endPeriod.next

theorem State.inv.collReload {i : Nat} {good : Bool} : (s.collReload i good).inv := h.setEntries.upd.ite h.setEntries

theorem State.inv.faultRefused : s.faultRefused.inv := h.flag

theorem State.inv.freeKind {k : Nat} : (s.freeKind k).inv := h.foldl fun _ _ ht => ht.setEntries

theorem State.inv.reactWrite {k : Nat} {win : Bool} {v : Word} : (s.reactWrite k win v).inv :=
  h.faultRefused.ite <| (h.faultRefused.ite (h.ite h.p.freeKind)).ite <| h.faultRefused.ite <|
    h.fieldWrite.ite h.fieldWrite.freeKind

theorem State.inv.forgetTasks {p : Nat → Bool} : (s.forgetTasks p).inv := h.upd

theorem State.inv.endSafe {i : Nat} : (s.endSafe i).inv :=
  h.upd.flag.forgetTasks.leveeSafeUpdate.pairMend.ite <|
    have h1 := h.upd.p
    h1.forgetTasks.ite <| h1.leveeSafeUpdate.ite h1

theorem State.inv.endSafes : s.endSafes.inv := h.foldl fun _ _ ht => ht.endSafe

theorem State.inv.clrRefused : s.clrRefused.inv := h.flag

theorem State.inv.clearedSafe {i : Nat} : (s.clearedSafe i).inv := h.upd.upd.ite h.upd.endSafe

theorem State.inv.clearRegion {i : Nat} : (s.clearRegion i).inv := h.ite <| h.p.p.clearedSafe.ite h.clrRefused

theorem State.inv.clearChip : s.clearChip.inv := h.ite <| h.flag.p.clearedSafe.ite h.clrRefused

theorem State.inv.safeWrite {v : Word} : (s.safeWrite v).inv :=
  have h1 := h.foldl fun _ _ ht => ht.clearRegion.ite ht
  h1.clearChip.ite h1

theorem State.inv.foreqWrite {v : Word} : (s.foreqWrite v).inv := h.ite <| h.reqEnd.ite h.clrRefused

theorem State.inv.lmuteWrite {v : Word} : (s.lmuteWrite v).inv := h.p

theorem State.inv.collStatWrite {i : Nat} {v : Word} : (s.collStatWrite i v).inv := h.ite <| h.flag.ite h.clrRefused

theorem State.inv.faultWrite {o : Nat} {v : Word} : (s.faultWrite o v).inv :=
  h.unmapped.ite <| h.safeWrite.ok.ite <| h.foreqWrite.ok.ite <| h.lmuteWrite.ok.ite <|
    h.fieldWrite.showFull.ok.ite <| h.reactWrite.ok.ite <| h.reactWrite.ok.ite <| h.collStatWrite.ok.ite <|
    (h.collReload.ite h).ok.ite h.fieldWrite.ok

/-! ## Memory matrix -/

theorem State.inv.mtxRefused : s.mtxRefused.inv := h.flag

theorem State.inv.scrubWord {a : Nat} : (s.scrubWord a).inv := by
  unfold State.scrubWord
  dsimp only
  split
  · exact h
  · exact h.upd.setEcc.eccCorr
  · exact h.eccUncorr

theorem State.inv.setRet {b : Nat} {on : Bool} : (s.setRet b on).inv := h.upd

theorem State.inv.scrubLeaves {b : Nat} : (s.scrubLeaves b).inv := (h.upd.setRet.ite h.upd).ite h

theorem State.inv.scrubEnters {b : Nat} : (s.scrubEnters b).inv := h.upd.setRet.ite h

theorem State.inv.scrubWrap {m : Nat} : (s.scrubWrap m).inv := h.upd.inc.ite h.upd

theorem keepsStores_execScrubVisit {m : Fin 37} : KeepsStores (execScrubVisit m s) :=
  h.next.ite <|
    have h1 := h.scrubEnters.foldl fun _ _ ht => ht.scrubWord
    have h2 := h1.upd.ite h1.upd.scrubLeaves
    (h2.scrubWrap.ite h2).next

theorem State.inv.injWrite {mode : Nat} : (s.injWrite mode).inv := h.mtxRefused.ite h.flag.upd

theorem State.inv.atomRefused {a : Nat} : (s.atomRefused a).inv := h.flag.wr

theorem State.inv.atomRun {a op : Nat} : (s.atomRun a op).inv := by
  unfold State.atomRun
  dsimp only
  refine h.decodeError.atomRefused.ite <| h.atomRefused.ite ?_
  split
  · exact h.atomRefused
  · exact h.atomRefused
  · exact h.readW.atomRefused.ite h.readW.writeW.wr

theorem State.inv.atomsGo : s.atomsGo.inv := h.foldl fun _ _ ht => ht.ite ht.upd.flag.atomRun

theorem State.inv.atomWrite {a : Nat} {v : Word} : (s.atomWrite a v).inv :=
  h.mtxRefused.ite <|
    have h1 := h.flag.ite h
    h1.upd.flag.ite h1.atomRun

theorem State.inv.lockWrite {n : Nat} : (s.lockWrite n).inv := h.mtxRefused.ite h.upd

theorem State.inv.lockAccess {a : Nat} : (s.lockAccess a).inv := h.ite <| h.upd.ite h.upd

theorem State.inv.lockBroken {a : Nat} : (s.lockBroken a).inv := h.upd.flag.inc.emit

theorem State.inv.waits {a n : Nat} {v : Option Word} {w : Asker} : (s.waits a n v w).inv := h.upd

theorem State.inv.showHung : s.showHung.inv := h.flag

theorem keepsStores_execHungAccess {j : Nat} : KeepsStores (execHungAccess j s) := by
  unfold Machine.execHungAccess
  dsimp only
  split
  · exact h.next
  · exact h.next.ite h.upd.flag.wr.p.inc.showHung.emit.next

theorem State.inv.barError {a : Nat} : (s.barError a).inv := h.wr.flag

theorem State.inv.remoteAnswer {e : Env} {err : Bool} {ws : List Word} : (s.remoteAnswer e err ws).inv := h.sendMsg

theorem State.inv.hungError {x : Hung} : (s.hungError x).inv := by
  unfold State.hungError
  split
  · exact h.send
  · exact h.barError.ite h.barError.send
  · exact h
  · exact h.remoteAnswer
  · exact h.upd
  · exact h

theorem State.inv.hungDone {d : Nat} {only : Bool} : (s.hungDone d only).inv :=
  (h.foldl fun _ _ ht => ht.hungError).upd.showHung

theorem State.inv.mtxWrite {o : Nat} {v : Word} : (s.mtxWrite o v).inv :=
  h.unmapped.ite <| h.lockWrite.ok.ite <| h.injWrite.ok.ite <|
    (h.atomWrite.ok.ite (h.mtxRefused.ok.ite h.fieldWrite.ok)).ite h.fieldWrite.ok

/-! ## Links: bring-up -/

theorem State.inv.reroute {m : TxMsg} : (s.reroute m).inv := by
  unfold State.reroute
  split
  · exact h.sendPort
  · exact h.inc.creditBack

theorem State.inv.cutRun {p : Nat} : (s.cutRun p).inv := by
  unfold State.cutRun
  dsimp only
  split
  · exact h
  · exact h.upd.foldl fun _ _ ht => ht.send.ite ht

theorem State.inv.leftActive {p : Nat} {emit : Bool} : (s.leftActive p emit).inv :=
  have h1 := (h.cutRun.upd.wr.wr.foldl fun _ _ ht => ht.reroute).refLost.tetherPort
  h1.emit.ite h1

theorem State.inv.scanCut {p : Nat} : (s.scanCut p).inv := h.flag.flag.flag.setNgl.ite h

theorem State.inv.nglTo {p n : Nat} {emit : Bool} : (s.nglTo p n emit).inv :=
  h.ite <|
    have h1 := h.p.flag
    have h2 := h1.flag.setStopped.ite h1
    have h3 := h2.flag.ite h2
    have h4 := h3.flag.ite h3
    have h5 := h4.ite h4.scanCut
    h5.setNgl.leftActive.ite h5.setNgl

theorem State.inv.nglFail {p n why : Nat} {emit : Bool} : (s.nglFail p n why emit).inv := h.p.bump.nglTo

theorem State.inv.nglWake {p : Nat} {moored : Bool} : (s.nglWake p moored).inv := h.nglTo.setNgl

theorem State.inv.nglRefused {p : Nat} : (s.nglRefused p).inv := h.flag

theorem State.inv.nglDfe {p : Nat} {ws : List Word} : (s.nglDfe p ws).inv := h.foldl fun _ _ ht => ht.p

theorem State.inv.nglTrain {p : Nat} : (s.nglTrain p).inv := by
  unfold State.nglTrain
  dsimp only
  split
  · exact h.nglTo.wr.wr.nglDfe
  · exact h.nglTo.wr.wr.nglDfe

theorem State.inv.nglAdapt {p bits : Nat} {ws : List (BitVec 7)} : (s.nglAdapt p bits ws).inv := h.ite h.nglDfe

theorem State.inv.ffeStep {p t : Nat} {up : Bool} : (s.ffeStep p t up).1.inv := (h.iteFst h.p).iteFst <| h.iteFst h.p

omit h in
theorem State.inv.ffeAsk {p req t : Nat} {r : State × Nat} (h : r.1.inv) : (ffeAsk p req r t).1.inv := by
  unfold Machine.ffeAsk
  dsimp only
  split
  · exact h
  · split
    · exact h
    · exact h.ffeStep

theorem State.inv.ffeRequest {p req : Nat} : (s.ffeRequest p req).inv := by
  unfold State.ffeRequest
  dsimp only
  refine State.inv.setNgl ?_
  split
  · split
    · exact h
    · split
      · exact h.p.p.p
      · exact h.wr
  · exact State.inv.foldlFst h fun _ _ ht => ht.ffeAsk

theorem State.inv.nglTimeout {p n why : Nat} : (s.nglTimeout p n why).inv := h.nglFail.ite h

theorem State.inv.hdrErrs {p n : Nat} : (s.hdrErrs p n).inv := h.inc

theorem keepsStores_execBlockLock {p : Fin 8} {errs bits : Nat} {dfe : List (BitVec 7)} :
    KeepsStores (execBlockLock p errs bits dfe s) :=
  have h1 := h.hdrErrs.nglAdapt.ite h
  h1.nglTo.upd.next.ite h1.next

theorem keepsStores_execLos {p : Fin 8} {signal : Bool} : KeepsStores (execLos p signal s) :=
  have h1 := h.flag.ite h
  h1.nglFail.next.ite h1.next

theorem State.inv.moorStart {p : Nat} : (s.moorStart p).inv := h.setNgl.send

theorem State.inv.moorDone {p : Nat} : (s.moorDone p).inv :=
  have h1 := h.nglTo.setNgl
  h1.nglWake.ite h1

theorem State.inv.moorBoundary : s.moorBoundary.inv :=
  h.foldl fun _ _ ht => ht.moorStart.ite <| ht.setNgl.pump.pump.pump.ite ht

theorem keepsStores_execMoorTimeout {p : Fin 8} : KeepsStores (execMoorTimeout p s) :=
  (have h1 := h.setNgl.flag.flag; (h1.ite h1.setNgl.pump.pump.pump).next).ite h.next

theorem State.inv.moorOff {p : Nat} : (s.moorOff p).inv := h.nglWake.ite <| h.setNgl.ite h

theorem State.inv.moorOn {p : Nat} : (s.moorOn p).inv := h.setNgl.ite h.setNgl.moorStart

theorem State.inv.nglCtlWrite {p : Nat} {v : Word} : (s.nglCtlWrite p v).inv :=
  h.nglRefused.ite <| h.fieldWrite.nglTo.ite <| h.fieldWrite.nglWake.ite <|
    h.fieldWrite.moorOn.ite h.fieldWrite.moorOff

theorem State.inv.nglReset : s.nglReset.inv := h.foldl fun _ _ ht => ht.nglWake.ite ht

theorem keepsStores_execNglEnable {p : Fin 8} {v : Option Word} : KeepsStores (execNglEnable p v s) := by
  unfold Machine.execNglEnable
  split
  · exact h.nglCtlWrite.ok.next
  · exact (h.nglWake.ite h).next

theorem State.inv.eyeScanWrite {p : Nat} {v : Word} : (s.eyeScanWrite p v).inv :=
  h.nglRefused.ite <| h.fieldWrite.flag.flag.wr.setNgl.ite h.fieldWrite

theorem State.inv.nglDomainReset {p : Nat} {auto : Bool} : (s.nglDomainReset p auto).inv :=
  have h1 := h.foldl fun _ _ ht => ht.wr
  h1.setNgl.ite h1.setNgl.nglFail

theorem State.inv.linkCrc {p : Nat} : (s.linkCrc p).inv := h.setNgl.ite h.emit

theorem State.inv.crcBoundary : s.crcBoundary.inv := h.foldl fun _ _ ht => ht.ite ht.setNgl.emit

theorem State.inv.nglWrite {p o : Nat} {v : Word} : (s.nglWrite p o v).inv := by
  unfold State.nglWrite
  dsimp only
  refine h.unmapped.ite <| h.hang.ite ?_
  split
  · exact h.nglCtlWrite.ok
  · exact h.nglRefused.ok.ite h.fieldWrite.ok
  · exact h.nglRefused.ok.ite h.fieldWrite.ok
  · exact h.eyeScanWrite.ok
  · exact h.fieldWrite.ok

/-! ## Flows -/

theorem State.inv.showLoads : s.showLoads.inv := h.foldl fun _ _ ht => ht.p

theorem State.inv.fabRefused : s.fabRefused.inv := h.flag

theorem State.inv.flowOpened {f : Nat} : (s.flowOpened f).inv := h.upd

theorem State.inv.flowW0Write {f : Nat} {v : Word} : (s.flowW0Write f v).inv := by
  unfold State.flowW0Write
  dsimp only
  refine (h.ite (h.wr.showLoads.ite h.fabRefused)).ite ?_
  refine State.inv.ite ?_ (h.fabRefused.ite h.wr)
  split
  · exact h.flag.p.p
  · exact h.wr.flowOpened.showLoads

theorem State.inv.flowsCleared : s.flowsCleared.inv := (h.foldl fun _ _ ht => ht.flag).upd.showLoads.flag

theorem State.inv.flowBoundary : s.flowBoundary.inv := h.upd

theorem State.inv.chanTick {f ch : Nat} {xs : List (Option Word)} : (s.chanTick f ch xs).inv := h.upd

theorem State.inv.runGather {f par : Nat} {q : Nat × Nat} : (s.runGather f par q).inv :=
  h.foldl fun _ _ ht => ht.chanTick

theorem State.inv.flowGather {f t : Nat} {l : Losses} : (s.flowGather f t l).1.inv :=
  have h1 := h.foldl fun _ _ ht => ht.runGather
  have h2 := h1.ite h1.bump
  (h2.bump.ite h2).upd

theorem State.inv.aesGather {f m : Nat} {l : Losses} : (s.aesGather f m l).1.inv :=
  have h1 := h.foldl fun _ _ ht => ht.chanTick
  h1.upd.bump.ite h1.upd

theorem State.inv.flowsGather {t m : Nat} : (s.flowsGather t m).inv := by
  unfold State.flowsGather
  extract_lets _ emptied _ begun r idle ended
  have hr : r.1.inv := State.inv.foldlFst (h.upd.upd.ite h.upd) fun _ _ ht =>
    ht.flowGather.iteFst <| ht.aesGather.iteFst ht
  have he : ended.inv := hr.foldl fun _ _ ht => ht.chanTick
  exact he.ite he.inc.emit

theorem State.inv.flowDeliver {f ch : Nat} {xs : List Word} : (s.flowDeliver f ch xs).inv := h.upd.ite h.upd

/-! ## Links: messages -/

theorem State.inv.sendRuns {p : Nat} : (s.sendRuns p).inv := h.foldl fun _ _ ht => ht.foldl fun _ _ ht1 => ht1.send

theorem keepsStores_execTickMarkSend {p : Fin 8} {ofs : Word} : KeepsStores (execTickMarkSend p ofs s) :=
  h.next.ite <|
    have h1 := h.upd.send
    (h1.ite h1.sendRuns).next

theorem State.inv.cfgJudge : s.cfgJudge.inv := h.flag.upd.ite h.flag

theorem State.inv.markTakes {p : Nat} {w : Word} {k m : Nat} {dev err : Int} : (s.markTakes p w k m dev err).inv :=
  have h1 := h.flag.p
  (have h2 := h1.upd.cfgJudge; h2.upd.refEvent.showTimed.workerStart.ite h2.showTimed).ite h1.showTimed

theorem State.inv.fabStore {r : InRun} {ws : List Word} : (s.fabStore r ws).inv := h.upd

theorem State.inv.runAccept {p : Nat} {r : InRun} {ws : List Word} : (s.runAccept p r ws).inv :=
  h.inc.ite <| h.inc.ite (h.fabStore.ite h).upd

theorem keepsStores_execRunEnd {p : Fin 8} {ws : List Word} {crc : Word} : KeepsStores (execRunEnd p ws crc s) := by
  unfold Machine.execRunEnd
  dsimp only
  split
  · exact h.next
  · exact have h1 := h.upd.foldl fun _ _ ht => ht.send.ite ht
      h1.inc.next.ite <| h1.linkCrc.next.ite <| h1.runAccept.next.ite h1.next

theorem keepsStores_execMessageForward {p : Fin 8} {crcOk whole : Bool} {e : Env} {ws : List Word} :
    KeepsStores (execMessageForward p crcOk whole e ws s) :=
  h.next.ite <| h.linkCrc.creditBack.next.ite <| h.creditBack.next.ite <| h.inc.next.ite <|
    h.inc.creditBack.next.ite <| h.creditBack.next.ite h.forwardMsg.next

theorem State.inv.capPeer {p : Nat} {w : Word} : (s.capPeer p w).inv := h.p.flag.flag.p

theorem State.inv.capDone {p : Nat} : (s.capDone p).inv := h.capPeer.flag.nglTo.inc.tetherBack.ite h

theorem State.inv.capSend {p : Nat} : (s.capSend p).inv := h.sendPort.upd.capDone

theorem State.inv.capTake {p : Nat} {ws : List Word} : (s.capTake p ws).inv :=
  have h1 := h.flag.p.flag.ite h
  have h2 := h1.ite h1.p
  (h2.upd.capPeer.capSend.ite h2.upd.capPeer).showTimed.ite <|
    have h3 := h2.upd.p.p.ite h2.upd
    (h3.capSend.ite h3).capDone

theorem State.inv.idWrite {v : Word} : (s.idWrite v).inv := h.fabRefused.ite h.flag.p

theorem State.inv.showDelay {p : Nat} {ds : List Int} : (s.showDelay p ds).inv := h.wr

/-! ## Bridge -/

theorem State.inv.setEth {p : Nat} {k : Eth} : (s.setEth p k).inv := h.upd

theorem State.inv.setQueue {p q : Nat} {l : List TxReady} : (s.setQueue p q l).inv := h.setEth

theorem State.inv.brSend {x : Nat × Nat} : (s.brSend x).inv := h.upd.setQueue.ite h.upd.inc

theorem State.inv.brDropOld : s.brDropOld.inv :=
  h.foldl fun _ _ ht => ht.foldl fun _ _ ht1 => ht1.ite ht1.setQueue.inc

theorem State.inv.bridgeQueue : s.bridgeQueue.inv :=
  (h.brDropOld.ite (h.brDropOld.upd.ite ((h.brDropOld.foldl fun _ _ ht => ht.brSend).foldl fun _ _ ht => ht.upd))).upd

theorem State.inv.brPlace {c : Ctx} {ch : Nat} {st : Int} {x : Word} : (s.brPlace c ch st x).inv := h.ite h.upd

theorem State.inv.brArrive {f : Nat} {c : Ctx} {r pay : List Byte} : (s.brArrive f c r pay).inv :=
  h.inc.ite <| h.inc.ite <| h.upd.foldl fun _ _ ht => ht.foldl fun _ _ ht1 => ht1.brPlace

theorem State.inv.brReceive {f : Nat} {bs : List Byte} : (s.brReceive f bs).inv := by
  unfold State.brReceive
  dsimp only
  refine h.ite ?_
  split
  · exact h.inc
  · exact h.inc.ite <| h.brArrive.ite h

/-! ## PTP -/

theorem State.inv.ptpRun {edges : Nat} : (s.ptpRun edges).inv := h.ite h.upd

theorem State.inv.ptpRefused : s.ptpRefused.inv := h.flag

theorem State.inv.ptpRateWrite {v : Word} : (s.ptpRateWrite v).inv := h.ptpRefused.ite h.wr

theorem State.inv.ptpMove {d : Int} : (s.ptpMove d).inv :=
  have h1 := h.upd.flag
  h1.disqualify.ite h1

theorem State.inv.ptpCmdWrite {v : Word} : (s.ptpCmdWrite v).inv :=
  h.ptpRefused.ite <| h.ptpMove.ite <| h.ptpMove.ite h

theorem State.inv.gmLost : s.gmLost.inv := h.flag.flag.emit.refLost.ite h

theorem State.inv.ptpCtlWrite {v : Word} : (s.ptpCtlWrite v).inv := (h.ite h.gmLost).fieldWrite

theorem keepsStores_execPtpGmLoss {v : Option Word} : KeepsStores (execPtpGmLoss v s) := by
  unfold Machine.execPtpGmLoss
  split
  · exact h.ptpCtlWrite.ok.next
  · exact (h.ite h.gmLost).next

theorem State.inv.setLatch {a : Nat} {v : Word} : (s.setLatch a v).inv := h.upd

theorem State.inv.ptpRead {lag : Nat} {stale : Bool} : (s.ptpRead lag stale).1.inv :=
  (h.flag.emit.ite h.upd.flag).setLatch.setLatch.setLatch

theorem State.inv.mediaCommit {v : Word} : (s.mediaCommit v).inv := h.upd

theorem State.inv.mediaBoundary {m : Nat} : (s.mediaBoundary m).inv :=
  (by split; exacts [h.upd.upd.wr64, h.upd] : State.inv _).upd

theorem State.inv.evtRead {i : Nat} : (s.evtRead i).1.inv := (h.foldl fun _ _ ht => ht.setLatch).wr

theorem State.inv.setSched {ptp : Bool} {n st type arg : Nat} : (s.setSched ptp n st type arg).inv := h.wr

theorem State.inv.schedRefused : s.schedRefused.inv := h.flag

theorem State.inv.schedWrite {ptp : Bool} {n : Nat} {v : Word} : (s.schedWrite ptp n v).inv :=
  (h.setSched.ite h.schedRefused).ite <| h.setSched.ite <| h.setSched.schedRefused.ite <|
    h.setSched.upd.ite h.setSched.upd

theorem State.inv.actionRun {type arg m : Nat} : (s.actionRun type arg m).1.inv := by
  unfold State.actionRun
  dsimp only
  split
  · exact h.xingSwitch
  · exact h.coefSwap
  · exact h.sapGroupStart
  · exact h.sapGroupStop
  · exact h.upd.event
  · exact h

theorem State.inv.actionFailed {type : Nat} : (s.actionFailed type).inv := by
  unfold State.actionFailed
  split
  · exact h.flag
  · exact h.flag
  · exact h

theorem State.inv.actionDue {s0 : State} {m : Nat} {e : Bool × Nat} : (s0.actionDue m s e).inv :=
  (h.actionRun.ite h).setSched.ite h.actionFailed.setSched.schedRefused

theorem State.inv.actionsBoundary {k m : Nat} {first : Bool} : (s.actionsBoundary k m first).inv :=
  (h.ite (h.foldl fun _ _ ht => ht.setSched.flag)).foldl fun _ _ ht => ht.actionDue

/-! ## Ethernet frames -/

theorem State.inv.txTailWrite {p q : Nat} {v : Word} : (s.txTailWrite p q v).inv := h.fieldWrite.setQueue

theorem State.inv.limRefill {p ns : Nat} : (s.limRefill p ns).inv := h.upd

theorem State.inv.limTake {p n : Nat} : (s.limTake p n).inv := h.upd

theorem State.inv.limWait {p q : Nat} : (s.limWait p q).inv := h.ite h.inc.flag.upd

theorem State.inv.limFree {p : Nat} : (s.limFree p).inv := h.upd

theorem State.inv.txStamp {p tag : Nat} : (s.txStamp p tag).inv := h.flag.ite h.setEth

theorem State.inv.txtsRead {p : Nat} : (s.txtsRead p).1.inv := by
  unfold State.txtsRead
  dsimp only
  split
  · exact h
  · exact h.setEth.setLatch.setLatch

theorem State.inv.ethDomainReset {p : Nat} : (s.ethDomainReset p).inv := h.foldl fun _ _ ht => ht.wr

theorem State.inv.ethRefused {p : Nat} : (s.ethRefused p).inv := h.flag

theorem State.inv.ethWrite {p o : Nat} {v : Word} : (s.ethWrite p o v).inv :=
  h.unmapped.ite <| h.hang.ite <| h.ethRefused.ok.ite <| h.txTailWrite.ok.ite h.fieldWrite.ok

/-! ## Slot DMA -/

theorem State.inv.xMiss {e : Nat} : (s.xMiss e).inv := h.inc.flag.p.p

theorem State.inv.xRead {p : Nat} : (s.xRead p).1.inv := by
  unfold State.xRead
  dsimp only
  split
  · exact h.readWords
  · exact h.readWords
  · exact h
  · exact h
  · exact h

theorem State.inv.convertAll {c : Nat} {xs : List Word} : (s.convertAll c xs).1.inv := h.ite h.inc.flag

theorem State.inv.gatherStore {as : List Nat} {ws : List Word} : (s.gatherStore as ws).inv :=
  have h1 := h.foldl fun _ _ ht => ht.writeW
  h1.upd.ite h1

theorem State.inv.gatherWrite {p : Nat} {ws : List Word} : (s.gatherWrite p ws).inv := by
  unfold State.gatherWrite
  dsimp only
  split
  · exact h.gatherStore
  · exact h.gatherStore
  · exact (h.foldl fun _ _ ht => ht.writeW).writeW
  · exact h

theorem State.inv.readPhase {es : List Nat} : (s.readPhase es).1.inv := by
  induction es generalizing s with
  | nil => exact h
  | cons e es ih => exact ih (h.xRead.ite h.xRead.xMiss)

theorem State.inv.headsKept : s.headsKept.inv := h.readWords.upd

theorem State.inv.gather : s.gather.inv :=
  have h1 := h.upd.readPhase.foldl fun _ _ ht => ht.convertAll.gatherWrite
  h1.headsKept.ite h1

theorem State.inv.setSlotRamp {n : Nat} {r : Ramp} : (s.setSlotRamp n r).inv := h.p.flag.flag.upd

theorem State.inv.distWrite {p : Nat} {ws : List Word} : (s.distWrite p ws).1.inv := by
  unfold State.distWrite
  dsimp only
  split
  · exact h.foldl fun _ _ ht => ht.writeW
  · exact h.foldl fun _ _ ht => ht.writeW
  · exact h.sapDeliver.iteFst h
  · exact h.flowDeliver.iteFst h
  · exact h

omit h in
theorem State.inv.distOne {start : State} {lost : Nat → Bool} {a : State × SMap Word} {m : Moved} (h : a.1.inv) :
    (start.distOne lost a m).1.inv := by
  unfold State.distOne
  extract_lets x p ramped c w
  have hr : ramped.1.inv := by
    unfold ramped
    split
    · exact h.setSlotRamp
    · exact h
  exact hr.convertAll.distWrite.ite hr.convertAll.distWrite.xMiss

theorem State.inv.distribute {skip : List Nat} : (s.distribute skip).inv := by
  unfold State.distribute
  extract_lets ts r d
  have hd : d.1.inv := State.inv.foldlFst h.readPhase fun _ _ ht => State.inv.distOne ht
  exact hd.upd

theorem State.inv.replayCrc : s.replayCrc.1.inv := h.readPhase

end Sys2Proof.Machine
end

section
/-!
SUPPORT. O5: the tick, power, reset and boot keep the stores in canonical form.
-/
namespace Sys2Proof.Machine

variable {s : State} (h : s.inv)
include h

/-! ## The tick -/

theorem State.inv.showUnprot {c : Nat} : (s.showUnprot c).inv := h.flag

theorem State.inv.shadowGo {c n : Nat} : (s.shadowGo c n).inv := h.p

theorem State.inv.shadowSuspect {c l ended : Nat} : (s.shadowSuspect c l ended).inv := h.setClu.p

theorem State.inv.laneRetire {c : Nat} : (s.laneRetire c).inv := h.setClu.flag.p.shadowGo

theorem State.inv.shadowJudge {c ended : Nat} : (s.shadowJudge c ended).inv :=
  h.setClu.shadowGo.ite <| h.ite <| (h.shadowSuspect.shadowGo.ite h.p).ite <|
    (h.shadowSuspect.shadowGo.ite h.p.shadowGo).ite <| h.flag.emit.shadowGo.ite h.shadowGo

theorem State.inv.shadowOne {ended next c : Nat} : (s.shadowOne ended next c).inv :=
  have h1 := h.shadowJudge.ite (h.p.shadowGo.ite h)
  (h1.laneRetire.ite h1).setClu.showUnprot

theorem State.inv.shadowEnd {ended next : Nat} : (s.shadowEnd ended next).inv := h.foldl fun _ _ ht => ht.shadowOne

theorem State.inv.shadowFirst {k : Nat} : (s.shadowFirst k).inv := h.foldl fun _ _ ht => ht.p.ite ht

theorem State.inv.laneFails : s.laneFails.inv := h.foldl fun _ _ ht => ht.emit.ite ht

theorem State.inv.coreClkBoundary : s.coreClkBoundary.inv := h.p

theorem State.inv.wakeHeld : s.wakeHeld.inv := h.upd

theorem State.inv.periodStart : s.periodStart.inv := (h.upd.sapRateChange.moutLimits.ite h).moutBoundary

theorem State.inv.boundary {k m : Nat} {first : Bool} : (s.boundary k m first).inv := by
  unfold State.boundary
  extract_lets shadowed crcs _ begun started roled ferried forced forecast beating _ marked captured
  have hc : crcs.inv := h.shadowEnd.ite h.shadowEnd.crcBoundary
  have hr : roled.inv :=
    (hc.upd.shadowFirst.ite hc.upd).periodStart.coreClkBoundary.roleBoundary.endSafes
  have hf : ferried.inv := hr.ferryBoundary.mediaBoundary.coefAdvance
  have hq : forecast.inv := hf.forecastBoundary.actionsBoundary.sigBoundary.wakeHeld.flowBoundary.moorBoundary
  have ha : captured.inv := hq.pairCounts.heartbeatBoundary.rebindAll.upd.flowsGather.capBegin
  exact (ha.foldl fun _ _ ht => ht.sapGather).gather

theorem keepsStores_execTickBoundary {edges : Nat} : KeepsStores (execTickBoundary edges s) := by
  unfold Machine.execTickBoundary
  dsimp only
  refine (h.ptpRun.boundary.next.ite h.next).ite ?_
  refine KeepsStores.ite ?_ h.next
  split
  · exact h.workerStart.next
  · exact h.workerStart.ptpRun.wr64.wr64.flag.flag.boundary.next

theorem State.inv.ticksStop : s.ticksStop.inv := by
  unfold State.ticksStop
  refine State.inv.ite ?_ h
  extract_lets m ended flagged _ stopped muted
  have hm : muted.inv :=
    h.forecastStop.shadowEnd.crcBoundary.flag.p.upd.periodStart.foldl fun _ _ ht => ht.ite ht.gainIdle
  exact hm.coreClkBoundary.endSafes.moorBoundary.rebindAll

theorem State.inv.windowOpen {missed : Option Nat} : (s.windowOpen missed).inv := by
  unfold State.windowOpen
  refine State.inv.ite ?_ h
  extract_lets _ opened ended fed woken
  have hf : fed.inv := by
    unfold fed
    split
    · exact h.upd.capEnd.abandon
    · exact h.upd.capEnd
  exact (hf.wakeClusters.ite hf).lateTakeover.replayStart.bistStart

theorem State.inv.halts : s.halts.inv :=
  (h.foldl fun _ _ ht => ht.setRun.ite <| ht.setRun.ite ht).foldl fun _ _ ht => ht.haltCluster.flag.ite ht

theorem State.inv.overrun : s.overrun.inv := by
  unfold State.overrun
  dsimp only
  split
  · exact h.upd
  · exact h.ite h.flag.inc.wr.emit.upd.overrunTiers

theorem State.inv.gateSafe : s.gateSafe.inv := h.foldl fun _ _ ht => (ht.completeTask.ite ht).powerOff.ite ht

theorem keepsStores_execComputeWindowClose {meas : Option Nat} {skip : List Nat} :
    KeepsStores (execComputeWindowClose meas skip s) := by
  unfold Machine.execComputeWindowClose
  refine KeepsStores.ite ?_ h.next
  extract_lets _ _ closed monitored _ measured gated crc replayed
  have hg : gated.inv := h.upd.halts.laneFails.overrun.monitor.upd.bistEnd.gateClusters.gateSafe.takeClose
  have hr : replayed.inv := by
    unfold replayed
    split
    · exact hg.replayEnd.ite hg.replayCrc.replayEnd
    · exact hg
  exact (hr.ite hr.distribute).capBegin.next

theorem State.inv.distLate : s.distLate.inv := h.flag.inc.emit.upd.ite h

theorem State.inv.unfed : s.unfed.inv := h.foldl fun _ _ ht => ht.setEl.ite <| ht.ite ht.gainIdle

theorem State.inv.consignPhase {sent : Nat} : (s.consignPhase sent).inv := by
  unfold State.consignPhase
  refine State.inv.ite ?_ h
  extract_lets _ began calibrated observed captured appended no _ checked consigned chosen
  have hc : calibrated.inv := by
    unfold calibrated
    split
    · exact h.upd.calibrate
    · exact h.upd
  have ha : appended.inv := (hc.observe.ite hc).distLate.unfed.capEnd.foldl fun _ _ ht => ht.sapAppend
  have hs : consigned.inv := ha.upd.ferryConsign
  exact (hs.select.ite hs).bridgeQueue

theorem keepsStores_execTaskDispatch {t : Fin 128} : KeepsStores (execTaskDispatch t s) := by
  unfold Machine.execTaskDispatch
  dsimp only
  refine KeepsStores.ite ?_ h.next
  split
  · exact h.startTask.next
  · exact h.forcedTier.startTask.next.ite h.next

theorem State.inv.tickCfgWrite {v : Word} : (s.tickCfgWrite v).inv :=
  h.flag.ite (h.fieldWrite.ite h.fieldWrite.clkRateChange).upd.xRecheck.flowsCleared.cfgJudge

theorem State.inv.tickCtlWrite {v : Word} {mid : Bool} : (s.tickCtlWrite v mid).inv :=
  h.ite <| (h.flag.ite h.flag.flag.p.wakeHeld.upd.workerStart).ite <|
    have h1 := h.flag.flag
    (h1.ite h1.p).upd

theorem State.inv.mtcSet {v : Word} : (s.mtcSet v).inv := h.flag.ite h.upd

theorem State.inv.tickSet {v : Word} : (s.tickSet v).inv := h.flag.ite h.upd

theorem State.inv.mtcRead {stale : Bool} : (s.mtcRead stale).1.inv := (h.flag.emit.ite h.upd.flag).setLatch

/-! ## Power and reset -/

theorem State.inv.pwrRefused : s.pwrRefused.inv := h.flag

omit h in
theorem wf_keptRegs : Regs.wf s.keptRegs := by
  unfold State.keptRegs
  induction s.regs using List.reverseRecOn with
  | nil => rfl
  | append_singleton m e ih =>
    rw [List.foldl_append]
    dsimp only [List.foldl]
    split
    · exact SMap.wf_set _ _ ih
    · split
      · exact SMap.wf_set _ _ ih
      · exact ih

omit h in
/-- A device reset leaves stores in canonical form whatever they were before; the hypothesis makes the rule one of a
chain. -/
theorem State.inv.deviceReset (_ : s.inv) : s.deviceReset.inv :=
  (State.inv_mk (SMap.wf_nil _) wf_keptRegs).leveeReset

omit h in
/-- The supplies come up with stores in canonical form whatever they were before. -/
theorem State.inv.powerOn {tgt : Word} (_ : s.inv) : (s.powerOn tgt).inv := inv_reset.upd.wr

theorem keepsStores_execDeviceReset {i : Option (Fin 13)} {uv : Nat} : KeepsStores (execDeviceReset i uv s) := by
  unfold Machine.execDeviceReset
  split
  · exact (h.ite h.deviceReset.flag).next
  · exact h.next.ite <| h.powerOn.next.ite <| h.next.ite h.deviceReset.flag.p.next

theorem State.inv.rstCtlWrite {v : Word} : (s.rstCtlWrite v).inv := h.deviceReset.flag.ite h.pwrRefused.ok

theorem State.inv.latchStraps {role : Bool} {src : Nat} : (s.latchStraps role src).inv :=
  h.flag.p.flag.wr.flag.showTimed

theorem State.inv.loadFuses : s.loadFuses.inv :=
  ((h.foldl fun _ _ ht => ht.wr).foldl fun _ _ ht => ht.wr).wr.wr.flag.flag

theorem State.inv.bootBegin : s.bootBegin.inv := h.upd.p

theorem keepsStores_execResetEnd {role : Bool} {src : Fin 4} {xo : Nat} {testEn : Bool} {banks : List Nat} :
    KeepsStores (execResetEnd role src xo testEn banks s) := by
  unfold Machine.execResetEnd
  dsimp only
  split
  · exact h.deviceReset.upd.latchStraps.p.loadFuses.bootBegin.nglReset.next.ite h.next
  · exact h.next

theorem State.inv.avsWrite {v : Word} : (s.avsWrite v).inv := h.pwrRefused.ite h.fieldWrite

theorem State.inv.clkSelWrite {v : Word} : (s.clkSelWrite v).inv := h.pwrRefused.ite <| h.p.ite h.p.coreClkBoundary

theorem State.inv.tempRead {i : Nat} {stale : Bool} : (s.tempRead i stale).1.inv := h.flag.emit.iteFst h.flag.upd

theorem State.inv.doze : s.doze.inv :=
  have h1 := h.foldl fun _ _ ht => ht.setRet
  State.inv_mk (SMap.wf_filter _ h1.1) h1.2

theorem State.inv.stateCtlWrite {v : Word} : (s.stateCtlWrite v).inv := h.wr.ok.ite <| h.wr.flag.ok.ite h.wr.doze

theorem State.inv.woken {role : Bool} {src xo : Nat} : (s.woken role src xo).inv :=
  (State.inv_mk h.1 h.deviceReset.2).latchStraps.p.loadFuses.flag.nglReset.upd

/-! ## Boot -/

theorem State.inv.zeroRange {a n : Nat} : (s.zeroRange a n).inv := State.inv_mk (SMap.wf_filter _ h.1) h.2

theorem State.inv.copyWords {n a : Nat} {b : List Byte} : (s.copyWords n a b).inv := by
  induction n generalizing s a b with
  | zero => exact h
  | succ n ih => exact ih h.writeW

theorem State.inv.bootAccept {b : List Byte} {staged : Bool} : (s.bootAccept b staged).inv :=
  have h1 := h.foldl fun _ _ ht => ht.copyWords
  have h2 := (h1.zeroRange.ite h1).wr.flag.flag
  (by split; exacts [h2.send, h2] : State.inv _).upd

theorem State.inv.bootPhase {p : BootPhase} : (s.bootPhase p).inv := h.upd

theorem State.inv.bootReject {b : List Byte} {r : Nat} : (s.bootReject b r).inv := by
  unfold State.bootReject
  dsimp only
  split
  · exact ((h.p.bump.foldl fun _ _ ht => ht.zeroRange).ite h.p.bump).bootPhase.flag
  · exact ((h.p.bump.foldl fun _ _ ht => ht.zeroRange).ite h.p.bump).bootPhase.p
  · exact ((h.p.bump.foldl fun _ _ ht => ht.zeroRange).ite h.p.bump).bootPhase
  · exact ((h.p.bump.foldl fun _ _ ht => ht.zeroRange).ite h.p.bump).bootPhase.send.send
  · exact (h.p.bump.foldl fun _ _ ht => ht.zeroRange).ite h.p.bump

theorem State.inv.bootJudge {b : List Byte} {staged : Bool} : (s.bootJudge b staged).inv :=
  h.bootAccept.ite h.bootReject

theorem State.inv.memBytes {a n : Nat} : (s.memBytes a n).1.inv := by
  induction n generalizing s a with
  | zero => exact h
  | succ n ih => exact ih h.readW

theorem State.inv.stagedImage : s.stagedImage.1.inv := h.memBytes.memBytes

theorem keepsStores_execBootImageCheck {img : List Byte} {failed : Bool} :
    KeepsStores (execBootImageCheck img failed s) := by
  unfold Machine.execBootImageCheck
  dsimp only
  split
  · exact (h.bootReject.ite h.bootJudge).next
  · exact h.stagedImage.bootJudge.next
  · exact h.stagedImage.bootJudge.next.ite h.next
  · exact h.next

theorem State.inv.bootCtlWrite {v : Word} : (s.bootCtlWrite v).inv := h.bootPhase.ite h

theorem keepsStores_execUartRecoveryByte {b : Byte} : KeepsStores (execUartRecoveryByte b s) := by
  unfold Machine.execUartRecoveryByte
  split
  · exact h.next.ite h.writeN.bootPhase.next
  · exact h.next

theorem keepsStores_execUartGapTimeout : KeepsStores (execUartGapTimeout s) := by
  unfold Machine.execUartGapTimeout
  split
  · exact (h.ite h.bootPhase).next
  · exact h.next

theorem keepsStores_execUartPrompt : KeepsStores (execUartPrompt s) := by
  unfold Machine.execUartPrompt
  split
  · exact h.send.next
  · exact h.next

end Sys2Proof.Machine
end

section
/-!
SUPPORT. O5: the host interface, the bus and the host commands keep the stores in canonical form.
-/
namespace Sys2Proof.Machine

variable {s : State} (h : s.inv)
include h

/-! ## Host interface -/

theorem State.inv.complete {d : Desc} {status : Nat} {r0 r1 : Word} : (s.complete d status r0 r1).inv :=
  h.ite <|
    have h1 := (h.hostWriteAs.upd.ite h.hostWriteAs).p.p
    h1.msix.ite h1

theorem State.inv.flushGo {ds : List Desc} : (s.flushGo ds).1.inv := by
  induction ds generalizing s with
  | nil => exact h
  | cons d ds ih => exact (ih h.complete).iteFst (ih h)

theorem State.inv.flushAborted : s.flushAborted.inv := h.flushGo.upd

theorem State.inv.ringZero {x : RingSel} {ph : Bool} : (s.ringZero x ph).inv := by
  unfold State.ringZero
  split
  · exact h.wr.wr.flag
  · exact h.wr.wr.flag
  · exact h.wr.wr
  · exact h.wr.wr

theorem State.inv.hostRefused : s.hostRefused.inv := h.flag

theorem State.inv.ringWrite {x : RingSel} {v : Word} : (s.ringWrite x v).inv := by
  unfold State.ringWrite
  dsimp only
  refine h.hostRefused.ite <| h.fieldWrite.ringZero.ite <| State.inv.ite ?_ h.fieldWrite
  split
  · exact h.fieldWrite.upd.flushAborted.ite h.fieldWrite
  · exact h.fieldWrite

theorem State.inv.bellRefused {page off : Nat} : (s.bellRefused page off).inv := h.flag.p.p

theorem State.inv.cqHead {v : Word} : (s.cqHead v).inv := h.bellRefused.ite h.wr.flushAborted

theorem State.inv.eqHead {v : Word} : (s.eqHead v).inv := h.bellRefused.ite h.wr

theorem State.inv.capRd {c : Nat} {v : Word} : (s.capRd c v).inv := h.bellRefused.ite h.wr

theorem State.inv.sqTail {d r : Nat} {v : Word} : (s.sqTail d r v).inv := h.bellRefused.ite h.wr

theorem State.inv.bellOn {d a : Nat} {v : Word} : (s.bellOn d a v).inv := h.sendMsg

theorem State.inv.bellAct {d off : Nat} {v : Word} : (s.bellAct d off v).inv :=
  h.sqTail.ite <| (h.cqHead.ite h.bellOn).ite <| (h.eqHead.ite h.bellOn).ite <|
    (h.capRd.ite h.bellOn).ite h.bellRefused

theorem State.inv.doorbell {d off : Nat} {v : Word} : (s.doorbell d off v).inv := h.ite <| h.upd.ite h.bellAct

theorem State.inv.fetched {d r : Nat} {ws : List Word} : (s.fetched d r ws).inv :=
  h.p.upd.ite <| h.p.sendMsg.ite h.p.inc

theorem State.inv.stageWords {c o n : Nat} : (s.stageWords c o n).1.inv := by
  induction n generalizing s o with
  | zero => exact h
  | succ n ih => exact ih h.readW

theorem State.inv.capToHost {c : Nat} {ws : List Word} : (s.capToHost c ws).inv :=
  have h1 := (h.hostWrite.hostWrite.ite h.hostWrite).p
  h1.hostWrite.msix.ite h1.hostWrite

theorem State.inv.pbaFlush : s.pbaFlush.inv := h.foldl fun _ _ ht => ht.upd.msix.ite ht

theorem State.inv.msixWrite {k : Nat} {v : Word} : (s.msixWrite k v).inv := (h.upd.ite h.upd.pbaFlush).ite h

theorem State.inv.ringsOff : s.ringsOff.inv :=
  (h.wr.ringZero.wr.ringZero.foldl fun _ _ ht => ht.wr.ringZero).foldl fun _ _ ht =>
    ht.foldl fun _ _ ht => ht.ite ht.wr.ringZero

theorem keepsStores_execHostIfReset {loss : Bool} : KeepsStores (execHostIfReset loss s) :=
  h.next.ite <|
    have h1 := h.flag.emit.ite h
    h1.next.ite h1.ringsOff.wr.wr.flag.upd.next

theorem State.inv.hostBlockWrite {o : Nat} {v : Word} : (s.hostBlockWrite o v).inv := by
  have set : ∀ {good : Bool} {a : Nat}, (if good then s.fieldWrite a v else s.hostRefused).ok.inv :=
    (h.fieldWrite.ite h.hostRefused).ok
  unfold State.hostBlockWrite
  dsimp only
  refine h.msixWrite.ok.ite <| h.ok.ite <| h.unmapped.ite <| h.msix.ok.ite <| set.ite <| h.ringWrite.ok.ite <|
    h.cqHead.ok.ite <| set.ite <| h.ringWrite.ok.ite <| h.eqHead.ok.ite <| State.inv.ite ?_ <| State.inv.ite ?_ set
  · split
    · exact set
    · exact set
    · exact h.ringWrite.ok
    · exact set
    · exact h.capRd.ok
    · exact set
    · exact set
  · split
    · exact set
    · exact set
    · exact h.ringWrite.ok
    · exact set

/-! ## Domains -/

theorem State.inv.domainReset {d : Nat} {auto : Bool} : (s.domainReset d auto).inv :=
  (h.sapDomainReset.ite (h.nglDomainReset.ite (h.ethDomainReset.ite h.wr))).flag.hungDone

theorem State.inv.domRstWrite {v : Word} : (s.domRstWrite v).inv := h.mtxRefused.ite <| h.domainReset.ite h

/-! ## Bus accesses -/

theorem State.inv.regRead {r : RegSpec} {ix : List Nat} {a : Nat} {stale : Bool} : (s.regRead r ix a stale).1.inv :=
  h.mtcRead.iteFst <| h.ptpRead.iteFst <| h.rateRead.iteFst <| h.rateRead.iteFst <| h.tempRead.iteFst <|
    h.evtRead.iteFst <| h.txtsRead.iteFst <| h.iteFst <| h.foldl fun _ _ ht => ht.setLatch

theorem State.inv.readWord {src at_ a : Nat} {stale : Bool} : (s.readWord src at_ a stale).1.inv := by
  unfold State.readWord
  dsimp only
  split
  · exact h.iteFst h.readW
  · split
    · exact h
    · split
      · exact h.decodeError
      · split
        · split
          · exact h.regRead
          · exact h
        · exact h.regRead

theorem State.inv.readAt {src a n : Nat} {stale : Bool} : (s.readAt src a n stale).1.inv := by
  unfold State.readAt
  dsimp only
  split
  · exact h.decodeError
  · split
    · exact h.readWord
    · exact h.readWord

theorem State.inv.clusterWrite {src a : Nat} {v : Word} : (s.clusterWrite src a v).inv :=
  h.decodeError.err.ite <| (h.setClu.ok.ite h.err).ite <| h.err.ite <| (h.shadowInj.ite h).flag.showUnprot.ok.ite <|
    (h.fieldWrite.wr.ite h.fieldWrite).ok.ite h.fieldWrite.ok

theorem State.inv.fcstWrite {a : Nat} {v : Word} : (s.fcstWrite a v).inv :=
  h.ttWrite.ite <| h.unmapped.ite <| h.fieldWrite.ok.ite <| (h.fieldWrite.ite h.flag).ok.ite <|
    (h.fieldWrite.ite h.flag).ok.ite <| (h.fieldWrite.ite h.flag).ok.ite <| (h.fieldWrite.ite h.flag).ok.ite <|
    (have h1 := h.ttSelWrite.ttArm.ite h.ttSelWrite; (h1.ttDisarm.ite h1).ok).ite h.fieldWrite.ok

theorem State.inv.xingBlockWrite {a : Nat} {v : Word} : (s.xingBlockWrite a v).inv := by
  unfold State.xingBlockWrite
  dsimp only
  refine h.xingWrite.ite <| h.unmapped.ite <| h.xingWrite.ite <| (h.xSelWrite.xValidate.ite h.xSelWrite).ok.ite <|
      (h.capRefused.ite h.fieldWrite).ok.ite ?_
  refine State.inv.ite ?_ h.fieldWrite.ok
  split
  · exact h.capWrite.ok
  · exact h.capWrite.ok
  · exact h.capWrite.ok
  · exact (h.fieldWrite.ite h.capRefused).ok
  · exact h.ok

theorem State.inv.timeWrite {a : Nat} {v : Word} : (s.timeWrite a v).inv := by
  unfold State.timeWrite
  dsimp only
  split
  · exact h.unmapped
  · exact h.tickCfgWrite.ok.ite <| h.tickCtlWrite.ok.ite <| h.upd.ok.ite <| h.mtcSet.ok.ite <| h.upd.ok.ite <|
        h.tickSet.ok.ite <| h.schedWrite.ok.ite <| h.schedWrite.ok.ite <| h.ptpCtlWrite.ok.ite <|
        h.ptpRateWrite.ok.ite <| h.ptpCmdWrite.ok.ite <| (h.fieldWrite.ite h.ptpRefused).ok.ite <|
        (h.fieldWrite.ite h.ptpRefused).ok.ite <| h.upd.ok.ite <| h.mediaCommit.ok.ite h.fieldWrite.ok

theorem State.inv.raCtlWrite {v : Word} : (s.raCtlWrite v).inv :=
  h.fabRefused.ite <| h.fieldWrite.ite <|
    have h1 := h.fieldWrite.sendMsg
    h1.flag.upd.ite h1.flag.p

theorem State.inv.fabWrite {a : Nat} {v : Word} : (s.fabWrite a v).inv := by
  unfold State.fabWrite
  split
  · exact h.unmapped
  · extract_lets f set free p t
    have hs : ∀ good, (set good).inv := fun _ => (h.fieldWrite.ite h.fabRefused).ok
    have ht : t.inv := h.fabRefused.ite h.fieldWrite
    refine h.idWrite.ok.ite <| (hs _).ite <| h.raCtlWrite.ok.ite <| (hs _).ite <| State.inv.ite ?_ <|
      h.flowW0Write.ok.ite <| (hs _).ite <| (hs _).ite <| (hs _).ite h.fieldWrite.ok
    split
    · exact ht.ok
    · exact ht.showDelay.ok

theorem State.inv.pwrWrite {a : Nat} {v : Word} : (s.pwrWrite a v).inv :=
  h.unmapped.ite <| h.rstCtlWrite.ite <| h.stateCtlWrite.ite <| h.avsWrite.ok.ite <| h.clkSelWrite.ok.ite <|
    h.bootCtlWrite.ok.ite h.fieldWrite.ok

theorem State.inv.blockWrite {a : Nat} {v : Word} : (s.blockWrite a v).inv := by
  unfold State.blockWrite
  dsimp only
  split
  · exact h.unmapped.ite h.ok
  · exact h.fcstWrite
  · exact h.xingBlockWrite
  · exact h.leveeWrite
  · exact h.pairWrite
  · exact h.faultWrite
  · exact h.clkWrite
  · exact h.timeWrite
  · exact h.nglWrite
  · exact h.fabWrite
  · exact h.sapWrite.ite h.unmapped
  · exact h.ethWrite.ite h.unmapped
  · exact h.hostBlockWrite
  · exact h.pwrWrite
  · exact h.unmapped.ite h.ok
  · exact h.domRstWrite.ok.ite h.mtxWrite
  · exact h.unmapped

theorem State.inv.writeAt {src a : Nat} {v : Word} : (s.writeAt src a v).inv := by
  unfold State.writeAt
  refine h.decodeError.err.ite ?_
  split
  · exact h.progWrite
  · exact h.writeW.ok
  · refine h.clusterWrite.ite ?_
    refine State.inv.ite ?_ h.decodeError.err
    refine State.inv.ite ?_ h.unmapped
    split
    · exact h.blockWrite.ite h.hang
    · exact h.blockWrite

theorem State.inv.writeNarrow {src a n : Nat} {v : Word} : (s.writeNarrow src a n v).inv := by
  unfold State.writeNarrow
  dsimp only
  refine h.decodeError.err.ite ?_
  split
  · exact h.progWrite
  · exact h.writeN.ok.ite h.writeN.err
  · exact h.err.ite h.decodeError.err

omit h in
theorem State.inv.took {t : State} (h : t.inv) : (s.took t).1.inv := by
  unfold State.took
  split
  · exact h
  · split
    · exact h.upd
    · exact h

theorem State.inv.store {src a : Nat} {v : Word} : (s.store src a v).1.inv := h.writeAt.took

/-! ## Accesses that wait -/

theorem State.inv.askRead {m src a n : Nat} {stale : Bool} : (s.askRead m src a n stale).1.inv := h.iteFst h.readAt

theorem State.inv.askWrite {m src a n : Nat} {v : Word} : (s.askWrite m src a n v).1.inv :=
  h.iteFst (h.writeAt.ite h.writeNarrow).took

theorem State.inv.coreLock {core : Bool} {a : Nat} : (s.coreLock core a).inv := h.lockAccess.ite h

theorem State.inv.busReadDone {core : Bool} {a n : Nat} {stale : Bool} : (s.busReadDone core a n stale).inv := by
  unfold State.busReadDone
  dsimp only
  split
  · exact h.askRead.coreLock.send
  · exact h.askRead.coreLock.send
  · exact h.waits

theorem State.inv.busWriteDone {core : Bool} {a n : Nat} {v : Word} : (s.busWriteDone core a n v).inv :=
  h.waits.ite (h.writeAt.ite h.writeNarrow).coreLock

theorem State.inv.barWord {a : Nat} {be : Fin 16} : (s.barWord a be).1.inv := by
  unfold State.barWord
  dsimp only
  split
  · exact h
  · split
    · exact h.askRead
    · exact h.askRead

theorem State.inv.barRead {a : Nat} {ws : List Word} {bes : List (Fin 16)} : (s.barRead a ws bes).inv := by
  induction bes generalizing s a ws with
  | nil => exact h.send
  | cons be bes ih =>
    unfold State.barRead
    dsimp only
    split
    · exact ih h.barWord
    · exact h.barWord.barError.send
    · exact h.waits

theorem State.inv.barStore {a : Nat} {be : Fin 16} {v : Word} : (s.barStore a be v).1.inv := by
  unfold State.barStore
  refine State.inv.iteFst h (h.store.iteFst ?_)
  split
  · exact h.progWrite.took
  · exact State.inv.iteFst (p := (s, _)) h (State.inv.iteFst (p := (_, _)) h.readW h.readW.writeW)
  · exact h.writeNarrow.took

theorem State.inv.barWords {a : Nat} {ws : List (Fin 16 × Word)} : (s.barWords a ws).inv := by
  induction ws generalizing s a with
  | nil => exact h
  | cons w ws ih =>
    unfold State.barWords
    dsimp only
    split
    · exact ih h.barStore
    · exact (ih h.barStore.barError).ite h.barStore.barError
    · exact ih h.waits

theorem State.inv.barWrite {a : Nat} {ws : List (Fin 16 × Word)} : (s.barWrite a ws).inv := by
  unfold State.barWrite
  dsimp only
  refine h.decodeError.barError.ite ?_
  split
  · refine State.inv.ite ?_ h.barWords
    split
    · exact h.progWrite.took
    · exact h.progWrite.took.barError
  · exact h.barWords

theorem State.inv.barRequest {a : Nat} {bes : List (Fin 16)} {data : Option (List Word)} :
    (s.barRequest a bes data).inv := by
  unfold State.barRequest
  split
  · exact h.ite <| h.decodeError.barError.send.ite h.barRead
  · exact h.barWrite

theorem State.inv.remRead {e : Env} {a : Nat} {ws : List Word} {n : Nat} : (s.remRead e a ws n).inv := by
  induction n generalizing s a ws with
  | zero => exact h.remoteAnswer
  | succ n ih =>
    unfold State.remRead
    dsimp only
    split
    · exact ih h.askRead
    · exact h.askRead.remoteAnswer
    · exact h.waits

theorem State.inv.remWrite {e : Env} {a : Nat} {vs : List Word} : (s.remWrite e a vs).inv := by
  induction vs generalizing s a with
  | nil => exact h.remoteAnswer
  | cons v vs ih =>
    unfold State.remWrite
    dsimp only
    split
    · exact ih h.askWrite
    · exact h.askWrite.remoteAnswer
    · exact h.waits

theorem State.inv.discard {m src a n : Nat} {v : Option Word} {w : Asker} : (s.discard m src a n v w).inv := by
  unfold State.discard
  dsimp only
  split
  · exact h.waits
  · split
    · exact h.askRead
    · exact h.askWrite

theorem State.inv.perform {x : Hung} : (s.perform x).inv := by
  unfold State.perform
  split
  · exact h.busReadDone
  · exact h.busWriteDone
  · exact h.discard
  · exact h.barRead
  · exact h.barWords
  · exact h.remRead
  · exact h.remWrite
  · exact h
  · exact h.discard

theorem State.inv.settle {n : Nat} : (s.settle n).inv := by
  induction n generalizing s with
  | zero => exact h
  | succ n ih =>
    unfold State.settle
    split
    · exact h
    · exact ih h.upd.perform.upd

theorem State.inv.go : s.go.inv := h.atomsGo.settle

theorem keepsStores_execLockAbort : KeepsStores (execLockAbort s) := by
  unfold Machine.execLockAbort
  split
  · exact h.next
  · exact h.lockBroken.go.next

theorem keepsStores_execBar0ReadTimeout {j : Nat} : KeepsStores (execBar0ReadTimeout j s) := by
  unfold Machine.execBar0ReadTimeout
  dsimp only
  split
  · exact h.next
  · split
    · exact h.upd.flag.send.next
    · exact h.next

theorem keepsStores_execClockPresentChange {d : Fin 35} {run seen : Bool} :
    KeepsStores (execClockPresentChange d run seen s) :=
  have h1 := h.setStopped.flag.ite h.setStopped
  (h1.hungDone.go.ite h1).next

/-! ## Ethernet DMA -/

theorem State.inv.dmaRead {a : Nat} : (s.dmaRead a).1.inv := by
  unfold State.dmaRead
  dsimp only
  split
  · exact h.askRead
  · exact h.askRead
  · exact h.waits

theorem State.inv.dmaWrite {a n : Nat} {v : Word} : (s.dmaWrite a n v).inv := by
  unfold State.dmaWrite
  dsimp only
  split
  · exact h.waits
  · exact h.askWrite

theorem State.inv.busBytes {a n : Nat} : (s.busBytes a n).1.inv := by
  induction n generalizing s a with
  | zero => exact h
  | succ n ih => exact ih h.dmaRead

theorem State.inv.bufRead {a n : Nat} : (s.bufRead a n).1.inv := h.busBytes

theorem State.inv.bufWrite {a : Nat} {bs : List Byte} : (s.bufWrite a bs).inv := by
  induction s, a, bs using State.bufWrite.induct with
  | case1 s a b0 b1 b2 b3 bs ih => exact ih h.dmaWrite
  | case2 s a b0 b1 b2 => exact h.dmaWrite.dmaWrite
  | case3 s a b0 b1 => exact h.dmaWrite
  | case4 s a b0 => exact h.dmaWrite
  | case5 s a => exact h

theorem State.inv.readDescs {p q n i : Nat} : (s.readDescs p q n i).1.inv := by
  induction n generalizing s i with
  | zero => exact h
  | succ n ih =>
    unfold State.readDescs
    dsimp only
    split
    · exact h.dmaRead.dmaRead
    · exact ih h.dmaRead.dmaRead

theorem State.inv.txComplete {p q st : Nat} {all : Bool} {d : TxDesc} : (s.txComplete p q st all d).inv :=
  h.dmaWrite.dmaWrite.p

theorem State.inv.drainDescs {p q tail n : Nat} : (s.drainDescs p q tail n).inv := by
  induction n generalizing s with
  | zero => exact h
  | succ n ih => exact h.ite (ih (h.readDescs.foldl fun _ _ ht => ht.txComplete).inc)

theorem State.inv.drainItem {p q : Nat} {i : TxReady} : (s.drainItem p q i).inv := by
  unfold State.drainItem
  split
  · exact h.inc
  · exact h.drainDescs

theorem State.inv.ethDrain {p : Nat} : (s.ethDrain p).inv :=
  (h.foldl fun _ _ ht => ht.foldl fun _ _ ht1 => ht1.drainItem).setEth.limFree

theorem keepsStores_execEthLinkChange {p : Fin 2} {up : Bool} {reason : Fin 4} :
    KeepsStores (execEthLinkChange p up reason s) :=
  h.p.next.ite <|
    have h1 := h.p.flag.flag
    (h1.ite h1.emit.ethDrain).next

theorem State.inv.macSend {p q : Nat} {bs : List Byte} : (s.macSend p q bs).inv := h.limTake.send

theorem State.inv.txFind {p q : Nat} {l : List TxReady} : (s.txFind p q l).1.inv := by
  induction l generalizing s with
  | nil => exact h.setQueue
  | cons x l ih =>
    cases x with
    | pkt t b => exact h.setQueue
    | desc tail =>
      unfold State.txFind
      dsimp only
      split
      · exact h.readDescs.setQueue
      · exact ih h.readDescs

theorem State.inv.txPick {p : Nat} {qs : List Nat} : (s.txPick p qs).1.inv := by
  induction qs generalizing s with
  | nil => exact h
  | cons q qs ih =>
    unfold State.txPick
    dsimp only
    split
    · exact h.txFind
    · exact ih h.txFind

theorem State.inv.txBuffers {p : Nat} {ds : List TxDesc} : (s.txBuffers p ds).1.inv := by
  induction ds generalizing s with
  | nil => exact h
  | cons d ds ih => exact ih h.bufRead

theorem State.inv.txDone {p q st : Nat} {all : Bool} {ds : List TxDesc} : (s.txDone p q st all ds).inv :=
  h.foldl fun _ _ ht => ht.txComplete

theorem State.inv.txFrameOut {p q : Nat} {ds : List TxDesc} : (s.txFrameOut p q ds).inv :=
  h.txDone.ite <| h.txBuffers.inc.txDone.ite <| h.limWait.ite <|
    have h1 := h.txBuffers.macSend.inc
    (h1.txStamp.ite h1).txDone

theorem State.inv.txPacketOut {p q : Nat} {b : List Byte} : (s.txPacketOut p q b).inv :=
  h.setQueue.inc.ite <| h.setQueue.inc.ite <| h.limWait.ite h.setQueue.macSend.inc.inc

theorem keepsStores_execEthTxFrame {p : Fin 2} {ns edges : Nat} : KeepsStores (execEthTxFrame p ns edges s) := by
  have h1 := h.ptpRun (edges := edges).limRefill (p := p) (ns := ns)
  unfold Machine.execEthTxFrame
  refine h1.next.ite <| h1.ethDrain.next.ite ?_
  dsimp only
  split
  · exact h1.txPick.txPacketOut.next
  · exact h1.txPick.txFrameOut.next
  · exact h1.txPick.next

theorem State.inv.rxReturn {p r : Nat} {x : RxStatus} {last : Nat} {c : List Byte × Nat} :
    (s.rxReturn p r x last c).inv :=
  h.dmaRead.bufWrite.dmaWrite.dmaWrite.dmaWrite.p

theorem State.inv.rxFill {p r : Nat} {x : RxStatus} {bs : List Byte} : (s.rxFill p r x bs).inv :=
  (h.foldl fun _ _ ht => ht.rxReturn).inc.ite <| h.foldl fun _ _ ht => ht.rxReturn

theorem State.inv.rxDeliver {p : Nat} {good trunc above : Bool} {bs : List Byte} :
    (s.rxDeliver p good trunc above bs).inv :=
  h.rxFill

theorem State.inv.rxJudge {p : Nat} {bs : List Byte} {fcsOk : Bool} : (s.rxJudge p bs fcsOk).inv := by
  unfold State.rxJudge
  dsimp only
  refine h.inc.ite <| (h.inc.rxDeliver.ite h.inc).ite <| h.inc.ite <| h.inc.ite <| h.inc.ite ?_
  split
  · exact h.inc.brReceive
  · exact h.inc.rxDeliver

/-! ## Remote accesses -/

theorem keepsStores_execHostTunnelRead {p : Fin 8} {e : Env} {ws : List Word} {host : Option (List Word)} :
    KeepsStores (execHostTunnelRead p e ws host s) :=
  (h.received fun _ ht => by
    split
    · exact ht.remoteAnswer.ite ht.remoteAnswer
    · exact ht.remoteAnswer).next

theorem State.inv.tagEnds {r : Request} : (s.tagEnds r).inv := h.upd.ite h

theorem State.inv.raDone {st : Nat} : (s.raDone st).inv := h.flag.flag.p

theorem State.inv.responded {r : Request} {ws : List Word} : (s.responded r ws).inv :=
  (h.wr.ite h).raDone.ite <| h.flag.ite h

theorem keepsStores_execRemoteResponse {p : Fin 8} {e : Env} {ws : List Word} :
    KeepsStores (execRemoteResponse p e ws s) :=
  (h.received fun _ ht => by
    split
    · exact ht
    · exact ht.inc.ite ht.upd.tagEnds.responded).next

theorem keepsStores_execRemoteAccessTimeout {j : Nat} : KeepsStores (execRemoteAccessTimeout j s) := by
  unfold Machine.execRemoteAccessTimeout
  dsimp only
  split
  · exact h.next
  · exact have h1 := h.upd.tagEnds
      (h1.raDone.ite h1).next

/-! ## Host commands -/

theorem State.inv.finish {d : Desc} {st : Nat} {r0 r1 : Word} : (s.finish d st r0 r1).inv :=
  (h.upd.complete.ite h.upd).ite h

theorem State.inv.donef {st : Nat} {r0 r1 : Word} : (s.donef st r0 r1).s.inv := h

theorem State.inv.command {op : Nat} {fits : Desc → Bool} {remote : Bool} {addrs : Desc → List Nat}
    {body : State → Desc → Done} (hf : ∀ t d, t.inv → (body t d).s.inv) : (s.command op fits remote addrs body).inv := by
  unfold State.command
  split
  · exact h
  · split
    · exact h
    · split
      · exact h.finish
      · dsimp only
        split
        · exact h.ite h.waits
        · exact (hf _ _ h).finish

theorem State.inv.engRead {a : Nat} : (s.engRead a).1.inv := h.iteFst h.readAt

theorem State.inv.engWrite {a : Nat} {v : Word} : (s.engWrite a v).1.inv := h.iteFst h.store

theorem State.inv.putWords {a n : Nat} {vs : List Word} : (s.putWords a n vs).s.inv := by
  induction vs generalizing s a n with
  | nil => exact h
  | cons v vs ih =>
    unfold State.putWords
    dsimp only
    split
    · exact ih h.engWrite
    · exact h.engWrite

theorem State.inv.getWords {a n : Nat} {ws : List Word} : (s.getWords a ws n).1.inv := by
  induction n generalizing s a ws with
  | zero => exact h
  | succ n ih =>
    unfold State.getWords
    dsimp only
    split
    · exact ih h.engRead
    · exact h.engRead

theorem State.inv.askHost {d : Desc} {a n : Nat} : (s.askHost d a n).inv := h.ite h.sendMsg

theorem State.inv.giveHost {d : Desc} {a : Nat} {ws : List Word} : (s.giveHost d a ws).inv := h.hostWriteAs

theorem State.inv.moveIn {d : Desc} {far : Bool} {buf : List Word} {sink : State → Nat → Nat → Transfer} {n f i : Nat}
    (hf : ∀ t i k, t.inv → (sink t i k).s.inv) : (s.moveIn d far buf sink n f i).s.inv := by
  induction f generalizing s i with
  | zero => exact h
  | succ f ih =>
    unfold State.moveIn
    dsimp only
    split
    · exact h
    · split
      · exact h.askHost
      · split
        · exact hf _ _ _ h.askHost
        · exact ih (hf _ _ _ h.askHost)

theorem State.inv.moveOut {d : Desc} {far : Bool} {source : State → Nat → Nat → State × List Word × Nat} {n f i : Nat}
    (hf : ∀ t i k, t.inv → (source t i k).1.inv) : (s.moveOut d far source n f i).s.inv := by
  induction f generalizing s i with
  | zero => exact h
  | succ f ih =>
    unfold State.moveOut
    dsimp only
    split
    · exact h
    · split
      · exact hf _ _ _ h
      · exact ih (hf _ _ _ h).giveHost

theorem State.inv.whole {d : Desc} {buf : List Word} {n : Nat} : (s.whole d buf n).1.inv :=
  h.moveIn fun _ _ _ ht => ht

theorem State.inv.askDevice {d : Desc} {type a n : Nat} {ws : List Word} : (s.askDevice d type a n ws).inv :=
  h.sendMsg

theorem State.inv.devPut {d : Desc} {a : Nat} {ws : List Word} {ans : Option RemAns} : (s.devPut d a ws ans).s.inv :=
  h.putWords.iteTransfer h.askDevice

theorem State.inv.devGet {d : Desc} {a n : Nat} {ans : Option RemAns} : (s.devGet d a n ans).1.inv := by
  unfold State.devGet
  dsimp only
  split
  · exact h.getWords
  · split
    · exact h.askDevice.iteFst h.askDevice
    · exact h.askDevice

theorem keepsStores_execBadOpcode : KeepsStores (execBadOpcode s) := by
  unfold Machine.execBadOpcode
  split
  · exact h.next
  · exact (h.ite h.finish).next

theorem State.inv.putProg {cs : List Nat} {x : Nat} {ws : List (BitVec 64)} : (s.putProg cs x ws).s.inv := by
  induction ws generalizing s x with
  | nil => exact h
  | cons w ws ih =>
    unfold State.putProg
    extract_lets r
    have hr : r.1.inv := State.inv.foldlFst h fun _ _ ht => ht.progWrite.took
    exact hr.iteTransfer (ih hr)

theorem State.inv.progCrc {c x n : Nat} : (s.progCrc c x n).1.inv := h.getWords

theorem keepsStores_execLoadProg {buf : List Word} : KeepsStores (execLoadProg buf s) := by
  unfold Machine.execLoadProg
  refine h.next.ite (h.command fun t d ht => ?_).next
  extract_lets n sink r q free last
  have hr : r.s.inv := ht.moveIn fun _ _ _ ht => ht.putProg
  have hq : q.1.inv := State.inv.foldlFst hr fun _ _ ht => ht.progCrc
  exact hr.donef.iteDone (hq.nextFree.ite hq).donef

theorem keepsStores_execLoadTt {buf : List Word} : KeepsStores (execLoadTt buf s) :=
  (h.command fun _ _ ht =>
    have hm := ht.moveIn fun _ _ _ ht => ht.putWords
    hm.donef.iteDone <| hm.donef.iteDone hm.wr.wr.ttArm.donef).next

theorem State.inv.armLowest {type arg tgt : Nat} : (s.armLowest type arg tgt).1.inv := by
  unfold State.armLowest
  dsimp only
  split
  · exact h
  · exact h.wr.wr.schedWrite

theorem State.inv.putXing {i : Nat} {vs : List Word} : (s.putXing i vs).s.inv := by
  induction vs generalizing s i with
  | nil => exact h
  | cons v vs ih =>
    unfold State.putXing
    dsimp only
    split
    · exact ih (h.p.p.ite h).store
    · exact (h.p.p.ite h).store

theorem keepsStores_execLoadXing {buf : List Word} : KeepsStores (execLoadXing buf s) :=
  (h.command fun _ _ ht =>
    have hm := ht.moveIn fun _ _ _ ht => ht.putXing
    hm.donef.iteDone <| hm.xValidate.donef.iteDone hm.xValidate.armLowest.donef).next

theorem State.inv.putLanes {cs : List Nat} {x : Nat} {vs : List Word} : (s.putLanes cs x vs).s.inv := by
  induction vs generalizing s x with
  | nil => exact h
  | cons v vs ih =>
    unfold State.putLanes
    extract_lets r
    have hr : r.1.inv := State.inv.foldlFst h fun q c ht => by
      split
      · exact ht.store
      · exact ht.decodeError
    exact hr.iteTransfer (ih hr)

theorem keepsStores_execLoadCoef {buf : List Word} : KeepsStores (execLoadCoef buf s) :=
  (h.command fun _ _ ht => ht.donef.iteDone <|
    have hm := ht.moveIn fun _ _ _ ht => ht.putLanes
    hm.donef.iteDone hm.armLowest.donef).next

theorem keepsStores_execSchedule : KeepsStores (execSchedule s) := by
  refine (h.command fun t d ht => ?_).next
  dsimp only
  split
  · exact ht.armLowest.donef
  · exact ht.armLowest.nextFree.nextFree.donef

omit h in
theorem State.inv.keepFlags {t : State} {a b : Fld} (h : t.inv) : (t.keepFlags s a b).inv := h.flag.flag

theorem State.inv.flowPut {f : Nat} {ws : List Word} : (s.flowPut f ws).1.inv :=
  (h.flag.flag.foldl fun _ _ ht => ht.store).keepFlags

theorem State.inv.flowDone {f : Nat} {ws : List Word} : (s.flowDone f ws).s.inv :=
  h.store.donef.iteDone h.flowPut.donef

theorem keepsStores_execFlowSet {buf : List Word} : KeepsStores (execFlowSet buf s) := by
  unfold Machine.execFlowSet
  split
  · dsimp only
    split
    · exact h.next
    · exact (h.flowDone.upd.complete.ite h.flowDone.upd).next
  · refine (h.command fun t d ht => ?_).next
    dsimp only
    split
    · exact ht.whole.donef
    · split
      · exact ht.whole.donef
      · split
        · exact ht.whole.flowW0Write.upd.donef
        · exact ht.whole.flowDone

theorem State.inv.putLevee {o n : Nat} {bind : Bool} {vs : List Word} : (s.putLevee o n bind vs).1.inv := by
  induction vs generalizing s o n bind with
  | nil => exact h
  | cons v vs ih =>
    unfold State.putLevee
    dsimp only
    split
    · exact ih h.flag.flag.flag.store.keepFlags.flag
    · exact h.flag.flag.flag.store.keepFlags.flag

theorem keepsStores_execLeveeSet {buf : List Word} : KeepsStores (execLeveeSet buf s) := by
  refine (h.command fun t d ht => ?_).next
  dsimp only
  split
  · exact ht.whole.donef
  · exact ht.whole.putLevee.donef

theorem State.inv.meters {as : List Word} : (s.meters as).1.inv := by
  induction as generalizing s with
  | nil => exact h
  | cons a as ih =>
    unfold State.meters
    dsimp only
    split
    · exact ih h.engRead
    · exact ih h.engRead

theorem keepsStores_execMeterSnap {buf : List Word} : KeepsStores (execMeterSnap buf s) := by
  unfold Machine.execMeterSnap
  refine h.next.ite (h.command fun t d ht => ?_).next
  dsimp only
  split
  · exact ht.whole.donef
  · exact ht.whole.meters.giveHost.donef

/-! ## JTAG -/

theorem State.inv.jtag {i : JtagIr} : (s.jtag i).inv := h.upd

/-! ## Words by operation -/

theorem State.inv.issueC {c : Nat} {x : Beside} {q : Cond} {o : COp} : (issueC c x q o s).inv := h.issue

theorem State.inv.issueLoad {c : Nat} {x : WordEnv} {pl : MemPlace} {m0 : M0Slot} {m1 : M1Slot} :
    (issueLoad c x pl m0 m1 s).inv := by
  unfold Machine.issueLoad
  split
  · exact h.issue
  · exact h.issue

end Sys2Proof.Machine
end

section
/-!
SUPPORT. The canonical form of the stores: every command, every step, and the reset state (O5, O6).
-/
namespace Sys2Proof.Machine

/-- Every command keeps the stores in canonical form. -/
theorem keepsStores_exec {s : State} (h : s.inv) (i : Instr) : KeepsStores (exec i s) := by
  cases i with
  | tickBoundary => exact keepsStores_execTickBoundary h
  | computeWindowOpen => exact h.windowOpen.go.next
  | computeWindowClose => exact keepsStores_execComputeWindowClose h
  | consignPhase => exact h.consignPhase.go.next
  | tickCfgWrite => exact h.tickCfgWrite.ok.next
  | tickRun | tickStop => exact h.tickCtlWrite.ok.next
  | mtcSet => exact h.mtcSet.ok.next
  | tickSet => exact h.tickSet.ok.next
  | mtcRead => exact h.mtcRead.send.next
  | latchedLowRead => exact h.busReadDone.go.next
  | schedArm | schedDisarm => exact h.schedWrite.ok.next
  | registerWrite => exact h.busWriteDone.go.next
  | nop | st | sta | br | loop | seta | seti | halt => exact h.issue.next
  | mpy | mac | msu | mpyD | macD | msuD | ald | aadd | asub | aclr | exta | bcast | mov | add | sub | adds | subs
  | neg | abs | min | max | and | or | xor | asr | lsr | lsls | mulr | addsD | subsD | mulrD | cvt31 | cvt23 | pack
  | unpk0 | unpk1 | lid | asrI | lsrI | lslsI | rds | ofsw | cmpEq | cmpNe | cmpLt | cmpLe | cmpaLt | cmpaEq | pset
  | pand | por | pxor | pnot => exact h.issueC.next
  | rsum => exact (h.issueC.emit.ite h.issueC).next
  | ld | ldi => exact h.issueLoad.next
  | undefinedEncoding => exact h.issueUndefined.next
  | taskDispatch => exact keepsStores_execTaskDispatch h
  | clusterWakeDone => exact h.wakeDone.catchStep.next
  | taskComplete => exact h.completeTask.catchStep.next.ite h.next
  | laneBist => exact (h.setClu.bump.ite h.setClu.flag).next.ite h.next
  | shadowInj => exact h.shadowInj.ok.next
  | illInj => exact h.flag.ok.next
  | cycMaxClr => exact h.wr.ok.next
  | progMemWrite => exact h.progWrite.next
  | ttEntryWrite => exact h.ttWrite.next
  | ttSelWrite => exact h.ttSelWrite.ok.next
  | thermalUpdate => exact h.staleTemps.monitor.thermalUpdate.next
  | xingEntryWrite => exact h.xingWrite.next.ite h.xingWrite.next
  | xingSelWrite => exact (h.xSelWrite.xValidate.ite h.xSelWrite).ok.next
  | capRingCtlWrite => exact h.capWrite.ok.next
  | captureFrameCommit => exact h.capFrameWords.capStore.p.setCap.upd.next.ite h.next
  | leveeElBindWrite => exact h.bindWrite.ok.next
  | leveeRegWrite => exact h.leveeWrite.next
  | leveeSealKey => exact h.sealKey.ok.next
  | leveeCauseClear => exact keepsStores_execLeveeCauseClear h
  | telemetryWord => exact (h.inc.ite h).telemetry.next.ite h.next
  | ampFltChange => exact h.setFlt.next
  | telemLoss => exact keepsStores_execTelemLoss h
  | dcMute => exact h.setEl.flag.emit.beginSoft.next.ite h.next
  | ampRetry => exact keepsStores_execAmpRetry h
  | retryReset => exact h.next.ite h.p.flag.next
  | leveeParitySweep => exact (h.foldl fun _ _ ht => ht.parityError).next
  | pairCfgWrite => exact h.pairCfgWrite.ok.next
  | heartbeat => exact (h.received fun _ ht => ht.pilotBeat.peerBeat).next
  | grant => exact (h.received fun _ ht => ht.granted.ite ht).next
  | revoke | grantCopy => exact (h.received fun _ ht => ht.peerHolds.ite ht).next
  | notice => exact (h.received fun _ ht => ht.pilotSeen.peerHolds.ite ht).next
  | query => exact (h.received fun _ ht => (by split; exacts [ht.tetherSend.ite ht, ht] : State.inv _)).next
  | consignment => exact (h.received fun _ ht => ht.stage.ite ht).next
  | forceSweep | suspectClr => exact h.pairCtlWrite.ok.next
  | trackedAreaWrite => exact h.areaWrite.ok.next
  | standbyBist => exact keepsStores_execStandbyBist h
  | pilotCtlWrite => exact h.pilotCtlWrite.ok.next
  | pilotPairWrite | pilotSwitchRequest => exact h.pilotPairWrite.ok.next
  | faultMessage => exact keepsStores_execFaultMessage h
  | faultWindowExpiry => exact h.expire.next
  | collParity => exact h.next.ite h.flag.upd.enterRegionSafe.failOver.toChip.next
  | faultCollReload => exact h.collReload.ok.next
  | faultReactWrite => exact h.reactWrite.ok.next
  | safeClear => exact h.safeWrite.ok.next
  | foreqClear => exact h.foreqWrite.ok.next
  | lmuteClear => exact h.lmuteWrite.ok.next
  | collParityClear => exact h.collStatWrite.ok.next
  | eccWriteback => exact h.upd.setEcc.next.ite h.next
  | scrubVisit => exact keepsStores_execScrubVisit h
  | eccInjectArm | eccInjectDisarm => exact h.injWrite.ok.next
  | atomicAdd | atomicAdds | atomicSwap => exact h.atomWrite.ok.next
  | bankRetentionEntry => exact h.setRet.next.ite h.next
  | bankWakeDone => exact h.upd.next
  | lockSequence => exact h.lockWrite.ok.go.next
  | hungAccess => exact keepsStores_execHungAccess h
  | domainReset => exact h.domRstWrite.ok.go.next
  | autoDomainReset => exact h.domainReset.go.next.ite h.next
  | clockPresentChange => exact keepsStores_execClockPresentChange h
  | crossingReady => exact h.flag.hungDone.go.next.ite h.next
  | refComparison => exact (h.refEvent.ite h).next
  | refLoss => exact (h.refLost.ite h).next
  | refRangeMeasure => exact h.rangeMeasure.next
  | refQualified => exact h.flag.p.refEval.next.ite h.next
  | clkSelectWrite => exact keepsStores_execClkSelectWrite h
  | mclkOutCfgWrite => exact h.moutWrite.ok.next
  | nglDisable | moorWrite | moorRelease => exact h.nglCtlWrite.ok.next
  | nglEnable => exact keepsStores_execNglEnable h
  | nglPllLock => exact (h.nglTrain.next.ite (h.nglTo.next.ite h.nglTo.next)).ite h.next
  | receiverDetectionProbe => exact (h.flag.nglTrain.ite h.flag).next.ite h.next
  | trainingFrame => exact h.flag.ffeRequest.setNgl.next.ite h.next
  | trainExit => exact (h.wr.ite h.wr.nglDfe).nglTo.next.ite h.next
  | trainTo | bitlockTo | capsTo => exact h.nglTimeout.next
  | cdrLock => exact h.nglTo.next.ite h.next
  | blockLock => exact keepsStores_execBlockLock h
  | blocklockTo => exact h.hdrErrs.nglFail.next.ite h.next
  | lockLost => exact h.hdrErrs.nglFail.next.ite <| h.hdrErrs.next.ite h.next
  | los => exact keepsStores_execLos h
  | moorReq => exact h.next.ite <| h.moorDone.next.ite <| h.setNgl.send.moorDone.next.ite h.next
  | moorAck => exact h.moorDone.next.ite h.next
  | moorTimeout => exact keepsStores_execMoorTimeout h
  | signalDetect => exact h.next.ite (h.flag.nglWake.ite h.flag).next
  | eyeScanGo => exact h.eyeScanWrite.ok.next.ite h.hang.next
  | eyeScanDone => exact h.wr.flag.flag.next.ite <| h.wr.setNgl.next.ite h.next
  | prbsLock => exact (h.nglAdapt.inc.ite h.nglAdapt.flag).next.ite h.next
  | prbsLockLoss => exact h.flag.bump.inc.next.ite h.next
  | tickMarkSend => exact keepsStores_execTickMarkSend h
  | tickMark => exact h.next.ite (h.upd.markTakes.ite h.upd.inc).next
  | run => exact h.next.ite (h.cutRun.upd.foldl fun _ _ ht => ht.send).next
  | runEnd => exact keepsStores_execRunEnd h
  | credit => exact h.p.pump.next.ite h.next
  | messageForward => exact keepsStores_execMessageForward h
  | timeSyncSend => exact h.next.ite h.upd.sendPort.next
  | timeSync => exact (h.received fun _ ht => ht.sendPort).next
  | timeSyncResponse =>
    exact (h.received fun _ ht => (by split; exacts [ht, ht.ite ht.upd.showDelay] : State.inv _)).next
  | capabilitySend => exact h.capSend.next.ite h.next
  | capability => exact (h.capTake.ite h.linkCrc).next.ite h.next
  | remoteRead => exact (h.received fun _ ht => ht.remoteAnswer.ite ht.remRead).next
  | remoteWrite => exact (h.received fun _ ht => ht.remoteAnswer.ite ht.remWrite).go.next
  | hostTunnelRead => exact keepsStores_execHostTunnelRead h
  | hostTunnelWrite => exact (h.received fun _ ht => ht.hostWrite.remoteAnswer.ite ht.remoteAnswer).next
  | remoteResponse => exact keepsStores_execRemoteResponse h
  | descriptorFwd => exact (h.received fun _ ht => ht.upd.ite ht).next
  | faultReport => exact (h.received fun _ ht => ht.event.ite ht).next
  | fabIdWrite => exact h.idWrite.ok.next
  | flowValidSet | flowValidClear => exact h.flowW0Write.ok.next
  | remoteAccessGo => exact h.raCtlWrite.ok.next
  | remoteAccessTimeout => exact keepsStores_execRemoteAccessTimeout h
  | sapCtlStart | sapCtlStop | sapCtlRestart => exact h.sapCtlWrite.ok.next
  | sapFrame => exact keepsStores_execSapFrame h
  | lateLeadingEdge => exact h.next.ite <| h.sapSlip.next.ite <| h.sapRecur.next.ite h.next
  | sapClkLost => exact h.flag.flag.inc.emit.sapTrouble.next.ite h.next
  | sapRateWindow => exact h.rateWindow.next.ite h.next
  | sapMaskWrite => exact h.sapMaskWrite.next
  | sapMuteWrite => exact h.sapMuteWrite.ok.next
  | zcTimeout => exact (h.setGate.flag.ite h).next
  | stopTimeout => exact (h.sapStopped.ite h).next
  | ethRxFrame => exact h.ptpRun.next.ite <| h.ptpRun.rxDeliver.next.ite <| h.ptpRun.rxJudge.next.ite h.ptpRun.next
  | ethTxTailWrite => exact (h.txTailWrite.ite h.txTailWrite.ethDrain).ok.next
  | ethTxFrame => exact keepsStores_execEthTxFrame h
  | ethLinkChange => exact keepsStores_execEthLinkChange h
  | ethTxtsRead => exact h.txtsRead.send.next
  | ptpRateWrite => exact h.ptpRun.ptpRateWrite.ok.next
  | ptpStep | ptpSet => exact h.ptpRun.ptpCmdWrite.ok.next
  | ptpGmLoss => exact keepsStores_execPtpGmLoss h
  | ptpTimeRead => exact h.ptpRun.ptpRead.send.next
  | mediaOfsWrite => exact h.mediaCommit.ok.next
  | ptpTrigArm => exact h.ptpRun.schedWrite.ok.next
  | eventCapture => exact h.ptpRun.next.ite <| h.ptpRun.flag.next.ite h.ptpRun.wr.wr.wr.wr.wr.next
  | eventCaptureRead => exact h.evtRead.send.next
  | bar0Request => exact h.next.ite h.barRequest.go.next
  | bar0ReadTimeout => exact keepsStores_execBar0ReadTimeout h
  | hostIfReset => exact keepsStores_execHostIfReset h
  | hostLinkUp => exact h.next.ite h.flag.p.p.event.next
  | hostPowerState => exact h.next.ite (h.upd.ite h.upd.pbaFlush).next
  | ringEnable | ringDisable => exact h.ringWrite.ok.next
  | sqTail | cqHead | eqHead | capRd => exact h.doorbell.next
  | descriptorFetch => exact h.next.ite (h.foldl fun _ _ ht => ht.fetched).next
  | memWrite => exact (h.command fun _ _ ht => (ht.moveIn fun _ _ _ ht1 => ht1.devPut).donef).go.next
  | memRead => exact (h.command fun _ _ ht => (ht.moveOut fun _ _ _ ht1 => ht1.devGet).donef).next
  | regWrite => exact (h.command fun _ _ ht => ht.devPut.donef).go.next
  | regRead => exact (h.command fun _ _ ht => ht.devGet.donef).next
  | loadProg => exact keepsStores_execLoadProg h
  | loadTt => exact keepsStores_execLoadTt h
  | loadXing => exact keepsStores_execLoadXing h
  | loadCoef => exact keepsStores_execLoadCoef h
  | flowSet => exact keepsStores_execFlowSet h
  | leveeSet => exact keepsStores_execLeveeSet h
  | meterSnap => exact keepsStores_execMeterSnap h
  | captureHostCopy => exact h.next.ite <| h.next.ite h.stageWords.p.capToHost.next
  | msixTrig => exact h.msix.ok.next
  | msixHoldoffEnd => exact (h.upd.msix.ite h.upd).next
  | powerOnReset => exact h.powerOn.p.next
  | deviceReset => exact keepsStores_execDeviceReset h
  | softwareReset => exact h.rstCtlWrite.next
  | resetEnd => exact keepsStores_execResetEnd h
  | supplyWarn => exact h.next.ite (h.flag.flag.ite h).p.p.inc.emit.upd.forceGale.forceSweep.next
  | supplyRecovery => exact (h.p.next.ite h.p.upd.next).ite h.next
  | avsAppliedWrite => exact h.avsWrite.ok.next
  | coreClockSelect => exact h.clkSelWrite.ok.next
  | sensorConversion => exact (h.p.flag.p.foldl fun _ _ ht => ht.wr).next
  | thermTrip => exact h.next.ite h.flag.flag.emit.next
  | dormantEntry => exact h.stateCtlWrite.next
  | wake => exact (h.deviceReset.ite h.woken).next.ite h.next
  | bootImageCheck => exact keepsStores_execBootImageCheck h
  | bootGo => exact h.bootCtlWrite.ok.next
  | uartRecoveryByte => exact keepsStores_execUartRecoveryByte h
  | fuseProg => exact h.jtag.upd.next.ite h.jtag.upd.next
  | fuseRead => exact h.jtag.upd.send.next
  | ticksStopped => exact h.ticksStop.go.next
  | gatherComplete => exact h.next.ite (h.flag.inc.ite h).upd.recordCopy.catchStep.next
  | pilotDeadline => exact (h.settleEpoch.foldl fun _ _ ht => ht.pilotDecide.ite ht).next.ite h.next
  | grantDeadline => exact h.tetherSend.next.ite h.next
  | fence => exact h.upd.flag.showDrives.next.ite h.next
  | ttArm => exact h.ttArm.ok.next
  | ttDisarm => exact h.ttDisarm.ok.next
  | forceCapRise => exact keepsStores_execForceCapRise h
  | xingValidate => exact h.xValidate.ok.next
  | pairSigDone => exact h.upd.wr.flag.sigCheck.next.ite h.next
  | tetherDown => exact h.tetherLost.next.ite h.next
  | pilotMiss => exact h.upd.pilotBits.next.ite h.next
  | faultReaction => exact keepsStores_execFaultReaction h
  | faultRecord => exact keepsStores_execFaultRecord h
  | chipCollParity => exact h.next.ite h.flag.enterChipSafe.next
  | coreLockstep => exact h.emit.next
  | lockAbort => exact keepsStores_execLockAbort h
  | refNoLock => exact keepsStores_execRefNoLock h
  | dpllLocked => exact keepsStores_execDpllLocked h
  | holdoverLost => exact h.upd.wr.emit.dpllGo.next.ite h.next
  | nopCommand => exact (h.command fun _ _ ht => ht.donef).next
  | schedule => exact keepsStores_execSchedule h
  | leveeSeal => exact (h.command fun _ _ ht => ht.sealKey.donef).next
  | health => exact (h.command fun _ _ ht => ht.giveHost.donef).next
  | faultFetch => exact (h.command fun _ _ ht => (ht.ite ht.giveHost).p.showFull.donef).next
  | badOpcode => exact keepsStores_execBadOpcode h
  | thermTripRelease => exact h.flag.next
  | uartGapTimeout => exact keepsStores_execUartGapTimeout h
  | uartPrompt => exact keepsStores_execUartPrompt h
  | extest | samplePreload | extestPulse | extestTrain | highz | clamp | bypass => exact h.jtag.next
  | idcode => exact h.jtag.send.next
  | sampleBoundary => exact h.next.ite (h.upd.ite (h.upd.foldl fun _ _ ht => ht.ite ht.gainIdle)).periodStart.next
  | controlCoreRestartEnd => exact (h.upd.foldl fun _ _ ht => ht.bellAct).next.ite h.next
  | consignmentSent => exact keepsStores_execConsignmentSent h
  | testLogicReset => exact h.upd.next

/-- Settles O5: a step is idle or executes the command at the head of the queue, and each keeps the canonical form. -/
theorem storesStayCanonical : Obligations.StoresStayCanonical := by
  unfold Obligations.StoresStayCanonical
  intro s t h hst
  unfold step at hst
  split at hst
  · exact h.next t hst
  · exact keepsStores_exec h.upd _ t hst

/-- Settles O6. -/
theorem resetIsCanonical : Obligations.ResetIsCanonical := inv_reset

end Sys2Proof.Machine
end

section
/-!
SUPPORT. The status bits of the far domains (R333, R334), and what leaves them, memory and the waiting accesses as they are.
-/
namespace Sys2Proof.Machine

/-! ## The status bits and the other registers -/

/-- CLOCK_PRESENT or READY of a far domain. -/
def FarBit (g : Fld) : Prop := ∃ d, g = presentOf d ∨ g = readyOf d

theorem farBit_presentOf (d : Nat) : FarBit (presentOf d) := ⟨d, .inl rfl⟩
theorem farBit_readyOf (d : Nat) : FarBit (readyOf d) := ⟨d, .inr rfl⟩

/-- Where the status bits stand: two bits side by side in SAP_STAT, NGL_STAT, ETH_STAT or HOST_STAT. -/
theorem FarBit.place {g : Fld} (h : FarBit g) : ∃ n,
    (n < 24 ∧ g.reg = 0x030A0030 + n * 0x400 ∧ 27 ≤ g.lo ∧ g.hi ≤ 28) ∨
    (n < 8 ∧ g.reg = 0x03080008 + n * 0x2000 ∧ 26 ≤ g.lo ∧ g.hi ≤ 27) ∨
    (n < 2 ∧ g.reg = 0x030B0004 + n * 0x1000 ∧ 29 ≤ g.lo ∧ g.hi ≤ 30) ∨
    (g.reg = 0x030C0004 ∧ 29 ≤ g.lo ∧ g.hi ≤ 30) := by
  have le : ∀ {a b : Nat}, Nat.ble a b = true → a ≤ b := Nat.le_of_ble_eq_true
  obtain ⟨d, rfl | rfl⟩ := h
  · unfold presentOf
    split_ifs with hsap hngl heth
    · exact ⟨d, .inl ⟨hsap, rfl, le rfl, le rfl⟩⟩
    · exact ⟨d - 24, .inr (.inl ⟨by omega, rfl, le rfl, le rfl⟩)⟩
    · exact ⟨d - 32, .inr (.inr (.inl ⟨by omega, rfl, le rfl, le rfl⟩))⟩
    · exact ⟨0, .inr (.inr (.inr ⟨rfl, le rfl, le rfl⟩))⟩
  · unfold readyOf
    split_ifs with hsap hngl heth
    · exact ⟨d, .inl ⟨hsap, rfl, le rfl, le rfl⟩⟩
    · exact ⟨d - 24, .inr (.inl ⟨by omega, rfl, le rfl, le rfl⟩)⟩
    · exact ⟨d - 32, .inr (.inr (.inl ⟨by omega, rfl, le rfl, le rfl⟩))⟩
    · exact ⟨0, .inr (.inr (.inr ⟨rfl, le rfl, le rfl⟩))⟩

theorem FarBit.hi_lt {g : Fld} (h : FarBit g) : g.hi < 32 := by
  obtain ⟨n, hn⟩ := h.place
  omega

/-- No status bit stands in the register at `a`. -/
def OffFar (a : Nat) : Prop := ∀ g, FarBit g → g.reg ≠ a

/-- The field `f` shares no bit with a status bit. -/
def Fld.Aside (f : Fld) : Prop := ∀ g, FarBit g → g.reg ≠ f.reg ∨ g.hi < f.lo ∨ f.hi < g.lo

theorem OffFar.aside {f : Fld} (h : OffFar f.reg) : f.Aside := fun g hg => .inl (h g hg)

theorem offFar_of_ne {a : Nat} (h : ∀ n, (n < 24 → a ≠ 0x030A0030 + n * 0x400) ∧ (n < 8 → a ≠ 0x03080008 + n * 0x2000) ∧
    (n < 2 → a ≠ 0x030B0004 + n * 0x1000) ∧ a ≠ 0x030C0004) : OffFar a := by
  intro g hg ha
  obtain ⟨n, hn⟩ := hg.place
  obtain ⟨hsap, hngl, heth, hhost⟩ := h n
  omega

/-- Whether `a` lies in a block without far domains. -/
def nearBlock (a : Nat) : Bool := decide (a < 0x03080000) || a / 0x10000 == 0x0309 || decide (0x030D0000 ≤ a)

theorem offFar_of_near {a : Nat} (h : nearBlock a = true) : OffFar a :=
  offFar_of_ne fun n => by
    simp only [nearBlock, Bool.or_eq_true, decide_eq_true_eq, beq_iff_eq] at h
    omega

theorem aside_of_near {f : Fld} (h : nearBlock f.reg = true) : f.Aside := (offFar_of_near h).aside

/-! ### Registers of the blocks with far domains, and numbered registers of the others -/

theorem offFar_sapMask (n : Nat) : OffFar (R.SAP_MASK n) := offFar_of_ne fun m => by unfold R.SAP_MASK; omega
theorem offFar_sapMaskActive (n : Nat) : OffFar (R.SAP_MASK_ACTIVE n) :=
  offFar_of_ne fun m => by unfold R.SAP_MASK_ACTIVE; omega
theorem offFar_sapFrameCnt (n : Nat) : OffFar (R.SAP_FRAME_CNT n) :=
  offFar_of_ne fun m => by unfold R.SAP_FRAME_CNT; omega
theorem offFar_sapSlipCnt (n : Nat) : OffFar (R.SAP_SLIP_CNT n) := offFar_of_ne fun m => by unfold R.SAP_SLIP_CNT; omega
theorem offFar_nglFail (p : Nat) : OffFar (R.NGL_FAIL p) := offFar_of_ne fun m => by unfold R.NGL_FAIL; omega
theorem offFar_nglEsCtl (p : Nat) : OffFar (R.NGL_ES_CTL p) := offFar_of_ne fun m => by unfold R.NGL_ES_CTL; omega
theorem offFar_nglPrbsStat (p : Nat) : OffFar (R.NGL_PRBS_STAT p) :=
  offFar_of_ne fun m => by unfold R.NGL_PRBS_STAT; omega
theorem offFar_fabPortCred (p : Nat) : OffFar (R.FAB_PORT_CRED p) :=
  offFar_of_ne fun m => by unfold R.FAB_PORT_CRED; omega
theorem offFar_fabPortPeer {p : Nat} (h : p < 8) : OffFar (R.FAB_PORT_PEER p) :=
  offFar_of_ne fun m => by unfold R.FAB_PORT_PEER; omega
theorem offFar_clkRefStat {r : Nat} (h : r < 16) : OffFar (R.CLK_REF_STAT r) :=
  offFar_of_ne fun m => by unfold R.CLK_REF_STAT; omega
theorem offFar_leveeElStat (e : Nat) : OffFar (R.LEVEE_EL_STAT e) :=
  offFar_of_ne fun m => by unfold R.LEVEE_EL_STAT; omega
theorem offFar_leveeElGain (e : Nat) : OffFar (R.LEVEE_EL_GAIN e) :=
  offFar_of_ne fun m => by unfold R.LEVEE_EL_GAIN; omega
theorem offFar_leveeElGate {e : Nat} (h : e < 96) : OffFar (R.LEVEE_EL_GATE e) :=
  offFar_of_ne fun m => by unfold R.LEVEE_EL_GATE; omega
theorem offFar_hostLink : OffFar R.HOST_LINK := offFar_of_ne fun m => by unfold R.HOST_LINK; omega
theorem offFar_hostBarErrAddr : OffFar R.HOST_BAR_ERR_ADDR := offFar_of_ne fun m => by unfold R.HOST_BAR_ERR_ADDR; omega

theorem offFar_of_mem_nglFarRegs {p a : Nat} (h : a ∈ nglFarRegs p) : OffFar a := by
  refine offFar_of_ne fun m => ?_
  simp only [nglFarRegs, List.mem_append, List.mem_cons, List.not_mem_nil, or_false, List.mem_map, List.mem_range,
    R.NGL_CTLE, R.NGL_DFE_CTL, R.NGL_ES_CTL, R.NGL_ES_ERR, R.NGL_HDR_ERR_CNT, R.NGL_PRBS_STAT, R.NGL_PRBS_ERR_CNT,
    R.NGL_DFE_TAP] at h
  obtain h | ⟨b, hb, rfl⟩ := h <;> omega

theorem offFar_of_mem_ethFarRegs {p a : Nat} (h : a ∈ ethFarRegs p) : OffFar a := by
  refine offFar_of_ne fun m => ?_
  simp only [ethFarRegs, List.mem_cons, List.not_mem_nil, or_false, R.ETH_RX_GOOD, R.ETH_RX_RUNT, R.ETH_RX_OVERSIZE,
    R.ETH_RX_FCS, R.ETH_RX_VLAN_DROP, R.ETH_RX_PAUSE] at h
  omega

/-! ### Other fields of the status registers -/

theorem aside_sapStat {f : Fld} (n : Nat) (hr : f.reg = R.SAP_STAT n) (hb : f.hi < 27 ∨ 28 < f.lo) : f.Aside := by
  intro g hg
  obtain ⟨m, hm⟩ := hg.place
  unfold R.SAP_STAT at hr
  omega

theorem aside_nglStat {f : Fld} (p : Nat) (hr : f.reg = R.NGL_STAT p) (hb : f.hi < 26 ∨ 27 < f.lo) : f.Aside := by
  intro g hg
  obtain ⟨m, hm⟩ := hg.place
  unfold R.NGL_STAT at hr
  omega

theorem aside_hostStat {f : Fld} (hr : f.reg = R.HOST_STAT) (hb : f.hi < 29 ∨ 30 < f.lo) : f.Aside := by
  intro g hg
  obtain ⟨m, hm⟩ := hg.place
  unfold R.HOST_STAT at hr
  omega

theorem aside_sapState (n : Nat) : (F.SAP_STAT_STATE n).Aside :=
  aside_sapStat n rfl (.inr (Nat.le_refl 29))
theorem aside_sapSdoutDrv (n : Nat) : (F.SAP_STAT_SDOUT_DRV n).Aside := aside_sapStat n rfl (.inl (Nat.le_refl 27))
theorem aside_sapClkDrv (n : Nat) : (F.SAP_STAT_CLK_DRV n).Aside := aside_sapStat n rfl (.inl (by simp [F.SAP_STAT_CLK_DRV]))
theorem aside_sapSlotSlip (n : Nat) : (F.SAP_STAT_SLOT_SLIP n).Aside :=
  aside_sapStat n rfl (.inl (by simp [F.SAP_STAT_SLOT_SLIP]))
theorem aside_sapSlipSeen (n : Nat) : (F.SAP_STAT_SLIP_SEEN n).Aside :=
  aside_sapStat n rfl (.inl (by simp [F.SAP_STAT_SLIP_SEEN]))
theorem aside_nglState (p : Nat) : (F.NGL_STAT_STATE p).Aside := aside_nglStat p rfl (.inr (by simp [F.NGL_STAT_STATE]))
theorem aside_nglStateChg (p : Nat) : (F.NGL_STAT_STATE_CHG p).Aside :=
  aside_nglStat p rfl (.inl (by simp [F.NGL_STAT_STATE_CHG]))
theorem aside_nglSigDet (p : Nat) : (F.NGL_STAT_SIG_DET p).Aside := aside_nglStat p rfl (.inl (by simp [F.NGL_STAT_SIG_DET]))
theorem aside_hostBarErr : F.HOST_STAT_BAR_ERR.Aside := aside_hostStat rfl (.inl (by decide))

theorem aside_credField (p c : Nat) : (credField p c).Aside := by
  unfold credField
  split
  · exact (offFar_fabPortCred p).aside
  · exact (offFar_fabPortCred p).aside

/-! ## What leaves the far domains as they are

One rule per operation that a domain reset may reach, named after it: `FarKept r s` passes on to the state that the operation
leaves. -/

/-- `t` has the memory of `r`, its waiting accesses and its status bits of far domains. -/
structure FarKept (r t : State) : Prop where
  mem : t.mem = r.mem
  mx : t.mx = r.mx
  bits : ∀ g, FarBit g → t.g g = r.g g

namespace FarKept

variable {r s : State}

theorem refl (s : State) : FarKept s s := ⟨rfl, rfl, fun _ _ => rfl⟩

theorem trans {q : State} (h : FarKept q r) (h' : FarKept r s) : FarKept q s :=
  ⟨h'.mem.trans h.mem, h'.mx.trans h.mx, fun g hg => (h'.bits g hg).trans (h.bits g hg)⟩

theorem ite {c : Prop} [Decidable c] {t : State} (h : FarKept r s) (h' : FarKept r t) :
    FarKept r (if c then s else t) := by split <;> assumption

theorem foldlMem {α : Type} {f : State → α → State} {xs : List α} (h : FarKept r s)
    (hf : ∀ t, ∀ x ∈ xs, FarKept r t → FarKept r (f t x)) : FarKept r (xs.foldl f s) := by
  induction xs generalizing s with
  | nil => exact h
  | cons x xs ih =>
    exact ih (hf _ _ List.mem_cons_self h) fun t y hy => hf t y (List.mem_cons_of_mem x hy)

theorem foldl {α : Type} {f : State → α → State} {xs : List α} (h : FarKept r s)
    (hf : ∀ t x, FarKept r t → FarKept r (f t x)) : FarKept r (xs.foldl f s) :=
  h.foldlMem fun t x _ => hf t x

variable (h : FarKept r s)
include h

/-- Parts of the state beside registers, memory and the matrix do not matter. -/
theorem upd {pending latch out irq cl fc xg tm ft pr hs lv sp ng fb et br ck pw freeCtr} :
    FarKept r ⟨pending, s.regs, s.mem, latch, out, irq, cl, fc, xg, tm, ft, s.mx, pr, hs, lv, sp, ng, fb, et, br, ck, pw,
      freeCtr⟩ := ⟨h.mem, h.mx, h.bits⟩

theorem wr {a : Nat} {v : Word} (ha : OffFar a := by exact offFar_of_near rfl) : FarKept r (s.wr a v) :=
  ⟨h.mem, h.mx, fun g hg => by rw [← h.bits g hg, State.g, rd_wr, if_neg (ha g hg)]; rfl⟩

theorem p {f : Fld} {v : Nat} (hf : f.Aside := by exact aside_of_near rfl) : FarKept r (s.p f v) :=
  ⟨h.mem, h.mx, fun g hg => by
    rw [← h.bits g hg]
    obtain hreg | hbits := hf g hg
    · exact g_p_reg s f g v hreg
    · exact g_p_bits s f g v hbits hg.hi_lt⟩

theorem flag {f : Fld} {b : Bool} (hf : f.Aside := by exact aside_of_near rfl) : FarKept r (s.flag f b) := h.p hf
theorem bump {f : Fld} {n : Nat} (hf : f.Aside := by exact aside_of_near rfl) : FarKept r (s.bump f n) := h.p hf
theorem inc {a n : Nat} (ha : OffFar a := by exact offFar_of_near rfl) : FarKept r (s.inc a n) := h.bump ha.aside
theorem emit {kind src addr count : Nat} : FarKept r (s.emit kind src addr count) := h.upd
theorem send {o : Out} : FarKept r (s.send o) := h.ite h.upd

/-! ### SAP ports and the Levee -/

theorem setEl {e : Nat} {k : Elem} : FarKept r (s.setEl e k) := h.upd
theorem showPins : FarKept r s.showPins := h.p

theorem standbyEl {e : Nat} (he : e < 96) : FarKept r (s.standbyEl e) :=
  (h.setEl.p (offFar_leveeElGate he).aside).p (offFar_leveeElGain e).aside

theorem beginHard {e : Nat} (he : e < 96) : FarKept r (s.beginHard e) :=
  h.ite <| (h.standbyEl he).showPins.ite h.setEl.showPins

theorem causeEnded {e : Nat} (he : e < 96) : FarKept r (s.causeEnded e) := (h.standbyEl he).showPins.ite h

theorem portTrouble {n : Nat} {on : Bool} : FarKept r (s.portTrouble n on) :=
  h.foldlMem fun _ e he ht =>
    have he : e < 96 := List.mem_range.mp (List.mem_of_mem_filter he)
    have hs := ht.flag (offFar_leveeElStat e).aside
    ((hs.beginHard he).ite <| (hs.causeEnded he).ite hs).ite ht

theorem setSap {n : Nat} {k : Sap} : FarKept r (s.setSap n k) := h.upd

theorem sapGo {n st : Nat} : FarKept r (s.sapGo n st) :=
  ((h.p (aside_sapState n)).flag (aside_sapSdoutDrv n)).flag (aside_sapClkDrv n)

theorem sapTrouble {n : Nat} : FarKept r (s.sapTrouble n) := (h.setSap.sapGo.ite h.setSap.sapGo).portTrouble

theorem sapSlip {n : Nat} {quiet : Bool} : FarKept r (s.sapSlip n quiet) :=
  ((h.ite ((h.flag (aside_sapSlipSeen n)).inc (offFar_sapSlipCnt n)).emit).flag (aside_sapSlotSlip n)).sapTrouble

theorem sapDomainReset {n : Nat} : FarKept r (s.sapDomainReset n) :=
  have hw := ((h.wr (offFar_sapMask n)).wr (offFar_sapMaskActive n)).wr (offFar_sapFrameCnt n)
  hw.setSap.sapSlip.ite hw.setSap

/-! ### Messages -/

theorem creditBack {held : Option Nat} {c n : Nat} : FarKept r (s.creditBack held c n) := by
  unfold State.creditBack
  split
  · exact h.ite h.send
  · exact h

theorem pumpQueue {p c : Nat} {ms : List TxMsg} : FarKept r (s.pumpQueue p c ms).1 := by
  induction ms generalizing s with
  | nil => exact h
  | cons m ms ih =>
    unfold State.pumpQueue
    extract_lets n paid credited
    have hc : FarKept r credited := (h.ite (h.p (aside_credField p c))).creditBack
    split
    · exact ih hc.send
    · exact hc

theorem pump {p c : Nat} : FarKept r (s.pump p c) := h.ite h.pumpQueue.upd

theorem sendPort {p : Nat} {e : Env} {ws : List Word} {held : Option Nat} : FarKept r (s.sendPort p e ws held) :=
  h.send.ite <| h.ite h.upd.pump

theorem sendMsg {e : Env} {ws : List Word} : FarKept r (s.sendMsg e ws) := by
  unfold State.sendMsg
  refine ite ?_ h.inc
  split
  · exact h.sendPort
  · exact h.inc

theorem remoteAnswer {e : Env} {err : Bool} {ws : List Word} : FarKept r (s.remoteAnswer e err ws) := h.sendMsg

theorem reroute {m : TxMsg} : FarKept r (s.reroute m) := by
  unfold State.reroute
  split
  · exact h.sendPort
  · exact h.inc.creditBack

theorem cutRun {p : Nat} : FarKept r (s.cutRun p) := by
  unfold State.cutRun
  split
  · exact h
  · exact h.upd.foldl fun _ _ ht => ht.send.ite ht

/-! ### References -/

theorem refAgree : FarKept r s.refAgree := h.flag.ite h
theorem setHrun {on : Bool} : FarKept r (s.setHrun on) := h.upd
theorem showTimed : FarKept r s.showTimed := h.flag.p
theorem dpllGo {n : Nat} : FarKept r (s.dpllGo n) := (h.ite h.p.flag).showTimed.flag

theorem refNone : FarKept r s.refNone :=
  h.flag.setHrun.dpllGo.ite <|
    have hw := h.flag.wr
    hw.setHrun.dpllGo.ite hw.setHrun.emit.dpllGo

theorem refTake {x : Nat} : FarKept r (s.refTake x) :=
  have hc := h.flag.p
  have hh := hc.upd.setHrun.ite hc.upd
  (hh.flag.ite hh).dpllGo

theorem refEval {lost : Bool} : FarKept r (s.refEval lost) := by
  unfold State.refEval
  refine h.ite ?_
  extract_lets dropped agreed sel _ ranked told
  have ha : FarKept r agreed := (h.flag.ite h).refAgree
  have ht : FarKept r told := ha.upd.flag.emit.ite ha
  split
  · exact ht.refNone.ite ht
  · exact ht.ite ht.refTake

theorem disqualify {x why : Nat} (hx : x < 16) : FarKept r (s.disqualify x why) :=
  have hr := offFar_clkRefStat hx
  have hq := ((h.flag (f := F.CLK_REF_STAT_QUALIFIED x) (b := false) hr.aside).p (f := F.CLK_REF_STAT_DQ_REASON x)
    (v := why) hr.aside).p (f := F.CLK_REF_STAT_QUAL_LEFT x) (v := 0) hr.aside
  have ha := (hq.upd.emit.ite hq.upd).refAgree
  ha.refEval.ite <| ha.refEval.ite ha

theorem refLost {x : Nat} (hx : x < 16) : FarKept r (s.refLost x) :=
  ((h.flag (offFar_clkRefStat hx).aside).upd.disqualify hx).ite h

/-! ### Ngulek ports -/

theorem ckptStale : FarKept r s.ckptStale := (h.upd.p.emit.p.ite h.upd.p.emit).ite h.upd
theorem tetherPort {p : Nat} : FarKept r (s.tetherPort p) := (h.ite h.flag.emit.ckptStale).ite h

theorem leftActive {p : Nat} {emit : Bool} (hp : p < 8) : FarKept r (s.leftActive p emit) :=
  have hw := (h.cutRun.upd.wr (offFar_fabPortCred p)).wr (offFar_fabPortPeer hp)
  have ht := ((hw.foldl fun _ _ ht => ht.reroute).refLost (by omega : 8 + p < 16)).tetherPort
  ht.emit.ite ht

theorem setNgl {p : Nat} {k : Ngl} : FarKept r (s.setNgl p k) := h.upd

theorem scanCut {p : Nat} : FarKept r (s.scanCut p) :=
  have hc := offFar_nglEsCtl p
  (((h.flag hc.aside).flag hc.aside).flag hc.aside).setNgl.ite h

/-- A port that goes to a state in which its clock is no concern of its own. -/
theorem nglTo {p n : Nat} {emit : Bool} (hp : p < 8) (hn : ¬ (n = 0 ∨ n = 7 ∨ n = 8)) : FarKept r (s.nglTo p n emit) := by
  unfold State.nglTo
  extract_lets old moved clocked dark unlocked cut k ended
  have hm : FarKept r moved := (h.p (aside_nglState p)).flag (aside_nglStateChg p)
  have hc : FarKept r clocked := by unfold clocked; rwa [if_neg hn]
  have hd : FarKept r dark := (hc.flag (aside_nglSigDet p)).ite hc
  have hu : FarKept r unlocked := (hd.flag (offFar_nglPrbsStat p).aside).ite hd
  have he : FarKept r ended := (hu.ite hu.scanCut).setNgl
  exact h.ite ((he.leftActive hp).ite he)

theorem nglFail {p n why : Nat} {emit : Bool} (hp : p < 8) (hn : ¬ (n = 0 ∨ n = 7 ∨ n = 8)) :
    FarKept r (s.nglFail p n why emit) :=
  ((h.p (offFar_nglFail p).aside).bump (offFar_nglFail p).aside).nglTo hp hn

theorem nglDomainReset {p : Nat} {auto : Bool} (hp : p < 8) : FarKept r (s.nglDomainReset p auto) :=
  have hw := h.foldlMem fun _ _ ha ht => ht.wr (offFar_of_mem_nglFarRegs ha)
  hw.setNgl.ite (hw.setNgl.nglFail hp (by decide))

/-! ### The resets of far domains, and accesses that end with an error -/

theorem ethDomainReset {p : Nat} : FarKept r (s.ethDomainReset p) :=
  h.foldlMem fun _ _ ha ht => ht.wr (offFar_of_mem_ethFarRegs ha)

theorem barError {a : Nat} : FarKept r (s.barError a) := (h.wr offFar_hostBarErrAddr).flag aside_hostBarErr

theorem hungError {x : Hung} : FarKept r (s.hungError x) := by
  unfold State.hungError
  split
  · exact h.send
  · exact h.barError.ite h.barError.send
  · exact h
  · exact h.remoteAnswer
  · exact h.upd
  · exact h

end FarKept

end Sys2Proof.Machine
end

section
/-!
SUPPORT. Waiting accesses, resets of far domains, and their clocks and crossings (R333 to R337).
-/
namespace Sys2Proof.Machine

variable {s : State}

/-! ## CLOCK_PRESENT and READY of one domain -/

theorem presentOf_bit (d : Nat) : (presentOf d).hi = (presentOf d).lo := by
  unfold presentOf
  split_ifs <;> rfl

theorem readyOf_bit (d : Nat) : (readyOf d).hi = (readyOf d).lo := by
  unfold readyOf
  split_ifs <;> rfl

/-- READY stands right below CLOCK_PRESENT. -/
theorem readyOf_below (d : Nat) : (readyOf d).hi < (presentOf d).lo := by
  unfold presentOf readyOf
  split_ifs <;> exact Nat.lt_of_succ_le (Nat.le_of_ble_eq_true rfl)

theorem g_presentOf_flag_readyOf (s : State) (d : Nat) (b : Bool) :
    (s.flag (readyOf d) b).g (presentOf d) = s.g (presentOf d) :=
  g_p_bits s _ _ _ (.inr (readyOf_below d)) (farBit_presentOf d).hi_lt

theorem g_readyOf_flag_presentOf (s : State) (d : Nat) (b : Bool) :
    (s.flag (presentOf d) b).g (readyOf d) = s.g (readyOf d) :=
  g_p_bits s _ _ _ (.inl (readyOf_below d)) (farBit_readyOf d).hi_lt

theorem g_presentOf_flag_self (s : State) (d : Nat) (b : Bool) :
    (s.flag (presentOf d) b).g (presentOf d) = if b then 1 else 0 :=
  g_flag_self s _ b (presentOf_bit d) (farBit_presentOf d).hi_lt

theorem g_readyOf_flag_self (s : State) (d : Nat) (b : Bool) :
    (s.flag (readyOf d) b).g (readyOf d) = if b then 1 else 0 :=
  g_flag_self s _ b (readyOf_bit d) (farBit_readyOf d).hi_lt

/-- A field that is not zero after another has been cleared was not zero before. -/
theorem on_of_on_flag_false {f g : Fld} (h : (s.flag f false).on g = true) : s.on g = true := by
  simp only [State.on, State.g, bne_iff_ne, ne_eq] at h ⊢
  refine mt (fun hz => Nat.eq_of_testBit_eq fun i => ?_) h
  have hi := congrArg (Nat.testBit · i) hz
  simp only [testBit_bitsOf, Nat.zero_testBit] at hi ⊢
  by_cases hr : g.reg = f.reg
  · rw [State.flag, rd_p, if_pos hr, getLsbD_putBits]
    rw [hr] at hi
    by_cases hin : f.lo ≤ i + g.lo ∧ i + g.lo < f.hi + 1
    · simp [hin]
    · rw [if_neg hin]; simpa using fun h1 _ => by simpa [h1] using hi
  · rwa [rd_flag_ne _ _ _ hr]

/-! ## What waits keeps waiting -/

/-- A domain that no longer answers keeps its accesses, and one that answered them not keeps them too. -/
theorem farStuck_isSome_mono {t : State} (h : ∀ d, t.farLive d = true → s.farLive d = true) {a : Nat}
    (ha : (s.farStuck a).isSome = true) : (t.farStuck a).isSome = true := by
  unfold State.farStuck at ha ⊢
  split at ha
  next hbus =>
    rw [if_pos hbus]
    cases hd : farDomain (a - a % 4) with
    | none => simp [hd] at ha
    | some d =>
      have hs : s.farLive d = false := by simpa [hd, Option.filter] using ha
      have ht : t.farLive d = false := Bool.eq_false_iff.mpr fun hl => by simp [h d hl] at hs
      simp [Option.filter, ht]
  next => cases ha

/-- Accesses in progress that have been reported or whose domain does not answer are not released. -/
theorem released_eq_none {before hs : List Hung}
    (h : ∀ x ∈ hs, x.dom < 35 ∧ (x.reported = true ∨ (s.farStuck x.addr).isSome = true)) :
    s.released before hs = none := by
  induction hs generalizing before with
  | nil => rfl
  | cons x hs ih =>
    obtain ⟨hdom, hkept⟩ := h x List.mem_cons_self
    have hgoes : (!x.reported && (s.farStuck x.addr).isNone) = false := by
      obtain hr | hf := hkept
      · simp [hr]
      · simp [hf]
    unfold State.released
    dsimp only
    rw [if_neg (Nat.not_le.mpr hdom), hgoes]
    exact ih fun y hy => h y (List.mem_cons_of_mem x hy)

theorem go_of_kept (hatoms : s.mx.atoms = [])
    (h : ∀ x ∈ s.mx.hung, x.dom < 35 ∧ (x.reported = true ∨ (s.farStuck x.addr).isSome = true)) : s.go = s := by
  have hgo : s.atomsGo = s := by simp [State.atomsGo, hatoms]
  unfold State.go
  rw [hgo]
  dsimp only
  cases (s.mx.hung.map Hung.words).sum with
  | zero => rfl
  | succ n => simp [State.settle, released_eq_none h]

theorem go_of_empty (hhung : s.mx.hung = []) (hatoms : s.mx.atoms = []) : s.go = s :=
  go_of_kept hatoms (by simp [hhung])

/-! ## The accesses to a domain complete (R336, R337) -/

@[simp] theorem showHung_mx (s : State) : s.showHung.mx = s.mx := rfl

theorem offFar_mtxHangDom : OffFar R.MTX_HANG_DOM := offFar_of_near rfl

theorem g_showHung_of_farBit {g : Fld} (hg : FarBit g) : s.showHung.g g = s.g g :=
  g_p_reg s _ _ _ (offFar_mtxHangDom g hg)

theorem rd_showHung_ne {a : Nat} (h : a ≠ R.MTX_HANG_DOM) : s.showHung.rd a = s.rd a := rd_flag_ne s _ _ h

/-- OUTSTANDING shows whether a waiting access has been reported. -/
theorem g_showHung_outstanding (s : State) :
    s.showHung.g F.MTX_HANG_DOM_OUTSTANDING = if s.mx.hung.any Hung.reported then 1 else 0 :=
  g_flag_self s F.MTX_HANG_DOM_OUTSTANDING _ rfl (by decide)

/-- The accesses that a completion leaves. -/
theorem hungDone_hung (s : State) (d : Nat) (only : Bool) :
    (s.hungDone d only).mx.hung = s.mx.hung.filter (fun h => !(h.dom == d && (h.reported || !only))) := by
  have hk : FarKept s ((s.mx.hung.filter (fun h => h.dom == d && (h.reported || !only))).foldl State.hungError s) :=
    (FarKept.refl s).foldl fun _ _ ht => ht.hungError
  unfold State.hungDone
  rw [showHung_mx]
  dsimp only
  rw [hk.mx]

/-- A completion leaves memory, the status bits, stopped clocks and atomic operations. -/
theorem hungDone_kept (s : State) (d : Nat) (only : Bool) :
    (s.hungDone d only).mem = s.mem ∧ (s.hungDone d only).mx.atoms = s.mx.atoms ∧
      (s.hungDone d only).mx.stopped = s.mx.stopped ∧ ∀ g, FarBit g → (s.hungDone d only).g g = s.g g := by
  have hk : FarKept s ((s.mx.hung.filter (fun h => h.dom == d && (h.reported || !only))).foldl State.hungError s) :=
    (FarKept.refl s).foldl fun _ _ ht => ht.hungError
  unfold State.hungDone
  dsimp only
  refine ⟨hk.mem, ?_, ?_, fun g hg => ?_⟩
  · rw [showHung_mx, hk.mx]
  · rw [showHung_mx, hk.mx]
  · rw [g_showHung_of_farBit hg, ← hk.bits g hg]
    rfl

/-! ## The reset of a domain (R337) -/

/-- What the reset of far domain `d` leaves. -/
structure DomainIsReset (s t : State) (d : Nat) : Prop where
  mem : t.mem = s.mem
  hung : t.mx.hung = s.mx.hung.filter (fun h => h.dom != d)
  atoms : t.mx.atoms = s.mx.atoms
  notReady : t.g (readyOf d) = 0
  present : t.g (presentOf d) = s.g (presentOf d)
  live : ∀ e, t.farLive e = true → s.farLive e = true

/-- The far registers of a domain go to their reset values, whichever block it belongs to. -/
theorem domainReset_cases_kept (s : State) (d : Fin 35) (auto : Bool) :
    FarKept s (if d.val < 24 then s.sapDomainReset d
      else if d.val < 32 then s.nglDomainReset (d - 24) auto
      else if d.val < 34 then s.ethDomainReset (d - 32)
      else s.wr R.HOST_LINK 0) := by
  have h := FarKept.refl s
  split_ifs
  · exact h.sapDomainReset
  · exact h.nglDomainReset (by omega)
  · exact h.ethDomainReset
  · exact h.wr offFar_hostLink

theorem domainIsReset (s : State) (d : Fin 35) (auto : Bool) : DomainIsReset s (s.domainReset d auto) d := by
  unfold State.domainReset
  extract_lets u
  have hu : FarKept s u := domainReset_cases_kept s d auto
  obtain ⟨hmem, hatoms, hstopped, hbits⟩ := hungDone_kept (u.flag (readyOf d) false) d false
  refine ⟨hmem.trans hu.mem, ?_, ?_, ?_, ?_, fun e he => ?_⟩
  · rw [hungDone_hung, flag_mx, hu.mx]
    simp [bne]
  · rw [hatoms, flag_mx, hu.mx]
  · rw [hbits _ (farBit_readyOf d), g_readyOf_flag_self]
    rfl
  · rw [hbits _ (farBit_presentOf d), g_presentOf_flag_readyOf, hu.bits _ (farBit_presentOf d)]
  · have hon : ∀ g, FarBit g → (State.hungDone (u.flag (readyOf d) false) d false).on g = true → s.on g = true := by
      intro g hg h
      have h' := on_of_on_flag_false (s := u) (f := readyOf d) (g := g) (by rwa [State.on, ← hbits g hg])
      rwa [State.on, ← hu.bits g hg]
    unfold State.farLive at he ⊢
    rw [hstopped, flag_mx, hu.mx] at he
    simp only [Bool.and_eq_true] at he ⊢
    obtain ⟨⟨hp, hr⟩, hs⟩ := he
    exact ⟨⟨hon _ (farBit_presentOf e) hp, hon _ (farBit_readyOf e) hr⟩, hs⟩

/-- Nothing that waits for another domain goes on. -/
theorem DomainIsReset.go {t : State} {d : Nat} (h : DomainIsReset s t d) (hw : s.othersWait d) : t.go = t := by
  obtain ⟨hatoms, hothers⟩ := hw
  refine go_of_kept (h.atoms.trans hatoms) fun x hx => ?_
  rw [h.hung, List.mem_filter] at hx
  obtain ⟨hmem, hne⟩ := hx
  have hx := List.all_eq_true.mp hothers x hmem
  simp only [Bool.or_eq_true, Bool.and_eq_true, decide_eq_true_eq, beq_iff_eq] at hx
  obtain heq | ⟨hdom, hr | hf⟩ := hx
  · simp [heq] at hne
  · exact ⟨hdom, .inl hr⟩
  · exact ⟨hdom, .inr (farStuck_isSome_mono h.live hf)⟩

end Sys2Proof.Machine
end
section
/-!
SUPPORT. HUNG_ACCESS, DOMAIN_RESET, AUTO_DOMAIN_RESET, CLOCK_PRESENT_CHANGE, CROSSING_READY and BAR0_READ_TIMEOUT
(R333 to R337, R482).
-/
namespace Sys2Proof.Machine

variable {s : State}

/-! ## HUNG_ACCESS (R335) -/

/-- `s` with the hung access `h` in MTX_STAT, MTX_HANG_LAST, MTX_HANG_DOM and MTX_HANG_CNT, and reported. -/
def State.recordHung (s : State) (h : Hung) : State :=
  ((((s.flag F.MTX_STAT_HUNG true).wr R.MTX_HANG_LAST (BitVec.ofNat 32 h.addr)).p F.MTX_HANG_DOM_DOMAIN h.dom).inc
    R.MTX_HANG_CNT).showHung.emit Kind.hungAccess (Src.crossbar (domRegion h.dom)) h.addr

theorem exec_hungAccess_new {j : Nat} {h : Hung} (hj : s.mx.hung[j]? = some h) (hnew : h.reported = false)
    (hdom : h.dom < 35) :
    exec (.hungAccess j) s =
      .next (({ s with mx := { s.mx with hung := s.mx.hung.set j { h with reported := true } } } : State).recordHung h) := by
  change execHungAccess j s = _
  unfold execHungAccess
  rw [hj]
  exact if_neg (by simp [hnew, hdom])

theorem rd_recordHung_stat (s : State) (h : Hung) :
    (s.recordHung h).rd R.MTX_STAT = (s.flag F.MTX_STAT_HUNG true).rd R.MTX_STAT := by
  rw [State.recordHung, rd_emit, rd_showHung_ne (by decide), rd_inc_ne _ _ _ (by decide), rd_p_ne _ _ _ (by decide), rd_wr,
    if_neg (by decide)]

theorem g_recordHung_hung (s : State) (h : Hung) : (s.recordHung h).g F.MTX_STAT_HUNG = 1 :=
  calc (s.recordHung h).g F.MTX_STAT_HUNG
      = bitsOf ((s.recordHung h).rd R.MTX_STAT) 1 1 := rfl
    _ = (s.flag F.MTX_STAT_HUNG true).g F.MTX_STAT_HUNG := by rw [rd_recordHung_stat]; rfl
    _ = 1 := g_flag_self s F.MTX_STAT_HUNG true rfl (by decide)

theorem g_recordHung_outstanding {h : Hung} (hany : s.mx.hung.any Hung.reported = true) :
    (s.recordHung h).g F.MTX_HANG_DOM_OUTSTANDING = 1 := by
  rw [State.recordHung, g_emit, g_showHung_outstanding]
  exact if_pos hany

@[simp] theorem recordHung_mx (s : State) (h : Hung) : (s.recordHung h).mx = s.mx := rfl
@[simp] theorem recordHung_mem (s : State) (h : Hung) : (s.recordHung h).mem = s.mem := rfl

theorem rd_recordHung_last (s : State) (h : Hung) : (s.recordHung h).rd R.MTX_HANG_LAST = BitVec.ofNat 32 h.addr := by
  rw [State.recordHung, rd_emit, rd_showHung_ne (by decide), rd_inc_ne _ _ _ (by decide), rd_p_ne _ _ _ (by decide), rd_wr,
    if_pos rfl]

theorem g_recordHung_domain (s : State) {h : Hung} (hdom : h.dom < 35) :
    (s.recordHung h).g F.MTX_HANG_DOM_DOMAIN = h.dom := by
  rw [State.recordHung, g_emit, State.showHung, State.flag, g_p_bits _ _ _ _ (by decide) (by decide), State.inc, State.bump,
    g_p_reg _ _ _ _ (by decide), g_p_self _ _ _ (by decide)]
  exact Nat.mod_eq_of_lt (lt_trans hdom (by decide))

theorem rd_recordHung_ne (s : State) (h : Hung) {x : Nat}
    (hx : x ∉ [R.MTX_STAT, R.MTX_HANG_LAST, R.MTX_HANG_DOM, R.MTX_HANG_CNT]) : (s.recordHung h).rd x = s.rd x := by
  obtain ⟨hstat, hlast, hdomain, hcnt⟩ :
      x ≠ R.MTX_STAT ∧ x ≠ R.MTX_HANG_LAST ∧ x ≠ R.MTX_HANG_DOM ∧ x ≠ R.MTX_HANG_CNT := by simpa using hx
  rw [State.recordHung, rd_emit, rd_showHung_ne hdomain, rd_inc_ne _ _ _ hcnt, rd_p_ne _ _ _ hdomain, rd_wr, if_neg hlast,
    rd_flag_ne _ _ _ hstat]

theorem blocks_recordHung (s : State) {h : Hung} (haddr : h.addr < 2 ^ 32) :
    (s.recordHung h).ft.blocks = addMsg s.ft.blocks ⟨h.addr, 1, Kind.hungAccess, Src.crossbar (domRegion h.dom)⟩ := by
  change addMsg s.ft.blocks ⟨h.addr % 2 ^ 32, _, _, _⟩ = _
  rw [Nat.mod_eq_of_lt haddr]
  rfl

theorem exec_hungAccess_reports {j : Nat} {h : Hung} (hj : s.mx.hung[j]? = some h) (hnew : h.reported = false)
    (hdom : h.dom < 35) (haddr : h.addr < 2 ^ 32) :
    ∃ t, exec (.hungAccess j) s = .next t ∧ t.mx.hung = s.mx.hung.set j { h with reported := true } ∧
      t.g F.MTX_STAT_HUNG = 1 ∧ t.rd R.MTX_HANG_LAST = BitVec.ofNat 32 h.addr ∧ t.g F.MTX_HANG_DOM_DOMAIN = h.dom ∧
      t.g F.MTX_HANG_DOM_OUTSTANDING = 1 ∧
      t.ft.blocks = addMsg s.ft.blocks ⟨h.addr, 1, Kind.hungAccess, Src.crossbar (domRegion h.dom)⟩ ∧
      onlyRegs s t [R.MTX_STAT, R.MTX_HANG_LAST, R.MTX_HANG_DOM, R.MTX_HANG_CNT] := by
  have hany : (s.mx.hung.set j { h with reported := true }).any Hung.reported = true :=
    List.any_eq_true.mpr ⟨_, List.mem_of_getElem? (List.getElem?_set_self (List.getElem?_eq_some_iff.mp hj).1), rfl⟩
  exact ⟨_, exec_hungAccess_new hj hnew hdom, congrArg Mtx.hung (recordHung_mx _ _), g_recordHung_hung _ h,
    rd_recordHung_last _ h, g_recordHung_domain _ hdom, g_recordHung_outstanding hany, blocks_recordHung _ haddr,
    fun x hx => rd_recordHung_ne _ h hx, byte_congr (recordHung_mem _ _)⟩

theorem exec_hungAccess_otherwise {j : Nat}
    (h : s.mx.hung[j]?.all (fun h => h.reported || decide (35 ≤ h.dom)) = true) : exec (.hungAccess j) s = .next s := by
  change execHungAccess j s = _
  unfold execHungAccess
  cases hj : s.mx.hung[j]? with
  | none => rfl
  | some x => exact if_pos (by simpa [hj] using h)

/-! ## DOMAIN_RESET and AUTO_DOMAIN_RESET (R337) -/

theorem exec_domainReset {d : Fin 35} (hw : s.othersWait d) :
    exec (.domainReset (BitVec.ofNat 32 d.val)) s = .next (s.domainReset d false).ok := by
  change Host.Outcome.next (s.domRstWrite (BitVec.ofNat 32 d.val ||| 0x80000000#32)).ok.go = _
  have hv : ∀ d : Fin 35, bitsOf (BitVec.ofNat 32 d.val ||| 0x80000000#32) 5 0 = d.val ∧
      (BitVec.ofNat 32 d.val ||| 0x80000000#32).getLsbD 31 = true := by decide
  obtain ⟨hdom, hgo⟩ := hv d
  have hwrite : s.domRstWrite (BitVec.ofNat 32 d.val ||| 0x80000000#32) = s.domainReset d false := by
    unfold State.domRstWrite
    rw [hdom, hgo]
    dsimp only
    rw [if_neg (by omega), if_pos rfl]
  have hreset := domainIsReset s d false
  have hok : DomainIsReset s (s.domainReset d false).ok d :=
    ⟨(ok_mem _).trans hreset.mem, (congrArg Mtx.hung (ok_mx _)).trans hreset.hung,
      (congrArg Mtx.atoms (ok_mx _)).trans hreset.atoms, (g_ok _ _).trans hreset.notReady,
      (g_ok _ _).trans hreset.present, fun e he => hreset.live e (by simpa [State.farLive, State.on] using he)⟩
  rw [hwrite, hok.go hw]

theorem exec_domainReset_refused {v : Word} (hv : 34 < bitsOf v 5 0) (hhung : s.mx.hung = []) (hatoms : s.mx.atoms = []) :
    exec (.domainReset v) s = .next s.mtxRefused.ok := by
  change Host.Outcome.next (s.domRstWrite (v ||| 0x80000000#32)).ok.go = _
  have hdom : bitsOf (v ||| 0x80000000#32) 5 0 = bitsOf v 5 0 := by
    apply Nat.eq_of_testBit_eq
    intro i
    simp only [testBit_bitsOf, BitVec.getLsbD_or]
    by_cases hi : i < 6
    · have hz : (0x80000000#32).getLsbD i = false := by interval_cases i <;> rfl
      simp [hz]
    · simp [hi]
  have hwrite : s.domRstWrite (v ||| 0x80000000#32) = s.mtxRefused := by
    unfold State.domRstWrite
    rw [hdom]
    exact if_pos hv
  rw [hwrite, go_of_empty (by simpa [State.mtxRefused] using hhung) (by simpa [State.mtxRefused] using hatoms)]

/-- A refused reset changes MTX_STAT, and its write is answered. -/
theorem mtxRefused_effect (s : State) : s.mtxRefused.ok.g F.MTX_STAT_CFG_REFUSED = 1 ∧ s.mtxRefused.ok.out = s.ok.out ∧
    confined s s.mtxRefused.ok [R.MTX_STAT] := by
  have hok : s.mtxRefused.ok = { s.mtxRefused with out := s.out ++ [.resp false []] } := by
    simp [State.ok, State.send, Out.onBall, State.mtxRefused]
  refine ⟨?_, ?_, fun x hx => ?_, ?_⟩
  · rw [g_ok]
    exact g_flag_self s F.MTX_STAT_CFG_REFUSED true rfl (by decide)
  · rw [ok_out, ok_out]
    rfl
  · rw [rd_ok]
    exact rd_flag_ne s F.MTX_STAT_CFG_REFUSED true (mt List.mem_singleton.mpr hx)
  · rw [hok]
    rfl

theorem exec_autoDomainReset {d : Fin 35} {h : Hung} (hms : s.g F.MTX_HANG_CTL_AUTO_MS ≠ 0) (hmem : h ∈ s.mx.hung)
    (hrep : h.reported = true) (hdom : h.dom = d.val) (hw : s.othersWait d) :
    exec (.autoDomainReset d) s = .next (s.domainReset d true) := by
  change execAutoDomainReset d s = _
  have hany : s.mx.hung.any (fun h => h.reported && h.dom == d.val) = true :=
    List.any_eq_true.mpr ⟨h, hmem, by simp [hrep, hdom]⟩
  unfold execAutoDomainReset
  rw [if_pos ⟨hms, hany⟩, (domainIsReset s d true).go hw]

theorem exec_autoDomainReset_otherwise {d : Fin 35}
    (h : s.g F.MTX_HANG_CTL_AUTO_MS = 0 ∨ s.mx.hung.all (fun h => !h.reported || h.dom != d.val) = true) :
    exec (.autoDomainReset d) s = .next s := by
  change execAutoDomainReset d s = _
  refine if_neg fun ⟨hms, hany⟩ => ?_
  obtain h0 | hall := h
  · exact hms h0
  · obtain ⟨x, hx, hxd⟩ := List.any_eq_true.mp hany
    have := List.all_eq_true.mp hall x hx
    simp only [Bool.and_eq_true, beq_iff_eq] at hxd
    simp [hxd.1, hxd.2] at this

/-! ## CLOCK_PRESENT_CHANGE (R334, R336) -/


theorem stopped_setStopped (s : State) (d : Nat) (on : Bool) : SMap.get noneB (s.setStopped d on).mx.stopped d = on :=
  SMap.get_set_self noneB s.mx.stopped d on

/-- A domain whose clock has stopped does not answer. -/
theorem farLive_of_stopped {d : Nat} (h : SMap.get noneB s.mx.stopped d = true) : s.farLive d = false := by
  simp [State.farLive, h]

/-- Nor does one whose CLOCK_PRESENT is clear. -/
theorem farLive_of_absent {d : Nat} (h : s.g (presentOf d) = 0) : s.farLive d = false := by
  simp [State.farLive, State.on, h]

/-- A clock whose stop is seen. -/
theorem exec_clockPresentChange_stops (d : Fin 35) (s : State) :
    ∃ t, exec (.clockPresentChange d false true) s = .next t ∧ t.g (presentOf d) = 0 ∧ t.farLive d = false ∧ t.out = s.out ∧
      onlyRegs s t [(presentOf d).reg] := by
  have habsent : ((s.setStopped d false).flag (presentOf d) false).g (presentOf d) = 0 := g_presentOf_flag_self _ d false
  exact ⟨_, rfl, habsent, farLive_of_absent habsent, rfl,
    fun x hx => rd_flag_ne _ _ false (mt List.mem_singleton.mpr hx), fun _ => rfl⟩

/-- A clock that stops unseen. -/
theorem exec_clockPresentChange_stopsUnseen (d : Fin 35) (s : State) :
    exec (.clockPresentChange d false false) s = .next (s.setStopped d true) := rfl

/-- A clock that runs again: CLOCK_PRESENT follows, and reported accesses complete. -/
def State.clockBack (s : State) (d : Nat) (seen : Bool) : State :=
  if seen && s.clockSeen d then (s.setStopped d false).flag (presentOf d) true else s.setStopped d false

theorem exec_clockPresentChange_runs (d : Fin 35) (seen : Bool) (s : State) :
    exec (.clockPresentChange d true seen) s = .next ((s.clockBack d seen).hungDone d true).go := by
  cases seen <;> rfl

theorem clockBack_hung (s : State) (d : Nat) (seen : Bool) : (s.clockBack d seen).mx.hung = s.mx.hung := by
  unfold State.clockBack
  split <;> rfl

theorem clockBack_atoms (s : State) (d : Nat) (seen : Bool) : (s.clockBack d seen).mx.atoms = s.mx.atoms := by
  unfold State.clockBack
  split <;> rfl

theorem clockBack_out (s : State) (d : Nat) (seen : Bool) : (s.clockBack d seen).out = s.out := by
  unfold State.clockBack
  split <;> rfl

theorem clockBack_mem (s : State) (d : Nat) (seen : Bool) : (s.clockBack d seen).mem = s.mem := by
  unfold State.clockBack
  split <;> rfl

theorem stopped_clockBack (s : State) (d : Nat) (seen : Bool) : SMap.get noneB (s.clockBack d seen).mx.stopped d = false := by
  unfold State.clockBack
  split <;> exact stopped_setStopped s d false

theorem rd_clockBack_ne (s : State) (d : Nat) (seen : Bool) {a : Nat} (h : a ≠ (presentOf d).reg) :
    (s.clockBack d seen).rd a = s.rd a := by
  unfold State.clockBack
  split
  · exact rd_flag_ne _ _ _ h
  · rfl

theorem g_clockBack_present (s : State) (d : Nat) (seen : Bool) :
    (s.clockBack d seen).g (presentOf d) = if seen = true ∧ s.clockSeen d = true then 1 else s.g (presentOf d) := by
  unfold State.clockBack
  simp only [Bool.and_eq_true]
  split
  · exact g_presentOf_flag_self _ d true
  · rfl

theorem g_clockBack_ready (s : State) (d : Nat) (seen : Bool) : (s.clockBack d seen).g (readyOf d) = s.g (readyOf d) := by
  unfold State.clockBack
  split
  · exact g_readyOf_flag_presentOf _ d true
  · rfl

/-- `s` with the accesses to domain `d` answered that complete with an error. -/
def State.hungAnswered (s : State) (d : Nat) (only : Bool) : State :=
  (s.mx.hung.filter (fun h => h.dom == d && (h.reported || !only))).foldl State.hungError s

theorem hungDone_out (s : State) (d : Nat) (only : Bool) : (s.hungDone d only).out = (s.hungAnswered d only).out := rfl

theorem rd_hungDone_ne (s : State) (d : Nat) (only : Bool) {a : Nat} (ha : a ≠ R.MTX_HANG_DOM) :
    (s.hungDone d only).rd a = (s.hungAnswered d only).rd a := rd_showHung_ne ha

theorem g_hungDone_outstanding (s : State) (d : Nat) (only : Bool) : (s.hungDone d only).g F.MTX_HANG_DOM_OUTSTANDING =
    if (s.hungDone d only).mx.hung.any Hung.reported then 1 else 0 := g_showHung_outstanding _

/-- Where no access completes, only MTX_HANG_DOM may change. -/
theorem rd_hungDone_of_none {d : Nat} {only : Bool}
    (hnone : s.mx.hung.filter (fun h => h.dom == d && (h.reported || !only)) = []) {a : Nat} (ha : a ≠ R.MTX_HANG_DOM) :
    (s.hungDone d only).rd a = s.rd a := by
  rw [rd_hungDone_ne s d only ha, State.hungAnswered, hnone]
  rfl

/-- With nothing waiting a completion sets nothing free. -/
theorem go_hungDone_of_empty (d : Nat) (only : Bool) (hhung : s.mx.hung = []) (hatoms : s.mx.atoms = []) :
    (s.hungDone d only).go = s.hungDone d only :=
  go_of_empty (by rw [hungDone_hung, hhung]; rfl) ((hungDone_kept s d only).2.1.trans hatoms)

/-- The completion of the one reported access of a debugger's or another master's read. -/
theorem hungDone_of_reported_read {d a : Nat} (hhung : s.mx.hung = [⟨d, a, true, none, 4, .bus false⟩]) :
    (s.hungDone d true).mx.hung = [] ∧ (s.hungDone d true).out = s.out ++ [.resp true [0]] ∧
      (s.hungDone d true).g F.MTX_HANG_DOM_OUTSTANDING = 0 ∧ onlyRegs s (s.hungDone d true) [R.MTX_HANG_DOM] := by
  have hanswered : s.hungAnswered d true = s.send (.resp true [0]) := by
    simp [State.hungAnswered, hhung, State.hungError]
  have hleft : (s.hungDone d true).mx.hung = [] := by simp [hungDone_hung, hhung]
  refine ⟨hleft, ?_, ?_, fun x hx => ?_, byte_congr (hungDone_kept s d true).1⟩
  · rw [hungDone_out, hanswered, send_resp_out]
  · rw [g_hungDone_outstanding, hleft]
    rfl
  · rw [rd_hungDone_ne s d true (mt List.mem_singleton.mpr hx), hanswered, rd_send]

/-- A clock that returns, with one reported access. -/
theorem exec_clockPresentChange_reported {d : Fin 35} {a : Nat} (hseen : s.clockSeen d = true)
    (hhung : s.mx.hung = [⟨d.val, a, true, none, 4, .bus false⟩]) (hatoms : s.mx.atoms = []) :
    ∃ t, exec (.clockPresentChange d true true) s = .next t ∧ t.g (presentOf d) = 1 ∧ t.mx.hung = [] ∧
      t.g F.MTX_HANG_DOM_OUTSTANDING = 0 ∧ t.out = s.out ++ [.resp true [0]] ∧
      onlyRegs s t [(presentOf d).reg, R.MTX_HANG_DOM] := by
  obtain ⟨hleft, hout, hshown, hregs, hbytes⟩ := hungDone_of_reported_read ((clockBack_hung s d true).trans hhung)
  obtain ⟨hmem, hat, -, hbits⟩ := hungDone_kept (s.clockBack d true) d true
  have hgo := go_of_empty hleft (hat.trans ((clockBack_atoms s d true).trans hatoms))
  refine ⟨_, exec_clockPresentChange_runs d true s, ?_⟩
  rw [hgo]
  refine ⟨?_, hleft, hshown, hout.trans (by rw [clockBack_out]), fun x hx => ?_,
    byte_congr (hmem.trans (clockBack_mem s d true))⟩
  · rw [hbits _ (farBit_presentOf d), g_clockBack_present, if_pos ⟨rfl, hseen⟩]
  · obtain ⟨hpresent, hdom⟩ : x ≠ (presentOf d).reg ∧ x ≠ R.MTX_HANG_DOM := by simpa using hx
    rw [hregs x (by simpa using hdom), rd_clockBack_ne s d true hpresent]

/-- A clock that returns, with nothing waiting. -/
theorem exec_clockPresentChange_empty (d : Fin 35) (seen : Bool) (hhung : s.mx.hung = []) (hatoms : s.mx.atoms = []) :
    ∃ t, exec (.clockPresentChange d true seen) s = .next t ∧
      t.g (presentOf d) = (if seen = true ∧ s.clockSeen d = true then 1 else s.g (presentOf d)) ∧
      (t.farLive d = (t.on (presentOf d) && s.on (readyOf d))) ∧ onlyRegs s t [(presentOf d).reg, R.MTX_HANG_DOM] := by
  have hb := (clockBack_hung s d seen).trans hhung
  obtain ⟨hmem, -, hstopped, hbits⟩ := hungDone_kept (s.clockBack d seen) d true
  refine ⟨_, exec_clockPresentChange_runs d seen s, ?_⟩
  rw [go_hungDone_of_empty _ _ hb ((clockBack_atoms s d seen).trans hatoms)]
  refine ⟨?_, ?_, fun x hx => ?_, byte_congr (hmem.trans (clockBack_mem s d seen))⟩
  · rw [hbits _ (farBit_presentOf d), g_clockBack_present]
  · have hready : (State.hungDone (s.clockBack d seen) d true).on (readyOf d) = s.on (readyOf d) := by
      rw [State.on, State.on, hbits _ (farBit_readyOf d), g_clockBack_ready]
    rw [State.farLive, hstopped, stopped_clockBack, hready, Bool.not_false, Bool.and_true]
  · obtain ⟨hpresent, hdom⟩ : x ≠ (presentOf d).reg ∧ x ≠ R.MTX_HANG_DOM := by simpa using hx
    rw [rd_hungDone_of_none (by rw [hb]; rfl) hdom, rd_clockBack_ne s d seen hpresent]

/-! ## CROSSING_READY (R333, R336) -/

/-- The crossing of domain `d` is ready, and reported accesses to it complete. -/
def State.crossed (s : State) (d : Nat) : State := (s.flag (readyOf d) true).hungDone d true

theorem g_crossed_of_farBit (s : State) (d : Nat) {g : Fld} (hg : FarBit g) :
    (s.crossed d).g g = (s.flag (readyOf d) true).g g :=
  (hungDone_kept (s.flag (readyOf d) true) d true).2.2.2 g hg

theorem g_crossed_readyOf (s : State) (d : Nat) : (s.crossed d).g (readyOf d) = 1 :=
  (g_crossed_of_farBit s d (farBit_readyOf d)).trans (g_readyOf_flag_self s d true)

theorem g_crossed_presentOf (s : State) (d : Nat) : (s.crossed d).g (presentOf d) = s.g (presentOf d) :=
  (g_crossed_of_farBit s d (farBit_presentOf d)).trans (g_presentOf_flag_readyOf s d true)

theorem crossed_kept (s : State) (d : Nat) :
    (s.crossed d).mem = s.mem ∧ (s.crossed d).mx.atoms = s.mx.atoms ∧ (s.crossed d).mx.stopped = s.mx.stopped := by
  obtain ⟨hmem, hatoms, hstopped, -⟩ := hungDone_kept (s.flag (readyOf d) true) d true
  exact ⟨hmem, hatoms, hstopped⟩

/-- A domain whose clock runs answers once its crossing is ready. -/
theorem farLive_crossed {d : Nat} (hpresent : s.g (presentOf d) = 1) (hstopped : SMap.get noneB s.mx.stopped d = false) :
    (s.crossed d).farLive d = true := by
  obtain ⟨-, -, hst⟩ := crossed_kept s d
  rw [State.farLive, State.on, State.on, g_crossed_readyOf, g_crossed_presentOf, hpresent, hst, hstopped]
  rfl

/-- Accesses that have not been reported stay, and nothing is answered. -/
theorem crossed_of_new {d : Nat} (hnew : ∀ x ∈ s.mx.hung, x.reported = false) :
    (s.crossed d).mx.hung = s.mx.hung ∧ (s.crossed d).out = s.out ∧
      onlyRegs s (s.crossed d) [(readyOf d).reg, R.MTX_HANG_DOM] := by
  have hnone : (s.flag (readyOf d) true).mx.hung.filter (fun h => h.dom == d && (h.reported || !true)) = [] :=
    List.filter_eq_nil_iff.mpr fun x hx => by simp [hnew x hx]
  refine ⟨?_, ?_, fun x hx => ?_, byte_congr (crossed_kept s d).1⟩
  · rw [State.crossed, hungDone_hung]
    exact List.filter_eq_self.mpr fun x hx => by simp [hnew x hx]
  · rw [State.crossed, hungDone_out, State.hungAnswered, hnone]
    rfl
  · obtain ⟨hr, hdom⟩ : x ≠ (readyOf d).reg ∧ x ≠ R.MTX_HANG_DOM := by simpa using hx
    rw [State.crossed, rd_hungDone_of_none hnone hdom, rd_flag_ne _ _ _ hr]

theorem exec_crossingReady_gets_ready {d : Fin 35} (hpresent : s.g (presentOf d) = 1) (hready : s.g (readyOf d) = 0) :
    exec (.crossingReady d) s = .next (s.crossed d).go := by
  change execCrossingReady d s = _
  exact if_pos ⟨by simp [State.on, hpresent], by simp [State.on, hready]⟩

theorem exec_crossingReady_otherwise {d : Fin 35} (h : s.g (presentOf d) = 0 ∨ s.g (readyOf d) = 1) :
    exec (.crossingReady d) s = .next s := by
  change execCrossingReady d s = _
  refine if_neg fun ⟨hp, hr⟩ => ?_
  obtain h | h := h
  · simp [State.on, h] at hp
  · simp [State.on, h] at hr

theorem exec_crossingReady_empty {d : Fin 35} (hpresent : s.g (presentOf d) = 1) (hready : s.g (readyOf d) = 0)
    (hhung : s.mx.hung = []) (hatoms : s.mx.atoms = []) :
    ∃ t, exec (.crossingReady d) s = .next t ∧ t.g (readyOf d) = 1 ∧ onlyRegs s t [(readyOf d).reg, R.MTX_HANG_DOM] := by
  obtain ⟨hkept, -, hregs⟩ := crossed_of_new (s := s) (d := d) (by simp [hhung])
  obtain ⟨-, hat, -⟩ := crossed_kept s d
  refine ⟨_, exec_crossingReady_gets_ready hpresent hready, ?_⟩
  rw [go_of_empty (hkept.trans hhung) (hat.trans hatoms)]
  exact ⟨g_crossed_readyOf s d, hregs⟩

/-! ## BAR0_READ_TIMEOUT (R482) -/

theorem exec_bar0ReadTimeout {j d a : Nat} {r : Bool} {ws : List Word} {left : List (Fin 16)}
    (hj : s.mx.hung[j]? = some ⟨d, a, r, none, 4, .bar ws left⟩) :
    ∃ t, exec (.bar0ReadTimeout j) s = .next t ∧ t.mx.hung = s.mx.hung.set j ⟨d, a, r, none, 4, .gone⟩ ∧
      t.out = s.out ++ [.resp false (List.replicate (ws.length + left.length) 0xFFFFFFFF#32)] ∧
      t.g F.HOST_STAT_RD_TIMEOUT = 1 ∧ onlyRegs s t [R.HOST_STAT] := by
  have hexec : exec (.bar0ReadTimeout j) s = .next ((({ s with mx := { s.mx with
      hung := s.mx.hung.set j ⟨d, a, r, none, 4, .gone⟩ } } : State).flag F.HOST_STAT_RD_TIMEOUT true).send
        (.resp false (allOnes (ws.length + left.length)))) := by
    change execBar0ReadTimeout j s = _
    unfold execBar0ReadTimeout
    rw [hj]
  refine ⟨_, hexec, ?_, send_resp_out _ _ _, ?_, fun x hx => ?_, byte_congr (send_mem _ _)⟩
  · rw [send_mx]
    rfl
  · rw [g_send]
    exact g_flag_self _ F.HOST_STAT_RD_TIMEOUT true rfl (by decide)
  · rw [rd_send]
    exact rd_flag_ne _ F.HOST_STAT_RD_TIMEOUT true (mt List.mem_singleton.mpr hx)

theorem exec_bar0ReadTimeout_of_none {j : Nat} (hj : s.mx.hung.length ≤ j) : exec (.bar0ReadTimeout j) s = .next s := by
  change execBar0ReadTimeout j s = _
  unfold execBar0ReadTimeout
  rw [List.getElem?_eq_none hj]

end Sys2Proof.Machine
end

section
/-!
SUPPORT. BAR_0 requests of one word that nothing holds back, and the accesses to far registers that they and waiting
accesses make (R9, R310, R333, R336, R481, R482).
-/
namespace Sys2Proof.Machine

variable {s : State}

/-! ## What a read of a register sends and keeps waiting -/

theorem mtcRead_kept (s : State) (stale : Bool) : (s.mtcRead stale).1.out = s.out ∧ (s.mtcRead stale).1.mx = s.mx := by
  cases stale <;> exact ⟨rfl, rfl⟩

theorem ptpRead_kept (s : State) (lag : Nat) (stale : Bool) :
    (s.ptpRead lag stale).1.out = s.out ∧ (s.ptpRead lag stale).1.mx = s.mx := by
  cases stale <;> exact ⟨rfl, rfl⟩

theorem rateRead_kept (s : State) (n : Nat) (dev stale : Bool) :
    (s.rateRead n dev stale).1.out = s.out ∧ (s.rateRead n dev stale).1.mx = s.mx := by
  cases stale <;> cases dev <;> exact ⟨rfl, rfl⟩

theorem tempRead_kept (s : State) (i : Nat) (stale : Bool) :
    (s.tempRead i stale).1.out = s.out ∧ (s.tempRead i stale).1.mx = s.mx := by
  cases stale <;> exact ⟨rfl, rfl⟩

theorem evtRead_kept (s : State) (i : Nat) : (s.evtRead i).1.out = s.out ∧ (s.evtRead i).1.mx = s.mx := ⟨rfl, rfl⟩

theorem txtsRead_kept (s : State) (p : Nat) : (s.txtsRead p).1.out = s.out ∧ (s.txtsRead p).1.mx = s.mx := by
  unfold State.txtsRead
  split <;> exact ⟨rfl, rfl⟩

theorem setLatches_kept (s : State) (xs : List (Nat × Word)) :
    (xs.foldl (fun s x => s.setLatch x.1 x.2) s).out = s.out ∧ (xs.foldl (fun s x => s.setLatch x.1 x.2) s).mx = s.mx := by
  induction xs generalizing s with
  | nil => exact ⟨rfl, rfl⟩
  | cons x xs ih => exact ih (s.setLatch x.1 x.2)

/-- A read of a register sends nothing and leaves what waits. -/
theorem regRead_kept (s : State) (r : RegSpec) (ix : List Nat) (a : Nat) (stale : Bool) :
    (s.regRead r ix a stale).1.out = s.out ∧ (s.regRead r ix a stale).1.mx = s.mx := by
  unfold State.regRead
  split_ifs
  · exact mtcRead_kept s stale
  · exact ptpRead_kept s 0 stale
  · exact rateRead_kept s _ false stale
  · exact rateRead_kept s _ true stale
  · exact tempRead_kept s _ stale
  · exact evtRead_kept s _
  · exact txtsRead_kept s _
  · exact ⟨rfl, rfl⟩
  · exact setLatches_kept s _

/-! ## Reads of far registers, of memory, and of nothing -/

/-- An access to a domain that answers, or to none, does not wait. -/
theorem farStuck_of_live {a : Nat} (halign : a % 4 = 0) (h : (farDomain a).all s.farLive = true) : s.farStuck a = none := by
  unfold State.farStuck
  rw [halign, Nat.sub_zero]
  cases hd : farDomain a with
  | none => simp
  | some d => simp [Option.filter, show s.farLive d = true by simpa [hd] using h]

/-- A read of a register whose domain, if it has one, answers. -/
theorem readAt_of_live_register {src a : Nat} {stale : Bool} {r : RegSpec} {ix : List Nat} (halign : a % 4 = 0)
    (hm : memOf a = none) (hw : s.windowView a = none) (hr : regSpecAt a = some (r, ix))
    (hlive : (farDomain a).all s.farLive = true) :
    s.readAt src a 4 stale = ((s.regRead r ix a stale).1, .ok (s.regRead r ix a stale).2) := by
  cases hd : farDomain a with
  | none => exact readAt_of_register halign hm hw hr hd
  | some d =>
    have hl : s.farLive d = true := by simpa [hd] using hlive
    simp [State.readAt, State.readWord, halign, hm, hw, hr, hd, hl, addressed_word]

/-- A word without an error mark is read as it stands, and its bank wakes where it slept. -/
theorem readW_of_unmarked {a o : Nat} {k : MemKind} (hm : memOf a = some (k, o)) (hecc : s.eccAt a = 0) :
    s.readW a = (s.touchBank (bankOf k o), s.word a, false) := by
  unfold State.readW
  rw [hm]
  dsimp only
  rw [eccAt_touchBank, hecc, word_congr (touchBank_mem s _)]
  rfl

@[simp] theorem eccCorr_mem (a : Nat) : (s.eccCorr a).mem = s.mem := by unfold State.eccCorr; split <;> rfl
@[simp] theorem eccCorr_out (a : Nat) : (s.eccCorr a).out = s.out := by unfold State.eccCorr; split <;> rfl
@[simp] theorem eccCorr_mx (a : Nat) : (s.eccCorr a).mx = s.mx := by unfold State.eccCorr; split <;> rfl

/-- A read of a word with at most one wrong bit gives the word; memory, what has been sent and what waits stay. -/
theorem readW_of_correctable {a o : Nat} {k : MemKind} (hm : memOf a = some (k, o)) (hecc : s.eccAt a ≤ 1) :
    ∃ t, s.readW a = (t, s.word a, false) ∧ t.mem = s.mem ∧ t.out = s.out ∧ (s.freeBus → t.freeBus) := by
  obtain hecc | hecc : s.eccAt a = 0 ∨ s.eccAt a = 1 := by omega
  · exact ⟨_, readW_of_unmarked hm hecc, touchBank_mem s _, touchBank_out s _, freeBus_touchBank _⟩
  · unfold State.readW
    rw [hm]
    dsimp only
    rw [eccAt_touchBank, hecc, word_congr (touchBank_mem s _)]
    refine ⟨_, rfl, ?_, ?_, fun hfree => ?_⟩
    · exact (eccCorr_mem a).trans (touchBank_mem s _)
    · exact (eccCorr_out a).trans (touchBank_out s _)
    · have hcorr := freeBus_congr (eccCorr_mx (s := s.touchBank (bankOf k o)) a) (freeBus_touchBank _ hfree)
      exact hcorr

/-- The registers of the clusters end with the last cluster's window. -/
theorem regSpecAt_eq_none_of_gap {a : Nat} (hlo : 0x02800000 ≤ a) (hhi : a < 0x03000000) : regSpecAt a = none := by
  have hregs : ∀ r ∈ regsLane ++ regsAddr ++ regsCluster, r.base < 0x01100000 ∧ r.dims.head? = some (0x100000, 16) := by
    decide
  unfold regSpecAt blockRegs
  rw [if_pos hhi, List.findSome?_eq_none_iff]
  intro r hr
  obtain ⟨hbase, hdims⟩ := hregs r hr
  unfold RegSpec.member
  rw [if_neg (by omega)]
  cases hd : r.dims with
  | nil => simp [hd] at hdims
  | cons x ds =>
    obtain rfl : x = (0x100000, 16) := by simpa [hd] using hdims
    rw [RegSpec.indices, if_neg (by omega)]
    rfl

/-- No window of words lies below the blocks. -/
theorem windowView_eq_none_of_lt {a : Nat} (h : a < 0x03000000) : s.windowView a = none := by
  unfold State.windowView
  rw [if_neg (by omega), if_neg (by omega), if_neg (by omega), if_neg (by omega)]

/-- A read where the fast matrix decodes nothing reaches the default target. -/
theorem readAt_of_nothing {src a : Nat} {stale : Bool} (halign : a % 4 = 0) (hlo : 0x02800000 ≤ a) (hhi : a < 0x03000000) :
    s.readAt src a 4 stale = (s.decodeError src a, .err) := by
  have hsrc : decodeSrc src a = src := by simp [decodeSrc, onBus_eq_false_of_lt hhi]
  simp [State.readAt, State.readWord, halign, memOf_eq_none_of_le hlo, windowView_eq_none_of_lt hhi,
    regSpecAt_eq_none_of_gap hlo hhi, hsrc]

/-! ## The bytes that the enables name -/

theorem and_enabledBytes_all (v : Word) : v &&& BitVec.ofNat 32 (enabledBytes 15) = v := BitVec.and_allOnes (x := v)

@[simp] theorem mergeBytes_none (old v : Word) : mergeBytes old v 0 = old := rfl

@[simp] theorem mergeBytes_all (old v : Word) : mergeBytes old v 15 = v := by
  have hmerge : mergeBytes old v 15 = putBits (putBits (putBits (putBits old 7 0 (bitsOf v 7 0)) 15 8 (bitsOf v 15 8))
    23 16 (bitsOf v 23 16)) 31 24 (bitsOf v 31 24) := rfl
  rw [hmerge]
  apply BitVec.eq_of_getLsbD_eq
  intro i hi
  have hfield : ∀ h l, l ≤ i ∧ i < h + 1 → (bitsOf v h l).testBit (i - l) = v.getLsbD i := fun h l hin => by
    rw [testBit_bitsOf, Nat.sub_add_cancel hin.1, decide_eq_true (by omega), Bool.true_and]
  simp only [getLsbD_putBits, hi, decide_true, Bool.true_and, and_true]
  split_ifs
  · exact hfield 31 24 (by omega)
  · exact hfield 23 16 (by omega)
  · exact hfield 15 8 (by omega)
  · exact hfield 7 0 (by omega)
  · omega

end Sys2Proof.Machine
end

section
/-!
SUPPORT. The command BAR0_REQUEST with one word (R9, R481, R482), and the access that waits for a crossing (R336).
-/
namespace Sys2Proof.Machine

variable {s : State}

/-! ## BAR0_REQUEST -/

/-- A manager whose link is up, with nothing waiting. -/
def State.hostAsks (s : State) : Prop := s.g F.CHIP_STRAP_ROLE = 1 ∧ s.g F.HOST_STAT_LINK_UP = 1 ∧ s.freeBus

theorem State.hostAsks.freeBus (h : s.hostAsks) : s.freeBus := h.2.2

/-- A worker, or a manager without a link, is asked nothing. -/
theorem exec_bar0Request_unasked {a : BitVec 24} {bes : List (Fin 16)} {data : Option (List Word)}
    (h : s.g F.CHIP_STRAP_ROLE = 0 ∨ s.g F.HOST_STAT_LINK_UP = 0) : exec (.bar0Request a bes data) s = .next s := by
  change execBar0Request a bes data s = _
  refine if_pos ?_
  obtain h | h := h
  · simp [State.manager, State.on, h]
  · simp [State.on, h]

/-- A request of one word is performed; then what waits goes on. -/
theorem exec_bar0Request_word {a : BitVec 24} {be : Fin 16} {data : Option (List Word)} (h : s.hostAsks) :
    exec (.bar0Request a [be] data) s = .next (s.barRequest (4 * a.toNat) [be] data).go := by
  change execBar0Request a [be] data s = _
  obtain ⟨hrole, hlink, -⟩ := h
  exact if_neg (by simp [State.manager, State.on, hrole, hlink])

theorem barRequest_read {a : Nat} {be : Fin 16} (hfree : s.freeBus) : s.barRequest a [be] none = s.barRead a [] [be] := by
  obtain ⟨hhung, -⟩ := hfree
  simp [State.barRequest, State.barFull, barMisaligned, hhung]

theorem barRead_of_ok {a : Nat} {be : Fin 16} {t : State} {v : Word} (h : s.barWord a be = (t, .ok v)) :
    s.barRead a [] [be] = t.send (.resp false [v]) := by
  simp [State.barRead, h]

theorem barRead_of_err {a : Nat} {be : Fin 16} {t : State} (h : s.barWord a be = (t, .err)) :
    s.barRead a [] [be] = (t.barError a).send (.resp false [0xFFFFFFFF#32]) := by
  simp [State.barRead, h, allOnes]

/-- No enabled byte of a memory word is not read at all. -/
theorem barWord_of_no_bytes {a : Nat} (h : a < 0x03000000) : s.barWord a 0 = (s, .ok 0) := if_pos ⟨rfl, h⟩

theorem barWord_of_ok {a : Nat} {be : Fin 16} {t : State} {v : Word} (hfree : s.freeBus) (hfar : s.farStuck a = none)
    (hbytes : ¬ (be = 0 ∧ a < 0x03000000)) (hread : s.readAt (Src.matrix 6) a 4 false = (t, .ok v)) :
    s.barWord a be = (t, .ok (v &&& BitVec.ofNat 32 (enabledBytes be.val))) := by
  unfold State.barWord
  rw [if_neg hbytes]
  simp [State.askRead, stuck_of_freeBus hfree hfar, hread]

theorem barWord_of_err {a : Nat} {be : Fin 16} {t : State} (hfree : s.freeBus) (hfar : s.farStuck a = none)
    (hbytes : ¬ (be = 0 ∧ a < 0x03000000)) (hread : s.readAt (Src.matrix 6) a 4 false = (t, .err)) :
    s.barWord a be = (t, .err) := by
  unfold State.barWord
  rw [if_neg hbytes]
  simp [State.askRead, stuck_of_freeBus hfree hfar, hread]

/-- A read of one word that is answered. -/
theorem exec_bar0Request_read {a : BitVec 24} {be : Fin 16} {t : State} {v : Word} (h : s.hostAsks)
    (hword : s.barWord (4 * a.toNat) be = (t, .ok v)) (hafter : t.freeBus) :
    exec (.bar0Request a [be] none) s = .next (t.send (.resp false [v])) := by
  rw [exec_bar0Request_word h, barRequest_read h.freeBus, barRead_of_ok hword,
    go_of_freeBus (freeBus_congr (send_mx t _) hafter)]

/-! ### Reads of memory -/

theorem exec_bar0Request_read_sound {a : BitVec 24} {k : MemKind} {o : Nat} (h : s.hostAsks)
    (hm : memOf (4 * a.toNat) = some (k, o)) (hk : k.isProg = false) (hecc : s.eccAt (4 * a.toNat) = 0)
    (hret : s.inRet (bankOf k o) = false) :
    exec (.bar0Request a [15] none) s = .next (s.send (.resp false [s.word (4 * a.toNat)])) := by
  have hlow : 4 * a.toNat < 0x02800000 := memOf_lt hm
  have halign : 4 * a.toNat % 4 = 0 := Nat.mul_mod_right 4 _
  have hread := readAt_of_sound (src := Src.matrix 6) (stale := false) halign (by rwa [halign]) hk hret
    (by rwa [halign])
  have hword := barWord_of_ok (be := 15) h.freeBus (farStuck_of_lt (by omega)) (by simp) hread
  rw [halign, Nat.sub_zero, addressed_word _ halign] at hword
  rw [exec_bar0Request_read h hword h.freeBus]
  exact congrArg (fun v => Host.Outcome.next (s.send (.resp false [v]))) (and_enabledBytes_all _)

/-- The bytes of a word without an error mark, its bank awake or not. -/
theorem exec_bar0Request_read_bytes {a : BitVec 24} {be : Fin 16} {k : MemKind} {o : Nat} (h : s.hostAsks)
    (hm : memOf (4 * a.toNat) = some (k, o)) (hk : k.isProg = false) (hecc : s.eccAt (4 * a.toNat) = 0) :
    ∃ t, exec (.bar0Request a [be] none) s = .next t ∧
      t.out = s.out ++ [.resp false [s.word (4 * a.toNat) &&& BitVec.ofNat 32 (enabledBytes be.val)]] ∧ sameMem s t := by
  have hlow : 4 * a.toNat < 0x02800000 := memOf_lt hm
  have halign : 4 * a.toNat % 4 = 0 := Nat.mul_mod_right 4 _
  by_cases hbe : be = 0
  · subst hbe
    refine ⟨_, exec_bar0Request_read h (barWord_of_no_bytes (by omega)) h.freeBus, ?_, byte_congr (send_mem _ _)⟩
    rw [send_resp_out]
    exact congrArg (fun v => s.out ++ [.resp false [v]]) BitVec.and_zero.symm
  · have hread : s.readAt (Src.matrix 6) (4 * a.toNat) 4 false = (s.touchBank (bankOf k o), .ok (s.word (4 * a.toNat))) := by
      simp [State.readAt, readWord_of_memory hm hk, readW_of_unmarked hm hecc, addressed_word]
    have hword := barWord_of_ok (be := be) h.freeBus (farStuck_of_lt (by omega)) (by simp [hbe]) hread
    refine ⟨_, exec_bar0Request_read h hword (freeBus_touchBank _ h.freeBus), ?_, byte_congr ?_⟩
    · rw [send_resp_out, touchBank_out]
    · rw [send_mem, touchBank_mem]

/-! ### A read of a register, and of nothing -/

theorem exec_bar0Request_read_register {a : BitVec 24} {r : RegSpec} {ix : List Nat} (h : s.hostAsks)
    (hblock : 0x03000000 ≤ 4 * a.toNat) (hr : regSpecAt (4 * a.toNat) = some (r, ix))
    (hw : s.windowView (4 * a.toNat) = none) (hlive : (farDomain (4 * a.toNat)).all s.farLive = true) :
    ∃ t, exec (.bar0Request a [15] none) s = .next t ∧
      t.out = s.out ++ [.resp false [(s.regRead r ix (4 * a.toNat) false).2]] := by
  have halign : 4 * a.toNat % 4 = 0 := Nat.mul_mod_right 4 _
  obtain ⟨hout, hmx⟩ := regRead_kept s r ix (4 * a.toNat) false
  have hword := barWord_of_ok (be := 15) h.freeBus (farStuck_of_live halign hlive) (by simp)
    (readAt_of_live_register halign (memOf_eq_none_of_le (by omega)) hw hr hlive)
  refine ⟨_, exec_bar0Request_read h hword (freeBus_congr hmx h.freeBus), ?_⟩
  rw [send_resp_out, hout]
  exact congrArg (fun v => s.out ++ [.resp false [v]]) (and_enabledBytes_all _)

theorem barError_mem (a : Nat) : (s.barError a).mem = s.mem := rfl
theorem barError_mx (a : Nat) : (s.barError a).mx = s.mx := rfl
theorem barError_out (a : Nat) : (s.barError a).out = s.out := rfl

theorem rd_barError_ne (a : Nat) {x : Nat} (haddr : x ≠ R.HOST_BAR_ERR_ADDR) (hstat : x ≠ R.HOST_STAT) :
    (s.barError a).rd x = s.rd x := by
  unfold State.barError
  rw [rd_flag_ne _ _ _ hstat, rd_wr, if_neg haddr]

theorem g_barError_ne (a : Nat) {f : Fld} (haddr : f.reg ≠ R.HOST_BAR_ERR_ADDR) (hstat : f.reg ≠ R.HOST_STAT) :
    (s.barError a).g f = s.g f := by
  rw [State.g, rd_barError_ne a haddr hstat, State.g]

theorem g_barError_barErr (a : Nat) : (s.barError a).g F.HOST_STAT_BAR_ERR = 1 :=
  g_flag_self _ F.HOST_STAT_BAR_ERR true rfl (by decide)

theorem rd_barError_addr (a : Nat) : (s.barError a).rd R.HOST_BAR_ERR_ADDR = BitVec.ofNat 32 a := by
  unfold State.barError
  rw [rd_flag_ne _ _ _ (by decide), rd_wr, if_pos rfl]

theorem exec_bar0Request_read_nothing {a : BitVec 24} (h : s.hostAsks) (hlo : 0x02800000 ≤ 4 * a.toNat)
    (hhi : 4 * a.toNat < 0x03000000) :
    ∃ t, exec (.bar0Request a [15] none) s = .next t ∧ t.out = s.out ++ [.resp false [0xFFFFFFFF#32]] ∧
      t.g F.HOST_STAT_BAR_ERR = 1 ∧ t.rd R.HOST_BAR_ERR_ADDR = BitVec.ofNat 32 (4 * a.toNat) ∧ t.g F.MTX_STAT_DECODE = 1 ∧
      sameMem s t := by
  have hword := barWord_of_err (be := 15) h.freeBus (farStuck_of_lt hhi) (by simp)
    (readAt_of_nothing (s := s) (Nat.mul_mod_right 4 _) hlo hhi)
  refine ⟨_, exec_bar0Request_word h, ?_⟩
  rw [barRequest_read h.freeBus, barRead_of_err hword,
    go_of_freeBus (freeBus_congr ((send_mx _ _).trans ((barError_mx _).trans (decodeError_mx _ _ _))) h.freeBus)]
  refine ⟨?_, ?_, ?_, ?_, byte_congr ?_⟩
  · rw [send_resp_out, barError_out, decodeError_out]
  · rw [g_send, g_barError_barErr]
  · rw [rd_send, rd_barError_addr]
  · rw [g_send, g_barError_ne _ (by decide) (by decide), g_decodeError_decode]
  · rw [send_mem, barError_mem, decodeError_mem]

/-! ### Writes of memory -/

/-- A unit's store that is answered leaves what the write leaves. -/
theorem took_ok {t : State} (h : t.out = s.out) : s.took t.ok = (t, .ok 0) := by
  have hok : t.ok = { t with out := t.out ++ [.resp false []] } := by simp [State.ok, State.send, Out.onBall]
  unfold State.took
  rw [hok]
  simp [← h]

theorem store_of_memory {src a o : Nat} {k : MemKind} {v : Word} (halign : a % 4 = 0) (hm : memOf a = some (k, o))
    (hk : k.isProg = false) : s.store src a v = (s.writeW a v, .ok 0) := by
  rw [State.store, writeAt_of_memory halign hm hk, took_ok (writeW_out s a v)]

/-- One word of a write to a memory is written whole, or merged from the word read there. -/
theorem barStore_of_memory {a o : Nat} {k : MemKind} {be : Fin 16} {v : Word} (hfree : s.freeBus) (halign : a % 4 = 0)
    (hm : memOf a = some (k, o)) (hk : k.isProg = false) :
    s.barStore a be v =
      if be = 15 then (s.writeW a v, .ok 0)
      else if be = 0 then (s, .ok 0)
      else if (s.readW a).2.2 then ((s.readW a).1, .err)
      else ((s.readW a).1.writeW a (mergeBytes (s.readW a).2.1 v be.val), .ok 0) := by
  have hlow : a < 0x02800000 := memOf_lt hm
  have hstuck := stuck_of_freeBus (m := 2) (n := 4) hfree (farStuck_of_lt (by omega : a < 0x03000000))
  unfold State.barStore
  rw [hstuck, queued_of_freeBus _ _ _ hfree, hm, store_of_memory halign hm hk]
  cases k with
  | prog c => cases hk
  | ctl | data c | region g => simp

/-- A write of one word to a memory is that of the word. -/
theorem barRequest_write {a o : Nat} {k : MemKind} {be : Fin 16} {v : Word} {t : State}
    (hm : memOf a = some (k, o)) (hk : k.isProg = false) (hstore : s.barStore a be v = (t, .ok 0)) :
    s.barRequest a [be] (some [v]) = t := by
  have hwords : s.barWords a [(be, v)] = t := by simp [State.barWords, hstore]
  cases k with
  | prog c => cases hk
  | ctl | data c | region g => simpa [State.barRequest, State.barWrite, barMisaligned, hm] using hwords

theorem exec_bar0Request_write {a : BitVec 24} {be : Fin 16} {v : Word} {k : MemKind} {o : Nat} {t : State} (h : s.hostAsks)
    (hm : memOf (4 * a.toNat) = some (k, o)) (hk : k.isProg = false)
    (hstore : s.barStore (4 * a.toNat) be v = (t, .ok 0)) (hafter : t.freeBus) :
    exec (.bar0Request a [be] (some [v])) s = .next t := by
  rw [exec_bar0Request_word h, barRequest_write hm hk hstore, go_of_freeBus hafter]

theorem exec_bar0Request_write_word {a : BitVec 24} {v : Word} {k : MemKind} {o : Nat} (h : s.hostAsks)
    (hm : memOf (4 * a.toNat) = some (k, o)) (hk : k.isProg = false) :
    exec (.bar0Request a [15] (some [v])) s = .next (s.writeW (4 * a.toNat) v) :=
  exec_bar0Request_write h hm hk
    ((barStore_of_memory h.freeBus (Nat.mul_mod_right 4 _) hm hk).trans (if_pos rfl)) (freeBus_writeW _ _ h.freeBus)

theorem word_writeW {a o : Nat} {k : MemKind} (v : Word) (hm : memOf a = some (k, o)) : (s.writeW a v).word a = v := by
  rw [word_congr (writeW_mem s v hm), word_setWord]

theorem onlyMem_writeW {a o : Nat} {k : MemKind} (v : Word) (hm : memOf a = some (k, o)) :
    onlyMem s (s.writeW a v) a 4 :=
  fun b hb => by rw [byte_congr (writeW_mem s v hm), byte_setWord_ne s a b v hb]

/-- Besides, only the count of wakes and the injection may change. -/
theorem onlyBytes_writeW {a o : Nat} {k : MemKind} (v : Word) (hm : memOf a = some (k, o)) :
    onlyBytes s (s.writeW a v) [R.MEM_WAKE_CNT, R.MEM_INJ_CTL] a 4 := by
  refine ⟨fun x hx => ?_, onlyMem_writeW v hm⟩
  obtain ⟨hwake, hinj⟩ : x ≠ R.MEM_WAKE_CNT ∧ x ≠ R.MEM_INJ_CTL := by simpa using hx
  exact rd_writeW_ne s a v hwake hinj

/-- The enabled bytes of a word with at most one wrong bit. -/
theorem exec_bar0Request_write_bytes {a : BitVec 24} {be : Fin 16} {v : Word} {k : MemKind} {o : Nat} (h : s.hostAsks)
    (hm : memOf (4 * a.toNat) = some (k, o)) (hk : k.isProg = false) (hecc : s.eccAt (4 * a.toNat) ≤ 1) :
    ∃ t, exec (.bar0Request a [be] (some [v])) s = .next t ∧
      t.word (4 * a.toNat) = mergeBytes (s.word (4 * a.toNat)) v be ∧ onlyMem s t (4 * a.toNat) 4 ∧ t.out = s.out := by
  by_cases hall : be = 15
  · subst hall
    exact ⟨_, exec_bar0Request_write_word h hm hk, (word_writeW v hm).trans (mergeBytes_all _ v).symm, onlyMem_writeW v hm,
      writeW_out s _ v⟩
  have hstore := barStore_of_memory (be := be) (v := v) h.freeBus (Nat.mul_mod_right 4 a.toNat) hm hk
  rw [if_neg hall] at hstore
  by_cases hnone : be = 0
  · subst hnone
    exact ⟨s, exec_bar0Request_write h hm hk (hstore.trans (if_pos rfl)) h.freeBus, (mergeBytes_none _ v).symm,
      fun _ _ => rfl, rfl⟩
  · obtain ⟨t, hread, hmem, hout, hfree⟩ := readW_of_correctable hm hecc
    rw [if_neg hnone, hread, if_neg (by simp)] at hstore
    refine ⟨_, exec_bar0Request_write h hm hk hstore (freeBus_writeW _ _ (hfree h.freeBus)), word_writeW _ hm, ?_,
      (writeW_out t _ _).trans hout⟩
    exact fun b hb => (onlyMem_writeW _ hm b hb).trans (byte_congr hmem b)

/-! ## CROSSING_READY with an access that waits (R336) -/

/-- SAP_FRAME_CNT in the register map. -/
def sapFrameCntSpec : RegSpec := ⟨"SAP_FRAME_CNT", 0x030A0060, [(0x400, 24)], [0], true, [⟨31, 0, .ro⟩]⟩

theorem regSpecAt_sapFrameCnt : ∀ n : Fin 24, regSpecAt (R.SAP_FRAME_CNT n) = some (sapFrameCntSpec, [n.val]) := by decide

theorem farDomain_sapFrameCnt (n : Fin 24) : farDomain (R.SAP_FRAME_CNT n) = some n.val := by
  unfold farDomain
  rw [regSpecAt_sapFrameCnt n]
  have hblock : (R.SAP_FRAME_CNT n - 0x03000000) / 0x10000 = 10 := by unfold R.SAP_FRAME_CNT; omega
  simp [sapFrameCntSpec, hblock]

theorem view_sapFrameCnt (s : State) : ∀ n : Fin 24, s.view (R.SAP_FRAME_CNT n) = s.rd (R.SAP_FRAME_CNT n) := by
  intro n
  fin_cases n <;> rfl

/-- A read of SAP_FRAME_CNT has no effect. -/
theorem regRead_sapFrameCnt (s : State) (n : Fin 24) (stale : Bool) :
    s.regRead sapFrameCntSpec [n.val] (R.SAP_FRAME_CNT n) stale = (s, s.rd (R.SAP_FRAME_CNT n)) := by
  rw [← view_sapFrameCnt s n]
  rfl

theorem readAt_sapFrameCnt {src : Nat} {n : Fin 24} {stale : Bool} (hlive : s.farLive n = true) :
    s.readAt src (R.SAP_FRAME_CNT n) 4 stale = (s, .ok (s.rd (R.SAP_FRAME_CNT n))) := by
  have haddr : R.SAP_FRAME_CNT n % 4 = 0 ∧ 0x030A0060 ≤ R.SAP_FRAME_CNT n ∧ R.SAP_FRAME_CNT n < 0x030A6000 := by
    unfold R.SAP_FRAME_CNT; omega
  obtain ⟨halign, hlo, hhi⟩ := haddr
  have hw : s.windowView (R.SAP_FRAME_CNT n) = none := by
    unfold State.windowView
    rw [if_neg (by omega), if_neg (by omega), if_neg (by omega), if_neg (by omega)]
  rw [readAt_of_live_register halign (memOf_eq_none_of_le (by omega)) hw (regSpecAt_sapFrameCnt n)
    (by simpa [farDomain_sapFrameCnt] using hlive), regRead_sapFrameCnt]

/-- `s` with nothing waiting. -/
def State.noHung (s : State) : State := { s with mx := { s.mx with hung := [] } }

theorem noHung_out (s : State) : s.noHung.out = s.out := rfl
theorem noHung_hung (s : State) : s.noHung.mx.hung = [] := rfl
theorem farStuck_noHung (s : State) (a : Nat) : s.noHung.farStuck a = s.farStuck a := rfl

/-- With nothing waiting, no access to a block waits behind another or for a lock. -/
theorem stuck_noHung {m a n : Nat} (hfar : s.farStuck a = none) (hbank : bankAt a = none) (hm : m ≠ 0) :
    s.noHung.stuck m a n = none := by
  have hlock : s.noHung.lockKeeps m a = false := by
    unfold State.lockKeeps
    rw [if_neg hm, hbank]
    rfl
  simp [State.stuck, State.queued, farStuck_noHung, hfar, hlock, noHung_hung, mustWait]

/-- The one access that waits, a debugger's read of a register whose domain answers now, is performed. -/
theorem go_of_answered_read {d a : Nat} {v : Word} (hhung : s.mx.hung = [⟨d, a, false, none, 4, .bus false⟩])
    (hatoms : s.mx.atoms = []) (hdom : d < 35) (hfar : s.farStuck a = none) (hbank : bankAt a = none)
    (hread : s.noHung.readAt (Src.matrix 6) a 4 false = (s.noHung, .ok v)) : s.go = s.noHung.send (.resp false [v]) := by
  have hdone : s.noHung.busReadDone false a 4 false = s.noHung.send (.resp false [v]) := by
    have hstuck : s.noHung.stuck (Asker.bus false).master a 4 = none := stuck_noHung hfar hbank Nat.one_ne_zero
    simp [State.busReadDone, State.askRead, hstuck, hread, State.coreLock]
  have hgoes : s.released [] s.mx.hung = some (⟨d, a, false, none, 4, .bus false⟩, []) := by
    simp [hhung, State.released, hfar, Nat.not_le.mpr hdom]
  have hwords : (s.mx.hung.map Hung.words).sum = 1 := by rw [hhung]; rfl
  have hself : s.atomsGo = s := by simp [State.atomsGo, hatoms]
  unfold State.go
  rw [hself]
  dsimp only
  rw [hwords, State.settle, hgoes]
  change (({ s.noHung.busReadDone false a 4 false with mx := { (s.noHung.busReadDone false a 4 false).mx with
    hung := (s.noHung.busReadDone false a 4 false).mx.hung ++ [] } } : State)).settle 0 = _
  rw [hdone, State.settle, List.append_nil]

/-- The access that waited for the crossing of a SAP port is performed when the crossing is ready. -/
theorem exec_crossingReady_performs {n : Fin 24}
    (hpresent : s.g (F.SAP_STAT_CLOCK_PRESENT n) = 1) (hready : s.g (F.SAP_STAT_READY n) = 0)
    (hstopped : SMap.get noneB s.mx.stopped n = false)
    (hhung : s.mx.hung = [⟨n.val, R.SAP_FRAME_CNT n, false, none, 4, .bus false⟩]) (hatoms : s.mx.atoms = []) :
    ∃ t, exec (.crossingReady ⟨n, by omega⟩) s = .next t ∧ t.g (F.SAP_STAT_READY n) = 1 ∧ t.mx.hung = [] ∧
      t.out = s.out ++ [.resp false [s.rd (R.SAP_FRAME_CNT n)]] := by
  have hp : presentOf n = F.SAP_STAT_CLOCK_PRESENT n := if_pos n.isLt
  have hr : readyOf n = F.SAP_STAT_READY n := if_pos n.isLt
  have haddr : R.SAP_FRAME_CNT n = 0x030A0060 + n * 0x400 := rfl
  have hmem : memOf (R.SAP_FRAME_CNT n) = none := memOf_eq_none_of_le (by omega)
  rw [← hp] at hpresent
  rw [← hr] at hready ⊢
  obtain ⟨hkept, hout, hregs, -⟩ := crossed_of_new (s := s) (d := n) (by simp [hhung])
  obtain ⟨-, hat, -⟩ := crossed_kept s n
  have hlive : (s.crossed n).farLive n = true := farLive_crossed hpresent hstopped
  have hcnt : (s.crossed n).rd (R.SAP_FRAME_CNT n) = s.rd (R.SAP_FRAME_CNT n) := by
    have hstat := offFar_sapFrameCnt n _ (farBit_readyOf n)
    have hdom : R.SAP_FRAME_CNT n ≠ R.MTX_HANG_DOM := by unfold R.MTX_HANG_DOM; omega
    exact hregs _ (by simp [hstat.symm, hdom])
  have hgo := go_of_answered_read (hkept.trans hhung) (hat.trans hatoms) (by omega)
    (farStuck_of_live (by omega) (by simpa [farDomain_sapFrameCnt] using hlive)) (by simp [bankAt, hmem])
    (readAt_sapFrameCnt (s := (s.crossed n).noHung) hlive)
  refine ⟨_, exec_crossingReady_gets_ready (d := ⟨n, by omega⟩) hpresent hready, ?_⟩
  dsimp only
  rw [hgo]
  refine ⟨?_, ?_, ?_⟩
  · rw [g_send]
    exact g_crossed_readyOf s n
  · rw [send_mx, noHung_hung]
  · rw [send_resp_out, noHung_out, hout, ← hcnt]
    rfl

/-- Settles O37: each clause is the rule of its command, with the frame of what the command leaves. -/
theorem accessesWaitForStoppedDomains : Obligations.AccessesWaitForStoppedDomains := by
  unfold Obligations.AccessesWaitForStoppedDomains
  refine ⟨?_, ?_, ?_, ?_, ?_, ?_, ?_, ?_, ?_, ?_, ?_, ?_, ?_, ?_, ?_, ?_, ?_, ?_, ?_, ?_, ?_, ?_⟩
  · -- HUNG_ACCESS
    rintro j h s ⟨hj, hnew, hdom, haddr⟩
    exact exec_hungAccess_reports hj hnew hdom haddr
  · -- HUNG_ACCESS of no such access
    exact fun j s h => ⟨s, exec_hungAccess_otherwise h, rfl⟩
  · -- DOMAIN_RESET
    intro d s hw
    have hreset := domainIsReset s d false
    refine ⟨_, exec_domainReset hw, ?_, ?_, ?_, byte_congr ?_⟩
    · rw [g_ok, hreset.notReady]
    · rw [g_ok, hreset.present]
    · rw [ok_mx, hreset.hung]
    · rw [ok_mem, hreset.mem]
  · -- DOMAIN_RESET of no domain
    rintro v s hv ⟨hhung, hatoms⟩
    exact ⟨_, exec_domainReset_refused hv hhung hatoms, mtxRefused_effect s⟩
  · -- AUTO_DOMAIN_RESET
    rintro d h s hms ⟨hmem, hrep, hdom⟩ hw
    have hreset := domainIsReset s d true
    exact ⟨_, exec_autoDomainReset hms hmem hrep hdom hw, hreset.notReady, hreset.hung, byte_congr hreset.mem⟩
  · -- AUTO_DOMAIN_RESET without a reported access
    exact fun d s h => ⟨s, exec_autoDomainReset_otherwise h, rfl⟩
  · -- CLOCK_PRESENT_CHANGE of a clock that stops
    exact fun d s => exec_clockPresentChange_stops d s
  · -- CLOCK_PRESENT_CHANGE of a clock that has stopped unseen
    exact fun d s => ⟨_, exec_clockPresentChange_stopsUnseen d s, farLive_of_stopped (stopped_setStopped s d true), rfl,
      onlyRegs_of_eq _ rfl rfl⟩
  · -- CLOCK_PRESENT_CHANGE of a clock that returns, with a reported access
    rintro d a s hseen ⟨hhung, hatoms⟩
    exact exec_clockPresentChange_reported hseen hhung hatoms
  · -- CLOCK_PRESENT_CHANGE of a clock that returns, with nothing waiting
    rintro d seen s ⟨hhung, hatoms⟩
    exact exec_clockPresentChange_empty d seen hhung hatoms
  · -- CROSSING_READY
    rintro d s ⟨hpresent, hready⟩ ⟨hhung, hatoms⟩
    exact exec_crossingReady_empty hpresent hready hhung hatoms
  · -- CROSSING_READY with an access that waits
    rintro n s ⟨hpresent, hready, hstopped⟩ ⟨hhung, hatoms⟩
    exact exec_crossingReady_performs hpresent hready hstopped hhung hatoms
  · -- CROSSING_READY without a clock, or of a ready crossing
    exact fun d s h => ⟨s, exec_crossingReady_otherwise h, rfl⟩
  · -- BAR0_REQUEST that reads a sound memory word
    rintro a k o s hasks ⟨hm, hk⟩ ⟨hecc, hret⟩
    exact ⟨_, exec_bar0Request_read_sound hasks hm hk hecc hret, send_resp_out _ _ _,
      onlyRegs_of_eq _ (send_regs _ _) (send_mem _ _)⟩
  · -- BAR0_REQUEST that reads bytes of a memory word
    rintro a be k o s hasks ⟨hm, hk⟩ hecc
    exact exec_bar0Request_read_bytes hasks hm hk hecc
  · -- BAR0_REQUEST that reads a register of a block
    rintro a r ix s hasks ⟨hblock, hr, hw⟩ hlive
    exact exec_bar0Request_read_register hasks hblock hr hw hlive
  · -- BAR0_REQUEST that writes a memory word
    rintro a v k o s ⟨hrole, hlink⟩ hfree ⟨hm, hk⟩
    exact ⟨_, exec_bar0Request_write_word ⟨hrole, hlink, hfree⟩ hm hk, word_writeW v hm, onlyBytes_writeW v hm⟩
  · -- BAR0_REQUEST that writes bytes of a memory word
    rintro a be v k o s hasks ⟨hm, hk⟩ hecc
    exact exec_bar0Request_write_bytes hasks hm hk hecc
  · -- BAR0_REQUEST that reads where nothing stands
    rintro a s hasks ⟨hlo, hhi⟩
    exact exec_bar0Request_read_nothing hasks hlo hhi
  · -- BAR0_REQUEST to a worker, or without a link
    exact fun a bes data s h => ⟨s, exec_bar0Request_unasked h, rfl⟩
  · -- BAR0_READ_TIMEOUT
    exact fun j d a r ws left s hj => exec_bar0ReadTimeout hj
  · -- BAR0_READ_TIMEOUT of no waiting access
    exact fun j s hj => ⟨s, exec_bar0ReadTimeout_of_none hj, rfl⟩

end Sys2Proof.Machine
end

section
/-!
SUPPORT. Frames as chains of the updates that a command makes, fields beside the one that an update writes, and the values that a
write keeps in part (R10, R11).
-/
namespace Sys2Proof.Machine

variable {r s : State}

/-! ## Fields -/

/-- Setting one field leaves a field that shares no bit with it. -/
theorem g_p_ne (s : State) (f f' : Fld) (v : Nat) (h : f'.reg ≠ f.reg ∨ f'.hi < f.lo ∨ f.hi < f'.lo) (h32 : f'.hi < 32) :
    (s.p f v).g f' = s.g f' := by
  obtain hreg | hbits := h
  · exact g_p_reg s f f' v hreg
  · exact g_p_bits s f f' v hbits h32

theorem g_flag_ne (s : State) (f f' : Fld) (b : Bool) (h : f'.reg ≠ f.reg ∨ f'.hi < f.lo ∨ f.hi < f'.lo)
    (h32 : f'.hi < 32) : (s.flag f b).g f' = s.g f' := g_p_ne s f f' _ h h32

/-- A field reads the same where its register does. -/
theorem g_of_rd {t : State} {f : Fld} (h : t.rd f.reg = s.rd f.reg) : t.g f = s.g f := congrArg (bitsOf · f.hi f.lo) h

theorem on_of_g_eq_one {f : Fld} (h : s.g f = 1) : s.on f = true := by simp [State.on, h]

theorem on_of_g_eq_zero {f : Fld} (h : s.g f = 0) : s.on f = false := by simp [State.on, h]

/-- TICK_STAT.RUNNING says whether ticks run. -/
theorem running_of_g_eq_one (h : s.g F.TICK_STAT_RUNNING = 1) : s.running = true := on_of_g_eq_one h

theorem running_of_g_eq_zero (h : s.g F.TICK_STAT_RUNNING = 0) : s.running = false := on_of_g_eq_zero h

/-! ## Values of a write -/

/-- Fields of words that agree in their bits are equal. -/
theorem bitsOf_congr {w w' : Word} {hi lo : Nat} (h : ∀ i, lo ≤ i → i ≤ hi → w.getLsbD i = w'.getLsbD i) :
    bitsOf w hi lo = bitsOf w' hi lo := by
  refine Nat.eq_of_testBit_eq fun i => ?_
  rw [testBit_bitsOf, testBit_bitsOf]
  by_cases hi' : i < hi + 1 - lo
  · rw [h (i + lo) (by omega) (by omega)]
  · simp [hi']

/-- A field that a write keeps has the value that the register holds. -/
theorem of_keep_self (s : State) (f : Fld) (v : Word) (h : f.hi < 32) : f.of (s.keep f v) = s.g f := by
  unfold Fld.of State.keep
  rw [bitsOf_putBits _ _ _ _ h]
  exact Nat.mod_eq_of_lt (bitsOf_lt _ _ _)

theorem of_keep_ne (s : State) (f f' : Fld) (v : Word) (h : f'.hi < f.lo ∨ f.hi < f'.lo) (h32 : f'.hi < 32) :
    f'.of (s.keep f v) = f'.of v := bitsOf_putBits_disjoint _ _ _ _ _ _ h h32

/-! ## Only some registers change -/

theorem onlyRegs.refl (s : State) (rs : List Nat) : onlyRegs s s rs := ⟨fun _ _ => rfl, fun _ => rfl⟩

section
variable {rs : List Nat} (h : onlyRegs r s rs)
include h

/-- Parts of the state beside registers and memory do not matter. -/
theorem onlyRegs.upd {pending latch out irq cl fc xg tm ft mx pr hs lv sp ng fb et br ck pw freeCtr} :
    onlyRegs r ⟨pending, s.regs, s.mem, latch, out, irq, cl, fc, xg, tm, ft, mx, pr, hs, lv, sp, ng, fb, et, br, ck, pw,
      freeCtr⟩ rs := h

theorem onlyRegs.wr {a : Nat} {v : Word} (ha : a ∈ rs) : onlyRegs r (s.wr a v) rs := by
  obtain ⟨hregs, hmem⟩ := h
  refine ⟨fun x hx => ?_, hmem⟩
  rw [rd_wr, if_neg (ne_of_mem_of_not_mem ha hx).symm, hregs x hx]

theorem onlyRegs.p {f : Fld} {v : Nat} (hf : f.reg ∈ rs) : onlyRegs r (s.p f v) rs := h.wr hf
theorem onlyRegs.flag {f : Fld} {b : Bool} (hf : f.reg ∈ rs) : onlyRegs r (s.flag f b) rs := h.p hf

theorem onlyRegs.ok : onlyRegs r s.ok rs := by
  obtain ⟨hregs, hmem⟩ := h
  exact ⟨fun x hx => (rd_ok s x).trans (hregs x hx), fun a => (byte_congr (ok_mem s) a).trans (hmem a)⟩

end

/-! ## Nothing but some registers and the answer changes -/

theorem confined.refl (s : State) (rs : List Nat) : confined s s rs := ⟨fun _ _ => rfl, rfl⟩

section
variable {rs : List Nat} (h : confined r s rs)
include h

theorem confined.wr {a : Nat} {v : Word} (ha : a ∈ rs) : confined r (s.wr a v) rs := by
  obtain ⟨hregs, hrest⟩ := h
  refine ⟨fun x hx => ?_, hrest⟩
  rw [rd_wr, if_neg (ne_of_mem_of_not_mem ha hx).symm, hregs x hx]

theorem confined.flag {f : Fld} {b : Bool} (hf : f.reg ∈ rs) : confined r (s.flag f b) rs := h.wr hf

theorem confined.ok : confined r s.ok rs := by
  obtain ⟨hregs, hrest⟩ := h
  have hok : s.ok = { s with out := s.out ++ [.resp false []] } := by simp [State.ok, State.send, Out.onBall]
  exact ⟨fun x hx => (rd_ok s x).trans (hregs x hx), by rw [hok]; exact hrest⟩

end

end Sys2Proof.Machine
end

section
/-!
SUPPORT. The device right after reset (R33, R37, R133, R176).
-/
namespace Sys2Proof.Machine

/-- Settles O7: reset lists no register and no byte, so each reads as the register tables give it. -/
theorem resetValuesAreTheSpecs : Obligations.ResetValuesAreTheSpecs := by
  have hrd : ∀ a, State.reset.rd a = resetWord a := fun _ => rfl
  unfold Obligations.ResetValuesAreTheSpecs
  simp only [State.fs, State.nSamp, State.g, hrd]
  refine ⟨?_, ?_, rfl, ?_, fun _ => rfl, ?_⟩
  · -- TICK_CFG.FS_SEL
    decide +kernel
  · -- TICK_CFG.N_LOG2
    decide +kernel
  · -- TICK_STAT.RUNNING
    decide +kernel
  · -- CHIP_ID, FCST_PCAP, FCST_TJ_SOFT, LEVEE_SEAL, PTP_RATE, PWR_RST_CAUSE
    decide +kernel

end Sys2Proof.Machine
end

section
/-!
SUPPORT. Writes of TICK_CFG, TICK_CTL and the forward setting of the counts (R33, R34, R39, R42 to R44).
-/
namespace Sys2Proof.Machine

variable {r s : State}

/-! ## What leaves the counts, the configuration and the status of ticks as they are

One rule per operation that a change of TICK_CFG reaches, named after it: `TickKept r s` passes on to the state that the operation
leaves. -/

/-- `t` has the tick number, the MTC, TICK_CFG and TICK_STAT of `r`. -/
structure TickKept (r t : State) : Prop where
  tick : t.tm.tick = r.tm.tick
  mtc : t.tm.mtc = r.tm.mtc
  cfg : t.rd R.TICK_CFG = r.rd R.TICK_CFG
  stat : t.rd R.TICK_STAT = r.rd R.TICK_STAT

/-- Whether `a` lies beside TICK_CFG, TICK_CTL and TICK_STAT. -/
def besideTick (a : Nat) : Bool := decide (a < 0x03070000) || decide (0x03070010 ≤ a)

theorem besideTick_iff (a : Nat) : besideTick a = true ↔ a < 0x03070000 ∨ 0x03070010 ≤ a := by simp [besideTick]

theorem ne_of_besideTick {a : Nat} (h : besideTick a = true) : R.TICK_CFG ≠ a ∧ R.TICK_STAT ≠ a := by
  rw [besideTick_iff] at h
  unfold R.TICK_CFG R.TICK_STAT
  omega

theorem besideTick_clkRefStat {n : Nat} (h : n < 16) : besideTick (R.CLK_REF_STAT n) = true :=
  (besideTick_iff _).mpr (by unfold R.CLK_REF_STAT; omega)

theorem besideTick_fabPortLoad (p : Nat) : besideTick (R.FAB_PORT_LOAD p) = true :=
  (besideTick_iff _).mpr (by unfold R.FAB_PORT_LOAD; omega)

theorem besideTick_fabFlowW0 (f : Nat) : besideTick (R.FAB_FLOW_W0 f) = true :=
  (besideTick_iff _).mpr (by unfold R.FAB_FLOW_W0; omega)

namespace TickKept

theorem refl (s : State) : TickKept s s := ⟨rfl, rfl, rfl, rfl⟩

theorem ite {c : Prop} [Decidable c] {t : State} (h : TickKept r s) (h' : TickKept r t) :
    TickKept r (if c then s else t) := by split <;> assumption

theorem foldlMem {α : Type} {f : State → α → State} {xs : List α} (h : TickKept r s)
    (hf : ∀ t, ∀ x ∈ xs, TickKept r t → TickKept r (f t x)) : TickKept r (xs.foldl f s) := by
  induction xs generalizing s with
  | nil => exact h
  | cons x xs ih =>
    exact ih (hf _ _ List.mem_cons_self h) fun t y hy => hf t y (List.mem_cons_of_mem x hy)

variable (h : TickKept r s)
include h

theorem wr {a : Nat} {v : Word} (ha : besideTick a = true) : TickKept r (s.wr a v) := by
  obtain ⟨hcfg, hstat⟩ := ne_of_besideTick ha
  obtain ⟨htick, hmtc, hc, hs⟩ := h
  exact ⟨htick, hmtc, by rw [rd_wr, if_neg hcfg, hc], by rw [rd_wr, if_neg hstat, hs]⟩

theorem p {f : Fld} {v : Nat} (hf : besideTick f.reg = true := by rfl) : TickKept r (s.p f v) := h.wr hf
theorem flag {f : Fld} {b : Bool} (hf : besideTick f.reg = true := by rfl) : TickKept r (s.flag f b) := h.p hf

/-! ### Crossings and references -/

theorem showOverload : TickKept r s.showOverload := h.flag

theorem xRecheck : TickKept r s.xRecheck := (h.p.flag).showOverload

theorem refAgree : TickKept r s.refAgree := h.flag.ite h

theorem showTimed : TickKept r s.showTimed := h.flag.p

theorem dpllGo {n : Nat} : TickKept r (s.dpllGo n) := (h.ite h.p.flag).showTimed.flag

theorem clkRateChange : TickKept r s.clkRateChange := by
  have hreset : TickKept r
      { s with ck := { s.ck with hist := 0, h := 0, hRun := false, freqs := [], pps := 0, predicted := [], outRange := []
                                 freq := 0, built := 0, measure := false, within := false } } :=
    ⟨h.tick, h.mtc, h.cfg, h.stat⟩
  have hcleared := ((hreset.wr (a := R.CLK_HIST) (v := 0) rfl).wr (a := R.CLK_HO_TIMER) (v := 0) rfl).flag
    (f := F.CLK_STAT_HIST_OK) (b := false)
  exact (hcleared.foldlMem fun t n hn ht =>
    have hr := besideTick_clkRefStat (List.mem_range.mp hn)
    (ht.flag (f := F.CLK_REF_STAT_QUALIFIED n) hr).p (f := F.CLK_REF_STAT_QUAL_LEFT n) hr).flag.refAgree.dpllGo

/-! ### Flows -/

theorem showLoads : TickKept r s.showLoads := h.foldlMem fun _ p _ ht => ht.p (besideTick_fabPortLoad p)

theorem flowsCleared : TickKept r s.flowsCleared := by
  have hflows := h.foldlMem (xs := s.flowIds) (f := fun s f => s.flag (F.FAB_FLOW_W0_VALID f) false)
    fun _ f _ ht => ht.flag (besideTick_fabFlowW0 f)
  have hact : TickKept r
      { s.flowIds.foldl (fun s f => s.flag (F.FAB_FLOW_W0_VALID f) false) s with
        fb := { (s.flowIds.foldl (fun s f => s.flag (F.FAB_FLOW_W0_VALID f) false) s).fb with act := [] } } :=
    ⟨hflows.tick, hflows.mtc, hflows.cfg, hflows.stat⟩
  exact hact.showLoads.flag

theorem cfgJudge : TickKept r s.cfgJudge := by
  unfold State.cfgJudge
  extract_lets other judged
  have hj : TickKept r judged := h.flag
  split
  · exact ⟨hj.tick, hj.mtc, hj.cfg, hj.stat⟩
  · exact hj

end TickKept

/-! ## TICK_CFG -/

/-- The value that a write of `v` to TICK_CFG gives: a reserved code keeps its field (R11). -/
def State.cfgTaken (s : State) (v : Word) : Word :=
  let v := if 6 ≤ F.TICK_CFG_FS_SEL.of v then s.keep F.TICK_CFG_FS_SEL v else v
  if 6 ≤ F.TICK_CFG_N_LOG2.of v then s.keep F.TICK_CFG_N_LOG2 v else v

theorem fsSel_cfgTaken (s : State) (v : Word) :
    F.TICK_CFG_FS_SEL.of (s.cfgTaken v) =
      if 6 ≤ F.TICK_CFG_FS_SEL.of v then s.g F.TICK_CFG_FS_SEL else F.TICK_CFG_FS_SEL.of v := by
  have hkeep : ∀ w, F.TICK_CFG_FS_SEL.of (s.keep F.TICK_CFG_N_LOG2 w) = F.TICK_CFG_FS_SEL.of w := fun w =>
    of_keep_ne s F.TICK_CFG_N_LOG2 F.TICK_CFG_FS_SEL w (.inr (by decide)) (by decide)
  unfold State.cfgTaken
  dsimp only
  rw [apply_ite F.TICK_CFG_FS_SEL.of, hkeep, ite_self, apply_ite F.TICK_CFG_FS_SEL.of,
    of_keep_self s F.TICK_CFG_FS_SEL v (by decide)]

theorem nLog2_cfgTaken (s : State) (v : Word) :
    F.TICK_CFG_N_LOG2.of (s.cfgTaken v) =
      if 6 ≤ F.TICK_CFG_N_LOG2.of v then s.g F.TICK_CFG_N_LOG2 else F.TICK_CFG_N_LOG2.of v := by
  have hkeep : F.TICK_CFG_N_LOG2.of (if 6 ≤ F.TICK_CFG_FS_SEL.of v then s.keep F.TICK_CFG_FS_SEL v else v) =
      F.TICK_CFG_N_LOG2.of v := by
    rw [apply_ite F.TICK_CFG_N_LOG2.of, of_keep_ne s F.TICK_CFG_FS_SEL F.TICK_CFG_N_LOG2 v (.inl (by decide)) (by decide),
      ite_self]
  unfold State.cfgTaken
  dsimp only
  rw [apply_ite F.TICK_CFG_N_LOG2.of, of_keep_self s F.TICK_CFG_N_LOG2 _ (by decide), hkeep]

/-- While ticks run or a start is pending, and where a tick would be shorter than 10 µs, the write is refused (R34, R42). -/
theorem tickCfgWrite_refused {v : Word} (h : s.running = true ∨ s.on F.TICK_STAT_START_PENDING = true ∨
    (F.TICK_CFG_N_LOG2.of (s.cfgTaken v) = 0 ∧ 4 ≤ F.TICK_CFG_FS_SEL.of (s.cfgTaken v))) :
    s.tickCfgWrite v = s.flag F.TICK_STAT_CFG_REFUSED true := if_pos h

/-- A refused write leaves TICK_CFG, sets CFG_REFUSED and is answered. -/
theorem cfgRefused_effect (s : State) :
    (s.flag F.TICK_STAT_CFG_REFUSED true).ok.rd R.TICK_CFG = s.rd R.TICK_CFG ∧
      (s.flag F.TICK_STAT_CFG_REFUSED true).ok.g F.TICK_STAT_CFG_REFUSED = 1 ∧
      (s.flag F.TICK_STAT_CFG_REFUSED true).ok.out = s.ok.out ∧
      confined s (s.flag F.TICK_STAT_CFG_REFUSED true).ok [R.TICK_STAT] :=
  ⟨by rw [rd_ok, rd_flag_ne s _ _ (by decide)], by rw [g_ok, g_flag_self s _ _ rfl (by decide)]; rfl, by simp,
    ((confined.refl s _).flag List.mem_cons_self).ok⟩

/-- A write of TICK_CFG by its fields, both RW. -/
theorem rd_fieldWrite_tickCfg (s : State) (v : Word) :
    (s.fieldWrite R.TICK_CFG v).rd R.TICK_CFG =
      putBits (putBits (s.rd R.TICK_CFG) 10 8 (F.TICK_CFG_FS_SEL.of v)) 2 0 (F.TICK_CFG_N_LOG2.of v) := by
  have hfields : fieldsAt R.TICK_CFG = [⟨10, 8, .rw⟩, ⟨2, 0, .rw⟩] := by decide +kernel
  unfold State.fieldWrite
  rw [hfields, rd_wr, if_pos rfl]
  rfl

theorem fsSel_fieldWrite_tickCfg (s : State) (v : Word) :
    (s.fieldWrite R.TICK_CFG v).g F.TICK_CFG_FS_SEL = F.TICK_CFG_FS_SEL.of v := by
  change bitsOf ((s.fieldWrite R.TICK_CFG v).rd R.TICK_CFG) 10 8 = _
  rw [rd_fieldWrite_tickCfg, bitsOf_putBits_disjoint _ _ _ _ _ _ (.inr (by decide)) (by decide),
    bitsOf_putBits _ _ _ _ (by decide)]
  exact Nat.mod_eq_of_lt (bitsOf_lt v 10 8)

theorem nLog2_fieldWrite_tickCfg (s : State) (v : Word) :
    (s.fieldWrite R.TICK_CFG v).g F.TICK_CFG_N_LOG2 = F.TICK_CFG_N_LOG2.of v := by
  change bitsOf ((s.fieldWrite R.TICK_CFG v).rd R.TICK_CFG) 2 0 = _
  rw [rd_fieldWrite_tickCfg, bitsOf_putBits _ _ _ _ (by decide)]
  exact Nat.mod_eq_of_lt (bitsOf_lt v 2 0)

/-- A write that is taken gives both fields, and what follows from a new rate or length leaves the counts and TICK_STAT. -/
theorem tickKept_tickCfgWrite {v : Word} (hrun : s.g F.TICK_STAT_RUNNING = 0)
    (hstart : s.g F.TICK_STAT_START_PENDING = 0) (hfs : F.TICK_CFG_FS_SEL.of v < 6) (hn : F.TICK_CFG_N_LOG2.of v < 6)
    (hlong : F.TICK_CFG_FS_SEL.of v < 4 ∨ 0 < F.TICK_CFG_N_LOG2.of v) :
    TickKept (s.fieldWrite R.TICK_CFG v) (s.tickCfgWrite v) := by
  have htaken : ¬ (s.running = true ∨ s.on F.TICK_STAT_START_PENDING = true ∨
      (F.TICK_CFG_N_LOG2.of v = 0 ∧ 4 ≤ F.TICK_CFG_FS_SEL.of v)) := by
    rw [running_of_g_eq_zero hrun, on_of_g_eq_zero hstart]
    simp only [Bool.false_eq_true, false_or]
    omega
  unfold State.tickCfgWrite
  dsimp only
  rw [if_neg (by omega : ¬ 6 ≤ F.TICK_CFG_FS_SEL.of v), if_neg (by omega : ¬ 6 ≤ F.TICK_CFG_N_LOG2.of v), if_neg htaken]
  have hrate := (TickKept.refl (s.fieldWrite R.TICK_CFG v)).ite (c := F.TICK_CFG_FS_SEL.of v = s.g F.TICK_CFG_FS_SEL)
    (TickKept.refl _).clkRateChange
  generalize (if F.TICK_CFG_FS_SEL.of v = s.g F.TICK_CFG_FS_SEL then s.fieldWrite R.TICK_CFG v
    else (s.fieldWrite R.TICK_CFG v).clkRateChange) = u at hrate
  have hdirty : TickKept (s.fieldWrite R.TICK_CFG v)
      { u with tm := { u.tm with fsNew := F.TICK_CFG_FS_SEL.of v != s.tm.fs }, pr := { u.pr with sigDirty := true } } :=
    ⟨hrate.tick, hrate.mtc, hrate.cfg, hrate.stat⟩
  exact hdirty.xRecheck.flowsCleared.cfgJudge

theorem exec_tickCfgWrite (v : Word) (s : State) : exec (.tickCfgWrite v) s = .next (s.tickCfgWrite v).ok := rfl

/-! ## TICK_CTL -/

/-- A worker whose start is pending moves on to the time of its manager, or shows that its MTC is ahead. -/
theorem workerStart_eq (s : State) : s.workerStart = s ∨
    ∃ a b, s.workerStart = ({ s with tm := { s.tm with aligned := a } } : State).flag F.TICK_STAT_MTC_AHEAD b := by
  unfold State.workerStart
  split_ifs
  · exact .inl rfl
  split
  · split
    · split_ifs
      · exact .inr ⟨_, _, rfl⟩
      · exact .inl rfl
    · exact .inl rfl
  · exact .inl rfl

theorem g_workerStart (s : State) {f : Fld} (h : f.reg ≠ R.TICK_STAT ∨ f.hi < 9 ∨ 9 < f.lo) (h32 : f.hi < 32) :
    s.workerStart.g f = s.g f := by
  obtain he | ⟨a, b, he⟩ := workerStart_eq s
  · rw [he]
  · rw [he]; exact g_flag_ne _ F.TICK_STAT_MTC_AHEAD f b h h32

theorem onlyRegs.workerStart {rs : List Nat} (h : onlyRegs r s rs) (hrs : R.TICK_STAT ∈ rs) : onlyRegs r s.workerStart rs := by
  obtain he | ⟨a, b, he⟩ := workerStart_eq s
  · rwa [he]
  · rw [he]; exact onlyRegs.flag h hrs

/-- The start that a write of RUN = 1 makes pending while ticks are stopped (R43). -/
def State.startAsked (s : State) (mid : Bool) : State :=
  let t := (((s.flag F.TICK_CTL_RUN true).flag F.TICK_STAT_START_PENDING true).p F.PWR_STAT_STATE 2).wakeHeld
  { t with tm := { t.tm with startMtc := t.tm.mtc.toNat, startMid := mid, aligned := false } }

theorem g_startAsked (s : State) (mid : Bool) (f : Fld) : (s.startAsked mid).g f =
    (((s.flag F.TICK_CTL_RUN true).flag F.TICK_STAT_START_PENDING true).p F.PWR_STAT_STATE 2).g f := rfl

theorem g_startAsked_run (s : State) (mid : Bool) : (s.startAsked mid).g F.TICK_CTL_RUN = 1 := by
  rw [g_startAsked, g_p_ne _ _ _ _ (.inl (by decide)) (by decide), g_flag_ne _ _ _ _ (.inl (by decide)) (by decide),
    g_flag_self _ _ _ rfl (by decide)]
  rfl

theorem g_startAsked_pending (s : State) (mid : Bool) : (s.startAsked mid).g F.TICK_STAT_START_PENDING = 1 := by
  rw [g_startAsked, g_p_ne _ _ _ _ (.inl (by decide)) (by decide), g_flag_self _ _ _ rfl (by decide)]
  rfl

theorem g_startAsked_state (s : State) (mid : Bool) : (s.startAsked mid).g F.PWR_STAT_STATE = 2 := by
  rw [g_startAsked, g_p_self _ _ _ (by decide)]
  rfl

theorem g_startAsked_running (s : State) (mid : Bool) :
    (s.startAsked mid).g F.TICK_STAT_RUNNING = s.g F.TICK_STAT_RUNNING := by
  rw [g_startAsked, g_p_ne _ _ _ _ (.inl (by decide)) (by decide),
    g_flag_ne _ F.TICK_STAT_START_PENDING _ _ (.inr (.inl (by decide))) (by decide),
    g_flag_ne _ _ _ _ (.inl (by decide)) (by decide)]

theorem onlyRegs_startAsked (s : State) (mid : Bool) :
    onlyRegs s (s.startAsked mid) [R.TICK_CTL, R.TICK_STAT, R.PWR_STAT] := by
  have hwritten : onlyRegs s (((s.flag F.TICK_CTL_RUN true).flag F.TICK_STAT_START_PENDING true).p F.PWR_STAT_STATE 2)
      [R.TICK_CTL, R.TICK_STAT, R.PWR_STAT] :=
    (((onlyRegs.refl s _).flag (by decide)).flag (by decide)).p (by decide)
  exact hwritten.upd

theorem running_flag_run (s : State) (b : Bool) : (s.flag F.TICK_CTL_RUN b).running = s.running :=
  congrArg (· != 0) (g_flag_ne s F.TICK_CTL_RUN F.TICK_STAT_RUNNING b (.inl (by decide)) (by decide))

theorem tickCtlWrite_start {mid : Bool} (hrun : s.g F.TICK_CTL_RUN = 0) (hstop : s.g F.TICK_STAT_RUNNING = 0) :
    s.tickCtlWrite 1#32 mid = (s.startAsked mid).workerStart := by
  unfold State.tickCtlWrite
  rw [on_of_g_eq_zero hrun, if_neg (by decide), if_pos (by decide)]
  dsimp only
  rw [running_flag_run, running_of_g_eq_zero hstop]
  rfl

/-- RUN set again before the tick ends cancels the stop (R44). -/
theorem tickCtlWrite_again {mid : Bool} (hrun : s.g F.TICK_CTL_RUN = 0) (hgo : s.g F.TICK_STAT_RUNNING = 1) :
    s.tickCtlWrite 1#32 mid = s.flag F.TICK_CTL_RUN true := by
  unfold State.tickCtlWrite
  rw [on_of_g_eq_zero hrun, if_neg (by decide), if_pos (by decide)]
  dsimp only
  rw [running_flag_run, running_of_g_eq_one hgo]
  rfl

/-- RUN and a pending start are cleared (R44). -/
def State.startDropped (s : State) : State := (s.flag F.TICK_CTL_RUN false).flag F.TICK_STAT_START_PENDING false

theorem g_startDropped_run (s : State) : s.startDropped.g F.TICK_CTL_RUN = 0 :=
  (g_flag_ne _ F.TICK_STAT_START_PENDING F.TICK_CTL_RUN false (.inl (by decide)) (by decide)).trans
    (g_flag_self s F.TICK_CTL_RUN false rfl (by decide))

theorem g_startDropped_pending (s : State) : s.startDropped.g F.TICK_STAT_START_PENDING = 0 :=
  g_flag_self _ F.TICK_STAT_START_PENDING false rfl (by decide)

theorem g_startDropped_running (s : State) : s.startDropped.g F.TICK_STAT_RUNNING = s.g F.TICK_STAT_RUNNING :=
  (g_flag_ne _ F.TICK_STAT_START_PENDING F.TICK_STAT_RUNNING false (.inr (.inl (by decide))) (by decide)).trans
    (g_flag_ne s F.TICK_CTL_RUN F.TICK_STAT_RUNNING false (.inl (by decide)) (by decide))

theorem onlyRegs_startDropped {rs : List Nat} (hctl : R.TICK_CTL ∈ rs) (hstat : R.TICK_STAT ∈ rs) :
    onlyRegs s s.startDropped rs := ((onlyRegs.refl s rs).flag hctl).flag hstat

theorem tickCtlWrite_stop (hrun : s.g F.TICK_CTL_RUN = 1) :
    s.tickCtlWrite 0#32 =
      let t := if s.running then s.startDropped else s.startDropped.p F.PWR_STAT_STATE 1
      { t with tm := { t.tm with aligned := false } } := by
  unfold State.tickCtlWrite
  rw [on_of_g_eq_one hrun, if_neg (by decide), if_neg (by decide)]
  dsimp only
  rw [show s.running = s.startDropped.running from congrArg (· != 0) (g_startDropped_running s).symm]
  rfl

/-! ## The commands -/

theorem exec_tickRun_stopped {mid : Bool} (hrun : s.g F.TICK_CTL_RUN = 0) (hstop : s.g F.TICK_STAT_RUNNING = 0) :
    exec (.tickRun mid) s = .next (s.startAsked mid).workerStart.ok :=
  congrArg (fun t : State => Host.Outcome.next t.ok) (tickCtlWrite_start hrun hstop)

theorem exec_tickRun_again {mid : Bool} (hrun : s.g F.TICK_CTL_RUN = 0) (hgo : s.g F.TICK_STAT_RUNNING = 1) :
    exec (.tickRun mid) s = .next (s.flag F.TICK_CTL_RUN true).ok :=
  congrArg (fun t : State => Host.Outcome.next t.ok) (tickCtlWrite_again hrun hgo)

theorem exec_tickStop_running (hrun : s.g F.TICK_CTL_RUN = 1) (hgo : s.g F.TICK_STAT_RUNNING = 1) :
    exec .tickStop s = .next ({ s.startDropped with tm := { s.startDropped.tm with aligned := false } } : State).ok := by
  refine congrArg (fun t : State => Host.Outcome.next t.ok) ((tickCtlWrite_stop hrun).trans ?_)
  rw [running_of_g_eq_one hgo]
  rfl

theorem exec_tickStop_pending (hrun : s.g F.TICK_CTL_RUN = 1) (hstop : s.g F.TICK_STAT_RUNNING = 0) :
    exec .tickStop s = .next ({ s.startDropped.p F.PWR_STAT_STATE 1 with
      tm := { s.startDropped.tm with aligned := false } } : State).ok := by
  refine congrArg (fun t : State => Host.Outcome.next t.ok) ((tickCtlWrite_stop hrun).trans ?_)
  rw [running_of_g_eq_zero hstop]
  rfl

/-- A count is loaded while ticks are stopped, and not lowered (R39). -/
theorem mtcSet_taken {v : Word} (hstop : s.g F.TICK_STAT_RUNNING = 0) (hle : s.tm.mtc.toNat ≤ (v ++ s.tm.mtcSetLo).toNat) :
    s.mtcSet v = { s with tm := { s.tm with
      mtc := v ++ s.tm.mtcSetLo, startMtc := (v ++ s.tm.mtcSetLo).toNat - (s.tm.mtc.toNat - s.tm.startMtc) } } :=
  if_neg (by rw [running_of_g_eq_zero hstop]; simpa using hle)

theorem tickSet_taken {v : Word} (hstop : s.g F.TICK_STAT_RUNNING = 0)
    (hle : s.tm.tick.toNat ≤ (v ++ s.tm.tickSetLo).toNat) :
    s.tickSet v = { s with tm := { s.tm with tick := v ++ s.tm.tickSetLo } } :=
  if_neg (by rw [running_of_g_eq_zero hstop]; simpa [State.tick] using hle)

theorem mtcSet_refused {v : Word} (h : s.g F.TICK_STAT_RUNNING = 1 ∨ (v ++ s.tm.mtcSetLo).toNat < s.tm.mtc.toNat) :
    s.mtcSet v = s.flag F.TICK_STAT_SET_REFUSED true := if_pos (h.imp_left running_of_g_eq_one)

theorem tickSet_refused {v : Word} (h : s.g F.TICK_STAT_RUNNING = 1 ∨ (v ++ s.tm.tickSetLo).toNat < s.tm.tick.toNat) :
    s.tickSet v = s.flag F.TICK_STAT_SET_REFUSED true := if_pos (h.imp_left running_of_g_eq_one)

/-- A refused setting of a count sets SET_REFUSED and is answered. -/
theorem setRefused_effect (s : State) : (s.flag F.TICK_STAT_SET_REFUSED true).ok.g F.TICK_STAT_SET_REFUSED = 1 ∧
    confined s (s.flag F.TICK_STAT_SET_REFUSED true).ok [R.TICK_STAT] :=
  ⟨by rw [g_ok, g_flag_self s _ _ rfl (by decide)]; rfl, ((confined.refl s _).flag List.mem_cons_self).ok⟩

theorem exec_mtcSet (v : Word) (s : State) : exec (.mtcSet v) s = .next (s.mtcSet v).ok := rfl
theorem exec_tickSet (v : Word) (s : State) : exec (.tickSet v) s = .next (s.tickSet v).ok := rfl

/-! ## The statements -/

/-- Settles O11: with reserved codes kept, the value written selects the short tick, which R34 refuses. -/
theorem shortTicksAreRefused : Obligations.ShortTicksAreRefused := by
  unfold Obligations.ShortTicksAreRefused
  rintro v n fs s ⟨hn, hfs⟩ ⟨hshort, hrate⟩
  have hrefused : s.tickCfgWrite v = s.flag F.TICK_STAT_CFG_REFUSED true := by
    refine tickCfgWrite_refused (.inr (.inr ⟨?_, ?_⟩))
    · rw [nLog2_cfgTaken, ← hn, hshort]
    · rw [fsSel_cfgTaken, ← hfs]; omega
  exact ⟨_, (exec_tickCfgWrite v s).trans (by rw [hrefused]), cfgRefused_effect s⟩

/-- Settles O14: each clause is the rule of one write, taken or refused, with the frame of what it leaves. -/
theorem tickConfigurationAndStart : Obligations.TickConfigurationAndStart := by
  unfold Obligations.TickConfigurationAndStart
  refine ⟨?_, ?_, ?_, ?_, ?_, ?_, ?_, ?_, ?_, ?_⟩
  · -- TICK_CFG_WRITE
    intro v s hrun hstart hfs hn hlong
    obtain ⟨htick, hmtc, hcfg, hstat⟩ := tickKept_tickCfgWrite hrun hstart hfs hn hlong
    refine ⟨_, exec_tickCfgWrite v s, ?_, ?_, ?_, ?_, ?_⟩
    · rw [g_ok, g_of_rd (f := F.TICK_CFG_FS_SEL) hcfg, fsSel_fieldWrite_tickCfg]
    · rw [g_ok, g_of_rd (f := F.TICK_CFG_N_LOG2) hcfg, nLog2_fieldWrite_tickCfg]
    · have hkept : (s.fieldWrite R.TICK_CFG v).rd R.TICK_STAT = s.rd R.TICK_STAT := by
        rw [State.fieldWrite, rd_wr, if_neg (by decide)]
      rw [g_ok, g_of_rd (f := F.TICK_STAT_CFG_REFUSED) (hstat.trans hkept)]
    · rw [ok_tm, htick]; rfl
    · rw [ok_tm, hmtc]; rfl
  · -- TICK_CFG_WRITE while ticks run or a start is pending
    intro v s h
    have hrefused : s.tickCfgWrite v = s.flag F.TICK_STAT_CFG_REFUSED true :=
      tickCfgWrite_refused (h.imp running_of_g_eq_one fun hp => .inl (on_of_g_eq_one hp))
    obtain ⟨hcfg, hflag, -, hframe⟩ := cfgRefused_effect s
    exact ⟨_, (exec_tickCfgWrite v s).trans (by rw [hrefused]), hcfg, hflag, hframe⟩
  · -- TICK_RUN
    intro mid s hrun hstop
    refine ⟨_, exec_tickRun_stopped hrun hstop, ?_, ?_, ?_, ?_, ?_⟩
    · rw [g_ok, g_workerStart _ (.inl (by decide)) (by decide), g_startAsked_run]
    · rw [g_ok, g_workerStart _ (.inr (.inr (by decide))) (by decide), g_startAsked_pending]
    · rw [g_ok, g_workerStart _ (.inl (by decide)) (by decide), g_startAsked_state]
    · rw [g_ok, g_workerStart _ (.inr (.inl (by decide))) (by decide), g_startAsked_running, hstop]
    · exact ((onlyRegs_startAsked s mid).workerStart (by decide)).ok
  · -- TICK_RUN that cancels a stop
    intro mid s hrun hgo
    refine ⟨_, exec_tickRun_again hrun hgo, ?_, ?_, ((confined.refl s _).flag List.mem_cons_self).ok⟩
    · rw [g_ok, g_flag_self s _ _ rfl (by decide)]; rfl
    · rw [g_ok, g_flag_ne s _ _ _ (.inl (by decide)) (by decide), hgo]
  · -- TICK_STOP while ticks run
    intro s hrun hgo
    refine ⟨_, exec_tickStop_running hrun hgo, ?_, ?_, ?_⟩
    · rw [g_ok]
      exact g_startDropped_run s
    · rw [g_ok]
      exact (g_startDropped_running s).trans hgo
    · exact (onlyRegs.upd (onlyRegs_startDropped (by decide) (by decide))).ok
  · -- TICK_STOP of a pending start
    intro s hrun hstop
    refine ⟨_, exec_tickStop_pending hrun hstop, ?_, ?_, ?_, ?_⟩
    · rw [g_ok]
      exact (g_p_ne _ F.PWR_STAT_STATE F.TICK_CTL_RUN 1 (.inl (by decide)) (by decide)).trans (g_startDropped_run s)
    · rw [g_ok]
      exact (g_p_ne _ F.PWR_STAT_STATE F.TICK_STAT_START_PENDING 1 (.inl (by decide)) (by decide)).trans
        (g_startDropped_pending s)
    · rw [g_ok]
      exact g_p_self _ F.PWR_STAT_STATE 1 (by decide)
    · exact (onlyRegs.upd ((onlyRegs_startDropped (by decide) (by decide)).p (by decide))).ok
  · -- MTC_SET
    intro v s hstop hle
    refine ⟨_, (exec_mtcSet v s).trans (by rw [mtcSet_taken hstop hle]), by simp, by simp, ?_⟩
    exact (onlyRegs.refl s _).upd.ok
  · -- MTC_SET refused
    exact fun v s h => ⟨_, (exec_mtcSet v s).trans (by rw [mtcSet_refused h]), setRefused_effect s⟩
  · -- TICK_SET
    intro v s hstop hle
    refine ⟨_, (exec_tickSet v s).trans (by rw [tickSet_taken hstop hle]), by simp, by simp, ?_⟩
    exact (onlyRegs.refl s _).upd.ok
  · -- TICK_SET refused
    exact fun v s h => ⟨_, (exec_tickSet v s).trans (by rw [tickSet_refused h]), setRefused_effect s⟩

end Sys2Proof.Machine
end

section
/-!
SUPPORT. Arming and disarming a scheduled action (R62, R65).
-/
namespace Sys2Proof.Machine

variable {s : State}

/-! ## An entry of the table -/

theorem rd_setSched (s : State) (ptp : Bool) (n st type arg : Nat) :
    (s.setSched ptp n st type arg).rd (schedAct ptp n) = BitVec.ofNat 32 (st * 2 ^ 29 + type * 2 ^ 24 + arg) := by
  rw [State.setSched, rd_wr, if_pos rfl]

section
variable {ptp : Bool} {n st type arg : Nat}

theorem schedState_setSched (hst : st < 8) (htype : type < 16) (harg : arg < 2 ^ 16) :
    (s.setSched ptp n st type arg).schedState ptp n = st := by
  rw [State.schedState, rd_setSched]
  simp only [bitsOf, BitVec.toNat_ofNat]
  omega

theorem schedType_setSched (htype : type < 16) (harg : arg < 2 ^ 16) :
    (s.setSched ptp n st type arg).schedType ptp n = type := by
  rw [State.schedType, rd_setSched]
  simp only [bitsOf, BitVec.toNat_ofNat]
  omega

theorem schedArg_setSched (harg : arg < 2 ^ 16) :
    (s.setSched ptp n st type arg).schedArg ptp n = arg := by
  rw [State.schedArg, rd_setSched]
  simp only [bitsOf, BitVec.toNat_ofNat]
  omega

end

/-- The entries of TIME_SCHED stand beside TICK_STAT. -/
theorem timeSchedAct_ne_tickStat (n : Nat) : R.TIME_SCHED_ACT n ≠ R.TICK_STAT := by
  unfold R.TIME_SCHED_ACT R.TICK_STAT
  omega

/-! ## The value of a write -/

theorem getLsbD_armed (v : Word) : (v ||| 0x10000000#32).getLsbD 28 = true := by
  rw [BitVec.getLsbD_or, show (0x10000000#32).getLsbD 28 = true by decide, Bool.or_true]

/-- ARM at 1 leaves TYPE and ARG of a value. -/
theorem bitsOf_armed (v : Word) {hi lo : Nat} (h : hi < 28) : bitsOf (v ||| 0x10000000#32) hi lo = bitsOf v hi lo := by
  refine bitsOf_congr fun i _ hi' => ?_
  rw [show (0x10000000#32 : Word) = BitVec.twoPow 32 28 by decide, BitVec.getLsbD_or, BitVec.getLsbD_twoPow]
  simp [show ¬ 28 = i by omega]

/-- A value with ARG alone. -/
theorem getLsbD_argOnly (v : Word) (i : Nat) : (v &&& 0x0000FFFF#32).getLsbD i = (decide (i < 16) && v.getLsbD i) := by
  rw [show (0x0000FFFF#32 : Word) = BitVec.ofNat 32 (2 ^ 16 - 1) by decide, BitVec.getLsbD_and, BitVec.getLsbD_ofNat,
    Nat.testBit_two_pow_sub_one, Bool.and_comm]
  by_cases h : i < 16
  · simp [h, show i < 32 by omega]
  · simp [h]

theorem type_argOnly (v : Word) : bitsOf (v &&& 0x0000FFFF#32) 27 24 = 0 := by
  refine (bitsOf_congr (w' := 0) fun i hlo _ => ?_).trans rfl
  rw [getLsbD_argOnly, decide_eq_false (by omega), Bool.false_and, BitVec.ofNat_eq_ofNat, BitVec.getLsbD_zero]

theorem arg_argOnly (v : Word) : bitsOf (v &&& 0x0000FFFF#32) 15 0 = bitsOf v 15 0 :=
  bitsOf_congr fun i _ hi => by rw [getLsbD_argOnly, decide_eq_true (by omega), Bool.true_and]

/-! ## The write of an entry -/

/-- Entry `n` is armed for tick `tgt`. -/
def State.withTgt (s : State) (n tgt : Nat) : State :=
  { s with tm := { s.tm with schedTgt := SMap.set zeroN s.tm.schedTgt n tgt } }

@[simp] theorem armedTgt_withTgt (s : State) (n tgt : Nat) : (s.withTgt n tgt).armedTgt false n = tgt := by
  simp [State.armedTgt, State.withTgt]

theorem armedTgt_ok (s : State) (ptp : Bool) (n : Nat) : s.ok.armedTgt ptp n = s.armedTgt ptp n := by
  simp [State.armedTgt]

@[simp] theorem g_withTgt (s : State) (n tgt : Nat) (f : Fld) : (s.withTgt n tgt).g f = s.g f := rfl

theorem onlyRegs.withTgt {r s : State} {rs : List Nat} {n tgt : Nat} (h : onlyRegs r s rs) : onlyRegs r (s.withTgt n tgt) rs :=
  h.upd

section
variable {n : Nat} {v : Word}

/-- An ARMED entry keeps its values when it is armed again. -/
theorem schedWrite_armed_again (harmed : s.schedState false n = 1) (harm : v.getLsbD 28 = true) :
    s.schedWrite false n v = s.schedRefused := by
  unfold State.schedWrite
  dsimp only
  rw [if_pos harmed, if_neg (by rw [harm]; simp)]

theorem schedWrite_disarm (harmed : s.schedState false n = 1) (harm : v.getLsbD 28 = false) (htype : bitsOf v 27 24 = 0) :
    s.schedWrite false n v = s.setSched false n 0 0 (bitsOf v 15 0) := by
  unfold State.schedWrite
  dsimp only
  rw [if_pos harmed, if_pos ⟨by rw [harm]; rfl, htype⟩]

/-- A target of the next tick or earlier is refused (R62). -/
theorem schedWrite_late (hidle : s.schedState false n ≠ 1) (harm : v.getLsbD 28 = true)
    (hlate : s.writtenTgt false n < s.tick + 2) :
    s.schedWrite false n v = (s.setSched false n 3
      (if 6 ≤ bitsOf v 27 24 then s.schedType false n else bitsOf v 27 24) (bitsOf v 15 0)).schedRefused := by
  unfold State.schedWrite
  simp only [Bool.false_eq_true, if_false, harm, Bool.not_true]
  rw [if_neg hidle, if_pos (.inl (decide_eq_true hlate))]

theorem schedWrite_arm (hidle : s.schedState false n ≠ 1) (harm : v.getLsbD 28 = true)
    (hahead : s.tick + 2 ≤ s.writtenTgt false n) (htype : 0 < bitsOf v 27 24 ∧ bitsOf v 27 24 < 6)
    (harg : argSuits (bitsOf v 27 24) (bitsOf v 15 0) = true)
    (honce : s.schedTwice false n (bitsOf v 27 24) (bitsOf v 15 0) (s.writtenTgt false n) = false) :
    s.schedWrite false n v =
      (s.setSched false n 1 (bitsOf v 27 24) (bitsOf v 15 0)).withTgt n (s.writtenTgt false n) := by
  obtain ⟨hsome, hknown⟩ := htype
  have hearly : decide (s.writtenTgt false n < s.tick + 2) = false := decide_eq_false (Nat.not_lt.mpr hahead)
  unfold State.schedWrite
  simp only [Bool.false_eq_true, if_false, harm, Bool.not_true, hearly, harg, honce, false_or, or_false]
  rw [if_neg hidle, if_neg (by omega)]
  rfl

end

theorem exec_schedArm (n : Fin 32) (v : Word) (s : State) :
    exec (.schedArm n v) s = .next (s.schedWrite false n (v ||| 0x10000000#32)).ok := rfl

theorem exec_schedDisarm (n : Fin 32) (v : Word) (s : State) :
    exec (.schedDisarm n v) s = .next (s.schedWrite false n (v &&& 0x0000FFFF#32)).ok := rfl

/-- Settles O16: each clause is one way in which a write of an entry is taken or refused, with the fields of the entry it leaves. -/
theorem scheduledActionsArmAndDisarm : Obligations.ScheduledActionsArmAndDisarm := by
  have harg16 : ∀ v : Word, bitsOf v 15 0 < 2 ^ 16 := fun v => bitsOf_lt v 15 0
  unfold Obligations.ScheduledActionsArmAndDisarm
  refine ⟨?_, ?_, ?_, ?_⟩
  · -- SCHED_ARM
    intro n v s hidle hahead htype hsuits honce
    have hknown : 0 < bitsOf v 27 24 ∧ bitsOf v 27 24 < 6 := by
      simp only [List.mem_cons, List.not_mem_nil, or_false] at htype
      omega
    have htype16 : bitsOf v 27 24 < 16 := by omega
    rw [← bitsOf_armed (hi := 27) (lo := 24) v (by decide)] at hknown hsuits honce
    rw [← bitsOf_armed (hi := 15) (lo := 0) v (by decide)] at hsuits honce
    have hwrite := schedWrite_arm hidle (getLsbD_armed v) hahead hknown hsuits honce
    rw [bitsOf_armed v (by decide), bitsOf_armed v (by decide)] at hwrite
    refine ⟨_, (exec_schedArm n v s).trans (by rw [hwrite]), ?_, ?_, ?_, ?_, ?_⟩
    · rw [g_ok, g_withTgt]; exact schedState_setSched (by decide) htype16 (harg16 v)
    · rw [g_ok, g_withTgt]; exact schedType_setSched htype16 (harg16 v)
    · rw [g_ok, g_withTgt]; exact schedArg_setSched (harg16 v)
    · rw [armedTgt_ok, armedTgt_withTgt]
    · exact ((onlyRegs.refl s _).wr List.mem_cons_self).withTgt.ok
  · -- SCHED_ARM too late
    intro n v s hidle hlate
    have htype16 : (if 6 ≤ bitsOf (v ||| 0x10000000#32) 27 24 then s.schedType false n
        else bitsOf (v ||| 0x10000000#32) 27 24) < 16 := by
      split
      · exact bitsOf_lt _ 27 24
      · omega
    refine ⟨_, (exec_schedArm n v s).trans (by rw [schedWrite_late hidle (getLsbD_armed v) hlate]), ?_, ?_, ?_⟩
    · rw [g_ok, State.schedRefused, g_flag_ne _ _ _ _ (.inl (timeSchedAct_ne_tickStat n)) (Nat.lt_succ_self 31)]
      exact schedState_setSched (by decide) htype16 (harg16 _)
    · rw [g_ok, State.schedRefused, g_flag_self _ _ _ rfl (by decide)]; rfl
    · exact (((confined.refl s _).wr List.mem_cons_self).flag (List.mem_cons_of_mem _ List.mem_cons_self)).ok
  · -- SCHED_ARM of an ARMED entry
    intro n v s harmed
    refine ⟨_, (exec_schedArm n v s).trans (by rw [schedWrite_armed_again harmed (getLsbD_armed v)]), ?_, ?_, ?_⟩
    · rw [rd_ok, State.schedRefused, rd_flag_ne _ _ _ (timeSchedAct_ne_tickStat n)]
    · rw [g_ok, State.schedRefused, g_flag_self _ _ _ rfl (by decide)]; rfl
    · exact ((confined.refl s _).flag List.mem_cons_self).ok
  · -- SCHED_DISARM
    intro n v s harmed
    have hwrite := schedWrite_disarm harmed (getLsbD_argOnly v 28) (type_argOnly v)
    rw [arg_argOnly] at hwrite
    refine ⟨_, (exec_schedDisarm n v s).trans (by rw [hwrite]), ?_, ?_, ?_, ?_⟩
    · rw [g_ok]; exact schedState_setSched (by decide) (by decide) (harg16 v)
    · rw [g_ok]; exact schedType_setSched (by decide) (harg16 v)
    · rw [g_ok]; exact schedArg_setSched (harg16 v)
    · exact ((confined.refl s _).wr List.mem_cons_self).ok

end Sys2Proof.Machine
end

section
/-!
SUPPORT. Two conditions that the statements about the marks of a tick leave out: that a device which counts sample periods is not
DORMANT, and that no access waits for the mark.
-/
namespace Sys2Proof.Machine

/-! ## A sample boundary of a DORMANT device (log entry 2) -/

/-- While device reset is held or the device is DORMANT no sample period begins. -/
theorem exec_sampleBoundary_of_stopped {s : State} (h : s.pw.held = true ∨ s.pw.dormant = true) :
    exec .sampleBoundary s = .next s := if_pos (.inr h)

/-- A DORMANT device whose ticks run, from tick number 0 on. The model does not keep TICK_RUN and TICK_BOUNDARY from starting a run in
DORMANT: the environment is to send none there. -/
def dormantWhileRunning : State :=
  { State.reset.flag F.TICK_STAT_RUNNING true with pw := { Pwr.reset with dormant := true } }

/-- Refutes O12: its clause for SAMPLE_BOUNDARY lacks the condition that the device is not DORMANT. In `dormantWhileRunning` the MTC
stands at 0, before the next boundary at MTC 4, and a sample boundary leaves it there. -/
theorem not_tickBoundariesCountTicks : ¬ Obligations.TickBoundariesCountTicks := by
  unfold Obligations.TickBoundariesCountTicks
  rintro ⟨-, -, -, hsample⟩
  obtain ⟨t, hexec, hmtc, -⟩ := hsample dormantWhileRunning (by decide +kernel) (by decide +kernel)
  obtain rfl := Host.Outcome.next.inj ((exec_sampleBoundary_of_stopped (.inr rfl)).symm.trans hexec)
  exact absurd hmtc (by decide)

/-! ## An access that waits for the 0.90T mark (R326, log entry 42) -/

/-- The distribute of a running tick is late. The control core has opened a locked sequence of one access, whose read of a bank of
cluster data waits for the end of the distribute phase; behind it waits the core's write of 1 to TICK_STAT.DIST_LATE, a W1C bit. -/
def clearWaitsForConsign : State :=
  { State.reset.flag F.TICK_STAT_RUNNING true with
    tm := { TimeUnit.reset with phase := .distribute }
    xg := { Xing.reset with late := true }
    mx := { Mtx.reset with
      lockLeft := 1
      hung := [⟨35, 0x01000000, false, none, 4, .bus true⟩, ⟨36, R.TICK_STAT, false, some 0x20#32, 4, .bus true⟩] } }

/-- After the mark the accesses that waited for it go on, and the write clears what the mark has set. -/
theorem distLate_go_clearWaits : (clearWaitsForConsign.consignPhase 0).go.g F.TICK_STAT_DIST_LATE = 0 := by
  decide +kernel

/-- Refutes O13: its clause for a late distribute lacks the condition that no access waits. In `clearWaitsForConsign` the 0.90T mark
sets DIST_LATE and ends the phase that the core's accesses wait for, so CONSIGN_PHASE performs the write that clears DIST_LATE. -/
theorem not_phaseMarksMoveTheTickOn : ¬ Obligations.PhaseMarksMoveTheTickOn := by
  unfold Obligations.PhaseMarksMoveTheTickOn
  rintro ⟨-, -, -, -, -, hlate⟩
  obtain ⟨t, hexec, -, -, hset, -⟩ := hlate 0 clearWaitsForConsign (by decide +kernel) rfl rfl (by decide +kernel)
  have ht : (clearWaitsForConsign.consignPhase 0).go = t := Host.Outcome.next.inj hexec
  rw [← ht, distLate_go_clearWaits] at hset
  exact absurd hset (by decide)

end Sys2Proof.Machine
end

section
/-!
SUPPORT. The word that a cluster issues: its fetch (R131, R132) and what the fetch leaves unchanged.
-/
namespace Sys2Proof.Machine

variable (s : State)

/-! ## A read of a word (R312) -/

/-- What a checked read of the word at `a` gives: the word, and whether it is uncorrectable. -/
def State.checkedWord (a : Nat) : Word × Bool :=
  if (memOf a).isSome then if s.eccAt a < 2 then (s.word a, false) else (0, true) else (0, false)

/-- A read gives the checked word. -/
theorem readW_snd (a : Nat) : (s.readW a).2 = s.checkedWord a := by
  unfold State.readW State.checkedWord
  cases hm : memOf a with
  | none => rfl
  | some m =>
    obtain ⟨k, x⟩ := m
    simp only [Option.isSome_some, if_true, eccAt_touchBank, word_congr (touchBank_mem s _)]
    match s.eccAt a with
    | 0 => rfl
    | 1 => rfl
    | n + 2 => exact (if_neg (Nat.not_lt.mpr (Nat.le_add_left 2 n))).symm

/-- The checked word depends on the contents of memory and its error marks. -/
theorem checkedWord_congr {t : State} (hmem : t.mem = s.mem) (hecc : t.mx.ecc = s.mx.ecc) (a : Nat) :
    t.checkedWord a = s.checkedWord a := by
  simp only [State.checkedWord, State.eccAt, hecc, word_congr hmem]; rfl

/-- From `s` to `t` a word is read: wakes and errors are counted in registers of the memory matrix and reported, and no register of
a cluster window changes, no memory, no cluster and no count of time. -/
structure ReadKept (s t : State) : Prop where
  mem : t.mem = s.mem
  ecc : t.mx.ecc = s.mx.ecc
  cl : t.cl = s.cl
  tm : t.tm = s.tm
  pending : t.pending = s.pending
  rd : ∀ x < 0x02000000, t.rd x = s.rd x

theorem ReadKept.trans {s t u : State} (h : ReadKept s t) (h' : ReadKept t u) : ReadKept s u :=
  ⟨h'.mem.trans h.mem, h'.ecc.trans h.ecc, h'.cl.trans h.cl, h'.tm.trans h.tm, h'.pending.trans h.pending,
    fun x hx => (h'.rd x hx).trans (h.rd x hx)⟩

theorem ReadKept.refl (s : State) : ReadKept s s := ⟨rfl, rfl, rfl, rfl, rfl, fun _ _ => rfl⟩

theorem readKept_wr {a : Nat} (v : Word) (ha : 0x02000000 ≤ a) : ReadKept s (s.wr a v) :=
  ⟨rfl, rfl, rfl, rfl, rfl, fun x hx => (rd_wr s a x v).trans (if_neg (by omega))⟩

theorem readKept_inc {a : Nat} (n : Nat) (ha : 0x02000000 ≤ a) : ReadKept s (s.inc a n) := readKept_wr s _ ha

theorem readKept_emit (kind src addr n : Nat) : ReadKept s (s.emit kind src addr n) :=
  ⟨rfl, rfl, rfl, rfl, rfl, fun x _ => rd_emit s kind src addr n x⟩

theorem readKept_touchBank (b : Nat) : ReadKept s (s.touchBank b) := by
  have hwake : ReadKept s { s with mx := { s.mx with
      ret := SMap.set noneB s.mx.ret b false, waking := SMap.set noneB s.mx.waking b true } } :=
    ⟨rfl, rfl, rfl, rfl, rfl, fun x _ => rd_congr rfl x⟩
  unfold State.touchBank
  split
  · exact hwake.trans (readKept_inc _ 1 (by decide))
  · exact .refl s

theorem readKept_eccCorr (a : Nat) : ReadKept s (s.eccCorr a) := by
  unfold State.eccCorr
  split
  · exact (readKept_inc s 1 (by decide)).trans (readKept_emit _ _ _ _ _)
  · exact .refl s

theorem readKept_eccUncorr (a : Nat) : ReadKept s (s.eccUncorr a) := by
  unfold State.eccUncorr
  split
  · exact ((readKept_inc s 1 (by decide)).trans (readKept_wr _ _ (by decide))).trans (readKept_emit _ _ _ _ _)
  · exact .refl s

theorem readKept_readW (a : Nat) : ReadKept s (s.readW a).1 := by
  unfold State.readW
  split
  · exact .refl s
  · next k x _ =>
    have htouch := readKept_touchBank s (bankOf k x)
    dsimp only
    split
    · exact htouch
    · obtain ⟨hmem, hecc, hcl, htm, hpending, hrd⟩ := htouch.trans (readKept_eccCorr _ a)
      exact ⟨hmem, hecc, hcl, htm, hpending, fun x hx => (rd_congr rfl x).trans (hrd x hx)⟩
    · exact htouch.trans (readKept_eccUncorr _ a)

/-! ## The fetch -/

/-- The fetch by its cases: no word at the index, an injected fault, a word that cannot be read, and a word (R131, R132). The reads of
the two halves lead to a state `t`. -/
theorem fetch_cases (c : Fin 16) : ∃ t, ReadKept (s.p (F.CL_TASK_PC c) (s.clu c).pc) t ∧ s.fetch c =
    if 8192 ≤ (s.clu c).pc then (s, some 2, 0)
    else if s.on (F.CL_CTL_ILL_INJ c) then
      (t.flag (F.CL_CTL_ILL_INJ c) false, some 4,
        (s.checkedWord (progByte c (s.clu c).pc + 4)).1 ++ (s.checkedWord (progByte c (s.clu c).pc)).1)
    else (t,
      if (s.checkedWord (progByte c (s.clu c).pc)).2 ∨ (s.checkedWord (progByte c (s.clu c).pc + 4)).2 then some 3 else none,
      (s.checkedWord (progByte c (s.clu c).pc + 4)).1 ++ (s.checkedWord (progByte c (s.clu c).pc)).1) := by
  have hc := c.isLt
  have hread : ∀ u x y, ReadKept u ((State.readW u x).1.readW y).1 := fun u x y =>
    (readKept_readW u x).trans (readKept_readW _ y)
  have hlo : ∀ f v x, ((s.p f v).readW x).2 = s.checkedWord x := fun f v x =>
    (readW_snd _ x).trans (checkedWord_congr s (p_mem s f v) (congrArg Mtx.ecc (p_mx s f v)) x)
  have hhi : ∀ f v x y, (((s.p f v).readW x).1.readW y).2 = s.checkedWord y := fun f v x y =>
    
    have h := readKept_readW (s.p f v) x
    (readW_snd _ y).trans (checkedWord_congr s h.mem h.ecc y)
  have hinj : ∀ v x y, (((s.p (F.CL_TASK_PC c) v).readW x).1.readW y).1.on (F.CL_CTL_ILL_INJ c) = s.on (F.CL_CTL_ILL_INJ c) := by
    intro v x y
    have hlt : (F.CL_CTL_ILL_INJ c).reg < 0x02000000 := by simp only [F.CL_CTL_ILL_INJ, R.CL_CTL]; omega
    have hne : (F.CL_CTL_ILL_INJ c).reg ≠ (F.CL_TASK_PC c).reg := by
      simp only [F.CL_CTL_ILL_INJ, F.CL_TASK_PC, R.CL_CTL, R.CL_TASK]; omega
    exact congrArg (· != 0) (g_of_rd (((hread _ x y).rd _ hlt).trans (rd_p_ne s _ v hne)))
  refine ⟨_, hread _ (progByte c (s.clu c).pc) (progByte c (s.clu c).pc + 4), ?_⟩
  unfold State.fetch
  dsimp only
  rw [hinj, hlo, hhi]

/-- What a fetch gives depends on the sequencer, on program memory and on the injection armed. -/
theorem fetch_snd_congr {t : State} (c : Fin 16) (hmem : t.mem = s.mem) (hecc : t.mx.ecc = s.mx.ecc) (hcl : t.cl = s.cl)
    (hinj : t.on (F.CL_CTL_ILL_INJ c) = s.on (F.CL_CTL_ILL_INJ c)) : (t.fetch c).2 = (s.fetch c).2 := by
  have hclu : t.clu c = s.clu c := congrArg (SMap.get clusterDefault · c) hcl
  obtain ⟨t', -, ht⟩ := fetch_cases t c
  obtain ⟨s', -, hs⟩ := fetch_cases s c
  simp only [hclu, hinj, checkedWord_congr s hmem hecc] at ht
  rw [ht, hs]
  split_ifs <;> rfl

/-! ## The state in which the word issues -/

/-- From `s` to `t` cluster `c` goes to RUN and reads its next word: of the registers of cluster windows its status and its task
register can change, which keeps the number of the task. -/
structure AtWord (c : Fin 16) (s t : State) : Prop where
  mem : t.mem = s.mem
  cl : t.cl = s.cl
  tm : t.tm = s.tm
  pending : t.pending = s.pending
  task : t.g (F.CL_TASK_TASK c) = s.g (F.CL_TASK_TASK c)
  rd : ∀ x < 0x02000000, x ≠ R.CL_STAT c → x ≠ R.CL_TASK c → t.rd x = s.rd x

/-- A fetch that gives a word does nothing but read it. -/
theorem atWord_of_fetch {s t : State} {c : Fin 16} {v : BitVec 64} (h : (s.p (F.CL_STAT_STATE c) 4).fetch c = (t, none, v)) :
    AtWord c s t := by
  have hc := c.isLt
  obtain ⟨u, hu, heq⟩ := fetch_cases (s.p (F.CL_STAT_STATE c) 4) c
  obtain rfl : u = t := by
    rw [heq] at h
    split_ifs at h
    · cases congrArg (·.2.1) h
    · cases congrArg (·.2.1) h
    · cases congrArg (·.2.1) h
    · exact congrArg Prod.fst h
  have hreg : (F.CL_TASK_TASK c).reg < 0x02000000 := by simp only [F.CL_TASK_TASK, R.CL_TASK]; omega
  have hstat : (F.CL_TASK_TASK c).reg ≠ (F.CL_STAT_STATE c).reg := by
    simp only [F.CL_TASK_TASK, F.CL_STAT_STATE, R.CL_TASK, R.CL_STAT]; omega
  have hbits : (F.CL_TASK_PC c).hi < (F.CL_TASK_TASK c).lo := by simp only [F.CL_TASK_PC, F.CL_TASK_TASK]; omega
  have htop : (F.CL_TASK_TASK c).hi < 32 := by simp only [F.CL_TASK_TASK]; omega
  refine ⟨hu.mem.trans ((p_mem _ _ _).trans (p_mem _ _ _)), hu.cl.trans ((p_cl _ _ _).trans (p_cl _ _ _)),
    hu.tm.trans ((p_tm _ _ _).trans (p_tm _ _ _)), hu.pending.trans ((p_pending _ _ _).trans (p_pending _ _ _)), ?_,
    fun x hx hne hne' => ?_⟩
  · rw [g_of_rd (hu.rd _ hreg), g_p_bits _ _ _ _ (.inr hbits) htop, g_p_reg _ _ _ _ hstat]
  · rw [hu.rd x hx, rd_p_ne _ _ _ hne', rd_p_ne _ _ _ hne]

namespace AtWord

variable {s t : State} {c : Fin 16} (h : AtWord c s t)
include h

theorem clu (d : Nat) : t.clu d = s.clu d := congrArg (SMap.get clusterDefault · d) h.cl

theorem physOf (j : Nat) : t.physOf c j = s.physOf c j := by
  have hc := c.isLt
  have hreg : t.rd (R.LANE_MAP c) = s.rd (R.LANE_MAP c) :=
    h.rd _ (by unfold R.LANE_MAP; omega) (by unfold R.LANE_MAP R.CL_STAT; omega) (by unfold R.LANE_MAP R.CL_TASK; omega)
  unfold State.physOf State.on
  rw [g_of_rd (f := F.LANE_MAP_RETIRED c) hreg, g_of_rd (f := F.LANE_MAP_RETIRED_LANE c) hreg]

theorem checkedLane : t.checkedLane c = s.checkedLane c := by
  have hc := c.isLt
  have hreg : t.rd (R.SHADOW_STAT c) = s.rd (R.SHADOW_STAT c) :=
    h.rd _ (by unfold R.SHADOW_STAT; omega) (by unfold R.SHADOW_STAT R.CL_STAT; omega)
      (by unfold R.SHADOW_STAT R.CL_TASK; omega)
  unfold State.checkedLane
  rw [g_of_rd (f := F.SHADOW_STAT_STATE c) hreg, g_of_rd (f := F.SHADOW_STAT_PTR c) hreg,
    g_of_rd (f := F.SHADOW_STAT_L c) hreg]

theorem laneUses : t.laneUses c = s.laneUses c := by
  unfold State.laneUses
  simp only [h.physOf, h.checkedLane]

theorem seqValue (k : Cluster) (v : Nat) : t.seqValue c k v = s.seqValue c k v := by
  have hc := c.isLt
  unfold State.seqValue
  split
  · exact h.rd _ (by unfold R.SEQ_IN; omega) (by unfold R.SEQ_IN R.CL_STAT; omega) (by unfold R.SEQ_IN R.CL_TASK; omega)
  · rfl

end AtWord

/-- A word that decodes is well formed (R131). -/
theorem wf_of_decodeWord {v : BitVec 64} {w : IWord} (h : decodeWord v = some w) : w.wf = true := by
  unfold decodeWord at h
  split at h
  · split at h
    · next hw => cases h; exact hw.1
    · cases h
  · cases h

/-- A slot word that a cluster issues runs in the state after its fetch. -/
theorem issue_slots {s : State} {c : Fin 16} {cs : CSlot} {m0 : M0Slot} {m1 : M1Slot} (env : WordEnv)
    (h : s.issues c (.slots cs m0 m1) = true) :
    ∃ t, AtWord c s t ∧ s.issue c env (.slots cs m0 m1) = t.runSlots c env cs m0 m1 := by
  have hc := c.isLt
  have hne : (F.CL_CTL_ILL_INJ c).reg ≠ (F.CL_STAT_STATE c).reg := by
    simp only [F.CL_CTL_ILL_INJ, F.CL_STAT_STATE, R.CL_CTL, R.CL_STAT]; omega
  have hsame : ((s.p (F.CL_STAT_STATE c) 4).fetch c).2 = (s.fetch c).2 :=
    fetch_snd_congr s c (p_mem s _ 4) (congrArg Mtx.ecc (p_mx s _ 4)) (p_cl s _ 4) (congrArg (· != 0) (g_p_reg s _ _ 4 hne))
  unfold State.issues at h
  rw [← hsame] at h
  unfold State.issue
  rcases hf : (s.p (F.CL_STAT_STATE c) 4).fetch c with ⟨t, why, v⟩
  rw [hf] at h
  simp only [Bool.and_eq_true, beq_iff_eq, Option.isNone_iff_eq_none] at h
  obtain ⟨⟨hfree, rfl⟩, hword⟩ := h
  refine ⟨t, atWord_of_fetch hf, ?_⟩
  rw [if_pos (by simpa using hfree)]
  dsimp only
  rw [if_pos hword, State.runWord, wf_of_decodeWord hword]
  rfl

end Sys2Proof.Machine
end

section
/-!
SUPPORT. The lanes of a cluster: what a result writes in one lane, when data registers show it, and which lanes a compute operation
leaves alone (R75, R78, R126, R127).
-/
namespace Sys2Proof.Machine

/-! ## A result takes effect in one lane -/

@[simp] theorem lane_setLane (k : Cluster) (n m : Nat) (l : Lane) :
    (k.setLane n l).lane m = if m = n then l else k.lane m := SMap.get_set _ _ _ _ _

@[simp] theorem stat_d (l : Lane) (u : LaneUse) (b : Nat) (on : Bool) : (l.stat u b on).d = l.d := by
  unfold Lane.stat; split <;> rfl
@[simp] theorem stat_acc (l : Lane) (u : LaneUse) (b : Nat) (on : Bool) : (l.stat u b on).acc = l.acc := by
  unfold Lane.stat; split <;> rfl
@[simp] theorem stat_pf (l : Lane) (u : LaneUse) (b : Nat) (on : Bool) : (l.stat u b on).pf = l.pf := by
  unfold Lane.stat; split <;> rfl
@[simp] theorem stat_ofs (l : Lane) (u : LaneUse) (b : Nat) (on : Bool) : (l.stat u b on).ofs = l.ofs := by
  unfold Lane.stat; split <;> rfl

theorem testBit_stat (l : Lane) (u : LaneUse) (b : Nat) (on : Bool) (i : Nat) :
    (l.stat u b on).lstat.testBit i = (l.lstat.testBit i || (on && !u.shadow && b.testBit i)) := by
  unfold Lane.stat
  split
  · next h => simp [Nat.testBit_or, h]
  · next h =>
    cases on
    · simp
    · cases hu : u.shadow
      · exact absurd ⟨rfl, hu⟩ h
      · simp

/-- The registers of lane `l` once result `o` has taken effect in it, data registers apart. -/
def Lane.after (l : Lane) (u : LaneUse) (o : LaneOut) : Lane :=
  (Lane.stat { l with
    acc := o.acc.elim l.acc fun x => SMap.set zeroA l.acc x.1 x.2
    pf := o.pf.elim l.pf fun x => if x.2 then l.pf ||| 2 ^ x.1 else l.pf &&& (15 - 2 ^ x.1)
    ofs := if u.shadow then l.ofs else o.ofs.elim l.ofs fun x => SMap.set zeroO l.ofs x.1 x.2 } u lstatAov o.aov).stat
    u lstatSat o.sat

/-- The data-register result that `o` sends on its way in lane `n`. -/
def LaneOut.pends (o : LaneOut) (n : Nat) : List Pend := o.d.elim [] fun x => [⟨o.dLat, n, x.1, x.2⟩]

section
variable {l : Lane} {u : LaneUse} {o : LaneOut}

@[simp] theorem dr_after (r : Nat) : (l.after u o).dr r = l.dr r := by simp [Lane.after, Lane.dr]

theorem ac_after_self {i : Nat} {v : BitVec 80} (h : o.acc = some (i, v)) : (l.after u o).ac i = v.toInt := by
  simp [Lane.after, Lane.ac, h]

theorem ac_after_ne {i : Nat} (h : ∀ v, o.acc ≠ some (i, v)) : (l.after u o).ac i = l.ac i := by
  obtain ho | ⟨⟨n, v⟩, ho⟩ := o.acc.eq_none_or_eq_some
  · simp [Lane.after, Lane.ac, ho]
  · have hne : i ≠ n := fun e => h v (e ▸ ho)
    simp [Lane.after, Lane.ac, ho, hne]

theorem flag_after_self {p : Fin 4} {v : Bool} (h : o.pf = some (p.val, v)) : (l.after u o).flag p = v := by
  have hmask : ∀ p : Fin 4, (15 - 2 ^ p.val).testBit p = false := by decide
  cases v
  · simp [Lane.after, Lane.flag, h, hmask]
  · simp [Lane.after, Lane.flag, h]

theorem flag_after_ne {p : Fin 4} (hop : ∀ n v, o.pf = some (n, v) → n < 4) (h : ∀ v, o.pf ≠ some (p.val, v)) :
    (l.after u o).flag p = l.flag p := by
  obtain ho | ⟨⟨n, v⟩, ho⟩ := o.pf.eq_none_or_eq_some
  · simp [Lane.after, Lane.flag, ho]
  · have hne : p.val ≠ n := fun e => h v (e ▸ ho)
    have hmask : ∀ (p : Fin 4) (n : Fin 4), p ≠ n → (15 - 2 ^ n.val).testBit p = true := by decide
    have hkeep := hmask p ⟨n, hop n v ho⟩ (fun e => hne (congrArg Fin.val e))
    cases v
    · simpa [Lane.after, Lane.flag, ho] using fun _ => hkeep
    · simp [Lane.after, Lane.flag, ho, hne.symm]

theorem ofs_after_self {i : Nat} {v : BitVec 24} (hu : u.shadow = false) (h : o.ofs = some (i, v)) :
    SMap.get zeroO (l.after u o).ofs i = v := by
  simp [Lane.after, h, hu]

theorem ofs_after_ne {i : Nat} (h : ∀ v, o.ofs ≠ some (i, v)) :
    SMap.get zeroO (l.after u o).ofs i = SMap.get zeroO l.ofs i := by
  obtain ho | ⟨⟨n, v⟩, ho⟩ := o.ofs.eq_none_or_eq_some
  · simp [Lane.after, ho]
  · have hne : i ≠ n := fun e => h v (e ▸ ho)
    cases hu : u.shadow <;> simp [Lane.after, ho, hu, hne]

theorem aov_after (hu : u.shadow = false) : (l.after u o).lstat.testBit 0 = (l.lstat.testBit 0 || o.aov) := by
  have haov : lstatAov.testBit 0 = true := rfl
  have hsat : lstatSat.testBit 0 = false := rfl
  rw [Lane.after, testBit_stat, testBit_stat, hu, haov, hsat]
  simp only [Bool.not_false, Bool.and_true, Bool.and_false, Bool.or_false]

theorem sat_after (hu : u.shadow = false) (h : o.sat = true) : (l.after u o).lstat.testBit 1 = true := by
  have hsat : lstatSat.testBit 1 = true := rfl
  rw [Lane.after, testBit_stat, hu, h, hsat]
  simp only [Bool.not_false, Bool.and_true, Bool.or_true]

end

/-! ## A result takes effect in a cluster -/

/-- The sequencer addressing registers. -/
def Cluster.addressing (k : Cluster) : SMap (BitVec 20) × SMap (BitVec 16) × SMap (BitVec 20) × SMap (BitVec 20) × SMap Nat :=
  (k.p, k.m, k.b, k.len, k.bnd)

/-- Clusters `k` and `k'` hold the same lanes, results on their way and addressing registers. -/
structure SameData (k k' : Cluster) : Prop where
  lanes : k'.lanes = k.lanes
  pend : k'.pend = k.pend
  addressing : k'.addressing = k.addressing

theorem SameData.refl (k : Cluster) : SameData k k := ⟨rfl, rfl, rfl⟩

theorem SameData.trans {k k' k'' : Cluster} (h : SameData k k') (h' : SameData k' k'') : SameData k k'' :=
  ⟨h'.lanes.trans h.lanes, h'.pend.trans h.pend, h'.addressing.trans h.addressing⟩

theorem SameData.lane {k k' : Cluster} (h : SameData k k') (n : Nat) : k'.lane n = k.lane n :=
  congrArg (SMap.get zeroLane · n) h.lanes

theorem sameData_tallyAov (k : Cluster) (u : LaneUse) (addr : Nat) : SameData k (k.tallyAov u addr) := by
  unfold Cluster.tallyAov; split <;> exact ⟨rfl, rfl, rfl⟩

theorem sameData_tallyOfs (k : Cluster) (u : LaneUse) (addr : Nat) : SameData k (k.tallyOfs u addr) := by
  unfold Cluster.tallyOfs; split <;> exact ⟨rfl, rfl, rfl⟩

/-- A result changes the registers of its lane and sends its data-register result on its way. -/
theorem sameData_apply (k : Cluster) (u : LaneUse) (addr : Nat) (o : LaneOut) :
    SameData { k.setLane u.phys ((k.lane u.phys).after u o) with pend := k.pend ++ o.pends u.phys } (k.apply u addr o) := by
  have happly : k.apply u addr o =
      if o.aov then
        Cluster.tallyAov { k.setLane u.phys ((k.lane u.phys).after u o) with pend := k.pend ++ o.pends u.phys } u addr
      else { k.setLane u.phys ((k.lane u.phys).after u o) with pend := k.pend ++ o.pends u.phys } := by
    obtain ⟨acc, d, dLat, pf, ofs, aov, sat⟩ := o
    unfold Cluster.apply Lane.after LaneOut.pends
    -- `apply` matches on each optional part where `after` and `pends` eliminate it
    cases acc <;> cases d <;> cases pf <;> cases ofs <;> cases hu : u.shadow <;> simp <;> rfl
  rw [happly]
  split
  · exact sameData_tallyAov _ u addr
  · exact .refl _

/-! ## One lane while results take effect in lanes one after the other -/

/-- From `k` to `k'` lane `n` stays, and results are sent on their way to other lanes only. -/
structure LaneAside (n : Nat) (k k' : Cluster) : Prop where
  lane : k'.lane n = k.lane n
  pend : ∃ qs, k'.pend = k.pend ++ qs ∧ ∀ q ∈ qs, q.lane ≠ n

/-- From `k` to `k'` result `o` takes effect in lane `u`; other results are sent on their way to other lanes only. -/
structure LaneTakes (u : LaneUse) (o : LaneOut) (k k' : Cluster) : Prop where
  lane : k'.lane u.phys = (k.lane u.phys).after u o
  pend : ∃ qs rs, k'.pend = k.pend ++ qs ++ o.pends u.phys ++ rs ∧ (∀ q ∈ qs, q.lane ≠ u.phys) ∧ ∀ q ∈ rs, q.lane ≠ u.phys

theorem LaneAside.refl (n : Nat) (k : Cluster) : LaneAside n k k := ⟨rfl, [], by simp, by simp⟩

theorem LaneAside.trans {n : Nat} {k k' k'' : Cluster} (h : LaneAside n k k') (h' : LaneAside n k' k'') : LaneAside n k k'' := by
  obtain ⟨hlane, qs, hpend, hqs⟩ := h
  obtain ⟨hlane', rs, hpend', hrs⟩ := h'
  refine ⟨hlane'.trans hlane, qs ++ rs, ?_, ?_⟩
  · rw [hpend', hpend, List.append_assoc]
  · exact fun q hq => (List.mem_append.mp hq).elim (hqs q) (hrs q)

theorem LaneAside.takes {u : LaneUse} {o : LaneOut} {k k' k'' : Cluster} (h : LaneAside u.phys k k') (h' : LaneTakes u o k' k'') :
    LaneTakes u o k k'' := by
  obtain ⟨hlane, qs, hpend, hqs⟩ := h
  obtain ⟨hlane', rs, ts, hpend', hrs, hts⟩ := h'
  refine ⟨hlane'.trans (by rw [hlane]), qs ++ rs, ts, ?_, ?_, hts⟩
  · simp only [hpend', hpend, List.append_assoc]
  · exact fun q hq => (List.mem_append.mp hq).elim (hqs q) (hrs q)

theorem LaneTakes.aside {u : LaneUse} {o : LaneOut} {k k' k'' : Cluster} (h : LaneTakes u o k k') (h' : LaneAside u.phys k' k'') :
    LaneTakes u o k k'' := by
  obtain ⟨hlane, qs, rs, hpend, hqs, hrs⟩ := h
  obtain ⟨hlane', ts, hpend', hts⟩ := h'
  refine ⟨hlane'.trans hlane, qs, rs ++ ts, ?_, hqs, ?_⟩
  · simp only [hpend', hpend, List.append_assoc]
  · exact fun q hq => (List.mem_append.mp hq).elim (hrs q) (hts q)

theorem LaneAside.foldl {n : Nat} {f : Cluster → LaneUse → Cluster} {us : List LaneUse}
    (hf : ∀ k, ∀ u ∈ us, LaneAside n k (f k u)) (k : Cluster) : LaneAside n k (us.foldl f k) := by
  induction us generalizing k with
  | nil => exact .refl n k
  | cons u us ih =>
    exact (hf k u List.mem_cons_self).trans (ih (fun k v hv => hf k v (List.mem_cons_of_mem u hv)) (f k u))

theorem laneTakes_apply (k : Cluster) (u : LaneUse) (addr : Nat) (o : LaneOut) : LaneTakes u o k (k.apply u addr o) := by
  have h := sameData_apply k u addr o
  refine ⟨?_, [], [], ?_, by simp, by simp⟩
  · rw [h.lane]; exact (lane_setLane k u.phys u.phys _).trans (if_pos rfl)
  · rw [h.pend]; simp

theorem laneAside_apply {n : Nat} (k : Cluster) {u : LaneUse} (addr : Nat) (o : LaneOut) (hu : u.phys ≠ n) :
    LaneAside n k (k.apply u addr o) := by
  have h := sameData_apply k u addr o
  refine ⟨?_, o.pends u.phys, h.pend, ?_⟩
  · rw [h.lane]; exact (lane_setLane k u.phys n _).trans (if_neg hu.symm)
  · intro q hq
    obtain hd | ⟨x, hd⟩ := o.d.eq_none_or_eq_some
    · simp [LaneOut.pends, hd] at hq
    · obtain rfl : q = ⟨o.dLat, u.phys, x.1, x.2⟩ := by simpa [LaneOut.pends, hd] using hq
      exact hu

/-! ## The lanes of a word (R75, R78) -/

variable (s : State)

/-- Logical lane `j` in a word, in the physical lane that carries it. -/
def State.useOf (c j : Nat) : LaneUse := ⟨s.physOf c j, j, s.physOf c j, false⟩

/-- Two logical lanes stand in two physical lanes. -/
theorem physOf_ne {c i j : Nat} (hi : i < 16) (hj : j < 16) (h : i ≠ j) : s.physOf c i ≠ s.physOf c j := by
  unfold State.physOf
  split_ifs <;> omega

/-- Where LANE_S shadows, a logical lane that has a physical lane to itself does not stand in LANE_S. -/
theorem spare_ne {c l : Nat} {j : Fin 16} (hown : s.ownLane c j) (hl : s.checkedLane c = some l) : 16 ≠ s.physOf c j := by
  obtain hself | hnone := hown
  · rw [hself]; exact (Nat.ne_of_lt j.isLt).symm
  · rw [hnone] at hl; cases hl

/-- No other part of a word uses the physical lane of a logical lane that has one to itself. -/
theorem laneUses_split {c : Nat} {j : Fin 16} (hown : s.ownLane c j) :
    ∃ us vs, s.laneUses c = us ++ s.useOf c j :: vs ∧ (∀ u ∈ us, u.phys ≠ s.physOf c j) ∧ ∀ u ∈ vs, u.phys ≠ s.physOf c j := by
  obtain ⟨as, bs, hsplit⟩ := List.append_of_mem (List.mem_range.mpr j.isLt)
  have hnd : (as ++ j.val :: bs).Nodup := hsplit ▸ List.nodup_range
  have hmem : ∀ i, i ∈ as ++ bs → i ≠ j.val ∧ i < 16 := by
    intro i hi
    refine ⟨fun e => (List.nodup_middle.mp hnd |> List.nodup_cons.mp).1 (e ▸ hi), List.mem_range.mp ?_⟩
    rw [hsplit]
    simpa [List.mem_append, or_left_comm] using Or.inr (List.mem_append.mp hi)
  have hother : ∀ i, i ∈ as ++ bs → s.physOf c i ≠ s.physOf c j := fun i hi =>
    physOf_ne s (hmem i hi).2 j.isLt (hmem i hi).1
  unfold State.laneUses
  rw [hsplit, List.map_append, List.map_cons, List.append_assoc, List.cons_append]
  refine ⟨_, _, rfl, ?_, ?_⟩
  · intro u hu
    obtain ⟨i, hi, rfl⟩ := List.mem_map.mp hu
    exact hother i (List.mem_append_left _ hi)
  · intro u hu
    obtain hu | hu := List.mem_append.mp hu
    · obtain ⟨i, hi, rfl⟩ := List.mem_map.mp hu
      exact hother i (List.mem_append_right _ hi)
    · cases hl : s.checkedLane c with
      | none => rw [hl] at hu; cases hu
      | some l =>
        rw [hl] at hu
        obtain rfl := List.mem_singleton.mp hu
        exact spare_ne s hown hl

/-! ## The compute slot -/

section
variable {s : State} {c : Nat} {q : Cond} {o : COp} (addr : Nat) (k0 k : Cluster)

/-- An operation other than RSUM is performed in each enabled lane. -/
theorem runCompute_of_lanewise (ho : COp.reduces o = false) : s.runCompute c addr k0 (.op q o) k =
    (s.laneUses c).foldl (fun k u => if u.enabled k0 q then k.apply u addr (s.laneResult c k0 o u) else k) k := by
  cases o with
  | rsum => cases ho
  | _ => rfl

variable {j : Fin 16} (hown : s.ownLane c j)
include hown

/-- An enabled lane takes what the operation computes in it. -/
theorem laneTakes_runCompute (ho : COp.reduces o = false) (hq : (k0.lane (s.physOf c j)).holds q = true) :
    LaneTakes (s.useOf c j) (s.laneResult c k0 o (s.useOf c j)) k (s.runCompute c addr k0 (.op q o) k) := by
  obtain ⟨us, vs, hsplit, hus, hvs⟩ := laneUses_split s hown
  have hother : ∀ ws : List LaneUse, (∀ u ∈ ws, u.phys ≠ s.physOf c j) → ∀ k, LaneAside (s.physOf c j) k
      (ws.foldl (fun k u => if u.enabled k0 q then k.apply u addr (s.laneResult c k0 o u) else k) k) := by
    refine fun ws hws => LaneAside.foldl fun k u hu => ?_
    split
    · exact laneAside_apply k addr _ (hws u hu)
    · exact .refl _ k
  rw [runCompute_of_lanewise addr k0 k ho, hsplit, List.foldl_append, List.foldl_cons,
    if_pos (show (s.useOf c j).enabled k0 q = true from hq)]
  exact ((hother us hus k).takes (laneTakes_apply _ (s.useOf c j) addr _)).aside (hother vs hvs _)

/-- A disabled lane takes nothing. -/
theorem laneAside_runCompute (ho : COp.reduces o = false) (hq : (k0.lane (s.physOf c j)).holds q = false) :
    LaneAside (s.physOf c j) k (s.runCompute c addr k0 (.op q o) k) := by
  obtain ⟨us, vs, hsplit, hus, hvs⟩ := laneUses_split s hown
  rw [runCompute_of_lanewise addr k0 k ho]
  refine LaneAside.foldl (fun k u hu => ?_) k
  split
  · next hen =>
    refine laneAside_apply k addr _ ?_
    rw [hsplit] at hu
    obtain hu | hu := List.mem_append.mp hu
    · exact hus u hu
    · obtain rfl | hu := List.mem_cons.mp hu
      · exact absurd (hq.symm.trans hen) Bool.false_ne_true
      · exact hvs u hu
  · exact .refl _ k

end

/-! ### RSUM (R76) -/

/-- The contributions of the sixteen logical lanes to RSUM: zero of a disabled lane. -/
def State.rsumTerms (c : Nat) (k0 : Cluster) (q : Cond) (i : Nat) : List Int :=
  (List.range 16).map fun l => if (k0.lane (s.physOf c l)).holds q then (k0.lane (s.physOf c l)).ac i else 0

/-- What RSUM writes in logical LANE_0. -/
def State.rsumOut (c : Nat) (k0 : Cluster) (q : Cond) (i m : Nat) : LaneOut :=
  { LaneOut.none with
    acc := some (m, BitVec.ofInt 80 (reduceTree (s.rsumTerms c k0 q i)).1)
    aov := (reduceTree (s.rsumTerms c k0 q i)).2 }

/-- The lanes that work, of the lanes of a word, are the sixteen logical lanes. -/
theorem working_laneUses (c : Nat) : (s.laneUses c).filter (fun u => !u.shadow) = (List.range 16).map (s.useOf c) := by
  unfold State.laneUses
  rw [List.filter_append, List.filter_eq_self.mpr, List.filter_eq_nil_iff.mpr, List.append_nil]
  · rfl
  · intro u hu
    cases hl : s.checkedLane c with
    | none => rw [hl] at hu; cases hu
    | some l => rw [hl] at hu; obtain rfl := List.mem_singleton.mp hu; simp
  · intro u hu
    obtain ⟨l, -, rfl⟩ := List.mem_map.mp hu
    rfl

/-- LANE_S takes part in RSUM where it shadows logical LANE_0. -/
def State.spareSums (c : Nat) : Bool := (s.laneUses c).any fun u => u.shadow && u.j == 0

theorem runRsum_eq (c addr : Nat) (k0 : Cluster) (q : Cond) (i m : Nat) (k : Cluster) : s.runRsum c addr k0 q i m k =
    if s.spareSums c then
      (k.apply (s.useOf c 0) addr (s.rsumOut c k0 q i m)).apply ⟨16, 0, 0, true⟩ addr
        { s.rsumOut c k0 q i m with aov := false }
    else k.apply (s.useOf c 0) addr (s.rsumOut c k0 q i m) := by
  have hterms : ((s.laneUses c).filter fun u => !u.shadow).map (fun u => if u.enabled k0 q then (k0.lane u.phys).ac i else 0) =
      s.rsumTerms c k0 q i := by
    rw [working_laneUses, List.map_map]
    rfl
  unfold State.runRsum
  dsimp only
  rw [hterms]
  rfl

/-- Where LANE_S takes part in RSUM it shadows, and a logical lane that has a physical lane to itself does not stand in it. -/
theorem spare_ne_of_spareSums {c : Nat} {j : Fin 16} (hown : s.ownLane c j) (h : s.spareSums c = true) : 16 ≠ s.physOf c j := by
  obtain ⟨u, hu, hspare⟩ := List.any_eq_true.mp h
  unfold State.laneUses at hu
  obtain hu | hu := List.mem_append.mp hu
  · obtain ⟨l, -, rfl⟩ := List.mem_map.mp hu
    cases hspare
  · cases hl : s.checkedLane c with
    | none => rw [hl] at hu; cases hu
    | some l => exact spare_ne s hown hl

/-- Logical LANE_0 takes the sum. -/
theorem laneTakes_runRsum {c : Nat} (hown : s.ownLane c (0 : Fin 16)) (addr : Nat) (k0 : Cluster) (q : Cond) (i m : Nat)
    (k : Cluster) : LaneTakes (s.useOf c 0) (s.rsumOut c k0 q i m) k (s.runRsum c addr k0 q i m k) := by
  have h := laneTakes_apply k (s.useOf c 0) addr (s.rsumOut c k0 q i m)
  rw [runRsum_eq]
  split
  · next hspare => exact h.aside (laneAside_apply _ addr _ (spare_ne_of_spareSums s hown hspare))
  · exact h

/-- The other logical lanes take nothing. -/
theorem laneAside_runRsum {c : Nat} {j : Fin 16} (hown : s.ownLane c j) (hj : j ≠ 0) (addr : Nat) (k0 : Cluster) (q : Cond)
    (i m : Nat) (k : Cluster) : LaneAside (s.physOf c j) k (s.runRsum c addr k0 q i m k) := by
  have hne : s.physOf c 0 ≠ s.physOf c j := physOf_ne s (by decide) j.isLt fun e => hj (Fin.ext e.symm)
  have h := laneAside_apply k (u := s.useOf c 0) addr (s.rsumOut c k0 q i m) hne
  rw [runRsum_eq]
  split
  · next hspare => exact h.trans (laneAside_apply _ addr _ (spare_ne_of_spareSums s hown hspare))
  · exact h

/-! ### Addressing registers -/

theorem addressing_apply (k : Cluster) (u : LaneUse) (addr : Nat) (o : LaneOut) : (k.apply u addr o).addressing = k.addressing :=
  (sameData_apply k u addr o).addressing

/-- The compute slot writes no addressing register. -/
theorem addressing_runCompute (c addr : Nat) (k0 : Cluster) (q : Cond) (o : COp) (k : Cluster) :
    (s.runCompute c addr k0 (.op q o) k).addressing = k.addressing := by
  have hlanewise : COp.reduces o = false → (s.runCompute c addr k0 (.op q o) k).addressing = k.addressing := by
    intro ho
    rw [runCompute_of_lanewise addr k0 k ho]
    refine List.foldlRecOn (motive := fun k' : Cluster => k'.addressing = k.addressing) _ _ rfl fun k' hk' u _ => ?_
    split
    · exact (addressing_apply k' u addr _).trans hk'
    · exact hk'
  cases o with
  | rsum i m =>
    change (s.runRsum c addr k0 q i m k).addressing = k.addressing
    rw [runRsum_eq]
    split
    · rw [addressing_apply, addressing_apply]
    · rw [addressing_apply]
  | _ => exact hlanewise rfl

end Sys2Proof.Machine
end

section
/-!
SUPPORT. A slot word as a whole: results become visible (R126, R127), the memory slots leave what the compute slot did, and the word
leaves everything outside its cluster (R112, R114).
-/
namespace Sys2Proof.Machine

/-! ## Results become visible -/

/-- One result on its way, one word later. -/
def Cluster.land (k : Cluster) (q : Pend) : Cluster :=
  if q.left ≤ 1 then k.setLane q.lane { k.lane q.lane with d := SMap.set zeroD (k.lane q.lane).d q.reg q.val }
  else { k with pend := k.pend ++ [{ q with left := q.left - 1 }] }

theorem visible_eq (k : Cluster) : k.visible = k.pend.foldl Cluster.land { k with pend := [] } := rfl

/-- The registers of a lane, data registers apart. -/
def Lane.others (l : Lane) : SMap (BitVec 80) × Nat × Nat × SMap (BitVec 24) := (l.acc, l.pf, l.lstat, l.ofs)

theorem lane_land (k : Cluster) (q : Pend) (n : Nat) : (k.land q).lane n =
    if q.left ≤ 1 ∧ n = q.lane then { k.lane n with d := SMap.set zeroD (k.lane n).d q.reg q.val } else k.lane n := by
  unfold Cluster.land
  by_cases hleft : q.left ≤ 1
  · by_cases hn : n = q.lane
    · subst hn; simp [hleft]
    · simp [hleft, hn]
  · rw [if_neg hleft, if_neg fun h => hleft h.1]; rfl

theorem others_land (k : Cluster) (q : Pend) (n : Nat) : ((k.land q).lane n).others = (k.lane n).others := by
  rw [lane_land]; split <;> rfl

theorem addressing_land (k : Cluster) (q : Pend) : (k.land q).addressing = k.addressing := by
  unfold Cluster.land; split <;> rfl

theorem others_foldl_land (qs : List Pend) (k : Cluster) (n : Nat) : ((qs.foldl Cluster.land k).lane n).others = (k.lane n).others := by
  induction qs generalizing k with
  | nil => rfl
  | cons q qs ih => exact (ih (k.land q)).trans (others_land k q n)

theorem addressing_foldl_land (qs : List Pend) (k : Cluster) : (qs.foldl Cluster.land k).addressing = k.addressing := by
  induction qs generalizing k with
  | nil => rfl
  | cons q qs ih => exact (ih (k.land q)).trans (addressing_land k q)

theorem dr_foldl_land_of_forall {qs : List Pend} {n r : Nat} (h : ∀ q ∈ qs, q.left ≤ 1 → q.lane = n → q.reg ≠ r) (k : Cluster) :
    ((qs.foldl Cluster.land k).lane n).dr r = (k.lane n).dr r := by
  induction qs generalizing k with
  | nil => rfl
  | cons q qs ih =>
    have hq : ((k.land q).lane n).dr r = (k.lane n).dr r := by
      rw [lane_land]
      split
      · next hland => exact SMap.get_set_ne _ _ _ (h q List.mem_cons_self hland.1 hland.2.symm).symm
      · rfl
    exact (ih (fun p hp => h p (List.mem_cons_of_mem q hp)) (k.land q)).trans hq

theorem lane_foldl_land_of_forall {qs : List Pend} {n : Nat} (h : ∀ q ∈ qs, q.left ≤ 1 → q.lane ≠ n) (k : Cluster) :
    (qs.foldl Cluster.land k).lane n = k.lane n := by
  induction qs generalizing k with
  | nil => rfl
  | cons q qs ih =>
    have hq : (k.land q).lane n = k.lane n := by
      rw [lane_land, if_neg fun hland => h q List.mem_cons_self hland.1 hland.2.symm]
    exact (ih (fun p hp => h p (List.mem_cons_of_mem q hp)) (k.land q)).trans hq

/-- Of the results whose latency has passed the last one for a register shows. -/
theorem dr_visible_of_last {k : Cluster} {q : Pend} {ps qs : List Pend} (hpend : k.pend = ps ++ q :: qs) (hleft : q.left ≤ 1)
    (hlast : ∀ p ∈ qs, p.left ≤ 1 → p.lane = q.lane → p.reg ≠ q.reg) : (k.visible.lane q.lane).dr q.reg = q.val := by
  rw [visible_eq, hpend, List.foldl_append, List.foldl_cons, dr_foldl_land_of_forall hlast, lane_land, if_pos ⟨hleft, rfl⟩]
  exact SMap.get_set_self _ _ _ _

theorem dr_visible_of_forall {k : Cluster} {n r : Nat} (h : ∀ q ∈ k.pend, q.left ≤ 1 → q.lane = n → q.reg ≠ r) :
    (k.visible.lane n).dr r = (k.lane n).dr r := by
  rw [visible_eq, dr_foldl_land_of_forall h]
  rfl

theorem lane_visible_of_forall {k : Cluster} {n : Nat} (h : ∀ q ∈ k.pend, q.left ≤ 1 → q.lane ≠ n) :
    k.visible.lane n = k.lane n := by
  rw [visible_eq, lane_foldl_land_of_forall h]
  rfl

theorem others_visible (k : Cluster) (n : Nat) : (k.visible.lane n).others = (k.lane n).others := others_foldl_land _ _ n

theorem addressing_visible (k : Cluster) : k.visible.addressing = k.addressing := addressing_foldl_land _ _

theorem mem_pend_foldl_land {qs : List Pend} {q : Pend} (hq : 2 ≤ q.left) :
    ∀ k : Cluster, q ∈ qs ∨ { q with left := q.left - 1 } ∈ k.pend →
      { q with left := q.left - 1 } ∈ (qs.foldl Cluster.land k).pend := by
  induction qs with
  | nil => exact fun k h => h.elim (fun h => absurd h List.not_mem_nil) id
  | cons p qs ih =>
    refine fun k h => ih (k.land p) ?_
    have hpend : (k.land p).pend = if p.left ≤ 1 then k.pend else k.pend ++ [{ p with left := p.left - 1 }] := by
      unfold Cluster.land; split <;> rfl
    rw [hpend]
    obtain h | h := h
    · obtain rfl | h := List.mem_cons.mp h
      · rw [if_neg (by omega)]; exact .inr (List.mem_append_right _ (List.mem_singleton.mpr rfl))
      · exact .inl h
    · right
      split
      · exact h
      · exact List.mem_append_left _ h

/-- A result whose latency has not passed stays on its way. -/
theorem mem_pend_visible {k : Cluster} {q : Pend} (hmem : q ∈ k.pend) (hq : 2 ≤ q.left) :
    { q with left := q.left - 1 } ∈ k.visible.pend := by
  rw [visible_eq]
  exact mem_pend_foldl_land hq _ (.inl hmem)

/-! ## The memory slots -/

/-- From lane registers `l` to `m` nothing changes but LSTAT, which keeps AOV and loses no SAT. -/
structure StatOnly (l m : Lane) : Prop where
  d : m.d = l.d
  acc : m.acc = l.acc
  pf : m.pf = l.pf
  ofs : m.ofs = l.ofs
  aov : m.lstat.testBit 0 = l.lstat.testBit 0
  sat : l.lstat.testBit 1 = true → m.lstat.testBit 1 = true

theorem StatOnly.refl (l : Lane) : StatOnly l l := ⟨rfl, rfl, rfl, rfl, rfl, id⟩

theorem StatOnly.trans {l m n : Lane} (h : StatOnly l m) (h' : StatOnly m n) : StatOnly l n :=
  ⟨h'.d.trans h.d, h'.acc.trans h.acc, h'.pf.trans h.pf, h'.ofs.trans h.ofs, h'.aov.trans h.aov, fun hl => h'.sat (h.sat hl)⟩

theorem statOnly_stat (l : Lane) (u : LaneUse) {b : Nat} (on : Bool) (hb : b.testBit 0 = false) : StatOnly l (l.stat u b on) := by
  refine ⟨stat_d .., stat_acc .., stat_pf .., stat_ofs .., ?_, fun hl => ?_⟩
  · rw [testBit_stat, hb, Bool.and_false, Bool.or_false]
  · rw [testBit_stat, hl, Bool.true_or]

/-- A result for a data register alone. -/
structure DataOnly (o : LaneOut) : Prop where
  acc : o.acc = none
  pf : o.pf = none
  ofs : o.ofs = none
  aov : o.aov = false
  late : o.d.isSome = true → 2 ≤ o.dLat

theorem statOnly_after (l : Lane) (u : LaneUse) {o : LaneOut} (h : DataOnly o) : StatOnly l (l.after u o) := by
  obtain ⟨hacc, hpf, hofs, haov, -⟩ := h
  have hafter : l.after u o = l.stat u lstatSat o.sat := by simp [Lane.after, hacc, hpf, hofs, haov, Lane.stat]
  rw [hafter]
  exact statOnly_stat l u _ rfl

/-- From `k` to `k'` the memory slots write no register of a lane but LSTAT, and send results on their way that become visible after
later words. -/
structure SlotsAside (k k' : Cluster) : Prop where
  lane : ∀ n, StatOnly (k.lane n) (k'.lane n)
  pend : ∃ qs, k'.pend = k.pend ++ qs ∧ ∀ q ∈ qs, 2 ≤ q.left

namespace SlotsAside

theorem of_lanes {k k' : Cluster} (hlanes : k'.lanes = k.lanes) (hpend : k'.pend = k.pend) : SlotsAside k k' := by
  have hlane : ∀ n, k'.lane n = k.lane n := fun n => congrArg (SMap.get zeroLane · n) hlanes
  exact ⟨fun n => by rw [hlane]; exact .refl _, [], by rw [hpend, List.append_nil], by simp⟩

theorem refl (k : Cluster) : SlotsAside k k := of_lanes rfl rfl

theorem trans {k k' k'' : Cluster} (h : SlotsAside k k') (h' : SlotsAside k' k'') : SlotsAside k k'' := by
  obtain ⟨hlane, qs, hpend, hqs⟩ := h
  obtain ⟨hlane', rs, hpend', hrs⟩ := h'
  exact ⟨fun n => (hlane n).trans (hlane' n), qs ++ rs, by rw [hpend', hpend, List.append_assoc],
    fun q hq => (List.mem_append.mp hq).elim (hqs q) (hrs q)⟩

theorem foldl {f : Cluster → LaneUse → Cluster} (hf : ∀ k u, SlotsAside k (f k u)) (us : List LaneUse) (k : Cluster) :
    SlotsAside k (us.foldl f k) := by
  induction us generalizing k with
  | nil => exact refl k
  | cons u us ih => exact (hf k u).trans (ih (f k u))

theorem setLane {k : Cluster} {n : Nat} {l : Lane} (h : StatOnly (k.lane n) l) : SlotsAside k (k.setLane n l) := by
  refine ⟨fun m => ?_, [], (List.append_nil _).symm, by simp⟩
  rw [lane_setLane]
  split
  · next e => exact e ▸ h
  · exact .refl _

theorem apply (k : Cluster) (u : LaneUse) (addr : Nat) {o : LaneOut} (h : DataOnly o) : SlotsAside k (k.apply u addr o) := by
  have hdata := sameData_apply k u addr o
  refine ⟨fun n => ?_, o.pends u.phys, hdata.pend, ?_⟩
  · rw [hdata.lane]
    exact (setLane (statOnly_after _ u h)).lane n
  · intro q hq
    obtain hd | ⟨x, hd⟩ := o.d.eq_none_or_eq_some
    · simp [LaneOut.pends, hd] at hq
    · obtain rfl : q = ⟨o.dLat, u.phys, x.1, x.2⟩ := by simpa [LaneOut.pends, hd] using hq
      exact h.late (by simp [hd])

theorem markViolations (k k0 : Cluster) (m : MemOp) (addr : Nat) (us : List LaneUse) :
    SlotsAside k (k.markViolations k0 m addr us) := by
  refine foldl (fun k u => ?_) us k
  split
  · have htally := sameData_tallyOfs (k.setLane u.phys ((k.lane u.phys).stat u lstatOfs true)) u addr
    exact (setLane (statOnly_stat _ u true rfl)).trans (of_lanes htally.lanes htally.pend)
  · exact refl k

end SlotsAside

theorem dataOnly_outD (n : Nat) (r : DRes) {lat : Nat} (h : 2 ≤ lat) : DataOnly (outD n r lat) :=
  ⟨rfl, rfl, rfl, rfl, fun _ => h⟩

theorem dataOnly_none : DataOnly LaneOut.none := ⟨rfl, rfl, rfl, rfl, fun h => absurd h Bool.false_ne_true⟩

theorem dataOnly_loadResult (k0 : Cluster) (c : Nat) (m : MemOp) (data : SMap Word) (u : LaneUse) :
    DataOnly (k0.loadResult c m data u) := by
  unfold Cluster.loadResult
  dsimp only
  split
  · exact dataOnly_outD _ _ (by decide)
  · exact dataOnly_outD _ _ (by decide)
  · exact dataOnly_none

theorem slotsAside_runMem (s : State) (c addr : Nat) (k0 : Cluster) (m : Option MemOp) (k : Cluster) :
    SlotsAside k (s.runMem c addr k0 m k).2 := by
  cases m with
  | none => exact .refl k
  | some m =>
    unfold State.runMem
    dsimp only
    split
    · exact (SlotsAside.foldl (fun k u => .setLane (statOnly_stat _ u _ rfl)) _ k).trans (.markViolations _ k0 m addr _)
    · exact (SlotsAside.foldl (fun k u => .apply k u addr (dataOnly_loadResult ..)) _ k).trans
        (.markViolations _ k0 m addr _)

theorem slotsAside_postMod (s : State) (c : Nat) (m : Option MemOp) (k : Cluster) : SlotsAside k (s.postMod c m k).2 := by
  cases m with
  | none => exact .refl k
  | some m =>
    unfold State.postMod
    dsimp only
    split
    · exact .of_lanes rfl rfl
    · exact .refl k

/-! ## The sequencer and the counters of a word -/

theorem sameData_loopEnd (x d : Nat) (k : Cluster) : SameData k (loopEnd x d k).1 := by
  induction d generalizing k with
  | zero => exact .refl k
  | succ d ih =>
    unfold loopEnd
    split_ifs
    · exact ⟨rfl, rfl, rfl⟩
    · exact SameData.trans (k' := { k with depth := d }) ⟨rfl, rfl, rfl⟩ (ih _)
    · exact .refl k

theorem sameData_advance (x : Nat) (k : Cluster) : SameData k (k.advance x) :=
  (sameData_loopEnd x k.depth k).trans ⟨rfl, rfl, rfl⟩

@[simp] theorem clu_setClu (s : State) (c d : Nat) (k : Cluster) : (s.setClu c k).clu d = if d = c then k else s.clu d :=
  SMap.get_set _ _ _ _ _

/-- From `s` to `t` cluster `c` counts, compares and reports: memory, the counts of time, the queue, the task number and the other
clusters stay, and the lanes, the results on their way and the addressing registers of the cluster. -/
structure CountKept (c : Fin 16) (s t : State) : Prop where
  mem : t.mem = s.mem
  tm : t.tm = s.tm
  pending : t.pending = s.pending
  task : t.g (F.CL_TASK_TASK c) = s.g (F.CL_TASK_TASK c)
  own : SameData (s.clu c) (t.clu c)
  other : ∀ d, d ≠ c.val → t.clu d = s.clu d

namespace CountKept

variable {c : Fin 16} {r s : State}

theorem refl (s : State) : CountKept c s s := ⟨rfl, rfl, rfl, rfl, .refl _, fun _ _ => rfl⟩

section
variable (h : CountKept c r s)
include h

theorem p {f : Fld} {v : Nat} (hf : f.reg ≠ R.CL_TASK c) : CountKept c r (s.p f v) :=
  ⟨(p_mem s f v).trans h.mem, (p_tm s f v).trans h.tm, (p_pending s f v).trans h.pending,
    (g_p_reg s f _ v hf.symm).trans h.task, h.own, h.other⟩

theorem flag {f : Fld} {b : Bool} (hf : f.reg ≠ R.CL_TASK c) : CountKept c r (s.flag f b) := h.p hf

theorem bump {f : Fld} {n : Nat} (hf : f.reg ≠ R.CL_TASK c) : CountKept c r (s.bump f n) := h.p hf

theorem emit {kind src addr n : Nat} : CountKept c r (s.emit kind src addr n) :=
  ⟨h.mem, h.tm, h.pending, (g_emit s kind src addr n _).trans h.task, h.own, h.other⟩

theorem setClu {k : Cluster} (hk : SameData (s.clu c) k) : CountKept c r (s.setClu c k) := by
  refine ⟨h.mem, h.tm, h.pending, (g_setClu s c k _).trans h.task, ?_, fun d hd => ?_⟩
  · rw [clu_setClu, if_pos rfl]; exact h.own.trans hk
  · rw [clu_setClu, if_neg hd]; exact h.other d hd

/-- The first mismatch of a task is marked (R78). -/
theorem mark {a : Nat} : CountKept c r (s.setClu c { s.clu c with mm := true, mmAddr := a }) := h.setClu ⟨rfl, rfl, rfl⟩

theorem stalls {bank ext haz : Nat} : CountKept c r (s.stalls c bank ext haz) := by
  have hc := c.isLt
  have hbank : (F.BANK_STALL_COUNT c).reg ≠ R.CL_TASK c := by simp only [F.BANK_STALL_COUNT, R.BANK_STALL, R.CL_TASK]; omega
  have hext : (F.EXT_STALL_COUNT c).reg ≠ R.CL_TASK c := by simp only [F.EXT_STALL_COUNT, R.EXT_STALL, R.CL_TASK]; omega
  have hhaz : (F.HAZ_STALL_COUNT c).reg ≠ R.CL_TASK c := by simp only [F.HAZ_STALL_COUNT, R.HAZ_STALL, R.CL_TASK]; omega
  exact ((h.bump hbank).bump hext).bump hhaz

theorem countAct {k n : Nat} : CountKept c r (s.countAct c k n) := by
  have hc := c.isLt
  have hact : R.FCST_ACT c k ≠ R.CL_TASK c := by simp only [R.FCST_ACT, R.CL_TASK]; omega
  obtain ⟨hmem, htm, hpending, htask, hown, hother⟩ := h.bump (f := ⟨R.FCST_ACT c k, 31, 0⟩) (n := n) hact
  unfold State.countAct
  exact ⟨hmem, htm, hpending, (g_congr rfl _).trans htask, hown, hother⟩

theorem shadowCompare {addr : Nat} {mis : Bool} {ds : List Bool} : CountKept c r (s.shadowCompare c addr mis ds) := by
  have hc := c.isLt
  have hctl : (F.SHADOW_CTL_INJ c).reg ≠ R.CL_TASK c := by simp only [F.SHADOW_CTL_INJ, R.SHADOW_CTL, R.CL_TASK]; omega
  have hstat : (F.SHADOW_STAT_MISMATCH c).reg ≠ R.CL_TASK c := by
    simp only [F.SHADOW_STAT_MISMATCH, R.SHADOW_STAT, R.CL_TASK]; omega
  have hcnt : (F.SHADOW_MM_CNT_COUNT c).reg ≠ R.CL_TASK c := by
    simp only [F.SHADOW_MM_CNT_COUNT, R.SHADOW_MM_CNT, R.CL_TASK]; omega
  have hlane : (F.SHADOW_LAST_LANE c).reg ≠ R.CL_TASK c := by simp only [F.SHADOW_LAST_LANE, R.SHADOW_LAST, R.CL_TASK]; omega
  have htick : (F.SHADOW_LAST_TICK c).reg ≠ R.CL_TASK c := by simp only [F.SHADOW_LAST_TICK, R.SHADOW_LAST, R.CL_TASK]; omega
  unfold State.shadowCompare
  split
  · dsimp only
    split_ifs
    · exact h.flag hctl
    · exact ((((h.flag hctl).flag hstat).bump hcnt).p hlane).p htick
    · exact (((((h.flag hctl).flag hstat).bump hcnt).p hlane).p htick).mark.emit
    · exact (((((h.flag hctl).flag hstat).bump hcnt).p hlane).p htick).mark
  · exact h

end

end CountKept

/-! ## The word -/

/-- A slot word by its parts: the compute slot, the memory slots, the results that become visible, the sequencer, and the counters and
comparisons. `k` is the cluster after its slots, `k'` after the sequencer, and `u` the state after the memory slots. -/
theorem runSlots_parts (s : State) (c : Fin 16) (env : WordEnv) (cs : CSlot) (m0 : M0Slot) (m1 : M1Slot) :
    ∃ (k k' : Cluster) (u : State),
      SlotsAside (s.runCompute c (progByte c (s.clu c).pc) (s.clu c) cs (s.clu c)) k ∧ SameData k.visible k' ∧
        CountKept c (u.setClu c k') (s.runSlots c env cs m0 m1) ∧
        (m0 = .nop → m1 = .nop → k = s.runCompute c (progByte c (s.clu c).pc) (s.clu c) cs (s.clu c) ∧ u = s) := by
  unfold State.runSlots
  extract_lets k0 x addr o0 o1 bank ext haz t ds k1 r r' r'' r''' seen noted moved k' stalled counted counted0 counted1
  have hslots : SlotsAside k1 r'''.2 :=
    (((slotsAside_runMem s c addr k0 o0 k1).trans (slotsAside_runMem r.1 c addr k0 o1 r.2)).trans
      (slotsAside_postMod r'.1 c o0 r'.2)).trans (slotsAside_postMod r''.1 c o1 r''.2)
  have hnoted : SameData seen noted := by
    unfold noted
    clear_value seen
    split
    · exact ⟨rfl, rfl, rfl⟩
    · split
      · exact ⟨rfl, rfl, rfl⟩
      · exact .refl _
    · exact .refl _
  have hmoved : SameData seen k' := (hnoted.trans (sameData_advance x noted)).trans ⟨rfl, rfl, rfl⟩
  have hstalled : CountKept c (r'''.1.setClu c k') stalled := (CountKept.refl _).stalls
  have hcounted : CountKept c (r'''.1.setClu c k') counted := by
    unfold counted
    clear_value stalled
    split
    · exact hstalled.countAct
    · exact hstalled
  have hcounted0 : CountKept c (r'''.1.setClu c k') counted0 := by
    unfold counted0
    clear_value counted o0
    split
    · exact hcounted.countAct
    · exact hcounted
  have hcounted1 : CountKept c (r'''.1.setClu c k') counted1 := by
    unfold counted1
    clear_value counted0 o1
    split
    · exact hcounted0.countAct
    · exact hcounted0
  refine ⟨r'''.2, k', r'''.1, hslots, hmoved, hcounted1.shadowCompare, ?_⟩
  rintro rfl rfl
  exact ⟨rfl, rfl⟩

end Sys2Proof.Machine
end

section
/-!
SUPPORT. What a compute operation shows in an enabled logical lane once its word has issued (R71, R75, R126).
-/
namespace Sys2Proof.Machine

/-- Cluster `k` shows in physical lane `n`, which held `l`, what result `o` writes: accumulators, predicate flags, offset entries,
LSTAT and data registers of latency 1 now, other data registers later. -/
structure Shows (n : Nat) (l : Lane) (o : LaneOut) (k : Cluster) : Prop where
  acc : ∀ i v, o.acc = some (i, v) → (k.lane n).ac i = v.toInt
  aov : (k.lane n).lstat.testBit 0 = (l.lstat.testBit 0 || o.aov)
  sat : o.sat = true → (k.lane n).lstat.testBit 1 = true
  pf : ∀ (p : Fin 4) v, o.pf = some (p.val, v) → (k.lane n).flag p = v
  ofs : ∀ i v, o.ofs = some (i, v) → k.ofs n i = v
  now : ∀ r v, o.d = some (r, v) → o.dLat = 1 → (k.lane n).dr r = v
  later : ∀ r v, o.d = some (r, v) → 2 ≤ o.dLat → ⟨o.dLat - 1, n, r, v⟩ ∈ k.pend

/-- What a lane has taken shows after the memory slots and the word's end. -/
theorem shows_of_laneTakes {u : LaneUse} {o : LaneOut} {k0 k1 k k' : Cluster} (hu : u.shadow = false)
    (htakes : LaneTakes u o k0 k1) (hslots : SlotsAside k1 k) (hdata : SameData k.visible k') :
    Shows u.phys (k0.lane u.phys) o k' := by
  obtain ⟨hlane, qs, rs, hpend, -, hrs⟩ := htakes
  obtain ⟨hstat, ts, hpend', hts⟩ := hslots
  obtain ⟨-, hacc, hpf, hofs, haov, hsat⟩ := hstat u.phys
  rw [hlane] at hacc hpf hofs haov hsat
  obtain ⟨hacc', hpf', hlstat', hofs'⟩ : (k'.lane u.phys).acc = (k.lane u.phys).acc ∧ (k'.lane u.phys).pf = (k.lane u.phys).pf ∧
      (k'.lane u.phys).lstat = (k.lane u.phys).lstat ∧ (k'.lane u.phys).ofs = (k.lane u.phys).ofs := by
    have h := others_visible k u.phys
    rw [← hdata.lane] at h
    simpa [Lane.others] using h
  have hdr : ∀ r v, o.d = some (r, v) → k.pend = (k0.pend ++ qs) ++ ⟨o.dLat, u.phys, r, v⟩ :: (rs ++ ts) := by
    intro r v hd
    simp [hpend', hpend, LaneOut.pends, hd]
  constructor
  case acc =>
    intro i v ho
    rw [← ac_after_self (l := k0.lane u.phys) (u := u) ho, Lane.ac, Lane.ac, hacc', hacc]
  case aov => rw [hlstat', haov, aov_after hu]
  case sat => exact fun ho => hlstat' ▸ hsat (sat_after hu ho)
  case pf =>
    intro p v ho
    rw [← flag_after_self (l := k0.lane u.phys) (u := u) ho, Lane.flag, Lane.flag, hpf', hpf]
  case ofs =>
    intro i v ho
    rw [← ofs_after_self (l := k0.lane u.phys) hu ho, Cluster.ofs, hofs', hofs]
  case now =>
    intro r v hd hlat
    rw [hdata.lane]
    refine dr_visible_of_last (q := ⟨o.dLat, u.phys, r, v⟩) (hdr r v hd) hlat.le fun p hp hleft hplane => ?_
    obtain hp | hp := List.mem_append.mp hp
    · exact absurd hplane (hrs p hp)
    · exact absurd hleft (Nat.not_le.mpr (hts p hp))
  case later =>
    intro r v hd hlat
    rw [hdata.pend]
    refine mem_pend_visible (q := ⟨o.dLat, u.phys, r, v⟩) ?_ hlat
    rw [hdr r v hd]
    exact List.mem_append_right _ List.mem_cons_self

variable {c : Fin 16} {x : Beside} {q : Cond} {o : COp} {j : Fin 16} {s : State}

/-- What the operation of a word computes in logical lane `j`, from the registers as the word finds them. -/
def State.resultIn (s : State) (c : Nat) (o : COp) (j : Nat) : LaneOut :=
  laneOp o (s.laneOf c j) j (fun n => (s.laneOf c 0).dr n) (s.seqValue c (s.clu c))

theorem AtWord.ownLane {t : State} (h : AtWord c s t) {j : Nat} (hown : s.ownLane c j) : t.ownLane c j := by
  unfold State.ownLane
  rw [h.physOf, h.checkedLane]
  exact hown

theorem AtWord.useOf {t : State} (h : AtWord c s t) (j : Nat) : t.useOf c j = s.useOf c j := by
  unfold State.useOf
  rw [h.physOf]

theorem AtWord.laneResult {t : State} (h : AtWord c s t) (o : COp) (j : Nat) :
    t.laneResult c (t.clu c) o (t.useOf c j) = s.resultIn c o j := by
  unfold State.laneResult State.resultIn
  rw [h.useOf, h.clu, h.physOf, show t.seqValue c (s.clu c) = s.seqValue c (s.clu c) from funext (h.seqValue _)]
  rfl

/-- Where the compute slot lets a lane take a result, the lane shows it after the word. -/
theorem shows_of_computed {u : LaneUse} {out : LaneOut} (hissues : s.issues c (.slots (.op q o) x.m0 x.m1) = true)
    (hu : u.shadow = false)
    (htakes : ∀ t addr, AtWord c s t → LaneTakes u out (s.clu c) (t.runCompute c addr (s.clu c) (.op q o) (s.clu c))) :
    Shows u.phys ((s.clu c).lane u.phys) out ((issueC c x q o s).clu c) := by
  obtain ⟨t, ht, hrun⟩ := issue_slots x.env hissues
  obtain ⟨k, k', v, hslots, hdata, hcount, -⟩ := runSlots_parts t c x.env (.op q o) x.m0 x.m1
  have hend := hcount.own
  rw [clu_setClu, if_pos rfl] at hend
  rw [ht.clu] at hslots
  rw [issueC, hrun]
  exact shows_of_laneTakes hu (htakes t _ ht) hslots (hdata.trans hend)

/-- An enabled lane shows the result of the word's operation. -/
theorem shows_issueC (ho : COp.reduces o = false) (hissues : s.issues c (.slots (.op q o) x.m0 x.m1) = true) (hown : s.ownLane c j)
    (hq : (s.laneOf c j).holds q = true) :
    Shows (s.physOf c j) (s.laneOf c j) (s.resultIn c o j) ((issueC c x q o s).clu c) := by
  refine shows_of_computed (u := s.useOf c j) hissues rfl fun t addr ht => ?_
  have hq' : ((s.clu c).lane (t.physOf c j)).holds q = true := by rw [ht.physOf]; exact hq
  rw [← ht.useOf, ← ht.laneResult, ht.clu]
  exact laneTakes_runCompute addr (s.clu c) (s.clu c) (ht.ownLane hown) ho hq'

/-! ## One rule per kind of register -/

/-- Saturation to `w` bits gives a value of `w` bits. -/
theorem toInt_ofInt_satTo {w : Nat} (hw : 0 < w) (v : Int) : (BitVec.ofInt w (satTo w v)).toInt = satTo w v := by
  have hpos : (0 : Int) < 2 ^ (w - 1) := Int.pow_pos (by decide)
  refine BitVec.toInt_ofInt_eq_self hw ?_ ?_ <;>
    (unfold satTo clip; split_ifs <;> omega)

section
variable (ho : COp.reduces o = false) (hissues : s.issues c (.slots (.op q o) x.m0 x.m1) = true) (hown : s.ownLane c j)
  (hq : (s.laneOf c j).holds q = true)
include ho hissues hown hq

/-- An accumulator takes the exact result saturated to 80 bits, and AOV tells whether it was clipped (R71). -/
theorem issueC_acc {i : Nat} {v : Int} (hout : s.resultIn c o j = outA i v) :
    (((issueC c x q o s).clu c).lane (s.physOf c j)).ac i = satTo 80 v ∧
      (((issueC c x q o s).clu c).lane (s.physOf c j)).lstat.testBit 0 = ((s.laneOf c j).lstat.testBit 0 || clips 80 v) := by
  have h := shows_issueC ho hissues hown hq
  rw [hout] at h
  exact ⟨(h.acc i _ rfl).trans (toInt_ofInt_satTo (by decide) v), h.aov⟩

/-- A data register shows the result, and a saturating operation that clips sets SAT. -/
theorem issueC_dr {d : Nat} {w : Word} {sat : Bool} (hout : s.resultIn c o j = outD d (w, sat)) :
    (((issueC c x q o s).clu c).lane (s.physOf c j)).dr d = w ∧
      (sat = true → (((issueC c x q o s).clu c).lane (s.physOf c j)).lstat.testBit 1 = true) := by
  have h := shows_issueC ho hissues hown hq
  rw [hout] at h
  exact ⟨h.now d w rfl rfl, h.sat⟩

/-- A data register that the result reaches after two words: it is on its way for one more. -/
theorem issueC_pend {d : Nat} {r : DRes} (hout : s.resultIn c o j = outD d r 2) :
    (⟨1, s.physOf c j, d, r.1⟩ : Pend) ∈ ((issueC c x q o s).clu c).pend := by
  have h := shows_issueC ho hissues hown hq
  rw [hout] at h
  exact h.later d r.1 rfl (Nat.le_refl 2)

/-- A predicate flag takes its value. -/
theorem issueC_flag {p : Fin 4} {v : Bool} (hout : s.resultIn c o j = outP p v) :
    (((issueC c x q o s).clu c).lane (s.physOf c j)).flag p = v := by
  have h := shows_issueC ho hissues hown hq
  rw [hout] at h
  exact h.pf p v rfl

/-- An offset entry takes its value. -/
theorem issueC_ofs {i : Nat} {v : BitVec 24} (hout : (s.resultIn c o j).ofs = some (i, v)) :
    ((issueC c x q o s).clu c).ofs (s.physOf c j) i = v :=
  (shows_issueC ho hissues hown hq).ofs i v hout

end

end Sys2Proof.Machine
end

section
/-!
SUPPORT. The statements about accumulators, predicate flags and the plain operations on data registers (R70, R71, R74, R113).
-/
namespace Sys2Proof.Machine

/-- Settles O17: each operation forms its row of the table, and the accumulator takes it saturated. -/
theorem accumulatorOperations : Obligations.AccumulatorOperations := by
  unfold Obligations.AccumulatorOperations
  refine ⟨?_, ?_, ?_, ?_, ?_, ?_, ?_, ?_, ?_, ?_⟩
  · exact fun c x q i a b j s hissues hown hq => ⟨_, rfl, issueC_acc rfl hissues hown hq rfl⟩ -- MPY
  · exact fun c x q i a b j s hissues hown hq => ⟨_, rfl, issueC_acc rfl hissues hown hq rfl⟩ -- MAC
  · exact fun c x q i a b j s hissues hown hq => ⟨_, rfl, issueC_acc rfl hissues hown hq rfl⟩ -- MSU
  · exact fun c x q i a b j s hissues hown hq => ⟨_, rfl, issueC_acc rfl hissues hown hq rfl⟩ -- MPY_D
  · exact fun c x q i a b j s hissues hown hq => ⟨_, rfl, issueC_acc rfl hissues hown hq rfl⟩ -- MAC_D
  · exact fun c x q i a b j s hissues hown hq => ⟨_, rfl, issueC_acc rfl hissues hown hq rfl⟩ -- MSU_D
  · exact fun c x q i a j s hissues hown hq => ⟨_, rfl, issueC_acc rfl hissues hown hq rfl⟩ -- ALD
  · exact fun c x q i m j s hissues hown hq => ⟨_, rfl, issueC_acc rfl hissues hown hq rfl⟩ -- AADD
  · exact fun c x q i m j s hissues hown hq => ⟨_, rfl, issueC_acc rfl hissues hown hq rfl⟩ -- ASUB
  · exact fun c x q i j s hissues hown hq => ⟨_, rfl, issueC_acc rfl hissues hown hq rfl⟩ -- ACLR

/-- Settles O21: each operation forms its row of the table, and the flag takes it. -/
theorem predicateOperations : Obligations.PredicateOperations := by
  unfold Obligations.PredicateOperations
  refine ⟨?_, ?_, ?_, ?_, ?_, ?_, ?_, ?_, ?_, ?_, ?_⟩
  · exact fun c x q p a b j s hissues hown hq => ⟨_, rfl, issueC_flag rfl hissues hown hq rfl⟩ -- CMP_EQ
  · exact fun c x q p a b j s hissues hown hq => ⟨_, rfl, (issueC_flag rfl hissues hown hq rfl).trans decide_not.symm⟩ -- CMP_NE
  · exact fun c x q p a b j s hissues hown hq => ⟨_, rfl, issueC_flag rfl hissues hown hq rfl⟩ -- CMP_LT
  · exact fun c x q p a b j s hissues hown hq => ⟨_, rfl, issueC_flag rfl hissues hown hq rfl⟩ -- CMP_LE
  · exact fun c x q p i j s hissues hown hq => ⟨_, rfl, issueC_flag rfl hissues hown hq rfl⟩ -- CMPA_LT
  · exact fun c x q p i j s hissues hown hq => ⟨_, rfl, issueC_flag rfl hissues hown hq rfl⟩ -- CMPA_EQ
  · exact fun c x q p v j s hissues hown hq => ⟨_, rfl, issueC_flag rfl hissues hown hq rfl⟩ -- PSET
  · exact fun c x q p k r j s hissues hown hq => ⟨_, rfl, issueC_flag rfl hissues hown hq rfl⟩ -- PAND
  · exact fun c x q p k r j s hissues hown hq => ⟨_, rfl, issueC_flag rfl hissues hown hq rfl⟩ -- POR
  · exact fun c x q p k r j s hissues hown hq => ⟨_, rfl, issueC_flag rfl hissues hown hq rfl⟩ -- PXOR
  · exact fun c x q p k j s hissues hown hq => ⟨_, rfl, issueC_flag rfl hissues hown hq rfl⟩ -- PNOT

/-! ## The plain operations on data registers -/

/-- The magnitude of a word saturated to 32 bits: of the most negative word it is the greatest (R74). -/
theorem satRes_natAbs (a : Word) : satRes 32 (a.toInt.natAbs : Int) =
    (if a = 0x80000000#32 then 0x7FFFFFFF#32 else if a.toInt < 0 then -a else a, decide (a = 0x80000000#32)) := by
  have hmin : a = 0x80000000#32 ↔ a.toInt = -2 ^ 31 := by
    rw [← BitVec.toInt_inj]; rfl
  have hlo := a.le_toInt
  have hhi := a.toInt_lt
  have habs : ∀ w, satTo 32 (a.toInt.natAbs : Int) = a.toInt.natAbs → BitVec.ofInt 32 (a.toInt.natAbs : Int) = w →
      a ≠ 0x80000000#32 → satRes 32 (a.toInt.natAbs : Int) = (w, decide (a = 0x80000000#32)) := by
    intro w hsat hw hne
    rw [satRes, clips, hsat, hw, bne_self_eq_false, decide_eq_false hne]
  split_ifs with ha hneg
  · subst ha; decide
  · refine habs _ ?_ ?_ ha
    · have : a.toInt ≠ -2 ^ 31 := fun e => ha (hmin.mpr e)
      unfold satTo clip; omega
    · rw [Int.ofNat_natAbs_of_nonpos (by omega), BitVec.ofInt_neg, BitVec.ofInt_toInt]
  · refine habs _ ?_ ?_ ha
    · unfold satTo clip; omega
    · rw [Int.natAbs_of_nonneg (by omega), BitVec.ofInt_toInt]

/-- Of all words only the most negative has a negative that clips. -/
theorem clips_neg {a : Word} (h : a = 0x80000000#32) : clips 32 (-a.toInt) = true := by
  subst h; decide

/-- Settles O18: each operation forms its row of the table, and the register shows it. -/
theorem dataRegisterArithmetic : Obligations.DataRegisterArithmetic := by
  unfold Obligations.DataRegisterArithmetic
  refine ⟨?_, ?_, ?_, ?_, ?_, ?_, ?_, ?_, ?_, ?_, ?_, ?_⟩
  · -- MOV
    exact fun c x q d a j s hissues hown hq => ⟨_, rfl, (issueC_dr rfl hissues hown hq rfl).1⟩
  · -- ADD
    exact fun c x q d a b j s hissues hown hq => ⟨_, rfl, (issueC_dr rfl hissues hown hq rfl).1⟩
  · -- SUB
    exact fun c x q d a b j s hissues hown hq => ⟨_, rfl, (issueC_dr rfl hissues hown hq rfl).1⟩
  · -- ADDS
    exact fun c x q d a b j s hissues hown hq => ⟨_, rfl, issueC_dr rfl hissues hown hq rfl⟩
  · -- SUBS
    exact fun c x q d a b j s hissues hown hq => ⟨_, rfl, issueC_dr rfl hissues hown hq rfl⟩
  · -- NEG
    intro c x q d a j s hissues hown hq
    obtain ⟨hd, hsat⟩ := issueC_dr rfl hissues hown hq rfl
    exact ⟨_, rfl, hd, fun ha => hsat (clips_neg ha)⟩
  · -- ABS
    intro c x q d a j s hissues hown hq
    obtain ⟨hd, hsat⟩ := issueC_dr rfl hissues hown hq (congrArg (outD d) (satRes_natAbs _))
    exact ⟨_, rfl, hd, fun ha => hsat (decide_eq_true ha)⟩
  · -- MIN
    exact fun c x q d a b j s hissues hown hq => ⟨_, rfl, (issueC_dr rfl hissues hown hq rfl).1⟩
  · -- MAX
    exact fun c x q d a b j s hissues hown hq => ⟨_, rfl, (issueC_dr rfl hissues hown hq rfl).1⟩
  · -- AND
    exact fun c x q d a b j s hissues hown hq => ⟨_, rfl, (issueC_dr rfl hissues hown hq rfl).1⟩
  · -- OR
    exact fun c x q d a b j s hissues hown hq => ⟨_, rfl, (issueC_dr rfl hissues hown hq rfl).1⟩
  · -- XOR
    exact fun c x q d a b j s hissues hown hq => ⟨_, rfl, (issueC_dr rfl hissues hown hq rfl).1⟩

end Sys2Proof.Machine
end

section
/-!
SUPPORT. The statements about shifts, rounded products, number formats, conversions and the operations across lanes (R69, R73, R74,
R76, R77).
-/
namespace Sys2Proof.Machine

/-! ## Rows of the tables -/

/-- An arithmetic shift right is a division rounded down. -/
theorem plain_div_two_pow (a : Word) (n : Nat) : plain (a.toInt / 2 ^ n) = (a.sshiftRight n, false) := by
  rw [BitVec.sshiftRight_eq, Int.shiftRight_eq_div_pow, Nat.cast_pow, Nat.cast_ofNat, plain]

/-- Multiplying a signed number by a power of two shifts its bits. -/
theorem ofInt_mul_two_pow {m : Nat} (w : Nat) (e : BitVec m) (n : Nat) :
    BitVec.ofInt w (e.toInt * 2 ^ n) = e.signExtend w <<< n := by
  have hpow : BitVec.ofInt w (2 ^ n) = BitVec.twoPow w n := by
    have hcast : (2 : Int) ^ n = ((2 ^ n : Nat) : Int) := (Nat.cast_pow 2 n).symm
    rw [hcast, BitVec.ofInt_natCast]
    exact BitVec.eq_of_toNat_eq (by rw [BitVec.toNat_ofNat, BitVec.toNat_twoPow])
  rw [BitVec.ofInt_mul, hpow, BitVec.mul_twoPow_eq_shiftLeft]
  rfl

/-- A half word moved to the upper half leaves no trace of its sign extension. -/
theorem signExtend_shiftLeft_16 (e : BitVec 16) : e.signExtend 32 <<< 16 = e ++ 0#16 := by
  apply BitVec.eq_of_getLsbD_eq
  intro i hi
  rw [BitVec.getLsbD_shiftLeft, BitVec.getLsbD_append, BitVec.getLsbD_signExtend]
  by_cases h : i < 16
  · simp [h]
  · simp [h, hi, show i - 16 < 16 by omega, show i - 16 < 32 by omega]

/-- The 24 lower bits moved to the upper end leave no trace of their sign extension. -/
theorem signExtend_shiftLeft_8 (a : Word) : (a.extractLsb' 0 24).signExtend 32 <<< 8 = a <<< 8 := by
  apply BitVec.eq_of_getLsbD_eq
  intro i hi
  rw [BitVec.getLsbD_shiftLeft, BitVec.getLsbD_shiftLeft, BitVec.getLsbD_signExtend, BitVec.getLsbD_extractLsb']
  by_cases h : i < 8
  · simp [h]
  · simp [h, hi, show i - 8 < 24 by omega, show i - 8 < 32 by omega]

/-- UNPK places an element in the upper half (R69). -/
theorem plain_elem (a : Word) (n : Nat) : plain (elem a n * 2 ^ 16) = (a.extractLsb' (16 * n) 16 ++ 0#16, false) := by
  rw [plain, elem, ofInt_mul_two_pow, signExtend_shiftLeft_16]

/-- CVT_31 moves a Q23 sample to the upper bits. -/
theorem plain_q23 (a : Word) : plain ((a.extractLsb' 0 24).toInt * 2 ^ 8) = (a <<< 8, false) := by
  rw [plain, ofInt_mul_two_pow, signExtend_shiftLeft_8]

/-- The product of the most negative word with itself clips. -/
theorem clips_mulr {a b : Word} (h : a = 0x80000000#32 ∧ b = 0x80000000#32) : clips 32 (rndRhu (a.toInt * b.toInt) 31) = true := by
  obtain ⟨rfl, rfl⟩ := h
  decide

/-- Rounding half upward by the discarded part is adding a half before the shift (R73). -/
theorem roundHalfUp_eq (t : Int) {n : Nat} (hn : 1 ≤ n) :
    (if 2 ^ (n - 1) ≤ t - t / 2 ^ n * 2 ^ n then t / 2 ^ n + 1 else t / 2 ^ n) = (t + 2 ^ (n - 1)) / 2 ^ n := by
  obtain ⟨m, rfl⟩ := Nat.exists_eq_add_of_le' hn
  have hhalf : (2 : Int) ^ (m + 1) = 2 * 2 ^ m := pow_succ' 2 m
  have hpos : (0 : Int) < 2 ^ m := Int.pow_pos (by decide)
  rw [Nat.add_sub_cancel, hhalf]
  generalize (2 : Int) ^ m = h at hpos
  have hdiv : t = t / (2 * h) * (2 * h) + t % (2 * h) := (Int.ediv_mul_add_emod t (2 * h)).symm
  have hlo := Int.emod_nonneg t (show 2 * h ≠ 0 by omega)
  have hhi := Int.emod_lt_of_pos t (show 0 < 2 * h by omega)
  generalize t / (2 * h) = a at hdiv
  generalize t % (2 * h) = f at hdiv hlo hhi
  subst hdiv
  rw [add_sub_cancel_left, add_assoc, add_comm (a * (2 * h)), Int.add_mul_ediv_right _ _ (by omega : 2 * h ≠ 0)]
  split_ifs with hf
  · have hone : (f + h) / (2 * h) = 1 ∧ (f + h) % (2 * h) = f - h :=
      (Int.ediv_emod_unique (by omega)).mpr ⟨by omega, by omega, by omega⟩
    rw [hone.1, add_comm]
  · rw [Int.ediv_eq_zero_of_lt (by omega) (by omega), zero_add]

theorem convert_rhu_32 {sh : Nat} (h : 1 ≤ sh) (src : ShSrc) (t : Int) :
    (convert ⟨src, .rhu, .w32⟩ sh t).1 = BitVec.ofInt 32 (satTo 32 ((t + 2 ^ (sh - 1)) / 2 ^ sh)) := by
  have hshift : sh + 32 - 32 = sh := Nat.add_sub_cancel sh 32
  have hround : (convert ⟨src, .rhu, .w32⟩ sh t).1 = BitVec.ofInt 32 (satTo 32 (if sh + 32 - 32 = 0 then t else
      if 2 ^ (sh + 32 - 32 - 1) ≤ t - t / 2 ^ (sh + 32 - 32) * 2 ^ (sh + 32 - 32) then t / 2 ^ (sh + 32 - 32) + 1
      else t / 2 ^ (sh + 32 - 32))) := rfl
  rw [hround, hshift, if_neg (by omega), roundHalfUp_eq t h]

theorem convert_trn_16 (sh : Nat) (src : ShSrc) (t : Int) :
    (convert ⟨src, .trn, .w16⟩ sh t).1 = BitVec.ofInt 32 (satTo 16 (t / 2 ^ (sh + 16))) := by
  have hshift : sh + 32 - 16 = sh + 16 := by omega
  have hround : (convert ⟨src, .trn, .w16⟩ sh t).1 = BitVec.ofInt 32 (satTo 16 (if sh + 32 - 16 = 0 then t else
      t / 2 ^ (sh + 32 - 16))) := rfl
  rw [hround, hshift, if_neg (by omega)]

/-- Settles O19: each operation forms its row of the table, and the register shows it. -/
theorem shiftsProductsAndFormats : Obligations.ShiftsProductsAndFormats := by
  unfold Obligations.ShiftsProductsAndFormats
  refine ⟨?_, ?_, ?_, ?_, ?_, ?_, ?_, ?_, ?_, ?_, ?_, ?_, ?_, ?_, ?_⟩
  · -- ASR
    exact fun c x q d a b j s hissues hown hq =>
      ⟨_, rfl, (issueC_dr rfl hissues hown hq (congrArg (outD d) (plain_div_two_pow _ _))).1⟩
  · -- LSR
    exact fun c x q d a b j s hissues hown hq => ⟨_, rfl, (issueC_dr rfl hissues hown hq rfl).1⟩
  · -- LSLS
    exact fun c x q d a b j s hissues hown hq => ⟨_, rfl, issueC_dr rfl hissues hown hq rfl⟩
  · -- ASR_I
    exact fun c x q d a sh j s hissues hown hq =>
      ⟨_, rfl, (issueC_dr rfl hissues hown hq (congrArg (outD d) (plain_div_two_pow _ _))).1⟩
  · -- LSR_I
    exact fun c x q d a sh j s hissues hown hq => ⟨_, rfl, (issueC_dr rfl hissues hown hq rfl).1⟩
  · -- LSLS_I
    exact fun c x q d a sh j s hissues hown hq => ⟨_, rfl, issueC_dr rfl hissues hown hq rfl⟩
  · -- MULR
    intro c x q d a b j s hissues hown hq
    obtain ⟨hd, hsat⟩ := issueC_dr rfl hissues hown hq rfl
    exact ⟨_, rfl, hd, fun hab => hsat (clips_mulr hab)⟩
  · -- ADDS_D
    exact fun c x q d a b j s hissues hown hq => ⟨_, rfl, issueC_dr rfl hissues hown hq rfl⟩
  · -- SUBS_D
    exact fun c x q d a b j s hissues hown hq => ⟨_, rfl, (issueC_dr rfl hissues hown hq rfl).1⟩
  · -- MULR_D
    exact fun c x q d a b j s hissues hown hq => ⟨_, rfl, (issueC_dr rfl hissues hown hq rfl).1⟩
  · -- CVT_31
    exact fun c x q d a j s hissues hown hq =>
      ⟨_, rfl, (issueC_dr rfl hissues hown hq (congrArg (outD d) (plain_q23 _))).1⟩
  · -- CVT_23
    exact fun c x q d a j s hissues hown hq => ⟨_, rfl, (issueC_dr rfl hissues hown hq rfl).1⟩
  · -- PACK
    exact fun c x q d a b j s hissues hown hq => ⟨_, rfl, (issueC_dr rfl hissues hown hq rfl).1⟩
  · -- UNPK_0
    exact fun c x q d a j s hissues hown hq =>
      ⟨_, rfl, (issueC_dr rfl hissues hown hq (congrArg (outD d) (plain_elem _ 0))).1⟩
  · -- UNPK_1
    exact fun c x q d a j s hissues hown hq =>
      ⟨_, rfl, (issueC_dr rfl hissues hown hq (congrArg (outD d) (plain_elem _ 1))).1⟩

/-! ## Operations across lanes -/

variable {c : Fin 16} {x : Beside} {q : Cond} {s : State}

/-- The terms of RSUM are those of the logical lanes as the word finds them. -/
theorem rsumTerms_eq (s : State) (c : Nat) (q : Cond) (i : Nat) : s.rsumTerms c (s.clu c) q i =
    (List.range 16).map fun l => if (s.laneOf c l).holds q then (s.laneOf c l).ac i else 0 := rfl

/-- The last addition of the tree saturates (R76). -/
theorem reduceTree_saturated (f : Nat → Int) : ∃ v, (reduceTree ((List.range 16).map f)).1 = satTo 80 v := ⟨_, rfl⟩

theorem AtWord.rsumOut {t : State} (h : AtWord c s t) (k : Cluster) (q : Cond) (i m : Nat) :
    t.rsumOut c k q i m = s.rsumOut c k q i m := by
  unfold State.rsumOut State.rsumTerms
  simp only [h.physOf]

/-- Logical LANE_0 shows the sum. -/
theorem shows_issueC_rsum {i m : Fin 4} (hissues : s.issues c (.slots (.op q (.rsum i m)) x.m0 x.m1) = true)
    (hown : s.ownLane c (0 : Fin 16)) :
    Shows (s.physOf c 0) (s.laneOf c 0) (s.rsumOut c (s.clu c) q i m) ((issueC c x q (.rsum i m) s).clu c) := by
  refine shows_of_computed (u := s.useOf c 0) hissues rfl fun t addr ht => ?_
  rw [← ht.useOf, ← ht.rsumOut]
  exact laneTakes_runRsum t (ht.ownLane hown) addr (s.clu c) q i m (s.clu c)

/-- A message sent stands among the waiting ones, merged or by itself (R283). -/
theorem exists_mem_addMsg (ms : List FMsg) (m : FMsg) : ∃ f ∈ addMsg ms m, f.kind = m.kind ∧ f.src / 16 = m.src / 16 := by
  induction ms with
  | nil => exact ⟨m, List.mem_singleton.mpr rfl, rfl, rfl⟩
  | cons f ms ih =>
    unfold addMsg
    split
    · next h => exact ⟨_, List.mem_cons_self, h.1, h.2⟩
    · obtain ⟨g, hg, hsame⟩ := ih
      exact ⟨g, List.mem_cons_of_mem f hg, hsame⟩

/-- RSUM issues its word, and reports where the two trees disagree (R76). -/
theorem exec_rsum {i m : Fin 4} (differ : Bool) (hissues : s.issues c (.slots (.op q (.rsum i m)) x.m0 x.m1) = true) :
    exec (.rsum c x q i m differ) s = .next (if differ then
      (issueC c x q (.rsum i m) s).emit Kind.reduceMismatch (Src.cluster c 0) (progByte c (s.clu c).pc)
      else issueC c x q (.rsum i m) s) := by
  change execRsum c x q i m differ s = _
  unfold execRsum
  rw [hissues, Bool.true_and]

theorem seqValue_dispatch {v : Fin 32} (k : Cluster) (hv : v.val ≤ 12) : s.seqValue c k v = s.rd (R.SEQ_IN c v) :=
  if_pos (Nat.lt_succ_of_le hv)

theorem seqValue_pointer {v : Fin 32} (k : Cluster) (hv : 16 ≤ v.val ∧ v.val ≤ 23) :
    s.seqValue c k v = (k.ptr (v.val - 16)).setWidth 32 := by
  unfold State.seqValue
  rw [if_neg (by omega), if_pos (by omega)]

/-- Settles O20: EXTA's result is on its way, RSUM's stands in logical LANE_0, and each other operation forms its row of the table. -/
theorem conversionsAndCrossLaneOperations : Obligations.ConversionsAndCrossLaneOperations := by
  unfold Obligations.ConversionsAndCrossLaneOperations
  refine ⟨?_, ?_, ?_, ?_, ?_, ?_, ?_, ?_, ?_⟩
  · -- EXTA rounding half upward to 32 bits
    intro c x q d i sh j s hissues hown hq hsh
    have h := issueC_pend rfl hissues hown hq rfl
    exact ⟨_, rfl, convert_rhu_32 hsh (.imm sh) ((s.laneOf c j).ac i) ▸ h⟩
  · -- EXTA truncating to 16 bits by a register count
    intro c x q d n i j s hissues hown hq
    have h := issueC_pend rfl hissues hown hq rfl
    exact ⟨_, rfl, convert_trn_16 _ (.reg n) ((s.laneOf c j).ac i) ▸ h⟩
  · -- EXTA with any conversion
    exact fun c x q d i k j s hissues hown hq => ⟨_, rfl, issueC_pend rfl hissues hown hq rfl⟩
  · -- RSUM
    intro c x q i m differ s hissues hown
    refine ⟨_, exec_rsum differ hissues, ?_, ?_⟩
    · have hacc := (shows_issueC_rsum hissues hown).acc m _ rfl
      obtain ⟨v, hv⟩ := reduceTree_saturated fun l => if (s.laneOf c l).holds q then (s.laneOf c l).ac i else 0
      rw [rsumTerms_eq, hv, toInt_ofInt_satTo (by decide)] at hacc
      rw [hv, ← hacc]
      cases differ <;> rfl
    · rintro rfl
      exact exists_mem_addMsg _ _
  · -- BCAST
    exact fun c x q d a j s hissues hown hq => ⟨_, rfl, (issueC_dr rfl hissues hown hq rfl).1⟩
  · -- LID
    exact fun c x q d j s hissues hown hq => ⟨_, rfl, (issueC_dr rfl hissues hown hq rfl).1⟩
  · -- RDS of a dispatch value
    exact fun c x q d v j s hissues hown hq hv =>
      ⟨_, rfl, ((issueC_dr rfl hissues hown hq rfl).1).trans (seqValue_dispatch _ hv)⟩
  · -- RDS of a pointer
    exact fun c x q d v j s hissues hown hq hv =>
      ⟨_, rfl, ((issueC_dr rfl hissues hown hq rfl).1).trans (seqValue_pointer _ hv)⟩
  · -- OFSW
    exact fun c x q i n j s hissues hown hq => ⟨_, rfl, issueC_ofs rfl hissues hown hq rfl⟩

end Sys2Proof.Machine
end

section
/-!
SUPPORT. The frame of a compute operation beside empty memory slots (R68, R75, R112, R114).
-/
namespace Sys2Proof.Machine

/-! ## What an operation writes in a lane -/

/-- Result `out` writes no other register of a lane than operation `o` does, LSTAT apart. -/
structure WritesWithin (o : COp) (out : LaneOut) : Prop where
  d : ∀ r v, out.d = some (r, v) → COp.writesD o = some r
  acc : ∀ i v, out.acc = some (i, v) → COp.writesAcc o = some i
  pf : ∀ p v, out.pf = some (p, v) → COp.writesPf o = some p ∧ p < 4
  ofs : ∀ i v, out.ofs = some (i, v) → COp.writesOfs o = some i

theorem writesWithin_outA {o : COp} {i : Nat} {v : Int} (h : COp.writesAcc o = some i) : WritesWithin o (outA i v) := by
  refine ⟨nofun, ?_, nofun, nofun⟩
  rintro _ _ ⟨⟩
  exact h

theorem writesWithin_outD {o : COp} {n lat : Nat} {r : DRes} (h : COp.writesD o = some n) : WritesWithin o (outD n r lat) := by
  refine ⟨?_, nofun, nofun, nofun⟩
  rintro _ _ ⟨⟩
  exact h

theorem writesWithin_outP {o : COp} {p : Fin 4} {v : Bool} (h : COp.writesPf o = some p.val) : WritesWithin o (outP p v) := by
  refine ⟨nofun, nofun, ?_, nofun⟩
  rintro _ _ ⟨⟩
  exact ⟨h, p.isLt⟩

/-- In a lane an operation writes its own destination only. -/
theorem writesWithin_laneOp (o : COp) (l : Lane) (j : Nat) (d0 seq : Nat → Word) : WritesWithin o (laneOp o l j d0 seq) := by
  cases o with
  | acc | ald | aadd | asub | aclr => exact writesWithin_outA rfl
  | exta | bcast | alu2 | alu1 | alui | lid | rds => exact writesWithin_outD rfl
  | cmp | cmpaLt | cmpaEq | pset | plog | pnot => exact writesWithin_outP rfl
  | rsum => exact ⟨nofun, nofun, nofun, nofun⟩
  | ofsw i n =>
    refine ⟨nofun, nofun, nofun, ?_⟩
    rintro _ _ ⟨⟩
    rfl

theorem writesWithin_rsumOut (s : State) (c : Nat) (k : Cluster) (q : Cond) (i m : Fin 4) :
    WritesWithin (.rsum i m) (s.rsumOut c k q i m) := by
  refine ⟨nofun, ?_, nofun, nofun⟩
  rintro _ _ ⟨⟩
  rfl

theorem laneFrame_refl (o : COp) (l : Lane) : COp.laneFrame o l l :=
  ⟨fun _ _ => rfl, fun _ _ => rfl, fun _ _ => rfl, fun _ _ => rfl⟩

/-! ## A lane after the word -/

/-- A lane that takes nothing keeps every register where no result was on its way to it. -/
theorem lane_visible_of_aside {n : Nat} {k k' : Cluster} (h : LaneAside n k k') (hpend : k.pend = []) :
    k'.visible.lane n = k.lane n := by
  obtain ⟨hlane, qs, hpend', hqs⟩ := h
  rw [lane_visible_of_forall, hlane]
  intro q hq _
  rw [hpend', hpend, List.nil_append] at hq
  exact hqs q hq

/-- A lane that takes a result keeps what the operation does not write. -/
theorem laneFrame_of_takes {u : LaneUse} {o : COp} {out : LaneOut} {k k' : Cluster} (h : LaneTakes u out k k')
    (hwithin : WritesWithin o out) (hpend : k.pend = []) : COp.laneFrame o (k.lane u.phys) (k'.visible.lane u.phys) := by
  obtain ⟨hlane, qs, rs, hpend', hqs, hrs⟩ := h
  obtain ⟨hacc, hpf, -, hofs⟩ : (k'.visible.lane u.phys).acc = (k'.lane u.phys).acc ∧
      (k'.visible.lane u.phys).pf = (k'.lane u.phys).pf ∧ (k'.visible.lane u.phys).lstat = (k'.lane u.phys).lstat ∧
        (k'.visible.lane u.phys).ofs = (k'.lane u.phys).ofs := by
    simpa [Lane.others] using others_visible k' u.phys
  refine ⟨fun r hr => ?_, fun i hi => ?_, fun p hp => ?_, fun i hi => ?_⟩
  · rw [dr_visible_of_forall, hlane, dr_after]
    intro q hq _ hplane hreg
    rw [hpend', hpend, List.nil_append, List.mem_append, List.mem_append] at hq
    obtain (hq | hq) | hq := hq
    · exact hqs q hq hplane
    · obtain hd | ⟨y, hd⟩ := out.d.eq_none_or_eq_some
      · simp [LaneOut.pends, hd] at hq
      · obtain rfl : q = ⟨out.dLat, u.phys, y.1, y.2⟩ := by simpa [LaneOut.pends, hd] using hq
        exact hr (hreg ▸ hwithin.d y.1 y.2 hd)
    · exact hrs q hq hplane
  · rw [Lane.ac, hacc, hlane]
    exact ac_after_ne fun v hv => hi (hwithin.acc i v hv)
  · rw [Lane.flag, hpf, hlane]
    exact flag_after_ne (fun n v hv => (hwithin.pf n v hv).2) fun v hv => hp (hwithin.pf p v hv).1
  · rw [hofs, hlane]
    exact ofs_after_ne fun v hv => hi (hwithin.ofs i v hv)

section
variable {s : State} {c : Nat} {j : Fin 16} (hown : s.ownLane c j) (addr : Nat) (q : Cond) (o : COp) {k : Cluster}
  (hpend : k.pend = [])
include hown hpend

/-- After the compute slot a disabled lane keeps every register. -/
theorem lane_visible_of_disabled (ho : COp.reduces o = false) (hq : (k.lane (s.physOf c j)).holds q = false) :
    (s.runCompute c addr k (.op q o) k).visible.lane (s.physOf c j) = k.lane (s.physOf c j) :=
  lane_visible_of_aside (laneAside_runCompute addr k k hown ho hq) hpend

/-- After the compute slot a lane keeps what the operation does not write. -/
theorem laneFrame_runCompute : COp.laneFrame o (k.lane (s.physOf c j))
    ((s.runCompute c addr k (.op q o) k).visible.lane (s.physOf c j)) := by
  have hlanewise : COp.reduces o = false → COp.laneFrame o (k.lane (s.physOf c j))
      ((s.runCompute c addr k (.op q o) k).visible.lane (s.physOf c j)) := by
    intro ho
    cases hq : (k.lane (s.physOf c j)).holds q with
    | true => exact laneFrame_of_takes (laneTakes_runCompute addr k k hown ho hq) (writesWithin_laneOp o _ _ _ _) hpend
    | false => rw [lane_visible_of_disabled hown addr q o hpend ho hq]; exact laneFrame_refl o _
  cases o with
  | rsum i m =>
    change COp.laneFrame _ _ ((s.runRsum c addr k q i m k).visible.lane _)
    by_cases hj : j = 0
    · subst hj
      exact laneFrame_of_takes (laneTakes_runRsum s hown addr k q i m k) (writesWithin_rsumOut s c k q i m) hpend
    · rw [lane_visible_of_aside (laneAside_runRsum s hown hj addr k q i m k) hpend]
      exact laneFrame_refl _ _
  | _ => exact hlanewise rfl

end

/-! ## The command -/

/-- A command of the compute slot issues its word; RSUM may report that the two trees disagree. -/
theorem exec_of_computeOf {i : Instr} {c : Fin 16} {x : Beside} {q : Cond} {o : COp} {s : State}
    (h : computeOf i = some (c, x, q, o)) (hissues : s.issues c (.slots (.op q o) x.m0 x.m1) = true) :
    ∃ differ : Bool, exec i s = .next (if differ then
      (issueC c x q o s).emit Kind.reduceMismatch (Src.cluster c 0) (progByte c (s.clu c).pc) else issueC c x q o s) := by
  cases i with
  | rsum c' x' q' a b differ =>
    cases h
    exact ⟨differ, exec_rsum differ hissues⟩
  | _ => cases h <;> exact ⟨false, rfl⟩

/-- A compute operation beside empty memory slots by its parts: the fetch, the compute slot, and the counters and comparisons. -/
theorem issueC_of_empty {c : Fin 16} {x : Beside} {q : Cond} {o : COp} {s : State}
    (hissues : s.issues c (.slots (.op q o) x.m0 x.m1) = true) (hm0 : x.m0 = .nop) (hm1 : x.m1 = .nop) :
    ∃ (t : State) (addr : Nat) (k : Cluster), AtWord c s t ∧
      SameData (t.runCompute c addr (s.clu c) (.op q o) (s.clu c)).visible k ∧
        CountKept c (t.setClu c k) (issueC c x q o s) := by
  obtain ⟨t, ht, hrun⟩ := issue_slots x.env hissues
  obtain ⟨k, k', u, -, hdata, hcount, hempty⟩ := runSlots_parts t c x.env (.op q o) x.m0 x.m1
  obtain ⟨rfl, rfl⟩ := hempty hm0 hm1
  rw [ht.clu] at hdata
  exact ⟨u, _, k', ht, hdata, by rw [issueC, hrun]; exact hcount⟩

/-- Settles O24: the word is its fetch, the compute slot, and counters and comparisons, and each leaves what the statement names. -/
theorem computeWordsLeaveTheRestAlone : Obligations.ComputeWordsLeaveTheRestAlone := by
  unfold Obligations.ComputeWordsLeaveTheRestAlone
  intro i c x q o s hi hissues hx
  obtain ⟨hm0, hm1⟩ := hx
  rw [← hm0, ← hm1] at hissues
  obtain ⟨differ, hexec⟩ := exec_of_computeOf hi hissues
  obtain ⟨t, addr, k, ht, hdata, hcount⟩ := issueC_of_empty hissues hm0 hm1
  refine ⟨_, hexec, ?_⟩
  have hend : CountKept c (t.setClu c k) (if differ then
      (issueC c x q o s).emit Kind.reduceMismatch (Src.cluster c 0) (progByte c (s.clu c).pc) else issueC c x q o s) := by
    cases differ
    · exact hcount
    · exact hcount.emit
  generalize (if differ then
      (issueC c x q o s).emit Kind.reduceMismatch (Src.cluster c 0) (progByte c (s.clu c).pc) else issueC c x q o s) = w at hend ⊢
  obtain ⟨hmem, htm, hpending, htask, hdata', hother⟩ := hend
  rw [clu_setClu, if_pos rfl] at hdata'
  have hseen := hdata.trans hdata'
  have haddr : (w.clu c).addressing = (s.clu c).addressing :=
    hseen.addressing.trans ((addressing_visible _).trans (addressing_runCompute t c addr (s.clu c) q o (s.clu c)))
  obtain ⟨hp, hm, hb, hlen, hbnd⟩ : (w.clu c).p = (s.clu c).p ∧ (w.clu c).m = (s.clu c).m ∧ (w.clu c).b = (s.clu c).b ∧
      (w.clu c).len = (s.clu c).len ∧ (w.clu c).bnd = (s.clu c).bnd := by
    simpa [Cluster.addressing] using haddr
  refine ⟨byte_congr (hmem.trans ht.mem), fun d hd => ?_, hp, hm, hb, hlen, hbnd, htm.trans ht.tm, hpending.trans ht.pending,
    htask.trans ((g_setClu t c k _).trans ht.task), fun hpend j hown => ⟨fun hq ho => ?_, ?_⟩⟩
  · rw [hother d hd, clu_setClu, if_neg hd, ht.clu]
  · rw [State.laneOf, ← ht.physOf] at hq ⊢
    rw [hseen.lane]
    exact lane_visible_of_disabled (ht.ownLane hown) addr q o hpend (Bool.eq_false_iff.mpr ho) hq
  · rw [State.laneOf, ← ht.physOf, hseen.lane]
    exact laneFrame_runCompute (ht.ownLane hown) addr q o hpend

end Sys2Proof.Machine
end

section
/-!
SUPPORT. Any word that a cluster issues: the state in which it runs, the sequencer's part of a cluster, and the effects of the word forms
other than slot words (R105 to R109, R121 to R125, R131, R138).
-/
namespace Sys2Proof.Machine

/-! ## The word runs in the state after its fetch -/

/-- A cluster that goes to RUN fetches what it fetched before. -/
theorem fetch_snd_inRun (s : State) (c : Fin 16) : ((s.p (F.CL_STAT_STATE c) 4).fetch c).2 = (s.fetch c).2 := by
  have hne : (F.CL_CTL_ILL_INJ c).reg ≠ (F.CL_STAT_STATE c).reg := by
    simp only [F.CL_CTL_ILL_INJ, F.CL_STAT_STATE, R.CL_CTL, R.CL_STAT]; omega
  exact fetch_snd_congr s c (p_mem s _ 4) (congrArg Mtx.ecc (p_mx s _ 4)) (p_cl s _ 4) (congrArg (· != 0) (g_p_reg s _ _ 4 hne))

/-- A fetch leaves the error marks of memory. -/
theorem ecc_fetch (s : State) (c : Fin 16) : (s.fetch c).1.mx.ecc = s.mx.ecc := by
  obtain ⟨t, ht, hfetch⟩ := fetch_cases s c
  have hecc : t.mx.ecc = s.mx.ecc := ht.ecc.trans (congrArg Mtx.ecc (p_mx s _ _))
  rw [hfetch]
  split
  · rfl
  · split
    · exact (congrArg Mtx.ecc (flag_mx t _ _)).trans hecc
    · exact hecc

/-- A fetch that gives a word leads to the state in which the word issues, with the error marks of memory as they were. -/
theorem exists_atWord {s : State} {c : Fin 16} (h : (s.fetch c).2.1 = none) :
    ∃ t, AtWord c s t ∧ t.mx.ecc = s.mx.ecc ∧ (s.p (F.CL_STAT_STATE c) 4).fetch c = (t, none, (s.fetch c).2.2) := by
  have hfetch : (s.p (F.CL_STAT_STATE c) 4).fetch c =
      (((s.p (F.CL_STAT_STATE c) 4).fetch c).1, none, (s.fetch c).2.2) := by
    rw [← h, ← fetch_snd_inRun]
  exact ⟨_, atWord_of_fetch hfetch, (ecc_fetch _ c).trans (congrArg Mtx.ecc (p_mx s _ 4)), hfetch⟩

/-- A word that a cluster issues is well formed and runs in the state after its fetch. -/
theorem issue_word {s : State} {c : Fin 16} {w : IWord} (env : WordEnv) (h : s.issues c w = true) :
    w.wf = true ∧ ∃ t, AtWord c s t ∧ t.mx.ecc = s.mx.ecc ∧ s.issue c env w = t.runWord c env w := by
  unfold State.issues at h
  simp only [Bool.and_eq_true, beq_iff_eq, Option.isNone_iff_eq_none] at h
  obtain ⟨⟨hfree, hnone⟩, hword⟩ := h
  obtain ⟨t, ht, hecc, hfetch⟩ := exists_atWord hnone
  refine ⟨wf_of_decodeWord hword, t, ht, hecc, ?_⟩
  rw [State.issue, if_pos (by simpa using hfree), hfetch]
  exact if_pos hword

section
variable {s : State} {c : Fin 16}

/-- A command that issues a word other than a slot word runs it in the state after its fetch. -/
theorem exec_of_issues {i : Instr} {w : IWord} {f : State → State} (hexec : exec i s = .next (s.issue c ⟨0, false⟩ w))
    (hrun : w.wf = true → ∀ t, State.runWord t c ⟨0, false⟩ w = f t) (h : s.issues c w = true) :
    ∃ t, AtWord c s t ∧ exec i s = .next (f t) := by
  obtain ⟨hwf, t, ht, -, hissue⟩ := issue_word ⟨0, false⟩ h
  exact ⟨t, ht, by rw [hexec, hissue, hrun hwf]⟩

theorem exec_br {bc : BrCond} {target : Fin 8192} (h : s.issues c (.br bc target) = true) :
    ∃ t, AtWord c s t ∧ exec (.br c bc target) s = .next (t.runBr c bc target) :=
  exec_of_issues rfl (fun hwf t => by rw [State.runWord, hwf]; rfl) h

/-- LOOP goes by R106. -/
theorem exec_loop {n : LoopCount} {a b : Fin 8192} (h : s.issues c (.loop n a b) = true) :
    ∃ t, AtWord c s t ∧ exec (.loop c n a b) s = .next
      (if (s.clu c).loopAllowed (s.clu c).pc a b then t.runLoop c (t.loopCountOf c n) a b else t.undefinedWord c 1) := by
  obtain ⟨t, ht, hexec⟩ := exec_of_issues (i := .loop c n a b) (f := fun t => if (t.clu c).loopAllowed (t.clu c).pc a b then
    t.runLoop c (t.loopCountOf c n) a b else t.undefinedWord c 1) rfl (fun hwf t => by rw [State.runWord, hwf]; rfl) h
  exact ⟨t, ht, by rw [hexec, ht.clu]⟩

theorem exec_seta {x y : Option SetaSub} (h : s.issues c (.seta x y) = true) :
    ∃ t, AtWord c s t ∧ exec (.seta c x y) s = .next (t.runSeta c x y) :=
  exec_of_issues rfl (fun hwf t => by rw [State.runWord, hwf]; rfl) h

theorem exec_seti {n : Fin 16} {q : Cond} {v : Word} (h : s.issues c (.seti n q v) = true) :
    ∃ t, AtWord c s t ∧ exec (.seti c n q v) s = .next (t.runSeti c n q v) :=
  exec_of_issues rfl (fun hwf t => by rw [State.runWord, hwf]; rfl) h

theorem exec_halt (h : s.issues c .halt = true) : ∃ t, AtWord c s t ∧ exec (.halt c) s = .next (t.runHalt c) :=
  exec_of_issues rfl (fun hwf t => by rw [State.runWord, hwf]; rfl) h

/-- A word that decodes to nothing is undefined for reason 0 (R132). -/
theorem exec_undefinedEncoding (hissuing : s.issuing c = true) (hfetch : (s.fetch c).2.1 = none)
    (hword : decodeWord (s.fetch c).2.2 = none) :
    ∃ t, AtWord c s t ∧ exec (.undefinedEncoding c) s = .next (t.undefinedWord c 0) := by
  obtain ⟨t, ht, -, heq⟩ := exists_atWord hfetch
  refine ⟨t, ht, congrArg Host.Outcome.next ?_⟩
  rw [State.issueUndefined, if_pos hissuing, heq]
  dsimp only
  rw [hword]

end

/-- A fetch that gives a word reads it at an index of program memory. -/
theorem pc_lt_of_fetch {s : State} {c : Fin 16} (h : (s.fetch c).2.1 = none) : (s.clu c).pc < 8192 := by
  obtain ⟨t, -, heq⟩ := fetch_cases s c
  by_contra hpc
  rw [heq, if_pos (Nat.not_lt.mp hpc)] at h
  cases h

/-! ## The sequencer's part of a cluster -/

/-- Clusters `k` and `k'` hold the same addressing registers, loop levels and program counter. -/
structure SameSequencer (k k' : Cluster) : Prop where
  addressing : k'.addressing = k.addressing
  lc : k'.lc = k.lc
  ls : k'.ls = k.ls
  le : k'.le = k.le
  depth : k'.depth = k.depth
  pc : k'.pc = k.pc

namespace SameSequencer

theorem refl (k : Cluster) : SameSequencer k k := ⟨rfl, rfl, rfl, rfl, rfl, rfl⟩

theorem trans {k k' k'' : Cluster} (h : SameSequencer k k') (h' : SameSequencer k' k'') : SameSequencer k k'' :=
  ⟨h'.addressing.trans h.addressing, h'.lc.trans h.lc, h'.ls.trans h.ls, h'.le.trans h.le, h'.depth.trans h.depth,
    h'.pc.trans h.pc⟩

theorem foldl {α : Type} {f : Cluster → α → Cluster} (hf : ∀ k x, SameSequencer k (f k x)) (xs : List α) (k : Cluster) :
    SameSequencer k (xs.foldl f k) := by
  induction xs generalizing k with
  | nil => exact refl k
  | cons x xs ih => exact (hf k x).trans (ih (f k x))

theorem setLane (k : Cluster) (n : Nat) (l : Lane) : SameSequencer k (k.setLane n l) := ⟨rfl, rfl, rfl, rfl, rfl, rfl⟩

theorem tallyAov (k : Cluster) (u : LaneUse) (addr : Nat) : SameSequencer k (k.tallyAov u addr) := by
  unfold Cluster.tallyAov; split <;> exact ⟨rfl, rfl, rfl, rfl, rfl, rfl⟩

theorem tallyOfs (k : Cluster) (u : LaneUse) (addr : Nat) : SameSequencer k (k.tallyOfs u addr) := by
  unfold Cluster.tallyOfs; split <;> exact ⟨rfl, rfl, rfl, rfl, rfl, rfl⟩

/-- A result in a lane leaves the sequencer. -/
theorem apply (k : Cluster) (u : LaneUse) (addr : Nat) (o : LaneOut) : SameSequencer k (k.apply u addr o) := by
  unfold Cluster.apply
  extract_lets l l' l'' l''' m k' k''
  have hk : SameSequencer k k'' := by
    unfold k''
    split <;> exact ⟨rfl, rfl, rfl, rfl, rfl, rfl⟩
  split
  · exact hk.trans (tallyAov k'' u addr)
  · exact hk

theorem land (k : Cluster) (q : Pend) : SameSequencer k (k.land q) := by
  unfold Cluster.land; split <;> exact ⟨rfl, rfl, rfl, rfl, rfl, rfl⟩

theorem visible (k : Cluster) : SameSequencer k k.visible :=
  trans (k' := { k with pend := [] }) ⟨rfl, rfl, rfl, rfl, rfl, rfl⟩ (foldl land k.pend _)

end SameSequencer

section
variable {k k' : Cluster} (h : k'.addressing = k.addressing) (i : Nat)
include h

theorem ptr_of_addressing : k'.ptr i = k.ptr i := congrArg (SMap.get zeroP · i) (congrArg (·.1) h : k'.p = k.p)

theorem mod_of_addressing : k'.mod i = k.mod i := congrArg (SMap.get zeroM · i) (congrArg (·.2.1) h : k'.m = k.m)

theorem base_of_addressing : k'.base i = k.base i := congrArg (SMap.get zeroP · i) (congrArg (·.2.2.1) h : k'.b = k.b)

theorem length_of_addressing : k'.length i = k.length i := congrArg (SMap.get zeroP · i) (congrArg (·.2.2.2.1) h : k'.len = k.len)

theorem bind_of_addressing : k'.bind i = k.bind i := congrArg (SMap.get bndReset · i) (congrArg (·.2.2.2.2) h : k'.bnd = k.bnd)

end

/-! ## Loop ends and branches -/

/-- Where the loop ends at a word lead depends on the levels of loops. -/
theorem loopEnd_congr {k k' : Cluster} (x d : Nat) (hlc : k'.lc = k.lc) (hls : k'.ls = k.ls) (hle : k'.le = k.le)
    (hdepth : k'.depth = k.depth) :
    (loopEnd x d k').2 = (loopEnd x d k).2 ∧ (loopEnd x d k').1.depth = (loopEnd x d k).1.depth := by
  induction d generalizing k k' with
  | zero => exact ⟨rfl, hdepth⟩
  | succ d ih =>
    have hcount : k'.count d = k.count d := by rw [Cluster.count, Cluster.count, hlc]
    have hstart : k'.start d = k.start d := by rw [Cluster.start, Cluster.start, hls]
    have hstop : k'.stop d = k.stop d := by rw [Cluster.stop, Cluster.stop, hle]
    unfold loopEnd
    rw [hcount, hstart, hstop]
    split_ifs
    · exact ⟨rfl, hdepth⟩
    · exact ih hlc hls hle rfl
    · exact ⟨rfl, hdepth⟩

/-- The next word depends on the levels of loops. -/
theorem advance_congr {k k' : Cluster} (x : Nat) (hlc : k'.lc = k.lc) (hls : k'.ls = k.ls) (hle : k'.le = k.le)
    (hdepth : k'.depth = k.depth) : (k'.advance x).pc = (k.advance x).pc ∧ (k'.advance x).depth = (k.advance x).depth := by
  unfold Cluster.advance
  rw [hdepth]
  exact loopEnd_congr x k.depth hlc hls hle hdepth

theorem SameSequencer.advance {k k' : Cluster} (h : SameSequencer k k') (x : Nat) :
    (k'.advance x).pc = (k.advance x).pc ∧ (k'.advance x).depth = (k.advance x).depth :=
  advance_congr x h.lc h.ls h.le h.depth

theorem cyc_loopEnd (x d : Nat) (k : Cluster) : (loopEnd x d k).1.cyc = k.cyc := by
  induction d generalizing k with
  | zero => rfl
  | succ d ih =>
    unfold loopEnd
    split_ifs
    · rfl
    · exact ih _
    · rfl

theorem cyc_advance (x : Nat) (k : Cluster) : (k.advance x).cyc = k.cyc := cyc_loopEnd x k.depth k

theorem cyc_branchOut (t d : Nat) (k : Cluster) : (branchOut t d k).cyc = k.cyc := by
  induction d generalizing k with
  | zero => rfl
  | succ d ih =>
    unfold branchOut
    split_ifs
    · rfl
    · exact ih _

/-- A loop end outside every loop is the end of no loop. -/
theorem pc_advance_of_no_loop {k : Cluster} (x : Nat) (h : k.depth = 0) : (k.advance x).pc = x + 1 := by
  rw [Cluster.advance, h]; rfl

theorem AtWord.branchHolds {s t : State} {c : Fin 16} (h : AtWord c s t) (k : Cluster) (bc : BrCond) :
    t.branchHolds c k bc = s.branchHolds c k bc := by
  unfold State.branchHolds
  simp only [h.physOf]

/-- ANY of a predicate holds where one lane's flag is set (R109). -/
theorem branchHolds_any {s : State} {c : Nat} {p : Fin 4} (j : Fin 16) (h : (s.laneOf c j).flag p = true) :
    s.branchHolds c (s.clu c) (.any p) = true :=
  List.any_eq_true.mpr ⟨_, List.mem_map.mpr ⟨j, List.mem_range.mpr j.isLt, rfl⟩, h⟩

/-! ## Whole words -/

section
variable (s : State) (c n : Nat) (f : Nat → Cluster → State × Cluster)

theorem mem_runWhole : (s.runWhole c n f).mem = (f (s.clu c).pc (s.clu c)).1.mem := rfl

theorem g_runWhole (x : Fld) : (s.runWhole c n f).g x = (f (s.clu c).pc (s.clu c)).1.g x := g_setClu _ _ _ x

theorem clu_runWhole : (s.runWhole c n f).clu c = { (f (s.clu c).pc (s.clu c)).2.visible with
    cyc := (f (s.clu c).pc (s.clu c)).2.cyc + n, issued := (f (s.clu c).pc (s.clu c)).2.cyc + 1
    lastWord := progByte c (s.clu c).pc } := (clu_setClu _ _ _ _).trans (if_pos rfl)

/-- A whole word leaves the sequencer where its form moves it. -/
theorem sameSequencer_runWhole : SameSequencer (f (s.clu c).pc (s.clu c)).2 ((s.runWhole c n f).clu c) := by
  rw [clu_runWhole]
  exact (SameSequencer.visible _).trans ⟨rfl, rfl, rfl, rfl, rfl, rfl⟩

theorem cyc_runWhole : ((s.runWhole c n f).clu c).cyc = (f (s.clu c).pc (s.clu c)).2.cyc + n := by rw [clu_runWhole]

end

end Sys2Proof.Machine
end

section
/-!
SUPPORT. A slot word without a compute operation by its parts: the memory slots, the sequencer, and the counters and comparisons, which
leave the sequencer and the record of the default target (R112, R126, R130).
-/
namespace Sys2Proof.Machine

/-! ## The counters and comparisons -/

/-- From `s` to `t` cluster `c` counts, compares and reports; its sequencer stands where it stood, and so does the matrix's status. -/
structure SequencedKept (c : Fin 16) (s t : State) : Prop extends CountKept c s t where
  seq : SameSequencer (s.clu c) (t.clu c)
  stat : t.rd R.MTX_STAT = s.rd R.MTX_STAT

namespace SequencedKept

variable {c : Fin 16} {r s : State}

theorem refl (s : State) : SequencedKept c s s := ⟨.refl s, .refl _, rfl⟩

section
variable (h : SequencedKept c r s)
include h

theorem p {f : Fld} {v : Nat} (hf : f.reg ≠ R.CL_TASK c) (hstat : R.MTX_STAT ≠ f.reg) : SequencedKept c r (s.p f v) :=
  ⟨h.toCountKept.p hf, h.seq, (rd_p_ne s f v hstat).trans h.stat⟩

theorem emit {kind src addr n : Nat} : SequencedKept c r (s.emit kind src addr n) :=
  ⟨h.toCountKept.emit, h.seq, (rd_emit s kind src addr n _).trans h.stat⟩

/-- The first mismatch of a task is marked (R78). -/
theorem mark {a : Nat} : SequencedKept c r (s.setClu c { s.clu c with mm := true, mmAddr := a }) := by
  refine ⟨h.toCountKept.mark, ?_, (rd_setClu s c _ _).trans h.stat⟩
  rw [clu_setClu, if_pos rfl]
  exact h.seq.trans ⟨rfl, rfl, rfl, rfl, rfl, rfl⟩

/-- A register of the cluster's window takes a value. -/
theorem window {f : Fld} {v : Nat} (hf : f.reg ≠ R.CL_TASK c) (hwin : f.reg < 0x02000000) : SequencedKept c r (s.p f v) := by
  refine h.p hf (Nat.ne_of_gt (hwin.trans ?_))
  unfold R.MTX_STAT; omega

theorem stalls {bank ext haz : Nat} : SequencedKept c r (s.stalls c bank ext haz) := by
  have hc := c.isLt
  have hbank : R.BANK_STALL c ≠ R.CL_TASK c ∧ R.BANK_STALL c < 0x02000000 := by simp only [R.BANK_STALL, R.CL_TASK]; omega
  have hext : R.EXT_STALL c ≠ R.CL_TASK c ∧ R.EXT_STALL c < 0x02000000 := by simp only [R.EXT_STALL, R.CL_TASK]; omega
  have hhaz : R.HAZ_STALL c ≠ R.CL_TASK c ∧ R.HAZ_STALL c < 0x02000000 := by simp only [R.HAZ_STALL, R.CL_TASK]; omega
  exact ((h.window hbank.1 hbank.2).window hext.1 hext.2).window hhaz.1 hhaz.2

theorem countAct {k n : Nat} (hk : k < 8) : SequencedKept c r (s.countAct c k n) := by
  have hc := c.isLt
  refine ⟨h.toCountKept.countAct, h.seq, ?_⟩
  rw [State.countAct]
  refine (rd_congr rfl _).trans ((rd_inc_ne s _ n ?_).trans h.stat)
  simp only [R.MTX_STAT, R.FCST_ACT]; omega

theorem shadowCompare {addr : Nat} {mis : Bool} {ds : List Bool} : SequencedKept c r (s.shadowCompare c addr mis ds) := by
  have hc := c.isLt
  have hctl : R.SHADOW_CTL c ≠ R.CL_TASK c ∧ R.SHADOW_CTL c < 0x02000000 := by simp only [R.SHADOW_CTL, R.CL_TASK]; omega
  have hstat : R.SHADOW_STAT c ≠ R.CL_TASK c ∧ R.SHADOW_STAT c < 0x02000000 := by
    simp only [R.SHADOW_STAT, R.CL_TASK]; omega
  have hcnt : R.SHADOW_MM_CNT c ≠ R.CL_TASK c ∧ R.SHADOW_MM_CNT c < 0x02000000 := by
    simp only [R.SHADOW_MM_CNT, R.CL_TASK]; omega
  have hlast : R.SHADOW_LAST c ≠ R.CL_TASK c ∧ R.SHADOW_LAST c < 0x02000000 := by
    simp only [R.SHADOW_LAST, R.CL_TASK]; omega
  unfold State.shadowCompare
  split
  · next l d rest hmatch =>
    have hquiet := h.window (f := F.SHADOW_CTL_INJ c) (v := if false then 1 else 0) hctl.1 hctl.2
    have hcounted : ∀ n v w, SequencedKept c r
        (((((s.flag (F.SHADOW_CTL_INJ c) false).flag (F.SHADOW_STAT_MISMATCH c) true).bump (F.SHADOW_MM_CNT_COUNT c) n).p
          (F.SHADOW_LAST_LANE c) v).p (F.SHADOW_LAST_TICK c) w) := fun n v w =>
      (((hquiet.window hstat.1 hstat.2).window hcnt.1 hcnt.2).window hlast.1 hlast.2).window hlast.1 hlast.2
    dsimp only
    split_ifs
    · exact hquiet
    · exact hcounted _ _ _
    · exact (hcounted _ _ _).mark.emit
    · exact (hcounted _ _ _).mark
  · exact h

end

end SequencedKept

/-! ## The memory slots -/

/-- The accesses of both memory slots of a word: slot M0 first. -/
def State.accesses (s : State) (c addr : Nat) (o0 o1 : Option MemOp) : State × Cluster :=
  (s.runMem c addr (s.clu c) o0 (s.clu c)).1.runMem c addr (s.clu c) o1 (s.runMem c addr (s.clu c) o0 (s.clu c)).2

/-- The post-modifies of both memory slots (R92): slot M0 first. -/
def postMods (c : Nat) (o0 o1 : Option MemOp) (r : State × Cluster) : State × Cluster :=
  (r.1.postMod c o0 r.2).1.postMod c o1 (r.1.postMod c o0 r.2).2

theorem actClass_lt (m : MemDo) : m.actClass < 8 := by unfold MemDo.actClass; split <;> omega

/-- A slot word whose compute slot is empty by its parts: accesses and post-modifies, the results that become visible, the sequencer, and the
counters and comparisons. -/
theorem runSlots_of_no_compute (s : State) (c : Fin 16) (env : WordEnv) (m0 : M0Slot) (m1 : M1Slot) {r : State × Cluster}
    (hr : postMods c (m0Op m0) (m1Op m1) (s.accesses c (progByte c (s.clu c).pc) (m0Op m0) (m1Op m1)) = r) :
    ∃ k : Cluster, SameData r.2.visible k ∧ SameSequencer (r.2.visible.advance (s.clu c).pc) k ∧
      SequencedKept c (r.1.setClu c k) (s.runSlots c env .nop m0 m1) := by
  subst hr
  unfold State.runSlots
  extract_lets k0 x addr o0 o1 bank ext haz t ds k1 r r' r'' r''' seen noted moved k' stalled counted counted0 counted1
  refine ⟨k', (sameData_advance x seen).trans ⟨rfl, rfl, rfl⟩, ⟨rfl, rfl, rfl, rfl, rfl, rfl⟩, ?_⟩
  have hstalled : SequencedKept c (r'''.1.setClu c k') stalled := (SequencedKept.refl _).stalls
  have hcounted : SequencedKept c (r'''.1.setClu c k') counted := hstalled
  have hcounted0 : SequencedKept c (r'''.1.setClu c k') counted0 := by
    unfold counted0
    clear_value counted o0
    split
    · exact hcounted.countAct (actClass_lt _)
    · exact hcounted
  have hcounted1 : SequencedKept c (r'''.1.setClu c k') counted1 := by
    unfold counted1
    clear_value counted0 o1
    split
    · exact hcounted0.countAct (actClass_lt _)
    · exact hcounted0
  exact hcounted1.shadowCompare

end Sys2Proof.Machine
end

section
/-!
SUPPORT. The end of a task, undefined words, and what BR, LOOP, SETA and SETI do (R91, R105 to R108, R121 to R124, R132, R138).
-/
namespace Sys2Proof.Machine

/-! ## The end of a task (R138) -/

section
variable (s : State) (c : Nat)

/-- The end of a task as one update of its cluster and of the cluster's status. -/
theorem endTask_eq : s.endTask c =
  (s.setClu c { s.clu c with pend := [], depth := 0, cyc := (s.clu c).cyc + 2 }).p (F.CL_STAT_STATE c) 5 := rfl

theorem clu_p (f : Fld) (v d : Nat) : (s.p f v).clu d = s.clu d := congrArg (SMap.get clusterDefault · d) (p_cl s f v)

theorem clu_endTask : (s.endTask c).clu c = { s.clu c with pend := [], depth := 0, cyc := (s.clu c).cyc + 2 } := by
  rw [endTask_eq, clu_p, clu_setClu, if_pos rfl]

theorem mem_endTask : (s.endTask c).mem = s.mem := by rw [endTask_eq, p_mem]; rfl

/-- The cluster drains. -/
theorem state_endTask : (s.endTask c).g (F.CL_STAT_STATE c) = 5 := by
  rw [endTask_eq, g_p_self _ _ _ (by simp [F.CL_STAT_STATE])]
  simp [F.CL_STAT_STATE]

theorem g_endTask {x : Fld} (h : x.reg ≠ R.CL_STAT c) : (s.endTask c).g x = s.g x := by
  rw [endTask_eq, g_p_reg _ _ _ _ h, g_setClu]

theorem ill_endTask : (s.endTask c).g (F.CL_STAT_ILL c) = s.g (F.CL_STAT_ILL c) := by
  rw [endTask_eq, g_p_bits _ _ _ _ (by simp [F.CL_STAT_STATE, F.CL_STAT_ILL]) (by simp [F.CL_STAT_ILL]), g_setClu]

/-! ## HALT (R125) -/

theorem clu_runHalt : (s.runHalt c).clu c = { s.clu c with
    pend := [], depth := 0, cyc := (s.clu c).cyc + 2, lastWord := progByte c (s.clu c).pc } := by
  rw [State.runHalt, clu_endTask, clu_setClu, if_pos rfl]

theorem state_runHalt : (s.runHalt c).g (F.CL_STAT_STATE c) = 5 := state_endTask _ c

theorem mem_runHalt : (s.runHalt c).mem = s.mem := mem_endTask _ c

/-! ## Undefined words (R132) -/

variable (why : Nat)

/-- The registers in which a cluster records an undefined word. -/
def State.illegalRecord (s : State) (c why : Nat) : State :=
  (((s.flag (F.CL_STAT_ILL c) true).p (F.CL_ILL_REASON c) why).p (F.CL_ILL_TASK c) (s.g (F.CL_TASK_TASK c))).p (F.CL_ILL_INDEX c)
    (min (s.clu c).pc 8191)

/-- An undefined word is recorded and reported, and its task ends. -/
theorem undefinedWord_eq : s.undefinedWord c why = ((((s.illegalRecord c why).emit Kind.illegalInsn (Src.cluster c 0)
    (progByte c (min (s.clu c).pc 8191))).setRun (s.g (F.CL_TASK_TASK c)) .ill).endTask c) := rfl

@[simp] theorem setRun_mem (t : Nat) (v : TaskRun) : (s.setRun t v).mem = s.mem := rfl

@[simp] theorem setRun_cl (t : Nat) (v : TaskRun) : (s.setRun t v).cl = s.cl := rfl

theorem g_setRun (t : Nat) (v : TaskRun) (x : Fld) : (s.setRun t v).g x = s.g x := g_congr rfl x

theorem g_undefinedWord {x : Fld} (h : x.reg ≠ R.CL_STAT c) : (s.undefinedWord c why).g x = (s.illegalRecord c why).g x := by
  rw [undefinedWord_eq, g_endTask _ _ h, g_setRun, g_emit]

theorem mem_undefinedWord : (s.undefinedWord c why).mem = s.mem := by
  rw [undefinedWord_eq, mem_endTask, setRun_mem, emit_mem, State.illegalRecord, p_mem, p_mem, p_mem, flag_mem]

/-- An undefined word leaves the registers of lanes and pointers. -/
theorem clu_undefinedWord : (s.undefinedWord c why).clu c = { s.clu c with pend := [], depth := 0, cyc := (s.clu c).cyc + 2 } := by
  have hclu : (((s.illegalRecord c why).emit Kind.illegalInsn (Src.cluster c 0) (progByte c (min (s.clu c).pc 8191))).setRun
      (s.g (F.CL_TASK_TASK c)) .ill).clu c = s.clu c :=
    congrArg (SMap.get clusterDefault · c)
      (by rw [setRun_cl, emit_cl, State.illegalRecord, p_cl, p_cl, p_cl, flag_cl])
  rw [undefinedWord_eq, clu_endTask, hclu]

theorem state_undefinedWord : (s.undefinedWord c why).g (F.CL_STAT_STATE c) = 5 := by rw [undefinedWord_eq, state_endTask]

theorem illRegister_ne_status : R.CL_ILL c ≠ R.CL_STAT c := by unfold R.CL_ILL R.CL_STAT; omega

theorem ill_undefinedWord : (s.undefinedWord c why).g (F.CL_STAT_ILL c) = 1 := by
  have hne : (F.CL_STAT_ILL c).reg ≠ R.CL_ILL c := (illRegister_ne_status c).symm
  rw [undefinedWord_eq, ill_endTask, g_setRun, g_emit, State.illegalRecord, g_p_reg _ _ _ _ hne, g_p_reg _ _ _ _ hne,
    g_p_reg _ _ _ _ hne, g_flag_self _ _ _ rfl (by simp [F.CL_STAT_ILL]), if_pos rfl]

theorem reason_undefinedWord (hwhy : why < 8) : (s.undefinedWord c why).g (F.CL_ILL_REASON c) = why := by
  have htop : (F.CL_ILL_REASON c).hi < 32 := by simp [F.CL_ILL_REASON]
  rw [g_undefinedWord s c why (illRegister_ne_status c), State.illegalRecord,
    g_p_bits _ _ _ _ (.inr (by simp [F.CL_ILL_INDEX, F.CL_ILL_REASON])) htop,
    g_p_bits _ _ _ _ (.inr (by simp [F.CL_ILL_TASK, F.CL_ILL_REASON])) htop, g_p_self _ _ _ htop]
  exact Nat.mod_eq_of_lt (by simpa [F.CL_ILL_REASON] using hwhy)

theorem task_undefinedWord : (s.undefinedWord c why).g (F.CL_ILL_TASK c) = s.g (F.CL_TASK_TASK c) := by
  have htop : (F.CL_ILL_TASK c).hi < 32 := by simp [F.CL_ILL_TASK]
  rw [g_undefinedWord s c why (illRegister_ne_status c), State.illegalRecord,
    g_p_bits _ _ _ _ (.inr (by simp [F.CL_ILL_INDEX, F.CL_ILL_TASK])) htop, g_p_self _ _ _ htop]
  exact Nat.mod_eq_of_lt (bitsOf_lt _ _ _)

theorem index_undefinedWord (hpc : (s.clu c).pc < 8192) : (s.undefinedWord c why).g (F.CL_ILL_INDEX c) = (s.clu c).pc := by
  rw [g_undefinedWord s c why (illRegister_ne_status c), State.illegalRecord, g_p_self _ _ _ (by simp [F.CL_ILL_INDEX]),
    Nat.min_eq_left (by omega)]
  exact Nat.mod_eq_of_lt (by simpa [F.CL_ILL_INDEX] using hpc)

end

/-! ## BR and LOOP (R105, R108, R121) -/

section
variable (s : State) (c : Nat)

/-- A taken branch moves the sequencer to its target in three cycles. -/
theorem runBr_taken {bc : BrCond} {target : Nat} (h : s.branchHolds c (s.clu c) bc = true) :
    ((s.runBr c bc target).clu c).pc = target ∧ ((s.runBr c bc target).clu c).cyc = (s.clu c).cyc + 3 ∧
      (s.runBr c bc target).mem = s.mem := by
  rw [State.runBr, if_pos h]
  refine ⟨(sameSequencer_runWhole s c 3 _).pc, (cyc_runWhole s c 3 _).trans ?_, mem_runWhole s c 3 _⟩
  exact congrArg (· + 3) (cyc_branchOut target (s.clu c).depth (s.clu c))

/-- A branch that is not taken moves it to the next word. -/
theorem runBr_untaken {bc : BrCond} {target : Nat} (h : s.branchHolds c (s.clu c) bc = false) :
    ((s.runBr c bc target).clu c).pc = ((s.clu c).advance (s.clu c).pc).pc ∧
      ((s.runBr c bc target).clu c).depth = ((s.clu c).advance (s.clu c).pc).depth ∧
        ((s.runBr c bc target).clu c).cyc = (s.clu c).cyc + 1 := by
  rw [State.runBr, if_neg (by rw [h]; exact Bool.false_ne_true)]
  have hseq := sameSequencer_runWhole s c 1 fun x k => (s, k.advance x)
  exact ⟨hseq.pc, hseq.depth, (cyc_runWhole s c 1 _).trans (congrArg (· + 1) (cyc_advance _ (s.clu c)))⟩

/-- LOOP opens a level. -/
theorem runLoop_opens {n a b : Nat} (hn : n ≠ 0) : ((s.runLoop c n a b).clu c).depth = (s.clu c).depth + 1 ∧
    ((s.runLoop c n a b).clu c).count (s.clu c).depth = n ∧ ((s.runLoop c n a b).clu c).start (s.clu c).depth = a ∧
      ((s.runLoop c n a b).clu c).stop (s.clu c).depth = b ∧ ((s.runLoop c n a b).clu c).pc = (s.clu c).pc + 1 := by
  rw [State.runLoop, if_neg hn]
  obtain ⟨-, hlc, hls, hle, hdepth, hpc⟩ := sameSequencer_runWhole s c 1 fun x k =>
    (s, { k with lc := SMap.set zeroI k.lc k.depth n, ls := SMap.set zeroI k.ls k.depth a,
                 le := SMap.set zeroI k.le k.depth b, depth := k.depth + 1, pc := x + 1 })
  refine ⟨hdepth, ?_, ?_, ?_, hpc⟩
  · rw [Cluster.count, hlc]; exact SMap.get_set_self _ _ _ _
  · rw [Cluster.start, hls]; exact SMap.get_set_self _ _ _ _
  · rw [Cluster.stop, hle]; exact SMap.get_set_self _ _ _ _

/-- LOOP with count 0 goes on past the end. -/
theorem runLoop_skips {a b : Nat} : ((s.runLoop c 0 a b).clu c).pc = ((s.clu c).advance b).pc ∧
    ((s.runLoop c 0 a b).clu c).depth = ((s.clu c).advance b).depth := by
  rw [State.runLoop, if_pos rfl]
  have hseq := sameSequencer_runWhole s c 3 fun _ k => (s, k.advance b)
  exact ⟨hseq.pc, hseq.depth⟩

end

/-- A fifth level, a start that does not follow the word and an end before the start are against R106. -/
theorem loopAllowed_eq_false {k : Cluster} {x a b : Nat} (h : k.depth = 4 ∨ a ≤ x ∨ b < a) : k.loopAllowed x a b = false := by
  rw [Bool.eq_false_iff]
  intro hallowed
  simp only [Cluster.loopAllowed, Bool.and_eq_true, decide_eq_true_eq] at hallowed
  omega

/-! ## SETA (R91, R123) -/

section
variable (s : State) (c : Nat) (x y : Option SetaSub)

/-- What the two writes of a SETA word lead to. -/
def State.setaDone (s : State) (c : Nat) (x y : Option SetaSub) : State × Cluster :=
  setaOpt c s (s.clu c) y (setaOpt c s (s.clu c) x (s, s.clu c))

/-- SETA leaves the addressing registers as its writes set them. -/
theorem addressing_runSeta : ((s.runSeta c x y).clu c).addressing = (s.setaDone c x y).2.addressing :=
  (sameSequencer_runWhole s c 1 _).addressing.trans (sameData_advance _ _).addressing

theorem g_runSeta (f : Fld) : (s.runSeta c x y).g f = (s.setaDone c x y).1.g f := g_runWhole s c 1 _ f

end

/-- A pointer outside its circular buffer is moved to the base, and CIRC_RESET tells so. -/
theorem circ_of_outside {r : State × Cluster} {c i : Nat} (h : r.2.outside i = true) : State.circ r c i =
    (r.1.p (F.ADDR_STAT_CIRC_RESET c) (r.1.g (F.ADDR_STAT_CIRC_RESET c) ||| 2 ^ r.2.bind i),
      r.2.setPtr i (r.2.base (r.2.bind i)).toNat) := if_pos h

theorem circ_of_inside {r : State × Cluster} {c i : Nat} (h : r.2.outside i = false) : State.circ r c i = r :=
  if_neg (Bool.not_eq_true _ ▸ h)

@[simp] theorem ptr_setPtr (k : Cluster) (i v j : Nat) : (k.setPtr i v).ptr j = if j = i then BitVec.ofNat 20 v else k.ptr j :=
  SMap.get_set _ _ _ _ _

theorem outside_setPtr (k : Cluster) (i : Nat) {v : Nat} (hv : v < 2 ^ 20) : (k.setPtr i v).outside i =
    ((k.length (k.bind i)).toNat != 0 && decide (v < (k.base (k.bind i)).toNat ∨
      (k.base (k.bind i)).toNat + (k.length (k.bind i)).toNat ≤ v)) := by
  have hptr : ((k.setPtr i v).ptr i).toNat = v := by
    rw [ptr_setPtr, if_pos rfl, BitVec.toNat_ofNat, Nat.mod_eq_of_lt hv]
  unfold Cluster.outside
  rw [hptr]
  rfl

/-- Of pointers set one after the other to a value each holds it. -/
theorem ptr_foldl_setPtr (is : List Nat) (v n : Nat) (k : Cluster) :
    (is.foldl (fun k i => k.setPtr i v) k).ptr n = if n ∈ is then BitVec.ofNat 20 v else k.ptr n := by
  induction is generalizing k with
  | nil => rfl
  | cons i is ih =>
    rw [List.foldl_cons, ih, ptr_setPtr]
    by_cases hi : n = i <;> by_cases his : n ∈ is <;> simp [hi, his]

theorem base_foldl_setPtr (is : List Nat) (v n : Nat) (k : Cluster) :
    (is.foldl (fun k i => k.setPtr i v) k).base n = k.base n :=
  List.foldlRecOn (motive := fun k' : Cluster => k'.base n = k.base n) is _ rfl fun _ h _ _ => h

/-- A move of a pointer to its base leaves the lengths. -/
theorem length_circ (r : State × Cluster) (c i n : Nat) : (State.circ r c i).2.length n = r.2.length n := by
  unfold State.circ; split <;> rfl

theorem length_foldl_circ (is : List Nat) (c n : Nat) (r : State × Cluster) :
    (is.foldl (fun r i => State.circ r c i) r).2.length n = r.2.length n :=
  List.foldlRecOn (motive := fun r' : State × Cluster => r'.2.length n = r.2.length n) is _ rfl
    fun r' h i _ => (length_circ r' c i n).trans h

section
variable (s : State) (c : Nat)

/-- A write of a pointer that is bound to no circular buffer sets it. -/
theorem setaDone_ptr_linear {i : Fin 8} {v : Fin 1048576} (h : ((s.clu c).length ((s.clu c).bind i)).toNat = 0) :
    s.setaDone c none (some ⟨.p, i, .imm v⟩) = (s, (s.clu c).setPtr i v) := by
  refine circ_of_inside (r := (s, (s.clu c).setPtr i v)) ?_
  rw [outside_setPtr _ _ v.isLt, h]
  rfl

/-- A write of a pointer outside its circular buffer sets the pointer to the base. -/
theorem setaDone_ptr_outside {i : Fin 8} {v : Fin 1048576} (hlen : 0 < ((s.clu c).length ((s.clu c).bind i)).toNat)
    (hout : v.val < ((s.clu c).base ((s.clu c).bind i)).toNat ∨
      ((s.clu c).base ((s.clu c).bind i)).toNat + ((s.clu c).length ((s.clu c).bind i)).toNat ≤ v.val) :
    s.setaDone c (some ⟨.p, i, .imm v⟩) none =
      (s.p (F.ADDR_STAT_CIRC_RESET c) (s.g (F.ADDR_STAT_CIRC_RESET c) ||| 2 ^ (s.clu c).bind i),
        ((s.clu c).setPtr i v).setPtr i ((s.clu c).base ((s.clu c).bind i)).toNat) := by
  refine circ_of_outside (r := (s, (s.clu c).setPtr i v)) ?_
  rw [outside_setPtr _ _ v.isLt, Bool.and_eq_true, bne_iff_ne, decide_eq_true_eq]
  exact ⟨hlen.ne', hout⟩

/-- A write of a modifier sets it and moves the sequencer to the next word. -/
theorem runSeta_modifier (i : Fin 8) (v : Fin 1048576) :
    ((s.runSeta c (some ⟨.m, i, .imm v⟩) none).clu c).mod i = BitVec.ofNat 16 v ∧
      ((s.runSeta c (some ⟨.m, i, .imm v⟩) none).clu c).pc = ((s.clu c).advance (s.clu c).pc).pc ∧
        ((s.runSeta c (some ⟨.m, i, .imm v⟩) none).clu c).depth = ((s.clu c).advance (s.clu c).pc).depth := by
  have hdone : (s.setaDone c (some ⟨.m, i, .imm v⟩) none).2 =
      { s.clu c with m := SMap.set zeroM (s.clu c).m i (BitVec.ofNat 16 v) } := rfl
  have haddr := addressing_runSeta s c (some ⟨.m, i, .imm v⟩) none
  have hseq := sameSequencer_runWhole s c 1 fun x _ =>
    ((s.setaDone c (some ⟨.m, i, .imm v⟩) none).1, (s.setaDone c (some ⟨.m, i, .imm v⟩) none).2.advance x)
  rw [hdone] at haddr hseq
  obtain ⟨hpc, hdepth⟩ := advance_congr (k := s.clu c)
    (k' := { s.clu c with m := SMap.set zeroM (s.clu c).m i (BitVec.ofNat 16 v) }) (s.clu c).pc rfl rfl rfl rfl
  exact ⟨(mod_of_addressing haddr i).trans (SMap.get_set_self _ _ _ _), hseq.pc.trans hpc, hseq.depth.trans hdepth⟩

/-- A write of a base sets it and the pointers bound to it. -/
theorem setaDone_base {i n : Fin 8} {v : Fin 1048576} (h : (s.clu c).bind n = i) :
    (s.setaDone c (some ⟨.b, i, .imm v⟩) none).2.base i = BitVec.ofNat 20 v ∧
      (s.setaDone c (some ⟨.b, i, .imm v⟩) none).2.ptr n = BitVec.ofNat 20 v := by
  have hbound : n.val ∈ (List.range 8).filter fun m => (s.clu c).bind m == i.val :=
    List.mem_filter.mpr ⟨List.mem_range.mpr n.isLt, beq_iff_eq.mpr h⟩
  exact ⟨(base_foldl_setPtr _ _ _ _).trans (SMap.get_set_self _ _ _ _), (ptr_foldl_setPtr _ _ _ _).trans (if_pos hbound)⟩

/-- A write of a length from a register sets it. -/
theorem setaDone_length (i : Fin 8) (r : Fin 16) : (s.setaDone c (some ⟨.len, i, .reg r⟩) none).2.length i =
    ((s.laneOf c 0).dr r).setWidth 20 := by
  rw [← BitVec.ofNat_toNat]
  refine (length_foldl_circ _ c i _).trans ?_
  exact SMap.get_set_self _ _ _ _

/-- CIRC_RESET holds the bit of a base below 8 once it has been set. -/
theorem testBit_circReset {b : Nat} (hb : b < 8) :
    ((s.p (F.ADDR_STAT_CIRC_RESET c) (s.g (F.ADDR_STAT_CIRC_RESET c) ||| 2 ^ b)).g (F.ADDR_STAT_CIRC_RESET c)).testBit b = true := by
  rw [g_p_self _ (F.ADDR_STAT_CIRC_RESET c) _ (by simp [F.ADDR_STAT_CIRC_RESET]), Nat.testBit_mod_two_pow]
  simp [F.ADDR_STAT_CIRC_RESET, hb]

end

/-! ## A result in the lanes of a condition -/

/-- Of a list of results, one for each enabled lane, an enabled lane that has a physical lane to itself takes its own. -/
theorem laneTakes_foldl_apply {s : State} {c : Nat} {j : Fin 16} (hown : s.ownLane c j) {k0 : Cluster} {q : Cond}
    (hq : (k0.lane (s.physOf c j)).holds q = true) (addr : Nat) (out : LaneUse → LaneOut) (k : Cluster) :
    LaneTakes (s.useOf c j) (out (s.useOf c j)) k
      (((s.laneUses c).filter fun u => u.enabled k0 q).foldl (fun k u => k.apply u addr (out u)) k) := by
  obtain ⟨us, vs, hsplit, hus, hvs⟩ := laneUses_split s hown
  have hother : ∀ ws : List LaneUse, (∀ u ∈ ws, u.phys ≠ s.physOf c j) → ∀ k, LaneAside (s.physOf c j) k
      ((ws.filter fun u => u.enabled k0 q).foldl (fun k u => k.apply u addr (out u)) k) := by
    intro ws hws
    exact LaneAside.foldl fun k u hu => laneAside_apply k addr _ (hws u (List.mem_of_mem_filter hu))
  have hen : (s.useOf c j).enabled k0 q = true := hq
  rw [hsplit, List.filter_append, List.filter_cons, if_pos hen, List.foldl_append, List.foldl_cons]
  exact ((hother us hus k).takes (laneTakes_apply _ (s.useOf c j) addr _)).aside (hother vs hvs _)

/-! ## SETI (R124) -/

/-- The cluster once the lanes of a SETI word have taken the immediate. -/
def State.setiDone (s : State) (c n : Nat) (q : Cond) (v : Word) : Cluster :=
  ((s.laneUses c).filter fun u => u.enabled (s.clu c) q).foldl (fun k u => k.apply u 0 (outD n (v, false))) (s.clu c)

theorem runSeti_eq (s : State) (c n : Nat) (q : Cond) (v : Word) :
    s.runSeti c n q v = s.runWhole c 1 fun i _ => (s, (s.setiDone c n q v).advance i) := rfl

/-- SETI moves the sequencer to the next word. -/
theorem next_runSeti (s : State) (c n : Nat) (q : Cond) (v : Word) :
    ((s.runSeti c n q v).clu c).pc = ((s.clu c).advance (s.clu c).pc).pc ∧
      ((s.runSeti c n q v).clu c).depth = ((s.clu c).advance (s.clu c).pc).depth := by
  have hword : SameSequencer ((s.setiDone c n q v).advance (s.clu c).pc) ((s.runSeti c n q v).clu c) := by
    rw [runSeti_eq]
    exact sameSequencer_runWhole s c 1 fun i _ => (s, (s.setiDone c n q v).advance i)
  obtain ⟨hpc, hdepth⟩ := (SameSequencer.foldl (fun k u => .apply k u 0 (outD n (v, false)))
    ((s.laneUses c).filter fun u => u.enabled (s.clu c) q) (s.clu c)).advance (s.clu c).pc
  exact ⟨hword.pc.trans hpc, hword.depth.trans hdepth⟩

/-- An enabled lane shows the immediate. -/
theorem dr_runSeti {s : State} {c n : Nat} {q : Cond} (v : Word) {j : Fin 16} (hown : s.ownLane c j)
    (hq : (s.laneOf c j).holds q = true) : (((s.runSeti c n q v).clu c).lane (s.physOf c j)).dr n = v := by
  have hadvance := sameData_advance (s.clu c).pc (s.setiDone c n q v)
  have hdata : SameData ((s.setiDone c n q v).advance (s.clu c).pc).visible ((s.runSeti c n q v).clu c) := by
    rw [runSeti_eq, clu_runWhole]
    exact ⟨rfl, rfl, rfl⟩
  exact (shows_of_laneTakes rfl (laneTakes_foldl_apply hown hq 0 (fun _ => outD n (v, false)) (s.clu c))
    (.of_lanes hadvance.lanes hadvance.pend) hdata).now n v rfl rfl

end Sys2Proof.Machine
end

section
/-!
SUPPORT. The control words of the sequencer and undefined words (R105 to R109, R121 to R125, R132).
-/
namespace Sys2Proof.Machine

section
variable {c : Fin 16} {s t : State} (ht : AtWord c s t)
include ht

/-- A word that leaves memory as its fetch finds it leaves every byte. -/
theorem AtWord.sameMem_of_mem {u : State} (h : u.mem = t.mem) : sameMem s u := byte_congr (h.trans ht.mem)

theorem AtWord.laneOf (j : Nat) : t.laneOf c j = s.laneOf c j := by
  unfold State.laneOf
  rw [ht.clu, ht.physOf]

end

/-! ## The words -/

section
variable {c : Fin 16} {s : State}

/-- A word of empty slots moves the sequencer on; results on their way apart it leaves the lanes. -/
theorem exec_nop (x : WordEnv) (h : s.issues c (.slots .nop .nop .nop) = true) :
    ∃ t, exec (.nop c x) s = .next t ∧ (t.clu c).pc = ((s.clu c).advance (s.clu c).pc).pc ∧
      (t.clu c).depth = ((s.clu c).advance (s.clu c).pc).depth ∧ ((s.clu c).pend = [] → (t.clu c).lanes = (s.clu c).lanes) ∧
      sameMem s t := by
  obtain ⟨t, ht, hrun⟩ := issue_slots x h
  obtain ⟨k, hdata, hseq, hkept⟩ := runSlots_of_no_compute t c x .nop .nop (r := (t, t.clu c)) rfl
  obtain ⟨hpc, hdepth⟩ := (SameSequencer.visible (t.clu c)).advance (t.clu c).pc
  have hown := hkept.own
  have hsame := hkept.seq
  rw [clu_setClu, if_pos rfl] at hown hsame
  refine ⟨_, congrArg Host.Outcome.next hrun, ?_⟩
  rw [← ht.clu]
  refine ⟨hsame.pc.trans (hseq.pc.trans hpc), hsame.depth.trans (hseq.depth.trans hdepth), fun hpend => ?_,
    ht.sameMem_of_mem hkept.mem⟩
  rw [hown.lanes, hdata.lanes, visible_eq, hpend]
  rfl

theorem exec_br_taken {bc : BrCond} {target : Fin 8192} (h : s.issues c (.br bc target) = true)
    (hholds : s.branchHolds c (s.clu c) bc = true) :
    ∃ t, exec (.br c bc target) s = .next t ∧ (t.clu c).pc = target ∧ (t.clu c).cyc = (s.clu c).cyc + 3 ∧ sameMem s t := by
  obtain ⟨t, ht, hexec⟩ := exec_br h
  rw [← ht.branchHolds, ← ht.clu] at hholds
  obtain ⟨hpc, hcyc, hmem⟩ := runBr_taken t c (target := target) hholds
  exact ⟨_, hexec, hpc, by rw [hcyc, ht.clu], ht.sameMem_of_mem hmem⟩

/-- A SETA word is its two writes, in the state after its fetch. -/
theorem exec_seta_addressing {x y : Option SetaSub} (h : s.issues c (.seta x y) = true) :
    ∃ t u, AtWord c s t ∧ exec (.seta c x y) s = .next u ∧ (u.clu c).addressing = (t.setaDone c x y).2.addressing ∧
      ∀ f, u.g f = (t.setaDone c x y).1.g f := by
  obtain ⟨t, ht, hexec⟩ := exec_seta h
  exact ⟨t, _, ht, hexec, addressing_runSeta t c x y, g_runSeta t c x y⟩

end

/-- Settles O23: each form of word moves the sequencer by its own rule, from the state after the fetch of the word. -/
theorem controlWordsOfTheSequencer : Obligations.ControlWordsOfTheSequencer := by
  unfold Obligations.ControlWordsOfTheSequencer
  refine ⟨?_, ?_, ?_, ?_, ?_, ?_, ?_, ?_, ?_, ?_, ?_, ?_, ?_, ?_, ?_⟩
  · -- NOP
    exact fun c x s h => exec_nop x h
  · -- BR taken
    exact fun c bc target s h hholds => exec_br_taken h hholds
  · -- BR not taken
    intro c bc target s h hholds
    obtain ⟨t, ht, hexec⟩ := exec_br h
    rw [← ht.branchHolds, ← ht.clu] at hholds
    rw [← ht.clu]
    exact ⟨_, hexec, runBr_untaken t c hholds⟩
  · -- BR on ANY of a predicate
    intro c p target j s h hflag
    obtain ⟨t, hexec, hpc, -⟩ := exec_br_taken h (branchHolds_any j hflag)
    exact ⟨t, hexec, hpc⟩
  · -- LOOP
    intro c n a b s h hn hallowed
    obtain ⟨t, ht, hexec⟩ := exec_loop h
    rw [if_pos hallowed] at hexec
    rw [← ht.clu]
    exact ⟨_, hexec, runLoop_opens t c hn.ne'⟩
  · -- LOOP with count 0
    intro c a b s h hallowed
    obtain ⟨t, ht, hexec⟩ := exec_loop h
    rw [if_pos hallowed] at hexec
    rw [← ht.clu]
    obtain ⟨hpc, hdepth⟩ := runLoop_skips t c (a := a) (b := b)
    exact ⟨_, hexec, hpc, hdepth, fun h0 => hpc.trans (pc_advance_of_no_loop _ h0)⟩
  · -- LOOP against R106
    intro c n a b s h hagainst
    obtain ⟨t, ht, hexec⟩ := exec_loop h
    rw [if_neg (by rw [loopAllowed_eq_false hagainst]; exact Bool.false_ne_true)] at hexec
    exact ⟨_, hexec, ill_undefinedWord t c 1, reason_undefinedWord t c 1 (by decide), state_undefinedWord t c 1,
      ht.sameMem_of_mem (mem_undefinedWord t c 1)⟩
  · -- SETA of a modifier
    intro c i v s h
    obtain ⟨t, ht, hexec⟩ := exec_seta h
    rw [← ht.clu]
    exact ⟨_, hexec, runSeta_modifier t c i v⟩
  · -- SETA of a linear pointer
    intro c i v s h hlen
    obtain ⟨t, u, ht, hexec, haddr, -⟩ := exec_seta_addressing h
    rw [← ht.clu] at hlen
    rw [setaDone_ptr_linear t c hlen] at haddr
    exact ⟨u, hexec, by rw [ptr_of_addressing haddr, ptr_setPtr, if_pos rfl]⟩
  · -- SETA of a pointer outside its circular buffer
    intro c i v s h hlen hout hbind
    obtain ⟨t, u, ht, hexec, haddr, hg⟩ := exec_seta_addressing h
    rw [← ht.clu] at hlen hout hbind ⊢
    rw [setaDone_ptr_outside t c hlen hout] at haddr hg
    refine ⟨u, hexec, ?_, ?_⟩
    · rw [ptr_of_addressing haddr, ptr_setPtr, if_pos rfl, BitVec.ofNat_toNat, BitVec.setWidth_eq]
    · rw [hg]; exact testBit_circReset t c hbind
  · -- SETA of a base
    intro c i n v s h hbind
    obtain ⟨t, u, ht, hexec, haddr, -⟩ := exec_seta_addressing h
    rw [← ht.clu] at hbind
    obtain ⟨hbase, hptr⟩ := setaDone_base t c (v := v) hbind
    exact ⟨u, hexec, (base_of_addressing haddr i).trans hbase, (ptr_of_addressing haddr n).trans hptr⟩
  · -- SETA of a length from a register
    intro c i r s h
    obtain ⟨t, u, ht, hexec, haddr, -⟩ := exec_seta_addressing h
    rw [← ht.laneOf]
    exact ⟨u, hexec, (length_of_addressing haddr i).trans (setaDone_length t c i r)⟩
  · -- SETI
    intro c n q v j s h hown hq
    obtain ⟨t, ht, hexec⟩ := exec_seti h
    rw [← ht.laneOf] at hq
    rw [← ht.clu, ← ht.physOf]
    exact ⟨_, hexec, dr_runSeti v (ht.ownLane hown) hq, next_runSeti t c n q v⟩
  · -- HALT
    intro c s h
    obtain ⟨t, ht, hexec⟩ := exec_halt h
    have hclu := clu_runHalt t c
    rw [← ht.clu]
    exact ⟨_, hexec, state_runHalt t c, by rw [hclu], by rw [hclu], by rw [hclu], ht.sameMem_of_mem (mem_runHalt t c)⟩
  · -- UNDEFINED_ENCODING
    intro c s hissuing hfetch hword
    obtain ⟨t, ht, hexec⟩ := exec_undefinedEncoding hissuing hfetch hword
    have hpc := pc_lt_of_fetch hfetch
    rw [← ht.clu] at hpc ⊢
    have hclu := clu_undefinedWord t c 0
    exact ⟨_, hexec, ill_undefinedWord t c 0, reason_undefinedWord t c 0 (by decide), (task_undefinedWord t c 0).trans ht.task,
      index_undefinedWord t c 0 hpc, state_undefinedWord t c 0, by rw [hclu], by rw [hclu], ht.sameMem_of_mem (mem_undefinedWord t c 0)⟩

end Sys2Proof.Machine
end

section
/-!
SUPPORT. What the memory slots of a word leave: the sequencer but for the pointers that post-modifies move, the other clusters, and the
registers of lanes (R92, R112, R118, R119, R126).
-/
namespace Sys2Proof.Machine

/-! ## Accesses leave the sequencer and the clusters -/

theorem sameSequencer_markViolations (k k0 : Cluster) (m : MemOp) (addr : Nat) (us : List LaneUse) :
    SameSequencer k (k.markViolations k0 m addr us) := by
  refine SameSequencer.foldl (fun k u => ?_) us k
  split
  · exact (SameSequencer.setLane k _ _).trans (.tallyOfs _ u addr)
  · exact .refl k

/-- Loads and stores leave the sequencer. -/
theorem sameSequencer_runMem (s : State) (c addr : Nat) (k0 : Cluster) (o : Option MemOp) (k : Cluster) :
    SameSequencer k (s.runMem c addr k0 o k).2 := by
  cases o with
  | none => exact .refl k
  | some m =>
    unfold State.runMem
    dsimp only
    split
    · exact (SameSequencer.foldl (fun k u => .setLane k _ _) _ k).trans (sameSequencer_markViolations _ k0 m addr _)
    · exact (SameSequencer.foldl (fun k u => .apply k u addr _) _ k).trans (sameSequencer_markViolations _ k0 m addr _)

theorem readKept_decodeError (s : State) (src a : Nat) : ReadKept s (s.decodeError src a) :=
  (((readKept_wr s _ (by decide)).trans (readKept_wr _ _ (by decide))).trans (readKept_inc _ 1 (by decide))).trans
    (readKept_emit _ _ _ _ _)

theorem readKept_decodeLanes (s : State) (c : Nat) (as : List Nat) : ReadKept s (s.decodeLanes c as) := by
  unfold State.decodeLanes
  split
  · exact readKept_decodeError s _ _
  · exact .refl s

theorem readKept_readMany (s : State) (bs : List Nat) : ReadKept s (s.readMany bs).1 :=
  List.foldlRecOn (motive := fun r : State × SMap Word => ReadKept s r.1) bs _ (.refl s)
    fun r h b _ => h.trans (readKept_readW r.1 b)

/-- Whether an operation of a memory slot is a store. -/
def isStoreOp (o : Option MemOp) : Bool := o.any fun m => m.what.isStore

theorem isStoreOp_m0Op (m0 : M0Slot) : isStoreOp (m0Op m0) = false := by cases m0 <;> rfl

/-- A load is a read of memory. -/
theorem readKept_runMem (s : State) (c addr : Nat) (k0 : Cluster) {o : Option MemOp} (ho : isStoreOp o = false) (k : Cluster) :
    ReadKept s (s.runMem c addr k0 o k).1 := by
  cases o with
  | none => exact .refl s
  | some m =>
    have hload : m.what.isStore = false := ho
    rw [State.runMem, hload]
    exact (readKept_decodeLanes s c _).trans (readKept_readMany _ _)

/-! ## Stores -/

/-- The writes of a store, lane by lane. -/
def State.storeWrites (s : State) (c : Nat) (k0 : Cluster) (m : MemOp) : List (Nat × Word) :=
  (s.accessing c k0 m).filterMap fun u => ((k0.addrs m u).head?.bind (laneByte c)).map fun b => (b, (k0.storeResult m u).1)

/-- Writes of words in their order. -/
def State.storeAll (s : State) (ws : List (Nat × Word)) : State := ws.foldl (fun s w => s.taskStore w.1 w.2) s

/-- A store writes what remains of its writes, after the decode errors of its lanes are recorded. -/
theorem runMem_store (s : State) (c addr : Nat) (k0 : Cluster) {m : MemOp} (hm : m.what.isStore = true) (k : Cluster) :
    (s.runMem c addr k0 (some m) k).1 = (s.decodeLanes c (s.opAddrs c k0 m)).storeAll (lastWrites (s.storeWrites c k0 m)) := by
  rw [State.runMem, hm]
  rfl

/-- A load reads each word of memory at its lane addresses, after the decode errors of its lanes are recorded. -/
theorem runMem_load (s : State) (c addr : Nat) (k0 : Cluster) {m : MemOp} (hm : m.what.isStore = false) (k : Cluster) :
    (s.runMem c addr k0 (some m) k).1 = ((s.decodeLanes c (s.opAddrs c k0 m)).readMany
      (distinct ((s.opAddrs c k0 m).filterMap (laneByte c)))).1 := by
  rw [State.runMem, hm]
  rfl

@[simp] theorem taskStore_cl (s : State) (a : Nat) (v : Word) : (s.taskStore a v).cl = s.cl := by
  have hmark : ∀ u : State, (u.markWrite a).cl = u.cl := by
    intro u; unfold State.markWrite; split <;> rfl
  have hwrite : (s.writeW a v).cl = s.cl := by
    unfold State.writeW
    split
    · rfl
    · exact (hmark _).trans (readKept_touchBank s _).cl
  rw [← hwrite]
  unfold State.taskStore
  dsimp only
  split <;> rfl

@[simp] theorem taskStore_mem (s : State) (a : Nat) (v : Word) : (s.taskStore a v).mem = (s.writeW a v).mem := by
  unfold State.taskStore
  dsimp only
  split <;> rfl

/-- A store of a task writes no status of the matrix. -/
theorem rd_taskStore_status (s : State) (a : Nat) (v : Word) : (s.taskStore a v).rd R.MTX_STAT = s.rd R.MTX_STAT := by
  rw [← rd_writeW_ne s a v (x := R.MTX_STAT) (by decide) (by decide)]
  unfold State.taskStore
  dsimp only
  split <;> rfl

theorem storeAll_cl (s : State) (ws : List (Nat × Word)) : (s.storeAll ws).cl = s.cl :=
  List.foldlRecOn (motive := fun t : State => t.cl = s.cl) ws _ rfl fun t h w _ => (taskStore_cl t w.1 w.2).trans h

theorem rd_storeAll_status (s : State) (ws : List (Nat × Word)) : (s.storeAll ws).rd R.MTX_STAT = s.rd R.MTX_STAT :=
  List.foldlRecOn (motive := fun t : State => t.rd R.MTX_STAT = s.rd R.MTX_STAT) ws _ rfl
    fun t h w _ => (rd_taskStore_status t w.1 w.2).trans h

/-- Loads and stores reach memory and lanes only: the store of clusters stays. -/
theorem cl_runMem (s : State) (c addr : Nat) (k0 : Cluster) (o : Option MemOp) (k : Cluster) :
    (s.runMem c addr k0 o k).1.cl = s.cl := by
  cases o with
  | none => rfl
  | some m =>
    cases hm : m.what.isStore with
    | false => exact (readKept_runMem s c addr k0 (o := some m) hm k).cl
    | true => rw [runMem_store s c addr k0 hm, storeAll_cl]; exact (readKept_decodeLanes s c _).cl

/-! ## The record of a decode error (R88, R327) -/

/-- A read of a word writes no status of the matrix. -/
theorem rd_readW_status (s : State) (a : Nat) : (s.readW a).1.rd R.MTX_STAT = s.rd R.MTX_STAT := by
  have hcorr : ∀ u : State, (u.eccCorr a).rd R.MTX_STAT = u.rd R.MTX_STAT := by
    intro u
    unfold State.eccCorr
    split
    · rw [rd_emit, rd_inc_ne _ _ _ (by decide)]
    · rfl
  unfold State.readW
  split
  · rfl
  · next k x _ =>
    rw [← rd_touchBank_ne s (bankOf k x) (x := R.MTX_STAT) (by decide)]
    dsimp only
    split
    · rfl
    · exact hcorr _
    · exact rd_eccUncorr_ne _ a (by decide) (by decide)

theorem rd_readMany_status (s : State) (bs : List Nat) : (s.readMany bs).1.rd R.MTX_STAT = s.rd R.MTX_STAT :=
  List.foldlRecOn (motive := fun r : State × SMap Word => r.1.rd R.MTX_STAT = s.rd R.MTX_STAT) bs _ rfl
    fun r h b _ => (rd_readW_status r.1 b).trans h

theorem g_decodeLanes_decode (s : State) {c : Nat} {as : List Nat} (h : ∃ a ∈ as, laneByte c a = none) :
    (s.decodeLanes c as).g F.MTX_STAT_DECODE = 1 := by
  obtain ⟨a, ha, hnone⟩ := h
  have hfound : (as.find? fun a => (laneByte c a).isNone).isSome = true :=
    List.find?_isSome.mpr ⟨a, ha, by rw [hnone]; rfl⟩
  obtain ⟨b, hb⟩ := Option.isSome_iff_exists.mp hfound
  rw [State.decodeLanes, hb]
  exact g_decodeError_decode s _ _

/-- An operation with a lane address where no memory stands is a decode error. -/
theorem g_runMem_decode (s : State) {c : Nat} (addr : Nat) (k0 : Cluster) {m : MemOp} (k : Cluster)
    (h : ∃ a ∈ s.opAddrs c k0 m, laneByte c a = none) :
    (s.runMem c addr k0 (some m) k).1.g F.MTX_STAT_DECODE = 1 := by
  rw [← g_decodeLanes_decode s h]
  cases hm : m.what.isStore with
  | false => rw [runMem_load s c addr k0 hm]; exact g_of_rd (rd_readMany_status _ _)
  | true => rw [runMem_store s c addr k0 hm]; exact g_of_rd (rd_storeAll_status _ _)

/-! ## Post-modifies (R92) -/

/-- Whether an operation of a memory slot moves pointer `i`. -/
def opMoves (o : Option MemOp) (i : Nat) : Bool := o.any fun m => m.pm && m.i == i

theorem opMoves_m0Op (m0 : M0Slot) (i : Fin 8) : opMoves (m0Op m0) i = slotMoves m0 i := by
  cases m0 <;> simp [opMoves, m0Op, slotMoves, Fin.ext_iff, Bool.beq_eq_decide_eq]

/-- What a post-modify moves a pointer by depends on the addressing registers but the pointers. -/
theorem stepPtr_setPtr (k : Cluster) (i j v : Nat) (pm : Bool) (p : BitVec 20) :
    (k.setPtr j v).stepPtr i pm p = k.stepPtr i pm p := rfl

theorem stepPtr_congr {k k' : Cluster} (h : k'.addressing = k.addressing) (i : Nat) (pm : Bool) (p : BitVec 20) :
    k'.stepPtr i pm p = k.stepPtr i pm p := by
  unfold Cluster.stepPtr
  rw [bind_of_addressing h, base_of_addressing h, length_of_addressing h, mod_of_addressing h]

/-- A post-modify moves at most one pointer of the cluster. -/
theorem postMod_snd (s : State) (c : Nat) (o : Option MemOp) (k : Cluster) :
    (∃ i v, (s.postMod c o k).2 = k.setPtr i v) ∨ (s.postMod c o k).2 = k := by
  cases o with
  | none => exact .inr rfl
  | some m =>
    unfold State.postMod
    dsimp only
    split
    · exact .inl ⟨_, _, rfl⟩
    · exact .inr rfl

theorem ptr_postMod (s : State) (c : Nat) (o : Option MemOp) (k : Cluster) (i : Nat) :
    (s.postMod c o k).2.ptr i = k.stepPtr i (opMoves o i) (k.ptr i) := by
  cases o with
  | none => rfl
  | some m =>
    unfold State.postMod opMoves
    rw [Option.any_some]
    dsimp only
    cases m.pm with
    | false => rfl
    | true =>
      rw [if_pos rfl, Bool.true_and, ptr_setPtr]
      by_cases hi : i = m.i
      · subst hi; simp [Cluster.stepPtr]
      · simp [Cluster.stepPtr, hi, Ne.symm hi]

theorem stepPtr_postMod (s : State) (c : Nat) (o : Option MemOp) (k : Cluster) (i : Nat) (pm : Bool) (p : BitVec 20) :
    (s.postMod c o k).2.stepPtr i pm p = k.stepPtr i pm p := by
  obtain ⟨j, v, h⟩ | h := postMod_snd s c o k
  · rw [h, stepPtr_setPtr]
  · rw [h]

/-- A post-modify leaves the loop levels. -/
theorem levels_postMod (s : State) (c : Nat) (o : Option MemOp) (k : Cluster) :
    (s.postMod c o k).2.lc = k.lc ∧ (s.postMod c o k).2.ls = k.ls ∧ (s.postMod c o k).2.le = k.le ∧
      (s.postMod c o k).2.depth = k.depth := by
  obtain ⟨j, v, h⟩ | h := postMod_snd s c o k
  · rw [h]; exact ⟨rfl, rfl, rfl, rfl⟩
  · rw [h]; exact ⟨rfl, rfl, rfl, rfl⟩

/-- A post-modify writes at most ADDR_STAT. -/
theorem postMod_fst (s : State) (c : Nat) (o : Option MemOp) (k : Cluster) :
    (∃ v, (s.postMod c o k).1 = s.p (F.ADDR_STAT_MOD_RANGE c) v) ∨ (s.postMod c o k).1 = s := by
  cases o with
  | none => exact .inr rfl
  | some m =>
    unfold State.postMod
    dsimp only
    split
    · dsimp only
      split
      · exact .inl ⟨_, rfl⟩
      · exact .inr rfl
    · exact .inr rfl

theorem mem_postMod (s : State) (c : Nat) (o : Option MemOp) (k : Cluster) : (s.postMod c o k).1.mem = s.mem := by
  obtain ⟨v, h⟩ | h := postMod_fst s c o k <;> rw [h]
  rw [p_mem]

theorem cl_postMod (s : State) (c : Nat) (o : Option MemOp) (k : Cluster) : (s.postMod c o k).1.cl = s.cl := by
  obtain ⟨v, h⟩ | h := postMod_fst s c o k <;> rw [h]
  rw [p_cl]

theorem rd_postMod_status (s : State) (c : Fin 16) (o : Option MemOp) (k : Cluster) :
    (s.postMod c o k).1.rd R.MTX_STAT = s.rd R.MTX_STAT := by
  obtain ⟨v, h⟩ | h := postMod_fst s c o k <;> rw [h]
  refine rd_p_ne s _ v ?_
  have hc := c.isLt
  simp only [F.ADDR_STAT_MOD_RANGE, R.ADDR_STAT, R.MTX_STAT]
  omega

section
variable (c : Fin 16) (o0 o1 : Option MemOp) (r : State × Cluster)

theorem mem_postMods : (postMods c o0 o1 r).1.mem = r.1.mem := (mem_postMod _ c o1 _).trans (mem_postMod _ c o0 _)

theorem cl_postMods : (postMods c o0 o1 r).1.cl = r.1.cl := (cl_postMod _ c o1 _).trans (cl_postMod _ c o0 _)

theorem rd_postMods_status : (postMods c o0 o1 r).1.rd R.MTX_STAT = r.1.rd R.MTX_STAT :=
  (rd_postMod_status _ c o1 _).trans (rd_postMod_status _ c o0 _)

theorem slotsAside_postMods : SlotsAside r.2 (postMods c o0 o1 r).2 :=
  (slotsAside_postMod _ c o0 _).trans (slotsAside_postMod _ c o1 _)

/-- After the post-modifies the sequencer moves on as before. -/
theorem advance_postMods (x : Nat) : ((postMods c o0 o1 r).2.advance x).pc = (r.2.advance x).pc ∧
    ((postMods c o0 o1 r).2.advance x).depth = (r.2.advance x).depth := by
  obtain ⟨hlc, hls, hle, hdepth⟩ := levels_postMod r.1 c o0 r.2
  obtain ⟨hlc', hls', hle', hdepth'⟩ := levels_postMod (r.1.postMod c o0 r.2).1 c o1 (r.1.postMod c o0 r.2).2
  exact advance_congr x (hlc'.trans hlc) (hls'.trans hls) (hle'.trans hle) (hdepth'.trans hdepth)

/-- The operation in slot M1 moves its pointer after the one in slot M0 (R92). -/
theorem ptr_postMods (i : Nat) :
    (postMods c o0 o1 r).2.ptr i = r.2.stepPtr i (opMoves o1 i) (r.2.stepPtr i (opMoves o0 i) (r.2.ptr i)) := by
  rw [postMods, ptr_postMod, stepPtr_postMod, ptr_postMod]

end

/-! ## The word -/

/-- From `s` to `w` cluster `c` has issued a slot word with an empty compute slot and the operations `o0` and `o1`, whose accesses
lead to `r`. -/
structure SlotsDone (c : Fin 16) (o0 o1 : Option MemOp) (s : State) (r : State × Cluster) (w : State) : Prop where
  mem : w.mem = r.1.mem
  decode : w.g F.MTX_STAT_DECODE = r.1.g F.MTX_STAT_DECODE
  frame : memWordFrame s w c
  ptr : ∀ i, (w.clu c).ptr i = (s.clu c).stepPtr i (opMoves o1 i) ((s.clu c).stepPtr i (opMoves o0 i) ((s.clu c).ptr i))
  pend : ∀ q ∈ r.2.pend, 2 ≤ q.left → { q with left := q.left - 1 } ∈ (w.clu c).pend

/-- The lanes of a cluster once its memory slots are done and results have become visible (R126). -/
theorem lane_of_slotsAside {k k' : Cluster} (h : SlotsAside k k') (n : Nat) :
    (k'.visible.lane n).acc = (k.lane n).acc ∧ (k'.visible.lane n).pf = (k.lane n).pf ∧
      (k'.visible.lane n).ofs = (k.lane n).ofs ∧ (k.pend = [] → (k'.visible.lane n).d = (k.lane n).d) := by
  obtain ⟨hlane, qs, hpend, hqs⟩ := h
  obtain ⟨hd, hacc, hpf, hofs, -, -⟩ := hlane n
  obtain ⟨hacc', hpf', -, hofs'⟩ : (k'.visible.lane n).acc = (k'.lane n).acc ∧ (k'.visible.lane n).pf = (k'.lane n).pf ∧
      (k'.visible.lane n).lstat = (k'.lane n).lstat ∧ (k'.visible.lane n).ofs = (k'.lane n).ofs := by
    simpa [Lane.others] using others_visible k' n
  refine ⟨hacc'.trans hacc, hpf'.trans hpf, hofs'.trans hofs, fun hnone => ?_⟩
  rw [lane_visible_of_forall, hd]
  intro q hq hleft
  rw [hpend, hnone, List.nil_append] at hq
  exact absurd hleft (Nat.not_le.mpr (hqs q hq))

/-- A slot word with an empty compute slot leaves what its memory slots leave (R112, R126). -/
theorem slotsDone (s : State) (c : Fin 16) (env : WordEnv) (m0 : M0Slot) (m1 : M1Slot) :
    SlotsDone c (m0Op m0) (m1Op m1) s (s.accesses c (progByte c (s.clu c).pc) (m0Op m0) (m1Op m1))
      (s.runSlots c env .nop m0 m1) := by
  obtain ⟨k, hdata, hseq, hkept⟩ := runSlots_of_no_compute s c env m0 m1 rfl
  have hacc : SameSequencer (s.clu c) (s.accesses c (progByte c (s.clu c).pc) (m0Op m0) (m1Op m1)).2 :=
    (sameSequencer_runMem s c _ _ _ _).trans (sameSequencer_runMem _ c _ _ _ _)
  have hslots : SlotsAside (s.clu c) (s.accesses c (progByte c (s.clu c).pc) (m0Op m0) (m1Op m1)).2 :=
    (slotsAside_runMem s c _ _ _ _).trans (slotsAside_runMem _ c _ _ _ _)
  have hcl : (s.accesses c (progByte c (s.clu c).pc) (m0Op m0) (m1Op m1)).1.cl = s.cl :=
    (cl_runMem _ c _ _ _ _).trans (cl_runMem s c _ _ _ _)
  generalize s.accesses c (progByte c (s.clu c).pc) (m0Op m0) (m1Op m1) = r at *
  generalize m0Op m0 = o0 at *
  generalize m1Op m1 = o1 at *
  generalize s.runSlots c env .nop m0 m1 = w at *
  have hmods := slotsAside_postMods c o0 o1 r
  have hseen := SameSequencer.visible (postMods c o0 o1 r).2
  obtain ⟨hmem, -, -, -, hown, hother⟩ := hkept.toCountKept
  have hsame := hkept.seq
  rw [clu_setClu, if_pos rfl] at hown hsame
  have hend : SameData (postMods c o0 o1 r).2.visible (w.clu c) := hdata.trans hown
  have hnext : SameSequencer ((postMods c o0 o1 r).2.visible.advance (s.clu c).pc) (w.clu c) := hseq.trans hsame
  obtain ⟨hpc, hdepth⟩ := hseen.advance (s.clu c).pc
  obtain ⟨hpc', hdepth'⟩ := advance_postMods c o0 o1 r (s.clu c).pc
  obtain ⟨hpc'', hdepth''⟩ := hacc.advance (s.clu c).pc
  constructor
  case mem => exact hmem.trans (mem_postMods c o0 o1 r)
  case decode => exact g_of_rd ((hkept.stat.trans (rd_setClu _ _ _ _)).trans (rd_postMods_status c o0 o1 r))
  case frame =>
    refine ⟨hnext.pc.trans (hpc.trans (hpc'.trans hpc'')), hnext.depth.trans (hdepth.trans (hdepth'.trans hdepth'')),
      fun d hd => ?_, fun n => ?_⟩
    · rw [hother d hd, clu_setClu, if_neg hd]
      exact congrArg (SMap.get clusterDefault · d) ((cl_postMods c o0 o1 r).trans hcl)
    · rw [hend.lane]
      exact lane_of_slotsAside (hslots.trans hmods) n
  case ptr =>
    intro i
    rw [ptr_of_addressing (hend.addressing.trans hseen.addressing), ptr_postMods, ptr_of_addressing hacc.addressing,
      stepPtr_congr hacc.addressing, stepPtr_congr hacc.addressing]
  case pend =>
    intro q hq hleft
    obtain ⟨-, qs, hpend, -⟩ := hmods
    rw [hend.pend]
    exact mem_pend_visible (hpend ▸ List.mem_append_left qs hq) hleft

end Sys2Proof.Machine
end

section
/-!
SUPPORT. A memory operation as the lanes of its word see it: lane addresses, the words that a load brings, and the decode errors (R87, R88,
R96, R103, R312).
-/
namespace Sys2Proof.Machine

/-! ## States that show a cluster's lanes the same memory -/

/-- States `s` and `u` show the lanes of cluster `c` the same: memory with its error marks, the clusters, and the registers that place
logical lanes. -/
structure SameView (c : Fin 16) (s u : State) : Prop where
  mem : u.mem = s.mem
  ecc : u.mx.ecc = s.mx.ecc
  cl : u.cl = s.cl
  map : u.rd (R.LANE_MAP c) = s.rd (R.LANE_MAP c)
  shadow : u.rd (R.SHADOW_STAT c) = s.rd (R.SHADOW_STAT c)

theorem AtWord.sameView {c : Fin 16} {s t : State} (h : AtWord c s t) (hecc : t.mx.ecc = s.mx.ecc) : SameView c s t := by
  have hc := c.isLt
  refine ⟨h.mem, hecc, h.cl, h.rd _ ?_ ?_ ?_, h.rd _ ?_ ?_ ?_⟩ <;>
    simp only [R.LANE_MAP, R.SHADOW_STAT, R.CL_STAT, R.CL_TASK] <;> omega

theorem ReadKept.sameView {s u : State} (h : ReadKept s u) (c : Fin 16) : SameView c s u := by
  have hc := c.isLt
  refine ⟨h.mem, h.ecc, h.cl, h.rd _ ?_, h.rd _ ?_⟩ <;> simp only [R.LANE_MAP, R.SHADOW_STAT] <;> omega

namespace SameView

theorem trans {c : Fin 16} {s t u : State} (h : SameView c s t) (h' : SameView c t u) : SameView c s u :=
  ⟨h'.mem.trans h.mem, h'.ecc.trans h.ecc, h'.cl.trans h.cl, h'.map.trans h.map, h'.shadow.trans h.shadow⟩

variable {c : Fin 16} {s u : State} (h : SameView c s u)
include h

theorem clu (d : Nat) : u.clu d = s.clu d := congrArg (SMap.get clusterDefault · d) h.cl

theorem physOf (j : Nat) : u.physOf c j = s.physOf c j := by
  unfold State.physOf State.on
  rw [g_of_rd (f := F.LANE_MAP_RETIRED c) h.map, g_of_rd (f := F.LANE_MAP_RETIRED_LANE c) h.map]

theorem checkedLane : u.checkedLane c = s.checkedLane c := by
  unfold State.checkedLane
  rw [g_of_rd (f := F.SHADOW_STAT_STATE c) h.shadow, g_of_rd (f := F.SHADOW_STAT_PTR c) h.shadow,
    g_of_rd (f := F.SHADOW_STAT_L c) h.shadow]

theorem laneUses : u.laneUses c = s.laneUses c := by
  unfold State.laneUses
  simp only [h.physOf, h.checkedLane]

theorem opAddrs (k0 : Cluster) (m : MemOp) : u.opAddrs c k0 m = s.opAddrs c k0 m := by
  unfold State.opAddrs State.accessing
  rw [h.laneUses]

theorem storeWrites (k0 : Cluster) (m : MemOp) : u.storeWrites c k0 m = s.storeWrites c k0 m := by
  unfold State.storeWrites State.accessing
  rw [h.laneUses]

end SameView

/-! ## Lane addresses -/

section
variable (s : State) (c : Nat)

/-- The lanes that access memory are the enabled logical lanes in their order. -/
theorem accessing_eq (k0 : Cluster) (m : MemOp) : s.accessing c k0 m =
    ((List.range 16).map (s.useOf c)).filter fun u => u.enabled k0 m.cond := by
  rw [← working_laneUses, List.filter_filter]
  unfold State.accessing
  simp only [Bool.and_comm]

/-- The lane addresses of an operation in a logical lane. -/
theorem addrs_useOf (m : MemOp) (j : Nat) : (s.clu c).addrs m (s.useOf c j) =
    m.what.taps.map fun t => s.laneWordAt c j m.i t m.what.margin := rfl

/-- An operation addresses each tap of each enabled lane. -/
theorem laneWordAt_mem_opAddrs {m : MemOp} {j : Fin 16} {t : Int} (hq : (s.laneOf c j).holds m.cond = true)
    (ht : t ∈ m.what.taps) : s.laneWordAt c j m.i t m.what.margin ∈ s.opAddrs c (s.clu c) m := by
  have hlane : s.useOf c j ∈ s.accessing c (s.clu c) m := by
    rw [accessing_eq]
    exact List.mem_filter.mpr ⟨List.mem_map.mpr ⟨j, List.mem_range.mpr j.isLt, rfl⟩, hq⟩
  exact List.mem_flatMap.mpr ⟨_, hlane, List.mem_map.mpr ⟨t, ht, rfl⟩⟩

end

/-- Where a lane address stands for a word, memory stands there. -/
theorem memOf_laneByte {c : Fin 16} {a b : Nat} (h : laneByte c a = some b) : ∃ k o, memOf b = some (k, o) := by
  have hc := c.isLt
  unfold laneByte at h
  unfold memOf
  dsimp only
  split_ifs at h with hdata hregion
  · obtain rfl := Option.some.inj h
    rw [if_neg (by omega), if_pos (by omega), if_pos (by omega)]
    exact ⟨_, _, rfl⟩
  · obtain rfl := Option.some.inj h
    rw [if_neg (by omega), if_neg (by omega), if_pos (by omega)]
    exact ⟨_, _, rfl⟩

/-! ## The words that a load brings -/

theorem mem_distinct {α : Type} [DecidableEq α] {a : α} {as : List α} : a ∈ distinct as ↔ a ∈ as := by
  induction as with
  | nil => exact Iff.rfl
  | cons b as ih =>
    unfold distinct
    split
    · next hb =>
      rw [ih, List.mem_cons]
      exact ⟨.inr, fun h => h.elim (fun e => e ▸ hb) id⟩
    · rw [List.mem_cons, List.mem_cons, ih]

theorem find_foldl_readW {s : State} (bs : List Nat) (b : Nat) (r : State × SMap Word) (hr : ReadKept s r.1) :
    SMap.find (bs.foldl (fun r b => ((r.1.readW b).1, SMap.insert r.2 b (r.1.readW b).2.1)) r).2 b =
      if b ∈ bs then some (s.checkedWord b).1 else SMap.find r.2 b := by
  induction bs generalizing r with
  | nil => rfl
  | cons x bs ih =>
    rw [List.foldl_cons, ih _ (hr.trans (readKept_readW r.1 x)), SMap.find_insert, readW_snd, checkedWord_congr s hr.mem hr.ecc]
    by_cases hx : b = x
    · subst hx; simp
    · simp [hx]

/-- The words read together are the checked words. -/
theorem find_readMany (s : State) (bs : List Nat) {b : Nat} (hb : b ∈ bs) :
    SMap.find (s.readMany bs).2 b = some (s.checkedWord b).1 :=
  (find_foldl_readW bs b (s, []) (.refl s)).trans (if_pos hb)

/-- The word at lane address `a`: zero where no memory stands or an uncorrectable error marks the word. -/
def State.laneWord (s : State) (c a : Nat) : Word :=
  match laneByte c a with
  | some b => if s.eccAt b < 2 then s.word b else 0
  | none => 0

/-- A load brings each lane the word at its address. -/
theorem loaded_readMany {s u : State} {c : Fin 16} (h : SameView c s u) {as : List Nat} {a : Nat} (ha : a ∈ as) :
    loaded c (u.readMany (distinct (as.filterMap (laneByte c)))).2 a = s.laneWord c a := by
  unfold loaded State.laneWord
  cases hb : laneByte c a with
  | none => rfl
  | some b =>
    obtain ⟨k, o, hm⟩ := memOf_laneByte hb
    have hread : b ∈ distinct (as.filterMap (laneByte c)) := mem_distinct.mpr (List.mem_filterMap.mpr ⟨a, ha, hb⟩)
    dsimp only
    rw [find_readMany u _ hread, Option.getD_some, checkedWord_congr s h.mem h.ecc, State.checkedWord, hm]
    simp only [Option.isSome_some, if_true]
    split <;> rfl

/-- What a load gives logical lane `j`. -/
def State.loadOut (s : State) (c j : Nat) (m : MemOp) : LaneOut :=
  match m.what with
  | .ld n => outD n (s.laneData c j m.i 0 0, false) 2
  | .ldi w n => outD n (interpolate w (ofsFrac ((s.clu c).ofs (s.physOf c j) m.i)) (s.laneData c j m.i (-1) 2)
      (s.laneData c j m.i 0 2) (s.laneData c j m.i 1 2) (s.laneData c j m.i 2 2)) 4
  | _ => LaneOut.none

/-- The result of a load in a logical lane comes of the words at its lane addresses. -/
theorem loadResult_useOf {s : State} {c j : Nat} {m : MemOp} {data : SMap Word}
    (hdata : ∀ t ∈ m.what.taps, loaded c data (s.laneWordAt c j m.i t m.what.margin) = s.laneData c j m.i t m.what.margin) :
    (s.clu c).loadResult c m data (s.useOf c j) = s.loadOut c j m := by
  have hx : ((s.clu c).addrs m (s.useOf c j)).map (loaded c data) =
      m.what.taps.map fun t => s.laneData c j m.i t m.what.margin := by
    rw [addrs_useOf, List.map_map]
    exact List.map_congr_left hdata
  unfold Cluster.loadResult
  rw [show ({ s.useOf c j with phys := (s.useOf c j).src } : LaneUse) = s.useOf c j from rfl]
  dsimp only
  rw [hx]
  unfold State.loadOut
  cases m.what <;> rfl

section
variable {c : Fin 16} {s u : State} (h : SameView c s u) {m : MemOp} {j : Fin 16} (hq : (s.laneOf c j).holds m.cond = true)
  (addr : Nat) (k : Cluster)
include h hq

/-- A tap of an enabled lane where no memory stands is a decode error. -/
theorem g_runMem_decode_of_lane {t : Int} (ht : t ∈ m.what.taps)
    (hnone : laneByte c (s.laneWordAt c j m.i t m.what.margin) = none) :
    (u.runMem c addr (s.clu c) (some m) k).1.g F.MTX_STAT_DECODE = 1 :=
  g_runMem_decode u addr (s.clu c) k ⟨_, h.opAddrs (s.clu c) m ▸ laneWordAt_mem_opAddrs s c hq ht, hnone⟩

/-- A load sends each enabled lane its result on its way. -/
theorem pend_runMem_load (hown : s.ownLane c j) (hm : m.what.isStore = false) :
    ∀ p ∈ (s.loadOut c j m).pends (s.physOf c j), p ∈ (u.runMem c addr (s.clu c) (some m) k).2.pend := by
  intro p hp
  have hview := h.trans ((readKept_decodeLanes u c (u.opAddrs c (s.clu c) m)).sameView c)
  have hown' : u.ownLane c j := by
    unfold State.ownLane
    rw [h.physOf, h.checkedLane]
    exact hown
  have hq' : ((s.clu c).lane (u.physOf c j)).holds m.cond = true := by rw [h.physOf]; exact hq
  have huse : u.useOf c j = s.useOf c j := by unfold State.useOf; rw [h.physOf]
  have hout : (s.clu c).loadResult c m ((u.decodeLanes c (u.opAddrs c (s.clu c) m)).readMany
      (distinct ((u.opAddrs c (s.clu c) m).filterMap (laneByte c)))).2 (s.useOf c j) = s.loadOut c j m := by
    refine loadResult_useOf fun t ht => loaded_readMany hview ?_
    rw [h.opAddrs]
    exact laneWordAt_mem_opAddrs s c hq ht
  obtain ⟨-, qs, rs, hpend, -, -⟩ := laneTakes_foldl_apply hown' hq' addr ((s.clu c).loadResult c m
    ((u.decodeLanes c (u.opAddrs c (s.clu c) m)).readMany (distinct ((u.opAddrs c (s.clu c) m).filterMap (laneByte c)))).2) k
  rw [huse, hout] at hpend
  rw [State.runMem, hm]
  obtain ⟨-, ts, hmarked, -⟩ := SlotsAside.markViolations _ (s.clu c) m addr (u.accessing c (s.clu c) m)
  refine hmarked.symm ▸ List.mem_append_left ts ?_
  rw [hpend]
  exact List.mem_append_left rs (List.mem_append_right _ hp)

end

end Sys2Proof.Machine
end

section
/-!
SUPPORT. What a store leaves in memory: of lanes with one address the word of the highest-numbered one, and every byte outside the words
of its lanes (R88, R97, R102).
-/
namespace Sys2Proof.Machine

/-! ## One write after the other -/

/-- A task store changes no byte outside its word. -/
theorem byte_taskStore_ne (s : State) {a x : Nat} (v : Word) (h : x < a ∨ a + 4 ≤ x) : (s.taskStore a v).byte x = s.byte x := by
  rw [byte_congr (taskStore_mem s a v)]
  cases hm : memOf a with
  | none => rw [State.writeW, hm]
  | some m => rw [byte_congr (writeW_mem s v hm), byte_setWord_ne s _ _ _ h]

theorem word_taskStore (s : State) {a o : Nat} {k : MemKind} (v : Word) (hm : memOf a = some (k, o)) : (s.taskStore a v).word a = v := by
  rw [word_congr (taskStore_mem s a v), word_congr (writeW_mem s v hm), word_setWord]

/-- Writes change no byte outside their words. -/
theorem byte_storeAll_ne (ws : List (Nat × Word)) {x : Nat} (h : ∀ w ∈ ws, x < w.1 ∨ w.1 + 4 ≤ x) (s : State) :
    (s.storeAll ws).byte x = s.byte x := by
  induction ws generalizing s with
  | nil => rfl
  | cons w ws ih =>
    exact (ih (fun y hy => h y (List.mem_cons_of_mem w hy)) _).trans (byte_taskStore_ne s w.2 (h w List.mem_cons_self))

theorem word_storeAll_ne (ws : List (Nat × Word)) {a : Nat} (h : ∀ w ∈ ws, a + 4 ≤ w.1 ∨ w.1 + 4 ≤ a) (s : State) :
    (s.storeAll ws).word a = s.word a := by
  have hbyte : ∀ i < 4, (s.storeAll ws).byte (a + i) = s.byte (a + i) := fun i hi =>
    byte_storeAll_ne ws (fun w hw => by have := h w hw; omega) s
  unfold State.word
  rw [hbyte 3 (by decide), hbyte 2 (by decide), hbyte 1 (by decide), show s.byte a = s.byte (a + 0) from rfl, ← hbyte 0 (by decide)]
  rfl

/-- A written word keeps its value where no later write reaches it. -/
theorem word_storeAll {vs ws : List (Nat × Word)} {a o : Nat} {k : MemKind} {v : Word} (hm : memOf a = some (k, o))
    (h : ∀ w ∈ ws, a + 4 ≤ w.1 ∨ w.1 + 4 ≤ a) (s : State) : (s.storeAll (vs ++ (a, v) :: ws)).word a = v := by
  rw [State.storeAll, List.foldl_append, List.foldl_cons]
  exact (word_storeAll_ne ws h _).trans (word_taskStore _ v hm)

theorem mem_of_mem_lastWrites {ws : List (Nat × Word)} {w : Nat × Word} (h : w ∈ lastWrites ws) : w ∈ ws := by
  induction ws with
  | nil => exact h
  | cons x xs ih =>
    unfold lastWrites at h
    split at h
    · exact List.mem_cons_of_mem x (ih h)
    · obtain rfl | h := List.mem_cons.mp h
      · exact List.mem_cons_self
      · exact List.mem_cons_of_mem x (ih h)

/-- The last write to an address remains, with what remains of the writes after it. -/
theorem lastWrites_split (vs : List (Nat × Word)) {w : Nat × Word} {ws : List (Nat × Word)} (h : ∀ y ∈ ws, y.1 ≠ w.1) :
    ∃ vs', lastWrites (vs ++ w :: ws) = vs' ++ w :: lastWrites ws := by
  have hlast : ¬ (ws.any fun y => y.1 == w.1) = true := by
    intro hany
    obtain ⟨y, hy, heq⟩ := List.any_eq_true.mp hany
    exact h y hy (beq_iff_eq.mp heq)
  induction vs with
  | nil => exact ⟨[], if_neg hlast⟩
  | cons v vs ih =>
    obtain ⟨vs', hvs⟩ := ih
    rw [List.cons_append, lastWrites, hvs]
    split
    · exact ⟨vs', rfl⟩
    · exact ⟨v :: vs', rfl⟩

/-! ## The writes of the lanes -/

/-- Two lane words stand apart. -/
theorem laneByte_apart {c : Fin 16} {a a' b b' : Nat} (h : laneByte c a = some b) (h' : laneByte c a' = some b') (hne : a ≠ a') :
    b + 4 ≤ b' ∨ b' + 4 ≤ b := by
  have hc := c.isLt
  unfold laneByte at h h'
  split_ifs at h h' <;>
    (obtain rfl := Option.some.inj h; obtain rfl := Option.some.inj h'; omega)

/-- What a store writes for logical lane `l`. -/
def State.laneStore (s : State) (c : Nat) (m : MemOp) (l : Nat) : Option (Nat × Word) :=
  (laneByte c (s.laneWordAt c l m.i 0 0)).map fun b => (b, ((s.clu c).storeResult m (s.useOf c l)).1)

theorem storeWrites_eq (s : State) (c : Nat) {m : MemOp} (hm : m.what.isStore = true) : s.storeWrites c (s.clu c) m =
    ((List.range 16).filter fun l => (s.laneOf c l).holds m.cond).filterMap (s.laneStore c m) := by
  have haddr : ∀ l, (((s.clu c).addrs m (s.useOf c l)).head?.bind (laneByte c)) = laneByte c (s.laneWordAt c l m.i 0 0) := by
    intro l
    obtain ⟨q, i, pm, what⟩ := m
    cases what with
    | ld | ldi => cases hm
    | st | sta => rfl
  unfold State.storeWrites
  rw [accessing_eq, List.filter_map, List.filterMap_map]
  refine List.filterMap_congr fun l _ => ?_
  rw [Function.comp_apply, haddr]
  rfl

theorem mem_storeWrites {s : State} {c : Nat} {m : MemOp} (hm : m.what.isStore = true) {w : Nat × Word}
    (hw : w ∈ s.storeWrites c (s.clu c) m) :
    ∃ l : Fin 16, (s.laneOf c l).holds m.cond = true ∧ laneByte c (s.laneWordAt c l m.i 0 0) = some w.1 := by
  rw [storeWrites_eq s c hm] at hw
  obtain ⟨l, hl, hstore⟩ := List.mem_filterMap.mp hw
  obtain ⟨hl, hholds⟩ := List.mem_filter.mp hl
  obtain ⟨b, hb, rfl⟩ := Option.map_eq_some_iff.mp hstore
  exact ⟨⟨l, List.mem_range.mp hl⟩, hholds, hb⟩

/-- After the write of an enabled lane come those of higher lanes only. -/
theorem storeWrites_split {s : State} {c : Nat} {m : MemOp} (hm : m.what.isStore = true) {j : Fin 16}
    (hq : (s.laneOf c j).holds m.cond = true) {b : Nat} (hb : laneByte c (s.laneWordAt c j m.i 0 0) = some b) :
    ∃ vs ws, s.storeWrites c (s.clu c) m = vs ++ (b, ((s.clu c).storeResult m (s.useOf c j)).1) :: ws ∧
      ∀ w ∈ ws, ∃ l : Fin 16, j < l ∧ (s.laneOf c l).holds m.cond = true ∧
        laneByte c (s.laneWordAt c l m.i 0 0) = some w.1 := by
  obtain ⟨xs, ys, hsplit⟩ := List.append_of_mem (List.mem_range.mpr j.isLt)
  have hrise := List.pairwise_lt_range (n := 16)
  rw [hsplit] at hrise
  have hlt : ∀ l ∈ ys, j.val < l := (List.pairwise_cons.mp (List.pairwise_append.mp hrise).2.1).1
  have hstore : s.laneStore c m j = some (b, ((s.clu c).storeResult m (s.useOf c j)).1) := by rw [State.laneStore, hb]; rfl
  rw [storeWrites_eq s c hm, hsplit, List.filter_append, List.filter_cons, if_pos hq, List.filterMap_append,
    List.filterMap_cons_some hstore]
  refine ⟨_, _, rfl, fun w hw => ?_⟩
  obtain ⟨l, hl, hwrite⟩ := List.mem_filterMap.mp hw
  obtain ⟨hl, hholds⟩ := List.mem_filter.mp hl
  obtain ⟨b', hb', rfl⟩ := Option.map_eq_some_iff.mp hwrite
  have hl16 : l < 16 := List.mem_range.mp (hsplit ▸ List.mem_append_right xs (List.mem_cons_of_mem _ hl))
  exact ⟨⟨l, hl16⟩, hlt l hl, hholds, hb'⟩

/-! ## The store -/

section
variable {c : Fin 16} {s u : State} (h : SameView c s u) {m : MemOp} (hm : m.what.isStore = true) (addr : Nat) (k : Cluster)
include h hm

theorem runMem_store_of_view : (u.runMem c addr (s.clu c) (some m) k).1 =
    (u.decodeLanes c (u.opAddrs c (s.clu c) m)).storeAll (lastWrites (s.storeWrites c (s.clu c) m)) := by
  rw [runMem_store u c addr (s.clu c) hm, h.storeWrites]

/-- A store changes no byte outside the words of its lanes. -/
theorem onlyLaneWords_runMem : onlyLaneWords s (u.runMem c addr (s.clu c) (some m) k).1 c m.cond m.i := by
  intro a ha
  rw [runMem_store_of_view h hm, byte_storeAll_ne, byte_congr ((readKept_decodeLanes u c _).mem.trans h.mem)]
  intro w hw
  obtain ⟨l, hholds, hb⟩ := mem_storeWrites hm (mem_of_mem_lastWrites hw)
  exact ha l hholds w.1 hb

/-- A store leaves the word of the highest lane at its address, and a lane where no memory stands is a decode error. -/
theorem storedBy_runMem {j : Fin 16} (hq : (s.laneOf c j).holds m.cond = true) :
    storedBy s (u.runMem c addr (s.clu c) (some m) k).1 c m.cond m.i j ((s.clu c).storeResult m (s.useOf c j)).1 := by
  unfold storedBy
  cases hb : laneByte c (s.laneWordAt c j m.i 0 0) with
  | none =>
    obtain ⟨q, i, pm, what⟩ := m
    cases what with
    | ld | ldi => cases hm
    | st | sta => exact g_runMem_decode_of_lane h hq addr k (t := 0) List.mem_cons_self hb
  | some b =>
    intro hhighest
    obtain ⟨kind, o, hmem⟩ := memOf_laneByte hb
    obtain ⟨vs, ws, hsplit, hws⟩ := storeWrites_split hm hq hb
    have hapart : ∀ w ∈ ws, b + 4 ≤ w.1 ∨ w.1 + 4 ≤ b := by
      intro w hw
      obtain ⟨l, hlt, hholds, hl⟩ := hws w hw
      exact laneByte_apart hb hl (hhighest l hlt hholds).symm
    obtain ⟨vs', hlast⟩ := lastWrites_split vs (w := (b, ((s.clu c).storeResult m (s.useOf c j)).1)) (ws := ws)
      fun w hw => by have := hapart w hw; dsimp only; omega
    rw [runMem_store_of_view h hm, hsplit, hlast]
    exact word_storeAll hmem (fun w hw => hapart w (mem_of_mem_lastWrites hw)) _

end

end Sys2Proof.Machine
end

section
/-!
SUPPORT. The statement about loads and stores (R87, R88, R92, R96, R97, R102, R103, R118, R119).
-/
namespace Sys2Proof.Machine

section
variable {c : Fin 16} {s : State}

/-- What a word does from the state after its fetch it does from the state before. -/
theorem SlotsDone.of_sameView {o0 o1 : Option MemOp} {t w : State} {r : State × Cluster} (h : SlotsDone c o0 o1 t r w)
    (hview : SameView c s t) : SlotsDone c o0 o1 s r w := by
  obtain ⟨hmem, hdecode, ⟨hpc, hdepth, hother, hlane⟩, hptr, hpend⟩ := h
  rw [hview.clu] at hpc hdepth
  simp only [hview.clu] at hlane hptr
  exact ⟨hmem, hdecode, ⟨hpc, hdepth, fun d hd => (hother d hd).trans (hview.clu d), hlane⟩, hptr, hpend⟩

/-- A word with an empty compute slot by its accesses. -/
theorem issue_memory_slots (env : WordEnv) {m0 : M0Slot} {m1 : M1Slot} (h : s.issues c (.slots .nop m0 m1) = true) :
    ∃ t, SameView c s t ∧ SlotsDone c (m0Op m0) (m1Op m1) s
      (t.accesses c (progByte c (t.clu c).pc) (m0Op m0) (m1Op m1)) (s.issue c env (.slots .nop m0 m1)) := by
  obtain ⟨hwf, t, ht, hecc, hrun⟩ := issue_word env h
  have hview := ht.sameView hecc
  rw [State.runWord, hwf] at hrun
  refine ⟨t, hview, ?_⟩
  rw [hrun]
  exact (slotsDone t c env m0 m1).of_sameView hview

/-- The operation of slot M0 accesses memory as the word finds it. -/
theorem issue_slot_m0 (env : WordEnv) {m0 : M0Slot} (h : s.issues c (.slots .nop m0 .nop) = true) :
    ∃ u addr k, SameView c s u ∧ SlotsDone c (m0Op m0) none s (u.runMem c addr (s.clu c) (m0Op m0) k)
      (s.issue c env (.slots .nop m0 .nop)) := by
  obtain ⟨t, hview, hdone⟩ := issue_memory_slots env h
  rw [State.accesses, hview.clu] at hdone
  exact ⟨t, _, _, hview, hdone⟩

/-- The operation of slot M1 accesses memory as the load of slot M0 leaves it. -/
theorem issue_slot_m1 (env : WordEnv) {m0 : M0Slot} {m1 : M1Slot} (h : s.issues c (.slots .nop m0 m1) = true) :
    ∃ u addr k, SameView c s u ∧ SlotsDone c (m0Op m0) (m1Op m1) s (u.runMem c addr (s.clu c) (m1Op m1) k)
      (s.issue c env (.slots .nop m0 m1)) := by
  obtain ⟨t, hview, hdone⟩ := issue_memory_slots env h
  rw [State.accesses, hview.clu] at hdone
  exact ⟨_, _, _, hview.trans ((readKept_runMem t c _ _ (isStoreOp_m0Op m0) _).sameView c), hdone⟩

end

theorem opMoves_self (q : Cond) (i : Nat) (pm : Bool) (what : MemDo) : opMoves (some ⟨q, i, pm, what⟩) i = pm := by
  simp [opMoves]

section
variable {c : Fin 16} {s w : State} {r : State × Cluster} {q : Cond} {i : Fin 8} {pm : Bool} {what : MemDo}

/-- The operation of slot M0 moves its pointer. -/
theorem SlotsDone.ptr_m0 (h : SlotsDone c (some ⟨q, i, pm, what⟩) none s r w) :
    (w.clu c).ptr i = (s.clu c).stepPtr i pm ((s.clu c).ptr i) := by
  have hptr := h.ptr i
  rw [opMoves_self] at hptr
  exact hptr

/-- The operation of slot M1 moves its pointer after the one of slot M0. -/
theorem SlotsDone.ptr_m1 {m0 : M0Slot} (h : SlotsDone c (m0Op m0) (some ⟨q, i, pm, what⟩) s r w) :
    (w.clu c).ptr i = (s.clu c).stepPtr i pm ((s.clu c).stepPtr i (slotMoves m0 i) ((s.clu c).ptr i)) := by
  rw [← opMoves_m0Op]
  have hptr := h.ptr i
  rw [opMoves_self] at hptr
  exact hptr

end

section
variable {c : Fin 16} {s u w : State} {o0 o1 : Option MemOp} {m : MemOp} {addr : Nat} {k : Cluster} {j : Fin 16}
  (hview : SameView c s u) (hdone : SlotsDone c o0 o1 s (u.runMem c addr (s.clu c) (some m) k) w)
  (hq : (s.laneOf c j).holds m.cond = true)
include hview hdone hq

/-- What a load shows once its word has issued. -/
theorem load_done (hown : s.ownLane c j) (hm : m.what.isStore = false) :
    (∀ p ∈ (s.loadOut c j m).pends (s.physOf c j), 2 ≤ p.left → { p with left := p.left - 1 } ∈ (w.clu c).pend) ∧ sameMem s w := by
  refine ⟨fun p hp => hdone.pend p (pend_runMem_load hview hq addr k hown hm p hp), ?_⟩
  exact byte_congr (hdone.mem.trans ((readKept_runMem u c addr (s.clu c) (o := some m) hm k).mem.trans hview.mem))

/-- A load or a store of an enabled lane where no memory stands has set DECODE once its word has issued. -/
theorem decode_done {t : Int} (ht : t ∈ m.what.taps) (hnone : laneByte c (s.laneWordAt c j m.i t m.what.margin) = none) :
    w.g F.MTX_STAT_DECODE = 1 :=
  hdone.decode.trans (g_runMem_decode_of_lane hview hq addr k ht hnone)

/-- What a store shows once its word has issued. -/
theorem store_done (hm : m.what.isStore = true) :
    storedBy s w c m.cond m.i j ((s.clu c).storeResult m (s.useOf c j)).1 ∧ onlyLaneWords s w c m.cond m.i := by
  have hstored := storedBy_runMem hview hm addr k hq
  have honly := onlyLaneWords_runMem hview hm addr k
  refine ⟨?_, fun a ha => (byte_congr hdone.mem a).trans (honly a ha)⟩
  unfold storedBy at hstored ⊢
  split
  · next b hb =>
    rw [hb] at hstored
    exact fun hhighest => (word_congr hdone.mem b).trans (hstored hhighest)
  · next hb =>
    rw [hb] at hstored
    exact hdone.decode.trans hstored

end

/-- Settles O22: a word with an empty compute slot is its accesses, its post-modifies and its end; a load sends each lane what stands at
its lane addresses, and of the writes of a store the last to each address remains. -/
theorem laneLoadsAndStores : Obligations.LaneLoadsAndStores := by
  unfold Obligations.LaneLoadsAndStores
  refine ⟨?_, ?_, ?_, ?_, ?_, ?_⟩
  · -- LD in slot M0
    intro c x q i pm n j s h hown hq
    obtain ⟨u, addr, k, hview, hdone⟩ := issue_slot_m0 x h
    obtain ⟨hpend, hmem⟩ := load_done hview hdone hq hown rfl
    exact ⟨_, rfl, hpend _ List.mem_cons_self (Nat.le_refl 2), hdone.ptr_m0,
      decode_done hview hdone hq (t := 0) List.mem_cons_self, hmem, hdone.frame⟩
  · -- LD in slot M1
    intro c x m0 q i pm n j s h hown hq
    obtain ⟨u, addr, k, hview, hdone⟩ := issue_slot_m1 x h
    obtain ⟨hpend, hmem⟩ := load_done hview hdone hq hown rfl
    exact ⟨_, rfl, hpend _ List.mem_cons_self (Nat.le_refl 2), hdone.ptr_m1,
      decode_done hview hdone hq (t := 0) List.mem_cons_self, hmem, hdone.frame⟩
  · -- LDI in slot M0
    intro c x w q i pm n j s h hown hq
    obtain ⟨u, addr, k, hview, hdone⟩ := issue_slot_m0 x h
    obtain ⟨hpend, hmem⟩ := load_done hview hdone hq hown rfl
    exact ⟨_, rfl, hpend _ List.mem_cons_self (show 2 ≤ 4 by decide), hdone.ptr_m0, hmem, hdone.frame⟩
  · -- LDI in slot M1
    intro c x m0 w q i pm n j s h hown hq
    obtain ⟨u, addr, k, hview, hdone⟩ := issue_slot_m1 x h
    obtain ⟨hpend, hmem⟩ := load_done hview hdone hq hown rfl
    exact ⟨_, rfl, hpend _ List.mem_cons_self (show 2 ≤ 4 by decide), hdone.ptr_m1, hmem, hdone.frame⟩
  · -- ST
    intro c x m0 q i pm n j s h hown hq
    obtain ⟨u, addr, k, hview, hdone⟩ := issue_slot_m1 x h
    obtain ⟨hstored, honly⟩ := store_done hview hdone hq rfl
    exact ⟨_, rfl, hstored, honly, hdone.ptr_m1, hdone.frame⟩
  · -- STA
    intro c x m0 q i pm acc kc j s h hown hq
    obtain ⟨u, addr, k, hview, hdone⟩ := issue_slot_m1 x h
    obtain ⟨hstored, honly⟩ := store_done hview hdone hq rfl
    exact ⟨_, rfl, hstored, honly, hdone.ptr_m1, hdone.frame⟩

end Sys2Proof.Machine
end

section
/-!
SUPPORT. The encodings of conditions, conversions and operations read back (R113, R115 to R117).
-/
namespace Sys2Proof.Machine

/-! ## Fields -/

/-- An operand is what its field holds. -/
theorem ofNat_of_eq_val {k : Nat} [NeZero k] {x : Fin k} {n : Nat} (h : n = x.val) : Fin.ofNat k n = x := by
  subst h
  exact Fin.ofNat_val_eq_self x

theorem fd_of_eq {n : Nat} {x : Fin 16} (h : n / 2 ^ 12 % 2 ^ 4 = x) : fd n = x := ofNat_of_eq_val h
theorem fa_of_eq {n : Nat} {x : Fin 16} (h : n / 2 ^ 8 % 2 ^ 4 = x) : fa n = x := ofNat_of_eq_val h
theorem fb_of_eq {n : Nat} {x : Fin 16} (h : n / 2 ^ 4 % 2 ^ 4 = x) : fb n = x := ofNat_of_eq_val h
theorem fi_of_eq {n : Nat} {x : Fin 4} (h : n / 2 ^ 14 % 2 ^ 2 = x) : fi n = x := ofNat_of_eq_val h
theorem fm_of_eq {n : Nat} {x : Fin 4} (h : n / 2 ^ 12 % 2 ^ 2 = x) : fm n = x := ofNat_of_eq_val h
theorem fr_of_eq {n : Nat} {x : Fin 4} (h : n / 2 ^ 10 % 2 ^ 2 = x) : fr n = x := ofNat_of_eq_val h

/-- A field without a name of its own. -/
theorem field_of_eq {k n : Nat} [NeZero k] (hi lo : Nat) (x : Fin k) (h : n / 2 ^ lo % 2 ^ (hi + 1 - lo) = x) :
    Fin.ofNat k (nbits n hi lo) = x := ofNat_of_eq_val h

theorem bit_lt (b : Bool) : bit b < 2 := by cases b <;> decide

theorem bit_beq_one (b : Bool) : (bit b == 1) = b := by cases b <;> rfl

/-! ## Conditions and conversions (R113, R117) -/

theorem encodeCond_lt (q : Cond) : encodeCond q < 2 ^ 4 := by cases q <;> simp only [encodeCond] <;> omega

theorem decodeCond_encodeCond (q : Cond) : decodeCond (encodeCond q) = some q := by
  cases q with
  | always => rfl
  | pf p => revert p; decide
  | notPf p => revert p; decide

theorem encodeRMode_lt (m : RMode) : encodeRMode m < 2 ^ 2 := by cases m <;> decide

theorem decodeRMode_encodeRMode (m : RMode) : decodeRMode (encodeRMode m) = some m := by cases m <;> rfl

theorem encodeCWidth_lt (w : CWidth) : encodeCWidth w < 2 ^ 2 := by cases w <;> decide

theorem decodeCWidth_encodeCWidth (w : CWidth) : decodeCWidth (encodeCWidth w) = some w := by cases w <;> rfl

theorem encodeSh_lt (x : ShSrc) : encodeSh x < 2 ^ 6 := by cases x <;> simp only [encodeSh] <;> omega

theorem decodeSh_encodeSh (x : ShSrc) : decodeSh (encodeSh x) = x := by
  cases x with
  | imm v => revert v; decide
  | reg n => revert n; decide

theorem encodeConv_lt (k : Conv) : encodeConv k < 2 ^ 10 := by
  have hsh := encodeSh_lt k.sh
  have hrm := encodeRMode_lt k.rm
  have hw := encodeCWidth_lt k.w
  unfold encodeConv
  omega

theorem decodeConv_encodeConv (k : Conv) : decodeConv (encodeConv k) = some k := by
  have hsh := encodeSh_lt k.sh
  have hrm := encodeRMode_lt k.rm
  have hw := encodeCWidth_lt k.w
  have hshField : nbits (encodeConv k) 9 4 = encodeSh k.sh := by unfold nbits encodeConv; omega
  have hrmField : nbits (encodeConv k) 3 2 = encodeRMode k.rm := by unfold nbits encodeConv; omega
  have hwField : nbits (encodeConv k) 1 0 = encodeCWidth k.w := by unfold nbits encodeConv; omega
  simp only [decodeConv, hshField, hrmField, hwField, decodeSh_encodeSh, decodeRMode_encodeRMode, decodeCWidth_encodeCWidth]

/-! ## Operations (R115, R116) -/

/-! The code selects the format. -/

theorem decodeCOp_accCode (op : AccOp) (n : Nat) : decodeCOp (accCode op) n = dAcc op n := by cases op <;> rfl
theorem decodeCOp_alu2Code (op : Alu2) (n : Nat) : decodeCOp (alu2Code op) n = dAlu2 op n := by cases op <;> rfl
theorem decodeCOp_alu1Code (op : Alu1) (n : Nat) : decodeCOp (alu1Code op) n = dAlu1 op n := by cases op <;> rfl
theorem decodeCOp_aluiCode (op : AluI) (n : Nat) : decodeCOp (aluiCode op) n = dAluI op n := by cases op <;> rfl
theorem decodeCOp_cmpCode (op : CmpOp) (n : Nat) : decodeCOp (cmpCode op) n = dCmp op n := by cases op <;> rfl
theorem decodeCOp_predCode (op : PredOp) (n : Nat) : decodeCOp (predCode op) n = dPred op n := by cases op <;> rfl

theorem encodeCOp_code_lt (o : COp) : (encodeCOp o).1 < 2 ^ 6 := by
  cases o with
  | acc op => cases op <;> exact of_decide_eq_true rfl
  | alu2 op => cases op <;> exact of_decide_eq_true rfl
  | alu1 op => cases op <;> exact of_decide_eq_true rfl
  | alui op => cases op <;> exact of_decide_eq_true rfl
  | cmp op => cases op <;> exact of_decide_eq_true rfl
  | plog op => cases op <;> exact of_decide_eq_true rfl
  | _ => exact of_decide_eq_true rfl

theorem encodeCOp_operands_lt (o : COp) : (encodeCOp o).2 < 2 ^ 16 := by
  cases o with
  | exta d i k =>
    have hk := encodeConv_lt k
    simp only [encodeCOp]
    omega
  | pset p v =>
    simp only [encodeCOp]
    split <;> omega
  | _ => simp only [encodeCOp]; omega

/-- Each field of an operation's format holds its operand. -/
theorem decodeCOp_encodeCOp (o : COp) : decodeCOp (encodeCOp o).1 (encodeCOp o).2 = some o := by
  cases o with
  | acc op i a b =>
    rw [encodeCOp, decodeCOp_accCode, dAcc, fi_of_eq (x := i), field_of_eq 13 10 a, field_of_eq 9 6 b] <;> omega
  | ald i a => rw [encodeCOp, decodeCOp, fi_of_eq (x := i), field_of_eq 13 10 a] <;> omega
  | aadd i m => rw [encodeCOp, decodeCOp, fi_of_eq (x := i), fm_of_eq (x := m)] <;> omega
  | asub i m => rw [encodeCOp, decodeCOp, fi_of_eq (x := i), fm_of_eq (x := m)] <;> omega
  | aclr i => rw [encodeCOp, decodeCOp, fi_of_eq (x := i)]; omega
  | exta d i k =>
    have hk := encodeConv_lt k
    have hconv : nbits (d * 2 ^ 12 + i * 2 ^ 10 + encodeConv k) 9 0 = encodeConv k := by unfold nbits; omega
    rw [encodeCOp, decodeCOp, hconv, decodeConv_encodeConv, Option.map_some, fd_of_eq (x := d), fr_of_eq (x := i)] <;> omega
  | rsum i m => rw [encodeCOp, decodeCOp, fi_of_eq (x := i), fm_of_eq (x := m)] <;> omega
  | bcast d a => rw [encodeCOp, decodeCOp, fd_of_eq (x := d), fa_of_eq (x := a)] <;> omega
  | alu2 op d a b =>
    rw [encodeCOp, decodeCOp_alu2Code, dAlu2, fd_of_eq (x := d), fa_of_eq (x := a), fb_of_eq (x := b)] <;> omega
  | alu1 op d a => rw [encodeCOp, decodeCOp_alu1Code, dAlu1, fd_of_eq (x := d), fa_of_eq (x := a)] <;> omega
  | alui op d a sh =>
    rw [encodeCOp, decodeCOp_aluiCode, dAluI, fd_of_eq (x := d), fa_of_eq (x := a), field_of_eq 7 3 sh] <;> omega
  | lid d => rw [encodeCOp, decodeCOp, fd_of_eq (x := d)]; omega
  | rds d v => rw [encodeCOp, decodeCOp, fd_of_eq (x := d), field_of_eq 4 0 v] <;> omega
  | ofsw i n => rw [encodeCOp, decodeCOp, field_of_eq 15 13 i, fa_of_eq (x := n)] <;> omega
  | cmp op p a b =>
    rw [encodeCOp, decodeCOp_cmpCode, dCmp, fi_of_eq (x := p), fa_of_eq (x := a), fb_of_eq (x := b)] <;> omega
  | cmpaLt p i => rw [encodeCOp, decodeCOp, fi_of_eq (x := p), fm_of_eq (x := i)] <;> omega
  | cmpaEq p i => rw [encodeCOp, decodeCOp, fi_of_eq (x := p), fm_of_eq (x := i)] <;> omega
  | pset p v =>
    have hv := bit_lt v
    have hbit : nbits (p * 2 ^ 14 + bit v) 0 0 = bit v := by unfold nbits; omega
    change some (COp.pset (fi (p * 2 ^ 14 + bit v)) (nbits (p * 2 ^ 14 + bit v) 0 0 == 1)) = _
    rw [hbit, bit_beq_one, fi_of_eq (x := p)]
    omega
  | plog op p q r =>
    rw [encodeCOp, decodeCOp_predCode, dPred, fi_of_eq (x := p), fm_of_eq (x := q), fr_of_eq (x := r)] <;> omega
  | pnot p q => rw [encodeCOp, decodeCOp, fi_of_eq (x := p), fm_of_eq (x := q)] <;> omega

/-- OP 0 names no operation. -/
theorem encodeCOp_code_pos (o : COp) : 0 < (encodeCOp o).1 := by
  refine Nat.pos_of_ne_zero fun h => ?_
  have hdecode := decodeCOp_encodeCOp o
  rw [h] at hdecode
  cases (show none = some o from hdecode)

end Sys2Proof.Machine
end

section
/-!
SUPPORT. The encodings of the slots and of the fields of whole-word forms read back (R115 to R123).
-/
namespace Sys2Proof.Machine

/-! ## The compute slot -/

theorem encodeC_lt (x : CSlot) : encodeC x < 2 ^ 26 := by
  cases x with
  | nop => decide
  | op q o =>
    have hcode := encodeCOp_code_lt o
    have hcond := encodeCond_lt q
    have hoperands := encodeCOp_operands_lt o
    simp only [encodeC]
    omega

theorem decodeC_encodeC (x : CSlot) : decodeC (encodeC x) = some x := by
  cases x with
  | nop => rfl
  | op q o =>
    have hcode := encodeCOp_code_lt o
    have hpos := encodeCOp_code_pos o
    have hcond := encodeCond_lt q
    have hoperands := encodeCOp_operands_lt o
    have hne : encodeC (.op q o) ≠ 0 := by simp only [encodeC]; omega
    have hcondField : nbits (encodeC (.op q o)) 19 16 = encodeCond q := by simp only [nbits, encodeC]; omega
    have hcodeField : nbits (encodeC (.op q o)) 25 20 = (encodeCOp o).1 := by simp only [nbits, encodeC]; omega
    have hoperandsField : nbits (encodeC (.op q o)) 15 0 = (encodeCOp o).2 := by simp only [nbits, encodeC]; omega
    simp only [decodeC, hne, hcondField, hcodeField, hoperandsField, decodeCond_encodeCond, decodeCOp_encodeCOp, if_false]

/-! ## Memory slot M0 -/

/-- The bits of an operation in slot M0: OP, COND, pointer, PM and data register. -/
def bitsM0 (op : Nat) (q : Cond) (i : Fin 8) (pm : Bool) (n : Fin 16) : Nat :=
  op * 2 ^ 12 + encodeCond q * 2 ^ 8 + i * 2 ^ 5 + bit pm * 2 ^ 4 + n

section
variable (op : Nat) (q : Cond) (i : Fin 8) (pm : Bool) (n : Fin 16)

theorem encodeM0_ld : encodeM0 (.ld q i pm n) = bitsM0 1 q i pm n := rfl
theorem encodeM0_ldi32 : encodeM0 (.ldi .w32 q i pm n) = bitsM0 2 q i pm n := rfl
theorem encodeM0_ldi24 : encodeM0 (.ldi .w24 q i pm n) = bitsM0 3 q i pm n := rfl

theorem bitsM0_lt {op : Nat} (hop : op < 4) : bitsM0 op q i pm n < 2 ^ 14 := by
  have hcond := encodeCond_lt q
  have hpm := bit_lt pm
  unfold bitsM0
  omega

/-- Each field of slot M0 holds its operand. -/
theorem fields_bitsM0 {op : Nat} (hop : 0 < op ∧ op < 4) : bitsM0 op q i pm n ≠ 0 ∧ nbits (bitsM0 op q i pm n) 13 12 = op ∧
    nbits (bitsM0 op q i pm n) 11 8 = encodeCond q ∧ Fin.ofNat 8 (nbits (bitsM0 op q i pm n) 7 5) = i ∧
    (nbits (bitsM0 op q i pm n) 4 4 == 1) = pm ∧ Fin.ofNat 16 (nbits (bitsM0 op q i pm n) 3 0) = n := by
  have hcond := encodeCond_lt q
  have hpm := bit_lt pm
  have hpmField : nbits (bitsM0 op q i pm n) 4 4 = bit pm := by unfold nbits bitsM0; omega
  refine ⟨?_, ?_, ?_, field_of_eq 7 5 i ?_, hpmField ▸ bit_beq_one pm, field_of_eq 3 0 n ?_⟩ <;> unfold bitsM0
  · omega
  · unfold nbits; omega
  · unfold nbits; omega
  · omega
  · omega

end

theorem encodeM0_lt (x : M0Slot) : encodeM0 x < 2 ^ 14 := by
  cases x with
  | nop => decide
  | ld q i pm n => exact bitsM0_lt q i pm n (by decide)
  | ldi w q i pm n => cases w <;> exact bitsM0_lt q i pm n (by decide)

theorem decodeM0_encodeM0 (x : M0Slot) : decodeM0 (encodeM0 x) = some x := by
  cases x with
  | nop => rfl
  | ld q i pm n =>
    obtain ⟨hne, hop, hcond, hi, hpm, hn⟩ := fields_bitsM0 q i pm n (op := 1) (by decide)
    simp only [encodeM0_ld, decodeM0, hne, hop, hcond, hi, hpm, hn, decodeCond_encodeCond, if_false]
  | ldi w q i pm n =>
    cases w with
    | w32 =>
      obtain ⟨hne, hop, hcond, hi, hpm, hn⟩ := fields_bitsM0 q i pm n (op := 2) (by decide)
      simp only [encodeM0_ldi32, decodeM0, hne, hop, hcond, hi, hpm, hn, decodeCond_encodeCond, if_false]
    | w24 =>
      obtain ⟨hne, hop, hcond, hi, hpm, hn⟩ := fields_bitsM0 q i pm n (op := 3) (by decide)
      simp only [encodeM0_ldi24, decodeM0, hne, hop, hcond, hi, hpm, hn, decodeCond_encodeCond, if_false]

/-! ## Memory slot M1 -/

theorem headM1_lt {op : Nat} (hop : op < 6) (q : Cond) (i : Fin 8) (pm : Bool) {low : Nat} (hlow : low < 2 ^ 12) :
    headM1 op q i pm + low < 2 ^ 23 := by
  have hcond := encodeCond_lt q
  have hpm := bit_lt pm
  unfold headM1
  omega

/-- Each field of slot M1 holds its operand, and the lower bits hold the rest. -/
theorem fields_headM1 {op : Nat} (hop : 0 < op ∧ op < 6) (q : Cond) (i : Fin 8) (pm : Bool) {low : Nat} (hlow : low < 2 ^ 12) :
    headM1 op q i pm + low ≠ 0 ∧ nbits (headM1 op q i pm + low) 22 20 = op ∧
    nbits (headM1 op q i pm + low) 19 16 = encodeCond q ∧ Fin.ofNat 8 (nbits (headM1 op q i pm + low) 15 13) = i ∧
    (nbits (headM1 op q i pm + low) 12 12 == 1) = pm ∧ (headM1 op q i pm + low) % 2 ^ 12 = low := by
  have hcond := encodeCond_lt q
  have hpm := bit_lt pm
  have hpmField : nbits (headM1 op q i pm + low) 12 12 = bit pm := by unfold nbits headM1; omega
  refine ⟨?_, ?_, ?_, field_of_eq 15 13 i ?_, hpmField ▸ bit_beq_one pm, ?_⟩ <;> unfold headM1
  · omega
  · unfold nbits; omega
  · unfold nbits; omega
  · omega
  · omega

/-- The data register of slot M1. -/
theorem field_n_of_low {m : Nat} {n : Fin 16} (h : m % 2 ^ 12 = n * 2 ^ 8) : Fin.ofNat 16 (nbits m 11 8) = n :=
  field_of_eq 11 8 n (by omega)

theorem encodeM1_lt (x : M1Slot) : encodeM1 x < 2 ^ 23 := by
  cases x with
  | nop => decide
  | ld q i pm n => exact headM1_lt (by decide) q i pm (by omega)
  | ldi w q i pm n => cases w <;> exact headM1_lt (by decide) q i pm (by omega)
  | st q i pm n => exact headM1_lt (by decide) q i pm (by omega)
  | sta q i pm a k =>
    have hk := encodeConv_lt k
    rw [encodeM1, Nat.add_assoc]
    exact headM1_lt (by decide) q i pm (by omega)

theorem decodeM1_encodeM1 (x : M1Slot) : decodeM1 (encodeM1 x) = some x := by
  cases x with
  | nop => rfl
  | ld q i pm n =>
    obtain ⟨hne, hop, hcond, hi, hpm, hlow⟩ := fields_headM1 (op := 1) (by decide) q i pm (low := n * 2 ^ 8) (by omega)
    simp only [encodeM1, decodeM1, hne, hop, hcond, hi, hpm, field_n_of_low hlow, decodeCond_encodeCond, if_false]
  | ldi w q i pm n =>
    cases w with
    | w32 =>
      obtain ⟨hne, hop, hcond, hi, hpm, hlow⟩ := fields_headM1 (op := 2) (by decide) q i pm (low := n * 2 ^ 8) (by omega)
      simp only [encodeM1, decodeM1, hne, hop, hcond, hi, hpm, field_n_of_low hlow, decodeCond_encodeCond, if_false]
    | w24 =>
      obtain ⟨hne, hop, hcond, hi, hpm, hlow⟩ := fields_headM1 (op := 3) (by decide) q i pm (low := n * 2 ^ 8) (by omega)
      simp only [encodeM1, decodeM1, hne, hop, hcond, hi, hpm, field_n_of_low hlow, decodeCond_encodeCond, if_false]
  | st q i pm n =>
    obtain ⟨hne, hop, hcond, hi, hpm, hlow⟩ := fields_headM1 (op := 4) (by decide) q i pm (low := n * 2 ^ 8) (by omega)
    simp only [encodeM1, decodeM1, hne, hop, hcond, hi, hpm, field_n_of_low hlow, decodeCond_encodeCond, if_false]
  | sta q i pm a k =>
    have hk := encodeConv_lt k
    obtain ⟨hne, hop, hcond, hi, hpm, hlow⟩ :=
      fields_headM1 (op := 5) (by decide) q i pm (low := a * 2 ^ 10 + encodeConv k) (by omega)
    have hacc : Fin.ofNat 4 (nbits (headM1 5 q i pm + (a * 2 ^ 10 + encodeConv k)) 11 10) = a := field_of_eq 11 10 a (by omega)
    have hconv : nbits (headM1 5 q i pm + (a * 2 ^ 10 + encodeConv k)) 9 0 = encodeConv k := by unfold nbits; omega
    simp only [encodeM1, Nat.add_assoc, decodeM1, hne, hop, hcond, hi, hpm, hacc, hconv, decodeCond_encodeCond,
      decodeConv_encodeConv, if_false, Option.map_some]

/-! ## Branch conditions, counts and sub-fields of SETA (R121 to R123) -/

theorem encodeBr_lt (bc : BrCond) : encodeBr bc < 2 ^ 5 := by cases bc <;> simp only [encodeBr] <;> omega

theorem decodeBr_encodeBr (bc : BrCond) : decodeBr (encodeBr bc) = some bc := by
  cases bc with
  | always => rfl
  | any p => revert p; decide
  | all p => revert p; decide
  | none p => revert p; decide
  | notAll p => revert p; decide

theorem encodeCount_lt (n : LoopCount) : encodeCount n < 2 ^ 17 := by cases n <;> simp only [encodeCount] <;> omega

theorem decodeCount_encodeCount (n : LoopCount) : decodeCount (encodeCount n) = n := by
  cases n with
  | imm v => exact (if_pos v.isLt).trans (congrArg LoopCount.imm (ofNat_of_eq_val rfl))
  | reg r => revert r; decide

theorem encodeVal_lt (v : SetaVal) : encodeVal v < 2 ^ 21 := by cases v <;> simp only [encodeVal] <;> omega

theorem decodeVal_encodeVal (v : SetaVal) : decodeVal (encodeVal v) = v := by
  cases v with
  | imm v => exact (if_pos v.isLt).trans (congrArg SetaVal.imm (ofNat_of_eq_val rfl))
  | reg r => revert r; decide

theorem kindCode_range (k : SetaKind) : 0 < kindCode k ∧ kindCode k < 2 ^ 3 := by cases k <;> decide

theorem decodeKind_kindCode (k : SetaKind) : decodeKind (kindCode k) = some k := by cases k <;> rfl

theorem encodeSub_lt (x : Option SetaSub) : encodeSub x < 2 ^ 27 := by
  cases x with
  | none => decide
  | some x =>
    obtain ⟨-, hkind⟩ := kindCode_range x.kind
    have hval := encodeVal_lt x.val
    simp only [encodeSub]
    omega

theorem decodeSub_encodeSub (x : Option SetaSub) : decodeSub (encodeSub x) = some x := by
  cases x with
  | none => rfl
  | some x =>
    obtain ⟨hpos, hkind⟩ := kindCode_range x.kind
    have hval := encodeVal_lt x.val
    have hne : encodeSub (some x) ≠ 0 := by simp only [encodeSub]; omega
    have hkindField : nbits (encodeSub (some x)) 26 24 = kindCode x.kind := by simp only [nbits, encodeSub]; omega
    have hidxField : Fin.ofNat 8 (nbits (encodeSub (some x)) 23 21) = x.idx :=
      field_of_eq 23 21 x.idx (by simp only [encodeSub]; omega)
    have hvalField : nbits (encodeSub (some x)) 20 0 = encodeVal x.val := by simp only [nbits, encodeSub]; omega
    simp only [decodeSub, hne, hkindField, hidxField, hvalField, decodeKind_kindCode, decodeVal_encodeVal, if_false,
      Option.map_some]

end Sys2Proof.Machine
end

section
/-!
SUPPORT. The statements about the encoding: every instruction word reads back from its encoding (R112 to R131).
-/
namespace Sys2Proof.Machine

/-! ## Whole-word forms (R120) -/

theorem whole_lt {wop n : Nat} (hwop : wop < 2 ^ 6) (hn : n < 2 ^ 57) : whole wop n < 2 ^ 64 := by
  unfold whole
  omega

/-- A whole-word form has bit 63 set and its code in WOP. -/
theorem fields_whole {wop n : Nat} (hwop : wop < 2 ^ 6) (hn : n < 2 ^ 57) :
    ¬ whole wop n < 2 ^ 63 ∧ nbits (whole wop n) 62 57 = wop := by
  unfold nbits whole
  omega

/-- Below WOP the operands of a whole-word form stand. -/
theorem nbits_whole (wop n : Nat) {hi lo : Nat} (hlo : lo ≤ hi) (hhi : hi < 57) : nbits (whole wop n) hi lo = nbits n hi lo := by
  obtain ⟨d, hd⟩ : 2 ^ (hi + 1) ∣ 2 ^ 63 + wop * 2 ^ 57 :=
    Nat.dvd_add (Nat.pow_dvd_pow 2 (by omega)) (Dvd.dvd.mul_left (Nat.pow_dvd_pow 2 (by omega)) _)
  have hpow : 2 ^ (hi + 1) = 2 ^ lo * 2 ^ (hi + 1 - lo) := by rw [← Nat.pow_add]; congr 1; omega
  unfold nbits whole
  rw [hd, hpow, Nat.mul_assoc, Nat.mul_add_div (Nat.two_pow_pos lo), Nat.mul_add_mod]

/-- An encoding fits its 64 bits. -/
theorem encodeNat_lt (w : IWord) : encodeNat w < 2 ^ 64 := by
  cases w with
  | slots c m0 m1 =>
    have hc := encodeC_lt c
    have hm0 := encodeM0_lt m0
    have hm1 := encodeM1_lt m1
    simp only [encodeNat]
    omega
  | br bc t =>
    have hbc := encodeBr_lt bc
    exact whole_lt (by decide) (by omega)
  | loop n a b =>
    have hn := encodeCount_lt n
    exact whole_lt (by decide) (by omega)
  | seta x y =>
    have hx := encodeSub_lt x
    have hy := encodeSub_lt y
    exact whole_lt (by decide) (by omega)
  | seti n q v =>
    have hq := encodeCond_lt q
    exact whole_lt (by decide) (by omega)
  | halt => decide

theorem readWord_slots (c : CSlot) (m0 : M0Slot) (m1 : M1Slot) :
    readWord (encodeNat (.slots c m0 m1)) = some (.slots c m0 m1) := by
  have hc := encodeC_lt c
  have hm0 := encodeM0_lt m0
  have hm1 := encodeM1_lt m1
  have hlt : encodeNat (.slots c m0 m1) < 2 ^ 63 := by simp only [encodeNat]; omega
  have hcField : nbits (encodeNat (.slots c m0 m1)) 62 37 = encodeC c := by simp only [nbits, encodeNat]; omega
  have hm0Field : nbits (encodeNat (.slots c m0 m1)) 36 23 = encodeM0 m0 := by simp only [nbits, encodeNat]; omega
  have hm1Field : nbits (encodeNat (.slots c m0 m1)) 22 0 = encodeM1 m1 := by simp only [nbits, encodeNat]; omega
  simp only [readWord, hlt, hcField, hm0Field, hm1Field, decodeC_encodeC, decodeM0_encodeM0, decodeM1_encodeM1, if_true]

theorem readWord_br (bc : BrCond) (t : Fin 8192) : readWord (encodeNat (.br bc t)) = some (.br bc t) := by
  have hlt := encodeBr_lt bc
  obtain ⟨hwhole, hwop⟩ := fields_whole (wop := 0x01) (n := encodeBr bc * 2 ^ 52 + t) (by decide) (by omega)
  have hbc : nbits (encodeBr bc * 2 ^ 52 + t) 56 52 = encodeBr bc := by unfold nbits; omega
  have ht : Fin.ofNat 8192 (nbits (encodeBr bc * 2 ^ 52 + t) 12 0) = t := field_of_eq 12 0 t (by omega)
  simp (disch := decide) only [encodeNat, readWord, hwhole, hwop, nbits_whole, hbc, ht, decodeBr_encodeBr, if_false, Option.map_some]

theorem readWord_loop (n : LoopCount) (a b : Fin 8192) : readWord (encodeNat (.loop n a b)) = some (.loop n a b) := by
  have hlt := encodeCount_lt n
  obtain ⟨hwhole, hwop⟩ :=
    fields_whole (wop := 0x02) (n := encodeCount n * 2 ^ 40 + a * 2 ^ 26 + b * 2 ^ 13) (by decide) (by omega)
  have hn : nbits (encodeCount n * 2 ^ 40 + a * 2 ^ 26 + b * 2 ^ 13) 56 40 = encodeCount n := by unfold nbits; omega
  have ha : Fin.ofNat 8192 (nbits (encodeCount n * 2 ^ 40 + a * 2 ^ 26 + b * 2 ^ 13) 38 26) = a := field_of_eq 38 26 a (by omega)
  have hb : Fin.ofNat 8192 (nbits (encodeCount n * 2 ^ 40 + a * 2 ^ 26 + b * 2 ^ 13) 25 13) = b := field_of_eq 25 13 b (by omega)
  simp (disch := decide) only [encodeNat, readWord, hwhole, hwop, nbits_whole, hn, ha, hb, decodeCount_encodeCount, if_false]

theorem readWord_seta (x y : Option SetaSub) : readWord (encodeNat (.seta x y)) = some (.seta x y) := by
  have hltx := encodeSub_lt x
  have hlty := encodeSub_lt y
  obtain ⟨hwhole, hwop⟩ :=
    fields_whole (wop := 0x03) (n := encodeSub x * 2 ^ 30 + encodeSub y * 2 ^ 3) (by decide) (by omega)
  have hx : nbits (encodeSub x * 2 ^ 30 + encodeSub y * 2 ^ 3) 56 30 = encodeSub x := by unfold nbits; omega
  have hy : nbits (encodeSub x * 2 ^ 30 + encodeSub y * 2 ^ 3) 29 3 = encodeSub y := by unfold nbits; omega
  simp (disch := decide) only [encodeNat, readWord, hwhole, hwop, nbits_whole, hx, hy, decodeSub_encodeSub, if_false]

theorem readWord_seti (n : Fin 16) (q : Cond) (v : Word) : readWord (encodeNat (.seti n q v)) = some (.seti n q v) := by
  have hlt := encodeCond_lt q
  have hltv := v.isLt
  obtain ⟨hwhole, hwop⟩ :=
    fields_whole (wop := 0x04) (n := n * 2 ^ 53 + encodeCond q * 2 ^ 49 + v.toNat) (by decide) (by omega)
  have hn : Fin.ofNat 16 (nbits (n * 2 ^ 53 + encodeCond q * 2 ^ 49 + v.toNat) 56 53) = n := field_of_eq 56 53 n (by omega)
  have hq : nbits (n * 2 ^ 53 + encodeCond q * 2 ^ 49 + v.toNat) 52 49 = encodeCond q := by unfold nbits; omega
  have hv : nbits (n * 2 ^ 53 + encodeCond q * 2 ^ 49 + v.toNat) 31 0 = v.toNat := by unfold nbits; omega
  simp (disch := decide) only [encodeNat, readWord, hwhole, hwop, nbits_whole, hn, hq, hv, decodeCond_encodeCond, BitVec.ofNat_toNat,
    BitVec.setWidth_eq, if_false, Option.map_some]

/-- The fields of an encoding name its word. -/
theorem readWord_encodeNat (w : IWord) : readWord (encodeNat w) = some w := by
  cases w with
  | slots c m0 m1 => exact readWord_slots c m0 m1
  | br bc t => exact readWord_br bc t
  | loop n a b => exact readWord_loop n a b
  | seta x y => exact readWord_seta x y
  | seti n q v => exact readWord_seti n q v
  | halt => rfl

theorem toNat_encodeWord (w : IWord) : (encodeWord w).toNat = encodeNat w := by
  rw [encodeWord, BitVec.toNat_ofNat, Nat.mod_eq_of_lt (encodeNat_lt w)]

/-- What decodes is well formed and encoded as decoded. -/
theorem encodeWord_of_decodeWord {v : BitVec 64} {w : IWord} (h : decodeWord v = some w) : w.wf = true ∧ encodeWord w = v := by
  unfold decodeWord at h
  split at h
  · split at h
    · next hdefined => exact Option.some.inj h ▸ hdefined
    · cases h
  · cases h

theorem decodeWord_encodeWord {w : IWord} (h : w.wf = true) : decodeWord (encodeWord w) = some w := by
  unfold decodeWord
  rw [toNat_encodeWord, readWord_encodeNat]
  exact if_pos ⟨h, rfl⟩

/-- Settles O8: the fields of an encoding name its word, and a decoded word is the one that the fields name. -/
theorem wordsDecodeExactlyAsEncoded : Obligations.WordsDecodeExactlyAsEncoded := by
  unfold Obligations.WordsDecodeExactlyAsEncoded
  refine fun v w => ⟨encodeWord_of_decodeWord, fun ⟨hwf, hv⟩ => ?_⟩
  rw [← hv]
  exact decodeWord_encodeWord hwf

/-- Settles O9: each word printed is the encoding of the well-formed word it stands for. -/
theorem specsExampleWordsDecode : Obligations.SpecsExampleWordsDecode := by
  have hdecode {v : BitVec 64} {w : IWord} (hwf : w.wf = true) (hv : encodeWord w = v) : decodeWord v = some w :=
    hv ▸ decodeWord_encodeWord hwf
  unfold Obligations.SpecsExampleWordsDecode
  refine ⟨hdecode rfl rfl, hdecode rfl rfl, hdecode rfl rfl, hdecode rfl rfl, hdecode rfl rfl, hdecode rfl rfl, ?_, ?_⟩
  · -- HALT with a bit set that must be zero: its fields name HALT, whose encoding is another word
    rfl
  · -- the reserved code 0 of WOP: its fields name no word
    rfl

end Sys2Proof.Machine
end

section
/-!
SUPPORT. Single-register commands on clusters, and the completion of a task (R83, R85, R132, R138, R150).
-/
namespace Sys2Proof.Machine

variable {s : State}

/-! ## Wake, injections and records -/

/-- With no takeover in progress there is no catch-up (R265). -/
theorem catchStep_of_none {n : Nat} (h : s.pr.take = none) : s.catchStep n = s := by
  cases n with
  | zero => rfl
  | succ n => rw [State.catchStep, h]

theorem exec_clusterWakeDone {c : Fin 16} (hstate : s.g (F.CL_STAT_STATE c) = 1) (htake : s.pr.take = none) :
    exec (.clusterWakeDone c) s = .next (s.p (F.CL_STAT_STATE c) 2) := by
  have hwake : s.wakeDone c = s.p (F.CL_STAT_STATE c) 2 := if_pos hstate
  change Host.Outcome.next ((s.wakeDone c).catchStep 8) = _
  rw [hwake, catchStep_of_none ((congrArg Pair.take (p_pr s _ _)).trans htake)]

theorem exec_shadowInj_shadowing {c : Fin 16} (hstate : s.g (F.SHADOW_STAT_STATE c) < 3) :
    exec (.shadowInj c) s = .next (s.flag (F.SHADOW_CTL_INJ c) true).ok :=
  congrArg (fun t => Host.Outcome.next (State.ok t)) (if_pos hstate)

theorem exec_shadowInj_otherwise {c : Fin 16} (hstate : 3 ≤ s.g (F.SHADOW_STAT_STATE c)) :
    exec (.shadowInj c) s = .next s.ok :=
  congrArg (fun t => Host.Outcome.next (State.ok t)) (if_neg (Nat.not_lt.mpr hstate))

/-- A field of a register that holds 0 reads 0. -/
theorem g_wr_zero (f : Fld) : (s.wr f.reg 0).g f = 0 := by
  rw [State.g, rd_wr, if_pos rfl]
  simp [bitsOf]

/-- A field that counts up to its largest value. -/
theorem g_bump_self (f : Fld) (n : Nat) (h : f.hi < 32) : (s.bump f n).g f = min (s.g f + n) (2 ^ (f.hi + 1 - f.lo) - 1) := by
  have hpos := Nat.two_pow_pos (f.hi + 1 - f.lo)
  rw [State.bump, g_p_self _ _ _ h]
  exact Nat.mod_eq_of_lt (by omega)

theorem clu_congr {t : State} (h : t.cl = s.cl) (c : Nat) : t.clu c = s.clu c := congrArg (SMap.get clusterDefault · c) h

/-! ## The self-test of a retired lane (R83) -/

/-- The next self-test of cluster `c` is due 1,024 ticks from now. -/
def State.bistDone (s : State) (c : Nat) : State := s.setClu c { s.clu c with bistDue := s.tick + 1024 }

section
variable {c : Fin 16}

theorem exec_laneBist_due (pass : Bool) (hretired : s.g (F.LANE_MAP_RETIRED c) = 1) (hphase : s.tm.phase = .consign)
    (hdue : (s.clu c).bistDue ≤ s.tick) : exec (.laneBist c pass) s =
      .next (if pass then (s.bistDone c).bump (F.LANE_MAP_BIST_PASSES c) 1 else (s.bistDone c).flag (F.LANE_MAP_BIST_FAIL c) true) :=
  if_pos ⟨on_of_g_eq_one hretired, hphase, hdue⟩

theorem exec_laneBist_early (pass : Bool) (hearly : s.tick < (s.clu c).bistDue) : exec (.laneBist c pass) s = .next s :=
  if_neg fun ⟨_, _, hdue⟩ => Nat.not_lt.mpr hdue hearly

theorem onlyRegs_bistDone (s : State) (c : Nat) (rs : List Nat) : onlyRegs s (s.bistDone c) rs := onlyRegs_of_eq rs rfl rfl

theorem bistDue_bistDone_p (s : State) (c : Nat) (f : Fld) (v : Nat) : (((s.bistDone c).p f v).clu c).bistDue = s.tick + 1024 := by
  rw [clu_p, State.bistDone, clu_setClu, if_pos rfl]

end

/-! ## Completion (R138) -/

/-- Task `t` has completed on cluster `c`. -/
def State.markDone (s : State) (t c : Nat) : State :=
  { s with fc := { s.fc with doneOn := SMap.set noneB s.fc.doneOn (16 * t + c) true } }

/-- A cluster that has drained is idle, without a task. -/
def State.toIdle (s : State) (c : Nat) : State := (s.flag (F.CL_TASK_ACTIVE c) false).p (F.CL_STAT_STATE c) 2

/-- The completion of a task on cluster `c` up to its status: messages, the cycle record and the activity count. -/
def State.accounted (s : State) (c late : Nat) : State :=
  ((s.endMessages c).recordCycles c (s.g (F.CL_TASK_TASK c)) ((s.clu c).cyc + late)).countAct c 8 ((s.clu c).cyc + late)

/-- From `s` to `t` neither memory nor the pair unit changes. -/
structure MemPairKept (s t : State) : Prop where
  mem : t.mem = s.mem
  pr : t.pr = s.pr

section
variable {r : State} (h : MemPairKept r s)
include h

theorem MemPairKept.ite {c : Prop} [Decidable c] {t : State} (h' : MemPairKept r t) : MemPairKept r (if c then s else t) := by
  split
  · exact h
  · exact h'

theorem MemPairKept.p {f : Fld} {v : Nat} : MemPairKept r (s.p f v) := ⟨(p_mem s f v).trans h.mem, (p_pr s f v).trans h.pr⟩

theorem MemPairKept.emit {kind src addr n : Nat} : MemPairKept r (s.emit kind src addr n) := ⟨h.mem, h.pr⟩

theorem MemPairKept.setClu {c : Nat} {k : Cluster} : MemPairKept r (s.setClu c k) := ⟨h.mem, h.pr⟩

theorem MemPairKept.setFc {fc : Fcst} : MemPairKept r { s with fc := fc } := ⟨h.mem, h.pr⟩

theorem MemPairKept.endMessages {c : Nat} : MemPairKept r (s.endMessages c) :=
  have h1 := h.ite h.p.emit
  (h1.ite h1.emit).setClu

theorem MemPairKept.recordCycles {c t n : Nat} : MemPairKept r (s.recordCycles c t n) :=
  have h1 := h.p.p
  h1.p.p.ite h1

theorem MemPairKept.completeTask {c late : Nat} : MemPairKept r (s.completeTask c late) :=
  have h1 := h.endMessages.recordCycles.p.setFc.p.p
  h1.setFc.setFc.ite h1.setFc

end

section
variable (s)

theorem markDone_regs (t c : Nat) : (s.markDone t c).regs = s.regs := rfl
theorem setRun_regs (t : Nat) (v : TaskRun) : (s.setRun t v).regs = s.regs := rfl
theorem countAct_regs (c k n : Nat) : (s.countAct c k n).regs = (s.inc (R.FCST_ACT c k) n).regs := rfl

/-- A completion accounts for the task, and the Forecast marks it done where every cluster of its set has completed it. -/
theorem completeTask_cases (c late : Nat) :
    s.completeTask c late =
        (((s.accounted c late).toIdle c).markDone (s.g (F.CL_TASK_TASK c)) c).setRun (s.g (F.CL_TASK_TASK c)) .done ∨
      s.completeTask c late = ((s.accounted c late).toIdle c).markDone (s.g (F.CL_TASK_TASK c)) c := ite_eq_or_eq _ _ _

theorem completeTask_regs (c late : Nat) : (s.completeTask c late).regs = ((s.accounted c late).toIdle c).regs := by
  obtain h | h := completeTask_cases s c late <;> rw [h]
  · rw [setRun_regs, markDone_regs]
  · rw [markDone_regs]

theorem state_toIdle (c : Nat) : (s.toIdle c).g (F.CL_STAT_STATE c) = 2 := g_p_self _ _ _ (by decide : 2 < 32)

theorem active_toIdle (c : Nat) : (s.toIdle c).g (F.CL_TASK_ACTIVE c) = 0 := by
  have hreg : R.CL_TASK c ≠ R.CL_STAT c := by simp only [R.CL_TASK, R.CL_STAT]; omega
  exact (g_p_reg _ (F.CL_STAT_STATE c) (F.CL_TASK_ACTIVE c) _ hreg).trans (g_flag_self _ _ _ rfl (by decide : 31 < 32))

/-- The record of the last completion is the one that the completion makes. -/
theorem last_completeTask (c : Fin 16) (late : Nat) {f : Fld} (hf : f.reg = R.CL_CYC_LAST c) : (s.completeTask c late).g f =
    ((s.endMessages c).recordCycles c (s.g (F.CL_TASK_TASK c)) ((s.clu c).cyc + late)).g f := by
  have hc := c.isLt
  have hstat : f.reg ≠ (F.CL_STAT_STATE c).reg := by rw [hf]; simp only [F.CL_STAT_STATE, R.CL_CYC_LAST, R.CL_STAT]; omega
  have htask : f.reg ≠ (F.CL_TASK_ACTIVE c).reg := by rw [hf]; simp only [F.CL_TASK_ACTIVE, R.CL_CYC_LAST, R.CL_TASK]; omega
  have hact : f.reg ≠ R.FCST_ACT c 8 := by rw [hf, R.CL_CYC_LAST, R.FCST_ACT]; omega
  rw [g_congr (completeTask_regs s c late), State.toIdle, g_p_reg _ _ _ _ hstat, State.flag, g_p_reg _ _ _ _ htask,
    State.accounted, g_congr (countAct_regs _ c 8 _)]
  exact g_p_reg _ ⟨R.FCST_ACT c 8, 31, 0⟩ f _ hact

theorem last_recordCycles (c : Fin 16) (t n : Nat) {f : Fld} (hf : f.reg = R.CL_CYC_LAST c) : (s.recordCycles c t n).g f =
    ((s.p (F.CL_CYC_LAST_TASK c) t).p (F.CL_CYC_LAST_CYCLES c) (min n (2 ^ 25 - 1))).g f := by
  have hmax : f.reg ≠ R.CL_CYC_MAX c := by rw [hf, R.CL_CYC_LAST, R.CL_CYC_MAX]; omega
  unfold State.recordCycles
  dsimp only
  split
  · exact (g_p_reg _ (F.CL_CYC_MAX_CYCLES c) f _ hmax).trans (g_p_reg _ (F.CL_CYC_MAX_TASK c) f _ hmax)
  · rfl

theorem lastTask_recordCycles (c : Fin 16) {t : Nat} (n : Nat) (ht : t < 2 ^ 7) :
    (s.recordCycles c t n).g (F.CL_CYC_LAST_TASK c) = t := by
  rw [last_recordCycles s c t n rfl, g_p_bits _ _ _ _ (.inr (by decide : 24 < 25)) (by decide : 31 < 32),
    g_p_self _ _ _ (by decide : 31 < 32)]
  exact Nat.mod_eq_of_lt ht

theorem lastCycles_recordCycles (c : Fin 16) (t n : Nat) :
    (s.recordCycles c t n).g (F.CL_CYC_LAST_CYCLES c) = min n (2 ^ 25 - 1) := by
  rw [last_recordCycles s c t n rfl, g_p_self _ _ _ (by decide : 24 < 32)]
  exact Nat.mod_eq_of_lt (by simp only [F.CL_CYC_LAST_CYCLES]; omega)

end

theorem exec_taskComplete {c : Fin 16} (late : Nat) (hstate : s.g (F.CL_STAT_STATE c) = 5) (htake : s.pr.take = none) :
    exec (.taskComplete c late) s = .next (s.completeTask c late) := by
  refine (if_pos hstate).trans ?_
  rw [catchStep_of_none ((congrArg Pair.take (MemPairKept.completeTask ⟨rfl, rfl⟩).pr).trans htake)]

end Sys2Proof.Machine
end

section
/-!
SUPPORT. Writes of program memory by the bus (R134, R135).
-/
namespace Sys2Proof.Machine

variable {s : State}

/-! ## Words of program memory -/

/-- The bytes of a program word stand in the program memory of its cluster. -/
theorem memOf_progByte (c : Fin 16) {x i : Nat} (hx : x < 8192) (hi : i < 8) :
    memOf (progByte c x + i) = some (.prog c, 8 * x + i) := by
  have hc := c.isLt
  have hcluster : (progByte c x + i - 0x01000000) / 0x100000 = c := by unfold progByte; omega
  have hoffset : (progByte c x + i - 0x01000000) % 0x100000 = 0x80000 + (8 * x + i) := by unfold progByte; omega
  have hctl : ¬ progByte c x + i < 0x100000 := by unfold progByte; omega
  have hwindow : 0x01000000 ≤ progByte c x + i ∧ progByte c x + i < 0x02000000 := by unfold progByte; omega
  unfold memOf
  dsimp only
  rw [if_neg hctl, if_pos hwindow, hcluster, hoffset, if_neg (by omega), if_pos (by omega), Nat.add_sub_cancel_left]

theorem progByte_add (c x n : Nat) : progByte c (x + n) = progByte c x + 8 * n := by unfold progByte; omega

/-! ## Only some bytes change -/

/-- The registers that a write of memory may change: the count of wakes and an armed injection. -/
abbrev memRegs : List Nat := [R.MEM_WAKE_CNT, R.MEM_INJ_CTL]

theorem onlyBytes.trans {s t u : State} {rs : List Nat} {lo n m : Nat} (h : onlyBytes s t rs lo n)
    (h' : onlyBytes t u rs (lo + n) m) : onlyBytes s u rs lo (n + m) :=
  have ⟨hregs, hbytes⟩ := h
  have ⟨hregs', hbytes'⟩ := h'
  ⟨fun a ha => (hregs' a ha).trans (hregs a ha), fun a ha => (hbytes' a (by omega)).trans (hbytes a (by omega))⟩

/-- A word apart from the bytes that change keeps its value. -/
theorem onlyBytes.word {s t : State} {rs : List Nat} {lo n a : Nat} (h : onlyBytes s t rs lo n) (ha : a + 4 ≤ lo ∨ lo + n ≤ a) :
    t.word a = s.word a := by
  obtain ⟨-, hbytes⟩ := h
  have hbyte : ∀ i, i < 4 → t.byte (a + i) = s.byte (a + i) := fun i hi => hbytes (a + i) (by omega)
  unfold State.word
  rw [hbyte 3 (by decide), hbyte 2 (by decide), hbyte 1 (by decide), hbytes a (by omega)]

theorem onlyBytes.ok {s t : State} {rs : List Nat} {lo n : Nat} (h : onlyBytes s t rs lo n) : onlyBytes s t.ok rs lo n :=
  have ⟨hregs, hbytes⟩ := h
  ⟨fun a ha => (rd_ok t a).trans (hregs a ha), fun a ha => (byte_congr (ok_mem t) a).trans (hbytes a ha)⟩

@[simp] theorem writeW_cl (s : State) (a : Nat) (v : Word) : (s.writeW a v).cl = s.cl := by
  rw [← taskStore_cl s a v]
  unfold State.taskStore
  dsimp only
  split <;> rfl

/-! ## A program word -/

section
variable (s) (c : Fin 16) {x : Nat} (hx : x < 8192) (hi lo : Word)
include hx

/-- A program word is stored with its lower half first, and nothing beside it changes. -/
theorem progWord_stores : (s.progWord c x (hi ++ lo)).word (progByte c x) = lo ∧
    (s.progWord c x (hi ++ lo)).word (progByte c x + 4) = hi ∧
    onlyBytes s (s.progWord c x (hi ++ lo)) memRegs (progByte c x) 8 := by
  have hlow : (hi ++ lo).extractLsb' 0 32 = lo := BitVec.extractLsb'_append_eq_right
  have hhigh : (hi ++ lo).extractLsb' 32 32 = hi := BitVec.extractLsb'_append_eq_left
  have hmem : memOf (progByte c x) = _ := memOf_progByte c hx (i := 0) (by decide)
  have hmem4 : memOf (progByte c x + 4) = _ := memOf_progByte c hx (by decide)
  rw [State.progWord, hlow, hhigh]
  have hframe := onlyBytes_writeW (s := s) lo hmem
  have hframe4 := onlyBytes_writeW (s := s.writeW (progByte c x) lo) hi hmem4
  refine ⟨?_, word_writeW hi hmem4, hframe.trans hframe4⟩
  exact (hframe4.word (.inl (Nat.le_refl _))).trans (word_writeW lo hmem)

end

theorem progWord_out (s : State) (c x : Nat) (v : BitVec 64) : (s.progWord c x v).out = s.out := by
  rw [State.progWord, writeW_out, writeW_out]

theorem progWord_cl (s : State) (c x : Nat) (v : BitVec 64) : (s.progWord c x v).cl = s.cl := by
  rw [State.progWord, writeW_cl, writeW_cl]

/-! ## A burst of whole words -/

/-- From `s` to `t` the words `vs` are stored from program word `x` of cluster `c` on, and nothing else. -/
structure BurstStored (c : Fin 16) (x : Nat) (vs : List Word) (s t : State) : Prop where
  words : ∀ i : Fin vs.length, t.word (progByte c x + 4 * i) = vs.get i
  frame : onlyBytes s t memRegs (progByte c x) (4 * vs.length)
  out : t.out = s.out

theorem BurstStored.nil (c : Fin 16) (x : Nat) (s : State) : BurstStored c x [] s s :=
  ⟨fun i => i.elim0, ⟨fun _ _ => rfl, fun _ _ => rfl⟩, rfl⟩

/-- A program word before a burst. -/
theorem BurstStored.cons {c : Fin 16} {x : Nat} {lo hi : Word} {vs : List Word} {s t : State} (hx : x < 8192)
    (h : BurstStored c (x + 1) vs (s.progWord c x (hi ++ lo)) t) : BurstStored c x (lo :: hi :: vs) s t := by
  obtain ⟨hwords, hframe, hout⟩ := h
  obtain ⟨hlo, hhi, hword⟩ := progWord_stores s c hx hi lo
  rw [progByte_add] at hframe
  refine ⟨fun i => ?_, ?_, hout.trans (progWord_out s c x _)⟩
  · match i with
    | ⟨0, _⟩ => exact show t.word (progByte c x) = lo from (hframe.word (.inl (by omega))).trans hlo
    | ⟨1, _⟩ => exact show t.word (progByte c x + 4) = hi from (hframe.word (.inl (by omega))).trans hhi
    | ⟨i + 2, hi⟩ =>
      have hi' : i < vs.length := by simpa using hi
      have hat : progByte c x + 4 * (i + 2) = progByte c (x + 1) + 4 * i := by rw [progByte_add]; omega
      rw [hat]
      exact hwords ⟨i, hi'⟩
  · rw [List.length_cons, List.length_cons, show 4 * (vs.length + 1 + 1) = 8 + 4 * vs.length by omega]
    exact hword.trans hframe

/-- A burst of whole program words inside the memory is stored. -/
theorem progBurst_whole (c : Fin 16) : ∀ (vs : List Word) (x : Nat) (s : State), vs.length % 2 = 0 →
    8 * x + 4 * vs.length ≤ 65536 → ∃ t, s.progBurst c (8 * x) vs = some t ∧ BurstStored c x vs s t
  | [], x, s, _, _ => ⟨s, rfl, .nil c x s⟩
  | [_], _, _, heven, _ => by simp at heven
  | lo :: hi :: vs, x, s, heven, hfits => by
    simp only [List.length_cons] at heven hfits
    obtain ⟨t, ht, hstored⟩ := progBurst_whole c vs (x + 1) (s.progWord c x (hi ++ lo)) (by omega) (by omega)
    refine ⟨t, ?_, hstored.cons (by omega)⟩
    rw [State.progBurst, if_pos (Nat.mul_mod_right 8 x), Nat.mul_div_cancel_left x (by decide)]
    exact ht

/-! ## PROG_MEM_WRITE -/

section
variable {c : Fin 16} {o : Fin 65536}

/-- A burst from a program word on is aligned. -/
theorem progMisaligned_words {vs : List Word} (halign : o.val % 8 = 0) : progMisaligned (.words vs) o = false := by
  have h4 : o.val % 4 = 0 := by omega
  unfold progMisaligned
  dsimp only
  split <;> simp [halign, h4]

theorem progMisaligned_half {v : Word} (halign : o.val % 4 = 0) : progMisaligned (.half v) o = false := by
  simp [progMisaligned, halign]

theorem exec_progMemWrite_running {d : PmData} (halign : progMisaligned d o = false) (hstate : 3 ≤ s.g (F.CL_STAT_STATE c)) :
    exec (.progMemWrite c o d) s = .next ((s.setClu c { s.clu c with stage := none }).progRefused c) :=
  congrArg Host.Outcome.next ((if_neg (Bool.eq_false_iff.mp halign)).trans (if_pos hstate))

theorem exec_progMemWrite_burst {vs : List Word} {t : State} (hstate : s.g (F.CL_STAT_STATE c) < 3) (halign : o.val % 8 = 0)
    (hfits : o.val + 4 * vs.length ≤ 65536) (ht : s.progBurst c o vs = some t) :
    exec (.progMemWrite c o (.words vs)) s = .next t.ok := by
  refine congrArg Host.Outcome.next ?_
  rw [State.progWrite, progMisaligned_words halign]
  simp [Nat.not_le.mpr hstate, hfits, ht]

theorem exec_progMemWrite_past {vs : List Word} (hstate : s.g (F.CL_STAT_STATE c) < 3) (halign : o.val % 8 = 0)
    (hpast : 65536 < o.val + 4 * vs.length) : exec (.progMemWrite c o (.words vs)) s = .next (s.progRefused c) := by
  refine congrArg Host.Outcome.next ?_
  rw [State.progWrite, progMisaligned_words halign]
  simp [Nat.not_le.mpr hstate, Nat.not_le.mpr hpast]

theorem exec_progMemWrite_half {v : Word} {t : State} (hstate : s.g (F.CL_STAT_STATE c) < 3) (halign : o.val % 4 = 0)
    (ht : s.progHalf c o v = some t) : exec (.progMemWrite c o (.half v)) s = .next t.ok := by
  refine congrArg Host.Outcome.next ?_
  rw [State.progWrite, progMisaligned_half halign]
  simp [Nat.not_le.mpr hstate, ht]

/-- A lower half is staged. -/
theorem progHalf_low {v : Word} (halign : o.val % 8 = 0) :
    s.progHalf c o v = some (s.setClu c { s.clu c with stage := some (o.val / 8, v) }) := if_pos halign

/-- An upper half stores the word whose lower half is staged. -/
theorem progHalf_high {lo v : Word} (halign : o.val % 8 = 4) (hstage : (s.clu c).stage = some (o.val / 8, lo)) :
    s.progHalf c o v = some ((s.setClu c { s.clu c with stage := none }).progWord c (o.val / 8) (v ++ lo)) := by
  rw [State.progHalf, if_neg (by omega), hstage]
  exact if_pos rfl

/-- A refused write shows in CL_STAT and ends in an error response; no memory changes. -/
theorem progRefused_effect (s : State) (c : Fin 16) : (s.progRefused c).g (F.CL_STAT_PM_WR_ERR c) = 1 ∧
    (s.progRefused c).out = s.err.out ∧ onlyRegs s (s.progRefused c) [R.CL_STAT c] := by
  refine ⟨?_, ?_, fun a ha => ?_, byte_congr ((err_mem _).trans (flag_mem s _ _))⟩
  · rw [State.progRefused, g_err]
    exact g_flag_self s _ _ rfl (by decide : 10 < 32)
  · rw [State.progRefused, err_out, err_out, flag_out]
  · rw [State.progRefused, rd_err]
    exact rd_flag_ne s _ _ (mt List.mem_singleton.mpr ha)

theorem clu_progRefused (s : State) (c d : Nat) : (s.progRefused c).clu d = s.clu d :=
  clu_congr ((err_cl _).trans (flag_cl s _ _)) d

end

end Sys2Proof.Machine
end

section
/-!
SUPPORT. The dispatch of a task to its clusters (R66, R136, R137, R148).
-/
namespace Sys2Proof.Machine

/-! ## The entry of a task on one cluster -/

/-- A lane as a task finds it (R66). -/
def Lane.entered (l : Lane) : Lane := { l with d := [], acc := [], pf := 0 }

/-- Setting the keys below `n` of a map in turn, each from what it holds. -/
theorem get_foldl_range_set {β : Type} [DecidableEq β] (d : Nat → β) (f : β → β) (m : SMap β) (n j : Nat) :
    SMap.get d ((List.range n).foldl (fun m i => SMap.set d m i (f (SMap.get d m i))) m) j =
      if j < n then f (SMap.get d m j) else SMap.get d m j := by
  induction n with
  | zero => rfl
  | succ n ih =>
    rw [List.range_succ, List.foldl_append, List.foldl_cons, List.foldl_nil, SMap.get_set]
    split
    · next hj =>
      subst hj
      rw [ih, if_neg (Nat.lt_irrefl j), if_pos (Nat.lt_succ_self j)]
    · next hj =>
      rw [ih]
      simp only [show j < n + 1 ↔ j < n by omega]

theorem lanes_enter (k : Cluster) (entry : Nat) : (k.enter entry).lanes =
    (List.range 17).foldl (fun m i => SMap.set zeroLane m i (Lane.entered (SMap.get zeroLane m i))) k.lanes := by
  simp only [Cluster.enter, Lane.entered]

theorem lane_enter (k : Cluster) (entry : Nat) (n : Fin 17) : (k.enter entry).lane n = (k.lane n).entered := by
  rw [Cluster.lane, lanes_enter, get_foldl_range_set, if_pos n.isLt, Cluster.lane]

/-- The first `n` sequencer values of cluster `c` are those of `vals` (R137). -/
def State.seqIn (s : State) (c : Nat) (vals : List Word) (n : Nat) : State :=
  (List.range n).foldl (fun s i => s.wr (R.SEQ_IN c i) (vals.getD i 0)) s

/-- Task `k` stands on cluster `c`, at index `entry`. -/
def State.stands (s : State) (k c entry : Nat) : State :=
  ((((s.setClu c ((s.clu c).enter entry)).p (F.CL_STAT_STATE c) 3).flag (F.CL_TASK_ACTIVE c) true).p (F.CL_TASK_TASK c) k).inc
    (R.CL_DISP_CNT c)

/-- The Forecast has dispatched to cluster `c`. -/
def State.markDisp (s : State) (c : Nat) : State :=
  { s with fc := { s.fc with disp := SMap.set noneB s.fc.disp c true } }

section
variable (s : State) (c : Nat)

theorem markDisp_regs : (s.markDisp c).regs = s.regs := rfl
theorem markDisp_cl : (s.markDisp c).cl = s.cl := rfl
theorem markDisp_tt : (s.markDisp c).fc.tt = s.fc.tt := rfl

/-- The entry of a task on a cluster by its parts; the first and the ninth of the values are the task number and the tick number. -/
theorem enterTask_eq (k : Nat) (tv : Nat × Nat × Nat) (cv : Nat × Nat) (tl : Word) : ∃ vals : List Word,
    vals.getD 0 0 = BitVec.ofNat 32 k ∧ vals.getD 8 0 = tl ∧ s.enterTask k c tv cv tl =
      ((s.seqIn c vals 13).stands k c ((s.seqIn c vals 13).ttEntry s.ttSel k)).markDisp c := ⟨_, rfl, rfl, rfl⟩

theorem seqIn_succ (vals : List Word) (n : Nat) :
    s.seqIn c vals (n + 1) = (s.seqIn c vals n).wr (R.SEQ_IN c n) (vals.getD n 0) := by
  rw [State.seqIn, List.range_succ, List.foldl_append]
  rfl

theorem seqIn_kept (vals : List Word) (n : Nat) : (s.seqIn c vals n).cl = s.cl ∧ (s.seqIn c vals n).fc = s.fc := by
  induction n with
  | zero => exact ⟨rfl, rfl⟩
  | succ n ih =>
    rw [seqIn_succ, wr_cl, wr_fc]
    exact ih

theorem rd_seqIn_self (vals : List Word) {i n : Nat} (h : i < n) : (s.seqIn c vals n).rd (R.SEQ_IN c i) = vals.getD i 0 := by
  induction n with
  | zero => omega
  | succ n ih =>
    rw [seqIn_succ, rd_wr]
    split
    · next heq =>
      have hin : i = n := by simp only [R.SEQ_IN] at heq; omega
      rw [hin]
    · next hne => exact ih (Nat.lt_of_le_of_ne (Nat.le_of_lt_succ h) fun hin => hne (congrArg (R.SEQ_IN c) hin))

theorem rd_seqIn_ne (vals : List Word) {a n : Nat} (h : ∀ i, i < n → a ≠ R.SEQ_IN c i) : (s.seqIn c vals n).rd a = s.rd a := by
  induction n with
  | zero => rfl
  | succ n ih =>
    rw [seqIn_succ, rd_wr, if_neg (h n (Nat.lt_succ_self n))]
    exact ih fun i hi => h i (Nat.lt_succ_of_lt hi)

variable (k entry : Nat)

theorem stands_cl : (s.stands k c entry).cl = (s.setClu c ((s.clu c).enter entry)).cl := by
  rw [State.stands, State.inc, bump_cl, p_cl, flag_cl, p_cl]

theorem stands_fc : (s.stands k c entry).fc = s.fc := by
  rw [State.stands, State.inc, bump_fc, p_fc, flag_fc, p_fc, setClu_fc]

/-- The registers beside the status, the task and the count of dispatches of the cluster. -/
theorem rd_stands_ne {a : Nat} (hstat : a ≠ R.CL_STAT c) (htask : a ≠ R.CL_TASK c) (hcnt : a ≠ R.CL_DISP_CNT c) :
    (s.stands k c entry).rd a = s.rd a := by
  rw [State.stands, rd_inc_ne _ _ _ hcnt, rd_p_ne _ (F.CL_TASK_TASK c) _ htask, rd_flag_ne _ (F.CL_TASK_ACTIVE c) _ htask,
    rd_p_ne _ (F.CL_STAT_STATE c) _ hstat, rd_setClu]

theorem state_stands : (s.stands k c entry).g (F.CL_STAT_STATE c) = 3 := by
  have hcnt : R.CL_STAT c ≠ R.CL_DISP_CNT c := by simp only [R.CL_STAT, R.CL_DISP_CNT]; omega
  have htask : R.CL_STAT c ≠ R.CL_TASK c := by simp only [R.CL_STAT, R.CL_TASK]; omega
  unfold State.stands
  rw [g_of_rd (rd_inc_ne _ _ _ hcnt), g_p_reg _ (F.CL_TASK_TASK c) _ _ htask,
    g_flag_ne _ (F.CL_TASK_ACTIVE c) _ _ (.inl htask) (by decide : 2 < 32)]
  exact g_p_self _ _ _ (by decide : 2 < 32)

theorem task_stands (hk : k < 128) : (s.stands k c entry).g (F.CL_TASK_TASK c) = k := by
  have hcnt : R.CL_TASK c ≠ R.CL_DISP_CNT c := by simp only [R.CL_TASK, R.CL_DISP_CNT]; omega
  unfold State.stands
  rw [g_of_rd (rd_inc_ne _ _ _ hcnt), g_p_self _ _ _ (by decide : 22 < 32)]
  exact Nat.mod_eq_of_lt hk

theorem active_stands : (s.stands k c entry).g (F.CL_TASK_ACTIVE c) = 1 := by
  have hcnt : R.CL_TASK c ≠ R.CL_DISP_CNT c := by simp only [R.CL_TASK, R.CL_DISP_CNT]; omega
  unfold State.stands
  rw [g_of_rd (rd_inc_ne _ _ _ hcnt), g_p_bits _ _ _ _ (.inr (by decide : 22 < 31)) (by decide : 31 < 32)]
  exact g_flag_self _ _ _ rfl (by decide : 31 < 32)

end

/-! ## What the entry shows, and what it keeps -/

/-- What cluster `c` shows once task `k` has entered it at index `entry` with the low tick number `tl`. -/
structure Entered (k c entry : Nat) (tl : Word) (t : State) : Prop where
  state : t.g (F.CL_STAT_STATE c) = 3
  task : t.g (F.CL_TASK_TASK c) = k
  active : t.g (F.CL_TASK_ACTIVE c) = 1
  number : t.rd (R.SEQ_IN c 0) = BitVec.ofNat 32 k
  tick : t.rd (R.SEQ_IN c 8) = tl
  pc : (t.clu c).pc = entry
  lanes : ∀ n : Fin 17, ((t.clu c).lane n).d = [] ∧ ((t.clu c).lane n).acc = [] ∧ ((t.clu c).lane n).pf = 0

/-- From `s` to `t` the task table stays, the copy in force, and LSTAT of cluster `c`. -/
structure DispatchKept (c : Nat) (s t : State) : Prop where
  sel : t.ttSel = s.ttSel
  table : t.fc.tt = s.fc.tt
  lstat : ∀ n : Fin 17, ((t.clu c).lane n).lstat = ((s.clu c).lane n).lstat

theorem DispatchKept.trans {c : Nat} {s t u : State} (h : DispatchKept c s t) (h' : DispatchKept c t u) : DispatchKept c s u :=
  ⟨h'.sel.trans h.sel, h'.table.trans h.table, fun n => (h'.lstat n).trans (h.lstat n)⟩

/-- The entry of a task depends on the table alone. -/
theorem ttEntry_congr {s t : State} (h : t.fc.tt = s.fc.tt) (x k : Nat) : t.ttEntry x k = s.ttEntry x k := by
  rw [State.ttEntry, State.ttEntry, State.ttw, State.ttw, h]

theorem ttClusters_congr {s t : State} (h : t.fc.tt = s.fc.tt) (x k : Nat) : t.ttClusters x k = s.ttClusters x k := by
  simp only [State.ttClusters, State.ttw, h]

section
variable (s : State) (k c : Nat) (tv : Nat × Nat × Nat) (cv : Nat × Nat) (tl : Word)

theorem clu_enterTask (d : Nat) : (s.enterTask k c tv cv tl).clu d =
    if d = c then (s.clu c).enter (s.ttEntry s.ttSel k) else s.clu d := by
  obtain ⟨vals, -, -, heq⟩ := enterTask_eq s c k tv cv tl
  obtain ⟨hcl, hfc⟩ := seqIn_kept s c vals 13
  rw [heq, ttEntry_congr (congrArg Fcst.tt hfc), State.clu, markDisp_cl, stands_cl]
  change ((s.seqIn c vals 13).setClu c _).clu d = _
  rw [clu_setClu, clu_congr hcl, clu_congr hcl]

theorem table_enterTask : (s.enterTask k c tv cv tl).fc.tt = s.fc.tt := by
  obtain ⟨vals, -, -, heq⟩ := enterTask_eq s c k tv cv tl
  obtain ⟨-, hfc⟩ := seqIn_kept s c vals 13
  rw [heq, markDisp_tt, stands_fc, hfc]

/-- The entry writes only registers in the window of its cluster (R21). -/
theorem rd_enterTask_ne {a : Nat} (h : a / 0x100000 ≠ 0x10 + c) : (s.enterTask k c tv cv tl).rd a = s.rd a := by
  obtain ⟨vals, -, -, heq⟩ := enterTask_eq s c k tv cv tl
  have hstat : a ≠ R.CL_STAT c := by unfold R.CL_STAT; omega
  have htask : a ≠ R.CL_TASK c := by unfold R.CL_TASK; omega
  have hcnt : a ≠ R.CL_DISP_CNT c := by unfold R.CL_DISP_CNT; omega
  rw [heq, rd_congr (markDisp_regs _ c), rd_stands_ne _ c _ _ hstat htask hcnt]
  exact rd_seqIn_ne s c vals fun i hi => by unfold R.SEQ_IN; omega

theorem enterTask_enters (hk : k < 128) : Entered k c (s.ttEntry s.ttSel k) tl (s.enterTask k c tv cv tl) := by
  have hclu := clu_enterTask s k c tv cv tl c
  rw [if_pos rfl] at hclu
  obtain ⟨vals, hnumber, htick, heq⟩ := enterTask_eq s c k tv cv tl
  have hvalue (i : Nat) (hi : i < 13) : (s.enterTask k c tv cv tl).rd (R.SEQ_IN c i) = vals.getD i 0 := by
    have hstat : R.SEQ_IN c i ≠ R.CL_STAT c := by simp only [R.SEQ_IN, R.CL_STAT]; omega
    have htask : R.SEQ_IN c i ≠ R.CL_TASK c := by simp only [R.SEQ_IN, R.CL_TASK]; omega
    have hcnt : R.SEQ_IN c i ≠ R.CL_DISP_CNT c := by simp only [R.SEQ_IN, R.CL_DISP_CNT]; omega
    rw [heq, rd_congr (markDisp_regs _ c), rd_stands_ne _ c _ _ hstat htask hcnt, rd_seqIn_self s c vals hi]
  have hfield (f : Fld) : (s.enterTask k c tv cv tl).g f =
      ((s.seqIn c vals 13).stands k c ((s.seqIn c vals 13).ttEntry s.ttSel k)).g f := by
    rw [heq, g_congr (markDisp_regs _ c)]
  refine ⟨(hfield _).trans (state_stands _ c k _), (hfield _).trans (task_stands _ c k _ hk),
    (hfield _).trans (active_stands _ c k _), (hvalue 0 (by decide)).trans hnumber, (hvalue 8 (by decide)).trans htick, ?_, ?_⟩
  · rw [hclu]; rfl
  · intro n
    rw [hclu, lane_enter]
    exact ⟨rfl, rfl, rfl⟩

theorem enterTask_keeps (hc : c < 16) (d : Nat) : DispatchKept d s (s.enterTask k c tv cv tl) := by
  refine ⟨?_, table_enterTask s k c tv cv tl, fun n => ?_⟩
  · unfold State.ttSel
    exact g_of_rd (rd_enterTask_ne s k c tv cv tl (by simp only [F.FCST_TT_CTL_SEL, R.FCST_TT_CTL]; omega))
  · rw [clu_enterTask]
    split
    · next hd => rw [lane_enter, hd]; rfl
    · rfl

variable {s}

/-- The entry on another cluster leaves what a cluster shows. -/
theorem Entered.enterTask {j d entry : Nat} {u : Word} (h : Entered j d entry u s) (hne : d ≠ c) :
    Entered j d entry u (s.enterTask k c tv cv tl) := by
  have hclu := clu_enterTask s k c tv cv tl d
  rw [if_neg hne] at hclu
  have hstat : (s.enterTask k c tv cv tl).rd (R.CL_STAT d) = s.rd (R.CL_STAT d) :=
    rd_enterTask_ne s k c tv cv tl (by unfold R.CL_STAT; omega)
  have htask : (s.enterTask k c tv cv tl).rd (R.CL_TASK d) = s.rd (R.CL_TASK d) :=
    rd_enterTask_ne s k c tv cv tl (by unfold R.CL_TASK; omega)
  have hseq (i : Nat) (hi : i < 13) : (s.enterTask k c tv cv tl).rd (R.SEQ_IN d i) = s.rd (R.SEQ_IN d i) :=
    rd_enterTask_ne s k c tv cv tl (by unfold R.SEQ_IN; omega)
  exact ⟨(g_of_rd (f := F.CL_STAT_STATE d) hstat).trans h.state, (g_of_rd (f := F.CL_TASK_TASK d) htask).trans h.task,
    (g_of_rd (f := F.CL_TASK_ACTIVE d) htask).trans h.active, (hseq 0 (by decide)).trans h.number,
    (hseq 8 (by decide)).trans h.tick, (congrArg Cluster.pc hclu).trans h.pc, fun n => by rw [hclu]; exact h.lanes n⟩

end

/-! ## The entry on every cluster of the set -/

/-- A task that enters the clusters of a list in turn stands on each of them at the end. -/
theorem entered_foldl {s : State} {k c : Nat} (hk : k < 128) (tv : Nat × Nat × Nat) (cv : Nat × Nat) (tl : Word) (ds : List Nat)
    (hds : ∀ d ∈ ds, d < 16) (u : State) (hkept : DispatchKept c s u)
    (hin : c ∈ ds ∨ Entered k c (s.ttEntry s.ttSel k) tl u) :
    DispatchKept c s (ds.foldl (fun u d => u.enterTask k d tv cv tl) u) ∧
      Entered k c (s.ttEntry s.ttSel k) tl (ds.foldl (fun u d => u.enterTask k d tv cv tl) u) := by
  induction ds generalizing u with
  | nil => exact ⟨hkept, hin.resolve_left List.not_mem_nil⟩
  | cons d ds ih =>
    have hstep := hkept.trans (enterTask_keeps u k d tv cv tl (hds d List.mem_cons_self) c)
    rw [List.foldl_cons]
    refine ih (fun e he => hds e (List.mem_cons_of_mem d he)) (u.enterTask k d tv cv tl) hstep ?_
    by_cases hcd : c = d
    · subst hcd
      have henters := enterTask_enters u k c tv cv tl hk
      rw [ttEntry_congr hkept.table, hkept.sel] at henters
      exact .inr henters
    · obtain hmem | hentered := hin
      · exact .inl ((List.mem_cons.mp hmem).resolve_left hcd)
      · exact .inr (hentered.enterTask k d tv cv tl hcd)

/-! ## TASK_DISPATCH -/

/-- A forcing changes the tier of a task alone (R171). -/
theorem forcedTier_kept (s : State) (k : Nat) : (s.forcedTier k).regs = s.regs ∧ (s.forcedTier k).cl = s.cl ∧
    (s.forcedTier k).tm = s.tm ∧ (s.forcedTier k).fc.tt = s.fc.tt := by
  unfold State.forcedTier
  split
  · split <;> exact ⟨rfl, rfl, rfl, rfl⟩
  · exact ⟨rfl, rfl, rfl, rfl⟩

theorem dispatchKept_forcedTier (s : State) (k c : Nat) : DispatchKept c s (s.forcedTier k) := by
  obtain ⟨hregs, hcl, -, htable⟩ := forcedTier_kept s k
  refine ⟨g_congr hregs _, htable, fun n => ?_⟩
  rw [clu_congr hcl]

theorem lt_of_mem_ttClusters {s : State} {x k c : Nat} (h : c ∈ s.ttClusters x k) : c < 16 :=
  List.mem_range.mp (List.mem_filter.mp h).1

theorem exec_taskDispatch {s : State} {k : Fin 128} (hphase : s.tm.phase = .window) (hgathered : s.tm.gathered = true)
    (hdispatch : s.dispatchable k = true) (hdirected : s.directed k = none) (hselects : s.selects = true) :
    exec (.taskDispatch k) s = .next ((s.forcedTier k).startTask k ((s.forcedTier k).tierOf k).values
      ((s.forcedTier k).coefValues k) (s.tm.tick.setWidth 32)) := by
  obtain ⟨-, -, htm, -⟩ := forcedTier_kept s k
  refine (if_pos ⟨hphase, hgathered, hdispatch⟩).trans ?_
  rw [hdirected, ← htm]
  exact if_pos hselects

theorem clu_setRun (s : State) (k : Nat) (v : TaskRun) (c : Nat) : (s.setRun k v).clu c = s.clu c :=
  clu_congr (setRun_cl s k v) c

theorem runOf_setRun (s : State) (k : Nat) (v : TaskRun) : (s.setRun k v).runOf k = v := SMap.get_set_self _ _ _ _

theorem Entered.setRun {s : State} {k c entry : Nat} {tl : Word} (h : Entered k c entry tl s) (j : Nat) (v : TaskRun) :
    Entered k c entry tl (s.setRun j v) := by
  have hrd (a : Nat) : (s.setRun j v).rd a = s.rd a := rd_congr (setRun_regs s j v) a
  obtain ⟨hstate, htask, hactive, hnumber, htick, hpc, hlanes⟩ := h
  rw [← clu_setRun s j v] at hpc
  simp only [← clu_setRun s j v c] at hlanes
  exact ⟨(g_setRun s j v _).trans hstate, (g_setRun s j v _).trans htask, (g_setRun s j v _).trans hactive, (hrd _).trans hnumber,
    (hrd _).trans htick, hpc, hlanes⟩

/-- A task that starts stands on every cluster of its set, and runs. -/
theorem startTask_enters {s u : State} {k : Fin 128} {c : Nat} (hkept : DispatchKept c s u) (hc : c ∈ s.ttClusters s.ttSel k)
    (tv : Nat × Nat × Nat) (cv : Nat × Nat) (tl : Word) :
    Entered k c (s.ttEntry s.ttSel k) tl (u.startTask k tv cv tl) ∧ (u.startTask k tv cv tl).runOf k = .running ∧
      ∀ n : Fin 17, (((u.startTask k tv cv tl).clu c).lane n).lstat = ((s.clu c).lane n).lstat := by
  have hmem : c ∈ u.ttClusters u.ttSel k := by rwa [hkept.sel, ttClusters_congr hkept.table]
  obtain ⟨⟨_, _, hlstat⟩, hentered⟩ :=
    entered_foldl k.isLt tv cv tl (u.ttClusters u.ttSel k) (fun _ => lt_of_mem_ttClusters) u hkept (.inl hmem)
  rw [State.startTask]
  refine ⟨hentered.setRun k .running, runOf_setRun _ _ _, fun n => ?_⟩
  rw [clu_setRun]
  exact hlstat n

end Sys2Proof.Machine
end

section
/-!
SUPPORT. The statement about dispatch, completion, wake, self-test and program memory of the clusters (R66, R83, R85, R132 to R138,
R148, R150).
-/
namespace Sys2Proof.Machine

/-- Settles O25: each clause is the rule of its command, with the frame of what the command leaves. -/
theorem tasksRunOnTheirClusters : Obligations.TasksRunOnTheirClusters := by
  unfold Obligations.TasksRunOnTheirClusters
  refine ⟨?_, ?_, ?_, ?_, ?_, ?_, ?_, ?_, ?_, ?_, ?_, ?_, ?_, ?_, ?_⟩
  · -- TASK_DISPATCH
    intro k c s hphase hgathered hdispatch hdirected hselects hc
    obtain ⟨hentered, hrun, hlstat⟩ := startTask_enters (dispatchKept_forcedTier s k c) hc ((s.forcedTier k).tierOf k).values
      ((s.forcedTier k).coefValues k) (s.tm.tick.setWidth 32)
    obtain ⟨hstate, htask, hactive, hnumber, htick, hpc, hlanes⟩ := hentered
    refine ⟨_, exec_taskDispatch hphase hgathered hdispatch hdirected hselects, hstate, htask, hactive, hpc, hrun,
      hnumber, htick, fun n => ?_⟩
    obtain ⟨hd, hacc, hpf⟩ := hlanes n
    exact ⟨hd, hacc, hpf, hlstat n⟩
  · -- TASK_COMPLETE
    intro c late s hstate htake
    have hfield (f : Fld) := g_congr (completeTask_regs s c late) f
    refine ⟨_, exec_taskComplete late hstate htake, (hfield _).trans (state_toIdle _ c), (hfield _).trans (active_toIdle _ c),
      ?_, ?_, byte_congr (MemPairKept.completeTask ⟨rfl, rfl⟩).mem⟩
    · exact (last_completeTask s c late rfl).trans (lastTask_recordCycles _ c _ (bitsOf_lt _ _ _))
    · exact (last_completeTask s c late rfl).trans (lastCycles_recordCycles _ c _ _)
  · -- CLUSTER_WAKE_DONE
    intro c s hstate htake
    exact ⟨_, exec_clusterWakeDone hstate htake, g_p_self _ _ _ (by decide : 2 < 32), (confined.refl s _).wr List.mem_cons_self⟩
  · -- LANE_BIST passed
    intro c s hretired hphase hdue
    refine ⟨_, exec_laneBist_due true hretired hphase hdue, ?_, ?_, bistDue_bistDone_p s c _ _,
      (onlyRegs_bistDone s c _).p List.mem_cons_self⟩
    · rw [if_pos rfl, g_bump_self _ _ (by decide : 31 < 32), State.bistDone, g_setClu]
    · exact (g_p_bits _ _ _ _ (.inl (by decide : 17 < 24)) (by decide : 17 < 32)).trans (g_setClu s c _ _)
  · -- LANE_BIST failed
    intro c s hretired hphase hdue
    exact ⟨_, exec_laneBist_due false hretired hphase hdue, g_flag_self _ _ _ rfl (by decide : 17 < 32),
      bistDue_bistDone_p s c _ _, (onlyRegs_bistDone s c _).flag List.mem_cons_self⟩
  · -- LANE_BIST within 1,024 ticks of the last one
    intro c pass s hearly
    exact ⟨s, exec_laneBist_early pass hearly, rfl⟩
  · -- SHADOW_INJ
    intro c s hstate
    refine ⟨_, exec_shadowInj_shadowing hstate, ?_, ((confined.refl s _).flag List.mem_cons_self).ok⟩
    rw [g_ok]
    exact g_flag_self _ _ _ rfl (by decide : 8 < 32)
  · -- SHADOW_INJ while LANE_S does not shadow
    intro c s hstate
    exact ⟨_, exec_shadowInj_otherwise hstate, rfl, (confined.refl s _).ok⟩
  · -- ILL_INJ
    intro c s
    refine ⟨_, rfl, ?_, ((confined.refl s _).flag List.mem_cons_self).ok⟩
    rw [g_ok]
    exact g_flag_self _ _ _ rfl (by decide : 8 < 32)
  · -- CYC_MAX_CLR
    intro c s
    refine ⟨_, rfl, ?_, ?_, ((confined.refl s _).wr List.mem_cons_self).ok⟩
    · rw [g_ok]; exact g_wr_zero (F.CL_CYC_MAX_CYCLES c)
    · rw [g_ok]; exact g_wr_zero (F.CL_CYC_MAX_TASK c)
  · -- PROG_MEM_WRITE of whole words
    intro c o vs s hstate halign heven hfits
    have ho : 8 * (o.val / 8) = o.val := Nat.mul_div_cancel' (Nat.dvd_of_mod_eq_zero halign)
    obtain ⟨t, ht, hwords, hframe, hout⟩ := progBurst_whole c vs (o.val / 8) s heven (by rwa [ho])
    rw [ho] at ht
    refine ⟨_, exec_progMemWrite_burst hstate halign hfits ht, fun i => ?_, hframe.ok, ?_⟩
    · exact (word_congr (ok_mem t) _).trans (hwords i)
    · rw [ok_out, ok_out, hout]
  · -- PROG_MEM_WRITE of a burst past the last word
    intro c o vs s hstate halign hpast
    exact ⟨_, exec_progMemWrite_past hstate halign hpast, progRefused_effect s c⟩
  · -- PROG_MEM_WRITE of a low half
    intro c o v s hstate halign
    refine ⟨_, exec_progMemWrite_half hstate (by omega) (progHalf_low halign), ?_, ?_, (onlyRegs_of_eq _ rfl rfl).ok⟩
    · rw [clu_congr (ok_cl _), clu_setClu, if_pos rfl]
    · rw [ok_out, ok_out, setClu_out]
  · -- PROG_MEM_WRITE of the high half
    intro c o lo v s hstate halign hstage
    obtain ⟨hlo, hhi, hframe⟩ := progWord_stores (s.setClu c { s.clu c with stage := none }) c (x := o.val / 8) (by omega) v lo
    refine ⟨_, exec_progMemWrite_half hstate (by omega) (progHalf_high halign hstage), (word_congr (ok_mem _) _).trans hlo,
      (word_congr (ok_mem _) _).trans hhi, ?_, ?_, ?_⟩
    · rw [clu_congr (ok_cl _), clu_congr (progWord_cl _ _ _ _), clu_setClu, if_pos rfl]
    · exact hframe.ok
    · rw [ok_out, ok_out, progWord_out, setClu_out]
  · -- PROG_MEM_WRITE while a task runs
    intro c o vs s hstate halign
    obtain ⟨herr, hout, hframe⟩ := progRefused_effect (s.setClu c { s.clu c with stage := none }) c
    refine ⟨_, exec_progMemWrite_running (progMisaligned_words halign) hstate, herr, ?_, ?_, hframe⟩
    · rw [clu_progRefused, clu_setClu, if_pos rfl]
    · rw [hout, err_out, err_out, setClu_out]

end Sys2Proof.Machine
end

section
/-!
SUPPORT. The task tables (R142), the check of R144, and what the commands on them change (R142 to R147).
-/
namespace Sys2Proof.Machine

variable {s : State}

theorem confined.err {r : State} {rs : List Nat} (h : confined r s rs) : confined r s.err rs := by
  obtain ⟨hregs, hrest⟩ := h
  have herr : s.err = { s with out := s.out ++ [.resp true []] } := by simp [State.err, State.send, Out.onBall]
  exact ⟨fun x hx => (rd_err s x).trans (hregs x hx), by rw [herr]; exact hrest⟩

/-! ## TT_ENTRY_WRITE (R142) -/

/-- The task tables with word `i` set to `w`. -/
def State.setTt (s : State) (i : Nat) (w : Word) : State :=
  { s with fc := { s.fc with tt := SMap.set zeroW s.fc.tt i w } }

theorem ttw_setTt (x t w : Nat) (v : Word) : (s.setTt (2048 * x + 16 * t + w) v).ttw x t w = v := SMap.get_set_self _ _ _ _

theorem sameButKey_setTt (i : Nat) (w : Word) : sameButKey zeroW s.fc.tt (s.setTt i w).fc.tt i :=
  fun _ hj => SMap.get_set_ne _ _ _ hj

theorem exec_ttEntryWrite_free {x : Fin 2} {k : Fin 128} {w : Fin 16} {v : Word} (hsel : x.val ≠ s.g F.FCST_TT_CTL_SEL)
    (hstate : s.g F.FCST_TT_CTL_STATE ≠ 1) : exec (.ttEntryWrite x k w v) s =
      .next (s.setTt (2048 * x.val + 16 * k.val + w.val) ((if w.val = 0 ∧ bitsOf v 30 29 = 3 then
        putBits v 30 29 (bitsOf (s.ttw x k 0) 30 29) else v) &&& ttMask w)).ok :=
  congrArg Host.Outcome.next (if_neg (not_or.mpr ⟨hsel, hstate⟩))

theorem exec_ttEntryWrite_refused {x : Fin 2} {k : Fin 128} {w : Fin 16} {v : Word}
    (h : x.val = s.g F.FCST_TT_CTL_SEL ∨ s.g F.FCST_TT_CTL_STATE = 1) :
    exec (.ttEntryWrite x k w v) s = .next (s.flag F.FCST_STAT_TT_WR_ERR true).err :=
  congrArg Host.Outcome.next (if_pos h)

/-! ## The check of a table (R144) -/

/-- The first failing entry of copy `x`, with its reason. -/
def State.ttFault (s : State) (x : Nat) : Option (Nat × Nat) :=
  (s.ttTasks x).findSome? (fun t => (s.ttFails x t).map (fun r => (t, r)))

theorem mem_ttTasks {x t : Nat} : t ∈ s.ttTasks x ↔ t < 128 ∧ s.ttValid x t = true := by
  rw [State.ttTasks, List.mem_filter, List.mem_range]

theorem ttTasks_rises (s : State) (x : Nat) : (s.ttTasks x).Pairwise (· < ·) := List.pairwise_lt_range.filter _

/-- A search of a rising list finds the least element with a result. -/
theorem findSome?_of_least {β : Type} {f : Nat → Option β} {xs : List Nat} {a : Nat} {b : β} (hrise : xs.Pairwise (· < ·))
    (ha : a ∈ xs) (hfa : f a = some b) (hleast : ∀ c ∈ xs, c < a → f c = none) : xs.findSome? f = some b := by
  induction xs with
  | nil => exact absurd ha List.not_mem_nil
  | cons x xs ih =>
    obtain ⟨hx, hrise⟩ := List.pairwise_cons.mp hrise
    obtain rfl | hmem := List.mem_cons.mp ha
    · rw [List.findSome?_cons, hfa]
    · rw [List.findSome?_cons, hleast x List.mem_cons_self (hx a hmem)]
      exact ih hrise hmem fun c hc => hleast c (List.mem_cons_of_mem x hc)

theorem ttFault_eq_none {x : Nat} (h : ∀ k : Fin 128, s.ttValid x k = true → s.ttFails x k = none) : s.ttFault x = none := by
  refine List.findSome?_eq_none_iff.mpr fun t ht => ?_
  obtain ⟨hlt, hvalid⟩ := mem_ttTasks.mp ht
  rw [h ⟨t, hlt⟩ hvalid, Option.map_none]

theorem ttFault_eq_some {x r : Nat} {k : Fin 128} (hvalid : s.ttValid x k = true) (hfails : s.ttFails x k = some r)
    (hfirst : ∀ j : Fin 128, j < k → s.ttValid x j = true → s.ttFails x j = none) : s.ttFault x = some (k.val, r) := by
  refine findSome?_of_least (ttTasks_rises s x) (mem_ttTasks.mpr ⟨k.isLt, hvalid⟩) (by rw [hfails, Option.map_some]) ?_
  intro t ht hlt
  obtain ⟨ht128, htvalid⟩ := mem_ttTasks.mp ht
  rw [hfirst ⟨t, ht128⟩ hlt htvalid, Option.map_none]

/-- R144 names four reasons. -/
theorem ttFails_lt {x t r : Nat} (h : s.ttFails x t = some r) : r < 4 := by
  unfold State.ttFails at h
  split_ifs at h <;> simp only [Option.some.injEq] at h <;> omega

/-! ## TT_ARM and TT_DISARM (R144 to R146) -/

/-- The switch shown as failed, for reason `r` at entry `t`. -/
def State.armFailed (s : State) (t r : Nat) : State :=
  ((s.p F.FCST_TT_CTL_STATE 3).p F.FCST_TT_ERR_REASON r).p F.FCST_TT_ERR_TASK t

/-- The switch armed for the target of FCST_TT_TGT. -/
def State.armed (s : State) : State :=
  let s := s.p F.FCST_TT_CTL_STATE 1
  { s with fc := { s.fc with ttTgt := s.ttTarget } }

theorem exec_ttArm_idle (hstate : s.g F.FCST_TT_CTL_STATE ≠ 1) : exec .ttArm s = .next (match s.ttFault (1 - s.ttSel) with
    | some (t, r) => s.armFailed t r
    | none => if s.ttTarget < s.tick + 2 then s.armFailed 0 4 else s.armed).ok :=
  congrArg (fun t => Host.Outcome.next (State.ok t)) (if_neg hstate)

theorem exec_ttArm_fault {t r : Nat} (hstate : s.g F.FCST_TT_CTL_STATE ≠ 1) (hfault : s.ttFault (1 - s.ttSel) = some (t, r)) :
    exec .ttArm s = .next (s.armFailed t r).ok := by
  rw [exec_ttArm_idle hstate, hfault]

theorem exec_ttArm_late (hstate : s.g F.FCST_TT_CTL_STATE ≠ 1) (hfault : s.ttFault (1 - s.ttSel) = none)
    (hlate : s.ttTarget < s.tick + 2) : exec .ttArm s = .next (s.armFailed 0 4).ok := by
  rw [exec_ttArm_idle hstate, hfault, if_pos hlate]

theorem exec_ttArm_sound (hstate : s.g F.FCST_TT_CTL_STATE ≠ 1) (hfault : s.ttFault (1 - s.ttSel) = none)
    (htarget : s.tick + 2 ≤ s.ttTarget) : exec .ttArm s = .next s.armed.ok := by
  rw [exec_ttArm_idle hstate, hfault, if_neg (Nat.not_lt.mpr htarget)]

theorem exec_ttArm_armed (hstate : s.g F.FCST_TT_CTL_STATE = 1) :
    exec .ttArm s = .next (s.flag F.FCST_STAT_CFG_REFUSED true).ok :=
  congrArg (fun t => Host.Outcome.next (State.ok t)) (if_pos hstate)

theorem exec_ttDisarm_armed (hstate : s.g F.FCST_TT_CTL_STATE = 1) :
    exec .ttDisarm s = .next (s.p F.FCST_TT_CTL_STATE 0).ok :=
  congrArg (fun t => Host.Outcome.next (State.ok t)) (if_pos hstate)

theorem exec_ttDisarm_otherwise (hstate : s.g F.FCST_TT_CTL_STATE ≠ 1) : exec .ttDisarm s = .next s.ok :=
  congrArg (fun t => Host.Outcome.next (State.ok t)) (if_neg hstate)

section
variable (s) (t r : Nat)

theorem state_armFailed : (s.armFailed t r).g F.FCST_TT_CTL_STATE = 3 := by
  rw [State.armFailed, g_p_reg _ _ _ _ (by decide), g_p_reg _ _ _ _ (by decide), g_p_self _ _ _ (by decide)]
  rfl

theorem reason_armFailed {r : Nat} (hr : r < 8) : (s.armFailed t r).g F.FCST_TT_ERR_REASON = r := by
  rw [State.armFailed, g_p_bits _ _ _ _ (.inr (by decide)) (by decide), g_p_self _ _ _ (by decide)]
  exact Nat.mod_eq_of_lt hr

theorem task_armFailed {t : Nat} (ht : t < 128) : (s.armFailed t r).g F.FCST_TT_ERR_TASK = t := by
  rw [State.armFailed, g_p_self _ _ _ (by decide)]
  exact Nat.mod_eq_of_lt ht

theorem confined_armFailed : confined s (s.armFailed t r) [R.FCST_TT_CTL, R.FCST_TT_ERR] :=
  have herr : R.FCST_TT_ERR ∈ [R.FCST_TT_CTL, R.FCST_TT_ERR] := List.mem_cons_of_mem _ List.mem_cons_self
  (((confined.refl s _).wr List.mem_cons_self).wr herr).wr herr

theorem armed_regs : s.armed.regs = (s.p F.FCST_TT_CTL_STATE 1).regs := rfl

theorem state_armed : s.armed.g F.FCST_TT_CTL_STATE = 1 := by
  rw [g_congr (armed_regs s), g_p_self _ _ _ (by decide)]
  rfl

theorem target_armed : s.armed.fc.ttTgt = s.rd64 R.FCST_TT_TGT_LO R.FCST_TT_TGT_HI := by
  change (s.p F.FCST_TT_CTL_STATE 1).rd64 R.FCST_TT_TGT_LO R.FCST_TT_TGT_HI = _
  rw [State.rd64, rd_p_ne _ _ _ (by decide), rd_p_ne _ _ _ (by decide), State.rd64]

theorem onlyRegs_armed : onlyRegs s s.armed [R.FCST_TT_CTL] := ((onlyRegs.refl s _).p List.mem_cons_self).upd

end

/-! ## TT_SEL_WRITE (R145, R147) -/

theorem exec_ttSelWrite_same {v : Fin 2} (hsel : v.val = s.g F.FCST_TT_CTL_SEL) : exec (.ttSelWrite v) s = .next s.ok :=
  congrArg (fun t => Host.Outcome.next (State.ok t)) (if_pos hsel)

theorem exec_ttSelWrite_running {v : Fin 2} (hsel : v.val ≠ s.g F.FCST_TT_CTL_SEL) (hrunning : s.running = true) :
    exec (.ttSelWrite v) s = .next (s.flag F.FCST_STAT_CFG_REFUSED true).ok :=
  congrArg (fun t => Host.Outcome.next (State.ok t)) ((if_neg hsel).trans (if_pos hrunning))

theorem exec_ttSelWrite_stopped {v : Fin 2} (hsel : v.val ≠ s.g F.FCST_TT_CTL_SEL) (hrunning : s.running = false) :
    exec (.ttSelWrite v) s = .next (s.switchTable v).warmup.ok :=
  congrArg (fun t => Host.Outcome.next (State.ok t)) ((if_neg hsel).trans (if_neg (ne_true_of_eq_false hrunning)))

/-- What a filter by keys leaves of a map. -/
theorem SMap.find_filter {β : Type} (q : Nat → Bool) (m : SMap β) (k : Nat) :
    SMap.find (m.filter fun e => q e.1) k = if q k = true then SMap.find m k else none := by
  induction m with
  | nil => simp
  | cons e m ih =>
    obtain ⟨a, v⟩ := e
    rw [List.filter_cons]
    by_cases hak : a = k
    · subst hak
      cases hq : q a with
      | true => simp [SMap.find]
      | false => simpa [hq] using ih
    · cases hq : q a with
      | true => simp [SMap.find, hak, ih]
      | false => simp [SMap.find, hak, ih]

/-- A register whose reset values are all 0. -/
theorem resetAt_of_zero {r : RegSpec} (h : r.reset = [0]) (ix : List Nat) : r.resetAt ix = 0 := by
  unfold RegSpec.resetAt
  rw [h]
  cases ix.getLastD 0 <;> rfl

/-- A register of the Forecast that is not 0 at reset ends in front of the calibrated estimates. -/
theorem fcst_member_or_reset {a : Nat} (h : 0x03010800 ≤ a) : ∀ r ∈ regsFcst, r.member a = none ∨ r.reset = [0] := by
  simp only [regsFcst, regsFcstA, regsFcstB, List.cons_append, List.nil_append, List.forall_mem_cons, RegSpec.member,
    RegSpec.indices, ite_eq_left_iff, ite_eq_right_iff, not_lt, reduceCtorEq, imp_false, List.cons.injEq,
    OfNat.ofNat_ne_zero, and_true, or_false, or_true, and_self, Option.map_if, Option.map_eq_none_iff, List.not_mem_nil,
    IsEmpty.forall_iff, implies_true, true_and]
  omega

theorem resetWord_eobs {a : Nat} (h : 0x03010800 ≤ a) (h' : a < 0x03011000) : resetWord a = 0 := by
  have hblock : blockRegs a = regsFcst := by
    rw [blockRegs, if_neg (by omega), show (a - 0x03000000) / 0x10000 = 1 by omega]
    rfl
  unfold resetWord regSpecAt
  rw [hblock]
  split
  · next r ix heq =>
    obtain ⟨r', hr', hmember⟩ := List.exists_of_findSome?_eq_some heq
    obtain ⟨ix', hix, hpair⟩ := Option.map_eq_some_iff.mp hmember
    obtain ⟨rfl, rfl⟩ := Prod.mk.inj hpair
    obtain hnone | hzero := fcst_member_or_reset h r' hr'
    · rw [hnone] at hix; cases hix
    · rw [resetAt_of_zero hzero]
      rfl
  · rfl

theorem rd_clearEobs (s : State) (a : Nat) :
    s.clearEobs.rd a = if a < 0x03010800 ∨ 0x03011000 ≤ a then s.rd a else 0 := by
  change (SMap.find (s.regs.filter fun e => decide (e.1 < 0x03010800 ∨ 0x03011000 ≤ e.1)) a).getD (resetWord a) = _
  rw [SMap.find_filter (fun a => decide (a < 0x03010800 ∨ 0x03011000 ≤ a))]
  by_cases h : a < 0x03010800 ∨ 0x03011000 ≤ a
  · rw [if_pos h, if_pos (decide_eq_true h)]
    rfl
  · rw [if_neg h, if_neg (by simpa using h)]
    exact resetWord_eobs (by omega) (by omega)

/-- The coefficient state of the first `n` tasks, lost but for those of `keep`. -/
def State.coefsKept (s : State) (keep : List Nat) (n : Nat) : State :=
  (List.range n).foldl (fun s t => if t ∈ keep then s else s.wr (R.XING_CS t) 0) s

section
variable (s) (keep : List Nat)

theorem coefsKept_succ (n : Nat) : s.coefsKept keep (n + 1) =
    if n ∈ keep then s.coefsKept keep n else (s.coefsKept keep n).wr (R.XING_CS n) 0 := by
  rw [State.coefsKept, List.range_succ, List.foldl_append]
  rfl

theorem coefsKept_kept (n : Nat) : (s.coefsKept keep n).fc = s.fc ∧ (s.coefsKept keep n).mem = s.mem ∧
    (s.coefsKept keep n).out = s.out := by
  induction n with
  | zero => exact ⟨rfl, rfl, rfl⟩
  | succ n ih =>
    rw [coefsKept_succ]
    split
    · exact ih
    · exact ih

theorem rd_coefsKept_ne {a n : Nat} (h : ∀ i, i < n → a ≠ R.XING_CS i) : (s.coefsKept keep n).rd a = s.rd a := by
  induction n with
  | zero => rfl
  | succ n ih =>
    have hprev := ih fun i hi => h i (Nat.lt_succ_of_lt hi)
    rw [coefsKept_succ]
    split
    · exact hprev
    · rw [rd_wr, if_neg (h n (Nat.lt_succ_self n)), hprev]

theorem rd_coefsKept {k n : Nat} (h : k < n) :
    (s.coefsKept keep n).rd (R.XING_CS k) = if k ∈ keep then s.rd (R.XING_CS k) else 0 := by
  have hinj {i j : Nat} (hij : R.XING_CS i = R.XING_CS j) : i = j := by unfold R.XING_CS at hij; omega
  induction n with
  | zero => omega
  | succ n ih =>
    rw [coefsKept_succ]
    by_cases hkn : k = n
    · subst hkn
      have hprev : (s.coefsKept keep k).rd (R.XING_CS k) = s.rd (R.XING_CS k) :=
        rd_coefsKept_ne s keep fun i hi heq => Nat.ne_of_gt hi (hinj heq)
      split
      · exact hprev
      · rw [rd_wr, if_pos rfl]
    · have hprev := ih (by omega)
      split
      · exact hprev
      · rw [rd_wr, if_neg fun heq => hkn (hinj heq), hprev]

end

/-- The tasks that continue into copy `x` (R147). -/
def State.keeps (s : State) (x : Nat) : List Nat := (List.range 128).filter (fun t => s.ttValid x t && s.continues x t)

theorem mem_keeps {x : Nat} (k : Fin 128) : k.val ∈ s.keeps x ↔ (s.ttValid x k && s.continues x k) = true := by
  rw [State.keeps, List.mem_filter, List.mem_range]
  exact and_iff_right k.isLt

section
variable (s) (x : Nat)

theorem switchTable_regs :
    (s.switchTable x).regs = ((s.clearEobs.p F.FCST_TT_CTL_SEL x).coefsKept (s.keeps x) 128).regs := rfl

theorem switchTable_kept : (s.switchTable x).mem = s.mem ∧ (s.switchTable x).out = s.out := by
  obtain ⟨-, hmem, hout⟩ := coefsKept_kept (s.clearEobs.p F.FCST_TT_CTL_SEL x) (s.keeps x) 128
  exact ⟨hmem, hout⟩

theorem tier_switchTable : (s.switchTable x).fc.tier = s.fc.tier.filter fun e => decide (e.1 ∈ s.keeps x) := by
  obtain ⟨hfc, -, -⟩ := coefsKept_kept (s.clearEobs.p F.FCST_TT_CTL_SEL x) (s.keeps x) 128
  change ((s.clearEobs.p F.FCST_TT_CTL_SEL x).coefsKept (s.keeps x) 128).fc.tier.filter _ = _
  rw [hfc]
  rfl

theorem find_tier_switchTable (k : Fin 128) : SMap.find (s.switchTable x).fc.tier k =
    if s.ttValid x k && s.continues x k then SMap.find s.fc.tier k else none := by
  rw [tier_switchTable, SMap.find_filter (fun t => decide (t ∈ s.keeps x))]
  simp only [decide_eq_true_eq, mem_keeps]

/-- A switch changes SEL, the coefficient states and the calibrated estimates alone. -/
theorem rd_switchTable_ne {a : Nat} (hcs : ∀ i, i < 128 → a ≠ R.XING_CS i) (hctl : a ≠ R.FCST_TT_CTL) :
    (s.switchTable x).rd a = if a < 0x03010800 ∨ 0x03011000 ≤ a then s.rd a else 0 := by
  rw [rd_congr (switchTable_regs s x), rd_coefsKept_ne _ _ hcs, rd_p_ne _ F.FCST_TT_CTL_SEL _ hctl, rd_clearEobs]

theorem sel_switchTable : (s.switchTable x).g F.FCST_TT_CTL_SEL = x % 2 := by
  have hcs (i : Nat) (_ : i < 128) : F.FCST_TT_CTL_SEL.reg ≠ R.XING_CS i := by
    simp only [F.FCST_TT_CTL_SEL, R.FCST_TT_CTL, R.XING_CS]; omega
  rw [g_congr (switchTable_regs s x), g_of_rd (rd_coefsKept_ne _ _ hcs)]
  exact g_p_self _ _ _ (by decide)

theorem coef_switchTable (k : Fin 128) : (s.switchTable x).rd (R.XING_CS k) =
    if s.ttValid x k && s.continues x k then s.rd (R.XING_CS k) else 0 := by
  have hctl : R.XING_CS k ≠ R.FCST_TT_CTL := by simp only [R.FCST_TT_CTL, R.XING_CS]; omega
  have heobs : R.XING_CS k < 0x03010800 ∨ 0x03011000 ≤ R.XING_CS k := by simp only [R.XING_CS]; omega
  rw [rd_congr (switchTable_regs s x), rd_coefsKept _ _ k.isLt, rd_p_ne _ F.FCST_TT_CTL_SEL _ hctl, rd_clearEobs, if_pos heobs]
  simp only [mem_keeps]

theorem eobs_switchTable (k : Fin 128) (n : Fin 4) : (s.switchTable x).g (F.FCST_EOBS_E_OBS k n) = 0 := by
  have hcs (i : Nat) (_ : i < 128) : R.FCST_EOBS k n ≠ R.XING_CS i := by simp only [R.FCST_EOBS, R.XING_CS]; omega
  have hctl : R.FCST_EOBS k n ≠ R.FCST_TT_CTL := by simp only [R.FCST_EOBS, R.FCST_TT_CTL]; omega
  have heobs : ¬ (R.FCST_EOBS k n < 0x03010800 ∨ 0x03011000 ≤ R.FCST_EOBS k n) := by simp only [R.FCST_EOBS]; omega
  have hrd := rd_switchTable_ne s x hcs hctl
  rw [if_neg heobs] at hrd
  simp [State.g, F.FCST_EOBS_E_OBS, hrd, bitsOf]

/-- The warm-up of R156 begins with the switch. -/
theorem warmup_switchTable : (s.switchTable x).warmup.g F.FCST_STAT_TT_WARMUP = 1 := g_flag_self _ _ _ rfl (by decide)

theorem rd_warmup_ne {a : Nat} (h : a ≠ R.FCST_STAT) : s.warmup.rd a = s.rd a := rd_flag_ne s F.FCST_STAT_TT_WARMUP _ h

end

end Sys2Proof.Machine
end

section
/-!
SUPPORT. The thermal update (R157, R158, R161) and the release of force_cap (R171, R172).
-/
namespace Sys2Proof.Machine

variable {s : State}

/-! ## What the steps of an update leave -/

section
variable (s)

/-- The reports of stale readings are messages (R332). -/
theorem staleTemps_kept (stale : BitVec 8) : (s.staleTemps stale).regs = s.regs ∧ (s.staleTemps stale).fc = s.fc ∧
    (s.staleTemps stale).mem = s.mem := by
  refine List.foldlRecOn (List.range 8) _ (motive := fun t : State => t.regs = s.regs ∧ t.fc = s.fc ∧ t.mem = s.mem)
    ⟨rfl, rfl, rfl⟩ fun t ht i _ => ?_
  split
  · exact ht
  · exact ht

theorem staleTemps_zero : s.staleTemps 0 = s := rfl

theorem rd_monitor_ne (m : Option Nat) {a : Nat} (hcal : a ≠ R.FCST_CAL) (himon : a ≠ R.PWR_IMON) :
    (s.monitor m).rd a = s.rd a := by
  rw [State.monitor, rd_flag_ne _ F.PWR_IMON_VALID _ himon, rd_flag_ne _ F.FCST_CAL_MON_VALID _ hcal]

theorem monValid_monitor (m : Option Nat) :
    (s.monitor m).g F.FCST_CAL_MON_VALID = if m.isSome && !(s.g F.PWR_STAT_WARN).testBit 0 then 1 else 0 := by
  rw [State.monitor, g_flag_ne _ F.PWR_IMON_VALID _ _ (.inl (by decide)) (by decide)]
  exact g_flag_self _ _ _ rfl (by decide)

theorem rd_showTemp_ne (f : Fld) (v : Int) {a : Nat} (h : a ≠ f.reg) : (s.showTemp f v).rd a = s.rd a :=
  (rd_p_ne _ f _ h).trans rfl

/-- FCST_TS.PTH shows P_th (R158, R160). -/
def State.showPth (s : State) : State :=
  let p := s.pthFrac
  let r := s.rounded p.1 (10 ^ 4 * p.2)
  r.1.p F.FCST_TS_PTH (clip 0 0xFFFF r.2).toNat

theorem rd_showPth_ne {a : Nat} (h : a ≠ R.FCST_TS) : s.showPth.rd a = s.rd a := (rd_p_ne _ F.FCST_TS_PTH _ h).trans rfl

/-! ## The power of an update (R157) -/

/-- The sum of the committed estimates starts anew. -/
def State.restartPower (s : State) : State := { s with fc := { s.fc with pwSum := 0, pwTicks := 0 } }

theorem thermPower_kept (m : Nat) : (s.thermPower m).1.regs = s.regs ∧ (s.thermPower m).1.mem = s.mem ∧
    (s.thermPower m).1.ft = s.ft ∧ (s.thermPower m).1.fc = s.restartPower.fc := by
  unfold State.thermPower
  split_ifs <;> exact ⟨rfl, rfl, rfl, rfl⟩

variable {s}

theorem thermPower_measured {m : Nat} (h : s.g F.FCST_CAL_MON_VALID = 1) : s.thermPower m = (s.restartPower, m) := by
  rw [State.thermPower, if_pos (on_of_g_eq_one h)]
  rfl

theorem thermPower_estimated {m : Nat} (h : s.g F.FCST_CAL_MON_VALID = 0) (hticks : 0 < s.fc.pwTicks) :
    s.thermPower m = (s.restartPower, s.fc.pwSum / s.fc.pwTicks) := by
  rw [State.thermPower, if_neg (ne_true_of_eq_false (on_of_g_eq_zero h)), if_pos hticks]
  rfl

/-- T_rise depends on the setting FCST_THERM and on the last T_rise alone. -/
theorem nextRise_congr {t : State} (hrd : t.rd R.FCST_THERM = s.rd R.FCST_THERM) (hrise : t.fc.tRise = s.fc.tRise) (p : Nat) :
    t.nextRise p = s.nextRise p := by
  rw [State.nextRise, g_of_rd (f := F.FCST_THERM_RTH) hrd, g_of_rd (f := F.FCST_THERM_TAU) hrd, hrise, State.nextRise]

end

/-! ## An update with a valid reading (R158) -/

/-- T_rise after an update in which `m` is the power measured (R157, R158). -/
def State.riseBy (s : State) (m : Nat) : Int := (s.thermPower m).1.nextRise (s.thermPower m).2

/-- The device with T_rise at `rise`. -/
def State.withRise (s : State) (rise : Int) : State := { s with fc := { s.fc with tRise := rise } }

/-- T_rise at `rise` and T_S at `tS`, with the release that they allow (R172). -/
def State.takeReading (s : State) (rise tS : Int) : State :=
  let due := if s.fc.release ∧ !s.fc.supplyLow then some (s.tick + 1) else s.fc.relTick
  { s with fc := { s.fc with tS := tS, tRef := tS - rise, therm := s.rd R.FCST_THERM, pthLive := true, relTick := due
                             release := s.fc.senseLow, senseLow := false } }

/-- The registers show T_rise, T_ref, T_S and P_th. -/
def State.showHeat (s : State) (rise tS : Int) : State :=
  ((((s.flag F.FCST_STAT_SENS_INVALID false).showTemp F.FCST_TH_T_RISE rise).showTemp F.FCST_TH_T_REF (tS - rise)).showTemp
    F.FCST_TS_T_S tS).showPth

theorem thermalUpdate_cons (m : Nat) (a : Int) (rest : List Int) : s.thermalUpdate m (a :: rest) =
    (((s.thermPower m).1.withRise (s.riseBy m)).takeReading (s.riseBy m) (rest.foldl max a * 2 ^ 26)).showHeat (s.riseBy m)
      (rest.foldl max a * 2 ^ 26) := rfl

section
variable (s) (rise tS : Int)

theorem showHeat_mem : (s.showHeat rise tS).mem = s.mem := rfl

theorem rd_showHeat_ne {a : Nat} (hth : a ≠ R.FCST_TH) (hts : a ≠ R.FCST_TS) :
    (s.showHeat rise tS).rd a = (s.flag F.FCST_STAT_SENS_INVALID false).rd a := by
  rw [State.showHeat, rd_showPth_ne _ hts, rd_showTemp_ne _ F.FCST_TS_T_S _ hts, rd_showTemp_ne _ F.FCST_TH_T_REF _ hth,
    rd_showTemp_ne _ F.FCST_TH_T_RISE _ hth]

theorem sensInvalid_showHeat : (s.showHeat rise tS).g F.FCST_STAT_SENS_INVALID = 0 := by
  rw [g_of_rd (rd_showHeat_ne s rise tS (by decide) (by decide))]
  exact g_flag_self _ _ _ rfl (by decide)

theorem monValid_showHeat : (s.showHeat rise tS).g F.FCST_CAL_MON_VALID = s.g F.FCST_CAL_MON_VALID := by
  rw [g_of_rd (rd_showHeat_ne s rise tS (by decide) (by decide))]
  exact g_flag_ne _ _ _ _ (.inl (by decide)) (by decide)

end

/-- What an update with T_rise `rise` and T_S `tS` leaves of `s`. -/
structure HeatTaken (rise tS : Int) (s t : State) : Prop where
  rise : t.fc.tRise = rise
  reading : t.fc.tS = tS
  ref : t.fc.tRef = t.fc.tS - t.fc.tRise
  live : t.fc.pthLive = true
  ticks : t.fc.pwTicks = 0
  valid : t.g F.FCST_STAT_SENS_INVALID = 0
  monitor : t.g F.FCST_CAL_MON_VALID = s.g F.FCST_CAL_MON_VALID
  mem : t.mem = s.mem

theorem thermalUpdate_takes {m p : Nat} {a : Int} {rest : List Int} (hpower : s.thermPower m = (s.restartPower, p)) :
    HeatTaken (s.nextRise p) (rest.foldl max a * 2 ^ 26) s (s.thermalUpdate m (a :: rest)) := by
  have hrise : s.riseBy m = s.nextRise p := by
    rw [State.riseBy, hpower]
    rfl
  rw [thermalUpdate_cons, hpower, hrise]
  exact ⟨rfl, rfl, rfl, rfl, rfl, sensInvalid_showHeat _ _ _, (monValid_showHeat _ _ _).trans (g_congr rfl _),
    (showHeat_mem _ _ _).trans rfl⟩

/-- THERMAL_UPDATE with a valid reading moves T_rise by the power of R157. -/
theorem exec_thermalUpdate_takes {power : Option Nat} {stale : BitVec 8} {a : Int} {rest : List Int} {p : Nat}
    (htemps : s.validTemps stale = a :: rest)
    (hpower : ((s.staleTemps stale).monitor power).thermPower (power.getD 0) =
      (((s.staleTemps stale).monitor power).restartPower, p)) :
    ∃ t, exec (.thermalUpdate power stale) s = .next t ∧
      HeatTaken (s.nextRise p) (rest.foldl max a * 2 ^ 26) ((s.staleTemps stale).monitor power) t := by
  obtain ⟨hregs, hfc, -⟩ := staleTemps_kept s stale
  have htherm : ((s.staleTemps stale).monitor power).rd R.FCST_THERM = s.rd R.FCST_THERM :=
    (rd_monitor_ne _ _ (by decide) (by decide)).trans (rd_congr hregs _)
  have htakes := thermalUpdate_takes (a := a) (rest := rest) hpower
  rw [nextRise_congr (s := s) htherm (congrArg Fcst.tRise hfc), ← htemps] at htakes
  exact ⟨_, rfl, htakes⟩

/-! ## An update without a valid reading (R161) -/

/-- THERM_SENSE goes out at the first update without a valid reading, and GALE is forced at each. -/
def State.loseReadings (s : State) (rise : Int) : State :=
  let s := if s.on F.FCST_STAT_SENS_INVALID then s else s.emit Kind.thermSense Src.forecast
  let s := (s.flag F.FCST_STAT_SENS_INVALID true).showTemp F.FCST_TH_T_RISE rise
  ({ s with fc := { s.fc with senseLow := true } }).forceGale

theorem thermalUpdate_nil (m : Nat) : s.thermalUpdate m [] =
    ((s.thermPower m).1.withRise (s.riseBy m)).loseReadings (s.riseBy m) := rfl

/-- What an update without a valid reading leaves of `s`. -/
structure HeatLost (s t : State) : Prop where
  invalid : t.g F.FCST_STAT_SENS_INVALID = 1
  forced : t.g F.FCST_STAT_FORCED = 1
  cap : t.g F.FCST_STAT_FORCE_CAP = 0
  shown : t.rd R.FCST_TS = s.rd R.FCST_TS
  ref : t.fc.tRef = s.fc.tRef
  ft : t.ft = if s.on F.FCST_STAT_SENS_INVALID then s.ft else (s.emit Kind.thermSense Src.forecast).ft
  mem : t.mem = s.mem

theorem rd_forceGale_ne (s : State) {a : Nat} (h : a ≠ R.FCST_STAT) : s.forceGale.rd a = s.rd a :=
  ((rd_p_ne _ F.FCST_STAT_FORCE_CAP _ h).trans (rd_flag_ne _ F.FCST_STAT_FORCED _ h)).trans rfl

theorem forced_forceGale (s : State) : s.forceGale.g F.FCST_STAT_FORCED = 1 :=
  (g_p_bits _ _ _ _ (.inl (by decide)) (by decide)).trans (g_flag_self _ _ _ rfl (by decide))

theorem cap_forceGale (s : State) : s.forceGale.g F.FCST_STAT_FORCE_CAP = 0 := g_p_self _ _ _ (by decide)

theorem sensInvalid_forceGale (s : State) : s.forceGale.g F.FCST_STAT_SENS_INVALID = s.g F.FCST_STAT_SENS_INVALID :=
  ((g_p_bits _ _ _ _ (.inl (by decide)) (by decide)).trans
    (g_flag_ne _ F.FCST_STAT_FORCED _ _ (.inr (.inr (by decide))) (by decide))).trans (g_congr rfl _)

theorem loseReadings_loses (s : State) (rise : Int) : HeatLost s (s.loseReadings rise) := by
  unfold State.loseReadings
  extract_lets u v
  have hu : u.regs = s.regs ∧ u.fc = s.fc ∧ u.mem = s.mem ∧
      u.ft = if s.on F.FCST_STAT_SENS_INVALID then s.ft else (s.emit Kind.thermSense Src.forecast).ft := by
    unfold u
    split <;> exact ⟨rfl, rfl, rfl, rfl⟩
  obtain ⟨hregs, hfc, hmem, hft⟩ := hu
  have hinvalid : v.g F.FCST_STAT_SENS_INVALID = 1 :=
    (g_of_rd (rd_showTemp_ne _ F.FCST_TH_T_RISE rise (by decide))).trans (g_flag_self u _ true rfl (by decide))
  have hshown : v.rd R.FCST_TS = u.rd R.FCST_TS :=
    (rd_showTemp_ne _ F.FCST_TH_T_RISE rise (by decide)).trans (rd_flag_ne u F.FCST_STAT_SENS_INVALID true (by decide))
  exact ⟨(sensInvalid_forceGale _).trans ((g_congr rfl _).trans hinvalid), forced_forceGale _, cap_forceGale _,
    (rd_forceGale_ne _ (by decide)).trans (hshown.trans (rd_congr hregs _)), (congrArg Fcst.tRef hfc :), hft, hmem⟩

theorem on_congr {t : State} (h : t.regs = s.regs) (f : Fld) : t.on f = s.on f := congrArg (· != 0) (g_congr h f)

theorem emit_ft_congr {t : State} (h : t.ft = s.ft) (kind src : Nat) : (t.emit kind src).ft = (s.emit kind src).ft := by
  rw [State.emit, State.emit, h]

theorem HeatLost.of_eq {r t : State} (h : HeatLost r t) (hregs : r.regs = s.regs) (href : r.fc.tRef = s.fc.tRef)
    (hft : r.ft = s.ft) (hmem : r.mem = s.mem) : HeatLost s t := by
  obtain ⟨hinvalid, hforced, hcap, hshown, href', hft', hmem'⟩ := h
  refine ⟨hinvalid, hforced, hcap, hshown.trans (rd_congr hregs _), href'.trans href, hft'.trans ?_, hmem'.trans hmem⟩
  rw [on_congr hregs, hft, emit_ft_congr hft]

theorem thermalUpdate_loses (s : State) (m : Nat) : HeatLost s (s.thermalUpdate m []) := by
  obtain ⟨hregs, hmem, hft, hfc⟩ := thermPower_kept s m
  rw [thermalUpdate_nil]
  exact (loseReadings_loses _ _).of_eq hregs (congrArg Fcst.tRef hfc :) hft hmem

/-- Without a valid reading the budget has no thermal term (R159, R161). -/
theorem hasThermal_of_invalid (h : s.g F.FCST_STAT_SENS_INVALID = 1) : s.hasThermal = false := by
  rw [State.hasThermal, on_of_g_eq_one h, Bool.not_true, Bool.and_false]

theorem exec_thermalUpdate_loses {power : Option Nat} {stale : BitVec 8} (htemps : s.validTemps stale = []) :
    ∃ t, exec (.thermalUpdate power stale) s = .next t ∧ HeatLost ((s.staleTemps stale).monitor power) t := by
  have hloses := thermalUpdate_loses ((s.staleTemps stale).monitor power) (power.getD 0)
  rw [← htemps] at hloses
  exact ⟨_, rfl, hloses⟩

/-! ## FORCE_CAP_RISE (R172) -/

/-- The cap shown is `n` from the release at boundary `r` on. -/
def State.capRaised (s : State) (r n : Nat) : State :=
  (({ s with fc := { s.fc with relTick := some r } } : State).p F.FCST_STAT_FORCE_CAP n).flag F.FCST_STAT_FORCED (decide (n < 3))

theorem exec_forceCapRise_due {r : Nat} (hdue : s.capDue = some r) (htick : r ≤ s.tick) (hcap : s.g F.FCST_STAT_FORCE_CAP < 3) :
    exec .forceCapRise s = .next (s.capRaised r (s.g F.FCST_STAT_FORCE_CAP + 1)) := by
  change execForceCapRise s = _
  unfold execForceCapRise
  rw [hdue]
  exact if_pos ⟨htick, hcap⟩

theorem exec_forceCapRise_early (h : ∀ r ∈ s.capDue, s.tick < r) : exec .forceCapRise s = .next s := by
  change execForceCapRise s = _
  unfold execForceCapRise
  dsimp only
  split
  · next r hdue => exact if_neg fun ⟨htick, _⟩ => Nat.not_lt.mpr htick (h r hdue)
  · rfl

section
variable (s) (r : Nat) {n : Nat}

theorem cap_capRaised (hn : n < 4) : (s.capRaised r n).g F.FCST_STAT_FORCE_CAP = n := by
  rw [State.capRaised, g_flag_ne _ F.FCST_STAT_FORCED _ _ (.inr (.inr (by decide))) (by decide), g_p_self _ _ _ (by decide)]
  exact Nat.mod_eq_of_lt hn

theorem forced_capRaised : (s.capRaised r n).g F.FCST_STAT_FORCED = 1 ↔ n < 3 := by
  rw [State.capRaised, g_flag_self _ _ _ rfl (by decide)]
  simp

theorem onlyRegs_capRaised : onlyRegs s (s.capRaised r n) [R.FCST_STAT] :=
  ((onlyRegs.refl s _).upd.p List.mem_cons_self).flag List.mem_cons_self

end

end Sys2Proof.Machine
end

section
/-!
SUPPORT. The statement about the task tables, their switch, the thermal update and the release of force_cap (R142 to R147,
R157 to R161, R171, R172).
-/
namespace Sys2Proof.Machine

/-- Settles O26: each clause is the rule of its command, with the frame of what the command leaves. -/
theorem taskTablesAndHeat : Obligations.TaskTablesAndHeat := by
  unfold Obligations.TaskTablesAndHeat
  refine ⟨?_, ?_, ?_, ?_, ?_, ?_, ?_, ?_, ?_, ?_, ?_, ?_, ?_, ?_, ?_, ?_, ?_⟩
  · -- TT_ENTRY_WRITE
    intro x k w v s hsel hstate
    refine ⟨_, exec_ttEntryWrite_free hsel hstate, ?_, ?_, ?_, (onlyRegs.refl s _).upd.ok⟩
    · rw [State.ttw, ok_fc]
      exact ttw_setTt x k w _
    · rw [ok_fc]
      exact sameButKey_setTt _ _
    · rw [ok_out, ok_out]
      rfl
  · -- TT_ENTRY_WRITE refused
    intro x k w v s h
    refine ⟨_, exec_ttEntryWrite_refused h, ?_, ?_, ((confined.refl s _).flag List.mem_cons_self).err⟩
    · rw [g_err]
      exact g_flag_self _ _ _ rfl (by decide)
    · rw [err_out, err_out, flag_out]
  · -- TT_ARM
    intro s hstate hsound htarget
    refine ⟨_, exec_ttArm_sound hstate (ttFault_eq_none hsound) htarget, ?_, ?_, (onlyRegs_armed s).ok⟩
    · rw [g_ok, state_armed]
    · rw [ok_fc, target_armed]
  · -- TT_ARM of a table with a failing entry
    intro k r s hstate hvalid hfails hfirst
    refine ⟨_, exec_ttArm_fault hstate (ttFault_eq_some hvalid hfails hfirst), ?_, ?_, ?_, (confined_armFailed s _ _).ok⟩
    · rw [g_ok, state_armFailed]
    · rw [g_ok, reason_armFailed _ _ (Nat.lt_trans (ttFails_lt hfails) (by decide))]
    · rw [g_ok, task_armFailed _ _ k.isLt]
  · -- TT_ARM too late
    intro s hstate hsound hlate
    refine ⟨_, exec_ttArm_late hstate (ttFault_eq_none hsound) hlate, ?_, ?_, (confined_armFailed s _ _).ok⟩
    · rw [g_ok, state_armFailed]
    · rw [g_ok, reason_armFailed _ _ (by decide)]
  · -- TT_ARM of a switch that is armed
    intro s hstate
    refine ⟨_, exec_ttArm_armed hstate, ?_, ((confined.refl s _).flag List.mem_cons_self).ok⟩
    rw [g_ok]
    exact g_flag_self _ _ _ rfl (by decide)
  · -- TT_DISARM of what is not armed
    intro s hstate
    exact ⟨_, exec_ttDisarm_otherwise hstate, rfl, (confined.refl s _).ok⟩
  · -- TT_DISARM
    intro s hstate
    refine ⟨_, exec_ttDisarm_armed hstate, ?_, ((confined.refl s _).wr List.mem_cons_self).ok⟩
    rw [g_ok]
    exact g_p_self _ _ _ (by decide)
  · -- TT_SEL_WRITE
    intro v s hsel hrunning
    obtain ⟨hmem, hout⟩ := switchTable_kept s v
    have hrd {a : Nat} (ha : a ≠ R.FCST_STAT) : (s.switchTable v).warmup.ok.rd a = (s.switchTable v).rd a :=
      (rd_ok _ a).trans (rd_warmup_ne _ ha)
    refine ⟨_, exec_ttSelWrite_stopped hsel (running_of_g_eq_zero hrunning), ?_, ?_, ?_, ?_, fun k => ?_, fun k => ?_,
      fun k n => ?_, ?_, fun a => ?_⟩
    · rw [g_of_rd (hrd (by decide)), sel_switchTable]
      exact Nat.mod_eq_of_lt v.isLt
    · rw [ok_fc]; rfl
    · rw [ok_fc]; rfl
    · rw [g_ok, warmup_switchTable]
    · rw [ok_fc]
      exact find_tier_switchTable s v k
    · rw [hrd (by simp only [R.XING_CS, R.FCST_STAT]; omega), coef_switchTable]
    · rw [g_of_rd (hrd (by simp only [F.FCST_EOBS_E_OBS, R.FCST_EOBS, R.FCST_STAT]; omega)), eobs_switchTable]
    · rw [ok_out, ok_out]
      exact congrArg (· ++ _) hout
    · exact byte_congr ((ok_mem (s.switchTable v).warmup).trans hmem) a
  · -- TT_SEL_WRITE of the copy in force
    intro v s hsel
    exact ⟨_, exec_ttSelWrite_same hsel, rfl, (confined.refl s _).ok⟩
  · -- TT_SEL_WRITE while ticks run
    intro v s hsel hrunning
    refine ⟨_, exec_ttSelWrite_running hsel (running_of_g_eq_one hrunning), ?_, ?_,
      ((confined.refl s _).flag List.mem_cons_self).ok⟩
    · rw [g_ok]
      exact g_flag_ne _ _ _ _ (.inl (by decide)) (by decide)
    · rw [g_ok]
      exact g_flag_self _ _ _ rfl (by decide)
  · -- THERMAL_UPDATE with a valid reading and a measured power
    intro p stale a rest s hwarn htemps
    obtain ⟨hregs, -, hmem⟩ := staleTemps_kept s stale
    have hmon : ((s.staleTemps stale).monitor (some p)).g F.FCST_CAL_MON_VALID = 1 := by
      rw [monValid_monitor, g_congr hregs, hwarn]
      rfl
    obtain ⟨t, ht, htaken⟩ := exec_thermalUpdate_takes htemps (thermPower_measured hmon)
    exact ⟨t, ht, htaken.rise, htaken.reading, htaken.ref, htaken.live, htaken.valid, htaken.monitor.trans hmon,
      byte_congr (htaken.mem.trans hmem)⟩
  · -- THERMAL_UPDATE with a valid reading and no valid measurement, after a tick
    intro p stale a rest s hinvalid htemps hticks
    obtain ⟨hregs, hfc, hmem⟩ := staleTemps_kept s stale
    have hmon : ((s.staleTemps stale).monitor p).g F.FCST_CAL_MON_VALID = 0 := by
      rw [monValid_monitor, g_congr hregs]
      obtain rfl | hwarn := hinvalid
      · rfl
      · rw [hwarn, Bool.not_true, Bool.and_false]
        rfl
    have hfc' : ((s.staleTemps stale).monitor p).fc = s.fc := hfc
    obtain ⟨t, ht, htaken⟩ := exec_thermalUpdate_takes htemps (thermPower_estimated hmon (by rwa [hfc']))
    rw [hfc'] at htaken
    exact ⟨t, ht, htaken.rise, htaken.reading, htaken.ref, htaken.ticks, htaken.valid, htaken.monitor.trans hmon,
      byte_congr (htaken.mem.trans hmem)⟩
  · -- THERMAL_UPDATE with no valid reading
    intro p stale s htemps hstale
    obtain ⟨t, ht, hlost⟩ := exec_thermalUpdate_loses (power := p) htemps
    rw [hstale, staleTemps_zero] at hlost
    obtain ⟨hinvalid, hforced, hcap, hshown, href, hft, hmem⟩ := hlost
    have hsens : (s.monitor p).g F.FCST_STAT_SENS_INVALID = s.g F.FCST_STAT_SENS_INVALID :=
      g_of_rd (rd_monitor_ne s p (by decide) (by decide))
    have hts : t.rd R.FCST_TS = s.rd R.FCST_TS := hshown.trans (rd_monitor_ne s p (by decide) (by decide))
    refine ⟨t, ht, hinvalid, hforced, hcap, hasThermal_of_invalid hinvalid, g_of_rd hts, g_of_rd hts, href, fun h => ?_,
      fun h => ?_, byte_congr hmem⟩
    · rw [hft, on_of_g_eq_zero (hsens.trans h)]
      rfl
    · rw [hft, on_of_g_eq_one (hsens.trans h)]
      rfl
  · -- THERMAL_UPDATE whose only valid reading comes back STALE
    intro p i s htemps
    obtain ⟨-, hfc, hmem⟩ := staleTemps_kept s (BitVec.ofNat 8 (2 ^ i.val))
    obtain ⟨t, ht, hlost⟩ := exec_thermalUpdate_loses (power := p) htemps
    exact ⟨t, ht, hlost.invalid, hlost.forced, hlost.cap, hasThermal_of_invalid hlost.invalid,
      hlost.ref.trans (congrArg Fcst.tRef hfc), byte_congr (hlost.mem.trans hmem)⟩
  · -- FORCE_CAP_RISE
    intro r s hdue htick hcap
    have hraised := cap_capRaised s r (Nat.succ_lt_succ hcap)
    refine ⟨_, exec_forceCapRise_due hdue htick hcap, hraised, ?_, rfl, onlyRegs_capRaised s r⟩
    rw [hraised]
    exact forced_capRaised s r
  · -- FORCE_CAP_RISE not yet due
    intro s h
    exact ⟨s, exec_forceCapRise_early h, rfl⟩

end Sys2Proof.Machine
end

section
/-!
SUPPORT. A condition that the statement about the capture rings leaves out: that SIZE is at most 262,144, the largest value R202
takes. XING_CAP_SIZE.SIZE has 19 bits, so a register store may hold more, and offsets of such a ring need not fit the 18 bits of
XING_CAP_WR.WR.
-/
namespace Sys2Proof.Machine

/-- Ring 0 with a staging buffer of 524,272 bytes and an open frame of one slot. The frame of 32 bytes begins at offset 262,112 and ends
at 2^18. No write of XING_CAP_SIZE leaves such a SIZE: `State.capWrite` refuses it, as R202 says. -/
def oversizedRing : State :=
  ((((State.reset.p (F.XING_CAP_SIZE_SIZE 0) 524272).p (F.XING_CAP_WR_WR 0) 262112).p
    (F.XING_CAP_CTL_COUNT 0) 1).flag (F.XING_CAP_CTL_EN 0) true).setCap 0 .open

/-- Behind the frame WR would have to show 2^18, and its 18 bits show 0. -/
theorem exec_captureFrameCommit_oversizedRing : ∃ t : State,
    exec (.captureFrameCommit 0) oversizedRing = .next t ∧ t.g (F.XING_CAP_WR_WR 0) = 0 :=
  ⟨_, rfl, by decide +kernel⟩

/-- Refutes O27: its clauses for CAPTURE_FRAME_COMMIT lack the condition that SIZE is at most 262,144. In `oversizedRing` the frame
does not wrap and lies in control memory, WR plus its bytes is 2^18, less than SIZE, and the commit leaves WR at 0. -/
theorem not_crossingTablesAreCheckedAndTaken : ¬ Obligations.CrossingTablesAreCheckedAndTaken := by
  unfold Obligations.CrossingTablesAreCheckedAndTaken
  rintro ⟨-, -, -, -, -, -, -, -, -, -, -, -, -, -, -, -, -, hframe, -⟩
  obtain ⟨t, hexec, hwr, -⟩ := hframe 0 oversizedRing (by decide +kernel) (by decide +kernel) (by decide +kernel)
    (by decide +kernel) (by decide +kernel)
  obtain ⟨u, hu, hzero⟩ := exec_captureFrameCommit_oversizedRing
  obtain rfl := Host.Outcome.next.inj (hu.symm.trans hexec)
  have hend : (oversizedRing.g (F.XING_CAP_WR_WR 0) + oversizedRing.capBytes 0) %
      oversizedRing.g (F.XING_CAP_SIZE_SIZE 0) = 262144 := by decide +kernel
  exact absurd (hzero.symm.trans (hwr.trans hend)) (by decide)

end Sys2Proof.Machine
end

section
/-!
SUPPORT. What the operations of the other blocks leave of the pair unit (spec/09), and what message traffic leaves (R384, R401 to R403).
-/
namespace Sys2Proof.Machine

/-! ## Folds -/

/-- Of the steps of a fold over distinct places, all but the one at `x` keep what `K` says is kept. -/
theorem foldl_at {α : Type} {K : State → State → Prop} (refl : ∀ s, K s s) (trans : ∀ {s t u}, K s t → K t u → K s u)
    {f : State → α → State} {xs : List α} {x : α} (hmem : x ∈ xs) (hnodup : xs.Nodup)
    (hf : ∀ t y, y ∈ xs → y ≠ x → K t (f t y)) (s : State) : ∃ t, K s t ∧ K (f t x) (xs.foldl f s) := by
  obtain ⟨before, after, rfl⟩ := List.append_of_mem hmem
  have hne : ∀ y, y ∈ before ∨ y ∈ after → y ≠ x := by
    rintro y hy rfl
    simp only [List.nodup_append, List.nodup_cons] at hnodup
    obtain ⟨-, ⟨hafter, -⟩, hbefore⟩ := hnodup
    exact hy.elim (fun h => hbefore y h y List.mem_cons_self rfl) hafter
  have hpart : ∀ ys : List α, (∀ y ∈ ys, y ∈ before ∨ y ∈ after) → ∀ t, K t (ys.foldl f t) := fun ys hys t =>
    List.foldlRecOn (motive := K t) ys f (refl t) fun u hu y hy =>
      trans hu (hf u y (by simpa [or_left_comm] using .inr (hys y hy)) (hne y (hys y hy)))
  refine ⟨before.foldl f s, hpart before (fun y => .inl) s, ?_⟩
  rw [List.foldl_append, List.foldl_cons]
  exact hpart after (fun y => .inr) _

/-- A part that no step of a fold changes is unchanged. -/
theorem foldl_part {α β : Type} {f : State → α → State} {part : State → β} (hf : ∀ t x, part (f t x) = part t) (xs : List α)
    (s : State) : part (xs.foldl f s) = part s :=
  List.foldlRecOn (motive := fun t => part t = part s) xs f rfl fun t ht x _ => (hf t x).trans ht

/-! ## Waiting fault messages (R283) -/

/-- A message that is added is among those that wait, by its kind. -/
theorem addMsg_self (ms : List FMsg) (m : FMsg) : ∃ n ∈ addMsg ms m, n.kind = m.kind := by
  induction ms with
  | nil => exact ⟨m, List.mem_cons_self, rfl⟩
  | cons x xs ih =>
    unfold addMsg
    split
    · next h => exact ⟨_, List.mem_cons_self, h.1⟩
    · obtain ⟨n, hn, hk⟩ := ih
      exact ⟨n, List.mem_cons_of_mem x hn, hk⟩

/-- A message that waits is not displaced by one that is added. -/
theorem addMsg_kept {ms : List FMsg} {a : FMsg} (ha : a ∈ ms) (m : FMsg) : ∃ n ∈ addMsg ms m, n.kind = a.kind := by
  induction ms with
  | nil => cases ha
  | cons x xs ih =>
    unfold addMsg
    split
    · obtain rfl | ha := List.mem_cons.mp ha
      · exact ⟨_, List.mem_cons_self, rfl⟩
      · exact ⟨a, List.mem_cons_of_mem _ ha, rfl⟩
    · obtain rfl | ha := List.mem_cons.mp ha
      · exact ⟨a, List.mem_cons_self, rfl⟩
      · obtain ⟨n, hn, hk⟩ := ih ha
        exact ⟨n, List.mem_cons_of_mem x hn, hk⟩

theorem emit_reports (s : State) (kind src addr count : Nat) : ∃ f ∈ (s.emit kind src addr count).ft.blocks, f.kind = kind :=
  addMsg_self _ _

/-! ## What is kept beside a block -/

/-- `t` has the registers of `r` in `P`, its pair unit, its time unit and its ports; what `r` has sent stands first in what `t` has
sent, and each kind of fault that waits in `r` waits in `t`. -/
structure UnitKept (P : Nat → Prop) (r t : State) : Prop where
  rd : ∀ a, P a → t.rd a = r.rd a
  pr : t.pr = r.pr
  tm : t.tm = r.tm
  ng : t.ng = r.ng
  pw : t.pw = r.pw
  out : r.out <+: t.out
  kinds : ∀ m ∈ r.ft.blocks, ∃ n ∈ t.ft.blocks, n.kind = m.kind

/-- The registers of the PAIR block. -/
abbrev onPair (a : Nat) : Prop := a / 0x10000 = 0x0304

/-- A register that no message traffic changes: it is no count of credits and not the count of messages without a route. -/
def besideMsgs (a : Nat) : Prop := a < 0x03090200 ∧ a ≠ R.FAB_MSG_NOROUTE

/-- No register of `P` is of cluster `c` or of the Forecast. -/
def OffCluster (P : Nat → Prop) (c : Nat) : Prop := ∀ a, P a → a / 0x100000 ≠ 0x10 + c ∧ a / 0x10000 ≠ 0x0301

/-- No register of `P` is of the Levee. -/
def OffLevee (P : Nat → Prop) : Prop := ∀ a, P a → a / 0x10000 ≠ 0x0303

theorem OffCluster.not {P : Nat → Prop} {a c : Nat} (h : OffCluster P c) (ha : a / 0x100000 = 0x10 + c) : ¬ P a :=
  fun hP => (h a hP).1 ha

theorem onPair.besideMsgs {a : Nat} (h : onPair a) : besideMsgs a := by
  unfold onPair at h
  unfold Machine.besideMsgs R.FAB_MSG_NOROUTE
  omega

theorem offCluster_onPair {c : Nat} (hc : c < 16) : OffCluster onPair c := fun a h => by
  unfold onPair at h
  omega

theorem offLevee_onPair : OffLevee onPair := fun a h => by
  unfold onPair at h
  omega

namespace UnitKept

variable {P : Nat → Prop} {r s : State}

theorem refl (s : State) : UnitKept P s s := ⟨fun _ _ => rfl, rfl, rfl, rfl, rfl, ⟨[], List.append_nil _⟩, fun m hm => ⟨m, hm, rfl⟩⟩

theorem trans {t : State} (h : UnitKept P r s) (h' : UnitKept P s t) : UnitKept P r t where
  rd a ha := (h'.rd a ha).trans (h.rd a ha)
  pr := h'.pr.trans h.pr
  tm := h'.tm.trans h.tm
  ng := h'.ng.trans h.ng
  pw := h'.pw.trans h.pw
  out := h.out.trans h'.out
  kinds m hm := by
    obtain ⟨n, hn, hkn⟩ := h.kinds m hm
    obtain ⟨k, hk, hkk⟩ := h'.kinds n hn
    exact ⟨k, hk, hkk.trans hkn⟩

theorem mono {Q : Nat → Prop} (h : UnitKept P r s) (hQ : ∀ a, Q a → P a) : UnitKept Q r s :=
  ⟨fun a ha => h.rd a (hQ a ha), h.pr, h.tm, h.ng, h.pw, h.out, h.kinds⟩

theorem g (h : UnitKept P r s) {f : Fld} (hf : P f.reg) : s.g f = r.g f := g_of_rd (h.rd f.reg hf)

theorem on (h : UnitKept P r s) {f : Fld} (hf : P f.reg) : s.on f = r.on f := congrArg (· != 0) (h.g hf)

theorem tick (h : UnitKept P r s) : s.tick = r.tick := congrArg (fun m => m.tick.toNat) h.tm

theorem ngl (h : UnitKept P r s) (p : Nat) : s.ngl p = r.ngl p := congrArg (SMap.get nglDefault · p) h.ng

/-- A kind of fault that waits goes on waiting. -/
theorem reported (h : UnitKept P r s) {k : Nat} (hk : ∃ f ∈ r.ft.blocks, f.kind = k) : ∃ f ∈ s.ft.blocks, f.kind = k := by
  obtain ⟨m, hm, rfl⟩ := hk
  exact h.kinds m hm

theorem ite {c : Prop} [Decidable c] {t : State} (h : UnitKept P r s) (h' : UnitKept P r t) :
    UnitKept P r (if c then s else t) := by split <;> assumption

theorem foldlMem {α : Type} {f : State → α → State} {xs : List α} (h : UnitKept P r s)
    (hf : ∀ t, ∀ x ∈ xs, UnitKept P r t → UnitKept P r (f t x)) : UnitKept P r (xs.foldl f s) :=
  List.foldlRecOn (motive := UnitKept P r) xs f h fun t ht x hx => hf t x hx ht

theorem foldl {α : Type} {f : State → α → State} {xs : List α} (h : UnitKept P r s)
    (hf : ∀ t x, UnitKept P r t → UnitKept P r (f t x)) : UnitKept P r (xs.foldl f s) := h.foldlMem fun t x _ => hf t x

variable (h : UnitKept P r s)
include h

/-- Parts of the state beside registers, pair unit, time unit, ports, faults and what has been sent do not matter. -/
theorem upd {pending mem latch irq cl fc xg mx hs lv sp fb et br ck freeCtr} :
    UnitKept P r ⟨pending, s.regs, mem, latch, s.out, irq, cl, fc, xg, s.tm, s.ft, mx, s.pr, hs, lv, sp, s.ng, fb, et, br, ck,
      s.pw, freeCtr⟩ := ⟨h.rd, h.pr, h.tm, h.ng, h.pw, h.out, h.kinds⟩

theorem wr {a : Nat} {v : Word} (ha : ¬ P a) : UnitKept P r (s.wr a v) :=
  ⟨fun b hb => by rw [rd_wr, if_neg fun e : b = a => ha (e ▸ hb), h.rd b hb], h.pr, h.tm, h.ng, h.pw, h.out, h.kinds⟩

theorem p {f : Fld} {v : Nat} (hf : ¬ P f.reg) : UnitKept P r (s.p f v) := h.wr hf
theorem flag {f : Fld} {b : Bool} (hf : ¬ P f.reg) : UnitKept P r (s.flag f b) := h.p hf
theorem bump {f : Fld} {n : Nat} (hf : ¬ P f.reg) : UnitKept P r (s.bump f n) := h.p hf
theorem inc {a n : Nat} (ha : ¬ P a) : UnitKept P r (s.inc a n) := h.bump ha

theorem emit {kind src addr count : Nat} : UnitKept P r (s.emit kind src addr count) :=
  h.trans ⟨fun _ _ => rfl, rfl, rfl, rfl, rfl, ⟨[], List.append_nil _⟩, fun _ hm => addMsg_kept hm _⟩

theorem send {o : Out} : UnitKept P r (s.send o) :=
  h.ite <| h.trans ⟨fun _ _ => rfl, rfl, rfl, rfl, rfl, ⟨_, rfl⟩, fun m hm => ⟨m, hm, rfl⟩⟩

/-! ### Memory and clusters -/

theorem touchBank {b : Nat} (hP : ¬ P R.MEM_WAKE_CNT) : UnitKept P r (s.touchBank b) := (h.upd.inc hP).ite h

theorem writeW {a : Nat} {v : Word} (hwake : ¬ P R.MEM_WAKE_CNT) (hinj : ¬ P R.MEM_INJ_CTL) : UnitKept P r (s.writeW a v) := by
  unfold State.writeW
  split
  · exact h
  · exact ((h.touchBank hwake).upd.flag hinj).ite (h.touchBank hwake).upd

theorem storeWords {a : Nat} {ws : List Word} (hwake : ¬ P R.MEM_WAKE_CNT) (hinj : ¬ P R.MEM_INJ_CTL) :
    UnitKept P r (s.storeWords a ws) := by
  induction ws generalizing s a with
  | nil => exact h
  | cons w ws ih => exact ih (h.writeW hwake hinj)

theorem completeTask {c late : Nat} (hc : c < 16) (hP : OffCluster P c) : UnitKept P r (s.completeTask c late) := by
  have hact : ¬ P (R.FCST_ACT c 8) := fun ha => (hP _ ha).2 (by unfold R.FCST_ACT; omega)
  have hcnt : ¬ P (R.ARITH_CNT c) := hP.not (by unfold R.ARITH_CNT; omega)
  have hlast : ¬ P (R.CL_CYC_LAST c) := hP.not (by unfold R.CL_CYC_LAST; omega)
  have hmax : ¬ P (R.CL_CYC_MAX c) := hP.not (by unfold R.CL_CYC_MAX; omega)
  have htask : ¬ P (R.CL_TASK c) := hP.not (by unfold R.CL_TASK; omega)
  have hstat : ¬ P (R.CL_STAT c) := hP.not (by unfold R.CL_STAT; omega)
  have hends : UnitKept P r (s.endMessages c) :=
    have harith := h.ite (h.bump (f := F.ARITH_CNT_COUNT c) hcnt).emit
    (harith.ite harith.emit).upd
  have hcycles : UnitKept P r ((s.endMessages c).recordCycles c (s.g (F.CL_TASK_TASK c)) ((s.clu c).cyc + late)) :=
    have hl := (hends.p (f := F.CL_CYC_LAST_TASK c) hlast).p (f := F.CL_CYC_LAST_CYCLES c) hlast
    ((hl.p (f := F.CL_CYC_MAX_TASK c) hmax).p (f := F.CL_CYC_MAX_CYCLES c) hmax).ite hl
  have hidle (n : Nat) : UnitKept P r ((((s.endMessages c).recordCycles c (s.g (F.CL_TASK_TASK c)) ((s.clu c).cyc + late)).countAct
      c 8 n).flag (F.CL_TASK_ACTIVE c) false) := (hcycles.inc hact).upd.flag (f := F.CL_TASK_ACTIVE c) htask
  have hstate (n : Nat) := (hidle n).p (f := F.CL_STAT_STATE c) (v := 2) hstat
  exact (hstate _).upd.upd.ite (hstate _).upd

theorem powerOff {c : Nat} (hP : ¬ P (R.CL_STAT c)) : UnitKept P r (s.powerOff c) := h.upd.p (f := F.CL_STAT_STATE c) hP

theorem wakeOne {c : Nat} (hP : ¬ P (R.CL_STAT c)) : UnitKept P r (s.wakeOne c) := (h.p (f := F.CL_STAT_STATE c) hP).upd

theorem wakeClusters (hP : ∀ c < 16, OffCluster P c) : UnitKept P r s.wakeClusters :=
  h.foldlMem fun t c hc ht =>
    have hc : c < 16 := List.mem_range.mp (List.mem_filter.mp hc).1
    ht.wakeOne ((hP c hc).not (by unfold R.CL_STAT; omega))

/-- One step of `State.clustersOff`. -/
theorem clusterOff {c : Nat} (hc : c < 16) (hP : OffCluster P c) : UnitKept P r
    (((if s.g (F.CL_STAT_STATE c) = 5 then s.completeTask c 0 else s).powerOff c).flag (F.CL_TASK_ACTIVE c) false) :=
  (((h.completeTask hc hP).ite h).powerOff (hP.not (by unfold R.CL_STAT; omega))).flag
    (f := F.CL_TASK_ACTIVE c) (hP.not (by simp only [F.CL_TASK_ACTIVE, R.CL_TASK]; omega))

theorem clustersOff (hP : ∀ c < 16, OffCluster P c) : UnitKept P r s.clustersOff :=
  h.foldlMem fun _ c hc ht => ht.clusterOff (List.mem_range.mp hc) (hP c (List.mem_range.mp hc))

/-! ### The ports and the Levee -/

theorem showDrive {n : Nat} (hP : ¬ P (R.SAP_STAT n)) : UnitKept P r (s.showDrive n) :=
  (h.flag (f := F.SAP_STAT_SDOUT_DRV n) hP).flag (f := F.SAP_STAT_CLK_DRV n) hP

theorem showDrives (hP : ∀ n < 24, ¬ P (R.SAP_STAT n)) : UnitKept P r s.showDrives :=
  h.foldlMem fun _ n hn ht => ht.showDrive (hP n (List.mem_range.mp hn))

theorem leveeStandby (hP : OffLevee P) : UnitKept P r s.leveeStandby := by
  have hels : UnitKept P r (s.boundEls.foldl State.standbyEl s) := h.foldlMem fun t e he ht =>
    have he : e < 96 := List.mem_range.mp (List.mem_of_mem_filter he)
    ((ht.upd.p (f := F.LEVEE_EL_GATE_Q e) fun ha => hP _ ha (by simp only [F.LEVEE_EL_GATE_Q, R.LEVEE_EL_GATE]; omega)).p
      (f := F.LEVEE_EL_GAIN_G e) fun ha => hP _ ha (by simp only [F.LEVEE_EL_GAIN_G, R.LEVEE_EL_GAIN]; omega))
  exact (hels.p (f := F.LEVEE_STAT_GRP_MUTE) fun ha => hP _ ha (by decide)).ite h

/-! ### Messages -/

theorem creditBack {held : Option Nat} {c n : Nat} : UnitKept P r (s.creditBack held c n) := by
  unfold State.creditBack
  split
  · exact h.ite h.send
  · exact h

variable (hP : ∀ a, P a → besideMsgs a)
include hP

theorem credits {p c v : Nat} : UnitKept P r (s.p (credField p c) v) :=
  h.p fun ha => by
    have := (hP _ ha).1
    unfold credField at this
    split at this
    · simp only [F.FAB_PORT_CRED_CTRL, R.FAB_PORT_CRED] at this; omega
    · simp only [F.FAB_PORT_CRED_BULK, R.FAB_PORT_CRED] at this; omega

theorem pumpQueue {p c : Nat} {ms : List TxMsg} : UnitKept P r (s.pumpQueue p c ms).1 := by
  induction ms generalizing s with
  | nil => exact h
  | cons m ms ih =>
    unfold State.pumpQueue
    extract_lets n paid credited
    have hc : UnitKept P r credited := (h.ite (h.credits hP)).creditBack
    split
    · exact ih hc.send
    · exact hc

theorem sendPort {p : Nat} {e : Env} {ws : List Word} {held : Option Nat} : UnitKept P r (s.sendPort p e ws held) :=
  h.send.ite <| h.ite <| h.upd.ite (h.upd.pumpQueue hP).upd

theorem noRoute : UnitKept P r (s.inc R.FAB_MSG_NOROUTE) := h.inc fun ha => (hP _ ha).2 rfl

theorem sendMsg {e : Env} {ws : List Word} : UnitKept P r (s.sendMsg e ws) := by
  unfold State.sendMsg
  refine ite ?_ (h.noRoute hP)
  split
  · exact h.sendPort hP
  · exact h.noRoute hP

theorem tetherSend {type : Nat} {ws : List Word} : UnitKept P r (s.tetherSend type ws) := (h.sendPort hP).ite h

theorem askSweep : UnitKept P r s.askSweep := (h.sendPort hP).ite h

end UnitKept

end Sys2Proof.Machine
end

section
/-!
SUPPORT. Messages that leave and that arrive (R384, R401 to R403): what they leave of memory, and what is sent where nothing holds a
message back.
-/
namespace Sys2Proof.Machine

variable {s : State}

/-! ## Memory -/

@[simp] theorem creditBack_mem (held : Option Nat) (c n : Nat) : (s.creditBack held c n).mem = s.mem := by
  unfold State.creditBack
  split
  · split
    · rfl
    · exact send_mem s _
  · rfl

theorem pumpQueue_mem (p c : Nat) (ms : List TxMsg) : (s.pumpQueue p c ms).1.mem = s.mem := by
  induction ms generalizing s with
  | nil => rfl
  | cons m ms ih =>
    unfold State.pumpQueue
    extract_lets n paid credited
    have hc : credited.mem = s.mem := by
      unfold credited
      rw [creditBack_mem]
      unfold paid
      split <;> rfl
    split
    · rw [ih, send_mem, hc]
    · exact hc

@[simp] theorem sendPort_mem (p : Nat) (e : Env) (ws : List Word) (held : Option Nat) : (s.sendPort p e ws held).mem = s.mem := by
  unfold State.sendPort
  split
  · exact send_mem s _
  · split
    · rfl
    · dsimp only
      unfold State.pump
      split
      · rfl
      · exact pumpQueue_mem _ _ _

@[simp] theorem sendMsg_mem (e : Env) (ws : List Word) : (s.sendMsg e ws).mem = s.mem := by
  unfold State.sendMsg
  split
  · split
    · exact sendPort_mem _ _ _ _
    · rfl
  · rfl

@[simp] theorem tetherSend_mem (type : Nat) (ws : List Word) : (s.tetherSend type ws).mem = s.mem := by
  unfold State.tetherSend
  split
  · exact sendPort_mem _ _ _ _
  · rfl

/-! ## Arrivals -/

theorem portActive_of_active {p : Nat} (h : s.g (F.NGL_STAT_STATE p) = 6) : s.portActive p = true := by
  unfold State.portActive
  rw [h]
  rfl

theorem portActive_of_not_active {p : Nat} (h : s.g (F.NGL_STAT_STATE p) ≠ 6) : s.portActive p = false := by
  unfold State.portActive
  exact beq_false_of_ne h

/-- A message for this device that its port takes is delivered, and its credits go back. -/
theorem received_of_taken {p : Nat} {e : Env} {t : Nat} {ws : List Word} {deliver : State → State}
    (h : s.g (F.NGL_STAT_STATE p) = 6 ∧ s.g F.FAB_ID_VALID = 1 ∧ e.dst = s.g F.FAB_ID_ID)
    (hroom : msgClass t = 0 → s.expressFull p = false) :
    s.received p e t ws deliver = (deliver s).creditBack (some p) (msgClass t) (fragsOf ws) := by
  obtain ⟨hactive, hvalid, hdst⟩ := h
  unfold State.received
  rw [portActive_of_active hactive, on_of_g_eq_one hvalid]
  have hfull : ¬ (msgClass t = 0 ∧ s.expressFull p = true) := fun ⟨hc, hf⟩ => by simp [hroom hc] at hf
  simp only [Bool.not_true, Bool.false_eq_true, if_false, hfull]
  exact if_pos hdst

/-- A message of the express class takes no credits. -/
theorem received_express {p : Nat} {e : Env} {t : Nat} {ws : List Word} {deliver : State → State} (h : s.arrives p e)
    (ht : msgClass t = 0) : s.received p e t ws deliver = deliver s := by
  obtain ⟨hactive, hvalid, hdst, hroom⟩ := h
  rw [received_of_taken ⟨hactive, hvalid, hdst⟩ fun _ => hroom, ht]
  rfl

theorem expressFull_of_empty (h : s.fb.txq = []) (p : Nat) : s.expressFull p = false := by
  unfold State.expressFull
  rw [h]
  rfl

/-! ## Departures -/

theorem send_of_unowned (h : s.pw.owned = false) (o : Out) : s.send o = { s with out := s.out ++ [o] } := by
  unfold State.send
  rw [h]
  rfl

/-- Every waiting express message leaves. -/
theorem mem_pumpQueue_express {p : Nat} {ms : List TxMsg} {m : TxMsg} (hm : m ∈ ms) (howned : s.pw.owned = false) :
    Out.msg p m.env m.ws ∈ (s.pumpQueue p 0 ms).1.out := by
  induction ms generalizing s with
  | nil => cases hm
  | cons x xs ih =>
    have hstep : s.pumpQueue p 0 (x :: xs) = ((s.creditBack x.held 0 x.frags).send (.msg p x.env x.ws)).pumpQueue p 0 xs := by
      simp [State.pumpQueue]
    have hback : s.creditBack x.held 0 x.frags = s := by
      unfold State.creditBack
      split
      · exact if_pos (.inl rfl)
      · rfl
    rw [hstep, hback, send_of_unowned howned]
    obtain rfl | hm := List.mem_cons.mp hm
    · have hkept : UnitKept (fun _ => False) { s with out := s.out ++ [Out.msg p m.env m.ws] } _ :=
        (UnitKept.refl _).pumpQueue (fun _ h => h.elim) (p := p) (c := 0) (ms := xs)
      exact hkept.out.subset (by simp)
    · exact ih hm howned

/-- An express message on a port that is not quiet leaves. -/
theorem mem_sendPort_express {p : Nat} {e : Env} {ws : List Word} (hclass : msgClass e.type = 0)
    (hactive : s.portActive p = true) (hquiet : (s.ngl p).quiet = false) (howned : s.pw.owned = false) :
    Out.msg p e ws ∈ (s.sendPort p e ws).out := by
  unfold State.sendPort
  split
  · rw [send_of_unowned howned]; simp
  · rw [hactive]
    simp only [Bool.not_true, Bool.false_eq_true, if_false]
    unfold State.pump
    split
    · next h => exact absurd (h.symm.trans hquiet) (by decide)
    · rw [hclass]
      refine mem_pumpQueue_express (m := ⟨e, ws, fragsOf ws, none⟩) ?_ howned
      rw [SMap.get_set_self]
      simp

/-- The credits of class `c` on port `p` after `n` fragments. Express messages take none. -/
def State.paid (s : State) (p c n : Nat) : State := if c = 0 then s else s.p (credField p c) (s.g (credField p c) - n)

theorem paid_kept (s : State) (p c n : Nat) : (s.paid p c n).pw = s.pw ∧ (s.paid p c n).fb = s.fb ∧ (s.paid p c n).out = s.out := by
  unfold State.paid
  split <;> exact ⟨rfl, rfl, rfl⟩

/-- A message for which there is credit leaves a queue that holds no other. -/
theorem pump_single {p c : Nat} {m : TxMsg} (hqueue : s.fb.txq = [(3 * p + c, [m])]) (hheld : m.held = none)
    (hquiet : (s.ngl p).quiet = false) (howned : s.pw.owned = false) (hcred : c ≠ 0 → m.frags ≤ s.g (credField p c)) :
    s.pump p c = { s.paid p c m.frags with fb := { s.fb with txq := [] }, out := s.out ++ [.msg p m.env m.ws] } := by
  have hget : SMap.get noMsgs s.fb.txq (3 * p + c) = [m] := by simp [hqueue, SMap.get, SMap.find]
  have hset : SMap.set noMsgs s.fb.txq (3 * p + c) [] = [] := by simp [hqueue, SMap.set, noMsgs, SMap.erase]
  have hall : (if c = 0 then m.frags else min m.frags (s.g (credField p c))) = m.frags := by
    split
    · rfl
    · next hc => exact Nat.min_eq_left (hcred hc)
  obtain ⟨hpw, hfb, hout⟩ := paid_kept s p c m.frags
  have hleaves : s.pumpQueue p c [m] = ((s.paid p c m.frags).send (.msg p m.env m.ws), []) := by
    unfold State.pumpQueue
    dsimp only
    rw [hall, if_pos rfl, hheld]
    rfl
  unfold State.pump
  rw [if_neg (Bool.eq_false_iff.mp hquiet), hget, hleaves]
  dsimp only
  rw [send_of_unowned (hpw ▸ howned), hout]
  dsimp only
  rw [hfb, hset]

/-- With nothing waiting and credit for it, a message on a port that is not quiet is all that leaves. -/
theorem sendPort_of_empty {p : Nat} {e : Env} {ws : List Word} (htype : e.type ≠ 10) (hactive : s.portActive p = true)
    (hquiet : (s.ngl p).quiet = false) (hempty : s.fb.txq = []) (howned : s.pw.owned = false)
    (hcred : msgClass e.type ≠ 0 → fragsOf ws ≤ s.g (credField p (msgClass e.type))) :
    s.sendPort p e ws = { s.paid p (msgClass e.type) (fragsOf ws) with out := s.out ++ [.msg p e ws] } := by
  have hset (k : Nat) (m : TxMsg) : SMap.set noMsgs s.fb.txq k (SMap.get noMsgs s.fb.txq k ++ [m]) = [(k, [m])] := by
    simp [hempty, SMap.set, noMsgs, SMap.insert]
  unfold State.sendPort
  rw [if_neg htype, hactive]
  simp only [Bool.not_true, Bool.false_eq_true, if_false, hset]
  have hleaves := pump_single (s := { s with fb := { s.fb with txq := [(3 * p + msgClass e.type, [⟨e, ws, fragsOf ws, none⟩])] } })
    rfl rfl hquiet howned hcred
  refine hleaves.trans ?_
  have hfb : { s.fb with txq := [] } = s.fb := congrArg (fun q => { s.fb with txq := q }) hempty.symm
  unfold State.paid
  dsimp only
  rw [hfb]
  split <;> rfl

end Sys2Proof.Machine
end

section
/-!
SUPPORT. The operations of the pair unit (spec/09): which fields of the PAIR block each may change, and what it leaves there
(R242, R244, R245, R253, R262).
-/
namespace Sys2Proof.Machine

/-! ## Only some fields of the PAIR block -/

/-- The field `f` shares no bit with a field of `gs`. -/
def Fld.clearOf (f : Fld) (gs : List Fld) : Bool :=
  decide (f.hi < 32) && gs.all fun g => f.reg != g.reg || decide (f.hi < g.lo) || decide (g.hi < f.lo)

/-- The register at `a` as one field. -/
def Fld.whole (a : Nat) : Fld := ⟨a, 31, 0⟩

/-- From `r` to `t` no field of the PAIR block changes but those that share bits with a field of `gs`. -/
structure OnlyFields (gs : List Fld) (r t : State) : Prop where
  g : ∀ f : Fld, onPair f.reg → f.clearOf gs = true → t.g f = r.g f

namespace OnlyFields

variable {gs : List Fld} {r s : State}

theorem refl (s : State) : OnlyFields gs s s := ⟨fun _ _ _ => rfl⟩

theorem trans {t : State} (h : OnlyFields gs r s) (h' : OnlyFields gs s t) : OnlyFields gs r t :=
  ⟨fun f hf hc => (h'.g f hf hc).trans (h.g f hf hc)⟩

theorem mono {gs' : List Fld} (h : OnlyFields gs r s) (hgs : gs ⊆ gs') : OnlyFields gs' r s :=
  ⟨fun f hf hc => h.g f hf <| by
    simp only [Fld.clearOf, Bool.and_eq_true, List.all_eq_true] at hc ⊢
    exact ⟨hc.1, fun g hg => hc.2 g (hgs hg)⟩⟩

/-- A register of which no field of `gs` is a part reads the same. -/
theorem rd (h : OnlyFields gs r s) {a : Nat} (ha : onPair a) (hc : (Fld.whole a).clearOf gs = true) : s.rd a = r.rd a := by
  have hg := h.g (Fld.whole a) ha hc
  simp only [State.g, Fld.whole, bitsOf_whole] at hg
  exact BitVec.eq_of_toNat_eq hg

theorem on (h : OnlyFields gs r s) {f : Fld} (hf : onPair f.reg) (hc : f.clearOf gs = true) : s.on f = r.on f :=
  congrArg (· != 0) (h.g f hf hc)

theorem ite {c : Prop} [Decidable c] {t : State} (h : OnlyFields gs r s) (h' : OnlyFields gs r t) :
    OnlyFields gs r (if c then s else t) := by split <;> assumption

theorem foldl {α : Type} {f : State → α → State} {xs : List α} (h : OnlyFields gs r s)
    (hf : ∀ t x, OnlyFields gs r t → OnlyFields gs r (f t x)) : OnlyFields gs r (xs.foldl f s) :=
  List.foldlRecOn (motive := OnlyFields gs r) xs f h fun t ht x _ => hf t x ht

variable (h : OnlyFields gs r s)
include h

/-- What leaves the PAIR block leaves its fields. -/
theorem kept {t : State} (hk : UnitKept onPair s t) : OnlyFields gs r t := ⟨fun f hf hc => (hk.g hf).trans (h.g f hf hc)⟩

/-- Parts of the state beside the registers do not matter. -/
theorem upd {pending mem latch out irq cl fc xg tm ft mx pr hs lv sp ng fb et br ck pw freeCtr} :
    OnlyFields gs r ⟨pending, s.regs, mem, latch, out, irq, cl, fc, xg, tm, ft, mx, pr, hs, lv, sp, ng, fb, et, br, ck, pw,
      freeCtr⟩ := ⟨h.g⟩

theorem emit {kind src addr count : Nat} : OnlyFields gs r (s.emit kind src addr count) := h.upd

theorem p {f : Fld} {v : Nat} (hf : f ∈ gs) : OnlyFields gs r (s.p f v) := by
  refine ⟨fun g hg hc => (g_p_ne s f g v ?_ ?_).trans (h.g g hg hc)⟩
  · simp only [Fld.clearOf, Bool.and_eq_true, List.all_eq_true, Bool.or_eq_true, bne_iff_ne, decide_eq_true_eq] at hc
    obtain ⟨-, hall⟩ := hc
    exact or_assoc.mp (hall f hf)
  · simp only [Fld.clearOf, Bool.and_eq_true, decide_eq_true_eq] at hc
    exact hc.1

theorem flag {f : Fld} {b : Bool} (hf : f ∈ gs) : OnlyFields gs r (s.flag f b) := h.p hf
theorem bump {f : Fld} {n : Nat} (hf : f ∈ gs) : OnlyFields gs r (s.bump f n) := h.p hf
theorem inc {a n : Nat} (ha : Fld.whole a ∈ gs) : OnlyFields gs r (s.inc a n) := h.bump ha

theorem wr {a : Nat} {v : Word} (ha : Fld.whole a ∈ gs) : OnlyFields gs r (s.wr a v) := by
  have hp : s.wr a v = s.p (Fld.whole a) v.toNat := by simp [State.p, Fld.whole]
  rw [hp]
  exact h.p ha

theorem wr64 {lo hi v : Nat} (hlo : Fld.whole lo ∈ gs) (hhi : Fld.whole hi ∈ gs) : OnlyFields gs r (s.wr64 lo hi v) :=
  (h.wr hlo).wr hhi

/-! ### Operations of the pair unit -/

end OnlyFields

/-- The fields that a stale checkpoint or a whole pass changes. -/
def ckptFields : List Fld := [F.PAIR_STAT_CKPT, F.PAIR_STAT_READY]

/-- The fields that a change of role changes. -/
def roleFields : List Fld := [F.PAIR_STAT_ROLE, F.PAIR_STAT_DRIVING, F.PAIR_STAT_CKPT, F.PAIR_STAT_READY]

/-- The fields that tell of the pilot's silence. -/
def pilotFields : List Fld := [F.PAIR_STAT_PILOT_LOST, F.PAIR_STAT_PILOT_PATH]

variable {s : State}

/-! ## Checkpoint and Tether (R252, R262) -/

/-- A pass that counts begins anew. -/
def State.passSpoilt (s : State) : State := { s with pr := { s.pr with passClean := false } }

/-- The checkpoint of a FRESH standby is HEALING. -/
def State.healing (s : State) : State :=
  (s.passSpoilt.p F.PAIR_STAT_CKPT 2).emit Kind.ckptStale (Src.pair 0) s.tick

/-- What a stale checkpoint can be: that of a device that is not FRESH stays, a FRESH one heals, and one that was in sync is so no
more. -/
theorem ckptStale_cases (s : State) : (s.g F.PAIR_STAT_CKPT ≠ 3 ∧ s.ckptStale = s.passSpoilt) ∨
    (s.g F.PAIR_STAT_CKPT = 3 ∧ (s.ckptStale = s.healing ∨ s.ckptStale = s.healing.p F.PAIR_STAT_READY 0)) := by
  by_cases h : s.g F.PAIR_STAT_CKPT = 3
  · have hs : s.ckptStale = if s.healing.g F.PAIR_STAT_READY = 1 ∨ s.healing.g F.PAIR_STAT_READY = 2 then
        s.healing.p F.PAIR_STAT_READY 0 else s.healing := if_pos h
    refine .inr ⟨h, ?_⟩
    rw [hs]
    split
    · exact .inr rfl
    · exact .inl rfl
  · exact .inl ⟨h, if_neg h⟩

theorem onlyFields_healing : OnlyFields ckptFields s s.healing := ((OnlyFields.refl s).upd.p (by decide)).emit

theorem onlyFields_ckptStale : OnlyFields ckptFields s s.ckptStale := by
  obtain ⟨-, h⟩ | ⟨-, h | h⟩ := ckptStale_cases s
  · exact h ▸ (OnlyFields.refl s).upd
  · exact h ▸ onlyFields_healing
  · exact h ▸ onlyFields_healing.p (by decide)

theorem onlyRegs.ckptStale {r : State} {rs : List Nat} (h : onlyRegs r s rs) (hrs : R.PAIR_STAT ∈ rs) :
    onlyRegs r s.ckptStale rs := by
  have hheal : onlyRegs r s.healing rs := (h.upd.p (f := F.PAIR_STAT_CKPT) hrs).upd
  obtain ⟨-, hs⟩ | ⟨-, hs | hs⟩ := ckptStale_cases s
  · exact hs ▸ h.upd
  · exact hs ▸ hheal
  · exact hs ▸ hheal.p hrs

/-- CKPT of a FRESH checkpoint becomes HEALING, any other stays. -/
theorem ckpt_ckptStale : s.ckptStale.g F.PAIR_STAT_CKPT = if s.g F.PAIR_STAT_CKPT = 3 then 2 else s.g F.PAIR_STAT_CKPT := by
  have hheal : s.healing.g F.PAIR_STAT_CKPT = 2 := g_p_self s.passSpoilt _ _ (by decide)
  obtain ⟨hc, h⟩ | ⟨hc, h | h⟩ := ckptStale_cases s
  · rw [h, if_neg hc]; rfl
  · rw [h, if_pos hc, hheal]
  · rw [h, if_pos hc, g_p_ne _ _ _ _ (.inr (.inr (by decide))) (by decide), hheal]

theorem ckptStale_pr : s.ckptStale.pr = { s.pr with passClean := false } := by
  obtain ⟨-, h⟩ | ⟨-, h | h⟩ := ckptStale_cases s <;> rw [h] <;> rfl

theorem ckptStale_kinds {k : Nat} (h : ∃ f ∈ s.ft.blocks, f.kind = k) : ∃ f ∈ s.ckptStale.ft.blocks, f.kind = k := by
  obtain ⟨m, hm, rfl⟩ := h
  obtain ⟨-, h⟩ | ⟨-, h | h⟩ := ckptStale_cases s
  · exact h ▸ ⟨m, hm, rfl⟩
  · exact h ▸ addMsg_kept hm _
  · exact h ▸ addMsg_kept hm _

theorem tetherLost_of_known (h : s.g F.PAIR_STAT_TETHER_DOWN = 1) : s.tetherLost = s := if_pos (on_of_g_eq_one h)

/-- TETHER_DOWN is raised and reported. -/
def State.tetherTold (s : State) : State :=
  (s.flag F.PAIR_STAT_TETHER_DOWN true).emit Kind.tetherDown (Src.pair s.tether) s.partner

theorem tetherLost_of_new (h : s.g F.PAIR_STAT_TETHER_DOWN = 0) : s.tetherLost = s.tetherTold.ckptStale :=
  if_neg (by rw [on_of_g_eq_zero h]; decide)

theorem g_tetherTold : s.tetherTold.g F.PAIR_STAT_TETHER_DOWN = 1 := g_flag_self s _ true rfl (by decide)

theorem ckpt_tetherTold : s.tetherTold.g F.PAIR_STAT_CKPT = s.g F.PAIR_STAT_CKPT :=
  g_flag_ne s F.PAIR_STAT_TETHER_DOWN F.PAIR_STAT_CKPT true (.inr (by decide)) (by decide)

/-- A Tether that goes down is reported, and a FRESH checkpoint heals. -/
theorem tetherLost_effect (h : s.g F.PAIR_STAT_TETHER_DOWN = 0) : s.tetherLost.g F.PAIR_STAT_TETHER_DOWN = 1 ∧
    (∃ f ∈ s.tetherLost.ft.blocks, f.kind = Kind.tetherDown) ∧
    (s.tetherLost.g F.PAIR_STAT_CKPT = if s.g F.PAIR_STAT_CKPT = 3 then 2 else s.g F.PAIR_STAT_CKPT) ∧
    onlyRegs s s.tetherLost [R.PAIR_STAT] := by
  rw [tetherLost_of_new h, ckpt_ckptStale, ckpt_tetherTold]
  refine ⟨?_, ckptStale_kinds (emit_reports _ _ _ _ _), rfl, ?_⟩
  · exact (onlyFields_ckptStale.g _ (by decide) (by decide)).trans g_tetherTold
  · exact onlyRegs.ckptStale ((onlyRegs.refl s _).flag List.mem_cons_self).upd List.mem_cons_self

theorem onlyFields_tetherLost : OnlyFields (F.PAIR_STAT_TETHER_DOWN :: ckptFields) s s.tetherLost :=
  (OnlyFields.refl s).ite <|
    ((OnlyFields.refl s).flag List.mem_cons_self).emit.trans (onlyFields_ckptStale.mono (List.subset_cons_self _ _))

theorem tetherLost_peerGrant : s.tetherLost.pr.peerGrant = s.pr.peerGrant := by
  unfold State.tetherLost
  split
  · rfl
  · rw [ckptStale_pr]
    rfl

theorem onlyFields_tetherBack : OnlyFields [F.PAIR_STAT_TETHER_DOWN] s s.tetherBack :=
  ((OnlyFields.refl s).flag List.mem_cons_self).ite (OnlyFields.refl s)

theorem tetherBack_pr : s.tetherBack.pr = s.pr := by
  unfold State.tetherBack
  split <;> rfl

/-! ## The pilot's silence (R253) -/

/-- Whether both members of the pair miss the pilot. -/
def State.bothMiss (s : State) : Bool := s.pr.miss && s.pr.peer.any Beat.miss

/-- PILOT_LOST and PILOT_PATH follow, after a report where one of them is raised. -/
theorem pilotBits_eq (s : State) : ∃ u : State, UnitKept (fun _ => True) s u ∧ u.mem = s.mem ∧ s.pilotBits =
    (u.flag F.PAIR_STAT_PILOT_LOST s.bothMiss).flag F.PAIR_STAT_PILOT_PATH (s.pr.miss && !s.bothMiss) := by
  have hboth : (s.pr.miss && (match s.pr.peer with | some b => b.miss | none => false)) = s.bothMiss := by
    unfold State.bothMiss
    cases s.pr.peer <;> rfl
  unfold State.pilotBits
  extract_lets both own lost path
  refine ⟨path, ?_, ?_, ?_⟩
  · have hlost : UnitKept (fun _ => True) s lost := (UnitKept.refl s).emit.ite (UnitKept.refl s)
    exact hlost.emit.ite hlost
  · have hlost : lost.mem = s.mem := by unfold lost; split <;> rfl
    unfold path
    split
    · exact hlost
    · exact hlost
  · exact congrArg (fun b => (path.flag F.PAIR_STAT_PILOT_LOST b).flag F.PAIR_STAT_PILOT_PATH (s.pr.miss && !b)) hboth

theorem lost_pilotBits : s.pilotBits.g F.PAIR_STAT_PILOT_LOST = if s.bothMiss then 1 else 0 := by
  obtain ⟨u, -, -, h⟩ := pilotBits_eq s
  rw [h, g_flag_ne _ _ _ _ (.inr (.inl (by decide))) (by decide), g_flag_self _ _ _ rfl (by decide)]

theorem path_pilotBits : s.pilotBits.g F.PAIR_STAT_PILOT_PATH = if s.pr.miss && !s.bothMiss then 1 else 0 := by
  obtain ⟨u, -, -, h⟩ := pilotBits_eq s
  rw [h, g_flag_self _ _ _ rfl (by decide)]

/-- PILOT_LOST and PILOT_PATH are all that changes, beside faults. -/
theorem unitKept_pilotBits {P : Nat → Prop} (hP : ¬ P R.PAIR_STAT) : UnitKept P s s.pilotBits := by
  obtain ⟨u, hu, -, h⟩ := pilotBits_eq s
  exact h ▸ ((hu.mono fun _ _ => trivial).flag hP).flag hP

theorem onlyFields_pilotBits : OnlyFields pilotFields s s.pilotBits := by
  obtain ⟨u, hu, -, h⟩ := pilotBits_eq s
  exact h ▸ (((OnlyFields.refl s).kept (hu.mono fun _ _ => trivial)).flag (by decide)).flag (by decide)

theorem pilotBits_pr : s.pilotBits.pr = s.pr := (unitKept_pilotBits (P := fun _ => False) id).pr

theorem pilotBits_mem : s.pilotBits.mem = s.mem := by
  obtain ⟨u, -, hu, h⟩ := pilotBits_eq s
  exact h ▸ hu

theorem onlyRegs.pilotBits {r : State} {rs : List Nat} (h : onlyRegs r s rs) (hrs : R.PAIR_STAT ∈ rs) :
    onlyRegs r s.pilotBits rs := by
  obtain ⟨hregs, hmem⟩ := h
  have hkept := unitKept_pilotBits (s := s) (P := (· ≠ R.PAIR_STAT)) fun h => h rfl
  exact ⟨fun a ha => (hkept.rd a (ne_of_mem_of_not_mem hrs ha).symm).trans (hregs a ha),
    fun a => (byte_congr pilotBits_mem a).trans (hmem a)⟩

/-! ## Roles and driving (R244, R245) -/

theorem sapStat_not_onPair (n : Nat) (hn : n < 24) : ¬ onPair (R.SAP_STAT n) := by
  unfold onPair R.SAP_STAT
  omega

theorem unitKept_showDrives : UnitKept onPair s s.showDrives := (UnitKept.refl s).showDrives sapStat_not_onPair

theorem showDrives_mem : s.showDrives.mem = s.mem :=
  foldl_part (f := State.showDrive) (part := State.mem) (fun _ _ => rfl) (List.range 24) s

/-- A device that may not drive drives no port. -/
theorem released_showDrives (n : Fin 24) (h : s.mayDrive = false) :
    s.showDrives.g (F.SAP_STAT_SDOUT_DRV n) = 0 ∧ s.showDrives.g (F.SAP_STAT_CLK_DRV n) = 0 := by
  have hdrive : ∀ t y, y ∈ List.range 24 → y ≠ n.val →
      UnitKept (fun a => onPair a ∨ a = R.SAP_STAT n) t (t.showDrive y) := fun t y hy hne =>
    (UnitKept.refl t).showDrive fun ha => ha.elim (sapStat_not_onPair y (List.mem_range.mp hy)) fun e => by
      unfold R.SAP_STAT at e
      omega
  obtain ⟨t, ht, hfinal⟩ := foldl_at UnitKept.refl UnitKept.trans (List.mem_range.mpr n.isLt) List.nodup_range hdrive s
  have hmay : t.mayDrive = false := by
    rw [← h]
    unfold State.mayDrive
    rw [ht.on (.inl (by decide)), ht.on (.inl (by decide))]
  have hstat : t.showDrive n =
      (t.flag (F.SAP_STAT_SDOUT_DRV n) false).flag (F.SAP_STAT_CLK_DRV n) false := by
    unfold State.showDrive
    dsimp only
    rw [hmay, Bool.and_false, Bool.and_false]
  constructor
  · calc s.showDrives.g (F.SAP_STAT_SDOUT_DRV n) = (t.showDrive n).g (F.SAP_STAT_SDOUT_DRV n) := hfinal.g (.inr rfl)
      _ = 0 := by
        rw [hstat, g_flag_ne _ _ _ _ (.inr (by simp [F.SAP_STAT_CLK_DRV, F.SAP_STAT_SDOUT_DRV]))
          (by simp [F.SAP_STAT_SDOUT_DRV])]
        exact g_flag_self t (F.SAP_STAT_SDOUT_DRV n) false rfl (by simp [F.SAP_STAT_SDOUT_DRV])
  · calc s.showDrives.g (F.SAP_STAT_CLK_DRV n) = (t.showDrive n).g (F.SAP_STAT_CLK_DRV n) := hfinal.g (.inr rfl)
      _ = 0 := by
        rw [hstat]
        exact g_flag_self _ (F.SAP_STAT_CLK_DRV n) false rfl (by simp [F.SAP_STAT_CLK_DRV])

theorem unitKept_reqEnd : UnitKept onPair s s.reqEnd :=
  have h := ((UnitKept.refl s).flag (P := onPair) (f := F.FAULT_FOREQ_REQ) (b := false) (by decide)).flag
    (f := F.FAULT_FOREQ_WITHHELD) (b := false) (by decide)
  ⟨h.rd, h.pr, h.tm, h.ng, h.pw, h.out, h.kinds⟩

/-- The state in which the role shown is `n`. -/
def State.showRole (s : State) (n : Nat) : State :=
  (s.p F.PAIR_STAT_ROLE n).flag F.PAIR_STAT_DRIVING (n == 2 || (n == 5 && s.on F.PAIR_STAT_DRIVING))

theorem setRole_same : s.setRole s.role = s := if_pos rfl

/-- A change of role shows the new one, and after that changes at most the checkpoint and the readiness of a former standby. -/
theorem setRole_shows {n : Nat} (h : n ≠ s.role) : OnlyFields ckptFields (s.showRole n) (s.setRole n) ∧
    (s.setRole n).pr = s.pr ∧ (s.setRole n).mem = s.mem := by
  unfold State.setRole
  extract_lets old drive shown ended emptied left
  have hended : UnitKept onPair (s.showRole n) ended := (unitKept_reqEnd).ite (UnitKept.refl _)
  have hmem : ended.mem = s.mem := by unfold ended; split <;> rfl
  have hleft : OnlyFields ckptFields (s.showRole n) left ∧ left.pr = ended.pr ∧ left.mem = ended.mem := by
    have hckpt : OnlyFields ckptFields (s.showRole n) emptied :=
      ((OnlyFields.refl _).kept hended).p (by decide)
    unfold left
    split
    · split
      · exact ⟨hckpt.p (by decide), rfl, rfl⟩
      · exact ⟨hckpt, rfl, rfl⟩
    · exact ⟨(OnlyFields.refl _).kept hended, rfl, rfl⟩
  rw [if_neg h]
  obtain ⟨hfields, hpr, hm⟩ := hleft
  exact ⟨hfields.kept unitKept_showDrives, (unitKept_showDrives.pr.trans hpr).trans hended.pr,
    (showDrives_mem.trans hm).trans hmem⟩

theorem role_setRole {n : Nat} (hn : n < 8) : (s.setRole n).g F.PAIR_STAT_ROLE = n := by
  by_cases h : n = s.role
  · subst h; rw [setRole_same]; rfl
  · rw [(setRole_shows h).1.g _ (by decide) (by decide)]
    unfold State.showRole
    rw [g_flag_ne _ _ _ _ (.inr (.inr (by decide))) (by decide), g_p_self _ _ _ (by decide)]
    exact Nat.mod_eq_of_lt hn

theorem driving_setRole {n : Nat} (h : n ≠ s.role) :
    (s.setRole n).g F.PAIR_STAT_DRIVING = if n == 2 || (n == 5 && s.on F.PAIR_STAT_DRIVING) then 1 else 0 := by
  rw [(setRole_shows h).1.g _ (by decide) (by decide)]
  exact g_flag_self _ _ _ rfl (by decide)

theorem onlyFields_setRole {n : Nat} : OnlyFields roleFields s (s.setRole n) := by
  by_cases h : n = s.role
  · subst h; rw [setRole_same]; exact OnlyFields.refl s
  · exact (((OnlyFields.refl s).p (by decide)).flag (by decide)).trans ((setRole_shows h).1.mono (by decide))

theorem setRole_pr {n : Nat} : (s.setRole n).pr = s.pr := by
  by_cases h : n = s.role
  · subst h; rw [setRole_same]
  · exact (setRole_shows h).2.1

end Sys2Proof.Machine
end

section
/-!
SUPPORT. Grants, and what a device learns of its partner's (R244, R249 to R254): the effect of each command of the pair unit.
-/
namespace Sys2Proof.Machine

variable {s : State}

/-! ## Arrival at a paired device -/

theorem paired_of_en (h : s.g F.PAIR_CFG_EN = 1) : s.paired = true := on_of_g_eq_one h

theorem unpaired_of_en (h : s.g F.PAIR_CFG_EN = 0) : s.paired = false := on_of_g_eq_zero h

/-- A paired device takes an express message that arrives. -/
theorem received_paired {p : Nat} {e : Env} {t : Nat} {ws : List Word} {f : State → State} (h : s.arrives p e)
    (ht : msgClass t = 0) (hen : s.g F.PAIR_CFG_EN = 1) :
    s.received p e t ws (fun s => if s.paired then f s else s) = f s := by
  rw [received_express h ht, if_pos (paired_of_en hen)]

/-- An unpaired device drops it. -/
theorem received_unpaired {p : Nat} {e : Env} {t : Nat} {ws : List Word} {f : State → State} (h : s.arrives p e)
    (ht : msgClass t = 0) (hen : s.g F.PAIR_CFG_EN = 0) :
    s.received p e t ws (fun s => if s.paired then f s else s) = s := by
  rw [received_express h ht, if_neg (by rw [unpaired_of_en hen]; decide)]

theorem exec_grant {p : Fin 8} {e : Env} (g : BitVec 16 × BitVec 64) (ns : Nat) (h : s.arrives p e)
    (hen : s.g F.PAIR_CFG_EN = 1) :
    exec (.grant p e g ns) s = .next (s.granted (g.1.toNat, g.2.toNat) (15 - e.hops) ns) :=
  congrArg Host.Outcome.next (received_paired h rfl hen)

theorem exec_grant_unpaired {p : Fin 8} {e : Env} (g : BitVec 16 × BitVec 64) (ns : Nat) (h : s.arrives p e)
    (hen : s.g F.PAIR_CFG_EN = 0) : exec (.grant p e g ns) s = .next s :=
  congrArg Host.Outcome.next (received_unpaired h rfl hen)

theorem exec_revoke {p : Fin 8} {e : Env} (g : BitVec 16 × BitVec 64) (h : s.arrives p e) (hen : s.g F.PAIR_CFG_EN = 1) :
    exec (.revoke p e g) s = .next (s.peerHolds (g.1.toNat, g.2.toNat)) :=
  congrArg Host.Outcome.next (received_paired h rfl hen)

theorem exec_grantCopy {p : Fin 8} {e : Env} (g : BitVec 16 × BitVec 64) (h : s.arrives p e) (hen : s.g F.PAIR_CFG_EN = 1) :
    exec (.grantCopy p e g) s = .next (s.peerHolds (g.1.toNat, g.2.toNat)) :=
  congrArg Host.Outcome.next (received_paired h rfl hen)

theorem exec_notice {p : Fin 8} {e : Env} (g : BitVec 16 × BitVec 64) (h : s.arrives p e) (hen : s.g F.PAIR_CFG_EN = 1) :
    exec (.notice p e g) s = .next ((s.pilotSeen (15 - e.hops)).peerHolds (g.1.toNat, g.2.toNat)) :=
  congrArg Host.Outcome.next (received_paired h rfl hen)

/-! ## The fence (R254) -/

/-- A device that fences drives no port, and its outputs are released. -/
theorem exec_fence_due (h : s.g F.PAIR_CFG_EN = 1 ∧ s.g F.TICK_STAT_RUNNING = 1 ∧ s.g F.PAIR_STAT_DRIVING = 1)
    (hdue : s.fenceDue = true) : exec .fence s =
      .next (({ s with pr := { s.pr with fence := true } } : State).flag F.PAIR_STAT_DRIVING false).showDrives := by
  obtain ⟨hen, hrun, hdrive⟩ := h
  exact if_pos ⟨paired_of_en hen, running_of_g_eq_one hrun, on_of_g_eq_one hdrive, hdue⟩

/-- A field of one bit that is on is 1. -/
theorem g_eq_one_of_on {f : Fld} (hbit : f.hi = f.lo) (h : s.on f = true) : s.g f = 1 := by
  have hlt : s.g f < 2 ^ (f.hi + 1 - f.lo) := bitsOf_lt _ _ _
  rw [hbit, Nat.add_sub_cancel_left] at hlt
  have hne : s.g f ≠ 0 := bne_iff_ne.mp h
  omega

theorem exec_fence_otherwise (h : ¬ (s.g F.PAIR_CFG_EN = 1 ∧ s.g F.TICK_STAT_RUNNING = 1 ∧ s.g F.PAIR_STAT_DRIVING = 1 ∧
    s.fenceDue = true)) : exec .fence s = .next s :=
  if_neg fun ⟨hen, hrun, hdrive, hdue⟩ =>
    h ⟨g_eq_one_of_on rfl hen, g_eq_one_of_on rfl hrun, g_eq_one_of_on rfl hdrive, hdue⟩

theorem mayDrive_of_not_driving (hen : s.g F.PAIR_CFG_EN = 1) (h : s.g F.PAIR_STAT_DRIVING = 0) : s.mayDrive = false := by
  unfold State.mayDrive
  rw [on_of_g_eq_zero h, on_of_g_eq_one hen]
  rfl

/-! ## The grant held (R251) -/

theorem ownGrant_congr {t : State} (hlo : t.rd R.PAIR_GRANT_LO = s.rd R.PAIR_GRANT_LO)
    (hhi : t.rd R.PAIR_GRANT_HI = s.rd R.PAIR_GRANT_HI) (he : t.rd R.PAIR_GRANT_E = s.rd R.PAIR_GRANT_E) :
    t.ownGrant = s.ownGrant := by
  have hheld : t.g F.PAIR_GRANT_E_HELD = s.g F.PAIR_GRANT_E_HELD := g_of_rd he
  have hepoch : t.g F.PAIR_GRANT_E_EPOCH = s.g F.PAIR_GRANT_E_EPOCH := g_of_rd he
  unfold State.ownGrant State.on State.rd64
  rw [hlo, hhi, hheld, hepoch]

/-- A grant newer than the one held is held. -/
def State.grantTaken (s : State) (g : Nat × Nat) : State :=
  if newest s.ownGrant g = some g then
    ((s.wr64 R.PAIR_GRANT_LO R.PAIR_GRANT_HI g.2).p F.PAIR_GRANT_E_EPOCH g.1).flag F.PAIR_GRANT_E_HELD true
  else s

/-- The pilot is seen, and a copy of the grant goes to the partner. -/
def State.grantCopied (s : State) (g : Nat × Nat) (hops : Nat) : State :=
  (s.pilotSeen hops).tetherSend 2 (grantWords (s.g F.PAIR_CFG_PSLOT) 2 g)

/-- Consignments are withheld no more, and a forced sweep begins. -/
def State.withholdEnds (s : State) : State :=
  (({ s with ft := { s.ft with foWithhold := false } } : State).flag F.FAULT_FOREQ_WITHHELD false).forceSweep

/-- The partner is told of the grant, and what was withheld goes on. -/
def State.grantTold (s : State) (g : Nat × Nat) (hops : Nat) : State :=
  let s := s.grantCopied g hops
  if s.ft.foWithhold ∧ (match s.ft.foTick with | some t => decide (t < g.2) | none => false) = true then s.withholdEnds else s

/-- The state in which a device acts on a grant by its role. -/
def State.grantKnown (s : State) (g : Nat × Nat) (hops : Nat) : State := (s.grantTaken g).grantTold g hops

/-- A standby takes over in the tick in progress. -/
def State.takesOver (s : State) (ns : Nat) : State :=
  (s.heldCommit.setRole 4).takeover s.tick 0 ns true (s.g F.PAIR_STAT_CKPT != 3) false

/-- What a device does at a grant, by its role. -/
def State.actOnGrant (s : State) (ns : Nat) : State :=
  match s.role with
  | 1 => { s with pr := { s.pr with next := some 2 } }
  | 3 => if s.running then s.takesOver ns else s
  | _ => s

theorem granted_eq (s : State) (g : Nat × Nat) (hops ns : Nat) : s.granted g hops ns = (s.grantKnown g hops).actOnGrant ns := rfl

theorem actOnGrant_waiting {ns : Nat} (h : s.role = 1) : s.actOnGrant ns = { s with pr := { s.pr with next := some 2 } } := by
  unfold State.actOnGrant
  rw [h]
  rfl

theorem actOnGrant_standby {ns : Nat} (h : s.role = 3) (hrun : s.running = true) : s.actOnGrant ns = s.takesOver ns := by
  unfold State.actOnGrant
  rw [h]
  exact if_pos hrun

theorem actOnGrant_otherwise {ns : Nat} (h : s.role ≠ 1) (h' : ¬ (s.role = 3 ∧ s.running = true)) : s.actOnGrant ns = s := by
  unfold State.actOnGrant
  split
  · next h1 => exact absurd h1 h
  · next h3 => exact if_neg fun hr => h' ⟨h3, hr⟩
  · rfl

/-- The registers of the grant held, as fields. -/
def grantFields : List Fld := [Fld.whole R.PAIR_GRANT_LO, Fld.whole R.PAIR_GRANT_HI, F.PAIR_GRANT_E_EPOCH, F.PAIR_GRANT_E_HELD]

theorem onlyFields_grantTaken {g : Nat × Nat} : OnlyFields grantFields s (s.grantTaken g) :=
  ((((OnlyFields.refl s).wr64 (by decide) (by decide)).p (by decide)).flag (by decide)).ite (OnlyFields.refl s)

theorem grantTaken_rest (g : Nat × Nat) : (s.grantTaken g).pr = s.pr ∧ (s.grantTaken g).mem = s.mem ∧
    (s.grantTaken g).tm = s.tm ∧ (s.grantTaken g).rd R.TICK_STAT = s.rd R.TICK_STAT := by
  have hwr (a : Nat) (v : Word) (t : State) (h : R.TICK_STAT ≠ a) : (t.wr a v).rd R.TICK_STAT = t.rd R.TICK_STAT := by
    rw [rd_wr, if_neg h]
  unfold State.grantTaken
  split
  · refine ⟨rfl, rfl, rfl, ?_⟩
    rw [rd_flag_ne _ _ _ (by decide), rd_p_ne _ _ _ (by decide), State.wr64, hwr _ _ _ (by decide), hwr _ _ _ (by decide)]
  · exact ⟨rfl, rfl, rfl, rfl⟩

theorem grantTaken_holds {e : BitVec 16} {k : BitVec 64} (h : newest s.ownGrant (e.toNat, k.toNat) = some (e.toNat, k.toNat)) :
    (s.grantTaken (e.toNat, k.toNat)).g F.PAIR_GRANT_E_HELD = 1 ∧
    (s.grantTaken (e.toNat, k.toNat)).g F.PAIR_GRANT_E_EPOCH = e.toNat ∧
    (s.grantTaken (e.toNat, k.toNat)).rd64 R.PAIR_GRANT_LO R.PAIR_GRANT_HI = k.toNat := by
  unfold State.grantTaken
  rw [if_pos h]
  refine ⟨g_flag_self _ _ _ rfl (by decide), ?_, ?_⟩
  · rw [g_flag_ne _ _ _ _ (.inr (.inl (by decide))) (by decide), g_p_self _ _ _ (by decide)]
    exact Nat.mod_eq_of_lt e.isLt
  · have hk := k.isLt
    unfold State.rd64
    rw [rd_flag_ne _ _ _ (by decide), rd_p_ne _ _ _ (by decide), rd_flag_ne _ _ _ (by decide), rd_p_ne _ _ _ (by decide),
      State.wr64, rd_wr, if_neg (by decide), rd_wr, if_pos rfl, rd_wr, if_pos rfl]
    simp only [BitVec.toNat_ofNat]
    omega

theorem grantTaken_of_older {g : Nat × Nat} (h : newest s.ownGrant g ≠ some g) : s.grantTaken g = s := if_neg h

/-! ## The pilot is seen (R253) -/

theorem pilotSeen_pr (s : State) (hops : Nat) :
    (s.pilotSeen hops).pr = { s.pr with granted := true, miss := false, pilotAge := 0, hops := hops } := pilotBits_pr

/-- A notice ends a pilot miss, and says nothing of the partner's grant. -/
theorem pilotSeen_known (s : State) (hops : Nat) : (s.pilotSeen hops).pr.peerGrant = s.pr.peerGrant ∧
    (s.pilotSeen hops).pr.granted = true ∧ (s.pilotSeen hops).pr.miss = false ∧ (s.pilotSeen hops).pr.pilotAge = 0 := by
  rw [pilotSeen_pr]
  exact ⟨rfl, rfl, rfl, rfl⟩

theorem pilotSeen_mem (s : State) (hops : Nat) : (s.pilotSeen hops).mem = s.mem := pilotBits_mem

theorem onlyFields_pilotSeen {hops : Nat} : OnlyFields pilotFields s (s.pilotSeen hops) :=
  (OnlyFields.refl s).upd.trans onlyFields_pilotBits

theorem onlyRegs.pilotSeen {r : State} {rs : List Nat} (h : onlyRegs r s rs) {hops : Nat} (hrs : R.PAIR_STAT ∈ rs) :
    onlyRegs r (s.pilotSeen hops) rs := onlyRegs.pilotBits h.upd hrs

/-- With word of the pilot neither PILOT_LOST nor PILOT_PATH stands. -/
theorem bits_pilotSeen (s : State) (hops : Nat) :
    (s.pilotSeen hops).g F.PAIR_STAT_PILOT_LOST = 0 ∧ (s.pilotSeen hops).g F.PAIR_STAT_PILOT_PATH = 0 :=
  ⟨lost_pilotBits, path_pilotBits⟩

/-! ## What is told of a grant (R251, R299) -/

/-- The fields that a message of the pilot and a forced sweep change. -/
def toldFields : List Fld := pilotFields ++ [F.PAIR_SWEEP_CURSOR, F.PAIR_CTL_FORCE_SWEEP]

theorem onlyFields_forceSweep : OnlyFields [F.PAIR_SWEEP_CURSOR, F.PAIR_CTL_FORCE_SWEEP] s s.forceSweep :=
  (OnlyFields.refl s).upd.ite (((OnlyFields.refl s).upd.p (by decide)).flag (by decide))

theorem forceSweep_rest (s : State) : s.forceSweep.mem = s.mem ∧ s.forceSweep.tm = s.tm ∧
    s.forceSweep.rd R.TICK_STAT = s.rd R.TICK_STAT := by
  unfold State.forceSweep
  split
  · exact ⟨rfl, rfl, rfl⟩
  · refine ⟨rfl, rfl, ?_⟩
    rw [rd_flag_ne _ _ _ (by decide), rd_p_ne _ _ _ (by decide)]
    rfl

/-- A forced sweep changes of the pair unit what says how the sweep goes on. -/
theorem forceSweep_pr (s : State) : s.forceSweep.pr = { s.pr with again := true } ∨
    s.forceSweep.pr = { s.pr with forced := true, passNext := true } := by
  unfold State.forceSweep
  split
  · exact .inl rfl
  · exact .inr rfl

theorem unitKept_grantCopied (s : State) (g : Nat × Nat) (hops : Nat) :
    UnitKept besideMsgs (s.pilotSeen hops) (s.grantCopied g hops) := (UnitKept.refl _).tetherSend fun _ => id

/-- A grant told to the partner either leaves what is withheld, or ends it. -/
theorem grantTold_cases (s : State) (g : Nat × Nat) (hops : Nat) : s.grantTold g hops = s.grantCopied g hops ∨
    s.grantTold g hops = (s.grantCopied g hops).withholdEnds := (ite_eq_or_eq _ _ _).symm

theorem onlyFields_withholdEnds : OnlyFields [F.PAIR_SWEEP_CURSOR, F.PAIR_CTL_FORCE_SWEEP] s s.withholdEnds :=
  have hflag := (UnitKept.refl (P := onPair) { s with ft := { s.ft with foWithhold := false } }).flag
    (f := F.FAULT_FOREQ_WITHHELD) (b := false) (by decide)
  ((OnlyFields.refl s).upd.kept hflag).trans onlyFields_forceSweep

theorem withholdEnds_rest (s : State) : s.withholdEnds.mem = s.mem ∧ s.withholdEnds.tm = s.tm ∧
    s.withholdEnds.rd R.TICK_STAT = s.rd R.TICK_STAT := by
  obtain ⟨hm, ht, hs⟩ := forceSweep_rest
    (({ s with ft := { s.ft with foWithhold := false } } : State).flag F.FAULT_FOREQ_WITHHELD false)
  refine ⟨hm, ht, hs.trans ?_⟩
  rw [rd_flag_ne _ _ _ (by decide)]
  rfl

theorem withholdEnds_pr (s : State) : s.withholdEnds.pr.granted = s.pr.granted ∧ s.withholdEnds.pr.take = s.pr.take ∧
    s.withholdEnds.pr.next = s.pr.next := by
  unfold State.withholdEnds
  obtain hpr | hpr := forceSweep_pr
      (({ s with ft := { s.ft with foWithhold := false } } : State).flag F.FAULT_FOREQ_WITHHELD false) <;>
    (rw [hpr]; exact ⟨rfl, rfl, rfl⟩)

theorem onlyFields_grantTold {g : Nat × Nat} {hops : Nat} : OnlyFields toldFields s (s.grantTold g hops) := by
  have hcopy : OnlyFields toldFields s (s.grantCopied g hops) :=
    (onlyFields_pilotSeen.mono (List.subset_append_left _ _)).kept ((unitKept_grantCopied s g hops).mono fun _ h => h.besideMsgs)
  obtain h | h := grantTold_cases s g hops
  · exact h ▸ hcopy
  · exact h ▸ hcopy.trans (onlyFields_withholdEnds.mono (List.subset_append_right _ _))

theorem grantTold_rest (s : State) (g : Nat × Nat) (hops : Nat) : (s.grantTold g hops).mem = s.mem ∧
    (s.grantTold g hops).tm = s.tm ∧ (s.grantTold g hops).rd R.TICK_STAT = s.rd R.TICK_STAT := by
  have hseen : UnitKept (· = R.TICK_STAT) { s with pr := { s.pr with granted := true, miss := false, pilotAge := 0, hops := hops } }
      (s.pilotSeen hops) := unitKept_pilotBits (by decide)
  have hkept := hseen.trans ((unitKept_grantCopied s g hops).mono (by rintro a rfl; exact ⟨by decide, by decide⟩))
  have hmem : (s.grantCopied g hops).mem = s.mem := (tetherSend_mem _ _).trans (pilotSeen_mem s hops)
  have hstat : (s.grantCopied g hops).rd R.TICK_STAT = s.rd R.TICK_STAT := hkept.rd _ rfl
  obtain h | h := grantTold_cases s g hops
  · rw [h]
    exact ⟨hmem, hkept.tm, hstat⟩
  · obtain ⟨hm, ht, hs⟩ := withholdEnds_rest (s.grantCopied g hops)
    rw [h]
    exact ⟨hm.trans hmem, ht.trans hkept.tm, hs.trans hstat⟩

/-- A device that was told of a grant knows that the pilot is there, and goes on with the takeover and the role due. -/
theorem grantTold_pr (s : State) (g : Nat × Nat) (hops : Nat) : (s.grantTold g hops).pr.granted = true ∧
    (s.grantTold g hops).pr.take = s.pr.take ∧ (s.grantTold g hops).pr.next = s.pr.next := by
  have hcopy : (s.grantCopied g hops).pr = { s.pr with granted := true, miss := false, pilotAge := 0, hops := hops } :=
    (unitKept_grantCopied s g hops).pr.trans (pilotSeen_pr s hops)
  obtain h | h := grantTold_cases s g hops
  · rw [h, hcopy]
    exact ⟨rfl, rfl, rfl⟩
  · obtain ⟨hgranted, htake, hnext⟩ := withholdEnds_pr (s.grantCopied g hops)
    rw [h, hgranted, htake, hnext, hcopy]
    exact ⟨rfl, rfl, rfl⟩

/-! ### Before the device acts on a grant -/

theorem grantKnown_role (s : State) (g : Nat × Nat) (hops : Nat) : (s.grantKnown g hops).role = s.role :=
  (onlyFields_grantTold.g _ (by decide) (by decide)).trans (onlyFields_grantTaken.g _ (by decide) (by decide))

theorem grantKnown_running (s : State) (g : Nat × Nat) (hops : Nat) : (s.grantKnown g hops).running = s.running := by
  obtain ⟨-, -, htold⟩ := grantTold_rest (s.grantTaken g) g hops
  obtain ⟨-, -, -, htaken⟩ := grantTaken_rest (s := s) g
  exact congrArg (· != 0) (g_of_rd (f := F.TICK_STAT_RUNNING) (htold.trans htaken))

theorem grantKnown_tick (s : State) (g : Nat × Nat) (hops : Nat) : (s.grantKnown g hops).tick = s.tick := by
  obtain ⟨-, htold, -⟩ := grantTold_rest (s.grantTaken g) g hops
  obtain ⟨-, -, htaken, -⟩ := grantTaken_rest (s := s) g
  exact congrArg (fun m => m.tick.toNat) (htold.trans htaken)

theorem grantKnown_mem (s : State) (g : Nat × Nat) (hops : Nat) : (s.grantKnown g hops).mem = s.mem := by
  obtain ⟨htold, -, -⟩ := grantTold_rest (s.grantTaken g) g hops
  obtain ⟨-, htaken, -, -⟩ := grantTaken_rest (s := s) g
  exact htold.trans htaken

theorem grantKnown_pr (s : State) (g : Nat × Nat) (hops : Nat) : (s.grantKnown g hops).pr.granted = true ∧
    (s.grantKnown g hops).pr.take = s.pr.take ∧ (s.grantKnown g hops).pr.next = s.pr.next := by
  obtain ⟨htaken, -, -, -⟩ := grantTaken_rest (s := s) g
  have htold := grantTold_pr (s.grantTaken g) g hops
  rwa [htaken] at htold

/-! ## Consignments committed (R261) -/

/-- The fields that a whole pass changes. -/
def passFields : List Fld := Fld.whole R.PAIR_PASSES :: ckptFields

/-- The fields that a commit changes. -/
def commitFields : List Fld :=
  [Fld.whole R.PAIR_CKPT_LO, Fld.whole R.PAIR_CKPT_HI, Fld.whole R.PAIR_CNS_COMMIT] ++ passFields

theorem onlyFields_passDone : OnlyFields passFields s s.passDone := by
  unfold State.passDone
  extract_lets counted c fresh
  have hcounted : OnlyFields passFields s counted := (OnlyFields.refl s).inc (by decide)
  have hfresh : OnlyFields passFields s fresh := hcounted.p (by decide)
  exact ((hfresh.upd.p (by decide)).ite hfresh).ite hcounted

theorem passDone_pr (s : State) : ∃ n, s.passDone.pr = { s.pr with passCount := n } := by
  unfold State.passDone
  extract_lets counted c fresh
  split
  · split
    · exact ⟨0, rfl⟩
    · exact ⟨s.pr.passCount, rfl⟩
  · exact ⟨s.pr.passCount, rfl⟩

/-- The lines of a consignment go into place. -/
def State.linesPlaced (s : State) (c : Staged) : State :=
  c.records.foldl (fun s r => s.storeWords ((r.headD 0).toNat / 64 * 64) (r.drop 2)) s

theorem unitKept_linesPlaced (s : State) (c : Staged) : UnitKept onPair s (s.linesPlaced c) :=
  (UnitKept.refl s).foldl fun _ _ h => h.storeWords (by decide) (by decide)

/-- The checkpoint is that of consignment `c`. -/
def State.ckptTaken (s : State) (c : Staged) : State :=
  let s := ((s.linesPlaced c).wr64 R.PAIR_CKPT_LO R.PAIR_CKPT_HI c.tick).inc R.PAIR_CNS_COMMIT
  { s with pr := { s.pr with commitCyc := bitsOf (c.head 2) 24 0 } }

/-- A pass begins, and one that was open is done. -/
def State.passStarts (s : State) : State :=
  let s := if s.pr.passOpen then s.passDone else s
  { s with pr := { s.pr with passOpen := true, passClean := true } }

theorem commit_eq (s : State) (c : Staged) : s.commit c = if c.passStart then (s.ckptTaken c).passStarts else s.ckptTaken c := rfl

theorem onlyFields_ckptTaken {c : Staged} : OnlyFields commitFields s (s.ckptTaken c) :=
  ((((OnlyFields.refl s).kept (unitKept_linesPlaced s c)).wr64 (by decide) (by decide)).inc (by decide)).upd

theorem onlyFields_passStarts : OnlyFields passFields s s.passStarts := (onlyFields_passDone.ite (OnlyFields.refl s)).upd

/-- After the checkpoint is taken a commit changes what says of the pass alone. -/
theorem onlyFields_commit_of_taken {c : Staged} : OnlyFields passFields (s.ckptTaken c) (s.commit c) := by
  rw [commit_eq]
  exact onlyFields_passStarts.ite (OnlyFields.refl _)

theorem onlyFields_commit {c : Staged} : OnlyFields commitFields s (s.commit c) :=
  onlyFields_ckptTaken.trans (onlyFields_commit_of_taken.mono (List.subset_append_right _ _))

/-- Of the pair unit a commit changes what it says of the last commit and of the pass. -/
theorem commit_pr (s : State) (c : Staged) : ∃ cyc o p n,
    (s.commit c).pr = { s.pr with commitCyc := cyc, passOpen := o, passClean := p, passCount := n } := by
  have htaken : (s.ckptTaken c).pr = { s.pr with commitCyc := bitsOf (c.head 2) 24 0 } :=
    congrArg (fun q : Pair => { q with commitCyc := bitsOf (c.head 2) 24 0 }) (unitKept_linesPlaced s c).pr
  rw [commit_eq]
  split
  · obtain ⟨n, hdone⟩ := passDone_pr (s.ckptTaken c)
    unfold State.passStarts
    split
    · exact ⟨_, _, _, n, by dsimp only; rw [hdone, htaken]⟩
    · exact ⟨_, _, _, _, by dsimp only; rw [htaken]⟩
  · exact ⟨_, _, _, _, htaken⟩

/-! ## A takeover begins (R264 to R267) -/

theorem unitKept_beginDirected (s : State) (x : InputRec) : UnitKept onPair s (s.beginDirected x) :=
  ((UnitKept.refl s).foldl (xs := x.words ++ x.heads) fun _ _ h => h.writeW (by decide) (by decide)).upd

/-- The catch-up leaves the PAIR block, the tick that is taken over and what is known of the pilot. -/
theorem catchStep_kept (n : Nat) (s : State) : OnlyFields [] s (s.catchStep n) ∧
    (s.catchStep n).pr.granted = s.pr.granted ∧ (s.catchStep n).pr.take.map Takeover.k = s.pr.take.map Takeover.k := by
  induction n generalizing s with
  | zero => exact ⟨OnlyFields.refl s, rfl, rfl⟩
  | succ n ih =>
    unfold State.catchStep
    split
    · exact ⟨OnlyFields.refl s, rfl, rfl⟩
    next t ht =>
    have hgoes (u : State) (hu : OnlyFields [] s u) (hg : u.pr.granted = s.pr.granted) (hk : u.pr.take.map Takeover.k = some t.k) :
        OnlyFields [] s (u.catchStep n) ∧ (u.catchStep n).pr.granted = s.pr.granted ∧
          (u.catchStep n).pr.take.map Takeover.k = s.pr.take.map Takeover.k := by
      obtain ⟨hfields, hgranted, htake⟩ := ih u
      exact ⟨hu.trans hfields, hgranted.trans hg, (htake.trans hk).trans (congrArg (Option.map Takeover.k) ht).symm⟩
    have hstays : OnlyFields [] s s ∧ s.pr.granted = s.pr.granted ∧ s.pr.take.map Takeover.k = s.pr.take.map Takeover.k :=
      ⟨OnlyFields.refl s, rfl, rfl⟩
    split
    · exact hstays
    split
    · split
      · exact hgoes _ (OnlyFields.refl s).upd rfl rfl
      · exact hstays
    · split
      · exact hstays
      · split
        · exact hstays
        · split
          · next r rs _ _ _ x _ =>
            have hrun := unitKept_beginDirected (s.setTake { t with running := some r, rest := rs }) x
            have htake := congrArg (fun q : Pair => q.take.map Takeover.k) hrun.pr
            exact hgoes _ ((OnlyFields.refl s).upd.kept hrun) (congrArg Pair.granted hrun.pr :) htake
          · exact hgoes _ (OnlyFields.refl s).upd rfl rfl

theorem takeover_kept (s : State) (k periods ns : Nat) (wake stale late : Bool) :
    OnlyFields [] s (s.takeover k periods ns wake stale late) ∧
    (s.takeover k periods ns wake stale late).pr.granted = s.pr.granted ∧
    (s.takeover k periods ns wake stale late).pr.take.map Takeover.k = some k := by
  unfold State.takeover
  extract_lets c m first t woken
  have hwoken : UnitKept onPair s woken :=
    ((UnitKept.refl s).wakeClusters fun c hc => offCluster_onPair hc).ite (UnitKept.refl s)
  obtain ⟨hfields, hgranted, htake⟩ := catchStep_kept 8 (woken.setTake t)
  exact ⟨((OnlyFields.refl s).kept hwoken).upd.trans hfields, hgranted.trans (congrArg Pair.granted hwoken.pr : woken.pr.granted = _), htake⟩

/-- The fields that a takeover changes as it begins. -/
def takeFields : List Fld := Fld.whole R.PAIR_REPLAY_NOTRUN :: (commitFields ++ roleFields)

/-- A replay that runs ends without a result. -/
def State.replayDropped (s : State) : State :=
  if s.pr.replay.isSome then
    (({ s.clustersOff with pr := { s.pr with replay := none } } : State).inc R.PAIR_REPLAY_NOTRUN)
  else s

theorem heldCommit_eq (s : State) : s.heldCommit = (s.replayDropped.pr.staged.filter Staged.done).foldl State.commit
    { s.replayDropped with pr := { s.replayDropped.pr with staged := [], bist := none } } := rfl

theorem replayDropped_kept (s : State) : OnlyFields takeFields s s.replayDropped ∧ s.replayDropped.pr.granted = s.pr.granted := by
  unfold State.replayDropped
  split
  · have hoff : UnitKept onPair s s.clustersOff := (UnitKept.refl s).clustersOff fun c hc => offCluster_onPair hc
    exact ⟨((OnlyFields.refl s).kept hoff).upd.inc (by decide), rfl⟩
  · exact ⟨OnlyFields.refl s, rfl⟩

/-- What waited for a commit is committed, after a replay that was running ended. -/
theorem heldCommit_kept (s : State) : OnlyFields takeFields s s.heldCommit ∧ s.heldCommit.pr.granted = s.pr.granted := by
  obtain ⟨hfields, hgranted⟩ := replayDropped_kept s
  rw [heldCommit_eq]
  constructor
  · refine OnlyFields.foldl hfields.upd fun t c h => h.trans (onlyFields_commit.mono fun f hf => ?_)
    exact List.mem_cons_of_mem _ (List.mem_append_left _ hf)
  · refine (foldl_part (f := State.commit) (part := fun t => t.pr.granted) (fun t c => ?_) _ _).trans hgranted
    obtain ⟨_, _, _, _, hpr⟩ := commit_pr t c
    rw [hpr]

theorem takesOver_kept (s : State) (ns : Nat) : OnlyFields takeFields s (s.takesOver ns) ∧
    (s.takesOver ns).pr.granted = s.pr.granted ∧ (s.takesOver ns).g F.PAIR_STAT_ROLE = 4 ∧
    (s.takesOver ns).pr.take.map Takeover.k = some s.tick := by
  obtain ⟨hheld, hgranted⟩ := heldCommit_kept s
  obtain ⟨htake, hg, hk⟩ := takeover_kept (s.heldCommit.setRole 4) s.tick 0 ns true (s.g F.PAIR_STAT_CKPT != 3) false
  refine ⟨?_, ?_, ?_, hk⟩
  · exact (hheld.trans (onlyFields_setRole.mono fun f hf => List.mem_cons_of_mem _ (List.mem_append_right _ hf))).trans
      (htake.mono (List.nil_subset _))
  · exact (hg.trans (congrArg Pair.granted setRole_pr)).trans hgranted
  · exact (htake.g _ (by decide) (by decide)).trans (role_setRole (by decide))

/-! ## What a device does at a grant -/

/-- The fields that a grant changes after it is taken. -/
def grantedFields : List Fld := toldFields ++ takeFields

/-- Whatever a device does at a grant, it holds the grant as taken, and knows that the pilot is there. -/
theorem granted_kept (s : State) (g : Nat × Nat) (hops ns : Nat) :
    OnlyFields grantedFields (s.grantTaken g) (s.granted g hops ns) ∧ (s.granted g hops ns).pr.granted = true := by
  have htold : OnlyFields grantedFields (s.grantTaken g) (s.grantKnown g hops) :=
    onlyFields_grantTold.mono (List.subset_append_left _ _)
  obtain ⟨hgranted, -, -⟩ := grantKnown_pr s g hops
  rw [granted_eq]
  by_cases h1 : (s.grantKnown g hops).role = 1
  · rw [actOnGrant_waiting h1]
    exact ⟨htold.upd, hgranted⟩
  by_cases h3 : (s.grantKnown g hops).role = 3 ∧ (s.grantKnown g hops).running = true
  · obtain ⟨hfields, hg, -, -⟩ := takesOver_kept (s.grantKnown g hops) ns
    rw [actOnGrant_standby h3.1 h3.2]
    exact ⟨htold.trans (hfields.mono (List.subset_append_right _ _)), hg.trans hgranted⟩
  · rw [actOnGrant_otherwise h1 h3]
    exact ⟨htold, hgranted⟩

/-! ## A WAITING device learns of its partner's grant (R251) -/

theorem clustersOff_state (s : State) (c : Fin 16) : s.clustersOff.g (F.CL_STAT_STATE c) = 0 := by
  have hoff (d : Nat) (hd : d < 16) (hne : d ≠ c.val) : OffCluster (fun a => a = R.CL_STAT c) d := by
    rintro a rfl
    have := c.isLt
    unfold R.CL_STAT
    omega
  obtain ⟨t, -, hkept⟩ := foldl_at (K := UnitKept fun a => a = R.CL_STAT c) UnitKept.refl UnitKept.trans
    (List.mem_range.mpr c.isLt) List.nodup_range
    (fun t d hd hne => (UnitKept.refl t).clusterOff (List.mem_range.mp hd) (hoff d (List.mem_range.mp hd) hne)) s
  refine (hkept.g rfl).trans ?_
  rw [g_flag_ne _ _ _ _ (.inl (by simp [F.CL_STAT_STATE, F.CL_TASK_ACTIVE, R.CL_STAT, R.CL_TASK]))
    (by simp [F.CL_STAT_STATE])]
  exact g_p_self _ (F.CL_STAT_STATE c) 0 (by simp [F.CL_STAT_STATE])

/-- The pair unit and the Forecast are those of a new standby. -/
def State.standbyUnits (s : State) : State :=
  { s with pr := { s.pr with staged := [], lastTick := none, passOpen := false, passClean := false, replay := none
                             take := none, next := none, recs := [] }
           fc := { s.fc with sel := none, tier := [], fix := [] } }

theorem standbyUnits_peerGrant (s : State) : s.standbyUnits.pr.peerGrant = s.pr.peerGrant := rfl

theorem standbyUnits_g (s : State) (f : Fld) : s.standbyUnits.g f = s.g f := g_congr rfl f

/-- A new standby has its clusters off and an EMPTY checkpoint. -/
def State.standbyBegins (s : State) : State := (s.setRole 3).clustersOff.standbyUnits.p F.PAIR_STAT_CKPT 1

theorem enterStandby_eq (s : State) : s.enterStandby = s.standbyBegins.leveeStandby.askSweep := rfl

/-- The Levee's hold and the sweep asked for leave the PAIR block and the clusters. -/
theorem unitKept_enterStandby (s : State) :
    UnitKept (fun a => onPair a ∨ ∃ c : Fin 16, a = R.CL_STAT c) s.standbyBegins s.enterStandby := by
  rw [enterStandby_eq]
  refine ((UnitKept.refl _).leveeStandby ?_).askSweep ?_
  · rintro a (h | ⟨c, rfl⟩)
    · exact offLevee_onPair a h
    · have := c.isLt
      unfold R.CL_STAT
      omega
  · rintro a (h | ⟨c, rfl⟩)
    · exact h.besideMsgs
    · have := c.isLt
      constructor <;> unfold R.CL_STAT
      · omega
      · unfold R.FAB_MSG_NOROUTE; omega

theorem enterStandby_is_empty (s : State) : s.enterStandby.pr.peerGrant = s.pr.peerGrant ∧
    s.enterStandby.g F.PAIR_STAT_ROLE = 3 ∧ s.enterStandby.g F.PAIR_STAT_CKPT = 1 ∧
    ∀ c : Fin 16, s.enterStandby.g (F.CL_STAT_STATE c) = 0 := by
  have hoff : UnitKept onPair (s.setRole 3) (s.setRole 3).clustersOff :=
    (UnitKept.refl _).clustersOff fun c hc => offCluster_onPair hc
  have hkept := unitKept_enterStandby s
  refine ⟨?_, ?_, ?_, fun c => ?_⟩
  · rw [hkept.pr, State.standbyBegins, p_pr, standbyUnits_peerGrant, hoff.pr, setRole_pr]
  · refine (hkept.g (.inl (by decide))).trans ?_
    rw [State.standbyBegins, g_p_ne _ _ _ _ (.inr (.inr (by decide))) (by decide), standbyUnits_g]
    exact (hoff.g (f := F.PAIR_STAT_ROLE) (by decide)).trans (role_setRole (by decide))
  · refine (hkept.g (.inl (by decide))).trans ?_
    exact g_p_self _ _ _ (by decide)
  · refine (hkept.g (.inr ⟨c, rfl⟩)).trans ?_
    have hne : (F.CL_STAT_STATE c).reg ≠ F.PAIR_STAT_CKPT.reg := by
      have := c.isLt
      simp only [F.CL_STAT_STATE, R.CL_STAT, F.PAIR_STAT_CKPT, R.PAIR_STAT]
      omega
    rw [State.standbyBegins, g_p_ne _ _ _ _ (.inl hne) (by simp [F.CL_STAT_STATE]), standbyUnits_g]
    exact clustersOff_state (s.setRole 3) c

/-- A grant newer than another is newer than it also after it is merged with what was known. -/
theorem newer_newest {k : Option (Nat × Nat)} {g o : Nat × Nat} (h : newer g o = true) :
    ∃ n, newest k g = some n ∧ newer n o = true := by
  cases k with
  | none => exact ⟨g, rfl, h⟩
  | some w =>
    by_cases hw : newer g w = true
    · exact ⟨g, if_pos hw, h⟩
    · refine ⟨w, if_neg hw, ?_⟩
      simp only [newer, Bool.or_eq_true, Bool.and_eq_true, decide_eq_true_eq, beq_iff_eq] at h hw ⊢
      omega

theorem newest_isSome (k : Option (Nat × Nat)) (g : Nat × Nat) : ∃ n, newest k g = some n := by
  cases k with
  | none => exact ⟨g, rfl⟩
  | some w => exact ⟨if newer g w then g else w, (apply_ite some _ _ _).symm⟩

/-- What the partner is known to hold, without what follows of it. -/
def State.peerKnown (s : State) (g : Nat × Nat) : State := { s with pr := { s.pr with peerGrant := newest s.pr.peerGrant g } }

theorem g_peerKnown (g : Nat × Nat) (f : Fld) : (s.peerKnown g).g f = s.g f := g_congr rfl f

theorem peerKnown_pr (g : Nat × Nat) : (s.peerKnown g).pr = { s.pr with peerGrant := newest s.pr.peerGrant g } := rfl

theorem onlyRegs.peerKnown {r : State} {rs : List Nat} {g : Nat × Nat} (h : onlyRegs r s rs) : onlyRegs r (s.peerKnown g) rs :=
  h.upd

/-- A grant of the partner newer than every grant held gives way to it. -/
theorem fenceDue_peerKnown {g : Nat × Nat} (h : s.ownGrant.all (newer g) = true) : (s.peerKnown g).fenceDue = true := by
  have hfence : (s.peerKnown g).fenceDue = match newest s.pr.peerGrant g, s.ownGrant with
    | some g, some o => newer g o
    | some _, none => true
    | none, _ => false := rfl
  rw [hfence]
  cases ho : s.ownGrant with
  | none =>
    obtain ⟨n, hn⟩ := newest_isSome s.pr.peerGrant g
    rw [hn]
  | some o =>
    rw [ho] at h
    obtain ⟨n, hn, hnew⟩ := newer_newest (k := s.pr.peerGrant) (show newer g o = true from h)
    rw [hn]
    exact hnew

theorem peerHolds_waiting {g : Nat × Nat} (hen : s.g F.PAIR_CFG_EN = 1) (hrole : s.g F.PAIR_STAT_ROLE = 1)
    (h : s.ownGrant.all (newer g) = true) : s.peerHolds g = (s.peerKnown g).enterStandby :=
  if_pos ⟨hrole, fenceDue_peerKnown h, paired_of_en hen⟩

theorem peerHolds_otherwise {g : Nat × Nat} (hrole : s.g F.PAIR_STAT_ROLE ≠ 1) : s.peerHolds g = s.peerKnown g :=
  if_neg fun h => hrole h.1

/-- A WAITING device becomes an empty standby on learning of a newer grant. -/
theorem peerHolds_waiting_effect {g : Nat × Nat} (hen : s.g F.PAIR_CFG_EN = 1) (hrole : s.g F.PAIR_STAT_ROLE = 1)
    (h : s.ownGrant.all (newer g) = true) : (s.peerHolds g).pr.peerGrant = newest s.pr.peerGrant g ∧
    (s.peerHolds g).g F.PAIR_STAT_ROLE = 3 ∧ (s.peerHolds g).g F.PAIR_STAT_CKPT = 1 ∧
    ∀ c : Fin 16, (s.peerHolds g).g (F.CL_STAT_STATE c) = 0 := by
  rw [peerHolds_waiting hen hrole h]
  exact enterStandby_is_empty (s.peerKnown g)

theorem ownGrant_pilotSeen (s : State) (hops : Nat) : (s.pilotSeen hops).ownGrant = s.ownGrant :=
  ownGrant_congr (onlyFields_pilotSeen.rd (by decide) (by decide)) (onlyFields_pilotSeen.rd (by decide) (by decide))
    (onlyFields_pilotSeen.rd (by decide) (by decide))

/-! ## Messages over the Tether (R251, R253) -/

/-- Nothing holds back an express message over the Tether. -/
structure State.tetherFree (s : State) : Prop where
  active : s.g (F.NGL_STAT_STATE (s.g F.PAIR_CFG_TETHER)) = 6
  loud : (s.ngl (s.g F.PAIR_CFG_TETHER)).quiet = false
  empty : s.fb.txq = []
  unowned : s.pw.owned = false

/-- A message that leaves over a free Tether is all that happens. -/
theorem tetherSend_express {type : Nat} {ws : List Word} (h : s.tetherFree) (hvalid : s.g F.FAB_ID_VALID = 1)
    (htype : type ≠ 10) (hclass : msgClass type = 0) : s.tetherSend type ws =
      { s with out := s.out ++ [.msg (s.g F.PAIR_CFG_TETHER) (s.envTo (s.g F.PAIR_CFG_PARTNER) type) ws] } := by
  have hsend := sendPort_of_empty (p := s.tether) (e := s.envTo s.partner type) (ws := ws) htype (portActive_of_active h.active)
    h.loud h.empty h.unowned fun hc => absurd hclass hc
  have hpaid : s.paid s.tether (msgClass (s.envTo s.partner type).type) (fragsOf ws) = s := by
    show s.paid s.tether (msgClass type) _ = s
    rw [hclass]
    rfl
  unfold State.tetherSend
  rw [if_pos (on_of_g_eq_one hvalid), hsend, hpaid]
  rfl

theorem exec_query {p : Fin 8} {e : Env} {g : BitVec 16 × BitVec 64} {o : Nat × Nat}
    (h : s.g (F.NGL_STAT_STATE p) = 6 ∧ s.g F.FAB_ID_VALID = 1 ∧ e.dst = s.g F.FAB_ID_ID)
    (hen : s.g F.PAIR_CFG_EN = 1 ∧ s.ownGrant = some o) (hfree : s.tetherFree) :
    exec (.query p e g) s = .next { s with out := s.out ++ [.msg (s.g F.PAIR_CFG_TETHER)
      (s.envTo (s.g F.PAIR_CFG_PARTNER) 2) (grantWords (s.g F.PAIR_CFG_PSLOT) 2 o)] } := by
  obtain ⟨hen, hown⟩ := hen
  obtain ⟨hactive, hvalid, hdst⟩ := h
  have hrec : exec (.query p e g) s = .next (s.received p e 2 (grantWords (s.g F.PAIR_CFG_PSLOT) 1 (g.1.toNat, g.2.toNat))
    (fun s => match s.ownGrant with
      | some o => if s.paired then s.tetherSend 2 (grantWords (s.g F.PAIR_CFG_PSLOT) 2 o) else s
      | none => s)) := rfl
  rw [hrec, received_of_taken ⟨hactive, hvalid, hdst⟩ fun _ => expressFull_of_empty hfree.empty p]
  simp only [hown, paired_of_en hen, if_true]
  rw [tetherSend_express hfree hvalid (by decide) rfl]
  rfl

theorem exec_query_of_none {p : Fin 8} {e : Env} {g : BitVec 16 × BitVec 64} (h : s.arrives p e)
    (hne : s.ownGrant = none ∨ s.paired = false) : exec (.query p e g) s = .next s := by
  refine congrArg Host.Outcome.next ((received_express h rfl).trans ?_)
  obtain hnone | hun := hne
  · rw [hnone]
  · rw [hun]
    cases s.ownGrant <;> rfl

theorem exec_grantDeadline_asks (h : s.g F.PAIR_CFG_EN = 1 ∧ s.g F.TICK_STAT_RUNNING = 1 ∧ s.g F.PAIR_STAT_ROLE = 2)
    (hnone : s.ownGrant.all (fun x => x.2 != s.tick) = true) : exec .grantDeadline s =
      .next (s.tetherSend 2 (grantWords (s.g F.PAIR_CFG_PSLOT) 1 (s.ownGrant.getD (0, 0)))) := by
  obtain ⟨hen, hrun, hrole⟩ := h
  have hhas : (match s.ownGrant with | some g => g.2 == s.tick | none => false) = false := by
    cases ho : s.ownGrant with
    | none => rfl
    | some o =>
      rw [ho] at hnone
      simpa [bne, -bne_iff_ne] using hnone
  exact if_pos ⟨paired_of_en hen, running_of_g_eq_one hrun, hrole, hhas⟩

theorem exec_grantDeadline_otherwise (h : s.paired = false ∨ s.running = false ∨ s.g F.PAIR_STAT_ROLE ≠ 2 ∨
    s.ownGrant.map Prod.snd = some s.tick) : exec .grantDeadline s = .next s := by
  refine if_neg fun ⟨hen, hrun, hrole, hhas⟩ => ?_
  obtain h | h | h | h := h
  · rw [h] at hen; cases hen
  · rw [h] at hrun; cases hrun
  · exact h hrole
  · obtain ⟨o, ho, hk⟩ := Option.map_eq_some_iff.mp h
    simp [ho, hk] at hhas

/-! ## The pilot's silence and the Tether (R252, R253) -/

theorem exec_pilotMiss (h : s.g F.PAIR_CFG_EN = 1 ∧ 2 ≤ s.pr.pilotAge) :
    exec .pilotMiss s = .next ({ s with pr := { s.pr with miss := true } } : State).pilotBits :=
  if_pos ⟨paired_of_en h.1, h.2⟩

theorem exec_pilotMiss_otherwise (h : s.paired = false ∨ s.pr.pilotAge < 2) : exec .pilotMiss s = .next s := by
  refine if_neg fun ⟨hen, hage⟩ => ?_
  obtain h | h := h
  · rw [h] at hen; cases hen
  · omega

theorem exec_tetherDown (hen : s.g F.PAIR_CFG_EN = 1)
    (h : s.g (F.NGL_STAT_STATE (s.g F.PAIR_CFG_TETHER)) ≠ 6 ∨ 2 ≤ s.pr.peerAge) : exec .tetherDown s = .next s.tetherLost :=
  if_pos ⟨paired_of_en hen, h.imp_left fun h => by rw [State.tether, portActive_of_not_active h]; rfl⟩

theorem exec_tetherDown_otherwise (h : s.paired = false ∨
    (s.g (F.NGL_STAT_STATE (s.g F.PAIR_CFG_TETHER)) = 6 ∧ s.pr.peerAge < 2) ∨ s.g F.PAIR_STAT_TETHER_DOWN = 1) :
    exec .tetherDown s = .next s := by
  obtain h | ⟨hactive, hage⟩ | h := h
  · exact if_neg fun hc => by rw [h] at hc; cases hc.1
  · refine if_neg fun ⟨_, hc⟩ => hc.elim (fun hc => ?_) fun hc => by omega
    rw [State.tether, portActive_of_active hactive] at hc
    cases hc
  · show (if s.paired ∧ (!s.portActive s.tether ∨ 2 ≤ s.pr.peerAge) then Host.Outcome.next s.tetherLost else .next s) = _
    rw [tetherLost_of_known h, ite_self]

end Sys2Proof.Machine
end

section
namespace Sys2Proof.Machine

/-! ## The roles of a paired device (R244, R249 to R254, R264) -/

/-- Settles O30: each clause is the rule of its command, with what the operations of the pair unit leave. -/
theorem pairRolesFollowGrants : Obligations.PairRolesFollowGrants := by
  unfold Obligations.PairRolesFollowGrants
  refine ⟨?_, ?_, ?_, ?_, ?_, ?_, ?_, ?_, ?_, ?_, ?_, ?_, ?_, ?_, ?_, ?_, ?_, ?_, ?_, ?_, ?_, ?_, ?_, ?_, ?_, ?_, ?_⟩
  · -- FENCE
    intro n s h hdue _
    refine ⟨_, exec_fence_due h hdue, ?_⟩
    have hoff : (({ s with pr := { s.pr with fence := true } } : State).flag F.PAIR_STAT_DRIVING false).g
        F.PAIR_STAT_DRIVING = 0 := g_flag_self _ _ _ rfl (by decide)
    have hen : (({ s with pr := { s.pr with fence := true } } : State).flag F.PAIR_STAT_DRIVING false).g F.PAIR_CFG_EN = 1 :=
      (g_flag_ne _ _ _ _ (.inl (by decide)) (by decide)).trans h.1
    obtain ⟨hout, hclk⟩ := released_showDrives n (mayDrive_of_not_driving hen hoff)
    exact ⟨(unitKept_showDrives.g (by decide)).trans hoff, hout, hclk, congrArg Pair.fence unitKept_showDrives.pr,
      byte_congr showDrives_mem⟩
  · -- FENCE otherwise
    intro s h
    exact ⟨s, exec_fence_otherwise h, rfl⟩
  · -- GRANT that is newer
    intro p e g ns s harr hen hnew
    obtain ⟨hheld, hepoch, htick⟩ := grantTaken_holds hnew
    obtain ⟨hkept, hgranted⟩ := granted_kept s (g.1.toNat, g.2.toNat) (15 - e.hops) ns
    refine ⟨_, exec_grant g ns harr hen, (hkept.g _ (by decide) (by decide)).trans hheld,
      (hkept.g _ (by decide) (by decide)).trans hepoch, ?_, hgranted⟩
    rw [State.rd64, hkept.rd (a := R.PAIR_GRANT_LO) (by decide) (by decide),
      hkept.rd (a := R.PAIR_GRANT_HI) (by decide) (by decide)]
    exact htick
  · -- GRANT that is not newer
    intro p e g o ns s harr ⟨hown, hold, hne⟩
    by_cases hen : s.g F.PAIR_CFG_EN = 1
    · have hstays : s.grantTaken (g.1.toNat, g.2.toNat) = s := by
        refine grantTaken_of_older fun hnew => hne ?_
        rw [hown, newest, hold] at hnew
        exact (Option.some.inj hnew).symm
      obtain ⟨hkept, -⟩ := granted_kept s (g.1.toNat, g.2.toNat) (15 - e.hops) ns
      rw [hstays] at hkept
      exact ⟨_, exec_grant g ns harr hen, hkept.rd (by decide) (by decide), hkept.rd (by decide) (by decide),
        hkept.rd (by decide) (by decide)⟩
    · have hun : s.g F.PAIR_CFG_EN = 0 := by
        have hlt : s.g F.PAIR_CFG_EN < 2 := bitsOf_lt _ _ _
        omega
      exact ⟨s, exec_grant_unpaired g ns harr hun, rfl, rfl, rfl⟩
  · -- GRANT at a WAITING device
    intro p e g ns s harr ⟨hen, hrole⟩
    have hwait := (grantKnown_role s (g.1.toNat, g.2.toNat) (15 - e.hops)).trans hrole
    refine ⟨_, exec_grant g ns harr hen, ?_⟩
    rw [granted_eq, actOnGrant_waiting hwait]
    exact ⟨rfl, hwait, byte_congr (grantKnown_mem s _ _)⟩
  · -- GRANT at a STANDBY while ticks run
    intro p e g ns s harr ⟨hen, hrole, hrun⟩
    have hstandby := (grantKnown_role s (g.1.toNat, g.2.toNat) (15 - e.hops)).trans hrole
    have hticks := (grantKnown_running s (g.1.toNat, g.2.toNat) (15 - e.hops)).trans (running_of_g_eq_one hrun)
    obtain ⟨-, -, htaking, hk⟩ := takesOver_kept (s.grantKnown (g.1.toNat, g.2.toNat) (15 - e.hops)) ns
    refine ⟨_, exec_grant g ns harr hen, ?_⟩
    rw [granted_eq, actOnGrant_standby hstandby hticks]
    refine ⟨htaking, ?_⟩
    obtain ⟨k, htake, hkt⟩ := Option.map_eq_some_iff.mp hk
    rw [htake, Option.any_some, hkt, grantKnown_tick]
    exact beq_self_eq_true _
  · -- GRANT at a STANDBY while no tick runs, and at a device of another role
    intro p e g ns s harr ⟨hen, hnot1, hnot3⟩
    have hrole := grantKnown_role s (g.1.toNat, g.2.toNat) (15 - e.hops)
    obtain ⟨-, htake, hnext⟩ := grantKnown_pr s (g.1.toNat, g.2.toNat) (15 - e.hops)
    refine ⟨_, exec_grant g ns harr hen, ?_⟩
    rw [granted_eq, actOnGrant_otherwise (by rw [hrole]; exact hnot1)]
    · exact ⟨hrole, htake, hnext, byte_congr (grantKnown_mem s _ _)⟩
    · rw [hrole, grantKnown_running]
      exact fun ⟨h3, hr⟩ => hnot3 ⟨h3, g_eq_one_of_on rfl hr⟩
  · -- REVOKE
    intro p e g s harr ⟨hen, hrole⟩
    refine ⟨_, exec_revoke g harr hen, ?_⟩
    rw [peerHolds_otherwise hrole]
    exact ⟨rfl, rfl, (onlyRegs.refl s []).upd⟩
  · -- GRANT_COPY
    intro p e g s harr ⟨hen, hrole⟩
    refine ⟨_, exec_grantCopy g harr hen, ?_⟩
    rw [peerHolds_otherwise hrole]
    exact ⟨rfl, rfl, (onlyRegs.refl s []).upd⟩
  · -- NOTICE
    intro p e g s harr ⟨hen, hrole⟩
    have hsame : (s.pilotSeen (15 - e.hops)).g F.PAIR_STAT_ROLE = s.g F.PAIR_STAT_ROLE :=
      onlyFields_pilotSeen.g _ (by decide) (by decide)
    obtain ⟨hpeer, hgranted, hmiss, hage⟩ := pilotSeen_known s (15 - e.hops)
    obtain ⟨hlost, hpath⟩ := bits_pilotSeen s (15 - e.hops)
    refine ⟨_, exec_notice g harr hen, ?_⟩
    rw [peerHolds_otherwise (by rw [hsame]; exact hrole), peerKnown_pr, g_peerKnown, g_peerKnown, g_peerKnown, hpeer]
    exact ⟨rfl, hgranted, hmiss, hage, hlost, hpath, hsame,
      (onlyRegs.pilotSeen (onlyRegs.refl s _) List.mem_cons_self).peerKnown⟩
  · -- REVOKE at a WAITING device that thus knows a newer grant than its own
    intro p e g s harr ⟨hen, hrole⟩ hnew
    exact ⟨_, exec_revoke g harr hen, peerHolds_waiting_effect hen hrole hnew⟩
  · -- GRANT_COPY at a WAITING device that thus knows a newer grant than its own
    intro p e g s harr ⟨hen, hrole⟩ hnew
    exact ⟨_, exec_grantCopy g harr hen, peerHolds_waiting_effect hen hrole hnew⟩
  · -- NOTICE at a WAITING device that thus knows a newer grant than its own
    intro p e g s harr ⟨hen, hrole⟩ hnew
    have hseen := onlyFields_pilotSeen (s := s) (hops := 15 - e.hops)
    obtain ⟨hpeer, -, -, -⟩ := pilotSeen_known s (15 - e.hops)
    refine ⟨_, exec_notice g harr hen, ?_⟩
    rw [← hpeer]
    exact peerHolds_waiting_effect ((hseen.g _ (by decide) (by decide)).trans hen)
      ((hseen.g _ (by decide) (by decide)).trans hrole) (by rw [ownGrant_pilotSeen]; exact hnew)
  · -- QUERY
    intro p e g o s h hown ⟨hactive, hloud⟩ ⟨hempty, hunowned⟩
    exact ⟨_, exec_query h hown ⟨hactive, hloud, hempty, hunowned⟩, rfl, fun _ _ => rfl, rfl⟩
  · -- QUERY of a device that holds no grant
    intro p e g s harr hnone
    exact ⟨s, exec_query_of_none harr (.inl hnone), rfl⟩
  · -- PILOT_MISS
    intro s h
    have hpr : ({ s with pr := { s.pr with miss := true } } : State).pilotBits.pr = { s.pr with miss := true } := pilotBits_pr
    have hlost := lost_pilotBits (s := { s with pr := { s.pr with miss := true } })
    have hpath := path_pilotBits (s := { s with pr := { s.pr with miss := true } })
    have hboth : ({ s with pr := { s.pr with miss := true } } : State).bothMiss = s.pr.peer.any Beat.miss := rfl
    have hiff : s.pr.peer.any Beat.miss = true ↔ ∃ b, s.pr.peer = some b ∧ b.miss = true := by
      cases s.pr.peer <;> simp
    refine ⟨_, exec_pilotMiss h, congrArg Pair.miss hpr, ?_, ?_,
      onlyRegs.pilotBits (onlyRegs.refl s _).upd List.mem_cons_self⟩
    · rw [hlost, hboth, ← hiff]
      cases s.pr.peer.any Beat.miss <;> decide
    · rw [hpath, hlost, hboth]
      cases s.pr.peer.any Beat.miss <;> rfl
  · -- PILOT_MISS with word from the pilot
    intro s h
    exact ⟨s, exec_pilotMiss_otherwise (.inr h), rfl⟩
  · -- TETHER_DOWN
    intro s ⟨hen, hnew⟩ hdown
    obtain ⟨hflag, hreport, hckpt, hregs⟩ := tetherLost_effect hnew
    exact ⟨_, exec_tetherDown hen hdown, hflag, hreport, fun hfresh => hckpt.trans (if_pos hfresh),
      fun hstale => hckpt.trans (if_neg hstale), hregs⟩
  · -- TETHER_DOWN of a Tether that is up, or known to be down
    intro s h
    exact ⟨s, exec_tetherDown_otherwise (.inr h), rfl⟩
  · -- GRANT_DEADLINE
    intro o s h ⟨ho, hnone⟩ ⟨hvalid, hactive, hloud⟩ ⟨hempty, hunowned⟩
    refine ⟨_, exec_grantDeadline_asks h hnone, ?_⟩
    rw [tetherSend_express ⟨hactive, hloud, hempty, hunowned⟩ hvalid (by decide) rfl, ho]
    exact ⟨rfl, fun _ _ => rfl, rfl⟩
  · -- GRANT_DEADLINE otherwise
    intro s h
    exact ⟨s, exec_grantDeadline_otherwise (.inr (h.imp_left running_of_g_eq_zero)), rfl⟩
  · -- GRANT at an unpaired device
    intro p e g ns s harr hun
    exact ⟨s, exec_grant_unpaired g ns harr hun, rfl⟩
  · -- REVOKE at an unpaired device
    intro p e g s harr hun
    exact ⟨_, rfl, received_unpaired harr rfl hun⟩
  · -- NOTICE at an unpaired device
    intro p e g s harr hun
    exact ⟨_, rfl, received_unpaired harr rfl hun⟩
  · -- GRANT_COPY at an unpaired device
    intro p e g s harr hun
    exact ⟨_, rfl, received_unpaired harr rfl hun⟩
  · -- QUERY at an unpaired device
    intro p e g s harr hun
    exact ⟨s, exec_query_of_none harr (.inr (unpaired_of_en hun)), rfl⟩
  · -- PILOT_MISS, TETHER_DOWN and GRANT_DEADLINE at an unpaired device
    intro s hun
    have hpaired := unpaired_of_en hun
    exact ⟨exec_pilotMiss_otherwise (.inl hpaired), exec_tetherDown_otherwise (.inl hpaired),
      exec_grantDeadline_otherwise (.inl hpaired)⟩

end Sys2Proof.Machine
end

section
/-!
SUPPORT. The pilot (R248, R249, R276): what a decision for a slot changes, and what the decisions of a tick leave of each slot.
-/
namespace Sys2Proof.Machine

variable {s : State}

/-! ## One slot -/

theorem pilotPair_onPair (p : Fin 16) : onPair (R.PILOT_PAIR p) := by
  have := p.isLt
  unfold R.PILOT_PAIR
  omega

theorem pilotPstat_onPair (p : Fin 16) : onPair (R.PILOT_PSTAT p) := by
  have := p.isLt
  unfold R.PILOT_PSTAT
  omega

/-- A register that neither message traffic nor slot `p` changes. -/
def besideSlot (p a : Nat) : Prop := besideMsgs a ∧ a ≠ R.PILOT_PAIR p ∧ a ≠ R.PILOT_PSTAT p

/-- A register that neither message traffic nor a slot but `p` changes. -/
def slotView (p a : Nat) : Prop := besideMsgs a ∧ ∀ q < 16, q ≠ p → a ≠ R.PILOT_PAIR q ∧ a ≠ R.PILOT_PSTAT q

theorem slotView.besideSlot {p q a : Nat} (h : slotView p a) (hq : q < 16) (hne : q ≠ p) : besideSlot q a := ⟨h.1, h.2 q hq hne⟩

theorem slotView_pair (p : Fin 16) : slotView p (R.PILOT_PAIR p) :=
  ⟨(pilotPair_onPair p).besideMsgs, fun q _ hne => by unfold R.PILOT_PAIR R.PILOT_PSTAT; omega⟩

theorem slotView_pstat (p : Fin 16) : slotView p (R.PILOT_PSTAT p) :=
  ⟨(pilotPstat_onPair p).besideMsgs, fun q _ hne => by unfold R.PILOT_PAIR R.PILOT_PSTAT; omega⟩

/-- A register outside the slots that no message traffic changes. -/
theorem slotView_outside {p a : Nat} (h : besideMsgs a) (hout : a < 0x03040240 ∨ 0x030402C0 ≤ a) : slotView p a :=
  ⟨h, fun q hq _ => by unfold R.PILOT_PAIR R.PILOT_PSTAT; omega⟩

/-- Whether member `m` of slot `p` is good now. -/
def State.goodNow (s : State) (p m : Nat) : Bool := if m = 0 then s.goodBeat p 0 s.tick else s.goodBeat p 1 s.tick

theorem goodNow_eq (p : Nat) (m : Fin 2) : s.goodNow p m = s.goodBeat p m s.tick := by
  unfold State.goodNow
  fin_cases m <;> rfl

/-- A good member's heartbeat satisfies `f`. -/
def State.goodWith (s : State) (p m : Nat) (f : Beat → Bool) : Bool :=
  match s.beat p m with
  | some x => s.goodNow p m && f x
  | none => false

theorem goodWith_eq (p m : Nat) (f : Beat → Bool) : s.goodWith p m f = (s.goodNow p m && (s.beat p m).any f) := by
  unfold State.goodWith
  cases s.beat p m <;> simp

/-- Whether member `m` asks for a failover. -/
def State.memberAsks (s : State) (p m : Nat) : Bool :=
  match s.beat p m with
  | some h => h.failover
  | none => false

theorem memberAsks_eq (p m : Nat) : s.memberAsks p m = (s.beat p m).any Beat.failover := by
  unfold State.memberAsks
  cases s.beat p m <;> rfl

/-- The heartbeats of slot `p` are shown as good or not. -/
def State.pilotJudged (s : State) (p : Nat) : State :=
  (s.flag (F.PILOT_PSTAT_A_GOOD p) (s.goodBeat p 0 s.tick)).flag (F.PILOT_PSTAT_B_GOOD p) (s.goodBeat p 1 s.tick)

/-- The grant of this tick. -/
def State.pilotNow (s : State) : Nat × Nat := (s.g F.PILOT_CTL_EPOCH, s.tick)

/-- A SWITCH that cannot be done is refused. -/
def State.switchRefused (s : State) (p : Nat) : State :=
  if s.on (F.PILOT_PAIR_SWITCH p) then (s.flag (F.PILOT_PAIR_SWITCH p) false).flag (F.PILOT_PAIR_SW_REFUSED p) true else s

/-- Slot `p` is DARK. -/
def State.pilotDark (s : State) (p : Nat) : State := (s.flag (F.PILOT_PSTAT_DARK p) true).emit Kind.pairDark (Src.pair p) s.tick

/-- The decision for a slot granted to member `x`. -/
def State.pilotHeld (s : State) (p x : Nat) : State :=
  if s.goodNow p x then
    if s.memberAsks p x ∨ s.on (F.PILOT_PAIR_SWITCH p) then
      if s.goodWith p (1 - x) (fun h => h.ready == 2) then s.pilotMove p (1 - x) s.pilotNow
      else (s.switchRefused p).pilotGrant p x s.pilotNow
    else s.pilotGrant p x s.pilotNow
  else if s.goodNow p (1 - x) then s.pilotMove p (1 - x) s.pilotNow
  else s.pilotDark p

/-- The decision for a slot without a grant. -/
def State.pilotFree (s : State) (p : Nat) : State :=
  if s.goodWith p 0 (fun h => h.role == 2) then s.pilotGrant p 0 s.pilotNow
  else if s.goodWith p 1 (fun h => h.role == 2) then s.pilotGrant p 1 s.pilotNow
  else if s.goodBeat p 0 s.tick then s.pilotGrant p 0 s.pilotNow
  else if s.goodBeat p 1 s.tick then s.pilotGrant p 1 s.pilotNow
  else s

/-- The decision once the heartbeats are judged. -/
def State.pilotChoose (s : State) (p : Nat) : State :=
  match s.g (F.PILOT_PSTAT_STATE p) with
  | 0 => s.pilotFree p
  | st => s.pilotHeld p (st - 1)

theorem pilotDecide_eq (s : State) (p : Nat) : s.pilotDecide p = (s.pilotJudged p).pilotChoose p := rfl

theorem pilotChoose_free {p : Nat} (h : s.g (F.PILOT_PSTAT_STATE p) = 0) : s.pilotChoose p = s.pilotFree p := by
  unfold State.pilotChoose
  rw [h]
  rfl

theorem pilotChoose_held {p m : Nat} (h : s.g (F.PILOT_PSTAT_STATE p) = m + 1) : s.pilotChoose p = s.pilotHeld p m := by
  unfold State.pilotChoose
  rw [h]
  rfl

/-! ## What a decision leaves -/

section
variable {p m type flags : Nat} {g : Nat × Nat}

theorem unitKept_pilotSend : UnitKept besideMsgs s (s.pilotSend p m type flags g) := (UnitKept.refl s).sendMsg fun _ => id

@[simp] theorem pilotSend_mem (s : State) (p m type flags : Nat) (g : Nat × Nat) :
    (s.pilotSend p m type flags g).mem = s.mem := sendMsg_mem _ _

@[simp] theorem pilotGrant_mem (s : State) (p m : Nat) (g : Nat × Nat) : (s.pilotGrant p m g).mem = s.mem := by
  simp [State.pilotGrant]

@[simp] theorem pilotMove_mem (s : State) (p m : Nat) (g : Nat × Nat) : (s.pilotMove p m g).mem = s.mem := by
  simp [State.pilotMove, State.bump, State.flag]

theorem unitKept_pilotGrant : UnitKept (besideSlot p) s (s.pilotGrant p m g) :=
  ((unitKept_pilotSend.trans unitKept_pilotSend).mono fun _ h => h.1).p fun h => h.2.2 rfl

theorem unitKept_pilotMove : UnitKept (besideSlot p) s (s.pilotMove p m g) :=
  have hsent := ((unitKept_pilotSend (s := s) (p := p) (m := m) (type := 2) (flags := 0) (g := g)).trans
    (unitKept_pilotSend.trans unitKept_pilotSend)).mono (Q := besideSlot p) fun _ h => h.1
  (((hsent.p (f := F.PILOT_PSTAT_STATE p) fun h => h.2.2 rfl).bump (f := F.PILOT_PSTAT_SWITCHES p) fun h => h.2.2 rfl).flag
    (f := F.PILOT_PAIR_SWITCH p) fun h => h.2.1 rfl).emit

theorem unitKept_switchRefused : UnitKept (besideSlot p) s (s.switchRefused p) :=
  (((UnitKept.refl s).flag (f := F.PILOT_PAIR_SWITCH p) fun h => h.2.1 rfl).flag
    (f := F.PILOT_PAIR_SW_REFUSED p) fun h => h.2.1 rfl).ite (UnitKept.refl s)

theorem unitKept_pilotDark : UnitKept (besideSlot p) s (s.pilotDark p) :=
  ((UnitKept.refl s).flag (f := F.PILOT_PSTAT_DARK p) fun h => h.2.2 rfl).emit

theorem unitKept_pilotJudged : UnitKept (besideSlot p) s (s.pilotJudged p) :=
  ((UnitKept.refl s).flag (f := F.PILOT_PSTAT_A_GOOD p) fun h => h.2.2 rfl).flag (f := F.PILOT_PSTAT_B_GOOD p) fun h => h.2.2 rfl

theorem unitKept_pilotHeld : UnitKept (besideSlot p) s (s.pilotHeld p m) :=
  (((unitKept_pilotMove).ite (unitKept_switchRefused.trans unitKept_pilotGrant)).ite unitKept_pilotGrant).ite
    (unitKept_pilotMove.ite unitKept_pilotDark)

theorem unitKept_pilotFree : UnitKept (besideSlot p) s (s.pilotFree p) :=
  unitKept_pilotGrant.ite <| unitKept_pilotGrant.ite <| unitKept_pilotGrant.ite <| unitKept_pilotGrant.ite (UnitKept.refl s)

/-- A decision for slot `p` changes no register outside it but counts of messages. -/
theorem unitKept_pilotDecide : UnitKept (besideSlot p) s (s.pilotDecide p) := by
  rw [pilotDecide_eq]
  refine unitKept_pilotJudged.trans ?_
  unfold State.pilotChoose
  split
  · exact unitKept_pilotFree
  · exact unitKept_pilotHeld

theorem pilotDecide_mem (s : State) (p : Nat) : (s.pilotDecide p).mem = s.mem := by
  have hrefused (t : State) : (t.switchRefused p).mem = t.mem := by unfold State.switchRefused; split <;> rfl
  have hheld (t : State) (x : Nat) : (t.pilotHeld p x).mem = t.mem := by
    unfold State.pilotHeld
    simp only [apply_ite State.mem, pilotGrant_mem, pilotMove_mem, hrefused, State.pilotDark, emit_mem, State.flag, p_mem,
      ite_self]
  have hfree (t : State) : (t.pilotFree p).mem = t.mem := by
    unfold State.pilotFree
    simp only [apply_ite State.mem, pilotGrant_mem, ite_self]
  rw [pilotDecide_eq]
  refine Eq.trans ?_ (rfl : (s.pilotJudged p).mem = s.mem)
  unfold State.pilotChoose
  split
  · exact hfree _
  · exact hheld _ _

end

/-! ## The fields of the slot -/

section
variable (p : Fin 16) (m : Nat) (g : Nat × Nat)

theorem onlyFields_pilotSend (n type flags : Nat) : OnlyFields [] s (s.pilotSend n m type flags g) :=
  (OnlyFields.refl s).kept (unitKept_pilotSend.mono fun _ h => h.besideMsgs)

theorem onlyFields_pilotGrant : OnlyFields [F.PILOT_PSTAT_STATE p] s (s.pilotGrant p m g) :=
  ((onlyFields_pilotSend ..).trans (onlyFields_pilotSend ..)).mono (List.nil_subset _) |>.p List.mem_cons_self

theorem state_pilotGrant {m : Nat} (hm : m < 2) : (s.pilotGrant p m g).g (F.PILOT_PSTAT_STATE p) = m + 1 :=
  (g_p_self _ (F.PILOT_PSTAT_STATE p) (m + 1) (by simp [F.PILOT_PSTAT_STATE])).trans
    (Nat.mod_eq_of_lt (by simp [F.PILOT_PSTAT_STATE]; omega))

/-- The messages of a move have left, and STATE shows the new member. -/
def State.moveSent (s : State) (p m : Nat) (g : Nat × Nat) : State :=
  (((s.pilotSend p m 2 0 g).pilotSend p (1 - m) 3 0 g).pilotSend p (1 - m) 2 4 g).p (F.PILOT_PSTAT_STATE p) (m + 1)

/-- The move is counted, and a SWITCH is done. -/
def State.moveCounted (s : State) (p : Nat) : State :=
  (s.bump (F.PILOT_PSTAT_SWITCHES p) 1).flag (F.PILOT_PAIR_SWITCH p) false

theorem pilotMove_eq (s : State) (p m : Nat) (g : Nat × Nat) : s.pilotMove p m g =
    ((s.moveSent p m g).moveCounted p).emit Kind.pilotSwitch (Src.pair p)
      (((s.moveSent p m g).moveCounted p).member p m) := rfl

theorem pstat_moveCounted (f : Fld) (hf : f.reg = R.PILOT_PSTAT p) (h32 : f.hi < 32) :
    (s.moveCounted p).g f = (s.bump (F.PILOT_PSTAT_SWITCHES p) 1).g f :=
  g_flag_ne _ _ _ _ (.inl (by rw [hf]; simp [F.PILOT_PAIR_SWITCH, R.PILOT_PSTAT, R.PILOT_PAIR])) h32

theorem onlyFields_moveSent : OnlyFields [F.PILOT_PSTAT_STATE p] s (s.moveSent p m g) :=
  (((onlyFields_pilotSend ..).trans (onlyFields_pilotSend ..)).trans (onlyFields_pilotSend ..)).mono (List.nil_subset _)
    |>.p List.mem_cons_self

/-- What a move does: the new member is granted, the move is counted and reported, and a SWITCH is done. -/
theorem pilotMove_effect {m : Nat} (hm : m < 2) : (s.pilotMove p m g).g (F.PILOT_PSTAT_STATE p) = m + 1 ∧
    (s.pilotMove p m g).g (F.PILOT_PSTAT_SWITCHES p) = min (s.g (F.PILOT_PSTAT_SWITCHES p) + 1) 65535 ∧
    (s.pilotMove p m g).g (F.PILOT_PAIR_SWITCH p) = 0 ∧
    ∃ f ∈ (s.pilotMove p m g).ft.blocks, f.kind = Kind.pilotSwitch := by
  rw [pilotMove_eq]
  refine ⟨?_, ?_, ?_, emit_reports _ _ _ _ _⟩
  · rw [g_emit, pstat_moveCounted _ _ rfl (by simp [F.PILOT_PSTAT_STATE]), State.bump,
      g_p_ne _ _ _ _ (.inr (.inr (by simp [F.PILOT_PSTAT_STATE, F.PILOT_PSTAT_SWITCHES]))) (by simp [F.PILOT_PSTAT_STATE]),
      State.moveSent, g_p_self _ _ _ (by simp [F.PILOT_PSTAT_STATE])]
    exact Nat.mod_eq_of_lt (by simp [F.PILOT_PSTAT_STATE]; omega)
  · rw [g_emit, pstat_moveCounted _ _ rfl (by simp [F.PILOT_PSTAT_SWITCHES]),
      g_bump_self _ _ (by simp [F.PILOT_PSTAT_SWITCHES]),
      (onlyFields_moveSent p m g).g (F.PILOT_PSTAT_SWITCHES p) (pilotPstat_onPair p) (by revert p; decide)]
    simp [F.PILOT_PSTAT_SWITCHES]
  · rw [g_emit]
    exact g_flag_self _ (F.PILOT_PAIR_SWITCH p) false rfl (by simp [F.PILOT_PAIR_SWITCH])

theorem onlyFields_pilotMove :
    OnlyFields [F.PILOT_PSTAT_STATE p, F.PILOT_PSTAT_SWITCHES p, F.PILOT_PAIR_SWITCH p] s (s.pilotMove p m g) :=
  ((((onlyFields_moveSent p m g).mono (by simp)).bump (by simp)).flag (by simp)).emit

theorem onlyFields_pilotJudged : OnlyFields [F.PILOT_PSTAT_A_GOOD p, F.PILOT_PSTAT_B_GOOD p] s (s.pilotJudged p) :=
  ((OnlyFields.refl s).flag (by simp)).flag (by simp)

theorem judged_good : (s.pilotJudged p).g (F.PILOT_PSTAT_A_GOOD p) = (s.goodBeat p 0 s.tick).toNat ∧
    (s.pilotJudged p).g (F.PILOT_PSTAT_B_GOOD p) = (s.goodBeat p 1 s.tick).toNat := by
  constructor
  · rw [State.pilotJudged, g_flag_ne _ _ _ _ (.inr (.inr (by simp [F.PILOT_PSTAT_A_GOOD, F.PILOT_PSTAT_B_GOOD])))
      (by simp [F.PILOT_PSTAT_A_GOOD]), g_flag_self _ _ _ rfl (by simp [F.PILOT_PSTAT_A_GOOD])]
    cases s.goodBeat p 0 s.tick <;> rfl
  · rw [State.pilotJudged, g_flag_self _ _ _ rfl (by simp [F.PILOT_PSTAT_B_GOOD])]
    cases s.goodBeat p 1 s.tick <;> rfl

theorem onlyFields_switchRefused : OnlyFields [F.PILOT_PAIR_SWITCH p, F.PILOT_PAIR_SW_REFUSED p] s (s.switchRefused p) :=
  (((OnlyFields.refl s).flag (by simp)).flag (by simp)).ite (OnlyFields.refl s)

/-- After a refusal no SWITCH stands, and one that stood is shown as refused. -/
theorem switchRefused_effect : (s.switchRefused p).g (F.PILOT_PAIR_SWITCH p) = 0 ∧
    (s.g (F.PILOT_PAIR_SWITCH p) = 1 → (s.switchRefused p).g (F.PILOT_PAIR_SW_REFUSED p) = 1) := by
  unfold State.switchRefused
  split
  · constructor
    · rw [g_flag_ne _ _ _ _ (.inr (.inr (by simp [F.PILOT_PAIR_SWITCH, F.PILOT_PAIR_SW_REFUSED]))) (by simp [F.PILOT_PAIR_SWITCH])]
      exact g_flag_self _ (F.PILOT_PAIR_SWITCH p) false rfl (by simp [F.PILOT_PAIR_SWITCH])
    · intro _
      exact g_flag_self _ (F.PILOT_PAIR_SW_REFUSED p) true rfl (by simp [F.PILOT_PAIR_SW_REFUSED])
  · next hoff =>
    exact ⟨by simpa [State.on] using hoff, fun hon => absurd (on_of_g_eq_one hon) hoff⟩

theorem onlyFields_pilotDark : OnlyFields [F.PILOT_PSTAT_DARK p] s (s.pilotDark p) :=
  ((OnlyFields.refl s).flag List.mem_cons_self).emit

theorem pilotDark_effect : (s.pilotDark p).g (F.PILOT_PSTAT_DARK p) = 1 ∧
    ∃ f ∈ (s.pilotDark p).ft.blocks, f.kind = Kind.pairDark :=
  ⟨g_flag_self s (F.PILOT_PSTAT_DARK p) true rfl (by simp [F.PILOT_PSTAT_DARK]), emit_reports _ _ _ _ _⟩

end

end Sys2Proof.Machine
end

section
/-!
SUPPORT. The decisions of the pilot at the 0.25T mark (R248, R249): each slot is decided for itself.
-/
namespace Sys2Proof.Machine

variable {s : State}

/-! ## The decisions of a tick -/

/-- An epoch known is settled. -/
theorem settleEpoch_known (h : s.pr.epochKnown = true) : s.settleEpoch = s := if_pos h

/-- The settling of the epoch leaves all but EPOCH. -/
theorem settleEpoch_rest (s : State) : OnlyFields [F.PILOT_CTL_EPOCH] s s.settleEpoch ∧
    s.settleEpoch.pr.beats = s.pr.beats ∧ s.settleEpoch.tm = s.tm ∧ s.settleEpoch.mem = s.mem := by
  unfold State.settleEpoch
  split
  · exact ⟨OnlyFields.refl s, rfl, rfl, rfl⟩
  · exact ⟨(OnlyFields.refl s).upd.p List.mem_cons_self, rfl, rfl, rfl⟩

theorem clearOf_epoch : ∀ p : Fin 16, (F.PILOT_PAIR_EN p).clearOf [F.PILOT_CTL_EPOCH] = true := by decide

/-- The decision for slot `p` where it is enabled. -/
def State.pilotSlot (s : State) (p : Nat) : State := if s.on (F.PILOT_PAIR_EN p) then s.pilotDecide p else s

theorem unitKept_pilotSlot {p : Nat} : UnitKept (besideSlot p) s (s.pilotSlot p) := unitKept_pilotDecide.ite (UnitKept.refl s)

theorem exec_pilotDeadline (h : s.g F.TICK_STAT_RUNNING = 1 ∧ s.g F.PILOT_CTL_EN = 1 ∧ 2 ≤ s.pr.pilotTicks) :
    exec .pilotDeadline s = .next ((List.range 16).foldl State.pilotSlot s.settleEpoch) := by
  obtain ⟨hrun, hen, hticks⟩ := h
  exact if_pos ⟨running_of_g_eq_one hrun, on_of_g_eq_one hen, hticks⟩

theorem exec_pilotDeadline_early (h : s.g F.TICK_STAT_RUNNING = 0 ∨ s.g F.PILOT_CTL_EN = 0 ∨ s.pr.pilotTicks < 2) :
    exec .pilotDeadline s = .next s := by
  refine if_neg fun ⟨hrun, hen, hticks⟩ => ?_
  obtain h | h | h := h
  · rw [running_of_g_eq_zero h] at hrun; cases hrun
  · rw [on_of_g_eq_zero h] at hen; cases hen
  · omega

/-- An enabled slot is decided in a state that has it as the tick found it, and no later decision changes it. -/
theorem exec_pilotDeadline_slot (p : Fin 16) (h : s.g F.TICK_STAT_RUNNING = 1 ∧ s.g F.PILOT_CTL_EN = 1 ∧
    2 ≤ s.pr.pilotTicks ∧ s.g (F.PILOT_PAIR_EN p) = 1) : ∃ r t, UnitKept (slotView p) s.settleEpoch r ∧
      exec .pilotDeadline s = .next t ∧ UnitKept (slotView p) (r.pilotDecide p) t ∧ t.mem = s.mem := by
  obtain ⟨hrun, hen, hticks, hslot⟩ := h
  obtain ⟨r, hr, ht⟩ := foldl_at (K := UnitKept (slotView p)) UnitKept.refl UnitKept.trans (List.mem_range.mpr p.isLt)
    List.nodup_range (fun t q hq hne => (unitKept_pilotSlot (s := t)).mono fun a ha =>
      ha.besideSlot (List.mem_range.mp hq) hne) s.settleEpoch
  obtain ⟨hfields, -, -, hmem⟩ := settleEpoch_rest s
  refine ⟨r, _, hr, exec_pilotDeadline ⟨hrun, hen, hticks⟩, ?_, ?_⟩
  · have hon : r.on (F.PILOT_PAIR_EN p) = true := by
      rw [hr.on (slotView_pair p), hfields.on (pilotPair_onPair p) (clearOf_epoch p), on_of_g_eq_one hslot]
    rwa [State.pilotSlot, if_pos hon] at ht
  · refine (foldl_part (f := State.pilotSlot) (part := State.mem) (fun t q => ?_) (List.range 16) s.settleEpoch).trans hmem
    unfold State.pilotSlot
    rw [apply_ite State.mem, pilotDecide_mem, ite_self]

/-! ## A slot as the tick found it -/

/-- `d` has slot `p` as `s` has it, with the heartbeats of `s` judged. -/
structure SlotAt (p : Fin 16) (s d : State) : Prop where
  state : d.g (F.PILOT_PSTAT_STATE p) = s.g (F.PILOT_PSTAT_STATE p)
  switches : d.g (F.PILOT_PSTAT_SWITCHES p) = s.g (F.PILOT_PSTAT_SWITCHES p)
  switch : d.g (F.PILOT_PAIR_SWITCH p) = s.g (F.PILOT_PAIR_SWITCH p)
  beats : d.pr.beats = s.pr.beats
  tm : d.tm = s.tm
  good : d.g (F.PILOT_PSTAT_A_GOOD p) = (s.goodBeat p 0 s.tick).toNat ∧
    d.g (F.PILOT_PSTAT_B_GOOD p) = (s.goodBeat p 1 s.tick).toNat

theorem beat_congr {t : State} (h : t.pr.beats = s.pr.beats) (p m : Nat) : t.beat p m = s.beat p m := by
  unfold State.beat
  rw [h]

theorem goodBeat_congr {t : State} (h : t.pr.beats = s.pr.beats) (p m k : Nat) : t.goodBeat p m k = s.goodBeat p m k := by
  unfold State.goodBeat
  rw [beat_congr h]

/-- The fields of a slot that the judgement of heartbeats and the settling of the epoch leave. -/
theorem clearOf_judged : ∀ p : Fin 16, ∀ f ∈ [F.PILOT_PSTAT_STATE p, F.PILOT_PSTAT_SWITCHES p, F.PILOT_PAIR_SWITCH p],
    f.clearOf [F.PILOT_PSTAT_A_GOOD p, F.PILOT_PSTAT_B_GOOD p] = true ∧ f.clearOf [F.PILOT_CTL_EPOCH] = true := by decide

theorem slotAt_judged {p : Fin 16} {r : State} (h : UnitKept (slotView p) s.settleEpoch r) : SlotAt p s (r.pilotJudged p) := by
  obtain ⟨hfields, hbeats, htm, -⟩ := settleEpoch_rest s
  have hbeats : r.pr.beats = s.pr.beats := (congrArg Pair.beats h.pr).trans hbeats
  have htm : r.tm = s.tm := h.tm.trans htm
  have htick : r.tick = s.tick := congrArg (fun m => m.tick.toNat) htm
  have hfield (f : Fld) (hview : slotView p f.reg) (hf : onPair f.reg)
      (hmem : f ∈ [F.PILOT_PSTAT_STATE p, F.PILOT_PSTAT_SWITCHES p, F.PILOT_PAIR_SWITCH p]) : (r.pilotJudged p).g f = s.g f := by
    obtain ⟨hjudged, hepoch⟩ := clearOf_judged p f hmem
    rw [(onlyFields_pilotJudged p).g f hf hjudged, h.g hview, hfields.g f hf hepoch]
  have hgood := judged_good (s := r) p
  rw [goodBeat_congr hbeats, goodBeat_congr hbeats, htick] at hgood
  exact ⟨hfield _ (slotView_pstat p) (pilotPstat_onPair p) (by simp), hfield _ (slotView_pstat p) (pilotPstat_onPair p) (by simp),
    hfield _ (slotView_pair p) (pilotPair_onPair p) (by simp), hbeats, htm, hgood⟩

namespace SlotAt

variable {p : Fin 16} {d : State} (h : SlotAt p s d)
include h

theorem goodNow (m : Fin 2) : d.goodNow p m = s.goodBeat p m s.tick := by
  rw [goodNow_eq, goodBeat_congr h.beats]
  exact congrArg (fun t : TimeUnit => s.goodBeat p m t.tick.toNat) h.tm

theorem goodWith (m : Fin 2) (f : Beat → Bool) : d.goodWith p m f = (s.goodBeat p m s.tick && (s.beat p m).any f) := by
  rw [goodWith_eq, h.goodNow, beat_congr h.beats]

theorem asks (m : Fin 2) : (d.memberAsks p m = true ∨ d.on (F.PILOT_PAIR_SWITCH p) = true) ↔
    (s.g (F.PILOT_PAIR_SWITCH p) = 1 ∨ (s.beat p m).any Beat.failover = true) := by
  have hsw : d.on (F.PILOT_PAIR_SWITCH p) = true ↔ s.g (F.PILOT_PAIR_SWITCH p) = 1 := by
    rw [← h.switch]
    exact ⟨g_eq_one_of_on rfl, on_of_g_eq_one⟩
  rw [hsw, memberAsks_eq, beat_congr h.beats]
  exact or_comm

end SlotAt

theorem other_eq (m : Fin 2) : ∃ n : Fin 2, (n : Nat) = 1 - m ∧ (n : Nat) + 1 = 2 - m := by
  fin_cases m
  · exact ⟨1, rfl, rfl⟩
  · exact ⟨0, rfl, rfl⟩

/-! ## The outcomes of a decision -/

/-- Fields of a slot that a grant leaves. -/
theorem clearOf_granted : ∀ p : Fin 16, ∀ f ∈ [F.PILOT_PSTAT_A_GOOD p, F.PILOT_PSTAT_B_GOOD p, F.PILOT_PSTAT_SWITCHES p,
    F.PILOT_PAIR_SWITCH p, F.PILOT_PAIR_SW_REFUSED p], f.clearOf [F.PILOT_PSTAT_STATE p] = true := by decide

/-- Fields of a slot that a move leaves. -/
theorem clearOf_moved : ∀ p : Fin 16, ∀ f ∈ [F.PILOT_PSTAT_A_GOOD p, F.PILOT_PSTAT_B_GOOD p],
    f.clearOf [F.PILOT_PSTAT_STATE p, F.PILOT_PSTAT_SWITCHES p, F.PILOT_PAIR_SWITCH p] = true := by decide

/-- Fields of a slot that a refusal leaves. -/
theorem clearOf_refused : ∀ p : Fin 16, ∀ f ∈ [F.PILOT_PSTAT_SWITCHES p],
    f.clearOf [F.PILOT_PAIR_SWITCH p, F.PILOT_PAIR_SW_REFUSED p] = true := by decide

/-- Fields of a slot that a DARK decision leaves. -/
theorem clearOf_dark : ∀ p : Fin 16, ∀ f ∈ [F.PILOT_PSTAT_A_GOOD p, F.PILOT_PSTAT_B_GOOD p, F.PILOT_PSTAT_STATE p],
    f.clearOf [F.PILOT_PSTAT_DARK p] = true := by decide

theorem onPair_slot {p : Fin 16} {f : Fld} (h : f.reg = R.PILOT_PAIR p ∨ f.reg = R.PILOT_PSTAT p) : onPair f.reg := by
  obtain h | h := h
  · exact h ▸ pilotPair_onPair p
  · exact h ▸ pilotPstat_onPair p

/-- A grant changes of the slot STATE alone. -/
theorem g_pilotGrant {p : Fin 16} {m : Nat} {g : Nat × Nat} {f : Fld} (hf : f ∈ [F.PILOT_PSTAT_A_GOOD p,
    F.PILOT_PSTAT_B_GOOD p, F.PILOT_PSTAT_SWITCHES p, F.PILOT_PAIR_SWITCH p, F.PILOT_PAIR_SW_REFUSED p]) :
    (s.pilotGrant p m g).g f = s.g f := by
  refine (onlyFields_pilotGrant p m g).g f (onPair_slot (p := p) ?_) (clearOf_granted p f hf)
  simp only [List.mem_cons, List.not_mem_nil, or_false] at hf
  obtain rfl | rfl | rfl | rfl | rfl := hf
  exacts [.inr rfl, .inr rfl, .inr rfl, .inl rfl, .inl rfl]

/-- A move leaves what is shown of the heartbeats. -/
theorem g_pilotMove {p : Fin 16} {m : Nat} {g : Nat × Nat} {f : Fld}
    (hf : f ∈ [F.PILOT_PSTAT_A_GOOD p, F.PILOT_PSTAT_B_GOOD p]) : (s.pilotMove p m g).g f = s.g f := by
  refine (onlyFields_pilotMove p m g).g f (onPair_slot (p := p) ?_) (clearOf_moved p f hf)
  simp only [List.mem_cons, List.not_mem_nil, or_false] at hf
  obtain rfl | rfl := hf <;> exact .inr rfl

/-- A DARK slot keeps what is shown of the heartbeats and its grant. -/
theorem g_pilotDark {p : Fin 16} {f : Fld} (hf : f ∈ [F.PILOT_PSTAT_A_GOOD p, F.PILOT_PSTAT_B_GOOD p, F.PILOT_PSTAT_STATE p]) :
    (s.pilotDark p).g f = s.g f := by
  refine (onlyFields_pilotDark p).g f (onPair_slot (p := p) ?_) (clearOf_dark p f hf)
  simp only [List.mem_cons, List.not_mem_nil, or_false] at hf
  obtain rfl | rfl | rfl := hf <;> exact .inr rfl

theorem switches_switchRefused (p : Fin 16) :
    (s.switchRefused p).g (F.PILOT_PSTAT_SWITCHES p) = s.g (F.PILOT_PSTAT_SWITCHES p) :=
  (onlyFields_switchRefused p).g _ (pilotPstat_onPair p) (clearOf_refused p _ List.mem_cons_self)

namespace SlotAt

variable {p : Fin 16} {m : Fin 2} {d : State} (h : SlotAt p s d)
include h

/-- A slot without a grant goes to a good ACTIVE member, else to a good one, A first. -/
theorem chooses_first (hstate : s.g (F.PILOT_PSTAT_STATE p) = 0) : (d.pilotChoose p).g (F.PILOT_PSTAT_STATE p) =
    (if s.goodBeat p 0 s.tick = true ∧ (s.beat p 0).any (fun b => b.role == 2) = true then 1
    else if s.goodBeat p 1 s.tick = true ∧ (s.beat p 1).any (fun b => b.role == 2) = true then 2
    else if s.goodBeat p 0 s.tick = true then 1 else if s.goodBeat p 1 s.tick = true then 2 else 0) ∧
    (d.pilotChoose p).g (F.PILOT_PSTAT_SWITCHES p) = s.g (F.PILOT_PSTAT_SWITCHES p) := by
  have hactive0 := h.goodWith 0 fun b => b.role == 2
  have hactive1 := h.goodWith 1 fun b => b.role == 2
  have hgood0 : d.goodBeat p 0 d.tick = s.goodBeat p 0 s.tick := h.goodNow 0
  have hgood1 : d.goodBeat p 1 d.tick = s.goodBeat p 1 s.tick := h.goodNow 1
  have hgrant0 := state_pilotGrant (s := d) p d.pilotNow (m := 0) (by decide)
  have hgrant1 := state_pilotGrant (s := d) p d.pilotNow (m := 1) (by decide)
  have hswitches (m : Nat) : (d.pilotGrant p m d.pilotNow).g (F.PILOT_PSTAT_SWITCHES p) = s.g (F.PILOT_PSTAT_SWITCHES p) :=
    (g_pilotGrant (by simp)).trans h.switches
  rw [pilotChoose_free (h.state.trans hstate)]
  unfold State.pilotFree
  simp only [Fin.val_zero, Fin.val_one] at hactive0 hactive1
  simp only [hactive0, hactive1, hgood0, hgood1, Bool.and_eq_true]
  constructor
  · simp only [apply_ite (State.g · (F.PILOT_PSTAT_STATE p)), hgrant0, hgrant1, h.state, hstate]
  · simp only [apply_ite (State.g · (F.PILOT_PSTAT_SWITCHES p)), hswitches, h.switches, ite_self]

variable (hstate : s.g (F.PILOT_PSTAT_STATE p) = m + 1)
include hstate

theorem chooses_keep (hgood : s.goodBeat p m s.tick = true)
    (hask : ¬ (s.g (F.PILOT_PAIR_SWITCH p) = 1 ∨ (s.beat p m).any Beat.failover = true)) :
    d.pilotChoose p = d.pilotGrant p m d.pilotNow := by
  rw [pilotChoose_held (h.state.trans hstate), State.pilotHeld, if_pos ((h.goodNow m).trans hgood),
    if_neg ((h.asks m).not.mpr hask)]

theorem chooses_move_asked (hgood : s.goodBeat p m s.tick = true)
    (hask : s.g (F.PILOT_PAIR_SWITCH p) = 1 ∨ (s.beat p m).any Beat.failover = true)
    (hready : s.goodBeat p (1 - m) s.tick = true ∧ (s.beat p (1 - m)).any (fun b => b.ready == 2) = true) :
    d.pilotChoose p = d.pilotMove p (1 - m) d.pilotNow := by
  obtain ⟨n, hn, -⟩ := other_eq m
  have hother := h.goodWith n fun b => b.ready == 2
  rw [hn, hready.1, hready.2, Bool.and_self] at hother
  rw [pilotChoose_held (h.state.trans hstate), State.pilotHeld, if_pos ((h.goodNow m).trans hgood),
    if_pos ((h.asks m).mpr hask), if_pos hother]

theorem chooses_refuse (hgood : s.goodBeat p m s.tick = true)
    (hask : s.g (F.PILOT_PAIR_SWITCH p) = 1 ∨ (s.beat p m).any Beat.failover = true)
    (hready : ¬ (s.goodBeat p (1 - m) s.tick = true ∧ (s.beat p (1 - m)).any (fun b => b.ready == 2) = true)) :
    d.pilotChoose p = (d.switchRefused p).pilotGrant p m d.pilotNow := by
  obtain ⟨n, hn, -⟩ := other_eq m
  have hother := h.goodWith n fun b => b.ready == 2
  rw [hn] at hother
  rw [pilotChoose_held (h.state.trans hstate), State.pilotHeld, if_pos ((h.goodNow m).trans hgood),
    if_pos ((h.asks m).mpr hask), if_neg (by rw [hother, Bool.and_eq_true]; exact hready)]

theorem chooses_move_alone (hbad : s.goodBeat p m s.tick = false) (hgood : s.goodBeat p (1 - m) s.tick = true) :
    d.pilotChoose p = d.pilotMove p (1 - m) d.pilotNow := by
  obtain ⟨n, hn, -⟩ := other_eq m
  have hother := h.goodNow n
  rw [hn, hgood] at hother
  rw [pilotChoose_held (h.state.trans hstate), State.pilotHeld, h.goodNow m, hbad, if_neg Bool.false_ne_true, if_pos hother]

theorem chooses_dark (hbad : s.goodBeat p 0 s.tick = false ∧ s.goodBeat p 1 s.tick = false) :
    d.pilotChoose p = d.pilotDark p := by
  have hall (n : Fin 2) : d.goodNow p n = false := (h.goodNow n).trans (by fin_cases n; exacts [hbad.1, hbad.2])
  obtain ⟨n, hn, -⟩ := other_eq m
  rw [pilotChoose_held (h.state.trans hstate), State.pilotHeld, hall m, if_neg Bool.false_ne_true, ← hn, hall n,
    if_neg Bool.false_ne_true]

end SlotAt

/-! ## The GRANT that leaves -/

theorem fabRoute_besideMsgs {d : Nat} (hd : d < 64) : besideMsgs (R.FAB_ROUTE d) := by
  constructor
  · unfold R.FAB_ROUTE; omega
  · unfold R.FAB_ROUTE R.FAB_MSG_NOROUTE; omega

theorem nglStat_besideMsgs {q : Nat} (hq : q < 8) : besideMsgs (R.NGL_STAT q) := by
  constructor
  · unfold R.NGL_STAT; omega
  · unfold R.NGL_STAT R.FAB_MSG_NOROUTE; omega

theorem member_lt (p m : Nat) : s.member p m < 64 := by
  unfold State.member
  split
  · exact bitsOf_lt _ _ _
  · exact bitsOf_lt _ _ _

/-- What a message of the pilot needs to find its way: the route table, the ports and this device's number. -/
structure SameRoutes (s t : State) : Prop where
  route : ∀ d < 64, t.rd (R.FAB_ROUTE d) = s.rd (R.FAB_ROUTE d)
  port : ∀ q < 8, t.rd (R.NGL_STAT q) = s.rd (R.NGL_STAT q)
  id : t.rd R.FAB_ID = s.rd R.FAB_ID
  ng : t.ng = s.ng
  pw : t.pw = s.pw

namespace SameRoutes

variable {t : State} (h : SameRoutes s t)
include h

theorem portActive {q : Nat} (hq : q < 8) : t.portActive q = s.portActive q := by
  unfold State.portActive
  rw [g_of_rd (f := F.NGL_STAT_STATE q) (h.port q hq)]

theorem routeTo {d : Nat} (hd : d < 64) : t.routeTo d = s.routeTo d := by
  have hg (f : Fld) (hf : f.reg = R.FAB_ROUTE d) : t.g f = s.g f := g_of_rd (hf ▸ h.route d hd)
  have hpri : s.g (F.FAB_ROUTE_PRI d) < 8 := bitsOf_lt _ _ _
  have halt : s.g (F.FAB_ROUTE_ALT d) < 8 := bitsOf_lt _ _ _
  unfold State.routeTo State.on
  rw [hg (F.FAB_ROUTE_PRI_EN d) rfl, hg (F.FAB_ROUTE_PRI d) rfl, hg (F.FAB_ROUTE_ALT_EN d) rfl, hg (F.FAB_ROUTE_ALT d) rfl,
    h.portActive hpri, h.portActive halt]

end SameRoutes

/-- The port of a route is ACTIVE. -/
theorem portActive_of_routeTo {d q : Nat} (h : s.routeTo d = some q) : s.portActive q = true := by
  unfold State.routeTo at h
  split at h
  · next hpri =>
    obtain rfl := Option.some.inj h
    exact (Bool.and_eq_true_iff.mp hpri).2
  · split at h
    · next halt =>
      obtain rfl := Option.some.inj h
      exact (Bool.and_eq_true_iff.mp halt).2
    · cases h

/-- The GRANT of a slot leaves by the route of the member granted. -/
theorem mem_pilotGrant {p m q : Nat} {g : Nat × Nat} (hvalid : s.g F.FAB_ID_VALID = 1)
    (hroute : s.routeTo (s.member p m) = some q) (hloud : (s.ngl q).quiet = false) (hunowned : s.pw.owned = false) :
    Out.msg q (s.envTo (s.member p m) 2) (grantWords p 0 g) ∈ (s.pilotGrant p m g).out := by
  have hsent : s.pilotSend p m 2 0 g = s.sendPort q (s.envTo (s.member p m) 2) (grantWords p 0 g) := by
    unfold State.pilotSend State.sendMsg
    rw [if_pos (on_of_g_eq_one hvalid)]
    show (match s.routeTo (s.member p m) with | some p => _ | none => _) = _
    rw [hroute]
  have hout := mem_sendPort_express (e := s.envTo (s.member p m) 2) (ws := grantWords p 0 g) rfl
    (portActive_of_routeTo hroute) hloud hunowned
  have hnotice : UnitKept besideMsgs (s.pilotSend p m 2 0 g) ((s.pilotSend p m 2 0 g).pilotSend p (1 - m) 2 4 g) :=
    unitKept_pilotSend
  exact hnotice.out.subset (hsent ▸ hout)

/-! ### A slot that is judged has the routes of the tick -/

section
variable {p : Fin 16} {r : State} (h : UnitKept (slotView p) s r)
include h

theorem rd_judged {a : Nat} (ha : besideMsgs a) (hout : a < 0x03040240 ∨ 0x030402C0 ≤ a) :
    (r.pilotJudged p).rd a = s.rd a := by
  have hbeside : besideSlot p a := ⟨ha, by have := p.isLt; unfold R.PILOT_PAIR R.PILOT_PSTAT; omega⟩
  exact (unitKept_pilotJudged.rd a hbeside).trans (h.rd a (slotView_outside ha hout))

theorem sameRoutes_judged : SameRoutes s (r.pilotJudged p) where
  route d hd := rd_judged h (fabRoute_besideMsgs hd) (.inr (by unfold R.FAB_ROUTE; omega))
  port q hq := rd_judged h (nglStat_besideMsgs hq) (.inr (by unfold R.NGL_STAT; omega))
  id := rd_judged h ⟨by decide, by decide⟩ (.inr (by decide))
  ng := (unitKept_pilotJudged (p := (p : Nat))).ng.trans h.ng
  pw := (unitKept_pilotJudged (p := (p : Nat))).pw.trans h.pw

theorem pilotNow_judged : (r.pilotJudged p).pilotNow = s.pilotNow := by
  unfold State.pilotNow
  rw [g_of_rd (f := F.PILOT_CTL_EPOCH) (rd_judged h ⟨by decide, by decide⟩ (.inl (by decide))),
    (unitKept_pilotJudged (p := (p : Nat))).tick, h.tick]

theorem member_judged (m : Nat) : (r.pilotJudged p).member p m = s.member p m := by
  have hclear : ∀ p : Fin 16, ∀ f ∈ [F.PILOT_PAIR_DEV_A p, F.PILOT_PAIR_DEV_B p],
      f.clearOf [F.PILOT_PSTAT_A_GOOD p, F.PILOT_PSTAT_B_GOOD p] = true := by decide
  have hg (f : Fld) (hf : f ∈ [F.PILOT_PAIR_DEV_A p, F.PILOT_PAIR_DEV_B p]) (hreg : f.reg = R.PILOT_PAIR p) :
      (r.pilotJudged p).g f = s.g f :=
    ((onlyFields_pilotJudged p).g f (hreg ▸ pilotPair_onPair p) (hclear p f hf)).trans (h.g (hreg ▸ slotView_pair p))
  unfold State.member
  rw [hg _ (by simp) rfl, hg _ (by simp) rfl]

end

end Sys2Proof.Machine
end

section
/-!
SUPPORT. Heartbeats at the pilot and at the partner (R249, R251, R252), the pilot's registers (R248, R276), and the pair's configuration and
signature (R240, R242).
-/
namespace Sys2Proof.Machine

variable {s : State}

/-! ## Fields written (R10) -/

/-- A field that a write does not reach keeps its bits. -/
theorem bitsOf_written_ne (f : FieldSpec) (w v : Word) {hi lo : Nat} (h : hi < f.lo ∨ f.hi < lo) (h32 : hi < 32) :
    bitsOf (f.written w v) hi lo = bitsOf w hi lo := by
  unfold FieldSpec.written
  cases f.acc <;> simp [bitsOf_putBits_disjoint, h, h32]

theorem bitsOf_written_rw {f : FieldSpec} (hacc : f.acc = .rw) (w v : Word) (h32 : f.hi < 32) :
    bitsOf (f.written w v) f.hi f.lo = bitsOf v f.hi f.lo := by
  unfold FieldSpec.written
  rw [hacc]
  dsimp only
  rw [bitsOf_putBits _ _ _ _ h32]
  exact Nat.mod_eq_of_lt (bitsOf_lt v f.hi f.lo)

theorem bitsOf_written_w1s {f : FieldSpec} (hacc : f.acc = .w1s) (w v : Word) (h32 : f.hi < 32) :
    bitsOf (f.written w v) f.hi f.lo = bitsOf w f.hi f.lo ||| bitsOf v f.hi f.lo := by
  unfold FieldSpec.written
  rw [hacc]
  dsimp only
  rw [bitsOf_putBits _ _ _ _ h32]
  exact Nat.mod_eq_of_lt (Nat.or_lt_two_pow (bitsOf_lt w f.hi f.lo) (bitsOf_lt v f.hi f.lo))

/-- The fields written before and after leave a field's bits. -/
theorem bitsOf_foldl_written_ne (fs : List FieldSpec) (w v : Word) {hi lo : Nat} (h : ∀ f ∈ fs, hi < f.lo ∨ f.hi < lo)
    (h32 : hi < 32) : bitsOf (fs.foldl (fun w f => f.written w v) w) hi lo = bitsOf w hi lo :=
  List.foldlRecOn (motive := fun u => bitsOf u hi lo = bitsOf w hi lo) fs _ rfl fun u hu f hf =>
    (bitsOf_written_ne f u v (h f hf) h32).trans hu

theorem g_fieldWrite (s : State) (f : Fld) (v : Word) : (s.fieldWrite f.reg v).g f =
    bitsOf ((fieldsAt f.reg).foldl (fun w x => x.written w v) (s.rd f.reg)) f.hi f.lo := by
  unfold State.fieldWrite State.g
  rw [rd_wr, if_pos rfl]

/-- An RW field takes its bits of the value written. -/
theorem g_fieldWrite_rw {f : Fld} (before after : List FieldSpec) (hfields : fieldsAt f.reg = before ++ ⟨f.hi, f.lo, .rw⟩ :: after)
    (hafter : ∀ x ∈ after, f.hi < x.lo ∨ x.hi < f.lo) (h32 : f.hi < 32) (v : Word) :
    (s.fieldWrite f.reg v).g f = f.of v := by
  rw [g_fieldWrite, hfields, List.foldl_append, List.foldl_cons, bitsOf_foldl_written_ne _ _ _ hafter h32]
  exact bitsOf_written_rw (f := ⟨f.hi, f.lo, .rw⟩) rfl _ v h32

/-- A W1S field is set by a 1. -/
theorem g_fieldWrite_w1s {f : Fld} (before after : List FieldSpec)
    (hfields : fieldsAt f.reg = before ++ ⟨f.hi, f.lo, .w1s⟩ :: after) (hbefore : ∀ x ∈ before, f.hi < x.lo ∨ x.hi < f.lo)
    (hafter : ∀ x ∈ after, f.hi < x.lo ∨ x.hi < f.lo) (h32 : f.hi < 32) (v : Word) :
    (s.fieldWrite f.reg v).g f = s.g f ||| f.of v := by
  rw [g_fieldWrite, hfields, List.foldl_append, List.foldl_cons, bitsOf_foldl_written_ne _ _ _ hafter h32,
    bitsOf_written_w1s (f := ⟨f.hi, f.lo, .w1s⟩) rfl _ v h32, bitsOf_foldl_written_ne _ _ _ hbefore h32]
  rfl

/-- A field of one bit as a truth value. -/
theorem bitsOf_bit (v : Word) (n : Nat) : bitsOf v n n = (v.getLsbD n).toNat := by
  simp [bitsOf, BitVec.getLsbD, Nat.toNat_testBit]

theorem bitsOf_or (v w : Word) (hi lo : Nat) : bitsOf (v ||| w) hi lo = bitsOf v hi lo ||| bitsOf w hi lo := by
  apply Nat.eq_of_testBit_eq
  intro i
  rw [Nat.testBit_or, testBit_bitsOf, testBit_bitsOf, testBit_bitsOf, BitVec.getLsbD_or, Bool.and_or_distrib_left]

/-! ## Heartbeats (R249, R251) -/

/-- A heartbeat that is kept as the latest of member `m`. -/
def State.beatKept (s : State) (p m : Nat) (h : Beat) : State :=
  { s with pr := { s.pr with beats := SMap.set noBeat s.pr.beats (2 * p + m) (some h) } }

theorem beat_beatKept (p m : Nat) (h : Beat) : (s.beatKept p m h).beat p m = some h := by
  unfold State.beat State.beatKept
  rw [SMap.get_set_self]

theorem beat_beatKept_ne {p m n : Nat} (h : Beat) (hne : n ≠ m) : (s.beatKept p m h).beat p n = s.beat p n := by
  unfold State.beat State.beatKept
  rw [SMap.get_set_ne _ _ _ (by omega)]

theorem goodBeat_beatKept_ne {p m n : Nat} (h : Beat) (hne : n ≠ m) (k : Nat) :
    (s.beatKept p m h).goodBeat p n k = s.goodBeat p n k := by
  unfold State.goodBeat
  rw [beat_beatKept_ne h hne]

/-- The slot that a heartbeat names. -/
def beatSlot (ws : List Word) : Nat := bitsOf (ws.getD 0 0) 15 12

/-- Whether a heartbeat `h` of member `m` takes the grant of slot `p` from it. -/
abbrev State.beatFails (s : State) (p m : Nat) (h : Beat) : Prop :=
  h.role = 5 ∧ s.g (F.PILOT_PSTAT_STATE p) = m + 1 ∧ (s.goodBeat p (1 - m) s.tick ∨ s.goodBeat p (1 - m) (s.tick - 1))

/-- A heartbeat of member `m` of an enabled slot is kept, and one that fails its member moves the grant. -/
theorem pilotBeat_of_member {d : Nat} {ws : List Word} (m : Fin 2)
    (hen : s.g F.PILOT_CTL_EN = 1 ∧ s.g (F.PILOT_PAIR_EN (beatSlot ws)) = 1)
    (hsrc : d = s.member (beatSlot ws) m ∧ (m = 1 → d ≠ s.member (beatSlot ws) 0)) :
    (s.beatFails (beatSlot ws) m (readBeat ws) → s.pilotBeat d ws =
      (s.beatKept (beatSlot ws) m (readBeat ws)).pilotMove (beatSlot ws) (1 - m) s.pilotNow) ∧
    (¬ s.beatFails (beatSlot ws) m (readBeat ws) → s.pilotBeat d ws = s.beatKept (beatSlot ws) m (readBeat ws)) := by
  obtain ⟨hctl, hpair⟩ := hen
  obtain ⟨hd, hne⟩ := hsrc
  have hm : (if d = s.member (beatSlot ws) 0 then 0 else 1) = (m : Nat) := by
    fin_cases m
    · exact if_pos hd
    · exact if_neg (hne rfl)
  have hmember : d = s.member (beatSlot ws) 0 ∨ d = s.member (beatSlot ws) 1 := by
    fin_cases m
    · exact .inl hd
    · exact .inr hd
  have hgood (k : Nat) : (s.beatKept (beatSlot ws) m (readBeat ws)).goodBeat (beatSlot ws) (1 - m) k =
      s.goodBeat (beatSlot ws) (1 - m) k := goodBeat_beatKept_ne _ (by omega) k
  have hbeat : s.pilotBeat d ws = if (s.beatKept (beatSlot ws) m (readBeat ws)).beatFails (beatSlot ws) m (readBeat ws) then
      (s.beatKept (beatSlot ws) m (readBeat ws)).pilotMove (beatSlot ws) (1 - m) s.pilotNow
      else s.beatKept (beatSlot ws) m (readBeat ws) := by
    unfold State.pilotBeat
    rw [← hm]
    exact if_pos ⟨on_of_g_eq_one hctl, on_of_g_eq_one hpair, hmember⟩
  have hfails : (s.beatKept (beatSlot ws) m (readBeat ws)).beatFails (beatSlot ws) m (readBeat ws) ↔
      s.beatFails (beatSlot ws) m (readBeat ws) := by
    unfold State.beatFails
    rw [hgood, hgood]
    rfl
  rw [hbeat]
  exact ⟨fun h => if_pos (hfails.mpr h), fun h => if_neg (hfails.not.mpr h)⟩

/-- A heartbeat of another device is none of the pilot's. -/
theorem pilotBeat_of_other {d : Nat} {ws : List Word} (h : s.g F.PILOT_CTL_EN = 0 ∨ s.g (F.PILOT_PAIR_EN (beatSlot ws)) = 0 ∨
    (d ≠ s.member (beatSlot ws) 0 ∧ d ≠ s.member (beatSlot ws) 1)) : s.pilotBeat d ws = s := by
  refine if_neg fun ⟨hctl, hpair, hmember⟩ => ?_
  obtain h | h | ⟨h0, h1⟩ := h
  · rw [on_of_g_eq_zero h] at hctl; cases hctl
  · have hoff : s.on (F.PILOT_PAIR_EN (bitsOf (ws.getD 0 0) 15 12)) = false := on_of_g_eq_zero h
    rw [hoff] at hpair; cases hpair
  · exact hmember.elim h0 h1

/-- The slot of a heartbeat as an index. -/
theorem beatSlot_eq (ws : List Word) : ∃ p : Fin 16, (p : Nat) = beatSlot ws := ⟨⟨_, bitsOf_lt (ws.getD 0 0) 15 12⟩, rfl⟩

/-- At the pilot a heartbeat changes at most the slot that it names. -/
theorem onlyFields_pilotBeat (d : Nat) (ws : List Word) : ∃ p : Fin 16,
    OnlyFields [F.PILOT_PSTAT_STATE p, F.PILOT_PSTAT_SWITCHES p, F.PILOT_PAIR_SWITCH p] s (s.pilotBeat d ws) := by
  obtain ⟨p, hp⟩ := beatSlot_eq ws
  refine ⟨p, ?_⟩
  have hmove (m : Nat) (u : State) (g : Nat × Nat) (hu : OnlyFields [] s u) : OnlyFields
      [F.PILOT_PSTAT_STATE p, F.PILOT_PSTAT_SWITCHES p, F.PILOT_PAIR_SWITCH p] s (u.pilotMove (bitsOf (ws.getD 0 0) 15 12) m g) :=
    (hu.mono (List.nil_subset _)).trans (hp ▸ onlyFields_pilotMove p m g)
  exact ((hmove _ _ _ (OnlyFields.refl s).upd).ite ((OnlyFields.refl s).upd)).ite (OnlyFields.refl s)

/-! ### The partner's copy -/

/-- A heartbeat copy that is kept as the partner's last. -/
def State.peerKept (s : State) (h : Beat) : State := { s with pr := { s.pr with peer := some h, peerAge := 0 } }

theorem peerBeat_eq (s : State) (d : Nat) (ws : List Word) : s.peerBeat d ws =
    if s.paired ∧ d = s.partner then (s.peerKept (readBeat ws)).tetherBack.pilotBits else s := rfl

theorem peerBeat_of_partner {d : Nat} {ws : List Word} (hen : s.g F.PAIR_CFG_EN = 1) (hd : d = s.g F.PAIR_CFG_PARTNER) :
    s.peerBeat d ws = (s.peerKept (readBeat ws)).tetherBack.pilotBits :=
  (peerBeat_eq s d ws).trans (if_pos ⟨paired_of_en hen, hd⟩)

theorem peerBeat_of_other {d : Nat} {ws : List Word} (h : s.g F.PAIR_CFG_EN = 0 ∨ d ≠ s.g F.PAIR_CFG_PARTNER) :
    s.peerBeat d ws = s := by
  refine if_neg fun ⟨hen, hd⟩ => ?_
  obtain h | h := h
  · rw [unpaired_of_en h] at hen; cases hen
  · exact h hd

theorem unitKept_tetherBack {P : Nat → Prop} (hP : ¬ P R.PAIR_STAT) : UnitKept P s s.tetherBack :=
  ((UnitKept.refl s).flag hP).ite (UnitKept.refl s)

theorem tetherBack_mem (s : State) : s.tetherBack.mem = s.mem := by
  unfold State.tetherBack
  split <;> rfl

/-- The Tether is up where its port is ACTIVE and heartbeat copies come. -/
theorem tetherBack_up (h : s.g F.PAIR_CFG_EN = 1 ∧ s.g (F.NGL_STAT_STATE (s.g F.PAIR_CFG_TETHER)) = 6 ∧ s.pr.peerAge < 2) :
    s.tetherBack.g F.PAIR_STAT_TETHER_DOWN = 0 := by
  obtain ⟨hen, hactive, hage⟩ := h
  have hback : s.tetherBack = s.flag F.PAIR_STAT_TETHER_DOWN false :=
    if_pos ⟨paired_of_en hen, portActive_of_active (p := s.tether) hactive, hage⟩
  rw [hback]
  exact g_flag_self _ _ _ rfl (by decide)

theorem unitKept_peerBeat (s : State) (h : Beat) :
    UnitKept (· ≠ R.PAIR_STAT) (s.peerKept h) (s.peerKept h).tetherBack.pilotBits :=
  (unitKept_tetherBack (by simp)).trans (unitKept_pilotBits (by simp))

theorem onlyRegs_peerBeat (s : State) (h : Beat) : onlyRegs s (s.peerKept h).tetherBack.pilotBits [R.PAIR_STAT] :=
  ⟨fun a ha => (unitKept_peerBeat s h).rd a (by simpa using ha), byte_congr (pilotBits_mem.trans (tetherBack_mem _))⟩

/-- What the partner's copy changes. -/
theorem peerBeat_kept (s : State) (d : Nat) (ws : List Word) :
    OnlyFields (F.PAIR_STAT_TETHER_DOWN :: pilotFields) s (s.peerBeat d ws) ∧
    (s.peerBeat d ws).pr.beats = s.pr.beats ∧ (s.peerBeat d ws).mem = s.mem ∧
    ∀ k, (∃ f ∈ s.ft.blocks, f.kind = k) → ∃ f ∈ (s.peerBeat d ws).ft.blocks, f.kind = k := by
  rw [peerBeat_eq]
  split
  · have hkept := unitKept_peerBeat s (readBeat ws)
    refine ⟨?_, (congrArg Pair.beats hkept.pr :), pilotBits_mem.trans (tetherBack_mem _), fun k => hkept.reported⟩
    exact ((OnlyFields.refl s).upd.trans (onlyFields_tetherBack.mono (by simp))).trans
      (onlyFields_pilotBits.mono (List.subset_cons_self _ _))
  · exact ⟨OnlyFields.refl s, rfl, rfl, fun _ => id⟩

theorem exec_heartbeat {p : Fin 8} {e : Env} {ws : List Word} (h : s.arrives p e) :
    exec (.heartbeat p e ws) s = .next ((s.pilotBeat e.src ws).peerBeat e.src ws) :=
  congrArg Host.Outcome.next (received_express h rfl)

/-! ## PILOT_CTL (R248) -/

theorem exec_pilotCtlWrite (v : Word) (s : State) : exec (.pilotCtlWrite v) s = .next (s.pilotCtlWrite v).ok := rfl

/-- No slot has a grant. -/
def State.slotsCleared (s : State) : State := (List.range 16).foldl (fun s p => s.p (F.PILOT_PSTAT_STATE p) 0) s

theorem pstat_ne {p q : Nat} (h : p ≠ q) : R.PILOT_PSTAT p ≠ R.PILOT_PSTAT q := by
  unfold R.PILOT_PSTAT
  omega

theorem slotsCleared_effect (s : State) (p : Fin 16) : s.slotsCleared.g (F.PILOT_PSTAT_STATE p) = 0 ∧
    s.slotsCleared.rd R.PILOT_CTL = s.rd R.PILOT_CTL ∧ s.slotsCleared.mem = s.mem := by
  have hctl (q : Nat) : R.PILOT_CTL ≠ R.PILOT_PSTAT q := by unfold R.PILOT_CTL R.PILOT_PSTAT; omega
  obtain ⟨t, -, hkept⟩ := foldl_at (K := UnitKept (· = R.PILOT_PSTAT p)) (f := fun s p => s.p (F.PILOT_PSTAT_STATE p) 0)
    UnitKept.refl UnitKept.trans (List.mem_range.mpr p.isLt) List.nodup_range
    (fun t q _ hne => (UnitKept.refl t).p (f := F.PILOT_PSTAT_STATE q) (pstat_ne hne)) s
  refine ⟨(hkept.g rfl).trans (g_p_self t (F.PILOT_PSTAT_STATE p) 0 (by simp [F.PILOT_PSTAT_STATE])), ?_, ?_⟩
  · exact foldl_part (f := fun s p => s.p (F.PILOT_PSTAT_STATE p) 0) (part := fun t => t.rd R.PILOT_CTL)
      (fun t q => rd_p_ne t (F.PILOT_PSTAT_STATE q) 0 (hctl q)) (List.range 16) s
  · exact foldl_part (f := fun s p => s.p (F.PILOT_PSTAT_STATE p) 0) (part := State.mem) (fun _ _ => rfl) (List.range 16) s

/-- The role of the pilot begins without a heartbeat. -/
def State.pilotBegins (s : State) : State :=
  { s with pr := { s.pr with epochKnown := false, beats := [], pilotTicks := if s.running then 1 else 0 } }

theorem pilotBegins_kept (s : State) : s.pilotBegins.regs = s.regs ∧ s.pilotBegins.mem = s.mem ∧ s.pilotBegins.pr.beats = [] ∧
    s.pilotBegins.pr.epochKnown = false := ⟨rfl, rfl, rfl, rfl⟩

theorem pilotCtlWrite_enables {v : Word} (hoff : s.g F.PILOT_CTL_EN = 0) (hv : v.getLsbD 31 = true) :
    s.pilotCtlWrite v = (s.flag F.PILOT_CTL_EN true).slotsCleared.pilotBegins :=
  if_pos ⟨hv, by rw [on_of_g_eq_zero hoff]; rfl⟩

theorem pilotCtlWrite_otherwise {v : Word} (h : s.g F.PILOT_CTL_EN = 1 ∨ v.getLsbD 31 = false) :
    s.pilotCtlWrite v = s.flag F.PILOT_CTL_EN (v.getLsbD 31) := by
  refine if_neg fun ⟨hv, hoff⟩ => ?_
  obtain h | h := h
  · rw [on_of_g_eq_one h] at hoff; cases hoff
  · rw [h] at hv; cases hv

/-! ## PILOT_PAIR (R248, R276) -/

theorem exec_pilotPairWrite (p : Fin 16) (v : Word) (s : State) :
    exec (.pilotPairWrite p v) s = .next (s.pilotPairWrite p v).ok := rfl

theorem exec_pilotSwitchRequest (p : Fin 16) (v : Word) (s : State) :
    exec (.pilotSwitchRequest p v) s = .next (s.pilotPairWrite p (v ||| 0x40000000#32)).ok := rfl

theorem fieldsAt_pilotPair : ∀ p : Fin 16, fieldsAt (R.PILOT_PAIR p) =
    [⟨31, 31, .rw⟩, ⟨30, 30, .w1s⟩, ⟨29, 29, .w1c⟩, ⟨13, 8, .rw⟩, ⟨5, 0, .rw⟩] := by decide +kernel

/-- A write to PILOT_PAIR[p] as its fields take it. -/
theorem fieldWrite_pilotPair (s : State) (p : Fin 16) (v : Word) :
    (s.fieldWrite (R.PILOT_PAIR p) v).g (F.PILOT_PAIR_EN p) = bitsOf v 31 31 ∧
    (s.fieldWrite (R.PILOT_PAIR p) v).g (F.PILOT_PAIR_DEV_B p) = bitsOf v 13 8 ∧
    (s.fieldWrite (R.PILOT_PAIR p) v).g (F.PILOT_PAIR_DEV_A p) = bitsOf v 5 0 :=
  ⟨g_fieldWrite_rw (f := F.PILOT_PAIR_EN p) [] [⟨30, 30, .w1s⟩, ⟨29, 29, .w1c⟩, ⟨13, 8, .rw⟩, ⟨5, 0, .rw⟩] (fieldsAt_pilotPair p)
      (by simp [F.PILOT_PAIR_EN]) (by simp [F.PILOT_PAIR_EN]) v,
    g_fieldWrite_rw (f := F.PILOT_PAIR_DEV_B p) [⟨31, 31, .rw⟩, ⟨30, 30, .w1s⟩, ⟨29, 29, .w1c⟩] [⟨5, 0, .rw⟩]
      (fieldsAt_pilotPair p) (by simp [F.PILOT_PAIR_DEV_B]) (by simp [F.PILOT_PAIR_DEV_B]) v,
    g_fieldWrite_rw (f := F.PILOT_PAIR_DEV_A p) [⟨31, 31, .rw⟩, ⟨30, 30, .w1s⟩, ⟨29, 29, .w1c⟩, ⟨13, 8, .rw⟩] []
      (fieldsAt_pilotPair p) (by simp) (by simp [F.PILOT_PAIR_DEV_A]) v⟩

/-- SWITCH written 1 stands. -/
theorem switch_fieldWrite_pilotPair (s : State) (p : Fin 16) {v : Word} (hv : bitsOf v 30 30 = 1) :
    (s.fieldWrite (R.PILOT_PAIR p) v).g (F.PILOT_PAIR_SWITCH p) = 1 := by
  have hset := g_fieldWrite_w1s (s := s) (f := F.PILOT_PAIR_SWITCH p) [⟨31, 31, .rw⟩] [⟨29, 29, .w1c⟩, ⟨13, 8, .rw⟩, ⟨5, 0, .rw⟩]
    (fieldsAt_pilotPair p) (by simp [F.PILOT_PAIR_SWITCH]) (by simp [F.PILOT_PAIR_SWITCH]) (by simp [F.PILOT_PAIR_SWITCH]) v
  have hof : (F.PILOT_PAIR_SWITCH p).of v = 1 := hv
  have hbit : s.g (F.PILOT_PAIR_SWITCH p) < 2 := bitsOf_lt _ _ _
  refine hset.trans ?_
  rw [hof]
  interval_cases s.g (F.PILOT_PAIR_SWITCH p) <;> rfl

/-- Whether a slot other than `p` that is enabled names device `d`. -/
def State.namedBy (s : State) (p d : Nat) : Bool :=
  (List.range 16).any fun q => q != p && s.on (F.PILOT_PAIR_EN q) && (s.member q 0 == d || s.member q 1 == d)

theorem namedBy_iff {p : Fin 16} {d : Nat} : s.namedBy p d = true ↔
    ∃ q : Fin 16, q ≠ p ∧ s.g (F.PILOT_PAIR_EN q) = 1 ∧ ∃ m : Fin 2, s.member q m = d := by
  unfold State.namedBy
  simp only [List.any_eq_true, List.mem_range, Bool.and_eq_true, bne_iff_ne, Bool.or_eq_true, beq_iff_eq]
  constructor
  · rintro ⟨q, hq, ⟨hne, hon⟩, h | h⟩
    · exact ⟨⟨q, hq⟩, fun e => hne (congrArg Fin.val e), g_eq_one_of_on rfl hon, 0, h⟩
    · exact ⟨⟨q, hq⟩, fun e => hne (congrArg Fin.val e), g_eq_one_of_on rfl hon, 1, h⟩
  · rintro ⟨q, hne, hen, m, h⟩
    refine ⟨q, q.isLt, ⟨fun e => hne (Fin.ext e), on_of_g_eq_one hen⟩, ?_⟩
    fin_cases m
    · exact .inl h
    · exact .inr h

/-- Whether `d` is this device's own number. -/
def State.ownId (s : State) (d : Nat) : Bool := s.on F.FAB_ID_VALID && d == s.myId

theorem ownId_iff {d : Nat} : s.ownId d = true ↔ s.g F.FAB_ID_VALID = 1 ∧ d = s.g F.FAB_ID_ID := by
  unfold State.ownId
  rw [Bool.and_eq_true, beq_iff_eq]
  exact and_congr_left' ⟨g_eq_one_of_on rfl, on_of_g_eq_one⟩

/-- Whether the devices of a write to PILOT_PAIR[p] may not form a slot. -/
abbrev State.pairClash (s : State) (p : Nat) (v : Word) : Prop :=
  bitsOf v 5 0 = bitsOf v 13 8 ∨ s.ownId (bitsOf v 5 0) ∨ s.ownId (bitsOf v 13 8) ∨
    s.namedBy p (bitsOf v 5 0) ∨ s.namedBy p (bitsOf v 13 8)

/-- Whether a write leaves the devices and EN of the slot. -/
def State.pairSame (s : State) (p : Nat) (v : Word) : Bool :=
  bitsOf v 5 0 == s.member p 0 && bitsOf v 13 8 == s.member p 1 && s.g (F.PILOT_PAIR_EN p) == bitsOf v 31 31

theorem pairSame_iff {p : Nat} {v : Word} : s.pairSame p v = true ↔ bitsOf v 5 0 = s.g (F.PILOT_PAIR_DEV_A p) ∧
    bitsOf v 13 8 = s.g (F.PILOT_PAIR_DEV_B p) ∧ bitsOf v 31 31 = s.g (F.PILOT_PAIR_EN p) := by
  unfold State.pairSame
  simp only [Bool.and_eq_true, beq_iff_eq, and_assoc]
  exact and_congr Iff.rfl (and_congr Iff.rfl eq_comm)

/-- The slot's grant and heartbeats are forgotten. -/
def State.slotForgotten (s : State) (p : Nat) : State :=
  ({ s with pr := { s.pr with beats := s.pr.beats.filter (fun e => e.1 / 2 != p) } } : State).p (F.PILOT_PSTAT_STATE p) 0

theorem pilotPairWrite_eq (s : State) (p : Nat) (v : Word) : s.pilotPairWrite p v =
    if s.pairClash p v then s.flag (F.PILOT_PAIR_SW_REFUSED p) true
    else if s.pairSame p v then s.fieldWrite (R.PILOT_PAIR p) v
    else (s.fieldWrite (R.PILOT_PAIR p) v).slotForgotten p := rfl

/-- A write is refused where its devices are the same, or one of them is this device or in another enabled slot. -/
theorem pairClash_iff {p : Fin 16} {v : Word} : s.pairClash p v ↔ bitsOf v 5 0 = bitsOf v 13 8 ∨
    (s.g F.FAB_ID_VALID = 1 ∧ (bitsOf v 5 0 = s.g F.FAB_ID_ID ∨ bitsOf v 13 8 = s.g F.FAB_ID_ID)) ∨
    ∃ q : Fin 16, q ≠ p ∧ s.g (F.PILOT_PAIR_EN q) = 1 ∧
      ∃ m : Fin 2, s.member q m = bitsOf v 5 0 ∨ s.member q m = bitsOf v 13 8 := by
  rw [State.pairClash, ownId_iff, ownId_iff, namedBy_iff, namedBy_iff]
  refine or_congr_right ?_
  rw [← or_assoc, ← and_or_left]
  refine or_congr_right ?_
  simp only [exists_or, and_or_left]

theorem not_pairClash {p : Fin 16} {v : Word} (hdiff : bitsOf v 5 0 ≠ bitsOf v 13 8)
    (hown : s.g F.FAB_ID_VALID = 1 → bitsOf v 5 0 ≠ s.g F.FAB_ID_ID ∧ bitsOf v 13 8 ≠ s.g F.FAB_ID_ID)
    (hnamed : ∀ q : Fin 16, q ≠ p → s.g (F.PILOT_PAIR_EN q) = 1 → ∀ m : Fin 2, s.member q m ≠ bitsOf v 5 0 ∧
      s.member q m ≠ bitsOf v 13 8) : ¬ s.pairClash p v := by
  rw [pairClash_iff]
  rintro (h | ⟨hvalid, h⟩ | ⟨q, hne, hen, m, h⟩)
  · exact hdiff h
  · exact h.elim (hown hvalid).1 (hown hvalid).2
  · exact h.elim (hnamed q hne hen m).1 (hnamed q hne hen m).2

theorem rd_fieldWrite_ne (a : Nat) (v : Word) {b : Nat} (h : b ≠ a) : (s.fieldWrite a v).rd b = s.rd b := by
  rw [State.fieldWrite, rd_wr, if_neg h]

theorem pair_ne_pstat (p : Nat) : R.PILOT_PAIR p ≠ R.PILOT_PSTAT p := by
  unfold R.PILOT_PAIR R.PILOT_PSTAT
  omega

theorem state_slotForgotten (p : Nat) : (s.slotForgotten p).g (F.PILOT_PSTAT_STATE p) = 0 :=
  g_p_self _ (F.PILOT_PSTAT_STATE p) 0 (by simp [F.PILOT_PSTAT_STATE])

/-- A write that is taken gives the slot its devices, SWITCH as written, and forgets a grant of other devices. -/
theorem pilotPairWrite_taken {p : Fin 16} {v : Word} (h : ¬ s.pairClash p v) :
    (s.pilotPairWrite p v).rd (R.PILOT_PAIR p) = (s.fieldWrite (R.PILOT_PAIR p) v).rd (R.PILOT_PAIR p) ∧
    ((s.pilotPairWrite p v).g (F.PILOT_PSTAT_STATE p) = if bitsOf v 5 0 = s.g (F.PILOT_PAIR_DEV_A p) ∧
      bitsOf v 13 8 = s.g (F.PILOT_PAIR_DEV_B p) ∧ bitsOf v 31 31 = s.g (F.PILOT_PAIR_EN p) then
        s.g (F.PILOT_PSTAT_STATE p) else 0) ∧
    onlyRegs s (s.pilotPairWrite p v) [R.PILOT_PAIR p, R.PILOT_PSTAT p] := by
  have hwrite : onlyRegs s (s.fieldWrite (R.PILOT_PAIR p) v) [R.PILOT_PAIR p, R.PILOT_PSTAT p] :=
    (onlyRegs.refl s _).wr (by simp)
  rw [pilotPairWrite_eq, if_neg h]
  by_cases hsame : s.pairSame p v = true
  · rw [if_pos hsame, if_pos (pairSame_iff.mp hsame)]
    exact ⟨rfl, g_of_rd (rd_fieldWrite_ne _ _ (pair_ne_pstat p).symm), hwrite⟩
  · rw [if_neg hsame, if_neg (pairSame_iff.not.mp hsame)]
    exact ⟨rd_p_ne _ _ _ (pair_ne_pstat p), state_slotForgotten p, hwrite.upd.p (by simp [F.PILOT_PSTAT_STATE])⟩

/-- A write that leaves the devices changes PILOT_PAIR[p] alone. -/
theorem pilotPairWrite_same {p : Fin 16} {v : Word} (h : ¬ s.pairClash p v) (hsame : bitsOf v 5 0 = s.g (F.PILOT_PAIR_DEV_A p) ∧
    bitsOf v 13 8 = s.g (F.PILOT_PAIR_DEV_B p) ∧ bitsOf v 31 31 = s.g (F.PILOT_PAIR_EN p)) :
    s.pilotPairWrite p v = s.fieldWrite (R.PILOT_PAIR p) v := by
  rw [pilotPairWrite_eq, if_neg h, if_pos (pairSame_iff.mpr hsame)]

theorem pilotPairWrite_refused {p : Fin 16} {v : Word} (h : s.pairClash p v) :
    s.pilotPairWrite p v = s.flag (F.PILOT_PAIR_SW_REFUSED p) true := by rw [pilotPairWrite_eq, if_pos h]

/-! ### SWITCH written 1 -/

/-- A value with SWITCH at 1. -/
def withSwitch (v : Word) : Word := v ||| 0x40000000#32

theorem withSwitch_bits (v : Word) : bitsOf (withSwitch v) 5 0 = bitsOf v 5 0 ∧ bitsOf (withSwitch v) 13 8 = bitsOf v 13 8 ∧
    bitsOf (withSwitch v) 31 31 = bitsOf v 31 31 ∧ bitsOf (withSwitch v) 30 30 = 1 := by
  have hbit : bitsOf v 30 30 < 2 := bitsOf_lt _ _ _
  unfold withSwitch
  rw [bitsOf_or, bitsOf_or, bitsOf_or, bitsOf_or]
  refine ⟨Nat.or_zero _, Nat.or_zero _, Nat.or_zero _, ?_⟩
  rw [show bitsOf 0x40000000#32 30 30 = 1 by decide]
  interval_cases bitsOf v 30 30 <;> rfl

theorem pairClash_withSwitch {p : Nat} {v : Word} : s.pairClash p (withSwitch v) ↔ s.pairClash p v := by
  obtain ⟨ha, hb, -, -⟩ := withSwitch_bits v
  unfold State.pairClash
  rw [ha, hb]

/-! ## PAIR_CFG (R240) -/

theorem exec_pairCfgWrite (v : Word) (s : State) : exec (.pairCfgWrite v) s = .next (s.pairCfgWrite v).ok := rfl

/-- The configuration is written, and what was known of the partner is forgotten. -/
def State.cfgWritten (s : State) (v : Word) : State :=
  { s.fieldWrite R.PAIR_CFG v with
    pr := { (s.fieldWrite R.PAIR_CFG v).pr with peer := none, peerAge := 0, peerGrant := none } }

/-- The device is paired, and its Tether is down where the port is not ACTIVE. -/
def State.pairBegins (s : State) : State :=
  if (s.setRole 1).portActive (s.setRole 1).tether then s.setRole 1 else (s.setRole 1).tetherLost

/-- The device is paired no more. -/
def State.pairEnds (s : State) : State :=
  ((({ s.setRole 0 with pr := { s.pr with next := none, take := none, replay := none, staged := [], sending := none } } :
    State).flag F.PAIR_STAT_DRIVING false).flag F.PAIR_STAT_TETHER_DOWN false).showDrives

/-- A configuration that leaves EN takes effect. -/
def State.pairStays (s : State) : State :=
  if s.paired then (if s.portActive s.tether then s.tetherBack else s.tetherLost).showDrives else s.showDrives

theorem pairCfgWrite_eq (s : State) (v : Word) : s.pairCfgWrite v =
    if s.running ∨ s.ownId (bitsOf v 21 16) ∨ s.ownId (bitsOf v 13 8) then s.flag F.PAIR_STAT_CFG_REFUSED true
    else if v.getLsbD 31 ∧ !s.paired then (s.cfgWritten v).pairBegins
    else if !v.getLsbD 31 ∧ s.paired then (s.cfgWritten v).pairEnds
    else (s.cfgWritten v).pairStays := rfl

theorem fieldsAt_pairCfg : fieldsAt R.PAIR_CFG = [⟨31, 31, .rw⟩, ⟨26, 24, .rw⟩, ⟨21, 16, .rw⟩, ⟨13, 8, .rw⟩, ⟨3, 0, .rw⟩] := by
  decide +kernel

/-- The fields of PAIR_CFG as written. -/
theorem cfgWritten_cfg (s : State) (v : Word) : (s.cfgWritten v).g F.PAIR_CFG_EN = bitsOf v 31 31 ∧
    (s.cfgWritten v).g F.PAIR_CFG_PARTNER = F.PAIR_CFG_PARTNER.of v ∧
    (s.cfgWritten v).g F.PAIR_CFG_PILOT = F.PAIR_CFG_PILOT.of v :=
  ⟨g_fieldWrite_rw (f := F.PAIR_CFG_EN) [] [⟨26, 24, .rw⟩, ⟨21, 16, .rw⟩, ⟨13, 8, .rw⟩, ⟨3, 0, .rw⟩] fieldsAt_pairCfg
      (by decide) (by decide) v,
    g_fieldWrite_rw (f := F.PAIR_CFG_PARTNER) [⟨31, 31, .rw⟩, ⟨26, 24, .rw⟩, ⟨21, 16, .rw⟩] [⟨3, 0, .rw⟩] fieldsAt_pairCfg
      (by decide) (by decide) v,
    g_fieldWrite_rw (f := F.PAIR_CFG_PILOT) [⟨31, 31, .rw⟩, ⟨26, 24, .rw⟩] [⟨13, 8, .rw⟩, ⟨3, 0, .rw⟩] fieldsAt_pairCfg
      (by decide) (by decide) v⟩

theorem cfgWritten_ne {f : Fld} (v : Word) (h : f.reg ≠ R.PAIR_CFG) : (s.cfgWritten v).g f = s.g f :=
  g_of_rd (rd_fieldWrite_ne R.PAIR_CFG v h)

theorem cfgWritten_peerGrant (s : State) (v : Word) : (s.cfgWritten v).pr.peerGrant = none := rfl

/-- The fields that a change of the configuration changes beside PAIR_CFG. -/
def linkFields : List Fld := F.PAIR_STAT_TETHER_DOWN :: roleFields

theorem onlyFields_pairBegins : OnlyFields (F.PAIR_STAT_TETHER_DOWN :: ckptFields) (s.setRole 1) s.pairBegins :=
  (OnlyFields.refl _).ite onlyFields_tetherLost

theorem pairBegins_peerGrant (s : State) : s.pairBegins.pr.peerGrant = s.pr.peerGrant := by
  unfold State.pairBegins
  split
  · rw [setRole_pr]
  · rw [tetherLost_peerGrant, setRole_pr]

theorem onlyFields_pairStays : OnlyFields (F.PAIR_STAT_TETHER_DOWN :: ckptFields) s s.pairStays :=
  (((onlyFields_tetherBack.mono (by simp)).ite onlyFields_tetherLost).kept unitKept_showDrives).ite
    ((OnlyFields.refl s).kept unitKept_showDrives)

theorem pairStays_peerGrant (s : State) : s.pairStays.pr.peerGrant = s.pr.peerGrant := by
  have hshow (t : State) : t.showDrives.pr = t.pr := unitKept_showDrives.pr
  unfold State.pairStays
  split
  · rw [hshow]
    split
    · rw [tetherBack_pr]
    · exact tetherLost_peerGrant
  · rw [hshow]

/-- A device that is paired no more drives by itself, and its Tether is not down. -/
theorem pairEnds_effect (s : State) : OnlyFields linkFields s s.pairEnds ∧ s.pairEnds.g F.PAIR_STAT_ROLE = 0 ∧
    s.pairEnds.g F.PAIR_STAT_DRIVING = 0 ∧ s.pairEnds.g F.PAIR_STAT_TETHER_DOWN = 0 ∧
    s.pairEnds.pr.peerGrant = s.pr.peerGrant := by
  have hkept (t : State) : UnitKept onPair t t.showDrives := unitKept_showDrives
  unfold State.pairEnds
  refine ⟨?_, ?_, ?_, ?_, (congrArg Pair.peerGrant (hkept _).pr).trans rfl⟩
  · exact ((((onlyFields_setRole.mono (List.subset_cons_self _ _)).upd.flag (by decide)).flag (by decide))).kept (hkept _)
  · rw [(hkept _).g (by decide), g_flag_ne _ _ _ _ (.inr (.inr (by decide))) (by decide),
      g_flag_ne _ _ _ _ (.inr (.inr (by decide))) (by decide)]
    exact role_setRole (by decide)
  · rw [(hkept _).g (by decide), g_flag_ne _ _ _ _ (.inr (.inr (by decide))) (by decide)]
    exact g_flag_self _ _ _ rfl (by decide)
  · rw [(hkept _).g (by decide)]
    exact g_flag_self _ _ _ rfl (by decide)

theorem not_cfgRefused {v : Word} (hrun : s.g F.TICK_STAT_RUNNING = 0)
    (hown : s.g F.FAB_ID_VALID = 1 → bitsOf v 21 16 ≠ s.g F.FAB_ID_ID ∧ bitsOf v 13 8 ≠ s.g F.FAB_ID_ID) :
    ¬ (s.running = true ∨ s.ownId (bitsOf v 21 16) = true ∨ s.ownId (bitsOf v 13 8) = true) := by
  rw [running_of_g_eq_zero hrun, ownId_iff, ownId_iff]
  rintro (h | ⟨hvalid, h⟩ | ⟨hvalid, h⟩)
  · cases h
  · exact (hown hvalid).1 h
  · exact (hown hvalid).2 h

/-! ## The signature (R242) -/

theorem onlyFields_sigCheck : OnlyFields (F.PAIR_STAT_CFG_MISMATCH :: ckptFields) s s.sigCheck := by
  have hdiffer : OnlyFields (F.PAIR_STAT_CFG_MISMATCH :: ckptFields) s ((s.flag F.PAIR_STAT_CFG_MISMATCH true).emit
      Kind.pairCfgMismatch (Src.pair 0) (s.rd R.PAIR_SIG_PEER).toNat).ckptStale :=
    ((OnlyFields.refl s).flag List.mem_cons_self).emit.trans (onlyFields_ckptStale.mono (List.subset_cons_self _ _))
  exact (((OnlyFields.refl s).flag List.mem_cons_self).ite ((OnlyFields.refl s).ite hdiffer)).ite (OnlyFields.refl s)

theorem onlyRegs.sigCheck {r : State} {rs : List Nat} (h : onlyRegs r s rs) (hrs : R.PAIR_STAT ∈ rs) :
    onlyRegs r s.sigCheck rs := by
  unfold State.sigCheck
  split
  · split
    · exact h.flag hrs
    · split
      · exact h
      · exact onlyRegs.ckptStale (h.flag (f := F.PAIR_STAT_CFG_MISMATCH) hrs).upd hrs
  · exact h

/-- A comparison of signatures changes of the pair unit whether the pass counts. -/
theorem sigCheck_pr (s : State) : ∃ c, s.sigCheck.pr = { s.pr with passClean := c } := by
  unfold State.sigCheck
  split
  · split
    · exact ⟨s.pr.passClean, rfl⟩
    · split
      · exact ⟨s.pr.passClean, rfl⟩
      · exact ⟨false, ckptStale_pr⟩
  · exact ⟨s.pr.passClean, rfl⟩

/-- The signature stands, and is valid. -/
def State.sigShown (s : State) (sig : Word) : State :=
  (({ s with pr := { s.pr with sigWork := false } } : State).wr R.PAIR_SIG sig).flag F.PAIR_STAT_SIG_VALID true

theorem exec_pairSigDone (h : s.pr.sigWork = true) :
    exec .pairSigDone s = .next (s.sigShown (crc32 s.sigWords)).sigCheck := if_pos h

theorem exec_pairSigDone_of_none (h : s.pr.sigWork = false) : exec .pairSigDone s = .next s :=
  if_neg (by rw [h]; decide)

theorem rd_sigShown (sig : Word) : (s.sigShown sig).rd R.PAIR_SIG = sig := by
  rw [State.sigShown, rd_flag_ne _ _ _ (by decide), rd_wr, if_pos rfl]

end Sys2Proof.Machine
end

section
namespace Sys2Proof.Machine

/-! ## The pilot and the configuration of a pair (R240, R242, R246, R248, R249, R276) -/

/-- The fields of a slot that a heartbeat copy of the partner leaves. -/
theorem clearOf_peerBeat : ∀ p : Fin 16, ∀ f ∈ [F.PILOT_PSTAT_STATE p, F.PILOT_PSTAT_SWITCHES p],
    f.clearOf (F.PAIR_STAT_TETHER_DOWN :: pilotFields) = true := by decide

/-- The fields of PAIR_CFG that a heartbeat at the pilot leaves. -/
theorem clearOf_pilotBeat : ∀ p : Fin 16, ∀ f ∈ [F.PAIR_CFG_EN, F.PAIR_CFG_PARTNER],
    f.clearOf [F.PILOT_PSTAT_STATE p, F.PILOT_PSTAT_SWITCHES p, F.PILOT_PAIR_SWITCH p] = true := by decide

/-- Settles O31: each clause is the rule of its command, with what it leaves of the slot and of the pair unit. -/
theorem pilotGrantsOneMemberOfAPair : Obligations.PilotGrantsOneMemberOfAPair := by
  unfold Obligations.PilotGrantsOneMemberOfAPair
  refine ⟨?_, ?_, ?_, ?_, ?_, ?_, ?_, ?_, ?_, ?_, ?_, ?_, ?_, ?_, ?_, ?_, ?_, ?_, ?_, ?_, ?_, ?_, ?_, ?_⟩
  · -- HEARTBEAT at the pilot
    intro p e ws m s harr hen hsrc
    obtain ⟨hfails, hstays⟩ := pilotBeat_of_member m hen hsrc
    obtain ⟨hpeer, hbeats, hmem, -⟩ := peerBeat_kept (s.pilotBeat e.src ws) e.src ws
    obtain ⟨q, hq⟩ := beatSlot_eq ws
    refine ⟨_, exec_heartbeat harr, ?_, fun hrole => ?_, byte_congr (hmem.trans ?_)⟩
    · refine (beat_congr hbeats _ _).trans ?_
      by_cases hf : s.beatFails (beatSlot ws) m (readBeat ws)
      · rw [hfails hf]
        exact (beat_congr (congrArg Pair.beats unitKept_pilotMove.pr) _ _).trans (beat_beatKept _ _ _)
      · rw [hstays hf]
        exact beat_beatKept _ _ _
    · show State.g _ (F.PILOT_PSTAT_STATE (beatSlot ws)) = s.g (F.PILOT_PSTAT_STATE (beatSlot ws))
      rw [← hq, hpeer.g _ (pilotPstat_onPair q) (clearOf_peerBeat q _ (by simp)), hstays fun hf => hrole hf.1]
      rfl
    · by_cases hf : s.beatFails (beatSlot ws) m (readBeat ws)
      · rw [hfails hf, pilotMove_mem]
        rfl
      · rw [hstays hf]
        rfl
  · -- HEARTBEAT of a granted member that has failed
    intro p e ws m s harr hen hsrc ⟨hrole, hstate⟩ hgood
    obtain ⟨hfails, -⟩ := pilotBeat_of_member m hen hsrc
    obtain ⟨hpeer, -, -, hkinds⟩ := peerBeat_kept (s.pilotBeat e.src ws) e.src ws
    obtain ⟨q, hq⟩ := beatSlot_eq ws
    obtain ⟨n, hn, hshown⟩ := other_eq m
    have hmove := hfails ⟨hrole, hstate, hgood⟩
    obtain ⟨hnew, hcount, -, hreport⟩ := pilotMove_effect (s := s.beatKept (beatSlot ws) m (readBeat ws)) q s.pilotNow n.isLt
    have hfield (f : Fld) (hf : f ∈ [F.PILOT_PSTAT_STATE q, F.PILOT_PSTAT_SWITCHES q]) (hreg : f.reg = R.PILOT_PSTAT q) :
        ((s.pilotBeat e.src ws).peerBeat e.src ws).g f =
          ((s.beatKept (beatSlot ws) m (readBeat ws)).pilotMove q n s.pilotNow).g f := by
      rw [hpeer.g f (hreg ▸ pilotPstat_onPair q) (clearOf_peerBeat q f hf), hmove, ← hq, hn]
    refine ⟨_, exec_heartbeat harr, ?_, ?_, hkinds _ ?_⟩
    · show State.g _ (F.PILOT_PSTAT_STATE (beatSlot ws)) = _
      rw [← hq, hfield _ (by simp) rfl, hnew, hshown]
    · show State.g _ (F.PILOT_PSTAT_SWITCHES (beatSlot ws)) = min (s.g (F.PILOT_PSTAT_SWITCHES (beatSlot ws)) + 1) 65535
      rw [← hq, hfield _ (by simp) rfl, hcount]
      rfl
    · rw [hmove, ← hq, ← hn]
      exact hq.symm ▸ hreport
  · -- HEARTBEAT as the partner's copy
    intro p e ws s harr ⟨hen, hsrc⟩
    obtain ⟨q, hpilot⟩ := onlyFields_pilotBeat (s := s) e.src ws
    have hpeer := peerBeat_of_partner (ws := ws) ((hpilot.g _ (by decide) (clearOf_pilotBeat q _ (by simp))).trans hen)
      (hsrc.trans (hpilot.g _ (by decide) (clearOf_pilotBeat q _ (by simp))).symm)
    have hkept := unitKept_peerBeat (s.pilotBeat e.src ws) (readBeat ws)
    refine ⟨_, exec_heartbeat harr, ?_, ?_, fun hoff hactive => ?_, fun hoff => ?_⟩
    · rw [hpeer, hkept.pr]
      rfl
    · rw [hpeer, hkept.pr]
      rfl
    · rw [hpeer, pilotBeat_of_other (.inl hoff), onlyFields_pilotBits.g _ (by decide) (by decide)]
      exact tetherBack_up (s := s.peerKept (readBeat ws)) ⟨hen, hactive, Nat.zero_lt_two⟩
    · rw [hpeer, pilotBeat_of_other (.inl hoff)]
      exact onlyRegs_peerBeat s (readBeat ws)
  · -- HEARTBEAT of another device
    intro p e ws s harr hpilot hpeer
    exact ⟨_, exec_heartbeat harr, by rw [pilotBeat_of_other hpilot, peerBeat_of_other hpeer]⟩
  · -- PILOT_DEADLINE of a slot without a grant
    intro p s h hstate
    obtain ⟨r, t, hr, hexec, ht, hmem⟩ := exec_pilotDeadline_slot p h
    obtain ⟨hfirst, hswitches⟩ := (slotAt_judged hr).chooses_first hstate
    exact ⟨t, hexec, (ht.g (slotView_pstat p)).trans hfirst, (ht.g (slotView_pstat p)).trans hswitches, byte_congr hmem⟩
  · -- PILOT_DEADLINE with a good holder and no change asked for
    intro p m s h hstate hgood hask
    obtain ⟨r, t, hr, hexec, ht, hmem⟩ := exec_pilotDeadline_slot p h
    have hslot := slotAt_judged hr
    rw [pilotDecide_eq, hslot.chooses_keep hstate hgood hask] at ht
    refine ⟨t, hexec, ?_, ?_, ?_, ?_, byte_congr hmem⟩
    · exact (ht.g (slotView_pstat p)).trans (state_pilotGrant p _ m.isLt)
    · exact ((ht.g (slotView_pstat p)).trans (g_pilotGrant (by simp))).trans hslot.good.1
    · exact ((ht.g (slotView_pstat p)).trans (g_pilotGrant (by simp))).trans hslot.good.2
    · exact ((ht.g (slotView_pstat p)).trans (g_pilotGrant (by simp))).trans hslot.switches
  · -- PILOT_DEADLINE sends the GRANT of a slot kept
    intro p m q s h hstate hgood hask ⟨hvalid, hroute, hloud⟩ ⟨_, hunowned, hknown⟩
    obtain ⟨r, t, hr, hexec, ht, -⟩ := exec_pilotDeadline_slot p h
    have hslot := slotAt_judged hr
    rw [pilotDecide_eq, hslot.chooses_keep hstate hgood hask] at ht
    rw [settleEpoch_known hknown] at hr
    have hroutes := sameRoutes_judged hr
    have hmember := member_judged hr m
    have hid (f : Fld) (hf : f.reg = R.FAB_ID) : (r.pilotJudged p).g f = s.g f := g_of_rd (hf ▸ hroutes.id)
    have henv : (r.pilotJudged p).envTo (s.member p m) 2 = s.envTo (s.member p m) 2 :=
      congrArg (fun n => (⟨s.member p m, n, 2, 0, 0, false, false, 15⟩ : Env)) (hid F.FAB_ID_ID rfl)
    have hloud' : ((r.pilotJudged p).ngl q).quiet = false := by
      unfold State.ngl
      rw [hroutes.ng]
      exact hloud
    have hsent := mem_pilotGrant (s := r.pilotJudged p) (p := p) (m := m) (q := q) (g := (r.pilotJudged p).pilotNow)
      ((hid F.FAB_ID_VALID rfl).trans hvalid) (by rw [hmember, hroutes.routeTo (member_lt _ _), hroute]) hloud'
      (hroutes.pw ▸ hunowned)
    rw [hmember, henv, pilotNow_judged hr] at hsent
    exact ⟨t, hexec, ht.out.subset (pilotNow_judged hr ▸ hsent)⟩
  · -- PILOT_DEADLINE with a good holder, a change asked for and the other member ready
    intro p m s h hstate hgood hask hready
    obtain ⟨r, t, hr, hexec, ht, -⟩ := exec_pilotDeadline_slot p h
    have hslot := slotAt_judged hr
    obtain ⟨n, hn, hshown⟩ := other_eq m
    rw [pilotDecide_eq, hslot.chooses_move_asked hstate hgood hask hready, ← hn] at ht
    obtain ⟨hnew, hcount, hswitch, hreport⟩ := pilotMove_effect (s := r.pilotJudged p) p (r.pilotJudged p).pilotNow n.isLt
    exact ⟨t, hexec, ((ht.g (slotView_pstat p)).trans hnew).trans hshown,
      ((ht.g (slotView_pstat p)).trans hcount).trans (by rw [hslot.switches]),
      (ht.g (slotView_pair p)).trans hswitch, ht.reported hreport⟩
  · -- PILOT_DEADLINE with a good holder, a change asked for and the other member not ready
    intro p m s h hstate hgood hask hready
    obtain ⟨r, t, hr, hexec, ht, -⟩ := exec_pilotDeadline_slot p h
    have hslot := slotAt_judged hr
    rw [pilotDecide_eq, hslot.chooses_refuse hstate hgood hask hready] at ht
    obtain ⟨hoff, hrefused⟩ := switchRefused_effect (s := r.pilotJudged p) p
    refine ⟨t, hexec, (ht.g (slotView_pstat p)).trans (state_pilotGrant p _ m.isLt), ?_, fun hon => ?_, ?_⟩
    · exact ((ht.g (slotView_pair p)).trans (g_pilotGrant (by simp))).trans hoff
    · exact ((ht.g (slotView_pair p)).trans (g_pilotGrant (by simp))).trans (hrefused (hslot.switch.trans hon))
    · exact (((ht.g (slotView_pstat p)).trans (g_pilotGrant (by simp))).trans (switches_switchRefused p)).trans hslot.switches
  · -- PILOT_DEADLINE with only the other member good
    intro p m s h hstate ⟨hbad, hgood⟩
    obtain ⟨r, t, hr, hexec, ht, -⟩ := exec_pilotDeadline_slot p h
    have hslot := slotAt_judged hr
    obtain ⟨n, hn, hshown⟩ := other_eq m
    rw [pilotDecide_eq, hslot.chooses_move_alone hstate hbad hgood, ← hn] at ht
    obtain ⟨hnew, hcount, -, hreport⟩ := pilotMove_effect (s := r.pilotJudged p) p (r.pilotJudged p).pilotNow n.isLt
    exact ⟨t, hexec, ((ht.g (slotView_pstat p)).trans hnew).trans hshown,
      ((ht.g (slotView_pstat p)).trans (g_pilotMove (by simp))).trans hslot.good.1,
      ((ht.g (slotView_pstat p)).trans (g_pilotMove (by simp))).trans hslot.good.2,
      ((ht.g (slotView_pstat p)).trans hcount).trans (by rw [hslot.switches]), ht.reported hreport⟩
  · -- PILOT_DEADLINE with no member good
    intro p m s h hstate hbad
    obtain ⟨r, t, hr, hexec, ht, -⟩ := exec_pilotDeadline_slot p h
    have hslot := slotAt_judged hr
    rw [pilotDecide_eq, hslot.chooses_dark hstate hbad] at ht
    obtain ⟨hdark, hreport⟩ := pilotDark_effect (s := r.pilotJudged p) p
    exact ⟨t, hexec, (((ht.g (slotView_pstat p)).trans (g_pilotDark (by simp))).trans hslot.state).trans hstate,
      (ht.g (slotView_pstat p)).trans hdark,
      ((ht.g (slotView_pstat p)).trans (g_pilotDark (by simp))).trans hslot.good.1,
      ((ht.g (slotView_pstat p)).trans (g_pilotDark (by simp))).trans hslot.good.2, ht.reported hreport⟩
  · -- PILOT_DEADLINE before two ticks of the pilot
    intro s h
    exact ⟨s, exec_pilotDeadline_early h, rfl⟩
  · -- PILOT_CTL_WRITE that enables
    intro p v s hoff hv
    obtain ⟨hclear, hctl, hmem⟩ := slotsCleared_effect (s.flag F.PILOT_CTL_EN true) p
    have hon : (s.flag F.PILOT_CTL_EN true).slotsCleared.g F.PILOT_CTL_EN = 1 :=
      (g_of_rd hctl).trans (g_flag_self s F.PILOT_CTL_EN true rfl (by decide))
    obtain ⟨hregs, hbytes, hbeats, hepoch⟩ := pilotBegins_kept (s.flag F.PILOT_CTL_EN true).slotsCleared
    refine ⟨_, exec_pilotCtlWrite v s, ?_⟩
    rw [pilotCtlWrite_enables hoff hv, g_ok, g_ok, ok_pr, g_congr hregs, g_congr hregs]
    exact ⟨hon, hclear, hbeats, hepoch, byte_congr ((ok_mem _).trans (hbytes.trans hmem))⟩
  · -- PILOT_CTL_WRITE that disables, or finds the role enabled
    intro v s h
    refine ⟨_, exec_pilotCtlWrite v s, ?_, ?_⟩
    · rw [g_ok, pilotCtlWrite_otherwise h, g_flag_self _ _ _ rfl (by decide), bitsOf_bit]
      cases v.getLsbD 31 <;> rfl
    · rw [pilotCtlWrite_otherwise h]
      exact ((confined.refl s _).flag List.mem_cons_self).ok
  · -- PILOT_PAIR_WRITE
    intro p v s hdiff hown hnamed
    obtain ⟨hpair, hstate, hregs⟩ := pilotPairWrite_taken (not_pairClash hdiff hown hnamed)
    obtain ⟨hen, hb, ha⟩ := fieldWrite_pilotPair s p v
    refine ⟨_, exec_pilotPairWrite p v s, ?_, ?_, ?_, ?_, hregs.ok⟩
    · rw [g_ok]; exact (g_of_rd (f := F.PILOT_PAIR_DEV_A p) hpair).trans ha
    · rw [g_ok]; exact (g_of_rd (f := F.PILOT_PAIR_DEV_B p) hpair).trans hb
    · rw [g_ok]; exact (g_of_rd (f := F.PILOT_PAIR_EN p) hpair).trans hen
    · rw [g_ok]; exact hstate
  · -- PILOT_PAIR_WRITE refused
    intro p v s h
    have hwrite := pilotPairWrite_refused (pairClash_iff.mpr h)
    have hne (f : Fld) (hf : f.hi < 32) (hbits : f.hi < 29 ∨ 29 < f.lo) :
        (s.pilotPairWrite p v).ok.g f = s.g f := by
      rw [g_ok, hwrite, g_flag_ne _ _ _ _ (.inr hbits) hf]
    refine ⟨_, exec_pilotPairWrite p v s, ?_, hne _ (by simp [F.PILOT_PAIR_EN]) (by simp [F.PILOT_PAIR_EN]),
      hne _ (by simp [F.PILOT_PAIR_DEV_A]) (by simp [F.PILOT_PAIR_DEV_A]),
      hne _ (by simp [F.PILOT_PAIR_DEV_B]) (by simp [F.PILOT_PAIR_DEV_B]), ?_⟩
    · rw [g_ok, hwrite]
      exact g_flag_self s (F.PILOT_PAIR_SW_REFUSED p) true rfl (by simp [F.PILOT_PAIR_SW_REFUSED])
    · rw [hwrite]
      exact ((confined.refl s _).flag List.mem_cons_self).ok
  · -- PILOT_SWITCH_REQUEST
    intro p v s hsame hdiff hown hnamed
    obtain ⟨ha, hb, he, hsw⟩ := withSwitch_bits v
    have hfree := pairClash_withSwitch.not.mpr (not_pairClash hdiff hown hnamed)
    have hwrite : s.pilotPairWrite p (withSwitch v) = s.fieldWrite (R.PILOT_PAIR p) (withSwitch v) :=
      pilotPairWrite_same hfree (by rw [ha, hb, he]; exact hsame)
    refine ⟨_, exec_pilotSwitchRequest p v s, ?_⟩
    show ((s.pilotPairWrite p (withSwitch v)).ok).g _ = 1 ∧ _ ∧ confined s ((s.pilotPairWrite p (withSwitch v)).ok) _
    rw [hwrite]
    refine ⟨?_, ?_, ((confined.refl s _).wr List.mem_cons_self).ok⟩
    · rw [g_ok]
      exact switch_fieldWrite_pilotPair s p hsw
    · show ((s.pilotPairWrite p (withSwitch v)).ok).g _ = _
      rw [hwrite, g_ok]
      exact g_of_rd (rd_fieldWrite_ne _ _ (pair_ne_pstat p).symm)
  · -- PILOT_SWITCH_REQUEST that changes the slot too
    intro p v s hchange hdiff hown hnamed
    obtain ⟨ha, hb, he, hsw⟩ := withSwitch_bits v
    obtain ⟨hpair, hstate, hregs⟩ := pilotPairWrite_taken (pairClash_withSwitch.not.mpr (not_pairClash hdiff hown hnamed))
    rw [ha, hb, he, if_neg hchange] at hstate
    refine ⟨_, exec_pilotSwitchRequest p v s, ?_, ?_, hregs.ok⟩
    · rw [g_ok]
      exact (g_of_rd (f := F.PILOT_PAIR_SWITCH p) hpair).trans (switch_fieldWrite_pilotPair s p hsw)
    · rw [g_ok]
      exact hstate
  · -- PAIR_CFG_WRITE that enables
    intro v s ⟨hrun, hoff⟩ hown hv hrole
    obtain ⟨hen, hpartner, hpilot⟩ := cfgWritten_cfg s v
    have hwrite : s.pairCfgWrite v = (s.cfgWritten v).pairBegins := by
      rw [pairCfgWrite_eq, if_neg (not_cfgRefused hrun hown), if_pos ⟨hv, by rw [unpaired_of_en hoff]; rfl⟩]
    have hnew : (1 : Nat) ≠ (s.cfgWritten v).role := by
      rw [show (s.cfgWritten v).role = 0 from (cfgWritten_ne v (by decide)).trans hrole]
      decide
    have hbegins := onlyFields_pairBegins (s := s.cfgWritten v)
    have hcfg (f : Fld) (hf : onPair f.reg) (h : f.clearOf (F.PAIR_STAT_TETHER_DOWN :: ckptFields) = true)
        (h' : f.clearOf roleFields = true) : (s.cfgWritten v).pairBegins.g f = (s.cfgWritten v).g f :=
      (hbegins.g f hf h).trans (onlyFields_setRole.g f hf h')
    refine ⟨_, exec_pairCfgWrite v s, ?_⟩
    rw [hwrite]
    refine ⟨?_, ?_, ?_, ?_, ?_, ?_⟩
    · rw [g_ok, hcfg _ (by decide) (by decide) (by decide), hen, bitsOf_bit, hv]
      rfl
    · rw [g_ok, hcfg _ (by decide) (by decide) (by decide), hpartner]
    · rw [g_ok, hcfg _ (by decide) (by decide) (by decide), hpilot]
    · rw [g_ok, hbegins.g _ (by decide) (by decide), role_setRole (by decide)]
    · rw [g_ok, hbegins.g _ (by decide) (by decide), driving_setRole hnew]
      rfl
    · rw [ok_pr, pairBegins_peerGrant, cfgWritten_peerGrant]
  · -- PAIR_CFG_WRITE that ends pairing
    intro v s ⟨hrun, hon⟩ hown hv
    obtain ⟨hen, -, -⟩ := cfgWritten_cfg s v
    have hwrite : s.pairCfgWrite v = (s.cfgWritten v).pairEnds := by
      rw [pairCfgWrite_eq, if_neg (not_cfgRefused hrun hown), if_neg (by rw [hv]; simp),
        if_pos ⟨by rw [hv]; rfl, paired_of_en hon⟩]
    obtain ⟨hfields, hrole, hdriving, hdown, hpeer⟩ := pairEnds_effect (s.cfgWritten v)
    refine ⟨_, exec_pairCfgWrite v s, ?_⟩
    rw [hwrite, g_ok, g_ok, g_ok, g_ok, ok_pr, hfields.g F.PAIR_CFG_EN (by decide) (by decide), hen, bitsOf_bit, hv]
    exact ⟨rfl, hrole, hdriving, hdown, hpeer⟩
  · -- PAIR_CFG_WRITE that keeps EN
    intro v s ⟨hrun, hsame⟩ hown
    obtain ⟨hen, hpartner, hpilot⟩ := cfgWritten_cfg s v
    have hwrite : s.pairCfgWrite v = (s.cfgWritten v).pairStays := by
      have hpaired : s.paired = v.getLsbD 31 := by
        unfold State.paired State.on
        rw [hsame, bitsOf_bit]
        cases v.getLsbD 31 <;> rfl
      rw [pairCfgWrite_eq, if_neg (not_cfgRefused hrun hown), hpaired, if_neg (by cases v.getLsbD 31 <;> simp),
        if_neg (by cases v.getLsbD 31 <;> simp)]
    have hstays := onlyFields_pairStays (s := s.cfgWritten v)
    refine ⟨_, exec_pairCfgWrite v s, ?_⟩
    rw [hwrite]
    refine ⟨?_, ?_, ?_, ?_, ?_⟩
    · rw [g_ok, hstays.g _ (by decide) (by decide), hen, hsame]
    · rw [g_ok, hstays.g _ (by decide) (by decide), hpartner]
    · rw [g_ok, hstays.g _ (by decide) (by decide), hpilot]
    · rw [g_ok, hstays.g _ (by decide) (by decide), cfgWritten_ne v (by decide)]
    · rw [ok_pr, pairStays_peerGrant, cfgWritten_peerGrant]
  · -- PAIR_CFG_WRITE refused
    intro v s h
    have hwrite : s.pairCfgWrite v = s.flag F.PAIR_STAT_CFG_REFUSED true := by
      refine (pairCfgWrite_eq s v).trans (if_pos ?_)
      rw [ownId_iff, ownId_iff, ← and_or_left]
      exact h.imp_left running_of_g_eq_one
    refine ⟨_, exec_pairCfgWrite v s, ?_⟩
    rw [hwrite]
    exact ⟨(g_ok _ _).trans (g_flag_self _ _ _ rfl (by decide)), (rd_ok _ _).trans (rd_flag_ne _ _ _ (by decide)),
      ((confined.refl s _).flag List.mem_cons_self).ok⟩
  · -- PAIR_SIG_DONE
    intro s h
    have hcheck := onlyFields_sigCheck (s := s.sigShown (crc32 s.sigWords))
    obtain ⟨c, hpr⟩ := sigCheck_pr (s.sigShown (crc32 s.sigWords))
    refine ⟨_, exec_pairSigDone h, (hcheck.rd (by decide) (by decide)).trans (rd_sigShown _), ?_, ?_, ?_⟩
    · exact (hcheck.g _ (by decide) (by decide)).trans (g_flag_self _ _ _ rfl (by decide))
    · rw [hpr]
      rfl
    · exact onlyRegs.sigCheck (((onlyRegs.refl s _).upd.wr (by simp)).flag (by simp [F.PAIR_STAT_SIG_VALID])) (by simp)
  · -- PAIR_SIG_DONE with none computed
    intro s h
    exact ⟨s, exec_pairSigDone_of_none h, rfl⟩

end Sys2Proof.Machine
end

section
/-!
SUPPORT. The Ferry (R255, R258 to R262, R273, R274): registers written, consignments sent and received, and the standby's self-test.
-/
namespace Sys2Proof.Machine

variable {s : State}

/-! ## Tracked areas (R255) -/

/-- The register of a write to an area. -/
def areaReg (n : Nat) (lines : Bool) : Nat := if lines then R.PAIR_FT_LINES n else R.PAIR_FT_BASE n

theorem exec_trackedAreaWrite (n : Fin 16) (lines : Bool) (v : Word) (s : State) :
    exec (.trackedAreaWrite n lines v) s = .next (s.areaWrite n lines v).ok := rfl

/-- A change of areas waits for the boundary. -/
def State.areasChanged (s : State) : State := { s with pr := { s.pr with areasNew := true, sigDirty := true } }

theorem areaWrite_eq (s : State) (n : Nat) (lines : Bool) (v : Word) : s.areaWrite n lines v =
    if !(s.fieldWrite (areaReg n lines) v).areasAllowed then s.flag F.PAIR_STAT_CFG_REFUSED true
    else if (s.fieldWrite (areaReg n lines) v).rd (areaReg n lines) = s.rd (areaReg n lines) then s
    else (s.fieldWrite (areaReg n lines) v).areasChanged := rfl

/-- A configuration that is accepted stands in the register, and waits for the boundary where it is a change. -/
theorem areaWrite_taken {n : Nat} {lines : Bool} {v : Word} (h : (s.fieldWrite (areaReg n lines) v).areasAllowed = true) :
    (s.areaWrite n lines v).rd (areaReg n lines) = (s.fieldWrite (areaReg n lines) v).rd (areaReg n lines) ∧
    (s.areaWrite n lines v).pr.areas = s.pr.areas ∧
    ((s.fieldWrite (areaReg n lines) v).rd (areaReg n lines) ≠ s.rd (areaReg n lines) →
      (s.areaWrite n lines v).pr.areasNew = true) ∧
    onlyRegs s (s.areaWrite n lines v) [areaReg n lines] := by
  rw [areaWrite_eq, if_neg (by rw [h]; decide)]
  split
  · next hsame => exact ⟨hsame.symm, rfl, fun hne => absurd hsame hne, onlyRegs.refl s _⟩
  · exact ⟨rfl, rfl, fun _ => rfl, ((onlyRegs.refl s _).wr List.mem_cons_self).upd⟩

theorem areaWrite_refused {n : Nat} {lines : Bool} {v : Word} (h : (s.fieldWrite (areaReg n lines) v).areasAllowed = false) :
    s.areaWrite n lines v = s.flag F.PAIR_STAT_CFG_REFUSED true := by
  rw [areaWrite_eq, if_pos (by rw [h]; rfl)]

theorem fieldsAt_ftLines : ∀ n : Fin 16, fieldsAt (R.PAIR_FT_LINES n) = [⟨14, 0, .rw⟩] := by decide +kernel

theorem fieldsAt_ftBase : ∀ n : Fin 16, fieldsAt (R.PAIR_FT_BASE n) = [⟨31, 6, .rw⟩, ⟨0, 0, .rw⟩] := by decide +kernel

theorem fieldWrite_ftLines (s : State) (n : Fin 16) (v : Word) :
    (s.fieldWrite (R.PAIR_FT_LINES n) v).g (F.PAIR_FT_LINES_LINES n) = bitsOf v 14 0 :=
  g_fieldWrite_rw (f := F.PAIR_FT_LINES_LINES n) [] [] (fieldsAt_ftLines n) (by simp) (by simp [F.PAIR_FT_LINES_LINES]) v

theorem fieldWrite_ftBase (s : State) (n : Fin 16) (v : Word) :
    (s.fieldWrite (R.PAIR_FT_BASE n) v).g (F.PAIR_FT_BASE_BASE n) = bitsOf v 31 6 ∧
    (s.fieldWrite (R.PAIR_FT_BASE n) v).g (F.PAIR_FT_BASE_EN n) = bitsOf v 0 0 :=
  ⟨g_fieldWrite_rw (f := F.PAIR_FT_BASE_BASE n) [] [⟨0, 0, .rw⟩] (fieldsAt_ftBase n) (by simp [F.PAIR_FT_BASE_BASE])
      (by simp [F.PAIR_FT_BASE_BASE]) v,
    g_fieldWrite_rw (f := F.PAIR_FT_BASE_EN n) [⟨31, 6, .rw⟩] [] (fieldsAt_ftBase n) (by simp) (by simp [F.PAIR_FT_BASE_EN]) v⟩

/-! ## PAIR_CTL (R258, R273) -/

theorem exec_forceSweep (v : Word) (s : State) : exec (.forceSweep v) s = .next (s.pairCtlWrite (v ||| 4#32)).ok := rfl

theorem exec_suspectClr (v : Word) (s : State) : exec (.suspectClr v) s = .next (s.pairCtlWrite (v ||| 8#32)).ok := rfl

/-- REPLAY_EN as written. -/
def State.replayEnSet (s : State) (b : Bool) : State := s.flag F.PAIR_CTL_REPLAY_EN b

/-- SUSPECT_CLR where it is written 1. -/
def State.clearsSuspect (s : State) (b : Bool) : State := if b then s.suspectClear else s

/-- FORCE_SWEEP where it is written 1. -/
def State.sweepsWhere (s : State) (b : Bool) : State := if b then s.forceSweep else s

theorem pairCtlWrite_eq (s : State) (v : Word) : s.pairCtlWrite v =
    ((s.replayEnSet (v.getLsbD 1)).sweepsWhere (v.getLsbD 2)).clearsSuspect (v.getLsbD 3) := rfl

theorem pairCtlWrite_forceSweep (s : State) (v : Word) : s.pairCtlWrite (v ||| 4#32) =
    (s.replayEnSet (v.getLsbD 1)).forceSweep.clearsSuspect (v.getLsbD 3) := by
  have hbit (i : Nat) : (v ||| 4#32).getLsbD i = (v.getLsbD i || (4#32).getLsbD i) := BitVec.getLsbD_or
  rw [pairCtlWrite_eq, hbit, hbit, hbit, show (4#32).getLsbD 1 = false by decide, show (4#32).getLsbD 2 = true by decide,
    show (4#32).getLsbD 3 = false by decide, Bool.or_false, Bool.or_true, Bool.or_false]
  rfl

theorem pairCtlWrite_suspectClr (s : State) (v : Word) : s.pairCtlWrite (v ||| 8#32) =
    ((s.replayEnSet (v.getLsbD 1)).sweepsWhere (v.getLsbD 2)).suspectClear := by
  have hbit (i : Nat) : (v ||| 8#32).getLsbD i = (v.getLsbD i || (8#32).getLsbD i) := BitVec.getLsbD_or
  rw [pairCtlWrite_eq, hbit, hbit, hbit, show (8#32).getLsbD 1 = false by decide, show (8#32).getLsbD 2 = false by decide,
    show (8#32).getLsbD 3 = true by decide, Bool.or_false, Bool.or_false, Bool.or_true]
  rfl

/-- The fields that SUSPECT_CLR changes. -/
def suspectFields : List Fld := [F.PAIR_STAT_READY, F.PAIR_HEALTH_MISMATCHES]

theorem onlyFields_suspectClear : OnlyFields suspectFields s s.suspectClear :=
  (((OnlyFields.refl s).upd.p (by decide)).p (by decide)).ite (OnlyFields.refl s)

theorem onlyFields_clearsSuspect {b : Bool} : OnlyFields suspectFields s (s.clearsSuspect b) :=
  onlyFields_suspectClear.ite (OnlyFields.refl s)

/-- The clear of a suspicion changes of the pair unit the window alone. -/
theorem clearsSuspect_pr (s : State) (b : Bool) : ∃ w, (s.clearsSuspect b).pr = { s.pr with window := w } := by
  unfold State.clearsSuspect State.suspectClear
  split
  · split
    · exact ⟨[], rfl⟩
    · exact ⟨s.pr.window, rfl⟩
  · exact ⟨s.pr.window, rfl⟩

theorem onlyRegs.suspectClear {r : State} {rs : List Nat} (h : onlyRegs r s rs) (hstat : R.PAIR_STAT ∈ rs)
    (hhealth : R.PAIR_HEALTH ∈ rs) : onlyRegs r s.suspectClear rs := by
  unfold State.suspectClear
  split
  · exact (h.upd.p (f := F.PAIR_STAT_READY) hstat).p (f := F.PAIR_HEALTH_MISMATCHES) hhealth
  · exact h

theorem onlyRegs.clearsSuspect {r : State} {rs : List Nat} {b : Bool} (h : onlyRegs r s rs) (hstat : R.PAIR_STAT ∈ rs)
    (hhealth : R.PAIR_HEALTH ∈ rs) : onlyRegs r (s.clearsSuspect b) rs := by
  unfold State.clearsSuspect
  split
  · exact onlyRegs.suspectClear h hstat hhealth
  · exact h

/-- A SUSPECT standby is NOT_READY, with an empty window. -/
theorem suspectClear_suspect (h : s.g F.PAIR_STAT_READY = 3) : s.suspectClear.g F.PAIR_STAT_READY = 0 ∧
    s.suspectClear.g F.PAIR_HEALTH_MISMATCHES = 0 ∧ s.suspectClear.pr.window = [] := by
  unfold State.suspectClear
  rw [if_pos h]
  refine ⟨?_, g_p_self _ _ _ (by decide), rfl⟩
  rw [g_p_ne _ _ _ _ (.inl (by decide)) (by decide)]
  exact g_p_self _ _ _ (by decide)

theorem suspectClear_otherwise (h : s.g F.PAIR_STAT_READY ≠ 3) : s.suspectClear = s := if_neg h

theorem g_replayEnSet (b : Bool) {f : Fld} (h : f.reg ≠ R.PAIR_CTL) : (s.replayEnSet b).g f = s.g f :=
  g_of_rd (rd_flag_ne s F.PAIR_CTL_REPLAY_EN b h)

theorem replayEn_replayEnSet (b : Bool) : (s.replayEnSet b).g F.PAIR_CTL_REPLAY_EN = if b then 1 else 0 :=
  g_flag_self s F.PAIR_CTL_REPLAY_EN b rfl (by decide)

/-- A forced pass begins at the first line. -/
theorem forceSweep_begins (h : s.pr.forced = false) : s.forceSweep.pr.forced = true ∧ s.forceSweep.pr.passNext = true ∧
    s.forceSweep.g F.PAIR_SWEEP_CURSOR = 0 ∧ s.forceSweep.g F.PAIR_CTL_FORCE_SWEEP = 1 := by
  unfold State.forceSweep
  rw [if_neg (by rw [h]; decide)]
  refine ⟨rfl, rfl, ?_, g_flag_self _ F.PAIR_CTL_FORCE_SWEEP true rfl (by decide)⟩
  rw [g_flag_ne _ _ _ _ (.inl (by decide)) (by decide)]
  exact g_p_self _ F.PAIR_SWEEP_CURSOR 0 (by decide)

/-- During a forced pass a second one is noted. -/
theorem forceSweep_again (h : s.pr.forced = true) : s.forceSweep = { s with pr := { s.pr with again := true } } := if_pos h

theorem onlyRegs.forceSweep {r : State} {rs : List Nat} (h : onlyRegs r s rs) (hctl : R.PAIR_CTL ∈ rs)
    (hsweep : R.PAIR_SWEEP ∈ rs) : onlyRegs r s.forceSweep rs := by
  unfold State.forceSweep
  split
  · exact h.upd
  · exact (h.upd.p (f := F.PAIR_SWEEP_CURSOR) hsweep).flag (f := F.PAIR_CTL_FORCE_SWEEP) hctl

theorem onlyFields_sweepsWhere {b : Bool} : OnlyFields [F.PAIR_SWEEP_CURSOR, F.PAIR_CTL_FORCE_SWEEP] s (s.sweepsWhere b) :=
  onlyFields_forceSweep.ite (OnlyFields.refl s)

theorem sweepsWhere_window (s : State) (b : Bool) : (s.sweepsWhere b).pr.window = s.pr.window := by
  unfold State.sweepsWhere
  split
  · obtain h | h := forceSweep_pr s <;> rw [h]
  · rfl

/-! ## Counters -/

/-- A 32-bit counter after it counts once. -/
theorem rd_inc_self (s : State) (a : Nat) : ((s.inc a).rd a).toNat = min ((s.rd a).toNat + 1) (2 ^ 32 - 1) := by
  have hcount : (s.inc a).g ⟨a, 31, 0⟩ = min (s.g ⟨a, 31, 0⟩ + 1) (2 ^ 32 - 1) := g_bump_self ⟨a, 31, 0⟩ 1 (by simp)
  simpa only [State.g, bitsOf_whole] using hcount

/-! ## Consignments sent (R259) -/

theorem exec_consignmentSent {k : Consign} (h : s.pr.sending = some k) : exec .consignmentSent s =
    .next (({ k.msgs.foldl (fun s m => s.tetherSend 5 m) s with
      pr := { (k.msgs.foldl (fun s m => s.tetherSend 5 m) s).pr with sending := none } } : State).inc R.PAIR_CNS_SENT) := by
  show execConsignmentSent s = _
  unfold execConsignmentSent
  rw [h]

theorem exec_consignmentSent_of_none (h : s.pr.sending = none) : exec .consignmentSent s = .next s := by
  show execConsignmentSent s = _
  unfold execConsignmentSent
  rw [h]

theorem unitKept_tetherSends (ms : List (List Word)) : UnitKept besideMsgs s (ms.foldl (fun s m => s.tetherSend 5 m) s) :=
  (UnitKept.refl s).foldl fun _ _ h => h.tetherSend fun _ => id

theorem tetherSends_mem (ms : List (List Word)) : (ms.foldl (fun s m => s.tetherSend 5 m) s).mem = s.mem :=
  foldl_part (f := fun s m => s.tetherSend 5 m) (part := State.mem) (fun _ _ => tetherSend_mem _ _) ms s

/-- The Tether carries every message for which there is credit. -/
theorem tetherSends_out {ms : List (List Word)} (hfree : s.tetherFree) (hvalid : s.g F.FAB_ID_VALID = 1)
    (hcred : (ms.map fragsOf).sum ≤ s.g (F.FAB_PORT_CRED_BULK (s.g F.PAIR_CFG_TETHER))) :
    (ms.foldl (fun s m => s.tetherSend 5 m) s).out =
      s.out ++ ms.map (fun m => .msg (s.g F.PAIR_CFG_TETHER) (s.envTo (s.g F.PAIR_CFG_PARTNER) 5) m) := by
  induction ms generalizing s with
  | nil => exact (List.append_nil _).symm
  | cons m ms ih =>
    rw [List.map_cons, List.sum_cons] at hcred
    have hsend : s.tetherSend 5 m = { s.paid s.tether 2 (fragsOf m) with
        out := s.out ++ [.msg (s.g F.PAIR_CFG_TETHER) (s.envTo (s.g F.PAIR_CFG_PARTNER) 5) m] } := by
      unfold State.tetherSend
      rw [if_pos (on_of_g_eq_one hvalid)]
      exact sendPort_of_empty (e := s.envTo s.partner 5) (by simp [State.envTo]) (portActive_of_active hfree.active) hfree.loud
        hfree.empty hfree.unowned fun _ => (Nat.le_add_right _ _).trans hcred
    have hkept : UnitKept besideMsgs s (s.tetherSend 5 m) := (UnitKept.refl s).tetherSend fun _ => id
    have htether : (s.tetherSend 5 m).g F.PAIR_CFG_TETHER = s.g F.PAIR_CFG_TETHER := hkept.g ⟨by decide, by decide⟩
    have hlt : s.g F.PAIR_CFG_TETHER < 8 := bitsOf_lt _ _ _
    have hpartner : (s.tetherSend 5 m).g F.PAIR_CFG_PARTNER = s.g F.PAIR_CFG_PARTNER := hkept.g ⟨by decide, by decide⟩
    have hid : (s.tetherSend 5 m).g F.FAB_ID_ID = s.g F.FAB_ID_ID := hkept.g ⟨by decide, by decide⟩
    have henv : (s.tetherSend 5 m).envTo (s.g F.PAIR_CFG_PARTNER) 5 = s.envTo (s.g F.PAIR_CFG_PARTNER) 5 :=
      congrArg (fun n => (⟨s.g F.PAIR_CFG_PARTNER, n, 5, 0, 0, false, false, 15⟩ : Env)) hid
    have hpaid : (s.tetherSend 5 m).g (F.FAB_PORT_CRED_BULK (s.g F.PAIR_CFG_TETHER)) =
        s.g (F.FAB_PORT_CRED_BULK (s.g F.PAIR_CFG_TETHER)) - fragsOf m := by
      have hbyte : s.g (F.FAB_PORT_CRED_BULK (s.g F.PAIR_CFG_TETHER)) < 256 := bitsOf_lt _ _ _
      rw [hsend]
      refine (g_p_self s (F.FAB_PORT_CRED_BULK (s.g F.PAIR_CFG_TETHER))
        (s.g (F.FAB_PORT_CRED_BULK (s.g F.PAIR_CFG_TETHER)) - fragsOf m) (by simp [F.FAB_PORT_CRED_BULK])).trans ?_
      exact Nat.mod_eq_of_lt ((Nat.sub_le _ _).trans_lt hbyte)
    have hfree' : (s.tetherSend 5 m).tetherFree := by
      refine ⟨?_, ?_, ?_, ?_⟩
      · rw [htether, hkept.g (nglStat_besideMsgs hlt)]
        exact hfree.active
      · rw [htether, hkept.ngl]
        exact hfree.loud
      · rw [hsend]
        obtain ⟨-, hfb, -⟩ := paid_kept s s.tether 2 (fragsOf m)
        exact (congrArg (fun q => q.txq) hfb).trans hfree.empty
      · rw [hkept.pw]
        exact hfree.unowned
    have hrest := ih hfree' ((hkept.g ⟨by decide, by decide⟩).trans hvalid) (by rw [htether, hpaid]; omega)
    rw [List.foldl_cons, hrest, htether, hpartner, henv, List.map_cons, hsend, List.append_assoc]
    rfl

/-! ## Words stored in a row -/

/-- Words stored from `a` on leave the bytes below. -/
theorem byte_storeWords_below {a b : Nat} (ws : List Word) (h : b < a) : (s.storeWords a ws).byte b = s.byte b := by
  induction ws generalizing s a with
  | nil => rfl
  | cons w ws ih =>
    refine (ih (s := s.writeW a w) (by omega)).trans ?_
    cases hm : memOf a with
    | none =>
      unfold State.writeW
      rw [hm]
    | some k => exact onlyMem_writeW w hm b (.inl h)

theorem word_storeWords_below {a b : Nat} (ws : List Word) (h : b + 4 ≤ a) : (s.storeWords a ws).word b = s.word b := by
  unfold State.word
  rw [byte_storeWords_below ws (by omega), byte_storeWords_below ws (by omega), byte_storeWords_below ws (by omega),
    byte_storeWords_below ws (by omega)]

/-- Each of the words stored from `a` on stands in its place. -/
theorem word_storeWords {a i : Nat} {ws : List Word} (hi : i < ws.length)
    (hm : ∀ j < ws.length, (memOf (a + 4 * j)).isSome = true) : (s.storeWords a ws).word (a + 4 * i) = ws[i] := by
  induction ws generalizing s a i with
  | nil => cases hi
  | cons w ws ih =>
    cases i with
    | zero =>
      obtain ⟨k, hk⟩ := Option.isSome_iff_exists.mp (hm 0 (Nat.zero_lt_succ _))
      exact (word_storeWords_below (s := s.writeW a w) ws (Nat.le_refl _)).trans (word_writeW w hk)
    | succ i =>
      have hrest := ih (s := s.writeW a w) (a := a + 4) (i := i) (Nat.lt_of_succ_lt_succ hi) fun j hj => by
        have hj' := hm (j + 1) (Nat.succ_lt_succ hj)
        rwa [Nat.mul_add_one, Nat.add_comm (4 * j) 4, ← Nat.add_assoc] at hj'
      rwa [Nat.add_assoc, Nat.add_comm 4 (4 * i), ← Nat.mul_add_one] at hrest

/-- Where memory stands (R21). -/
theorem memOf_isSome_iff {a : Nat} : (memOf a).isSome = true ↔ a < 0x100000 ∨
    (0x01000000 ≤ a ∧ a < 0x02000000 ∧ ((a - 0x01000000) % 0x100000 < 0x40000 ∨
      (0x80000 ≤ (a - 0x01000000) % 0x100000 ∧ (a - 0x01000000) % 0x100000 < 0x90000))) ∨
    (0x02000000 ≤ a ∧ a < 0x02800000) := by
  unfold memOf
  split
  · next h => exact ⟨fun _ => .inl h, fun _ => rfl⟩
  next hctl =>
  split
  · next hcl =>
    dsimp only
    split
    · next h => exact ⟨fun _ => .inr (.inl ⟨hcl.1, hcl.2, .inl h⟩), fun _ => rfl⟩
    next hdata =>
    split
    · next h => exact ⟨fun _ => .inr (.inl ⟨hcl.1, hcl.2, .inr h⟩), fun _ => rfl⟩
    · next hprog => exact ⟨fun h => absurd h (by decide), fun h => by omega⟩
  next hcl =>
  split
  · next h => exact ⟨fun _ => .inr (.inr h), fun _ => rfl⟩
  · next hreg => exact ⟨fun h => absurd h (by decide), fun h => by omega⟩

/-- A line lies in one memory as a whole. -/
theorem memOf_line {b i : Nat} (h : (memOf (b / 64 * 64)).isSome = true) (hi : i < 16) :
    (memOf (b / 64 * 64 + 4 * i)).isSome = true := by
  rw [memOf_isSome_iff] at h ⊢
  omega

end Sys2Proof.Machine
end

section
/-!
SUPPORT. Consignments received (R261, R262): what a message that comes in does to the consignment being staged, and what is committed.
-/
namespace Sys2Proof.Machine

variable {s : State}

/-! ## A commit -/

theorem passDone_rest (s : State) : s.passDone.mem = s.mem ∧ s.passDone.ft = s.ft := by
  unfold State.passDone
  extract_lets counted c fresh
  split
  · split
    · exact ⟨rfl, rfl⟩
    · exact ⟨rfl, rfl⟩
  · exact ⟨rfl, rfl⟩

theorem passStarts_rest (s : State) : s.passStarts.mem = s.mem ∧ s.passStarts.ft = s.ft := by
  unfold State.passStarts
  split
  · exact passDone_rest s
  · exact ⟨rfl, rfl⟩

/-- What a commit leaves of memory are the lines in place. -/
theorem commit_mem (s : State) (c : Staged) : (s.commit c).mem = (s.linesPlaced c).mem := by
  rw [commit_eq]
  split
  · exact (passStarts_rest _).1
  · rfl

theorem commit_kinds {c : Staged} {k : Nat} (h : ∃ f ∈ s.ft.blocks, f.kind = k) : ∃ f ∈ (s.commit c).ft.blocks, f.kind = k := by
  have hft : (s.commit c).ft = (s.linesPlaced c).ft := by
    rw [commit_eq]
    split
    · exact (passStarts_rest _).2
    · rfl
  rw [hft]
  exact (unitKept_linesPlaced s c).reported h

/-- A commit is counted, and the checkpoint is its tick. -/
theorem commit_counts (s : State) {c : Staged} (htick : c.tick < 2 ^ 64) :
    ((s.commit c).rd R.PAIR_CNS_COMMIT).toNat = min ((s.rd R.PAIR_CNS_COMMIT).toNat + 1) (2 ^ 32 - 1) ∧
    (s.commit c).rd64 R.PAIR_CKPT_LO R.PAIR_CKPT_HI = c.tick := by
  have hlines := unitKept_linesPlaced s c
  have htaken : s.ckptTaken c = { (((s.linesPlaced c).wr64 R.PAIR_CKPT_LO R.PAIR_CKPT_HI c.tick).inc R.PAIR_CNS_COMMIT) with
      pr := { (s.linesPlaced c).pr with commitCyc := bitsOf (c.head 2) 24 0 } } := rfl
  have hrd (a : Nat) : (s.ckptTaken c).rd a =
      (((s.linesPlaced c).wr64 R.PAIR_CKPT_LO R.PAIR_CKPT_HI c.tick).inc R.PAIR_CNS_COMMIT).rd a := by
    rw [htaken]
    exact rd_congr rfl a
  constructor
  · rw [onlyFields_commit_of_taken.rd (by decide) (by decide), hrd, rd_inc_self, State.wr64, rd_wr, if_neg (by decide), rd_wr,
      if_neg (by decide), hlines.rd _ (by decide)]
  · rw [State.rd64, onlyFields_commit_of_taken.rd (a := R.PAIR_CKPT_LO) (by decide) (by decide),
      onlyFields_commit_of_taken.rd (a := R.PAIR_CKPT_HI) (by decide) (by decide), hrd, hrd, rd_inc_ne _ _ _ (by decide),
      rd_inc_ne _ _ _ (by decide), State.wr64, rd_wr, if_neg (by decide), rd_wr, if_pos rfl, rd_wr, if_pos rfl]
    simp only [BitVec.toNat_ofNat]
    omega

/-- The last of the lines of a consignment stands in place. -/
theorem word_commit {c : Staged} {x : List Word} {i : Nat} (hlast : c.records.getLast? = some x) (hx : x.length = 18)
    (hm : (memOf ((x.headD 0).toNat / 64 * 64)).isSome = true) (hi : i < 16) :
    (s.commit c).word ((x.headD 0).toNat / 64 * 64 + 4 * i) = x.getD (i + 2) 0 := by
  obtain ⟨rs, hrs⟩ : ∃ rs, c.records = rs ++ [x] := List.getLast?_eq_some_iff.mp hlast
  have hlen : (x.drop 2).length = 16 := by rw [List.length_drop, hx]
  rw [word_congr (commit_mem s c), State.linesPlaced, hrs, List.foldl_append, List.foldl_cons, List.foldl_nil,
    word_storeWords (by omega) fun j hj => memOf_line hm (by omega), List.getElem_drop,
    List.getD_eq_getElem _ _ (by omega : i + 2 < x.length)]
  exact getElem_congr_idx (Nat.add_comm 2 i)

/-! ## Commits of what is staged -/

/-- What waits is committed or goes on waiting: what the last consignment is stays known, and reports stay. -/
theorem commitStaged_kept (n : Nat) (s : State) : OnlyFields commitFields s (s.commitStaged n) ∧
    (s.commitStaged n).pr.lastTick = s.pr.lastTick ∧
    ∀ k, (∃ f ∈ s.ft.blocks, f.kind = k) → ∃ f ∈ (s.commitStaged n).ft.blocks, f.kind = k := by
  induction n generalizing s with
  | zero => exact ⟨OnlyFields.refl s, rfl, fun _ => id⟩
  | succ n ih =>
    have hstays : OnlyFields commitFields s s ∧ s.pr.lastTick = s.pr.lastTick ∧
        ∀ k, (∃ f ∈ s.ft.blocks, f.kind = k) → ∃ f ∈ s.ft.blocks, f.kind = k := ⟨OnlyFields.refl s, rfl, fun _ => id⟩
    unfold State.commitStaged
    split
    · exact hstays
    split
    · exact hstays
    · next c cs _ =>
      split
      · exact hstays
      · obtain ⟨hfields, hlast, hkinds⟩ := ih (({ s with pr := { s.pr with staged := cs } } : State).commit c)
        obtain ⟨_, _, _, _, hpr⟩ := commit_pr { s with pr := { s.pr with staged := cs } } c
        exact ⟨((OnlyFields.refl s).upd.trans onlyFields_commit).trans hfields, hlast.trans (by rw [hpr]),
          fun k h => hkinds k (commit_kinds h)⟩

/-- Nothing is staged. -/
def State.unstaged (s : State) : State := { s with pr := { s.pr with staged := [] } }

theorem rd_unstaged (a : Nat) : s.unstaged.rd a = s.rd a := rd_congr rfl a

theorem unstaged_pr (s : State) : s.unstaged.pr.staged = [] ∧ s.unstaged.pr.lastTick = s.pr.lastTick := ⟨rfl, rfl⟩

theorem onlyFields_unstaged : OnlyFields [] s s.unstaged := (OnlyFields.refl s).upd

/-- One consignment that is complete and not held is committed. -/
theorem commits_one {c : Staged} (hrole : s.role = 3) (hreplay : s.pr.replay = none) (hstaged : s.pr.staged = [c])
    (hdone : c.done = true) (hheld : s.replayHolds c.tick = false) :
    s.commits = s.unstaged.commit c := by
  unfold State.commits
  rw [hstaged]
  show s.commitStaged 1 = _
  unfold State.commitStaged
  rw [if_neg (by rw [hrole, hreplay]; simp), hstaged]
  dsimp only
  rw [if_neg (by rw [hdone, hheld]; simp)]
  rfl

/-- One that is not complete waits. -/
theorem commits_waiting {c : Staged} (hstaged : s.pr.staged = [c]) (hdone : c.done = false) : s.commits = s := by
  unfold State.commits
  rw [hstaged]
  show s.commitStaged 1 = s
  unfold State.commitStaged
  split
  · rfl
  · rw [hstaged]
    dsimp only
    rw [if_pos (.inl (by rw [hdone]; rfl))]

/-! ## A message that is staged -/

/-- The consignment with a message more. -/
def Staged.more (c : Staged) (m : List Word) : Staged := { c with next := c.next + 1, msgs := c.msgs ++ [m] }

/-- The consignment after its last message. -/
def Staged.closed (c : Staged) : Staged := { c with done := c.judged, bad := !c.judged }

/-- The words of a message go to the staging buffer after those before it. -/
def State.stageStored (s : State) (c : Staged) (m : List Word) : State :=
  s.storeWords (s.pairBuf 1 + (c.more m).bytes - 4 * m.length) m

theorem unitKept_stageStored (s : State) (c : Staged) (m : List Word) : UnitKept onPair s (s.stageStored c m) :=
  (UnitKept.refl s).storeWords (by decide) (by decide)

theorem stageMore_eq (s : State) (c : Staged) (m : List Word) : s.stageMore c m =
    if c.bad ∨ bitsOf (m.headD 0) 15 0 ≠ c.next then (s, { c with bad := true })
    else if s.g F.PAIR_STAGE_SIZE_SIZE < (c.more m).bytes then
      ((s.flag F.PAIR_STAT_STAGE_FULL true).consignLost c.tick, { c.more m with bad := true, counted := true, msgs := [] })
    else if (m.headD 0).getLsbD 27 then (s.stageStored c m, (c.more m).closed) else (s.stageStored c m, c.more m) := rfl

/-- A message that is next and fits is added, and the last one closes the consignment. -/
theorem stageMore_fits {c : Staged} {m : List Word} (hgood : c.bad = false) (hseq : bitsOf (m.headD 0) 15 0 = c.next)
    (hfits : (c.more m).bytes ≤ s.g F.PAIR_STAGE_SIZE_SIZE) : s.stageMore c m =
      (s.stageStored c m, if (m.headD 0).getLsbD 27 then (c.more m).closed else c.more m) := by
  rw [stageMore_eq, if_neg (by rw [hgood, hseq]; simp), if_neg (Nat.not_lt.mpr hfits)]
  split <;> rfl

/-! ## Consignments lost (R261) -/

/-- The fields that a lost consignment changes. -/
def lostFields : List Fld := [Fld.whole R.PAIR_CNS_LOST, F.PAIR_STAT_LOST] ++ ckptFields

/-- A lost consignment is counted and shown. -/
def State.lossShown (s : State) (r : Nat) : State :=
  ((({ s with pr := { s.pr with passOpen := false } } : State).inc R.PAIR_CNS_LOST).flag F.PAIR_STAT_LOST true).emit
    Kind.consignLost (Src.pair 0) r

theorem consignLost_eq (s : State) (r : Nat) : s.consignLost r = (s.lossShown r).ckptStale := rfl

theorem onlyFields_consignLost {r : Nat} : OnlyFields lostFields s (s.consignLost r) := by
  rw [consignLost_eq]
  exact (((OnlyFields.refl s).upd.inc (by decide)).flag (by decide)).emit.trans
    (onlyFields_ckptStale.mono (List.subset_append_right _ _))

/-- A lost consignment is counted, shown and reported. -/
theorem consignLost_effect (s : State) (r : Nat) :
    ((s.consignLost r).rd R.PAIR_CNS_LOST).toNat = min ((s.rd R.PAIR_CNS_LOST).toNat + 1) (2 ^ 32 - 1) ∧
    (s.consignLost r).g F.PAIR_STAT_LOST = 1 ∧ ∃ f ∈ (s.consignLost r).ft.blocks, f.kind = Kind.consignLost := by
  have hshown : (s.lossShown r).rd R.PAIR_CNS_LOST = (s.inc R.PAIR_CNS_LOST).rd R.PAIR_CNS_LOST := by
    rw [State.lossShown, rd_emit, rd_flag_ne _ _ _ (by decide)]
    rfl
  rw [consignLost_eq]
  refine ⟨?_, ?_, ckptStale_kinds (emit_reports _ _ _ _ _)⟩
  · rw [onlyFields_ckptStale.rd (by decide) (by decide), hshown, rd_inc_self]
  · rw [onlyFields_ckptStale.g _ (by decide) (by decide), State.lossShown, g_emit]
    exact g_flag_self _ _ _ rfl (by decide)

/-- Each of the consignments lost is counted. -/
theorem consignsLost_effect (rs : List Nat) (s : State) :
    ((rs.foldl State.consignLost s).rd R.PAIR_CNS_LOST).toNat = min ((s.rd R.PAIR_CNS_LOST).toNat + rs.length) (2 ^ 32 - 1) ∧
    (rs ≠ [] → (rs.foldl State.consignLost s).g F.PAIR_STAT_LOST = 1 ∧
      ∃ f ∈ (rs.foldl State.consignLost s).ft.blocks, f.kind = Kind.consignLost) := by
  induction rs generalizing s with
  | nil =>
    have := (s.rd R.PAIR_CNS_LOST).isLt
    exact ⟨by simp only [List.foldl_nil, List.length_nil]; omega, fun h => absurd rfl h⟩
  | cons r rs ih =>
    obtain ⟨hcount, hshown, hreport⟩ := consignLost_effect s r
    obtain ⟨hrest, hstands⟩ := ih (s.consignLost r)
    rw [List.foldl_cons]
    refine ⟨?_, fun _ => ?_⟩
    · rw [hrest, hcount, List.length_cons]
      omega
    · by_cases hrs : rs = []
      · subst hrs
        exact ⟨hshown, hreport⟩
      · exact hstands hrs

theorem gapLost_effect (s : State) {t r : Nat} (h : t + 1 < r) :
    ((s.gapLost t r).rd R.PAIR_CNS_LOST).toNat = min ((s.rd R.PAIR_CNS_LOST).toNat + (r - 1 - t)) (2 ^ 32 - 1) ∧
    (s.gapLost t r).g F.PAIR_STAT_LOST = 1 ∧ ∃ f ∈ (s.gapLost t r).ft.blocks, f.kind = Kind.consignLost := by
  obtain ⟨hcount, hstands⟩ := consignsLost_effect ((List.range (r - 1 - t)).map (· + t + 1)) s
  rw [List.length_map, List.length_range] at hcount
  refine ⟨hcount, hstands fun hnil => ?_⟩
  have hlen := congrArg List.length hnil
  rw [List.length_map, List.length_range, List.length_nil] at hlen
  omega

theorem gapLost_none (s : State) {t r : Nat} (h : r ≤ t + 1) : s.gapLost t r = s := by
  unfold State.gapLost
  rw [show r - 1 - t = 0 by omega]
  rfl

theorem onlyFields_gapLost {t r : Nat} : OnlyFields lostFields s (s.gapLost t r) :=
  (OnlyFields.refl s).foldl fun _ _ h => h.trans onlyFields_consignLost

/-! ## The first message of a consignment -/

/-- The tick of a consignment's message. -/
def msgTick (m : List Word) : Nat := (m.getD 1 0).toNat + (m.getD 2 0).toNat * 2 ^ 32

theorem msgTick_lt (m : List Word) : msgTick m < 2 ^ 64 := by
  have hlo := (m.getD 1 0).isLt
  have hhi := (m.getD 2 0).isLt
  unfold msgTick
  omega

theorem headD_eq_getD (m : List Word) : m.headD 0 = m.getD 0 0 := by cases m <;> rfl

/-- The consignments missing before one that does not carry on are lost. -/
def State.gapJudged (s : State) (m : List Word) : State :=
  match s.pr.lastTick with
  | some t => if (m.getD 3 0).getLsbD 31 then s else s.gapLost t (msgTick m)
  | none => s

/-- The partner's signature is taken and compared. -/
def State.sigTaken (s : State) (m : List Word) : State :=
  ({ s.wr R.PAIR_SIG_PEER (m.getD 4 0) with
    pr := { (s.wr R.PAIR_SIG_PEER (m.getD 4 0)).pr with sigPeerValid := (m.getD 3 0).getLsbD 28 } } : State).sigCheck

/-- A consignment of which nothing has come. -/
def Staged.fresh (r : Nat) : Staged := ⟨r, 0, false, false, false, []⟩

/-- Consignment `c` is the one being staged, and `r` is the tick of the last that began. -/
def State.nowStaged (s : State) (c : Staged) (r : Nat) : State :=
  { s with pr := { s.pr with staged := [c], lastTick := some r } }

theorem rd_nowStaged (c : Staged) (r a : Nat) : (s.nowStaged c r).rd a = s.rd a := rd_congr rfl a

theorem nowStaged_pr (s : State) (c : Staged) (r : Nat) : (s.nowStaged c r).pr.staged = [c] ∧
    (s.nowStaged c r).pr.lastTick = some r ∧ (s.nowStaged c r).pr.replay = s.pr.replay := ⟨rfl, rfl, rfl⟩

theorem onlyFields_staged {c : Staged} {r : Nat} : OnlyFields [] s (s.nowStaged c r) := (OnlyFields.refl s).upd

theorem stage_first {m : List Word} (hrole : s.g F.PAIR_STAT_ROLE = 3) (hfirst : (m.getD 0 0).getLsbD 26 = true)
    (hstaged : s.pr.staged = []) : s.stage m =
      (((((s.gapJudged m).sigTaken m).stageMore (Staged.fresh (msgTick m)) m).1).nowStaged
        (((s.gapJudged m).sigTaken m).stageMore (Staged.fresh (msgTick m)) m).2 (msgTick m)).commits := by
  rw [← headD_eq_getD] at hfirst
  have hold : splitStaged s.pr.staged = ([], none) := by rw [hstaged]; rfl
  unfold State.stage
  rw [if_neg (fun h => h hrole)]
  dsimp only
  rw [if_pos hfirst, hold]
  rfl

theorem onlyFields_sigTaken {m : List Word} :
    OnlyFields (Fld.whole R.PAIR_SIG_PEER :: F.PAIR_STAT_CFG_MISMATCH :: ckptFields) s (s.sigTaken m) :=
  ((OnlyFields.refl s).wr List.mem_cons_self).upd.trans (onlyFields_sigCheck.mono (List.subset_cons_self _ _))

theorem rd_sigTaken (m : List Word) : (s.sigTaken m).rd R.PAIR_SIG_PEER = m.getD 4 0 := by
  have hpeer : (s.wr R.PAIR_SIG_PEER (m.getD 4 0)).rd R.PAIR_SIG_PEER = m.getD 4 0 := by rw [rd_wr, if_pos rfl]
  exact (onlyFields_sigCheck.rd (by decide) (by decide)).trans hpeer

theorem sigTaken_pr (s : State) (m : List Word) : ∃ v c, (s.sigTaken m).pr = { s.pr with sigPeerValid := v, passClean := c } := by
  obtain ⟨c, hc⟩ := sigCheck_pr ({ s.wr R.PAIR_SIG_PEER (m.getD 4 0) with
    pr := { (s.wr R.PAIR_SIG_PEER (m.getD 4 0)).pr with sigPeerValid := (m.getD 3 0).getLsbD 28 } })
  exact ⟨_, c, hc⟩

theorem sigCheck_kinds {k : Nat} (h : ∃ f ∈ s.ft.blocks, f.kind = k) : ∃ f ∈ s.sigCheck.ft.blocks, f.kind = k := by
  unfold State.sigCheck
  split
  · split
    · exact h
    · split
      · exact h
      · obtain ⟨f, hf, rfl⟩ := h
        exact ckptStale_kinds (addMsg_kept hf _)
  · exact h

/-! ## Consignments that arrive -/

theorem exec_consignment {p : Fin 8} {e : Env} (ws : List Word)
    (h : s.g (F.NGL_STAT_STATE p) = 6 ∧ s.g F.FAB_ID_VALID = 1 ∧ e.dst = s.g F.FAB_ID_ID) : exec (.consignment p e ws) s =
      .next ((if s.paired then s.stage ws else s).creditBack (some p) 2 (fragsOf ws)) :=
  congrArg Host.Outcome.next (received_of_taken h fun hc => absurd hc (by decide))

/-- The credits that go back leave the device. -/
theorem unitKept_creditBack (s : State) (held : Option Nat) (c n : Nat) : UnitKept (fun _ => True) s (s.creditBack held c n) :=
  (UnitKept.refl s).creditBack

theorem confined_creditBack (s : State) (p c n : Nat) : confined s (s.creditBack (some p) c n) [] := by
  have hsend (o : Out) : confined s (s.send o) [] := by
    unfold State.send
    split
    · exact confined.refl s []
    · exact ⟨fun _ _ => rfl, rfl⟩
  unfold State.creditBack
  dsimp only
  split
  · exact confined.refl s []
  · exact hsend _

/-- A consignment of one message that follows without a gap is committed. -/
structure OneMessage (s : State) (ws : List Word) : Prop where
  role : s.g F.PAIR_STAT_ROLE = 3
  first : (ws.getD 0 0).getLsbD 26 = true
  last : (ws.getD 0 0).getLsbD 27 = true
  seq : bitsOf (ws.getD 0 0) 15 0 = 0
  unheld : msgTick ws % 256 ≠ 0
  agrees : (⟨msgTick ws, 1, false, false, false, [ws]⟩ : Staged).judged = true
  staged : s.pr.staged = []
  replay : s.pr.replay = none
  follows : s.pr.lastTick.all (fun k => decide (msgTick ws ≤ k + 1)) = true ∨ (ws.getD 3 0).getLsbD 31 = true
  fits : 4 * ws.length ≤ s.g F.PAIR_STAGE_SIZE_SIZE

/-- The consignment of one message, as committed. -/
def oneStaged (ws : List Word) : Staged := ((Staged.fresh (msgTick ws)).more ws).closed

theorem oneStaged_done (ws : List Word) :
    (oneStaged ws).done = (⟨msgTick ws, 1, false, false, false, [ws]⟩ : Staged).judged := rfl

theorem oneStaged_tick (ws : List Word) : (oneStaged ws).tick = msgTick ws := rfl

theorem bytes_fresh (r : Nat) (ws : List Word) : ((Staged.fresh r).more ws).bytes = 4 * ws.length := by
  simp [Staged.fresh, Staged.more, Staged.bytes]

/-- What the first message of a consignment does, where it fits: it is staged, and what may be committed is. -/
theorem stage_first_fits {ws : List Word} (hrole : s.g F.PAIR_STAT_ROLE = 3) (hfirst : (ws.getD 0 0).getLsbD 26 = true)
    (hseq : bitsOf (ws.getD 0 0) 15 0 = 0) (hstaged : s.pr.staged = [])
    (hfits : 4 * ws.length ≤ (s.gapJudged ws).g F.PAIR_STAGE_SIZE_SIZE) : s.stage ws =
      ((((s.gapJudged ws).sigTaken ws).stageStored (Staged.fresh (msgTick ws)) ws).nowStaged
        (if (ws.getD 0 0).getLsbD 27 then oneStaged ws else (Staged.fresh (msgTick ws)).more ws) (msgTick ws)).commits := by
  have hroom : ((Staged.fresh (msgTick ws)).more ws).bytes ≤ ((s.gapJudged ws).sigTaken ws).g F.PAIR_STAGE_SIZE_SIZE := by
    rw [bytes_fresh, onlyFields_sigTaken.g _ (by decide) (by decide)]
    exact hfits
  rw [stage_first hrole hfirst hstaged, stageMore_fits rfl (by rw [headD_eq_getD]; exact hseq) hroom, headD_eq_getD]
  rfl

/-- The fields that the first message of a consignment changes before what is staged is committed. -/
def sigFields : List Fld := Fld.whole R.PAIR_SIG_PEER :: F.PAIR_STAT_CFG_MISMATCH :: ckptFields

theorem onlyFields_nowStaged {c k : Staged} {m : List Word} {r : Nat} :
    OnlyFields sigFields s (((s.sigTaken m).stageStored c m).nowStaged k r) :=
  (onlyFields_sigTaken.kept (unitKept_stageStored _ c m)).trans (onlyFields_staged.mono (List.nil_subset _))

namespace OneMessage

variable {ws : List Word} (h : OneMessage s ws)
include h

theorem gapJudged : s.gapJudged ws = s := by
  have hfollows := h.follows
  unfold State.gapJudged
  split
  · next t ht =>
    split
    · rfl
    · next hcarry =>
      rw [ht] at hfollows
      obtain hnext | hc := hfollows
      · rw [Option.all_some, decide_eq_true_eq] at hnext
        exact gapLost_none s hnext
      · exact absurd hc hcarry
  · rfl

/-- It is committed in a state that has taken the partner's signature, and has nothing staged. -/
theorem stage : ∃ z : State, s.stage ws = z.commit (oneStaged ws) ∧ OnlyFields sigFields s z ∧
    z.rd R.PAIR_SIG_PEER = ws.getD 4 0 ∧ z.pr.staged = [] ∧ z.pr.lastTick = some (msgTick ws) := by
  have hstage := stage_first_fits h.role h.first h.seq h.staged (by rw [h.gapJudged]; exact h.fits)
  rw [h.gapJudged, if_pos h.last] at hstage
  have hfields := onlyFields_nowStaged (s := s) (c := Staged.fresh (msgTick ws)) (k := oneStaged ws) (m := ws)
    (r := msgTick ws)
  have hstored := unitKept_stageStored (s.sigTaken ws) (Staged.fresh (msgTick ws)) ws
  obtain ⟨v, c, hpr⟩ := sigTaken_pr s ws
  obtain ⟨hnow, hlast, hreplay⟩ := nowStaged_pr ((s.sigTaken ws).stageStored (Staged.fresh (msgTick ws)) ws) (oneStaged ws)
    (msgTick ws)
  rw [hstored.pr, hpr] at hreplay
  have hheld (u : State) : u.replayHolds (oneStaged ws).tick = false := by
    unfold State.replayHolds
    rw [oneStaged_tick, show (msgTick ws % 256 == 0) = false from beq_false_of_ne h.unheld]
    simp only [Bool.false_and]
  have hcommit := commits_one ((hfields.g F.PAIR_STAT_ROLE (by decide) (by decide)).trans h.role) (hreplay.trans h.replay) hnow
    ((oneStaged_done ws).trans h.agrees) (hheld _)
  obtain ⟨hnone, htick⟩ := unstaged_pr (((s.sigTaken ws).stageStored (Staged.fresh (msgTick ws)) ws).nowStaged (oneStaged ws)
    (msgTick ws))
  refine ⟨_, hstage.trans hcommit, hfields.trans (onlyFields_unstaged.mono (List.nil_subset _)), ?_, hnone, htick.trans hlast⟩
  rw [rd_unstaged, rd_nowStaged, hstored.rd _ (by decide), rd_sigTaken]

end OneMessage

end Sys2Proof.Machine
end

section
/-!
SUPPORT. A consignment that goes on, one after a gap (R261), and the standby's self-test (R274).
-/
namespace Sys2Proof.Machine

variable {s : State}

/-! ## A message between the first and the last -/

/-- Consignment `c` is the one being staged. -/
def State.goesOn (s : State) (c : Staged) : State := { s with pr := { s.pr with staged := [c] } }

theorem goesOn_staged (c : Staged) : (s.goesOn c).pr.staged = [c] := rfl

theorem rd_goesOn (c : Staged) (a : Nat) : (s.goesOn c).rd a = s.rd a := rd_congr rfl a

theorem splitStaged_open {c : Staged} (h : c.done = false) : splitStaged [c] = ([], some c) := by
  show (if c.done then ([c], none) else ([], some c)) = _
  rw [h]
  rfl

theorem stage_next {m : List Word} {c : Staged} (hrole : s.g F.PAIR_STAT_ROLE = 3) (hnext : (m.getD 0 0).getLsbD 26 = false)
    (hstaged : s.pr.staged = [c]) (hopen : c.done = false) (htick : c.tick = msgTick m) :
    s.stage m = ((s.stageMore c m).1.goesOn (s.stageMore c m).2).commits := by
  rw [← headD_eq_getD] at hnext
  rw [msgTick] at htick
  have hold : splitStaged s.pr.staged = ([], some c) := by rw [hstaged, splitStaged_open hopen]
  unfold State.stage
  rw [if_neg (fun h => h hrole)]
  dsimp only
  rw [if_neg (by rw [hnext]; decide), hold]
  dsimp only
  rw [if_pos htick]
  rfl

/-- A message that neither begins nor ends a consignment is added to it. -/
theorem stage_middle {m : List Word} {c : Staged} (hrole : s.g F.PAIR_STAT_ROLE = 3) (hnext : (m.getD 0 0).getLsbD 26 = false)
    (hlast : (m.getD 0 0).getLsbD 27 = false) (hseq : bitsOf (m.getD 0 0) 15 0 = c.next) (htick : c.tick = msgTick m)
    (hstaged : s.pr.staged = [c] ∧ c.done = false ∧ c.bad = false)
    (hfits : (c.more m).bytes ≤ s.g F.PAIR_STAGE_SIZE_SIZE) : s.stage m = (s.stageStored c m).goesOn (c.more m) := by
  obtain ⟨hone, hopen, hgood⟩ := hstaged
  have hmore := stageMore_fits hgood (by rw [headD_eq_getD]; exact hseq) hfits
  rw [headD_eq_getD, if_neg (by rw [hlast]; decide)] at hmore
  rw [stage_next hrole hnext hone hopen htick, hmore]
  exact commits_waiting (goesOn_staged _) hopen

/-! ## A consignment after a gap -/

theorem gapJudged_lost {m : List Word} {k : Nat} (hcarry : (m.getD 3 0).getLsbD 31 = false) (hlast : s.pr.lastTick = some k) :
    s.gapJudged m = s.gapLost k (msgTick m) := by
  unfold State.gapJudged
  rw [hlast]
  exact if_neg (by rw [hcarry]; decide)

theorem sigTaken_kinds {m : List Word} {k : Nat} (h : ∃ f ∈ s.ft.blocks, f.kind = k) :
    ∃ f ∈ (s.sigTaken m).ft.blocks, f.kind = k :=
  sigCheck_kinds (s := { s.wr R.PAIR_SIG_PEER (m.getD 4 0) with
    pr := { (s.wr R.PAIR_SIG_PEER (m.getD 4 0)).pr with sigPeerValid := (m.getD 3 0).getLsbD 28 } }) h

/-- After the judgement of a gap a consignment that begins leaves what is counted and shown of the losses. -/
theorem staged_after_gap (u : State) (m : List Word) (c k : Staged) (r : Nat) :
    OnlyFields (sigFields ++ commitFields) u (((u.sigTaken m).stageStored c m).nowStaged k r).commits ∧
    (((u.sigTaken m).stageStored c m).nowStaged k r).commits.pr.lastTick = some r ∧
    ∀ n, (∃ f ∈ u.ft.blocks, f.kind = n) →
      ∃ f ∈ (((u.sigTaken m).stageStored c m).nowStaged k r).commits.ft.blocks, f.kind = n := by
  have hstored := unitKept_stageStored (u.sigTaken m) c m
  have hnow : OnlyFields sigFields u (((u.sigTaken m).stageStored c m).nowStaged k r) := onlyFields_nowStaged
  obtain ⟨-, htick, -⟩ := nowStaged_pr ((u.sigTaken m).stageStored c m) k r
  obtain ⟨hfields, hlast, hkinds⟩ := commitStaged_kept
    (((u.sigTaken m).stageStored c m).nowStaged k r).pr.staged.length (((u.sigTaken m).stageStored c m).nowStaged k r)
  refine ⟨?_, hlast.trans htick, fun n h => hkinds n (hstored.reported (sigTaken_kinds h))⟩
  exact (hnow.mono (List.subset_append_left _ _)).trans (hfields.mono (List.subset_append_right _ _))

/-! ## The self-test (R274) -/

/-- The cluster that was under test is off again. -/
def State.bistOver (s : State) (c : Nat) : State := ({ s with pr := { s.pr with bist := none } } : State).powerOff c

theorem bistEnd_of_some {c : Nat} (h : s.pr.bist = some c) : s.bistEnd = s.bistOver c := by
  unfold State.bistEnd
  rw [h]
  rfl

/-- The test of a cluster is counted. -/
def State.bistCounted (s : State) (c : Nat) : State := (s.bistOver c).bump F.PAIR_HEALTH_BIST_RUNS 1

/-- The cluster that fails its test is marked. -/
def State.bistMarked (s : State) (c : Nat) (pass : Bool) : State :=
  if pass then s else s.p F.PAIR_HEALTH_BIST_FAIL (s.g F.PAIR_HEALTH_BIST_FAIL ||| 2 ^ c)

theorem exec_standbyBist {c : Nat} {pass : Bool} (hbist : s.pr.bist = some c)
    (h : s.tm.phase = .window ∧ s.g (F.CL_STAT_STATE c) = 2) :
    exec (.standbyBist pass) s = .next ((s.bistCounted c).bistMarked c pass) := by
  show execStandbyBist pass s = _
  unfold execStandbyBist
  rw [hbist]
  dsimp only
  rw [if_pos h, bistEnd_of_some hbist]
  rfl

theorem exec_standbyBist_otherwise {pass : Bool}
    (h : s.tm.phase ≠ .window ∨ s.pr.bist.all (fun c => s.g (F.CL_STAT_STATE c) != 2) = true) :
    exec (.standbyBist pass) s = .next s := by
  show execStandbyBist pass s = _
  unfold execStandbyBist
  cases hb : s.pr.bist with
  | none => rfl
  | some c =>
    refine if_neg fun ⟨hwindow, hawake⟩ => ?_
    rw [hb, Option.all_some, hawake] at h
    exact h.elim (fun h => h hwindow) fun h => absurd h (by decide)

theorem clStat_ne_health (c : Fin 16) : R.CL_STAT c ≠ R.PAIR_HEALTH := by
  unfold R.CL_STAT R.PAIR_HEALTH
  omega

/-- After its test a cluster is off, and the test is counted. -/
theorem bistCounted_effect (s : State) (c : Fin 16) :
    (s.bistCounted c).g F.PAIR_HEALTH_BIST_RUNS = min (s.g F.PAIR_HEALTH_BIST_RUNS + 1) 255 ∧
    (s.bistCounted c).g F.PAIR_HEALTH_BIST_FAIL = s.g F.PAIR_HEALTH_BIST_FAIL ∧
    (s.bistCounted c).g (F.CL_STAT_STATE c) = 0 ∧ (s.bistCounted c).pr.bist = none := by
  have hkept : UnitKept (· = R.PAIR_HEALTH) { s with pr := { s.pr with bist := none } } (s.bistOver c) :=
    (UnitKept.refl _).powerOff (clStat_ne_health c)
  have hoff (f : Fld) (h : f.reg = R.PAIR_HEALTH) : (s.bistOver c).g f = s.g f := hkept.g h
  refine ⟨?_, ?_, ?_, rfl⟩
  · rw [State.bistCounted, g_bump_self _ _ (by decide), hoff _ rfl]
    rfl
  · rw [State.bistCounted, State.bump, g_p_ne _ _ _ _ (.inr (.inr (by decide))) (by decide), hoff _ rfl]
  · rw [State.bistCounted, State.bump, g_p_ne _ _ _ _ (.inl (clStat_ne_health c)) (by simp [F.CL_STAT_STATE])]
    exact g_p_self _ (F.CL_STAT_STATE c) 0 (by simp [F.CL_STAT_STATE])

/-- A mark changes BIST_FAIL alone. -/
theorem bistMarked_ne (c : Nat) (pass : Bool) {f : Fld} (h : f.reg ≠ R.PAIR_HEALTH ∨ f.hi < 16) (h32 : f.hi < 32) :
    (s.bistMarked c pass).g f = s.g f := by
  unfold State.bistMarked
  split
  · rfl
  · exact g_p_ne _ _ _ _ (h.imp_right .inl) h32

theorem bistMarked_pr (c : Nat) (pass : Bool) : (s.bistMarked c pass).pr = s.pr := by
  unfold State.bistMarked
  split <;> rfl

theorem bistMarked_failed (s : State) (c : Fin 16) :
    (s.bistMarked c false).g F.PAIR_HEALTH_BIST_FAIL = s.g F.PAIR_HEALTH_BIST_FAIL ||| 2 ^ (c : Nat) := by
  have hold : s.g F.PAIR_HEALTH_BIST_FAIL < 2 ^ 16 := bitsOf_lt _ _ _
  have hnew : 2 ^ (c : Nat) < 2 ^ 16 := Nat.pow_lt_pow_right (by decide) c.isLt
  exact (g_p_self s F.PAIR_HEALTH_BIST_FAIL _ (by decide)).trans (Nat.mod_eq_of_lt (Nat.or_lt_two_pow hold hnew))

end Sys2Proof.Machine
end

section
namespace Sys2Proof.Machine

/-! ## The Ferry (R255, R258, R259, R261, R262, R273, R274) -/

/-- Settles O32: each clause is the rule of its command, with what a consignment leaves of the standby. -/
theorem ferryKeepsTheCheckpoint : Obligations.FerryKeepsTheCheckpoint := by
  unfold Obligations.FerryKeepsTheCheckpoint
  refine ⟨?_, ?_, ?_, ?_, ?_, ?_, ?_, ?_, ?_, ?_, ?_, ?_, ?_, ?_, ?_, ?_, ?_⟩
  · -- TRACKED_AREA_WRITE of a size
    intro n v s h
    obtain ⟨hrd, hareas, hnew, hregs⟩ := areaWrite_taken (lines := true) h
    have hlines : (s.areaWrite n true v).g (F.PAIR_FT_LINES_LINES n) = bitsOf v 14 0 :=
      (g_of_rd (f := F.PAIR_FT_LINES_LINES n) hrd).trans (fieldWrite_ftLines s n v)
    refine ⟨_, exec_trackedAreaWrite n true v s, (g_ok _ _).trans hlines, (congrArg Pair.areas (ok_pr _)).trans hareas,
      fun hne => ?_, hregs.ok⟩
    rw [ok_pr]
    refine hnew fun hsame => hne ?_
    exact (fieldWrite_ftLines s n v).symm.trans (g_of_rd (f := F.PAIR_FT_LINES_LINES n) hsame)
  · -- TRACKED_AREA_WRITE of a base
    intro n v s h
    obtain ⟨hrd, hareas, hnew, hregs⟩ := areaWrite_taken (lines := false) h
    obtain ⟨hbase, hen⟩ := fieldWrite_ftBase s n v
    refine ⟨_, exec_trackedAreaWrite n false v s, ?_, ?_, (congrArg Pair.areas (ok_pr _)).trans hareas, fun hne => ?_, hregs.ok⟩
    · exact (g_ok _ _).trans ((g_of_rd (f := F.PAIR_FT_BASE_BASE n) hrd).trans hbase)
    · exact (g_ok _ _).trans ((g_of_rd (f := F.PAIR_FT_BASE_EN n) hrd).trans hen)
    · rw [ok_pr]
      refine hnew fun hsame => hne ?_
      exact hbase.symm.trans (g_of_rd (f := F.PAIR_FT_BASE_BASE n) hsame)
  · -- TRACKED_AREA_WRITE refused
    intro n lines v s h
    have hwrite := areaWrite_refused (n := n) h
    have hrd (a : Nat) (ha : a ≠ R.PAIR_STAT) : (s.areaWrite n lines v).ok.rd a = s.rd a := by
      rw [rd_ok, hwrite, rd_flag_ne _ _ _ ha]
    refine ⟨_, exec_trackedAreaWrite n lines v s, ?_, hrd _ ?_, hrd _ ?_, ?_⟩
    · rw [g_ok, hwrite]
      exact g_flag_self _ _ _ rfl (by decide)
    · unfold R.PAIR_FT_BASE R.PAIR_STAT; omega
    · unfold R.PAIR_FT_LINES R.PAIR_STAT; omega
    · rw [hwrite]
      exact ((confined.refl s _).flag List.mem_cons_self).ok
  · -- FORCE_SWEEP
    intro v s h
    obtain ⟨hforced, hnext, hcursor, hsweep⟩ := forceSweep_begins (s := s.replayEnSet (v.getLsbD 1)) h
    have hclear := onlyFields_clearsSuspect (s := (s.replayEnSet (v.getLsbD 1)).forceSweep) (b := v.getLsbD 3)
    obtain ⟨w, hpr⟩ := clearsSuspect_pr (s.replayEnSet (v.getLsbD 1)).forceSweep (v.getLsbD 3)
    have hset (rs : List Nat) (hctl : R.PAIR_CTL ∈ rs) : onlyRegs s (s.replayEnSet (v.getLsbD 1)) rs :=
      (onlyRegs.refl s rs).flag hctl
    refine ⟨_, exec_forceSweep v s, ?_⟩
    rw [pairCtlWrite_forceSweep, ok_pr, hpr]
    refine ⟨hforced, hnext, ?_, ?_, ?_, fun hkeep => ?_, ?_⟩
    · exact (g_ok _ _).trans ((hclear.g _ (by decide) (by decide)).trans hcursor)
    · exact (g_ok _ _).trans ((hclear.g _ (by decide) (by decide)).trans hsweep)
    · rw [g_ok, hclear.g _ (by decide) (by decide), onlyFields_forceSweep.g _ (by decide) (by decide), replayEn_replayEnSet,
        bitsOf_bit]
      cases v.getLsbD 1 <;> rfl
    · rw [hkeep]
      exact (onlyRegs.forceSweep (hset _ (by simp)) (by simp) (by simp)).ok
    · exact (onlyRegs.clearsSuspect (onlyRegs.forceSweep (hset _ (by simp)) (by simp) (by simp)) (by simp) (by simp)).ok
  · -- FORCE_SWEEP during a forced pass
    intro v s h
    have hagain := forceSweep_again (s := s.replayEnSet (v.getLsbD 1)) h
    have hclear := onlyFields_clearsSuspect (s := (s.replayEnSet (v.getLsbD 1)).forceSweep) (b := v.getLsbD 3)
    obtain ⟨w, hpr⟩ := clearsSuspect_pr (s.replayEnSet (v.getLsbD 1)).forceSweep (v.getLsbD 3)
    have hset : onlyRegs s (s.replayEnSet (v.getLsbD 1)) [R.PAIR_CTL] := (onlyRegs.refl s _).flag List.mem_cons_self
    refine ⟨_, exec_forceSweep v s, ?_⟩
    rw [pairCtlWrite_forceSweep, ok_pr, hpr]
    refine ⟨?_, ?_, ?_, fun hkeep => ?_⟩
    · rw [hagain]
      exact h
    · rw [hagain]
    · rw [g_ok, hclear.g _ (by decide) (by decide), hagain]
      exact g_replayEnSet _ (by decide)
    · rw [hkeep, hagain]
      exact hset.upd.ok
  · -- SUSPECT_CLR
    intro v s h
    have hready : ((s.replayEnSet (v.getLsbD 1)).sweepsWhere (v.getLsbD 2)).g F.PAIR_STAT_READY = 3 := by
      rw [onlyFields_sweepsWhere.g _ (by decide) (by decide), g_replayEnSet _ (by decide), h]
    obtain ⟨hcleared, hcount, hwindow⟩ := suspectClear_suspect hready
    refine ⟨_, exec_suspectClr v s, ?_⟩
    rw [pairCtlWrite_suspectClr, g_ok, g_ok, ok_pr]
    refine ⟨hcleared, hcount, hwindow, fun hkeep => ?_⟩
    rw [hkeep]
    exact (onlyRegs.suspectClear ((onlyRegs.refl s _).flag (f := F.PAIR_CTL_REPLAY_EN) (by simp [F.PAIR_CTL_REPLAY_EN]))
      (by simp) (by simp)).ok
  · -- SUSPECT_CLR of a standby that is not SUSPECT
    intro v s h
    have hready : ((s.replayEnSet (v.getLsbD 1)).sweepsWhere (v.getLsbD 2)).g F.PAIR_STAT_READY = s.g F.PAIR_STAT_READY := by
      rw [onlyFields_sweepsWhere.g _ (by decide) (by decide), g_replayEnSet _ (by decide)]
    refine ⟨_, exec_suspectClr v s, ?_⟩
    rw [pairCtlWrite_suspectClr, suspectClear_otherwise (by rw [hready]; exact h), g_ok, ok_pr]
    refine ⟨hready, sweepsWhere_window _ _, fun hkeep => ?_⟩
    rw [hkeep]
    exact ((confined.refl s _).flag List.mem_cons_self).ok
  · -- CONSIGNMENT_SENT
    intro k s h
    have hsent := unitKept_tetherSends (s := s) k.msgs
    refine ⟨_, exec_consignmentSent h, rfl, ?_, ?_, byte_congr (tetherSends_mem k.msgs)⟩
    · rw [rd_inc_self]
      exact congrArg (fun w : Word => min (w.toNat + 1) (2 ^ 32 - 1)) (hsent.rd R.PAIR_CNS_SENT ⟨by decide, by decide⟩)
    · exact (rd_inc_ne _ _ _ (by decide)).trans (hsent.rd R.PAIR_CNS_ABANDON ⟨by decide, by decide⟩)
  · -- CONSIGNMENT_SENT with credit for every message
    intro k s h ⟨hvalid, hactive, hloud⟩ ⟨hempty, hunowned⟩ hcred
    exact ⟨_, exec_consignmentSent h, tetherSends_out ⟨hactive, hloud, hempty, hunowned⟩ hvalid hcred⟩
  · -- CONSIGNMENT_SENT with none in flight
    intro s h
    exact ⟨s, exec_consignmentSent_of_none h, rfl⟩
  · -- CONSIGNMENT of one message
    intro p e ws r s harr ⟨hen, hrole⟩ ⟨hfirst, hlast, hseq⟩ ⟨hr, hunheld⟩ hagrees ⟨hstaged, hreplay, hfollows⟩ hfits
    obtain rfl : r = msgTick ws := hr
    have hone : OneMessage s ws := ⟨hrole, hfirst, hlast, hseq, hunheld, hagrees, hstaged, hreplay, hfollows, hfits⟩
    obtain ⟨z, hz, hfields, hpeer, hnone, htick⟩ := hone.stage
    obtain ⟨hcount, hckpt⟩ := commit_counts z (c := oneStaged ws) (msgTick_lt ws)
    obtain ⟨_, _, _, _, hpr⟩ := commit_pr z (oneStaged ws)
    have hback := unitKept_creditBack (s.stage ws) (some p) 2 (fragsOf ws)
    refine ⟨_, exec_consignment ws harr, ?_⟩
    rw [if_pos (paired_of_en hen), State.rd64, hback.rd _ trivial, hback.rd _ trivial, hback.rd _ trivial, hback.rd _ trivial,
      hback.rd _ trivial, hback.pr, hz, hpr]
    refine ⟨?_, hckpt, ?_, ?_, hnone, htick⟩
    · rw [hcount, hfields.rd (by decide) (by decide)]
    · exact (onlyFields_commit.rd (by decide) (by decide)).trans hpeer
    · exact (onlyFields_commit.rd (by decide) (by decide)).trans (hfields.rd (by decide) (by decide))
  · -- CONSIGNMENT of one message puts its lines in place
    intro p e ws x r i s harr ⟨hen, hrole⟩ ⟨hfirst, hlast, hseq⟩ ⟨hr, hunheld⟩ hagrees ⟨hstaged, hreplay, hfollows⟩ hfits
      ⟨hx, hlen, hm⟩
    obtain rfl : r = msgTick ws := hr
    have hone : OneMessage s ws := ⟨hrole, hfirst, hlast, hseq, hunheld, hagrees, hstaged, hreplay, hfollows, hfits⟩
    obtain ⟨z, hz, -⟩ := hone.stage
    have hrecords : (oneStaged ws).records = msgRecords ws := List.append_nil _
    refine ⟨_, exec_consignment ws harr, ?_⟩
    rw [if_pos (paired_of_en hen), word_congr (creditBack_mem _ _ _), hz]
    exact word_commit (hrecords ▸ hx) hlen hm i.isLt
  · -- CONSIGNMENT, a message between the first and the last
    intro p e ws c s harr ⟨hen, hrole⟩ ⟨hnext, hlast, hseq⟩ htick hstaged hfits
    have hstage := stage_middle hrole hnext hlast hseq htick hstaged hfits
    have hstored := unitKept_stageStored s c ws
    have hback := unitKept_creditBack (s.stage ws) (some p) 2 (fragsOf ws)
    refine ⟨_, exec_consignment ws harr, ?_⟩
    rw [if_pos (paired_of_en hen), hback.rd _ trivial, hback.rd _ trivial, hback.pr, hstage, rd_goesOn, rd_goesOn]
    exact ⟨goesOn_staged _, hstored.rd _ (by decide), hstored.rd _ (by decide)⟩
  · -- CONSIGNMENT after a gap
    intro p e ws k r s harr ⟨hen, hrole⟩ ⟨hfirst, hseq, hcarry⟩ hr ⟨hstaged, hlast, hgap⟩ hfits
    obtain rfl : r = msgTick ws := hr
    have hjudged := gapJudged_lost hcarry hlast
    have hroom : 4 * ws.length ≤ (s.gapJudged ws).g F.PAIR_STAGE_SIZE_SIZE := by
      rw [hjudged, onlyFields_gapLost.g _ (by decide) (by decide)]
      exact hfits
    have hstage := stage_first_fits hrole hfirst hseq hstaged hroom
    rw [hjudged] at hstage
    obtain ⟨hcount, hshown, hreport⟩ := gapLost_effect s hgap
    obtain ⟨hfields, htick, hkinds⟩ := staged_after_gap (s.gapLost k (msgTick ws)) ws (Staged.fresh (msgTick ws))
      (if (ws.getD 0 0).getLsbD 27 then oneStaged ws else (Staged.fresh (msgTick ws)).more ws) (msgTick ws)
    have hback := unitKept_creditBack (s.stage ws) (some p) 2 (fragsOf ws)
    refine ⟨_, exec_consignment ws harr, ?_⟩
    rw [if_pos (paired_of_en hen), hback.rd _ trivial, hback.g trivial, hback.pr]
    refine ⟨?_, ?_, hback.reported ?_, ?_⟩
    · rw [hstage, hfields.rd (by decide) (by decide), hcount]
    · rw [hstage, hfields.g _ (by decide) (by decide), hshown]
    · rw [hstage]
      exact hkinds _ hreport
    · rw [hstage, htick]
  · -- CONSIGNMENT at a device that is not a standby
    intro p e ws s harr h
    have hdrops : (if s.paired then s.stage ws else s) = s := by
      obtain hun | hrole := h
      · rw [unpaired_of_en hun]
        rfl
      · rw [show s.stage ws = s from if_pos hrole, ite_self]
    refine ⟨_, exec_consignment ws harr, ?_⟩
    rw [hdrops]
    exact confined_creditBack s p 2 (fragsOf ws)
  · -- STANDBY_BIST
    intro c pass s hbist h
    obtain ⟨hruns, hfail, hoff, hover⟩ := bistCounted_effect s c
    refine ⟨_, exec_standbyBist hbist h, ?_, ?_, ?_, fun hp => ?_, fun hp => ?_⟩
    · rw [bistMarked_ne _ _ (.inr (by decide)) (by decide), hruns]
    · rw [bistMarked_pr, hover]
    · rw [bistMarked_ne _ _ (.inl (clStat_ne_health c)) (by simp [F.CL_STAT_STATE]), hoff]
    · rw [hp]
      exact hfail
    · rw [hp, bistMarked_failed, hfail]
  · -- STANDBY_BIST outside the window, with no cluster under test, or before it is awake
    intro pass s h
    exact ⟨s, exec_standbyBist_otherwise h, rfl⟩

end Sys2Proof.Machine
end
